-- ==== Sys2Proof/Word.lean ====
section
/-! DEFINITION. The word types of the device: register words, bytes and the signed reading of a field. -/

namespace Sys2Proof

/-- One 32-bit register, matrix or data word (R10, R625). -/
abbrev Word := BitVec 32

/-- One byte of a byte-addressed memory (cellar, NOR flash, OTP, data memory). -/
abbrev Byte := BitVec 8

end Sys2Proof
end

