-- ==== Sys2Proof/Data.lean ====
section
/-! DEFINITION. Data that both commands and the state carry: route changes and their plan groups, staged sets of heads, runs and
paths of reservations, and catch-up images. -/

namespace Sys2Proof.Machine

/-- One change that an accepted entry makes when it lands (Table 07-2, R255, R386). -/
inductive Change where
  /-- A route of a source of `width` quarter-slots. -/
  | route (dst src width : Nat)
  /-- The destination loses its route. -/
  | clear (dst : Nat)
  /-- An audio map change with its fade time in tenths of a ms. -/
  | audio (adst asrc fade : Nat)
  /-- The mask of one output quarter-slot, by the entry of this index: a SLOTM entry makes several (R261). -/
  | mask (id : Nat) (on : Bool) (entry : Nat)
  deriving DecidableEq, Repr

/-- The entries of one operation for one plan, with the switch line they land on (R257). -/
structure PlanGroup where
  plan : Nat
  frame : Nat
  line : Nat
  /-- Instant at which the operation retired: operations land in that order on one switch line (R262). -/
  retired : Nat
  changes : List Change
  deriving DecidableEq, Repr

/-- One layer of a staged set: MVH_LSRC, LCROP, LCSIZE, LDPOS, LDSIZE, LCTRL, LFENCE_N and LFENCE_V. -/
structure LayerH where
  src : Word
  crop : Word
  csize : Word
  dpos : Word
  dsize : Word
  ctrl : Word
  fence : Word
  value : Word
  deriving DecidableEq, Repr

/-- A commit (R480): its SEQ, its instant C, MVH_STAGE, MVH_BG, MVH_NOSIG and the palette, and its eight layers. -/
structure SetH where
  seq : Nat
  at_ : Nat
  globals : List Word
  layers : List LayerH
  deriving DecidableEq, Repr

/-- One hop of a reservation's path (R567): the sending device and its trellis, the receiving device and its trellis, and
the first slot of the run. -/
structure HopH where
  src : Nat
  out : Nat
  dst : Nat
  inn : Nat
  slot : Nat
  slots : Nat
  deriving DecidableEq, Repr

/-- A run of a reservation in this device (R567): its incoming trellis and first slot, its outgoing trellis and first slot, and its
slots. Trellis 0x3F: the run begins or ends here. -/
structure RunH where
  inn : Nat
  inSlot : Nat
  out : Nat
  outSlot : Nat
  slots : Nat
  deriving DecidableEq, Repr

/-- Flags of a racker (Table 07-1). -/
structure RckFlags where
  z : Bool := false
  n : Bool := false
  c : Bool := false
  v : Bool := false
  deriving DecidableEq, Repr

/-- Registers of a halted racker that are no registers of BAR0 (Table 07-1). -/
structure RackerImage where
  racker : Nat
  flags : RckFlags
  lnk : Nat
  planSel : Nat
  trapInfo : Nat
  deriving DecidableEq, Repr

/-- The displayed set, the pending commit and the held states of a head, and its LUT entries. -/
structure HeadImage where
  head : Nat
  shown : Option SetH
  pending : Option SetH
  held : List (Nat × LayerH)
  lut : List (Nat × Nat)
  deriving DecidableEq, Repr

/-- The state that a claim holder captures for catch-up (R548), or a part of it: words of registers and memories that differ
from reset, output quarter-slots that are masked, registers of halted rackers, heads, classifier entries, frame numbers of the plans, and the running
rackers (bit r). -/
structure Image where
  words : List (Nat × Word) := []
  masked : List Nat := []
  rackers : List RackerImage := []
  heads : List HeadImage := []
  classifier : List (Nat × List Nat) := []
  frames : List Nat := []
  running : Nat := 0
  deriving DecidableEq, Repr

end Sys2Proof.Machine
end

