-- ==== Sys2Proof/Syntax.lean ====
section
/-! DEFINITION. The commands of the block: one constructor for each row of spec/opcode_table.json. A row that is a
register access carries the master that makes it (R631) and the value; a row that reports what the surroundings do carries
what they do; indices are bounded by their types. -/

namespace Sys2Proof

/-- A command. -/
inductive Instr where
  /-- VIN_VALID (R25): VIN has stayed between 11.2 V and 13.2 V for 1 ms, which defines t0, releases a VIN-caused reset and samples the straps. -/
  | vinValid (mv : Nat) (devAddr : Fin 32) (side : Fin 2)
  /-- VIN_WARN (R26): VIN stays below the warning threshold for 100 µs, so VIN_WARN is set and ALERT_N is asserted. -/
  | vinWarn (mv : Nat)
  /-- VIN_FAULT (R27): VIN stays below the fault threshold, or above 13.2 V, for 10 µs, and the device enters device reset. -/
  | vinFault (mv : Nat)
  /-- TOP_RESET_KEY (R32): A write of 0xD1CE to TOP_RESET causes device reset with cause 3. -/
  | topResetKey (m : Fin 22) (key : Word)
  /-- REGULATOR_FAULT (R30): A switched-domain rail is more than 8 % off nominal for 50 µs, or overcurrent is reported, so the domain is powered down and a trigger is raised. -/
  | regulatorFault (idx : Fin 96)
  /-- ALWAYS_ON_REGULATOR_FAULT (R31): A regulator fault on an always-on rail causes device reset with cause 4. -/
  | alwaysOnRegulatorFault
  /-- PWR_DOM_REQ_WRITE (R40): A write to PWR_DOM_REQ requests domains, and a forbidden power-down is refused and recorded in PWR_DOM_ERR. -/
  | pwrDomReqWrite (m : Fin 22) (k : Fin 3) (v : Word)
  /-- DOMAIN_READY (R37): An effectively requested domain completes power-up and sets its PWR_DOM_STAT bit. -/
  | domainReady (idx : Fin 96)
  /-- DOMAIN_STOP (R38): A domain that is no longer effectively requested stops carrying signal at the next line boundary of each affected output's plan. -/
  | domainStop (idx : Fin 96)
  /-- SHED_RISE (R42): The hottest die sensor reaches a shed entry threshold, so the shed level rises and the domains of Table 02-3 are shed. -/
  | shedRise
  /-- SHED_FALL (R42): The hottest sensor has stayed below the level's threshold minus HYST for HOLD seconds, so the shed level falls by one. -/
  | shedFall
  /-- THERMAL_CRITICAL (R44): A die or HBM sensor has been at or above its critical limit for 1 ms, which raises a self-diagnosis trigger. -/
  | thermalCritical (idx : Fin 36)
  /-- PWR_VIN_THR_WRITE (R28): A write of the VIN thresholds is clamped, and the warning threshold is raised to fault + 100 mV if needed. -/
  | pwrVinThrWrite (m : Fin 22) (v : Word)
  /-- PWR_SHED_THR_WRITE (R66): A write of the shed thresholds is ignored unless the values strictly increase and CRIT is at most 115. -/
  | pwrShedThrWrite (m : Fin 22) (v : Word)
  /-- RAILS_UP (R46): The internal rails come up, and the milestone time is recorded in TOP_BOOT_T(0). -/
  | railsUp
  /-- OTP_LOADED (R614): The device reads the OTP and takes every OTP reset value and the boot record in force. -/
  | otpLoaded
  /-- BAND_SEARCHES_DONE (R236): The PLL band searches are done, and forwarded clocks and transmitters start on their fixed presets. -/
  | bandSearchesDone (bands : List (Fin 256))
  /-- T_USE (R47): The device enters DEFAULT with the identity map or the OTP boot map in pass-through and sets TOP_STATUS.USE. -/
  | tUse
  /-- DEFAULT_LEFT (R53): At the first PLAN0 frame boundary after MGT_READY, the device moves to SOLO, ACTIVE or STANDBY, and the AUTOSTART rackers start. -/
  | defaultLeft
  /-- CELLAR_TRAINED (R51): Cellar training completes and sets CELLAR_READY. -/
  | cellarTrained
  /-- CELLAR_TRAINING_FAIL (R51): Cellar training fails, so CELLAR_READY stays 0, the event is logged and cellar requests are refused. -/
  | cellarTrainingFail
  /-- FREEZE (R55): TOP_CTRL.FREEZE moves the device to FROZEN and records FRZ_RET. -/
  | freeze (m : Fin 22)
  /-- THAW (R55): TOP_CTRL.THAW requests the exit from FROZEN at the next PLAN0 frame boundary. -/
  | thaw (m : Fin 22)
  /-- THAW_APPLY (R58): At the boundary, the device returns to FRZ_RET and the AUTOSTART rackers start. -/
  | thawApply
  /-- DIAG (R55): TOP_CTRL.DIAG requests DIAGNOSTIC, and the request is ignored with REQ_ERR where Table 02-4 does not allow it. -/
  | diag (m : Fin 22)
  /-- QUIESCE (R62): TOP_CTRL.QUIESCE sets mode 10 and starts the orderly stop. -/
  | quiesce (m : Fin 22)
  /-- QUIESCE_B1 (R62): At B1, the rackers halt, TAKEs are refused, the books close, a checkpoint is written and the claim and token are released. -/
  | quiesceB1
  /-- QUIESCE_TX_END (R64): At the end of the period of R63, the transmitters idle, the log is flushed, the switched domains except 94 power down and QUIESCED is set. -/
  | quiesceTxEnd
  /-- REJOIN (R59): TOP_CTRL.REJOIN moves a RELINQUISHED device to STANDBY when the cause has cleared and the twin is ACTIVE, and is otherwise ignored. -/
  | rejoin (m : Fin 22)
  /-- ISOLATED_ENTRY (R565): A member that cannot reach a conductor or candidate for 3 PLAN0 frames enters ISOLATED and records ISO_RET. -/
  | isolatedEntry
  /-- PRESET_APPLY (R70): A written equaliser preset takes effect at the next lane frame boundary. -/
  | presetApply (n : Fin 37) (rx : Bool)
  /-- ADAPT_STEP (R71): In UP, the receiver adapts its DFE taps, gain and sampling phase by one bounded step. -/
  | adaptStep (n : Fin 37) (l : Fin 8) (q : Fin 8) (up : Bool)
  /-- FCLK_DETECTED (R89): The forwarded clock becomes present and within frequency, and the receive direction moves to DLL_LOCK. -/
  | fclkDetected (n : Fin 37)
  /-- DLL_LOCKED (R89): The DLL locks, and the receive direction moves to PHASE. -/
  | dllLocked (n : Fin 37)
  /-- DLL_LOCK_TIMEOUT (R89): After 200 µs without lock, the direction returns to WAIT_CLK and counts a retry. -/
  | dllLockTimeout (n : Fin 37)
  /-- PHASE_SETTLED (R89): Every lane settles at the centre of its widest eye, and the direction moves to ALIGN. -/
  | phaseSettled (n : Fin 37) (phases : List (Fin 64))
  /-- PHASE_SWEEP_TIMEOUT (R89): After 5 ms in PHASE, the sweep restarts. -/
  | phaseSweepTimeout (n : Fin 37)
  /-- COMMA_ALIGNED (R89): Every lane has found the comma at the same group phase in 4 lane frames, and the direction moves to DESKEW. -/
  | commaAligned (n : Fin 37)
  /-- ALIGN_TIMEOUT (R89): After 200 µs in ALIGN, the direction returns to PHASE. -/
  | alignTimeout (n : Fin 37)
  /-- DESKEW_DONE (R91): The lanes are aligned by LANE_MARK, and the direction enters UP and records TRL_UP_TS. -/
  | deskewDone (n : Fin 37) (ids : List (Fin 8)) (skews : List (Fin 257)) (last : List (Fin 4))
  /-- DESKEW_TIMEOUT (R89): After 100 µs in DESKEW, the direction returns to PHASE, with LANE_ID_ERR or DESKEW_ERR where they apply. -/
  | deskewTimeout (n : Fin 37) (ids : List (Fin 8)) (skews : List Nat)
  /-- FCLK_STOP (R96): No forwarded-clock transition for 64 cycles causes loss. -/
  | fclkStop (n : Fin 37)
  /-- DLL_LOSS_OF_LOCK (R96): The DLL reports loss of lock, which causes loss. -/
  | dllLossOfLock (n : Fin 37)
  /-- FCLK_FREQ_ERROR (R96): The forwarded clock is more than ±50 ppm off over 10 µs, which causes loss and sets FREQ_ERR. -/
  | fclkFreqError (n : Fin 37)
  /-- LANE_OFF_RECEIVED (R96): LANE_OFF is received on a lane, which causes loss and sets LANE_OFF_RX. -/
  | laneOffReceived (n : Fin 37)
  /-- COMMA_MISSED (R92): A lane misses the comma in 4 consecutive lane frames, which causes loss. -/
  | commaMissed (n : Fin 37)
  /-- TX_ACTIVATE (R95): A transmitter becomes active and starts its forwarded clock and lane frames from a clean state. -/
  | txActivate (n : Fin 37)
  /-- TX_DEACTIVATE (R94): A transmitter becomes inactive, sends LANE_OFF on every lane, stops its forwarded clock and idles. -/
  | txDeactivate (n : Fin 37)
  /-- TRELLIS_MODE_WRITE (R99): A write of TRL_CFG.MODE is refused if it would make a ninth trunk or names mode 3, and is otherwise staged. -/
  | trellisModeWrite (m : Fin 22) (n : Fin 37) (mode : Fin 4)
  /-- TRELLIS_MODE_CHANGE (R101): At the next lane frame boundary, both directions restart their mode framing in the new mode. -/
  | trellisModeChange (n : Fin 37)
  /-- INJECT (R107): A write of TRL_LANE_INJ.INJECT injects one bit or symbol error under INJ_MODE 1 or 3. -/
  | inject (m : Fin 22) (n : Fin 37) (l : Fin 8)
  /-- CHECKER_LOCK (R106): A PRBS checker predicts 128 consecutive bits correctly and sets CHK_LOCK. -/
  | checkerLock (n : Fin 37) (l : Fin 8) (bits : List Nat)
  /-- CHECKER_LOSE_LOCK (R106): More than 512 of 4,096 bits are in error, so the checker loses lock and reseeds. -/
  | checkerLoseLock (n : Fin 37) (l : Fin 8) (bits errs recent : Nat)
  /-- LANE_COUNTER_READ (R109): A read of an _LO bit counter returns its low bits, latches the high bits and clears the counter. -/
  | laneCounterRead (m : Fin 22) (n : Fin 37) (l : Fin 8) (errs : Bool)
  /-- COUNTER_READ (R10): A read of a saturating RS counter returns its value and clears it. -/
  | counterRead (m : Fin 22) (addr len : Nat)
  /-- BLOCK_SENT (R114): A container or Onhan block is sent with its header, timing or identity word, claim, maps and descriptors. -/
  | blockSent (n : Fin 37) (due : List (Nat × Nat × Nat × Nat))
  /-- BLOCK_RECEIVED (R141): A received block is framed and checked, and its header, maps and payload areas are taken. -/
  | blockReceived (n : Fin 37) (symbols : List (List (Fin 4))) (skews : List Nat) (lines : List (Nat × Nat))
  /-- FRAMING_LOST (R141): Four consecutive bad blocks return framing to SEARCH. -/
  | framingLost (n : Fin 36) (missing : Nat)
  /-- NO_FRAMING (R143): After 4 superblocks in UP without LOCKED, NO_FRAMING is set. -/
  | noFraming (n : Fin 36)
  /-- REF_CLASSIFIED (R160): A REF clock measured over 1 ms is classified, or left absent. -/
  | refClassified (c : Fin 2) (hz : Nat)
  /-- FRAME_MARKER (R165): A frame marker is received and judged valid or invalid, which gives a reference frame start. -/
  | frameMarker (c : Fin 2) (idle : Nat) (levels : List Bool)
  /-- MARKER_TIMEOUT (R166): Three frame periods pass without a valid marker, so the candidate is lost or becomes frequency-only. -/
  | markerTimeout (c : Fin 2)
  /-- REF_GLITCH (R171): A REF clock period more than 10 % off is ignored and counted, and the third glitch within 1 s is a loss. -/
  | refGlitch (c : Fin 2) (ps : Nat)
  /-- REF_CLOCK_LOST (R171): No REF edge for 4 periods loses the candidate. -/
  | refClockLost (c : Fin 2) (ps : Nat)
  /-- CANDIDATE_PRESENT (R172): A candidate becomes present and starts QUALIFYING, flagging a rate change where it applies. -/
  | candidatePresent (c : Fin 6)
  /-- DRIFT_MONITOR_UPDATE (R167): The once-a-second drift update recomputes offsets, tolerance, majorities and selection. -/
  | driftMonitorUpdate (meas : List Int)
  /-- QUALIFIED (R170): A candidate has been within tolerance and not outvoted for QUAL and becomes QUALIFIED. -/
  | qualified (c : Fin 6)
  /-- DISQUALIFIED (R170): A candidate that has been SUSPECT for DISQ becomes DISQUALIFIED. -/
  | disqualified (c : Fin 6)
  /-- BANDWIDTH_STEP (R182): The loop bandwidth narrows along the schedule of the class. -/
  | bandwidthStep
  /-- HAND_OFF (R185): The frequency error has been within 20 ppb for 2 s, so FREQ_ACQ is set, the build-out is stored and plans take their phase error. -/
  | handOff (freq : Nat) (b : Int)
  /-- DPLL_LOCKED (R183): The lock criteria have held for 2 s, and the DPLL enters LOCKED. -/
  | dpllLocked (freq : Nat) (phase : Nat)
  /-- DPLL_UNLOCK (R181): The phase error has been outside ±1 µs for 1 s, and the DPLL returns to ACQUIRING. -/
  | dpllUnlock (phase : Nat)
  /-- HOLDOVER_EXPIRED (R188): The time in HOLDOVER reaches VALID_MIN, so the DPLL enters LOST. -/
  | holdoverExpired
  /-- PLAN_CONFIG_WRITE (R201): A write of PLN_CFG is refused, applied, or staged as a format or rate change, replacing or cancelling an earlier change. -/
  | planConfigWrite (m : Fin 22) (p : Fin 8) (v : Word)
  /-- POOL_CLAIM (R217): A waiting staged change claims a synthesiser that has come free in the pool. -/
  | poolClaim (p : Fin 8)
  /-- SYNTH_READY (R216): A claimed synthesiser completes its path to the new word, and the new timebase is ready. -/
  | synthReady (p : Fin 8)
  /-- BRIDGE_FRAME (R201): The old timing ends at B, and the bridge frame begins. -/
  | bridgeFrame (p : Fin 8)
  /-- NEW_TIMING (R201): The new timing begins at A, the plan clock moves to the claimed synthesiser, and the old one joins the pool. -/
  | newTiming (p : Fin 8)
  /-- PLAN_ALIGN_WRITE (R196): A write of PLN_ALIGN makes a phase-related plan take its phase error under its policy. -/
  | planAlignWrite (m : Fin 22) (p : Fin 8) (v : Word)
  /-- POLICY_CHANGE (R199): A change of POLICY applies the new policy to the remaining error. -/
  | policyChange (m : Fin 22) (p : Fin 8) (policy : Fin 4)
  /-- JUMP_NOW (R198): A write of JUMP_NOW decides a JUMP frame for the plan's current error. -/
  | jumpNow (m : Fin 22) (p : Fin 8)
  /-- JUMP_FRAME (R197): The decided JUMP frame runs, cut short or extended, and is recorded. -/
  | jumpFrame (p : Fin 8)
  /-- SLEW_DONE (R196): The plan's phase error reaches 0 ±1 ns, and SLEWING clears. -/
  | slewDone (p : Fin 8)
  /-- PLAN_ENABLE (R205): A plan is enabled, claiming a synthesiser where it needs one. -/
  | planEnable (m : Fin 22) (p : Fin 8)
  /-- PLAN_START (R679): An enabled plan starts at its phase target, or at once, and continues its frame count. -/
  | planStart (p : Fin 8)
  /-- PLAN_STOP (R205): A disabled plan stops at its next frame boundary, cancelling a staged change that has not begun. -/
  | planStop (p : Fin 8)
  /-- SEED_WRITE (R210): A seed write reloads the dither LFSR at the next reference cycle. -/
  | seedWrite (m : Fin 22) (idx : Fin 53) (seed : Fin 65536)
  /-- FLUSH (R223): SYN_PLL_CTRL.FLUSH invalidates the band cache. -/
  | flush (m : Fin 22) (idx : Fin 53)
  /-- RELOCK (R231): SYN_PLL_CTRL.RELOCK moves the domains of a logic or pool PLL to the safe clock and relocks the PLL. -/
  | relock (m : Fin 22) (idx : Fin 53)
  /-- BAND_SEARCH_DONE (R221): A band search completes and writes a cache entry. -/
  | bandSearchDone (idx : Fin 53) (band : Fin 256) (found : Bool)
  /-- RAMP_UPDATE (R225): The ramp generator updates the frequency word by at most one step. -/
  | rampUpdate (idx : Fin 53) (loop : Int)
  /-- PLAN_SYNTH_UNLOCK (R219): A serving plan synthesiser loses lock, so its gate closes and the clock is restored on a pool synthesiser. -/
  | planSynthUnlock (k : Fin 10)
  /-- LANE_PLL_UNLOCK (R235): A lane PLL loses lock, so the trellis pair domain counts as not ready. -/
  | lanePllUnlock (n : Fin 37)
  /-- LOGIC_PLL_UNLOCK (R231): A logic PLL loses lock, and its domains move to the safe clock while it relocks. -/
  | logicPllUnlock (k : Fin 5)
  /-- SAFE_CLOCK_RETURN (R231): The PLL has held lock for 64 µs, so the domains switch back to it. -/
  | safeClockReturn (k : Fin 5)
  /-- START (R285): RCK_CTRL.START requests a racker start at a PLAN0 frame boundary. -/
  | start (m : Fin 22) (r : Fin 16)
  /-- RACKER_STARTS (R285): At the boundary, the racker resets its state, increments EPOCH and begins at ENTRY. -/
  | rackerStarts (r : Fin 16)
  /-- RESUME (R287): RCK_CTRL.RESUME continues a halted racker from RCK_PC at a PLAN0 frame boundary. -/
  | resume (m : Fin 22) (r : Fin 16)
  /-- HALT (R287): RCK_CTRL.HALT stops the racker at the next instruction boundary, abandoning a wait. -/
  | halt (m : Fin 22) (r : Fin 16)
  /-- STEP (R287): RCK_CTRL.STEP executes one instruction of a halted racker from a PLAN0 frame boundary. -/
  | step (m : Fin 22) (r : Fin 16)
  /-- PROGRAM_MEMORY_WRITE (R288): A host write to program memory takes effect only while the racker is halted in an allowed mode, and is otherwise ignored. -/
  | programMemoryWrite (m : Fin 22) (r : Fin 16) (w : Fin 16384) (v : Word)
  /-- OWNERSHIP_WRITE (R288): Writes to the ownership tables take effect only in DEFAULT or FROZEN. -/
  | ownershipWrite (m : Fin 22) (k : Fin 1932) (v : Word)
  /-- FENCE_WRITE (R281): A host write to a renderer fence stores only a forward value. -/
  | fenceWrite (m : Fin 22) (n : Fin 256) (v : Word)
  /-- HOST_LEASE (R272): A host request through RCK_LEASE_REQ to take or renew a lease. -/
  | hostLease (m : Fin 22) (id : Fin 256) (dur : Fin 65536) (prio : Fin 8)
  /-- HOST_FREE (R274): A host request through RCK_LEASE_REQ with FREE set to release a lease. -/
  | hostFree (m : Fin 22) (id : Fin 256) (prio : Fin 8)
  /-- LEASE_LAPSE (R273): A lease reaches its expiry frame and is reclaimed, and the former holder's LEASE_LAPSE event is set. -/
  | leaseLapse (idx : Fin 256)
  /-- LEASE_TIMEOUT (R275): A fabric lease request gets no conductor answer in 3 PLAN0 frames and returns BUSY. -/
  | leaseTimeout (who : Fin 17)
  /-- GPI_CHANGE (R660): A GPI level qualifies after 10 samples. -/
  | gpiChange (k : Fin 16) (level : Bool)
  /-- GPI_APPLIED (R279): Qualified GPI values are applied to the rackers at the application point, setting their events. -/
  | gpiApplied
  /-- PROGRAM_TIME_READ (R242): A read of RCK_PT_F returns the PLAN0 frame of P and latches its line and sample. -/
  | programTimeRead (m : Fin 22) (r : Fin 16)
  /-- ADD (R298): rd ← ra + rb. -/
  | add (r : Fin 16)
  /-- SUB (R298): rd ← ra − rb. -/
  | sub (r : Fin 16)
  /-- AND (R298): rd ← ra AND rb. -/
  | and (r : Fin 16)
  /-- OR (R298): rd ← ra OR rb. -/
  | or (r : Fin 16)
  /-- XOR (R298): rd ← ra XOR rb. -/
  | xor (r : Fin 16)
  /-- SHL (R298): Logical shift left by a register count. -/
  | shl (r : Fin 16)
  /-- SHR (R298): Logical shift right by a register count. -/
  | shr (r : Fin 16)
  /-- SAR (R298): Arithmetic shift right by a register count. -/
  | sar (r : Fin 16)
  /-- MUL (R298): Low 32 bits of ra × rb. -/
  | mul (r : Fin 16)
  /-- CMP (R298): Compares two registers and sets the flags. -/
  | cmp (r : Fin 16)
  /-- ADDI (R298): Adds a sign-extended immediate. -/
  | addi (r : Fin 16)
  /-- ANDI (R298): AND with a zero-extended immediate. -/
  | andi (r : Fin 16)
  /-- ORI (R298): OR with a zero-extended immediate. -/
  | ori (r : Fin 16)
  /-- XORI (R298): XOR with a zero-extended immediate. -/
  | xori (r : Fin 16)
  /-- SHLI (R298): Shift left by an immediate count. -/
  | shli (r : Fin 16)
  /-- SHRI (R298): Logical shift right by an immediate count. -/
  | shri (r : Fin 16)
  /-- SARI (R298): Arithmetic shift right by an immediate count. -/
  | sari (r : Fin 16)
  /-- CMPI (R298): Compares a register with an immediate. -/
  | cmpi (r : Fin 16)
  /-- MOVI (R298): Loads a sign-extended immediate. -/
  | movi (r : Fin 16)
  /-- LUI (R298): Loads an immediate into the upper half. -/
  | lui (r : Fin 16)
  /-- LDW (R302): Loads a data-memory word, trapping on misalignment or range. -/
  | ldw (r : Fin 16) (ecc : Bool)
  /-- STW (R302): Stores a data-memory word. -/
  | stw (r : Fin 16) (ecc : Bool)
  /-- LDB (R302): Loads a data-memory byte. -/
  | ldb (r : Fin 16) (ecc : Bool)
  /-- STB (R302): Stores a data-memory byte. -/
  | stb (r : Fin 16) (ecc : Bool)
  /-- SLD (R303): Loads a whole salvo entry into a register pair. -/
  | sld (r : Fin 16)
  /-- SST (R303): Stores a register pair into a salvo entry in one access. -/
  | sst (r : Fin 16)
  /-- MLD (R304): Reads a BAR0 word through the control matrix as master M3 + r. -/
  | mld (r : Fin 16)
  /-- MST (R304): Writes a BAR0 word through the control matrix as master M3 + r. -/
  | mst (r : Fin 16)
  /-- MFS (R307): Reads a special register or view. -/
  | mfs (r : Fin 16)
  /-- MTS (R307): Writes a writable special register. -/
  | mts (r : Fin 16)
  /-- BC (R297): Conditional relative branch. -/
  | bc (r : Fin 16)
  /-- CALL (R305): Relative call that sets LNK. -/
  | call (r : Fin 16)
  /-- JR (R305): Jump to a register target. -/
  | jr (r : Fin 16)
  /-- RET (R305): Return to LNK. -/
  | ret (r : Fin 16)
  /-- TRAP (R306): Raises trap cause 11 with an argument. -/
  | trap (r : Fin 16) (ecc : Bool)
  /-- RETT (R306): Returns from a trap handler to the instruction after the trapping one. -/
  | rett (r : Fin 16)
  /-- STOP (R318): The racker halts itself, keeping its state. -/
  | stop (r : Fin 16)
  /-- NOP (R298): Does nothing for one cycle. -/
  | nop (r : Fin 16)
  /-- WAITL (R243): Issues a wait for a line of the plan in PLANSEL. -/
  | waitl (r : Fin 16)
  /-- WAITL_COMPLETE (R238): The line is reached, so P becomes that position and the racker resumes. -/
  | waitlComplete (r : Fin 16)
  /-- WAITF (R244): Issues a wait for a frame start, completing at once with C = 1 if the frame has passed. -/
  | waitf (r : Fin 16)
  /-- WAITF_COMPLETE (R244): The frame start is reached, and the racker resumes with C = 0. -/
  | waitfComplete (r : Fin 16)
  /-- WAITE (R278): Issues a wait on the racker's events with a line timeout. -/
  | waite (r : Fin 16)
  /-- WAITE_COMPLETE (R278): Masked events are set, so they are written to rd and cleared. -/
  | waiteComplete (r : Fin 16)
  /-- WAITE_TIMEOUT (R278): The line timeout expires, and 0 is written to rd. -/
  | waiteTimeout (r : Fin 16)
  /-- AT (R246): Arms a floor for the next TAKE, COMMIT or HCOMMIT. -/
  | atFloor (r : Fin 16)
  /-- PROVE (R310): Issues a wait for a route-proof verdict on a destination. -/
  | prove (r : Fin 16)
  /-- PROVE_COMPLETE (R310): The verdict of the awaited frame is formed and written to rd. -/
  | proveComplete (r : Fin 16)
  /-- PROVE_TIMEOUT (R310): The timeout of PROVE expires, and code 0 is returned. -/
  | proveTimeout (r : Fin 16)
  /-- TAKE (R247): Reads, validates and assigns landings to a salvo, writing its result word. -/
  | take (r : Fin 16) (ecc : Option (Fin 65536))
  /-- OPERATION_WAIT_DONE (R263): A fifth operation that waited proceeds once the oldest pending operation has wholly landed. -/
  | operationWaitDone (r : Fin 16)
  /-- XSET (R249): Stages a VIDEO entry. -/
  | xset (r : Fin 16)
  /-- AMAP (R249): Stages an AUDIO entry. -/
  | amap (r : Fin 16)
  /-- SLOTM (R249): Stages a SLOTM entry. -/
  | slotm (r : Fin 16)
  /-- COMMIT (R265): Validates and lands the staging buffer as one operation. -/
  | commit (r : Fin 16)
  /-- FADE (R267): Sets the fade time, clamped to 400. -/
  | fade (r : Fin 16)
  /-- HCOMMIT (R480): Commits a head's staged layer set when the racker owns the head and the set is valid. -/
  | hcommit (r : Fin 16)
  /-- LMARK_MARK (R523): LMARK mode 0 appends a mark to the ledger mark FIFO. -/
  | lmarkMark (r : Fin 16)
  /-- LMARK_EPOCH (R317): LMARK mode 1 requests a ledger epoch at the next PLAN0 frame boundary. -/
  | lmarkEpoch (r : Fin 16)
  /-- LEASE (R272): Takes or renews a lease, sending a fabric request for ids 96 to 223. -/
  | lease (r : Fin 16)
  /-- FREE (R274): Releases a lease held by the racker. -/
  | free (r : Fin 16)
  /-- FENCEW (R280): Issues a wait until a fence reaches a value. -/
  | fencew (r : Fin 16)
  /-- FENCEW_COMPLETE (R280): The fence reaches the value, and the racker resumes. -/
  | fencewComplete (r : Fin 16)
  /-- FENCES (R281): Signals a fence with a value, stored only if it is forward. -/
  | fences (r : Fin 16)
  /-- RING (R282): Rings a doorbell bit of a receiver. -/
  | ring (r : Fin 16)
  /-- POST (R283): Posts 256 bytes of data memory to a receiver's channel. -/
  | postMsg (r : Fin 16) (ecc : Bool)
  /-- GPO (R284): Drives the GPO pins that the racker owns. -/
  | gpo (r : Fin 16)
  /-- PLAN_GROUP_LANDS (R258): At sample 0 of its switch line, a plan group's entries take effect. -/
  | planGroupLands (p : Fin 8)
  /-- INPUT_PRESENT (R323): TRS is found through two frames, and the input becomes present and classified or unclassified. -/
  | inputPresent (idx : Fin 4608)
  /-- INPUT_ABSENT (R324): An input becomes absent, counts a loss and its outputs apply loss policies. -/
  | inputAbsent (idx : Fin 4608)
  /-- INPUT_FRAME_START (R326): An input frame starts, gets its frame tag, and is written to the cellar and skim. -/
  | inputFrameStart (idx : Fin 4608)
  /-- CASK_WINDOW_ENTER (R336): A cask input has been within the window for a whole frame and becomes aligned from the next output frame boundary. -/
  | caskWindowEnter (idx : Fin 4608) (p : Fin 8)
  /-- CASK_WINDOW_EXIT (R336): A line's offset falls outside the window, so the output becomes unaligned and the frame is a slip frame. -/
  | caskWindowExit (idx : Fin 4608) (p : Fin 8) (line : Nat)
  /-- CARRIAGE_CHANGE (R334): An output moves to a new carriage at a frame boundary in a slip frame. -/
  | carriageChange (d : Fin 4608)
  /-- OUTPUT_FRAME_START (R339): An output frame begins, the cellar read selects its input frame, and repeats or drops are made. -/
  | outputFrameStart (d : Fin 4608)
  /-- CELLAR_ECC_ERROR (R344): An uncorrectable read error replaces the line with the previous output frame's line. -/
  | cellarEccError (idx : Fin 4608) (p : Fin 8) (line : Nat) (kind : Fin 3)
  /-- HOLD_LIMIT (R355): After HOLD_FRAMES frames of HOLD, the output changes to BLACK. -/
  | holdLimit (d : Fin 4608)
  /-- OUTPUT_PLAN_CHANGE (R330): An output leaves its old plan at a frame boundary and joins the new plan at the next one. -/
  | outputPlanChange (d : Fin 4608)
  /-- ADMISSION_REQUEST (R364): A cellar load requests admission and is granted or refused. -/
  | admissionRequest (cls : Fin 5) (id : Fin 4608) (sub : Fin 9)
  /-- ADMISSION_RETRY (R364): Pending requests are evaluated again at a PLAN0 frame boundary. -/
  | admissionRetry
  /-- ADMISSION_WITHDRAW (R363): An admitted charge is withdrawn. -/
  | admissionWithdraw (cls : Fin 5) (id : Fin 4608) (sub : Fin 9)
  /-- CHANNEL_POWER_DOWN (R368): An idle cellar channel enters power-down. -/
  | channelPowerDown (c : Fin 64)
  /-- CHANNEL_SELF_REFRESH (R368): A cellar channel idle for 100 µs enters self-refresh. -/
  | channelSelfRefresh (c : Fin 64)
  /-- CHANNEL_WAKE (R368): An access or a tolerance change wakes a cellar channel. -/
  | channelWake (c : Fin 64)
  /-- ENGINE_TICK (R370): The audio engine takes one sample per channel, with store repeats and drops. -/
  | engineTick (master : List (Fin 8 × Nat × Nat))
  /-- CROSSFADE_END (R388): After N ticks, the incoming source is alone and FADING clears. -/
  | crossfadeEnd (a : Fin 49152)
  /-- CHANNEL_STATUS_BLOCK_END (R393): A complete channel status block updates NONPCM. -/
  | channelStatusBlockEnd (c : Fin 65536)
  /-- DELAY_CHANGE (R380): A delay write applies with a dip on PCM channels, or at the next tick on non-PCM ones. -/
  | delayChange (c : Fin 49152)
  /-- DIP_END (R380): The dip ends, and a write made during it is then applied. -/
  | dipEnd (c : Fin 49152)
  /-- GENERATOR_RESTART (R401): A generator restarts its phase at the tick after the write's frame boundary. -/
  | generatorRestart (n : Fin 64)
  /-- I2S_LOSS (R405): A slave port loses its clock, discards its FIFO and ramps its input to silence. -/
  | i2sLoss (k : Fin 8)
  /-- I2S_GLITCH (R406): A bad word period or BCLK count discards a frame and counts a glitch. -/
  | i2sGlitch (k : Fin 8) (bclk : Nat)
  /-- I2S_RATE_ERROR (R407): The WS rate averaged over 10 ms is more than ±500 ppm off, which is a loss. -/
  | i2sRateError (k : Fin 8) (ppm : Int)
  /-- I2S_QUALIFIED (R408): After 100 ms of clean WS, the port is qualified and fades in. -/
  | i2sQualified (k : Fin 8)
  /-- FRAME_RECEIVED (R425): A packet-mode frame is received, checked, classified and delivered or discarded. -/
  | frameReceived (n : Fin 36) (smd : Fin 256) (bytes : List Nat) (aborted : Bool)
  /-- FRAGMENT_RECEIVED (R420): A preemption fragment is reassembled or discarded. -/
  | fragmentReceived (n : Fin 36) (smd : Fin 256) (bytes : List Nat) (aborted : Bool)
  /-- STATUS_RECEIVED (R412): A STATUS group from the partner records its claim and side. -/
  | statusReceived (n : Fin 36) (arg : Fin 256)
  /-- FRAME_SENT (R412): A frame is sent between START and TERM groups. -/
  | frameSent (n : Fin 36) (cut : Option Nat)
  /-- STATUS_SENT (R415): A STATUS group is sent in a lane frame gap. -/
  | statusSent (n : Fin 36)
  /-- CLASSIFIER_WRITE (R432): PKT_CLS_CMD.WRITE installs the staged words atomically. -/
  | classifierWrite (m : Fin 22)
  /-- CLASSIFIER_READ (R432): PKT_CLS_CMD.READ loads an entry into PKT_CLS_W. -/
  | classifierRead (m : Fin 22)
  /-- RX_CONTEXT_ENABLE (R433): A receive context is enabled, bound and requests admission. -/
  | rxContextEnable (m : Fin 22) (x : Fin 4096) (v : Word)
  /-- PACKET_DEADLINE (R438): A held packet reaches its deadline and is used. -/
  | packetDeadline (x : Fin 4096)
  /-- LEG_LOSS (R439): No packet reaches a leg within LOSS_TO. -/
  | legLoss (x : Fin 4096) (leg : Fin 2)
  /-- LINE_RELEASE (R440): A type 0 context releases a line, replacing it if damaged. -/
  | lineRelease (x : Fin 4096) (ts line : Nat)
  /-- TX_CONTEXT_ENABLE (R450): A transmit context enable is admitted against the trellis budget or refused. -/
  | txContextEnable (m : Fin 22) (y : Fin 4096) (v : Word)
  /-- TX_CONTEXT_START (R451): An enabled context starts at the next frame or packet-time boundary. -/
  | txContextStart (y : Fin 4096)
  /-- PACKET_DEPARTURE (R449): A transmit packet leaves at its paced time. -/
  | packetDeparture (y : Fin 4096) (k : Nat)
  /-- ANNOUNCE (R455): A PTP Announce is received and enters the best master clock algorithm. -/
  | announce (n : Fin 36) (domain : Fin 256) (port : Nat × Nat) (dataset : List Nat) (mac ip : Nat) (utc : Fin 65536) (log : Fin 12)
  /-- SYNC (R454): A PTP Sync is received and timestamped. -/
  | sync (n : Fin 36) (domain : Fin 256) (port : Nat × Nat) (seq : Fin 65536) (twoStep : Bool) (origin corr : Int) (lane : Fin 8)
  /-- FOLLOW_UP (R454): A PTP Follow_Up is received. -/
  | followUp (n : Fin 36) (domain : Fin 256) (port : Nat × Nat) (seq : Fin 65536) (origin corr : Int)
  /-- DELAY_REQ (R454): The instance sends a Delay_Req every 2^LOG_DREQ s. -/
  | delayReq (n : Fin 36)
  /-- DELAY_RESP (R457): A Delay_Resp completes a delay exchange. -/
  | delayResp (n : Fin 36) (domain : Fin 256) (port : Nat × Nat) (seq : Fin 65536) (t4 corr : Int)
  /-- ANNOUNCE_TIMEOUT (R455): ANN_TO intervals without Announce return the port to LISTENING. -/
  | announceTimeout (n : Fin 36)
  /-- SERVO_EVALUATION (R457): The once-a-second servo evaluation updates the residual, the rate and the servo state. -/
  | servoEvaluation (n : Fin 36)
  /-- ACCEPT (R460): PTP_CTRL.ACCEPT marks the held jump for acceptance, or sets ACC_IGN. -/
  | accept (m : Fin 22) (n : Fin 36)
  /-- PTP_RESTART (R461): PTP_CTRL.RESTART sets the servo to NO_TIME and the port to LISTENING. -/
  | ptpRestart (m : Fin 22) (n : Fin 36)
  /-- DEVICE_TIME_READ (R10): A read of PTP_DT(0) latches the rest of device time. -/
  | deviceTimeRead (m : Fin 22)
  /-- PLAN_POSITION_READ (R10): A read of PLN_POS_F latches the line and sample. -/
  | planPositionRead (m : Fin 22) (p : Fin 8)
  /-- HEAD_START (R486): A head starts at its plan's first frame boundary after EN = 1. -/
  | headStart (h : Fin 32)
  /-- HEAD_STOP (R487): A head stops at the next frame boundary and withdraws its commits and charges. -/
  | headStop (h : Fin 32)
  /-- LATCH_DECISION (R482): At λ + 16 µs, the head takes a pending commit whose C is earlier than λ. -/
  | latchDecision (h : Fin 32)
  /-- FLIP (R484): At the frame boundary, ready layers show the commit, and the others hold their state. -/
  | flip (h : Fin 32)
  /-- UNDERRUN (R493): A layer lacking data becomes transparent for the rest of the frame. -/
  | underrun (h : Fin 32) (j : Fin 8)
  /-- LUT_DATA_WRITE (R476): A LUT write is stored, or ignored with LUT_WERR when its bank is in use. -/
  | lutDataWrite (m : Fin 22) (h : Fin 32) (v : Word)
  /-- TILE_ROW_COMPLETE (R498): A tile row's changed tiles form region-push packets. -/
  | tileRowComplete (h : Fin 32)
  /-- REGION_PUSH_PACKET (R498): A region-push packet is sent at its paced gap. -/
  | regionPushPacket (h : Fin 32)
  /-- REGION_PUSH_FRAME_END (R498): At the next frame start, unformed tiles are skipped and a frame-end packet is sent. -/
  | regionPushFrameEnd (h : Fin 32)
  /-- VERDICT (R512): Route proof forms the verdict of an output frame. -/
  | verdict (d : Fin 4608)
  /-- RGEN_ADVANCE (R505): Rectangle writes take effect at a PLAN0 frame boundary, and RGEN advances. -/
  | rgenAdvance
  /-- RECORD_SELECT (R507): A write of PRF_REC_SEL loads a check record. -/
  | recordSelect (m : Fin 22) (v : Word)
  /-- BOOKS_CLOSE (R519): At each PLAN0 frame boundary, every unit's counters are copied to the live checkpoint. -/
  | booksClose
  /-- LEDGER_CHECK (R520): The equations are evaluated over the checkpoint by B + 250 µs. -/
  | ledgerCheck
  /-- LEDGER_ECC_ERROR (R521): An uncorrectable error in ledger or credit storage sets VOID and raises a trigger. -/
  | ledgerEccError
  /-- EPOCH_REQUEST (R522): LDG_CTRL.EPOCH requests a ledger epoch at the next PLAN0 frame boundary. -/
  | epochRequest (m : Fin 22)
  /-- EPOCH_START (R522): A new epoch moves RESIDENT to RES_OPEN and zeroes the other counters. -/
  | epochStart
  /-- HOLD (R524): LDG_CTRL.HOLD freezes a held checkpoint. -/
  | hold (m : Fin 22)
  /-- RELEASE (R524): LDG_CTRL.RELEASE discards the held checkpoint. -/
  | release (m : Fin 22)
  /-- LEDGER_SELECT (R524): A write of LDG_SEL loads LDG_VAL from a checkpoint. -/
  | ledgerSelect (m : Fin 22) (v : Word)
  /-- MARK_READ (R523): A read of LDG_MARK_VAL removes the oldest mark and latches its fields. -/
  | markRead (m : Fin 22)
  /-- STATE_SENT (R530): A STATE record is sent at every PLAN0 line boundary. -/
  | stateSent (claimIn : Bool)
  /-- STATE_RECEIVED (R531): A STATE record updates the twin's state, token copy, credits and JACK. -/
  | stateReceived (len crc : Nat) (groups : List Nat)
  /-- MIRROR_LINK_DOWN (R531): 8 missing STATE records or a loss take the mirror link down. -/
  | mirrorLinkDown
  /-- MIRROR_LINK_UP (R531): The mirror link comes up and grants credits. -/
  | mirrorLinkUp
  /-- JOURNAL_ENTRY (R533): A journal-class write on the claim holder is stamped and sent. -/
  | journalEntry (m : Fin 22) (addr len data : Nat)
  /-- JOURNAL_STALL_RELEASE (R538): A stalled journal-class write proceeds once the journal has space. -/
  | journalStallRelease
  /-- JOURNAL_RECEIVED (R539): The standby receives a JOURNAL record in order, or requests a resend or diverges. -/
  | journalReceived (len crc : Nat) (groups : List Nat)
  /-- JOURNAL_APPLY (R535): Entries apply at their stamp in SEQ order. -/
  | journalApply
  /-- OPREC_RECEIVED (R541): The standby lands an unsynced racker's operation as assigned. -/
  | oprecReceived (len : Nat) (r : Fin 16) (result : Word) (groups : List Machine.PlanGroup)
  /-- EFFECT_RECEIVED (R541): The standby applies an unsynced racker's effect at a line stamp. -/
  | effectReceived (len : Nat) (r : Fin 16) (kind : Fin 10) (frame line : Nat) (words : List Nat)
  /-- CKPT_RECEIVED (R530): A CKPT record updates the twin's ledger status. -/
  | ckptReceived (len crc : Nat) (groups : List Nat)
  /-- TOKEN_RENEW (R529): The twin hardware renews the control token at a PLAN0 frame boundary. -/
  | tokenRenew
  /-- TOKEN_LAPSE (R545): The STANDBY's token copy lapses, and it asserts TWIN_FENCE_OUT. -/
  | tokenLapse
  /-- FENCE_WAIT_EXPIRY (R545): After FENCE_WAIT, the fencing device enters TAKEOVER. -/
  | fenceWaitExpiry
  /-- CLAIM_IN_LOW (R544): TWIN_CLAIM_IN has been low for 1 µs, which is seen as a relinquish. -/
  | claimInLow
  /-- FENCE_IN (R546): TWIN_FENCE_IN high makes the transmitters inactive, clears the claim and forces STANDBY. -/
  | fenceIn
  /-- TAKEOVER_COMPLETE (R544): At the next PLAN0 line boundary, TAKEOVER becomes ACTIVE. -/
  | takeoverComplete
  /-- UNFENCE (R547): TWN_CTRL.UNFENCE releases TWIN_FENCE_OUT. -/
  | unfence (m : Fin 22)
  /-- GO_SOLO (R550): TWN_CTRL.GO_SOLO moves an ACTIVE device to SOLO. -/
  | goSolo (m : Fin 22)
  /-- CATCHUP (R548): A catch-up is requested, and the claim holder journals a stamp S. -/
  | catchup (m : Option (Fin 22))
  /-- CATCHUP_CAPTURE (R548): At S, the claim holder captures its state and sends IMAGE records. -/
  | catchupCapture
  /-- IMAGE_RECEIVED (R549): An IMAGE record is buffered by the standby. -/
  | imageReceived (len : Nat) (memory : Option (Fin 16)) (part : Machine.Image) (last : Bool)
  /-- CATCHUP_INSTALL (R549): At I, the standby installs the image, applies held records and sets SYNC. -/
  | catchupInstall
  /-- MAIL_RECORD (R597): A MAIL record is delivered into channel 336 + r and acknowledged. -/
  | mailRecord (len crc : Nat) (groups : List Nat)
  /-- MAIL_RECORD_ACK (R597): An ACK record frees the sending slot. -/
  | mailRecordAck (len crc : Nat) (groups : List Nat)
  /-- RING_RECORD (R599): A RING record sets a doorbell bit of the twin's bank. -/
  | ringRecord (len crc : Nat) (groups : List Nat)
  /-- MIRROR_MAIL_SEND (R597): The mirror engine sends a posted slot of channel 320 + r as a MAIL record. -/
  | mirrorMailSend (r : Fin 16)
  /-- CREDIT (R558): An Onhan CREDIT message returns message credits. -/
  | credit (n : Fin 36) (src : Fin 64) (count : Nat)
  /-- HELLO (R560): A HELLO establishes a neighbour or detects an address conflict. -/
  | hello (n : Fin 36) (addr : Fin 64) (far : Fin 64) (twin : Fin 64) (mode : Fin 16) (inc : Nat)
  /-- ROUTE (R561): A ROUTE message updates the routing table. -/
  | route (n : Fin 36) (src : Fin 64) (entries : List (Fin 64 × Fin 4 × Fin 16)) (near : List (Fin 64 × Fin 64))
  /-- ROUTE_EXPIRY (R561): A route not refreshed for three frames is removed. -/
  | routeExpiry (a : Fin 32)
  /-- HEARTBEAT (R562): A heartbeat is followed by term, and triggers renumbering or lease sync. -/
  | heartbeat (n : Fin 36) (dest src : Fin 64) (hops : Fin 4) (term : Fin 65536) (frame digest : Nat) (excluded : List (Fin 32)) (phase : Int)
  /-- HEARTBEAT_MISSED (R562): Heartbeats missing for three frames trigger an election. -/
  | heartbeatMissed
  /-- ELECTION (R562): At the boundary after a trigger, the member elects the lowest candidate. -/
  | election
  /-- EXCLUDE (R565): The conductor excludes a member unreachable for 3 frames. -/
  | exclude (a : Fin 32)
  /-- LEASE_REQ (R566): The conductor decides a fabric lease request or reservation. -/
  | leaseReq (n : Fin 36) (dest src : Fin 64) (hops : Fin 4) (id : Fin 256) (dur prio index : Nat) (free : Bool) (srcDev slots : Fin 64)
  /-- LEASE_ANS (R566): A lease answer completes the requester's LEASE. -/
  | leaseAns (n : Fin 36) (dest src : Fin 64) (hops : Fin 4) (id : Fin 256) (status : Fin 4) (e : Nat)
  /-- LEASE_UPD (R566): A lease update rewrites the replicated fabric lease entry. -/
  | leaseUpd (n : Fin 36) (dest src : Fin 64) (hops : Fin 4) (id : Fin 224) (addr : Fin 64) (index : Fin 32) (e : Nat) (runs : List Machine.HopH)
  /-- LEASE_SYNC (R563): A request for, or copy of, lease entries 96 to 223 is exchanged. -/
  | leaseSync (n : Fin 36) (dest src : Fin 64) (hops : Fin 4) (copy : Option (List (Fin 224 × Fin 64 × Fin 32 × Nat)))
  /-- INHERIT (R554): The conductor rewrites the failed twin's fabric leases to the sender. -/
  | inherit (n : Fin 36) (dest src : Fin 64) (hops : Fin 4) (failed : Fin 64)
  /-- FEED (R567): A FEED records the device's receiving run of a reservation. -/
  | feed (n : Fin 36) (dest src : Fin 64) (hops : Fin 4) (k : Fin 96) (run : Machine.RunH)
  /-- SELECT (R568): The source device accepts or refuses feeding a source into a channel. -/
  | select (n : Fin 36) (dest src : Fin 64) (hops : Fin 4) (k : Fin 96) (ch : Fin 128) (id : Fin 8192)
  /-- SELECT_ACK (R568): A remote map entry becomes FED or refused. -/
  | selectAck (n : Fin 36) (dest src : Fin 64) (hops : Fin 4) (ch : Fin 128) (width : Option (Fin 4))
  /-- RECORD (R569): A remote source record is stored for route proof. -/
  | record (n : Fin 36) (dest src : Fin 64) (hops : Fin 4) (ch : Fin 128) (tag rgen digest : Nat) (checks : List Nat) (valid damaged : Fin 16)
  /-- AUDIO (R570): Remote audio samples enter the group's elastic store. -/
  | audio (n : Fin 36) (dest src : Fin 64) (hops : Fin 4) (m : Fin 768) (ticks : List (List Nat))
  /-- MAIL (R598): An Onhan MAIL is delivered into channel 368 + r, or held while that channel is full. -/
  | mail (n : Fin 36) (dest src : Fin 64) (hops : Fin 4) (q : Fin 16) (code : Fin 65536) (words : List Nat)
  /-- MAIL_ACK (R571): A MAIL_ACK frees the sending slot. -/
  | mailAck (n : Fin 36) (dest src : Fin 64) (hops : Fin 4) (q : Fin 16) (code : Fin 65536)
  /-- FABRIC_MAIL_SEND (R598): The fabric engine sends a posted slot as Onhan MAIL once a route exists. -/
  | fabricMailSend (r : Fin 16)
  /-- WATCHDOG_EXPIRY (R575): The watchdog expires after 2 s, restarting the controller and counting a crash on trial. -/
  | watchdogExpiry
  /-- CORE_FAULT (R575): A core fault restarts the management controller. -/
  | coreFault
  /-- MGT_CTRL_RESTART (R575): MGT_CTRL.RESTART restarts the management controller. -/
  | mgtCtrlRestart (m : Fin 22)
  /-- BOOT (R577): The boot ROM verifies and starts an image, or enters recovery. -/
  | boot (store : List Nat) (dropped : Bool) (other : List (Nat × List (Nat × Nat)))
  /-- SENSOR_UPDATE (R581): A sensor updates its value. -/
  | sensorUpdate (idx : Fin 64) (reading : Option Int)
  /-- ALARM_RAISE (R581): 3 updates beyond a limit raise an alarm. -/
  | alarmRaise (idx : Fin 64)
  /-- ALARM_CLEAR (R581): 3 updates within the limits clear the alarm. -/
  | alarmClear (idx : Fin 64)
  /-- LOG_FLUSH (R583): A captured log record is completed and written to NOR. -/
  | logFlush (error : Bool)
  /-- SENSOR_READ (R584): Command 0x20 returns sensor words. -/
  | sensorRead
  /-- THRESH_SET (R584): Command 0x21 sets a sensor's limits. -/
  | threshSet
  /-- LOG_READ (R584): Command 0x22 returns log records. -/
  | logRead
  /-- STORE_READ (R584): Command 0x23 returns configuration store bytes. -/
  | storeRead
  /-- STORE_LOAD (R586): Command 0x24 replaces the configuration store. -/
  | storeLoad (bytes : List Nat) (fail : Bool)
  /-- OTP_READ (R614): Command 0x25 returns OTP bytes. -/
  | otpRead
  /-- OTP_BANK_WRITE (R616): Command 0x26 writes a boot record bank. -/
  | otpBankWrite (bytes : List Nat) (fail : Bool) (stuck : List (Fin 16384))
  /-- OTP_BOARD_WRITE (R616): Command 0x27 writes the board identity and policy bits. -/
  | otpBoardWrite (stuck : List (Fin 16384))
  /-- KEY_INSTALL (R616): Command 0x37 installs a key slot hash. -/
  | keyInstall (stuck : List (Fin 16384))
  /-- KEY_REVOKE (R607): Command 0x35 revokes a key slot. -/
  | keyRevoke (stuck : List (Fin 16384))
  /-- PING (R584): Command 0x3F returns the image version and status. -/
  | ping
  /-- UPD_BEGIN (R608): Command 0x30 erases the inactive slot and enters RECEIVING. -/
  | updBegin
  /-- UPD_CHUNK (R608): Command 0x31 pulls image bytes into the inactive slot. -/
  | updChunk (bytes : List Nat) (fail : Bool)
  /-- UPD_VERIFY (R606): Command 0x32 starts image verification. -/
  | updVerify
  /-- VERIFY_DONE (R606): Verification ends in VERIFIED or REJECTED with a reason. -/
  | verifyDone
  /-- UPD_ACTIVATE (R609): Command 0x33 activates the image on trial and restarts the controller. -/
  | updActivate
  /-- UPD_ABORT (R608): Command 0x34 returns the update to IDLE. -/
  | updAbort
  /-- UPD_CONFIRM (R612): Command 0x36 confirms the trial image when its health checks have passed. -/
  | updConfirm
  /-- UPD_CONFIRM_KEY (R611): A write of 0xC0DE by M0 in TRIAL confirms the image and raises the security counter. -/
  | updConfirmKey (m : Fin 22) (key : Fin 65536)
  /-- AUTO_CONFIRM (R612): The health checks have held for SETTLE_S, so the image confirms itself. -/
  | autoConfirm
  /-- HEALTH_WINDOW_EXPIRY (R613): The health window ends unconfirmed, and the device falls back. -/
  | healthWindowExpiry
  /-- MBX_POST (R588): A sender posts slot WR, and the receiver is notified. -/
  | mbxPost (m : Fin 22) (c : Fin 394)
  /-- MBX_FREE (R590): The receiver frees slot RD. -/
  | mbxFree (m : Fin 22) (c : Fin 394)
  /-- DOORBELL_SET (R600): A write of MBX_DB_SET sets doorbell bits and notifies. -/
  | doorbellSet (m : Fin 22) (b : Fin 21) (bits : Word)
  /-- DOORBELL_CLEAR (R600): The receiver or M0 clears doorbell bits. -/
  | doorbellClear (m : Fin 22) (b : Fin 21) (bits : Word)
  /-- DOORBELL_MASK (R601): A mask write notifies for bits already set. -/
  | doorbellMask (m : Fin 22) (b : Fin 21) (mask : Word)
  /-- CBS_FRAME_RECEIVED (R604): A control-bus frame is accepted or discarded, and a command frame is executed. -/
  | cbsFrameReceived (bytes : List Nat)
  /-- CBS_TRANSMIT (R603): The MAC transmits after 96 idle bit times. -/
  | cbsTransmit
  /-- COLLISION (R603): A collision sends a jam and starts a backoff, or discards the frame. -/
  | collision (late : Bool)
  /-- BACKOFF_EXPIRY (R603): The backoff ends and transmission is retried. -/
  | backoffExpiry
  /-- PERST (R621): PCIE_PERST_N resets the PCIe logic and both functions. -/
  | perst
  /-- ENDPOINT_READY (R621): The endpoint stops retrying configuration requests. -/
  | endpointReady (speed : Fin 6) (width : Fin 9)
  /-- LINK_DOWN (R622): Loss of the PCIe link acts as a function-level reset of both functions. -/
  | linkDown
  /-- FUNCTION_LEVEL_RESET (R622): A function's requests, locks and MSI-X state are reset. -/
  | functionLevelReset (f : Fin 2)
  /-- D3HOT_ENTRY (R622): A function in D3hot holds its MSI-X messages pending. -/
  | d3hotEntry (f : Fin 2)
  /-- LOCK_ACQUIRE (R644): A read of MTX_LOCK acquires a free lock, or reports its holder. -/
  | lockAcquire (m : Fin 22) (n : Fin 64)
  /-- LOCK_RELEASE (R645): A write of MTX_LOCK_REL releases a lock, forced by M0 or M2. -/
  | lockRelease (m : Fin 22) (n : Fin 64)
  /-- REGISTER_WRITE (R10): A write to a register that has no row of its own, under its access type. -/
  | registerWrite (m : Fin 22) (addr len data : Nat)
  /-- PPS_OUT_EDGE (R662): PPS_OUT rises at each whole second of the followed time. -/
  | ppsOutEdge
  /-- PPS_IN_EDGE (R663): A PPS_IN edge is compared with PPS_OUT and logged when out of range. -/
  | ppsInEdge
  /-- TEST_LOGIC_RESET (R675): The TAP selects IDCODE. -/
  | testLogicReset
  /-- EXTEST (R675): JTAG EXTEST drives boundary scan. -/
  | extest (levels cells : Nat)
  /-- IDCODE (R675): JTAG IDCODE selects the identity register. -/
  | idcode
  /-- SAMPLE_PRELOAD (R675): JTAG SAMPLE/PRELOAD captures boundary scan. -/
  | samplePreload (levels cells : Nat)
  /-- CLAMP (R675): JTAG CLAMP holds the 1.8 V outputs at the boundary-scan values. -/
  | clamp
  /-- HIGHZ (R675): JTAG HIGHZ puts the 1.8 V outputs into high impedance. -/
  | highz
  /-- BYPASS (R675): JTAG BYPASS selects the bypass register. -/
  | bypass
  /-- DEVRESET (R675): Entry to Run-Test/Idle with DEVRESET causes device reset with cause 5. -/
  | devreset
  /-- DBGACC_READ (R676): DBGACC CMD 1 reads a word as master M21. -/
  | dbgaccRead (w : Fin 8589934592)
  /-- DBGACC_WRITE (R676): DBGACC CMD 2 writes a word as master M21. -/
  | dbgaccWrite (w : Fin 8589934592) (v : Word)
  /-- DBGACC_CAPTURE (R676): Capture-DR loads the status, address and read data. -/
  | dbgaccCapture
  /-- FENCE_IN_RELEASED (R93): TWIN_FENCE_IN goes low, so the fenced device's transmitters may become active again and a catch-up is requested. -/
  | fenceInReleased
  /-- D3HOT_EXIT (R622): A function leaves D3hot for D0 and sends the MSI-X messages it held pending. -/
  | d3hotExit (f : Fin 2)
  /-- LUT_DATA_READ (R476): A read of MVH_LUT_DATA returns the entry at INDEX and advances INDEX by 1. -/
  | lutDataRead (m : Fin 22) (h : Fin 32)
  /-- I2S_FRAME_RECEIVED (R402): A slave-mode I2S port receives one WS frame and writes its samples to the FIFO, steering the local oscillator. -/
  | i2sFrameReceived (k : Fin 8) (left right : Nat)
  /-- INPUT_FRAME_COMPLETE (R516): The last word of an input frame's last active line leaves the input stage, so the input checks become final and a PASS or CASK frame is DELIVERED. -/
  | inputFrameComplete (idx : Fin 4736)
  /-- CASK_ECC_ERROR (R59): An uncorrectable ECC error in the cask raises the self-diagnosis trigger of Table 02-5. -/
  | caskEccError
  /-- PROOF_STORE_ECC_ERROR (R508): An uncorrectable error in the proof store invalidates the records it touches and sets PRF_STATUS.STORE_ERR. -/
  | proofStoreEccError (id : Fin 8192) (out : Bool) (age : Fin 8)
  /-- DBGACC_DONE (R676): A DBGACC matrix access started at Update-DR completes, which performs the write or latches the read data and clears busy. -/
  | dbgaccDone
  deriving DecidableEq, Repr

end Sys2Proof
end

