-- ==== Sys2Proof/Decode.lean ====
section
/-! DEFINITION. Words of the opcode table. -/

namespace Sys2Proof

/-- The command that a word spells. spec/opcode_table.json gives no row any bits (its `fields` lists are empty): no word spells a
command. The instruction words of the rackers, which do have an encoding, are decoded by `Machine.rckDecode`. -/
def decodeTableWord (_nbits _w : Nat) : Option Instr := none

end Sys2Proof
end

