-- ==== Sys2Proof/Config.lean ====
section
/-! DEFINITION. Values that the spec leaves open: constants without a body, of which nothing in Lean can evaluate or prove
a value. Each is applied to the operands it depends on, or to the number of a draw. -/

namespace Sys2Proof

/-- Sample word number `tick` of a sine wave of `freq` Hz at `atten` tenths of a dB below full scale, with its channel
status bits (R400): the spec gives the signal and not its rounding to sample words. -/
opaque Config.toneSample (freq atten tick : Nat) : Nat

/-- Offset in ppb that the loop of the local oscillator of I²S port `k` settles at, for a fill of its FIFO and draw `n`
(R404): the spec gives the loop's bandwidth and range and not its steps. -/
opaque Config.loOffset (k fill n : Nat) : Int

/-- Word `k` of picture line `row` of pattern generator `src` in a plan format, on a link of a quad-link raster: the spec gives no
picture. -/
opaque Config.patternWord (src format link row k : Nat) : Nat

/-- Code from 0x80 to 0xFF of an event that has no register bit (Table 15-5): the spec gives the range. Kinds: 0 mode
transition, 1 self-diagnosis trigger, 2 alarm rise, 3 alarm clear, 4 boot, 5 update step, 6 fallback, 7 OTP write, 8 cellar
training failure, 9 a record of the store skipped, 10 a bank of the OTP that fails its checks, 11 start of an image, 12 a plan entry of the boot
record ignored. -/
opaque Config.eventCode (kind arg : Nat) : Nat

/-- SEVERITY of a log record, by its event and block (Table 15-5): the spec assigns none. -/
opaque Config.severity (event block : Nat) : Nat

/-- CRC-32C digest of lease entries 96 to 223 (Table 14-5), over their holder, address, held bit and expiry: the spec does not
give the order of their bytes. -/
opaque Config.leaseDigest (entries : List (Nat × Nat × Nat × Nat)) : Nat

/-- Rectangle digest of a RECORD message, over the rectangle registers in force (Table 14-5): the spec does not give it. -/
opaque Config.rectDigest (words : List Nat) : Nat

/-- SHA-384 of a byte string, as a number (FIPS 180-4): its value is not computed here. -/
opaque Config.sha384 (bytes : List Nat) : Nat

/-- Whether an RSASSA-PSS signature (bytes 512 to 895) verifies over bytes 0 to 511 of an image (R606). -/
opaque Config.rsaOk (header : List Nat) : Bool

/-- Whether the SLH-DSA-SHA2-192s signature verifies over bytes 0 to 511 of an image (R606). -/
opaque Config.slhOk (header : List Nat) : Bool

/-- The number drawn for a backoff of the control bus MAC, at draw `n` (R603): it is uniform over a range that the rule gives. -/
opaque Config.backoff (n : Nat) : Nat

/-- Entries, less one, that the journal holds (R538): the spec gives no size. -/
opaque Config.journalSize : Nat

/-- LEN of a mirror record whose layout the spec does not give: an OPREC (kind 4), EFFECT (5) or IMAGE (3) of so many words. -/
opaque Config.mirrorLen (kind words : Nat) : Nat

/-- A byte of the cellar outside region 3, which holds video, audio or packets whose layout the spec does not give, at draw
`n`. -/
opaque Config.cellarByte (addr n : Nat) : Nat

/-- Descrambler state of lane `l` of trellis `n` at alignment, at draw `k`: its output is valid from the 48th data payload bit on
(R80). -/
opaque Config.descrambler (n l k : Nat) : Nat

/-- Register of PRBS generator of lane `l` of trellis `n` as it starts, at draw `k` (R105): the spec gives no start state. -/
opaque Config.prbsSeed (n l k : Nat) : Nat

/-- Vertical eye opening of lane `l` of trellis `n`, of 255 for the nominal full eye, at draw `k`: the lane measures it on its
slicers (TRL_LANE_MARGIN). -/
opaque Config.laneMargin (n l k : Nat) : Nat

end Sys2Proof
end

