-- ==== Sys2Proof/Machine/Store.lean ====
section
/-! DEFINITION. Sparse stores: a list of (key, value) pairs in one canonical form, the keys strictly
rising and no entry equal to what an unlisted key reads as. Every large collection of State (registers,
memories, per-instance records) is held so, and read and written by the operations of this file only. -/

namespace Sys2Proof.Machine

/-- The value a store holds at key `k`; `d` says what an unlisted key reads as. -/
def storeGet {α : Type} (d : Nat → α) : List (Nat × α) → Nat → α
  | [], k => d k
  | (a, v) :: l, k => if a = k then v else storeGet d l k

/-- Remove what is listed at key `k`. -/
def storeDrop {α : Type} : List (Nat × α) → Nat → List (Nat × α)
  | [], _ => []
  | (a, v) :: l, k => if a = k then storeDrop l k else (a, v) :: storeDrop l k

/-- Put an entry at key `k`, keeping the keys rising. -/
def storePut {α : Type} : List (Nat × α) → Nat → α → List (Nat × α)
  | [], k, v => [(k, v)]
  | (a, w) :: l, k, v =>
    if k < a then (k, v) :: (a, w) :: l
    else if a = k then (k, v) :: l
    else (a, w) :: storePut l k v

/-- Write `v` at key `k`: the default value removes the entry, so that equal stores are equal lists. -/
def storeSet {α : Type} [DecidableEq α] (d : Nat → α) (l : List (Nat × α)) (k : Nat) (v : α) : List (Nat × α) :=
  if v = d k then storeDrop l k else storePut l k v

/-- Every key of `l` is above `b`. -/
def storeAbove {α : Type} (b : Nat) : List (Nat × α) → Bool
  | [] => true
  | (a, _) :: l => decide (b < a) && storeAbove b l

/-- The canonical form: keys strictly rising, no entry equal to what its key reads as when unlisted. -/
def storeWf {α : Type} [DecidableEq α] (d : Nat → α) : List (Nat × α) → Bool
  | [] => true
  | (a, v) :: l => decide (v ≠ d a) && storeAbove a l && storeWf d l

/-- Replace element `i` of a list, leaving the list as it is where there is no element `i`. -/
def listSet {α : Type} : List α → Nat → α → List α
  | [], _, _ => []
  | _ :: l, 0, v => v :: l
  | a :: l, i + 1, v => a :: listSet l i v

/-- The numbers from `b` on, `n` of them. -/
def rangeFrom (b : Nat) : Nat → List Nat
  | 0 => []
  | n + 1 => b :: rangeFrom (b + 1) n

/-- The indices of `0 … n-1` that satisfy a test, lowest first. -/
def indicesWhere (n : Nat) (p : Nat → Bool) : List Nat := (rangeFrom 0 n).filter p

/-- Apply an update once for every element of a list, left to right. -/
def foldOver {α σ : Type} : List α → (α → σ → σ) → σ → σ
  | [], _, s => s
  | a :: l, f, s => foldOver l f (f a s)

end Sys2Proof.Machine
end

