-- ==== Sys2Proof/Machine/RegMap.lean ====
section
/-! DEFINITION. Registers and their fields as places in the BAR0 address map (Table 16-5), the reading and
writing of one field of a word, and the reset values that the register tables give by a function of the index. -/

namespace Sys2Proof.Machine

/-- A field of a register: the byte address of its word, its lowest bit and its width. -/
structure Field where
  addr : Nat
  lo : Nat
  width : Nat
  deriving DecidableEq, Repr

/-- A register or an array of registers: base address, index ranges as (count, stride), the masks of its RW,
W1C, RS and WO bits (R10), and its reset word as a function of the indices (0 for an index it does not have). -/
structure RegDesc where
  base : Nat
  dims : List (Nat × Nat)
  rw : Nat
  w1c : Nat
  rs : Nat
  wo : Nat
  reset : Nat → Nat → Nat → Nat

/-- The value of a field of a word. -/
def fieldGet (f : Field) (w : Word) : Nat := w.toNat / 2 ^ f.lo % 2 ^ f.width

/-- A word with one field replaced by the low bits of `v`. -/
def fieldPut (f : Field) (w : Word) (v : Nat) : Word :=
  BitVec.ofNat 32 (w.toNat / 2 ^ (f.lo + f.width) * 2 ^ (f.lo + f.width) + v % 2 ^ f.width * 2 ^ f.lo + w.toNat % 2 ^ f.lo)

/-- The two's complement reading of a `w`-bit value. -/
def signedOf (w v : Nat) : Int := if v % 2 ^ w < 2 ^ (w - 1) then ((v % 2 ^ w : Nat) : Int) else ((v % 2 ^ w : Nat) : Int) - ((2 ^ w : Nat) : Int)

/-- The `w`-bit two's complement code of an integer. -/
def codeOf (w : Nat) (v : Int) : Nat := (v % ((2 ^ w : Nat) : Int)).toNat

/-- An integer brought into the range of a signed `w`-bit field. -/
def clampSigned (w : Nat) (v : Int) : Int :=
  if v < -((2 ^ (w - 1) : Nat) : Int) then -((2 ^ (w - 1) : Nat) : Int)
  else if v > ((2 ^ (w - 1) : Nat) : Int) - 1 then ((2 ^ (w - 1) : Nat) : Int) - 1 else v

/-- A value brought between two limits. -/
def clampNat (lo hi v : Nat) : Nat := if v < lo then lo else if hi < v then hi else v

/-- Whether bit `i` of a number is 1. -/
def bit (v i : Nat) : Bool := v / 2 ^ i % 2 == 1

/-- 1 for true and 0 for false. -/
def ofBool (b : Bool) : Nat := if b then 1 else 0

/-- Peel the index of each dimension off an offset; the offset left over must be 0. The dimensions are listed with
the largest stride first. -/
def indexOf : List (Nat × Nat) → Nat → Option (List Nat)
  | [], o => if o = 0 then some [] else none
  | (c, st) :: l, o => if o / st < c then (indexOf l (o % st)).map (o / st :: ·) else none

/-- The indices at which a register array lies at an address, if it does. -/
def RegDesc.at? (d : RegDesc) (a : Nat) : Option (List Nat) :=
  if a < d.base then none else indexOf d.dims (a - d.base)

/-- The reset word of a register at given indices. -/
def RegDesc.resetAt (d : RegDesc) : List Nat → Nat
  | [] => d.reset 0 0 0
  | [i] => d.reset i 0 0
  | [i, j] => d.reset i j 0
  | i :: j :: k :: _ => d.reset i j k

/-- The first register of a list that lies at an address. -/
def findDesc (a : Nat) : List RegDesc → Option (RegDesc × List Nat)
  | [] => none
  | d :: l =>
    match d.at? a with
    | some ix => some (d, ix)
    | none => findDesc a l

/-- SYN_PLL_STAT.USER at reset (R214): plan synthesiser PS p serves plan p, PS8 and PS9 are in the pool. -/
def synUserReset (i : Nat) : Nat := if i < 37 then 0 else if i < 45 then i - 37 else if i < 47 then 0xFF else 0

/-- The nominal frequency words INT and FRAC of Table 06-2, in units of the reference; the plan synthesisers in the
integer family, which they serve at reset (R212, R214). The fixed logic PLLs follow Table 06-1 (VCO ÷ 100 MHz). -/
def synNominal (i : Nat) : Nat × Nat :=
  if i < 37 then (140, 0xA0000000) else if i < 47 then (47, 0x851EB852)
  else if i = 47 then (49, 0x26E978D5) else if i = 50 then (48, 0) else (40, 0)

/-- Base of cellar region `r` in MB (Table 09-8). -/
def clrRegionBase (r : Nat) : Nat :=
  match r with
  | 0 => 0 | 1 => 72600 | 2 => 78270 | 3 => 82990 | 4 => 85990 | _ => 90022

/-- Size of cellar region `r` in MB (Table 09-8). -/
def clrRegionSize (r : Nat) : Nat :=
  match r with
  | 0 => 72600 | 1 => 5670 | 2 => 4720 | 3 => 3000 | 4 => 4032 | _ => 5978

/-- The position group entry of Table 10-4: enabled, with a group and a quarter. -/
def audMapEntry (group quarter : Nat) : Nat := 0x80 + quarter * 8 + group

/-- Group and quarter of position group `g` under a gang code (Table 10-4). -/
def audMapDefault (code g : Nat) : Nat :=
  match code with
  | 0 => audMapEntry (g % 2) (g / 2)
  | 1 => if g < 4 then audMapEntry g 0 else audMapEntry (g % 2) (g / 2)
  | 2 => if g < 4 then audMapEntry (g % 2) (g / 2) else audMapEntry (g - 4) 2
  | 3 => if g < 4 then audMapEntry g 0 else audMapEntry (g - 4) 2
  | _ => audMapEntry g 0

/-- Word `k` of a position map under a gang code: groups 4k to 4k + 3. -/
def audMapWord (code k : Nat) : Nat :=
  audMapDefault code (4 * k) + audMapDefault code (4 * k + 1) * 2 ^ 8 + audMapDefault code (4 * k + 2) * 2 ^ 16
    + audMapDefault code (4 * k + 3) * 2 ^ 24

/-- Word `k` of a position map at reset: gang code 0. -/
def audMapReset (k : Nat) : Nat := audMapWord 0 k

/-- Width of the raster of format code `f` (Table 13-1). -/
def prfRasterW (f : Nat) : Nat :=
  match f with
  | 0 => 720 | 1 => 720 | 2 => 1280 | 3 => 1920 | 4 => 1920 | 5 => 1920 | _ => 3840

/-- Height of the raster of format code `f` (Table 13-1). -/
def prfRasterH (f : Nat) : Nat :=
  match f with
  | 0 => 486 | 1 => 576 | 2 => 720 | 3 => 1080 | 4 => 1080 | 5 => 1080 | _ => 2160

/-- The alarm limits LO and HI at reset, in the unit of each sensor (Table 15-4); a rail monitor's limits follow its
nominal value, which reads 0 until the rails are known. -/
def mgtThrReset (i : Nat) : Nat × Nat :=
  if i < 32 then (0x8000, 380) else if i < 36 then (0x8000, 360) else if i = 36 then (1140, 1260)
  else if i = 37 then (0x8000, 4400) else if i = 38 then (0x8000, 5000) else if i = 39 then (64, 0x7FFF) else (0, 0)

/-- Reset QoS of each master (Table 16-3). -/
def mtxQosReset (m : Nat) : Nat :=
  if m = 0 then 6 else if m = 1 then 3 else if m = 2 then 5 else if m < 19 then 4
  else if m = 19 then 2 else if m = 20 then 7 else 0

/-- BASE, LIMIT and enable of window `w` of master `m` at reset (R633). -/
def mtxWinReset (m w : Nat) : Nat × Nat × Nat :=
  if w = 0 then (0, 0x3FFF, 1)
  else if w = 1 ∧ (m = 0 ∨ m = 1 ∨ m = 19) then (0x400000, 0x7FFFFF, 1) else (0, 0, 0)

end Sys2Proof.Machine
end

