-- ==== Sys2Proof/Machine/RegsAud.lean ====
section
/-! DEFINITION. The registers of audio and I2S (AUD, I2S): the address of each register, the place of each field,
its access type and its reset value, as the register tables of spec/10_audio_channels_and_i2s.md give them. -/

namespace Sys2Proof.Machine

/-- Register AUD_STATUS, offset 0x000 of its block. -/
abbrev AUD_STATUS : Nat := 0x1800000
/-- AUD_STATUS.SYN_LOCK [0:0] RO, reset 0: Audio synthesiser locked -/
abbrev AUD_STATUS_SYN_LOCK : Field := ⟨AUD_STATUS, 0, 1⟩
/-- AUD_STATUS.A_READY [1:1] RO, reset 0: Domain 83 ready -/
abbrev AUD_STATUS_A_READY : Field := ⟨AUD_STATUS, 1, 1⟩
/-- AUD_STATUS.B_READY [2:2] RO, reset 0: Domain 84 ready -/
abbrev AUD_STATUS_B_READY : Field := ⟨AUD_STATUS, 2, 1⟩

/-- Register AUD_EVENT, offset 0x004 of its block. -/
abbrev AUD_EVENT : Nat := 0x1800004
/-- AUD_EVENT.NONPCM_CHANGE [0:0] W1C, reset 0: R393 -/
abbrev AUD_EVENT_NONPCM_CHANGE : Field := ⟨AUD_EVENT, 0, 1⟩
/-- AUD_EVENT.FADE_CUT [1:1] W1C, reset 0: R391 -/
abbrev AUD_EVENT_FADE_CUT : Field := ⟨AUD_EVENT, 1, 1⟩
/-- AUD_EVENT.SRC_SLIP [2:2] W1C, reset 0: Source repeat or drop (R378) -/
abbrev AUD_EVENT_SRC_SLIP : Field := ⟨AUD_EVENT, 2, 1⟩
/-- AUD_EVENT.DST_SLIP [3:3] W1C, reset 0: Destination repeat or drop (R397) -/
abbrev AUD_EVENT_DST_SLIP : Field := ⟨AUD_EVENT, 3, 1⟩
/-- AUD_EVENT.UNSUP [4:4] W1C, reset 0: R377 -/
abbrev AUD_EVENT_UNSUP : Field := ⟨AUD_EVENT, 4, 1⟩

/-- Register AUD_SEQ (p = 0 to 7), offset 0x010 + 4p of its block. -/
abbrev AUD_SEQ (p : Nat) : Nat := 0x1800010 + 0x4 * p
/-- AUD_SEQ.POS [2:0] RO, reset 0: Audio sequence position of the current frame of plan p (R372) -/
abbrev AUD_SEQ_POS (p : Nat) : Field := ⟨AUD_SEQ p, 0, 3⟩

/-- Register AUD_CNT (k = 0 to 5), offset 0x040 + 4k of its block. -/
abbrev AUD_CNT (k : Nat) : Nat := 0x1800040 + 0x4 * k
/-- AUD_CNT.COUNT [31:0] RS, reset 0: k = 0 source repeats; 1 source drops; 2 destination repeats; 3 destination drops; 4 hard cuts (R394, R395); 5 interrupted crossfades (R391). Saturating; cleared by the read -/
abbrev AUD_CNT_COUNT (k : Nat) : Field := ⟨AUD_CNT k, 0, 32⟩

/-- Register AUD_GEN_CFG (n = 0 to 63), offset 0x100 + 8n of its block. -/
abbrev AUD_GEN_CFG (n : Nat) : Nat := 0x1800100 + 0x8 * n
/-- AUD_GEN_CFG.MODE [1:0] RW, reset 0: R400; 3 is stored as 0 -/
abbrev AUD_GEN_CFG_MODE (n : Nat) : Field := ⟨AUD_GEN_CFG n, 0, 2⟩
/-- AUD_GEN_CFG.FREQ [16:2] RW, reset 1,000: Tone frequency in Hz, clamped to 20–20,000 -/
abbrev AUD_GEN_CFG_FREQ (n : Nat) : Field := ⟨AUD_GEN_CFG n, 2, 15⟩

/-- Register AUD_GEN_LVL (n = 0 to 63), offset 0x104 + 8n of its block. -/
abbrev AUD_GEN_LVL (n : Nat) : Nat := 0x1800104 + 0x8 * n
/-- AUD_GEN_LVL.ATTEN [10:0] RW, reset 200: Level below full scale in 0.1 dB, clamped to 0–1,200 -/
abbrev AUD_GEN_LVL_ATTEN (n : Nat) : Field := ⟨AUD_GEN_LVL n, 0, 11⟩
/-- AUD_GEN_LVL.ON [23:16] RW, reset 100: Keyed-on time in 10 ms; 0 is stored as 1 -/
abbrev AUD_GEN_LVL_ON (n : Nat) : Field := ⟨AUD_GEN_LVL n, 16, 8⟩
/-- AUD_GEN_LVL.OFF [31:24] RW, reset 100: Keyed-off time in 10 ms; 0 is stored as 1 -/
abbrev AUD_GEN_LVL_OFF (n : Nat) : Field := ⟨AUD_GEN_LVL n, 24, 8⟩

/-- Register AUD_PKT_PLAN (k = 0 to 95), offset 0x400 + 4k of its block. -/
abbrev AUD_PKT_PLAN (k : Nat) : Nat := 0x1800400 + 0x4 * k
/-- AUD_PKT_PLAN.PLAN [2:0] + 4j RW, reset 0: Plan of destination group 2,304 + 8k + j, j = 0 to 7 (R384) -/
abbrev AUD_PKT_PLAN_PLAN (k : Nat) (j : Nat) : Field := ⟨AUD_PKT_PLAN k, 0 + 4 * j, 3⟩

/-- Register AUD_GRP_CFG (group g), offset 0x1000 + 4g of its block. -/
abbrev AUD_GRP_CFG (g : Nat) : Nat := 0x1801000 + 0x4 * g
/-- AUD_GRP_CFG.LAW [1:0] RW, reset 0: Table 10-5 -/
abbrev AUD_GRP_CFG_LAW (g : Nat) : Field := ⟨AUD_GRP_CFG g, 0, 2⟩

/-- Register AUD_DMX_MAP (slot s, k = 0 to 1), offset 0x4000 + 8s + 4k of its block. -/
abbrev AUD_DMX_MAP (s : Nat) (k : Nat) : Nat := 0x1804000 + 0x8 * s + 0x4 * k
/-- AUD_DMX_MAP.GROUP [2:0] + 8j RW, reset Table 10-4, code 0: Audio group − 1 of position group 4k + j -/
abbrev AUD_DMX_MAP_GROUP (s : Nat) (k : Nat) (j : Nat) : Field := ⟨AUD_DMX_MAP s k, 0 + 8 * j, 3⟩
/-- AUD_DMX_MAP.QUARTER [4:3] + 8j RW, reset Table 10-4, code 0: Addressing quarter -/
abbrev AUD_DMX_MAP_QUARTER (s : Nat) (k : Nat) (j : Nat) : Field := ⟨AUD_DMX_MAP s k, 3 + 8 * j, 2⟩
/-- AUD_DMX_MAP.EN [7:7] + 8j RW, reset 1: Position group enabled (R376) -/
abbrev AUD_DMX_MAP_EN (s : Nat) (k : Nat) (j : Nat) : Field := ⟨AUD_DMX_MAP s k, 7 + 8 * j, 1⟩

/-- Register AUD_EMB_MAP (slot s, k = 0 to 1), offset 0x8000 + 8s + 4k of its block. -/
abbrev AUD_EMB_MAP (s : Nat) (k : Nat) : Nat := 0x1808000 + 0x8 * s + 0x4 * k
/-- AUD_EMB_MAP.GROUP [2:0] + 8j RW, reset Table 10-4, code 0: Audio group − 1 for embedding positions 16k + 4j to 16k + 4j + 3 -/
abbrev AUD_EMB_MAP_GROUP (s : Nat) (k : Nat) (j : Nat) : Field := ⟨AUD_EMB_MAP s k, 0 + 8 * j, 3⟩
/-- AUD_EMB_MAP.QUARTER [4:3] + 8j RW, reset Table 10-4, code 0: Addressing quarter -/
abbrev AUD_EMB_MAP_QUARTER (s : Nat) (k : Nat) (j : Nat) : Field := ⟨AUD_EMB_MAP s k, 3 + 8 * j, 2⟩
/-- AUD_EMB_MAP.EN [7:7] + 8j RW, reset 1: Positions embedded (R396) -/
abbrev AUD_EMB_MAP_EN (s : Nat) (k : Nat) (j : Nat) : Field := ⟨AUD_EMB_MAP s k, 7 + 8 * j, 1⟩

/-- Register AUD_SLOT_CFG (slot s), offset 0xC000 + 4s of its block. -/
abbrev AUD_SLOT_CFG (s : Nat) : Nat := 0x180C000 + 0x4 * s
/-- AUD_SLOT_CFG.DMX_AUTO [0:0] RW, reset 1: R376 -/
abbrev AUD_SLOT_CFG_DMX_AUTO (s : Nat) : Field := ⟨AUD_SLOT_CFG s, 0, 1⟩
/-- AUD_SLOT_CFG.EMB_AUTO [1:1] RW, reset 1: R396 -/
abbrev AUD_SLOT_CFG_EMB_AUTO (s : Nat) : Field := ⟨AUD_SLOT_CFG s, 1, 1⟩
/-- AUD_SLOT_CFG.EMB_MODE [2:2] RW, reset 0: R396 -/
abbrev AUD_SLOT_CFG_EMB_MODE (s : Nat) : Field := ⟨AUD_SLOT_CFG s, 2, 1⟩

/-- Register AUD_SRC_CFG (channel c), offset 0x1_0000 + 4c of its block. -/
abbrev AUD_SRC_CFG (c : Nat) : Nat := 0x1810000 + 0x4 * c
/-- AUD_SRC_CFG.DELAY [14:0] RW, reset 0: Delay in samples, 0–24,000 (R379) -/
abbrev AUD_SRC_CFG_DELAY (c : Nat) : Field := ⟨AUD_SRC_CFG c, 0, 15⟩
/-- AUD_SRC_CFG.FORCE_NONPCM [15:15] RW, reset 0: R393 -/
abbrev AUD_SRC_CFG_FORCE_NONPCM (c : Nat) : Field := ⟨AUD_SRC_CFG c, 15, 1⟩

/-- Register AUD_SRC_STAT (channel c), offset 0x4_0000 + 4c of its block. -/
abbrev AUD_SRC_STAT (c : Nat) : Nat := 0x1840000 + 0x4 * c
/-- AUD_SRC_STAT.LIVE [0:0] RO, reset 0: Delivering received samples, not MUTE -/
abbrev AUD_SRC_STAT_LIVE (c : Nat) : Field := ⟨AUD_SRC_STAT c, 0, 1⟩
/-- AUD_SRC_STAT.NONPCM [1:1] RO, reset 0: R393 -/
abbrev AUD_SRC_STAT_NONPCM (c : Nat) : Field := ⟨AUD_SRC_STAT c, 1, 1⟩
/-- AUD_SRC_STAT.UNSUP [2:2] RO, reset 0: R377 -/
abbrev AUD_SRC_STAT_UNSUP (c : Nat) : Field := ⟨AUD_SRC_STAT c, 2, 1⟩
/-- AUD_SRC_STAT.DIP [3:3] RO, reset 0: R380 -/
abbrev AUD_SRC_STAT_DIP (c : Nat) : Field := ⟨AUD_SRC_STAT c, 3, 1⟩

/-- Register AUD_MAP_RD (destination a), offset 0x7_0000 + 4a of its block. -/
abbrev AUD_MAP_RD (a : Nat) : Nat := 0x1870000 + 0x4 * a
/-- AUD_MAP_RD.ASRC [15:0] RO, reset a: Source channel in force (R385) -/
abbrev AUD_MAP_RD_ASRC (a : Nat) : Field := ⟨AUD_MAP_RD a, 0, 16⟩
/-- AUD_MAP_RD.FADING [16:16] RO, reset 0: Crossfade running -/
abbrev AUD_MAP_RD_FADING (a : Nat) : Field := ⟨AUD_MAP_RD a, 16, 1⟩
/-- AUD_MAP_RD.HARD_LAST [17:17] RO, reset 0: The last landing was a hard cut -/
abbrev AUD_MAP_RD_HARD_LAST (a : Nat) : Field := ⟨AUD_MAP_RD a, 17, 1⟩
/-- AUD_MAP_RD.PLAN [20:18] RO, reset 0: Plan of the destination (R384) -/
abbrev AUD_MAP_RD_PLAN (a : Nat) : Field := ⟨AUD_MAP_RD a, 18, 3⟩
/-- AUD_MAP_RD.NONPCM [21:21] RO, reset 0: NONPCM of the source in force -/
abbrev AUD_MAP_RD_NONPCM (a : Nat) : Field := ⟨AUD_MAP_RD a, 21, 1⟩

/-- Register I2S_CFG (port k), offset 0x000 of its block. -/
abbrev I2S_CFG (k : Nat) : Nat := 0x1900000 + 0x20 * k
/-- I2S_CFG.EN [0:0] RW, reset 0: Port enabled -/
abbrev I2S_CFG_EN (k : Nat) : Field := ⟨I2S_CFG k, 0, 1⟩
/-- I2S_CFG.DIR [1:1] RW, reset 0: 0 input, 1 output -/
abbrev I2S_CFG_DIR (k : Nat) : Field := ⟨I2S_CFG k, 1, 1⟩
/-- I2S_CFG.SLAVE [2:2] RW, reset 0: 0 master (R403), 1 slave (R404) -/
abbrev I2S_CFG_SLAVE (k : Nat) : Field := ⟨I2S_CFG k, 2, 1⟩
/-- I2S_CFG.SLOT [4:3] RW, reset 2: 0: 16, 1: 24, 2: 32 bits per slot; 3 is stored as 2 -/
abbrev I2S_CFG_SLOT (k : Nat) : Field := ⟨I2S_CFG k, 3, 2⟩
/-- I2S_CFG.NONPCM [5:5] RW, reset 0: Input channels carry non-PCM data (R393) -/
abbrev I2S_CFG_NONPCM (k : Nat) : Field := ⟨I2S_CFG k, 5, 1⟩

/-- Register I2S_STAT (port k), offset 0x004 of its block. -/
abbrev I2S_STAT (k : Nat) : Nat := 0x1900004 + 0x20 * k
/-- I2S_STAT.QUALIFIED [0:0] RO, reset 0: Slave clock qualified (R408) -/
abbrev I2S_STAT_QUALIFIED (k : Nat) : Field := ⟨I2S_STAT k, 0, 1⟩
/-- I2S_STAT.LOSS [1:1] W1C, reset 0: R405 -/
abbrev I2S_STAT_LOSS (k : Nat) : Field := ⟨I2S_STAT k, 1, 1⟩
/-- I2S_STAT.RATE_ERR [2:2] W1C, reset 0: R407 -/
abbrev I2S_STAT_RATE_ERR (k : Nat) : Field := ⟨I2S_STAT k, 2, 1⟩
/-- I2S_STAT.FILL [7:3] RO, reset 0: FIFO fill in words, 0–16 -/
abbrev I2S_STAT_FILL (k : Nat) : Field := ⟨I2S_STAT k, 3, 5⟩

/-- Register I2S_TX_SEL (port k), offset 0x008 of its block. -/
abbrev I2S_TX_SEL (k : Nat) : Nat := 0x1900008 + 0x20 * k
/-- I2S_TX_SEL.DST0 [15:0] RW, reset 0: Audio destination copied to channel 0 (R409); values above 49,151 give MUTE -/
abbrev I2S_TX_SEL_DST0 (k : Nat) : Field := ⟨I2S_TX_SEL k, 0, 16⟩
/-- I2S_TX_SEL.DST1 [31:16] RW, reset 1: Audio destination copied to channel 1 -/
abbrev I2S_TX_SEL_DST1 (k : Nat) : Field := ⟨I2S_TX_SEL k, 16, 16⟩

/-- Register I2S_CNT (port k), offset 0x00C of its block. -/
abbrev I2S_CNT (k : Nat) : Nat := 0x190000C + 0x20 * k
/-- I2S_CNT.GLITCHES [15:0] RS, reset 0: R406, saturating; cleared by the read -/
abbrev I2S_CNT_GLITCHES (k : Nat) : Field := ⟨I2S_CNT k, 0, 16⟩
/-- I2S_CNT.LOSSES [31:16] RS, reset 0: R405, saturating; cleared by the read -/
abbrev I2S_CNT_LOSSES (k : Nat) : Field := ⟨I2S_CNT k, 16, 16⟩

/-- Register I2S_LO (port k), offset 0x010 of its block. -/
abbrev I2S_LO (k : Nat) : Nat := 0x1900010 + 0x20 * k
/-- I2S_LO.PPB [31:0] RO, reset 0: Local oscillator offset from 48 kHz, signed, in ppb (R404) -/
abbrev I2S_LO_PPB (k : Nat) : Field := ⟨I2S_LO k, 0, 32⟩

/-- Register I2S_EVENT (shared), offset 0x100 of its block. -/
abbrev I2S_EVENT : Nat := 0x1900100
/-- I2S_EVENT.LOSS [7:0] W1C, reset 0: Bit k: port k lost its clock -/
abbrev I2S_EVENT_LOSS : Field := ⟨I2S_EVENT, 0, 8⟩
/-- I2S_EVENT.GLITCH [15:8] W1C, reset 0: Bit k: port k had a glitch -/
abbrev I2S_EVENT_GLITCH : Field := ⟨I2S_EVENT, 8, 8⟩

/-- The registers of block AUD: address, index ranges, access masks and reset word. -/
def regsAUD : List RegDesc := [
  { base := 0x1800000, dims := [], rw := 0x0, w1c := 0x0, rs := 0x0, wo := 0x0, reset := fun _ _ _ => 0x0 },
  { base := 0x1800004, dims := [], rw := 0x0, w1c := 0x1F, rs := 0x0, wo := 0x0, reset := fun _ _ _ => 0x0 },
  { base := 0x1800010, dims := [(0x8, 0x4)], rw := 0x0, w1c := 0x0, rs := 0x0, wo := 0x0, reset := fun _ _ _ => 0x0 },
  { base := 0x1800040, dims := [(0x6, 0x4)], rw := 0x0, w1c := 0x0, rs := 0xFFFFFFFF, wo := 0x0, reset := fun _ _ _ => 0x0 },
  { base := 0x1800100, dims := [(0x40, 0x8)], rw := 0x1FFFF, w1c := 0x0, rs := 0x0, wo := 0x0, reset := fun _ _ _ => 0xFA0 },
  { base := 0x1800104, dims := [(0x40, 0x8)], rw := 0xFFFF07FF, w1c := 0x0, rs := 0x0, wo := 0x0, reset := fun _ _ _ => 0x646400C8 },
  { base := 0x1800400, dims := [(0x60, 0x4)], rw := 0x77777777, w1c := 0x0, rs := 0x0, wo := 0x0, reset := fun _ _ _ => 0x0 },
  { base := 0x1801000, dims := [(0xC00, 0x4)], rw := 0x3, w1c := 0x0, rs := 0x0, wo := 0x0, reset := fun _ _ _ => 0x0 },
  { base := 0x1804000, dims := [(0x480, 0x8), (0x2, 0x4)], rw := 0x9F9F9F9F, w1c := 0x0, rs := 0x0, wo := 0x0, reset := fun _ k _ => (audMapReset k) },
  { base := 0x1808000, dims := [(0x480, 0x8), (0x2, 0x4)], rw := 0x9F9F9F9F, w1c := 0x0, rs := 0x0, wo := 0x0, reset := fun _ k _ => (audMapReset k) },
  { base := 0x180C000, dims := [(0x480, 0x4)], rw := 0x7, w1c := 0x0, rs := 0x0, wo := 0x0, reset := fun _ _ _ => 0x3 },
  { base := 0x1810000, dims := [(0xC000, 0x4)], rw := 0xFFFF, w1c := 0x0, rs := 0x0, wo := 0x0, reset := fun _ _ _ => 0x0 },
  { base := 0x1840000, dims := [(0xC000, 0x4)], rw := 0x0, w1c := 0x0, rs := 0x0, wo := 0x0, reset := fun _ _ _ => 0x0 },
  { base := 0x1870000, dims := [(0xC000, 0x4)], rw := 0x0, w1c := 0x0, rs := 0x0, wo := 0x0, reset := fun a _ _ => (a) }]

/-- The registers of block I2S: address, index ranges, access masks and reset word. -/
def regsI2S : List RegDesc := [
  { base := 0x1900000, dims := [(0x8, 0x20)], rw := 0x3F, w1c := 0x0, rs := 0x0, wo := 0x0, reset := fun _ _ _ => 0x10 },
  { base := 0x1900004, dims := [(0x8, 0x20)], rw := 0x0, w1c := 0x6, rs := 0x0, wo := 0x0, reset := fun _ _ _ => 0x0 },
  { base := 0x1900008, dims := [(0x8, 0x20)], rw := 0xFFFFFFFF, w1c := 0x0, rs := 0x0, wo := 0x0, reset := fun _ _ _ => 0x10000 },
  { base := 0x190000C, dims := [(0x8, 0x20)], rw := 0x0, w1c := 0x0, rs := 0xFFFFFFFF, wo := 0x0, reset := fun _ _ _ => 0x0 },
  { base := 0x1900010, dims := [(0x8, 0x20)], rw := 0x0, w1c := 0x0, rs := 0x0, wo := 0x0, reset := fun _ _ _ => 0x0 },
  { base := 0x1900100, dims := [], rw := 0x0, w1c := 0xFFFF, rs := 0x0, wo := 0x0, reset := fun _ _ _ => 0x0 }]

end Sys2Proof.Machine
end

