-- ==== Sys2Proof/Machine/RegsCtn.lean ====
section
/-! DEFINITION. The registers of containers (CTN): the address of each register, the place of each field,
its access type and its reset value, as the register tables of spec/04_containers_slots_and_partners.md give them. -/

namespace Sys2Proof.Machine

/-- Register CTN_CFG (instance n), offset 0x000 of its block. -/
abbrev CTN_CFG (n : Nat) : Nat := 0xC00000 + 0x4000 * n
/-- CTN_CFG.GANG_AUTO [0:0] RW, reset 1: Input gang layout follows received GANG_MAP (R124) -/
abbrev CTN_CFG_GANG_AUTO (n : Nat) : Field := ⟨CTN_CFG n, 0, 1⟩
/-- CTN_CFG.IDENT_EN [1:1] RW, reset 1: Send identity words (R128) -/
abbrev CTN_CFG_IDENT_EN (n : Nat) : Field := ⟨CTN_CFG n, 1, 1⟩

/-- Register CTN_STATUS (instance n), offset 0x004 of its block. -/
abbrev CTN_STATUS (n : Nat) : Nat := 0xC00004 + 0x4000 * n
/-- CTN_STATUS.FRAME_STATE [1:0] RO, reset 0: Table 04-5 -/
abbrev CTN_STATUS_FRAME_STATE (n : Nat) : Field := ⟨CTN_STATUS n, 0, 2⟩
/-- CTN_STATUS.NO_FRAMING [2:2] W1C, reset 0: R143 -/
abbrev CTN_STATUS_NO_FRAMING (n : Nat) : Field := ⟨CTN_STATUS n, 2, 1⟩
/-- CTN_STATUS.HDR_CRC_ERR [3:3] W1C, reset 0: R144 -/
abbrev CTN_STATUS_HDR_CRC_ERR (n : Nat) : Field := ⟨CTN_STATUS n, 3, 1⟩
/-- CTN_STATUS.GANG_CHANGE [4:4] W1C, reset 0: R124 -/
abbrev CTN_STATUS_GANG_CHANGE (n : Nat) : Field := ⟨CTN_STATUS n, 4, 1⟩
/-- CTN_STATUS.GANG_BAD [5:5] W1C, reset 0: R125 -/
abbrev CTN_STATUS_GANG_BAD (n : Nat) : Field := ⟨CTN_STATUS n, 5, 1⟩
/-- CTN_STATUS.COUNT_ERR [6:6] W1C, reset 0: R145 -/
abbrev CTN_STATUS_COUNT_ERR (n : Nat) : Field := ⟨CTN_STATUS n, 6, 1⟩
/-- CTN_STATUS.QL_SKEW [7:7] W1C, reset 0: R126 -/
abbrev CTN_STATUS_QL_SKEW (n : Nat) : Field := ⟨CTN_STATUS n, 7, 1⟩
/-- CTN_STATUS.IDX_ERR [8:8] W1C, reset 0: R142 -/
abbrev CTN_STATUS_IDX_ERR (n : Nat) : Field := ⟨CTN_STATUS n, 8, 1⟩
/-- CTN_STATUS.RX_CLAIM [9:9] RO, reset 0: CLAIM of the last valid received header -/
abbrev CTN_STATUS_RX_CLAIM (n : Nat) : Field := ⟨CTN_STATUS n, 9, 1⟩

/-- Register CTN_TX_MAP (instance n), offset 0x008 of its block. -/
abbrev CTN_TX_MAP (n : Nat) : Nat := 0xC00008 + 0x4000 * n
/-- CTN_TX_MAP.MAP [31:0] RO, reset 0: SLOT_MAP of the last block sent -/
abbrev CTN_TX_MAP_MAP (n : Nat) : Field := ⟨CTN_TX_MAP n, 0, 32⟩

/-- Register CTN_RX_MAP (instance n), offset 0x00C of its block. -/
abbrev CTN_RX_MAP (n : Nat) : Nat := 0xC0000C + 0x4000 * n
/-- CTN_RX_MAP.MAP [31:0] RO, reset 0: SLOT_MAP of the last valid block received -/
abbrev CTN_RX_MAP_MAP (n : Nat) : Field := ⟨CTN_RX_MAP n, 0, 32⟩

/-- Register CTN_TX_GANG (instance n, k = 0 to 2), offset 0x010 + 4k of its block. -/
abbrev CTN_TX_GANG (n : Nat) (k : Nat) : Nat := 0xC00010 + 0x4000 * n + 0x4 * k
/-- CTN_TX_GANG.GANG [31:0] RO, reset 0: Bits [32k + 31 : 32k] of the GANG_MAP last sent -/
abbrev CTN_TX_GANG_GANG (n : Nat) (k : Nat) : Field := ⟨CTN_TX_GANG n k, 0, 32⟩

/-- Register CTN_RX_GANG (instance n, k = 0 to 2), offset 0x020 + 4k of its block. -/
abbrev CTN_RX_GANG (n : Nat) (k : Nat) : Nat := 0xC00020 + 0x4000 * n + 0x4 * k
/-- CTN_RX_GANG.GANG [31:0] RW, reset 0: Bits [32k + 31 : 32k] of the input gang layout in use; a write is ignored while GANG_AUTO is 1 -/
abbrev CTN_RX_GANG_GANG (n : Nat) (k : Nat) : Field := ⟨CTN_RX_GANG n k, 0, 32⟩

/-- Register CTN_SLOTM (instance n), offset 0x030 of its block. -/
abbrev CTN_SLOTM (n : Nat) : Nat := 0xC00030 + 0x4000 * n
/-- CTN_SLOTM.MASK [31:0] RO, reset 0xFFFF_FFFF: Bit s: 1 while the mask in force is 1 for at least one quarter of slot s (R133); changed only by SLOTM -/
abbrev CTN_SLOTM_MASK (n : Nat) : Field := ⟨CTN_SLOTM n, 0, 32⟩

/-- Register CTN_SLOTM_PEND (instance n), offset 0x034 of its block. -/
abbrev CTN_SLOTM_PEND (n : Nat) : Nat := 0xC00034 + 0x4000 * n
/-- CTN_SLOTM_PEND.MASK [31:0] RO, reset 0xFFFF_FFFF: Mask that applies once every issued SLOTM has landed -/
abbrev CTN_SLOTM_PEND_MASK (n : Nat) : Field := ⟨CTN_SLOTM_PEND n, 0, 32⟩

/-- Register CTN_TRANS (instance n, k = 0 to 3), offset 0x040 + 4k of its block. -/
abbrev CTN_TRANS (n : Nat) (k : Nat) : Nat := 0xC00040 + 0x4000 * n + 0x4 * k
/-- CTN_TRANS.TRANS [31:0] RW, reset 0: Bit i: input area 32k + i is bit-transparent (R132) -/
abbrev CTN_TRANS_TRANS (n : Nat) (k : Nat) : Field := ⟨CTN_TRANS n k, 0, 32⟩

/-- Register CTN_HDR_ERR (instance n), offset 0x050 of its block. -/
abbrev CTN_HDR_ERR (n : Nat) : Nat := 0xC00050 + 0x4000 * n
/-- CTN_HDR_ERR.COUNT [31:0] RS, reset 0: Headers failing R115, saturating; cleared by the read -/
abbrev CTN_HDR_ERR_COUNT (n : Nat) : Field := ⟨CTN_HDR_ERR n, 0, 32⟩

/-- Register CTN_DMG (instance n), offset 0x054 of its block. -/
abbrev CTN_DMG (n : Nat) : Nat := 0xC00054 + 0x4000 * n
/-- CTN_DMG.COUNT [31:0] RS, reset 0: Damaged input lines replaced (R144), saturating; cleared by the read -/
abbrev CTN_DMG_COUNT (n : Nat) : Field := ⟨CTN_DMG n, 0, 32⟩

/-- Register CTN_RX_IDENT (instance n, k = 0 to 1), offset 0x060 + 4k of its block. -/
abbrev CTN_RX_IDENT (n : Nat) (k : Nat) : Nat := 0xC00060 + 0x4000 * n + 0x4 * k
/-- CTN_RX_IDENT.HI [31:16] RO, reset 0: k = 0: H11; k = 1: H13, of the last valid identity word -/
abbrev CTN_RX_IDENT_HI (n : Nat) (k : Nat) : Field := ⟨CTN_RX_IDENT n k, 16, 16⟩
/-- CTN_RX_IDENT.LO [15:0] RO, reset 0: k = 0: H12; k = 1: H14, of the last valid identity word -/
abbrev CTN_RX_IDENT_LO (n : Nat) (k : Nat) : Field := ⟨CTN_RX_IDENT n k, 0, 16⟩

/-- The registers of block CTN: address, index ranges, access masks and reset word. -/
def regsCTN : List RegDesc := [
  { base := 0xC00000, dims := [(0x24, 0x4000)], rw := 0x3, w1c := 0x0, rs := 0x0, wo := 0x0, reset := fun _ _ _ => 0x3 },
  { base := 0xC00004, dims := [(0x24, 0x4000)], rw := 0x0, w1c := 0x1FC, rs := 0x0, wo := 0x0, reset := fun _ _ _ => 0x0 },
  { base := 0xC00008, dims := [(0x24, 0x4000)], rw := 0x0, w1c := 0x0, rs := 0x0, wo := 0x0, reset := fun _ _ _ => 0x0 },
  { base := 0xC0000C, dims := [(0x24, 0x4000)], rw := 0x0, w1c := 0x0, rs := 0x0, wo := 0x0, reset := fun _ _ _ => 0x0 },
  { base := 0xC00010, dims := [(0x24, 0x4000), (0x3, 0x4)], rw := 0x0, w1c := 0x0, rs := 0x0, wo := 0x0, reset := fun _ _ _ => 0x0 },
  { base := 0xC00020, dims := [(0x24, 0x4000), (0x3, 0x4)], rw := 0xFFFFFFFF, w1c := 0x0, rs := 0x0, wo := 0x0, reset := fun _ _ _ => 0x0 },
  { base := 0xC00030, dims := [(0x24, 0x4000)], rw := 0x0, w1c := 0x0, rs := 0x0, wo := 0x0, reset := fun _ _ _ => 0xFFFFFFFF },
  { base := 0xC00034, dims := [(0x24, 0x4000)], rw := 0x0, w1c := 0x0, rs := 0x0, wo := 0x0, reset := fun _ _ _ => 0xFFFFFFFF },
  { base := 0xC00040, dims := [(0x24, 0x4000), (0x4, 0x4)], rw := 0xFFFFFFFF, w1c := 0x0, rs := 0x0, wo := 0x0, reset := fun _ _ _ => 0x0 },
  { base := 0xC00050, dims := [(0x24, 0x4000)], rw := 0x0, w1c := 0x0, rs := 0xFFFFFFFF, wo := 0x0, reset := fun _ _ _ => 0x0 },
  { base := 0xC00054, dims := [(0x24, 0x4000)], rw := 0x0, w1c := 0x0, rs := 0xFFFFFFFF, wo := 0x0, reset := fun _ _ _ => 0x0 },
  { base := 0xC00060, dims := [(0x24, 0x4000), (0x2, 0x4)], rw := 0x0, w1c := 0x0, rs := 0x0, wo := 0x0, reset := fun _ _ _ => 0x0 }]

end Sys2Proof.Machine
end

