-- ==== Sys2Proof/Machine/RegsMgt.lean ====
section
/-! DEFINITION. The registers of management, mailboxes, control bus, update (MGT, MBX, CBS, UPD): the address of each register, the place of each field,
its access type and its reset value, as the register tables of spec/15_management_mailboxes_and_update.md give them. -/

namespace Sys2Proof.Machine

/-- Register MGT_STATUS, offset 0x000 of its block. -/
abbrev MGT_STATUS : Nat := 0x3A00000
/-- MGT_STATUS.STATE [1:0] RO, reset 0: 0 boot ROM, 1 image running, 2 recovery (R577), 3 restarting -/
abbrev MGT_STATUS_STATE : Field := ⟨MGT_STATUS, 0, 2⟩
/-- MGT_STATUS.TRIAL [2:2] RO, reset 0: Running image is on trial (R609) -/
abbrev MGT_STATUS_TRIAL : Field := ⟨MGT_STATUS, 2, 1⟩
/-- MGT_STATUS.SLOT [3:3] RO, reset 0: Running slot: 0 A, 1 B -/
abbrev MGT_STATUS_SLOT : Field := ⟨MGT_STATUS, 3, 1⟩
/-- MGT_STATUS.BOOT [15:8] RO, reset 0: Starts since device reset, saturating -/
abbrev MGT_STATUS_BOOT : Field := ⟨MGT_STATUS, 8, 8⟩

/-- Register MGT_VERSION, offset 0x004 of its block. -/
abbrev MGT_VERSION : Nat := 0x3A00004
/-- MGT_VERSION.VERSION [31:0] RO, reset 0: Image version of the running image -/
abbrev MGT_VERSION_VERSION : Field := ⟨MGT_VERSION, 0, 32⟩

/-- Register MGT_CTRL, offset 0x008 of its block. -/
abbrev MGT_CTRL : Nat := 0x3A00008
/-- MGT_CTRL.RESTART [0:0] WO, reset 0: Restart the controller (R575) -/
abbrev MGT_CTRL_RESTART : Field := ⟨MGT_CTRL, 0, 1⟩

/-- Register MGT_ALARM (k = 0 to 1), offset 0x010 + 4k of its block. -/
abbrev MGT_ALARM (k : Nat) : Nat := 0x3A00010 + 0x4 * k
/-- MGT_ALARM.ALARM [31:0] W1C, reset 0: Bit i: sensor 32k + i raised an alarm (R582) -/
abbrev MGT_ALARM_ALARM (k : Nat) : Field := ⟨MGT_ALARM k, 0, 32⟩

/-- Register MGT_AMASK (k = 0 to 1), offset 0x018 + 4k of its block. -/
abbrev MGT_AMASK (k : Nat) : Nat := 0x3A00018 + 0x4 * k
/-- MGT_AMASK.MASK [31:0] RW, reset 0xFFFF_FFFF: Bit i: alarm of sensor 32k + i drives ALERT_N -/
abbrev MGT_AMASK_MASK (k : Nat) : Field := ⟨MGT_AMASK k, 0, 32⟩

/-- Register MGT_LOG_SEQ, offset 0x020 of its block. -/
abbrev MGT_LOG_SEQ : Nat := 0x3A00020
/-- MGT_LOG_SEQ.SEQ [31:0] RO, reset 0: SEQ of the next record -/
abbrev MGT_LOG_SEQ_SEQ : Field := ⟨MGT_LOG_SEQ, 0, 32⟩

/-- Register MGT_LOG_LOST, offset 0x024 of its block. -/
abbrev MGT_LOG_LOST : Nat := 0x3A00024
/-- MGT_LOG_LOST.COUNT [31:0] RS, reset 0: Captures lost (R583), saturating; cleared by the read -/
abbrev MGT_LOG_LOST_COUNT : Field := ⟨MGT_LOG_LOST, 0, 32⟩

/-- Register MGT_SENS (i = 0 to 63), offset 0x100 + 4i of its block. -/
abbrev MGT_SENS (i : Nat) : Nat := 0x3A00100 + 0x4 * i
/-- MGT_SENS.VALUE [15:0] RO, reset 0: Reading, signed, in the unit of Table 15-4 -/
abbrev MGT_SENS_VALUE (i : Nat) : Field := ⟨MGT_SENS i, 0, 16⟩
/-- MGT_SENS.VALID [16:16] RO, reset 0: R580 -/
abbrev MGT_SENS_VALID (i : Nat) : Field := ⟨MGT_SENS i, 16, 1⟩
/-- MGT_SENS.ALM_LO [17:17] RO, reset 0: LO alarm active (R581) -/
abbrev MGT_SENS_ALM_LO (i : Nat) : Field := ⟨MGT_SENS i, 17, 1⟩
/-- MGT_SENS.ALM_HI [18:18] RO, reset 0: HI alarm active -/
abbrev MGT_SENS_ALM_HI (i : Nat) : Field := ⟨MGT_SENS i, 18, 1⟩
/-- MGT_SENS.WHERE [31:20] RO, reset 0: Sensor 39: trellis × 8 + lane; else 0 -/
abbrev MGT_SENS_WHERE (i : Nat) : Field := ⟨MGT_SENS i, 20, 12⟩

/-- Register MGT_THR (i = 0 to 63), offset 0x200 + 4i of its block. -/
abbrev MGT_THR (i : Nat) : Nat := 0x3A00200 + 0x4 * i
/-- MGT_THR.LO [15:0] RW, reset Table 15-4; 0x8000 for none: Low limit, signed -/
abbrev MGT_THR_LO (i : Nat) : Field := ⟨MGT_THR i, 0, 16⟩
/-- MGT_THR.HI [31:16] RW, reset Table 15-4; 0x7FFF for none: High limit, signed -/
abbrev MGT_THR_HI (i : Nat) : Field := ⟨MGT_THR i, 16, 16⟩

/-- Register MGT_NOM (k = 0 to 23), offset 0x300 + 4k of its block. -/
abbrev MGT_NOM (k : Nat) : Nat := 0x3A00300 + 0x4 * k
/-- MGT_NOM.MV [15:0] RO, reset Rail: Nominal voltage of rail k in mV -/
abbrev MGT_NOM_MV (k : Nat) : Field := ⟨MGT_NOM k, 0, 16⟩

/-- Register MBX_SLOT (s = 0 to 7, w = 0 to 63), offset 0x0_0000 + 0x800 × c + 0x100 × s + 4w of its block. -/
abbrev MBX_SLOT (c : Nat) (s : Nat) (w : Nat) : Nat := 0x3B00000 + 0x800 * c + 0x100 * s + 0x4 * w
/-- MBX_SLOT.DATA [31:0] RW, reset 0: Bytes 4w to 4w + 3 of slot s; access as in R589, R593 and R594 -/
abbrev MBX_SLOT_DATA (c : Nat) (s : Nat) (w : Nat) : Field := ⟨MBX_SLOT c s w, 0, 32⟩

/-- Register MBX_POST, offset 0xD_0000 + 4c of its block. -/
abbrev MBX_POST (c : Nat) : Nat := 0x3BD0000 + 0x4 * c
/-- MBX_POST.POST [0:0] WO, reset 0: Post slot WR (R588) -/
abbrev MBX_POST_POST (c : Nat) : Field := ⟨MBX_POST c, 0, 1⟩

/-- Register MBX_FREE, offset 0xD_1000 + 4c of its block. -/
abbrev MBX_FREE (c : Nat) : Nat := 0x3BD1000 + 0x4 * c
/-- MBX_FREE.FREE [0:0] WO, reset 0: Free slot RD (R590) -/
abbrev MBX_FREE_FREE (c : Nat) : Field := ⟨MBX_FREE c, 0, 1⟩

/-- Register MBX_CH, offset 0xD_2000 + 4c of its block. -/
abbrev MBX_CH (c : Nat) : Nat := 0x3BD2000 + 0x4 * c
/-- MBX_CH.COUNT [3:0] RO, reset 0: Posted slots, 0–8 -/
abbrev MBX_CH_COUNT (c : Nat) : Field := ⟨MBX_CH c, 0, 4⟩
/-- MBX_CH.RD [6:4] RO, reset 0: Oldest posted slot -/
abbrev MBX_CH_RD (c : Nat) : Field := ⟨MBX_CH c, 4, 3⟩
/-- MBX_CH.WR [9:7] RO, reset 0: Slot the sender fills next -/
abbrev MBX_CH_WR (c : Nat) : Field := ⟨MBX_CH c, 7, 3⟩
/-- MBX_CH.POSTED [17:10] RO, reset 0: Bit s: POST bit of slot s -/
abbrev MBX_CH_POSTED (c : Nat) : Field := ⟨MBX_CH c, 10, 8⟩

/-- Register MBX_EPOCH, offset 0xD_3000 + 4c of its block. -/
abbrev MBX_EPOCH (c : Nat) : Nat := 0x3BD3000 + 0x4 * c
/-- MBX_EPOCH.SENDER_EPOCH [15:0] RO, reset 0: R596 -/
abbrev MBX_EPOCH_SENDER_EPOCH (c : Nat) : Field := ⟨MBX_EPOCH c, 0, 16⟩
/-- MBX_EPOCH.RECEIVER_EPOCH [31:16] RO, reset 0: R595 -/
abbrev MBX_EPOCH_RECEIVER_EPOCH (c : Nat) : Field := ⟨MBX_EPOCH c, 16, 16⟩

/-- Register MBX_HEAD, offset 0xD_4000 + 4c of its block. -/
abbrev MBX_HEAD (c : Nat) : Nat := 0x3BD4000 + 0x4 * c
/-- MBX_HEAD.EPOCH [7:0] RO, reset 0: Sender epoch recorded in slot RD -/
abbrev MBX_HEAD_EPOCH (c : Nat) : Field := ⟨MBX_HEAD c, 0, 8⟩
/-- MBX_HEAD.FROM [23:8] RO, reset 0: Sender code of slot RD, channels 368–383; else 0 -/
abbrev MBX_HEAD_FROM (c : Nat) : Field := ⟨MBX_HEAD c, 8, 16⟩
/-- MBX_HEAD.VALID [31:31] RO, reset 0: COUNT is not 0 -/
abbrev MBX_HEAD_VALID (c : Nat) : Field := ⟨MBX_HEAD c, 31, 1⟩

/-- Register MBX_PEND (k = 0 to 12), offset 0xD_8000 + 0x40 × b + 4k of its block. -/
abbrev MBX_PEND (b : Nat) (k : Nat) : Nat := 0x3BD8000 + 0x40 * b + 0x4 * k
/-- MBX_PEND.PEND [31:0] RO, reset 0: Bit i: channel 32k + i has posted slots and its receiver owns bank b -/
abbrev MBX_PEND_PEND (b : Nat) (k : Nat) : Field := ⟨MBX_PEND b k, 0, 32⟩

/-- Register MBX_DB, offset 0xE_0000 + 0x10 × b of its block. -/
abbrev MBX_DB (b : Nat) : Nat := 0x3BE0000 + 0x10 * b
/-- MBX_DB.BITS [31:0] W1C, reset 0: Doorbell bits (R600) -/
abbrev MBX_DB_BITS (b : Nat) : Field := ⟨MBX_DB b, 0, 32⟩

/-- Register MBX_DB_MASK, offset 0xE_0004 + 0x10 × b of its block. -/
abbrev MBX_DB_MASK (b : Nat) : Nat := 0x3BE0004 + 0x10 * b
/-- MBX_DB_MASK.MASK [31:0] RW, reset 0xFFFF_FFFF: Bit i = 1: doorbell bit i notifies (R601); written by the receiver or M0 -/
abbrev MBX_DB_MASK_MASK (b : Nat) : Field := ⟨MBX_DB_MASK b, 0, 32⟩

/-- Register MBX_DB_SET, offset 0xE_0008 + 0x10 × b of its block. -/
abbrev MBX_DB_SET (b : Nat) : Nat := 0x3BE0008 + 0x10 * b
/-- MBX_DB_SET.SET [31:0] WO, reset 0: Each 1 sets that doorbell bit (R600) -/
abbrev MBX_DB_SET_SET (b : Nat) : Field := ⟨MBX_DB_SET b, 0, 32⟩

/-- Register MBX_STATUS, offset 0xF_0000 of its block. -/
abbrev MBX_STATUS : Nat := 0x3BF0000
/-- MBX_STATUS.POST_FULL [0:0] W1C, reset 0: R588 -/
abbrev MBX_STATUS_POST_FULL : Field := ⟨MBX_STATUS, 0, 1⟩
/-- MBX_STATUS.WR_ERR [1:1] W1C, reset 0: R593 -/
abbrev MBX_STATUS_WR_ERR : Field := ⟨MBX_STATUS, 1, 1⟩
/-- MBX_STATUS.FREE_ERR [2:2] W1C, reset 0: R590 -/
abbrev MBX_STATUS_FREE_ERR : Field := ⟨MBX_STATUS, 2, 1⟩
/-- MBX_STATUS.ACC_ERR [3:3] W1C, reset 0: R593 -/
abbrev MBX_STATUS_ACC_ERR : Field := ⟨MBX_STATUS, 3, 1⟩
/-- MBX_STATUS.SEC_ERR [4:4] W1C, reset 0: R594 -/
abbrev MBX_STATUS_SEC_ERR : Field := ⟨MBX_STATUS, 4, 1⟩
/-- MBX_STATUS.ERR_CH [24:16] RO, reset 0: Channel of the last error -/
abbrev MBX_STATUS_ERR_CH : Field := ⟨MBX_STATUS, 16, 9⟩

/-- Register CBS_CFG, offset 0x000 of its block. -/
abbrev CBS_CFG : Nat := 0x3C00000
/-- CBS_CFG.EN [0:0] RW, reset 1: Port enabled -/
abbrev CBS_CFG_EN : Field := ⟨CBS_CFG, 0, 1⟩
/-- CBS_CFG.CMD_EN [1:1] RW, reset 1: Commands accepted (R605) -/
abbrev CBS_CFG_CMD_EN : Field := ⟨CBS_CFG, 1, 1⟩
/-- CBS_CFG.ETYPE [31:16] RW, reset 0x88B5: EtherType of command frames -/
abbrev CBS_CFG_ETYPE : Field := ⟨CBS_CFG, 16, 16⟩

/-- Register CBS_MAC (k = 0 to 1), offset 0x004 + 4k of its block. -/
abbrev CBS_MAC (k : Nat) : Nat := 0x3C00004 + 0x4 * k
/-- CBS_MAC.VALUE [31:0] RW, reset OTP: k = 0: MAC [47:16]; k = 1: [15:0] MAC [15:0], [31:16] reserved -/
abbrev CBS_MAC_VALUE (k : Nat) : Field := ⟨CBS_MAC k, 0, 32⟩

/-- Register CBS_STATUS, offset 0x00C of its block. -/
abbrev CBS_STATUS : Nat := 0x3C0000C
/-- CBS_STATUS.CARRIER [0:0] RO, reset 0: Medium busy -/
abbrev CBS_STATUS_CARRIER : Field := ⟨CBS_STATUS, 0, 1⟩
/-- CBS_STATUS.TX_BUSY [1:1] RO, reset 0: A frame is being sent or is waiting -/
abbrev CBS_STATUS_TX_BUSY : Field := ⟨CBS_STATUS, 1, 1⟩
/-- CBS_STATUS.COLL [8:8] W1C, reset 0: R603 -/
abbrev CBS_STATUS_COLL : Field := ⟨CBS_STATUS, 8, 1⟩
/-- CBS_STATUS.LATE_COLL [9:9] W1C, reset 0: R603 -/
abbrev CBS_STATUS_LATE_COLL : Field := ⟨CBS_STATUS, 9, 1⟩
/-- CBS_STATUS.EXCESS_COLL [10:10] W1C, reset 0: R603 -/
abbrev CBS_STATUS_EXCESS_COLL : Field := ⟨CBS_STATUS, 10, 1⟩
/-- CBS_STATUS.RX_FCS [11:11] W1C, reset 0: R604 -/
abbrev CBS_STATUS_RX_FCS : Field := ⟨CBS_STATUS, 11, 1⟩
/-- CBS_STATUS.RX_RUNT [12:12] W1C, reset 0: R604 -/
abbrev CBS_STATUS_RX_RUNT : Field := ⟨CBS_STATUS, 12, 1⟩
/-- CBS_STATUS.RX_LONG [13:13] W1C, reset 0: R604 -/
abbrev CBS_STATUS_RX_LONG : Field := ⟨CBS_STATUS, 13, 1⟩
/-- CBS_STATUS.RX_OVF [14:14] W1C, reset 0: R604 -/
abbrev CBS_STATUS_RX_OVF : Field := ⟨CBS_STATUS, 14, 1⟩
/-- CBS_STATUS.RX_ETYPE [15:15] W1C, reset 0: R605 -/
abbrev CBS_STATUS_RX_ETYPE : Field := ⟨CBS_STATUS, 15, 1⟩

/-- Register CBS_CNT (k = 0 to 7), offset 0x010 + 4k of its block. -/
abbrev CBS_CNT (k : Nat) : Nat := 0x3C00010 + 0x4 * k
/-- CBS_CNT.COUNT [31:0] RS, reset 0: k = 0 frames sent; 1 frames accepted; 2 collisions; 3 late collisions; 4 excess-collision discards; 5 FCS errors; 6 runt and long frames; 7 overflows. Saturating; cleared by the read -/
abbrev CBS_CNT_COUNT (k : Nat) : Field := ⟨CBS_CNT k, 0, 32⟩

/-- Register UPD_CFG, offset 0x000 of its block. -/
abbrev UPD_CFG : Nat := 0x3D00000
/-- UPD_CFG.WINDOW_S [9:0] RW, reset 120: Health window in s, clamped to 10–600 (R609) -/
abbrev UPD_CFG_WINDOW_S : Field := ⟨UPD_CFG, 0, 10⟩
/-- UPD_CFG.AUTO_CONFIRM [10:10] RW, reset 0: The trial image confirms itself after its health checks (R612) -/
abbrev UPD_CFG_AUTO_CONFIRM : Field := ⟨UPD_CFG, 10, 1⟩
/-- UPD_CFG.SETTLE_S [18:11] RW, reset 30: Time in s for which the health checks must hold, clamped to 1–255 (R612) -/
abbrev UPD_CFG_SETTLE_S : Field := ⟨UPD_CFG, 11, 8⟩

/-- Register UPD_STATUS, offset 0x004 of its block. -/
abbrev UPD_STATUS : Nat := 0x3D00004
/-- UPD_STATUS.STATE [2:0] RO, reset 0: Table 15-11 -/
abbrev UPD_STATUS_STATE : Field := ⟨UPD_STATUS, 0, 3⟩
/-- UPD_STATUS.REASON [6:3] RO, reset 0: Reason of the last refusal (R606) -/
abbrev UPD_STATUS_REASON : Field := ⟨UPD_STATUS, 3, 4⟩
/-- UPD_STATUS.CRASHES [8:7] RO, reset 0: Crash count of the trial (R613) -/
abbrev UPD_STATUS_CRASHES : Field := ⟨UPD_STATUS, 7, 2⟩
/-- UPD_STATUS.SLOT_NEW [9:9] RO, reset 0: Slot receiving or on trial: 0 A, 1 B -/
abbrev UPD_STATUS_SLOT_NEW : Field := ⟨UPD_STATUS, 9, 1⟩
/-- UPD_STATUS.WINDOW_LEFT [25:16] RO, reset 0: Seconds left in the health window -/
abbrev UPD_STATUS_WINDOW_LEFT : Field := ⟨UPD_STATUS, 16, 10⟩

/-- Register UPD_CONFIRM, offset 0x008 of its block. -/
abbrev UPD_CONFIRM : Nat := 0x3D00008
/-- UPD_CONFIRM.KEY [15:0] WO, reset 0: 0xC0DE from M0 in TRIAL confirms the image (R611) -/
abbrev UPD_CONFIRM_KEY : Field := ⟨UPD_CONFIRM, 0, 16⟩

/-- Register UPD_EVENT, offset 0x00C of its block. -/
abbrev UPD_EVENT : Nat := 0x3D0000C
/-- UPD_EVENT.VERIFIED [0:0] W1C, reset 0: VERIFIED entered -/
abbrev UPD_EVENT_VERIFIED : Field := ⟨UPD_EVENT, 0, 1⟩
/-- UPD_EVENT.REJECTED [1:1] W1C, reset 0: REJECTED entered -/
abbrev UPD_EVENT_REJECTED : Field := ⟨UPD_EVENT, 1, 1⟩
/-- UPD_EVENT.ACTIVATED [2:2] W1C, reset 0: R609 -/
abbrev UPD_EVENT_ACTIVATED : Field := ⟨UPD_EVENT, 2, 1⟩
/-- UPD_EVENT.CONFIRMED [3:3] W1C, reset 0: R611 -/
abbrev UPD_EVENT_CONFIRMED : Field := ⟨UPD_EVENT, 3, 1⟩
/-- UPD_EVENT.FALLBACK [4:4] W1C, reset 0: R613 -/
abbrev UPD_EVENT_FALLBACK : Field := ⟨UPD_EVENT, 4, 1⟩
/-- UPD_EVENT.SVN_ADVANCED [5:5] W1C, reset 0: Security counter raised -/
abbrev UPD_EVENT_SVN_ADVANCED : Field := ⟨UPD_EVENT, 5, 1⟩

/-- Register UPD_SVN, offset 0x010 of its block. -/
abbrev UPD_SVN : Nat := 0x3D00010
/-- UPD_SVN.COUNTER [7:0] RO, reset OTP: Security counter -/
abbrev UPD_SVN_COUNTER : Field := ⟨UPD_SVN, 0, 8⟩
/-- UPD_SVN.IMAGE_SVN [15:8] RO, reset 0: SVN of the image received or on trial -/
abbrev UPD_SVN_IMAGE_SVN : Field := ⟨UPD_SVN, 8, 8⟩

/-- Register UPD_KEYS, offset 0x014 of its block. -/
abbrev UPD_KEYS : Nat := 0x3D00014
/-- UPD_KEYS.PRESENT [3:0] RO, reset OTP: Bit n: key slot n programmed -/
abbrev UPD_KEYS_PRESENT : Field := ⟨UPD_KEYS, 0, 4⟩
/-- UPD_KEYS.REVOKED [7:4] RO, reset OTP: Bit n: key slot n revoked (R607) -/
abbrev UPD_KEYS_REVOKED : Field := ⟨UPD_KEYS, 4, 4⟩
/-- UPD_KEYS.RUNNING [9:8] RO, reset 0: Key slot of the running image -/
abbrev UPD_KEYS_RUNNING : Field := ⟨UPD_KEYS, 8, 2⟩

/-- The registers of block MGT: address, index ranges, access masks and reset word. -/
def regsMGT : List RegDesc := [
  { base := 0x3A00000, dims := [], rw := 0x0, w1c := 0x0, rs := 0x0, wo := 0x0, reset := fun _ _ _ => 0x0 },
  { base := 0x3A00004, dims := [], rw := 0x0, w1c := 0x0, rs := 0x0, wo := 0x0, reset := fun _ _ _ => 0x0 },
  { base := 0x3A00008, dims := [], rw := 0x0, w1c := 0x0, rs := 0x0, wo := 0x1, reset := fun _ _ _ => 0x0 },
  { base := 0x3A00010, dims := [(0x2, 0x4)], rw := 0x0, w1c := 0xFFFFFFFF, rs := 0x0, wo := 0x0, reset := fun _ _ _ => 0x0 },
  { base := 0x3A00018, dims := [(0x2, 0x4)], rw := 0xFFFFFFFF, w1c := 0x0, rs := 0x0, wo := 0x0, reset := fun _ _ _ => 0xFFFFFFFF },
  { base := 0x3A00020, dims := [], rw := 0x0, w1c := 0x0, rs := 0x0, wo := 0x0, reset := fun _ _ _ => 0x0 },
  { base := 0x3A00024, dims := [], rw := 0x0, w1c := 0x0, rs := 0xFFFFFFFF, wo := 0x0, reset := fun _ _ _ => 0x0 },
  { base := 0x3A00100, dims := [(0x40, 0x4)], rw := 0x0, w1c := 0x0, rs := 0x0, wo := 0x0, reset := fun _ _ _ => 0x0 },
  { base := 0x3A00200, dims := [(0x40, 0x4)], rw := 0xFFFFFFFF, w1c := 0x0, rs := 0x0, wo := 0x0, reset := fun i _ _ => ((mgtThrReset i).1) + ((mgtThrReset i).2) * 2 ^ 16 },
  { base := 0x3A00300, dims := [(0x18, 0x4)], rw := 0x0, w1c := 0x0, rs := 0x0, wo := 0x0, reset := fun _ _ _ => 0x0 }]

/-- The registers of block MBX: address, index ranges, access masks and reset word. -/
def regsMBX : List RegDesc := [
  { base := 0x3B00000, dims := [(0x18A, 0x800), (0x8, 0x100), (0x40, 0x4)], rw := 0xFFFFFFFF, w1c := 0x0, rs := 0x0, wo := 0x0, reset := fun _ _ _ => 0x0 },
  { base := 0x3BD0000, dims := [(0x18A, 0x4)], rw := 0x0, w1c := 0x0, rs := 0x0, wo := 0x1, reset := fun _ _ _ => 0x0 },
  { base := 0x3BD1000, dims := [(0x18A, 0x4)], rw := 0x0, w1c := 0x0, rs := 0x0, wo := 0x1, reset := fun _ _ _ => 0x0 },
  { base := 0x3BD2000, dims := [(0x18A, 0x4)], rw := 0x0, w1c := 0x0, rs := 0x0, wo := 0x0, reset := fun _ _ _ => 0x0 },
  { base := 0x3BD3000, dims := [(0x18A, 0x4)], rw := 0x0, w1c := 0x0, rs := 0x0, wo := 0x0, reset := fun _ _ _ => 0x0 },
  { base := 0x3BD4000, dims := [(0x18A, 0x4)], rw := 0x0, w1c := 0x0, rs := 0x0, wo := 0x0, reset := fun _ _ _ => 0x0 },
  { base := 0x3BD8000, dims := [(0x15, 0x40), (0xD, 0x4)], rw := 0x0, w1c := 0x0, rs := 0x0, wo := 0x0, reset := fun _ _ _ => 0x0 },
  { base := 0x3BE0000, dims := [(0x15, 0x10)], rw := 0x0, w1c := 0xFFFFFFFF, rs := 0x0, wo := 0x0, reset := fun _ _ _ => 0x0 },
  { base := 0x3BE0004, dims := [(0x15, 0x10)], rw := 0xFFFFFFFF, w1c := 0x0, rs := 0x0, wo := 0x0, reset := fun _ _ _ => 0xFFFFFFFF },
  { base := 0x3BE0008, dims := [(0x15, 0x10)], rw := 0x0, w1c := 0x0, rs := 0x0, wo := 0xFFFFFFFF, reset := fun _ _ _ => 0x0 },
  { base := 0x3BF0000, dims := [], rw := 0x0, w1c := 0x1F, rs := 0x0, wo := 0x0, reset := fun _ _ _ => 0x0 }]

/-- The registers of block CBS: address, index ranges, access masks and reset word. -/
def regsCBS : List RegDesc := [
  { base := 0x3C00000, dims := [], rw := 0xFFFF0003, w1c := 0x0, rs := 0x0, wo := 0x0, reset := fun _ _ _ => 0x88B50003 },
  { base := 0x3C00004, dims := [], rw := 0xFFFFFFFF, w1c := 0x0, rs := 0x0, wo := 0x0, reset := fun _ _ _ => 0x0 },
  { base := 0x3C00008, dims := [], rw := 0xFFFF, w1c := 0x0, rs := 0x0, wo := 0x0, reset := fun _ _ _ => 0x0 },
  { base := 0x3C0000C, dims := [], rw := 0x0, w1c := 0xFF00, rs := 0x0, wo := 0x0, reset := fun _ _ _ => 0x0 },
  { base := 0x3C00010, dims := [(0x8, 0x4)], rw := 0x0, w1c := 0x0, rs := 0xFFFFFFFF, wo := 0x0, reset := fun _ _ _ => 0x0 }]

/-- The registers of block UPD: address, index ranges, access masks and reset word. -/
def regsUPD : List RegDesc := [
  { base := 0x3D00000, dims := [], rw := 0x7FFFF, w1c := 0x0, rs := 0x0, wo := 0x0, reset := fun _ _ _ => 0xF078 },
  { base := 0x3D00004, dims := [], rw := 0x0, w1c := 0x0, rs := 0x0, wo := 0x0, reset := fun _ _ _ => 0x0 },
  { base := 0x3D00008, dims := [], rw := 0x0, w1c := 0x0, rs := 0x0, wo := 0xFFFF, reset := fun _ _ _ => 0x0 },
  { base := 0x3D0000C, dims := [], rw := 0x0, w1c := 0x3F, rs := 0x0, wo := 0x0, reset := fun _ _ _ => 0x0 },
  { base := 0x3D00010, dims := [], rw := 0x0, w1c := 0x0, rs := 0x0, wo := 0x0, reset := fun _ _ _ => 0x0 },
  { base := 0x3D00014, dims := [], rw := 0x0, w1c := 0x0, rs := 0x0, wo := 0x0, reset := fun _ _ _ => 0x0 }]

end Sys2Proof.Machine
end

