-- ==== Sys2Proof/Machine/RegsMtx.lean ====
section
/-! DEFINITION. The registers of matrix and host interface (MTX, PCI): the address of each register, the place of each field,
its access type and its reset value, as the register tables of spec/16_host_interface_and_control_matrix.md give them. -/

namespace Sys2Proof.Machine

/-- Register MTX_EVENT, offset 0x000 of its block. -/
abbrev MTX_EVENT : Nat := 0x3E00000
/-- MTX_EVENT.REFUSED [0:0] W1C, reset 0: A transaction was refused (R632) -/
abbrev MTX_EVENT_REFUSED : Field := ⟨MTX_EVENT, 0, 1⟩
/-- MTX_EVENT.UNMAPPED [1:1] W1C, reset 0: R635 -/
abbrev MTX_EVENT_UNMAPPED : Field := ⟨MTX_EVENT, 1, 1⟩
/-- MTX_EVENT.DOM_OFF [2:2] W1C, reset 0: R635 -/
abbrev MTX_EVENT_DOM_OFF : Field := ⟨MTX_EVENT, 2, 1⟩
/-- MTX_EVENT.CYCLE_HOLD [3:3] W1C, reset 0: R643 -/
abbrev MTX_EVENT_CYCLE_HOLD : Field := ⟨MTX_EVENT, 3, 1⟩
/-- MTX_EVENT.LOCK_ERR [4:4] W1C, reset 0: R645 -/
abbrev MTX_EVENT_LOCK_ERR : Field := ⟨MTX_EVENT, 4, 1⟩
/-- MTX_EVENT.LOCK_FORCED [5:5] W1C, reset 0: A forced release (R645) -/
abbrev MTX_EVENT_LOCK_FORCED : Field := ⟨MTX_EVENT, 5, 1⟩

/-- Register MTX_ERR_ADDR, offset 0x004 of its block. -/
abbrev MTX_ERR_ADDR : Nat := 0x3E00004
/-- MTX_ERR_ADDR.ADDR [31:0] RO, reset 0: Matrix address [31:0] of the last refused transaction -/
abbrev MTX_ERR_ADDR_ADDR : Field := ⟨MTX_ERR_ADDR, 0, 32⟩

/-- Register MTX_ERR_INFO, offset 0x008 of its block. -/
abbrev MTX_ERR_INFO : Nat := 0x3E00008
/-- MTX_ERR_INFO.ADDR_HI [2:0] RO, reset 0: Matrix address [34:32] -/
abbrev MTX_ERR_INFO_ADDR_HI : Field := ⟨MTX_ERR_INFO, 0, 3⟩
/-- MTX_ERR_INFO.WRITE [3:3] RO, reset 0: 1 for a write -/
abbrev MTX_ERR_INFO_WRITE : Field := ⟨MTX_ERR_INFO, 3, 1⟩
/-- MTX_ERR_INFO.MASTER [8:4] RO, reset 0: Master number -/
abbrev MTX_ERR_INFO_MASTER : Field := ⟨MTX_ERR_INFO, 4, 5⟩
/-- MTX_ERR_INFO.CAUSE [11:9] RO, reset 0: 1 no window; 2 direction; 3 secure or UPD; 4 aperture (R626); 5 register access size (R625) -/
abbrev MTX_ERR_INFO_CAUSE : Field := ⟨MTX_ERR_INFO, 9, 3⟩
/-- MTX_ERR_INFO.VALID [31:31] W1C, reset 0: A refusal is recorded -/
abbrev MTX_ERR_INFO_VALID : Field := ⟨MTX_ERR_INFO, 31, 1⟩

/-- Register MTX_MCFG (m = 0 to 21), offset 0x040 + 4m of its block. -/
abbrev MTX_MCFG (m : Nat) : Nat := 0x3E00040 + 0x4 * m
/-- MTX_MCFG.QOS [2:0] RW, reset Table 16-3: QoS of master m (R631) -/
abbrev MTX_MCFG_QOS (m : Nat) : Field := ⟨MTX_MCFG m, 0, 3⟩
/-- MTX_MCFG.OUT [13:8] RO, reset 0: Outstanding transactions, 0–32 -/
abbrev MTX_MCFG_OUT (m : Nat) : Field := ⟨MTX_MCFG m, 8, 6⟩

/-- Register MTX_PARK (t = 0 to 10), offset 0x0A0 + 4t of its block. -/
abbrev MTX_PARK (t : Nat) : Nat := 0x3E000A0 + 0x4 * t
/-- MTX_PARK.MASTER [4:0] RW, reset 0: Parked master (R639); values above 21 are stored as 0 -/
abbrev MTX_PARK_MASTER (t : Nat) : Field := ⟨MTX_PARK t, 0, 5⟩

/-- Register MTX_LOCK (n = 0 to 63), offset 0x100 + 4n of its block. -/
abbrev MTX_LOCK (n : Nat) : Nat := 0x3E00100 + 0x4 * n
/-- MTX_LOCK.OWNER [4:0] RS, reset 0: 0 when free, and the read acquires; else the holder's master number (R644) -/
abbrev MTX_LOCK_OWNER (n : Nat) : Field := ⟨MTX_LOCK n, 0, 5⟩
/-- MTX_LOCK.HELD [31:31] RS, reset 0: 1 when the lock was already held -/
abbrev MTX_LOCK_HELD (n : Nat) : Field := ⟨MTX_LOCK n, 31, 1⟩

/-- Register MTX_LOCK_REL (n = 0 to 63), offset 0x200 + 4n of its block. -/
abbrev MTX_LOCK_REL (n : Nat) : Nat := 0x3E00200 + 0x4 * n
/-- MTX_LOCK_REL.REL [0:0] WO, reset 0: Release (R645) -/
abbrev MTX_LOCK_REL_REL (n : Nat) : Field := ⟨MTX_LOCK_REL n, 0, 1⟩

/-- Register MTX_WIN_BASE (m = 0 to 21, w = 0 to 15), offset 0x1000 + 0x100 × m + 8w of its block. -/
abbrev MTX_WIN_BASE (m : Nat) (w : Nat) : Nat := 0x3E01000 + 0x100 * m + 0x8 * w
/-- MTX_WIN_BASE.BASE [22:0] RW, reset 0 for w = 0; 0x40_0000 for w = 1 of M0, M1, M19; else 0: Matrix address [34:12] of the first page -/
abbrev MTX_WIN_BASE_BASE (m : Nat) (w : Nat) : Field := ⟨MTX_WIN_BASE m w, 0, 23⟩
/-- MTX_WIN_BASE.R [24:24] RW, reset As EN: Reads allowed -/
abbrev MTX_WIN_BASE_R (m : Nat) (w : Nat) : Field := ⟨MTX_WIN_BASE m w, 24, 1⟩
/-- MTX_WIN_BASE.W [25:25] RW, reset As EN: Writes allowed -/
abbrev MTX_WIN_BASE_W (m : Nat) (w : Nat) : Field := ⟨MTX_WIN_BASE m w, 25, 1⟩
/-- MTX_WIN_BASE.EN [31:31] RW, reset R633: Window enabled -/
abbrev MTX_WIN_BASE_EN (m : Nat) (w : Nat) : Field := ⟨MTX_WIN_BASE m w, 31, 1⟩

/-- Register MTX_WIN_LIMIT (m = 0 to 21, w = 0 to 15), offset 0x1004 + 0x100 × m + 8w of its block. -/
abbrev MTX_WIN_LIMIT (m : Nat) (w : Nat) : Nat := 0x3E01004 + 0x100 * m + 0x8 * w
/-- MTX_WIN_LIMIT.LIMIT [22:0] RW, reset 0x3FFF for w = 0; 0x7F_FFFF for w = 1 of M0, M1, M19; else 0: Matrix address [34:12] of the last page, inclusive -/
abbrev MTX_WIN_LIMIT_LIMIT (m : Nat) (w : Nat) : Field := ⟨MTX_WIN_LIMIT m w, 0, 23⟩

/-- Register PCI_STATUS, offset 0x000 of its block. -/
abbrev PCI_STATUS : Nat := 0x3F00000
/-- PCI_STATUS.LINK_UP [0:0] RO, reset 0: Link in L0 or L1 -/
abbrev PCI_STATUS_LINK_UP : Field := ⟨PCI_STATUS, 0, 1⟩
/-- PCI_STATUS.SPEED [3:1] RO, reset 0: 1 2.5, 2 5, 3 8, 4 16, 5 32 GT/s -/
abbrev PCI_STATUS_SPEED : Field := ⟨PCI_STATUS, 1, 3⟩
/-- PCI_STATUS.WIDTH [7:4] RO, reset 0: Lanes: 1, 2, 4 or 8 -/
abbrev PCI_STATUS_WIDTH : Field := ⟨PCI_STATUS, 4, 4⟩
/-- PCI_STATUS.F1_EN [8:8] RO, reset OTP: Function 1 present (R620) -/
abbrev PCI_STATUS_F1_EN : Field := ⟨PCI_STATUS, 8, 1⟩
/-- PCI_STATUS.D3_F0 [9:9] RO, reset 0: Function 0 in D3hot -/
abbrev PCI_STATUS_D3_F0 : Field := ⟨PCI_STATUS, 9, 1⟩
/-- PCI_STATUS.D3_F1 [10:10] RO, reset 0: Function 1 in D3hot -/
abbrev PCI_STATUS_D3_F1 : Field := ⟨PCI_STATUS, 10, 1⟩

/-- Register PCI_EVENT, offset 0x004 of its block. -/
abbrev PCI_EVENT : Nat := 0x3F00004
/-- PCI_EVENT.LINK_DOWN [0:0] W1C, reset 0: The link was lost (R622) -/
abbrev PCI_EVENT_LINK_DOWN : Field := ⟨PCI_EVENT, 0, 1⟩
/-- PCI_EVENT.FLR0 [1:1] W1C, reset 0: Function-level reset of function 0 -/
abbrev PCI_EVENT_FLR0 : Field := ⟨PCI_EVENT, 1, 1⟩
/-- PCI_EVENT.FLR1 [2:2] W1C, reset 0: Function-level reset of function 1 -/
abbrev PCI_EVENT_FLR1 : Field := ⟨PCI_EVENT, 2, 1⟩
/-- PCI_EVENT.PERST [3:3] W1C, reset 0: PCIE_PERST_N was asserted (R621) -/
abbrev PCI_EVENT_PERST : Field := ⟨PCI_EVENT, 3, 1⟩
/-- PCI_EVENT.AP_ERR [4:4] W1C, reset 0: An aperture access was refused (R626) -/
abbrev PCI_EVENT_AP_ERR : Field := ⟨PCI_EVENT, 4, 1⟩

/-- Register PCI_AP_CFG, offset 0x008 of its block. -/
abbrev PCI_AP_CFG : Nat := 0x3F00008
/-- PCI_AP_CFG.WREN [5:0] RW, reset 0x08: Bit r: cellar region r writable through the aperture (R626) -/
abbrev PCI_AP_CFG_WREN : Field := ⟨PCI_AP_CFG, 0, 6⟩

/-- Register PCI_AP_MAP (k = 0 to 15), offset 0x040 + 4k of its block. -/
abbrev PCI_AP_MAP (k : Nat) : Nat := 0x3F00040 + 0x4 * k
/-- PCI_AP_MAP.BASE [30:0] RW, reset 0: Cellar address of sub-window k in units of 64 bytes (R626) -/
abbrev PCI_AP_MAP_BASE (k : Nat) : Field := ⟨PCI_AP_MAP k, 0, 31⟩
/-- PCI_AP_MAP.EN [31:31] RW, reset 0: Sub-window enabled -/
abbrev PCI_AP_MAP_EN (k : Nat) : Field := ⟨PCI_AP_MAP k, 31, 1⟩

/-- Register PCI_VEC_MAP (s = 0 to 45), offset 0x100 + 4s of its block. -/
abbrev PCI_VEC_MAP (s : Nat) : Nat := 0x3F00100 + 0x4 * s
/-- PCI_VEC_MAP.VEC [5:0] RW, reset s for s ≤ 38; s − 40 for s ≥ 40: Vector of the source's function; values above 7 are stored as 7 for s ≥ 40 -/
abbrev PCI_VEC_MAP_VEC (s : Nat) : Field := ⟨PCI_VEC_MAP s, 0, 6⟩
/-- PCI_VEC_MAP.EN [7:7] RW, reset 1; 0 for s = 39: Source sends (R629) -/
abbrev PCI_VEC_MAP_EN (s : Nat) : Field := ⟨PCI_VEC_MAP s, 7, 1⟩

/-- The registers of block MTX: address, index ranges, access masks and reset word. -/
def regsMTX : List RegDesc := [
  { base := 0x3E00000, dims := [], rw := 0x0, w1c := 0x3F, rs := 0x0, wo := 0x0, reset := fun _ _ _ => 0x0 },
  { base := 0x3E00004, dims := [], rw := 0x0, w1c := 0x0, rs := 0x0, wo := 0x0, reset := fun _ _ _ => 0x0 },
  { base := 0x3E00008, dims := [], rw := 0x0, w1c := 0x80000000, rs := 0x0, wo := 0x0, reset := fun _ _ _ => 0x0 },
  { base := 0x3E00040, dims := [(0x16, 0x4)], rw := 0x7, w1c := 0x0, rs := 0x0, wo := 0x0, reset := fun m _ _ => (mtxQosReset m) },
  { base := 0x3E000A0, dims := [(0xB, 0x4)], rw := 0x1F, w1c := 0x0, rs := 0x0, wo := 0x0, reset := fun _ _ _ => 0x0 },
  { base := 0x3E00100, dims := [(0x40, 0x4)], rw := 0x0, w1c := 0x0, rs := 0x8000001F, wo := 0x0, reset := fun _ _ _ => 0x0 },
  { base := 0x3E00200, dims := [(0x40, 0x4)], rw := 0x0, w1c := 0x0, rs := 0x0, wo := 0x1, reset := fun _ _ _ => 0x0 },
  { base := 0x3E01000, dims := [(0x16, 0x100), (0x10, 0x8)], rw := 0x837FFFFF, w1c := 0x0, rs := 0x0, wo := 0x0, reset := fun m w _ => ((mtxWinReset m w).1) + ((mtxWinReset m w).2.2) * 2 ^ 24 + ((mtxWinReset m w).2.2) * 2 ^ 25 + ((mtxWinReset m w).2.2) * 2 ^ 31 },
  { base := 0x3E01004, dims := [(0x16, 0x100), (0x10, 0x8)], rw := 0x7FFFFF, w1c := 0x0, rs := 0x0, wo := 0x0, reset := fun m w _ => ((mtxWinReset m w).2.1) }]

/-- The registers of block PCI: address, index ranges, access masks and reset word. -/
def regsPCI : List RegDesc := [
  { base := 0x3F00000, dims := [], rw := 0x0, w1c := 0x0, rs := 0x0, wo := 0x0, reset := fun _ _ _ => 0x0 },
  { base := 0x3F00004, dims := [], rw := 0x0, w1c := 0x1F, rs := 0x0, wo := 0x0, reset := fun _ _ _ => 0x0 },
  { base := 0x3F00008, dims := [], rw := 0x3F, w1c := 0x0, rs := 0x0, wo := 0x0, reset := fun _ _ _ => 0x8 },
  { base := 0x3F00040, dims := [(0x10, 0x4)], rw := 0xFFFFFFFF, w1c := 0x0, rs := 0x0, wo := 0x0, reset := fun _ _ _ => 0x0 },
  { base := 0x3F00100, dims := [(0x2E, 0x4)], rw := 0xBF, w1c := 0x0, rs := 0x0, wo := 0x0, reset := fun s _ _ => (if s ≤ 38 then s else s - 40) + (if s = 39 then 0 else 1) * 2 ^ 7 }]

end Sys2Proof.Machine
end

