-- ==== Sys2Proof/Machine/RegsMvh.lean ====
section
/-! DEFINITION. The registers of multiviewer heads (MVH): the address of each register, the place of each field,
its access type and its reset value, as the register tables of spec/12_multiviewer_heads.md give them. -/

namespace Sys2Proof.Machine

/-- Register MVH_CFG (head h), offset 0x000 of its block. -/
abbrev MVH_CFG (h : Nat) : Nat := 0x3100000 + 0x10000 * h
/-- MVH_CFG.EN [0:0] RW, reset 0: Head enabled (R486, R487) -/
abbrev MVH_CFG_EN (h : Nat) : Field := ⟨MVH_CFG h, 0, 1⟩
/-- MVH_CFG.PLAN [3:1] RW, reset 0: Plan of the head; ignored while EN is 1 -/
abbrev MVH_CFG_PLAN (h : Nat) : Field := ⟨MVH_CFG h, 1, 3⟩
/-- MVH_CFG.NLAYERS [7:4] RW, reset 8: Layer slots run, clamped to 2–8 -/
abbrev MVH_CFG_NLAYERS (h : Nat) : Field := ⟨MVH_CFG h, 4, 4⟩
/-- MVH_CFG.OUT_RET [8:8] RW, reset 1: Head return offered -/
abbrev MVH_CFG_OUT_RET (h : Nat) : Field := ⟨MVH_CFG h, 8, 1⟩
/-- MVH_CFG.OUT_RP [9:9] RW, reset 0: Region push (R495) -/
abbrev MVH_CFG_OUT_RP (h : Nat) : Field := ⟨MVH_CFG h, 9, 1⟩
/-- MVH_CFG.PTP_SEL [15:10] RW, reset 0: Trellis of the PTP instance for flip times -/
abbrev MVH_CFG_PTP_SEL (h : Nat) : Field := ⟨MVH_CFG h, 10, 6⟩

/-- Register MVH_STATUS (head h), offset 0x004 of its block. -/
abbrev MVH_STATUS (h : Nat) : Nat := 0x3100004 + 0x10000 * h
/-- MVH_STATUS.STATE [1:0] RO, reset 0: 0 stopped, 1 first frame, 2 running, 3 retiming -/
abbrev MVH_STATUS_STATE (h : Nat) : Field := ⟨MVH_STATUS h, 0, 2⟩
/-- MVH_STATUS.PENDING [2:2] RO, reset 0: A commit is pending -/
abbrev MVH_STATUS_PENDING (h : Nat) : Field := ⟨MVH_STATUS h, 2, 1⟩
/-- MVH_STATUS.STAGE_LAYER [5:3] RO, reset 0: Layer of the last INVALID commit -/
abbrev MVH_STATUS_STAGE_LAYER (h : Nat) : Field := ⟨MVH_STATUS h, 3, 3⟩
/-- MVH_STATUS.STAGE_REASON [8:6] RO, reset 0: Table 12-4 -/
abbrev MVH_STATUS_STAGE_REASON (h : Nat) : Field := ⟨MVH_STATUS h, 6, 3⟩
/-- MVH_STATUS.CFG_REFUSED [9:9] W1C, reset 0: R486 -/
abbrev MVH_STATUS_CFG_REFUSED (h : Nat) : Field := ⟨MVH_STATUS h, 9, 1⟩
/-- MVH_STATUS.LUT_WERR [10:10] W1C, reset 0: R476 -/
abbrev MVH_STATUS_LUT_WERR (h : Nat) : Field := ⟨MVH_STATUS h, 10, 1⟩
/-- MVH_STATUS.HELD [23:16] RO, reset 0: Bit j: layer j has a held state -/
abbrev MVH_STATUS_HELD (h : Nat) : Field := ⟨MVH_STATUS h, 16, 8⟩

/-- Register MVH_EVENT (head h), offset 0x008 of its block. -/
abbrev MVH_EVENT (h : Nat) : Nat := 0x3100008 + 0x10000 * h
/-- MVH_EVENT.FLIP [0:0] W1C, reset 0: R494 -/
abbrev MVH_EVENT_FLIP (h : Nat) : Field := ⟨MVH_EVENT h, 0, 1⟩
/-- MVH_EVENT.RETIMED [1:1] W1C, reset 0: R489 -/
abbrev MVH_EVENT_RETIMED (h : Nat) : Field := ⟨MVH_EVENT h, 1, 1⟩
/-- MVH_EVENT.UNDERRUN [2:2] W1C, reset 0: R493 -/
abbrev MVH_EVENT_UNDERRUN (h : Nat) : Field := ⟨MVH_EVENT h, 2, 1⟩
/-- MVH_EVENT.FENCE_HOLD [3:3] W1C, reset 0: R484 -/
abbrev MVH_EVENT_FENCE_HOLD (h : Nat) : Field := ⟨MVH_EVENT h, 3, 1⟩
/-- MVH_EVENT.ADM_HOLD [4:4] W1C, reset 0: R484 -/
abbrev MVH_EVENT_ADM_HOLD (h : Nat) : Field := ⟨MVH_EVENT h, 4, 1⟩
/-- MVH_EVENT.SUPERSEDED [5:5] W1C, reset 0: R481 -/
abbrev MVH_EVENT_SUPERSEDED (h : Nat) : Field := ⟨MVH_EVENT h, 5, 1⟩
/-- MVH_EVENT.STAGE_ERR [6:6] W1C, reset 0: R480 -/
abbrev MVH_EVENT_STAGE_ERR (h : Nat) : Field := ⟨MVH_EVENT h, 6, 1⟩
/-- MVH_EVENT.EXP_FAIL [7:7] W1C, reset 0: R501 -/
abbrev MVH_EVENT_EXP_FAIL (h : Nat) : Field := ⟨MVH_EVENT h, 7, 1⟩
/-- MVH_EVENT.WIDTH_CHG [8:8] W1C, reset 0: R492 -/
abbrev MVH_EVENT_WIDTH_CHG (h : Nat) : Field := ⟨MVH_EVENT h, 8, 1⟩
/-- MVH_EVENT.RP_SKIP [9:9] W1C, reset 0: R498 -/
abbrev MVH_EVENT_RP_SKIP (h : Nat) : Field := ⟨MVH_EVENT h, 9, 1⟩
/-- MVH_EVENT.FMT_BAD [10:10] W1C, reset 0: R463 -/
abbrev MVH_EVENT_FMT_BAD (h : Nat) : Field := ⟨MVH_EVENT h, 10, 1⟩

/-- Register MVH_FRAME (head h), offset 0x00C of its block. -/
abbrev MVH_FRAME (h : Nat) : Nat := 0x310000C + 0x10000 * h
/-- MVH_FRAME.COUNT [31:0] RO, reset 0: Head frame counter (R466) -/
abbrev MVH_FRAME_COUNT (h : Nat) : Field := ⟨MVH_FRAME h, 0, 32⟩

/-- Register MVH_FLIP_F (head h), offset 0x010 of its block. -/
abbrev MVH_FLIP_F (h : Nat) : Nat := 0x3100010 + 0x10000 * h
/-- MVH_FLIP_F.FRAME [31:0] RO, reset 0: Plan frame number of the last flip -/
abbrev MVH_FLIP_F_FRAME (h : Nat) : Field := ⟨MVH_FLIP_F h, 0, 32⟩

/-- Register MVH_FLIP_SEQ (head h), offset 0x014 of its block. -/
abbrev MVH_FLIP_SEQ (h : Nat) : Nat := 0x3100014 + 0x10000 * h
/-- MVH_FLIP_SEQ.SEQ [15:0] RO, reset 0: Commit taken at the last flip -/
abbrev MVH_FLIP_SEQ_SEQ (h : Nat) : Field := ⟨MVH_FLIP_SEQ h, 0, 16⟩
/-- MVH_FLIP_SEQ.LAYERS [23:16] RO, reset 0: Bit j: layer j changed at that flip -/
abbrev MVH_FLIP_SEQ_LAYERS (h : Nat) : Field := ⟨MVH_FLIP_SEQ h, 16, 8⟩

/-- Register MVH_FLIP_PTP_S (head h), offset 0x018 of its block. -/
abbrev MVH_FLIP_PTP_S (h : Nat) : Nat := 0x3100018 + 0x10000 * h
/-- MVH_FLIP_PTP_S.SEC [31:0] RO, reset 0: Seconds [31:0] of the last flip's instance time -/
abbrev MVH_FLIP_PTP_S_SEC (h : Nat) : Field := ⟨MVH_FLIP_PTP_S h, 0, 32⟩

/-- Register MVH_FLIP_PTP_NS (head h), offset 0x01C of its block. -/
abbrev MVH_FLIP_PTP_NS (h : Nat) : Nat := 0x310001C + 0x10000 * h
/-- MVH_FLIP_PTP_NS.NS [29:0] RO, reset 0: Nanoseconds of the same instant -/
abbrev MVH_FLIP_PTP_NS_NS (h : Nat) : Field := ⟨MVH_FLIP_PTP_NS h, 0, 30⟩
/-- MVH_FLIP_PTP_NS.VALID [31:31] RO, reset 0: Instance in RATE_LOCK at the flip -/
abbrev MVH_FLIP_PTP_NS_VALID (h : Nat) : Field := ⟨MVH_FLIP_PTP_NS h, 31, 1⟩

/-- Register MVH_COMMIT (head h), offset 0x020 of its block. -/
abbrev MVH_COMMIT (h : Nat) : Nat := 0x3100020 + 0x10000 * h
/-- MVH_COMMIT.SEQ [15:0] RO, reset 0: Last accepted commit (R480) -/
abbrev MVH_COMMIT_SEQ (h : Nat) : Field := ⟨MVH_COMMIT h, 0, 16⟩
/-- MVH_COMMIT.TAKEN [31:16] RO, reset 0: Last commit taken by a latch -/
abbrev MVH_COMMIT_TAKEN (h : Nat) : Field := ⟨MVH_COMMIT h, 16, 16⟩

/-- Register MVH_STAGE (head h, staged), offset 0x024 of its block. -/
abbrev MVH_STAGE (h : Nat) : Nat := 0x3100024 + 0x10000 * h
/-- MVH_STAGE.GROUP [0:0] RW, reset 0: R485 -/
abbrev MVH_STAGE_GROUP (h : Nat) : Field := ⟨MVH_STAGE h, 0, 1⟩
/-- MVH_STAGE.POST_EN [1:1] RW, reset 0: Post-blend LUT applied -/
abbrev MVH_STAGE_POST_EN (h : Nat) : Field := ⟨MVH_STAGE h, 1, 1⟩
/-- MVH_STAGE.POST_BANK [2:2] RW, reset 0: Bank of LUT 8 -/
abbrev MVH_STAGE_POST_BANK (h : Nat) : Field := ⟨MVH_STAGE h, 2, 1⟩

/-- Register MVH_BG (head h, staged), offset 0x028 of its block. -/
abbrev MVH_BG (h : Nat) : Nat := 0x3100028 + 0x10000 * h
/-- MVH_BG.Y [9:0] RW, reset 0x040: Background luma -/
abbrev MVH_BG_Y (h : Nat) : Field := ⟨MVH_BG h, 0, 10⟩
/-- MVH_BG.CB [19:10] RW, reset 0x200: Background Cb -/
abbrev MVH_BG_CB (h : Nat) : Field := ⟨MVH_BG h, 10, 10⟩
/-- MVH_BG.CR [29:20] RW, reset 0x200: Background Cr -/
abbrev MVH_BG_CR (h : Nat) : Field := ⟨MVH_BG h, 20, 10⟩

/-- Register MVH_NOSIG (head h, staged), offset 0x02C of its block. -/
abbrev MVH_NOSIG (h : Nat) : Nat := 0x310002C + 0x10000 * h
/-- MVH_NOSIG.COLOUR [29:0] RW, reset 0x2008_0100: No-signal colour, laid out as MVH_BG (R472) -/
abbrev MVH_NOSIG_COLOUR (h : Nat) : Field := ⟨MVH_NOSIG h, 0, 30⟩

/-- Register MVH_PALETTE (head h, k = 0 to 3, staged), offset 0x030 + 4k of its block. -/
abbrev MVH_PALETTE (h : Nat) (k : Nat) : Nat := 0x3100030 + 0x10000 * h + 0x4 * k
/-- MVH_PALETTE.COLOUR [29:0] RW, reset 0x2008_0100: Border colour k, laid out as MVH_BG -/
abbrev MVH_PALETTE_COLOUR (h : Nat) (k : Nat) : Field := ⟨MVH_PALETTE h k, 0, 30⟩

/-- Register MVH_CNT (head h, k = 0 to 4), offset 0x040 + 4k of its block. -/
abbrev MVH_CNT (h : Nat) (k : Nat) : Nat := 0x3100040 + 0x10000 * h + 0x4 * k
/-- MVH_CNT.COUNT [31:0] RS, reset 0: k = 0 underruns; 1 fence holds; 2 admission holds; 3 superseded commits; 4 skipped tiles. Saturating; cleared by the read -/
abbrev MVH_CNT_COUNT (h : Nat) (k : Nat) : Field := ⟨MVH_CNT h k, 0, 32⟩

/-- Register MVH_LUT_ADDR (head h), offset 0x060 of its block. -/
abbrev MVH_LUT_ADDR (h : Nat) : Nat := 0x3100060 + 0x10000 * h
/-- MVH_LUT_ADDR.INDEX [9:0] RW, reset 0: Entry; advances by 1 at each access to MVH_LUT_DATA -/
abbrev MVH_LUT_ADDR_INDEX (h : Nat) : Field := ⟨MVH_LUT_ADDR h, 0, 10⟩
/-- MVH_LUT_ADDR.LUT [13:10] RW, reset 0: 0–7 pre-blend of layer LUT, 8 post-blend; 9–15 ignore data accesses -/
abbrev MVH_LUT_ADDR_LUT (h : Nat) : Field := ⟨MVH_LUT_ADDR h, 10, 4⟩
/-- MVH_LUT_ADDR.BANK [14:14] RW, reset 0: Bank (R476) -/
abbrev MVH_LUT_ADDR_BANK (h : Nat) : Field := ⟨MVH_LUT_ADDR h, 14, 1⟩

/-- Register MVH_LUT_DATA (head h), offset 0x064 of its block. -/
abbrev MVH_LUT_DATA (h : Nat) : Nat := 0x3100064 + 0x10000 * h
/-- MVH_LUT_DATA.Y [9:0] RW, reset Identity: Output for input code INDEX -/
abbrev MVH_LUT_DATA_Y (h : Nat) : Field := ⟨MVH_LUT_DATA h, 0, 10⟩
/-- MVH_LUT_DATA.CB [19:10] RW, reset Identity: Cb output -/
abbrev MVH_LUT_DATA_CB (h : Nat) : Field := ⟨MVH_LUT_DATA h, 10, 10⟩
/-- MVH_LUT_DATA.CR [29:20] RW, reset Identity: Cr output -/
abbrev MVH_LUT_DATA_CR (h : Nat) : Field := ⟨MVH_LUT_DATA h, 20, 10⟩

/-- Register MVH_LSRC (head h, staged), offset 0x100 + 0x40 × j of its block. -/
abbrev MVH_LSRC (h : Nat) (j : Nat) : Nat := 0x3100100 + 0x10000 * h + 0x40 * j
/-- MVH_LSRC.ID [12:0] RW, reset 0: Table 12-2 -/
abbrev MVH_LSRC_ID (h : Nat) (j : Nat) : Field := ⟨MVH_LSRC h j, 0, 13⟩
/-- MVH_LSRC.KIND [14:13] RW, reset 0: Table 12-2 -/
abbrev MVH_LSRC_KIND (h : Nat) (j : Nat) : Field := ⟨MVH_LSRC h j, 13, 2⟩
/-- MVH_LSRC.LEVEL [16:15] RW, reset 1: 0 L0, 1 L2, 2 L3, 3 reserved -/
abbrev MVH_LSRC_LEVEL (h : Nat) (j : Nat) : Field := ⟨MVH_LSRC h j, 15, 2⟩
/-- MVH_LSRC.SW [30:18] RW, reset 0: Still surface width in pixels -/
abbrev MVH_LSRC_SW (h : Nat) (j : Nat) : Field := ⟨MVH_LSRC h j, 18, 13⟩

/-- Register MVH_LCROP (head h, staged), offset 0x104 + 0x40 × j of its block. -/
abbrev MVH_LCROP (h : Nat) (j : Nat) : Nat := 0x3100104 + 0x10000 * h + 0x40 * j
/-- MVH_LCROP.X [15:0] RW, reset 0: Crop left, source pixels at the level -/
abbrev MVH_LCROP_X (h : Nat) (j : Nat) : Field := ⟨MVH_LCROP h j, 0, 16⟩
/-- MVH_LCROP.Y [31:16] RW, reset 0: Crop top -/
abbrev MVH_LCROP_Y (h : Nat) (j : Nat) : Field := ⟨MVH_LCROP h j, 16, 16⟩

/-- Register MVH_LCSIZE (head h, staged), offset 0x108 + 0x40 × j of its block. -/
abbrev MVH_LCSIZE (h : Nat) (j : Nat) : Nat := 0x3100108 + 0x10000 * h + 0x40 * j
/-- MVH_LCSIZE.W [15:0] RW, reset 960: Crop width -/
abbrev MVH_LCSIZE_W (h : Nat) (j : Nat) : Field := ⟨MVH_LCSIZE h j, 0, 16⟩
/-- MVH_LCSIZE.H [31:16] RW, reset 540: Crop height -/
abbrev MVH_LCSIZE_H (h : Nat) (j : Nat) : Field := ⟨MVH_LCSIZE h j, 16, 16⟩

/-- Register MVH_LDPOS (head h, staged), offset 0x10C + 0x40 × j of its block. -/
abbrev MVH_LDPOS (h : Nat) (j : Nat) : Nat := 0x310010C + 0x10000 * h + 0x40 * j
/-- MVH_LDPOS.X [15:0] RW, reset 0: Destination left, head pixels -/
abbrev MVH_LDPOS_X (h : Nat) (j : Nat) : Field := ⟨MVH_LDPOS h j, 0, 16⟩
/-- MVH_LDPOS.Y [31:16] RW, reset 0: Destination top -/
abbrev MVH_LDPOS_Y (h : Nat) (j : Nat) : Field := ⟨MVH_LDPOS h j, 16, 16⟩

/-- Register MVH_LDSIZE (head h, staged), offset 0x110 + 0x40 × j of its block. -/
abbrev MVH_LDSIZE (h : Nat) (j : Nat) : Nat := 0x3100110 + 0x10000 * h + 0x40 * j
/-- MVH_LDSIZE.W [15:0] RW, reset 960: Destination width -/
abbrev MVH_LDSIZE_W (h : Nat) (j : Nat) : Field := ⟨MVH_LDSIZE h j, 0, 16⟩
/-- MVH_LDSIZE.H [31:16] RW, reset 540: Destination height -/
abbrev MVH_LDSIZE_H (h : Nat) (j : Nat) : Field := ⟨MVH_LDSIZE h j, 16, 16⟩

/-- Register MVH_LCTRL (head h, staged), offset 0x114 + 0x40 × j of its block. -/
abbrev MVH_LCTRL (h : Nat) (j : Nat) : Nat := 0x3100114 + 0x10000 * h + 0x40 * j
/-- MVH_LCTRL.EN [0:0] RW, reset 0: Layer enabled -/
abbrev MVH_LCTRL_EN (h : Nat) (j : Nat) : Field := ⟨MVH_LCTRL h j, 0, 1⟩
/-- MVH_LCTRL.ALPHA [8:1] RW, reset 255: Layer alpha (R477) -/
abbrev MVH_LCTRL_ALPHA (h : Nat) (j : Nat) : Field := ⟨MVH_LCTRL h j, 1, 8⟩
/-- MVH_LCTRL.LUT_EN [9:9] RW, reset 0: Pre-blend LUT applied -/
abbrev MVH_LCTRL_LUT_EN (h : Nat) (j : Nat) : Field := ⟨MVH_LCTRL h j, 9, 1⟩
/-- MVH_LCTRL.LUT_BANK [10:10] RW, reset 0: Bank of the layer's LUT -/
abbrev MVH_LCTRL_LUT_BANK (h : Nat) (j : Nat) : Field := ⟨MVH_LCTRL h j, 10, 1⟩
/-- MVH_LCTRL.BORDER [14:11] RW, reset 0: Border width, 0–15 pixels -/
abbrev MVH_LCTRL_BORDER (h : Nat) (j : Nat) : Field := ⟨MVH_LCTRL h j, 11, 4⟩
/-- MVH_LCTRL.BCOL [16:15] RW, reset 0: Palette entry of the border -/
abbrev MVH_LCTRL_BCOL (h : Nat) (j : Nat) : Field := ⟨MVH_LCTRL h j, 15, 2⟩
/-- MVH_LCTRL.FENCE_EN [17:17] RW, reset 0: R483 -/
abbrev MVH_LCTRL_FENCE_EN (h : Nat) (j : Nat) : Field := ⟨MVH_LCTRL h j, 17, 1⟩

/-- Register MVH_LFENCE_N (head h, staged), offset 0x118 + 0x40 × j of its block. -/
abbrev MVH_LFENCE_N (h : Nat) (j : Nat) : Nat := 0x3100118 + 0x10000 * h + 0x40 * j
/-- MVH_LFENCE_N.FENCE [7:0] RW, reset 0: Renderer fence number -/
abbrev MVH_LFENCE_N_FENCE (h : Nat) (j : Nat) : Field := ⟨MVH_LFENCE_N h j, 0, 8⟩

/-- Register MVH_LFENCE_V (head h, staged), offset 0x11C + 0x40 × j of its block. -/
abbrev MVH_LFENCE_V (h : Nat) (j : Nat) : Nat := 0x310011C + 0x10000 * h + 0x40 * j
/-- MVH_LFENCE_V.VALUE [31:0] RW, reset 0: Fence value required (R483) -/
abbrev MVH_LFENCE_V_VALUE (h : Nat) (j : Nat) : Field := ⟨MVH_LFENCE_V h j, 0, 32⟩

/-- Register MVH_LSTAT (head h), offset 0x120 + 0x40 × j of its block. -/
abbrev MVH_LSTAT (h : Nat) (j : Nat) : Nat := 0x3100120 + 0x10000 * h + 0x40 * j
/-- MVH_LSTAT.SHOWN [0:0] RO, reset 0: Layer enabled in the displayed set -/
abbrev MVH_LSTAT_SHOWN (h : Nat) (j : Nat) : Field := ⟨MVH_LSTAT h j, 0, 1⟩
/-- MVH_LSTAT.HELD [1:1] RO, reset 0: A held state waits (R484) -/
abbrev MVH_LSTAT_HELD (h : Nat) (j : Nat) : Field := ⟨MVH_LSTAT h j, 1, 1⟩
/-- MVH_LSTAT.NOSRC [2:2] RO, reset 0: R472 -/
abbrev MVH_LSTAT_NOSRC (h : Nat) (j : Nat) : Field := ⟨MVH_LSTAT h j, 2, 1⟩
/-- MVH_LSTAT.RATE_HI [3:3] RO, reset 0: R471 -/
abbrev MVH_LSTAT_RATE_HI (h : Nat) (j : Nat) : Field := ⟨MVH_LSTAT h j, 3, 1⟩
/-- MVH_LSTAT.UNDERRUN_LAST [4:4] RO, reset 0: Underrun in the last frame (R493) -/
abbrev MVH_LSTAT_UNDERRUN_LAST (h : Nat) (j : Nat) : Field := ⟨MVH_LSTAT h j, 4, 1⟩
/-- MVH_LSTAT.ADM_REASON [7:5] RO, reset 0: Table 09-10, for a held charge -/
abbrev MVH_LSTAT_ADM_REASON (h : Nat) (j : Nat) : Field := ⟨MVH_LSTAT h j, 5, 3⟩
/-- MVH_LSTAT.COPY [8:8] RO, reset 0: Reading an L0 copy -/
abbrev MVH_LSTAT_COPY (h : Nat) (j : Nat) : Field := ⟨MVH_LSTAT h j, 8, 1⟩
/-- MVH_LSTAT.CHARGE [31:16] RO, reset 0: Admitted charge in Mb/s, saturating -/
abbrev MVH_LSTAT_CHARGE (h : Nat) (j : Nat) : Field := ⟨MVH_LSTAT h j, 16, 16⟩

/-- Register MVH_RP_CFG (head h), offset 0x300 of its block. -/
abbrev MVH_RP_CFG (h : Nat) : Nat := 0x3100300 + 0x10000 * h
/-- MVH_RP_CFG.TRELLIS [5:0] RW, reset 0: Sending trellis -/
abbrev MVH_RP_CFG_TRELLIS (h : Nat) : Field := ⟨MVH_RP_CFG h, 0, 6⟩
/-- MVH_RP_CFG.VLAN_EN [6:6] RW, reset 0: Insert a tag -/
abbrev MVH_RP_CFG_VLAN_EN (h : Nat) : Field := ⟨MVH_RP_CFG h, 6, 1⟩
/-- MVH_RP_CFG.PCP [9:7] RW, reset 0: Tag priority -/
abbrev MVH_RP_CFG_PCP (h : Nat) : Field := ⟨MVH_RP_CFG h, 7, 3⟩
/-- MVH_RP_CFG.DSCP [15:10] RW, reset 34: IPv4 DSCP -/
abbrev MVH_RP_CFG_DSCP (h : Nat) : Field := ⟨MVH_RP_CFG h, 10, 6⟩
/-- MVH_RP_CFG.REFRESH [23:16] RW, reset 50: Full frame every REFRESH frames; 0 none -/
abbrev MVH_RP_CFG_REFRESH (h : Nat) : Field := ⟨MVH_RP_CFG h, 16, 8⟩

/-- Register MVH_RP_PKT (head h), offset 0x304 of its block. -/
abbrev MVH_RP_PKT (h : Nat) : Nat := 0x3100304 + 0x10000 * h
/-- MVH_RP_PKT.PAYLOAD [13:0] RW, reset 1,200: Largest pixel payload in bytes, multiple of 5, clamped to 600–8,000 -/
abbrev MVH_RP_PKT_PAYLOAD (h : Nat) : Field := ⟨MVH_RP_PKT h, 0, 14⟩

/-- Register MVH_RP_RATE (head h), offset 0x308 of its block. -/
abbrev MVH_RP_RATE (h : Nat) : Nat := 0x3100308 + 0x10000 * h
/-- MVH_RP_RATE.MBPS [31:0] RW, reset 10,000: Declared and paced rate (R495, R498); 0 is stored as 1 -/
abbrev MVH_RP_RATE_MBPS (h : Nat) : Field := ⟨MVH_RP_RATE h, 0, 32⟩

/-- Register MVH_RP_HDR (head h, k = 0 to 6), offset 0x310 + 4k of its block. -/
abbrev MVH_RP_HDR (h : Nat) (k : Nat) : Nat := 0x3100310 + 0x10000 * h + 0x4 * k
/-- MVH_RP_HDR.VALUE [31:0] RW, reset 0: As PKT_TXC_HDR(k) -/
abbrev MVH_RP_HDR_VALUE (h : Nat) (k : Nat) : Field := ⟨MVH_RP_HDR h k, 0, 32⟩

/-- Register MVH_RP_STAT (head h), offset 0x330 of its block. -/
abbrev MVH_RP_STAT (h : Nat) : Nat := 0x3100330 + 0x10000 * h
/-- MVH_RP_STAT.ACTIVE [0:0] RO, reset 0: Stream active -/
abbrev MVH_RP_STAT_ACTIVE (h : Nat) : Field := ⟨MVH_RP_STAT h, 0, 1⟩
/-- MVH_RP_STAT.BIND_ERR [1:1] RO, reset 0: R495 -/
abbrev MVH_RP_STAT_BIND_ERR (h : Nat) : Field := ⟨MVH_RP_STAT h, 1, 1⟩
/-- MVH_RP_STAT.BUDGET [2:2] RO, reset 0: R495 -/
abbrev MVH_RP_STAT_BUDGET (h : Nat) : Field := ⟨MVH_RP_STAT h, 2, 1⟩
/-- MVH_RP_STAT.DROP [3:3] W1C, reset 0: Packets dropped under R451 -/
abbrev MVH_RP_STAT_DROP (h : Nat) : Field := ⟨MVH_RP_STAT h, 3, 1⟩

/-- Register MVH_RP_SEQ (head h), offset 0x334 of its block. -/
abbrev MVH_RP_SEQ (h : Nat) : Nat := 0x3100334 + 0x10000 * h
/-- MVH_RP_SEQ.SEQ [31:0] RO, reset 0: SEQ of the next packet -/
abbrev MVH_RP_SEQ_SEQ (h : Nat) : Field := ⟨MVH_RP_SEQ h, 0, 32⟩

/-- Register MVH_EXP_CFG (head h), offset 0x400 of its block. -/
abbrev MVH_EXP_CFG (h : Nat) : Nat := 0x3100400 + 0x10000 * h
/-- MVH_EXP_CFG.EN [0:0] RW, reset 0: R501 -/
abbrev MVH_EXP_CFG_EN (h : Nat) : Field := ⟨MVH_EXP_CFG h, 0, 1⟩
/-- MVH_EXP_CFG.MASK [4:1] RW, reset 0: Bit k: compare rectangle k -/
abbrev MVH_EXP_CFG_MASK (h : Nat) : Field := ⟨MVH_EXP_CFG h, 1, 4⟩
/-- MVH_EXP_CFG.EXP_SEQ [31:16] RW, reset 0: Commit whose frames are compared -/
abbrev MVH_EXP_CFG_EXP_SEQ (h : Nat) : Field := ⟨MVH_EXP_CFG h, 16, 16⟩

/-- Register MVH_EXP_CRC (head h, k = 0 to 3), offset 0x404 + 4k of its block. -/
abbrev MVH_EXP_CRC (h : Nat) (k : Nat) : Nat := 0x3100404 + 0x10000 * h + 0x4 * k
/-- MVH_EXP_CRC.CRC [31:0] RW, reset 0: Expected check of rectangle k -/
abbrev MVH_EXP_CRC_CRC (h : Nat) (k : Nat) : Field := ⟨MVH_EXP_CRC h k, 0, 32⟩

/-- Register MVH_EXP_STAT (head h), offset 0x414 of its block. -/
abbrev MVH_EXP_STAT (h : Nat) : Nat := 0x3100414 + 0x10000 * h
/-- MVH_EXP_STAT.LAST [1:0] RO, reset 0: 0 not compared, 1 match, 2 mismatch -/
abbrev MVH_EXP_STAT_LAST (h : Nat) : Field := ⟨MVH_EXP_STAT h, 0, 2⟩
/-- MVH_EXP_STAT.RUN [7:2] RO, reset 0: Consecutive mismatches, saturating at 63 -/
abbrev MVH_EXP_STAT_RUN (h : Nat) : Field := ⟨MVH_EXP_STAT h, 2, 6⟩

/-- Register MVH_EXP_CNT (head h), offset 0x418 of its block. -/
abbrev MVH_EXP_CNT (h : Nat) : Nat := 0x3100418 + 0x10000 * h
/-- MVH_EXP_CNT.COUNT [31:0] RS, reset 0: Mismatching frames, saturating; cleared by the read -/
abbrev MVH_EXP_CNT_COUNT (h : Nat) : Field := ⟨MVH_EXP_CNT h, 0, 32⟩

/-- The registers of block MVH, part 1: address, index ranges, access masks and reset word. -/
def regsMVH0 : List RegDesc := [
  { base := 0x3100000, dims := [(0x20, 0x10000)], rw := 0xFFFF, w1c := 0x0, rs := 0x0, wo := 0x0, reset := fun _ _ _ => 0x180 },
  { base := 0x3100004, dims := [(0x20, 0x10000)], rw := 0x0, w1c := 0x600, rs := 0x0, wo := 0x0, reset := fun _ _ _ => 0x0 },
  { base := 0x3100008, dims := [(0x20, 0x10000)], rw := 0x0, w1c := 0x7FF, rs := 0x0, wo := 0x0, reset := fun _ _ _ => 0x0 },
  { base := 0x310000C, dims := [(0x20, 0x10000)], rw := 0x0, w1c := 0x0, rs := 0x0, wo := 0x0, reset := fun _ _ _ => 0x0 },
  { base := 0x3100010, dims := [(0x20, 0x10000)], rw := 0x0, w1c := 0x0, rs := 0x0, wo := 0x0, reset := fun _ _ _ => 0x0 },
  { base := 0x3100014, dims := [(0x20, 0x10000)], rw := 0x0, w1c := 0x0, rs := 0x0, wo := 0x0, reset := fun _ _ _ => 0x0 },
  { base := 0x3100018, dims := [(0x20, 0x10000)], rw := 0x0, w1c := 0x0, rs := 0x0, wo := 0x0, reset := fun _ _ _ => 0x0 },
  { base := 0x310001C, dims := [(0x20, 0x10000)], rw := 0x0, w1c := 0x0, rs := 0x0, wo := 0x0, reset := fun _ _ _ => 0x0 },
  { base := 0x3100020, dims := [(0x20, 0x10000)], rw := 0x0, w1c := 0x0, rs := 0x0, wo := 0x0, reset := fun _ _ _ => 0x0 },
  { base := 0x3100024, dims := [(0x20, 0x10000)], rw := 0x7, w1c := 0x0, rs := 0x0, wo := 0x0, reset := fun _ _ _ => 0x0 },
  { base := 0x3100028, dims := [(0x20, 0x10000)], rw := 0x3FFFFFFF, w1c := 0x0, rs := 0x0, wo := 0x0, reset := fun _ _ _ => 0x20080040 },
  { base := 0x310002C, dims := [(0x20, 0x10000)], rw := 0x3FFFFFFF, w1c := 0x0, rs := 0x0, wo := 0x0, reset := fun _ _ _ => 0x20080100 },
  { base := 0x3100030, dims := [(0x20, 0x10000), (0x4, 0x4)], rw := 0x3FFFFFFF, w1c := 0x0, rs := 0x0, wo := 0x0, reset := fun _ _ _ => 0x20080100 },
  { base := 0x3100040, dims := [(0x20, 0x10000), (0x5, 0x4)], rw := 0x0, w1c := 0x0, rs := 0xFFFFFFFF, wo := 0x0, reset := fun _ _ _ => 0x0 },
  { base := 0x3100060, dims := [(0x20, 0x10000)], rw := 0x7FFF, w1c := 0x0, rs := 0x0, wo := 0x0, reset := fun _ _ _ => 0x0 },
  { base := 0x3100064, dims := [(0x20, 0x10000)], rw := 0x3FFFFFFF, w1c := 0x0, rs := 0x0, wo := 0x0, reset := fun _ _ _ => 0x0 },
  { base := 0x3100100, dims := [(0x20, 0x10000), (0x8, 0x40)], rw := 0x7FFDFFFF, w1c := 0x0, rs := 0x0, wo := 0x0, reset := fun _ _ _ => 0x8000 },
  { base := 0x3100104, dims := [(0x20, 0x10000), (0x8, 0x40)], rw := 0xFFFFFFFF, w1c := 0x0, rs := 0x0, wo := 0x0, reset := fun _ _ _ => 0x0 },
  { base := 0x3100108, dims := [(0x20, 0x10000), (0x8, 0x40)], rw := 0xFFFFFFFF, w1c := 0x0, rs := 0x0, wo := 0x0, reset := fun _ _ _ => 0x21C03C0 },
  { base := 0x310010C, dims := [(0x20, 0x10000), (0x8, 0x40)], rw := 0xFFFFFFFF, w1c := 0x0, rs := 0x0, wo := 0x0, reset := fun _ _ _ => 0x0 },
  { base := 0x3100110, dims := [(0x20, 0x10000), (0x8, 0x40)], rw := 0xFFFFFFFF, w1c := 0x0, rs := 0x0, wo := 0x0, reset := fun _ _ _ => 0x21C03C0 },
  { base := 0x3100114, dims := [(0x20, 0x10000), (0x8, 0x40)], rw := 0x3FFFF, w1c := 0x0, rs := 0x0, wo := 0x0, reset := fun _ _ _ => 0x1FE },
  { base := 0x3100118, dims := [(0x20, 0x10000), (0x8, 0x40)], rw := 0xFF, w1c := 0x0, rs := 0x0, wo := 0x0, reset := fun _ _ _ => 0x0 },
  { base := 0x310011C, dims := [(0x20, 0x10000), (0x8, 0x40)], rw := 0xFFFFFFFF, w1c := 0x0, rs := 0x0, wo := 0x0, reset := fun _ _ _ => 0x0 }]

/-- The registers of block MVH, part 2: address, index ranges, access masks and reset word. -/
def regsMVH1 : List RegDesc := [
  { base := 0x3100120, dims := [(0x20, 0x10000), (0x8, 0x40)], rw := 0x0, w1c := 0x0, rs := 0x0, wo := 0x0, reset := fun _ _ _ => 0x0 },
  { base := 0x3100300, dims := [(0x20, 0x10000)], rw := 0xFFFFFF, w1c := 0x0, rs := 0x0, wo := 0x0, reset := fun _ _ _ => 0x328800 },
  { base := 0x3100304, dims := [(0x20, 0x10000)], rw := 0x3FFF, w1c := 0x0, rs := 0x0, wo := 0x0, reset := fun _ _ _ => 0x4B0 },
  { base := 0x3100308, dims := [(0x20, 0x10000)], rw := 0xFFFFFFFF, w1c := 0x0, rs := 0x0, wo := 0x0, reset := fun _ _ _ => 0x2710 },
  { base := 0x3100310, dims := [(0x20, 0x10000), (0x7, 0x4)], rw := 0xFFFFFFFF, w1c := 0x0, rs := 0x0, wo := 0x0, reset := fun _ _ _ => 0x0 },
  { base := 0x3100330, dims := [(0x20, 0x10000)], rw := 0x0, w1c := 0x8, rs := 0x0, wo := 0x0, reset := fun _ _ _ => 0x0 },
  { base := 0x3100334, dims := [(0x20, 0x10000)], rw := 0x0, w1c := 0x0, rs := 0x0, wo := 0x0, reset := fun _ _ _ => 0x0 },
  { base := 0x3100400, dims := [(0x20, 0x10000)], rw := 0xFFFF001F, w1c := 0x0, rs := 0x0, wo := 0x0, reset := fun _ _ _ => 0x0 },
  { base := 0x3100404, dims := [(0x20, 0x10000), (0x4, 0x4)], rw := 0xFFFFFFFF, w1c := 0x0, rs := 0x0, wo := 0x0, reset := fun _ _ _ => 0x0 },
  { base := 0x3100414, dims := [(0x20, 0x10000)], rw := 0x0, w1c := 0x0, rs := 0x0, wo := 0x0, reset := fun _ _ _ => 0x0 },
  { base := 0x3100418, dims := [(0x20, 0x10000)], rw := 0x0, w1c := 0x0, rs := 0xFFFFFFFF, wo := 0x0, reset := fun _ _ _ => 0x0 }]

/-- The registers of block MVH. -/
def regsMVH : List RegDesc := regsMVH0 ++ regsMVH1

end Sys2Proof.Machine
end

