-- ==== Sys2Proof/Machine/RegsPkt.lean ====
section
/-! DEFINITION. The registers of packet essence and network time (PKT, PTP): the address of each register, the place of each field,
its access type and its reset value, as the register tables of spec/11_packet_essence_and_network_time.md give them. -/

namespace Sys2Proof.Machine

/-- Register PKT_CFG (trellis n), offset 0x000 of its block. -/
abbrev PKT_CFG (n : Nat) : Nat := 0x1C00000 + 0x4000 * n
/-- PKT_CFG.MAX_LEN [13:0] RW, reset 1,522: Largest frame in bytes, clamped to 64–9,216 (R425) -/
abbrev PKT_CFG_MAX_LEN (n : Nat) : Field := ⟨PKT_CFG n, 0, 14⟩
/-- PKT_CFG.PREEMPT [14:14] RW, reset 0: R416, R417 -/
abbrev PKT_CFG_PREEMPT (n : Nat) : Field := ⟨PKT_CFG n, 14, 1⟩
/-- PKT_CFG.ADD_FRAG [16:15] RW, reset 0: Minimum fragment term (R418) -/
abbrev PKT_CFG_ADD_FRAG (n : Nat) : Field := ⟨PKT_CFG n, 15, 2⟩

/-- Register PKT_STATUS (trellis n), offset 0x004 of its block. -/
abbrev PKT_STATUS (n : Nat) : Nat := 0x1C00004 + 0x4000 * n
/-- PKT_STATUS.FCS_ERR [0:0] W1C, reset 0: R420, R425 -/
abbrev PKT_STATUS_FCS_ERR (n : Nat) : Field := ⟨PKT_STATUS n, 0, 1⟩
/-- PKT_STATUS.RUNT [1:1] W1C, reset 0: R425 -/
abbrev PKT_STATUS_RUNT (n : Nat) : Field := ⟨PKT_STATUS n, 1, 1⟩
/-- PKT_STATUS.OVERSIZE [2:2] W1C, reset 0: R425 -/
abbrev PKT_STATUS_OVERSIZE (n : Nat) : Field := ⟨PKT_STATUS n, 2, 1⟩
/-- PKT_STATUS.ABORT [3:3] W1C, reset 0: R414 -/
abbrev PKT_STATUS_ABORT (n : Nat) : Field := ⟨PKT_STATUS n, 3, 1⟩
/-- PKT_STATUS.FRAG_ERR [4:4] W1C, reset 0: R416, R420 -/
abbrev PKT_STATUS_FRAG_ERR (n : Nat) : Field := ⟨PKT_STATUS n, 4, 1⟩
/-- PKT_STATUS.TAG_ERR [5:5] W1C, reset 0: R426 -/
abbrev PKT_STATUS_TAG_ERR (n : Nat) : Field := ⟨PKT_STATUS n, 5, 1⟩
/-- PKT_STATUS.IP_ERR [6:6] W1C, reset 0: R428 -/
abbrev PKT_STATUS_IP_ERR (n : Nat) : Field := ⟨PKT_STATUS n, 6, 1⟩
/-- PKT_STATUS.UNMATCHED [7:7] W1C, reset 0: R429 -/
abbrev PKT_STATUS_UNMATCHED (n : Nat) : Field := ⟨PKT_STATUS n, 7, 1⟩
/-- PKT_STATUS.PTP_OFF [8:8] W1C, reset 0: R427 -/
abbrev PKT_STATUS_PTP_OFF (n : Nat) : Field := ⟨PKT_STATUS n, 8, 1⟩
/-- PKT_STATUS.CTX_OFF [9:9] W1C, reset 0: R443 -/
abbrev PKT_STATUS_CTX_OFF (n : Nat) : Field := ⟨PKT_STATUS n, 9, 1⟩
/-- PKT_STATUS.TX_DROP [10:10] W1C, reset 0: A transmit context on this trellis dropped packets (R451) -/
abbrev PKT_STATUS_TX_DROP (n : Nat) : Field := ⟨PKT_STATUS n, 10, 1⟩
/-- PKT_STATUS.RX_CLAIM [16:16] RO, reset 0: CLAIM of the last STATUS received -/
abbrev PKT_STATUS_RX_CLAIM (n : Nat) : Field := ⟨PKT_STATUS n, 16, 1⟩
/-- PKT_STATUS.RX_SIDE [17:17] RO, reset 0: SIDE of the last STATUS received -/
abbrev PKT_STATUS_RX_SIDE (n : Nat) : Field := ⟨PKT_STATUS n, 17, 1⟩

/-- Register PKT_CNT (trellis n, k = 0 to 11), offset 0x010 + 4k of its block. -/
abbrev PKT_CNT (n : Nat) (k : Nat) : Nat := 0x1C00010 + 0x4000 * n + 0x4 * k
/-- PKT_CNT.COUNT [31:0] RS, reset 0: k = 0 frames received; 1 FCS errors; 2 runts; 3 oversize; 4 aborted; 5 fragment errors; 6 tag errors; 7 IP errors; 8 unmatched; 9 frames to PTP; 10 frames sent; 11 transmit drops. Saturating; cleared by the read -/
abbrev PKT_CNT_COUNT (n : Nat) (k : Nat) : Field := ⟨PKT_CNT n k, 0, 32⟩

/-- Register PKT_TX_USED (trellis n), offset 0x040 of its block. -/
abbrev PKT_TX_USED (n : Nat) : Nat := 0x1C00040 + 0x4000 * n
/-- PKT_TX_USED.MBPS [31:0] RO, reset 0: Sum of RATE of active transmit contexts (R450) -/
abbrev PKT_TX_USED_MBPS (n : Nat) : Field := ⟨PKT_TX_USED n, 0, 32⟩

/-- Register PKT_CAP (trellis n, k = 0 to 15), offset 0x100 + 4k of its block. -/
abbrev PKT_CAP (n : Nat) (k : Nat) : Nat := 0x1C00100 + 0x4000 * n + 0x4 * k
/-- PKT_CAP.BYTES [31:0] RO, reset 0: Bytes 4k to 4k + 3 of the last unmatched frame, byte 4k in [7:0] (R429) -/
abbrev PKT_CAP_BYTES (n : Nat) (k : Nat) : Field := ⟨PKT_CAP n k, 0, 32⟩

/-- Register PKT_RXC_CFG (receive context x), offset 0x00 of its block. -/
abbrev PKT_RXC_CFG (x : Nat) : Nat := 0x1D00000 + 0x20 * x
/-- PKT_RXC_CFG.EN [0:0] RW, reset 0: Context enabled -/
abbrev PKT_RXC_CFG_EN (x : Nat) : Field := ⟨PKT_RXC_CFG x, 0, 1⟩
/-- PKT_RXC_CFG.TYPE [2:1] RW, reset 0: 0 ST 2110-20, 1 -30, 2 -40; 3 is stored as 0 -/
abbrev PKT_RXC_CFG_TYPE (x : Nat) : Field := ⟨PKT_RXC_CFG x, 1, 2⟩
/-- PKT_RXC_CFG.MERGE [3:3] RW, reset 0: ST 2022-7 merge (R435) -/
abbrev PKT_RXC_CFG_MERGE (x : Nat) : Field := ⟨PKT_RXC_CFG x, 3, 1⟩
/-- PKT_RXC_CFG.TIMING [4:4] RW, reset 0: 0 PTP, 1 arrival (R436) -/
abbrev PKT_RXC_CFG_TIMING (x : Nat) : Field := ⟨PKT_RXC_CFG x, 4, 1⟩
/-- PKT_RXC_CFG.PTP_SEL [10:5] RW, reset 0: Trellis of the PTP instance -/
abbrev PKT_RXC_CFG_PTP_SEL (x : Nat) : Field := ⟨PKT_RXC_CFG x, 5, 6⟩
/-- PKT_RXC_CFG.PT [17:11] RW, reset 96: RTP payload type -/
abbrev PKT_RXC_CFG_PT (x : Nat) : Field := ⟨PKT_RXC_CFG x, 11, 7⟩
/-- PKT_RXC_CFG.SSRC_CHK [18:18] RW, reset 0: R438 -/
abbrev PKT_RXC_CFG_SSRC_CHK (x : Nat) : Field := ⟨PKT_RXC_CFG x, 18, 1⟩
/-- PKT_RXC_CFG.FORMAT [21:19] RW, reset 5: Type 0: Table 05-4 -/
abbrev PKT_RXC_CFG_FORMAT (x : Nat) : Field := ⟨PKT_RXC_CFG x, 19, 3⟩
/-- PKT_RXC_CFG.RATE [24:22] RW, reset 5: Type 0: Table 05-3 -/
abbrev PKT_RXC_CFG_RATE (x : Nat) : Field := ⟨PKT_RXC_CFG x, 22, 3⟩
/-- PKT_RXC_CFG.ENC [25:25] RW, reset 0: Type 1: 0 L24, 1 L16 -/
abbrev PKT_RXC_CFG_ENC (x : Nat) : Field := ⟨PKT_RXC_CFG x, 25, 1⟩
/-- PKT_RXC_CFG.PTIME [26:26] RW, reset 0: Type 1: 0 1 ms, 1 125 µs -/
abbrev PKT_RXC_CFG_PTIME (x : Nat) : Field := ⟨PKT_RXC_CFG x, 26, 1⟩

/-- Register PKT_RXC_BIND (receive context x), offset 0x04 of its block. -/
abbrev PKT_RXC_BIND (x : Nat) : Nat := 0x1D00004 + 0x20 * x
/-- PKT_RXC_BIND.BASE [13:0] RW, reset 0: Type 0: input quarter-slot id; type 1: first packet receive channel; type 2: companion context (R433) -/
abbrev PKT_RXC_BIND_BASE (x : Nat) : Field := ⟨PKT_RXC_BIND x, 0, 14⟩
/-- PKT_RXC_BIND.COUNT [20:14] RW, reset 1: Type 1: channels, 1–64; 0 is stored as 1 -/
abbrev PKT_RXC_BIND_COUNT (x : Nat) : Field := ⟨PKT_RXC_BIND x, 14, 7⟩

/-- Register PKT_RXC_TIME (receive context x), offset 0x08 of its block. -/
abbrev PKT_RXC_TIME (x : Nat) : Nat := 0x1D00008 + 0x20 * x
/-- PKT_RXC_TIME.PLAYOUT [13:0] RW, reset 1,000: Playout delay in µs, clamped to 0–10,000 -/
abbrev PKT_RXC_TIME_PLAYOUT (x : Nat) : Field := ⟨PKT_RXC_TIME x, 0, 14⟩
/-- PKT_RXC_TIME.MERGE_WIN [22:14] RW, reset 10: Merge window in 0.1 ms, clamped as in R435 -/
abbrev PKT_RXC_TIME_MERGE_WIN (x : Nat) : Field := ⟨PKT_RXC_TIME x, 14, 9⟩
/-- PKT_RXC_TIME.LOSS_TO [30:23] RW, reset 20: Leg loss timeout in 0.1 ms; 0 is stored as 1 -/
abbrev PKT_RXC_TIME_LOSS_TO (x : Nat) : Field := ⟨PKT_RXC_TIME x, 23, 8⟩

/-- Register PKT_RXC_SSRC (receive context x), offset 0x0C of its block. -/
abbrev PKT_RXC_SSRC (x : Nat) : Nat := 0x1D0000C + 0x20 * x
/-- PKT_RXC_SSRC.SSRC [31:0] RW, reset 0: Expected SSRC (R438) -/
abbrev PKT_RXC_SSRC_SSRC (x : Nat) : Field := ⟨PKT_RXC_SSRC x, 0, 32⟩

/-- Register PKT_RXC_RATE (receive context x), offset 0x10 of its block. -/
abbrev PKT_RXC_RATE (x : Nat) : Nat := 0x1D00010 + 0x20 * x
/-- PKT_RXC_RATE.MBPS [31:0] RW, reset 1: Declared flow rate for admission and buffer size (R434); 0 is stored as 1 -/
abbrev PKT_RXC_RATE_MBPS (x : Nat) : Field := ⟨PKT_RXC_RATE x, 0, 32⟩

/-- Register PKT_RXC_STAT (receive context x), offset 0x14 of its block. -/
abbrev PKT_RXC_STAT (x : Nat) : Nat := 0x1D00014 + 0x20 * x
/-- PKT_RXC_STAT.ACTIVE [0:0] RO, reset 0: Context active -/
abbrev PKT_RXC_STAT_ACTIVE (x : Nat) : Field := ⟨PKT_RXC_STAT x, 0, 1⟩
/-- PKT_RXC_STAT.PRESENT [1:1] RO, reset 0: R439, R440 -/
abbrev PKT_RXC_STAT_PRESENT (x : Nat) : Field := ⟨PKT_RXC_STAT x, 1, 1⟩
/-- PKT_RXC_STAT.LEG0 [2:2] RO, reset 0: Leg 0 present -/
abbrev PKT_RXC_STAT_LEG0 (x : Nat) : Field := ⟨PKT_RXC_STAT x, 2, 1⟩
/-- PKT_RXC_STAT.LEG1 [3:3] RO, reset 0: Leg 1 present -/
abbrev PKT_RXC_STAT_LEG1 (x : Nat) : Field := ⟨PKT_RXC_STAT x, 3, 1⟩
/-- PKT_RXC_STAT.TIMING_EFF [4:4] RO, reset 0: 0 PTP, 1 arrival (R436) -/
abbrev PKT_RXC_STAT_TIMING_EFF (x : Nat) : Field := ⟨PKT_RXC_STAT x, 4, 1⟩
/-- PKT_RXC_STAT.BIND_ERR [5:5] RO, reset 0: R433 -/
abbrev PKT_RXC_STAT_BIND_ERR (x : Nat) : Field := ⟨PKT_RXC_STAT x, 5, 1⟩
/-- PKT_RXC_STAT.ADM_REASON [8:6] RO, reset 0: Table 09-10 (R434) -/
abbrev PKT_RXC_STAT_ADM_REASON (x : Nat) : Field := ⟨PKT_RXC_STAT x, 6, 3⟩
/-- PKT_RXC_STAT.FMT_ERR [9:9] W1C, reset 0: R440 -/
abbrev PKT_RXC_STAT_FMT_ERR (x : Nat) : Field := ⟨PKT_RXC_STAT x, 9, 1⟩
/-- PKT_RXC_STAT.LEG0_LATE [10:10] W1C, reset 0: Stale copy on leg 0 (R438) -/
abbrev PKT_RXC_STAT_LEG0_LATE (x : Nat) : Field := ⟨PKT_RXC_STAT x, 10, 1⟩
/-- PKT_RXC_STAT.LEG1_LATE [11:11] W1C, reset 0: Stale copy on leg 1 -/
abbrev PKT_RXC_STAT_LEG1_LATE (x : Nat) : Field := ⟨PKT_RXC_STAT x, 11, 1⟩
/-- PKT_RXC_STAT.REANCHOR [12:12] W1C, reset 0: R437 -/
abbrev PKT_RXC_STAT_REANCHOR (x : Nat) : Field := ⟨PKT_RXC_STAT x, 12, 1⟩

/-- Register PKT_RXC_SKEW (receive context x), offset 0x18 of its block. -/
abbrev PKT_RXC_SKEW (x : Nat) : Nat := 0x1D00018 + 0x20 * x
/-- PKT_RXC_SKEW.US [15:0] RS, reset 0: Largest path differential in µs since the last read (R439); cleared by the read -/
abbrev PKT_RXC_SKEW_US (x : Nat) : Field := ⟨PKT_RXC_SKEW x, 0, 16⟩

/-- Register PKT_TXC_CFG (transmit context y), offset 0x00 of its block. -/
abbrev PKT_TXC_CFG (y : Nat) : Nat := 0x1D40000 + 0x40 * y
/-- PKT_TXC_CFG.EN [0:0] RW, reset 0: Context enabled (R451) -/
abbrev PKT_TXC_CFG_EN (y : Nat) : Field := ⟨PKT_TXC_CFG y, 0, 1⟩
/-- PKT_TXC_CFG.TYPE [2:1] RW, reset 0: As for receive contexts -/
abbrev PKT_TXC_CFG_TYPE (y : Nat) : Field := ⟨PKT_TXC_CFG y, 1, 2⟩
/-- PKT_TXC_CFG.PACER [3:3] RW, reset 0: 0 Type N, 1 Type W (R449) -/
abbrev PKT_TXC_CFG_PACER (y : Nat) : Field := ⟨PKT_TXC_CFG y, 3, 1⟩
/-- PKT_TXC_CFG.EXPRESS [4:4] RW, reset 0: Express class (R417) -/
abbrev PKT_TXC_CFG_EXPRESS (y : Nat) : Field := ⟨PKT_TXC_CFG y, 4, 1⟩
/-- PKT_TXC_CFG.VLAN_EN [5:5] RW, reset 0: Insert a tag (R446) -/
abbrev PKT_TXC_CFG_VLAN_EN (y : Nat) : Field := ⟨PKT_TXC_CFG y, 5, 1⟩
/-- PKT_TXC_CFG.PCP [8:6] RW, reset 0: Tag priority -/
abbrev PKT_TXC_CFG_PCP (y : Nat) : Field := ⟨PKT_TXC_CFG y, 6, 3⟩
/-- PKT_TXC_CFG.DSCP [14:9] RW, reset 34: IPv4 DSCP -/
abbrev PKT_TXC_CFG_DSCP (y : Nat) : Field := ⟨PKT_TXC_CFG y, 9, 6⟩
/-- PKT_TXC_CFG.PT [21:15] RW, reset 96: RTP payload type -/
abbrev PKT_TXC_CFG_PT (y : Nat) : Field := ⟨PKT_TXC_CFG y, 15, 7⟩
/-- PKT_TXC_CFG.PTP_SEL [27:22] RW, reset 0: Trellis of the PTP instance (R447) -/
abbrev PKT_TXC_CFG_PTP_SEL (y : Nat) : Field := ⟨PKT_TXC_CFG y, 22, 6⟩
/-- PKT_TXC_CFG.PACKING [28:28] RW, reset 0: Type 0: 0 general, 1 block (R445) -/
abbrev PKT_TXC_CFG_PACKING (y : Nat) : Field := ⟨PKT_TXC_CFG y, 28, 1⟩
/-- PKT_TXC_CFG.ENC [29:29] RW, reset 0: Type 1: 0 L24, 1 L16 -/
abbrev PKT_TXC_CFG_ENC (y : Nat) : Field := ⟨PKT_TXC_CFG y, 29, 1⟩
/-- PKT_TXC_CFG.PTIME [30:30] RW, reset 0: Type 1: 0 1 ms, 1 125 µs -/
abbrev PKT_TXC_CFG_PTIME (y : Nat) : Field := ⟨PKT_TXC_CFG y, 30, 1⟩

/-- Register PKT_TXC_BIND (transmit context y), offset 0x04 of its block. -/
abbrev PKT_TXC_BIND (y : Nat) : Nat := 0x1D40004 + 0x40 * y
/-- PKT_TXC_BIND.BASE [13:0] RW, reset 0: Types 0 and 2: output quarter-slot id; type 1: first packet transmit channel (R444) -/
abbrev PKT_TXC_BIND_BASE (y : Nat) : Field := ⟨PKT_TXC_BIND y, 0, 14⟩
/-- PKT_TXC_BIND.COUNT [20:14] RW, reset 1: Type 1: channels, 1–64; 0 is stored as 1 -/
abbrev PKT_TXC_BIND_COUNT (y : Nat) : Field := ⟨PKT_TXC_BIND y, 14, 7⟩
/-- PKT_TXC_BIND.TRELLIS [26:21] RW, reset 0: Type 1: sending trellis -/
abbrev PKT_TXC_BIND_TRELLIS (y : Nat) : Field := ⟨PKT_TXC_BIND y, 21, 6⟩

/-- Register PKT_TXC_HDR (transmit context y, k = 0 to 7), offset 0x08 + 4k of its block. -/
abbrev PKT_TXC_HDR (y : Nat) (k : Nat) : Nat := 0x1D40008 + 0x40 * y + 0x4 * k
/-- PKT_TXC_HDR.VALUE [31:0] RW, reset 0: k = 0 destination MAC [47:16]; 1 [31:16] destination MAC [15:0] and [15:0] source MAC [47:32]; 2 source MAC [31:0]; 3 [11:0] VID and [23:16] TTL; 4 source IPv4; 5 destination IPv4; 6 [31:16] source port and [15:0] destination port; 7 SSRC -/
abbrev PKT_TXC_HDR_VALUE (y : Nat) (k : Nat) : Field := ⟨PKT_TXC_HDR y k, 0, 32⟩

/-- Register PKT_TXC_PKT (transmit context y), offset 0x28 of its block. -/
abbrev PKT_TXC_PKT (y : Nat) : Nat := 0x1D40028 + 0x40 * y
/-- PKT_TXC_PKT.PAYLOAD [10:0] RW, reset 1,200: Type 0 payload in bytes (R445); refused values set BIND_ERR -/
abbrev PKT_TXC_PKT_PAYLOAD (y : Nat) : Field := ⟨PKT_TXC_PKT y, 0, 11⟩

/-- Register PKT_TXC_TRO (transmit context y), offset 0x2C of its block. -/
abbrev PKT_TXC_TRO (y : Nat) : Nat := 0x1D4002C + 0x40 * y
/-- PKT_TXC_TRO.NS [31:0] RW, reset 0: TRO in ns; 0 selects TRO_DEFAULT (R449) -/
abbrev PKT_TXC_TRO_NS (y : Nat) : Field := ⟨PKT_TXC_TRO y, 0, 32⟩

/-- Register PKT_TXC_RATE (transmit context y), offset 0x30 of its block. -/
abbrev PKT_TXC_RATE (y : Nat) : Nat := 0x1D40030 + 0x40 * y
/-- PKT_TXC_RATE.MBPS [31:0] RW, reset 1: Declared rate (R450); 0 is stored as 1 -/
abbrev PKT_TXC_RATE_MBPS (y : Nat) : Field := ⟨PKT_TXC_RATE y, 0, 32⟩

/-- Register PKT_TXC_STAT (transmit context y), offset 0x34 of its block. -/
abbrev PKT_TXC_STAT (y : Nat) : Nat := 0x1D40034 + 0x40 * y
/-- PKT_TXC_STAT.ACTIVE [0:0] RO, reset 0: Context sending -/
abbrev PKT_TXC_STAT_ACTIVE (y : Nat) : Field := ⟨PKT_TXC_STAT y, 0, 1⟩
/-- PKT_TXC_STAT.BIND_ERR [1:1] RO, reset 0: R444, R445 -/
abbrev PKT_TXC_STAT_BIND_ERR (y : Nat) : Field := ⟨PKT_TXC_STAT y, 1, 1⟩
/-- PKT_TXC_STAT.BUDGET [2:2] RO, reset 0: Enable refused (R450) -/
abbrev PKT_TXC_STAT_BUDGET (y : Nat) : Field := ⟨PKT_TXC_STAT y, 2, 1⟩
/-- PKT_TXC_STAT.LATE [3:3] W1C, reset 0: R449 -/
abbrev PKT_TXC_STAT_LATE (y : Nat) : Field := ⟨PKT_TXC_STAT y, 3, 1⟩
/-- PKT_TXC_STAT.DROP [4:4] W1C, reset 0: R451 -/
abbrev PKT_TXC_STAT_DROP (y : Nat) : Field := ⟨PKT_TXC_STAT y, 4, 1⟩
/-- PKT_TXC_STAT.TS_PTP [5:5] RO, reset 0: Timestamps from a rate-locked instance (R447) -/
abbrev PKT_TXC_STAT_TS_PTP (y : Nat) : Field := ⟨PKT_TXC_STAT y, 5, 1⟩

/-- Register PKT_CLS_IDX (classifier port), offset 0x00 of its block. -/
abbrev PKT_CLS_IDX : Nat := 0x1D80000
/-- PKT_CLS_IDX.INDEX [14:0] RW, reset 0: Entry index -/
abbrev PKT_CLS_IDX_INDEX : Field := ⟨PKT_CLS_IDX, 0, 15⟩

/-- Register PKT_CLS_W (classifier port, k = 0 to 3), offset 0x04 + 4k of its block. -/
abbrev PKT_CLS_W (k : Nat) : Nat := 0x1D80004 + 0x4 * k
/-- PKT_CLS_W.WORD [31:0] RW, reset 0: Entry word k, Table 11-3; loaded by READ -/
abbrev PKT_CLS_W_WORD (k : Nat) : Field := ⟨PKT_CLS_W k, 0, 32⟩

/-- Register PKT_CLS_CMD (classifier port), offset 0x14 of its block. -/
abbrev PKT_CLS_CMD : Nat := 0x1D80014
/-- PKT_CLS_CMD.WRITE [0:0] WO, reset 0: Install the staged words at INDEX (R432) -/
abbrev PKT_CLS_CMD_WRITE : Field := ⟨PKT_CLS_CMD, 0, 1⟩
/-- PKT_CLS_CMD.READ [1:1] WO, reset 0: Load entry INDEX into PKT_CLS_W -/
abbrev PKT_CLS_CMD_READ : Field := ⟨PKT_CLS_CMD, 1, 1⟩

/-- Register PTP_CFG (instance n), offset 0x00 of its block. -/
abbrev PTP_CFG (n : Nat) : Nat := 0x1E00000 + 0x100 * n
/-- PTP_CFG.EN [0:0] RW, reset 0: Instance enabled (R454) -/
abbrev PTP_CFG_EN (n : Nat) : Field := ⟨PTP_CFG n, 0, 1⟩
/-- PTP_CFG.TRANSPORT [1:1] RW, reset 0: 0 UDP/IPv4, 1 IEEE 802.3 -/
abbrev PTP_CFG_TRANSPORT (n : Nat) : Field := ⟨PTP_CFG n, 1, 1⟩
/-- PTP_CFG.DELAY [2:2] RW, reset 0: 0 multicast, 1 unicast Delay_Req -/
abbrev PTP_CFG_DELAY (n : Nat) : Field := ⟨PTP_CFG n, 2, 1⟩
/-- PTP_CFG.DOMAIN [10:3] RW, reset 127: Domain number, clamped to 0–127 -/
abbrev PTP_CFG_DOMAIN (n : Nat) : Field := ⟨PTP_CFG n, 3, 8⟩
/-- PTP_CFG.LOG_DREQ [14:11] RW, reset −3: Signed, clamped to −7 to 0 -/
abbrev PTP_CFG_LOG_DREQ (n : Nat) : Field := ⟨PTP_CFG n, 11, 4⟩
/-- PTP_CFG.ANN_TO [17:15] RW, reset 3: Announce receipt timeout, clamped to 2–7 -/
abbrev PTP_CFG_ANN_TO (n : Nat) : Field := ⟨PTP_CFG n, 15, 3⟩
/-- PTP_CFG.AUTO_ACCEPT [18:18] RW, reset 0: R460 -/
abbrev PTP_CFG_AUTO_ACCEPT (n : Nat) : Field := ⟨PTP_CFG n, 18, 1⟩
/-- PTP_CFG.ACCEPT_S [26:19] RW, reset 10: Evaluations for automatic acceptance; 0 is stored as 1 -/
abbrev PTP_CFG_ACCEPT_S (n : Nat) : Field := ⟨PTP_CFG n, 19, 8⟩

/-- Register PTP_STEP (instance n), offset 0x04 of its block. -/
abbrev PTP_STEP (n : Nat) : Nat := 0x1E00004 + 0x100 * n
/-- PTP_STEP.LIMIT_NS [31:0] RW, reset 10,000: Jump limit in ns, clamped to 100–100,000,000 -/
abbrev PTP_STEP_LIMIT_NS (n : Nat) : Field := ⟨PTP_STEP n, 0, 32⟩

/-- Register PTP_STATUS (instance n), offset 0x08 of its block. -/
abbrev PTP_STATUS (n : Nat) : Nat := 0x1E00008 + 0x100 * n
/-- PTP_STATUS.PORT [2:0] RO, reset 0: Table 11-5 -/
abbrev PTP_STATUS_PORT (n : Nat) : Field := ⟨PTP_STATUS n, 0, 3⟩
/-- PTP_STATUS.SERVO [5:3] RO, reset 0: Table 11-6 -/
abbrev PTP_STATUS_SERVO (n : Nat) : Field := ⟨PTP_STATUS n, 3, 3⟩
/-- PTP_STATUS.GM_VALID [6:6] RO, reset 0: A master is chosen -/
abbrev PTP_STATUS_GM_VALID (n : Nat) : Field := ⟨PTP_STATUS n, 6, 1⟩
/-- PTP_STATUS.UTC_OFFS [31:16] RO, reset 0: currentUtcOffset of the last Announce -/
abbrev PTP_STATUS_UTC_OFFS (n : Nat) : Field := ⟨PTP_STATUS n, 16, 16⟩

/-- Register PTP_EVENT (instance n), offset 0x0C of its block. -/
abbrev PTP_EVENT (n : Nat) : Nat := 0x1E0000C + 0x100 * n
/-- PTP_EVENT.STATE_CHANGE [0:0] W1C, reset 0: Port state changed -/
abbrev PTP_EVENT_STATE_CHANGE (n : Nat) : Field := ⟨PTP_EVENT n, 0, 1⟩
/-- PTP_EVENT.GM_CHANGE [1:1] W1C, reset 0: Another master chosen -/
abbrev PTP_EVENT_GM_CHANGE (n : Nat) : Field := ⟨PTP_EVENT n, 1, 1⟩
/-- PTP_EVENT.STEP [2:2] W1C, reset 0: Step-once or accepted jump applied -/
abbrev PTP_EVENT_STEP (n : Nat) : Field := ⟨PTP_EVENT n, 2, 1⟩
/-- PTP_EVENT.JUMP [3:3] W1C, reset 0: JUMP_HELD entered (R460) -/
abbrev PTP_EVENT_JUMP (n : Nat) : Field := ⟨PTP_EVENT n, 3, 1⟩
/-- PTP_EVENT.JUMP_CLEARED [4:4] W1C, reset 0: JUMP_HELD left without a step -/
abbrev PTP_EVENT_JUMP_CLEARED (n : Nat) : Field := ⟨PTP_EVENT n, 4, 1⟩
/-- PTP_EVENT.ANN_TIMEOUT [5:5] W1C, reset 0: Announce receipt timeout -/
abbrev PTP_EVENT_ANN_TIMEOUT (n : Nat) : Field := ⟨PTP_EVENT n, 5, 1⟩
/-- PTP_EVENT.ACC_IGN [6:6] W1C, reset 0: ACCEPT ignored (R460) -/
abbrev PTP_EVENT_ACC_IGN (n : Nat) : Field := ⟨PTP_EVENT n, 6, 1⟩
/-- PTP_EVENT.RATE_LOCK_LOST [7:7] W1C, reset 0: RATE_LOCK left -/
abbrev PTP_EVENT_RATE_LOCK_LOST (n : Nat) : Field := ⟨PTP_EVENT n, 7, 1⟩

/-- Register PTP_CTRL (instance n), offset 0x10 of its block. -/
abbrev PTP_CTRL (n : Nat) : Nat := 0x1E00010 + 0x100 * n
/-- PTP_CTRL.ACCEPT [0:0] WO, reset 0: Accept the held jump (R460) -/
abbrev PTP_CTRL_ACCEPT (n : Nat) : Field := ⟨PTP_CTRL n, 0, 1⟩
/-- PTP_CTRL.RESTART [1:1] WO, reset 0: R461 -/
abbrev PTP_CTRL_RESTART (n : Nat) : Field := ⟨PTP_CTRL n, 1, 1⟩

/-- Register PTP_OFFS (instance n), offset 0x14 of its block. -/
abbrev PTP_OFFS (n : Nat) : Nat := 0x1E00014 + 0x100 * n
/-- PTP_OFFS.NS [31:0] RO, reset 0: Residual r of the last evaluation, signed, in ns -/
abbrev PTP_OFFS_NS (n : Nat) : Field := ⟨PTP_OFFS n, 0, 32⟩

/-- Register PTP_RATE (instance n), offset 0x18 of its block. -/
abbrev PTP_RATE (n : Nat) : Nat := 0x1E00018 + 0x100 * n
/-- PTP_RATE.PPB [31:0] RO, reset 0: Rate estimate of the master against device time, signed -/
abbrev PTP_RATE_PPB (n : Nat) : Field := ⟨PTP_RATE n, 0, 32⟩

/-- Register PTP_MPD (instance n), offset 0x1C of its block. -/
abbrev PTP_MPD (n : Nat) : Nat := 0x1E0001C + 0x100 * n
/-- PTP_MPD.NS [31:0] RO, reset 0: Mean path delay (R457) -/
abbrev PTP_MPD_NS (n : Nat) : Field := ⟨PTP_MPD n, 0, 32⟩

/-- Register PTP_JUMP (instance n), offset 0x20 of its block. -/
abbrev PTP_JUMP (n : Nat) : Nat := 0x1E00020 + 0x100 * n
/-- PTP_JUMP.NS [31:0] RO, reset 0: Residual held at entry to JUMP_HELD, signed -/
abbrev PTP_JUMP_NS (n : Nat) : Field := ⟨PTP_JUMP n, 0, 32⟩

/-- Register PTP_LAT (instance n), offset 0x24 of its block. -/
abbrev PTP_LAT (n : Nat) : Nat := 0x1E00024 + 0x100 * n
/-- PTP_LAT.RX_LAT [15:0] RW, reset OTP: Receive latency in 0.1 ns (R456) -/
abbrev PTP_LAT_RX_LAT (n : Nat) : Field := ⟨PTP_LAT n, 0, 16⟩
/-- PTP_LAT.TX_LAT [31:16] RW, reset OTP: Transmit latency in 0.1 ns -/
abbrev PTP_LAT_TX_LAT (n : Nat) : Field := ⟨PTP_LAT n, 16, 16⟩

/-- Register PTP_LINK (instance n), offset 0x28 of its block. -/
abbrev PTP_LINK (n : Nat) : Nat := 0x1E00028 + 0x100 * n
/-- PTP_LINK.LINK_RX [15:0] RW, reset 0: Partner latency towards the AX1152 in ns (R424) -/
abbrev PTP_LINK_LINK_RX (n : Nat) : Field := ⟨PTP_LINK n, 0, 16⟩
/-- PTP_LINK.LINK_TX [31:16] RW, reset 0: Partner latency away from the AX1152 in ns -/
abbrev PTP_LINK_LINK_TX (n : Nat) : Field := ⟨PTP_LINK n, 16, 16⟩

/-- Register PTP_ASYM (instance n), offset 0x2C of its block. -/
abbrev PTP_ASYM (n : Nat) : Nat := 0x1E0002C + 0x100 * n
/-- PTP_ASYM.NS [31:0] RW, reset 0: delayAsymmetry, signed, in ns -/
abbrev PTP_ASYM_NS (n : Nat) : Field := ⟨PTP_ASYM n, 0, 32⟩

/-- Register PTP_GM (instance n, k = 0 to 1), offset 0x30 + 4k of its block. -/
abbrev PTP_GM (n : Nat) (k : Nat) : Nat := 0x1E00030 + 0x100 * n + 0x4 * k
/-- PTP_GM.ID [31:0] RO, reset 0: Master clockIdentity; k = 0 bytes 0–3, k = 1 bytes 4–7, byte 0 in [31:24] -/
abbrev PTP_GM_ID (n : Nat) (k : Nat) : Field := ⟨PTP_GM n k, 0, 32⟩

/-- Register PTP_ADDR (instance n, k = 0 to 3), offset 0x40 + 4k of its block. -/
abbrev PTP_ADDR (n : Nat) (k : Nat) : Nat := 0x1E00040 + 0x100 * n + 0x4 * k
/-- PTP_ADDR.VALUE [31:0] RW, reset 0: k = 0 source MAC [47:16]; 1 [15:0] source MAC [15:0]; 2 source IPv4; 3 [11:0] VID, 0xFFF untagged -/
abbrev PTP_ADDR_VALUE (n : Nat) (k : Nat) : Field := ⟨PTP_ADDR n k, 0, 32⟩

/-- Register PTP_DT (device time, k = 0 to 2), offset 0x00 + 4k of its block. -/
abbrev PTP_DT (k : Nat) : Nat := 0x1E04000 + 0x4 * k
/-- PTP_DT.VALUE [31:0] k = 0 RS; else RO, reset 0: k = 0 seconds [31:0], whose read latches k = 1 and 2 at the same instant; 1 [15:0] seconds [47:32]; 2 [29:0] nanoseconds -/
abbrev PTP_DT_VALUE (k : Nat) : Field := ⟨PTP_DT k, 0, 32⟩

/-- The registers of block PKT: address, index ranges, access masks and reset word. -/
def regsPKT : List RegDesc := [
  { base := 0x1C00000, dims := [(0x24, 0x4000)], rw := 0x1FFFF, w1c := 0x0, rs := 0x0, wo := 0x0, reset := fun _ _ _ => 0x5F2 },
  { base := 0x1C00004, dims := [(0x24, 0x4000)], rw := 0x0, w1c := 0x7FF, rs := 0x0, wo := 0x0, reset := fun _ _ _ => 0x0 },
  { base := 0x1C00010, dims := [(0x24, 0x4000), (0xC, 0x4)], rw := 0x0, w1c := 0x0, rs := 0xFFFFFFFF, wo := 0x0, reset := fun _ _ _ => 0x0 },
  { base := 0x1C00040, dims := [(0x24, 0x4000)], rw := 0x0, w1c := 0x0, rs := 0x0, wo := 0x0, reset := fun _ _ _ => 0x0 },
  { base := 0x1C00100, dims := [(0x24, 0x4000), (0x10, 0x4)], rw := 0x0, w1c := 0x0, rs := 0x0, wo := 0x0, reset := fun _ _ _ => 0x0 }]

/-- The registers of block PKT_RXC: address, index ranges, access masks and reset word. -/
def regsPKTRXC : List RegDesc := [
  { base := 0x1D00000, dims := [(0x1000, 0x20)], rw := 0x7FFFFFF, w1c := 0x0, rs := 0x0, wo := 0x0, reset := fun _ _ _ => 0x16B0000 },
  { base := 0x1D00004, dims := [(0x1000, 0x20)], rw := 0x1FFFFF, w1c := 0x0, rs := 0x0, wo := 0x0, reset := fun _ _ _ => 0x4000 },
  { base := 0x1D00008, dims := [(0x1000, 0x20)], rw := 0x7FFFFFFF, w1c := 0x0, rs := 0x0, wo := 0x0, reset := fun _ _ _ => 0xA0283E8 },
  { base := 0x1D0000C, dims := [(0x1000, 0x20)], rw := 0xFFFFFFFF, w1c := 0x0, rs := 0x0, wo := 0x0, reset := fun _ _ _ => 0x0 },
  { base := 0x1D00010, dims := [(0x1000, 0x20)], rw := 0xFFFFFFFF, w1c := 0x0, rs := 0x0, wo := 0x0, reset := fun _ _ _ => 0x1 },
  { base := 0x1D00014, dims := [(0x1000, 0x20)], rw := 0x0, w1c := 0x1E00, rs := 0x0, wo := 0x0, reset := fun _ _ _ => 0x0 },
  { base := 0x1D00018, dims := [(0x1000, 0x20)], rw := 0x0, w1c := 0x0, rs := 0xFFFF, wo := 0x0, reset := fun _ _ _ => 0x0 }]

/-- The registers of block PKT_TXC: address, index ranges, access masks and reset word. -/
def regsPKTTXC : List RegDesc := [
  { base := 0x1D40000, dims := [(0x1000, 0x40)], rw := 0x7FFFFFFF, w1c := 0x0, rs := 0x0, wo := 0x0, reset := fun _ _ _ => 0x304400 },
  { base := 0x1D40004, dims := [(0x1000, 0x40)], rw := 0x7FFFFFF, w1c := 0x0, rs := 0x0, wo := 0x0, reset := fun _ _ _ => 0x4000 },
  { base := 0x1D40008, dims := [(0x1000, 0x40), (0x8, 0x4)], rw := 0xFFFFFFFF, w1c := 0x0, rs := 0x0, wo := 0x0, reset := fun _ _ _ => 0x0 },
  { base := 0x1D40028, dims := [(0x1000, 0x40)], rw := 0x7FF, w1c := 0x0, rs := 0x0, wo := 0x0, reset := fun _ _ _ => 0x4B0 },
  { base := 0x1D4002C, dims := [(0x1000, 0x40)], rw := 0xFFFFFFFF, w1c := 0x0, rs := 0x0, wo := 0x0, reset := fun _ _ _ => 0x0 },
  { base := 0x1D40030, dims := [(0x1000, 0x40)], rw := 0xFFFFFFFF, w1c := 0x0, rs := 0x0, wo := 0x0, reset := fun _ _ _ => 0x1 },
  { base := 0x1D40034, dims := [(0x1000, 0x40)], rw := 0x0, w1c := 0x18, rs := 0x0, wo := 0x0, reset := fun _ _ _ => 0x0 }]

/-- The registers of block PKT_CLS: address, index ranges, access masks and reset word. -/
def regsPKTCLS : List RegDesc := [
  { base := 0x1D80000, dims := [], rw := 0x7FFF, w1c := 0x0, rs := 0x0, wo := 0x0, reset := fun _ _ _ => 0x0 },
  { base := 0x1D80004, dims := [(0x4, 0x4)], rw := 0xFFFFFFFF, w1c := 0x0, rs := 0x0, wo := 0x0, reset := fun _ _ _ => 0x0 },
  { base := 0x1D80014, dims := [], rw := 0x0, w1c := 0x0, rs := 0x0, wo := 0x3, reset := fun _ _ _ => 0x0 }]

/-- The registers of block PTP: address, index ranges, access masks and reset word. -/
def regsPTP : List RegDesc := [
  { base := 0x1E00000, dims := [(0x24, 0x100)], rw := 0x7FFFFFF, w1c := 0x0, rs := 0x0, wo := 0x0, reset := fun _ _ _ => 0x5183F8 + (13) * 2 ^ 11 },
  { base := 0x1E00004, dims := [(0x24, 0x100)], rw := 0xFFFFFFFF, w1c := 0x0, rs := 0x0, wo := 0x0, reset := fun _ _ _ => 0x2710 },
  { base := 0x1E00008, dims := [(0x24, 0x100)], rw := 0x0, w1c := 0x0, rs := 0x0, wo := 0x0, reset := fun _ _ _ => 0x0 },
  { base := 0x1E0000C, dims := [(0x24, 0x100)], rw := 0x0, w1c := 0xFF, rs := 0x0, wo := 0x0, reset := fun _ _ _ => 0x0 },
  { base := 0x1E00010, dims := [(0x24, 0x100)], rw := 0x0, w1c := 0x0, rs := 0x0, wo := 0x3, reset := fun _ _ _ => 0x0 },
  { base := 0x1E00014, dims := [(0x24, 0x100)], rw := 0x0, w1c := 0x0, rs := 0x0, wo := 0x0, reset := fun _ _ _ => 0x0 },
  { base := 0x1E00018, dims := [(0x24, 0x100)], rw := 0x0, w1c := 0x0, rs := 0x0, wo := 0x0, reset := fun _ _ _ => 0x0 },
  { base := 0x1E0001C, dims := [(0x24, 0x100)], rw := 0x0, w1c := 0x0, rs := 0x0, wo := 0x0, reset := fun _ _ _ => 0x0 },
  { base := 0x1E00020, dims := [(0x24, 0x100)], rw := 0x0, w1c := 0x0, rs := 0x0, wo := 0x0, reset := fun _ _ _ => 0x0 },
  { base := 0x1E00024, dims := [(0x24, 0x100)], rw := 0xFFFFFFFF, w1c := 0x0, rs := 0x0, wo := 0x0, reset := fun _ _ _ => 0x0 },
  { base := 0x1E00028, dims := [(0x24, 0x100)], rw := 0xFFFFFFFF, w1c := 0x0, rs := 0x0, wo := 0x0, reset := fun _ _ _ => 0x0 },
  { base := 0x1E0002C, dims := [(0x24, 0x100)], rw := 0xFFFFFFFF, w1c := 0x0, rs := 0x0, wo := 0x0, reset := fun _ _ _ => 0x0 },
  { base := 0x1E00030, dims := [(0x24, 0x100), (0x2, 0x4)], rw := 0x0, w1c := 0x0, rs := 0x0, wo := 0x0, reset := fun _ _ _ => 0x0 },
  { base := 0x1E00040, dims := [(0x24, 0x100), (0x4, 0x4)], rw := 0xFFFFFFFF, w1c := 0x0, rs := 0x0, wo := 0x0, reset := fun _ _ _ => 0x0 }]

/-- The registers of block PTP_DT: address, index ranges, access masks and reset word. -/
def regsPTPDT : List RegDesc := [
  { base := 0x1E04000, dims := [], rw := 0x0, w1c := 0x0, rs := 0xFFFFFFFF, wo := 0x0, reset := fun _ _ _ => 0x0 },
  { base := 0x1E04004, dims := [(0x2, 0x4)], rw := 0x0, w1c := 0x0, rs := 0x0, wo := 0x0, reset := fun _ _ _ => 0x0 }]

end Sys2Proof.Machine
end

