-- ==== Sys2Proof/Machine/RegsPrf.lean ====
section
/-! DEFINITION. The registers of route proof and ledger (PRF, LDG): the address of each register, the place of each field,
its access type and its reset value, as the register tables of spec/13_route_proof_and_ledger.md give them. -/

namespace Sys2Proof.Machine

/-- Register PRF_CFG, offset 0x000 of its block. -/
abbrev PRF_CFG : Nat := 0x3400000
/-- PRF_CFG.EN [0:0] RW, reset 1: Comparisons enabled (Table 13-2) -/
abbrev PRF_CFG_EN : Field := ⟨PRF_CFG, 0, 1⟩

/-- Register PRF_STATUS, offset 0x004 of its block. -/
abbrev PRF_STATUS : Nat := 0x3400004
/-- PRF_STATUS.RGEN [7:0] RO, reset 0: Rectangle generation (R505) -/
abbrev PRF_STATUS_RGEN : Field := ⟨PRF_STATUS, 0, 8⟩
/-- PRF_STATUS.STORE_ERR [8:8] W1C, reset 0: R508 -/
abbrev PRF_STATUS_STORE_ERR : Field := ⟨PRF_STATUS, 8, 1⟩

/-- Register PRF_EVENT, offset 0x008 of its block. -/
abbrev PRF_EVENT : Nat := 0x3400008
/-- PRF_EVENT.MISMATCH [0:0] W1C, reset 0: R512 -/
abbrev PRF_EVENT_MISMATCH : Field := ⟨PRF_EVENT, 0, 1⟩
/-- PRF_EVENT.ESCALATE [1:1] W1C, reset 0: R513 -/
abbrev PRF_EVENT_ESCALATE : Field := ⟨PRF_EVENT, 1, 1⟩
/-- PRF_EVENT.RECT_CHANGE [2:2] W1C, reset 0: RGEN advanced -/
abbrev PRF_EVENT_RECT_CHANGE : Field := ⟨PRF_EVENT, 2, 1⟩

/-- Register PRF_CNT (k = 0 to 4), offset 0x010 + 4k of its block. -/
abbrev PRF_CNT (k : Nat) : Nat := 0x3400010 + 0x4 * k
/-- PRF_CNT.COUNT [31:0] RS, reset 0: k = 0 verdicts; 1 MATCH; 2 MISMATCH; 3 not comparable; 4 escalations. Saturating; cleared by the read -/
abbrev PRF_CNT_COUNT (k : Nat) : Field := ⟨PRF_CNT k, 0, 32⟩

/-- Register PRF_ESC, offset 0x030 of its block. -/
abbrev PRF_ESC : Nat := 0x3400030
/-- PRF_ESC.DST [12:0] RO, reset 0: Destination of the last escalation -/
abbrev PRF_ESC_DST : Field := ⟨PRF_ESC, 0, 13⟩
/-- PRF_ESC.VALID [31:31] W1C, reset 0: An escalation is recorded -/
abbrev PRF_ESC_VALID : Field := ⟨PRF_ESC, 31, 1⟩

/-- Register PRF_ESC_TAG, offset 0x034 of its block. -/
abbrev PRF_ESC_TAG : Nat := 0x3400034
/-- PRF_ESC_TAG.TAG [31:0] RO, reset 0: Tag of the frame whose verdict completed the run -/
abbrev PRF_ESC_TAG_TAG : Field := ⟨PRF_ESC_TAG, 0, 32⟩

/-- Register PRF_RMASK (f = 0 to 7), offset 0x040 + 4f of its block. -/
abbrev PRF_RMASK (f : Nat) : Nat := 0x3400040 + 0x4 * f
/-- PRF_RMASK.EN [3:0] RW, reset 0x1: Bit k: rectangle k of format f enabled -/
abbrev PRF_RMASK_EN (f : Nat) : Field := ⟨PRF_RMASK f, 0, 4⟩

/-- Register PRF_RPOS (f = 0 to 7, k = 0 to 3), offset 0x100 + 0x20 × f + 8k of its block. -/
abbrev PRF_RPOS (f : Nat) (k : Nat) : Nat := 0x3400100 + 0x20 * f + 0x8 * k
/-- PRF_RPOS.X [15:0] RW, reset 0: Left pixel; even -/
abbrev PRF_RPOS_X (f : Nat) (k : Nat) : Field := ⟨PRF_RPOS f k, 0, 16⟩
/-- PRF_RPOS.Y [31:16] RW, reset 0: Top picture line -/
abbrev PRF_RPOS_Y (f : Nat) (k : Nat) : Field := ⟨PRF_RPOS f k, 16, 16⟩

/-- Register PRF_RSIZE (f = 0 to 7, k = 0 to 3), offset 0x104 + 0x20 × f + 8k of its block. -/
abbrev PRF_RSIZE (f : Nat) (k : Nat) : Nat := 0x3400104 + 0x20 * f + 0x8 * k
/-- PRF_RSIZE.W [15:0] RW, reset k = 0: Table 13-1 width; else 0: Width; even -/
abbrev PRF_RSIZE_W (f : Nat) (k : Nat) : Field := ⟨PRF_RSIZE f k, 0, 16⟩
/-- PRF_RSIZE.H [31:16] RW, reset k = 0: Table 13-1 height; else 0: Height in picture lines -/
abbrev PRF_RSIZE_H (f : Nat) (k : Nat) : Field := ⟨PRF_RSIZE f k, 16, 16⟩

/-- Register PRF_REC_SEL, offset 0x200 of its block. -/
abbrev PRF_REC_SEL : Nat := 0x3400200
/-- PRF_REC_SEL.ID [12:0] RW, reset 0: Source id, or destination id when OUT is 1 -/
abbrev PRF_REC_SEL_ID : Field := ⟨PRF_REC_SEL, 0, 13⟩
/-- PRF_REC_SEL.OUT [13:13] RW, reset 0: 0 input or head tap, 1 output tap -/
abbrev PRF_REC_SEL_OUT : Field := ⟨PRF_REC_SEL, 13, 1⟩
/-- PRF_REC_SEL.AGE [16:14] RW, reset 0: 0 newest record to 7 oldest; must be 0 when OUT is 1 -/
abbrev PRF_REC_SEL_AGE : Field := ⟨PRF_REC_SEL, 14, 3⟩

/-- Register PRF_REC_TAG, offset 0x204 of its block. -/
abbrev PRF_REC_TAG : Nat := 0x3400204
/-- PRF_REC_TAG.TAG [31:0] RO, reset 0: Tag of the loaded record -/
abbrev PRF_REC_TAG_TAG : Field := ⟨PRF_REC_TAG, 0, 32⟩

/-- Register PRF_REC_CRC (k = 0 to 3), offset 0x208 + 4k of its block. -/
abbrev PRF_REC_CRC (k : Nat) : Nat := 0x3400208 + 0x4 * k
/-- PRF_REC_CRC.CRC [31:0] RO, reset 0: Check of rectangle k -/
abbrev PRF_REC_CRC_CRC (k : Nat) : Field := ⟨PRF_REC_CRC k, 0, 32⟩

/-- Register PRF_REC_INFO, offset 0x218 of its block. -/
abbrev PRF_REC_INFO : Nat := 0x3400218
/-- PRF_REC_INFO.RGEN [7:0] RO, reset 0: R505 -/
abbrev PRF_REC_INFO_RGEN : Field := ⟨PRF_REC_INFO, 0, 8⟩
/-- PRF_REC_INFO.VALID [11:8] RO, reset 0: Rectangles computed -/
abbrev PRF_REC_INFO_VALID : Field := ⟨PRF_REC_INFO, 8, 4⟩
/-- PRF_REC_INFO.DAMAGED [15:12] RO, reset 0: R507 -/
abbrev PRF_REC_INFO_DAMAGED : Field := ⟨PRF_REC_INFO, 12, 4⟩
/-- PRF_REC_INFO.LAND_LINE [31:16] RO, reset 0: Output tap: landing line of a switch frame; 0 otherwise -/
abbrev PRF_REC_INFO_LAND_LINE : Field := ⟨PRF_REC_INFO, 16, 16⟩

/-- Register PRF_DST (output d), offset 0x1_0000 + 4d of its block. -/
abbrev PRF_DST (d : Nat) : Nat := 0x3410000 + 0x4 * d
/-- PRF_DST.LAST [1:0] RO, reset 0: Last verdict, codes of Table 08-7 -/
abbrev PRF_DST_LAST (d : Nat) : Field := ⟨PRF_DST d, 0, 2⟩
/-- PRF_DST.RUN [3:2] RO, reset 0: Mismatch run (R513) -/
abbrev PRF_DST_RUN (d : Nat) : Field := ⟨PRF_DST d, 2, 2⟩
/-- PRF_DST.REASON [7:4] RO, reset 0: Table 13-2, for code 3 -/
abbrev PRF_DST_REASON (d : Nat) : Field := ⟨PRF_DST d, 4, 4⟩
/-- PRF_DST.TAG [31:16] RO, reset 0: Low 16 bits of the tag of the last verdict -/
abbrev PRF_DST_TAG (d : Nat) : Field := ⟨PRF_DST d, 16, 16⟩

/-- Register LDG_CTRL, offset 0x000 of its block. -/
abbrev LDG_CTRL : Nat := 0x3600000
/-- LDG_CTRL.EPOCH [0:0] WO, reset 0: Request an epoch at the next PLAN0 frame boundary (R522) -/
abbrev LDG_CTRL_EPOCH : Field := ⟨LDG_CTRL, 0, 1⟩
/-- LDG_CTRL.HOLD [1:1] WO, reset 0: R524 -/
abbrev LDG_CTRL_HOLD : Field := ⟨LDG_CTRL, 1, 1⟩
/-- LDG_CTRL.RELEASE [2:2] WO, reset 0: R524 -/
abbrev LDG_CTRL_RELEASE : Field := ⟨LDG_CTRL, 2, 1⟩

/-- Register LDG_STATUS, offset 0x004 of its block. -/
abbrev LDG_STATUS : Nat := 0x3600004
/-- LDG_STATUS.VOID [0:0] RO, reset 0: R521 -/
abbrev LDG_STATUS_VOID : Field := ⟨LDG_STATUS, 0, 1⟩
/-- LDG_STATUS.HELD [1:1] RO, reset 0: A held checkpoint exists -/
abbrev LDG_STATUS_HELD : Field := ⟨LDG_STATUS, 1, 1⟩
/-- LDG_STATUS.CHECK_BUSY [2:2] RO, reset 0: R520 in progress -/
abbrev LDG_STATUS_CHECK_BUSY : Field := ⟨LDG_STATUS, 2, 1⟩
/-- LDG_STATUS.IMBALANCE [3:3] W1C, reset 0: R520 -/
abbrev LDG_STATUS_IMBALANCE : Field := ⟨LDG_STATUS, 3, 1⟩
/-- LDG_STATUS.STORE_ECC [4:4] W1C, reset 0: R521 -/
abbrev LDG_STATUS_STORE_ECC : Field := ⟨LDG_STATUS, 4, 1⟩
/-- LDG_STATUS.MARK_OVF [5:5] W1C, reset 0: R523 -/
abbrev LDG_STATUS_MARK_OVF : Field := ⟨LDG_STATUS, 5, 1⟩

/-- Register LDG_EPOCH, offset 0x008 of its block. -/
abbrev LDG_EPOCH : Nat := 0x3600008
/-- LDG_EPOCH.EPOCH [31:0] RO, reset 0: Epoch number (R522) -/
abbrev LDG_EPOCH_EPOCH : Field := ⟨LDG_EPOCH, 0, 32⟩

/-- Register LDG_EPOCH_F, offset 0x00C of its block. -/
abbrev LDG_EPOCH_F : Nat := 0x360000C
/-- LDG_EPOCH_F.FRAME [31:0] RO, reset 0: PLAN0 frame at which the epoch started -/
abbrev LDG_EPOCH_F_FRAME : Field := ⟨LDG_EPOCH_F, 0, 32⟩

/-- Register LDG_CLOSE_F, offset 0x010 of its block. -/
abbrev LDG_CLOSE_F : Nat := 0x3600010
/-- LDG_CLOSE_F.FRAME [31:0] RO, reset 0: PLAN0 frame of the last books checked -/
abbrev LDG_CLOSE_F_FRAME : Field := ⟨LDG_CLOSE_F, 0, 32⟩

/-- Register LDG_HOLD_F, offset 0x014 of its block. -/
abbrev LDG_HOLD_F : Nat := 0x3600014
/-- LDG_HOLD_F.FRAME [31:0] RO, reset 0: PLAN0 frame of the held checkpoint -/
abbrev LDG_HOLD_F_FRAME : Field := ⟨LDG_HOLD_F, 0, 32⟩

/-- Register LDG_IMB, offset 0x018 of its block. -/
abbrev LDG_IMB : Nat := 0x3600018
/-- LDG_IMB.CLASS [3:0] RO, reset 0: Table 13-4 -/
abbrev LDG_IMB_CLASS : Field := ⟨LDG_IMB, 0, 4⟩
/-- LDG_IMB.INDEX [16:4] RO, reset 0: Unit index -/
abbrev LDG_IMB_INDEX : Field := ⟨LDG_IMB, 4, 13⟩
/-- LDG_IMB.VALID [31:31] W1C, reset 0: An imbalance is recorded -/
abbrev LDG_IMB_VALID : Field := ⟨LDG_IMB, 31, 1⟩

/-- Register LDG_IMB_F, offset 0x01C of its block. -/
abbrev LDG_IMB_F : Nat := 0x360001C
/-- LDG_IMB_F.FRAME [31:0] RO, reset 0: PLAN0 frame of the failing books -/
abbrev LDG_IMB_F_FRAME : Field := ⟨LDG_IMB_F, 0, 32⟩

/-- Register LDG_SEL, offset 0x020 of its block. -/
abbrev LDG_SEL : Nat := 0x3600020
/-- LDG_SEL.CLASS [3:0] RW, reset 0: Table 13-4; 11–15 read as 0 -/
abbrev LDG_SEL_CLASS : Field := ⟨LDG_SEL, 0, 4⟩
/-- LDG_SEL.INDEX [16:4] RW, reset 0: Unit index; a write loads LDG_VAL from the held checkpoint, or from the live checkpoint of the last books closed when none is held (R524) -/
abbrev LDG_SEL_INDEX : Field := ⟨LDG_SEL, 4, 13⟩

/-- Register LDG_VAL_LO (c = 0 to 7), offset 0x040 + 8c of its block. -/
abbrev LDG_VAL_LO (c : Nat) : Nat := 0x3600040 + 0x8 * c
/-- LDG_VAL_LO.VALUE [31:0] RO, reset 0: Bits [31:0] of column c: 0 ENTRY, 1 DELIVERED, 2 REPEATED, 3 DROPPED, 4 MERGED, 5 SLIPPED, 6 RESIDENT, 7 RES_OPEN -/
abbrev LDG_VAL_LO_VALUE (c : Nat) : Field := ⟨LDG_VAL_LO c, 0, 32⟩

/-- Register LDG_VAL_HI (c = 0 to 7), offset 0x044 + 8c of its block. -/
abbrev LDG_VAL_HI (c : Nat) : Nat := 0x3600044 + 0x8 * c
/-- LDG_VAL_HI.VALUE [15:0] RO, reset 0: Bits [47:32] of column c -/
abbrev LDG_VAL_HI_VALUE (c : Nat) : Field := ⟨LDG_VAL_HI c, 0, 16⟩

/-- Register LDG_INFO (k = 0 to 2), offset 0x080 + 4k of its block. -/
abbrev LDG_INFO (k : Nat) : Nat := 0x3600080 + 0x4 * k
/-- LDG_INFO.COUNT [31:0] RS, reset 0: k = 0 unclean switches (R517); 1 epochs started; 2 further failing units (R520). Saturating; cleared by the read -/
abbrev LDG_INFO_COUNT (k : Nat) : Field := ⟨LDG_INFO k, 0, 32⟩

/-- Register LDG_MARK_VAL, offset 0x100 of its block. -/
abbrev LDG_MARK_VAL : Nat := 0x3600100
/-- LDG_MARK_VAL.VALUE [31:0] RS, reset 0: ra of the oldest mark. The read removes the mark and latches its other fields into LDG_MARK_INFO and LDG_MARK_F. When the FIFO is empty, the read returns 0 and clears LDG_MARK_INFO.VALID, and the other fields of LDG_MARK_INFO and LDG_MARK_F keep their values -/
abbrev LDG_MARK_VAL_VALUE : Field := ⟨LDG_MARK_VAL, 0, 32⟩

/-- Register LDG_MARK_INFO, offset 0x104 of its block. -/
abbrev LDG_MARK_INFO : Nat := 0x3600104
/-- LDG_MARK_INFO.LINE [15:0] RO, reset 0: PLAN0 line of P -/
abbrev LDG_MARK_INFO_LINE : Field := ⟨LDG_MARK_INFO, 0, 16⟩
/-- LDG_MARK_INFO.RACKER [19:16] RO, reset 0: Racker index -/
abbrev LDG_MARK_INFO_RACKER : Field := ⟨LDG_MARK_INFO, 16, 4⟩
/-- LDG_MARK_INFO.LEFT [26:20] RO, reset 0: Marks left in the FIFO, 0–64 -/
abbrev LDG_MARK_INFO_LEFT : Field := ⟨LDG_MARK_INFO, 20, 7⟩
/-- LDG_MARK_INFO.VALID [31:31] RO, reset 0: The last read removed a mark -/
abbrev LDG_MARK_INFO_VALID : Field := ⟨LDG_MARK_INFO, 31, 1⟩

/-- Register LDG_MARK_F, offset 0x108 of its block. -/
abbrev LDG_MARK_F : Nat := 0x3600108
/-- LDG_MARK_F.FRAME [31:0] RO, reset 0: PLAN0 frame of P; the mark falls in the books named by this frame, which close at its end (R519), except a mark whose P lies exactly at that frame's line 1, sample 0, which falls in the books of the frame before -/
abbrev LDG_MARK_F_FRAME : Field := ⟨LDG_MARK_F, 0, 32⟩

/-- The registers of block PRF: address, index ranges, access masks and reset word. -/
def regsPRF : List RegDesc := [
  { base := 0x3400000, dims := [], rw := 0x1, w1c := 0x0, rs := 0x0, wo := 0x0, reset := fun _ _ _ => 0x1 },
  { base := 0x3400004, dims := [], rw := 0x0, w1c := 0x100, rs := 0x0, wo := 0x0, reset := fun _ _ _ => 0x0 },
  { base := 0x3400008, dims := [], rw := 0x0, w1c := 0x7, rs := 0x0, wo := 0x0, reset := fun _ _ _ => 0x0 },
  { base := 0x3400010, dims := [(0x5, 0x4)], rw := 0x0, w1c := 0x0, rs := 0xFFFFFFFF, wo := 0x0, reset := fun _ _ _ => 0x0 },
  { base := 0x3400030, dims := [], rw := 0x0, w1c := 0x80000000, rs := 0x0, wo := 0x0, reset := fun _ _ _ => 0x0 },
  { base := 0x3400034, dims := [], rw := 0x0, w1c := 0x0, rs := 0x0, wo := 0x0, reset := fun _ _ _ => 0x0 },
  { base := 0x3400040, dims := [(0x8, 0x4)], rw := 0xF, w1c := 0x0, rs := 0x0, wo := 0x0, reset := fun _ _ _ => 0x1 },
  { base := 0x3400100, dims := [(0x8, 0x20), (0x4, 0x8)], rw := 0xFFFFFFFF, w1c := 0x0, rs := 0x0, wo := 0x0, reset := fun _ _ _ => 0x0 },
  { base := 0x3400104, dims := [(0x8, 0x20), (0x4, 0x8)], rw := 0xFFFFFFFF, w1c := 0x0, rs := 0x0, wo := 0x0, reset := fun f k _ => (if k = 0 then prfRasterW f else 0) + (if k = 0 then prfRasterH f else 0) * 2 ^ 16 },
  { base := 0x3400200, dims := [], rw := 0x1FFFF, w1c := 0x0, rs := 0x0, wo := 0x0, reset := fun _ _ _ => 0x0 },
  { base := 0x3400204, dims := [], rw := 0x0, w1c := 0x0, rs := 0x0, wo := 0x0, reset := fun _ _ _ => 0x0 },
  { base := 0x3400208, dims := [(0x4, 0x4)], rw := 0x0, w1c := 0x0, rs := 0x0, wo := 0x0, reset := fun _ _ _ => 0x0 },
  { base := 0x3400218, dims := [], rw := 0x0, w1c := 0x0, rs := 0x0, wo := 0x0, reset := fun _ _ _ => 0x0 },
  { base := 0x3410000, dims := [(0x1200, 0x4)], rw := 0x0, w1c := 0x0, rs := 0x0, wo := 0x0, reset := fun _ _ _ => 0x0 }]

/-- The registers of block LDG: address, index ranges, access masks and reset word. -/
def regsLDG : List RegDesc := [
  { base := 0x3600000, dims := [], rw := 0x0, w1c := 0x0, rs := 0x0, wo := 0x7, reset := fun _ _ _ => 0x0 },
  { base := 0x3600004, dims := [], rw := 0x0, w1c := 0x38, rs := 0x0, wo := 0x0, reset := fun _ _ _ => 0x0 },
  { base := 0x3600008, dims := [], rw := 0x0, w1c := 0x0, rs := 0x0, wo := 0x0, reset := fun _ _ _ => 0x0 },
  { base := 0x360000C, dims := [], rw := 0x0, w1c := 0x0, rs := 0x0, wo := 0x0, reset := fun _ _ _ => 0x0 },
  { base := 0x3600010, dims := [], rw := 0x0, w1c := 0x0, rs := 0x0, wo := 0x0, reset := fun _ _ _ => 0x0 },
  { base := 0x3600014, dims := [], rw := 0x0, w1c := 0x0, rs := 0x0, wo := 0x0, reset := fun _ _ _ => 0x0 },
  { base := 0x3600018, dims := [], rw := 0x0, w1c := 0x80000000, rs := 0x0, wo := 0x0, reset := fun _ _ _ => 0x0 },
  { base := 0x360001C, dims := [], rw := 0x0, w1c := 0x0, rs := 0x0, wo := 0x0, reset := fun _ _ _ => 0x0 },
  { base := 0x3600020, dims := [], rw := 0x1FFFF, w1c := 0x0, rs := 0x0, wo := 0x0, reset := fun _ _ _ => 0x0 },
  { base := 0x3600040, dims := [(0x8, 0x8)], rw := 0x0, w1c := 0x0, rs := 0x0, wo := 0x0, reset := fun _ _ _ => 0x0 },
  { base := 0x3600044, dims := [(0x8, 0x8)], rw := 0x0, w1c := 0x0, rs := 0x0, wo := 0x0, reset := fun _ _ _ => 0x0 },
  { base := 0x3600080, dims := [(0x3, 0x4)], rw := 0x0, w1c := 0x0, rs := 0xFFFFFFFF, wo := 0x0, reset := fun _ _ _ => 0x0 },
  { base := 0x3600100, dims := [], rw := 0x0, w1c := 0x0, rs := 0xFFFFFFFF, wo := 0x0, reset := fun _ _ _ => 0x0 },
  { base := 0x3600104, dims := [], rw := 0x0, w1c := 0x0, rs := 0x0, wo := 0x0, reset := fun _ _ _ => 0x0 },
  { base := 0x3600108, dims := [], rw := 0x0, w1c := 0x0, rs := 0x0, wo := 0x0, reset := fun _ _ _ => 0x0 }]

end Sys2Proof.Machine
end

