-- ==== Sys2Proof/Machine/RegsRck.lean ====
section
/-! DEFINITION. The registers of rackers (RCK): the address of each register, the place of each field,
its access type and its reset value, as the register tables of spec/07_racking_programs.md give them. -/

namespace Sys2Proof.Machine

/-- Register RCK_CTRL (racker r), offset 0x000 of its block. -/
abbrev RCK_CTRL (r : Nat) : Nat := 0x2020000 + 0x100000 * r
/-- RCK_CTRL.START [0:0] WO, reset 0: R285 -/
abbrev RCK_CTRL_START (r : Nat) : Field := ⟨RCK_CTRL r, 0, 1⟩
/-- RCK_CTRL.RESUME [1:1] WO, reset 0: R287 -/
abbrev RCK_CTRL_RESUME (r : Nat) : Field := ⟨RCK_CTRL r, 1, 1⟩
/-- RCK_CTRL.HALT [2:2] WO, reset 0: R287 -/
abbrev RCK_CTRL_HALT (r : Nat) : Field := ⟨RCK_CTRL r, 2, 1⟩
/-- RCK_CTRL.STEP [3:3] WO, reset 0: R287 -/
abbrev RCK_CTRL_STEP (r : Nat) : Field := ⟨RCK_CTRL r, 3, 1⟩

/-- Register RCK_CFG (racker r), offset 0x004 of its block. -/
abbrev RCK_CFG (r : Nat) : Nat := 0x2020004 + 0x100000 * r
/-- RCK_CFG.ENTRY [13:0] RW, reset 0: Entry instruction index -/
abbrev RCK_CFG_ENTRY (r : Nat) : Field := ⟨RCK_CFG r, 0, 14⟩
/-- RCK_CFG.AUTOSTART [16:16] RW, reset 0: R286 -/
abbrev RCK_CFG_AUTOSTART (r : Nat) : Field := ⟨RCK_CFG r, 16, 1⟩
/-- RCK_CFG.STRICT [17:17] RW, reset 0: R253 -/
abbrev RCK_CFG_STRICT (r : Nat) : Field := ⟨RCK_CFG r, 17, 1⟩
/-- RCK_CFG.PRIO [20:18] RW, reset 0: Lease priority (Table 07-9) -/
abbrev RCK_CFG_PRIO (r : Nat) : Field := ⟨RCK_CFG r, 18, 3⟩
/-- RCK_CFG.TRAP_VEC_EN [21:21] RW, reset 0: R291 -/
abbrev RCK_CFG_TRAP_VEC_EN (r : Nat) : Field := ⟨RCK_CFG r, 21, 1⟩

/-- Register RCK_STATUS (racker r), offset 0x008 of its block. -/
abbrev RCK_STATUS (r : Nat) : Nat := 0x2020008 + 0x100000 * r
/-- RCK_STATUS.STATE [2:0] RO, reset 0: 0 halted, 1 running, 2 waiting, 3 waiting on a pending operation (R263), 4 halted by trap -/
abbrev RCK_STATUS_STATE (r : Nat) : Field := ⟨RCK_STATUS r, 0, 3⟩
/-- RCK_STATUS.IN_HANDLER [3:3] RO, reset 0: R291 -/
abbrev RCK_STATUS_IN_HANDLER (r : Nat) : Field := ⟨RCK_STATUS r, 3, 1⟩
/-- RCK_STATUS.TRAP_CAUSE [7:4] RO, reset 0: Table 07-11 -/
abbrev RCK_STATUS_TRAP_CAUSE (r : Nat) : Field := ⟨RCK_STATUS r, 4, 4⟩
/-- RCK_STATUS.PENDING [10:8] RO, reset 0: Pending operations, 0–4 -/
abbrev RCK_STATUS_PENDING (r : Nat) : Field := ⟨RCK_STATUS r, 8, 3⟩
/-- RCK_STATUS.STAGED [17:11] RO, reset 0: Staged entries, 0–64 -/
abbrev RCK_STATUS_STAGED (r : Nat) : Field := ⟨RCK_STATUS r, 11, 7⟩
/-- RCK_STATUS.PT_RESYNC [18:18] W1C, reset 0: R240 -/
abbrev RCK_STATUS_PT_RESYNC (r : Nat) : Field := ⟨RCK_STATUS r, 18, 1⟩
/-- RCK_STATUS.PM_WERR [19:19] W1C, reset 0: R288 -/
abbrev RCK_STATUS_PM_WERR (r : Nat) : Field := ⟨RCK_STATUS r, 19, 1⟩
/-- RCK_STATUS.TRAP [20:20] W1C, reset 0: R290 -/
abbrev RCK_STATUS_TRAP (r : Nat) : Field := ⟨RCK_STATUS r, 20, 1⟩

/-- Register RCK_PC (racker r), offset 0x00C of its block. -/
abbrev RCK_PC (r : Nat) : Nat := 0x202000C + 0x100000 * r
/-- RCK_PC.PC [13:0] RO, reset 0: Index of the next instruction -/
abbrev RCK_PC_PC (r : Nat) : Field := ⟨RCK_PC r, 0, 14⟩

/-- Register RCK_TRAP_PC (racker r), offset 0x010 of its block. -/
abbrev RCK_TRAP_PC (r : Nat) : Nat := 0x2020010 + 0x100000 * r
/-- RCK_TRAP_PC.PC [13:0] RO, reset 0: Index of the last trapping instruction -/
abbrev RCK_TRAP_PC_PC (r : Nat) : Field := ⟨RCK_TRAP_PC r, 0, 14⟩

/-- Register RCK_TRAP_VEC (racker r), offset 0x014 of its block. -/
abbrev RCK_TRAP_VEC (r : Nat) : Nat := 0x2020014 + 0x100000 * r
/-- RCK_TRAP_VEC.VEC [13:0] RW, reset 0: Handler entry index -/
abbrev RCK_TRAP_VEC_VEC (r : Nat) : Field := ⟨RCK_TRAP_VEC r, 0, 14⟩

/-- Register RCK_EPOCH (racker r), offset 0x018 of its block. -/
abbrev RCK_EPOCH (r : Nat) : Nat := 0x2020018 + 0x100000 * r
/-- RCK_EPOCH.EPOCH [31:0] RO, reset 0: Incarnation count (R285) -/
abbrev RCK_EPOCH_EPOCH (r : Nat) : Field := ⟨RCK_EPOCH r, 0, 32⟩

/-- Register RCK_PT_F (racker r), offset 0x01C of its block. -/
abbrev RCK_PT_F (r : Nat) : Nat := 0x202001C + 0x100000 * r
/-- RCK_PT_F.FRAME [31:0] RS, reset 0: PLAN0 frame of P; the read latches the line and sample of the same P into RCK_PT_L -/
abbrev RCK_PT_F_FRAME (r : Nat) : Field := ⟨RCK_PT_F r, 0, 32⟩

/-- Register RCK_PT_L (racker r), offset 0x020 of its block. -/
abbrev RCK_PT_L (r : Nat) : Nat := 0x2020020 + 0x100000 * r
/-- RCK_PT_L.LINE [15:0] RO, reset 0: PLAN0 line latched by the last read of RCK_PT_F -/
abbrev RCK_PT_L_LINE (r : Nat) : Field := ⟨RCK_PT_L r, 0, 16⟩
/-- RCK_PT_L.SAMPLE [31:16] RO, reset 0: PLAN0 sample latched by the same read -/
abbrev RCK_PT_L_SAMPLE (r : Nat) : Field := ⟨RCK_PT_L r, 16, 16⟩

/-- Register RCK_EVT (racker r), offset 0x024 of its block. -/
abbrev RCK_EVT (r : Nat) : Nat := 0x2020024 + 0x100000 * r
/-- RCK_EVT.EVT [31:0] RO, reset 0: Events, Table 07-10 -/
abbrev RCK_EVT_EVT (r : Nat) : Field := ⟨RCK_EVT r, 0, 32⟩

/-- Register RCK_RESULT (racker r), offset 0x028 of its block. -/
abbrev RCK_RESULT (r : Nat) : Nat := 0x2020028 + 0x100000 * r
/-- RCK_RESULT.RESULT [31:0] RO, reset 0: Result word of the last TAKE or COMMIT, Table 07-5 -/
abbrev RCK_RESULT_RESULT (r : Nat) : Field := ⟨RCK_RESULT r, 0, 32⟩

/-- Register RCK_FADE (racker r), offset 0x02C of its block. -/
abbrev RCK_FADE (r : Nat) : Nat := 0x202002C + 0x100000 * r
/-- RCK_FADE.TENTHS_MS [8:0] RO, reset 0: Fade time set by FADE (R267) -/
abbrev RCK_FADE_TENTHS_MS (r : Nat) : Field := ⟨RCK_FADE r, 0, 9⟩

/-- Register RCK_CNT (racker r, k = 0 to 5), offset 0x040 + 4k of its block. -/
abbrev RCK_CNT (r : Nat) (k : Nat) : Nat := 0x2020040 + 0x100000 * r + 0x4 * k
/-- RCK_CNT.COUNT [31:0] RS, reset 0: k = 0 TAKEs and COMMITs retired; 1 LATE_TAKE; 2 denied entries; 3 refused entries; 4 discarded entries; 5 traps. Saturating; cleared by the read -/
abbrev RCK_CNT_COUNT (r : Nat) (k : Nat) : Field := ⟨RCK_CNT r k, 0, 32⟩

/-- Register RCK_REFUSE (racker r), offset 0x060 of its block. -/
abbrev RCK_REFUSE (r : Nat) : Nat := 0x2020060 + 0x100000 * r
/-- RCK_REFUSE.INDEX [11:0] RO, reset 0: Index of the entry within its operation -/
abbrev RCK_REFUSE_INDEX (r : Nat) : Field := ⟨RCK_REFUSE r, 0, 12⟩
/-- RCK_REFUSE.REASON [15:12] RO, reset 0: Table 07-3; 0 for a denial -/
abbrev RCK_REFUSE_REASON (r : Nat) : Field := ⟨RCK_REFUSE r, 12, 4⟩
/-- RCK_REFUSE.DENIED [16:16] RO, reset 0: 1 for a denial -/
abbrev RCK_REFUSE_DENIED (r : Nat) : Field := ⟨RCK_REFUSE r, 16, 1⟩
/-- RCK_REFUSE.VALID [31:31] W1C, reset 0: A record is held (R266) -/
abbrev RCK_REFUSE_VALID (r : Nat) : Field := ⟨RCK_REFUSE r, 31, 1⟩

/-- Register RCK_LAND_F (racker r, p = 0 to 7), offset 0x080 + 4p of its block. -/
abbrev RCK_LAND_F (r : Nat) (p : Nat) : Nat := 0x2020080 + 0x100000 * r + 0x4 * p
/-- RCK_LAND_F.FRAME [31:0] RO, reset 0: Landing frame of plan p's group in the last operation that had one -/
abbrev RCK_LAND_F_FRAME (r : Nat) (p : Nat) : Field := ⟨RCK_LAND_F r p, 0, 32⟩

/-- Register RCK_LAND_L (racker r, p = 0 to 7), offset 0x0A0 + 4p of its block. -/
abbrev RCK_LAND_L (r : Nat) (p : Nat) : Nat := 0x20200A0 + 0x100000 * r + 0x4 * p
/-- RCK_LAND_L.LINE [15:0] RO, reset 0: Landing switch line -/
abbrev RCK_LAND_L_LINE (r : Nat) (p : Nat) : Field := ⟨RCK_LAND_L r p, 0, 16⟩
/-- RCK_LAND_L.PEND [31:31] RO, reset 0: Not yet landed -/
abbrev RCK_LAND_L_PEND (r : Nat) (p : Nat) : Field := ⟨RCK_LAND_L r p, 31, 1⟩

/-- Register RCK_GREG (racker r, n = 0 to 31), offset 0x100 + 4n of its block. -/
abbrev RCK_GREG (r : Nat) (n : Nat) : Nat := 0x2020100 + 0x100000 * r + 0x4 * n
/-- RCK_GREG.G [31:0] RW, reset 0: Register Gn; writes take effect only while the racker is halted -/
abbrev RCK_GREG_G (r : Nat) (n : Nat) : Field := ⟨RCK_GREG r n, 0, 32⟩

/-- Register RCK_OWN_V (shared, k = 0 to 1,151), offset 0x0_0000 + 4k of its block. -/
abbrev RCK_OWN_V (k : Nat) : Nat := 0x3080000 + 0x4 * k
/-- RCK_OWN_V.RACKER [3:0] + 8j RW, reset 0: Owner of destination 4k + j, j = 0 to 3 (R288) -/
abbrev RCK_OWN_V_RACKER (k : Nat) (j : Nat) : Field := ⟨RCK_OWN_V k, 0 + 8 * j, 4⟩
/-- RCK_OWN_V.VALID [7:7] + 8j RW, reset 0: Destination 4k + j is owned -/
abbrev RCK_OWN_V_VALID (k : Nat) (j : Nat) : Field := ⟨RCK_OWN_V k, 7 + 8 * j, 1⟩

/-- Register RCK_OWN_A (shared, k = 0 to 767), offset 0x0_2000 + 4k of its block. -/
abbrev RCK_OWN_A (k : Nat) : Nat := 0x3082000 + 0x4 * k
/-- RCK_OWN_A.RACKER [3:0] + 8j RW, reset 0: Owner of audio destination group 4k + j -/
abbrev RCK_OWN_A_RACKER (k : Nat) (j : Nat) : Field := ⟨RCK_OWN_A k, 0 + 8 * j, 4⟩
/-- RCK_OWN_A.VALID [7:7] + 8j RW, reset 0: Group 4k + j is owned -/
abbrev RCK_OWN_A_VALID (k : Nat) (j : Nat) : Field := ⟨RCK_OWN_A k, 7 + 8 * j, 1⟩

/-- Register RCK_OWN_H (shared, k = 0 to 7), offset 0x0_3000 + 4k of its block. -/
abbrev RCK_OWN_H (k : Nat) : Nat := 0x3083000 + 0x4 * k
/-- RCK_OWN_H.RACKER [3:0] + 8j RW, reset 0: Owner of head 4k + j when lease HEAD(4k + j) is not held -/
abbrev RCK_OWN_H_RACKER (k : Nat) (j : Nat) : Field := ⟨RCK_OWN_H k, 0 + 8 * j, 4⟩
/-- RCK_OWN_H.VALID [7:7] + 8j RW, reset 0: Head 4k + j is owned -/
abbrev RCK_OWN_H_VALID (k : Nat) (j : Nat) : Field := ⟨RCK_OWN_H k, 7 + 8 * j, 1⟩

/-- Register RCK_GPO_OWN (shared, k = 0 to 3), offset 0x0_3020 + 4k of its block. -/
abbrev RCK_GPO_OWN (k : Nat) : Nat := 0x3083020 + 0x4 * k
/-- RCK_GPO_OWN.RACKER [3:0] + 8j RW, reset 0: Owner of GPO pin 4k + j -/
abbrev RCK_GPO_OWN_RACKER (k : Nat) (j : Nat) : Field := ⟨RCK_GPO_OWN k, 0 + 8 * j, 4⟩
/-- RCK_GPO_OWN.VALID [7:7] + 8j RW, reset 0: Pin 4k + j is owned by a racker; 0 means it follows RCK_GPO_HOST -/
abbrev RCK_GPO_OWN_VALID (k : Nat) (j : Nat) : Field := ⟨RCK_GPO_OWN k, 7 + 8 * j, 1⟩

/-- Register RCK_SH_STATUS (shared), offset 0x0_3100 of its block. -/
abbrev RCK_SH_STATUS : Nat := 0x3083100
/-- RCK_SH_STATUS.OWN_WERR [0:0] W1C, reset 0: R288 -/
abbrev RCK_SH_STATUS_OWN_WERR : Field := ⟨RCK_SH_STATUS, 0, 1⟩
/-- RCK_SH_STATUS.GPO_IGN [1:1] W1C, reset 0: R284 -/
abbrev RCK_SH_STATUS_GPO_IGN : Field := ⟨RCK_SH_STATUS, 1, 1⟩

/-- Register RCK_GPO (shared), offset 0x0_3104 of its block. -/
abbrev RCK_GPO : Nat := 0x3083104
/-- RCK_GPO.VALUE [15:0] RO, reset 0: Levels driven on GPO 0–15 -/
abbrev RCK_GPO_VALUE : Field := ⟨RCK_GPO, 0, 16⟩

/-- Register RCK_GPO_HOST (shared), offset 0x0_3108 of its block. -/
abbrev RCK_GPO_HOST : Nat := 0x3083108
/-- RCK_GPO_HOST.VALUE [15:0] RW, reset 0: Levels of pins that no racker owns -/
abbrev RCK_GPO_HOST_VALUE : Field := ⟨RCK_GPO_HOST, 0, 16⟩

/-- Register RCK_GPI (shared), offset 0x0_310C of its block. -/
abbrev RCK_GPI : Nat := 0x308310C
/-- RCK_GPI.VALUE [15:0] RO, reset 0: GPI values as applied to rackers (R279) -/
abbrev RCK_GPI_VALUE : Field := ⟨RCK_GPI, 0, 16⟩

/-- Register RCK_LEASE_REQ (shared), offset 0x0_3110 of its block. -/
abbrev RCK_LEASE_REQ : Nat := 0x3083110
/-- RCK_LEASE_REQ.ID [7:0] WO, reset 0: Lease id; the write makes a host request -/
abbrev RCK_LEASE_REQ_ID : Field := ⟨RCK_LEASE_REQ, 0, 8⟩
/-- RCK_LEASE_REQ.DUR [23:8] WO, reset 0: Duration in PLAN0 frames (R272) -/
abbrev RCK_LEASE_REQ_DUR : Field := ⟨RCK_LEASE_REQ, 8, 16⟩
/-- RCK_LEASE_REQ.PRIO [26:24] WO, reset 0: Priority (Table 07-9) -/
abbrev RCK_LEASE_REQ_PRIO : Field := ⟨RCK_LEASE_REQ, 24, 3⟩
/-- RCK_LEASE_REQ.FREE [27:27] WO, reset 0: 1 requests FREE instead of LEASE -/
abbrev RCK_LEASE_REQ_FREE : Field := ⟨RCK_LEASE_REQ, 27, 1⟩

/-- Register RCK_LEASE_RES (shared), offset 0x0_3114 of its block. -/
abbrev RCK_LEASE_RES : Nat := 0x3083114
/-- RCK_LEASE_RES.STATUS [1:0] RO, reset 0: Table 07-7 status of the last host request -/
abbrev RCK_LEASE_RES_STATUS : Field := ⟨RCK_LEASE_RES, 0, 2⟩
/-- RCK_LEASE_RES.PEND [31:31] RO, reset 0: A host request on ids 96–223 awaits the conductor -/
abbrev RCK_LEASE_RES_PEND : Field := ⟨RCK_LEASE_RES, 31, 1⟩

/-- Register RCK_LEASE_H (shared, i = 0 to 255), offset 0x0_4000 + 8i of its block. -/
abbrev RCK_LEASE_H (i : Nat) : Nat := 0x3084000 + 0x8 * i
/-- RCK_LEASE_H.HOLDER [4:0] RO, reset 31: 0–15 racker, 16 host, 17 management controller, 18 twin hardware of this device (lease 255, R529), 30 twin or fabric peer, 31 none -/
abbrev RCK_LEASE_H_HOLDER (i : Nat) : Field := ⟨RCK_LEASE_H i, 0, 5⟩
/-- RCK_LEASE_H.DEV [13:8] RO, reset 0: Device address of a peer holder -/
abbrev RCK_LEASE_H_DEV (i : Nat) : Field := ⟨RCK_LEASE_H i, 8, 6⟩
/-- RCK_LEASE_H.HELD [31:31] RO, reset 0: Lease held -/
abbrev RCK_LEASE_H_HELD (i : Nat) : Field := ⟨RCK_LEASE_H i, 31, 1⟩

/-- Register RCK_LEASE_E (shared, i = 0 to 255), offset 0x0_4004 + 8i of its block. -/
abbrev RCK_LEASE_E (i : Nat) : Nat := 0x3084004 + 0x8 * i
/-- RCK_LEASE_E.EXPIRY [31:0] RO, reset 0: PLAN0 frame E at which the lease lapses (R273) -/
abbrev RCK_LEASE_E_EXPIRY (i : Nat) : Field := ⟨RCK_LEASE_E i, 0, 32⟩

/-- Register RCK_FENCE (shared, n = 0 to 255), offset 0x0_5000 + 4n of its block. -/
abbrev RCK_FENCE (n : Nat) : Nat := 0x3085000 + 0x4 * n
/-- RCK_FENCE.VALUE [31:0] RW, reset 0: Renderer fence value; writes follow R281 -/
abbrev RCK_FENCE_VALUE (n : Nat) : Field := ⟨RCK_FENCE n, 0, 32⟩

/-- The registers of block RCK: address, index ranges, access masks and reset word. -/
def regsRCK : List RegDesc := [
  { base := 0x2020000, dims := [(0x10, 0x100000)], rw := 0x0, w1c := 0x0, rs := 0x0, wo := 0xF, reset := fun _ _ _ => 0x0 },
  { base := 0x2020004, dims := [(0x10, 0x100000)], rw := 0x3F3FFF, w1c := 0x0, rs := 0x0, wo := 0x0, reset := fun _ _ _ => 0x0 },
  { base := 0x2020008, dims := [(0x10, 0x100000)], rw := 0x0, w1c := 0x1C0000, rs := 0x0, wo := 0x0, reset := fun _ _ _ => 0x0 },
  { base := 0x202000C, dims := [(0x10, 0x100000)], rw := 0x0, w1c := 0x0, rs := 0x0, wo := 0x0, reset := fun _ _ _ => 0x0 },
  { base := 0x2020010, dims := [(0x10, 0x100000)], rw := 0x0, w1c := 0x0, rs := 0x0, wo := 0x0, reset := fun _ _ _ => 0x0 },
  { base := 0x2020014, dims := [(0x10, 0x100000)], rw := 0x3FFF, w1c := 0x0, rs := 0x0, wo := 0x0, reset := fun _ _ _ => 0x0 },
  { base := 0x2020018, dims := [(0x10, 0x100000)], rw := 0x0, w1c := 0x0, rs := 0x0, wo := 0x0, reset := fun _ _ _ => 0x0 },
  { base := 0x202001C, dims := [(0x10, 0x100000)], rw := 0x0, w1c := 0x0, rs := 0xFFFFFFFF, wo := 0x0, reset := fun _ _ _ => 0x0 },
  { base := 0x2020020, dims := [(0x10, 0x100000)], rw := 0x0, w1c := 0x0, rs := 0x0, wo := 0x0, reset := fun _ _ _ => 0x0 },
  { base := 0x2020024, dims := [(0x10, 0x100000)], rw := 0x0, w1c := 0x0, rs := 0x0, wo := 0x0, reset := fun _ _ _ => 0x0 },
  { base := 0x2020028, dims := [(0x10, 0x100000)], rw := 0x0, w1c := 0x0, rs := 0x0, wo := 0x0, reset := fun _ _ _ => 0x0 },
  { base := 0x202002C, dims := [(0x10, 0x100000)], rw := 0x0, w1c := 0x0, rs := 0x0, wo := 0x0, reset := fun _ _ _ => 0x0 },
  { base := 0x2020040, dims := [(0x10, 0x100000), (0x6, 0x4)], rw := 0x0, w1c := 0x0, rs := 0xFFFFFFFF, wo := 0x0, reset := fun _ _ _ => 0x0 },
  { base := 0x2020060, dims := [(0x10, 0x100000)], rw := 0x0, w1c := 0x80000000, rs := 0x0, wo := 0x0, reset := fun _ _ _ => 0x0 },
  { base := 0x2020080, dims := [(0x10, 0x100000), (0x8, 0x4)], rw := 0x0, w1c := 0x0, rs := 0x0, wo := 0x0, reset := fun _ _ _ => 0x0 },
  { base := 0x20200A0, dims := [(0x10, 0x100000), (0x8, 0x4)], rw := 0x0, w1c := 0x0, rs := 0x0, wo := 0x0, reset := fun _ _ _ => 0x0 },
  { base := 0x2020100, dims := [(0x10, 0x100000), (0x20, 0x4)], rw := 0xFFFFFFFF, w1c := 0x0, rs := 0x0, wo := 0x0, reset := fun _ _ _ => 0x0 }]

/-- The registers of block RCKS: address, index ranges, access masks and reset word. -/
def regsRCKS : List RegDesc := [
  { base := 0x3080000, dims := [(0x480, 0x4)], rw := 0x8F8F8F8F, w1c := 0x0, rs := 0x0, wo := 0x0, reset := fun _ _ _ => 0x0 },
  { base := 0x3082000, dims := [(0x300, 0x4)], rw := 0x8F8F8F8F, w1c := 0x0, rs := 0x0, wo := 0x0, reset := fun _ _ _ => 0x0 },
  { base := 0x3083000, dims := [(0x8, 0x4)], rw := 0x8F8F8F8F, w1c := 0x0, rs := 0x0, wo := 0x0, reset := fun _ _ _ => 0x0 },
  { base := 0x3083020, dims := [(0x4, 0x4)], rw := 0x8F8F8F8F, w1c := 0x0, rs := 0x0, wo := 0x0, reset := fun _ _ _ => 0x0 },
  { base := 0x3083100, dims := [], rw := 0x0, w1c := 0x3, rs := 0x0, wo := 0x0, reset := fun _ _ _ => 0x0 },
  { base := 0x3083104, dims := [], rw := 0x0, w1c := 0x0, rs := 0x0, wo := 0x0, reset := fun _ _ _ => 0x0 },
  { base := 0x3083108, dims := [], rw := 0xFFFF, w1c := 0x0, rs := 0x0, wo := 0x0, reset := fun _ _ _ => 0x0 },
  { base := 0x308310C, dims := [], rw := 0x0, w1c := 0x0, rs := 0x0, wo := 0x0, reset := fun _ _ _ => 0x0 },
  { base := 0x3083110, dims := [], rw := 0x0, w1c := 0x0, rs := 0x0, wo := 0xFFFFFFF, reset := fun _ _ _ => 0x0 },
  { base := 0x3083114, dims := [], rw := 0x0, w1c := 0x0, rs := 0x0, wo := 0x0, reset := fun _ _ _ => 0x0 },
  { base := 0x3084000, dims := [(0x100, 0x8)], rw := 0x0, w1c := 0x0, rs := 0x0, wo := 0x0, reset := fun _ _ _ => 0x1F },
  { base := 0x3084004, dims := [(0x100, 0x8)], rw := 0x0, w1c := 0x0, rs := 0x0, wo := 0x0, reset := fun _ _ _ => 0x0 },
  { base := 0x3085000, dims := [(0x100, 0x4)], rw := 0xFFFFFFFF, w1c := 0x0, rs := 0x0, wo := 0x0, reset := fun _ _ _ => 0x0 }]

end Sys2Proof.Machine
end

