-- ==== Sys2Proof/Machine/RegsRef.lean ====
section
/-! DEFINITION. The registers of references and plans (REF, PLN): the address of each register, the place of each field,
its access type and its reset value, as the register tables of spec/05_references_holdover_and_plans.md give them. -/

namespace Sys2Proof.Machine

/-- Register REF_CFG, offset 0x000 of its block. -/
abbrev REF_CFG : Nat := 0x200000
/-- REF_CFG.REVERT [0:0] RW, reset 1: Revertive selection (R175) -/
abbrev REF_CFG_REVERT : Field := ⟨REF_CFG, 0, 1⟩
/-- REF_CFG.FIRST_FAST [1:1] RW, reset 1: No frequency slew limit on the first acquisition (R184) -/
abbrev REF_CFG_FIRST_FAST : Field := ⟨REF_CFG, 1, 1⟩
/-- REF_CFG.QUAL_S [15:8] RW, reset 10: Qualification time in s; 0 is stored as 1 -/
abbrev REF_CFG_QUAL_S : Field := ⟨REF_CFG, 8, 8⟩
/-- REF_CFG.DISQ_S [31:16] RW, reset 60: Disqualification interval in s, clamped to 1–3,600 -/
abbrev REF_CFG_DISQ_S : Field := ⟨REF_CFG, 16, 16⟩

/-- Register REF_TOL, offset 0x004 of its block. -/
abbrev REF_TOL : Nat := 0x200004
/-- REF_TOL.REF [15:0] RW, reset 2,000: Tolerance for the REF and SDI classes in ppb, clamped to 100–20,000 -/
abbrev REF_TOL_REF : Field := ⟨REF_TOL, 0, 16⟩
/-- REF_TOL.PTP [31:16] RW, reset 500: Tolerance for the PTP class in ppb, clamped to 10–20,000 -/
abbrev REF_TOL_PTP : Field := ⟨REF_TOL, 16, 16⟩

/-- Register REF_HOLD, offset 0x008 of its block. -/
abbrev REF_HOLD : Nat := 0x200008
/-- REF_HOLD.VALID_MIN [13:0] RW, reset 1,440: Holdover validity in minutes (R188) -/
abbrev REF_HOLD_VALID_MIN : Field := ⟨REF_HOLD, 0, 14⟩

/-- Register REF_STATUS, offset 0x00C of its block. -/
abbrev REF_STATUS : Nat := 0x20000C
/-- REF_STATUS.DPLL [2:0] RO, reset 0: DPLL state, Table 05-6 -/
abbrev REF_STATUS_DPLL : Field := ⟨REF_STATUS, 0, 3⟩
/-- REF_STATUS.SEL [6:4] RO, reset 6: Index of the selected candidate -/
abbrev REF_STATUS_SEL : Field := ⟨REF_STATUS, 4, 3⟩
/-- REF_STATUS.FREQ_ACQ [7:7] RO, reset 0: Frequency acquired (R185) -/
abbrev REF_STATUS_FREQ_ACQ : Field := ⟨REF_STATUS, 7, 1⟩
/-- REF_STATUS.HIST_VALID [8:8] RO, reset 0: R186 -/
abbrev REF_STATUS_HIST_VALID : Field := ⟨REF_STATUS, 8, 1⟩
/-- REF_STATUS.BW_STEP [11:9] RO, reset 0: Bandwidth step, 0 (10 Hz) to 6 (0.01 Hz) -/
abbrev REF_STATUS_BW_STEP : Field := ⟨REF_STATUS, 9, 3⟩
/-- REF_STATUS.DISAGREE [12:12] RO, reset 0: R178 -/
abbrev REF_STATUS_DISAGREE : Field := ⟨REF_STATUS, 12, 1⟩
/-- REF_STATUS.TWIN_DIVERGE [13:13] RO, reset 0: R180 -/
abbrev REF_STATUS_TWIN_DIVERGE : Field := ⟨REF_STATUS, 13, 1⟩

/-- Register REF_EVENT, offset 0x010 of its block. -/
abbrev REF_EVENT : Nat := 0x200010
/-- REF_EVENT.SEL_CHANGE [0:0] W1C, reset 0: Selection changed -/
abbrev REF_EVENT_SEL_CHANGE : Field := ⟨REF_EVENT, 0, 1⟩
/-- REF_EVENT.STATE_CHANGE [1:1] W1C, reset 0: DPLL state changed -/
abbrev REF_EVENT_STATE_CHANGE : Field := ⟨REF_EVENT, 1, 1⟩
/-- REF_EVENT.LOSS [2:2] W1C, reset 0: A candidate was lost (R172) -/
abbrev REF_EVENT_LOSS : Field := ⟨REF_EVENT, 2, 1⟩
/-- REF_EVENT.GLITCH [3:3] W1C, reset 0: R171 -/
abbrev REF_EVENT_GLITCH : Field := ⟨REF_EVENT, 3, 1⟩
/-- REF_EVENT.RATE_CHANGE [4:4] W1C, reset 0: R172, R173 -/
abbrev REF_EVENT_RATE_CHANGE : Field := ⟨REF_EVENT, 4, 1⟩
/-- REF_EVENT.SUSPECT [5:5] W1C, reset 0: A candidate became SUSPECT -/
abbrev REF_EVENT_SUSPECT : Field := ⟨REF_EVENT, 5, 1⟩
/-- REF_EVENT.DISQUAL [6:6] W1C, reset 0: A candidate became DISQUALIFIED -/
abbrev REF_EVENT_DISQUAL : Field := ⟨REF_EVENT, 6, 1⟩
/-- REF_EVENT.DISAGREE [7:7] W1C, reset 0: R178 -/
abbrev REF_EVENT_DISAGREE : Field := ⟨REF_EVENT, 7, 1⟩
/-- REF_EVENT.OUTVOTED [8:8] W1C, reset 0: R177 -/
abbrev REF_EVENT_OUTVOTED : Field := ⟨REF_EVENT, 8, 1⟩
/-- REF_EVENT.UNLOCK [9:9] W1C, reset 0: LOCKED left on phase error -/
abbrev REF_EVENT_UNLOCK : Field := ⟨REF_EVENT, 9, 1⟩
/-- REF_EVENT.HOLD_EXPIRED [10:10] W1C, reset 0: LOST entered -/
abbrev REF_EVENT_HOLD_EXPIRED : Field := ⟨REF_EVENT, 10, 1⟩
/-- REF_EVENT.MARKER_ERR [11:11] W1C, reset 0: R165 -/
abbrev REF_EVENT_MARKER_ERR : Field := ⟨REF_EVENT, 11, 1⟩

/-- Register REF_FREQ, offset 0x014 of its block. -/
abbrev REF_FREQ : Nat := 0x200014
/-- REF_FREQ.PPB [31:0] RO, reset 0: DPLL output offset from nominal, signed, in ppb -/
abbrev REF_FREQ_PPB : Field := ⟨REF_FREQ, 0, 32⟩

/-- Register REF_XO, offset 0x018 of its block. -/
abbrev REF_XO : Nat := 0x200018
/-- REF_XO.OFFS [15:0] RO, reset 0: XO offset estimate, signed, in ppb (R168) -/
abbrev REF_XO_OFFS : Field := ⟨REF_XO, 0, 16⟩
/-- REF_XO.UNC [31:16] RO, reset 0xFFFF: Uncertainty in ppb; 0xFFFF is unknown -/
abbrev REF_XO_UNC : Field := ⟨REF_XO, 16, 16⟩

/-- Register REF_BUILDOUT, offset 0x01C of its block. -/
abbrev REF_BUILDOUT : Nat := 0x20001C
/-- REF_BUILDOUT.NS [31:0] RO, reset 0: Build-out B, signed, in ns (R185) -/
abbrev REF_BUILDOUT_NS : Field := ⟨REF_BUILDOUT, 0, 32⟩

/-- Register REF_HOLD_T, offset 0x020 of its block. -/
abbrev REF_HOLD_T : Nat := 0x200020
/-- REF_HOLD_T.SEC [31:0] RO, reset 0: Seconds since HOLDOVER was entered; 0 outside HOLDOVER and LOST -/
abbrev REF_HOLD_T_SEC : Field := ⟨REF_HOLD_T, 0, 32⟩

/-- Register REF_CAND_CFG (c = 0 to 6), offset 0x040 + 8c of its block. -/
abbrev REF_CAND_CFG (c : Nat) : Nat := 0x200040 + 0x8 * c
/-- REF_CAND_CFG.EN [0:0] RW, reset c ≤ 1: 1; c = 2–5: 0; c = 6: 1 (RO): Candidate enabled -/
abbrev REF_CAND_CFG_EN (c : Nat) : Field := ⟨REF_CAND_CFG c, 0, 1⟩
/-- REF_CAND_CFG.RANK [3:1] RW, reset c = 0: 0; 1: 1; 2: 2; 3: 3; 4: 4; 5: 5; 6: 7 (RO): Rank (R158) -/
abbrev REF_CAND_CFG_RANK (c : Nat) : Field := ⟨REF_CAND_CFG c, 1, 3⟩
/-- REF_CAND_CFG.FP_REQ [4:4] RW, reset 1: REF candidates: frame marker required (R166) -/
abbrev REF_CAND_CFG_FP_REQ (c : Nat) : Field := ⟨REF_CAND_CFG c, 4, 1⟩
/-- REF_CAND_CFG.SRC [28:16] RW, reset 0: PTP: trellis number; SDI: input quarter-slot id; unused for c = 0, 1 and 6 -/
abbrev REF_CAND_CFG_SRC (c : Nat) : Field := ⟨REF_CAND_CFG c, 16, 13⟩

/-- Register REF_CAND_STAT (c = 0 to 6), offset 0x044 + 8c of its block. -/
abbrev REF_CAND_STAT (c : Nat) : Nat := 0x200044 + 0x8 * c
/-- REF_CAND_STAT.STATE [2:0] RO, reset c = 6: 2; else 0: Table 05-5 -/
abbrev REF_CAND_STAT_STATE (c : Nat) : Field := ⟨REF_CAND_STAT c, 0, 3⟩
/-- REF_CAND_STAT.FREQ_ONLY [3:3] RO, reset 0: R166 -/
abbrev REF_CAND_STAT_FREQ_ONLY (c : Nat) : Field := ⟨REF_CAND_STAT c, 3, 1⟩
/-- REF_CAND_STAT.CLASS [6:4] RO, reset c = 6: 7; else 0: 0 none, 1 10 MHz, 2 27 MHz, 3 148.5 MHz, 4 148.5/1.001 MHz, 5 PTP, 6 SDI, 7 XO -/
abbrev REF_CAND_STAT_CLASS (c : Nat) : Field := ⟨REF_CAND_STAT c, 4, 3⟩
/-- REF_CAND_STAT.OUTVOTED [7:7] RO, reset 0: R177 -/
abbrev REF_CAND_STAT_OUTVOTED (c : Nat) : Field := ⟨REF_CAND_STAT c, 7, 1⟩
/-- REF_CAND_STAT.QUAL_LEFT [15:8] RO, reset 0: Seconds left in QUALIFYING -/
abbrev REF_CAND_STAT_QUAL_LEFT (c : Nat) : Field := ⟨REF_CAND_STAT c, 8, 8⟩

/-- Register REF_CAND_OFFS (c = 0 to 5), offset 0x080 + 4c of its block. -/
abbrev REF_CAND_OFFS (c : Nat) : Nat := 0x200080 + 0x4 * c
/-- REF_CAND_OFFS.PPB [31:0] RO, reset 0: Offset (R167), signed, in ppb -/
abbrev REF_CAND_OFFS_PPB (c : Nat) : Field := ⟨REF_CAND_OFFS c, 0, 32⟩

/-- Register REF_GLITCH (c = 0 to 1), offset 0x0A0 + 4c of its block. -/
abbrev REF_GLITCH (c : Nat) : Nat := 0x2000A0 + 0x4 * c
/-- REF_GLITCH.GLITCHES [15:0] RS, reset 0: Glitches, saturating; cleared by the read -/
abbrev REF_GLITCH_GLITCHES (c : Nat) : Field := ⟨REF_GLITCH c, 0, 16⟩
/-- REF_GLITCH.LOSSES [31:16] RS, reset 0: Losses, saturating; cleared by the read -/
abbrev REF_GLITCH_LOSSES (c : Nat) : Field := ⟨REF_GLITCH c, 16, 16⟩

/-- Register REF_MARKER (c = 0 to 1), offset 0x0B0 + 4c of its block. -/
abbrev REF_MARKER (c : Nat) : Nat := 0x2000B0 + 0x4 * c
/-- REF_MARKER.WORD [7:0] RO, reset 0: Last valid frame marker word -/
abbrev REF_MARKER_WORD (c : Nat) : Field := ⟨REF_MARKER c, 0, 8⟩
/-- REF_MARKER.ERR [31:16] RS, reset 0: Invalid markers, saturating; cleared by the read -/
abbrev REF_MARKER_ERR (c : Nat) : Field := ⟨REF_MARKER c, 16, 16⟩

/-- Register PLN_CFG (instance p), offset 0x000 of its block. -/
abbrev PLN_CFG (p : Nat) : Nat := 0x400000 + 0x100 * p
/-- PLN_CFG.EN [0:0] RW (RO for p = 0), reset p = 0: 1; else OTP, or 0 without a record: Plan enabled (R192) -/
abbrev PLN_CFG_EN (p : Nat) : Field := ⟨PLN_CFG p, 0, 1⟩
/-- PLN_CFG.FORMAT [3:1] RW, reset OTP, or 5: Table 05-4 -/
abbrev PLN_CFG_FORMAT (p : Nat) : Field := ⟨PLN_CFG p, 1, 3⟩
/-- PLN_CFG.RATE [6:4] RW, reset OTP, or 5: Table 05-3 -/
abbrev PLN_CFG_RATE (p : Nat) : Field := ⟨PLN_CFG p, 4, 3⟩
/-- PLN_CFG.POLICY [8:7] RW, reset 0: Table 05-8; 3 is stored as 0 -/
abbrev PLN_CFG_POLICY (p : Nat) : Field := ⟨PLN_CFG p, 7, 2⟩
/-- PLN_CFG.FIELDS [9:9] RW, reset 0: R190 -/
abbrev PLN_CFG_FIELDS (p : Nat) : Field := ⟨PLN_CFG p, 9, 1⟩
/-- PLN_CFG.FIRST_LOCK [10:10] RW, reset 0: R200 -/
abbrev PLN_CFG_FIRST_LOCK (p : Nat) : Field := ⟨PLN_CFG p, 10, 1⟩

/-- Register PLN_ALIGN (instance p), offset 0x004 of its block. -/
abbrev PLN_ALIGN (p : Nat) : Nat := 0x400004 + 0x100 * p
/-- PLN_ALIGN.LINES [15:0] RW, reset 0: Offset from the alignment point in lines (R194) -/
abbrev PLN_ALIGN_LINES (p : Nat) : Field := ⟨PLN_ALIGN p, 0, 16⟩
/-- PLN_ALIGN.SAMPLES [31:16] RW, reset 0: Further offset in samples -/
abbrev PLN_ALIGN_SAMPLES (p : Nat) : Field := ⟨PLN_ALIGN p, 16, 16⟩

/-- Register PLN_STATUS (instance p), offset 0x008 of its block. -/
abbrev PLN_STATUS (p : Nat) : Nat := 0x400008 + 0x100 * p
/-- PLN_STATUS.RUN [0:0] RO, reset p = 0: 1; else 0: Plan running -/
abbrev PLN_STATUS_RUN (p : Nat) : Field := ⟨PLN_STATUS p, 0, 1⟩
/-- PLN_STATUS.BRIDGE [1:1] RO, reset 0: In a bridge frame (R201) -/
abbrev PLN_STATUS_BRIDGE (p : Nat) : Field := ⟨PLN_STATUS p, 1, 1⟩
/-- PLN_STATUS.FREQ_ONLY [2:2] RO, reset 1: No phase target (R193) -/
abbrev PLN_STATUS_FREQ_ONLY (p : Nat) : Field := ⟨PLN_STATUS p, 2, 1⟩
/-- PLN_STATUS.SLEWING [3:3] RO, reset 0: SLEW correction in progress -/
abbrev PLN_STATUS_SLEWING (p : Nat) : Field := ⟨PLN_STATUS p, 3, 1⟩
/-- PLN_STATUS.JUMP_PEND [4:4] RO, reset 0: R197 -/
abbrev PLN_STATUS_JUMP_PEND (p : Nat) : Field := ⟨PLN_STATUS p, 4, 1⟩
/-- PLN_STATUS.WAIT_CLK [5:5] RO, reset 0: Staged change waiting for the new timebase -/
abbrev PLN_STATUS_WAIT_CLK (p : Nat) : Field := ⟨PLN_STATUS p, 5, 1⟩
/-- PLN_STATUS.KEPT [6:6] RO, reset 0: Non-zero kept offset -/
abbrev PLN_STATUS_KEPT (p : Nat) : Field := ⟨PLN_STATUS p, 6, 1⟩
/-- PLN_STATUS.CFG_REFUSED [7:7] W1C, reset 0: R191 -/
abbrev PLN_STATUS_CFG_REFUSED (p : Nat) : Field := ⟨PLN_STATUS p, 7, 1⟩

/-- Register PLN_POS_F (instance p), offset 0x00C of its block. -/
abbrev PLN_POS_F (p : Nat) : Nat := 0x40000C + 0x100 * p
/-- PLN_POS_F.FRAME [31:0] RS, reset 0: Current frame number; the read latches line and sample of the same instant into PLN_POS_L(p) -/
abbrev PLN_POS_F_FRAME (p : Nat) : Field := ⟨PLN_POS_F p, 0, 32⟩

/-- Register PLN_POS_L (instance p), offset 0x010 of its block. -/
abbrev PLN_POS_L (p : Nat) : Nat := 0x400010 + 0x100 * p
/-- PLN_POS_L.LINE [15:0] RO, reset 0: Line latched by the last read of PLN_POS_F(p) -/
abbrev PLN_POS_L_LINE (p : Nat) : Field := ⟨PLN_POS_L p, 0, 16⟩
/-- PLN_POS_L.SAMPLE [31:16] RO, reset 0: Sample latched by the same read -/
abbrev PLN_POS_L_SAMPLE (p : Nat) : Field := ⟨PLN_POS_L p, 16, 16⟩

/-- Register PLN_PHASE_ERR (instance p), offset 0x014 of its block. -/
abbrev PLN_PHASE_ERR (p : Nat) : Nat := 0x400014 + 0x100 * p
/-- PLN_PHASE_ERR.NS [31:0] RO, reset 0: Phase error e (R195), signed, in ns -/
abbrev PLN_PHASE_ERR_NS (p : Nat) : Field := ⟨PLN_PHASE_ERR p, 0, 32⟩

/-- Register PLN_CTRL (instance p), offset 0x018 of its block. -/
abbrev PLN_CTRL (p : Nat) : Nat := 0x400018 + 0x100 * p
/-- PLN_CTRL.JUMP_NOW [0:0] WO, reset 0: R198 -/
abbrev PLN_CTRL_JUMP_NOW (p : Nat) : Field := ⟨PLN_CTRL p, 0, 1⟩

/-- Register PLN_JUMP_F (instance p), offset 0x01C of its block. -/
abbrev PLN_JUMP_F (p : Nat) : Nat := 0x40001C + 0x100 * p
/-- PLN_JUMP_F.FRAME [31:0] RO, reset 0: Frame number of the last announced JUMP frame -/
abbrev PLN_JUMP_F_FRAME (p : Nat) : Field := ⟨PLN_JUMP_F p, 0, 32⟩

/-- Register PLN_JUMP_NS (instance p), offset 0x020 of its block. -/
abbrev PLN_JUMP_NS (p : Nat) : Nat := 0x400020 + 0x100 * p
/-- PLN_JUMP_NS.NS [31:0] RO, reset 0: Length change of that frame, signed, in ns; negative for a short frame -/
abbrev PLN_JUMP_NS_NS (p : Nat) : Field := ⟨PLN_JUMP_NS p, 0, 32⟩

/-- The registers of block REF: address, index ranges, access masks and reset word. -/
def regsREF : List RegDesc := [
  { base := 0x200000, dims := [], rw := 0xFFFFFF03, w1c := 0x0, rs := 0x0, wo := 0x0, reset := fun _ _ _ => 0x3C0A03 },
  { base := 0x200004, dims := [], rw := 0xFFFFFFFF, w1c := 0x0, rs := 0x0, wo := 0x0, reset := fun _ _ _ => 0x1F407D0 },
  { base := 0x200008, dims := [], rw := 0x3FFF, w1c := 0x0, rs := 0x0, wo := 0x0, reset := fun _ _ _ => 0x5A0 },
  { base := 0x20000C, dims := [], rw := 0x0, w1c := 0x0, rs := 0x0, wo := 0x0, reset := fun _ _ _ => 0x60 },
  { base := 0x200010, dims := [], rw := 0x0, w1c := 0xFFF, rs := 0x0, wo := 0x0, reset := fun _ _ _ => 0x0 },
  { base := 0x200014, dims := [], rw := 0x0, w1c := 0x0, rs := 0x0, wo := 0x0, reset := fun _ _ _ => 0x0 },
  { base := 0x200018, dims := [], rw := 0x0, w1c := 0x0, rs := 0x0, wo := 0x0, reset := fun _ _ _ => 0xFFFF0000 },
  { base := 0x20001C, dims := [], rw := 0x0, w1c := 0x0, rs := 0x0, wo := 0x0, reset := fun _ _ _ => 0x0 },
  { base := 0x200020, dims := [], rw := 0x0, w1c := 0x0, rs := 0x0, wo := 0x0, reset := fun _ _ _ => 0x0 },
  { base := 0x200040, dims := [(0x7, 0x8)], rw := 0x1FFF001F, w1c := 0x0, rs := 0x0, wo := 0x0, reset := fun c _ _ => 0x10 + (if c ≤ 1 ∨ c = 6 then 1 else 0) + (if c = 6 then 7 else c) * 2 ^ 1 },
  { base := 0x200044, dims := [(0x7, 0x8)], rw := 0x0, w1c := 0x0, rs := 0x0, wo := 0x0, reset := fun c _ _ => (if c = 6 then 2 else 0) + (if c = 6 then 7 else 0) * 2 ^ 4 },
  { base := 0x200080, dims := [(0x6, 0x4)], rw := 0x0, w1c := 0x0, rs := 0x0, wo := 0x0, reset := fun _ _ _ => 0x0 },
  { base := 0x2000A0, dims := [(0x2, 0x4)], rw := 0x0, w1c := 0x0, rs := 0xFFFFFFFF, wo := 0x0, reset := fun _ _ _ => 0x0 },
  { base := 0x2000B0, dims := [(0x2, 0x4)], rw := 0x0, w1c := 0x0, rs := 0xFFFF0000, wo := 0x0, reset := fun _ _ _ => 0x0 }]

/-- The registers of block PLN: address, index ranges, access masks and reset word. -/
def regsPLN : List RegDesc := [
  { base := 0x400000, dims := [(0x8, 0x100)], rw := 0x7FF, w1c := 0x0, rs := 0x0, wo := 0x0, reset := fun p _ _ => (if p = 0 then 1 else 0) + (5) * 2 ^ 1 + (5) * 2 ^ 4 },
  { base := 0x400004, dims := [(0x8, 0x100)], rw := 0xFFFFFFFF, w1c := 0x0, rs := 0x0, wo := 0x0, reset := fun _ _ _ => 0x0 },
  { base := 0x400008, dims := [(0x8, 0x100)], rw := 0x0, w1c := 0x80, rs := 0x0, wo := 0x0, reset := fun p _ _ => 0x4 + (if p = 0 then 1 else 0) },
  { base := 0x40000C, dims := [(0x8, 0x100)], rw := 0x0, w1c := 0x0, rs := 0xFFFFFFFF, wo := 0x0, reset := fun _ _ _ => 0x0 },
  { base := 0x400010, dims := [(0x8, 0x100)], rw := 0x0, w1c := 0x0, rs := 0x0, wo := 0x0, reset := fun _ _ _ => 0x0 },
  { base := 0x400014, dims := [(0x8, 0x100)], rw := 0x0, w1c := 0x0, rs := 0x0, wo := 0x0, reset := fun _ _ _ => 0x0 },
  { base := 0x400018, dims := [(0x8, 0x100)], rw := 0x0, w1c := 0x0, rs := 0x0, wo := 0x1, reset := fun _ _ _ => 0x0 },
  { base := 0x40001C, dims := [(0x8, 0x100)], rw := 0x0, w1c := 0x0, rs := 0x0, wo := 0x0, reset := fun _ _ _ => 0x0 },
  { base := 0x400020, dims := [(0x8, 0x100)], rw := 0x0, w1c := 0x0, rs := 0x0, wo := 0x0, reset := fun _ _ _ => 0x0 }]

end Sys2Proof.Machine
end

