-- ==== Sys2Proof/Machine/RegsSyn.lean ====
section
/-! DEFINITION. The registers of clock synthesis (SYN): the address of each register, the place of each field,
its access type and its reset value, as the register tables of spec/06_clock_synthesis.md give them. -/

namespace Sys2Proof.Machine

/-- Register SYN_STATUS, offset 0x000 of its block. -/
abbrev SYN_STATUS : Nat := 0x300000
/-- SYN_STATUS.ON_SAFE [4:0] RO, reset 0x1F: Bit k: logic PLL 48 + k feeds its domains through the safe clock -/
abbrev SYN_STATUS_ON_SAFE : Field := ⟨SYN_STATUS, 0, 5⟩
/-- SYN_STATUS.SAFE_LOCK [5:5] RO, reset 0: Safe PLL locked -/
abbrev SYN_STATUS_SAFE_LOCK : Field := ⟨SYN_STATUS, 5, 1⟩
/-- SYN_STATUS.POOL_FREE [11:8] RO, reset 2: Unclaimed synthesisers in the spare pool -/
abbrev SYN_STATUS_POOL_FREE : Field := ⟨SYN_STATUS, 8, 4⟩

/-- Register SYN_EVENT, offset 0x004 of its block. -/
abbrev SYN_EVENT : Nat := 0x300004
/-- SYN_EVENT.UNLOCK [0:0] W1C, reset 0: A locked synthesiser lost lock (R219, R235) -/
abbrev SYN_EVENT_UNLOCK : Field := ⟨SYN_EVENT, 0, 1⟩
/-- SYN_EVENT.CLAMP [1:1] W1C, reset 0: A target was clamped (R228) -/
abbrev SYN_EVENT_CLAMP : Field := ⟨SYN_EVENT, 1, 1⟩
/-- SYN_EVENT.SEARCH_FAIL [2:2] W1C, reset 0: A band search found no band that locks -/
abbrev SYN_EVENT_SEARCH_FAIL : Field := ⟨SYN_EVENT, 2, 1⟩
/-- SYN_EVENT.POOL_WAIT [3:3] W1C, reset 0: A staged change waited for the pool (R217) -/
abbrev SYN_EVENT_POOL_WAIT : Field := ⟨SYN_EVENT, 3, 1⟩
/-- SYN_EVENT.PREEMPT [4:4] W1C, reset 0: A claim was taken under R220 -/
abbrev SYN_EVENT_PREEMPT : Field := ⟨SYN_EVENT, 4, 1⟩

/-- Register SYN_CACHE_SEL, offset 0x010 of its block. -/
abbrev SYN_CACHE_SEL : Nat := 0x300010
/-- SYN_CACHE_SEL.PLL [5:0] RW, reset 0: Synthesiser index, 0–52 -/
abbrev SYN_CACHE_SEL_PLL : Field := ⟨SYN_CACHE_SEL, 0, 6⟩
/-- SYN_CACHE_SEL.ENTRY [11:8] RW, reset 0: Cache entry, 0–15 -/
abbrev SYN_CACHE_SEL_ENTRY : Field := ⟨SYN_CACHE_SEL, 8, 4⟩

/-- Register SYN_CACHE_DATA, offset 0x014 of its block. -/
abbrev SYN_CACHE_DATA : Nat := 0x300014
/-- SYN_CACHE_DATA.INT [7:0] RO, reset 0: INT of the entry selected by SYN_CACHE_SEL -/
abbrev SYN_CACHE_DATA_INT : Field := ⟨SYN_CACHE_DATA, 0, 8⟩
/-- SYN_CACHE_DATA.FRAC_HI [19:8] RO, reset 0: FRAC[31:20] of the entry -/
abbrev SYN_CACHE_DATA_FRAC_HI : Field := ⟨SYN_CACHE_DATA, 8, 12⟩
/-- SYN_CACHE_DATA.BAND [27:20] RO, reset 0: Band code -/
abbrev SYN_CACHE_DATA_BAND : Field := ⟨SYN_CACHE_DATA, 20, 8⟩
/-- SYN_CACHE_DATA.VALID [31:31] RO, reset 0: Entry valid -/
abbrev SYN_CACHE_DATA_VALID : Field := ⟨SYN_CACHE_DATA, 31, 1⟩

/-- Register SYN_CACHE_TEMP, offset 0x018 of its block. -/
abbrev SYN_CACHE_TEMP : Nat := 0x300018
/-- SYN_CACHE_TEMP.TEMP [7:0] RO, reset 0: Hottest die temperature at search, °C -/
abbrev SYN_CACHE_TEMP_TEMP : Field := ⟨SYN_CACHE_TEMP, 0, 8⟩

/-- Register SYN_PLL_CFG (i = 0 to 52), offset 0x100 + 0x20 × i of its block. -/
abbrev SYN_PLL_CFG (i : Nat) : Nat := 0x300100 + 0x20 * i
/-- SYN_PLL_CFG.PROFILE [0:0] RW, reset 0: 0 linear, 1 S-curve (R226) -/
abbrev SYN_PLL_CFG_PROFILE (i : Nat) : Field := ⟨SYN_PLL_CFG i, 0, 1⟩
/-- SYN_PLL_CFG.SLOPE [19:4] RW, reset 10,000: Ramp slope in ppb per µs, clamped to 100–50,000 -/
abbrev SYN_PLL_CFG_SLOPE (i : Nat) : Field := ⟨SYN_PLL_CFG i, 4, 16⟩

/-- Register SYN_PLL_SEED (i = 0 to 52), offset 0x104 + 0x20 × i of its block. -/
abbrev SYN_PLL_SEED (i : Nat) : Nat := 0x300104 + 0x20 * i
/-- SYN_PLL_SEED.SEED [15:0] RW, reset 0xACE1 + 0x0101 × i: Dither seed (R208 to R210) -/
abbrev SYN_PLL_SEED_SEED (i : Nat) : Field := ⟨SYN_PLL_SEED i, 0, 16⟩

/-- Register SYN_PLL_STAT (i = 0 to 52), offset 0x108 + 0x20 × i of its block. -/
abbrev SYN_PLL_STAT (i : Nat) : Nat := 0x300108 + 0x20 * i
/-- SYN_PLL_STAT.STATE [2:0] RO, reset 0: 0 off, 1 band search, 2 locking, 3 hold, 4 locked, 5 ramping -/
abbrev SYN_PLL_STAT_STATE (i : Nat) : Field := ⟨SYN_PLL_STAT i, 0, 3⟩
/-- SYN_PLL_STAT.GATE [3:3] RO, reset 0: Output gate open -/
abbrev SYN_PLL_STAT_GATE (i : Nat) : Field := ⟨SYN_PLL_STAT i, 3, 1⟩
/-- SYN_PLL_STAT.BAND [15:8] RO, reset 0: Band in use -/
abbrev SYN_PLL_STAT_BAND (i : Nat) : Field := ⟨SYN_PLL_STAT i, 8, 8⟩
/-- SYN_PLL_STAT.USER [23:16] RO, reset Table 06-1: Plans PS0–PS9: plan served, 0xFF in the pool; other synthesisers: 0 -/
abbrev SYN_PLL_STAT_USER (i : Nat) : Field := ⟨SYN_PLL_STAT i, 16, 8⟩
/-- SYN_PLL_STAT.UNLOCKS [31:24] RS, reset 0: Losses of lock, saturating; cleared by the read -/
abbrev SYN_PLL_STAT_UNLOCKS (i : Nat) : Field := ⟨SYN_PLL_STAT i, 24, 8⟩

/-- Register SYN_PLL_INT (i = 0 to 52), offset 0x10C + 0x20 × i of its block. -/
abbrev SYN_PLL_INT (i : Nat) : Nat := 0x30010C + 0x20 * i
/-- SYN_PLL_INT.INT [7:0] RO, reset Table 06-2: Current INT of the frequency word -/
abbrev SYN_PLL_INT_INT (i : Nat) : Field := ⟨SYN_PLL_INT i, 0, 8⟩

/-- Register SYN_PLL_FRAC (i = 0 to 52), offset 0x110 + 0x20 × i of its block. -/
abbrev SYN_PLL_FRAC (i : Nat) : Nat := 0x300110 + 0x20 * i
/-- SYN_PLL_FRAC.FRAC [31:0] RO, reset Table 06-2: Current FRAC, read in the same cycle as SYN_PLL_INT(i) was last read -/
abbrev SYN_PLL_FRAC_FRAC (i : Nat) : Field := ⟨SYN_PLL_FRAC i, 0, 32⟩

/-- Register SYN_PLL_CTRL (i = 0 to 52), offset 0x114 + 0x20 × i of its block. -/
abbrev SYN_PLL_CTRL (i : Nat) : Nat := 0x300114 + 0x20 * i
/-- SYN_PLL_CTRL.FLUSH [0:0] WO, reset 0: Invalidate the band cache (R223) -/
abbrev SYN_PLL_CTRL_FLUSH (i : Nat) : Field := ⟨SYN_PLL_CTRL i, 0, 1⟩
/-- SYN_PLL_CTRL.RELOCK [1:1] WO, reset 0: Logic PLLs (48–52) and pool synthesisers only: relock through the safe clock (R231); ignored for other synthesisers -/
abbrev SYN_PLL_CTRL_RELOCK (i : Nat) : Field := ⟨SYN_PLL_CTRL i, 1, 1⟩

/-- The registers of block SYN: address, index ranges, access masks and reset word. -/
def regsSYN : List RegDesc := [
  { base := 0x300000, dims := [], rw := 0x0, w1c := 0x0, rs := 0x0, wo := 0x0, reset := fun _ _ _ => 0x21F },
  { base := 0x300004, dims := [], rw := 0x0, w1c := 0x1F, rs := 0x0, wo := 0x0, reset := fun _ _ _ => 0x0 },
  { base := 0x300010, dims := [], rw := 0xF3F, w1c := 0x0, rs := 0x0, wo := 0x0, reset := fun _ _ _ => 0x0 },
  { base := 0x300014, dims := [], rw := 0x0, w1c := 0x0, rs := 0x0, wo := 0x0, reset := fun _ _ _ => 0x0 },
  { base := 0x300018, dims := [], rw := 0x0, w1c := 0x0, rs := 0x0, wo := 0x0, reset := fun _ _ _ => 0x0 },
  { base := 0x300100, dims := [(0x35, 0x20)], rw := 0xFFFF1, w1c := 0x0, rs := 0x0, wo := 0x0, reset := fun _ _ _ => 0x27100 },
  { base := 0x300104, dims := [(0x35, 0x20)], rw := 0xFFFF, w1c := 0x0, rs := 0x0, wo := 0x0, reset := fun i _ _ => ((0xACE1 + 0x0101 * i) % 65536) },
  { base := 0x300108, dims := [(0x35, 0x20)], rw := 0x0, w1c := 0x0, rs := 0xFF000000, wo := 0x0, reset := fun i _ _ => (synUserReset i) * 2 ^ 16 },
  { base := 0x30010C, dims := [(0x35, 0x20)], rw := 0x0, w1c := 0x0, rs := 0x0, wo := 0x0, reset := fun i _ _ => ((synNominal i).1) },
  { base := 0x300110, dims := [(0x35, 0x20)], rw := 0x0, w1c := 0x0, rs := 0x0, wo := 0x0, reset := fun i _ _ => ((synNominal i).2) },
  { base := 0x300114, dims := [(0x35, 0x20)], rw := 0x0, w1c := 0x0, rs := 0x0, wo := 0x3, reset := fun _ _ _ => 0x0 }]

end Sys2Proof.Machine
end

