-- ==== Sys2Proof/Machine/RegsTop.lean ====
section
/-! DEFINITION. The registers of supply, domains and modes (TOP, PWR): the address of each register, the place of each field,
its access type and its reset value, as the register tables of spec/02_supply_domains_and_modes.md give them. -/

namespace Sys2Proof.Machine

/-- Register TOP_ID, offset 0x000 of its block. -/
abbrev TOP_ID : Nat := 0x0
/-- TOP_ID.PART [31:16] RO, reset 0x1152: Part number -/
abbrev TOP_ID_PART : Field := ⟨TOP_ID, 16, 16⟩
/-- TOP_ID.STEPPING [15:8] RO, reset 0xB0: Stepping B0 -/
abbrev TOP_ID_STEPPING : Field := ⟨TOP_ID, 8, 8⟩

/-- Register TOP_MODE, offset 0x004 of its block. -/
abbrev TOP_MODE : Nat := 0x4
/-- TOP_MODE.MODE [3:0] RO, reset 0: Current mode, codes 0–11 -/
abbrev TOP_MODE_MODE : Field := ⟨TOP_MODE, 0, 4⟩
/-- TOP_MODE.PREV_MODE [7:4] RO, reset 0: Mode before the last transition -/
abbrev TOP_MODE_PREV_MODE : Field := ⟨TOP_MODE, 4, 4⟩
/-- TOP_MODE.ROLE [9:8] RO, reset 0: Fabric role: 0 none, 1 worker, 2 conductor -/
abbrev TOP_MODE_ROLE : Field := ⟨TOP_MODE, 8, 2⟩
/-- TOP_MODE.SHED [11:10] RO, reset 0: Thermal shed level 0–3 -/
abbrev TOP_MODE_SHED : Field := ⟨TOP_MODE, 10, 2⟩
/-- TOP_MODE.CAUSE [15:12] RO, reset 0: Cause of the last transition: 0 reset, 1 timeline, 2 host request, 3 twin, 4 fabric, 5 fault, 6 thermal, 7 management controller -/
abbrev TOP_MODE_CAUSE : Field := ⟨TOP_MODE, 12, 4⟩
/-- TOP_MODE.ISO_RET [19:16] RO, reset 0: Mode to which ISOLATED returns (R58) -/
abbrev TOP_MODE_ISO_RET : Field := ⟨TOP_MODE, 16, 4⟩
/-- TOP_MODE.FRZ_RET [23:20] RO, reset 0: Mode to which FROZEN returns (R58) -/
abbrev TOP_MODE_FRZ_RET : Field := ⟨TOP_MODE, 20, 4⟩

/-- Register TOP_CTRL, offset 0x008 of its block. -/
abbrev TOP_CTRL : Nat := 0x8
/-- TOP_CTRL.FREEZE [0:0] WO, reset 0: Request FROZEN -/
abbrev TOP_CTRL_FREEZE : Field := ⟨TOP_CTRL, 0, 1⟩
/-- TOP_CTRL.THAW [1:1] WO, reset 0: Leave FROZEN -/
abbrev TOP_CTRL_THAW : Field := ⟨TOP_CTRL, 1, 1⟩
/-- TOP_CTRL.DIAG [2:2] WO, reset 0: Request DIAGNOSTIC -/
abbrev TOP_CTRL_DIAG : Field := ⟨TOP_CTRL, 2, 1⟩
/-- TOP_CTRL.QUIESCE [3:3] WO, reset 0: Request QUIESCE -/
abbrev TOP_CTRL_QUIESCE : Field := ⟨TOP_CTRL, 3, 1⟩
/-- TOP_CTRL.REJOIN [4:4] WO, reset 0: Leave RELINQUISHED for STANDBY (R59) -/
abbrev TOP_CTRL_REJOIN : Field := ⟨TOP_CTRL, 4, 1⟩

/-- Register TOP_STATUS, offset 0x00C of its block. -/
abbrev TOP_STATUS : Nat := 0xC
/-- TOP_STATUS.USE [0:0] RO, reset 0: t_USE reached -/
abbrev TOP_STATUS_USE : Field := ⟨TOP_STATUS, 0, 1⟩
/-- TOP_STATUS.DEFAULT_SALVO_DONE [1:1] RO, reset 0: DEFAULT left under R53 -/
abbrev TOP_STATUS_DEFAULT_SALVO_DONE : Field := ⟨TOP_STATUS, 1, 1⟩
/-- TOP_STATUS.CELLAR_READY [2:2] RO, reset 0: Cellar trained -/
abbrev TOP_STATUS_CELLAR_READY : Field := ⟨TOP_STATUS, 2, 1⟩
/-- TOP_STATUS.MGT_READY [3:3] RO, reset 0: Management controller running a verified image -/
abbrev TOP_STATUS_MGT_READY : Field := ⟨TOP_STATUS, 3, 1⟩
/-- TOP_STATUS.QUIESCED [4:4] RO, reset 0: Quiesce complete (R64) -/
abbrev TOP_STATUS_QUIESCED : Field := ⟨TOP_STATUS, 4, 1⟩
/-- TOP_STATUS.REQ_ERR [8:8] W1C, reset 0: A TOP_CTRL request was ignored (R55) -/
abbrev TOP_STATUS_REQ_ERR : Field := ⟨TOP_STATUS, 8, 1⟩

/-- Register TOP_RESET, offset 0x010 of its block. -/
abbrev TOP_RESET : Nat := 0x10
/-- TOP_RESET.KEY [15:0] WO, reset 0: Writing 0xD1CE causes device reset with PWR_RST_CAUSE.CAUSE = 3; other values are ignored -/
abbrev TOP_RESET_KEY : Field := ⟨TOP_RESET, 0, 16⟩

/-- Register TOP_STRAP, offset 0x014 of its block. -/
abbrev TOP_STRAP : Nat := 0x14
/-- TOP_STRAP.DEV_ADDR [4:0] RO, reset Strap: Value of DEV_ADDR[4:0] sampled at t0 -/
abbrev TOP_STRAP_DEV_ADDR : Field := ⟨TOP_STRAP, 0, 5⟩
/-- TOP_STRAP.TWIN_SIDE [5:5] RO, reset Strap: Value of TWIN_SIDE sampled at t0 -/
abbrev TOP_STRAP_TWIN_SIDE : Field := ⟨TOP_STRAP, 5, 1⟩
/-- TOP_STRAP.TWIN_EN [6:6] RO, reset OTP: OTP twin enable -/
abbrev TOP_STRAP_TWIN_EN : Field := ⟨TOP_STRAP, 6, 1⟩
/-- TOP_STRAP.BOOT_MAP [7:7] RO, reset OTP: 1 when the OTP boot map is valid -/
abbrev TOP_STRAP_BOOT_MAP : Field := ⟨TOP_STRAP, 7, 1⟩

/-- Register TOP_MODE_TSF, offset 0x018 of its block. -/
abbrev TOP_MODE_TSF : Nat := 0x18
/-- TOP_MODE_TSF.FRAME [31:0] RO, reset 0: PLAN0 frame number of the last mode transition -/
abbrev TOP_MODE_TSF_FRAME : Field := ⟨TOP_MODE_TSF, 0, 32⟩

/-- Register TOP_MODE_TSL, offset 0x01C of its block. -/
abbrev TOP_MODE_TSL : Nat := 0x1C
/-- TOP_MODE_TSL.LINE [15:0] RO, reset 0: PLAN0 line of the last mode transition -/
abbrev TOP_MODE_TSL_LINE : Field := ⟨TOP_MODE_TSL, 0, 16⟩

/-- Register TOP_BOOT_T (n = 0 to 6, milestones of Table 02-2), offset 0x020 + 4n of its block. -/
abbrev TOP_BOOT_T (n : Nat) : Nat := 0x20 + 0x4 * n
/-- TOP_BOOT_T.TIME_US [31:0] RO, reset 0: Time of milestone n in µs from t0; 0 until reached -/
abbrev TOP_BOOT_T_TIME_US (n : Nat) : Field := ⟨TOP_BOOT_T n, 0, 32⟩

/-- Register PWR_STATUS, offset 0x000 of its block. -/
abbrev PWR_STATUS : Nat := 0x100000
/-- PWR_STATUS.VIN_OK [0:0] RO, reset 1: VIN above the fault threshold -/
abbrev PWR_STATUS_VIN_OK : Field := ⟨PWR_STATUS, 0, 1⟩
/-- PWR_STATUS.VIN_WARN [1:1] W1C, reset 0: R26 occurred -/
abbrev PWR_STATUS_VIN_WARN : Field := ⟨PWR_STATUS, 1, 1⟩
/-- PWR_STATUS.REG_FAULT [2:2] W1C, reset 0: R30 occurred -/
abbrev PWR_STATUS_REG_FAULT : Field := ⟨PWR_STATUS, 2, 1⟩
/-- PWR_STATUS.THERM [3:3] RO, reset 0: THERM_N asserted -/
abbrev PWR_STATUS_THERM : Field := ⟨PWR_STATUS, 3, 1⟩
/-- PWR_STATUS.ALERT [4:4] RO, reset 0: ALERT_N asserted -/
abbrev PWR_STATUS_ALERT : Field := ⟨PWR_STATUS, 4, 1⟩

/-- Register PWR_VIN_THR, offset 0x004 of its block. -/
abbrev PWR_VIN_THR : Nat := 0x100004
/-- PWR_VIN_THR.WARN_MV [15:0] RW, reset 0x2AF8: Warning threshold in mV (11,000), clamped and raised as in R28 -/
abbrev PWR_VIN_THR_WARN_MV : Field := ⟨PWR_VIN_THR, 0, 16⟩
/-- PWR_VIN_THR.FAULT_MV [31:16] RW, reset 0x2A30: Fault threshold in mV (10,800), clamped as in R28 -/
abbrev PWR_VIN_THR_FAULT_MV : Field := ⟨PWR_VIN_THR, 16, 16⟩

/-- Register PWR_RST_CAUSE (single instance, kept through device reset), offset 0x008 of its block. -/
abbrev PWR_RST_CAUSE : Nat := 0x100008
/-- PWR_RST_CAUSE.CAUSE [2:0] RO, reset 0: Last device reset: 0 power-on, 1 VIN undervoltage, 2 VIN overvoltage, 3 TOP_RESET, 4 always-on regulator fault, 5 JTAG -/
abbrev PWR_RST_CAUSE_CAUSE : Field := ⟨PWR_RST_CAUSE, 0, 3⟩

/-- Register PWR_DOM_REQ (k = 0 to 2), offset 0x010 + 4k of its block. -/
abbrev PWR_DOM_REQ (k : Nat) : Nat := 0x100010 + 0x4 * k
/-- PWR_DOM_REQ.REQ [31:0] RW, reset k = 0: 0xFFFF_FFFF; k = 1: 0x0007_FFFF; k = 2: 0x7FF8_0000; as modified by R35: Bit i requests domain 32k + i on -/
abbrev PWR_DOM_REQ_REQ (k : Nat) : Field := ⟨PWR_DOM_REQ k, 0, 32⟩

/-- Register PWR_DOM_STAT (k = 0 to 2), offset 0x020 + 4k of its block. -/
abbrev PWR_DOM_STAT (k : Nat) : Nat := 0x100020 + 0x4 * k
/-- PWR_DOM_STAT.READY [31:0] RO, reset 0: Bit i: domain 32k + i powered and ready -/
abbrev PWR_DOM_STAT_READY (k : Nat) : Field := ⟨PWR_DOM_STAT k, 0, 32⟩

/-- Register PWR_DOM_ERR, offset 0x030 of its block. -/
abbrev PWR_DOM_ERR : Nat := 0x100030
/-- PWR_DOM_ERR.DOMAIN [6:0] RO, reset 0: Domain of the last refused request -/
abbrev PWR_DOM_ERR_DOMAIN : Field := ⟨PWR_DOM_ERR, 0, 7⟩
/-- PWR_DOM_ERR.REASON [11:8] RO, reset 0: Reason 1–4 as in R40 -/
abbrev PWR_DOM_ERR_REASON : Field := ⟨PWR_DOM_ERR, 8, 4⟩
/-- PWR_DOM_ERR.VALID [31:31] W1C, reset 0: A refusal has been recorded -/
abbrev PWR_DOM_ERR_VALID : Field := ⟨PWR_DOM_ERR, 31, 1⟩

/-- Register PWR_SHED_THR, offset 0x034 of its block. -/
abbrev PWR_SHED_THR : Nat := 0x100034
/-- PWR_SHED_THR.L1 [7:0] RW, reset 97: Level 1 entry in °C -/
abbrev PWR_SHED_THR_L1 : Field := ⟨PWR_SHED_THR, 0, 8⟩
/-- PWR_SHED_THR.L2 [15:8] RW, reset 100: Level 2 entry in °C -/
abbrev PWR_SHED_THR_L2 : Field := ⟨PWR_SHED_THR, 8, 8⟩
/-- PWR_SHED_THR.L3 [23:16] RW, reset 103: Level 3 entry in °C -/
abbrev PWR_SHED_THR_L3 : Field := ⟨PWR_SHED_THR, 16, 8⟩
/-- PWR_SHED_THR.CRIT [31:24] RW, reset 110: Thermal critical in °C -/
abbrev PWR_SHED_THR_CRIT : Field := ⟨PWR_SHED_THR, 24, 8⟩

/-- Register PWR_SHED_MASK, offset 0x038 of its block. -/
abbrev PWR_SHED_MASK : Nat := 0x100038
/-- PWR_SHED_MASK.HEAD [31:0] RW, reset 0: Bit h: head h is shed at level 1 -/
abbrev PWR_SHED_MASK_HEAD : Field := ⟨PWR_SHED_MASK, 0, 32⟩

/-- Register PWR_SHED_HYST, offset 0x03C of its block. -/
abbrev PWR_SHED_HYST : Nat := 0x10003C
/-- PWR_SHED_HYST.HYST [3:0] RW, reset 3: Hysteresis in °C -/
abbrev PWR_SHED_HYST_HYST : Field := ⟨PWR_SHED_HYST, 0, 4⟩
/-- PWR_SHED_HYST.HOLD [15:8] RW, reset 1: Hold time in s before the level falls (R42) -/
abbrev PWR_SHED_HYST_HOLD : Field := ⟨PWR_SHED_HYST, 8, 8⟩

/-- The registers of block TOP: address, index ranges, access masks and reset word. -/
def regsTOP : List RegDesc := [
  { base := 0x0, dims := [], rw := 0x0, w1c := 0x0, rs := 0x0, wo := 0x0, reset := fun _ _ _ => 0x1152B000 },
  { base := 0x4, dims := [], rw := 0x0, w1c := 0x0, rs := 0x0, wo := 0x0, reset := fun _ _ _ => 0x0 },
  { base := 0x8, dims := [], rw := 0x0, w1c := 0x0, rs := 0x0, wo := 0x1F, reset := fun _ _ _ => 0x0 },
  { base := 0xC, dims := [], rw := 0x0, w1c := 0x100, rs := 0x0, wo := 0x0, reset := fun _ _ _ => 0x0 },
  { base := 0x10, dims := [], rw := 0x0, w1c := 0x0, rs := 0x0, wo := 0xFFFF, reset := fun _ _ _ => 0x0 },
  { base := 0x14, dims := [], rw := 0x0, w1c := 0x0, rs := 0x0, wo := 0x0, reset := fun _ _ _ => 0x0 },
  { base := 0x18, dims := [], rw := 0x0, w1c := 0x0, rs := 0x0, wo := 0x0, reset := fun _ _ _ => 0x0 },
  { base := 0x1C, dims := [], rw := 0x0, w1c := 0x0, rs := 0x0, wo := 0x0, reset := fun _ _ _ => 0x0 },
  { base := 0x20, dims := [(0x7, 0x4)], rw := 0x0, w1c := 0x0, rs := 0x0, wo := 0x0, reset := fun _ _ _ => 0x0 }]

/-- The registers of block PWR: address, index ranges, access masks and reset word. -/
def regsPWR : List RegDesc := [
  { base := 0x100000, dims := [], rw := 0x0, w1c := 0x6, rs := 0x0, wo := 0x0, reset := fun _ _ _ => 0x1 },
  { base := 0x100004, dims := [], rw := 0xFFFFFFFF, w1c := 0x0, rs := 0x0, wo := 0x0, reset := fun _ _ _ => 0x2A302AF8 },
  { base := 0x100008, dims := [], rw := 0x0, w1c := 0x0, rs := 0x0, wo := 0x0, reset := fun _ _ _ => 0x0 },
  { base := 0x100010, dims := [(0x3, 0x4)], rw := 0xFFFFFFFF, w1c := 0x0, rs := 0x0, wo := 0x0, reset := fun k _ _ => (if k = 0 then 0xFFFFFFFF else if k = 1 then 0x0007FFFF else 0x7FF80000) },
  { base := 0x100020, dims := [(0x3, 0x4)], rw := 0x0, w1c := 0x0, rs := 0x0, wo := 0x0, reset := fun _ _ _ => 0x0 },
  { base := 0x100030, dims := [], rw := 0x0, w1c := 0x80000000, rs := 0x0, wo := 0x0, reset := fun _ _ _ => 0x0 },
  { base := 0x100034, dims := [], rw := 0xFFFFFFFF, w1c := 0x0, rs := 0x0, wo := 0x0, reset := fun _ _ _ => 0x6E676461 },
  { base := 0x100038, dims := [], rw := 0xFFFFFFFF, w1c := 0x0, rs := 0x0, wo := 0x0, reset := fun _ _ _ => 0x0 },
  { base := 0x10003C, dims := [], rw := 0xFF0F, w1c := 0x0, rs := 0x0, wo := 0x0, reset := fun _ _ _ => 0x103 }]

end Sys2Proof.Machine
end

