-- ==== Sys2Proof/Machine/RegsTrl.lean ====
section
/-! DEFINITION. The registers of trellis lanes (TRL): the address of each register, the place of each field,
its access type and its reset value, as the register tables of spec/03_trellis_lanes.md give them. -/

namespace Sys2Proof.Machine

/-- Register TRL_CFG (instance n), offset 0x000 of its block. -/
abbrev TRL_CFG (n : Nat) : Nat := 0x800000 + 0x4000 * n
/-- TRL_CFG.MODE [1:0] RW, reset OTP: 0 container, 1 packet, 2 trunk; instance 36 reads 3 (mirror) and ignores writes (R99) -/
abbrev TRL_CFG_MODE (n : Nat) : Field := ⟨TRL_CFG n, 0, 2⟩
/-- TRL_CFG.TX_IDLE [2:2] RW, reset 0: 1 forces the transmitter inactive (R93) -/
abbrev TRL_CFG_TX_IDLE (n : Nat) : Field := ⟨TRL_CFG n, 2, 1⟩
/-- TRL_CFG.PRESET_TX [5:4] RW, reset OTP: Transmit preset, Table 03-2 -/
abbrev TRL_CFG_PRESET_TX (n : Nat) : Field := ⟨TRL_CFG n, 4, 2⟩
/-- TRL_CFG.PRESET_RX [7:6] RW, reset OTP: Receive preset, Table 03-2 -/
abbrev TRL_CFG_PRESET_RX (n : Nat) : Field := ⟨TRL_CFG n, 6, 2⟩
/-- TRL_CFG.ADAPT_FREEZE [8:8] RW, reset 0: 1 holds fine adaptation (R71) -/
abbrev TRL_CFG_ADAPT_FREEZE (n : Nat) : Field := ⟨TRL_CFG n, 8, 1⟩
/-- TRL_CFG.LOOPBACK [9:9] RW, reset 0: Near-end loopback, DIAGNOSTIC only (R108) -/
abbrev TRL_CFG_LOOPBACK (n : Nat) : Field := ⟨TRL_CFG n, 9, 1⟩
/-- TRL_CFG.RX_POL [23:16] RW, reset OTP: Bit l inverts received lane l (R72) -/
abbrev TRL_CFG_RX_POL (n : Nat) : Field := ⟨TRL_CFG n, 16, 8⟩

/-- Register TRL_STATUS (instance n), offset 0x004 of its block. -/
abbrev TRL_STATUS (n : Nat) : Nat := 0x800004 + 0x4000 * n
/-- TRL_STATUS.RX_STATE [2:0] RO, reset 0: Receive state, Table 03-5 -/
abbrev TRL_STATUS_RX_STATE (n : Nat) : Field := ⟨TRL_STATUS n, 0, 3⟩
/-- TRL_STATUS.FCLK_PRESENT [3:3] RO, reset 0: Forwarded clock present and within frequency -/
abbrev TRL_STATUS_FCLK_PRESENT (n : Nat) : Field := ⟨TRL_STATUS n, 3, 1⟩
/-- TRL_STATUS.TX_ACTIVE [4:4] RO, reset 0: Transmitter active (R93) -/
abbrev TRL_STATUS_TX_ACTIVE (n : Nat) : Field := ⟨TRL_STATUS n, 4, 1⟩
/-- TRL_STATUS.LANE_ALIGNED [15:8] RO, reset 0: Bit l: lane l aligned -/
abbrev TRL_STATUS_LANE_ALIGNED (n : Nat) : Field := ⟨TRL_STATUS n, 8, 8⟩
/-- TRL_STATUS.LOSS [16:16] W1C, reset 0: Loss declared (R97) -/
abbrev TRL_STATUS_LOSS (n : Nat) : Field := ⟨TRL_STATUS n, 16, 1⟩
/-- TRL_STATUS.CODE_ERR [17:17] W1C, reset 0: Code violation received (R83) -/
abbrev TRL_STATUS_CODE_ERR (n : Nat) : Field := ⟨TRL_STATUS n, 17, 1⟩
/-- TRL_STATUS.LANE_ID_ERR [18:18] W1C, reset 0: Duplicate or missing lane number (R86) -/
abbrev TRL_STATUS_LANE_ID_ERR (n : Nat) : Field := ⟨TRL_STATUS n, 18, 1⟩
/-- TRL_STATUS.DESKEW_ERR [19:19] W1C, reset 0: Skew beyond limit (R87) -/
abbrev TRL_STATUS_DESKEW_ERR (n : Nat) : Field := ⟨TRL_STATUS n, 19, 1⟩
/-- TRL_STATUS.FREQ_ERR [20:20] W1C, reset 0: Forwarded clock out of frequency (R96) -/
abbrev TRL_STATUS_FREQ_ERR (n : Nat) : Field := ⟨TRL_STATUS n, 20, 1⟩
/-- TRL_STATUS.MODE_REFUSED [21:21] W1C, reset 0: Mode write refused (R99) -/
abbrev TRL_STATUS_MODE_REFUSED (n : Nat) : Field := ⟨TRL_STATUS n, 21, 1⟩
/-- TRL_STATUS.LANE_OFF_RX [22:22] W1C, reset 0: Loss declared on LANE_OFF -/
abbrev TRL_STATUS_LANE_OFF_RX (n : Nat) : Field := ⟨TRL_STATUS n, 22, 1⟩

/-- Register TRL_LOSS_CNT (instance n), offset 0x008 of its block. -/
abbrev TRL_LOSS_CNT (n : Nat) : Nat := 0x800008 + 0x4000 * n
/-- TRL_LOSS_CNT.LOSSES [15:0] RS, reset 0: Losses declared, saturating at 0xFFFF; cleared by the read -/
abbrev TRL_LOSS_CNT_LOSSES (n : Nat) : Field := ⟨TRL_LOSS_CNT n, 0, 16⟩
/-- TRL_LOSS_CNT.RETRIES [31:16] RS, reset 0: Bring-up retries (R90), saturating; cleared by the read -/
abbrev TRL_LOSS_CNT_RETRIES (n : Nat) : Field := ⟨TRL_LOSS_CNT n, 16, 16⟩

/-- Register TRL_UP_TS (instance n), offset 0x00C of its block. -/
abbrev TRL_UP_TS (n : Nat) : Nat := 0x80000C + 0x4000 * n
/-- TRL_UP_TS.FRAME [31:0] RO, reset 0: PLAN0 frame number of the last entry to UP -/
abbrev TRL_UP_TS_FRAME (n : Nat) : Field := ⟨TRL_UP_TS n, 0, 32⟩

/-- Register TRL_LANE_CFG (instance n), offset 0x100 + 0x40 × l of its block. -/
abbrev TRL_LANE_CFG (n : Nat) (l : Nat) : Nat := 0x800100 + 0x4000 * n + 0x40 * l
/-- TRL_LANE_CFG.PAT_SEL [2:0] RW, reset 0: Pattern, Table 03-6 -/
abbrev TRL_LANE_CFG_PAT_SEL (n : Nat) (l : Nat) : Field := ⟨TRL_LANE_CFG n l, 0, 3⟩
/-- TRL_LANE_CFG.PAT_EN [3:3] RW, reset 0: Generator drives the lane (R104, R105) -/
abbrev TRL_LANE_CFG_PAT_EN (n : Nat) (l : Nat) : Field := ⟨TRL_LANE_CFG n l, 3, 1⟩
/-- TRL_LANE_CFG.CHK_EN [4:4] RW, reset 0: Checker counts (R106) -/
abbrev TRL_LANE_CFG_CHK_EN (n : Nat) (l : Nat) : Field := ⟨TRL_LANE_CFG n l, 4, 1⟩
/-- TRL_LANE_CFG.PRECODE_BYP [5:5] RW, reset 0: Bypass precoding in both directions of this lane, DIAGNOSTIC only -/
abbrev TRL_LANE_CFG_PRECODE_BYP (n : Nat) (l : Nat) : Field := ⟨TRL_LANE_CFG n l, 5, 1⟩
/-- TRL_LANE_CFG.INJ_MODE [7:6] RW, reset 0: Injector mode (R107) -/
abbrev TRL_LANE_CFG_INJ_MODE (n : Nat) (l : Nat) : Field := ⟨TRL_LANE_CFG n l, 6, 2⟩
/-- TRL_LANE_CFG.INJ_RATE [13:8] RW, reset 20: Periodic injection every 2^INJ_RATE bits -/
abbrev TRL_LANE_CFG_INJ_RATE (n : Nat) (l : Nat) : Field := ⟨TRL_LANE_CFG n l, 8, 6⟩

/-- Register TRL_LANE_STAT (instance n), offset 0x104 + 0x40 × l of its block. -/
abbrev TRL_LANE_STAT (n : Nat) (l : Nat) : Nat := 0x800104 + 0x4000 * n + 0x40 * l
/-- TRL_LANE_STAT.LANE_ID [2:0] RO, reset 0: Lane number received in LANE_MARK -/
abbrev TRL_LANE_STAT_LANE_ID (n : Nat) (l : Nat) : Field := ⟨TRL_LANE_STAT n l, 0, 3⟩
/-- TRL_LANE_STAT.ALIGNED [3:3] RO, reset 0: Lane aligned -/
abbrev TRL_LANE_STAT_ALIGNED (n : Nat) (l : Nat) : Field := ⟨TRL_LANE_STAT n l, 3, 1⟩
/-- TRL_LANE_STAT.CHK_LOCK [4:4] RO, reset 0: Checker locked -/
abbrev TRL_LANE_STAT_CHK_LOCK (n : Nat) (l : Nat) : Field := ⟨TRL_LANE_STAT n l, 4, 1⟩
/-- TRL_LANE_STAT.SKEW [16:8] RO, reset 0: Lane delay behind the earliest lane, in groups, 0–256 -/
abbrev TRL_LANE_STAT_SKEW (n : Nat) (l : Nat) : Field := ⟨TRL_LANE_STAT n l, 8, 9⟩
/-- TRL_LANE_STAT.PHASE [22:17] RO, reset 0: Interpolator step, 0–63 -/
abbrev TRL_LANE_STAT_PHASE (n : Nat) (l : Nat) : Field := ⟨TRL_LANE_STAT n l, 17, 6⟩

/-- Register TRL_LANE_CVIOL (instance n), offset 0x108 + 0x40 × l of its block. -/
abbrev TRL_LANE_CVIOL (n : Nat) (l : Nat) : Nat := 0x800108 + 0x4000 * n + 0x40 * l
/-- TRL_LANE_CVIOL.COUNT [31:0] RS, reset 0: Code violations, saturating; cleared by the read -/
abbrev TRL_LANE_CVIOL_COUNT (n : Nat) (l : Nat) : Field := ⟨TRL_LANE_CVIOL n l, 0, 32⟩

/-- Register TRL_LANE_ERR_LO (instance n), offset 0x10C + 0x40 × l of its block. -/
abbrev TRL_LANE_ERR_LO (n : Nat) (l : Nat) : Nat := 0x80010C + 0x4000 * n + 0x40 * l
/-- TRL_LANE_ERR_LO.ERR [31:0] RS, reset 0: Low bits of the bit-error counter (R109) -/
abbrev TRL_LANE_ERR_LO_ERR (n : Nat) (l : Nat) : Field := ⟨TRL_LANE_ERR_LO n l, 0, 32⟩

/-- Register TRL_LANE_ERR_HI (instance n), offset 0x110 + 0x40 × l of its block. -/
abbrev TRL_LANE_ERR_HI (n : Nat) (l : Nat) : Nat := 0x800110 + 0x4000 * n + 0x40 * l
/-- TRL_LANE_ERR_HI.ERR [15:0] RO, reset 0: High bits latched by the last read of ERR_LO -/
abbrev TRL_LANE_ERR_HI_ERR (n : Nat) (l : Nat) : Field := ⟨TRL_LANE_ERR_HI n l, 0, 16⟩

/-- Register TRL_LANE_BITS_LO (instance n), offset 0x114 + 0x40 × l of its block. -/
abbrev TRL_LANE_BITS_LO (n : Nat) (l : Nat) : Nat := 0x800114 + 0x4000 * n + 0x40 * l
/-- TRL_LANE_BITS_LO.BITS [31:0] RS, reset 0: Low bits of the bits-checked counter (R109) -/
abbrev TRL_LANE_BITS_LO_BITS (n : Nat) (l : Nat) : Field := ⟨TRL_LANE_BITS_LO n l, 0, 32⟩

/-- Register TRL_LANE_BITS_HI (instance n), offset 0x118 + 0x40 × l of its block. -/
abbrev TRL_LANE_BITS_HI (n : Nat) (l : Nat) : Nat := 0x800118 + 0x4000 * n + 0x40 * l
/-- TRL_LANE_BITS_HI.BITS [15:0] RO, reset 0: High bits latched by the last read of BITS_LO -/
abbrev TRL_LANE_BITS_HI_BITS (n : Nat) (l : Nat) : Field := ⟨TRL_LANE_BITS_HI n l, 0, 16⟩

/-- Register TRL_LANE_MARGIN (instance n), offset 0x11C + 0x40 × l of its block. -/
abbrev TRL_LANE_MARGIN (n : Nat) (l : Nat) : Nat := 0x80011C + 0x4000 * n + 0x40 * l
/-- TRL_LANE_MARGIN.MARGIN [7:0] RO, reset 0: Current smallest of the three PAM4 eye openings, 255 = nominal full eye; 0 when not aligned -/
abbrev TRL_LANE_MARGIN_MARGIN (n : Nat) (l : Nat) : Field := ⟨TRL_LANE_MARGIN n l, 0, 8⟩
/-- TRL_LANE_MARGIN.MIN [15:8] RS, reset 0xFF: Lowest MARGIN since the last read; set to 0xFF by the read -/
abbrev TRL_LANE_MARGIN_MIN (n : Nat) (l : Nat) : Field := ⟨TRL_LANE_MARGIN n l, 8, 8⟩

/-- Register TRL_LANE_INJ (instance n), offset 0x120 + 0x40 × l of its block. -/
abbrev TRL_LANE_INJ (n : Nat) (l : Nat) : Nat := 0x800120 + 0x4000 * n + 0x40 * l
/-- TRL_LANE_INJ.INJECT [0:0] WO, reset 0: Inject one error under INJ_MODE 1 or 3 -/
abbrev TRL_LANE_INJ_INJECT (n : Nat) (l : Nat) : Field := ⟨TRL_LANE_INJ n l, 0, 1⟩

/-- The registers of block TRL: address, index ranges, access masks and reset word. -/
def regsTRL : List RegDesc := [
  { base := 0x800000, dims := [(0x25, 0x4000)], rw := 0xFF03F7, w1c := 0x0, rs := 0x0, wo := 0x0, reset := fun n _ _ => (if n = 36 then 3 else 0) + (2) * 2 ^ 4 + (2) * 2 ^ 6 },
  { base := 0x800004, dims := [(0x25, 0x4000)], rw := 0x0, w1c := 0x7F0000, rs := 0x0, wo := 0x0, reset := fun _ _ _ => 0x0 },
  { base := 0x800008, dims := [(0x25, 0x4000)], rw := 0x0, w1c := 0x0, rs := 0xFFFFFFFF, wo := 0x0, reset := fun _ _ _ => 0x0 },
  { base := 0x80000C, dims := [(0x25, 0x4000)], rw := 0x0, w1c := 0x0, rs := 0x0, wo := 0x0, reset := fun _ _ _ => 0x0 },
  { base := 0x800100, dims := [(0x25, 0x4000), (0x8, 0x40)], rw := 0x3FFF, w1c := 0x0, rs := 0x0, wo := 0x0, reset := fun _ _ _ => 0x1400 },
  { base := 0x800104, dims := [(0x25, 0x4000), (0x8, 0x40)], rw := 0x0, w1c := 0x0, rs := 0x0, wo := 0x0, reset := fun _ _ _ => 0x0 },
  { base := 0x800108, dims := [(0x25, 0x4000), (0x8, 0x40)], rw := 0x0, w1c := 0x0, rs := 0xFFFFFFFF, wo := 0x0, reset := fun _ _ _ => 0x0 },
  { base := 0x80010C, dims := [(0x25, 0x4000), (0x8, 0x40)], rw := 0x0, w1c := 0x0, rs := 0xFFFFFFFF, wo := 0x0, reset := fun _ _ _ => 0x0 },
  { base := 0x800110, dims := [(0x25, 0x4000), (0x8, 0x40)], rw := 0x0, w1c := 0x0, rs := 0x0, wo := 0x0, reset := fun _ _ _ => 0x0 },
  { base := 0x800114, dims := [(0x25, 0x4000), (0x8, 0x40)], rw := 0x0, w1c := 0x0, rs := 0xFFFFFFFF, wo := 0x0, reset := fun _ _ _ => 0x0 },
  { base := 0x800118, dims := [(0x25, 0x4000), (0x8, 0x40)], rw := 0x0, w1c := 0x0, rs := 0x0, wo := 0x0, reset := fun _ _ _ => 0x0 },
  { base := 0x80011C, dims := [(0x25, 0x4000), (0x8, 0x40)], rw := 0x0, w1c := 0x0, rs := 0xFF00, wo := 0x0, reset := fun _ _ _ => 0xFF00 },
  { base := 0x800120, dims := [(0x25, 0x4000), (0x8, 0x40)], rw := 0x0, w1c := 0x0, rs := 0x0, wo := 0x1, reset := fun _ _ _ => 0x0 }]

end Sys2Proof.Machine
end

