-- ==== Sys2Proof/Machine/RegsTwn.lean ====
section
/-! DEFINITION. The registers of twin and fabric (TWN, FAB): the address of each register, the place of each field,
its access type and its reset value, as the register tables of spec/14_twin_failover_and_fabric.md give them. -/

namespace Sys2Proof.Machine

/-- Register TWN_CFG, offset 0x000 of its block. -/
abbrev TWN_CFG : Nat := 0x3800000
/-- TWN_CFG.LEAD [3:0] RW, reset 2: Stamp lead in PLAN0 lines (R533); 0 is stored as 1 -/
abbrev TWN_CFG_LEAD : Field := ⟨TWN_CFG, 0, 4⟩
/-- TWN_CFG.TOKEN [7:4] RW, reset 2: Token duration in PLAN0 frames (R529), clamped to 2–8 -/
abbrev TWN_CFG_TOKEN : Field := ⟨TWN_CFG, 4, 4⟩
/-- TWN_CFG.FENCE_WAIT [15:8] RW, reset 2: µs from fence to TAKEOVER (R545); 0 is stored as 1 -/
abbrev TWN_CFG_FENCE_WAIT : Field := ⟨TWN_CFG, 8, 8⟩
/-- TWN_CFG.JOIN_EN [16:16] RW, reset 1: SOLO accepts a joiner (R550) -/
abbrev TWN_CFG_JOIN_EN : Field := ⟨TWN_CFG, 16, 1⟩

/-- Register TWN_STATUS, offset 0x004 of its block. -/
abbrev TWN_STATUS : Nat := 0x3800004
/-- TWN_STATUS.LINK [0:0] RO, reset 0: Mirror link up (R531) -/
abbrev TWN_STATUS_LINK : Field := ⟨TWN_STATUS, 0, 1⟩
/-- TWN_STATUS.PEER_ABLE [1:1] RO, reset 0: Twin able to take over -/
abbrev TWN_STATUS_PEER_ABLE : Field := ⟨TWN_STATUS, 1, 1⟩
/-- TWN_STATUS.FENCED [2:2] RO, reset 0: TWIN_FENCE_IN high -/
abbrev TWN_STATUS_FENCED : Field := ⟨TWN_STATUS, 2, 1⟩
/-- TWN_STATUS.FENCING [3:3] RO, reset 0: TWIN_FENCE_OUT high -/
abbrev TWN_STATUS_FENCING : Field := ⟨TWN_STATUS, 3, 1⟩
/-- TWN_STATUS.SYNC [4:4] RO, reset 0: Catch-up installed (R549) -/
abbrev TWN_STATUS_SYNC : Field := ⟨TWN_STATUS, 4, 1⟩
/-- TWN_STATUS.DIVERGED [5:5] RO, reset 0: R539, R546 -/
abbrev TWN_STATUS_DIVERGED : Field := ⟨TWN_STATUS, 5, 1⟩
/-- TWN_STATUS.TOKEN [6:6] RO, reset 0: Control token held -/
abbrev TWN_STATUS_TOKEN : Field := ⟨TWN_STATUS, 6, 1⟩
/-- TWN_STATUS.CLAIM_IN [7:7] RO, reset 0: Level of TWIN_CLAIM_IN -/
abbrev TWN_STATUS_CLAIM_IN : Field := ⟨TWN_STATUS, 7, 1⟩
/-- TWN_STATUS.PEER_MODE [11:8] RO, reset 0: Mode in the last STATE received -/
abbrev TWN_STATUS_PEER_MODE : Field := ⟨TWN_STATUS, 8, 4⟩
/-- TWN_STATUS.UNSYNCED [31:16] RO, reset 0: Bit r: racker r unsynced (R540) -/
abbrev TWN_STATUS_UNSYNCED : Field := ⟨TWN_STATUS, 16, 16⟩

/-- Register TWN_EVENT, offset 0x008 of its block. -/
abbrev TWN_EVENT : Nat := 0x3800008
/-- TWN_EVENT.RELINQ_SEEN [0:0] W1C, reset 0: R544 -/
abbrev TWN_EVENT_RELINQ_SEEN : Field := ⟨TWN_EVENT, 0, 1⟩
/-- TWN_EVENT.TAKEOVER [1:1] W1C, reset 0: TAKEOVER entered -/
abbrev TWN_EVENT_TAKEOVER : Field := ⟨TWN_EVENT, 1, 1⟩
/-- TWN_EVENT.FENCE_OUT [2:2] W1C, reset 0: TWIN_FENCE_OUT asserted (R545) -/
abbrev TWN_EVENT_FENCE_OUT : Field := ⟨TWN_EVENT, 2, 1⟩
/-- TWN_EVENT.FENCE_IN [3:3] W1C, reset 0: This device fenced (R546) -/
abbrev TWN_EVENT_FENCE_IN : Field := ⟨TWN_EVENT, 3, 1⟩
/-- TWN_EVENT.LINK_LOSS [4:4] W1C, reset 0: R531 -/
abbrev TWN_EVENT_LINK_LOSS : Field := ⟨TWN_EVENT, 4, 1⟩
/-- TWN_EVENT.DIVERGE [5:5] W1C, reset 0: R539 -/
abbrev TWN_EVENT_DIVERGE : Field := ⟨TWN_EVENT, 5, 1⟩
/-- TWN_EVENT.CATCHUP_DONE [6:6] W1C, reset 0: R549 -/
abbrev TWN_EVENT_CATCHUP_DONE : Field := ⟨TWN_EVENT, 6, 1⟩
/-- TWN_EVENT.SB_WRITE [7:7] W1C, reset 0: R536 -/
abbrev TWN_EVENT_SB_WRITE : Field := ⟨TWN_EVENT, 7, 1⟩
/-- TWN_EVENT.PLAN_ADOPT [8:8] W1C, reset 0: R540 -/
abbrev TWN_EVENT_PLAN_ADOPT : Field := ⟨TWN_EVENT, 8, 1⟩
/-- TWN_EVENT.TAKEOVER_UNSYNC [9:9] W1C, reset 0: R551 -/
abbrev TWN_EVENT_TAKEOVER_UNSYNC : Field := ⟨TWN_EVENT, 9, 1⟩

/-- Register TWN_CTRL, offset 0x00C of its block. -/
abbrev TWN_CTRL : Nat := 0x380000C
/-- TWN_CTRL.UNFENCE [0:0] WO, reset 0: Release TWIN_FENCE_OUT (R547) -/
abbrev TWN_CTRL_UNFENCE : Field := ⟨TWN_CTRL, 0, 1⟩
/-- TWN_CTRL.GO_SOLO [1:1] WO, reset 0: ACTIVE to SOLO (R550) -/
abbrev TWN_CTRL_GO_SOLO : Field := ⟨TWN_CTRL, 1, 1⟩
/-- TWN_CTRL.CATCHUP [2:2] WO, reset 0: Request a catch-up -/
abbrev TWN_CTRL_CATCHUP : Field := ⟨TWN_CTRL, 2, 1⟩

/-- Register TWN_JSEQ, offset 0x010 of its block. -/
abbrev TWN_JSEQ : Nat := 0x3800010
/-- TWN_JSEQ.SEQ [31:0] RO, reset 0: Last SEQ journaled (claim holder) or applied (standby) -/
abbrev TWN_JSEQ_SEQ : Field := ⟨TWN_JSEQ, 0, 32⟩

/-- Register TWN_ERR, offset 0x014 of its block. -/
abbrev TWN_ERR : Nat := 0x3800014
/-- TWN_ERR.CRC [15:0] RS, reset 0: Mirror records failing CRC (R530), saturating; cleared by the read -/
abbrev TWN_ERR_CRC : Field := ⟨TWN_ERR, 0, 16⟩
/-- TWN_ERR.RESENT [31:16] RS, reset 0: Journal entries sent again (R539), saturating; cleared by the read -/
abbrev TWN_ERR_RESENT : Field := ⟨TWN_ERR, 16, 16⟩

/-- Register TWN_PEER_LDG, offset 0x018 of its block. -/
abbrev TWN_PEER_LDG : Nat := 0x3800018
/-- TWN_PEER_LDG.EPOCH [31:0] RO, reset 0: Twin's LDG_EPOCH from its last CKPT record -/
abbrev TWN_PEER_LDG_EPOCH : Field := ⟨TWN_PEER_LDG, 0, 32⟩

/-- Register TWN_PEER_CLOSE, offset 0x01C of its block. -/
abbrev TWN_PEER_CLOSE : Nat := 0x380001C
/-- TWN_PEER_CLOSE.FRAME [29:0] RO, reset 0: Bits [29:0] of the twin's LDG_CLOSE_F -/
abbrev TWN_PEER_CLOSE_FRAME : Field := ⟨TWN_PEER_CLOSE, 0, 30⟩
/-- TWN_PEER_CLOSE.VOID [30:30] RO, reset 0: Twin's LDG_STATUS.VOID -/
abbrev TWN_PEER_CLOSE_VOID : Field := ⟨TWN_PEER_CLOSE, 30, 1⟩
/-- TWN_PEER_CLOSE.IMBALANCE [31:31] RO, reset 0: Twin reported an imbalance in those books -/
abbrev TWN_PEER_CLOSE_IMBALANCE : Field := ⟨TWN_PEER_CLOSE, 31, 1⟩

/-- Register FAB_CFG, offset 0x000 of its block. -/
abbrev FAB_CFG : Nat := 0x3900000
/-- FAB_CFG.EN [0:0] RW, reset 0: Fabric member when a trunk exists -/
abbrev FAB_CFG_EN : Field := ⟨FAB_CFG, 0, 1⟩
/-- FAB_CFG.HB_LINES [15:8] RW, reset 16: Heartbeat and route deadline in PLAN0 lines (R561, R562); 0 is stored as 1 -/
abbrev FAB_CFG_HB_LINES : Field := ⟨FAB_CFG, 8, 8⟩

/-- Register FAB_STATUS, offset 0x004 of its block. -/
abbrev FAB_STATUS : Nat := 0x3900004
/-- FAB_STATUS.ADDR [5:0] RO, reset Strap: Own address (R560) -/
abbrev FAB_STATUS_ADDR : Field := ⟨FAB_STATUS, 0, 6⟩
/-- FAB_STATUS.CONDUCTOR [11:6] RO, reset 0x3F: Conductor's address; 0x3F none -/
abbrev FAB_STATUS_CONDUCTOR : Field := ⟨FAB_STATUS, 6, 6⟩
/-- FAB_STATUS.ADDR_CONFLICT [12:12] RO, reset 0: R560 -/
abbrev FAB_STATUS_ADDR_CONFLICT : Field := ⟨FAB_STATUS, 12, 1⟩
/-- FAB_STATUS.P0_SKEW [13:13] RO, reset 0: R564 -/
abbrev FAB_STATUS_P0_SKEW : Field := ⟨FAB_STATUS, 13, 1⟩
/-- FAB_STATUS.TERM [31:16] RO, reset 0: Term followed -/
abbrev FAB_STATUS_TERM : Field := ⟨FAB_STATUS, 16, 16⟩

/-- Register FAB_EVENT, offset 0x008 of its block. -/
abbrev FAB_EVENT : Nat := 0x3900008
/-- FAB_EVENT.ELECTION [0:0] W1C, reset 0: R562 -/
abbrev FAB_EVENT_ELECTION : Field := ⟨FAB_EVENT, 0, 1⟩
/-- FAB_EVENT.ROUTE_CHANGE [1:1] W1C, reset 0: Routing table changed -/
abbrev FAB_EVENT_ROUTE_CHANGE : Field := ⟨FAB_EVENT, 1, 1⟩
/-- FAB_EVENT.EXCLUDED [2:2] W1C, reset 0: A member was excluded (R565) -/
abbrev FAB_EVENT_EXCLUDED : Field := ⟨FAB_EVENT, 2, 1⟩
/-- FAB_EVENT.MAIL_STALL [3:3] W1C, reset 0: R559 -/
abbrev FAB_EVENT_MAIL_STALL : Field := ⟨FAB_EVENT, 3, 1⟩
/-- FAB_EVENT.RENUMBER [4:4] W1C, reset 0: R564 -/
abbrev FAB_EVENT_RENUMBER : Field := ⟨FAB_EVENT, 4, 1⟩
/-- FAB_EVENT.FEED_FAIL [5:5] W1C, reset 0: A SELECT was refused (R568) -/
abbrev FAB_EVENT_FEED_FAIL : Field := ⟨FAB_EVENT, 5, 1⟩

/-- Register FAB_CNT (k = 0 to 2), offset 0x010 + 4k of its block. -/
abbrev FAB_CNT (k : Nat) : Nat := 0x3900010 + 0x4 * k
/-- FAB_CNT.COUNT [31:0] RS, reset 0: k = 0 messages received; 1 CRC failures; 2 messages dropped. Saturating; cleared by the read -/
abbrev FAB_CNT_COUNT (k : Nat) : Field := ⟨FAB_CNT k, 0, 32⟩

/-- Register FAB_ROUTE (a = 0 to 31), offset 0x100 + 4a of its block. -/
abbrev FAB_ROUTE (a : Nat) : Nat := 0x3900100 + 0x4 * a
/-- FAB_ROUTE.TRELLIS [5:0] RO, reset 0: Local trunk of the next hop -/
abbrev FAB_ROUTE_TRELLIS (a : Nat) : Field := ⟨FAB_ROUTE a, 0, 6⟩
/-- FAB_ROUTE.HOPS [7:6] RO, reset 0: 1–3 -/
abbrev FAB_ROUTE_HOPS (a : Nat) : Field := ⟨FAB_ROUTE a, 6, 2⟩
/-- FAB_ROUTE.NEXT [13:8] RO, reset 0: Next-hop address -/
abbrev FAB_ROUTE_NEXT (a : Nat) : Field := ⟨FAB_ROUTE a, 8, 6⟩
/-- FAB_ROUTE.MODE [17:14] RO, reset 0: Mode reported by address a -/
abbrev FAB_ROUTE_MODE (a : Nat) : Field := ⟨FAB_ROUTE a, 14, 4⟩
/-- FAB_ROUTE.VALID [31:31] RO, reset 0: Address a reachable -/
abbrev FAB_ROUTE_VALID (a : Nat) : Field := ⟨FAB_ROUTE a, 31, 1⟩

/-- Register FAB_RSV_CFG (k = 0 to 95), offset 0x200 + 4k of its block. -/
abbrev FAB_RSV_CFG (k : Nat) : Nat := 0x3900200 + 0x4 * k
/-- FAB_RSV_CFG.SRC_DEV [5:0] RW, reset 0: Source device, or either device of a source pair -/
abbrev FAB_RSV_CFG_SRC_DEV (k : Nat) : Field := ⟨FAB_RSV_CFG k, 0, 6⟩
/-- FAB_RSV_CFG.SLOTS [10:6] RW, reset 1: Slots reserved, clamped to 1–30 -/
abbrev FAB_RSV_CFG_SLOTS (k : Nat) : Field := ⟨FAB_RSV_CFG k, 6, 5⟩

/-- Register FAB_RSV_MAP (k = 0 to 95), offset 0x400 + 4k of its block. -/
abbrev FAB_RSV_MAP (k : Nat) : Nat := 0x3900400 + 0x4 * k
/-- FAB_RSV_MAP.TRELLIS [5:0] RO, reset 0: Receiving trunk of this device -/
abbrev FAB_RSV_MAP_TRELLIS (k : Nat) : Field := ⟨FAB_RSV_MAP k, 0, 6⟩
/-- FAB_RSV_MAP.SLOT0 [10:6] RO, reset 0: First slot of the run -/
abbrev FAB_RSV_MAP_SLOT0 (k : Nat) : Field := ⟨FAB_RSV_MAP k, 6, 5⟩
/-- FAB_RSV_MAP.SLOTS [15:11] RO, reset 0: Slots in the run -/
abbrev FAB_RSV_MAP_SLOTS (k : Nat) : Field := ⟨FAB_RSV_MAP k, 11, 5⟩
/-- FAB_RSV_MAP.HOPS [17:16] RO, reset 0: Path length -/
abbrev FAB_RSV_MAP_HOPS (k : Nat) : Field := ⟨FAB_RSV_MAP k, 16, 2⟩
/-- FAB_RSV_MAP.VALID [31:31] RO, reset 0: Run allocated to this device (R567) -/
abbrev FAB_RSV_MAP_VALID (k : Nat) : Field := ⟨FAB_RSV_MAP k, 31, 1⟩

/-- Register FAB_RMAP (r = 0 to 3,423), offset 0x1_0000 + 8r of its block. -/
abbrev FAB_RMAP (r : Nat) : Nat := 0x3910000 + 0x8 * r
/-- FAB_RMAP.SRC [12:0] RW, reset 0: Source id on the source device -/
abbrev FAB_RMAP_SRC (r : Nat) : Field := ⟨FAB_RMAP r, 0, 13⟩
/-- FAB_RMAP.RSV [19:13] RW, reset 0: Reservation k, 0–95 -/
abbrev FAB_RMAP_RSV (r : Nat) : Field := ⟨FAB_RMAP r, 13, 7⟩
/-- FAB_RMAP.CH [26:20] RW, reset 0: Quarter-slot within the run -/
abbrev FAB_RMAP_CH (r : Nat) : Field := ⟨FAB_RMAP r, 20, 7⟩
/-- FAB_RMAP.VALID [31:31] RW, reset 0: Binding in use (R568) -/
abbrev FAB_RMAP_VALID (r : Nat) : Field := ⟨FAB_RMAP r, 31, 1⟩

/-- Register FAB_RMAP_ST (r = 0 to 3,423), offset 0x1_0004 + 8r of its block. -/
abbrev FAB_RMAP_ST (r : Nat) : Nat := 0x3910004 + 0x8 * r
/-- FAB_RMAP_ST.STATE [1:0] RO, reset 0: 0 unmapped, 1 requested, 2 FED, 3 refused -/
abbrev FAB_RMAP_ST_STATE (r : Nat) : Field := ⟨FAB_RMAP_ST r, 0, 2⟩
/-- FAB_RMAP_ST.WIDTH [3:2] RO, reset 0: As XPT_MAP_RD.WIDTH -/
abbrev FAB_RMAP_ST_WIDTH (r : Nat) : Field := ⟨FAB_RMAP_ST r, 2, 2⟩

/-- Register FAB_AMAP (m = 0 to 767), offset 0x2_0000 + 4m of its block. -/
abbrev FAB_AMAP (m : Nat) : Nat := 0x3920000 + 0x4 * m
/-- FAB_AMAP.SRC_DEV [5:0] RW, reset 0: Sending device -/
abbrev FAB_AMAP_SRC_DEV (m : Nat) : Field := ⟨FAB_AMAP m, 0, 6⟩
/-- FAB_AMAP.GROUP [17:6] RW, reset 0: Source channel group on that device, 0–3,076 -/
abbrev FAB_AMAP_GROUP (m : Nat) : Field := ⟨FAB_AMAP m, 6, 12⟩
/-- FAB_AMAP.VALID [31:31] RW, reset 0: Group carried (R570) -/
abbrev FAB_AMAP_VALID (m : Nat) : Field := ⟨FAB_AMAP m, 31, 1⟩

/-- The registers of block TWN: address, index ranges, access masks and reset word. -/
def regsTWN : List RegDesc := [
  { base := 0x3800000, dims := [], rw := 0x1FFFF, w1c := 0x0, rs := 0x0, wo := 0x0, reset := fun _ _ _ => 0x10222 },
  { base := 0x3800004, dims := [], rw := 0x0, w1c := 0x0, rs := 0x0, wo := 0x0, reset := fun _ _ _ => 0x0 },
  { base := 0x3800008, dims := [], rw := 0x0, w1c := 0x3FF, rs := 0x0, wo := 0x0, reset := fun _ _ _ => 0x0 },
  { base := 0x380000C, dims := [], rw := 0x0, w1c := 0x0, rs := 0x0, wo := 0x7, reset := fun _ _ _ => 0x0 },
  { base := 0x3800010, dims := [], rw := 0x0, w1c := 0x0, rs := 0x0, wo := 0x0, reset := fun _ _ _ => 0x0 },
  { base := 0x3800014, dims := [], rw := 0x0, w1c := 0x0, rs := 0xFFFFFFFF, wo := 0x0, reset := fun _ _ _ => 0x0 },
  { base := 0x3800018, dims := [], rw := 0x0, w1c := 0x0, rs := 0x0, wo := 0x0, reset := fun _ _ _ => 0x0 },
  { base := 0x380001C, dims := [], rw := 0x0, w1c := 0x0, rs := 0x0, wo := 0x0, reset := fun _ _ _ => 0x0 }]

/-- The registers of block FAB: address, index ranges, access masks and reset word. -/
def regsFAB : List RegDesc := [
  { base := 0x3900000, dims := [], rw := 0xFF01, w1c := 0x0, rs := 0x0, wo := 0x0, reset := fun _ _ _ => 0x1000 },
  { base := 0x3900004, dims := [], rw := 0x0, w1c := 0x0, rs := 0x0, wo := 0x0, reset := fun _ _ _ => 0xFC0 },
  { base := 0x3900008, dims := [], rw := 0x0, w1c := 0x3F, rs := 0x0, wo := 0x0, reset := fun _ _ _ => 0x0 },
  { base := 0x3900010, dims := [(0x3, 0x4)], rw := 0x0, w1c := 0x0, rs := 0xFFFFFFFF, wo := 0x0, reset := fun _ _ _ => 0x0 },
  { base := 0x3900100, dims := [(0x20, 0x4)], rw := 0x0, w1c := 0x0, rs := 0x0, wo := 0x0, reset := fun _ _ _ => 0x0 },
  { base := 0x3900200, dims := [(0x60, 0x4)], rw := 0x7FF, w1c := 0x0, rs := 0x0, wo := 0x0, reset := fun _ _ _ => 0x40 },
  { base := 0x3900400, dims := [(0x60, 0x4)], rw := 0x0, w1c := 0x0, rs := 0x0, wo := 0x0, reset := fun _ _ _ => 0x0 },
  { base := 0x3910000, dims := [(0xD60, 0x8)], rw := 0x87FFFFFF, w1c := 0x0, rs := 0x0, wo := 0x0, reset := fun _ _ _ => 0x0 },
  { base := 0x3910004, dims := [(0xD60, 0x8)], rw := 0x0, w1c := 0x0, rs := 0x0, wo := 0x0, reset := fun _ _ _ => 0x0 },
  { base := 0x3920000, dims := [(0x300, 0x4)], rw := 0x8003FFFF, w1c := 0x0, rs := 0x0, wo := 0x0, reset := fun _ _ _ => 0x0 }]

end Sys2Proof.Machine
end

