-- ==== Sys2Proof/Machine/RegsXpt.lean ====
section
/-! DEFINITION. The registers of video path and cellar (XPT, CLR): the address of each register, the place of each field,
its access type and its reset value, as the register tables of spec/09_video_path_cask_and_cellar.md give them. -/

namespace Sys2Proof.Machine

/-- Register XPT_STATUS, offset 0x000 of its block. -/
abbrev XPT_STATUS : Nat := 0x1000000
/-- XPT_STATUS.QUAD_READY [3:0] RO, reset 0: Bit q: crosspoint quadrant q ready -/
abbrev XPT_STATUS_QUAD_READY : Field := ⟨XPT_STATUS, 0, 4⟩
/-- XPT_STATUS.GROUP_READY [9:4] RO, reset 0: Bit g: input-stage group g ready -/
abbrev XPT_STATUS_GROUP_READY : Field := ⟨XPT_STATUS, 4, 6⟩

/-- Register XPT_EVENT, offset 0x004 of its block. -/
abbrev XPT_EVENT : Nat := 0x1000004
/-- XPT_EVENT.IN_LOSS [0:0] W1C, reset 0: An input became absent (R324) -/
abbrev XPT_EVENT_IN_LOSS : Field := ⟨XPT_EVENT, 0, 1⟩
/-- XPT_EVENT.WINDOW_EXIT [1:1] W1C, reset 0: A cask input left the window (R336) -/
abbrev XPT_EVENT_WINDOW_EXIT : Field := ⟨XPT_EVENT, 1, 1⟩
/-- XPT_EVENT.READS_OVER [2:2] W1C, reset 0: R341 -/
abbrev XPT_EVENT_READS_OVER : Field := ⟨XPT_EVENT, 2, 1⟩
/-- XPT_EVENT.UNCLEAN [3:3] W1C, reset 0: An unclean switch (R349) -/
abbrev XPT_EVENT_UNCLEAN : Field := ⟨XPT_EVENT, 3, 1⟩
/-- XPT_EVENT.SKIM_SKIP [4:4] W1C, reset 0: A skim or L0 copy writer skipped an input frame (R470) -/
abbrev XPT_EVENT_SKIM_SKIP : Field := ⟨XPT_EVENT, 4, 1⟩

/-- Register XPT_SKIM_SKIP, offset 0x008 of its block. -/
abbrev XPT_SKIM_SKIP : Nat := 0x1000008
/-- XPT_SKIM_SKIP.COUNT [31:0] RS, reset 0: Input frames not written by a skim or L0 copy writer (R470), saturating; cleared by the read -/
abbrev XPT_SKIM_SKIP_COUNT : Field := ⟨XPT_SKIM_SKIP, 0, 32⟩

/-- Register XPT_PLAN_CASK (p = 0 to 7), offset 0x100 + 4p of its block. -/
abbrev XPT_PLAN_CASK (p : Nat) : Nat := 0x1000100 + 0x4 * p
/-- XPT_PLAN_CASK.REF [0:0] RW, reset 0: Read reference at plan (0) or one window later (1); takes effect at the plan's next frame boundary (R331) -/
abbrev XPT_PLAN_CASK_REF (p : Nat) : Field := ⟨XPT_PLAN_CASK p, 0, 1⟩

/-- Register XPT_IN_CFG (input i), offset 0x1_0000 + 4i of its block. -/
abbrev XPT_IN_CFG (i : Nat) : Nat := 0x1010000 + 0x4 * i
/-- XPT_IN_CFG.MODE [1:0] RW, reset 0: 0 PASS, 1 CASK, 2 CELLAR; 3 is stored as 1 (R333) -/
abbrev XPT_IN_CFG_MODE (i : Nat) : Field := ⟨XPT_IN_CFG i, 0, 2⟩
/-- XPT_IN_CFG.DELAY [2:2] RW, reset 0: Frame delay D (R339) -/
abbrev XPT_IN_CFG_DELAY (i : Nat) : Field := ⟨XPT_IN_CFG i, 2, 1⟩
/-- XPT_IN_CFG.HOME [5:3] RW, reset 0: Plan for XPT_IN_OFFS and IN_WINDOW -/
abbrev XPT_IN_CFG_HOME (i : Nat) : Field := ⟨XPT_IN_CFG i, 3, 3⟩
/-- XPT_IN_CFG.READS [8:6] RW, reset 0: Cellar reads allowed, minus 1 (R341) -/
abbrev XPT_IN_CFG_READS (i : Nat) : Field := ⟨XPT_IN_CFG i, 6, 3⟩
/-- XPT_IN_CFG.SKIM_EN [9:9] RW, reset 1: R358 -/
abbrev XPT_IN_CFG_SKIM_EN (i : Nat) : Field := ⟨XPT_IN_CFG i, 9, 1⟩

/-- Register XPT_IN_STAT (input i), offset 0x2_0000 + 4i of its block. -/
abbrev XPT_IN_STAT (i : Nat) : Nat := 0x1020000 + 0x4 * i
/-- XPT_IN_STAT.PRESENT [0:0] RO, reset 0: R323 -/
abbrev XPT_IN_STAT_PRESENT (i : Nat) : Field := ⟨XPT_IN_STAT i, 0, 1⟩
/-- XPT_IN_STAT.CLASSIFIED [1:1] RO, reset 0: R323 -/
abbrev XPT_IN_STAT_CLASSIFIED (i : Nat) : Field := ⟨XPT_IN_STAT i, 1, 1⟩
/-- XPT_IN_STAT.FORMAT [4:2] RO, reset 0: Table 05-4 -/
abbrev XPT_IN_STAT_FORMAT (i : Nat) : Field := ⟨XPT_IN_STAT i, 2, 3⟩
/-- XPT_IN_STAT.RATE [7:5] RO, reset 0: Table 05-3 -/
abbrev XPT_IN_STAT_RATE (i : Nat) : Field := ⟨XPT_IN_STAT i, 5, 3⟩
/-- XPT_IN_STAT.LEVEL_B [8:8] RO, reset 0: 3G level B-DL -/
abbrev XPT_IN_STAT_LEVEL_B (i : Nat) : Field := ⟨XPT_IN_STAT i, 8, 1⟩
/-- XPT_IN_STAT.MODE_EFF [10:9] RO, reset 0: Effective mode (R333) -/
abbrev XPT_IN_STAT_MODE_EFF (i : Nat) : Field := ⟨XPT_IN_STAT i, 9, 2⟩
/-- XPT_IN_STAT.IN_WINDOW [11:11] RO, reset 0: R336, against HOME -/
abbrev XPT_IN_STAT_IN_WINDOW (i : Nat) : Field := ⟨XPT_IN_STAT i, 11, 1⟩
/-- XPT_IN_STAT.ADM_REASON [14:12] RO, reset 0: Pending CELLAR refusal, Table 09-10 -/
abbrev XPT_IN_STAT_ADM_REASON (i : Nat) : Field := ⟨XPT_IN_STAT i, 12, 3⟩
/-- XPT_IN_STAT.READS_OVER [15:15] RO, reset 0: R341 -/
abbrev XPT_IN_STAT_READS_OVER (i : Nat) : Field := ⟨XPT_IN_STAT i, 15, 1⟩
/-- XPT_IN_STAT.SKIM_ON [16:16] RO, reset 0: Skim being written -/
abbrev XPT_IN_STAT_SKIM_ON (i : Nat) : Field := ⟨XPT_IN_STAT i, 16, 1⟩
/-- XPT_IN_STAT.COVERED [17:17] RO, reset 0: Id covered by a gang; other fields read 0 (R369) -/
abbrev XPT_IN_STAT_COVERED (i : Nat) : Field := ⟨XPT_IN_STAT i, 17, 1⟩

/-- Register XPT_IN_OFFS (input i), offset 0x3_0000 + 4i of its block. -/
abbrev XPT_IN_OFFS (i : Nat) : Nat := 0x1030000 + 0x4 * i
/-- XPT_IN_OFFS.NS [31:0] RO, reset 0: Offset t against HOME, signed, in ns -/
abbrev XPT_IN_OFFS_NS (i : Nat) : Field := ⟨XPT_IN_OFFS i, 0, 32⟩

/-- Register XPT_IN_ERR (input i), offset 0x4_0000 + 4i of its block. -/
abbrev XPT_IN_ERR (i : Nat) : Nat := 0x1040000 + 0x4 * i
/-- XPT_IN_ERR.CRC [15:0] RS, reset 0: Lines with CRC mismatch (R327), saturating; cleared by the read -/
abbrev XPT_IN_ERR_CRC (i : Nat) : Field := ⟨XPT_IN_ERR i, 0, 16⟩
/-- XPT_IN_ERR.LOSSES [31:16] RS, reset 0: Losses (R324), saturating; cleared by the read -/
abbrev XPT_IN_ERR_LOSSES (i : Nat) : Field := ⟨XPT_IN_ERR i, 16, 16⟩

/-- Register XPT_OUT_PLAN (k = 0 to 575), offset 0x5_0000 + 4k of its block. -/
abbrev XPT_OUT_PLAN (k : Nat) : Nat := 0x1050000 + 0x4 * k
/-- XPT_OUT_PLAN.PLAN [2:0] + 4j RW, reset 0: Plan of output 8k + j, j = 0 to 7 (R330) -/
abbrev XPT_OUT_PLAN_PLAN (k : Nat) (j : Nat) : Field := ⟨XPT_OUT_PLAN k, 0 + 4 * j, 3⟩

/-- Register XPT_OUT_CFG (output d), offset 0x6_0000 + 4d of its block. -/
abbrev XPT_OUT_CFG (d : Nat) : Nat := 0x1060000 + 0x4 * d
/-- XPT_OUT_CFG.LOSS [1:0] RW, reset 0: Table 09-7 -/
abbrev XPT_OUT_CFG_LOSS (d : Nat) : Field := ⟨XPT_OUT_CFG d, 0, 2⟩
/-- XPT_OUT_CFG.GEN [6:2] RW, reset 0: Generator for GEN -/
abbrev XPT_OUT_CFG_GEN (d : Nat) : Field := ⟨XPT_OUT_CFG d, 2, 5⟩
/-- XPT_OUT_CFG.HOLD_FRAMES [15:8] RW, reset 50: R355 -/
abbrev XPT_OUT_CFG_HOLD_FRAMES (d : Nat) : Field := ⟨XPT_OUT_CFG d, 8, 8⟩

/-- Register XPT_MAP_RD (output d), offset 0x7_0000 + 4d of its block. -/
abbrev XPT_MAP_RD (d : Nat) : Nat := 0x1070000 + 0x4 * d
/-- XPT_MAP_RD.SRC [12:0] RO, reset d: Source in force; the identity map of R47 at t_USE -/
abbrev XPT_MAP_RD_SRC (d : Nat) : Field := ⟨XPT_MAP_RD d, 0, 13⟩
/-- XPT_MAP_RD.VALID [13:13] RO, reset 1: A route is in force -/
abbrev XPT_MAP_RD_VALID (d : Nat) : Field := ⟨XPT_MAP_RD d, 13, 1⟩
/-- XPT_MAP_RD.WIDTH [15:14] RO, reset 0: 0: 1, 1: 2, 2: 4, 3: 16 quarter-slots -/
abbrev XPT_MAP_RD_WIDTH (d : Nat) : Field := ⟨XPT_MAP_RD d, 14, 2⟩
/-- XPT_MAP_RD.COVERED [16:16] RO, reset 0: Covered by a gang; SRC is not used -/
abbrev XPT_MAP_RD_COVERED (d : Nat) : Field := ⟨XPT_MAP_RD d, 16, 1⟩
/-- XPT_MAP_RD.ALIGNED [17:17] RO, reset 0: Aligned carriage (R332) -/
abbrev XPT_MAP_RD_ALIGNED (d : Nat) : Field := ⟨XPT_MAP_RD d, 17, 1⟩
/-- XPT_MAP_RD.CELLAR [18:18] RO, reset 0: Carried through a cellar read -/
abbrev XPT_MAP_RD_CELLAR (d : Nat) : Field := ⟨XPT_MAP_RD d, 18, 1⟩
/-- XPT_MAP_RD.POLICY [19:19] RO, reset 0: Loss policy in force -/
abbrev XPT_MAP_RD_POLICY (d : Nat) : Field := ⟨XPT_MAP_RD d, 19, 1⟩
/-- XPT_MAP_RD.UNCLEAN_LAST [20:20] RO, reset 0: The last switch was unclean -/
abbrev XPT_MAP_RD_UNCLEAN_LAST (d : Nat) : Field := ⟨XPT_MAP_RD d, 20, 1⟩
/-- XPT_MAP_RD.PLAN [23:21] RO, reset 0: Plan in force -/
abbrev XPT_MAP_RD_PLAN (d : Nat) : Field := ⟨XPT_MAP_RD d, 21, 3⟩

/-- Register CLR_STATUS, offset 0x000 of its block. -/
abbrev CLR_STATUS : Nat := 0x1400000
/-- CLR_STATUS.READY [0:0] RO, reset 0: Cellar trained; mirrors TOP_STATUS.CELLAR_READY -/
abbrev CLR_STATUS_READY : Field := ⟨CLR_STATUS, 0, 1⟩
/-- CLR_STATUS.TRAIN_FAIL [1:1] RO, reset 0: Training failed (R51) -/
abbrev CLR_STATUS_TRAIN_FAIL : Field := ⟨CLR_STATUS, 1, 1⟩
/-- CLR_STATUS.STACK_READY [5:2] RO, reset 0: Bit k: stack k ready -/
abbrev CLR_STATUS_STACK_READY : Field := ⟨CLR_STATUS, 2, 4⟩

/-- Register CLR_ADM_BUDGET, offset 0x004 of its block. -/
abbrev CLR_ADM_BUDGET : Nat := 0x1400004
/-- CLR_ADM_BUDGET.MBPS [31:0] RW, reset 31,457,280: Admission budget in Mb/s; larger values are clamped to the reset value -/
abbrev CLR_ADM_BUDGET_MBPS : Field := ⟨CLR_ADM_BUDGET, 0, 32⟩

/-- Register CLR_ADM_HEADCAP, offset 0x008 of its block. -/
abbrev CLR_ADM_HEADCAP : Nat := 0x1400008
/-- CLR_ADM_HEADCAP.MBPS [31:0] RW, reset 2,500,000: HEAD class cap in Mb/s, clamped to CLR_ADM_BUDGET -/
abbrev CLR_ADM_HEADCAP_MBPS : Field := ⟨CLR_ADM_HEADCAP, 0, 32⟩

/-- Register CLR_ADM_USED (c = 0 to 4, Table 09-9), offset 0x010 + 4c of its block. -/
abbrev CLR_ADM_USED (c : Nat) : Nat := 0x1400010 + 0x4 * c
/-- CLR_ADM_USED.MBPS [31:0] RO, reset 0: Admitted charge of class c -/
abbrev CLR_ADM_USED_MBPS (c : Nat) : Field := ⟨CLR_ADM_USED c, 0, 32⟩

/-- Register CLR_ADM_TOTAL, offset 0x030 of its block. -/
abbrev CLR_ADM_TOTAL : Nat := 0x1400030
/-- CLR_ADM_TOTAL.MBPS [31:0] RO, reset 0: Sum of all classes -/
abbrev CLR_ADM_TOTAL_MBPS : Field := ⟨CLR_ADM_TOTAL, 0, 32⟩

/-- Register CLR_ADM_EVENT, offset 0x034 of its block. -/
abbrev CLR_ADM_EVENT : Nat := 0x1400034
/-- CLR_ADM_EVENT.REFUSED [0:0] W1C, reset 0: A request was refused (R366) -/
abbrev CLR_ADM_EVENT_REFUSED : Field := ⟨CLR_ADM_EVENT, 0, 1⟩
/-- CLR_ADM_EVENT.GRANTED_LATE [1:1] W1C, reset 0: A pending request was granted -/
abbrev CLR_ADM_EVENT_GRANTED_LATE : Field := ⟨CLR_ADM_EVENT, 1, 1⟩

/-- Register CLR_ADM_LAST, offset 0x038 of its block. -/
abbrev CLR_ADM_LAST : Nat := 0x1400038
/-- CLR_ADM_LAST.CLASS [2:0] RO, reset 0: Class of the last refusal -/
abbrev CLR_ADM_LAST_CLASS : Field := ⟨CLR_ADM_LAST, 0, 3⟩
/-- CLR_ADM_LAST.ID [15:3] RO, reset 0: Input id, head layer code or context, as the class defines -/
abbrev CLR_ADM_LAST_ID : Field := ⟨CLR_ADM_LAST, 3, 13⟩
/-- CLR_ADM_LAST.REASON [18:16] RO, reset 0: Table 09-10 -/
abbrev CLR_ADM_LAST_REASON : Field := ⟨CLR_ADM_LAST, 16, 3⟩
/-- CLR_ADM_LAST.VALID [31:31] W1C, reset 0: A refusal is recorded -/
abbrev CLR_ADM_LAST_VALID : Field := ⟨CLR_ADM_LAST, 31, 1⟩

/-- Register CLR_ADM_PEND, offset 0x03C of its block. -/
abbrev CLR_ADM_PEND : Nat := 0x140003C
/-- CLR_ADM_PEND.COUNT [15:0] RO, reset 0: Pending requests -/
abbrev CLR_ADM_PEND_COUNT : Field := ⟨CLR_ADM_PEND, 0, 16⟩

/-- Register CLR_REGION_BASE (r = 0 to 5), offset 0x040 + 8r of its block. -/
abbrev CLR_REGION_BASE (r : Nat) : Nat := 0x1400040 + 0x8 * r
/-- CLR_REGION_BASE.MB [31:0] RO, reset Table 09-8: Region base in MB -/
abbrev CLR_REGION_BASE_MB (r : Nat) : Field := ⟨CLR_REGION_BASE r, 0, 32⟩

/-- Register CLR_REGION_SIZE (r = 0 to 5), offset 0x044 + 8r of its block. -/
abbrev CLR_REGION_SIZE (r : Nat) : Nat := 0x1400044 + 0x8 * r
/-- CLR_REGION_SIZE.MB [31:0] RO, reset Table 09-8: Region size in MB -/
abbrev CLR_REGION_SIZE_MB (r : Nat) : Field := ⟨CLR_REGION_SIZE r, 0, 32⟩

/-- Register CLR_ECC, offset 0x080 of its block. -/
abbrev CLR_ECC : Nat := 0x1400080
/-- CLR_ECC.CORR [15:0] RS, reset 0: Corrected errors, saturating; cleared by the read -/
abbrev CLR_ECC_CORR : Field := ⟨CLR_ECC, 0, 16⟩
/-- CLR_ECC.UNCORR_DATA [31:16] RS, reset 0: Uncorrectable data errors (R344), saturating; cleared by the read -/
abbrev CLR_ECC_UNCORR_DATA : Field := ⟨CLR_ECC, 16, 16⟩

/-- Register CLR_ECC_META, offset 0x084 of its block. -/
abbrev CLR_ECC_META : Nat := 0x1400084
/-- CLR_ECC_META.UNCORR_META [15:0] RS, reset 0: Uncorrectable metadata errors, saturating; cleared by the read -/
abbrev CLR_ECC_META_UNCORR_META : Field := ⟨CLR_ECC_META, 0, 16⟩

/-- Register CLR_PM_CFG, offset 0x090 of its block. -/
abbrev CLR_PM_CFG : Nat := 0x1400090
/-- CLR_PM_CFG.PD_EN [0:0] RW, reset 1: Allow power-down (R368) -/
abbrev CLR_PM_CFG_PD_EN : Field := ⟨CLR_PM_CFG, 0, 1⟩
/-- CLR_PM_CFG.SR_EN [1:1] RW, reset 1: Allow self-refresh (R368) -/
abbrev CLR_PM_CFG_SR_EN : Field := ⟨CLR_PM_CFG, 1, 1⟩

/-- Register CLR_PM_STAT, offset 0x094 of its block. -/
abbrev CLR_PM_STAT : Nat := 0x1400094
/-- CLR_PM_STAT.IN_PD [6:0] RO, reset 0: Channels in PD, 0–64 -/
abbrev CLR_PM_STAT_IN_PD : Field := ⟨CLR_PM_STAT, 0, 7⟩
/-- CLR_PM_STAT.IN_SR [14:8] RO, reset 0: Channels in SR, 0–64 -/
abbrev CLR_PM_STAT_IN_SR : Field := ⟨CLR_PM_STAT, 8, 7⟩

/-- Register CLR_LTR (c = 0 to 39), offset 0x100 + 4c of its block. -/
abbrev CLR_LTR (c : Nat) : Nat := 0x1400100 + 0x4 * c
/-- CLR_LTR.NS [15:0] RO, reset 0xFFFF: Tolerance in ns; 0xFFFF is no limit. c = 0 frame-sync writers, 1 frame-sync readers, 2 skim writers, 3 copy writers, 4 merge buffers, 5 audio delay lines, 6 aperture, 7 reserved, 8 + h head h -/
abbrev CLR_LTR_NS (c : Nat) : Field := ⟨CLR_LTR c, 0, 16⟩

/-- The registers of block XPT: address, index ranges, access masks and reset word. -/
def regsXPT : List RegDesc := [
  { base := 0x1000000, dims := [], rw := 0x0, w1c := 0x0, rs := 0x0, wo := 0x0, reset := fun _ _ _ => 0x0 },
  { base := 0x1000004, dims := [], rw := 0x0, w1c := 0x1F, rs := 0x0, wo := 0x0, reset := fun _ _ _ => 0x0 },
  { base := 0x1000008, dims := [], rw := 0x0, w1c := 0x0, rs := 0xFFFFFFFF, wo := 0x0, reset := fun _ _ _ => 0x0 },
  { base := 0x1000100, dims := [(0x8, 0x4)], rw := 0x1, w1c := 0x0, rs := 0x0, wo := 0x0, reset := fun _ _ _ => 0x0 },
  { base := 0x1010000, dims := [(0x1200, 0x4)], rw := 0x3FF, w1c := 0x0, rs := 0x0, wo := 0x0, reset := fun _ _ _ => 0x200 },
  { base := 0x1020000, dims := [(0x1200, 0x4)], rw := 0x0, w1c := 0x0, rs := 0x0, wo := 0x0, reset := fun _ _ _ => 0x0 },
  { base := 0x1030000, dims := [(0x1200, 0x4)], rw := 0x0, w1c := 0x0, rs := 0x0, wo := 0x0, reset := fun _ _ _ => 0x0 },
  { base := 0x1040000, dims := [(0x1200, 0x4)], rw := 0x0, w1c := 0x0, rs := 0xFFFFFFFF, wo := 0x0, reset := fun _ _ _ => 0x0 },
  { base := 0x1050000, dims := [(0x240, 0x4)], rw := 0x77777777, w1c := 0x0, rs := 0x0, wo := 0x0, reset := fun _ _ _ => 0x0 },
  { base := 0x1060000, dims := [(0x1200, 0x4)], rw := 0xFF7F, w1c := 0x0, rs := 0x0, wo := 0x0, reset := fun _ _ _ => 0x3200 },
  { base := 0x1070000, dims := [(0x1200, 0x4)], rw := 0x0, w1c := 0x0, rs := 0x0, wo := 0x0, reset := fun d _ _ => 0x2000 + (d) }]

/-- The registers of block CLR: address, index ranges, access masks and reset word. -/
def regsCLR : List RegDesc := [
  { base := 0x1400000, dims := [], rw := 0x0, w1c := 0x0, rs := 0x0, wo := 0x0, reset := fun _ _ _ => 0x0 },
  { base := 0x1400004, dims := [], rw := 0xFFFFFFFF, w1c := 0x0, rs := 0x0, wo := 0x0, reset := fun _ _ _ => 0x1E00000 },
  { base := 0x1400008, dims := [], rw := 0xFFFFFFFF, w1c := 0x0, rs := 0x0, wo := 0x0, reset := fun _ _ _ => 0x2625A0 },
  { base := 0x1400010, dims := [(0x5, 0x4)], rw := 0x0, w1c := 0x0, rs := 0x0, wo := 0x0, reset := fun _ _ _ => 0x0 },
  { base := 0x1400030, dims := [], rw := 0x0, w1c := 0x0, rs := 0x0, wo := 0x0, reset := fun _ _ _ => 0x0 },
  { base := 0x1400034, dims := [], rw := 0x0, w1c := 0x3, rs := 0x0, wo := 0x0, reset := fun _ _ _ => 0x0 },
  { base := 0x1400038, dims := [], rw := 0x0, w1c := 0x80000000, rs := 0x0, wo := 0x0, reset := fun _ _ _ => 0x0 },
  { base := 0x140003C, dims := [], rw := 0x0, w1c := 0x0, rs := 0x0, wo := 0x0, reset := fun _ _ _ => 0x0 },
  { base := 0x1400040, dims := [(0x6, 0x8)], rw := 0x0, w1c := 0x0, rs := 0x0, wo := 0x0, reset := fun r _ _ => (clrRegionBase r) },
  { base := 0x1400044, dims := [(0x6, 0x8)], rw := 0x0, w1c := 0x0, rs := 0x0, wo := 0x0, reset := fun r _ _ => (clrRegionSize r) },
  { base := 0x1400080, dims := [], rw := 0x0, w1c := 0x0, rs := 0xFFFFFFFF, wo := 0x0, reset := fun _ _ _ => 0x0 },
  { base := 0x1400084, dims := [], rw := 0x0, w1c := 0x0, rs := 0xFFFF, wo := 0x0, reset := fun _ _ _ => 0x0 },
  { base := 0x1400090, dims := [], rw := 0x3, w1c := 0x0, rs := 0x0, wo := 0x0, reset := fun _ _ _ => 0x3 },
  { base := 0x1400094, dims := [], rw := 0x0, w1c := 0x0, rs := 0x0, wo := 0x0, reset := fun _ _ _ => 0x0 },
  { base := 0x1400100, dims := [(0x28, 0x4)], rw := 0x0, w1c := 0x0, rs := 0x0, wo := 0x0, reset := fun _ _ _ => 0xFFFF }]

end Sys2Proof.Machine
end

