-- ==== Sys2Proof/Machine/RegTable.lean ====
section
/-! DEFINITION. The BAR0 address map (Table 16-5): which block an address belongs to, the register that lies there,
and what a word that nothing has written reads as (its register's reset value). -/

namespace Sys2Proof.Machine

/-- The block of Table 16-5 an address belongs to, by the number of its row (0 for TOP, 1 for PWR, …). -/
inductive Block where
  | top | pwr | ref | syn | pln | trl | ctn | xpt | clr | aud | i2s | pkt | ptp | rck (r : Nat) | salvo | rckShared
  | mvh | prf | ldg | twn | fab | mgt | mbx | cbs | upd | mtx | pci
  deriving DecidableEq, Repr

/-- The block of an address inside BAR0 (Table 16-5). -/
def blockOf (a : Nat) : Block :=
  if a < 0x0100000 then .top else if a < 0x0200000 then .pwr else if a < 0x0300000 then .ref
  else if a < 0x0400000 then .syn else if a < 0x0800000 then .pln else if a < 0x0C00000 then .trl
  else if a < 0x1000000 then .ctn else if a < 0x1400000 then .xpt else if a < 0x1800000 then .clr
  else if a < 0x1900000 then .aud else if a < 0x1C00000 then .i2s else if a < 0x1E00000 then .pkt
  else if a < 0x2000000 then .ptp else if a < 0x3000000 then .rck ((a - 0x2000000) / 0x100000)
  else if a < 0x3080000 then .salvo else if a < 0x3100000 then .rckShared else if a < 0x3400000 then .mvh
  else if a < 0x3600000 then .prf else if a < 0x3800000 then .ldg else if a < 0x3900000 then .twn
  else if a < 0x3A00000 then .fab else if a < 0x3B00000 then .mgt else if a < 0x3C00000 then .mbx
  else if a < 0x3D00000 then .cbs else if a < 0x3E00000 then .upd else if a < 0x3F00000 then .mtx else .pci

/-- The register tables of a block. -/
def blockRegs : Block → List RegDesc
  | .top => regsTOP | .pwr => regsPWR | .ref => regsREF | .syn => regsSYN | .pln => regsPLN | .trl => regsTRL
  | .ctn => regsCTN | .xpt => regsXPT | .clr => regsCLR | .aud => regsAUD | .i2s => regsI2S
  | .pkt => regsPKT ++ regsPKTRXC ++ regsPKTTXC ++ regsPKTCLS | .ptp => regsPTP ++ regsPTPDT
  | .rck _ => regsRCK | .salvo => [] | .rckShared => regsRCKS | .mvh => regsMVH | .prf => regsPRF | .ldg => regsLDG
  | .twn => regsTWN | .fab => regsFAB | .mgt => regsMGT | .mbx => regsMBX | .cbs => regsCBS | .upd => regsUPD
  | .mtx => regsMTX | .pci => regsPCI

/-- The register at a word address, with its indices. -/
def regAt (a : Nat) : Option (RegDesc × List Nat) := findDesc a (blockRegs (blockOf a))

/-- Program memory word `w` of racker `r` (R291). -/
abbrev RCK_PM (r w : Nat) : Nat := 0x2000000 + 0x100000 * r + 4 * w
/-- Data memory word `w` of racker `r`. -/
abbrev RCK_DM (r w : Nat) : Nat := 0x2010000 + 0x100000 * r + 4 * w
/-- Low word of salvo entry `i`; the high word follows at + 4. -/
abbrev RCK_SALVO (i : Nat) : Nat := 0x3000000 + 8 * i

/-- Whether an address lies in a racker's program or data memory or in salvo memory, the three memories of BAR0 that
are not registers. -/
def inRckMemory (a : Nat) : Bool :=
  match blockOf a with
  | .rck _ => decide (a % 0x100000 < 0x14000)
  | .salvo => true
  | _ => false

/-- What a word of BAR0 reads as before anything is written there: its register's reset value, and 0 in memories and
where no register is. -/
def resetWord (a : Nat) : Word :=
  match regAt a with
  | some (d, ix) => BitVec.ofNat 32 (d.resetAt ix)
  | none => 0

end Sys2Proof.Machine
end

