-- ==== Sys2Proof/Machine/State.lean ====
section
/-! DEFINITION. The state of the device: plain data. The registers, memories and mailbox slots of BAR0 are one sparse
store of words (`regs`); beside it stands what the spec gives the machine and no register shows, one record per block
or per instance. `pending` is the queue of commands that wait. -/

namespace Sys2Proof.Machine

/-- Faults. No command of this block stops the machine with a fault: the spec gives every refusal of an access an
effect (an error response and a record), so this type has no constructor. -/
inductive Fault where
  deriving DecidableEq, Repr

/-- Refusals. -/
inductive Refusal where
  /-- Raised by `exec` alone, for a command that has no meaning yet; safe. -/
  | notModelled (mnemonic : String)
  deriving DecidableEq, Repr

/-- One record of the hardware log buffer (R583, Table 15-5). -/
structure LogRec where
  frame : Nat
  line : Nat
  event : Nat
  block : Nat
  dtNs : Nat
  arg : Nat
  deriving DecidableEq, Repr

/-- The supply, mode and quiesce state that no register shows (R25 to R66). -/
structure TopH where
  /-- The device is in device reset (R32). -/
  inReset : Bool := true
  /-- `now` at t0 (R25). -/
  t0 : Nat := 0
  /-- Milestones of Table 02-2 reached, bit n for TOP_BOOT_T(n). -/
  reached : Nat := 0
  /-- PLAN0 frame in which TOP_STATUS.MGT_READY became 1 (R53). -/
  mgtFrame : Nat := 0
  /-- PLAN0 frame in which a THAW was written, while it waits for its boundary (R55). -/
  thaw : Option Nat := none
  /-- PLAN0 frame in which QUIESCE was written (R62). -/
  quiesceFrame : Nat := 0
  /-- B1 has passed, with the PLAN0 frame that began there (R62). -/
  b1 : Option Nat := none
  /-- The claim was held, with a twin able to take over, at B1 (R63). -/
  heldAtB1 : Bool := false
  /-- PLAN0 frame in which the twin's claim was seen after B1 (R63). -/
  claimSeen : Option Nat := none
  /-- The transmitters have been stopped under R64. -/
  txStopped : Bool := false
  /-- The claim bit (R54, R526). -/
  claim : Bool := false
  /-- Trellis pairs held off by shed level 3, fixed at its entry (R43): bit n for pair n. -/
  shedPairs : Nat := 0
  /-- `now` since when the hottest die sensor has been below the fall threshold (R42). -/
  coolSince : Option Nat := none
  /-- Switched domains powered down by a fault, a critical temperature, a quiesce or SAFE: bit i for domain i. -/
  forcedOff : Nat := 0
  /-- Triggers that led to RELINQUISHED, by row of Table 02-5: bit 0 route proof, 1 ECC, 2 regulator, 3 thermal,
  4 racker trap, 5 ledger. -/
  relinquishedBy : Nat := 0
  /-- What must clear before a REJOIN (Table 02-5): destinations escalated since the trigger, rackers whose trap was a
  trigger, and a ledger imbalance whose books have not been followed by good ones. -/
  escalated : List Nat := []
  trapped : Nat := 0
  imbalance : Bool := false
  /-- A power-up timeline rail milestone has passed and the safe PLL is locked (R207). -/
  safePllLocked : Bool := false
  deriving DecidableEq, Repr

/-- One data lane of a trellis: encoder and decoder state (R76, R79, R81). -/
structure LaneH where
  /-- Transmit scrambler state, last 47 bits, newest in bit 0 (R79). -/
  scrTx : Nat := 2 ^ 47 - 1
  /-- Running disparity (R81). -/
  rd : Int := 0
  /-- Last symbol sent (R76). -/
  pTx : Nat := 0
  /-- Receive descrambler state (R80). -/
  scrRx : Nat := 2 ^ 47 - 1
  /-- Last symbol received (R78). -/
  pRx : Nat := 0
  /-- DFE taps in 1/256 of full scale, six of them (R71). -/
  taps : List Int := [0, 0, 0, 0, 0, 0]
  /-- Receiver gain, in adaptation steps from its start (R71). -/
  gain : Int := 0
  /-- Symbol pointer, moved when a phase step crosses a UI boundary (R73). -/
  pointer : Int := 0
  /-- High 16 bits of the bit-error counter (R109). -/
  errHi : Nat := 0
  /-- High 16 bits of the bits-checked counter (R109). -/
  bitsHi : Nat := 0
  /-- Errors that TRL_LANE_INJ has requested and that are not yet on the line (R107). -/
  injPend : Nat := 0
  /-- Bits sent since the last one that the periodic injector inverted (R107). -/
  injBits : Nat := 0
  /-- Generator: the last bits of a PRBS pattern, newest in bit 0; symbols sent of a symbol pattern (R105). -/
  gen : Nat := 0
  phase : Nat := 0
  /-- Checker: its register, newest bit in bit 0; bits seen since it last seeded itself or locked; bits predicted in a row; and, while
  it is locked, the numbers of the bits in error among the last 4,096 (R106). -/
  chk : Nat := 0
  chkSeen : Nat := 0
  chkRun : Nat := 0
  chkErrs : List Nat := []
  deriving DecidableEq, Repr

/-- A trellis or the mirror port: what TRL registers do not show. -/
structure TrlH where
  /-- `now` on entry to the receive state, where its timer starts (R89). -/
  since : Nat := 0
  /-- Mode framing in force (R101); TRL_CFG.MODE is the mode written. -/
  mode : Nat := 0
  /-- Transmit and receive presets in force (R70). -/
  presetTx : Nat := 2
  presetRx : Nat := 2
  /-- Groups sent since the transmitter became active; position and count of the lane frame (R84, R95). -/
  txGroups : Nat := 0
  /-- Position in the received lane frame of the next group (R85). -/
  rxPos : Nat := 2
  /-- Decoded groups of the stream that the loss guard holds, oldest first (R88). -/
  guard : List (Bool × Nat) := []
  lanes : List LaneH := List.replicate 8 {}
  /-- Last adaptation step of each lane and quantity, as (lane × 8 + quantity, time) (R71). -/
  adaptAt : List (Nat × Nat) := []
  deriving DecidableEq, Repr

/-- What a reference candidate carries beside its registers (R157 to R178). -/
structure CandH where
  /-- `now` since when the candidate has been present. -/
  present : Option Nat := none
  /-- `now` on entry to the state of Table 05-5, or at the last restart of QUAL. -/
  since : Nat := 0
  /-- Measured offset against XO in ppb, from the first monitor update after presence (R167, R169). -/
  meas : Option Int := none
  /-- The measured offsets of the last 60 monitor updates, newest first (R168). -/
  offs : List Int := []
  /-- `now` at the reference frame start of the last valid frame marker, and the rate it named (R165). -/
  marker : Option (Nat × Nat) := none
  /-- `now` at the last valid marker or at presence: three periods without a valid one expire from here (R166). -/
  markerSince : Nat := 0
  /-- The most recent reference frame start (R162). -/
  frameStart : Option Nat := none
  /-- Class, and marker rate or SDI format and rate, held before the last loss, until they have been compared (R172). -/
  before : Option (Nat × Option Nat) := none
  /-- Marker rate, or SDI format × 8 + rate, now held, if one is. -/
  kind : Option Nat := none
  /-- `now` at the glitches of the last second (R171). -/
  glitches : List Nat := []
  deriving DecidableEq, Repr

/-- The DPLL (R181 to R188). -/
structure DpllH where
  /-- `now` on entry to the state. -/
  since : Nat := 0
  /-- `now` on entry to ACQUIRING, from which the bandwidth schedule runs (R182). -/
  acqSince : Nat := 0
  /-- `now` at the hand-off of the present selection, once it is made (R185). -/
  handoff : Option Nat := none
  /-- A hand-off has been made since FREE_RUN (R200). -/
  firstDone : Bool := false
  /-- The first ACQUIRING after FREE_RUN is over (R184). -/
  acqDone : Bool := false
  /-- `now` at the present selection, from which its frequency error counts (R185). -/
  selAt : Nat := 0
  /-- Output offset from nominal in millionths of a ppb (R184). -/
  y : Int := 0
  /-- `now` at the last change of the output offset. -/
  ySince : Nat := 0
  /-- Output offset, in millionths of a ppb, at the monitor updates of LOCKED operation, newest first, at most 64 of them, each with
  its `now` (R186). -/
  hist : List (Nat × Int) := []
  /-- `now` on the last entry to LOCKED, and at the last exit from it where it has been left (R186). -/
  lockAt : Option Nat := none
  lockEnd : Option Nat := none
  /-- The frequency that HOLDOVER moves to and holds (R186), and `now` on entry to HOLDOVER. -/
  holdY : Int := 0
  holdAt : Nat := 0
  /-- The candidate that the twin in the active role has selected, as mirrored (R180). -/
  peerSel : Option Nat := none
  /-- XO ageing not yet booked in REF_XO: 10 ppb × time units, below a day of them (R168). -/
  ageing : Nat := 0
  /-- `now` at the last update of the drift monitor (R167). -/
  monAt : Nat := 0
  /-- Writes to REF registers that wait for the end of the cycle, oldest first: address and value stored (R179). -/
  held : List (Nat × BitVec 32) := []
  deriving DecidableEq, Repr

/-- One entry of a band cache (R221). -/
structure BandEntry where
  int : Nat
  fracHi : Nat
  band : Nat
  temp : Nat
  /-- `now` at the write (R223). -/
  made : Nat := 0
  deriving DecidableEq, Repr

/-- The third-order MASH 1-1-1 modulator of a synthesiser (R208). -/
structure MashH where
  /-- Cycles of the 100 MHz reference that have been run, counted from t0. -/
  cycle : Nat := 0
  /-- The dither LFSR, once it has run or been loaded; before that it holds SYN_PLL_SEED. -/
  lfsr : Option Nat := none
  /-- A seed written, which the next reference cycle loads (R210). -/
  reload : Option Nat := none
  /-- Accumulators of the three stages. -/
  a1 : Nat := 0
  a2 : Nat := 0
  a3 : Nat := 0
  /-- Last carry of the second stage, and last two carries of the third. -/
  c2 : Nat := 0
  c3 : Nat := 0
  c3z : Nat := 0
  /-- Division ratio of the last reference cycle. -/
  ratio : Int := 0
  deriving DecidableEq, Repr

/-- A synthesiser (R206 to R236). -/
structure SynH where
  /-- Frequency words, INT × 2³² + FRAC: the current one and the one it moves to, where that is not the nominal word. -/
  word : Option Nat := none
  target : Option Nat := none
  /-- `now` on entry to the state of SYN_PLL_STAT.STATE. -/
  since : Nat := 0
  /-- `now` at the last update of the ramp generator; the word that the ramp's profile starts from with `now` at that start, which for a ramp
  begun at a rate above 0 both lie before the ramp; the last change of the word; and `now` when it reached its target (R225 to R227). -/
  rampAt : Nat := 0
  rampFrom : Option (Nat × Nat) := none
  rate : Int := 0
  rampEnd : Option Nat := none
  mash : MashH := {}
  /-- Divider from VCO to sample clock, and `now` at a rising edge of the divider's output (R211, R218). -/
  div : Option Nat := none
  divAt : Nat := 0
  /-- Time from the request to the assertion of lock, in STATE 2 (Table 06-4). -/
  lockT : Nat := 0
  /-- Band cache entries, by position; and positions, most recently used first (R221). -/
  cache : List (Nat × BandEntry) := []
  used : List Nat := []
  /-- The plan whose staged change or restoration has claimed this pool synthesiser (R215, R219). -/
  claim : Option Nat := none
  /-- It lost lock while serving and is out of the pool until it has been locked for 64 µs (R219). -/
  failed : Bool := false
  deriving DecidableEq, Repr

/-- A decided JUMP frame: the frame it is, and its length change in time units (R197). -/
structure JumpH where
  frame : Nat
  change : Int
  /-- The frame has begun with its changed length. -/
  running : Bool := false
  deriving DecidableEq, Repr

/-- A staged change of format or rate (R201, R215, R677). -/
structure StagedH where
  format : Nat
  rate : Nat
  /-- The synthesiser claimed, if the change needs one and has it. -/
  synth : Option Nat := none
  /-- `now` at that claim (R217). -/
  claimAt : Nat := 0
  /-- `now` at the write, or at the start of the timing that the write waits for (R677). -/
  since : Nat := 0
  /-- `now` from which the new timebase is ready (R216), once it is. -/
  ready : Option Nat := none
  /-- The bridge frame has begun (R201). -/
  bridged : Bool := false
  deriving DecidableEq, Repr

/-- A timing plan (R189 to R205, R677 to R679): its timing in force and what is staged. -/
structure PlanH where
  /-- `now` at line 1, sample 0 of the frame of the anchor. -/
  anchorT : Nat := 0
  /-- Number of that frame, unwrapped. -/
  anchorF : Nat := 0
  /-- Length of that frame in time units (a bridge or JUMP frame is not of the plan's period). -/
  segLen : Nat := 120000000
  /-- Format and rate in force. -/
  format : Nat := 5
  rate : Nat := 5
  jump : Option JumpH := none
  staged : Option StagedH := none
  /-- A second change, written after the first one's bridge frame began: format and rate (R677). -/
  next : Option (Nat × Nat) := none
  /-- An enable waits for its start: the synthesiser claimed where one is needed (R679). -/
  starting : Bool := false
  /-- A disable waits for its boundary: the frame in which it was written (R205). -/
  stopping : Option Nat := none
  /-- The plan's clock is stopped by a loss of lock of its synthesiser (R219). -/
  clockLost : Bool := false
  /-- Frequency offset of the SLEW policy in millionths of a ppb (R196). -/
  yp : Int := 0
  /-- The position accumulator (R218): `now` up to which the frequency word has been counted, and the part of a time unit left over, in
  units of the nominal word. -/
  accAt : Nat := 0
  acc : Int := 0
  /-- How many lines of the plan had begun before the frame of the anchor: what timeouts in lines are counted by (R278). -/
  lines : Nat := 0
  /-- XPT_PLAN_CASK.REF in force before frame `caskAt`; the register's value holds from that frame on (R331). -/
  cask : Nat := 0
  caskAt : Nat := 0
  deriving DecidableEq, Repr

/-- What a racker waits for. -/
inductive Wait where
  | none
  /-- WAITL: a line of a plan, from an instant on (R243). -/
  | line (plan line issued : Nat)
  /-- WAITF: the start of a frame of a plan (R244). -/
  | frame (plan frame : Nat)
  /-- WAITE: events in a mask, with a timeout in lines of a plan (0: none) and how many of its lines had begun at the
  issue (R278). -/
  | event (rd mask plan lines issued : Nat)
  /-- PROVE: the verdict of the first frame of a destination from an instant on, with a timeout (R310). -/
  | prove (rd dst fromT plan lines issued : Nat)
  /-- FENCEW: a fence and the value it is to reach (R280). -/
  | fence (n v : Nat)
  /-- LEASE on a fabric id: the PLAN0 frame of its request (R275). -/
  | lease (rd id dur frame : Nat)
  /-- A TAKE or COMMIT at retire, waiting for a pending operation (R263) or for the plan of its floor (R246): its entries. -/
  | retire (rd : Nat) (entries : List Nat)
  deriving DecidableEq, Repr

/-- A racker (Table 07-1): what its registers do not show. -/
structure RckH where
  flags : RckFlags := {}
  lnk : Nat := 0
  planSel : Nat := 0
  /-- Program time P, as an instant (R238). -/
  p : Nat := 0
  staging : List Nat := []
  /-- Operations that have retired and not wholly landed, oldest first: the groups still to land. -/
  ops : List (List PlanGroup) := []
  /-- Instant at which the operation that was the oldest pending one has wholly landed, where a fifth one waits for it (R263). -/
  landedAt : Option Nat := none
  /-- The armed floor: plan and frame (R246). -/
  floor : Option (Nat × Nat) := none
  wait : Wait := .none
  /-- Instant at which the condition of a WAITE or FENCEW in progress became true (R238, R278, R280). -/
  metAt : Option Nat := none
  /-- The verdict that a PROVE in progress waited for, once it is formed: code and tag (R310). -/
  proved : Option (Nat × Nat) := none
  /-- Events set again in the cycle of `evtAt` that were set before: a WAITE that clears them in that cycle leaves them set (Table 07-9). -/
  evtAt : Nat := 0
  evtAgain : Nat := 0
  trapInfo : Nat := 0
  /-- PC has run past 16,383 (Table 07-11). -/
  pcOver : Bool := false
  /-- START, RESUME or STEP waits for a PLAN0 boundary: 1, 2 or 3, with the frame of the write (R285, R287). -/
  request : Option (Nat × Nat) := none
  /-- The racker halts at its next instruction boundary (STEP, R287). -/
  stepping : Bool := false
  deriving DecidableEq, Repr

/-- A foreign master: the identity of its port (clockIdentity, portNumber), its data set in the order of comparison, its
MAC and IPv4 addresses, the instants of its latest two Announce messages and its announce interval in time units. -/
structure Foreign where
  port : Nat × Nat
  dataset : List Nat
  mac : Nat
  ip : Nat
  times : List Nat
  interval : Nat
  deriving DecidableEq, Repr

/-- A PTP instance (R454 to R462): what its registers do not show. Times are in ns. -/
structure PtpH where
  /-- Instance time less device time (O_n). -/
  offset : Int := 0
  foreign : List Foreign := []
  /-- The master chosen, and the last one shown in PTP_GM. -/
  chosen : Option (Nat × Nat) := none
  /-- `now` at the chosen master's last Announce. -/
  annAt : Nat := 0
  /-- A two-step Sync that waits for its Follow_Up: sequenceId, t2 and its corrections. -/
  sync : Option (Nat × Int × Int) := none
  /-- The latest complete Sync: t1 with its corrections, and t2. -/
  pair : Option (Int × Int) := none
  /-- The Delay_Req last sent: its sequenceId, the instant it was formed, and t3 once it has left. -/
  dreq : Option (Nat × Nat × Option Int) := none
  dreqSeq : Nat := 0
  /-- Path delays of the last 16 exchanges, newest first. -/
  mpds : List Int := []
  /-- Offsets of the exchanges since UNCALIBRATED began, or of the present second in SLAVE. -/
  offs : List Int := []
  /-- Mean offsets of the last 8 s with the instants of their evaluations, newest first (R457). -/
  hist : List (Nat × Int) := []
  /-- The offset and instant from which the next one is predicted. -/
  base : Int × Nat := (0, 0)
  /-- Rate estimates in ppb of the last evaluations, newest first. -/
  rates : List Int := []
  /-- `now` on entry to SLAVE or at the last evaluation due since; and on entry to the servo state. -/
  evalAt : Nat := 0
  servoAt : Nat := 0
  /-- Servo state held before JUMP_HELD; evaluations in a row within the limit, and within 1 µs of the held value. -/
  before : Nat := 1
  within : Nat := 0
  stable : Nat := 0
  /-- ACCEPT has been written (R460). -/
  accept : Bool := false
  deriving DecidableEq, Repr

/-- A packet held by a receive context until its deadline (R438): its RTP marker, timestamp and payload. -/
structure PktH where
  seq : Nat
  ts : Nat
  marker : Bool
  deadline : Int
  payload : List Nat
  deriving DecidableEq, Repr

/-- A sequence number that a context has received: its first copy's leg, arrival and deadline, and whether its path
differential has been measured (R438, R439). -/
structure SeenH where
  seq : Nat
  leg : Nat
  arrival : Nat
  deadline : Int
  measured : Bool := false
  deriving DecidableEq, Repr

/-- A frame that a type 0 context assembles (R440): its timestamp, how many pixels it has of each picture line, and their words by row and first
pixel; how far its packets reach; whether a sequence number is missing or a packet lies outside the format; and its last line that has been
released. -/
structure FrmH where
  ts : Nat
  lines : List (Nat × Nat) := []
  pix : List (Nat × Nat × List Nat) := []
  out : Nat := 0
  rows : Nat := 0
  cols : Nat := 0
  next : Nat := 0
  gap : Bool := false
  bad : Bool := false
  deriving DecidableEq, Repr

/-- An ancillary packet for a line of a frame (R441): the frame's timestamp, line and horizontal offset, whether it goes to the chroma stream, and
its words from the DID on. -/
structure AncH where
  ts : Nat
  line : Nat
  offset : Nat
  chroma : Bool
  words : List Nat
  deriving DecidableEq, Repr

/-- A receive context (R433 to R443): what its registers do not show. -/
structure RxH where
  /-- PKT_RXC_CFG.EN, the grant of its MERGE charge, and the region 5 tokens that it holds. -/
  on : Bool := false
  admitted : Bool := false
  tokens : Nat := 0
  held : List PktH := []
  seen : List SeenH := []
  /-- A0 and ts0 (R436). -/
  anchor : Option (Nat × Nat) := none
  /-- Packets in a row that arrived after their deadlines (R437). -/
  late : Nat := 0
  /-- `now` at the last packet of each leg. -/
  legAt : Nat × Nat := (0, 0)
  /-- Type 0: frames under assembly, newest first; frames in a row that matched; the timestamp of the last one judged. -/
  frames : List FrmH := []
  good : Nat := 0
  judged : Option Nat := none
  /-- Type 0: ancillary packets that wait for the release of their lines (R441). -/
  anc : List AncH := []
  /-- Type 1: sample frames to play with their deadlines, oldest first, and the one played last. -/
  play : List (Int × List Nat) := []
  last : Option (List Nat) := none
  deriving DecidableEq, Repr

/-- A transmit context (R444 to R451): the boundary count (plan frame or engine tick) at which it was accepted or disabled,
and for type 1 the sample frames it has read, with the instants of their ticks, oldest first. -/
structure TxH where
  /-- Accepted: waiting to start, sending, or sending its last frame or packet. -/
  taken : Bool := false
  waiting : Option Nat := none
  stopping : Option Nat := none
  buf : List (Nat × List Nat) := []
  deriving DecidableEq, Repr

/-- A frame that waits in a MAC: express class, its ledger unit of class 4, and its bytes with the FCS. -/
structure TxFrame where
  express : Bool
  unit : Nat
  bytes : List Nat
  deriving DecidableEq, Repr

/-- The MAC of a packet-mode trellis (R412 to R421). -/
structure MacH where
  /-- The frame under reassembly: its count, the fragments continued so far, and its bytes. -/
  reasm : Option (Nat × Nat × List Nat) := none
  queue : List TxFrame := []
  /-- An interrupted preemptible frame: its count, fragments continued so far, bytes sent, and the frame. -/
  part : Option (Nat × Nat × Nat × TxFrame) := none
  /-- The lane frame of the last STATUS group, plus one (R415). -/
  told : Nat := 0
  /-- Frame count of the next preemptible frame. -/
  count : Nat := 0
  deriving DecidableEq, Repr

/-- The PCIe functions: power state and MSI-X vectors (R622, R628); key 64 × function + vector. -/
structure PciH where
  /-- The endpoint has become ready since its last reset (R621). -/
  ready : Bool := false
  /-- Vectors whose mask bit the host has cleared; an unlisted vector is masked (true). -/
  masked : List (Nat × Bool) := []
  /-- Pending bits. -/
  pend : List (Nat × Bool) := []
  /-- Other words of the two MSI-X tables, by 0x1000 × function + offset. -/
  table : List (Nat × Word) := []
  /-- Each function is in D3hot. -/
  d3 : List Bool := [false, false]
  /-- The W1C bits that hardware has set in the cycle `setAt`, as address and bit (R12). -/
  setAt : Nat := 0
  setNow : List (Nat × Nat) := []
  /-- Locks that a request of a cycle has won before its command comes, and releases that have been applied before theirs: lock, master, cycle
  (R644, R645). -/
  won : List (Nat × Nat × Nat) := []
  freed : List (Nat × Nat × Nat) := []
  deriving DecidableEq, Repr

/-- Where a stream of raster words stands: its TRS, its line number and its CRC (R322, R351). The words of the data streams of an
interface are interleaved; every one of them carries a TRS of its own. -/
structure TrsH where
  /-- Words 3FF in a row, words 000 after them, and status words read after those: a TRS in progress. -/
  ones : Nat := 0
  zeros : Nat := 0
  status : Nat := 0
  /-- Data streams that are interleaved, 0 before the first TRS, and the status word of the last TRS. -/
  streams : Nat := 0
  xyz : Nat := 0
  /-- Words since the last TRS, or since an EAV where `eav` is set. -/
  pos : Nat := 0
  eav : Bool := false
  /-- The CRC of each stream, while it is computed: from the end of an SAV to the end of the line number. -/
  crc : List Nat := []
  summing : Bool := false
  deriving DecidableEq, Repr

/-- A serial signal as the input stage reads it (R118, R322, R323). -/
structure SdiH where
  /-- The last level on the link, and the last nine scrambled bits, the newest in bit 0. -/
  level : Bool := false
  scr : Nat := 0
  /-- Ones in a row before the last change, and zeros after it: the preamble of a TRS gives the word alignment. -/
  ones : Nat := 0
  zeros : Nat := 0
  aligned : Bool := false
  /-- Bits of the word in progress, and how many. -/
  word : Nat := 0
  bits : Nat := 0
  trs : TrsH := {}
  /-- Raster words of the line in progress, newest first; those of the last whole line; and the lines of the frame in progress and of the frame
  before it, which the cask and the stores take from, the newest first. -/
  words : List Nat := []
  cask : List Nat := []
  rows : List (Nat × List Nat) := []
  past : List (Nat × List Nat) := []
  /-- An EAV has come; the number of the line in progress, 0 before it is known. -/
  begun : Bool := false
  line : Nat := 0
  /-- The ST 352 payload identifier, 0 where none has come. -/
  payloadId : Nat := 0
  /-- Streams and words of the lines of the frame in progress, how many there have been, and whether they were alike. -/
  shape : Nat × Nat := (0, 0)
  count : Nat := 0
  alike : Bool := true
  /-- A line of the frame in progress belongs to a second field or segment; `now` at the start of the frame, and the length of the last one. -/
  field : Bool := false
  since : Nat := 0
  period : Nat := 0
  /-- Streams, words a line and lines of the last whole frame, whether it had a second field or segment, and how many frames in a row have been like
  it (R323). -/
  frame : Nat × Nat × Nat × Bool := (0, 0, 0, false)
  frames : Nat := 0
  /-- `now` at the last EAV (R324). -/
  at_ : Nat := 0
  deriving DecidableEq, Repr

/-- A serial signal as the output stage sends it (R118, R351). -/
structure SdoH where
  level : Bool := false
  scr : Nat := 0
  /-- Coded bits that are still to leave, each with whether it is the first bit of a line's sample 0. -/
  rest : List (Bool × Bool) := []
  trs : TrsH := {}
  /-- Words of the line in progress that have been coded, and its number; its words that are still to come. -/
  pos : Nat := 0
  line : Nat := 0
  ahead : List Nat := []
  /-- Lines of the output frame in progress, as the output tap takes them, the newest first (R503). -/
  rows : List (Nat × List Nat) := []
  deriving DecidableEq, Repr

/-- A cellar read of an input (R339 to R341): its plan, the plan frame it last selected for, the input frame n(f)
selected, and the one selected for the frame before. -/
structure ReadH where
  plan : Nat
  frame : Nat := 0
  sel : Option Nat := none
  prev : Option Nat := none
  /-- Lines of the output frame in progress, and of the one before it, that were read with an uncorrectable error: each with what has replaced it,
  link after link (R344). -/
  patch : List (Nat × List (List Nat)) := []
  lastPatch : List (Nat × List (List Nat)) := []
  deriving DecidableEq, Repr

/-- An input quarter-slot id (R322 to R344): what the XPT registers do not show. -/
structure InH where
  /-- The first frame that the cellar holds whole: it served no writes before (R23, R233). -/
  cellarFrom : Nat := 0
  /-- Frames since the input became present: the count in the tag of the next frame (R326). -/
  frames : Nat := 0
  /-- Count and frame start S(n) of the latest frames, newest first, at most three (R325, R338). -/
  stored : List (Nat × Nat) := []
  /-- The newest frame whose last active line has been received (R516). -/
  complete : Option Nat := none
  /-- `now` when it was (R469). -/
  doneAt : Nat := 0
  /-- Counts of the frames that the ledger has entered and not decided (R516). -/
  undecided : List Nat := []
  /-- Plans in whose cask window the input is: bit p (R336). -/
  windows : Nat := 0
  /-- Plans outside whose cask window a line of the frame in progress, or of the last one, has arrived: bit p (R336). -/
  outside : Nat := 0
  wasOutside : Nat := 0
  /-- Cellar reads in the order of their assignment (R339, R341). -/
  reads : List ReadH := []
  /-- Tag of the newest frame of a trunk input, as its source names it (R569). -/
  tag : Nat := 0
  /-- The CELLAR request has been admitted (R333, R363), and the format × 8 + rate it was admitted for. -/
  cellar : Bool := false
  kind : Nat := 0
  /-- RGEN in force when the frame in progress began (R505). -/
  rgen : Nat := 0
  /-- DAMAGED mask of the frame in progress (R507). -/
  damaged : Nat := 0
  /-- The serial signal of the area of this id (R322). -/
  sdi : SdiH := {}
  /-- Lines of the frames that the stores hold, by frame (R338, R358, R362). -/
  pics : List (Nat × List (Nat × List Nat)) := []
  /-- Audio groups whose control packet declares another sample rate than 48 kHz: bit g (R377). -/
  rateBad : Nat := 0
  /-- Frames in the rotations of the skim store and of the L0 copy, newest first (R358, R362, R470). -/
  skim : List Nat := []
  copy : List Nat := []
  deriving DecidableEq, Repr

/-- An output quarter-slot id (R330 to R357): what the XPT registers do not show. -/
structure OutH where
  /-- An output frame is in progress, with the instant it began, its tag and its class (Table 09-6). -/
  running : Bool := false
  since : Nat := 0
  tag : Nat := 0
  slip : Bool := false
  policy : Bool := false
  again : Bool := false
  /-- The frame that begins next is a slip frame (R334). -/
  slipNext : Bool := false
  /-- Landing line of a switch in the frame in progress, 0 for none (R509). -/
  landLine : Nat := 0
  /-- RGEN in force when the frame began (R505). -/
  rgen : Nat := 0
  /-- Black lines on the lost source's timing until the next frame boundary of the plan (R354). -/
  black : Bool := false
  /-- Consecutive frames under HOLD, and HOLD has given way to BLACK (R355). -/
  holds : Nat := 0
  holdOver : Bool := false
  /-- The output has left its old plan and waits for the new plan's boundary (R330). -/
  leaving : Bool := false
  leftAt : Nat := 0
  /-- Frames of the plan since the generator was routed here (R326). -/
  genFrames : Nat := 0
  /-- The quarter-slot's own mask, where it is 0 (R135); its last content bit is still to be sent (R136). -/
  masked : Bool := false
  ending : Bool := false
  /-- Re-enabled by a mask change, and its first line has not begun yet (R137). -/
  opening : Bool := false
  /-- `now` at the destination's most recent landing (R310). -/
  landed : Nat := 0
  /-- The serial signal that leaves, and an unclean switch whose incoming content has not begun a line yet (R349, R351). -/
  sdo : SdoH := {}
  gap : Bool := false
  /-- The line boundary to which the output goes on after its crosspoint group is no longer requested (R38). -/
  stopAt : Nat := 0
  /-- A verdict has been formed for the frame in progress (R512). -/
  judged : Bool := false
  /-- The last verdict: the instant its frame began, its code and the frame tag; and `now` when it was formed (R310, R512). -/
  verdict : Option (Nat × Nat × Nat) := none
  /-- `now` when the destination last lost its route, its mask or a pending change (R310). -/
  stillAt : Nat := 0
  /-- Consecutive frames without a MATCH or MISMATCH verdict (R513). -/
  quiet : Nat := 0
  deriving DecidableEq, Repr

/-- A load of the cellar (Table 09-9): class, id and, for a cellar read, plan + 1. -/
structure Load where
  cls : Nat
  id : Nat
  sub : Nat := 0
  deriving DecidableEq, Repr

/-- Admission (R363 to R366): admitted loads with their charges, and pending requests, oldest first. -/
structure AdmH where
  granted : List (Load × Nat) := []
  waiting : List (Load × Nat) := []
  deriving DecidableEq, Repr

/-- A channel of the cellar (R368): 0 active, 1 power-down, 2 self-refresh; and `now` since when it is idle. -/
structure ChanH where
  state : Nat := 0
  idle : Nat := 0
  deriving DecidableEq, Repr

/-- A check record of route proof (R503, R507). -/
structure CheckRec where
  tag : Nat
  crc : List Nat
  rgen : Nat
  valid : Nat
  damaged : Nat
  landLine : Nat := 0
  /-- An uncorrectable error of the proof store has invalidated it (R508). -/
  invalid : Bool := false
  deriving DecidableEq, Repr

/-- A mark of the ledger (R523). -/
structure Mark where
  value : Nat
  racker : Nat
  frame : Nat
  line : Nat
  deriving DecidableEq, Repr

/-- Route proof and the ledger (R503 to R525). Units are keyed by class × 8192 + index; each holds its eight columns. -/
structure LdgH where
  books : List (Nat × List Nat) := []
  /-- The live checkpoint, with the PLAN0 frame it is named by and the boundary it was taken at (R519). -/
  live : List (Nat × List Nat) := []
  liveFrame : Nat := 0
  closedAt : Nat := 0
  /-- The live checkpoint has been checked (R520). -/
  checked : Bool := true
  held : Option (List (Nat × List Nat)) := none
  /-- The PLAN0 frames at whose boundaries an epoch has been requested (R522). -/
  epochs : List Nat := []
  marks : List Mark := []
  /-- Check records by source id, or 8192 + destination id, newest first (R507). -/
  recs : List (Nat × List CheckRec) := []
  /-- Rectangle registers written whose values are not yet in force: (register address, value in force), and the PLAN0
  frame of the last such write (R505). -/
  rects : List (Nat × Word) := []
  rectAt : Nat := 0
  /-- The last four advances of RGEN, the newest first: the PLAN0 boundary, and the rectangle values in force up to it (R505). -/
  rgens : List (Nat × List (Nat × Word)) := []
  deriving DecidableEq, Repr

/-- A sample in a delay line: the 32-bit sample word, or a MUTE sample that no ledger column counts (R410). -/
structure Sample where
  word : Nat := 0
  counted : Bool := false
  deriving DecidableEq, Repr

/-- An audio source channel (R375 to R382, R393). -/
structure SrcH where
  /-- The delay line, oldest sample first. -/
  line : List Sample := []
  /-- Delay in force, and ticks during which the read point still waits (R381). -/
  delay : Nat := 0
  waits : Nat := 0
  /-- A dip in progress: ticks done, the delay it moves to, and whether the read point has moved (R380). -/
  dip : Option (Nat × Nat × Bool) := none
  /-- The sample word delivered at the last tick. -/
  cur : Nat := 0
  /-- NONPCM of a remote channel, whose status no register shows (R393). -/
  nonPcm : Bool := false
  /-- The channel status block in progress: samples of it, and its bits; and a complete block that has not been judged (R393). -/
  block : Option (Nat × Nat) := none
  status : Option Nat := none
  deriving DecidableEq, Repr

/-- The elastic store of one input (R378): sample frames of (channel, word), oldest first; the frame read last; and
whether it has filled to its start. -/
structure ElasticH where
  frames : List (List (Nat × Nat)) := []
  last : List (Nat × Nat) := []
  started : Bool := false
  deriving DecidableEq, Repr

/-- A running crossfade of an audio destination (R388). -/
structure FadeH where
  outgoing : Nat
  /-- Ticks N of the fade, and ticks done. -/
  ticks : Nat
  done : Nat := 0
  deriving DecidableEq, Repr

/-- An audio destination (R383 to R397): its output store, oldest sample first (none: the 32 samples of silence it
starts with), the sample read last, and its running crossfade. -/
structure DstH where
  store : Option (List Nat) := none
  last : Nat := 0
  fade : Option FadeH := none
  deriving DecidableEq, Repr

/-- An I²S port (R402 to R409). -/
structure I2sH where
  fifo : List (Nat × Nat) := []
  /-- Samples last received on channels 0 and 1. -/
  last : Nat × Nat := (0, 0)
  /-- Ticks of a ramp done: from 48 down to 0 towards silence, or up from 0; none when there is no ramp. -/
  ramp : Option (Bool × Nat) := none
  /-- `now` at the glitches of the last second. -/
  glitches : List Nat := []
  /-- `now` since when WS has run without a glitch and in range, and at the last WS edge that began a frame. -/
  clean : Option Nat := none
  wsAt : Option Nat := none
  lost : Bool := false
  deriving DecidableEq, Repr

/-- What flips at the next frame boundary (R484): the commit taken, if one was, its SEQ, and the layers that show a new state. -/
structure FlipH where
  seq : Nat
  taken : Option SetH
  layers : List (Nat × LayerH)
  deriving DecidableEq, Repr

/-- A region-push rectangle that waits: first tile, row, tiles, and pixels already in packets (R497). -/
structure RectH where
  tile : Nat
  row : Nat
  tiles : Nat
  done : Nat := 0
  deriving DecidableEq, Repr

/-- The region-push stream of a head (R495 to R499). -/
structure PushH where
  /-- Check of each tile at its last frame, by row × 64 + tile. -/
  tiles : List (Nat × Nat) := []
  /-- Tiles skipped in the previous frame. -/
  skipped : List Nat := []
  /-- The frame in progress: its number, whether it is a full frame and the first of a new timing, rows completed. -/
  frame : Nat := 0
  full : Bool := true
  retimed : Bool := false
  rows : Nat := 0
  /-- Rectangles still to send, and those and the packets sent for the frame. -/
  todo : List RectH := []
  rects : Nat := 0
  pkts : Nat := 0
  /-- Frames since the last full frame. -/
  age : Nat := 0
  /-- `now` before which the next packet may not start (R498). -/
  nextAt : Nat := 0
  deriving DecidableEq, Repr

/-- A multiviewer head (R463 to R502): what its registers do not show. -/
structure MvhH where
  /-- `now` at a write of EN = 1 that waits for the head's start, and plan frame of a write of EN = 0 that waits for its stop. -/
  starting : Option Nat := none
  stopping : Option Nat := none
  /-- Plan frame of the head's first frame (R466), and the first one that route proof compares (Table 13-2). -/
  base : Nat := 0
  clean : Nat := 0
  /-- Plan frame whose boundary was processed last, and plan frame of the last latch decision. -/
  at_ : Nat := 0
  decided : Option Nat := none
  pending : Option SetH := none
  /-- The displayed set; the set that the first latch after a retiming takes again (R489). -/
  shown : Option SetH := none
  again : Option SetH := none
  held : List (Nat × LayerH) := []
  flip : Option FlipH := none
  /-- Layers with an underrun in the frame in progress: bit j; and the lines from which they are transparent (R493). -/
  under : Nat := 0
  underAt : List (Nat × Nat) := []
  /-- Frames that KIND 0 layers read, and those they have selected for the next head frame: layer, input, frame (R469). -/
  reads : List (Nat × Nat × Nat) := []
  picks : List (Nat × Nat × Nat) := []
  /-- Frames of skim or copy rotations that layers hold: layer, input, whether it is a copy, frame (R469). -/
  holds : List (Nat × Nat × Bool × Nat) := []
  /-- LUT entries by ((bank × 16) + LUT) × 1024 + index, that differ from identity. -/
  lut : List (Nat × Nat) := []
  push : PushH := {}
  deriving DecidableEq, Repr

/-- A journal entry (R533, Table 14-3): stamp as PLAN0 frame and line, KIND, and its words. -/
structure JEntry where
  seq : Nat
  frame : Nat
  line : Nat
  kind : Nat
  words : List Nat
  /-- The master of a write, on the device that made it; on its twin the claim of the record's sender stands for it. -/
  master : Nat := 1
  deriving DecidableEq, Repr

/-- A record that a standby holds until its install point (R549). -/
inductive Held where
  /-- An OPREC: racker, result word and the groups as assigned. -/
  | oprec (r result : Nat) (groups : List PlanGroup)
  /-- An EFFECT: racker, line stamp, kind and words. -/
  | effect (r frame line kind : Nat) (words : List Nat)
  deriving DecidableEq, Repr

/-- A tone generator: ticks since its restart, and a restart that waits (R400, R401). -/
structure GenH where
  ticks : Nat := 0
  restart : Bool := false
  deriving DecidableEq, Repr

/-- The audio engine (R370 to R373). -/
structure AudH where
  /-- `now` at t_USE's tick, and ticks taken since. -/
  tickAt : Option Nat := none
  ticks : Nat := 0
  /-- `now` at which the next tick is due, and the part of a unit beyond it, in parts of the synthesiser's word (R370). -/
  next : Nat := 0
  frac : Nat := 0
  /-- The plan frame that stands at sequence position 0, for each plan (R372). -/
  anchors : List Nat := [0, 0, 0, 0, 0, 0, 0, 0]
  deriving DecidableEq, Repr

/-- The mode framing of a trellis or of the mirror port (Table 04-5, R556): what the CTN registers do not show, and what
they do not follow outside container mode. -/
structure CtnH where
  /-- Block framing state, headers that have passed in CHECK, consecutive bad blocks in LOCKED, index of the last block. -/
  state : Nat := 0
  check : Nat := 0
  bad : Nat := 0
  index : Nat := 0
  /-- SLOT_MAP of the last valid block received. -/
  map : Nat := 0
  /-- Gang layout of the input slots while the trellis is not in container mode, three bits a slot. -/
  codes : Nat := 0
  /-- Slots that count as absent for a bad gang code or for the skew of their group of links (R125, R126): bit s. -/
  barred : Nat := 0
  /-- Index of the next block to send (R112). -/
  next : Nat := 0
  /-- CTN_TRANS in force, bit q for area q (R132). -/
  trans : Nat := 0
  /-- Groups released to the block framing that do not make up a block yet, oldest first (R110, Table 04-5). -/
  rest : List (Bool × Nat) := []
  /-- The framing has been LOCKED since the direction last entered UP (R143). -/
  wasLocked : Bool := false
  deriving DecidableEq, Repr

/-- A neighbour on a trunk (R560): its address, its trellis, its twin's address, its mode and incarnation, the consecutive
superblocks with a HELLO of it and `now` at the last one. -/
structure NeighH where
  trunk : Nat
  addr : Nat
  far : Nat
  twin : Nat
  mode : Nat
  inc : Nat
  count : Nat
  at_ : Nat
  deriving DecidableEq, Repr

/-- An Onhan message (R557): TYPE, destination, source, hops, and its further content as words. -/
structure Msg where
  type : Nat
  dest : Nat
  src : Nat
  hops : Nat := 0
  body : List Nat
  deriving DecidableEq, Repr

/-- A request for a fabric lease: the device and its requester, PRIO, and what it asks for (R566). -/
structure ReqH where
  addr : Nat
  index : Nat
  prio : Nat
  id : Nat
  dur : Nat
  free : Bool
  srcDev : Nat
  slots : Nat
  deriving DecidableEq, Repr

/-- The fabric engine (R556 to R573). -/
structure FabH where
  neigh : List NeighH := []
  /-- Neighbour lists received in ROUTE: member, its trellis, and the address there (R561, Table 14-5). -/
  links : List (Nat × Nat × Nat) := []
  /-- PLAN0 frame of the last refresh of each routing entry, by address. -/
  fresh : List (Nat × Nat) := []
  /-- Twin address of each member, as its HELLO or ROUTE named it; 0x3F none. -/
  twins : List (Nat × Nat) := []
  /-- Reservation parameters that the conductor received with a request: reservation, source device, slots. -/
  asked : List (Nat × Nat × Nat) := []
  /-- Message credits held, by trunk; messages that wait for one, oldest first (R558). -/
  credits : List (Nat × Nat) := []
  queue : List (Nat × Msg) := []
  /-- Messages that wait for the next block of their trunk, oldest first (R557). -/
  outbox : List (Nat × Msg) := []
  /-- MAIL held for want of a route, with the PLAN0 frame since when (R559). -/
  stuck : List (Msg × Nat) := []
  /-- Highest term seen; PLAN0 frame of the last heartbeat followed; an election is due (R562). -/
  maxTerm : Nat := 0
  beat : Nat := 0
  trigger : Bool := false
  /-- It has compared its PLAN0 frame number with its conductor's since it joined it; the change that waits for its next
  PLAN0 frame boundary (R564). -/
  joined : Bool := false
  renumber : Option Int := none
  /-- Trunks on which it has received its own address (R560). -/
  conflict : List Nat := []
  /-- Requester index of the fabric leases whose holder is a peer, by id (R566). -/
  holders : List (Nat × Nat) := []
  /-- PLAN0 frame since when no conductor or candidate is reachable (R565). -/
  alone : Option Nat := none
  /-- Members that have been reachable, with the PLAN0 frame since when they are not; members excluded. -/
  lost : List (Nat × Nat) := []
  excluded : List Nat := []
  /-- Slots that an excluded member feeds: its address, and the trunk, first slot and number of slots (R565). -/
  silent : List (Nat × Nat × Nat × Nat) := []
  /-- The conductor's paths, by reservation (R567). -/
  paths : List (Nat × List HopH) := []
  /-- Runs that this device receives, forwards or feeds, by reservation. -/
  runs : List (Nat × RunH) := []
  /-- Sources fed into trunk channels by this device: trunk quarter-slot id, source id and width (R568, R569). -/
  feeds : List (Nat × Nat × Nat) := []
  /-- PLAN0 frame at which the fabric engine started: its incarnation (Table 14-5). -/
  started : Nat := 0
  /-- A LEASE_REQ of the host that waits: id, duration, PLAN0 frame of the request (R275). -/
  host : Option (Nat × Nat × Nat) := none
  /-- Remote sources whose records differ in rectangle digest (R569), by remote id. -/
  digest : List Nat := []
  /-- Incarnation of each address, as its last HELLO named it (R565). -/
  incs : List (Nat × Nat) := []
  /-- PLAN0 frame whose boundary the fabric engine has processed last. -/
  boundary : Nat := 0
  /-- INHERIT for the twin waits for a conductor (R554). -/
  inherit : Bool := false
  /-- Mode that the last ROUTE named (R561). -/
  told : Nat := 0
  /-- Address of the peer that held a fabric lease which has lapsed, by id (R275, R554). -/
  former : List (Nat × Nat) := []
  /-- Requests that have been decided before the messages that came ahead of them in the same cycle: the request, `now`, and its status and E
  (R566). -/
  decided : List (ReqH × Nat × Nat × Nat) := []
  deriving DecidableEq, Repr

/-- A mailbox channel (R587 to R598): epoch and sender code recorded in each slot; on channels 352 to 367 the receiver code of the
POST stands for the sender code. -/
structure ChnH where
  epochs : List Nat := [0, 0, 0, 0, 0, 0, 0, 0]
  codes : List Nat := [0, 0, 0, 0, 0, 0, 0, 0]
  /-- What has come about in the cycle `at_`: the slots freed, and how many frees and posts have applied ahead of their commands (R592). -/
  at_ : Nat := 0
  freed : List Nat := []
  frees : Nat := 0
  posts : Nat := 0
  deriving DecidableEq, Repr

/-- The mirror and fabric channels of one racker (R597 to R599). -/
structure MailH where
  /-- MSEQ of the message at RD of channel 320 + r, and how many slots from RD on have been sent and not acknowledged. -/
  mseq : Nat := 0
  sent : Nat := 0
  /-- MSEQ last delivered into channel 336 + r; MAIL records held while it is full: MSEQ and 64 words. -/
  got : Option Nat := none
  held : List (Nat × List Nat) := []
  /-- Rings to the twin that wait for the link: bit k for doorbell bit k. -/
  rings : Nat := 0
  /-- Slots from RD on of channel 352 + r that have been sent and not acknowledged. -/
  away : Nat := 0
  /-- MAIL messages held while channel 368 + r is full: source address, sender code and 64 words. -/
  wait : List (Nat × Nat × List Nat) := []
  deriving DecidableEq, Repr

/-- A record of the boot record (R576). -/
structure BootRec where
  gen : Nat := 0
  slot : Nat := 0
  previous : Nat := 0
  trial : Bool := false
  crashes : Nat := 0
  deriving DecidableEq, Repr

/-- A log record in NOR (Table 15-5). -/
structure NorRec where
  seq : Nat
  rec_ : LogRec
  severity : Nat
  origin : Nat
  boot : Nat
  deriving DecidableEq, Repr

/-- The NOR flash (Table 15-2): boot record copies, image slots, stores and log. -/
structure NorH where
  boot0 : Option BootRec := none
  boot1 : Option BootRec := none
  /-- Bytes of the image slots that differ from 0xFF, by offset. -/
  slotA : List (Nat × Nat) := []
  slotB : List (Nat × Nat) := []
  /-- Configuration store and pre-migration store. -/
  store : List Nat := []
  before : List Nat := []
  log : List NorRec := []
  deriving DecidableEq, Repr

/-- The alarm counters of a sensor (R581): consecutive updates below LO, above HI and within the limits; and whether its
self-check has failed (R580). -/
structure SensH where
  low : Nat := 0
  high : Nat := 0
  clear : Nat := 0
  failed : Bool := false
  deriving DecidableEq, Repr

/-- The management controller (R574 to R617): what its registers do not show. -/
structure MgtH where
  /-- Length announced by UPD_BEGIN; `now` at the start of the health window; `now` since when the health checks pass. -/
  length : Nat := 0
  window : Nat := 0
  healthy : Option Nat := none
  /-- Migration has completed, and it has dropped no record (R610, R612). -/
  migrated : Bool := false
  dropped : Bool := false
  /-- A log record has been late for NOR, or NOR has failed, during the trial. -/
  logBad : Bool := false
  /-- Channel (394: the control bus), sequence number and sender's MAC address of the UPD_VERIFY in progress. -/
  verify : Option (Nat × Nat × Nat) := none
  deriving DecidableEq, Repr

/-- A control bus frame: addresses, EtherType and payload bytes. -/
structure CbsFrame where
  dest : Nat
  src : Nat
  etype : Nat
  bytes : List Nat
  deriving DecidableEq, Repr

/-- The control bus MAC (R603 to R605). -/
structure CbsH where
  rx : List CbsFrame := []
  tx : List CbsFrame := []
  /-- Collisions of the frame at the head, and the end of a backoff that runs. -/
  tries : Nat := 0
  backoff : Option Nat := none
  deriving DecidableEq, Repr

/-- The JTAG port (R675, R676). -/
structure JtagH where
  /-- Instruction register. -/
  ir : Nat := 1
  /-- Boundary-scan cells that drive the 1.8 V outputs, and the levels captured last. -/
  cells : Nat := 0
  captured : Nat := 0
  /-- DBGACC: an access in progress (write, address, data); a command has been ignored for it; status, address of the last
  access and data of the last completed read. -/
  busy : Option (Bool × Nat × Nat) := none
  ignored : Bool := false
  status : Nat := 0
  addr : Nat := 0
  data : Nat := 0
  /-- The register as loaded by the last Capture-DR. -/
  dr : Nat := 0
  deriving DecidableEq, Repr

/-- Pins: what no register shows. -/
structure PinH where
  /-- Qualified levels of GPI[15:0] (R660), and `now` at the last one that qualified. -/
  gpi : Nat := 0
  gpiAt : Nat := 0
  /-- Levels of the straps: DEV_ADDR and TWIN_SIDE (R656). -/
  devAddr : Nat := 0
  twinSide : Nat := 0
  /-- VIN in mV, as the supply monitor saw it last. -/
  vin : Nat := 12000
  /-- `now` at the last rising edge of PPS_OUT and of PPS_IN; the last PPS_IN edge was out of range (R662, R663). -/
  ppsOut : Option Nat := none
  ppsIn : Option Nat := none
  ppsBad : Bool := false
  deriving DecidableEq, Repr

/-- What the device has put on its lanes, links and pins, newest first in `State.out`. -/
inductive Out where
  /-- An MSI-X message of function `fn` on vector `vec` (R629, R630). -/
  | msix (fn vec : Nat)
  /-- One LANE_OFF group on every lane of trellis `n`, then electrical idle (R94). -/
  | laneOff (n : Nat)
  /-- Symbols sent on the lanes of trellis `n`, one list per lane, oldest first (R75 to R85). -/
  | lanes (n : Nat) (symbols : List (List Nat))
  /-- Trellis `n` sends through an equaliser with these coefficients c(-1), c(0), c(+1), in hundredths (R67, Table 03-2). -/
  | equaliser (n : Nat) (pre main post : Int)
  /-- Lane `l` of trellis `n` starts to send pattern `sel` (R105), or with `none` stops. -/
  | pattern (n l : Nat) (sel : Option Nat)
  /-- Sample words read from the output store of audio destination `a` by its reader (R396, R409). -/
  | samples (a : Nat) (words : List Nat)
  /-- A frame of I²S port `k`: the words of channels 0 and 1 (R402). -/
  | i2sFrame (k left right : Nat)
  /-- An aligned output frame begins at output `d` with this tag and this audio sample count (R326, R373). -/
  | frame (d tag count : Nat)
  /-- A mirror record on the mirror port: its TYPE and its data groups after LEN, without the CRC (R530). -/
  | mirror (type : Nat) (groups : List Nat)
  /-- A mirror record whose layout the spec does not give: an OPREC or EFFECT (R541), or an IMAGE (R548). -/
  | oprec (r result : Nat) (groups : List PlanGroup)
  | effect (r kind : Nat) (words : List Nat)
  | image (i : Image)
  /-- An Onhan message on trunk `n`: its TYPE, destination address and body words (R557). -/
  | onhan (n : Nat) (m : Msg)
  /-- An Ethernet frame or fragment on trellis `n`: its SMD and its bytes (R412). -/
  | ether (n smd : Nat) (bytes : List Nat)
  /-- A STATUS group on packet-mode trellis `n` with its argument (R415). -/
  | status (n arg : Nat)
  /-- A control bus frame, and a jam (R603). -/
  | cbs (f : CbsFrame)
  | jam
  /-- A rising edge of PPS_OUT (R662). -/
  | pps
  /-- TWIN_CLAIM_OUT or TWIN_FENCE_OUT changes to this level (R129, R527, R545, R547). -/
  | claimOut (level : Bool)
  | fenceOut (level : Bool)
  deriving DecidableEq, Repr

/-- An access over the control matrix: its master, its direction, its matrix address, its length in bytes and the data of a
write, little-endian (R623, R631). -/
structure Access where
  master : Nat
  write : Bool
  addr : Nat
  len : Nat
  data : Nat := 0
  deriving DecidableEq, Repr

/-- The twin link (R526 to R555). -/
structure TwnH where
  /-- Last valid STATE: the instant, CLAIM, FENCED, and relinquish cause. -/
  stateAt : Option Nat := none
  peerClaim : Bool := false
  peerFenced : Bool := false
  peerCause : Nat := 0
  /-- PLAN0 frame of the last entry to STANDBY (R529). -/
  standbyFrame : Nat := 0
  /-- `now` at that entry (R529). -/
  standbyAt : Nat := 0
  /-- Cause of the last relinquish of this device (Table 14-2, group 10). -/
  cause : Nat := 0
  /-- Retained journal entries that the twin has not acknowledged (R538), and entries that wait for their stamp (R535). -/
  journal : List JEntry := []
  waiting : List JEntry := []
  /-- Journal-class writes that stall because the journal is full, and the later accesses of their masters that the ordering
  guard holds back (R538, R641, R642). -/
  stalled : List Access := []
  /-- Mirror credits in units of 64 groups: held by this sender, and freed by this receiver and not yet returned (R532). -/
  credits : Nat := 0
  freed : Nat := 0
  /-- Records that wait for mirror credits, oldest first, with the units each needs (R532). -/
  queue : List (Nat × Out) := []
  /-- PT_RESYNC set by racker r since the last STATE: bit r. -/
  resync : Nat := 0
  /-- A catch-up has been requested and not installed; its stamp S, once it is known (R548). -/
  wants : Bool := false
  stamp : Option Nat := none
  /-- The claim holder is to capture at PLAN0 frame S (R548). -/
  captureAt : Option Nat := none
  image : Option Image := none
  /-- Records held until the install point, oldest first (R549). -/
  held : List Held := []
  /-- `now` at which TWIN_FENCE_OUT was asserted, while FENCE_WAIT runs (R545). -/
  fencing : Option Nat := none
  /-- `now` since when TWIN_CLAIM_IN has been low, and since when it was last high (R528, R544). -/
  claimLow : Option Nat := some 0
  /-- Address of the twin, as its STATE records name it. -/
  peerAddr : Nat := 0x3F
  /-- Changes of plan frame numbers that wait for a boundary of their plan (R540, R549): plan, change, and the plan's frame. -/
  adopt : List (Nat × Nat × Nat) := []
  /-- A journal entry has arrived out of SEQ order: the next STATE reports the SEQ expected (R539). -/
  gap : Bool := false
  /-- The whole image has arrived, in the PLAN0 frame given (R549). -/
  whole : Option Nat := none
  /-- Map entries of an installed image that wait for a switch line of their plan (R549). -/
  landing : List PlanGroup := []
  deriving DecidableEq, Repr

/-- The state of the block. -/
structure State where
  /-- Commands that wait, first in, first out. -/
  pending : List Instr
  /-- Registers and memories of BAR0: the words that differ from their reset value, by byte address. -/
  regs : List (Nat × Word)
  /-- Time, in sixths of a nanosecond. -/
  now : Nat
  /-- What the last read over the control matrix returned, little-endian; all ones for a refused read of the host (R624). -/
  lastRead : Nat
  /-- How many free values have been drawn (the model's own field: it numbers the values the spec leaves open). -/
  free : Nat
  out : List Out
  log : List LogRec
  top : TopH
  trl : List (Nat × TrlH)
  cand : List (Nat × CandH)
  dpll : DpllH
  plan : List (Nat × PlanH)
  syn : List (Nat × SynH)
  ptp : List (Nat × PtpH)
  rck : List (Nat × RckH)
  pci : PciH
  ins : List (Nat × InH)
  outs : List (Nat × OutH)
  adm : AdmH
  chans : List (Nat × ChanH)
  ldg : LdgH
  aud : AudH
  src : List (Nat × SrcH)
  /-- Elastic stores by input id (R378). -/
  est : List (Nat × ElasticH)
  dst : List (Nat × DstH)
  gens : List (Nat × GenH)
  i2s : List (Nat × I2sH)
  mvh : List (Nat × MvhH)
  twn : TwnH
  /-- Packet classifier entries by index, four words each (R430). -/
  cls : List (Nat × List Nat)
  rx : List (Nat × RxH)
  tx : List (Nat × TxH)
  mac : List (Nat × MacH)
  ctn : List (Nat × CtnH)
  fab : FabH
  chn : List (Nat × ChnH)
  mail : List (Nat × MailH)
  nor : NorH
  /-- OTP bytes that are not 0, by byte offset (Table 15-13). -/
  otp : List (Nat × Nat)
  mgt : MgtH
  sens : List (Nat × SensH)
  cbs : CbsH
  jtag : JtagH
  pin : PinH
  /-- Bytes of cellar region 3, where host software draws through the aperture (R626), that differ from 0. -/
  cellar : List Host.Cell
  deriving DecidableEq, Repr

/-- The device right after reset: at power-on, held in device reset until VIN is valid (R25, R33); every register at
its reset value, every memory empty, nothing pending. -/
def State.reset : State where
  pending := []
  regs := []
  now := 0
  lastRead := 0
  free := 0
  out := []
  log := []
  top := {}
  trl := []
  cand := []
  dpll := {}
  plan := []
  syn := []
  ptp := []
  rck := []
  pci := {}
  ins := []
  outs := []
  adm := {}
  chans := []
  ldg := {}
  aud := {}
  src := []
  est := []
  dst := []
  gens := []
  i2s := []
  mvh := []
  twn := {}
  cls := []
  rx := []
  tx := []
  mac := []
  ctn := []
  fab := {}
  chn := []
  mail := []
  nor := {}
  otp := []
  mgt := {}
  sens := []
  cbs := {}
  jtag := {}
  pin := {}
  cellar := []

end Sys2Proof.Machine
end

