-- ==== Sys2Proof/Machine/Ops.lean ====
section
/-! DEFINITION. The named operations over registers, time, plan positions, the event log and interrupts that every
meaning is written in. -/

namespace Sys2Proof.Machine

/-! ## Registers -/

/-- The word at a byte address of BAR0. -/
def State.word (s : State) (a : Nat) : Word := storeGet resetWord s.regs a

/-- Write the word at a byte address of BAR0. -/
def State.setWord (s : State) (a : Nat) (w : Word) : State := { s with regs := storeSet resetWord s.regs a w }

/-- The value of a field. -/
def State.rd (s : State) (f : Field) : Nat := fieldGet f (s.word f.addr)

/-- Write a field, leaving the other bits of its word. -/
def State.wr (s : State) (f : Field) (v : Nat) : State := s.setWord f.addr (fieldPut f (s.word f.addr) v)

/-- Whether a field is not 0. -/
def State.on (s : State) (f : Field) : Bool := s.rd f != 0

/-- The signed value of a field. -/
def State.rdInt (s : State) (f : Field) : Int := signedOf f.width (s.rd f)

/-- Write a signed field, saturating at its range. -/
def State.wrInt (s : State) (f : Field) (v : Int) : State := s.wr f (codeOf f.width (clampSigned f.width v))

/-- Write a one-bit field from a truth value. -/
def State.wrB (s : State) (f : Field) (b : Bool) : State := s.wr f (ofBool b)

/-- Add to a counter field that saturates at its largest value. -/
def State.bumpBy (s : State) (f : Field) (n : Nat) : State := s.wr f (min (s.rd f + n) (2 ^ f.width - 1))

/-- Count one in a saturating counter field. -/
def State.bump (s : State) (f : Field) : State := s.bumpBy f 1

/-- Apply an update only where a condition holds. -/
def State.when (s : State) (b : Bool) (f : State → State) : State := if b then f s else s

/-- Apply an update for every number below `n`, in rising order. -/
def State.forN (s : State) (n : Nat) (f : Nat → State → State) : State := foldOver (rangeFrom 0 n) f s

/-- Apply an update for every element of a list, first to last. -/
def State.forL {α : Type} (s : State) (l : List α) (f : α → State → State) : State := foldOver l f s

/-- Return every register from address `lo` up to, not including, `hi` to its reset value. -/
def State.resetRange (s : State) (lo hi : Nat) : State :=
  { s with regs := s.regs.filter fun e => !(decide (lo ≤ e.1) && decide (e.1 < hi)) }

/-! ## Hidden records -/

def State.trlH (s : State) (n : Nat) : TrlH := storeGet (fun _ => {}) s.trl n
def State.setTrlH (s : State) (n : Nat) (h : TrlH) : State := { s with trl := storeSet (fun _ => {}) s.trl n h }
def State.candH (s : State) (c : Nat) : CandH := storeGet (fun _ => {}) s.cand c
def State.setCandH (s : State) (c : Nat) (h : CandH) : State := { s with cand := storeSet (fun _ => {}) s.cand c h }
def State.planH (s : State) (p : Nat) : PlanH := storeGet (fun _ => {}) s.plan p
def State.setPlanH (s : State) (p : Nat) (h : PlanH) : State := { s with plan := storeSet (fun _ => {}) s.plan p h }

def State.synH (s : State) (i : Nat) : SynH := storeGet (fun _ => {}) s.syn i
def State.setSynH (s : State) (i : Nat) (h : SynH) : State := { s with syn := storeSet (fun _ => {}) s.syn i h }
def State.ptpH (s : State) (n : Nat) : PtpH := storeGet (fun _ => {}) s.ptp n
def State.setPtpH (s : State) (n : Nat) (h : PtpH) : State := { s with ptp := storeSet (fun _ => {}) s.ptp n h }

def State.rckH (s : State) (r : Nat) : RckH := storeGet (fun _ => {}) s.rck r
def State.setRckH (s : State) (r : Nat) (h : RckH) : State := { s with rck := storeSet (fun _ => {}) s.rck r h }

def State.ctnH (s : State) (n : Nat) : CtnH := storeGet (fun _ => {}) s.ctn n
def State.setCtnH (s : State) (n : Nat) (h : CtnH) : State := { s with ctn := storeSet (fun _ => {}) s.ctn n h }
def State.chnH (s : State) (c : Nat) : ChnH := storeGet (fun _ => {}) s.chn c
def State.setChnH (s : State) (c : Nat) (h : ChnH) : State := { s with chn := storeSet (fun _ => {}) s.chn c h }
def State.mailH (s : State) (r : Nat) : MailH := storeGet (fun _ => {}) s.mail r
def State.setMailH (s : State) (r : Nat) (h : MailH) : State := { s with mail := storeSet (fun _ => {}) s.mail r h }
def State.sensH (s : State) (i : Nat) : SensH := storeGet (fun _ => {}) s.sens i
def State.setSensH (s : State) (i : Nat) (h : SensH) : State := { s with sens := storeSet (fun _ => {}) s.sens i h }
/-- An OTP byte (Table 15-13). -/
def State.otpByte (s : State) (a : Nat) : Nat := storeGet (fun _ => 0) s.otp a
def State.setOtpByte (s : State) (a v : Nat) : State := { s with otp := storeSet (fun _ => 0) s.otp a v }
/-- `n` bytes of the OTP from an offset, little-endian. -/
def State.otpField (s : State) (a n : Nat) : Nat := (rangeFrom 0 n).foldl (fun v k => v + s.otpByte (a + k) * 256 ^ k) 0

/-- Lane `l` of trellis `n`. -/
def State.laneH (s : State) (n l : Nat) : LaneH := (s.trlH n).lanes.getD l {}
/-- Replace lane `l` of trellis `n`. -/
def State.setLaneH (s : State) (n l : Nat) (h : LaneH) : State :=
  s.setTrlH n { s.trlH n with lanes := listSet (s.trlH n).lanes l h }

/-! ## Time and plan positions

Time runs in sixths of a nanosecond, in which every frame period of Table 05-3 is a whole number. -/

/-- One nanosecond. -/
abbrev ns : Nat := 6
/-- One microsecond. -/
abbrev us : Nat := 6000
/-- One millisecond. -/
abbrev ms : Nat := 6000000
/-- One second. -/
abbrev sec : Nat := 6000000000

/-- The frame period of a rate code (Table 05-3). -/
def framePeriod (rate : Nat) : Nat :=
  match rate with
  | 0 => 250250000 | 1 => 250000000 | 2 => 240000000 | 3 => 200200000
  | 4 => 200000000 | 5 => 120000000 | 6 => 100100000 | _ => 100000000

/-- Total lines of a format code (Table 05-4). -/
def totalLines (format : Nat) : Nat :=
  match format with
  | 0 => 525 | 1 => 625 | 2 => 750 | _ => 1125

/-- Luma samples per line of a format at a rate (Table 05-4). -/
def samplesPerLine (format rate : Nat) : Nat :=
  match format with
  | 0 => 858
  | 1 => 864
  | 2 => if rate = 5 then 1980 else 1650
  | 3 => if rate = 2 then 2640 else 2200
  | 4 | 5 => if rate ≤ 1 then 2750 else if rate = 2 ∨ rate = 5 then 2640 else 2200
  | _ => if rate ≤ 1 then 11000 else if rate = 2 ∨ rate = 5 then 10560 else 8800

/-- Whether Table 05-4 allows a format at a rate. -/
def rateAllowed (format rate : Nat) : Bool :=
  match format with
  | 0 => rate == 3
  | 1 => rate == 2
  | 2 => rate == 5 || rate == 6 || rate == 7
  | 3 => rate == 2 || rate == 3 || rate == 4
  | 4 => decide (rate ≤ 4)
  | _ => decide (rate ≤ 7)

/-- The switch lines of a format, given PLN_CFG.FIELDS (Table 05-4, R190). -/
def switchLines (format : Nat) (fields : Bool) : List Nat :=
  match format with
  | 0 => if fields then [10, 273] else [10]
  | 1 => if fields then [6, 319] else [6]
  | 3 => if fields then [7, 569] else [7]
  | _ => [7]

/-- Whether a format is interlaced (R164). -/
def interlaced (format : Nat) : Bool := format == 0 || format == 1 || format == 3

/-- A plan position: frame number (unwrapped), line from 1, sample from 0. -/
structure Pos where
  frame : Nat
  line : Nat
  sample : Nat
  deriving DecidableEq, Repr

/-- Line and sample of an instant that lies `x` after the start of a frame. -/
def linePos (format rate frame x : Nat) : Pos :=
  let f := framePeriod rate
  let l := totalLines format
  { frame := frame, line := x * l / f + 1, sample := x * l % f * samplesPerLine format rate / f }

/-- The position of a plan at time `t`: within the anchor frame, which may be of any length, and from its end on in
frames of the plan's period. -/
def PlanH.posAt (h : PlanH) (t : Nat) : Pos :=
  let e := t - h.anchorT
  if e < h.segLen then linePos h.format h.rate h.anchorF e
  else
    let f := framePeriod h.rate
    linePos h.format h.rate (h.anchorF + 1 + (e - h.segLen) / f) ((e - h.segLen) % f)

/-- The time at which frame `k` of a plan begins, for a frame from the anchor on. -/
def PlanH.frameStart (h : PlanH) (k : Nat) : Nat :=
  if k ≤ h.anchorF then h.anchorT else h.anchorT + h.segLen + (k - h.anchorF - 1) * framePeriod h.rate

/-- The time at which a line of a frame of a plan begins. -/
def PlanH.lineStart (h : PlanH) (k line : Nat) : Nat :=
  h.frameStart k + ((line - 1) * framePeriod h.rate + totalLines h.format - 1) / totalLines h.format

/-- The length of frame `k` of a plan. -/
def PlanH.frameLen (h : PlanH) (k : Nat) : Nat := if k ≤ h.anchorF then h.segLen else framePeriod h.rate

/-- The position of plan `p` now. A plan that does not run stands at the start of the frame it will begin with. -/
def State.pos (s : State) (p : Nat) : Pos :=
  if s.on (PLN_STATUS_RUN p) then (s.planH p).posAt s.now else { frame := (s.planH p).anchorF, line := 1, sample := 0 }

/-- The frame number of plan `p` now, unwrapped. -/
def State.frameOf (s : State) (p : Nat) : Nat := (s.pos p).frame

/-- The PLAN0 frame number now, unwrapped: leases, the ledger and the twin count these frames. -/
def State.frame0 (s : State) : Nat := s.frameOf 0

/-- A frame number as registers and messages carry it. -/
def wrap32 (n : Nat) : Nat := n % 2 ^ 32

/-- How many lines of a plan have begun at time `t`, all the plan's lines counted since reset: those of bridge frames, of extensions and
those that a cut shortens too (R278). -/
def PlanH.linesBy (h : PlanH) (t : Nat) : Nat :=
  let f := framePeriod h.rate
  let l := totalLines h.format
  let e := t - h.anchorT
  if t < h.anchorT then h.lines
  else if e < h.segLen then h.lines + e * l / f + 1
  else h.lines + (h.segLen * l + f - 1) / f + (e - h.segLen) / f * l + (e - h.segLen) % f * l / f + 1

/-- The instant at which the `n`-th line of a plan begins, counted like `linesBy`, in the timing in force. -/
def PlanH.lineAt (h : PlanH) (n : Nat) : Nat :=
  let f := framePeriod h.rate
  let l := totalLines h.format
  let first := (h.segLen * l + f - 1) / f
  let m := n - h.lines - 1
  if m < first then h.anchorT + (m * f + l - 1) / l else h.anchorT + h.segLen + ((m - first) * f + l - 1) / l

/-- How many lines of a plan have begun before time `t`. -/
def PlanH.linesTo (h : PlanH) (t : Nat) : Nat := if t ≤ h.anchorT then h.lines else h.linesBy (t - 1)

/-- Anchor a running plan at the frame it is in, before its timing is changed. -/
def PlanH.reanchor (h : PlanH) (t : Nat) : PlanH :=
  let k := (h.posAt t).frame
  { h with anchorT := h.frameStart k, anchorF := k, segLen := h.frameLen k, lines := h.linesTo (h.frameStart k) }

/-- Device time in nanoseconds (R452): it starts at 0 at t0 and never steps. -/
def State.deviceNs (s : State) : Nat := (s.now - s.top.t0) / ns

/-! ## The event log, interrupts and output -/

/-- Put something on the block's outputs. -/
def State.emit (s : State) (o : Out) : State := { s with out := o :: s.out }

/-- Capture an event in the hardware log buffer of 4,096 records; a capture that finds it full is lost (R583). -/
def State.capture (s : State) (block event arg : Nat) : State :=
  if s.log.length < 4096 then
    { s with log := s.log ++ [{ frame := wrap32 s.frame0, line := (s.pos 0).line, event := event, block := block,
                                dtNs := s.deviceNs, arg := arg }] }
  else s.bump MGT_LOG_LOST_COUNT

/-- Code of an event that has no register bit: from 0x80 to 0xFF (Table 15-5). -/
def eventOf (kind arg : Nat) : Nat := 0x80 + Config.eventCode kind arg % 128

/-- Bits [27:20] of the base address of the block an address belongs to (Table 15-5). -/
def logBlock (a : Nat) : Nat :=
  match blockOf a with
  | .top => 0x00 | .pwr => 0x01 | .ref => 0x02 | .syn => 0x03 | .pln => 0x04 | .trl => 0x08 | .ctn => 0x0C
  | .xpt => 0x10 | .clr => 0x14 | .aud => 0x18 | .i2s => 0x19 | .pkt => 0x1C | .ptp => 0x1E | .rck r => 0x20 + r
  | .salvo => 0x30 | .rckShared => 0x30 | .mvh => 0x31 | .prf => 0x34 | .ldg => 0x36 | .twn => 0x38 | .fab => 0x39
  | .mgt => 0x3A | .mbx => 0x3B | .cbs => 0x3C | .upd => 0x3D | .mtx => 0x3E | .pci => 0x3F

/-- Whether an address is that of a block's event register, whose bits are logged as they are set (R583). -/
def isEventReg (a : Nat) : Bool :=
  match blockOf a with
  | .ref => a == REF_EVENT | .syn => a == SYN_EVENT | .xpt => a == XPT_EVENT | .clr => a == CLR_ADM_EVENT
  | .aud => a == AUD_EVENT | .i2s => a == I2S_EVENT
  | .ptp => decide (a < 0x1E02400) && a % 0x100 == 0x0C
  | .mvh => decide (a < 0x3300000) && a % 0x10000 == 0x008
  | .prf => a == PRF_EVENT | .twn => a == TWN_EVENT | .fab => a == FAB_EVENT | .upd => a == UPD_EVENT
  | .mtx => a == MTX_EVENT | .pci => a == PCI_EVENT
  | _ => false

/-- The interrupt source that a W1C bit at an address belongs to (Table 16-2). -/
def sourceOf (a : Nat) : Option Nat :=
  match blockOf a with
  | .top => if a = TOP_STATUS then some 19 else none
  | .pwr => if a = PWR_STATUS ∨ a = PWR_DOM_ERR then some 19 else none
  | .ref => if a = REF_EVENT then some 20 else none
  | .pln => if a % 0x100 = 0x08 then some 20 else none
  | .syn => if a = SYN_EVENT then some 21 else none
  | .trl => if a % 0x4000 = 0x04 then some 22 else none
  | .ctn => if a % 0x4000 = 0x04 then some 23 else none
  | .xpt => if a = XPT_EVENT then some 24 else none
  | .clr => if a = CLR_ADM_EVENT then some 24 else none
  | .aud => if a = AUD_EVENT then some 25 else none
  | .i2s => if a = I2S_EVENT then some 25 else none
  | .pkt =>
    if a < 0x1D00000 then (if a % 0x4000 = 0x04 then some 26 else none)
    else if a < 0x1D40000 then (if a % 0x20 = 0x14 then some 26 else none)
    else if a < 0x1D80000 then (if a % 0x40 = 0x34 then some 26 else none) else none
  | .ptp => if isEventReg a then some 27 else none
  | .rck _ => if a % 0x100000 = 0x20008 then some 28 else none
  | .rckShared => if a = RCK_SH_STATUS then some 28 else none
  | .mvh => if isEventReg a then some 29 else none
  | .prf => if a = PRF_EVENT then some 30 else none
  | .ldg => if a = LDG_STATUS then some 31 else none
  | .twn => if a = TWN_EVENT then some 32 else none
  | .fab => if a = FAB_EVENT then some 33 else none
  | .mbx => if a = MBX_STATUS then some 35 else none
  | .upd => if a = UPD_EVENT then some 36 else none
  | .mtx => if a = MTX_EVENT then some 37 else none
  | .pci => if a = PCI_EVENT then some 38 else none
  | _ => none

/-- The W1C bits of the register at an address. -/
def w1cMask (a : Nat) : Nat :=
  match regAt a with
  | some (d, _) => d.w1c
  | none => 0

/-- Whether an interrupt source fed by W1C bits is asserted (Table 16-2). -/
def State.asserted (s : State) (k : Nat) : Bool :=
  s.regs.any fun e => decide (sourceOf e.1 = some k) && decide (e.2.toNat &&& w1cMask e.1 ≠ 0)

/-- The function that an interrupt source belongs to (Table 16-2). -/
def sourceFn (k : Nat) : Nat := if k < 40 then 0 else 1

/-- A source sends one message on its vector: held pending while the vector is masked or the function is in D3hot
(R622, R628, R629). -/
def State.sendMsix (k : Nat) (s : State) : State :=
  if s.on (PCI_VEC_MAP_EN k) then
    let fn := sourceFn k
    let v := s.rd (PCI_VEC_MAP_VEC k)
    if s.pci.d3.getD fn false || storeGet (fun _ => true) s.pci.masked (fn * 64 + v) then
      { s with pci := { s.pci with pend := storeSet (fun _ => false) s.pci.pend (fn * 64 + v) true } }
    else s.emit (.msix fn v)
  else s

/-- Note that hardware sets a W1C bit now: a clearing write of the same cycle leaves it set (R12). -/
def State.noteEvent (f : Field) (s : State) : State :=
  let old := if s.pci.setAt = s.now then s.pci.setNow else []
  { s with pci := { s.pci with setAt := s.now, setNow := if old.contains (f.addr, f.lo) then old else (f.addr, f.lo) :: old } }

/-- The W1C bits of the register at an address that hardware has set in this cycle (R12). -/
def State.setBits (s : State) (a : Nat) : Nat :=
  if s.pci.setAt = s.now then (s.pci.setNow.filter fun e => e.1 == a).foldl (fun m e => m ||| 2 ^ e.2) 0 else 0

/-- Set a W1C event bit: log it where it is a bit of a block's event register, and send an interrupt message when its
source becomes asserted (R583, R630). A bit that is already set stays as it is. -/
def State.setEvent (f : Field) (arg : Nat) (s : State) : State :=
  if s.on f then s
  else
    let s1 := s.wr f 1
    let s2 := if isEventReg f.addr then s1.capture (logBlock f.addr) (f.lo + 1) arg else s1
    match sourceOf f.addr with
    | none => s2
    | some k =>
      if s.asserted k then s2
      else if k = 36 then (s2.sendMsix 36).sendMsix 45
      else s2.sendMsix k

/-- Hardware sets a W1C event bit with an argument (R12, R583, R630). -/
def State.raiseArg (f : Field) (arg : Nat) (s : State) : State := (s.noteEvent f).setEvent f arg

/-- Set a W1C event bit without an argument. -/
def State.raise (f : Field) (s : State) : State := s.raiseArg f 0

/-! ## Modes -/

/-- The twelve modes (Table 02-4). -/
inductive Mode where
  | startup | default | solo | active | standby | takeover | relinquished | isolated | frozen | diagnostic | quiesce | safe
  deriving DecidableEq, Repr

/-- The code of a mode (Table 02-4). -/
def Mode.code : Mode → Nat
  | .startup => 0 | .default => 1 | .solo => 2 | .active => 3 | .standby => 4 | .takeover => 5 | .relinquished => 6
  | .isolated => 7 | .frozen => 8 | .diagnostic => 9 | .quiesce => 10 | .safe => 11

/-- The mode of a code; codes above 11 do not occur in TOP_MODE. -/
def Mode.ofCode : Nat → Mode
  | 0 => .startup | 1 => .default | 2 => .solo | 3 => .active | 4 => .standby | 5 => .takeover | 6 => .relinquished
  | 7 => .isolated | 8 => .frozen | 9 => .diagnostic | 10 => .quiesce | _ => .safe

/-- The mode the device is in (R52). -/
def State.mode (s : State) : Mode := Mode.ofCode (s.rd TOP_MODE_MODE)

/-- The mode to which FROZEN returns (R58). -/
def State.frzRet (s : State) : Mode := Mode.ofCode (s.rd TOP_MODE_FRZ_RET)

/-- The mode to which ISOLATED returns (R58). -/
def State.isoRet (s : State) : Mode := Mode.ofCode (s.rd TOP_MODE_ISO_RET)

/-- Record a mode transition: the new mode, the mode left, the cause, and the PLAN0 position of the transition; log it
and send its interrupt message (R52, R58, R583, Table 16-2 source 18). -/
def State.recordMode (m : Mode) (cause : Nat) (s : State) : State :=
  let p := s.pos 0
  let s := s.wr TOP_MODE_PREV_MODE (s.rd TOP_MODE_MODE)
  let s := (s.wr TOP_MODE_MODE m.code).wr TOP_MODE_CAUSE cause
  let s := (s.wr TOP_MODE_TSF_FRAME (wrap32 p.frame)).wr TOP_MODE_TSL_LINE p.line
  (s.capture 0 (eventOf 0 m.code) cause).sendMsix 18

/-- Whether a switched domain is powered and ready (R37). -/
def State.domReady (s : State) (i : Nat) : Bool := bit (s.rd (PWR_DOM_STAT_READY (i / 32))) (i % 32)

/-- The logic PLL that feeds a switched domain (Table 06-5): 0 core, 1 racker, 2 cellar, 4 PCIe. -/
def pllOf (i : Nat) : Nat := if 89 ≤ i ∧ i ≤ 92 then 1 else if 37 ≤ i ∧ i ≤ 40 then 2 else if i = 94 then 4 else 0

/-- Whether a domain is fed through the safe clock by the core or the cellar PLL (R233). -/
def State.slowed (s : State) (i : Nat) : Bool := pllOf i % 2 == 0 && pllOf i != 4 && bit (s.rd SYN_STATUS_ON_SAFE) (pllOf i)

/-- Whether the block of a switched domain carries signal: it is ready, and does not run on the safe clock (R23, R233). -/
def State.carries (s : State) (i : Nat) : Bool := s.domReady i && !s.slowed i

/-- Whether the cellar serves reads and writes: every stack carries (R23, R233). -/
def State.cellarUp (s : State) : Bool := (rangeFrom 37 4).all fun i => s.carries i

/-- Set or clear the ready bit of a switched domain. -/
def State.setReady (i : Nat) (b : Bool) (s : State) : State :=
  let f : Field := ⟨PWR_DOM_STAT (i / 32), i % 32, 1⟩
  s.wrB f b

/-- Draw a fresh number for a value that the spec leaves open. -/
def State.draw (s : State) : State := { s with free := s.free + 1 }

end Sys2Proof.Machine
end

