-- ==== Sys2Proof/Machine/Lanes.lean ====
section
/-! DEFINITION. The lane layer of the trellises: Gray mapping and precoding, the Tyboif code with its scrambler and
running disparity, lane frames and the trellis stream (R75 to R88), and the CRC of block headers (R115). -/

namespace Sys2Proof.Machine

/-- The Gray value of a bit pair (R75). -/
def grayOf (pair : Nat) : Nat :=
  match pair with
  | 0 => 0 | 1 => 1 | 3 => 2 | _ => 3

/-- The bit pair of a Gray value: the inverse of R75. -/
def pairOf (g : Nat) : Nat :=
  match g with
  | 0 => 0 | 1 => 1 | 2 => 3 | _ => 2

/-- The relative level of a symbol value (R77). -/
def levelOf (p : Nat) : Int := 2 * (p : Int) - 3

/-- The nine bit pairs of an 18-bit group, most significant first (symbol j carries bits [17 - 2j : 16 - 2j]). -/
def groupPairs (g : Nat) : List Nat := (rangeFrom 0 9).map fun j => g / 2 ^ (16 - 2 * j) % 4

/-- Precode a list of Gray values from the last symbol sent (R76). -/
def precode : Nat → List Nat → List Nat
  | _, [] => []
  | p, g :: l => ((g + 4 - p) % 4) :: precode ((g + 4 - p) % 4) l

/-- Recover Gray values from received symbols (R78). -/
def deprecode : Nat → List Nat → List Nat
  | _, [] => []
  | p, q :: l => ((q + p) % 4) :: deprecode q l

/-- The level sum of a list of symbols. -/
def levelSum (l : List Nat) : Int := l.foldl (fun a p => a + levelOf p) 0

/-- Scramble one payload, bit 15 first: s(n) = d(n) XOR s(n-5) XOR s(n-47) (R79). Answers the new state, newest bit in
bit 0, and the scrambled payload; `k` bits are left to do. -/
def scrambleBits : Nat → Nat → Nat → Nat → Nat × Nat
  | 0, _, scr, acc => (scr, acc)
  | k + 1, d, scr, acc =>
    let b := (d / 2 ^ k + scr / 2 ^ 4 + scr / 2 ^ 46) % 2
    scrambleBits k d ((scr * 2 + b) % 2 ^ 47) (acc * 2 + b)

/-- Descramble one payload: d(n) = s(n) XOR s(n-5) XOR s(n-47) (R80). -/
def descrambleBits : Nat → Nat → Nat → Nat → Nat × Nat
  | 0, _, scr, acc => (scr, acc)
  | k + 1, w, scr, acc =>
    let b := w / 2 ^ k % 2
    descrambleBits k w ((scr * 2 + b) % 2 ^ 47) (acc * 2 + (b + scr / 2 ^ 4 + scr / 2 ^ 46) % 2)

/-- The image of a group with I = 0: bit 16 is the kind flag K, 1 for a control group. -/
def groupImage (control : Bool) (payload : Nat) : Nat := ofBool control * 2 ^ 16 + payload % 2 ^ 16

/-- The candidate with I = 1: bits [16:0] complemented (R81). -/
def groupInverse (g : Nat) : Nat := 2 ^ 17 + (2 ^ 17 - 1 - g % 2 ^ 17)

/-- The symbols of an 18-bit image: Gray-mapped and, unless precoding is bypassed, precoded (R75, R76, R105). -/
def imageSymbols (byp : Bool) (p g : Nat) : List Nat :=
  let v := (groupPairs g).map grayOf
  if byp then v else precode p v

/-- The candidate that brings the running disparity nearer 0, the one with I = 0 when both are equal (R81). -/
def chooseImage (byp : Bool) (h : LaneH) (g : Nat) : Nat :=
  if (h.rd + levelSum (imageSymbols byp h.pTx (groupInverse g))).natAbs < (h.rd + levelSum (imageSymbols byp h.pTx g)).natAbs
  then groupInverse g else g

/-- A lane that has sent these symbols. -/
def LaneH.sent (h : LaneH) (sym : List Nat) : LaneH := { h with rd := h.rd + levelSum sym, pTx := sym.getLastD h.pTx }

/-- Send one group on a lane: scramble a data payload, form the two candidates and send one (R76, R79, R81). Answers the lane and its
nine symbols. -/
def sendGroup (control : Bool) (payload : Nat) (h : LaneH) : LaneH × List Nat :=
  let (scr, pay) := if control then (h.scrTx, payload % 2 ^ 16) else scrambleBits 16 payload h.scrTx 0
  let sym := imageSymbols false h.pTx (chooseImage false h (groupImage control pay))
  (({ h with scrTx := scr } : LaneH).sent sym, sym)

/-- The symbols of a lane of inverted polarity put right (R72). -/
def upright (invert : Bool) (sym : List Nat) : List Nat := if invert then sym.map (3 - ·) else sym

/-- The 18 bits of nine symbols: precoding, unless it is bypassed, and Gray mapping undone (R78, R105). -/
def rawGroup (byp : Bool) (p : Nat) (sym : List Nat) : Nat :=
  (if byp then sym else deprecode p sym).foldl (fun a g => a * 4 + pairOf g) 0

/-- Receive one group on a lane from its nine symbols: undo polarity, precoding, Gray mapping, inversion and, in a
data group, scrambling (R72, R78, R80, R82). Answers the lane, the kind flag and the payload. -/
def receiveGroupBy (byp invert : Bool) (sym : List Nat) (h : LaneH) : LaneH × Bool × Nat :=
  let sym := upright invert sym
  let raw := rawGroup byp h.pRx sym
  let g := if raw / 2 ^ 17 % 2 = 1 then 2 ^ 17 - 1 - raw % 2 ^ 17 else raw % 2 ^ 17
  let control := g / 2 ^ 16 % 2 == 1
  let (scr, pay) := if control then (h.scrRx, g % 2 ^ 16) else descrambleBits 16 (g % 2 ^ 16) h.scrRx 0
  ({ h with scrRx := scr, pRx := sym.getLastD h.pRx }, control, pay)

/-- Receive one group on a lane that precodes. -/
def receiveGroup (invert : Bool) (sym : List Nat) (h : LaneH) : LaneH × Bool × Nat := receiveGroupBy false invert sym h

/-- Control codes of Table 03-3, each with its argument as one payload. -/
abbrev commaPayload : Nat := 0x1F5C
abbrev laneOffPayload : Nat := 0x3C00
abbrev fillPayload : Nat := 0x9600
/-- LANE_MARK of a lane with a lane frame count (Table 03-3). -/
def laneMark (lane count : Nat) : Nat := 0x2D00 + lane * 32 + count % 32

/-- The coefficients c(-1), c(0) and c(+1) of the transmit equaliser under a preset, in hundredths of the full swing (Table 03-2). -/
def ffeOf (preset : Nat) : Int × Int × Int :=
  match preset with
  | 0 => (0, 100, 0) | 1 => (-4, 84, -12) | 2 => (-8, 74, -18) | _ => (-10, 66, -24)

/-- The CTLE peaking of the receiver under a preset, in dB (Table 03-2). -/
def ctlePeaking (preset : Nat) : Nat := match preset with | 0 => 6 | 1 => 10 | 2 => 13 | _ => 16

/-- The transmitter of trellis `n` applies the equaliser of the preset in force (R67, R70). -/
def State.applyFfe (n : Nat) (s : State) : State :=
  let c := ffeOf (s.trlH n).presetTx
  s.emit (.equaliser n c.1 c.2.1 c.2.2)

/-- Whether a control code has a use outside the lane frame header (Table 03-3): LANE_OFF, the mode framing codes,
FILL and TEST. -/
def knownCode (code : Nat) : Bool := code == 0x3C || (decide (0x40 ≤ code) && decide (code ≤ 0x7F)) || code == 0x96 || code == 0xE1

/-- The number of data lanes of trellis `n`: the mirror port has two. -/
def laneCount (n : Nat) : Nat := if n = 36 then 2 else 8

/-- Send one stream group of trellis `n` on its lane, preceded by the lane frame header where a lane frame begins
(R84, R85). `syms` holds the symbols sent so far, one reversed list per lane. -/
def sendStreamGroup (n : Nat) (control : Bool) (payload : Nat) (h : TrlH) (syms : List (List Nat)) : TrlH × List (List Nat) :=
  let w := laneCount n
  let l := h.txGroups % w
  let lane := h.lanes.getD l {}
  let pos := h.txGroups / w % 4094
  let (lane, hd) :=
    if pos = 0 then
      let (a, x) := sendGroup true commaPayload lane
      let (b, y) := sendGroup true (laneMark l (h.txGroups / w / 4094)) a
      (b, x ++ y)
    else (lane, [])
  let (lane, body) := sendGroup control payload lane
  ({ h with txGroups := h.txGroups + 1, lanes := listSet h.lanes l lane },
   listSet syms l (syms.getD l [] ++ hd ++ body))

/-- Send a list of stream groups (kind flag, payload). -/
def sendStream (n : Nat) : List (Bool × Nat) → TrlH → List (List Nat) → TrlH × List (List Nat)
  | [], h, syms => (h, syms)
  | (c, p) :: l, h, syms =>
    let (h, syms) := sendStreamGroup n c p h syms
    sendStream n l h syms

/-- Put stream groups on the lanes of trellis `n`. -/
def State.sendGroups (n : Nat) (groups : List (Bool × Nat)) (s : State) : State :=
  let (h, syms) := sendStream n groups (s.trlH n) (List.replicate (laneCount n) [])
  (s.setTrlH n h).emit (.lanes n syms)

/-- Cut a list into runs of nine symbols. -/
def nines (l : List Nat) : List (List Nat) := (rangeFrom 0 (l.length / 9)).map fun i => (l.drop (9 * i)).take 9

/-- Send FILL groups up to the next lane frame boundary of the transmit direction (R101, R104). -/
def State.fillFrame (n : Nat) (s : State) : State :=
  let size := 4094 * laneCount n
  let k := (s.trlH n).txGroups % size
  if k = 0 then s else s.sendGroups n (List.replicate (size - k) (true, fillPayload))

/-- The groups of an Ethernet frame or fragment: START, two bytes a data group, and TERM or TERM_ODD (R412, Table 11-1). -/
def etherGroups (smd : Nat) (bytes : List Nat) : List (Bool × Nat) :=
  let k := bytes.length / 2
  [(true, 0x5000 + smd)] ++ ((rangeFrom 0 k).map fun j => (false, bytes.getD (2 * j) 0 * 256 + bytes.getD (2 * j + 1) 0))
    ++ [if bytes.length % 2 = 0 then (true, 0x5100) else (true, 0x5200 + bytes.getD (2 * k) 0)]

/-- Send an Ethernet frame or fragment on a packet-mode trellis (R84, R412). -/
def State.putEther (n smd : Nat) (bytes : List Nat) (s : State) : State :=
  (s.sendGroups n (etherGroups smd bytes)).emit (.ether n smd bytes)

/-- Send a STATUS group on a packet-mode trellis (R415). -/
def State.putStatus (n arg : Nat) (s : State) : State := (s.sendGroups n [(true, 0x5300 + arg)]).emit (.status n arg)

/-! ## Receiving -/

/-- A code violation on lane `l` of trellis `n` is counted and reported (R83). -/
def State.codeViolation (n l : Nat) (s : State) : State :=
  (s.bump (TRL_LANE_CVIOL_COUNT n l)).raise (TRL_STATUS_CODE_ERR n)

/-- Whether a control group at a position of its lane frame is a code violation: its code is not in Table 03-3, or it is a COMMA or
LANE_MARK in another position than its own (R83). `allowed` says which mode framing codes the trellis's mode knows. -/
def codeViolates (allowed : Nat → Bool) (pos code : Nat) : Bool :=
  if code = 0x1F then pos != 0
  else if code = 0x2D then pos != 1
  else !knownCode code || (decide (0x40 ≤ code) && decide (code ≤ 0x7F) && !allowed code)

/-- Whether lane `l` bypasses precoding: in DIAGNOSTIC only (TRL_LANE_CFG.PRECODE_BYP). -/
def State.bypasses (s : State) (n l : Nat) : Bool := s.mode == .diagnostic && s.on (TRL_LANE_CFG_PRECODE_BYP n l)

/-- Receive the groups of one physical lane from position `pos` of its lane frame on. Lane frame headers are taken out;
a violation is counted and passed on as FILL (R83). -/
def receiveLane (n l : Nat) (allowed : Nat → Bool) : List (List Nat) → Nat → State → List (Bool × Nat) → State × List (Bool × Nat)
  | [], _, s, acc => (s, acc)
  | sym :: rest, pos, s, acc =>
    let (lane, control, pay) := receiveGroupBy (s.bypasses n l) (bit (s.rd (TRL_CFG_RX_POL n)) l) sym (s.laneH n l)
    let s := s.setLaneH n l lane
    let bad := control && codeViolates allowed pos (pay / 256)
    let s := if bad then s.codeViolation n l else s
    receiveLane n l allowed rest ((pos + 1) % 4096) s
      (if pos ≤ 1 then acc else acc ++ [if bad then (true, fillPayload) else (control, pay)])

/-- Receive symbols on the physical lanes of trellis `n` and bond the payload groups of its lanes into stream groups,
in the order of the lane numbers carried in LANE_MARK (R85, R86). -/
def State.receiveStream (n : Nat) (allowed : Nat → Bool) (symbols : List (List Nat)) (s : State) : State × List (Bool × Nat) :=
  let w := laneCount n
  let pos := (s.trlH n).rxPos
  let (s, got) := foldOver (rangeFrom 0 w)
    (fun l (acc : State × List (Nat × List (Bool × Nat))) =>
      let (s, g) := receiveLane n l allowed (nines (symbols.getD l [])) pos acc.1 []
      (s, acc.2 ++ [(s.rd (TRL_LANE_STAT_LANE_ID n l), g)])) (s, [])
  let count := (symbols.getD 0 []).length / 9
  let s := s.setTrlH n { s.trlH n with rxPos := (pos + count) % 4096 }
  let lane (k : Nat) : List (Bool × Nat) := ((got.find? fun e => e.1 == k).map (·.2)).getD []
  let len := (lane 0).length
  (s, ((rangeFrom 0 len).map fun i => (rangeFrom 0 w).map fun k => (lane k).getD i (true, fillPayload)).flatten)

/-- The loss guard holds the groups of the last 32 group periods and releases what came before (R88). -/
def State.passGuard (n : Nat) (groups : List (Bool × Nat)) (s : State) : State × List (Bool × Nat) :=
  let all := (s.trlH n).guard ++ groups
  let k := all.length - 32 * laneCount n
  (s.setTrlH n { s.trlH n with guard := all.drop k }, all.take k)

/-! ## Patterns (R105 to R107, Table 03-6) -/

/-- Degree and the other taps of a PRBS pattern, as bit places of the register. -/
def prbsTaps (sel : Nat) : List Nat :=
  match sel with
  | 0 => [6, 5] | 1 => [8, 4] | 2 => [12, 11, 1, 0] | _ => [30, 27]

/-- The next bit of a pattern after the bits in a register, newest in bit 0. -/
def prbsNext (sel reg : Nat) : Nat := ((prbsTaps sel).map fun k => reg / 2 ^ k % 2).sum % 2

/-- Bits that a PRBS checker is seeded from. -/
def prbsDegree (sel : Nat) : Nat := match sel with | 0 => 7 | 1 => 9 | 2 => 13 | _ => 31

/-- The register after one more bit. -/
def prbsPush (reg b : Nat) : Nat := (reg * 2 + b % 2) % 2 ^ 31

/-- The next `k` bits of a pattern, with the register after them. -/
def prbsBits (sel : Nat) : Nat → Nat → Nat → Nat × Nat
  | 0, reg, acc => (reg, acc)
  | k + 1, reg, acc => prbsBits sel k (prbsPush reg (prbsNext sel reg)) (acc * 2 + prbsNext sel reg)

/-- Symbol number `k` of a symbol pattern: the square wave (4) or the staircase (5). -/
def patternSymbol (sel k : Nat) : Nat := if sel = 4 then (if k % 16 < 8 then 3 else 0) else k / 4 % 4

/-- The injector on 18 bits after the generator: mode 1 inverts one bit for each request, mode 2 one bit in every 2^`rate` (R107). -/
def injectBits (mode rate : Nat) (h : LaneH) (v : Nat) : LaneH × Nat :=
  if mode = 1 ∧ 0 < h.injPend then ({ h with injPend := h.injPend - 1 }, v ^^^ 2 ^ 17)
  else if mode = 2 then
    let k := 2 ^ rate
    let c := h.injBits % k
    if k ≤ c + 18 then ({ h with injBits := c + 18 - k }, v ^^^ 2 ^ (17 - (k - 1 - c))) else ({ h with injBits := c + 18 }, v)
  else (h, v)

/-- The injector on the next symbol sent: mode 3 moves its value to its neighbour for each request (R107). -/
def injectSymbol (mode : Nat) (h : LaneH) (sym : List Nat) : LaneH × List Nat :=
  match sym with
  | p :: l => if mode = 3 ∧ 0 < h.injPend then ({ h with injPend := h.injPend - 1 }, (if p = 3 then 2 else p + 1) :: l) else (h, p :: l)
  | [] => (h, [])

/-- What TRL_LANE_CFG gives a lane in DIAGNOSTIC. -/
structure LaneDiag where
  on : Bool
  sel : Nat
  byp : Bool
  mode : Nat
  rate : Nat

/-- The settings of lane `l` of trellis `n`; pattern 7 sends as with PAT_EN = 0. -/
def State.laneDiag (s : State) (n l : Nat) : LaneDiag :=
  { on := s.on (TRL_LANE_CFG_PAT_EN n l) && s.rd (TRL_LANE_CFG_PAT_SEL n l) != 7, sel := s.rd (TRL_LANE_CFG_PAT_SEL n l),
    byp := s.on (TRL_LANE_CFG_PRECODE_BYP n l), mode := s.rd (TRL_LANE_CFG_INJ_MODE n l), rate := s.rd (TRL_LANE_CFG_INJ_RATE n l) }

/-- One group period of a lane in DIAGNOSTIC: its pattern, or the group `payload` of a lane frame (R104, R105, R107). -/
def sendDiagGroup (c : LaneDiag) (payload : Nat) (h : LaneH) : LaneH × List Nat :=
  let (h, sym) : LaneH × List Nat :=
    if c.on && (c.sel == 4 || c.sel == 5) then
      ({ h with phase := h.phase + 9 }, (rangeFrom h.phase 9).map (patternSymbol c.sel))
    else
      let (h, v) : LaneH × Nat :=
        if c.on && decide (c.sel < 4) then
          let (reg, v) := prbsBits c.sel 18 h.gen 0
          ({ h with gen := reg }, v)
        else (h, chooseImage c.byp h (groupImage true payload))
      let (h, v) := injectBits c.mode c.rate h v
      (h, imageSymbols c.byp h.pTx v)
  let (h, sym) := injectSymbol c.mode h sym
  (h.sent sym, sym)

/-- The payloads that lane `l` sends next in DIAGNOSTIC: at a lane frame boundary its header comes first (R104). -/
def diagPayloads (c : LaneDiag) (l k : Nat) : List Nat :=
  let body := if c.on && c.sel == 6 then 0xE100 else fillPayload
  if k % 4094 = 0 then [commaPayload, laneMark l (k / 4094), body] else [body]

/-- Lane `l` sends `k` payload groups in DIAGNOSTIC from group `pos` of its stream on. -/
def sendDiagLane (c : LaneDiag) (l : Nat) : Nat → Nat → LaneH → List Nat → LaneH × List Nat
  | 0, _, h, acc => (h, acc)
  | k + 1, pos, h, acc =>
    let (h, acc) := (diagPayloads c l pos).foldl (fun (x : LaneH × List Nat) p =>
      let (h, sym) := sendDiagGroup c p x.1
      (h, x.2 ++ sym)) (h, acc)
    sendDiagLane c l k (pos + 1) h acc

/-- The lanes of trellis `n` send `k` payload groups each in DIAGNOSTIC. Answers their symbols. -/
def State.sendDiag (n k : Nat) (s : State) : State × List (List Nat) :=
  let h := s.trlH n
  let w := laneCount n
  let r := (rangeFrom 0 w).map fun l => sendDiagLane (s.laneDiag n l) l k (h.txGroups / w) (h.lanes.getD l {}) []
  (s.setTrlH n { h with txGroups := (h.txGroups / w + k) * w, lanes := r.map (·.1) ++ h.lanes.drop w }, r.map (·.2))

/-- One bit at a PRBS checker. While it is not locked it predicts from the bits received, and it locks after 128 in a row; then it
predicts from its own bits, and reseeds itself when more than 512 bits of any 4,096 are in error (R106). Answers the lane, whether it
is locked, and whether a bit has been compared in lock and was in error. -/
def checkBit (sel : Nat) (locked : Bool) (h : LaneH) (b : Nat) : LaneH × Bool × Nat × Nat :=
  let pred := prbsNext sel h.chk
  if locked then
    let errs := (if b = pred then [] else [h.chkSeen]) ++ h.chkErrs.filter fun k => decide (h.chkSeen < k + 4096)
    if 512 < errs.length then ({ h with chkSeen := 0, chkRun := 0, chkErrs := [] }, false, 1, ofBool (b != pred))
    else ({ h with chk := prbsPush h.chk pred, chkSeen := h.chkSeen + 1, chkErrs := errs }, true, 1, ofBool (b != pred))
  else
    let run := if b = pred ∧ prbsDegree sel ≤ h.chkSeen then h.chkRun + 1 else 0
    if 128 ≤ run then ({ h with chk := prbsPush h.chk b, chkSeen := 0, chkRun := 0, chkErrs := [] }, true, 0, 0)
    else ({ h with chk := prbsPush h.chk b, chkSeen := h.chkSeen + 1, chkRun := run }, false, 0, 0)

/-- A list of bits at a PRBS checker, first to last, with the bits compared in lock and those in error. -/
def checkBits (sel : Nat) : List Nat → Bool → LaneH → Nat → Nat → LaneH × Bool × Nat × Nat
  | [], locked, h, n, e => (h, locked, n, e)
  | b :: l, locked, h, n, e =>
    let (h, locked, dn, de) := checkBit sel locked h b
    checkBits sel l locked h (n + dn) (e + de)

/-- Add to a 48-bit counter of a lane, of which the register shows the low 32 bits (R106, R109); it saturates (R10). -/
def addLane48 (lo hi n : Nat) : Nat := min (hi * 2 ^ 32 + lo + n) (2 ^ 48 - 1)

/-- Count bits checked and bits in error on a lane, while CHK_EN is 1 (R106). -/
def State.countChecked (n l bits errs : Nat) (s : State) : State :=
  if !s.on (TRL_LANE_CFG_CHK_EN n l) then s
  else
    let h := s.laneH n l
    let e := addLane48 (s.rd (TRL_LANE_ERR_LO_ERR n l)) h.errHi errs
    let b := addLane48 (s.rd (TRL_LANE_BITS_LO_BITS n l)) h.bitsHi bits
    let s := (s.wr (TRL_LANE_ERR_LO_ERR n l) e).wr (TRL_LANE_BITS_LO_BITS n l) b
    s.setLaneH n l { h with errHi := e / 2 ^ 32, bitsHi := b / 2 ^ 32 }

/-- The 18-bit images of a lane's symbols. -/
def rawGroups (byp : Bool) : Nat → List (List Nat) → List Nat
  | _, [] => []
  | p, sym :: l => rawGroup byp p sym :: rawGroups byp (sym.getLastD p) l

/-- The bits of a number of `k` bits, first sent first. -/
def bitsOf (k v : Nat) : List Nat := (rangeFrom 0 k).map fun j => v / 2 ^ (k - 1 - j) % 2

/-- Bits in error of the decoded 17 bits of a group against a TEST group of argument 0 (Table 03-6). -/
def testErrors (raw : Nat) : Nat :=
  let g := if raw / 2 ^ 17 % 2 = 1 then 2 ^ 17 - 1 - raw % 2 ^ 17 else raw % 2 ^ 17
  (bitsOf 17 (g ^^^ groupImage true 0xE100)).sum

/-- The checker of lane `l` of trellis `n` sees the symbols received in DIAGNOSTIC. The checker of pattern 6 compares the payload
groups of the lane frames (R106). -/
def State.runChecker (n l : Nat) (symbols : List Nat) (s : State) : State :=
  let sel := s.rd (TRL_LANE_CFG_PAT_SEL n l)
  let raw := rawGroups (s.bypasses n l) (s.laneH n l).pRx (nines (upright (bit (s.rd (TRL_CFG_RX_POL n)) l) symbols))
  if sel < 4 then
    let (h, locked, k, e) := checkBits sel (raw.map (bitsOf 18)).flatten (s.on (TRL_LANE_STAT_CHK_LOCK n l)) (s.laneH n l) 0 0
    ((s.setLaneH n l h).countChecked n l k e).wrB (TRL_LANE_STAT_CHK_LOCK n l) locked
  else if sel = 6 ∧ s.on (TRL_LANE_STAT_CHK_LOCK n l) then
    let pos := (s.trlH n).rxPos
    let pay := (raw.zipIdx.filter fun e => decide (2 ≤ (pos + e.2) % 4096)).map (·.1)
    s.countChecked n l (17 * pay.length) (pay.map testErrors).sum
  else s

/-- One bit of the CRC-16 with polynomial x^16 + x^12 + x^5 + 1 (R115). -/
def crc16Bit (crc b : Nat) : Nat :=
  let c := crc * 2 % 2 ^ 16
  if (crc / 2 ^ 15 + b) % 2 = 1 then c ^^^ 0x1021 else c

/-- The CRC-16 over one 16-bit word, bit 15 first; `k` bits are left. -/
def crc16Word : Nat → Nat → Nat → Nat
  | 0, _, crc => crc
  | k + 1, w, crc => crc16Word k w (crc16Bit crc (w / 2 ^ k % 2))

/-- The CRC of R115 over a list of words. -/
def crc16 (l : List Nat) : Nat := l.foldl (fun c w => crc16Word 16 w c) 0xFFFF

end Sys2Proof.Machine
end

