-- ==== Sys2Proof/Machine/Sdi.lean ====
section
/-! DEFINITION. Serial digital video: NRZI code and scrambler, word alignment, TRS, line numbers, CRC words and payload identifiers, as the
input stage reads them and as the output stage makes them (R118, R322, R323, R349, R351). The spec names the SDI link and the identifier and gives no
layout of them: PRESUMED is that of SMPTE ST 259, ST 292-1, ST 425-1, ST 2081, ST 2082 and ST 352. -/

namespace Sys2Proof.Machine

/-! ## Bits -/

/-- The last nine scrambled bits after another one. -/
def pushScr (r : Nat) (b : Bool) : Nat := (2 * r + ofBool b) % 512

/-- The sum of the scrambler's taps, x⁴ and x⁹. -/
def scrTaps (r : Nat) : Bool := bit r 3 != bit r 8

/-- One bit of an 18-bit CRC over x¹⁸ + x⁵ + x⁴ + 1, the least significant bit of a word first. -/
def crc18Bit (c b : Nat) : Nat := if (c + b) % 2 = 1 then (c / 2) ^^^ 0x23000 else c / 2

/-- One word of that CRC. -/
def crc18 (c w : Nat) : Nat := (rangeFrom 0 10).foldl (fun c k => crc18Bit c (w / 2 ^ k)) c

/-- A word of nine bits whose bit 9 is the complement of bit 8. -/
def protectWord (v : Nat) : Nat := v % 512 + (1 - v / 2 ^ 8 % 2) * 512

/-- Word `k` (0 or 1) of the line number. -/
def lineWord (k line : Nat) : Nat := protectWord (if k = 0 then line % 128 * 4 else line / 128 % 16 * 4)

/-- Word `k` (0 or 1) of a CRC. -/
def crcWord (k c : Nat) : Nat := protectWord (c / 512 ^ k)

/-- The status word of a TRS with bits F, V and H. -/
def trsStatus (f v h : Bool) : Nat :=
  0x200 + ofBool f * 256 + ofBool v * 128 + ofBool h * 64 + ofBool (v != h) * 32 + ofBool (f != h) * 16 + ofBool (f != v) * 8
    + ofBool (f != (v != h)) * 4

/-! ## The lines of a format -/

/-- Whether a line of a format is active (Table 13-1). -/
def activeLine (format line : Nat) : Bool :=
  let within (a b : Nat) : Bool := decide (a ≤ line) && decide (line ≤ b)
  match format with
  | 0 => within 21 263 || within 283 525
  | 1 => within 23 310 || within 336 623
  | 2 => within 26 745
  | 3 | 4 => within 21 560 || within 584 1123
  | _ => within 42 1121

/-- Whether a line of a format belongs to the second field or segment. -/
def secondField (format line : Nat) : Bool :=
  match format with
  | 0 => decide (line < 4) || decide (265 < line)
  | 1 => decide (312 < line)
  | 3 | 4 => decide (563 < line)
  | _ => false

/-- How many data streams the interface of a format interleaves, and how many words it sends in a sample of luma. -/
def streamsOf (format : Nat) : Nat × Nat := if format ≤ 1 then (1, 2) else if format ≤ 5 then (2, 2) else (8, 2)

/-- Samples of luma of the active part of a line of a format; a line of a 2160-line picture carries two picture lines. -/
def activeSamples (format : Nat) : Nat := if format ≤ 1 then 720 else if format = 2 then 1280 else if format ≤ 5 then 1920 else 7680

/-! ## TRS -/

/-- The next word of a stream: a TRS is one word 3FF for each data stream, twice as many words 000 and one status word for each; the CRC of
each stream runs from the end of an SAV to the end of the line number after the EAV. -/
def TrsH.step (h : TrsH) (w : Nat) : TrsH :=
  let j := h.pos % h.streams
  let h := { h with
    crc := if h.summing then h.crc.zipIdx.map fun (e : Nat × Nat) => if e.2 = j then crc18 e.1 w else e.1 else h.crc,
    summing := h.summing && !(h.eav && h.pos + 1 == 2 * h.streams), pos := h.pos + 1 }
  if w = 0x3FF then { h with ones := if h.zeros = 0 then h.ones + 1 else 1, zeros := 0, status := 0 }
  else if w = 0 ∧ 0 < h.ones ∧ h.zeros < 2 * h.ones then { h with zeros := h.zeros + 1 }
  else if 0 < h.ones ∧ h.zeros = 2 * h.ones then
    if h.status + 1 < h.ones then { h with status := h.status + 1 }
    else
      { ones := 0, zeros := 0, status := 0, streams := h.ones, xyz := w, pos := 0, eav := bit w 6,
        crc := if bit w 6 then h.crc else List.replicate h.ones 0, summing := !bit w 6 || h.summing }
  else { h with ones := 0, zeros := 0, status := 0 }

/-- Whether a TRS has just ended. -/
def TrsH.fresh (h : TrsH) : Bool := h.pos == 0 && h.streams != 0

/-! ## Reading -/

/-- A frame of the input has ended: whether it was like the one before is counted (R323). -/
def SdiH.closeFrame (now : Nat) (h : SdiH) : SdiH :=
  let f := (h.shape.1, h.shape.2, h.count, h.field)
  { h with
    frame := f, frames := if !h.alike then 0 else if f = h.frame then h.frames + 1 else 1, count := 0, alike := true,
    field := false, since := now, period := now - h.since, past := h.rows, rows := [] }

/-- Line `l` has lost bits: the previous complete line takes its place, and what has come of it is dropped (R144). -/
def SdiH.replaceLine (now l : Nat) (h : SdiH) : SdiH :=
  let h := if h.line ≠ 0 ∧ l < h.line then h.closeFrame now else h
  { h with rows := (l, h.cask) :: h.rows.filter (·.1 != l), count := h.count + 1, line := l, begun := false }

/-- An EAV ends the line in progress, which the cask takes, and begins the next one (R322, R325). Lines of one data stream carry no line
number: they are counted from the change of field. -/
def SdiH.endLine (now w : Nat) (t : TrsH) (h : SdiH) : SdiH :=
  let body := (h.words.drop (4 * t.streams)).reverse
  let n := { h with trs := t, words := h.words.take (4 * t.streams), at_ := now, begun := true }
  if !h.begun then { n with line := if h.line = 0 ∨ t.streams ≠ 1 then h.line else h.line + 1 }
  else
    let shape := (t.streams, body.length)
    let n := { n with
      cask := body, count := h.count + 1, alike := h.alike && (h.count == 0 || h.shape == shape), shape := shape,
      field := h.field || bit w 8, rows := if h.line = 0 then h.rows else (h.line, body) :: h.rows }
    if t.streams ≠ 1 then n
    else if bit h.trs.xyz 8 && !bit w 8 then { n.closeFrame now with line := if body.length = 1716 then 4 else 1 }
    else { n with line := if h.line = 0 then 0 else h.line + 1 }

/-- The line number that follows an EAV: one not above the last begins a frame. -/
def SdiH.number (now : Nat) (h : SdiH) (l : Nat) : SdiH := { (if h.line ≠ 0 ∧ l ≤ h.line then h.closeFrame now else h) with line := l }

/-- The payload identifier of an ST 352 packet whose last user word is the newest of `words`, in one of `n` interleaved streams. -/
def payloadIdOf (n : Nat) (words : List Nat) : Option Nat :=
  let g (k : Nat) : Nat := words.getD (k * n) 0
  if g 6 % 256 = 0x41 ∧ g 5 % 256 = 1 ∧ g 4 % 256 = 4 ∧ g 7 = 0x3FF ∧ g 8 = 0x3FF ∧ g 9 = 0 then
    some (g 3 % 256 + g 2 % 256 * 2 ^ 8 + g 1 % 256 * 2 ^ 16 + g 0 % 256 * 2 ^ 24)
  else none

/-- Whether the CRC words of a line, the newest of `words`, differ from the CRC of some stream (R327). -/
def crcDiffers (crc words : List Nat) : Bool :=
  let n := crc.length
  (rangeFrom 0 n).any fun j =>
    words.getD (n - 1 - j) 0 % 512 != crc.getD j 0 / 512
      || words.getD (2 * n - 1 - j) 0 % 512 != crc.getD j 0 % 512

/-- The next raster word: TRS, line number, CRC words and payload identifier are read (R322). Answers whether the CRC words of the line, whose last
one this is, differ from its content. -/
def SdiH.takeWord (now w : Nat) (h : SdiH) : SdiH × Bool :=
  let t := h.trs.step w
  let i := h.trs.pos
  let n := h.trs.streams
  let h := { h with words := w :: h.words }
  if t.fresh then (if t.eav then (h.endLine now w t, false) else ({ h with trs := t }, false))
  else
    let h := { h with trs := t, payloadId := (payloadIdOf (max n 1) h.words).getD h.payloadId }
    if h.trs.eav && decide (2 ≤ n) && i == n then (h.number now (h.words.getD n 0 / 4 % 128 + w / 4 % 16 * 128), false)
    else (h, h.trs.eav && decide (2 ≤ n) && i + 1 == 4 * n && !t.crc.isEmpty && crcDiffers t.crc h.words)

/-- The next bit of the link: it is decoded and descrambled, the preamble of a TRS aligns the words, and every ten bits are a word, the least
significant bit first (R118, R322). -/
def SdiH.takeBit (now : Nat) (b : Bool) (h : SdiH) : SdiH × Bool :=
  let c := b != h.level
  let d := c != scrTaps h.scr
  let h := { h with
    level := b, scr := pushScr h.scr c, ones := if d then (if h.zeros = 0 then h.ones + 1 else 1) else h.ones,
    zeros := if d then 0 else h.zeros + 1 }
  if h.zeros = 20 ∧ 10 ≤ h.ones ∧ !(h.aligned ∧ h.bits = 9) then
    let n := h.ones / 10
    ({ h with aligned := true, word := 0, bits := 0, trs := { h.trs with ones := n, zeros := 2, status := 0 },
              words := List.replicate 2 0 ++ (List.replicate n 0x3FF ++ h.words) }, false)
  else if !h.aligned then (h, false)
  else
    let w := h.word + ofBool d * 2 ^ h.bits
    if h.bits = 9 then SdiH.takeWord now w { h with word := 0, bits := 0 } else ({ h with word := w, bits := h.bits + 1 }, false)

/-- The bits of an area, in order: the signal after them, and how many lines among them have CRC words that do not match (R322, R327). -/
def SdiH.takeBits (now : Nat) : List Bool → SdiH → SdiH × Nat
  | [], h => (h, 0)
  | b :: l, h =>
    let (h, bad) := h.takeBit now b
    let (h, n) := SdiH.takeBits now l h
    (h, n + ofBool bad)

/-- The first `count` bits of a list of groups, bit 15 of each first (R117). -/
def groupBits : Nat → List Nat → List Bool
  | _, [] => []
  | 0, _ => []
  | count, g :: l => ((rangeFrom 0 (min 16 count)).map fun k => bit g (15 - k)) ++ groupBits (count - 16) l

/-- Bits packed into groups, the first bit at bit 15; the last group is filled up with zeros. -/
def packBits (l : List Bool) : List Nat :=
  (rangeFrom 0 ((l.length + 15) / 16)).map fun j => (rangeFrom 0 16).foldl (fun a i => a * 2 + ofBool (l.getD (16 * j + i) false)) 0

/-! ## Sending -/

/-- What the output stage makes of the words of an output: the format and rate of its plan in aligned carriage, where it regenerates TRS and
line numbers; the number of the line that begins; and blanking up to the first line of the incoming content of an unclean switch (R349,
R351). -/
structure LineForm where
  aligned : Option (Nat × Nat)
  line : Nat
  gap : Bool
  deriving DecidableEq, Repr

/-- The blanking word at a position: 0x200 and 0x040 in turn (R349). -/
def blankWord (pos : Nat) : Nat := if pos % 2 = 0 then 0x200 else 0x040

/-- A word of the TRS of a line, by its position in the EAV or SAV. -/
def trsWord (format line k : Nat) (eav : Bool) : Nat :=
  let n := (streamsOf format).1
  if k < n then 0x3FF else if k < 3 * n then 0 else trsStatus (secondField format line) (!activeLine format line) eav

/-- The word of a TRS at the position of the line where the plan's format has one. -/
def SdoH.planTrs (h : SdoH) (format rate : Nat) : Option Nat :=
  let (n, m) := streamsOf format
  let sav := m * (samplesPerLine format rate - activeSamples format) - 4 * n
  if h.pos < 4 * n then some (trsWord format h.line h.pos true)
  else if sav ≤ h.pos ∧ h.pos < sav + 4 * n then some (trsWord format h.line (h.pos - sav) false)
  else none

/-- The line number and CRC words after an EAV, where the format carries them; the line number is the source's own in unaligned carriage. -/
def SdoH.afterEav (h : SdoH) (c : LineForm) (w : Nat) : Option Nat :=
  let t := h.trs
  let i := t.pos
  if !t.eav || t.streams < 2 || 4 * t.streams ≤ i then none
  else if i < 2 * t.streams then some (if c.aligned.isSome then lineWord (i / t.streams) h.line else w)
  else some (crcWord (i / t.streams - 2) (t.crc.getD (i % t.streams) 0))

/-- The word that leaves for a word of the content (R349, R351). -/
def SdoH.regenerate (h : SdoH) (c : LineForm) (w : Nat) : Nat :=
  if c.gap then blankWord h.pos
  else
    match (c.aligned.bind fun e => h.planTrs e.1 e.2).orElse fun _ => h.afterEav c w with
    | some v => v
    | none => w

/-- A bit enters the scrambler and the NRZI code (R118). -/
def SdoH.putBit (h : SdoH) (d : Bool) : SdoH × Bool :=
  let s := d != scrTaps h.scr
  let b := s != h.level
  ({ h with scr := pushScr h.scr s, level := b }, b)

/-- Bits enter one after the other; answers the coded bits. -/
def SdoH.putBits : List Bool → SdoH → SdoH × List Bool
  | [], h => (h, [])
  | d :: l, h =>
    let (h, b) := h.putBit d
    let (h, r) := SdoH.putBits l h
    (h, b :: r)

/-- A word of the content is coded; `start` says that it is the first word of a line's sample 0. -/
def SdoH.putWord (c : LineForm) (w : Nat) (start : Bool) (h : SdoH) : SdoH × List (Bool × Bool) :=
  let h := if start then { h with pos := 0, line := c.line } else h
  let v := h.regenerate c w % 1024
  let (h, l) := SdoH.putBits ((rangeFrom 0 10).map fun k => bit v k) h
  ({ h with trs := h.trs.step v, pos := h.pos + 1 }, l.zipIdx.map fun e => (e.1, start && e.2 == 0))

/-- Words of the content are coded; the word `start` - 1 places on begins a line, none where `start` is 0. A gap ends at that word. -/
def SdoH.putWords (c : LineForm) : List Nat → Nat → SdoH → SdoH × List (Bool × Bool)
  | [], _, h => (h, [])
  | w :: l, start, h =>
    let c := if start = 1 then { c with gap := false } else c
    let (h, b) := h.putWord c w (start == 1)
    let (h, r) := SdoH.putWords c l (start - 1) h
    (h, b ++ r)

/-- Words are coded and wait for the blocks that carry them. -/
def SdoH.queue (c : LineForm) (words : List Nat) (start : Nat) (h : SdoH) : SdoH :=
  let (g, b) := SdoH.putWords c words start h
  { g with rest := h.rest ++ b }

end Sys2Proof.Machine
end

