-- ==== Sys2Proof/Machine/Picture.lean ====
section
/-! DEFINITION. Pictures in raster lines: the rows of a format's active raster, the checks of rectangles, decimation, whole raster lines
around rows, and the ancillary packets of a line (R351, R358, R375, R396, R440, R441, R465, R504, R506, Table 13-1). PRESUMED, as for the serial
signal, are the interleaving of SMPTE ST 425-1 and ST 2082, the payload identifiers of ST 352 and the packets of ST 291, ST 272 and ST 299. -/

namespace Sys2Proof.Machine

/-! ## CRC-32C -/

/-- CRC-32C over the bits of one byte, reflected (R320); `k` bits are left. -/
def crc32cBits : Nat → Nat → Nat
  | 0, c => c
  | k + 1, c => crc32cBits k (if c % 2 = 1 then (c / 2) ^^^ 0x82F63B78 else c / 2)

/-- The CRC-32C register after a list of bytes. -/
def crc32cRun : List Nat → Nat → Nat
  | [], c => c
  | b :: l, c => crc32cRun l (crc32cBits 8 (c ^^^ (b % 256)))

/-- CRC-32C of a list of bytes. -/
def crc32c (l : List Nat) : Nat := crc32cRun l 0xFFFFFFFF ^^^ 0xFFFFFFFF

/-! ## Rows -/

/-- Lines of a frame: number and raster words from the EAV on. -/
abbrev Lines := List (Nat × List Nat)

/-- The words of a line, where there is one. -/
def lineAt (l : Lines) (n : Nat) : Option (List Nat) := (l.find? fun e => e.1 == n).map (·.2)

/-- The line, in frame numbering, on which picture line `y` of a format lies (Table 13-1). -/
def pictureLine (f y : Nat) : Nat :=
  match f with
  | 0 => if y % 2 = 0 then 283 + y / 2 else 21 + y / 2
  | 1 => if y % 2 = 0 then 23 + y / 2 else 336 + y / 2
  | 2 => 26 + y
  | 3 | 4 => if y % 2 = 0 then 21 + y / 2 else 584 + y / 2
  | 5 => 42 + y
  | _ => 42 + y / 2

/-- The first picture line that lies on a line of a format. -/
def rowOfLine (f l : Nat) : Option Nat :=
  if !activeLine f l then none
  else some (match f with
    | 0 => if 283 ≤ l then 2 * (l - 283) else 2 * (l - 21) + 1
    | 1 => if 336 ≤ l then 2 * (l - 336) + 1 else 2 * (l - 23)
    | 2 => l - 26
    | 3 | 4 => if 584 ≤ l then 2 * (l - 584) + 1 else 2 * (l - 21)
    | 5 => l - 42
    | _ => 2 * (l - 42))

/-- Place of data stream `k` (1 to 8) in the interleaving of eight streams. -/
def streamPlace (k : Nat) : Nat := [7, 3, 5, 1, 6, 2, 4, 0].getD (k - 1) 0

/-- Word `j` of picture line `y` (Cb, Y, Cr, Y and so on) in the active words of a line of eight streams: four sub-images take
pairs of pixels in turn, two of each picture line, each with a stream of luma and one of chroma. -/
def subImageWord (active : List Nat) (y j : Nat) : Nat :=
  let x := j / 2
  let sub := 2 * (y % 2) + x / 2 % 2
  active.getD (8 * (2 * (x / 4) + x % 2) + streamPlace (2 * sub + 1 + ofBool (j % 2 == 0))) 0

/-- The active words of a line. -/
def activeWords (f : Nat) (words : List Nat) : List Nat := words.drop (words.length - 2 * activeSamples f)

/-- Picture line `y` of a format from the words of its line, in the order Cb, Y, Cr, Y. -/
def rowWords (f y : Nat) (words : List Nat) : List Nat :=
  if 6 ≤ f then (rangeFrom 0 (2 * prfRasterW f)).map (subImageWord (activeWords f words) y) else activeWords f words

/-- Picture line `y` of a frame; nothing where its line is missing. -/
def pictureRow (f : Nat) (l : Lines) (y : Nat) : List Nat :=
  match lineAt l (pictureLine f y) with
  | some w => rowWords f y w
  | none => []

/-- The active words of line `l` of a format from picture lines: the inverse of `rowWords`. -/
def activeOfRows (f : Nat) (row : Nat → List Nat) (l : Nat) : List Nat :=
  match rowOfLine f l with
  | none => []
  | some y =>
    if f < 6 then row y
    else
      let a := row y
      let b := row (y + 1)
      (rangeFrom 0 (2 * activeSamples f)).map fun i =>
        let k := ([7, 3, 5, 1, 6, 2, 4, 0].findIdx fun p => p == i % 8) + 1
        let sub := (k - 1) / 2
        let t := i / 8
        let x := 4 * (t / 2) + 2 * (sub % 2) + t % 2
        (if sub < 2 then a else b).getD (2 * x + k % 2) 0

/-! ## Rectangle checks -/

/-- The check of a rectangle given by its RPOS and RSIZE words: CRC-32C of the picture words in it, each as two bytes, the low one
first (R506). -/
def rectCheck (row : Nat → List Nat) (pos size : Nat) : Nat :=
  let words := ((rangeFrom (pos / 2 ^ 16) (size / 2 ^ 16)).map fun y => ((row y).drop (2 * (pos % 2 ^ 16))).take (2 * (size % 2 ^ 16))).flatten
  crc32c ((words.map fun w => [w % 2 ^ 8, w / 2 ^ 8 % 4]).flatten)

/-- The 4:2:2 10-bit pixel group of two pixels: Cb, Y, Cr, Y, the most significant bit first, in five bytes (ST 2110-20). -/
def pixelGroup (w : List Nat) : List Nat :=
  let v := (rangeFrom 0 4).foldl (fun a k => a * 2 ^ 10 + w.getD k 0 % 2 ^ 10) 0
  (rangeFrom 0 5).map fun k => v / 2 ^ (8 * (4 - k)) % 2 ^ 8

/-- The words of pixel groups. -/
def pixelWords : Nat → List Nat → List Nat
  | 0, _ => []
  | k + 1, l =>
    if l.length < 5 then []
    else
      let v := (l.take 5).foldl (fun a b => a * 2 ^ 8 + b % 2 ^ 8) 0
      ((rangeFrom 0 4).map fun i => v / 2 ^ (10 * (3 - i)) % 2 ^ 10) ++ pixelWords k (l.drop 5)

/-! ## Decimation -/

/-- Sample `x` of plane `k` of a picture line: 0 luma, 1 Cb, 2 Cr. -/
def planeAt (k : Nat) (row : List Nat) (x : Nat) : Nat := row.getD (if k = 0 then 2 * x + 1 else 4 * x + 2 * (k - 1)) 0

/-- A quotient rounded half up. -/
def roundDiv (a b : Nat) : Nat := (2 * a + b) / (2 * b)

/-- Sample (`x`, `y`) of a plane decimated by `d` on each axis: the mean of the samples of the block that lie in the raster of `w` by `h`
(R358, R359). -/
def decimated (at_ : Nat → Nat → Nat) (w h d x y : Nat) : Nat :=
  let xs := (rangeFrom (d * x) d).filter fun i => decide (i < w)
  let ys := (rangeFrom (d * y) d).filter fun j => decide (j < h)
  let sum := ys.foldl (fun a j => xs.foldl (fun a i => a + at_ i j) a) 0
  if xs.isEmpty || ys.isEmpty then 0 else roundDiv sum (xs.length * ys.length)

/-- Decimation factor of a level: L0, L2 and L3. -/
def levelFactor (level : Nat) : Nat := match level with | 0 => 1 | 1 => 4 | _ => 8

/-- Sample (`x`, `y`) of plane `k` of a frame at a level (R358). -/
def levelSample (f : Nat) (row : Nat → List Nat) (level k x y : Nat) : Nat :=
  let w := prfRasterW f / (if k = 0 then 1 else 2)
  let d := levelFactor level
  if d = 1 then planeAt k (row y) x else decimated (fun i j => planeAt k (row j) i) w (prfRasterH f) d x y

/-! ## Raster lines -/

/-- The payload identifier of a format at a rate, byte 1 in the low bits (ST 352). -/
def payloadId (f rate : Nat) : Nat :=
  let b1 := match f with
    | 0 | 1 => 0x81 | 2 => 0x84 | 3 | 4 => 0x85 | 5 => if rate ≤ 4 then 0x85 else 0x89 | 6 => if rate ≤ 4 then 0xC0 else 0xCE | _ => 0xCE
  let code := match rate with
    | 0 => 2 | 1 => 3 | 2 => 5 | 3 => 6 | 4 => 7 | 5 => 9 | 6 => 10 | _ => 11
  let scan := if interlaced f then 0 else if f = 4 then 0x40 else 0xC0
  b1 + (code + scan) * 2 ^ 8 + 0x01 * 2 ^ 24

/-- The lines of a format that carry the payload identifier. -/
def payloadLine (f l : Nat) : Bool :=
  match f with
  | 0 => l == 13 || l == 276
  | 1 => l == 9 || l == 322
  | 3 | 4 => l == 10 || l == 572
  | _ => l == 10

/-- A word of eight bits with its parity in bit 8 (ST 291). -/
def parityWord (v : Nat) : Nat :=
  let p := (rangeFrom 0 8).foldl (fun a k => a + v / 2 ^ k % 2) 0 % 2
  v % 256 + p * 256 + (1 - p) * 512

/-- An ancillary packet with its flag, count and checksum (ST 291). -/
def ancPacket (did sdid : Nat) (udw : List Nat) : List Nat :=
  let body := [parityWord did, parityWord sdid, parityWord udw.length] ++ udw
  let sum := (body.map (· % 512)).sum % 512
  [0, 0x3FF, 0x3FF] ++ body ++ [protectWord sum]

/-- Places of the chroma and the luma stream that carry ancillary data, of `n` interleaved streams: those of the first link or
sub-image. -/
def ancPlaces (n : Nat) : Nat × Nat :=
  match n with
  | 1 => (0, 0) | 2 => (0, 1) | 4 => (1, 3) | _ => (3, 7)

/-- Put words into stream `j` of `n`, from word `at_` of the line on. -/
def putStream (n j at_ : Nat) (l words : List Nat) : List Nat :=
  words.zipIdx.foldl (fun l e => listSet l (at_ + n * e.2 + j) e.1) l

/-- The blanking word at place `i` of a line of `n` streams: 0x200 in chroma and 0x040 in luma. -/
def blankOf (n i : Nat) : Nat := if (if n ≤ 2 then i % 2 == 0 else decide (i % n < n / 2)) then 0x200 else 0x040

/-- A line of a format and rate around its active words, with TRS, line number, CRC words, blanking and payload identifier, and no other
ancillary data (R440, R465). -/
def rasterLine (f rate line : Nat) (active : List Nat) : List Nat :=
  let (n, m) := streamsOf f
  let total := m * samplesPerLine f rate
  let body := 2 * activeSamples f
  let sav := total - body - 4 * n
  let blank := (rangeFrom 0 total).map (blankOf n)
  let head := (rangeFrom 0 (4 * n)).map fun k => trsWord f line k true
  let ln := if n < 2 then [] else ((rangeFrom 0 2).map fun k => List.replicate n (lineWord k line)).flatten
  let crc := crc18 0 0
  let crcs := if n < 2 then [] else ((rangeFrom 0 2).map fun k => List.replicate n (crcWord k crc)).flatten
  let front := head ++ ln ++ crcs
  let mid := (blank.take sav).drop front.length
  let tail := (rangeFrom 0 (4 * n)).map fun k => trsWord f line k false
  let act := (active ++ blank.drop (total - body + active.length)).take body
  let l := front ++ mid ++ tail ++ act
  if payloadLine f line then
    let id := payloadId f rate
    putStream n (ancPlaces n).2 (if n < 2 then 4 else 8 * n) l
      (ancPacket 0x41 1 ((rangeFrom 0 4).map fun k => parityWord (id / 2 ^ (8 * k) % 256)))
  else l

/-- A black line: Y 0x040 and Cb/Cr 0x200, no ancillary data but the payload identifier's (Table 09-7). -/
def blackLine (f rate line : Nat) : List Nat := rasterLine f rate line []

/-! ## Ancillary packets of a line -/

/-- Every `n`-th word of a list. -/
def everyNth : Nat → Nat → List Nat → List Nat
  | 0, _, _ => []
  | k + 1, n, l => match l with
    | [] => []
    | w :: _ => w :: everyNth k n (l.drop n)

/-- The words of stream `j` of `n` in a line. -/
def streamWords (n j : Nat) (l : List Nat) : List Nat := everyNth (l.length / n + 1) n (l.drop j)

/-- The ancillary packets of a stream: DID, SDID and user words (ST 291). At most `k` words are looked at. -/
def ancPackets : Nat → List Nat → List (Nat × Nat × List Nat)
  | 0, _ => []
  | k + 1, l =>
    match l with
    | 0 :: 0x3FF :: 0x3FF :: did :: sdid :: dc :: rest =>
      let n := dc % 256
      if rest.length < n + 1 then [] else (did % 256, sdid % 256, rest.take n) :: ancPackets k (rest.drop (n + 1))
    | _ :: rest => ancPackets k rest
    | [] => []

/-- The ancillary packets of a stream from word `i` on, with the place of each and its words from the DID to the checksum. At most `k` words are
looked at. -/
def ancWhere : Nat → Nat → List Nat → List (Nat × List Nat)
  | 0, _, _ => []
  | k + 1, i, l =>
    match l with
    | 0 :: 0x3FF :: 0x3FF :: rest =>
      let n := rest.getD 2 0 % 256 + 4
      if rest.length < n then [] else (i, rest.take n) :: ancWhere k (i + n + 3) (rest.drop n)
    | _ :: rest => ancWhere k (i + 1) rest
    | [] => []

/-- The ancillary packets of stream `j` of a line of `n` streams. -/
def lineAnc (n j : Nat) (l : List Nat) : List (Nat × Nat × List Nat) := let w := streamWords n j l; ancPackets w.length w

/-- Words of the horizontal ancillary space of a stream: after TRS, line number and CRC words, up to the SAV. -/
def hancSpan (f rate : Nat) : Nat × Nat :=
  let (n, m) := streamsOf f
  let lo := if n < 2 then 4 else 8
  (lo, (m * samplesPerLine f rate - 2 * activeSamples f) / n - 4 - lo)

/-! ## Audio packets -/

/-- DIDs of the audio data, extended data and control packets of audio group `g` (0 to 7); none where a format has none (Table 10-3). -/
def audioDids (f g : Nat) : Nat × Option Nat × Nat :=
  if f ≤ 1 then (0xFF - 2 * g, some (0xFE - 2 * g), 0xEF - g)
  else if g < 4 then (0xE7 - g, none, 0xE3 - g) else (0xA7 - (g - 4), none, 0xA3 - (g - 4))

/-- Audio groups that a format can carry at a rate (Table 10-3). -/
def audioGroups (f rate : Nat) : Nat := if f ≤ 4 ∨ (f = 5 ∧ rate ≤ 4) then 4 else 8

/-- The sample word in four user words of an audio data packet (ST 299-1): value, block start, C, U and V. -/
def hdSample (u : List Nat) : Nat :=
  let w (k : Nat) : Nat := u.getD k 0
  (w 0 / 16 % 16 + w 1 % 256 * 2 ^ 4 + w 2 % 256 * 2 ^ 12 + w 3 % 16 * 2 ^ 20) * 2 ^ 8
    + w 0 / 8 % 2 * 8 + w 3 / 2 ^ 6 % 2 * 4 + w 3 / 2 ^ 5 % 2 * 2 + w 3 / 2 ^ 4 % 2

/-- The four user words of a sample (ST 299-1). -/
def hdWords (x : Nat) : List Nat :=
  let v := x / 2 ^ 8
  let w := [v % 16 * 16 + x / 8 % 2 * 8, v / 2 ^ 4 % 256, v / 2 ^ 12 % 256, v / 2 ^ 20 % 16 + x % 2 * 2 ^ 4 + x / 2 % 2 * 2 ^ 5 + x / 4 % 2 * 2 ^ 6]
  let p := ((w.map fun b => (rangeFrom 0 8).foldl (fun a k => a + b / 2 ^ k % 2) 0).sum) % 2
  [w.getD 0 0, w.getD 1 0, w.getD 2 0, w.getD 3 0 + p * 2 ^ 7].map parityWord

/-- The sample in three user words of an SD audio data packet, with its channel in the group and the four low bits of an extended data packet
(ST 272). -/
def sdSample (u : List Nat) (low : Nat) : Nat × Nat :=
  let w (k : Nat) : Nat := u.getD k 0
  let v := w 0 / 2 ^ 3 % 2 ^ 6 + w 1 % 2 ^ 9 * 2 ^ 6 + w 2 % 2 ^ 5 * 2 ^ 15
  (w 0 / 2 % 4, (v * 16 + low) * 2 ^ 8 + w 0 % 2 * 8 + w 2 / 2 ^ 7 % 2 * 4 + w 2 / 2 ^ 6 % 2 * 2 + w 2 / 2 ^ 5 % 2)

/-- The three user words of a sample of channel `c` (ST 272). -/
def sdWords (c x : Nat) : List Nat :=
  let v := x / 2 ^ 12 % 2 ^ 20
  let a := x / 8 % 2 + c % 4 * 2 + v % 2 ^ 6 * 2 ^ 3
  let b := v / 2 ^ 6 % 2 ^ 9
  let d := v / 2 ^ 15 % 2 ^ 5 + x % 2 * 2 ^ 5 + x / 2 % 2 * 2 ^ 6 + x / 4 % 2 * 2 ^ 7
  let ones (v : Nat) : Nat := (rangeFrom 0 9).foldl (fun n k => n + v / 2 ^ k % 2) 0
  let p := (ones a + ones b + ones d) % 2
  [protectWord a, protectWord b, protectWord (d + p * 2 ^ 8)]

/-- The sample frames of audio group `g` in a line of a format at a rate: for each, the words of its four channels (R375). -/
def lineAudio (f rate g : Nat) (l : List Nat) : List (List Nat) :=
  if audioGroups f rate ≤ g then []
  else
    let (did, ext, _) := audioDids f g
    let n := (streamsOf f).1
    let packets := lineAnc n (ancPlaces n).1 l
    if f ≤ 1 then
      let low := ((packets.filter fun e => some e.1 == ext).map fun e => (e.2.2.map fun w => [w % 16, w / 16 % 16]).flatten).flatten
      let samples := ((packets.filter fun e => e.1 == did).map fun e =>
        (rangeFrom 0 (e.2.2.length / 3)).map fun k => e.2.2.drop (3 * k)).flatten.zipIdx.map fun e => sdSample e.1 (low.getD e.2 0)
      (rangeFrom 0 (samples.length / 4)).map fun k =>
        (rangeFrom 0 4).map fun c => (((samples.drop (4 * k)).take 4).find? fun e => e.1 == c).map (·.2) |>.getD 0
    else
      (packets.filter fun e => e.1 == did && e.2.2.length == 24).map fun e => (rangeFrom 0 4).map fun c => hdSample (e.2.2.drop (2 + 4 * c))

/-- The sample rate code that the control packet of audio group `g` in a line declares, where the line has one: 0 is 48 kHz (R377). -/
def lineAudioRate (f rate g : Nat) (l : List Nat) : Option Nat :=
  if audioGroups f rate ≤ g then none
  else
    let (_, _, did) := audioDids f g
    let n := (streamsOf f).1
    ((lineAnc n (ancPlaces n).2 l).find? fun e => e.1 == did).map fun e => e.2.2.getD (if f ≤ 1 then 2 else 1) 0 / 2 % 8

/-- The six error correction words of an audio data packet, over its first 24 words: each bit position is a BCH code of its own
(ST 299-1). -/
def audioEcc (words : List Nat) : List Nat :=
  let step (r : Nat) (b : Nat) : Nat := let x := (r / 32 + b) % 2; (r * 2 % 64) ^^^ (if x = 1 then 0x2F else 0)
  let code (k : Nat) : Nat := words.foldl (fun r w => step r (w / 2 ^ k % 2)) 0
  (rangeFrom 0 6).map fun j => parityWord ((rangeFrom 0 8).foldl (fun a k => a + code k / 2 ^ j % 2 * 2 ^ k) 0)

/-- The audio data packets of sample frames of group `g` (R396). -/
def audioData (f g : Nat) (frames : List (List Nat)) : List (List Nat) :=
  let (did, ext, _) := audioDids f g
  if f ≤ 1 then
    if frames.isEmpty then []
    else
      let samples := (frames.map fun l => (rangeFrom 0 4).map fun c => (c, l.getD c 0)).flatten
      let low := (rangeFrom 0 (samples.length / 2)).map fun k =>
        parityWord ((samples.getD (2 * k) (0, 0)).2 / 2 ^ 8 % 16 + (samples.getD (2 * k + 1) (0, 0)).2 / 2 ^ 8 % 16 * 16)
      [ancPacket did 0 (samples.map fun e => sdWords e.1 e.2).flatten] ++ (match ext with | some d => [ancPacket d 0 low] | none => [])
  else
    frames.map fun l =>
      let udw := [parityWord 0, parityWord 0] ++ ((rangeFrom 0 4).map fun c => hdWords (l.getD c 0)).flatten
      let head := [0, 0x3FF, 0x3FF, parityWord did, parityWord 0, parityWord 24] ++ udw
      ancPacket did 0 (udw ++ audioEcc head)

/-- The audio control packet of group `g`: 48 kHz, synchronous, four active channels (R396). -/
def audioControl (f g : Nat) : List Nat :=
  let (_, _, did) := audioDids f g
  if f ≤ 1 then ancPacket did 0 ([0, 0, 0, 15] ++ List.replicate 14 0 |>.map parityWord)
  else ancPacket did 0 ([0, 0, 15] ++ List.replicate 8 0 |>.map parityWord)

/-- The lines of a format that carry audio control packets. -/
def controlLine (f l : Nat) : Bool :=
  match f with
  | 0 => l == 12 || l == 275
  | 1 => l == 8 || l == 320
  | 3 | 4 => l == 9 || l == 571
  | _ => l == 9

/-- Replace the packets of the horizontal ancillary space of stream `j` of a line: those kept, then new ones, one after the other; what is left
is blanking. Packets that do not fit are left out. -/
def replaceAnc (f rate j : Nat) (keep : Nat → Bool) (new : List (List Nat)) (l : List Nat) : List Nat :=
  let n := (streamsOf f).1
  let (lo, len) := hancSpan f rate
  let old := (streamWords n j l).drop lo |>.take len
  let kept := ((ancPackets old.length old).filter fun e => keep e.1).map fun e =>
    let body := [parityWord e.1, parityWord e.2.1, parityWord e.2.2.length] ++ e.2.2
    [0, 0x3FF, 0x3FF] ++ body ++ [protectWord ((body.map (· % 512)).sum % 512)]
  let words := (kept ++ new).foldl (fun a p => if a.length + p.length ≤ len then a ++ p else a) []
  let blank (k : Nat) : Nat := if n = 1 then (if k % 2 = 0 then 0x200 else 0x040) else if j = (ancPlaces n).1 then 0x200 else 0x040
  putStream n j (n * lo) l (words ++ (rangeFrom words.length (len - words.length)).map blank)

/-! ## The structure of an input -/

/-- Whether a frame period lies within ±100 ppm of that of a rate. -/
def periodNear (period rate : Nat) : Bool := decide (((period : Int) - framePeriod rate).natAbs * 10000 ≤ framePeriod rate)

/-- Whether the structure of the last whole frame is that of a format at a rate; an interface that carries two 3G streams has two frames of
1080p in each of its own (level B-DL). -/
def SdiH.fits (h : SdiH) (f rate : Nat) (levelB : Bool) : Bool :=
  let (n, m) := streamsOf f
  let k := if levelB then 2 else 1
  let psf := h.payloadId / 2 ^ 14 % 4 == 1
  rateAllowed f rate && h.frame.1 == n * k && h.frame.2.1 == m * k * samplesPerLine f rate && h.frame.2.2.1 == totalLines f
    && (h.frame.2.2.2 == (interlaced f || f == 4 || levelB)) && (f != 4 || psf) && (f != 3 || !psf)
    && periodNear (h.period / k) rate

/-- The format and rate of Table 05-4 that an input has, and whether its interface is level B-DL; none for an unclassified one (R323). A link of a
quad-link group is one of 2160 lines. -/
def SdiH.classify (h : SdiH) : Option (Nat × Nat × Bool) :=
  let all := ((rangeFrom 0 7).map fun f => (rangeFrom 0 8).map fun r => (f, r, false)).flatten ++ [(5, 5, true), (5, 6, true), (5, 7, true)]
  all.find? fun e => h.fits e.1 e.2.1 e.2.2

/-! ## Lines that leave -/

/-- A line begins: its words wait, and the output tap takes them (R503). -/
def SdoH.beginLine (line : Nat) (words : List Nat) (h : SdoH) : SdoH :=
  { h with ahead := words, rows := (line, words) :: (match h.rows with
    | e :: _ => if line ≤ e.1 then [] else h.rows
    | [] => []) }

/-- The next `k` words of the line in progress; blanking where there are none. -/
def SdoH.nextWords (k : Nat) (h : SdoH) : List Nat :=
  let l := h.ahead.take k
  l ++ (rangeFrom (h.pos + l.length) (k - l.length)).map blankWord

end Sys2Proof.Machine
end

