-- ==== Sys2Proof/Machine/Refs.lean ====
section
/-! DEFINITION. Reference candidates, the drift monitor, selection and the DPLL (R157 to R188). -/

namespace Sys2Proof.Machine

/-! ## Candidates -/

/-- State of a candidate (Table 05-5): 0 ABSENT, 1 QUALIFYING, 2 QUALIFIED, 3 SUSPECT, 4 DISQUALIFIED. -/
def State.candState (s : State) (c : Nat) : Nat := s.rd (REF_CAND_STAT_STATE c)

/-- Nominal frequency of a REF class in mHz, times 1,001: 148.5/1.001 MHz is exact in it (R160, R171). -/
def refClassRate (k : Nat) : Nat :=
  match k with
  | 1 => 10010000000000 | 2 => 27027000000000 | 3 => 148648500000000 | _ => 148500000000000

/-- `n` clock cycles of a REF class, in time units. -/
def refCycles (k n : Nat) : Nat := n * sec * 1001000 / refClassRate k

/-- Two clock cycles of a REF class, in time units (R165). -/
def twoCycles (k : Nat) : Nat := refCycles k 2

/-- The class that a measured frequency belongs to: within ±100 ppm of its nominal value, else 0 (R160). -/
def classifyHz (hz : Nat) : Nat :=
  let near (k : Nat) : Bool := decide (((hz * 1001000 : Int) - refClassRate k).natAbs * 10000 ≤ refClassRate k)
  if near 1 then 1 else if near 2 then 2 else if near 3 then 3 else if near 4 then 4 else 0

/-- Whether a clock period in ps is more than 10 % off the nominal period of a REF class (R171). -/
def glitchPeriod (k ps : Nat) : Bool :=
  decide (1001000 * 10 ^ 12 < (((ps * refClassRate k : Int) - (1001000 * 10 ^ 12 : Nat)).natAbs) * 10)

/-- Whether a time in ps without an edge is at least 4 nominal periods of a REF class (R171). -/
def clockGone (k ps : Nat) : Bool := decide (4 * 1001000 * 10 ^ 12 ≤ ps * refClassRate k)

/-- Clock cycles in a bit cell of a frame marker (R161). -/
def markerCell (k : Nat) : Nat := if k ≤ 2 then 8 else 64

/-- Bit `j` of a frame marker, read from the levels of REFx_FP at the rising edges from the marker's first on: the level in the middle of
its cell (R161). DESIGN CHOICE: the spec does not say where in a cell the device reads a bit. -/
def markerBit (k : Nat) (levels : List Bool) (j : Nat) : Bool := levels.getD (markerCell k * j + markerCell k / 2) false

/-- The word of a frame marker: a start bit of 1, eight bits with the most significant one first, and a stop bit of 0 (R161). Its
first edge is a reference frame start only after at least 16 bit cells at 0 (R162). DESIGN CHOICE: what has not this form is no
frame marker, valid or invalid, and nothing is counted for it. -/
def markerWord (k idle : Nat) (levels : List Bool) : Option Nat :=
  if 16 * markerCell k ≤ idle ∧ levels.headD false ∧ markerBit k levels 0 ∧ !markerBit k levels 9 then
    some ((rangeFrom 1 8).foldl (fun w j => 2 * w + (markerBit k levels j).toNat) 0)
  else none

/-- The tolerance of a candidate's class in ppb (R169). -/
def State.tolerance (s : State) (c : Nat) : Nat :=
  if s.rd (REF_CAND_STAT_CLASS c) = 5 then s.rd REF_TOL_PTP else s.rd REF_TOL_REF

/-- A candidate's offset from nominal: measured against XO, plus the XO's own offset (R167). XO itself has offset OFFS. -/
def State.candOffset (s : State) (c : Nat) : Option Int :=
  if c = 6 then some (s.rdInt REF_XO_OFFS) else (s.candH c).meas.map (· + s.rdInt REF_XO_OFFS)

/-- Whether a candidate is within tolerance; before the first monitor update it counts as within (R169). -/
def State.withinTol (s : State) (c : Nat) : Bool :=
  match s.candOffset c with
  | none => true
  | some o => decide (o.natAbs ≤ s.tolerance c)

/-- Within tolerance and not outvoted (Table 05-5). -/
def State.candGood (s : State) (c : Nat) : Bool := s.withinTol c && !s.on (REF_CAND_STAT_OUTVOTED c)

/-- Whether the source of a candidate is there: a classified clock, a PTP instance in the slave state with its servo in
rate lock, or a present SDI input of a format of Table 05-4 that is not bit-transparent and addresses a signal (R159).
The slave state is PORT 3 (Table 11-5) and the rate lock SERVO 2 (Table 11-6). -/
def State.candSource (s : State) (c : Nat) : Bool :=
  let src := s.rd (REF_CAND_CFG_SRC c)
  if c ≤ 1 then s.rd (REF_CAND_STAT_CLASS c) != 0
  else if c ≤ 3 then
    decide (src < 36) && (s.trlH src).mode == 1 && s.rd (PTP_STATUS_PORT src) == 3 && s.rd (PTP_STATUS_SERVO src) == 2
  else if c ≤ 5 then
    decide (src < 4608) && s.on (XPT_IN_STAT_PRESENT src) && s.on (XPT_IN_STAT_CLASSIFIED src)
      && !s.on (XPT_IN_STAT_COVERED src)
      && !bit (s.ctnH (src / 128)).trans (src % 128)
  else true

/-- The format and rate that the input of an SDI candidate carries now. -/
def State.sdiKind (s : State) (c : Nat) : Nat :=
  let i := s.rd (REF_CAND_CFG_SRC c)
  s.rd (XPT_IN_STAT_FORMAT i) * 8 + s.rd (XPT_IN_STAT_RATE i)

/-- The frame rate code of a candidate's reference frames. DESIGN CHOICE: code 0 before any valid marker has named one, which R166
needs for its three reference frame periods. -/
def State.candRate (s : State) (c : Nat) : Nat := ((s.candH c).kind).getD 0 % 8

/-- Move a candidate to a state of Table 05-5, whose timers start now. -/
def State.setCand (c st : Nat) (s : State) : State :=
  let s := s.setCandH c { s.candH c with since := s.now }
  let s := s.wr (REF_CAND_STAT_STATE c) st
  let s := s.wr (REF_CAND_STAT_QUAL_LEFT c) (if st = 1 then s.rd REF_CFG_QUAL_S else 0)
  if st = 3 then s.raise REF_EVENT_SUSPECT else if st = 4 then s.raise REF_EVENT_DISQUAL else s

/-! ## Phase relation of the plans -/

/-- Frames per second of a rate code, without the 1.001 family's divisor. -/
def rateFps (rate : Nat) : Nat :=
  match rate with
  | 0 => 24 | 1 => 24 | 2 => 25 | 3 => 30 | 4 => 30 | 5 => 50 | _ => 60

/-- Whether a rate belongs to the 1.001 family. -/
def rate1001 (rate : Nat) : Bool := rate == 0 || rate == 3 || rate == 6

/-- Whether a rate is an integer multiple of another of the same family (R193). -/
def rateMultiple (rate ref : Nat) : Bool := rate1001 rate == rate1001 ref && rateFps rate % rateFps ref == 0

/-- Whether a plan of a given rate has alignment points: under a PTP candidate, or under a REF or SDI candidate with
frame starts whose rate divides the plan's; never in HOLDOVER, LOST or under XO (R193). -/
def State.phaseRelatedRate (s : State) (rate : Nat) : Bool :=
  let c := s.rd REF_STATUS_SEL
  if s.rd REF_STATUS_DPLL = 3 ∨ s.rd REF_STATUS_DPLL = 4 ∨ c = 6 then false
  else if c = 2 ∨ c = 3 then true
  else !s.on (REF_CAND_STAT_FREQ_ONLY c) && (s.candH c).frameStart.isSome && rateMultiple rate (s.candRate c)

/-- Whether plan `p` is phase-related to the selected candidate, in the timing in force. -/
def State.phaseRelated (s : State) (p : Nat) : Bool := s.phaseRelatedRate (s.planH p).rate

/-- PLN_STATUS.FREQ_ONLY of every plan follows the selection (R193). -/
def State.updateFreqOnly (s : State) : State := s.forN 8 fun p s => s.wrB (PLN_STATUS_FREQ_ONLY p) (!s.phaseRelated p)

/-! ## The DPLL -/

/-- Move the DPLL to a state of Table 05-6. -/
def State.setDpll (st : Nat) (s : State) : State :=
  let old := s.rd REF_STATUS_DPLL
  if old = st then s
  else
    let d := s.dpll
    let d := { d with since := s.now, acqDone := d.acqDone || old == 1 }
    let d := if st = 2 then { d with lockAt := some s.now, lockEnd := none } else if old = 2 then { d with lockEnd := some s.now } else d
    (({ s with dpll := d } : State).wr REF_STATUS_DPLL st).raise REF_EVENT_STATE_CHANGE

/-- Enter ACQUIRING for a new selection: the bandwidth starts at 10 Hz and the frequency is acquired first (R182, R185). -/
def State.enterAcquiring (s : State) : State :=
  let s := { s with dpll := { s.dpll with acqSince := s.now, selAt := s.now, handoff := none } }
  (((s.wr REF_STATUS_BW_STEP 0).wr REF_STATUS_FREQ_ACQ 0).wr REF_HOLD_T_SEC 0).setDpll 1

/-- Average of a list of integers. -/
def averageInt (l : List Int) : Int := if l.isEmpty then 0 else (l.foldl (· + ·) 0) / (l.length : Int)

/-- Whether the 60 s that end 1 s ago were LOCKED operation throughout (R186). -/
def State.histValid (s : State) : Bool :=
  match s.dpll.lockAt with
  | none => false
  | some t => decide (t + 61 * sec ≤ s.now) && (match s.dpll.lockEnd with | none => true | some e => decide (s.now ≤ e + sec))

/-- The output offsets held for the 60 s that end 1 s ago (R186). -/
def State.histWindow (s : State) : List Int :=
  (s.dpll.hist.filter fun e => decide (e.1 + sec ≤ s.now) && decide (s.now ≤ e.1 + 61 * sec)).map (·.2)

/-- Enter HOLDOVER: the output moves to the history frequency where 60 s of LOCKED operation preceded, and is held where
it is otherwise (R186). The average is that of the output offsets seen at the monitor updates, one a second (DESIGN CHOICE: the spec
does not say how often the output frequency is sampled). -/
def State.enterHoldover (s : State) : State :=
  let valid := s.histValid
  let y := if valid && !s.histWindow.isEmpty then averageInt s.histWindow else s.dpll.y
  let s := { s with dpll := { s.dpll with holdY := y, holdAt := s.now, handoff := none } }
  ((s.wrB REF_STATUS_HIST_VALID valid).wr REF_HOLD_T_SEC 0).setDpll 3

/-! ## Selection -/

/-- Whether a candidate is eligible: QUALIFIED, or SUSPECT while it is the current selection (R174). -/
def State.eligible (s : State) (c : Nat) : Bool :=
  s.candState c == 2 || (s.candState c == 3 && s.rd REF_STATUS_SEL == c)

/-- The eligible candidate of lowest rank number; the current selection, then the lower index, among equals (R174). -/
def State.bestCand (s : State) : Nat :=
  let cur := s.rd REF_STATUS_SEL
  (rangeFrom 0 7).foldl (fun best c =>
    if s.eligible c then
      let rc := s.rd (REF_CAND_CFG_RANK c)
      let rb := s.rd (REF_CAND_CFG_RANK best)
      if !s.eligible best || decide (rc < rb) || (rc == rb && c == cur && best != cur) then c else best
    else best) 6

/-- Select a candidate: the DPLL acquires it, or goes to HOLDOVER where only XO is left (R181). -/
def State.selectCand (c : Nat) (s : State) : State :=
  if s.rd REF_STATUS_SEL = c then s
  else
    let d := s.rd REF_STATUS_DPLL
    let s := (s.wr REF_STATUS_SEL c).raise REF_EVENT_SEL_CHANGE
    let s := if c = 6 then (if d = 1 ∨ d = 2 then s.enterHoldover else s)
             else if d = 1 then { s with dpll := { s.dpll with handoff := none, selAt := s.now } }.wr REF_STATUS_FREQ_ACQ 0
             else s.enterAcquiring
    s.updateFreqOnly

/-- The selection rule: revertive selection takes the best candidate; otherwise the selection changes only when it is
lost, disqualified or XO (R174, R175). The standby of a twin pair follows the active's selection where that candidate is QUALIFIED on it;
otherwise it selects under R174 and reports the divergence (R180). DESIGN CHOICE: that covers a standby that has not yet heard of a
selection, and a device that is no standby reports none. -/
def State.reselect (s : State) : State :=
  let cur := s.rd REF_STATUS_SEL
  let st := s.candState cur
  if s.mode = .standby then
    match s.dpll.peerSel with
    | some c =>
      if s.candState c = 2 then (s.wr REF_STATUS_TWIN_DIVERGE 0).selectCand c
      else (s.wr REF_STATUS_TWIN_DIVERGE 1).selectCand s.bestCand
    | none => (s.wr REF_STATUS_TWIN_DIVERGE 1).selectCand s.bestCand
  else
    (s.wr REF_STATUS_TWIN_DIVERGE 0).selectCand (if s.on REF_CFG_REVERT ∨ st = 0 ∨ st = 4 ∨ cur = 6 then s.bestCand else cur)

/-! ## Loss and presence -/

/-- A candidate is ABSENT: nothing measured of it counts any longer (Table 05-5, R167). -/
def State.candAbsent (c : Nat) (s : State) : State :=
  let s := s.setCandH c { since := s.now, before := some (s.rd (REF_CAND_STAT_CLASS c), (s.candH c).kind) }
  let s := (s.wr (REF_CAND_STAT_STATE c) 0).wr (REF_CAND_STAT_QUAL_LEFT c) 0
  let s := (s.wr (REF_CAND_STAT_FREQ_ONLY c) 0).wr (REF_CAND_STAT_OUTVOTED c) 0
  s.when (decide (c < 6)) fun s => s.wr (REF_CAND_OFFS_PPB c) 0

/-- A candidate is lost: counted, reported, and ABSENT. A REF clock that stops while its candidate is ABSENT has no class any longer, so
that it is classified again when it returns (R171, R172). -/
def State.candLoss (c : Nat) (s : State) : State :=
  if s.candState c = 0 then s.wr (REF_CAND_STAT_CLASS c) 0
  else
    let s := (s.candAbsent c).wr (REF_CAND_STAT_CLASS c) 0
    let s := s.when (decide (c ≤ 1)) fun s => s.bump (REF_GLITCH_LOSSES c)
    s.raise REF_EVENT_LOSS

/-- A candidate becomes present and enabled: it is QUALIFYING, and a change against what it carried before its loss is
reported (R170, R172). The RATE of a REF candidate is compared at its next valid marker. -/
def State.candPresent (c : Nat) (s : State) : State :=
  if s.candState c ≠ 0 ∨ !s.on (REF_CAND_CFG_EN c) ∨ !s.candSource c then s
  else
    let s := s.when (decide (2 ≤ c)) fun s => s.wr (REF_CAND_STAT_CLASS c) (if c ≤ 3 then 5 else 6)
    let k := if c = 4 ∨ c = 5 then some (s.sdiKind c) else none
    let changed := match (s.candH c).before with
      | none => false
      | some (cls, kind) => cls != s.rd (REF_CAND_STAT_CLASS c) || (decide (4 ≤ c) && kind != k)
    let s := s.setCandH c { s.candH c with
      present := some s.now, markerSince := s.now, kind := k, before := if c ≤ 1 then (s.candH c).before else none }
    (s.setCand c 1).when changed fun s => s.raise REF_EVENT_RATE_CHANGE

/-- Clearing EN of a candidate leads to ABSENT from every state (R170). -/
def State.candDisable (c : Nat) (s : State) : State :=
  if s.candState c = 0 then s
  else (s.candAbsent c).when (decide (2 ≤ c)) fun s => s.wr (REF_CAND_STAT_CLASS c) 0

/-- A candidate whose source has gone, or that names something that is no source, is lost (R159). -/
def State.loseSources (s : State) : State :=
  s.forL [2, 3, 4, 5] fun c s => if s.candState c ≠ 0 ∧ !s.candSource c then s.candLoss c else s

/-- The limits of writes to the REF registers (R158 and the field descriptions). -/
def State.refWriteFixup (s : State) : State :=
  let s := s.when (s.rd REF_CFG_QUAL_S == 0) fun s => s.wr REF_CFG_QUAL_S 1
  let s := s.wr REF_CFG_DISQ_S (clampNat 1 3600 (s.rd REF_CFG_DISQ_S))
  let s := s.wr REF_TOL_REF (clampNat 100 20000 (s.rd REF_TOL_REF))
  let s := s.wr REF_TOL_PTP (clampNat 10 20000 (s.rd REF_TOL_PTP))
  let s := s.wr REF_HOLD_VALID_MIN (clampNat 1 10080 (s.rd REF_HOLD_VALID_MIN))
  let s := s.forN 6 fun c s => s.when (s.rd (REF_CAND_CFG_RANK c) == 7) fun s => s.wr (REF_CAND_CFG_RANK c) 6
  let s := (s.wr (REF_CAND_CFG_EN 6) 1).wr (REF_CAND_CFG_RANK 6) 7
  let s := s.forN 6 fun c s => s.when (!s.on (REF_CAND_CFG_EN c)) fun s => s.candDisable c
  s.loseSources.reselect

/-! ## One cycle -/

/-- The commands that can lose, qualify or judge a candidate: R179 places their effects before the selection of the cycle. -/
def refCommand : Instr → Bool
  | .refGlitch .. => true
  | .refClockLost .. => true
  | .frameMarker .. => true
  | .markerTimeout .. => true
  | .qualified .. => true
  | .disqualified .. => true
  | .driftMonitorUpdate .. => true
  | _ => false

/-- Whether another command of this cycle can still change what the selection is made from (R179). What waits in the queue falls in the
same cycle: time passes only when the queue is empty. -/
def State.refWaits (s : State) : Bool := s.pending.any refCommand

/-- The end of a REF event: where no other waits in this cycle, the selection is made, and then the host writes held back take effect
(R179). -/
def State.refEnd (s : State) : State :=
  if s.refWaits then s
  else
    let s := s.reselect
    if s.dpll.held.isEmpty then s
    else
      let w := s.dpll.held
      let s := { s with dpll := { s.dpll with held := [] } }
      (s.forL w fun e s => s.setWord e.1 e.2).refWriteFixup

/-- Losses of PTP and SDI candidates, with the selection that follows (R159). -/
def State.refRecheck (s : State) : State :=
  if [2, 3, 4, 5].any fun c => s.candState c != 0 && !s.candSource c then s.loseSources.refEnd else s

/-- The SDI candidates that name an input whose format or rate has changed return in the same cycle (R173). -/
def State.sdiReturn (i : Nat) (s : State) : State :=
  s.forL [4, 5] fun c s => if s.rd (REF_CAND_CFG_SRC c) = i ∧ (s.candH c).since = s.now then s.candPresent c else s

/-! ## The drift monitor -/

/-- A of R168: the average offset of XO against the selected candidate over the last 60 s, from the measurements held, as many of the
last 60 as there are since the candidate became present. -/
def State.xoAverage (s : State) : Int := -averageInt (s.candH (s.rd REF_STATUS_SEL)).offs

/-- XO's offset estimate moves towards the average A while LOCKED and undisputed, by at most 10 ppb per day of elapsed time, and its
uncertainty follows; otherwise the uncertainty ages by 10 ppb per day (R168). `elapsed` is the time since the last update. -/
def State.xoUpdate (a : Int) (elapsed : Nat) (s : State) : State :=
  let age := s.dpll.ageing + 10 * elapsed
  let step := age / (86400 * sec)
  let s := { s with dpll := { s.dpll with ageing := age % (86400 * sec) } }
  let unc := s.rd REF_XO_UNC
  let offs := s.rdInt REF_XO_OFFS
  if s.rd REF_STATUS_DPLL = 2 ∧ !s.on REF_STATUS_DISAGREE then
    let new := if unc = 0xFFFF then a
               else if (a - offs).natAbs ≤ step then a
               else if offs < a then offs + step else offs - step
    let s := s.wrInt REF_XO_OFFS new
    s.wr REF_XO_UNC (min (5 + (a - s.rdInt REF_XO_OFFS).natAbs) 0xFFFE)
  else if unc = 0xFFFF then s
  else s.wr REF_XO_UNC (min (unc + step) 0xFFFE)

/-- Whether two candidates agree within a tolerance. -/
def State.agree (s : State) (a b tol : Nat) : Bool :=
  match s.candOffset a, s.candOffset b with
  | some x, some y => decide ((x - y).natAbs ≤ tol)
  | _, _ => true

/-- The third opinion on two candidates of equal rank: the QUALIFIED candidate of the lowest greater rank number, else
XO where its uncertainty is at most half the smaller tolerance (R176). -/
def State.thirdOpinion (s : State) (rank tol : Nat) : Option Nat :=
  let better (b : Option Nat) (c : Nat) : Option Nat :=
    match b with
    | none => some c
    | some x => if s.rd (REF_CAND_CFG_RANK c) < s.rd (REF_CAND_CFG_RANK x) then some c else some x
  match ((rangeFrom 0 6).filter fun c => s.candState c == 2 && decide (rank < s.rd (REF_CAND_CFG_RANK c))).foldl better none with
  | some c => some c
  | none => if s.rd REF_XO_UNC * 2 ≤ tol then some 6 else none

/-- One candidate is outvoted; where it was selected, the selection moves to the one that agreed (R177). -/
def State.outvote (loser winner : Nat) (s : State) : State :=
  let was := s.rd REF_STATUS_SEL == loser
  let s := (s.wr (REF_CAND_STAT_OUTVOTED loser) 1).raise REF_EVENT_OUTVOTED
  if was then s.selectCand winner else s

/-- Judge one pair of candidates (R176 to R178); answers whether it stands without a majority. -/
def State.judgePair (i j : Nat) (s : State) : State × Bool :=
  let live (c : Nat) : Bool := s.candState c == 2 || s.candState c == 3
  let tol := min (s.tolerance i) (s.tolerance j)
  if !(live i && live j && s.rd (REF_CAND_CFG_RANK i) == s.rd (REF_CAND_CFG_RANK j)) || s.agree i j tol then (s, false)
  else
    match s.thirdOpinion (s.rd (REF_CAND_CFG_RANK i)) tol with
    | none => (s.raise REF_EVENT_DISAGREE, true)
    | some t =>
      if s.agree t i tol && !s.agree t j tol then (s.outvote j i, false)
      else if s.agree t j tol && !s.agree t i tol then (s.outvote i j, false)
      else (s.raise REF_EVENT_DISAGREE, true)

/-- The pairs of candidates. -/
def candPairs : List (Nat × Nat) := ((rangeFrom 0 6).map fun i => (rangeFrom (i + 1) (5 - i)).map fun j => (i, j)).flatten

/-- All majorities: OUTVOTED bits are formed anew at each update, and DISAGREE follows the pairs without one (R178). -/
def State.majorities (s : State) : State :=
  let s := s.forN 6 fun c s => s.wr (REF_CAND_STAT_OUTVOTED c) 0
  let (s, dis) := foldOver candPairs (fun p (acc : State × Bool) => let (s, d) := acc.1.judgePair p.1 p.2; (s, acc.2 || d)) (s, false)
  s.wrB REF_STATUS_DISAGREE dis

/-- The state timers that have run out, which R179 applies before the results of the monitor (Table 05-5). -/
def State.candTimers (s : State) : State :=
  s.forN 6 fun c s =>
    let t := (s.candH c).since
    if s.candState c = 1 ∧ s.candGood c ∧ t + s.rd REF_CFG_QUAL_S * sec ≤ s.now then s.setCand c 2
    else if s.candState c = 3 ∧ t + s.rd REF_CFG_DISQ_S * sec ≤ s.now then s.setCand c 4
    else s

/-- The state steps that tolerance and majorities cause (Table 05-5). -/
def State.candStates (s : State) : State :=
  s.forN 6 fun c s =>
    let good := s.candGood c
    match s.candState c with
    | 1 => if good then s else s.setCandH c { s.candH c with since := s.now }
    | 2 => if good then s else s.setCand c 3
    | 3 => if good then s.setCand c 2 else s
    | 4 => if good then s.setCand c 1 else s
    | _ => s

/-- Seconds left in QUALIFYING, shown in REF_CAND_STAT. -/
def State.qualLeft (s : State) : State :=
  s.forN 6 fun c s =>
    if s.candState c = 1 then s.wr (REF_CAND_STAT_QUAL_LEFT c) (s.rd REF_CFG_QUAL_S - (s.now - (s.candH c).since) / sec) else s

/-! ## Meanings -/

/-- REF_CLASSIFIED: a REF clock measured over 1 ms takes its class, or stays absent with class 0 (R160). -/
def execRefClassified (c : Fin 2) (hz : Nat) (s : State) : Host.Outcome State Fault Refusal :=
  .next (if s.candState c = 0 then s.wr (REF_CAND_STAT_CLASS c) (classifyHz hz) else s)

/-- Whether a frame marker word is in order: odd parity and a rate that is not reserved (R163, R165). -/
def markerWordOk (w : Nat) : Bool :=
  ((rangeFrom 0 8).foldl (fun a i => a + w / 2 ^ i % 2) 0) % 2 == 1 && decide (w / 16 < 8)

/-- Whether a marker falls one frame period of its rate, ± 2 clock cycles, after the previous valid one (R165). -/
def State.markerOnTime (s : State) (c w start : Nat) : Bool :=
  match (s.candH c).marker with
  | none => true
  | some (t, _) =>
    let p := framePeriod (w / 16)
    let tol := twoCycles (s.rd (REF_CAND_STAT_CLASS c))
    decide (start - t ≤ p + tol) && decide (p ≤ start - t + tol)

/-- The audio sequence of a plan that the selected candidate's marker anchors: with SEQ = 1, the plan frame that begins at
this reference frame start has position 0 (R372). -/
def State.anchorSequence (p frame : Nat) (s : State) : State :=
  { s with aud := { s.aud with anchors := listSet s.aud.anchors p frame } }

/-- A valid marker with word `w`, whose reference frame start was at `t`, is taken: a RATE other than the one held while the candidate is
present is a loss and a return in the same cycle, and one other than that held before a loss is reported (R162 to R166, R172, R173). -/
def State.takeMarker (c w t : Nat) (s : State) : State :=
  let rate := w / 16
  let (moved, change) := match (s.candH c).kind, (s.candH c).before with
    | some r, _ => (r != rate, r != rate)
    | none, some (_, some r) => (false, r != rate)
    | none, _ => (false, false)
  let cls := s.rd (REF_CAND_STAT_CLASS c)
  let s := if moved then ((s.candLoss c).wr (REF_CAND_STAT_CLASS c) cls).candPresent c else s
  let s := s.setCandH c { s.candH c with
    marker := some (t, rate), markerSince := t, frameStart := some t, kind := some rate, before := none }
  let s := (s.wr (REF_MARKER_WORD c) w).wr (REF_CAND_STAT_FREQ_ONLY c) 0
  let s := (s.when change fun s => s.raise REF_EVENT_RATE_CHANGE).updateFreqOnly
  if bit w 3 && s.rd REF_STATUS_SEL == c then
    s.forN 8 fun p s => if s.phaseRelated p && s.on (PLN_STATUS_RUN p) then
        s.anchorSequence p ((s.planH p).posAt (t + framePeriod (s.planH p).rate / 2)).frame else s
  else s

/-- FRAME_MARKER: the levels of REFx_FP at the rising edges of the REFx clock, `levels` from the first edge at 1 to the end of the stop
bit, after `idle` edges at 0. A valid marker gives a reference frame start at its first edge; a changed rate is a loss and a return in
the same cycle; an invalid marker is counted and reported (R161 to R166, R173). -/
def execFrameMarker (c : Fin 2) (idle : Nat) (levels : List Bool) (s : State) : Host.Outcome State Fault Refusal :=
  .next (
    let k := s.rd (REF_CAND_STAT_CLASS c)
    let t := s.now - refCycles k (10 * markerCell k)
    match (if s.candState c = 0 then none else markerWord k idle levels) with
    | none => s.refEnd
    | some w =>
      if markerWordOk w && s.markerOnTime c w t then (s.takeMarker c w t).refEnd
      else ((s.bump (REF_MARKER_ERR c)).raise REF_EVENT_MARKER_ERR).refEnd)

/-- MARKER_TIMEOUT: after three frame periods without a valid marker the candidate is lost where FP_REQ is 1, and
frequency-only otherwise (R166). DESIGN CHOICE: before any valid marker has named a rate, the periods are those of rate code 0; and the first
marker after frequency-only is judged by its parity and RATE alone, like the first after presence, as no recent marker is left
to compare its time with. -/
def execMarkerTimeout (c : Fin 2) (s : State) : Host.Outcome State Fault Refusal :=
  .next (
    if s.candState c = 0 ∨ s.now < (s.candH c).markerSince + 3 * framePeriod (s.candRate c) then s.refEnd
    else if s.on (REF_CAND_CFG_FP_REQ c) then (s.candLoss c).refEnd
    else
      let s := s.setCandH c { s.candH c with marker := none, frameStart := none }
      (s.wr (REF_CAND_STAT_FREQ_ONLY c) 1).updateFreqOnly.refEnd)

/-- REF_GLITCH: a clock period of `ps` picoseconds, more than 10 % off: the edge is ignored and counted; the third glitch within 1 s is a
loss (R171). A clock whose candidate is not enabled is judged like another. -/
def execRefGlitch (c : Fin 2) (ps : Nat) (s : State) : Host.Outcome State Fault Refusal :=
  .next (
    let k := s.rd (REF_CAND_STAT_CLASS c)
    if k = 0 ∨ glitchPeriod k ps = false then s.refEnd
    else
      let recent := s.now :: (s.candH c).glitches.filter fun t => decide (s.now < t + sec)
      let s := s.setCandH c { s.candH c with glitches := recent }
      let s := (s.bump (REF_GLITCH_GLITCHES c)).raise REF_EVENT_GLITCH
      if recent.length ≥ 3 then (s.candLoss c).refEnd else s.refEnd)

/-- REF_CLOCK_LOST: no edge for `ps` picoseconds, at least 4 nominal periods of the class, loses the candidate (R171, R172). -/
def execRefClockLost (c : Fin 2) (ps : Nat) (s : State) : Host.Outcome State Fault Refusal :=
  .next (if clockGone (s.rd (REF_CAND_STAT_CLASS c)) ps then (s.candLoss c).refEnd else s.refEnd)

/-- CANDIDATE_PRESENT: a candidate becomes present and starts QUALIFYING (R159, R172). -/
def execCandidatePresent (c : Fin 6) (s : State) : Host.Outcome State Fault Refusal := .next (s.candPresent c)

/-- The measurements of a monitor update are held for the candidates that are present, and those of the last 60 updates (R167, R168). -/
def State.holdMeasures (meas : List Int) (s : State) : State :=
  s.forN 6 fun c s =>
    if (s.candH c).present.isNone then s
    else
      let m := meas.getD c 0
      s.setCandH c { s.candH c with meas := some m, offs := (m :: (s.candH c).offs).take 60 }

/-- The offsets of the candidates whose window has been filled since they became present are shown (R167). -/
def State.showOffsets (s : State) : State :=
  s.forN 6 fun c s =>
    match (s.candH c).present with
    | some t => if t + 10 * sec ≤ s.now then s.wrInt (REF_CAND_OFFS_PPB c) ((s.candOffset c).getD 0) else s
    | none => s

/-- The output offset of LOCKED operation goes into the history (R186). -/
def State.noteHistory (s : State) : State :=
  if s.rd REF_STATUS_DPLL = 2 then { s with dpll := { s.dpll with hist := ((s.now, s.dpll.y) :: s.dpll.hist).take 64 } } else s

/-- DRIFT_MONITOR_UPDATE: once a second, the measured offsets of the candidates against XO in ppb (over the sliding window, as far
as it is filled) give offsets, the XO estimate, majorities, states and the selection, after the state timers that have run out and before
the selection, as R179 orders (R167 to R178). -/
def execDriftMonitorUpdate (meas : List Int) (s : State) : Host.Outcome State Fault Refusal :=
  .next (
    if s.now < s.dpll.monAt + sec then s.refEnd
    else
      let elapsed := s.now - s.dpll.monAt
      let s := ({ s with dpll := { s.dpll with monAt := s.now } } : State).candTimers.holdMeasures meas
      ((s.xoUpdate s.xoAverage elapsed).showOffsets.majorities.candStates.qualLeft.noteHistory).refEnd)

/-- QUALIFIED: a candidate that has been within tolerance and not outvoted for QUAL (R170, R174, R175). -/
def execQualified (c : Fin 6) (s : State) : Host.Outcome State Fault Refusal :=
  .next (
    if s.candState c = 1 ∧ s.candGood c ∧ s.now ≥ (s.candH c).since + s.rd REF_CFG_QUAL_S * sec then (s.setCand c 2).refEnd
    else s.refEnd)

/-- DISQUALIFIED: a candidate that has been SUSPECT for DISQ; where nothing but XO is left, the DPLL enters HOLDOVER
(R170, R175, R186). -/
def execDisqualified (c : Fin 6) (s : State) : Host.Outcome State Fault Refusal :=
  .next (
    if s.candState c = 3 ∧ s.now ≥ (s.candH c).since + s.rd REF_CFG_DISQ_S * sec then (s.setCand c 4).refEnd else s.refEnd)

/-- Seconds from entry to ACQUIRING at which each bandwidth step after the first begins, in half seconds, with the step
it leads to (Table 05-7). -/
def bandwidthSchedule (cls : Nat) : List (Nat × Nat) :=
  if cls = 5 then [(10, 1), (20, 2), (30, 3), (40, 4), (50, 5), (60, 6)]
  else if cls = 6 then [(30, 1), (60, 2)]
  else [(15, 1), (30, 2), (45, 3), (60, 4)]

/-- BANDWIDTH_STEP: the loop bandwidth narrows along the schedule of the selected candidate's class (R182). -/
def execBandwidthStep (s : State) : Host.Outcome State Fault Refusal :=
  .next (
    let d := s.rd REF_STATUS_DPLL
    let cls := s.rd (REF_CAND_STAT_CLASS (s.rd REF_STATUS_SEL))
    if d = 1 ∨ d = 2 then
      match (bandwidthSchedule cls).find? fun e => e.2 == s.rd REF_STATUS_BW_STEP + 1 with
      | some (t, k) => if s.now ≥ s.dpll.acqSince + t * (sec / 2) then s.wr REF_STATUS_BW_STEP k else s
      | none => s
    else s)

/-- DPLL_LOCKED: the lock criteria have held for 2 s, no earlier than 2 s after the hand-off. `freq` and `phase` are the largest
magnitudes of the frequency error in ppb and of the phase error, less the build-out, in ns, over the last 2 s (R181, R183). -/
def execDpllLocked (freq phase : Nat) (s : State) : Host.Outcome State Fault Refusal :=
  .next (
    match s.dpll.handoff with
    | some t => if s.rd REF_STATUS_DPLL = 1 ∧ freq ≤ 20 ∧ phase ≤ 100 ∧ s.now ≥ t + 2 * sec then s.setDpll 2 else s
    | none => s)

/-- DPLL_UNLOCK: the phase error has been outside ±1 µs for 1 s of LOCKED operation; the bandwidth stays at its step. `phase` is the
smallest magnitude of the phase error in ns over the last 1 s (R181, R182). -/
def execDpllUnlock (phase : Nat) (s : State) : Host.Outcome State Fault Refusal :=
  .next (
    if s.rd REF_STATUS_DPLL = 2 ∧ 1000 < phase ∧ s.now ≥ s.dpll.since + sec then
      let s := (s.raise REF_EVENT_UNLOCK).setDpll 1
      { s with dpll := { s.dpll with handoff := none } }.wr REF_STATUS_FREQ_ACQ 0
    else s)

/-- HOLDOVER_EXPIRED: the time in HOLDOVER reaches VALID_MIN (R188). -/
def execHoldoverExpired (s : State) : Host.Outcome State Fault Refusal :=
  .next (
    if s.rd REF_STATUS_DPLL = 3 ∧ s.now ≥ s.dpll.since + s.rd REF_HOLD_VALID_MIN * 60 * sec then
      (s.setDpll 4).raise REF_EVENT_HOLD_EXPIRED
    else s)

end Sys2Proof.Machine
end

