-- ==== Sys2Proof/Machine/Synth.lean ====
section
/-! DEFINITION. The synthesisers: frequency words, dither, the spare pool and its claims, the band cache, ramps and the
safe clock (R206 to R236). Frequency words are INT × 2³² + FRAC; frequency offsets are in millionths of a ppb. -/

namespace Sys2Proof.Machine

/-- One step of the dither LFSR x¹⁶ + x¹⁵ + x¹³ + x⁴ + 1 (R208). -/
def lfsrStep (v : Nat) : Nat := (v * 2 + (v / 2 ^ 15 + v / 2 ^ 14 + v / 2 ^ 12 + v / 2 ^ 3) % 2) % 2 ^ 16

/-- One cycle of a MASH modulator with frequency word `w`: a written seed is loaded; the dither bit joins the least significant bit of
the first stage's input; each stage's sum feeds the next, and the carries, differentiated once and twice, make the division ratio (R208,
R210). DESIGN CHOICE: the dither bit is bit 0 of the LFSR before its step. -/
def MashH.step (seed w : Nat) (m : MashH) : MashH :=
  let l := (m.reload.orElse fun _ => m.lfsr).getD seed
  let s1 := m.a1 + w % 2 ^ 32 + l % 2
  let s2 := m.a2 + s1 % 2 ^ 32
  let s3 := m.a3 + s2 % 2 ^ 32
  let c1 := s1 / 2 ^ 32
  let c2 := s2 / 2 ^ 32
  let c3 := s3 / 2 ^ 32
  { cycle := m.cycle + 1, lfsr := some (lfsrStep l), reload := none, a1 := s1 % 2 ^ 32, a2 := s2 % 2 ^ 32, a3 := s3 % 2 ^ 32, c2 := c2, c3 := c3, c3z := m.c3,
    ratio := ((w / 2 ^ 32 + c1 + c2 + c3 : Nat) : Int) - m.c2 - 2 * m.c3 + m.c3z }

/-- `n` cycles of a MASH modulator. -/
def MashH.run (seed w : Nat) : Nat → MashH → MashH
  | 0, m => m
  | n + 1, m => MashH.run seed w n (m.step seed w)

/-- Whether a format and rate use the 1.001-family VCO frequency (R212). -/
def family1001 (format rate : Nat) : Bool := rate1001 rate && format != 0

/-- Divider from VCO to sample clock (Table 06-3); the word clock divides by half of it (R211). -/
def planDivider (format rate : Nat) : Nat :=
  if format ≤ 1 then 352
  else if format ≤ 4 then 64
  else if format = 5 then (if rate ≤ 4 then 64 else 32)
  else if rate ≤ 4 then 16 else 8

/-- Divider from VCO to word clock, which runs at twice the sample clock (R211). -/
def wordDivider (d : Nat) : Nat := d / 2

/-- The nominal word of a plan synthesiser (Table 06-2); 47.52/1.001 rounded to the nearest step. -/
def planNominal (fam1001 : Bool) : Nat :=
  if fam1001 then (4752 * 2 ^ 32 * 10 * 2 + 1001) / (2 * 1001) else 47 * 2 ^ 32 + 0x851EB852

/-- A nominal word with a frequency offset of `y` millionths of a ppb, rounded to the nearest step (R213). -/
def offsetWord (nominal : Nat) (y : Int) : Nat := (((nominal : Int) * (1000000000000000 + y) + 500000000000000) / 1000000000000000).toNat

/-- The plan a plan synthesiser serves, if any (SYN_PLL_STAT.USER). -/
def State.servedPlan (s : State) (i : Nat) : Option Nat :=
  if 37 ≤ i ∧ i ≤ 46 then
    let u := s.rd (SYN_PLL_STAT_USER i)
    if u = 0xFF then none else some u
  else none

/-- The synthesiser that serves plan `p`. -/
def State.servingSynth (s : State) (p : Nat) : Option Nat := (rangeFrom 37 10).find? fun i => s.servedPlan i == some p

/-- The current frequency word of a synthesiser. -/
def State.synWord (s : State) (i : Nat) : Nat :=
  ((s.synH i).word).getD ((synNominal i).1 * 2 ^ 32 + (synNominal i).2)

/-- Set the current frequency word; INT shows it at once (FRAC is latched by a read of INT). -/
def State.setSynWord (i w : Nat) (s : State) : State := (s.setSynH i { s.synH i with word := some w }).wr (SYN_PLL_INT_INT i) (w / 2 ^ 32)

/-- The nominal word of a synthesiser that serves no plan (Table 06-2). -/
def nominalWord (i : Nat) : Nat := (synNominal i).1 * 2 ^ 32 + (synNominal i).2

/-- The lowest and the highest word of a synthesiser: for the plan synthesisers the words of both families with 1,000 ppm to either side;
for the others 1,000 ppm about the nominal word, with the maximum of Table 06-5 for the logic PLLs (R228). DESIGN CHOICE: the spec does
not give the VCO ranges. -/
def synRange (i : Nat) : Nat × Nat :=
  if 37 ≤ i ∧ i ≤ 46 then (planNominal true - planNominal true / 1000, planNominal false + planNominal false / 1000)
  else
    let n := nominalWord i
    (n - n / 1000, match i with
      | 48 => 42 * 2 ^ 32 | 49 => 42 * 2 ^ 32 | 50 => 50 * 2 ^ 32 | 51 => 42 * 2 ^ 32 | 52 => 42 * 2 ^ 32
      | _ => n + n / 1000)

/-- A target clamped to a synthesiser's range before its ramp starts; a clamp is reported (R228). -/
def State.clampTarget (i target : Nat) (s : State) : State × Nat :=
  if (synRange i).2 < target then (s.raise SYN_EVENT_CLAMP, (synRange i).2)
  else if target < (synRange i).1 then (s.raise SYN_EVENT_CLAMP, (synRange i).1) else (s, target)

/-- The VCO family that the word of a plan synthesiser is nearer to: whether it is the 1.001 family. -/
def near1001 (w : Nat) : Bool := decide (2 * w < planNominal true + planNominal false)

/-- The modulator of a synthesiser runs up to the present reference cycle (R208). -/
def State.runMash (i : Nat) (s : State) : State :=
  let h := s.synH i
  let n := (s.now - s.top.t0) / (10 * ns) - h.mash.cycle
  s.setSynH i { h with mash := MashH.run (s.rd (SYN_PLL_SEED_SEED i)) (s.synWord i) n h.mash }

/-- The dither LFSR of synthesiser `i` now (R208, R210). -/
def State.dither (s : State) (i : Nat) : Nat := (((s.runMash i).synH i).mash.lfsr).getD (s.rd (SYN_PLL_SEED_SEED i))

/-- SYN_STATUS.POOL_FREE: pool synthesisers that are unclaimed and have not failed. -/
def State.poolFree (s : State) : List Nat :=
  (rangeFrom 37 10).filter fun i => s.rd (SYN_PLL_STAT_USER i) == 0xFF && (s.synH i).claim.isNone && !(s.synH i).failed

/-- Keep POOL_FREE up to date. -/
def State.updatePool (s : State) : State := s.wr SYN_STATUS_POOL_FREE s.poolFree.length

/-- The hottest of the 32 die sensors in °C, at least 0 (R42, R221). -/
def State.hottestQuarters (s : State) : Int :=
  (rangeFrom 0 32).foldl (fun m i => if s.on (MGT_SENS_VALID i) then max m (s.rdInt (MGT_SENS_VALUE i)) else m) (-160)

def State.hottestC (s : State) : Nat := (s.hottestQuarters / 4).toNat

/-- The cache entry that a target word hits, the most recently used of several: INT and FRAC[31:20] equal, and the hottest die sensor
within ±30 °C of the stored temperature (R222). Answers position and entry. -/
def State.cacheLookup (s : State) (i target : Nat) : Option (Nat × BandEntry) :=
  let t := s.hottestQuarters
  let h := s.synH i
  let hit (e : Nat × BandEntry) : Bool :=
    e.2.int == target / 2 ^ 32 && e.2.fracHi == target / 2 ^ 20 % 2 ^ 12 && decide ((t - 4 * (e.2.temp : Int)).natAbs ≤ 120)
  (h.used.filterMap fun k => h.cache.find? fun e => e.1 == k && hit e).head?

/-- Mark a cache position as the most recently used. -/
def SynH.touch (h : SynH) (k : Nat) : SynH := { h with used := k :: h.used.filter (· != k) }

/-- A completed band search writes an entry: in a free position, else in place of the least recently used (R221). -/
def SynH.cacheWrite (h : SynH) (e : BandEntry) : SynH :=
  let k := match (rangeFrom 0 16).find? fun k => (h.cache.find? fun x => x.1 == k).isNone with
    | some k => k
    | none => h.used.getLastD 0
  { h with cache := storePut h.cache k e }.touch k

/-- Enter a state of SYN_PLL_STAT.STATE at a time. -/
def State.setSynStateAt (i st t : Nat) (s : State) : State := (s.setSynH i { s.synH i with since := t }).wr (SYN_PLL_STAT_STATE i) st

/-- Enter a state of SYN_PLL_STAT.STATE. -/
def State.setSynState (i st : Nat) (s : State) : State := s.setSynStateAt i st s.now

/-- The largest change of a word in one update: SLOPE ppb of the word per µs (R225, R226). -/
def rampStep (slope word : Nat) : Nat := word * slope / 1000000000

/-- Cosine of π·x/y for 0 ≤ x ≤ y, scaled by 10⁹, by its power series about the nearer of 0, π/2 and π. -/
def cosPi (x y : Nat) : Int :=
  let one : Int := 1000000000
  let pi : Int := 3141592654
  let series (t : Int) : Int × Int :=
    let t2 := t * t / one
    let c := one - t2 / 2 + t2 * t2 / one / 24 - t2 * t2 / one * t2 / one / 720 + t2 * t2 / one * t2 / one * t2 / one / 40320
    let sn := t - t2 * t / one / 6 + t2 * t2 / one * t / one / 120 - t2 * t2 / one * t2 / one * t / one / 5040
    (c, sn)
  if y = 0 then one
  else
    let a : Int := pi * x / y
    if 4 * x ≤ y then (series a).1
    else if 4 * x ≤ 3 * y then -((series (a - pi / 2)).2)
    else -((series (pi - a)).1)

/-- The phase x / 2²¹ of a half turn, at most a quarter turn, at which a sine first reaches `v` / `peak`, by bisection. -/
def sinPhase (v peak : Nat) : Nat :=
  (rangeFrom 0 20).foldl (fun x k =>
    let y := x + 2 ^ (19 - k)
    if cosPi (2 ^ 20 - y) (2 ^ 21) * peak < v * 1000000000 then y else x) 0

/-- Time that an S-curve of `d` words takes: (π/2) × Δ / SLOPE µs (R226), in time units. -/
def curveTime (slope d word : Nat) : Nat := d * 1000000000 * us * 1570796327 / (1000000000 * (max 1 slope * max 1 word))

/-- A ramp to a target starts from the current word at the current rate of change: the S-curve is entered at the phase at which its rate
is the current one, so that its virtual start lies before the ramp (R226, R227). DESIGN CHOICE: where the new target lies on the other
side, the rate of change starts at 0, as the word may not step back. -/
def State.startRamp (i target : Nat) (s : State) : State :=
  let h := s.synH i
  let w := s.synWord i
  let d := max target w - min target w
  let peak := max 1 (rampStep (s.rd (SYN_PLL_CFG_SLOPE i)) w)
  let v := if decide (h.rate < 0) == decide (target < w) then min h.rate.natAbs peak else 0
  let x := sinPhase v peak
  let full := (2 * d * 1000000000) / (1000000000 + (cosPi x (2 ^ 21)).toNat)
  let t := curveTime (s.rd (SYN_PLL_CFG_SLOPE i)) full w * x / 2 ^ 21
  let from_ := if w ≤ target then target - full else target + full
  s.setSynH i { h with target := some target, rampFrom := some (from_, s.now - t), rampAt := s.now, rampEnd := none }

/-- Aim a synthesiser at a word: the target is clamped, and a new one starts a ramp (R227, R228). -/
def State.aim (i target : Nat) (s : State) : State :=
  let (s, target) := s.clampTarget i target
  if (s.synH i).target = some target then s else s.startRamp i target

/-- An unlocked synthesiser relocks at a word by the first path of Table 06-4 that holds without lock: with the band of a cache
entry, or through a band search; its output gate is closed (R222, R224). -/
def State.relock (i target : Nat) (s : State) : State :=
  let s := (s.wr (SYN_PLL_STAT_GATE i) 0).setSynH i { s.synH i with target := some target, rampFrom := none, rate := 0 }
  match s.cacheLookup i target with
  | some (k, e) =>
    ((s.setSynH i { (s.synH i).touch k with lockT := 22 * us }).wr (SYN_PLL_STAT_BAND i) e.band).setSynState i 2
  | none => s.setSynState i 1

/-- Start a synthesiser on the way to a new word by the first path of Table 06-4 whose condition holds: a ramp in lock,
a cached relock, or a searched relock with the output gate closed (R224, R228). -/
def State.beginMove (i target : Nat) (s : State) : State :=
  let (s, target) := s.clampTarget i target
  match s.cacheLookup i target with
  | some (k, e) =>
    if s.rd (SYN_PLL_STAT_STATE i) ≥ 4 ∧ e.band = s.rd (SYN_PLL_STAT_BAND i) then
      ((s.setSynH i ((s.synH i).touch k)).startRamp i target).setSynState i 5
    else s.relock i target
  | none => s.relock i target

/-- A synthesiser has held lock at its word for 64 µs, or has settled after a ramp, at time `t`: it is locked there, its gate open. -/
def State.finishMove (i t : Nat) (s : State) : State :=
  let s := match (s.synH i).target with
    | some w => s.setSynWord i w
    | none => s
  let s := s.setSynH i { s.synH i with target := none, rampFrom := none, rate := 0, rampEnd := none, failed := false }
  ((s.setSynStateAt i 4 t).wr (SYN_PLL_STAT_GATE i) 1).updatePool

/-- A synthesiser takes the steps of its path whose times have passed: lock after the time of Table 06-4, then 64 µs of hold; or 10 µs
of settling after a ramp (R216, R224). DESIGN CHOICE: a step takes the longest time that the table allows it. -/
def State.settle (i : Nat) (s : State) : State :=
  let lock := (s.synH i).since + (s.synH i).lockT
  let s := if s.rd (SYN_PLL_STAT_STATE i) = 2 ∧ lock ≤ s.now then s.setSynStateAt i 3 lock else s
  let st := s.rd (SYN_PLL_STAT_STATE i)
  let held := (s.synH i).since + 64 * us
  if st = 3 ∧ held ≤ s.now then s.finishMove i held
  else match (s.synH i).rampEnd with
    | some t => if st = 5 ∧ t + 10 * us ≤ s.now then s.finishMove i (t + 10 * us) else s
    | none => s

/-- Every pool synthesiser takes the steps whose times have passed. -/
def State.settlePool (s : State) : State := (s.forL (rangeFrom 37 10) fun i s => s.settle i).updatePool

/-- Give a pool synthesiser back: its claim ends (R677, R678). -/
def State.releaseSynth (o : Option Nat) (s : State) : State :=
  match o with
  | some i => (s.setSynH i { s.synH i with claim := none }).updatePool
  | none => s

/-- Synthesiser `i` is claimed for plan `p`, brought to a word, and gets the divider of a format and rate (R215). -/
def State.takeSynth (p i word div : Nat) (s : State) : State :=
  ((s.setSynH i { s.synH i with claim := some p, div := some div }).beginMove i word).updatePool

/-- The lowest-numbered free synthesiser of the pool is claimed for plan `p` (R215). -/
def State.claimSynth (p word div : Nat) (s : State) : State × Option Nat :=
  match s.poolFree with
  | i :: _ => (s.takeSynth p i word div, some i)
  | [] => (s, none)

/-- A synthesiser's divider starts, or changes, with a rising sample-clock edge at time `t` (R211, R215, R218). -/
def State.startDivider (i div t : Nat) (s : State) : State := s.setSynH i { s.synH i with div := some div, divAt := t }

/-- The plan's clock moves to the claimed synthesiser at time `t`, and the old one joins the pool: it ramps to the nominal word of its
family, so that it stays locked without the plan's offsets (R214, R218). -/
def State.swapSynth (p t : Nat) (o : Option Nat) (s : State) : State :=
  match o with
  | none => s
  | some i =>
    let s := match s.servingSynth p with
      | some old =>
        let s := s.wr (SYN_PLL_STAT_USER old) 0xFF
        if s.rd (SYN_PLL_STAT_STATE old) < 4 then s else (s.startRamp old (planNominal (near1001 (s.synWord old)))).setSynState old 5
      | none => s
    let s := s.setSynH i { s.synH i with claim := none, divAt := t }
    (s.wr (SYN_PLL_STAT_USER i) p).updatePool

/-! ## Meanings -/

/-- BAND_SEARCHES_DONE (milestone 2): every synthesiser and logic PLL has found its band and locked after t0; forwarded
clocks and transmitters run on their fixed presets, and the logic PLLs begin the 64 µs of lock that end the safe clock (R46, R67, R231,
R236). `bands` are the band codes found. -/
def execBandSearchesDone (bands : List (Fin 256)) (s : State) : Host.Outcome State Fault Refusal :=
  .next (
    if s.top.inReset ∨ s.mode ≠ .startup ∨ bit s.top.reached 2 then s
    else
      let s := s.forN 53 fun i s =>
        let b := (bands.getD i 0).val
        let w := s.synWord i
        let s := s.setSynH i ((s.synH i).cacheWrite
          { int := w / 2 ^ 32, fracHi := w / 2 ^ 20 % 2 ^ 12, band := b, temp := s.hottestC, made := s.now })
        if 48 ≤ i then (s.wr (SYN_PLL_STAT_BAND i) b).setSynState i 3
        else ((s.wr (SYN_PLL_STAT_BAND i) b).wr (SYN_PLL_STAT_GATE i) 1).setSynState i 4
      let s := s.updatePool
      { s with top := { s.top with reached := s.top.reached + 4 } }.wr (TOP_BOOT_T_TIME_US 2) ((s.now - s.top.t0) / us))

/-- BAND_SEARCH_DONE: a search ends with a band that locks, and writes a cache entry; the synthesiser then locks, at most 40 µs, and holds
(Table 06-4); or it finds none (R221). -/
def execBandSearchDone (i : Fin 53) (band : Fin 256) (found : Bool) (s : State) : Host.Outcome State Fault Refusal :=
  .next (
    if s.rd (SYN_PLL_STAT_STATE i) ≠ 1 then s
    else if !found then s.raiseArg SYN_EVENT_SEARCH_FAIL i
    else
      let w := ((s.synH i).target).getD (s.synWord i)
      let h := (s.synH i).cacheWrite { int := w / 2 ^ 32, fracHi := w / 2 ^ 20 % 2 ^ 12, band := band, temp := s.hottestC, made := s.now }
      ((s.setSynH i { h with lockT := 40 * us }).wr (SYN_PLL_STAT_BAND i) band).setSynState i 2)

/-- The next word of a ramp to `target` whose profile starts from word `from_` at `t0`: linear at SLOPE, or along a raised cosine whose
peak rate is SLOPE; never past the target and never by more than the step (R225 to R228). -/
def rampNext (profile slope cur from_ t0 target now : Nat) : Nat :=
  let step := max 1 (rampStep slope cur)
  let goal :=
    if profile = 0 then target
    else
      let dur := curveTime slope (max target from_ - min target from_) cur
      if dur ≤ now - t0 then target
      else
        let frac := (1000000000 - cosPi (now - t0) dur) / 2
        if from_ ≤ target then from_ + (((target - from_ : Nat) : Int) * frac / 1000000000).toNat
        else from_ - (((from_ - target : Nat) : Int) * frac / 1000000000).toNat
  if cur ≤ target then max cur (min goal (cur + step)) else min cur (max goal (cur - step))

/-- Bring an offset nearer a goal by at most `step`. -/
def approach (cur goal : Int) (step : Nat) : Int :=
  if (goal - cur).natAbs ≤ step then goal else if cur < goal then cur + step else cur - step

/-! ## Phase of the plans -/

/-- An instant from which the selected candidate's alignment points count, for plans of a rate that is phase-related:
its latest reference frame start, or a PTP instance time of 0 (R193). -/
def State.alignBase (s : State) : Int :=
  let c := s.rd REF_STATUS_SEL
  if c = 2 ∨ c = 3 then (s.now : Int) - ((s.deviceNs : Int) + (s.ptpH (s.rd (REF_CAND_CFG_SRC c))).offset) * 6
  else (((s.candH c).frameStart).getD 0 : Int)

/-- The delay of a phase target after its alignment point: LINES lines and SAMPLES samples of the plan (R194). -/
def State.alignDelay (s : State) (p format rate : Nat) : Nat :=
  let f := framePeriod rate
  let l := totalLines format
  s.rd (PLN_ALIGN_LINES p) * f / l + s.rd (PLN_ALIGN_SAMPLES p) * f / (l * samplesPerLine format rate)

/-- Fold a time into the range greater than -f/2 and at most f/2 (R185, R195). -/
def foldPhase (f : Nat) (e : Int) : Int :=
  let m := e % (f : Int)
  if 2 * m > (f : Int) then m - (f : Int) else m

/-- The phase error e of a plan in time units: by how much its frame boundary follows the nearest phase target (R195);
0 where the plan has no alignment points. -/
def State.phaseError (s : State) (p : Nat) : Int :=
  if s.phaseRelated p then
    let h := s.planH p
    let start : Int := h.frameStart (h.posAt s.now).frame
    foldPhase (framePeriod h.rate) (start - s.alignBase - s.alignDelay p h.format h.rate)
  else 0

/-- The frequency offset that a plan's SLEW policy asks for: 0.1 ppm in the sense that reduces its phase error, a late plan running
faster; and back to 0 in time for the error to be used up while the offset returns at 0.05 ppm/s (R196). With an offset of y
millionths of a ppb, that takes 6 y² / 10¹⁴ time units of error. -/
def State.slewGoal (s : State) (p : Nat) : Int :=
  let e := s.phaseError p
  let y := (s.planH p).yp
  if !s.on (PLN_STATUS_SLEWING p) then 0
  else if decide (0 < e) == decide (0 < y) && decide (e.natAbs * 10 ^ 14 ≤ 6 * y.natAbs * y.natAbs) then 0
  else if 0 < e then 100000000 else if e < 0 then -100000000 else 0

/-- Steer the DPLL output: in FREE_RUN it is nominal, in ACQUIRING and LOCKED it follows the loop at most 0.05 ppm/s
(without limit in the first ACQUIRING with FIRST_FAST), in HOLDOVER it moves at that rate to the history frequency and is held there, and
in LOST it slews at 0.1 ppm/s to nominal (R181, R184, R186). One update per µs: 0.05 ppm/s is 50 millionths of a ppb. -/
def State.steer (loop : Int) (s : State) : State :=
  if s.now < s.dpll.ySince + us then s
  else
    let y := s.dpll.y
    let y' := match s.rd REF_STATUS_DPLL with
      | 0 => 0
      | 1 => if s.on REF_CFG_FIRST_FAST && !s.dpll.acqDone then loop else approach y loop 50
      | 2 => approach y loop 50
      | 3 => approach y s.dpll.holdY 50
      | _ => approach y 0 100
    { s with dpll := { s.dpll with y := y', ySince := s.now } }.wrInt REF_FREQ_PPB (y' / 1000000)

/-- The nominal word of the family that plan `p` uses. -/
def State.planWord (s : State) (p : Nat) : Nat := planNominal (family1001 (s.planH p).format (s.planH p).rate)

/-- The position accumulator of plan `p` counts the frequency word of its synthesiser up to now: a word above nominal brings the plan's
frames forward by as much (R213, R218, R219). -/
def State.advancePlan (p : Nat) (s : State) : State :=
  if !s.on (PLN_STATUS_RUN p) then s.setPlanH p { s.planH p with accAt := s.now, acc := 0 }
  else
    let h := s.planH p
    let n := s.planWord p
    let w := match s.servingSynth p with
      | some i => s.synWord i
      | none => n
    let a := h.acc + ((s.now - h.accAt : Nat) : Int) * ((w : Int) - (n : Int))
    let g := h.reanchor s.now
    s.setPlanH p { g with anchorT := ((g.anchorT : Int) - a / (n : Int)).toNat, acc := a % (n : Int), accAt := s.now }

/-- RAMP_UPDATE: once per µs the ramp generator of synthesiser `i` moves its word towards its target by at most one step, and the plan it
serves counts its samples. `loop` is the output offset that the DPLL's loop filter asks for, in millionths of a ppb (R184, R213, R218,
R225). -/
def execRampUpdate (i : Fin 53) (loop : Int) (s : State) : Host.Outcome State Fault Refusal :=
  .next (
    if s.now < (s.synH i).rampAt + us then s
    else
      let s := (s.runMash i).steer loop
      let s := match s.servedPlan i with
        | some p =>
          let s := s.advancePlan p
          let s := s.setPlanH p { s.planH p with yp := approach (s.planH p).yp (s.slewGoal p) 50 }
          s.aim i (offsetWord (s.planWord p) (s.dpll.y + (s.planH p).yp))
        | none => if i.val = 47 then s.aim 47 (offsetWord (nominalWord 47) s.dpll.y) else s
      let s := s.setSynH i { s.synH i with rampAt := s.now }
      if s.rd (SYN_PLL_STAT_STATE i) < 4 then s
      else match (s.synH i).target with
        | none => s.settle i
        | some want =>
          let cur := s.synWord i
          let (w0, t0) := ((s.synH i).rampFrom).getD (cur, s.now)
          let next := rampNext (s.rd (SYN_PLL_CFG_PROFILE i)) (s.rd (SYN_PLL_CFG_SLOPE i)) cur w0 t0 want s.now
          let s := s.setSynH i { s.synH i with
            rate := (next : Int) - cur, rampEnd := if next = want then ((s.synH i).rampEnd).orElse fun _ => some s.now else none }
          (s.setSynWord i next).settle i)

/-- A plan synthesiser, lane PLL or logic PLL loses lock: reported and counted, and it relocks at its word (R219, R222, R231, R235). -/
def State.synUnlock (i : Nat) (s : State) : State :=
  ((s.raiseArg SYN_EVENT_UNLOCK i).bump (SYN_PLL_STAT_UNLOCKS i)).relock i (((s.synH i).target).getD (s.synWord i))

/-- The plan whose staged change gives its claimed synthesiser up to a restoration: the highest-numbered plan whose
change has not begun (R220). -/
def State.preemptable (s : State) : Option (Nat × Nat) :=
  (rangeFrom 0 8).foldl (fun b p =>
    match (s.planH p).staged with
    | some st => match st.synth with
      | some i => if st.bridged then b else some (p, i)
      | none => b
    | none => b) none

/-- Start the restoration of a plan's clock on a pool synthesiser, ahead of staged changes (R219, R220). -/
def State.restoreClock (p : Nat) (s : State) : State :=
  let h := s.planH p
  let word := offsetWord (s.planWord p) (s.dpll.y + h.yp)
  let div := planDivider h.format h.rate
  match s.claimSynth p word div with
  | (s, some _) => s
  | (s, none) =>
    match s.preemptable with
    | some (q, i) =>
      let s := match (s.planH q).staged with
        | some st => s.setPlanH q { s.planH q with staged := some { st with synth := none, ready := none } }
        | none => s
      let s := ((s.wr (PLN_STATUS_WAIT_CLK q) 1).raiseArg SYN_EVENT_PREEMPT q).raiseArg SYN_EVENT_POOL_WAIT q
      s.takeSynth p i word div
    | none => s

/-- Plans whose clock has stopped and that have no synthesiser claimed for its restoration (R219, R220). -/
def State.clockless (s : State) (p : Nat) : Bool :=
  (s.planH p).clockLost && ((rangeFrom 37 10).find? fun i => (s.synH i).claim == some p).isNone

/-- FLUSH of SYN_PLL_CTRL: every cache entry is invalid at once, but for a search result written in the same cycle (R223). -/
def State.synFlush (i : Nat) (s : State) : State :=
  let kept := (s.synH i).cache.filter fun e => e.2.made == s.now
  s.setSynH i { s.synH i with cache := kept, used := (s.synH i).used.filter fun k => kept.any fun e => e.1 == k }

/-- A write of a seed: 0 is stored as 1, and the LFSR is reloaded at the next reference cycle (R209, R210). -/
def State.seedWrite (i v : Nat) (s : State) : State :=
  let v := if v % 2 ^ 16 = 0 then 1 else v % 2 ^ 16
  let s := s.runMash i
  (s.wr (SYN_PLL_SEED_SEED i) v).setSynH i { s.synH i with mash := { (s.synH i).mash with reload := some v } }

/-- The cache entry that SYN_CACHE_SEL names, shown in SYN_CACHE_DATA and SYN_CACHE_TEMP. -/
def State.showCache (s : State) : State :=
  let i := s.rd SYN_CACHE_SEL_PLL
  match (s.synH i).cache.find? fun e => e.1 == s.rd SYN_CACHE_SEL_ENTRY with
  | some (_, e) =>
    ((((s.wr SYN_CACHE_DATA_INT e.int).wr SYN_CACHE_DATA_FRAC_HI e.fracHi).wr SYN_CACHE_DATA_BAND e.band).wr
      SYN_CACHE_DATA_VALID 1).wr SYN_CACHE_TEMP_TEMP e.temp
  | none =>
    ((((s.wr SYN_CACHE_DATA_INT 0).wr SYN_CACHE_DATA_FRAC_HI 0).wr SYN_CACHE_DATA_BAND 0).wr
      SYN_CACHE_DATA_VALID 0).wr SYN_CACHE_TEMP_TEMP 0

end Sys2Proof.Machine
end

