-- ==== Sys2Proof/Machine/Plans.lean ====
section
/-! DEFINITION. The timing plans: phase targets and phase errors, the re-phase policies, staged changes of format and
rate, enabling and stopping (R189 to R205, R677 to R679). -/

namespace Sys2Proof.Machine

/-! ## Phase -/

/-- The first phase target of a format and rate at or after a time, as a time (R194). -/
def State.targetFrom (s : State) (p format rate t : Nat) : Nat :=
  let f := framePeriod rate
  let b := s.alignBase + (s.alignDelay p format rate : Int)
  t + ((b - (t : Int)) % (f : Int)).toNat

/-- Show a phase error in ns. -/
def State.showPhase (p : Nat) (e : Int) (s : State) : State := s.wrInt (PLN_PHASE_ERR_NS p) (e / 6)

/-- The JUMP frame of plan `p` that has been decided and has not ended (R197). -/
def State.pendingJump (s : State) (p : Nat) : Option JumpH :=
  match (s.planH p).jump with
  | some j => if j.running ∧ j.frame < s.frameOf p then none else some j
  | none => none

/-- A JUMP frame that has ended is pending no longer (R197). -/
def State.endJump (p : Nat) (s : State) : State :=
  if (s.planH p).jump.isSome && (s.pendingJump p).isNone then
    (s.setPlanH p { s.planH p with jump := none }).wr (PLN_STATUS_JUMP_PEND p) 0
  else s

/-- Decide a JUMP frame: the frame that begins at the plan's next boundary has its length changed by -e (R197). -/
def State.decideJump (p : Nat) (e : Int) (s : State) : State :=
  if e = 0 ∨ (s.pendingJump p).isSome then s
  else
    let k := s.frameOf p + 1
    let s := s.setPlanH p { s.planH p with jump := some { frame := k, change := -e } }
    ((s.wr (PLN_JUMP_F_FRAME p) (wrap32 k)).wrInt (PLN_JUMP_NS_NS p) (-e / 6)).wr (PLN_STATUS_JUMP_PEND p) 1

/-- Apply a re-phase policy to an error (Table 05-8): 0 SLEW, 1 JUMP, 2 KEEP. -/
def State.applyPolicy (p policy : Nat) (e : Int) (s : State) : State :=
  let s := s.showPhase p e
  match policy with
  | 1 => ((s.wr (PLN_STATUS_SLEWING p) 0).wr (PLN_STATUS_KEPT p) 0).decideJump p e
  | 2 => (s.wr (PLN_STATUS_SLEWING p) 0).wrB (PLN_STATUS_KEPT p) (e != 0)
  | _ => (s.wrB (PLN_STATUS_SLEWING p) (decide (6 < e.natAbs))).wr (PLN_STATUS_KEPT p) 0

/-- A phase-related running plan takes its present error under a policy; one that is not keeps its phase (R196). -/
def State.takeError (p policy : Nat) (s : State) : State :=
  if s.phaseRelated p && s.on (PLN_STATUS_RUN p) then s.applyPolicy p policy (s.phaseError p) else s

/-- The error that remains once a decided JUMP frame has made its correction (R199). Until that frame has ended, its plan's frame
boundary is the one before the correction. -/
def State.remainingError (s : State) (p : Nat) : Int :=
  match s.pendingJump p with
  | some j => s.phaseError p + j.change
  | none => s.phaseError p

/-! ## Staged changes -/

/-- Whether the staged change or the start of plan `q` waits for a synthesiser (R217). -/
def State.waitsPool (s : State) (q : Nat) : Bool :=
  match (s.planH q).staged with
  | some st => st.synth.isNone && st.ready.isNone
  | none => false

/-- The synthesiser that a higher-numbered plan has claimed in this cycle for a change that has not begun, with that plan: of claims of
one cycle the lowest-numbered plan wins (R217). -/
def State.outbid (s : State) (p : Nat) : Option (Nat × Nat) :=
  (rangeFrom (p + 1) (7 - p)).foldl (fun b q =>
    match (s.planH q).staged with
    | some st => match st.synth with
      | some i => if !st.bridged && st.claimAt == s.now then some (q, i) else b
      | none => b
    | none => b) none

/-- Plan `p` claims a synthesiser of the pool for its staged change: no restoration and no lower-numbered plan may be waiting for one.
With the pool empty it takes the claim that a higher-numbered plan has made in the same cycle (R215, R217, R220). -/
def State.claimFor (p : Nat) (st : StagedH) (s : State) : State :=
  let word := offsetWord (planNominal (family1001 st.format st.rate)) s.dpll.y
  let div := planDivider st.format st.rate
  let stage (o : Option Nat) (s : State) : State :=
    s.setPlanH p { s.planH p with staged := some { st with synth := o, claimAt := s.now } }
  if (rangeFrom 0 8).any s.clockless || (rangeFrom 0 p).any s.waitsPool then stage none s
  else match s.claimSynth p word div with
    | (s, some i) => stage (some i) s
    | (s, none) => match s.outbid p with
      | some (q, i) =>
        let s := match (s.planH q).staged with
          | some o => s.setPlanH q { s.planH q with staged := some { o with synth := none } }
          | none => s
        stage (some i) ((s.raiseArg SYN_EVENT_POOL_WAIT q).takeSynth p i word div)
      | none => stage none s

/-- Stage a change of format and rate from time `t`: a change that keeps the VCO frequency is ready at once; another
claims the lowest-numbered pool synthesiser, or waits for one (R201, R215 to R217). -/
def State.stageChange (p format rate t : Nat) (s : State) : State :=
  let h := s.planH p
  if family1001 format rate == family1001 h.format h.rate then
    (s.setPlanH p { h with staged := some { format := format, rate := rate, since := t, ready := some t } }).wr
      (PLN_STATUS_WAIT_CLK p) 0
  else
    let s := (s.settlePool.claimFor p { format := format, rate := rate, since := t }).wr (PLN_STATUS_WAIT_CLK p) 1
    if s.waitsPool p then s.raiseArg SYN_EVENT_POOL_WAIT p else s

/-- Abandon a staged change that has not begun; the synthesiser it claimed returns to the pool (R677, R678). -/
def State.cancelStaged (p : Nat) (s : State) : State :=
  match (s.planH p).staged with
  | some st =>
    if st.bridged then s
    else ((s.setPlanH p { s.planH p with staged := none }).releaseSynth st.synth).wr (PLN_STATUS_WAIT_CLK p) 0
  | none => s

/-- A format and rate written to an enabled plan, from time `t`: they replace an earlier change that has not begun, and restoring the
values in force cancels it (R201, R677). A plan that waits for its start starts with the new values, whatever they are (R679). -/
def State.retime (p format rate t : Nat) (s : State) : State :=
  let h := s.planH p
  let s := s.cancelStaged p
  if format = h.format ∧ rate = h.rate ∧ !h.starting then s else s.stageChange p format rate t

/-- A write of a format and rate to an enabled plan; after the bridge frame of an earlier change has begun it waits for that change's new
timing (R677). -/
def State.writeTiming (p format rate : Nat) (s : State) : State :=
  let h := s.planH p
  let begun := match h.staged with
    | some st => st.bridged
    | none => false
  if begun then s.setPlanH p { h with next := some (format, rate) } else s.retime p format rate s.now

/-- Enable a plan: it waits for its start, claiming a pool synthesiser where its values need another VCO frequency than
that of the one serving it (R205, R679). DESIGN CHOICE: an enable before the boundary at which a disable would stop the plan takes the
disable back; a format and rate written meanwhile, or left by a change that the disable cancelled, are then staged like any other. -/
def State.enablePlan (p : Nat) (s : State) : State :=
  let h := s.planH p
  let format := s.rd (PLN_CFG_FORMAT p)
  let rate := s.rd (PLN_CFG_RATE p)
  if h.stopping.isSome then (s.setPlanH p { h with stopping := none }).writeTiming p format rate
  else
    let s := s.setPlanH p { h with starting := true }
    s.stageChange p format rate s.now

/-- Disable a plan: it stops at its next boundary; a staged change that has not begun is cancelled (R205, R678). -/
def State.disablePlan (p : Nat) (s : State) : State :=
  let s := s.cancelStaged p
  let h := s.planH p
  if h.starting then s.setPlanH p { h with starting := false, staged := none }
  else if s.on (PLN_STATUS_RUN p) then s.setPlanH p { h with stopping := some (s.frameOf p), next := none }
  else s

/-- A change of POLICY applies the new policy to the remaining error; a decided JUMP frame stays decided (R199). -/
def State.changePolicy (p policy : Nat) (s : State) : State :=
  if s.phaseRelated p && s.on (PLN_STATUS_RUN p) then s.applyPolicy p policy (s.remainingError p) else s

/-- A write of PLN_CFG: refused where the format does not allow the rate; POLICY 3 is stored as 0; PLAN0 stays enabled.
FORMAT, RATE and EN take effect as R201 and R205 state, the other fields at once (R191, R192). -/
def State.planCfgWrite (p v : Nat) (s : State) : State :=
  let format := v / 2 % 8
  let rate := v / 16 % 8
  let policy := if v / 128 % 4 = 3 then 0 else v / 128 % 4
  let en := p == 0 || bit v 0
  if !rateAllowed format rate then s.raise (PLN_STATUS_CFG_REFUSED p)
  else
    let was := s.on (PLN_CFG_EN p)
    let oldPolicy := s.rd (PLN_CFG_POLICY p)
    let changed := s.rd (PLN_CFG_FORMAT p) != format || s.rd (PLN_CFG_RATE p) != rate
    let s := ((s.wrB (PLN_CFG_EN p) en).wr (PLN_CFG_FORMAT p) format).wr (PLN_CFG_RATE p) rate
    let s := ((s.wr (PLN_CFG_POLICY p) policy).wrB (PLN_CFG_FIELDS p) (bit v 9)).wrB (PLN_CFG_FIRST_LOCK p) (bit v 10)
    let s := if oldPolicy ≠ policy then s.changePolicy p policy else s
    if en && was then (if changed then s.writeTiming p format rate else s)
    else if en then s.enablePlan p
    else if was then s.disablePlan p
    else s

/-- The format and rate that hold for a plan: those in force while it is enabled and runs, else those of PLN_CFG, where a write to a
disabled plan takes effect at once (R189, R679). -/
def State.planTiming (s : State) (p : Nat) : Nat × Nat :=
  if s.on (PLN_CFG_EN p) && s.on (PLN_STATUS_RUN p) then ((s.planH p).format, (s.planH p).rate)
  else (s.rd (PLN_CFG_FORMAT p), s.rd (PLN_CFG_RATE p))

/-- A write of PLN_ALIGN: refused where the line or sample is not in the format; else the plan takes its error (R191, R196). -/
def State.planAlignWrite (p v : Nat) (s : State) : State :=
  let (format, rate) := s.planTiming p
  if v % 2 ^ 16 ≥ totalLines format ∨ v / 2 ^ 16 ≥ samplesPerLine format rate then s.raise (PLN_STATUS_CFG_REFUSED p)
  else ((s.wr (PLN_ALIGN_LINES p) v).wr (PLN_ALIGN_SAMPLES p) (v / 2 ^ 16)).takeError p (s.rd (PLN_CFG_POLICY p))

/-- A write of PLN_CTRL: JUMP_NOW applies the present error as under JUMP, unless a JUMP frame is pending (R198). -/
def State.planCtrlWrite (p v : Nat) (s : State) : State :=
  let s := s.endJump p
  if bit v 0 && (s.pendingJump p).isNone then s.takeError p 1 else s

/-- Where a staged change begins: the end B of the old timing and the start A of the new one. A is the first phase target
of the new format at or after readiness, B the latest old boundary at or before A and not before the write; where no such
B exists, A moves on by a frame; `n` bounds the search (R201). -/
def State.changePoint (s : State) (p : Nat) (st : StagedH) : Nat → Nat → Nat × Nat
  | 0, a => (a, a)
  | n + 1, a =>
    let h := s.planH p
    let b := h.frameStart (h.posAt a).frame
    if st.since ≤ b ∧ b ≤ a then (b, a) else s.changePoint p st n (a + framePeriod st.rate)

/-- B and A of the staged change of plan `p`, once its timebase is ready; with no phase target, the next old boundary
from readiness on (R201, R202). -/
def State.changeTimes (s : State) (p : Nat) : Option (Nat × Nat) :=
  match (s.planH p).staged with
  | some st => match st.ready with
    | some r =>
      if s.phaseRelatedRate st.rate then some (s.changePoint p st 8 (s.targetFrom p st.format st.rate r))
      else
        let h := s.planH p
        let k := (h.posAt r).frame
        let b := if h.frameStart k = r then r else h.frameStart (k + 1)
        some (b, b)
    | none => none
  | none => none

/-! ## Meanings -/

/-- The period Q of the phase events of candidate `c`, as a fraction of 1 ps: a second of instance time, a clock edge of a
frequency-only REF candidate, or a reference frame (R185). -/
def State.eventPeriod (s : State) (c : Nat) : Nat × Nat :=
  if c = 2 ∨ c = 3 then (1000000000000, 1)
  else if s.on (REF_CAND_STAT_FREQ_ONLY c) then (1001000 * 10 ^ 12, refClassRate (s.rd (REF_CAND_STAT_CLASS c)))
  else (framePeriod (s.candRate c) * 500, 3)

/-- The build-out in ns from a measured one in ps: folded into the period of the phase events (R185). -/
def State.buildOut (s : State) (c : Nat) (ps : Int) : Int :=
  let (n, d) := s.eventPeriod c
  foldPhase n (ps * d) / ((1000 * d : Nat) : Int)

/-- HAND_OFF: the frequency error has been within ±20 ppb for 2 s. The build-out is stored, folded into the period of
the phase events, and every phase-related plan takes its error: under JUMP at the first hand-off after FREE_RUN where
FIRST_LOCK is 0, else under its policy (R185, R196, R200). `freq` is the largest magnitude of the frequency error in ppb over the
last 2 s of the present selection, `b` the measured build-out in ps. -/
def execHandOff (freq : Nat) (b : Int) (s : State) : Host.Outcome State Fault Refusal :=
  .next (
    if s.rd REF_STATUS_DPLL ≠ 1 ∨ s.dpll.handoff.isSome ∨ 20 < freq ∨ s.now < s.dpll.selAt + 2 * sec then s
    else
      let first := !s.dpll.firstDone
      let s := { s with dpll := { s.dpll with handoff := some s.now, firstDone := true } }
      let s := (s.wr REF_STATUS_FREQ_ACQ 1).wrInt REF_BUILDOUT_NS (s.buildOut (s.rd REF_STATUS_SEL) b)
      s.forN 8 fun p s =>
        s.takeError p (if first && !s.on (PLN_CFG_FIRST_LOCK p) then 1 else s.rd (PLN_CFG_POLICY p)))

/-- POOL_CLAIM: the lowest-numbered plan whose staged change waits claims a synthesiser that has come free; a plan whose
clock is to be restored goes first (R217, R220). -/
def execPoolClaim (p : Fin 8) (s : State) : Host.Outcome State Fault Refusal :=
  .next (
    let s := s.settlePool
    if s.clockless p then s.restoreClock p
    else if s.poolFree.isEmpty ∨ !s.waitsPool p then s
    else match (s.planH p).staged with
      | some st => s.claimFor p st
      | none => s)

/-- SYNTH_READY: the synthesiser claimed for plan `p` has completed its path to the new word, and the new timebase is
ready from that instant; where it restores a lost clock, it takes the plan over at once (R216, R219). -/
def execSynthReady (p : Fin 8) (s : State) : Host.Outcome State Fault Refusal :=
  .next (
    match (rangeFrom 37 10).find? fun i => (s.synH i).claim == some p.val with
    | none => s
    | some i =>
      let s := s.settle i
      if s.rd (SYN_PLL_STAT_STATE i) ≠ 4 ∨ (s.synH i).target.isSome then s
      else if (s.planH p).clockLost then
        (s.setPlanH p { s.planH p with clockLost := false }).swapSynth p s.now (some i)
      else
        match (s.planH p).staged with
        | some st =>
          (s.setPlanH p { s.planH p with staged := some { st with ready := some (s.synH i).since } }).wr (PLN_STATUS_WAIT_CLK p) 0
        | none => s)

/-- BRIDGE_FRAME: the old timing ends at B and the bridge frame begins: lines of the old timing, the last one cut at A;
a JUMP due there is discarded (R201, R203, R204). -/
def execBridgeFrame (p : Fin 8) (s : State) : Host.Outcome State Fault Refusal :=
  .next (
    match s.changeTimes p, (s.planH p).staged with
    | some (b, a), some st =>
      if b < a ∧ b ≤ s.now ∧ !st.bridged ∧ !(s.planH p).starting then
        let h := s.planH p
        let s := s.setPlanH p { h with
          anchorT := b, anchorF := (h.posAt b).frame, segLen := a - b, lines := h.linesTo b, jump := none,
          staged := some { st with bridged := true } }
        (s.wr (PLN_STATUS_BRIDGE p) 1).wr (PLN_STATUS_JUMP_PEND p) 0
      else s
    | _, _ => s)

/-- Whether a staged change of plan `p` falls due at time `t`, a frame boundary of the old timing (R203). -/
def State.changeDue (s : State) (p t : Nat) : Bool :=
  match s.changeTimes p with
  | some (b, _) => !(s.planH p).starting && decide (b ≤ t)
  | none => false

/-- JUMP_FRAME: the decided frame begins with its changed length and is recorded; once it has ended, the JUMP is no longer pending. Where
a staged change falls due on the same boundary, the JUMP is discarded (R197, R203). -/
def execJumpFrame (p : Fin 8) (s : State) : Host.Outcome State Fault Refusal :=
  .next (
    match (s.planH p).jump with
    | some j =>
      let h := s.planH p
      if j.running then s.endJump p
      else if s.frameOf p < j.frame then s
      else
        let t := h.frameStart j.frame
        if s.changeDue p t then (s.setPlanH p { h with jump := none }).wr (PLN_STATUS_JUMP_PEND p) 0
        else
          let len := ((h.frameLen j.frame : Int) + j.change).toNat
          let s := s.setPlanH p { h with
            anchorT := t, anchorF := j.frame, segLen := len, lines := h.linesTo t, jump := some { j with running := true } }
          (s.wr (PLN_JUMP_F_FRAME p) (wrap32 j.frame)).wrInt (PLN_JUMP_NS_NS p) (j.change / 6)
    | none => s)

/-- SLEW_DONE: the phase error has reached 0 ± 1 ns, and the correction is over; the frequency offset returns to 0 (R196). -/
def execSlewDone (p : Fin 8) (s : State) : Host.Outcome State Fault Refusal :=
  .next (
    if !s.on (PLN_STATUS_SLEWING p) ∨ 6 < (s.phaseError p).natAbs then s
    else (s.wr (PLN_STATUS_SLEWING p) 0).showPhase p (s.phaseError p))

end Sys2Proof.Machine
end

