-- ==== Sys2Proof/Machine/Books.lean ====
section
/-! DEFINITION. The books of the ledger: units, columns, entries, decisions and the equations of Table 13-5
(R514 to R519); and the accessors of the hidden records of the video and audio paths. -/

namespace Sys2Proof.Machine

/-! ## Hidden records of the video and audio paths -/

def State.inH (s : State) (i : Nat) : InH := storeGet (fun _ => {}) s.ins i
def State.setInH (s : State) (i : Nat) (h : InH) : State := { s with ins := storeSet (fun _ => {}) s.ins i h }
def State.outH (s : State) (d : Nat) : OutH := storeGet (fun _ => {}) s.outs d
def State.setOutH (s : State) (d : Nat) (h : OutH) : State := { s with outs := storeSet (fun _ => {}) s.outs d h }
def State.chanH (s : State) (c : Nat) : ChanH := storeGet (fun _ => {}) s.chans c
def State.setChanH (s : State) (c : Nat) (h : ChanH) : State := { s with chans := storeSet (fun _ => {}) s.chans c h }
def State.srcH (s : State) (c : Nat) : SrcH := storeGet (fun _ => {}) s.src c
def State.setSrcH (s : State) (c : Nat) (h : SrcH) : State := { s with src := storeSet (fun _ => {}) s.src c h }
def State.dstH (s : State) (a : Nat) : DstH := storeGet (fun _ => {}) s.dst a
def State.setDstH (s : State) (a : Nat) (h : DstH) : State := { s with dst := storeSet (fun _ => {}) s.dst a h }
def State.genH (s : State) (n : Nat) : GenH := storeGet (fun _ => {}) s.gens n
def State.setGenH (s : State) (n : Nat) (h : GenH) : State := { s with gens := storeSet (fun _ => {}) s.gens n h }
def State.i2sH (s : State) (k : Nat) : I2sH := storeGet (fun _ => {}) s.i2s k
def State.setI2sH (s : State) (k : Nat) (h : I2sH) : State := { s with i2s := storeSet (fun _ => {}) s.i2s k h }
def State.mvhH (s : State) (h : Nat) : MvhH := storeGet (fun _ => {}) s.mvh h
def State.setMvhH (s : State) (h : Nat) (v : MvhH) : State := { s with mvh := storeSet (fun _ => {}) s.mvh h v }
def State.elastic (s : State) (i : Nat) : ElasticH := storeGet (fun _ => {}) s.est i
def State.setElastic (s : State) (i : Nat) (h : ElasticH) : State := { s with est := storeSet (fun _ => {}) s.est i h }

/-! ## Books -/

/-- The columns of a unit (LDG_VAL): ENTRY, DELIVERED, REPEATED, DROPPED, MERGED, SLIPPED, RESIDENT and RES_OPEN. -/
inductive Col where
  | entry | delivered | repeated | dropped | merged | slipped | resident | resOpen
  deriving DecidableEq, Repr

/-- The number of a column. -/
def Col.num : Col → Nat
  | .entry => 0 | .delivered => 1 | .repeated => 2 | .dropped => 3 | .merged => 4 | .slipped => 5 | .resident => 6
  | .resOpen => 7

/-- Key of unit `i` of class `c`. -/
def unitKey (c i : Nat) : Nat := c * 8192 + i

/-- The columns of a unit that nothing has counted in. -/
def noBooks : List Nat := [0, 0, 0, 0, 0, 0, 0, 0]

/-- The columns of a unit in a set of books. -/
def booksOf (l : List (Nat × List Nat)) (c i : Nat) : List Nat := storeGet (fun _ => noBooks) l (unitKey c i)

/-- One column of a unit in a set of books. -/
def colOf (l : List (Nat × List Nat)) (c i : Nat) (k : Col) : Nat := (booksOf l c i).getD k.num 0

/-- Add to a 48-bit column of a unit (R514). -/
def State.addCol (c i : Nat) (k : Col) (n : Nat) (s : State) : State :=
  let u := booksOf s.ldg.books c i
  { s with ldg := { s.ldg with
      books := storeSet (fun _ => noBooks) s.ldg.books (unitKey c i) (listSet u k.num ((u.getD k.num 0 + n) % 2 ^ 48)) } }

/-- Take from RESIDENT of a unit. -/
def State.subResident (c i n : Nat) (s : State) : State := s.addCol c i .resident (2 ^ 48 - n % 2 ^ 48)

/-- `n` items enter a unit: they count in ENTRY and are resident until they are decided. -/
def State.bookIn (c i n : Nat) (s : State) : State := if n = 0 then s else (s.addCol c i .entry n).addCol c i .resident n

/-- `n` resident items are decided in a column. -/
def State.bookOut (c i : Nat) (k : Col) (n : Nat) (s : State) : State :=
  if n = 0 then s else (s.addCol c i k n).subResident c i n

/-- Items that enter and are decided in one step. -/
def State.bookThrough (c i : Nat) (k : Col) (n : Nat) (s : State) : State := (s.bookIn c i n).bookOut c i k n

/-- A repeat adds copies to an audio unit (Table 13-5, classes 5 and 6). -/
def State.bookCopy (c i n : Nat) (s : State) : State :=
  if n = 0 then s else (s.addCol c i .repeated n).addCol c i .resident n

/-- Every item resident in a unit is dropped (R518). -/
def State.dropResident (c i : Nat) (s : State) : State :=
  s.bookOut c i .dropped (colOf s.ldg.books c i .resident)

/-- The columns that the equation of a class does not name (Table 13-5). -/
def unnamedCols (c : Nat) : List Nat :=
  match c with
  | 1 => [4]
  | 3 => [2, 5]
  | 5 => [4]
  | 6 => [4, 5]
  | 9 => [2, 3, 4, 5]
  | _ => [2, 4, 5]

/-- The number of units of a class (Table 13-4). -/
def unitCount (c : Nat) : Nat :=
  match c with
  | 0 | 1 => 4608 | 2 => 36 | 3 => 4096 | 4 => 4164 | 5 | 6 => 3072 | 7 => 37 | 8 => 2 | 9 => 394 | 10 => 256 | _ => 0

/-- Whether the columns of a unit of class `c`, index `i` satisfy Table 13-5 and the limits of R515. -/
def balanced (c i : Nat) (u : List Nat) : Bool :=
  let g (k : Nat) : Nat := u.getD k 0
  let left := if c = 5 ∨ c = 6 then g 0 + g 2 + g 7 else g 0 + g 7
  let right := if c = 5 ∨ c = 6 then g 1 + g 3 + g 5 + g 6 else g 1 + g 2 + g 3 + g 4 + g 5 + g 6
  decide (left % 2 ^ 48 = right % 2 ^ 48) && (unnamedCols c).all (fun k => g k == 0)
    && (c != 8 || decide (g 6 ≤ if i = 0 then 64 else 5978)) && (c != 10 || decide (g 6 ≤ 1))

end Sys2Proof.Machine
end

