-- ==== Sys2Proof/Machine/PktBase.lean ====
section
/-! DEFINITION. Packet engine: the hidden records of contexts and MACs, the bindings of receive contexts, their playout
delay, buffer size and activation (R433 to R435). Admission needs them, so they stand before it. -/

namespace Sys2Proof.Machine

def State.rxH (s : State) (x : Nat) : RxH := storeGet (fun _ => {}) s.rx x
def State.setRxH (s : State) (x : Nat) (h : RxH) : State := { s with rx := storeSet (fun _ => {}) s.rx x h }
def State.txH (s : State) (y : Nat) : TxH := storeGet (fun _ => {}) s.tx y
def State.setTxH (s : State) (y : Nat) (h : TxH) : State := { s with tx := storeSet (fun _ => {}) s.tx y h }
def State.macH (s : State) (n : Nat) : MacH := storeGet (fun _ => {}) s.mac n
def State.setMacH (s : State) (n : Nat) (h : MacH) : State := { s with mac := storeSet (fun _ => {}) s.mac n h }

/-- Whether trellis `n` has packet mode framing in force. -/
def State.packetMode (s : State) (n : Nat) : Bool := decide (n < 36) && (s.trlH n).mode == 1

/-- The domain of the packet engine that serves trellis `n`. -/
def engineDomain (n : Nat) : Nat := 85 + n / 9

/-- Width of a pattern generator's source at a format and rate (Table 07-4). -/
def formatWidth (format rate : Nat) : Nat :=
  if format ≤ 5 then 1 else if format = 6 then (if rate ≤ 4 then 2 else 4) else 16

/-- The ids or channels that receive context `x` binds: first and number. -/
def State.rxSpan (s : State) (x : Nat) : Nat × Nat :=
  (s.rd (PKT_RXC_BIND_BASE x),
    match s.rd (PKT_RXC_CFG_TYPE x) with
    | 1 => s.rd (PKT_RXC_BIND_COUNT x)
    | 2 => 1
    | _ => formatWidth (s.rd (PKT_RXC_CFG_FORMAT x)) (s.rd (PKT_RXC_CFG_RATE x)))

/-- Whether the binding of `x` overlaps that of another active context (R433). -/
def State.rxOverlaps (s : State) (x : Nat) : Bool :=
  let (b, w) := s.rxSpan x
  s.rx.any fun e =>
    let (b', w') := s.rxSpan e.1
    e.1 != x && s.on (PKT_RXC_STAT_ACTIVE e.1) && s.rd (PKT_RXC_CFG_TYPE e.1) == s.rd (PKT_RXC_CFG_TYPE x)
      && decide (b < b' + w') && decide (b' < b + w)

/-- Whether the binding of a receive context is valid (R433). -/
def State.rxBound (s : State) (x : Nat) : Bool :=
  let (b, w) := s.rxSpan x
  !s.rxOverlaps x &&
    match s.rd (PKT_RXC_CFG_TYPE x) with
    | 1 => decide (1 ≤ w ∧ w ≤ 64 ∧ b + w ≤ 12288)
    | 2 => decide (b < 4096) && s.on (PKT_RXC_STAT_ACTIVE b) && s.rd (PKT_RXC_CFG_TYPE b) == 0
    | _ => decide (b < 4608) && b % w == 0 && s.packetMode (b / 128)

/-- The effective playout delay P_eff in µs (R435). -/
def State.playout (s : State) (x : Nat) : Nat :=
  if s.on (PKT_RXC_CFG_MERGE x) then max (s.rd (PKT_RXC_TIME_PLAYOUT x)) (s.rd (PKT_RXC_TIME_MERGE_WIN x) * 100)
  else s.rd (PKT_RXC_TIME_PLAYOUT x)

/-- The buffer of a context in bytes (R434): RATE × (P_eff + 1 ms), RATE in Mb/s. -/
def State.rxBuffer (s : State) (x : Nat) : Nat := (s.rd (PKT_RXC_RATE_MBPS x) * (s.playout x + 1000) + 7) / 8

/-- The MERGE charge of a context in kb/s (R434). -/
def State.rxCharge (s : State) (x : Nat) : Nat := (2 * 2 * s.rd (PKT_RXC_RATE_MBPS x) * 1000 * 85 + 84) / (2 * 84)

/-- Region 5 tokens of one MB that a buffer takes (class 8, unit 1). -/
def mergeTokens (size : Nat) : Nat := (size + 999999) / 1000000

/-- Whether region 5 lacks the space for a context's buffer. -/
def State.mergeFull (s : State) (x : Nat) : Bool :=
  decide (clrRegionSize 5 < colOf s.ldg.books 8 1 .resident + mergeTokens (s.rxBuffer x))

/-- The PTP instance of trellis `n` is in RATE_LOCK. -/
def State.rateLocked (s : State) (n : Nat) : Bool := decide (n < 36) && s.rd (PTP_STATUS_SERVO n) == 2

/-- Whether a context's effective timing is PTP (R436). -/
def State.rxPtp (s : State) (x : Nat) : Bool := !s.on (PKT_RXC_CFG_TIMING x) && s.rateLocked (s.rd (PKT_RXC_CFG_PTP_SEL x))

/-- A context that is enabled, bound and admitted becomes active; an invalid binding is reported (R433). -/
def State.rxActivate (x : Nat) (s : State) : State :=
  let h := s.rxH x
  if !h.on || s.on (PKT_RXC_STAT_ACTIVE x) then s
  else
    let ok := s.rxBound x
    let s := s.wrB (PKT_RXC_STAT_BIND_ERR x) (!ok)
    if ok && h.admitted then
      let s := (s.setRxH x { on := true, admitted := true, tokens := h.tokens }).wr (PKT_RXC_STAT_ACTIVE x) 1
      s.wrB (PKT_RXC_STAT_TIMING_EFF x) (!s.rxPtp x)
    else s

/-- Every enabled context with an invalid binding is judged anew (R433). -/
def State.rxRecheck (s : State) : State :=
  s.forL s.rx fun e s => if s.on (PKT_RXC_STAT_BIND_ERR e.1) || s.rd (PKT_RXC_CFG_TYPE e.1) == 2 then s.rxActivate e.1 else s

/-- A MERGE charge is granted: its tokens are taken (R434). -/
def State.grantMerge (x : Nat) (s : State) : State :=
  let n := mergeTokens (s.rxBuffer x)
  let s := (s.bookIn 8 1 n).setRxH x { s.rxH x with admitted := true, tokens := n }
  ((s.wr (PKT_RXC_STAT_ADM_REASON x) 0).rxActivate x).rxRecheck

/-- A MERGE charge is withdrawn: its tokens are released. -/
def State.freeMerge (x : Nat) (s : State) : State :=
  let h := s.rxH x
  ((s.bookOut 8 1 .delivered h.tokens).setRxH x { h with admitted := false, tokens := 0 }).wr (PKT_RXC_STAT_ADM_REASON x) 0

end Sys2Proof.Machine
end

