-- ==== Sys2Proof/Machine/VideoOps.lean ====
section
/-! DEFINITION. Operations of the video path: gangs and addressing, sources and their widths, cellar admission and reads,
carriage, loss policies, output frames and the switch of a route (R15 to R22, R119 to R124, R321 to R369). -/

namespace Sys2Proof.Machine

/-! ## Addressing -/

/-- Mode framing in force on trellis `n`: container 0, packet 1, trunk 2. -/
def State.trunk (s : State) (n : Nat) : Bool := (s.trlH n).mode == 2

/-- The input gang layout in use on trellis `n`, three bits a slot: that of CTN_RX_GANG in container mode (R124); in the other
modes the register keeps its value. -/
def State.gangBits (s : State) (n : Nat) : Nat :=
  if (s.trlH n).mode = 0 then
    s.rd (CTN_RX_GANG_GANG n 0) + s.rd (CTN_RX_GANG_GANG n 1) * 2 ^ 32 + s.rd (CTN_RX_GANG_GANG n 2) * 2 ^ 64
  else (s.ctnH n).codes

/-- Set the input gang layout in use on a trellis. -/
def State.setGangBits (n v : Nat) (s : State) : State :=
  if (s.trlH n).mode = 0 then s.forN 3 fun k s => s.wr (CTN_RX_GANG_GANG n k) (v / 2 ^ (32 * k))
  else s.setCtnH n { s.ctnH n with codes := v % 2 ^ 96 }

/-- Gang code of input slot `slot` (0 to 1151) (R119). -/
def State.inCode (s : State) (slot : Nat) : Nat := s.gangBits (slot / 32) / 8 ^ (slot % 32) % 8

/-- Lowest quarter and width of the gang that quarter `q` of a slot belongs to under a gang code (Table 04-4). -/
def gangOf (code q : Nat) : Nat × Nat :=
  match code with
  | 1 => if q < 2 then (0, 2) else (q, 1)
  | 2 => if q < 2 then (q, 1) else (2, 2)
  | 3 => if q < 2 then (0, 2) else (2, 2)
  | 4 => (0, 4)
  | _ => (q, 1)

/-- Addressing id and width of the input that quarter-slot id `i` belongs to (R7, R119 to R121). -/
def State.inAddr (s : State) (i : Nat) : Nat × Nat :=
  let code := s.inCode (i / 4)
  if code = 5 then (i / 16 * 16, 16)
  else
    let (q, w) := gangOf code (i % 4)
    (i / 4 * 4 + q, w)

/-- Whether an input id is the addressing id of its gang. -/
def State.addresses (s : State) (i : Nat) : Bool := (s.inAddr i).1 == i

/-- The code of XPT_MAP_RD.WIDTH for a width. -/
def widthCode (w : Nat) : Nat := if w = 16 then 3 else if w = 4 then 2 else if w = 2 then 1 else 0
/-- The width of a code of XPT_MAP_RD.WIDTH. -/
def widthOf (c : Nat) : Nat := match c with
  | 0 => 1 | 1 => 2 | 2 => 4 | _ => 16

/-- Whether an input is bit-transparent (R132). -/
def State.transparent (s : State) (i : Nat) : Bool := bit (s.ctnH (i / 128)).trans (i % 128)

/-- The domain that carries input `i`: its input-stage group (R37). -/
def inDomain (i : Nat) : Nat := 45 + i / 128 / 6
/-- The domain that drives output `d`: its crosspoint quadrant. -/
def outDomain (d : Nat) : Nat := 41 + d / 128 / 9

/-- The plan in force of an output (R330). -/
def State.outPlan (s : State) (d : Nat) : Nat := s.rd (XPT_MAP_RD_PLAN d)
/-- The plan last written for an output. -/
def State.outPlanSet (s : State) (d : Nat) : Nat := s.rd (XPT_OUT_PLAN_PLAN (d / 8) (d % 8))

/-! ## Sources -/

/-- The input that a source id stands for: an input id itself, or the trunk channel of a remote id that is fed (R568,
R569). -/
def State.inputOf (s : State) (src : Nat) : Option Nat :=
  if src < 4608 then some src
  else if 4768 ≤ src ∧ src < 8192 then
    let r := src - 4768
    let k := s.rd (FAB_RMAP_RSV r)
    if s.rd (FAB_RMAP_ST_STATE r) = 2 then
      some (s.rd (FAB_RSV_MAP_TRELLIS k) * 128 + s.rd (FAB_RSV_MAP_SLOT0 k) * 4 + s.rd (FAB_RMAP_CH r))
    else none
  else none

/-- The head whose return a source id belongs to. -/
def headOf (src : Nat) : Option Nat := if 4608 ≤ src ∧ src < 4736 then some ((src - 4608) / 4) else none

/-- Whether a head's plan runs in a format that it composes a raster for (Table 12-1, R463). -/
def State.headComposes (s : State) (h : Nat) : Bool :=
  let p := s.rd (MVH_CFG_PLAN h)
  let f := (s.planH p).format
  s.on (PLN_STATUS_RUN p) && decide (2 ≤ f ∧ f ≤ 6)

/-- Width of a head's return: 4 when its plan has format 6 (Table 07-4, R21). -/
def State.headWidth (s : State) (h : Nat) : Nat := if (s.planH (s.rd (MVH_CFG_PLAN h))).format = 6 then 4 else 1

/-- Width of a source at a destination of plan `p` (Table 07-4). -/
def State.srcWidth (s : State) (src p : Nat) : Nat :=
  if src < 4608 then (s.inAddr src).2
  else match headOf src with
    | some h => if src % 4 = 0 then s.headWidth h else 1
    | none =>
      if src < 4768 then
        let f := (s.planH p).format
        if f ≤ 5 then 1 else if f = 6 then (if (s.planH p).rate ≤ 4 then 2 else 4) else 16
      else widthOf (s.rd (FAB_RMAP_ST_WIDTH (src - 4768)))

/-- Whether blocks bring an input's slot: the framing of its trellis is LOCKED, its slot map bit is 1, and neither its gang code
nor the skew of its links bars it, nor does an excluded member feed it (R125, R126, R140, R143, R565). -/
def State.slotReceived (s : State) (i : Nat) : Bool :=
  let h := s.ctnH (i / 128)
  let k := i % 128 / 4
  h.state == 2 && bit h.map k && !bit h.barred k
    && !(s.fab.silent.any fun e => e.2.1 == i / 128 && decide (e.2.2.1 ≤ k) && decide (k < e.2.2.1 + e.2.2.2))

/-- Whether a source id is one that a head's ganged return covers (R7, R21). -/
def State.headCovered (s : State) (src : Nat) : Bool :=
  decide (4608 ≤ src ∧ src < 4736) && src % 4 != 0 && s.headWidth ((src - 4608) / 4) == 4

/-- Whether a source carries a signal now: a present input, a bit-transparent input whose slot is received (R140, R146), a running head's return, a pattern generator below shed
level 3 (R21, R43, R357). An id of a trunk-mode trellis is closed to routes (R17). -/
def State.srcPresent (s : State) (src : Nat) : Bool :=
  match s.inputOf src with
  | some i =>
    if src < 4608 && s.trunk (src / 128) then false
    else if s.transparent i then
      s.slotReceived i && s.carries (inDomain i)
    else s.on (XPT_IN_STAT_PRESENT i) && !s.on (XPT_IN_STAT_COVERED i) && s.carries (inDomain i)
  | none => match headOf src with
    | some h => s.on (MVH_STATUS_STATE h) && s.on (MVH_CFG_OUT_RET h) && s.headComposes h && s.carries (51 + h) && (src % 4 == 0)
    | none => decide (src < 4768) && decide (s.rd TOP_MODE_SHED < 3)

/-- Whether a source is a bit-transparent input (R329). -/
def State.srcTransparent (s : State) (src : Nat) : Bool :=
  match s.inputOf src with
  | some i => s.transparent i
  | none => false

/-! ## Read reference and offsets -/

/-- Length of a line of a plan, in time units. -/
def PlanH.lineLen (h : PlanH) : Nat := framePeriod h.rate / totalLines h.format

/-- The cask window W of a plan (Table 09-1). -/
def PlanH.window (h : PlanH) : Nat :=
  let l := framePeriod h.rate / totalLines h.format
  if (h.format = 6 ∨ h.format = 7) ∧ h.rate ≤ 4 then l / 2 else l

/-- XPT_PLAN_CASK.REF in force on a plan (R331). -/
def State.caskRef (s : State) (p : Nat) : Nat :=
  if s.on (PLN_STATUS_RUN p) ∧ s.frameOf p < (s.planH p).caskAt then (s.planH p).cask else s.rd (XPT_PLAN_CASK_REF p)

/-- Delay of the read reference Q of a plan after the plan itself (R331). -/
def State.refDelay (s : State) (p : Nat) : Nat := s.caskRef p * (s.planH p).window

/-- The plan frame whose read reference is in progress now, unwrapped. -/
def State.refFrame (s : State) (p : Nat) : Nat := ((s.planH p).posAt (s.now - s.refDelay p)).frame

/-- The instant Q(f, 1) of a plan. -/
def State.refStart (s : State) (p f : Nat) : Nat := (s.planH p).frameStart f + s.refDelay p

/-- The offset t = Q(f, l) - A(l) of a line that arrives now, against plan `p`, in time units (R336). -/
def State.caskOffset (s : State) (p line arrival : Nat) : Int :=
  let h := s.planH p
  let f := (h.posAt arrival).frame
  foldPhase (framePeriod h.rate) ((h.lineStart f line + s.refDelay p : Nat) - (arrival : Int))

/-- Whether an offset lies in the cask window of a plan. -/
def State.inWindow (s : State) (p : Nat) (t : Int) : Bool := decide (0 ≤ t) && decide (t ≤ (s.planH p).window)

/-- Whether the frame rate of an input, by its last two frame starts, lies within ±100 ppm of the current one of plan `p`, which follows the
frequency word of the plan's synthesiser (R332). -/
def State.rateNear (s : State) (i p : Nat) : Bool :=
  match (s.inH i).stored with
  | a :: b :: _ =>
    let word := match s.servingSynth p with
      | some k => s.synWord k
      | none => s.planWord p
    let f := (a.1 - b.1) * framePeriod (s.planH p).rate * s.planWord p
    decide ((((a.2 - b.2) * word : Nat) - (f : Int)).natAbs * 10000 ≤ f)
  | _ => true

/-- Whether an input is compatible with a plan: classified with its format and rate, at the plan's frame rate (R332). -/
def State.compatible (s : State) (i p : Nat) : Bool :=
  s.on (XPT_IN_STAT_PRESENT i) && s.on (XPT_IN_STAT_CLASSIFIED i) && s.rd (XPT_IN_STAT_FORMAT i) == (s.planH p).format
    && s.rd (XPT_IN_STAT_RATE i) == (s.planH p).rate && s.rateNear i p

/-! ## Modes and carriage -/

/-- The effective mode of an input (R329, R333): 0 PASS, 1 CASK, 2 CELLAR. -/
def State.effMode (s : State) (i : Nat) : Nat :=
  if s.transparent i || (s.on (XPT_IN_STAT_PRESENT i) && !s.on (XPT_IN_STAT_CLASSIFIED i)) then 0
  else match s.rd (XPT_IN_CFG_MODE i) with
    | 0 => 0
    | 1 => 1
    | _ => if (s.inH i).cellar then 2 else 1

/-- Frames of an input that are still undecided are dropped (R516). -/
def State.dropUndecided (i : Nat) (s : State) : State :=
  let n := (s.inH i).undecided.length
  (s.setInH i { s.inH i with undecided := [] }).bookOut 0 i .dropped n

/-- Show the effective mode; on leaving CELLAR the undecided frames are dropped (R516). -/
def State.updateMode (i : Nat) (s : State) : State :=
  if s.on (XPT_IN_STAT_COVERED i) then s
  else
    let m := s.effMode i
    let s := if s.rd (XPT_IN_STAT_MODE_EFF i) = 2 ∧ m ≠ 2 then s.dropUndecided i else s
    s.wr (XPT_IN_STAT_MODE_EFF i) m

/-- The cellar read of an input on a plan, if it holds one. -/
def InH.readOn (h : InH) (p : Nat) : Option ReadH := h.reads.find? fun r => r.plan == p

/-- The carriage of a source at an output of plan `p`: aligned, and through a cellar read (Table 09-2). -/
def State.carriage (s : State) (src p : Nat) : Bool × Bool :=
  match s.inputOf src with
  | some i =>
    let m := s.effMode i
    if m = 0 || !s.compatible i p then (false, false)
    else if m = 2 && ((s.inH i).readOn p).isSome then (true, true)
    else (bit (s.inH i).windows p, false)
  | none => match headOf src with
    | some h => (s.rd (MVH_CFG_PLAN h) == p, false)
    | none => (decide (src < 4768), false)

/-! ## Frame stores and charges -/

/-- Whether an input has a frame store and a skim store (R338, R359). -/
def State.hasStore (s : State) (i : Nat) : Bool :=
  let code := s.inCode (i / 4)
  let (a, w) := s.inAddr i
  if a ≠ i then false
  else if w ≥ 4 then true
  else if w = 2 then i % 4 == 0 || code == 2
  else code == 0

/-- A charge in kb/s: `bytes` a frame at a rate, with the metadata factor 85/84, rounded to the nearest (Table 09-4). -/
def chargeOf (bytes rate : Nat) : Nat :=
  let (n, d) := if rate1001 rate then (bytes * 8 * rateFps rate * 85 * 1000, 84 * 1000 * 1001)
                else (bytes * 8 * rateFps rate * 85, 84 * 1000)
  (2 * n + d) / (2 * d)

/-- Bytes of a stored frame (Table 09-4). -/
def storedFrame (format : Nat) : Nat :=
  match format with
  | 0 => 890000 | 1 => 1050000 | 2 => 2340000 | 3 | 4 | 5 => 5250000 | 6 => 21000000 | _ => 84000000

/-- The frame charge of a format and rate. -/
def frameCharge (format rate : Nat) : Nat := chargeOf (storedFrame format) rate

/-- Bytes of an L2 and an L3 skim frame together (R359). -/
def skimFrame (format : Nat) : Nat :=
  if format = 7 then 4 * 1640625
  else
    let w := prfRasterW format
    let h := prfRasterH format
    1312500 * (((w + 3) / 4) * ((h + 3) / 4)) / 518400 + 328125 * (((w + 7) / 8) * ((h + 7) / 8)) / 129600

/-- The SKIM charge of a format and rate. -/
def skimCharge (format rate : Nat) : Nat := chargeOf (skimFrame format) rate

/-! ## Latency tolerances and channels -/

/-- Set a channel's state, counted in CLR_PM_STAT; an access begins its idle time anew (R368). -/
def State.setChannel (c st : Nat) (s : State) : State :=
  let s := s.setChanH c { state := st, idle := if st = 0 then s.now else (s.chanH c).idle }
  let count (k : Nat) : Nat := (s.chans.filter fun e => e.2.state == k).length
  (s.wr CLR_PM_STAT_IN_PD (count 1)).wr CLR_PM_STAT_IN_SR (count 2)

/-- The least tolerance that any client reports, in ns. -/
def State.leastTolerance (s : State) : Nat := (rangeFrom 0 40).foldl (fun m c => min m (s.rd (CLR_LTR_NS c))) 0xFFFF

/-- A tolerance below a state's threshold wakes every channel in that state at once (R368). -/
def State.wakeChannels (s : State) : State :=
  let t := s.leastTolerance
  s.forL (s.chans.filter fun e => (e.2.state == 1 && decide (t < 130)) || (e.2.state == 2 && decide (t < 3000)))
    fun e s => s.setChannel e.1 0

/-- Report the tolerances of the video, merge and audio clients (Table 09-12). -/
def State.updateLtr (s : State) : State :=
  let has (p : Load → Bool) (ns : Nat) : Nat := if s.adm.granted.any fun e => p e.1 then ns else 0xFFFF
  let s0 := s
  let s := s.wr (CLR_LTR_NS 0) (has (fun l => l.cls == 0 && l.sub == 0) 4000)
  let s := s.wr (CLR_LTR_NS 1) (has (fun l => l.cls == 0 && l.sub != 0) 1500)
  let s := s.wr (CLR_LTR_NS 2) (has (fun l => l.cls == 3) 8000)
  let s := s.wr (CLR_LTR_NS 3) (has (fun l => l.cls == 1) 4000)
  let s := s.wr (CLR_LTR_NS 4) (has (fun l => l.cls == 2) 1000)
  let s := s.wr (CLR_LTR_NS 5) (if s0.src.any fun e => e.2.delay != 0 then 20000 else 0xFFFF)
  s.wakeChannels

/-! ## Admission -/

/-- Charges admitted in a class, in kb/s. -/
def State.admitted (s : State) (cls : Nat) : Nat :=
  (s.adm.granted.filter fun e => e.1.cls == cls).foldl (fun a e => a + e.2) 0

/-- All charges admitted. -/
def State.admittedAll (s : State) : Nat := s.adm.granted.foldl (fun a e => a + e.2) 0

/-- Show admission in CLR_ADM_USED, CLR_ADM_TOTAL and CLR_ADM_PEND. -/
def State.showAdmission (s : State) : State :=
  let s := s.forN 5 fun c s => s.wr (CLR_ADM_USED_MBPS c) (s.admitted c / 1000)
  (s.wr CLR_ADM_TOTAL_MBPS (s.admittedAll / 1000)).wr CLR_ADM_PEND_COUNT s.adm.waiting.length

/-- The first reason of Table 09-10 for which a load is refused; 0 when it is granted. `eligible` says whether a load of
class HEAD, COPY or MERGE is eligible at all (R364). -/
def State.refusal (s : State) (l : Load) (charge : Nat) : Nat :=
  let input := l.cls = 0 ∨ l.cls = 1 ∨ l.cls = 3
  if !s.on TOP_STATUS_CELLAR_READY || !s.cellarUp then 1
  else if input ∧ (!s.on (XPT_IN_STAT_PRESENT l.id) || !s.on (XPT_IN_STAT_CLASSIFIED l.id) || s.transparent l.id) then 2
  else if input ∧ !s.hasStore l.id then 3
  else if l.cls = 2 ∧ s.mergeFull l.id = true then 3
  else if l.cls = 1 ∧ 64 ≤ (s.adm.granted.filter fun e => e.1.cls == 1).length then 4
  else if l.cls = 4 ∧ s.rd CLR_ADM_HEADCAP_MBPS * 1000 < s.admitted 4 + charge then 5
  else if s.rd CLR_ADM_BUDGET_MBPS * 1000 < s.admittedAll + charge then 6
  else 0

/-- What a grant does beside the charge: the mode, a read, a copy slot, or skim writes. -/
def State.granted (l : Load) (s : State) : State :=
  match l.cls with
  | 0 =>
    if l.sub = 0 then
      let s := s.setInH l.id { s.inH l.id with
        cellar := true, kind := s.rd (XPT_IN_STAT_FORMAT l.id) * 8 + s.rd (XPT_IN_STAT_RATE l.id) }
      (s.wr (XPT_IN_STAT_ADM_REASON l.id) 0).updateMode l.id
    else s.setInH l.id { s.inH l.id with reads := (s.inH l.id).reads ++ [{ plan := l.sub - 1 }] }
  | 1 => s.bookIn 8 0 1
  | 2 => s.grantMerge l.id
  | 3 => s.wr (XPT_IN_STAT_SKIM_ON l.id) 1
  | _ =>
    let mine (e : Load × Nat) : Bool := e.1.cls == 4 && e.1.id == l.id
    let total := (s.adm.granted.filter mine).foldl (fun a e => a + e.2) 0
    let s := { s with adm := { s.adm with
      granted := s.adm.granted.filter (fun e => !mine e) ++ [(({ cls := 4, id := l.id } : Load), total)] } }
    s.wr (MVH_LSTAT_ADM_REASON (l.id / 8) (l.id % 8)) 0

/-- A request that is pending leaves the queue. -/
def State.unwait (l : Load) (s : State) : State :=
  { s with adm := { s.adm with waiting := s.adm.waiting.filter fun e => e.1 != l } }

/-- Evaluate a request: a grant admits its charge; a refusal is recorded, and the request stays pending (R364, R366).
`again` says that the request has been pending before. -/
def State.decideLoad (again : Bool) (l : Load) (charge : Nat) (s : State) : State :=
  let r := s.refusal l charge
  if r = 0 then
    let s := s.unwait l
    let s := ({ s with adm := { s.adm with granted := s.adm.granted ++ [(l, charge)] } } : State).granted l
    let s := if again then s.raise CLR_ADM_EVENT_GRANTED_LATE else s
    s.showAdmission.updateLtr
  else
    let s := if again then s else { s with adm := { s.adm with waiting := s.adm.waiting ++ [(l, charge)] } }
    let s := if l.cls = 0 ∧ l.sub = 0 then s.wr (XPT_IN_STAT_ADM_REASON l.id) r else s
    let s := if l.cls = 2 then s.wr (PKT_RXC_STAT_ADM_REASON l.id) r else s
    let s := if l.cls = 4 then s.wr (MVH_LSTAT_ADM_REASON (l.id / 8) (l.id % 8)) r else s
    let s := ((s.wr CLR_ADM_LAST_CLASS l.cls).wr CLR_ADM_LAST_ID l.id).wr CLR_ADM_LAST_REASON r
    ((s.wr CLR_ADM_LAST_VALID 1).raise CLR_ADM_EVENT_REFUSED).showAdmission

/-- A load requests admission, unless it is admitted or pending already. -/
def State.askLoad (l : Load) (charge : Nat) (s : State) : State :=
  if (s.adm.granted.any fun e => e.1 == l) || (s.adm.waiting.any fun e => e.1 == l) then s else s.decideLoad false l charge

/-- Whether a load is admitted. -/
def State.holdsLoad (s : State) (l : Load) : Bool := s.adm.granted.any fun e => e.1 == l

/-- An admitted charge or a pending request is withdrawn (R363). -/
def State.withdrawLoad (l : Load) (s : State) : State :=
  let was := s.holdsLoad l
  let s := { s with adm := { granted := s.adm.granted.filter fun e => e.1 != l,
                             waiting := s.adm.waiting.filter fun e => e.1 != l } }
  let s := match l.cls with
    | 0 =>
      if l.sub = 0 then
        ((s.setInH l.id { s.inH l.id with cellar := false }).wr (XPT_IN_STAT_ADM_REASON l.id) 0).updateMode l.id
      else s.setInH l.id { s.inH l.id with reads := (s.inH l.id).reads.filter fun r => r.plan != l.sub - 1 }
    | 1 => (if was then s.bookOut 8 0 .delivered 1 else s).setInH l.id { s.inH l.id with copy := [] }
    | 2 => s.freeMerge l.id
    | 3 => (s.wr (XPT_IN_STAT_SKIM_ON l.id) 0).setInH l.id { s.inH l.id with skim := [] }
    | _ => s
  s.showAdmission.updateLtr

/-- Insert a request in the order of R365: class, then id, then age. -/
def insertLoad (e : Load × Nat) : List (Load × Nat) → List (Load × Nat)
  | [] => [e]
  | a :: l =>
    if a.1.cls < e.1.cls ∨ (a.1.cls = e.1.cls ∧ a.1.id ≤ e.1.id) then a :: insertLoad e l else e :: a :: l

/-- The pending requests in the order in which they are evaluated (R365). -/
def State.waitingOrder (s : State) : List (Load × Nat) := s.adm.waiting.foldl (fun l e => insertLoad e l) []

/-- Drop a read's charge; its frames no longer wait for it. -/
def State.releaseRead (i p : Nat) (s : State) : State := s.withdrawLoad { cls := 0, id := i, sub := p + 1 }

/-- A CELLAR request of a present, classified input asks for its write (Table 09-9). -/
def State.askCellar (i : Nat) (s : State) : State :=
  if s.rd (XPT_IN_CFG_MODE i) = 2 ∧ s.on (XPT_IN_STAT_PRESENT i) then
    s.askLoad { cls := 0, id := i } (frameCharge (s.rd (XPT_IN_STAT_FORMAT i)) (s.rd (XPT_IN_STAT_RATE i)))
  else s

/-- A present, classified input with SKIM_EN and a skim store asks for its skim writes, unless shedding has stopped them
(R358, R360). -/
def State.askSkim (i : Nat) (s : State) : State :=
  if s.on (XPT_IN_CFG_SKIM_EN i) && s.on (XPT_IN_STAT_PRESENT i) && s.on (XPT_IN_STAT_CLASSIFIED i) && !s.transparent i
      && decide (s.rd TOP_MODE_SHED < 2) then
    s.askLoad { cls := 3, id := i } (skimCharge (s.rd (XPT_IN_STAT_FORMAT i)) (s.rd (XPT_IN_STAT_RATE i)))
  else s

/-- Whether some output of a plan carries a route from an input. -/
def State.routedOn (s : State) (i p : Nat) : Bool :=
  (rangeFrom 0 4608).any fun d =>
    s.rd (XPT_MAP_RD_SRC d) == i && s.on (XPT_MAP_RD_VALID d) && !s.on (XPT_MAP_RD_COVERED d) && s.outPlan d == p

/-- A cellar read of an input is assigned to a plan at the first route to it, in READS + 1 reads at most (R341). -/
def State.assignRead (i p : Nat) (s : State) : State :=
  let l : Load := { cls := 0, id := i, sub := p + 1 }
  let mine (e : Load × Nat) : Bool := e.1.cls == 0 && e.1.id == i && e.1.sub != 0
  if s.effMode i ≠ 2 ∨ (s.adm.granted.any fun e => e.1 == l) ∨ (s.adm.waiting.any fun e => e.1 == l) then s
  else if s.rd (XPT_IN_CFG_READS i) + 1 ≤ (s.adm.granted.filter mine).length + (s.adm.waiting.filter mine).length then
    (s.wr (XPT_IN_STAT_READS_OVER i) 1).raise XPT_EVENT_READS_OVER
  else s.askLoad l (frameCharge (s.rd (XPT_IN_STAT_FORMAT i)) (s.rd (XPT_IN_STAT_RATE i)))

/-- A read is released when no route to a destination of its plan remains (R341). -/
def State.releaseIdleRead (i p : Nat) (s : State) : State :=
  if i < 4608 && s.holdsLoad { cls := 0, id := i, sub := p + 1 } && !s.routedOn i p then s.releaseRead i p else s

/-! ## Frame tags and selection -/

/-- The tag of frame `n` of a source id (R326). -/
def frameTag (src n : Nat) : Nat := src % 2 ^ 13 * 2 ^ 19 + n % 2 ^ 19

/-- G of a plan: two of its lines (R339). -/
def PlanH.guard (h : PlanH) : Nat := 2 * framePeriod h.rate / totalLines h.format

/-- The frame n(f) that a cellar read of input `i` selects for output frame `f` of plan `p`: the newest stored frame that
started at or before Q(f, 1) - D × F - G (R339). -/
def State.selectFrame (s : State) (i p f : Nat) : Option Nat :=
  let h := s.planH p
  let back := s.rd (XPT_IN_CFG_DELAY i) * framePeriod h.rate + h.guard
  ((s.inH i).stored.find? fun e => decide ((s.inH i).cellarFrom ≤ e.1) && decide (e.2 + back ≤ s.refStart p f)).map (·.1)

/-- Frames of an input that every read has passed by are dropped, and a frame that a read selects is delivered (R516). -/
def State.decideFrames (i : Nat) (n : Nat) (s : State) : State :=
  let h := s.inH i
  let s := if h.undecided.contains n then
      (s.setInH i { h with undecided := h.undecided.filter (· != n) }).bookOut 0 i .delivered 1 else s
  let h := s.inH i
  let passed (m : Nat) : Bool := h.reads.all fun r => match r.sel with
    | some k => decide (m < k)
    | none => false
  let gone := h.undecided.filter passed
  (s.setInH i { h with undecided := h.undecided.filter fun m => !passed m }).bookOut 0 i .dropped gone.length

/-- The cellar read of input `i` on plan `p` selects its frame for output frame `f`, once for all destinations; it keeps
the frame it selected before where the store holds none that it may take. -/
def State.readFrame (i p f : Nat) (s : State) : State :=
  match (s.inH i).readOn p with
  | none => s
  | some r =>
    if !s.cellarUp || (r.frame == f && r.sel.isSome) then s
    else
      let n := (s.selectFrame i p f).orElse fun _ => r.sel
      let h := s.inH i
      let s := s.setInH i { h with
        reads := h.reads.map fun x => if x.plan = p then { x with frame := f, sel := n, prev := r.sel, patch := [], lastPatch := r.patch } else x }
      match n with
      | some k => s.decideFrames i k
      | none => s

/-- The tag that output `d` of plan `p` carries from a source now (R326, R348, R509). -/
def State.carriedTag (s : State) (d src p : Nat) : Nat :=
  match s.inputOf src with
  | some i =>
    let newest := ((s.inH i).stored.head?.map (·.1)).getD ((s.inH i).frames - 1)
    let n := match (s.inH i).readOn p with
      | some r => if s.effMode i = 2 then r.sel.getD newest else newest
      | none => newest
    if src < 4608 then frameTag src n else frameTag src (s.inH i).tag
  | none => match headOf src with
    | some h => frameTag (4608 + 4 * h) (s.refFrame (s.rd (MVH_CFG_PLAN h)) - (s.mvhH h).base)
    | none => frameTag src (s.outH d).genFrames

/-! ## Output frames -/

/-- The output frame in progress ends and is classified (Table 09-6, R517). -/
def State.endFrame (d : Nat) (s : State) : State :=
  let h := s.outH d
  if h.running then
    let col : Col := if h.slip then .slipped else if h.policy then .dropped else if h.again then .repeated else .delivered
    (s.setOutH d { h with running := false, slip := false, policy := false, again := false, landLine := 0, judged := false }).bookOut
      1 d col 1
  else s

/-- The signal of an output stops within a frame: the frame is dropped (R23, R219, R518). -/
def State.cutOutput (d : Nat) (s : State) : State :=
  if (s.outH d).running then
    (s.setOutH d { s.outH d with running := false, slip := false, policy := false, again := false }).dropResident 1 d
  else s

/-- The output frame in progress becomes a slip frame. -/
def State.slipFrame (d : Nat) (s : State) : State :=
  let h := s.outH d
  if h.running then s.setOutH d { h with slip := true } else s.setOutH d { h with slipNext := true }

/-- An output frame begins: it enters the ledger (R517). -/
def State.beginFrame (d tag : Nat) (policy again : Bool) (s : State) : State :=
  let h := s.outH d
  let s := s.setOutH d { h with
    running := true, since := s.now, tag := tag, slip := h.slipNext, slipNext := false, policy := policy, again := again,
    landLine := 0, rgen := s.rd PRF_STATUS_RGEN, judged := false }
  s.bookIn 1 d 1

/-- The outputs whose route in force names a source, lowest first. -/
def State.destsOf (s : State) (src : Nat) : List Nat :=
  indicesWhere 4608 fun d => s.rd (XPT_MAP_RD_SRC d) == src && s.on (XPT_MAP_RD_VALID d) && !s.on (XPT_MAP_RD_COVERED d)

/-- The source ids that stand for an input: its own id, and remote ids fed through it. -/
def State.idsOf (s : State) (i : Nat) : List Nat :=
  i :: (if s.trunk (i / 128) then indicesWhere 3424 (fun r => s.inputOf (4768 + r) == some i) else []).map (4768 + ·)

/-- An output whose source has been lost applies its loss policy: in aligned carriage at once, else after black lines up to
the next frame boundary of the plan; the frame in progress is a slip frame (R354). -/
def State.loseSource (d : Nat) (s : State) : State :=
  if s.on (XPT_MAP_RD_POLICY d) then s
  else
    let aligned := s.on (XPT_MAP_RD_ALIGNED d)
    let s := s.slipFrame d
    let s := s.setOutH d { s.outH d with black := !aligned, holds := 0, holdOver := false }
    if aligned then ((s.wr (XPT_MAP_RD_POLICY d) 1).wr (XPT_MAP_RD_CELLAR d) 0) else s

/-- The content of a loss policy is aligned (Table 09-2). -/
def State.enterPolicy (d : Nat) (s : State) : State :=
  let s := s.setOutH d { s.outH d with black := false, holds := 0, holdOver := false }
  ((s.wr (XPT_MAP_RD_POLICY d) 1).wr (XPT_MAP_RD_ALIGNED d) 1).wr (XPT_MAP_RD_CELLAR d) 0

/-! ## Inputs that come and go -/

/-- Discard the elastic store of an input: its samples count as dropped in their channels' groups (R410, R518). -/
def State.dropElastic (i : Nat) (s : State) : State :=
  let s := s.forL (s.elastic i).frames fun f s => s.forL f fun e s => s.bookOut 5 (e.1 / 16) .dropped 1
  s.setElastic i {}

/-- The areas that carry the links of input `i`: one, or that of each of the four slots of a quad-link group (R120, R121). -/
def State.linkAreas (s : State) (i : Nat) : List Nat :=
  if (s.inAddr i).2 = 16 then (rangeFrom 0 4).map fun j => i / 16 * 16 + 4 * j else [i]

/-- An input becomes absent: its undecided frames are dropped, its SKIM charge is withdrawn, the loss is counted and its
outputs apply their loss policies; the last complete frame that a store holds stays there (R324, R354, R363, R377, R516). -/
def State.inputAbsent (i : Nat) (s : State) : State :=
  if !s.on (XPT_IN_STAT_PRESENT i) then s
  else
    let s := s.dropUndecided i
    let s := s.withdrawLoad { cls := 3, id := i }
    let mode := s.rd (XPT_IN_STAT_MODE_EFF i)
    let s := s.setWord (XPT_IN_STAT i) 0
    let s := s.wr (XPT_IN_STAT_MODE_EFF i) mode
    let s := s.wr (XPT_IN_OFFS_NS i) 0
    let whole := (s.inH i).complete
    let s := s.setInH i { s.inH i with stored := [], complete := none, windows := 0, reads := (s.inH i).reads.map fun r =>
      { r with sel := none, prev := none } }
    let s := (s.bump (XPT_IN_ERR_LOSSES i)).raise XPT_EVENT_IN_LOSS
    let s := s.forL (rangeFrom (i / 4 * 32) 32) fun c s =>
      let g := c % 32 / 4
      if s.rd (AUD_DMX_MAP_QUARTER (i / 4) (g / 4) (g % 4)) = i % 4 then s.wr (AUD_SRC_STAT_LIVE c) 0 else s
    let s := s.forL (s.linkAreas i) fun x s => s.dropElastic x
    let s := s.forL (s.linkAreas i) fun x s =>
      let h := s.inH x
      s.setInH x { h with
        sdi := { h.sdi with frames := 0 },
        pics := match whole with
          | some n => if n + 1 = (s.inH i).frames then [(n, h.sdi.rows ++ h.sdi.past)] else h.pics.take 1
          | none => h.pics.take 1 }
    (s.forL (s.idsOf i) fun src s => s.forL (s.destsOf src) fun d s => s.loseSource d).refRecheck

/-- Every input of trellis `n` that is present becomes absent (R146, R324). -/
def State.inputsAbsent (n : Nat) (s : State) : State := s.forL (rangeFrom (128 * n) 128) fun i s => s.inputAbsent i

/-- The XPT registers of an input that a gang covers, and of one that a gang has released (R369). -/
def State.coverInput (i : Nat) (covered : Bool) (s : State) : State :=
  if covered then
    ((s.setWord (XPT_IN_STAT i) 0).wr (XPT_IN_STAT_COVERED i) 1).setWord (XPT_IN_OFFS i) 0 |>.setWord (XPT_IN_ERR i) 0
  else if s.on (XPT_IN_STAT_COVERED i) then (s.setWord (XPT_IN_STAT i) 0).setWord (XPT_IN_ERR i) 0 else s

/-- Withdraw every load of an input. -/
def State.withdrawInput (i : Nat) (s : State) : State :=
  s.forL ((s.adm.granted ++ s.adm.waiting).filter fun e => (e.1.cls == 0 || e.1.cls == 3) && e.1.id == i) fun e s =>
    s.withdrawLoad e.1

/-- Set the gang codes of input slots; the ids of a slot whose code changes restart as new inputs (R124, R369). -/
def State.setInCode (slot code : Nat) (s : State) : State :=
  if s.inCode slot = code then s
  else
    let ids := rangeFrom (4 * slot) 4
    let s := s.forL ids fun i s => (s.inputAbsent i).withdrawInput i
    let k := slot % 32
    let w := s.gangBits (slot / 32)
    let s := s.setGangBits (slot / 32) (w - w / 8 ^ k % 8 * 8 ^ k + code * 8 ^ k)
    let s := s.forL ids fun i s => s.coverInput i (!s.addresses i)
    if s.on (AUD_SLOT_CFG_DMX_AUTO slot) then
      s.forN 2 fun k s => s.setWord (AUD_DMX_MAP slot k) (BitVec.ofNat 32 (audMapWord code k))
    else s

/-! ## Routes -/

/-- Gang code that the routes in an output slot give it (R123). -/
def State.outCode (s : State) (o : Nat) : Nat :=
  let w (q : Nat) : Nat := if s.on (XPT_MAP_RD_VALID (4 * o + q)) then s.rd (XPT_MAP_RD_WIDTH (4 * o + q)) else 0
  let base := o / 4 * 4
  if s.on (XPT_MAP_RD_VALID (4 * base)) && s.rd (XPT_MAP_RD_WIDTH (4 * base)) == 3 then 5
  else if w 0 = 2 then 4
  else (if w 0 = 1 then 1 else 0) + (if w 2 = 1 then 2 else 0)

/-- The embedding map of an output slot follows its gang code while EMB_AUTO is 1 (R396). -/
def State.followCode (o : Nat) (s : State) : State :=
  if s.on (AUD_SLOT_CFG_EMB_AUTO o) then
    s.forN 2 fun k s => s.setWord (AUD_EMB_MAP o k) (BitVec.ofNat 32 (audMapWord (s.outCode o) k))
  else s

/-- The output id loses its route and carries idle fill; a frame in progress ends there (R134, R255). -/
def State.dropRoute (d : Nat) (s : State) : State :=
  let src := s.rd (XPT_MAP_RD_SRC d)
  let p := s.outPlan d
  let s := if (s.outH d).running then (s.slipFrame d).endFrame d else s
  let s := (s.wr (XPT_MAP_RD_VALID d) 0).wr (XPT_MAP_RD_WIDTH d) 0
  let s := ((s.wr (XPT_MAP_RD_ALIGNED d) 0).wr (XPT_MAP_RD_CELLAR d) 0).wr (XPT_MAP_RD_POLICY d) 0
  let s := s.setOutH d { s.outH d with black := false, slipNext := false, genFrames := 0, stillAt := s.now }
  s.releaseIdleRead src p

/-- A gang addressed by `d` dissolves: the ids it covered carry idle fill until they are routed (R255). -/
def State.dissolve (d : Nat) (s : State) : State :=
  let w := widthOf (s.rd (XPT_MAP_RD_WIDTH d))
  let s := s.wr (XPT_MAP_RD_WIDTH d) 0
  s.forL (rangeFrom (d + 1) (w - 1)) fun x s =>
    ((s.wr (XPT_MAP_RD_COVERED x) 0).wr (XPT_MAP_RD_VALID x) 0).wr (XPT_MAP_RD_PLAN x) (s.outPlanSet x)

/-- The ids that a route of width `w` covers lose their routes (R122, R255). -/
def State.cover (d w : Nat) (s : State) : State :=
  s.forL (rangeFrom (d + 1) (w - 1)) fun x s =>
    ((s.dissolve x).dropRoute x).wr (XPT_MAP_RD_COVERED x) 1 |>.wr (XPT_MAP_RD_PLAN x) (s.outPlan d)

/-- A landing restarts the mismatch run of a destination, and marks the frame in progress (R509, R513). -/
def State.markLanding (d line : Nat) (s : State) : State :=
  let s := s.setOutH d { s.outH d with landed := s.now, quiet := 0, landLine := line, genFrames := 0 }
  s.wr (PRF_DST_RUN d) 0

/-- A route lands on an output: the switch is clean when the outgoing and the incoming content are both aligned, else the
frame in progress is a slip frame (R345 to R350). `line` is the switch line. -/
def State.switchTo (d src width line : Nat) (s : State) : State :=
  let p := s.outPlan d
  let routed := s.on (XPT_MAP_RD_VALID d)
  let old := s.rd (XPT_MAP_RD_SRC d)
  let outOk := !routed || (s.on (XPT_MAP_RD_ALIGNED d) && !(s.outH d).black)
  let s := if s.rd (XPT_MAP_RD_WIDTH d) ≠ widthCode width then s.dissolve d else s
  let s := ((s.wr (XPT_MAP_RD_SRC d) src).wr (XPT_MAP_RD_VALID d) 1).wr (XPT_MAP_RD_WIDTH d) (widthCode width)
  let s := s.cover d width
  let s := s.markLanding d line
  let s := match s.inputOf src with
    | some i => s.assignRead i p
    | none => s
  let s := if routed ∧ old ≠ src then s.releaseIdleRead old p else s
  let present := s.srcPresent src
  let (al, ce) := if present then s.carriage src p else (true, false)
  let s := s.setOutH d { s.outH d with black := false, holds := 0, holdOver := false }
  let s := ((s.wrB (XPT_MAP_RD_POLICY d) (!present)).wrB (XPT_MAP_RD_ALIGNED d) al).wrB (XPT_MAP_RD_CELLAR d) ce
  let s := match s.inputOf src with
    | some i => if ce then s.readFrame i p (s.refFrame p) else s
    | none => s
  let h := s.outH d
  let s := s.setOutH d { h with tag := s.carriedTag d src p }
  let s := if s.srcTransparent src then
      (((s.wr (PRF_DST_LAST d) 3).wr (PRF_DST_REASON d) 2).wr (PRF_DST_TAG d) 0) else s
  let s := s.forL (if width = 16 then (rangeFrom 0 4).map fun j => d + 4 * j else [d]) fun x s =>
    s.setOutH x { s.outH x with gap := routed && !(outOk && al) }
  let s := if outOk && al then s.wr (XPT_MAP_RD_UNCLEAN_LAST d) 0
    else (((s.wr (XPT_MAP_RD_UNCLEAN_LAST d) 1).bump (LDG_INFO_COUNT 0)).slipFrame d).raise XPT_EVENT_UNCLEAN
  s.followCode (d / 4)

/-- A CLEAR lands: the destination loses its route and its gang dissolves (R255). -/
def State.clearRoute (d line : Nat) (s : State) : State :=
  (((s.dissolve d).dropRoute d).markLanding d line).followCode (d / 4)

/-- A mask change lands on a quarter-slot at its plan's switch line: a masked output has no frames (R135 to R138). -/
def State.setMask (d : Nat) (on : Bool) (s : State) : State :=
  let s := if on then s else (if (s.outH d).running then (s.slipFrame d).endFrame d else s)
  let s := s.setOutH d { s.outH d with
    masked := !on, ending := !on && (s.on (XPT_MAP_RD_VALID d) || s.on (XPT_MAP_RD_COVERED d)), opening := on && (s.outH d).masked,
    stillAt := if on then (s.outH d).stillAt else s.now }
  let slot := d / 4
  let any := (rangeFrom (4 * slot) 4).any fun x => !(s.outH x).masked
  let f : Field := ⟨CTN_SLOTM (slot / 32), slot % 32, 1⟩
  s.wrB f any

/-- Line `line` of a present input leaves the input stage: the plans whose cask window it misses are noted (R325, R336). -/
def State.lineArrives (i line : Nat) (s : State) : State :=
  s.forN 8 fun p s =>
    if s.inWindow p (s.caskOffset p line s.now) then s
    else s.setInH i { s.inH i with outside := (s.inH i).outside ||| 2 ^ p }

end Sys2Proof.Machine
end

