-- ==== Sys2Proof/Machine/Compose.lean ====
section
/-! DEFINITION. The pictures that the device makes: layers of a head with their scaler, LUTs, border and blend, head returns, pattern generators,
and the lines that an output carries (R331, R339, R351 to R357, R358, R465 to R477, R489, R493). -/

namespace Sys2Proof.Machine

/-! ## Layers -/

/-- Fields of a layer (MVH_LSRC to MVH_LFENCE_V). -/
def LayerH.id (l : LayerH) : Nat := l.src.toNat % 2 ^ 13
def LayerH.kind (l : LayerH) : Nat := l.src.toNat / 2 ^ 13 % 4
def LayerH.level (l : LayerH) : Nat := l.src.toNat / 2 ^ 15 % 4
def LayerH.pitch (l : LayerH) : Nat := l.src.toNat / 2 ^ 18 % 2 ^ 13
def LayerH.cropX (l : LayerH) : Nat := l.crop.toNat % 2 ^ 16
def LayerH.cropY (l : LayerH) : Nat := l.crop.toNat / 2 ^ 16
def LayerH.cropW (l : LayerH) : Nat := l.csize.toNat % 2 ^ 16
def LayerH.cropH (l : LayerH) : Nat := l.csize.toNat / 2 ^ 16
def LayerH.destX (l : LayerH) : Nat := l.dpos.toNat % 2 ^ 16
def LayerH.destY (l : LayerH) : Nat := l.dpos.toNat / 2 ^ 16
def LayerH.destW (l : LayerH) : Nat := l.dsize.toNat % 2 ^ 16
def LayerH.destH (l : LayerH) : Nat := l.dsize.toNat / 2 ^ 16
def LayerH.on (l : LayerH) : Bool := bit l.ctrl.toNat 0
def LayerH.alpha (l : LayerH) : Nat := l.ctrl.toNat / 2 % 2 ^ 8
def LayerH.lutOn (l : LayerH) : Bool := bit l.ctrl.toNat 9
def LayerH.lutBank (l : LayerH) : Nat := l.ctrl.toNat / 2 ^ 10 % 2
def LayerH.border (l : LayerH) : Nat := l.ctrl.toNat / 2 ^ 11 % 16
def LayerH.colour (l : LayerH) : Nat := l.ctrl.toNat / 2 ^ 15 % 4
def LayerH.fenced (l : LayerH) : Bool := bit l.ctrl.toNat 17

/-- The layers of the displayed set. -/
def MvhH.shownLayers (m : MvhH) : List LayerH := match m.shown with | some c => c.layers | none => []

/-- A layer has no source to show (R472). -/
def State.layerBlind (s : State) (l : LayerH) : Bool :=
  l.on && l.kind == 0 && (!s.on (XPT_IN_STAT_PRESENT l.id) || !s.on (XPT_IN_STAT_CLASSIFIED l.id) || s.transparent l.id
    || (l.level != 0 && !s.on (XPT_IN_STAT_SKIM_ON l.id)))

/-- A layer reads at L0 a source that runs more than twice as fast as the head (R471). -/
def State.layerFast (s : State) (h : Nat) (l : LayerH) : Bool :=
  l.on && l.kind == 0 && l.level == 0 && s.on (XPT_IN_STAT_PRESENT l.id)
    && decide (2 * framePeriod (s.rd (XPT_IN_STAT_RATE l.id)) < framePeriod (s.planH (s.rd (MVH_CFG_PLAN h))).rate)

/-! ## Frames of inputs -/

/-- The lines of frame `n` of the input at area `x`, whose gang input `i` addresses: the newest frame stands in the cask, earlier ones in the
stores (R338). -/
def State.linesOf (s : State) (i x n : Nat) : Lines :=
  if n + 1 = (s.inH i).frames then (s.inH x).sdi.rows ++ (s.inH x).sdi.past
  else (((s.inH x).pics.find? fun e => e.1 == n).map (·.2)).getD []

/-! ## The scaler -/

/-- Source samples and weights, in 64ths, for output sample `x` of `d` made of `c` samples: the area of its footprint above a ratio of 1,
else two neighbours (R474). DESIGN CHOICE: the bounds of the weights are rounded half up, so that they sum to 64; centres are aligned, and the
outermost sample stands for what lies beyond it. -/
def scalerTaps (c d x : Nat) : List (Nat × Nat) :=
  if c = 0 ∨ d = 0 then []
  else if d < c then
    let lo := x * c
    let hi := lo + c
    (rangeFrom (lo / d) ((hi + d - 1) / d - lo / d)).map fun k =>
      let a := max lo (k * d) - lo
      let b := min hi ((k + 1) * d) - lo
      (k, roundDiv (64 * b) c - roundDiv (64 * a) c)
  else
    let u := (2 * x + 1) * c - d
    let k := u / (2 * d)
    let w := roundDiv (64 * (u % (2 * d))) (2 * d)
    [(k, 64 - w), (min (k + 1) (c - 1), w)]

/-- The value of a sample from its row and column taps: one rounding, half up, of the whole sum. -/
def scaled (at_ : Nat → Nat → Nat) (cols rows : List (Nat × Nat)) : Nat :=
  let sum := rows.foldl (fun a r => cols.foldl (fun a c => a + r.2 * c.2 * at_ c.1 r.1) a) 0
  roundDiv sum 4096

/-- Row taps of a layer for row `y` of its destination, as rows of its crop; on an interlaced or PsF raster each field is made of the rows of
the crop that belong to it (R474). -/
def LayerH.rowTaps (l : LayerH) (fields : Bool) (y : Nat) : List (Nat × Nat) :=
  if !fields then scalerTaps l.cropH l.destH y
  else
    let p := (l.destY + y) % 2
    let first := (l.destY + p) % 2
    let from_ := (l.cropY + p) % 2
    (scalerTaps ((l.cropH + 1 - from_) / 2) ((l.destH + 1 - first) / 2) (y / 2)).map fun e => (min (2 * e.1 + from_) (l.cropH - 1), e.2)

/-! ## Pixels -/

/-- A colour word's sample of plane `k`: 0 luma, 1 Cb, 2 Cr (MVH_BG). -/
def colourAt (w k : Nat) : Nat := w / 2 ^ (10 * k) % 2 ^ 10

/-- First byte of region 3 of the cellar (Table 09-8), and of a surface in it (Tables 12-2, 12-3). -/
def surfaceBase (h : Nat) (l : LayerH) : Nat :=
  82990000000 + (if l.kind = 1 then (71 * h + 21 + 25 * l.id) * 1000000 else 2272000000 + l.id * 500000)

/-- Sample (`x`, `y`) of plane `k` of a layer's source, 3 being alpha; what lies outside the source raster is the no-signal colour (R467,
R472). DESIGN CHOICE: an overlay buffer's pitch is the width of the head's raster. -/
def State.layerSample (s : State) (h : Nat) (l : LayerH) (lines : Lines) (nosig k x y : Nat) : Nat :=
  if l.kind = 0 then
    let f := s.rd (XPT_IN_STAT_FORMAT l.id)
    let d := levelFactor l.level
    let w := (prfRasterW f + d - 1) / d
    let t := (prfRasterH f + d - 1) / d
    if k = 3 then 255
    else if (if k = 0 then w else (w + 1) / 2) ≤ x ∨ t ≤ y then colourAt nosig k
    else levelSample f (pictureRow f lines) l.level k x y
  else
    let pitch := if l.kind = 1 then prfRasterW (s.planH (s.rd (MVH_CFG_PLAN h))).format else l.pitch
    let px := if k = 0 ∨ k = 3 then x else 2 * x + (k - 1)
    let v := (storeGet (fun _ => (0 : BitVec 8)) s.cellar
      (surfaceBase h l + 3 * (pitch * y + px) + (match k with | 0 => 0 | 3 => 2 | _ => 1))).toNat
    if k = 3 then v else v * 4

/-- The entry of a LUT of a head for an input code of plane `k` (R476). -/
def MvhH.lutAt (m : MvhH) (bank lut k v : Nat) : Nat :=
  colourAt (storeGet (fun i => i % 1024 * (1 + 2 ^ 10 + 2 ^ 20)) m.lut ((bank * 16 + lut) * 1024 + v % 1024)) k

/-- The frame of its input that a layer reads: the one it selected at the latch (R469). -/
def State.layerLines (s : State) (h j : Nat) (l : LayerH) : Lines :=
  match ((s.mvhH h).reads.find? fun e => e.1 == j && e.2.1 == l.id).map (·.2.2) with
  | some n => s.linesOf l.id l.id n
  | none => []

/-- Plane `k` of pixel (`x`, `y`) of a head's raster from layer `j`, and its alpha p: crop and scale, chroma by repetition, LUT and border
(R472, R474 to R476). -/
def State.layerPixel (s : State) (h j : Nat) (c : SetH) (l : LayerH) (lines : Lines) (k x y : Nat) : Nat × Nat :=
  let m := s.mvhH h
  let f := (s.planH (s.rd (MVH_CFG_PLAN h))).format
  let nosig := (c.globals.getD 2 0).toNat
  let dx := x - l.destX
  let dy := y - l.destY
  let blind := s.layerBlind l || s.layerFast h l
  let rows := l.rowTaps (f == 3 || f == 4) dy
  let plane (k : Nat) : Nat :=
    if blind then (if k = 3 then 255 else colourAt nosig k)
    else if k = 0 ∨ k = 3 then
      scaled (fun a b => s.layerSample h l lines nosig k (l.cropX + a) (l.cropY + b)) (scalerTaps l.cropW l.destW dx) rows
    else scaled (fun a b => s.layerSample h l lines nosig k (l.cropX / 2 + a) (l.cropY + b)) (scalerTaps (l.cropW / 2) (l.destW / 2) (dx / 2)) rows
  let b := l.border
  let edge := decide (dx < b) || decide (l.destW ≤ dx + b) || decide (dy < b) || decide (l.destH ≤ dy + b)
  let v := if edge then colourAt (c.globals.getD (3 + l.colour) 0).toNat k
    else if l.lutOn then m.lutAt l.lutBank j k (plane k) else plane k
  (v, if l.kind = 0 then 255 else plane 3)

/-- A layer's sample over the one below it, with ALPHA and the pixel's alpha p, rounded half up (R477). -/
def blend (alpha p layer below : Nat) : Nat := roundDiv (alpha * p * layer + (65025 - alpha * p) * below) 65025

/-- Whether a layer covers a pixel, and has not underrun before its line (R493). -/
def State.layerCovers (s : State) (h j : Nat) (l : LayerH) (x y : Nat) : Bool :=
  let f := (s.planH (s.rd (MVH_CFG_PLAN h))).format
  l.on && decide (l.destX ≤ x ∧ x < l.destX + l.destW) && decide (l.destY ≤ y ∧ y < l.destY + l.destH)
    && decide (j < s.rd (MVH_CFG_NLAYERS h))
    && !(s.mvhH h).underAt.any fun e => e.1 == j && decide (e.2 ≤ pictureLine f y)

/-- Plane `k` of pixel (`x`, `y`) of a head's raster, in 4:4:4: the layers over the background, and the post-blend LUT (R475, R477). -/
def State.headPixel (s : State) (h k x y : Nat) : Nat :=
  let m := s.mvhH h
  match m.shown with
  | none => colourAt (s.word (MVH_BG h)).toNat k
  | some c =>
    let v := c.layers.zipIdx.foldl (fun below e =>
      if s.layerCovers h e.2 e.1 x y then
        let (v, p) := s.layerPixel h e.2 c e.1 (s.layerLines h e.2 e.1) k x y
        blend e.1.alpha p v below
      else below) (colourAt (c.globals.getD 1 0).toNat k)
    let stage := (c.globals.getD 0 0).toNat
    if bit stage 1 then m.lutAt (stage / 4 % 2) 8 k v else v

/-- The clamp of an active sample (R465). -/
def activeClamp (v : Nat) : Nat := clampNat 0x004 0x3FB v

/-- Picture line `y` of the head's composed raster: chroma is the mean of a pair, rounded half up, and every sample is clamped (R465, R475). -/
def State.headRow (s : State) (h y : Nat) : List Nat :=
  let w := prfRasterW (s.planH (s.rd (MVH_CFG_PLAN h))).format
  ((rangeFrom 0 (w / 2)).map fun i =>
    let c (k : Nat) : Nat := activeClamp (roundDiv (s.headPixel h k (2 * i) y + s.headPixel h k (2 * i + 1) y) 2)
    [c 1, activeClamp (s.headPixel h 0 (2 * i) y), c 2, activeClamp (s.headPixel h 0 (2 * i + 1) y)]).flatten

/-- A bridge frame of a head's plan, whose lines are black (R489). -/
def State.headBlack (s : State) (h : Nat) : Bool :=
  let g := s.planH (s.rd (MVH_CFG_PLAN h))
  match g.staged with
  | some st => st.bridged && decide (g.anchorF ≤ (g.posAt s.now).frame)
  | none => false

/-- A line of a head's return (R465). -/
def State.headLine (s : State) (h line : Nat) : List Nat :=
  let g := s.planH (s.rd (MVH_CFG_PLAN h))
  if s.headBlack h then blackLine g.format g.rate line else rasterLine g.format g.rate line (activeOfRows g.format (s.headRow h) line)

/-- The active lines of a head's return. -/
def State.headLines (s : State) (h : Nat) : Lines :=
  let f := (s.planH (s.rd (MVH_CFG_PLAN h))).format
  ((rangeFrom 1 (totalLines f)).filter (activeLine f)).map fun l => (l, s.headLine h l)

/-! ## Pattern generators -/

/-- Picture line `y` of a pattern generator in a format, on link `j` of a quad-link raster: words that the spec does not give (R357). -/
def patternRow (src f j y : Nat) : List Nat := (rangeFrom 0 (2 * prfRasterW f)).map fun k => Config.patternWord src f j y k

/-- A line of a pattern generator's raster on a plan (R22). -/
def State.patternLine (s : State) (src p j line : Nat) : List Nat :=
  let g := s.planH p
  rasterLine g.format g.rate line (activeOfRows g.format (patternRow src g.format j) line)

/-! ## Output lines -/

/-- Line `l` of the previous output frame of a read, on link `j` (R344). -/
def State.lastReadLine (s : State) (i : Nat) (r : ReadH) (j l : Nat) : List Nat :=
  match r.lastPatch.find? fun e => e.1 == l with
  | some e => e.2.getD j []
  | none => match r.prev with
    | some n => (lineAt (s.linesOf i (i + 4 * j) n) l).getD []
    | none => []

/-- Line `line` of what the source of an output brings on link `j`: the frame that its cellar read has selected, the newest line in the cask,
a head's raster, or a pattern generator's (R331, R339). -/
def State.sourceLine (s : State) (src p j line : Nat) (cellar : Bool) : List Nat :=
  match s.inputOf src with
  | some i =>
    let x := i + 4 * j
    let read := if cellar then (s.inH i).readOn p else none
    match read.bind (·.sel) with
    | some n => ((read.bind fun r => (r.patch.find? fun e => e.1 == line).map fun e => e.2.getD j [])).getD
        ((lineAt (s.linesOf i x n) line).getD [])
    | none => (lineAt ((s.inH x).sdi.rows ++ (s.inH x).sdi.past) line).getD []
  | none => match headOf src with
    | some h => s.headLine h line
    | none => s.patternLine src p j line

/-- The content of a loss policy on link `j` of output `d` (Table 09-7). -/
def State.policyLine (s : State) (d j line : Nat) : List Nat :=
  let p := s.outPlan d
  let g := s.planH p
  let src := s.rd (XPT_MAP_RD_SRC d)
  let held := if s.cellarUp && !(s.outH d).holdOver then (s.inputOf src).bind fun i =>
      if (s.inH i).cellar then ((s.inH (i + 4 * j)).pics.head?).bind fun e => lineAt e.2 line else none
    else none
  match s.rd (XPT_OUT_CFG_LOSS d) with
  | 1 => held.getD (blackLine g.format g.rate line)
  | 2 => []
  | 3 => s.patternLine (4736 + s.rd (XPT_OUT_CFG_GEN d)) p j line
  | _ => blackLine g.format g.rate line

/-- Line `line` of the content of output `d` on link `j` before its audio is embedded: its source's, that of its loss policy, or black after a
loss in unaligned carriage (R351, R354). -/
def State.outLine (s : State) (d j line : Nat) : List Nat :=
  let p := s.outPlan d
  if (s.outH d).black then blackLine (s.planH p).format (s.planH p).rate line
  else if s.on (XPT_MAP_RD_POLICY d) then s.policyLine d j line
  else s.sourceLine (s.rd (XPT_MAP_RD_SRC d)) p j line (s.on (XPT_MAP_RD_CELLAR d))

end Sys2Proof.Machine
end

