-- ==== Sys2Proof/Machine/AudioOps.lean ====
section
/-! DEFINITION. Operations of the audio engine: the audio sequence, source channels, delay lines, destinations, crossfades
and the gain laws, and the I²S ports (R370 to R410). -/

namespace Sys2Proof.Machine

/-! ## Sequence and sample counts -/

/-- The audio sequence position of frame `f` of a plan (R372). -/
def State.seqPos (s : State) (p f : Nat) : Nat :=
  let h := s.planH p
  if h.rate = 3 ∨ h.rate = 6 then (f + 5 - s.aud.anchors.getD p 0 % 5) % 5 else 0

/-- Under a PTP candidate the sequence alignment points are every fifth frame from instance time 0 on (R372): the frame of
a plan that stands at position 0 is anchored by them. -/
def State.anchorPtp (p : Nat) (s : State) : State :=
  let c := s.rd REF_STATUS_SEL
  let h := s.planH p
  if (c = 2 ∨ c = 3) && s.phaseRelated p && s.on (PLN_STATUS_RUN p) then
    let f := s.frameOf p
    let fp : Int := framePeriod h.rate
    let k := ((h.frameStart f : Int) - s.alignBase + fp / 2) / fp % 5
    s.anchorSequence p (f + 5 - k.toNat)
  else s

/-- The samples that a frame embeds at a rate and sequence position (Table 10-1). -/
def samplesPerFrame (rate pos : Nat) : Nat :=
  match rate with
  | 0 => 2002 | 1 => 2000 | 2 => 1920 | 3 => if pos % 2 = 0 then 1602 else 1601
  | 4 => 1600 | 5 => 960 | 6 => if pos = 0 then 800 else 801 | _ => 800

/-! ## Source channels -/

/-- The number of the MUTE channel (Table 10-2). -/
abbrev muteChannel : Nat := 65535

/-- Whether a number names an audio source channel that is not reserved (R374). -/
def isSourceChannel (c : Nat) : Bool := decide (c < 49232) || (decide (53248 ≤ c) && decide (c ≤ 65535))

/-- NONPCM of a source channel (R393). -/
def State.nonPcm (s : State) (c : Nat) : Bool :=
  if c < 49152 then s.on (AUD_SRC_STAT_NONPCM c)
  else if c < 49216 then false
  else if c < 49232 then s.on (I2S_CFG_NONPCM ((c - 49216) / 2))
  else if c = muteChannel then false else (s.srcH c).nonPcm

/-- The destinations whose map names a source channel. -/
def State.listeners (s : State) (c : Nat) : List Nat := indicesWhere 49152 fun a => s.rd (AUD_MAP_RD_ASRC a) == c

/-- A running crossfade of a destination ends with its incoming source at full gain. -/
def State.endFade (a : Nat) (s : State) : State := (s.setDstH a { s.dstH a with fade := none }).wr (AUD_MAP_RD_FADING a) 0

/-- NONPCM of a source channel changes: its destinations show it, and a running crossfade with a source that becomes
non-PCM completes as a hard cut (R393, R395). -/
def State.setNonPcm (c : Nat) (v : Bool) (s : State) : State :=
  if s.nonPcm c == v then s
  else
    let s := if c < 49152 then s.wrB (AUD_SRC_STAT_NONPCM c) v else s.setSrcH c { s.srcH c with nonPcm := v }
    let s := s.forL (s.listeners c) fun a s => s.wrB (AUD_MAP_RD_NONPCM a) v
    let s := if v then
        s.forL (s.dst.filter fun e => match e.2.fade with
          | some f => f.outgoing == c || s.rd (AUD_MAP_RD_ASRC e.1) == c
          | none => false) fun e s =>
          ((s.endFade e.1).wr (AUD_MAP_RD_HARD_LAST e.1) 1).bump (AUD_CNT_COUNT 4)
      else s
    s.raise AUD_EVENT_NONPCM_CHANGE

/-- The C bit and block start of a sample word that a channel receives: its channel status block goes on; 192 samples make one (R393). -/
def State.takeStatus (c w : Nat) (s : State) : State :=
  let h := s.srcH c
  let block := if bit w 3 then some (1, w / 4 % 2) else h.block.map fun e => (e.1 + 1, e.2 + w / 4 % 2 * 2 ^ e.1)
  match block with
  | some (192, b) => s.setSrcH c { h with block := none, status := some b }
  | b => s.setSrcH c { h with block := b }

/-- CRCC over the first 184 bits of a channel status block, for its byte 23 (R393; AES3). -/
def crccOf (b : Nat) : Nat :=
  (rangeFrom 0 184).foldl (fun c k => if (c + b / 2 ^ k) % 2 = 1 then (c / 2) ^^^ 0xB8 else c / 2) 0xFF

/-- The de-embedding position group that a channel belongs to is enabled and names the quarter of input `i` (R376). -/
def State.dmxFeeds (s : State) (c i : Nat) : Bool :=
  let slot := c / 32
  let g := c % 32 / 4
  decide (c < 36864) && decide (slot = i / 4) && s.on (AUD_DMX_MAP_EN slot (g / 4) (g % 4))
    && s.rd (AUD_DMX_MAP_QUARTER slot (g / 4) (g % 4)) == i % 4

/-- The channel of a position group of a slot that carries an audio group of a quarter, with its channel in the group;
none where no enabled entry names them (R386). -/
def State.dmxChannel (s : State) (slot quarter group ch : Nat) : Option Nat :=
  ((rangeFrom 0 8).find? fun g =>
    s.on (AUD_DMX_MAP_EN slot (g / 4) (g % 4)) && s.rd (AUD_DMX_MAP_QUARTER slot (g / 4) (g % 4)) == quarter
      && s.rd (AUD_DMX_MAP_GROUP slot (g / 4) (g % 4)) == group).map fun g => slot * 32 + g * 4 + ch

/-! ## Delay lines -/

/-- The read point of a delay line moves to a new delay: a decrease skips samples, which count as slipped; an increase
makes the read point wait (R381). -/
def State.moveDelay (c new : Nat) (s : State) : State :=
  let h := s.srcH c
  if new < h.delay then
    let gone := h.line.take (h.delay - new - h.waits)
    let n := (gone.filter (·.counted)).length
    (s.setSrcH c { h with delay := new, waits := h.waits - (h.delay - new), line := h.line.drop (h.delay - new - h.waits) }).bookOut
      5 (c / 16) .slipped n
  else s.setSrcH c { h with delay := new, waits := h.waits + (new - h.delay) }

/-- Start the change of a channel's delay to what AUD_SRC_CFG holds: with a dip on a PCM channel, at once on a non-PCM
one; a write made during a dip waits for its end (R380). -/
def State.startDelay (c : Nat) (s : State) : State :=
  let h := s.srcH c
  let new := if s.carries 84 then s.rd (AUD_SRC_CFG_DELAY c) else 0
  if new = h.delay ∨ h.dip.isSome then s
  else if s.nonPcm c then s.moveDelay c new
  else (s.setSrcH c { h with dip := some (0, new, false) }).wr (AUD_SRC_STAT_DIP c) 1

/-- Domain 84 stops or becomes ready: a delay line is bypassed, or takes its delay again, at once (R381, R382). -/
def State.bypassDelay (c : Nat) (s : State) : State :=
  let s := if (s.srcH c).dip.isSome then (s.setSrcH c { s.srcH c with dip := none }).wr (AUD_SRC_STAT_DIP c) 0 else s
  s.moveDelay c (if s.carries 84 then s.rd (AUD_SRC_CFG_DELAY c) else 0)

/-- Scale a sample word's 24-bit value by n/120, towards 0. -/
def dipSample (w n : Nat) : Nat :=
  let v := signedOf 24 (w / 256) * (n : Int) / 120
  codeOf 24 v * 256 + w % 256

/-- One tick of a source channel: the sample that arrives enters the delay line, and one is read (R370, R377, R380, R381).
A MUTE sample is not counted. -/
def State.tickSource (c : Nat) (x : Sample) (s : State) : State :=
  let h := s.srcH c
  let h := { h with line := h.line ++ [x] }
  let (h, y) : SrcH × Sample :=
    if 0 < h.waits then ({ h with waits := h.waits - 1 }, {})
    else ({ h with line := h.line.drop 1 }, h.line.headD {})
  let s := if y.counted then s.bookOut 5 (c / 16) .delivered 1 else s
  let gain := match h.dip with
    | some (n, _, _) => if n < 120 then 119 - n else n - 119
    | none => 120
  let word := if gain < 120 then dipSample y.word gain else y.word
  let h := { h with cur := word }
  let s := if c < 49152 then s.wrB (AUD_SRC_STAT_LIVE c) y.counted else s
  match h.dip with
  | some (n, new, moved) =>
    let s := s.setSrcH c { h with dip := some (min (n + 1) 240, new, moved || n == 119) }
    if n = 119 ∧ !moved then s.moveDelay c new else s
  | none => s.setSrcH c h

/-- The sample word that a source channel delivers at the present tick. -/
def State.sourceWord (s : State) (c : Nat) : Nat :=
  if c = muteChannel then 0
  else if 49152 ≤ c ∧ c < 49216 then
    let n := c - 49152
    let t := (s.genH n).ticks
    let on := s.rd (AUD_GEN_LVL_ON n) * 480
    let off := s.rd (AUD_GEN_LVL_OFF n) * 480
    let mode := s.rd (AUD_GEN_CFG_MODE n)
    if !s.carries 84 || mode == 0 || (mode == 2 && decide (on ≤ t % (on + off))) then 0
    else Config.toneSample (s.rd (AUD_GEN_CFG_FREQ n)) (s.rd (AUD_GEN_LVL_ATTEN n)) t
  else (s.srcH c).cur

/-! ## Gain laws -/

/-- sin(π/2 · n/d) scaled by 2^64, by its series in the scaled angle; `k` terms are left. -/
def sineTerm : Nat → Nat → Nat → Int → Nat → Int
  | 0, _, _, acc, _ => acc
  | k + 1, x2, term, acc, i =>
    let acc := if i % 2 = 0 then acc + (term : Int) else acc - (term : Int)
    sineTerm k x2 (term * x2 / 2 ^ 64 / ((2 * i + 2) * (2 * i + 3))) acc (i + 1)

/-- π/2 scaled by 2^64. -/
abbrev halfPi : Nat := 28976077832308491369

/-- The gain code round(65535 · sin(π/2 · n/d)) (R389). -/
def sineCode (n d : Nat) : Nat :=
  let x := halfPi * n / d
  let v := (sineTerm 14 (x * x / 2 ^ 64) x 0 0).toNat
  min 65535 ((v * 65535 + 2 ^ 63) / 2 ^ 64)

/-- The gain code round(65535 · n/d). -/
def ratioCode (n d : Nat) : Nat := (2 * 65535 * n + d) / (2 * d)

/-- Gain codes of the outgoing and the incoming source at x = n/d of a crossfade (Table 10-5). -/
def fadeGains (law n d : Nat) : Nat × Nat :=
  match law with
  | 1 => (sineCode (d - n) d, sineCode n d)
  | 2 => if 2 * n < d then (ratioCode (d - 2 * n) d, 0) else (0, ratioCode (2 * n - d) d)
  | _ => (ratioCode (d - n) d, ratioCode n d)

/-- A 24-bit value times a gain code, rounded to the nearest (R389). -/
def gainMul (v : Int) (c : Nat) : Int := (2 * v * (c : Int) + 65535) / (2 * 65535)

/-- The sample word of a crossfade: the sum saturates, and the status bits are those of the outgoing source (R389, R390). -/
def fadeWord (law n d outgoing incoming : Nat) : Nat :=
  let (go, gi) := fadeGains law n d
  let v := gainMul (signedOf 24 (outgoing / 256)) go + gainMul (signedOf 24 (incoming / 256)) gi
  codeOf 24 (clampSigned 24 v) * 256 + outgoing % 16

/-! ## Destinations -/

/-- The plan of an audio destination (R384). -/
def State.audPlan (s : State) (a : Nat) : Nat :=
  if a < 36864 then
    let o := a / 32
    let g := a % 32 / 4
    let q := if s.on (AUD_EMB_MAP_EN o (g / 4) (g % 4)) then s.rd (AUD_EMB_MAP_QUARTER o (g / 4) (g % 4)) else 0
    s.outPlan (4 * o + q)
  else
    let k := a / 16 - 2304
    s.rd (AUD_PKT_PLAN_PLAN (k / 8) (k % 8))

/-- Ticks of a crossfade with a fade time in tenths of a ms (R388). -/
def fadeTicks (tenths : Nat) : Nat := (tenths * 48 + 5) / 10

/-- An audio change lands: the new source replaces the outgoing one over the fade time, or at once where either is
non-PCM; a running crossfade completes first (R387, R388, R391, R394). -/
def State.landAudio (a asrc fade : Nat) (s : State) : State :=
  let s := if (s.dstH a).fade.isSome then ((s.endFade a).bump (AUD_CNT_COUNT 5)).raise AUD_EVENT_FADE_CUT else s
  let old := s.rd (AUD_MAP_RD_ASRC a)
  let hard := s.nonPcm old || s.nonPcm asrc
  let n := fadeTicks fade
  let s := s.wr (AUD_MAP_RD_ASRC a) asrc
  let s := (s.wrB (AUD_MAP_RD_NONPCM a) (s.nonPcm asrc)).wrB (AUD_MAP_RD_HARD_LAST a) hard
  if hard then s.bump (AUD_CNT_COUNT 4)
  else if n = 0 then s
  else (s.setDstH a { s.dstH a with fade := some { outgoing := old, ticks := n } }).wr (AUD_MAP_RD_FADING a) 1

/-- The audio changes that a VIDEO entry with AFV makes, with their new sources (R386). -/
def State.afvChanges (s : State) (dst : Nat) (src : Option Nat) : List (Nat × Nat) :=
  let o := dst / 4
  ((rangeFrom 0 32).filter fun j =>
    s.on (AUD_EMB_MAP_EN o (j / 16) (j / 4 % 4)) && s.rd (AUD_EMB_MAP_QUARTER o (j / 16) (j / 4 % 4)) == dst % 4).map fun j =>
      let group := s.rd (AUD_EMB_MAP_GROUP o (j / 16) (j / 4 % 4))
      let c := match src with
        | some x => if x < 4608 then s.dmxChannel (x / 4) (x % 4) group (j % 4) else none
        | none => none
      (o * 32 + j, c.getD muteChannel)

/-- The samples in a destination's output store. -/
def DstH.samples (h : DstH) : List Nat := h.store.getD (List.replicate 32 0)

/-- The word that the map writes into a destination's output store at the present tick, and the crossfade after it (R388). -/
def State.mapWord (s : State) (a : Nat) : Nat × Option FadeH :=
  let inc := s.sourceWord (s.rd (AUD_MAP_RD_ASRC a))
  match (s.dstH a).fade with
  | some f =>
    if f.done < f.ticks then
      (fadeWord (s.rd (AUD_GRP_CFG_LAW (a / 16))) (f.done + 1) f.ticks (s.sourceWord f.outgoing) inc,
        some { f with done := f.done + 1 })
    else (inc, some f)
  | none => (inc, none)

/-- Whether the samples that destination `a` yields are discarded: its output is under loss policy IDLE (R398). -/
def State.idleAudio (s : State) (a : Nat) : Bool :=
  if a < 36864 then
    let o := a / 32
    let g := a % 32 / 4
    let d := 4 * o + s.rd (AUD_EMB_MAP_QUARTER o (g / 4) (g % 4))
    s.on (XPT_MAP_RD_POLICY d) && s.rd (XPT_OUT_CFG_LOSS d) == 2
  else false

/-- The reader of a destination takes `n` samples from its output store; below a fill of 16 it takes the last one again,
and above 48 it discards the oldest (R397). Answers the words taken. -/
def readStore : Nat → List Nat → Nat → List Nat × Nat × List Nat × Nat × Nat
  | 0, l, last => (l, last, [], 0, 0)
  | n + 1, l, last =>
    if l.length < 16 then
      let (l', last', w, rep, drop) := readStore n l last
      (l', last', last :: w, rep + 1, drop)
    else
      let w := l.headD 0
      let l1 := l.drop 1
      if 48 < l.length then
        let (l', last', ws, rep, drop) := readStore n (l1.drop 1) w
        (l', last', w :: ws, rep, drop + 1)
      else
        let (l', last', ws, rep, drop) := readStore n l1 w
        (l', last', w :: ws, rep, drop)

/-- A destination that is fed or read for the first time starts with a store at the middle of its range. DESIGN CHOICE: its 32 samples are
silent, and enter the ledger as if the map had written them (R397, R410). -/
def State.primeDest (a : Nat) (s : State) : State :=
  let h := s.dstH a
  if h.store.isSome then s else (s.setDstH a { h with store := some h.samples }).bookIn 6 (a / 16) 32

/-- The map writes one word into a destination's output store, which holds 64 (R388, R397, R410). -/
def State.feedDest (a : Nat) (s : State) : State :=
  let s := s.primeDest a
  let (w, fade) := s.mapWord a
  let h := s.dstH a
  let l := h.samples ++ [w]
  let s := (s.setDstH a { h with store := some (l.drop (l.length - 64)), fade := fade }).bookIn 6 (a / 16) 1
  if l.length ≤ 64 then s
  else ((s.bookOut 6 (a / 16) .dropped 1).bump (AUD_CNT_COUNT 3)).raise AUD_EVENT_DST_SLIP

/-- The reader of a destination takes `n` samples from its output store: repeats and drops are counted, and what it takes is delivered, or
discarded where `gone` says so: under loss policy IDLE, or for a port without a clock (R396 to R398, R405, R410). Answers the words. -/
def State.readDest (a n : Nat) (gone : Bool) (s : State) : State × List Nat :=
  let s := s.primeDest a
  let h := s.dstH a
  let (l, last, words, rep, drop) := readStore n h.samples h.last
  let s := s.setDstH a { h with store := some l, last := last }
  let s := (s.bookCopy 6 (a / 16) rep).bookOut 6 (a / 16) .dropped drop
  let s := ((s.bumpBy (AUD_CNT_COUNT 2) rep).bumpBy (AUD_CNT_COUNT 3) drop)
  let s := if 0 < rep + drop then s.raise AUD_EVENT_DST_SLIP else s
  if gone then ((s.bookOut 6 (a / 16) .dropped n).bumpBy (AUD_CNT_COUNT 3) n, words)
  else ((s.bookOut 6 (a / 16) .delivered n).emit (.samples a words), words)

/-! ## De-embedding -/

/-- The channels whose position group takes audio group `g` of the input at area `x`, with their channel of the group (R376). -/
def State.groupChannels (s : State) (x g : Nat) : List (Nat × Nat) :=
  ((rangeFrom (x / 4 * 32) 32).filter fun c =>
    s.dmxFeeds c x && s.rd (AUD_DMX_MAP_GROUP (x / 4) (c % 32 / 16) (c % 32 / 4 % 4)) == g).map fun c => (c, c % 4)

/-- The sample frames of a line that has arrived enter the elastic store of area `x`: the k-th packets of its audio groups make one frame
(R375, R376, R378, R410). The links of a quad-link group have a store each. -/
def State.deembed (i x : Nat) (words : List Nat) (s : State) : State :=
  if !s.on (XPT_IN_STAT_PRESENT i) || !s.on (XPT_IN_STAT_CLASSIFIED i) || s.transparent i || !s.carries 83 then s
  else
    let f := s.rd (XPT_IN_STAT_FORMAT i)
    let rate := s.rd (XPT_IN_STAT_RATE i)
    let groups := (rangeFrom 0 8).map fun g => (s.groupChannels x g, lineAudio f rate g words)
    let n := groups.foldl (fun m e => max m e.2.length) 0
    let frames := (rangeFrom 0 n).map fun k =>
      (groups.map fun e => match e.2[k]? with
        | some w => e.1.map fun c => (c.1, w.getD c.2 0)
        | none => []).flatten
    let bad := (rangeFrom 0 8).foldl (fun b g => match lineAudioRate f rate g words with
      | some r => b - ofBool (bit b g) * 2 ^ g + ofBool (r != 0) * 2 ^ g
      | none => b) (s.inH x).rateBad
    let s := s.setInH x { s.inH x with rateBad := bad }
    let h := s.elastic x
    let s := s.setElastic x { h with frames := h.frames ++ frames.filter fun l => !l.isEmpty }
    s.forL frames.flatten fun e s => s.bookIn 5 (e.1 / 16) 1

/-- A channel whose audio group's control packet declares another rate than 48 kHz (R377). -/
def State.rateUnsup (s : State) (c : Nat) : Bool :=
  let o := c / 32
  let g := c % 32 / 4
  let x := 4 * o + s.rd (AUD_DMX_MAP_QUARTER o (g / 4) (g % 4))
  decide (c < 36864) && s.on (AUD_DMX_MAP_EN o (g / 4) (g % 4)) && bit (s.inH x).rateBad (s.rd (AUD_DMX_MAP_GROUP o (g / 4) (g % 4)))

/-! ## Re-embedding -/

/-- Whether a DID is that of an audio packet of a group of a format (Table 10-3). -/
def audioDid (f g did : Nat) : Bool := let (a, b, c) := audioDids f g; did == a || some did == b || did == c

/-- The audio groups that the output at area `x` embeds, with their first destination (R396). -/
def State.embedGroups (s : State) (x : Nat) : List (Nat × Nat) :=
  let o := x / 4
  ((rangeFrom 0 8).filter fun k => s.on (AUD_EMB_MAP_EN o (k / 4) (k % 4)) && s.rd (AUD_EMB_MAP_QUARTER o (k / 4) (k % 4)) == x % 4).map fun k =>
    (s.rd (AUD_EMB_MAP_GROUP o (k / 4) (k % 4)), 32 * o + 4 * k)

/-- The samples that the line takes of a frame's count (R373): they are spread evenly. -/
def samplesAtLine (count total line : Nat) : Nat := count * line / total - count * (line - 1) / total

/-- The audio packets of a line of the output at area `x` of format `f` and rate `rate`: those of the content are deleted as EMB_MODE says, and
the samples due, of a count a frame, are embedded (R396, R397). While domain 83 is off the line stays as it is (R399). -/
def State.embedLine (x f rate count line : Nat) (words : List Nat) (s : State) : State × List Nat :=
  if !s.carries 83 || words.isEmpty then (s, words)
  else
    let groups := (s.embedGroups x).filter fun e => decide (e.1 < audioGroups f rate)
    let n := samplesAtLine count (totalLines f) line
    let (s, data) := foldOver groups (fun e (a : State × List (List Nat)) =>
      let (s, chans) := foldOver (rangeFrom e.2 4) (fun d (b : State × List (List Nat)) =>
        let (s, w) := b.1.readDest d n false
        (s, b.2 ++ [w])) (a.1, ([] : List (List Nat)))
      (s, a.2 ++ audioData f e.1 ((rangeFrom 0 n).map fun k => chans.map fun w => w.getD k 0))) (s, ([] : List (List Nat)))
    let gone (did : Nat) : Bool := if s.on (AUD_SLOT_CFG_EMB_MODE (x / 4)) then groups.any fun e => audioDid f e.1 did
      else (rangeFrom 0 8).any fun g => audioDid f g did
    let (c, y) := ancPlaces (streamsOf f).1
    let control := if controlLine f line then groups.map fun e => audioControl f e.1 else []
    if f ≤ 1 then (s, replaceAnc f rate c (fun d => !gone d) (control ++ data) words)
    else (s, replaceAnc f rate y (fun d => !gone d) control (replaceAnc f rate c (fun d => !gone d) data words))

/-- The next line of the content of output `d` on link `j`, with its audio: in aligned carriage the plan's format and counts, else its source's
(R351, R373, R396). -/
def State.nextLine (d j line : Nat) (s : State) : State × List Nat :=
  let p := s.outPlan d
  let words := s.outLine d j line
  if s.on (XPT_MAP_RD_ALIGNED d) || s.on (XPT_MAP_RD_POLICY d) || (s.outH d).black then
    let g := s.planH p
    s.embedLine (d + 4 * j) g.format g.rate (samplesPerFrame g.rate (s.seqPos p (s.refFrame p))) line words
  else match s.inputOf (s.rd (XPT_MAP_RD_SRC d)) with
    | some i =>
      if s.on (XPT_IN_STAT_CLASSIFIED i) then
        let rate := s.rd (XPT_IN_STAT_RATE i)
        s.embedLine (d + 4 * j) (s.rd (XPT_IN_STAT_FORMAT i)) rate (samplesPerFrame rate ((s.outH d).genFrames % 5)) line words
      else (s, words)
    | none => (s, words)

/-- The destinations whose samples are read at each tick: those of embedding positions under loss policy IDLE (R398). -/
def State.idleDests (s : State) : List Nat :=
  (s.dst.filter fun e => e.2.store.isSome && decide (e.1 < 36864) && s.idleAudio e.1).map (·.1)

/-! ## I²S -/

/-- Show the fill of a port's FIFO. -/
def State.showFill (k : Nat) (s : State) : State := s.wr (I2S_STAT_FILL k) (s.i2sH k).fifo.length

/-- Ledger unit of the channels of I²S port `k`: they lie in no source channel group of Table 13-4's 3,072, so their
samples are counted in no unit. An output port reads destinations, which are counted there (R409). -/
def State.i2sLost (k : Nat) (s : State) : State :=
  let h := s.i2sH k
  let input := !s.on (I2S_CFG_DIR k)
  let s := s.setI2sH k { h with fifo := [], clean := none, lost := true, ramp := if input then some (false, 48) else none }
  let s := ((s.wr (I2S_STAT_QUALIFIED k) 0).raise (I2S_STAT_LOSS k)).bump (I2S_CNT_LOSSES k)
  (s.raise ⟨I2S_EVENT, k, 1⟩).showFill k

/-- The words of an input port's channels at a tick, under its ramp (R405, R408). -/
def rampWord (ramp : Option (Bool × Nat)) (w : Nat) : Nat :=
  match ramp with
  | none => w
  | some (_, n) => codeOf 24 (signedOf 24 (w / 256) * (n : Int) / 48) * 256 + w % 256

end Sys2Proof.Machine
end

