-- ==== Sys2Proof/Machine/Operands.lean ====
section
/-! DEFINITION. Racker instruction words: the five formats, their fields and immediates, the opcode table with its fixed
fields, decoding and encoding (R293 to R297, R303, R307, R311 to R318). -/

namespace Sys2Proof.Machine

/-- A racker instruction in its format (Table 08-1): opcode, register fields, then what the format holds in [15:0]. -/
inductive RckInstr where
  /-- Format A: rd, ra, rb. -/
  | regs (op rd ra rb : Nat)
  /-- Format I: rd, ra, imm16. -/
  | imm (op rd ra imm16 : Nat)
  /-- Format T: rd, ra, REG, imm15. -/
  | time (op rd ra : Nat) (reg : Bool) (imm15 : Nat)
  /-- Format X: rd, ra, rb, M, imm10. -/
  | rout (op rd ra rb : Nat) (m : Bool) (imm10 : Nat)
  /-- Format S: rd, ra, rb, imm8. -/
  | sync (op rd ra rb imm8 : Nat)
  deriving DecidableEq, Repr

/-- The formats of Table 08-1. -/
inductive RckFormat where
  | A | I | T | X | S
  deriving DecidableEq, Repr

/-- The format of an opcode; none where the opcode is undefined (Table 08-3). -/
def rckFormat (op : Nat) : Option RckFormat :=
  if (1 ≤ op ∧ op ≤ 0x0A) ∨ op = 0x19 ∨ op = 0x1A ∨ op = 0x22 ∨ op = 0x23 ∨ op = 0x25 ∨ op = 0x26 ∨ op = 0x3F then some .A
  else if (0x0B ≤ op ∧ op ≤ 0x1E) ∨ op = 0x20 ∨ op = 0x21 ∨ op = 0x24 then some .I
  else if 0x28 ≤ op ∧ op ≤ 0x2C then some .T
  else if 0x30 ≤ op ∧ op ≤ 0x36 then some .X
  else if 0x37 ≤ op ∧ op ≤ 0x3E then some .S
  else none

/-- Opcode of a word. -/
def rckOp (w : Nat) : Nat := w / 2 ^ 26 % 64

def RckInstr.op : RckInstr → Nat
  | .regs op _ _ _ | .imm op _ _ _ | .time op _ _ _ _ | .rout op _ _ _ _ _ | .sync op _ _ _ _ => op

def RckInstr.rd : RckInstr → Nat
  | .regs _ rd _ _ | .imm _ rd _ _ | .time _ rd _ _ _ | .rout _ rd _ _ _ _ | .sync _ rd _ _ _ => rd

def RckInstr.ra : RckInstr → Nat
  | .regs _ _ ra _ | .imm _ _ ra _ | .time _ _ ra _ _ | .rout _ _ ra _ _ _ | .sync _ _ ra _ _ => ra

def RckInstr.rb : RckInstr → Nat
  | .regs _ _ _ rb | .rout _ _ _ rb _ _ | .sync _ _ _ rb _ => rb
  | _ => 0

/-- The immediate of the format, as it stands in the word (imm16, imm15, imm10 or imm8). -/
def RckInstr.immediate : RckInstr → Nat
  | .imm _ _ _ i | .time _ _ _ _ i | .rout _ _ _ _ _ i | .sync _ _ _ _ i => i
  | .regs _ _ _ _ => 0

/-- REG of format T or M of format X. -/
def RckInstr.flag : RckInstr → Bool
  | .time _ _ _ b _ | .rout _ _ _ _ b _ => b
  | _ => false

/-- Whether the fields that Table 08-3 marks 0 are 0, and the operand restrictions that the word alone decides hold:
the branch conditions of R297, the register pair of R303, the selectors of R307 and the modes of R317. -/
def RckInstr.legal (i : RckInstr) : Bool :=
  let z (n : Nat) : Bool := n == 0
  match i.op with
  | 0x0A => z i.rd
  | 0x0F | 0x10 | 0x11 => decide (i.immediate < 32)
  | 0x12 => z i.rd
  | 0x13 | 0x14 => z i.ra
  | 0x19 | 0x1A => z i.rb && i.rd % 2 == 0 && i.rd != 30
  | 0x1D => z i.ra && decide (i.immediate ≤ 9)
  | 0x1E => z i.rd && (i.immediate == 1 || i.immediate == 3 || i.immediate == 5)
  | 0x20 => z i.ra && decide (i.rd % 16 < 8) && i.rd != 16
  | 0x21 => z i.rd && z i.ra
  | 0x22 => z i.rd && z i.rb
  | 0x23 | 0x25 | 0x26 | 0x3F => z i.rd && z i.ra && z i.rb
  | 0x24 => z i.rd && z i.ra && decide (i.immediate < 256)
  | 0x28 | 0x29 | 0x2B => z i.rd && (if i.flag then z i.immediate else z i.ra)
  | 0x2A | 0x2C => !i.flag
  | 0x30 => !i.flag && z i.immediate
  | 0x31 | 0x33 | 0x35 => z i.rd && !i.flag && z i.immediate
  | 0x32 => z i.ra && z i.rb && !i.flag && z i.immediate
  | 0x34 => z i.rd && z i.rb
  | 0x36 => z i.rb
  | 0x37 => z i.rb && decide (i.immediate ≤ 1)
  | 0x38 => z i.immediate
  | 0x39 => z i.rb && z i.immediate
  | 0x3A | 0x3B => z i.rd && z i.immediate
  | 0x3C => z i.rb && decide (i.immediate < 32)
  | 0x3D => z i.immediate
  | 0x3E => z i.rd && z i.immediate
  | _ => true

/-- The fields of a word in the format of its opcode; none where the opcode is undefined or a field that Table 08-1
fixes at 0 is not 0. -/
def rckFields (w : Nat) : Option RckInstr :=
  let op := rckOp w
  let rd := w / 2 ^ 21 % 32
  let ra := w / 2 ^ 16 % 32
  let rb := w / 2 ^ 11 % 32
  match rckFormat op with
  | some .A => if w % 2 ^ 11 = 0 then some (.regs op rd ra rb) else none
  | some .I => some (.imm op rd ra (w % 2 ^ 16))
  | some .T => some (.time op rd ra (bit w 15) (w % 2 ^ 15))
  | some .X => some (.rout op rd ra rb (bit w 10) (w % 2 ^ 10))
  | some .S => if w / 2 ^ 8 % 8 = 0 then some (.sync op rd ra rb (w % 2 ^ 8)) else none
  | none => none

/-- Decode an instruction word; none where it is ILLEGAL by the word alone (R294). -/
def rckDecode (w : Nat) : Option RckInstr :=
  match rckFields w with
  | some i => if i.legal then some i else none
  | none => none

/-- The word of an instruction (Table 08-1). -/
def rckEncode : RckInstr → Nat
  | .regs op rd ra rb => op * 2 ^ 26 + rd * 2 ^ 21 + ra * 2 ^ 16 + rb * 2 ^ 11
  | .imm op rd ra i => op * 2 ^ 26 + rd * 2 ^ 21 + ra * 2 ^ 16 + i
  | .time op rd ra r i => op * 2 ^ 26 + rd * 2 ^ 21 + ra * 2 ^ 16 + ofBool r * 2 ^ 15 + i
  | .rout op rd ra rb m i => op * 2 ^ 26 + rd * 2 ^ 21 + ra * 2 ^ 16 + rb * 2 ^ 11 + ofBool m * 2 ^ 10 + i
  | .sync op rd ra rb i => op * 2 ^ 26 + rd * 2 ^ 21 + ra * 2 ^ 16 + rb * 2 ^ 11 + i

/-- An instruction that the tables admit: its opcode has this format, its fields fit, and it is legal. -/
def RckInstr.wf (i : RckInstr) : Bool :=
  i.legal && decide (i.op < 64) && decide (i.rd < 32) && decide (i.ra < 32) && decide (i.rb < 32) &&
  match i with
  | .regs op _ _ _ => rckFormat op == some .A
  | .imm op _ _ x => rckFormat op == some .I && decide (x < 2 ^ 16)
  | .time op _ _ _ x => rckFormat op == some .T && decide (x < 2 ^ 15)
  | .rout op _ _ _ _ x => rckFormat op == some .X && decide (x < 2 ^ 10)
  | .sync op _ _ _ x => rckFormat op == some .S && decide (x < 2 ^ 8)

/-- imm16 sign-extended to 32 bits (R295). -/
def signExt16 (i : Nat) : Word := if i < 2 ^ 15 then BitVec.ofNat 32 i else BitVec.ofNat 32 (i + 2 ^ 32 - 2 ^ 16)

end Sys2Proof.Machine
end

