-- ==== Sys2Proof/Machine/Flags.lean ====
section
/-! DEFINITION. The flags of the rackers: the flag groups of Table 08-2 and the branch conditions of Table 08-4. -/

namespace Sys2Proof.Machine

/-- Flags of group LOGIC: Z and N from the result, C and V kept (Table 08-2). -/
def flagsLogic (f : RckFlags) (res : Word) : RckFlags := { f with z := res == 0, n := res.msb }

/-- Flags of group ARITH after an addition: C is the carry out of bit 31, V signed overflow. -/
def flagsAdd (a b : Word) : RckFlags :=
  let res := a + b
  { z := res == 0, n := res.msb, c := decide (2 ^ 32 ≤ a.toNat + b.toNat), v := a.msb == b.msb && res.msb != a.msb }

/-- Flags of group ARITH after a subtraction or comparison: C is 1 when the first operand is unsigned at least the
second, V signed overflow. -/
def flagsSub (a b : Word) : RckFlags :=
  let res := a - b
  { z := res == 0, n := res.msb, c := decide (b.toNat ≤ a.toNat), v := a.msb != b.msb && res.msb != a.msb }

/-- Flags of group SHIFT: C is the last bit shifted out, unchanged when the count is 0; V kept. -/
def flagsShift (f : RckFlags) (res : Word) (count : Nat) (last : Bool) : RckFlags :=
  { f with z := res == 0, n := res.msb, c := if count = 0 then f.c else last }

/-- The last bit that a left shift by `count` shifts out. -/
def lastOutLeft (a : Word) (count : Nat) : Bool := bit a.toNat (32 - count)

/-- The last bit that a right shift by `count` shifts out. -/
def lastOutRight (a : Word) (count : Nat) : Bool := bit a.toNat (count - 1)

/-- Flags of group STATUS: Z is set when the status is DONE (Table 08-2). -/
def flagsStatus (f : RckFlags) (status : Nat) : RckFlags := { f with z := status == 0 }

/-- Flags of group RESULT: Z when DENIED, REFUSED, CANCELLED and LATE of the result word are all 0, N when CANCELLED. -/
def flagsResult (f : RckFlags) (result : Nat) : RckFlags :=
  { f with z := result / 2 ^ 29 == 0 && result / 2 ^ 13 % 2 ^ 8 == 0, n := bit result 31 }

/-- The flags as the FLAGS register holds them: Z, N, C, V in bits 0 to 3 (Table 08-6). -/
def RckFlags.word (f : RckFlags) : Nat := ofBool f.z + ofBool f.n * 2 + ofBool f.c * 4 + ofBool f.v * 8

/-- The flags that a write of the FLAGS register sets. -/
def flagsOfWord (w : Nat) : RckFlags := { z := bit w 0, n := bit w 1, c := bit w 2, v := bit w 3 }

/-- Whether a branch condition holds (Table 08-4): a base condition, inverted by bit 4. -/
def condHolds (f : RckFlags) (code : Nat) : Bool :=
  let base := match code % 16 with
    | 0 => true
    | 1 => f.z
    | 2 => f.n
    | 3 => f.v
    | 4 => f.c
    | 5 => f.c && !f.z
    | 6 => f.n == f.v
    | 7 => !f.z && f.n == f.v
    | _ => false
  if bit code 4 then !base else base

end Sys2Proof.Machine
end

