-- ==== Sys2Proof/Machine/RckBase.lean ====
section
/-! DEFINITION. The rackers' shared resources: events, halting, ownership, leases, fences, GPO, switch lines and the landing
of pending operations (R238 to R292 but for the instructions themselves). -/

namespace Sys2Proof.Machine

/-! ## Events and run state -/

/-- The condition of the wait of racker `r` is true from now on, unless it has been before (R238). -/
def State.meets (r : Nat) (s : State) : State :=
  if (s.rckH r).metAt.isSome then s else s.setRckH r { s.rckH r with metAt := some s.now }

/-- Set bits of a racker's event register; a WAITE on one of them completes with the instant of this (Table 07-10, R278). -/
def State.rckEvent (r mask : Nat) (s : State) : State :=
  let h := s.rckH r
  let e := s.rd (RCK_EVT_EVT r)
  let again := (e &&& mask) ||| (if h.evtAt = s.now then h.evtAgain else 0)
  let s := (s.setRckH r { h with evtAt := s.now, evtAgain := again }).wr (RCK_EVT_EVT r) (e ||| mask)
  match (s.rckH r).wait with
  | .event _ m _ _ _ => if m &&& mask = 0 then s else s.meets r
  | _ => s

/-- Set bits of every racker's event register. -/
def State.rckEventAll (mask : Nat) (s : State) : State := s.forN 16 fun r s => s.rckEvent r mask

/-- Whether the present mode halts the rackers (Table 02-4): in QUIESCE from B1 on, in STANDBY while the device is fenced. -/
def State.rackersHalted (s : State) : Bool :=
  match s.mode with
  | .solo | .active | .takeover | .isolated => false
  | .standby => s.on TWN_STATUS_FENCED
  | .quiesce => s.top.b1.isSome
  | _ => true

/-- Domain of the cluster of racker `r`. -/
def rckDomain (r : Nat) : Nat := 89 + r / 4

/-- Clock period of a racker in time units: 2 ns, or 2.5 ns on the safe clock (R239). -/
def State.rckPeriod (s : State) : Nat := if bit (s.rd SYN_STATUS_ON_SAFE) 1 then 15 else 12

/-- Show the number of pending operations and of staged entries. -/
def State.showRck (r : Nat) (s : State) : State :=
  let h := s.rckH r
  (s.wr (RCK_STATUS_PENDING r) h.ops.length).wr (RCK_STATUS_STAGED r) h.staging.length

/-- Halt a racker: a wait is abandoned and is executed again on RESUME (R287, R301). A COMMIT that waits at retire has its
entries back in the staging buffer, for it is executed again from its start. -/
def State.haltRacker (r : Nat) (s : State) : State :=
  let h := s.rckH r
  let staging := match h.wait with
    | .retire _ entries => if rckOp (s.word (RCK_PM r (s.rd (RCK_PC_PC r)))).toNat = 0x32 then entries else h.staging
    | _ => h.staging
  let s := (s.setRckH r { h with wait := .none, request := none, stepping := false, staging := staging }).showRck r
  if s.rd (RCK_STATUS_STATE r) = 4 then s else s.wr (RCK_STATUS_STATE r) 0

/-- Halt every racker. -/
def State.haltAll (s : State) : State := s.forN 16 fun r s => s.haltRacker r

/-- Request a START (1), RESUME (2) or STEP (3) at a PLAN0 boundary; ignored where the mode halts the rackers (R285, R287).
RESUME and STEP need a halted racker. -/
def State.requestRacker (r kind : Nat) (s : State) : State :=
  let halted := s.rd (RCK_STATUS_STATE r) = 0 ∨ s.rd (RCK_STATUS_STATE r) = 4
  if s.rackersHalted || !s.domReady (rckDomain r) then s
  else if kind = 1 ∨ halted then s.setRckH r { s.rckH r with request := some (kind, s.frame0) } else s

/-! ## Ownership -/

/-- The racker that owns a video destination (R250). -/
def State.ownerV (s : State) (d : Nat) : Option Nat :=
  if s.on (RCK_OWN_V_VALID (d / 4) (d % 4)) then some (s.rd (RCK_OWN_V_RACKER (d / 4) (d % 4))) else none

/-- The racker that owns an audio destination group. -/
def State.ownerA (s : State) (g : Nat) : Option Nat :=
  if s.on (RCK_OWN_A_VALID (g / 4) (g % 4)) then some (s.rd (RCK_OWN_A_RACKER (g / 4) (g % 4))) else none

/-- Whether racker `r` owns head `h`: the holder of lease HEAD(h) while it is held, else the racker of RCK_OWN_H (R269). -/
def State.ownsHead (s : State) (r h : Nat) : Bool :=
  if s.on (RCK_LEASE_H_HELD h) then s.rd (RCK_LEASE_H_HOLDER h) == r
  else s.on (RCK_OWN_H_VALID (h / 4) (h % 4)) && s.rd (RCK_OWN_H_RACKER (h / 4) (h % 4)) == r

/-- Whether racker `r` owns a destination, an audio destination group or a head (R292). -/
def State.ownsAny (s : State) (r : Nat) : Bool :=
  (rangeFrom 0 4608).any (fun d => s.ownerV d == some r) || (rangeFrom 0 3072).any (fun g => s.ownerA g == some r)
    || (rangeFrom 0 32).any (fun h => s.ownsHead r h)

/-! ## Leases -/

/-- Holder codes of RCK_LEASE_H. -/
abbrev holderHost : Nat := 16
abbrev holderMgt : Nat := 17
abbrev holderTwin : Nat := 18
abbrev holderPeer : Nat := 30
abbrev holderNone : Nat := 31

/-- Grant or renew a lease to a holder until PLAN0 frame `e`; a new grant enters the ledger (R272, Table 13-5). -/
def State.grantLease (i holder dev e : Nat) (s : State) : State :=
  let s := if s.on (RCK_LEASE_H_HELD i) then s else s.bookIn 10 i 1
  let s := ((s.wr (RCK_LEASE_H_HOLDER i) holder).wr (RCK_LEASE_H_DEV i) dev).wr (RCK_LEASE_H_HELD i) 1
  s.wr (RCK_LEASE_E_EXPIRY i) (wrap32 e)

/-- A lease ends: freed, or reclaimed when it lapses. -/
def State.endLease (i : Nat) (col : Col) (s : State) : State :=
  let s := s.bookOut 10 i col 1
  ((s.wr (RCK_LEASE_H_HOLDER i) holderNone).wr (RCK_LEASE_H_DEV i) 0).wr (RCK_LEASE_H_HELD i) 0

/-- Whether PLAN0 has reached a lease's expiry frame. -/
def State.leaseDue (s : State) (i : Nat) : Bool := decide (signedOf 32 (wrap32 (s.frame0 + 2 ^ 32 - s.rd (RCK_LEASE_E_EXPIRY i))) ≥ 0)

/-- A lease lapses: its former holder's event is set (R273). -/
def State.lapseLease (i : Nat) (s : State) : State :=
  let holder := s.rd (RCK_LEASE_H_HOLDER i)
  let peer := s.rd (RCK_LEASE_H_DEV i)
  let s := if 96 ≤ i ∧ i < 224 ∧ holder = holderPeer then
      { s with fab := { s.fab with former := s.fab.former.filter (fun e => e.1 != i) ++ [(i, peer)] } } else s
  let s := s.endLease i .dropped
  if holder < 16 then s.rckEvent holder (2 ^ 18) else s

/-- Status codes of Table 07-7. -/
abbrev stDone : Nat := 0
abbrev stBusy : Nat := 1
abbrev stDenied : Nat := 2
abbrev stInvalid : Nat := 3

/-- A lease that is held and has reached its expiry frame lapses, before any request of the cycle is looked at (R273, R276). A lease of a
twin or fabric peer waits for the peer's fence (R275); the control token (255) is the twin hardware's. -/
def State.expireLease (i : Nat) (s : State) : State :=
  if s.on (RCK_LEASE_H_HELD i) && i != 255 && s.leaseDue i
      && (s.rd (RCK_LEASE_H_HOLDER i) != holderPeer || decide (96 ≤ i) || s.on TWN_STATUS_FENCING) then s.lapseLease i
  else s

/-- A LEASE on an id that this device decides itself (0 to 95): the status and the state after it (R271, R272, R276). -/
def State.leaseLocal (holder i n : Nat) (s : State) : State × Nat :=
  if 96 ≤ i ∨ n = 0 ∨ 65535 < n then (s, stInvalid)
  else
    let s := s.expireLease i
    if !s.on (RCK_LEASE_H_HELD i) || s.rd (RCK_LEASE_H_HOLDER i) == holder then
      (s.grantLease i holder 0 (s.frame0 + n), stDone)
    else (s, stBusy)

/-- A FREE on an id that this device decides itself (R274). -/
def State.freeLocal (holder i : Nat) (s : State) : State × Nat :=
  if 96 ≤ i then (s, stInvalid)
  else
    let s := s.expireLease i
    if s.on (RCK_LEASE_H_HELD i) && s.rd (RCK_LEASE_H_HOLDER i) == holder then (s.endLease i .delivered, stDone)
    else (s, stDenied)

/-- A request for lease `id` that a command makes when it is carried out now: the requester's priority and index (Table 07-9). -/
def State.leaseBid (s : State) (id : Nat) : Instr → Option (Nat × Nat)
  | .lease r =>
    let w := (s.word (RCK_PM r (s.rd (RCK_PC_PC r)))).toNat
    match rckDecode w with
    | some i =>
      let n := (s.word (RCK_GREG r i.rb)).toNat
      if i.op = 0x38 ∧ s.rd (RCK_STATUS_STATE r) = 1 ∧ (s.word (RCK_GREG r i.ra)).toNat = id ∧ n ≠ 0 ∧ n ≤ 65535 then
        some (s.rd (RCK_CFG_PRIO r), r)
      else none
    | none => none
  | .hostLease m i dur prio =>
    if i.val = id ∧ dur.val ≠ 0 then some (if m.val = 0 then (7, holderMgt) else (prio, holderHost)) else none
  | _ => none

/-- Whether a request for a free lease loses it to another one of the same cycle: higher PRIO first, then the lower requester index
(R277, Table 07-9). -/
def State.outbidLease (s : State) (id holder prio : Nat) : Bool :=
  !(s.on (RCK_LEASE_H_HELD id)) &&
  s.pending.any fun c => match s.leaseBid id c with
    | some (q, h) => h != holder && (decide (prio < q) || (prio == q && decide (h < holder)))
    | none => false

/-- A request of a racker, the host or the management controller for a lease that this device decides: it is granted, or another
requester of the cycle has precedence and it receives BUSY (R272, R276, R277). -/
def State.leaseRequest (holder i n prio : Nat) (s : State) : State × Nat :=
  let s := s.expireLease i
  if s.outbidLease i holder prio then (s, stBusy) else s.leaseLocal holder i n

/-! ## Fences, GPO -/

/-- Whether a fence has reached a value (R280). -/
def State.fenceReached (s : State) (n v : Nat) : Bool :=
  decide (0 ≤ signedOf 32 (wrap32 (s.rd (RCK_FENCE_VALUE n) + 2 ^ 32 - wrap32 v)))

/-- A write to a renderer fence stores only a value that is ahead of the current one (R281); a FENCEW that it satisfies completes with
the instant of this (R280). -/
def State.writeFence (n v : Nat) (s : State) : State :=
  if 0 < signedOf 32 (wrap32 (v + 2 ^ 32 - s.rd (RCK_FENCE_VALUE n))) then
    (s.wr (RCK_FENCE_VALUE n) v).forN 16 fun r s =>
      match (s.rckH r).wait with
      | .fence m w => if m = n ∧ s.fenceReached n w then s.meets r else s
      | _ => s
  else s

/-- The racker that owns a GPO pin. -/
def State.ownerGpo (s : State) (pin : Nat) : Option Nat :=
  if s.on (RCK_GPO_OWN_VALID (pin / 4) (pin % 4)) then some (s.rd (RCK_GPO_OWN_RACKER (pin / 4) (pin % 4))) else none

/-- Pins that no racker owns follow RCK_GPO_HOST (R284). -/
def State.followHostGpo (s : State) : State :=
  s.forN 16 fun pin s =>
    if (s.ownerGpo pin).isNone then s.wr ⟨RCK_GPO, pin, 1⟩ (s.rd RCK_GPO_HOST_VALUE / 2 ^ pin) else s

/-- GPO of racker `r`: it drives the masked pins it owns; other masked pins are left and reported (R284). -/
def State.driveGpo (r value mask : Nat) (s : State) : State :=
  s.forL (indicesWhere 16 fun pin => bit mask pin) fun pin s =>
    if s.ownerGpo pin = some r then s.wr ⟨RCK_GPO, pin, 1⟩ (value / 2 ^ pin) else s.raise RCK_SH_STATUS_GPO_IGN

/-! ## Switch lines -/

/-- The timing that a staged change of plan `p` will begin, once its instant is known, with the number and length of the bridge frame
before it where there is one (R201, R202). -/
def State.nextTiming (s : State) (p : Nat) : Option (Option (Nat × Nat) × PlanH) :=
  let h := s.planH p
  match h.staged with
  | none => none
  | some st =>
    let from_ (a k : Nat) : PlanH :=
      { h with anchorT := a, anchorF := k, segLen := framePeriod st.rate, format := st.format, rate := st.rate, jump := none, staged := none }
    if h.starting then none
    else if st.bridged then some (some (h.anchorF, h.segLen), from_ (h.anchorT + h.segLen) (h.anchorF + 1))
    else match s.changeTimes p with
      | some (b, a) =>
        let k := (h.posAt b).frame
        if b < a then some (some (k, a - b), from_ a (k + 1)) else some (none, from_ a k)
      | none => none

/-- The timing of plan `p` in frame `k`. -/
def State.timingOf (s : State) (p k : Nat) : PlanH :=
  match s.nextTiming p with
  | some (_, g) => if g.anchorF ≤ k then g else s.planH p
  | none => s.planH p

/-- The frame of plan `p` at time `t`. -/
def State.frameAtTime (s : State) (p t : Nat) : Nat :=
  match s.nextTiming p with
  | some (_, g) => if g.anchorT ≤ t then (g.posAt t).frame else ((s.planH p).posAt t).frame
  | none => ((s.planH p).posAt t).frame

/-- Whether frame `k` of plan `p` reaches a line of its timing: a bridge frame, and a JUMP frame, that is cut before the line does not
(R197, R201). -/
def State.frameReaches (s : State) (p k line : Nat) : Bool :=
  let h := s.timingOf p k
  let offset := h.lineStart k line - h.frameStart k
  let bridge := match s.nextTiming p with
    | some (some (f, len), _) => f == k && decide (len ≤ offset)
    | _ => false
  let cut := match h.jump with
    | some j => k == j.frame && decide ((framePeriod h.rate : Int) + j.change ≤ offset)
    | none => false
  !bridge && !cut && (k != h.anchorF || decide (offset < h.segLen))

/-- Whether a line of a frame of plan `p` occurs as a switch line: not in a bridge frame, nor after the cut of a short
JUMP frame (R257, R260). -/
def State.lineOccurs (s : State) (p k line : Nat) : Bool :=
  let bridge := match s.nextTiming p with
    | some (some (f, _), _) => f == k
    | _ => false
  decide (k < (s.planH p).anchorF) || (!bridge && s.frameReaches p k line)

/-- The switch lines of a plan in frame `k`, in order (R190). -/
def State.switchLinesOf (s : State) (p k : Nat) : List Nat := switchLines (s.timingOf p k).format (s.on (PLN_CFG_FIELDS p))

/-- The first switch line of plan `p` that occurs, from frame `k` on, and whose start satisfies a test; `n` frames are
searched. -/
def State.findSwitch (s : State) (p : Nat) (ok : Nat → Nat → Bool) : Nat → Nat → Option (Nat × Nat)
  | 0, _ => none
  | n + 1, k =>
    match (s.switchLinesOf p k).find? fun l => s.lineOccurs p k l && ok k l with
    | some l => some (k, l)
    | none => s.findSwitch p ok n (k + 1)

/-- The first occurring switch line of plan `p` that starts at or after an instant (R257). -/
def State.switchFrom (s : State) (p t : Nat) : Option (Nat × Nat) :=
  s.findSwitch p (fun k l => decide (t ≤ (s.timingOf p k).lineStart k l)) 8 (s.frameAtTime p t)

/-- The first occurring switch line at or after a given line of a given frame. -/
def State.switchAtOrAfter (s : State) (p frame line : Nat) : Option (Nat × Nat) :=
  s.findSwitch p (fun k l => decide (frame < k) || decide (line ≤ l)) 8 frame

/-- Whether an operation that retires at an instant meets the commit horizon of a switch line, two line periods of the timing in force
on that line before it (R257). -/
def State.meetsHorizon (s : State) (p retire k l : Nat) : Bool :=
  let h := s.timingOf p k
  decide (retire + 2 * h.lineLen ≤ h.lineStart k l)

/-- The landing of a plan group at retire: its switch line, and whether it is late: the instant `floor` bounds it from
below, and the commit horizon lies two line periods before it (R257). No line before the retire can meet the horizon, so that the
search for a later one starts at the frame of the retire. -/
def State.assignLanding (s : State) (p floor retire : Nat) : Option (Nat × Nat × Bool) :=
  match s.switchFrom p floor with
  | none => none
  | some (k, l) =>
    if s.meetsHorizon p retire k l then some (k, l, false)
    else
      match s.findSwitch p (fun k' l' => (decide (k < k') || decide (l < l')) && s.meetsHorizon p retire k' l') 8
          (max k (s.frameAtTime p retire)) with
      | some (k', l') => some (k', l', true)
      | none => none

/-! ## Pending operations -/

/-- Count discarded entries and set the racker's event (R261, R289). -/
def State.discarded (r n : Nat) (s : State) : State :=
  if n = 0 then s else (s.bumpBy (RCK_CNT_COUNT r 4) n).rckEvent r (2 ^ 20)

/-- After a group has landed or been discarded, at time `t`: an operation with no group left is complete, and so is the wait of a fifth
one where it was the oldest (R263, Table 07-10). -/
def State.settleOps (r t : Nat) (s : State) : State :=
  let h := s.rckH r
  let left := h.ops.filter fun o => !o.isEmpty
  if left.length < h.ops.length then
    let done := if h.ops.head? = some [] then h.landedAt.orElse fun _ => some t else h.landedAt
    ((s.setRckH r { h with ops := left, landedAt := done }).rckEvent r (2 ^ 19)).showRck r
  else s

/-- RCK_LAND_L.PEND follows whether a group of the plan is still to land. -/
def State.showLand (r p : Nat) (s : State) : State :=
  if (s.rckH r).ops.any fun o => o.any fun g => g.plan == p then s else s.wr (RCK_LAND_L_PEND r p) 0

/-- The entry of a SLOTM entry's change. -/
def Change.slotm : Change → Option Nat
  | .mask _ _ e => some e
  | _ => none

/-- How many entries of one operation a list of its changes stands for: those of one SLOTM entry are one (R261). -/
def entryCount (l : List Change) : Nat :=
  (l.filter fun c => c.slotm.isNone).length + (l.filterMap Change.slotm).eraseDups.length

/-- Discard every pending entry of a racker, and empty its staging buffer (R289). -/
def State.discardAll (r : Nat) (s : State) : State :=
  let h := s.rckH r
  let n := h.ops.foldl (fun a o => a + entryCount (o.map (·.changes)).flatten) 0
  let s := (s.setRckH r { h with ops := [], staging := [] }).discarded r n
  (s.forN 8 fun p s => s.showLand r p).showRck r

/-- The id of the destination of a change, when it is a video destination. -/
def Change.video : Change → Option Nat
  | .route d _ _ | .clear d | .mask d _ _ => some d
  | .audio _ _ _ => none

/-- Discard the pending changes on a plan that satisfy a test (R261). -/
def State.discardWhere (p : Nat) (test : Change → Bool) (s : State) : State :=
  s.forN 16 fun r s =>
    let h := s.rckH r
    let gone := h.ops.foldl (fun a o => o.foldl (fun a g => if g.plan = p then a + entryCount (g.changes.filter test) else a) a) 0
    if gone = 0 then s
    else
      let ops := h.ops.map fun o => (o.map fun g =>
        if g.plan = p then { g with changes := g.changes.filter fun c => !test c } else g).filter fun g => !g.changes.isEmpty
      let dests := ((h.ops.flatten.filter fun g => g.plan == p).map fun g => (g.changes.filter test).filterMap Change.video).flatten
      let s := s.forL dests fun d s => s.setOutH d { s.outH d with stillAt := s.now }
      (((s.setRckH r { h with ops := ops }).discarded r gone).settleOps r s.now).showLand r p

/-- One change takes effect at a switch line (R258). An audio change is discarded while domain 83 is not ready, and any
change of a destination that has moved to another plan or whose plan is off (R261, R399): the changes discarded. -/
def State.landChange (p line : Nat) (c : Change) (s : State) : State × List Change :=
  match c with
  | .route d src w => if s.outPlan d = p then (s.switchTo d src w line, []) else (s, [c])
  | .clear d => if s.outPlan d = p then (s.clearRoute d line, []) else (s, [c])
  | .mask d on _ => if s.outPlan d = p then (s.setMask d on, []) else (s, [c])
  | .audio a src fade => if s.carries 83 && s.audPlan a == p then (s.landAudio a src fade, []) else (s, [c])

/-- The changes of a group take effect in order; the changes discarded. -/
def State.landChanges (p line : Nat) : List Change → State → State × List Change
  | [], s => (s, [])
  | c :: l, s =>
    let (s, n) := s.landChange p line c
    let (s, m) := s.landChanges p line l
    (s, n ++ m)

/-- A group with the switch line on which it lands: the one assigned, or where that does not occur the plan's next one that does (R260). -/
def State.landsOn (s : State) (g : PlanGroup) : Option PlanGroup :=
  (s.switchAtOrAfter g.plan g.frame g.line).map fun (k, l) => { g with frame := k, line := l }

/-- The next group to land on plan `p`, over all rackers and the entries of a catch-up image (16): racker, operation position and
group, the earliest switch line that it lands on first and then the earliest retire (R258, R260, R262, R549). -/
def State.nextGroup (s : State) (p : Nat) : Option (Nat × Nat × PlanGroup) :=
  let mine (l : List PlanGroup) : List PlanGroup := (l.filter fun g => g.plan == p).filterMap s.landsOn
  let all := ((rangeFrom 0 16).map fun r => (((s.rckH r).ops.zipIdx).map fun o => (mine o.1).map fun g => (r, o.2, g)).flatten).flatten
  (all ++ (mine s.twn.landing).map fun (g : PlanGroup) => (16, 0, g)).foldl (fun m e => match m with
    | none => some e
    | some (r, k, g) =>
      let a := e.2.2
      if a.frame < g.frame ∨ (a.frame = g.frame ∧ (a.line < g.line ∨ (a.line = g.line ∧ a.retired < g.retired)))
      then some e else some (r, k, g)) none

/-- PLAN_GROUP_LANDS: at sample 0 of its switch line the oldest group of plan `p` takes effect; a switch line that does not
occur is replaced by the plan's next one that does (R258, R260 to R263). The crosspoint is held in SAFE and DIAGNOSTIC. -/
def execPlanGroupLands (p : Fin 8) (s : State) : Host.Outcome State Fault Refusal :=
  .next (
    match s.nextGroup p with
    | none => s
    | some (r, k, g) =>
      let f := g.frame
      let l := g.line
      let t := (s.timingOf p f).lineStart f l
      if s.mode = .safe ∨ s.mode = .diagnostic ∨ !s.on (PLN_STATUS_RUN p) ∨ s.now < t then s
      else if r = 16 then
        let s := { s with twn := { s.twn with landing := s.twn.landing.filter fun x => x.plan != p } }
        (s.landChanges p l g.changes).1
      else
        let h := s.rckH r
        let s := s.setRckH r { h with ops := listSet h.ops k ((h.ops.getD k []).filter fun x => x.plan != p) }
        let (s, gone) := s.landChanges p l g.changes
        let s := (s.discarded r (entryCount gone)).settleOps r t
        if (s.rckH r).ops.any fun o => o.any fun x => x.plan == p then s
        else ((s.wr (RCK_LAND_F_FRAME r p) (wrap32 f)).wr (RCK_LAND_L_LINE r p) l).showLand r p)

/-- LEASE_LAPSE: a lease reaches its expiry frame unrenewed and is reclaimed (R273, R275, R276). -/
def execLeaseLapse (i : Fin 256) (s : State) : Host.Outcome State Fault Refusal := .next (s.expireLease i)

end Sys2Proof.Machine
end

