-- ==== Sys2Proof/Machine/Modes.lean ====
section
/-! DEFINITION. The claim, the control token, the mode transitions and the outcomes of self-diagnosis triggers (R52 to R61,
R526 to R529, R543 to R545). -/

namespace Sys2Proof.Machine

/-- Whether the device is one of a twin pair: OTP TWIN_EN (R526). -/
def State.twinEn (s : State) : Bool := s.on TOP_STRAP_TWIN_EN

/-- The claim that a mode gives the device; the other modes keep the claim held on entry (R526). -/
def Mode.claim : Mode → Option Bool
  | .solo | .active | .takeover => some true
  | .standby | .relinquished => some false
  | _ => none

/-- Set the claim bit; while TWIN_FENCE_IN is asserted it is 0 (R526). TWIN_CLAIM_OUT follows it (R129, R527). -/
def State.setClaim (b : Bool) (s : State) : State :=
  let v := b && !s.on TWN_STATUS_FENCED
  let t : State := { s with top := { s.top with claim := v } }
  if s.top.claim = v then t else t.emit (.claimOut v)

/-- TWN_CTRL.UNFENCE: TWIN_FENCE_OUT goes low (R547). -/
def State.unfence (s : State) : State :=
  if s.on TWN_STATUS_FENCING then (s.wr TWN_STATUS_FENCING 0).emit (.fenceOut false) else s

/-- The mode framing of the transmit direction starts anew with block 0 (R111). -/
def State.restartFraming (n : Nat) (s : State) : State := s.setCtnH n { s.ctnH n with next := 0 }

/-- Lanes that send a pattern. -/
def State.patternLanes (s : State) : List (Nat × Nat) :=
  ((rangeFrom 0 37).map fun n => (rangeFrom 0 (laneCount n)).filterMap fun l =>
    if s.on (TRL_LANE_CFG_PAT_EN n l) && s.rd (TRL_LANE_CFG_PAT_SEL n l) != 7 then some (n, l) else none).flatten

/-- On leaving DIAGNOSTIC, every generator, checker and injector stops, and the mode framing restarts at the next lane frame boundary (R104).
-/
def State.diagStop (s : State) : State :=
  let s := s.forL s.patternLanes fun e s => s.emit (.pattern e.1 e.2 none)
  s.forN 37 fun n s =>
    let s := s.forN (laneCount n) fun l s =>
      (s.wr (TRL_LANE_STAT_CHK_LOCK n l) 0).setLaneH n l { s.laneH n l with injPend := 0 }
    let s := if s.on (TRL_STATUS_TX_ACTIVE n) then (s.fillFrame n).restartFraming n else s
    if s.rd (TRL_STATUS_RX_STATE n) = 6 then s.setTrlH n { s.trlH n with since := s.now } else s

/-- Every transition of TOP_MODE.MODE: it is recorded, sets the racker TWIN event where TWIN_EN is 1, moves the claim, and
halts the rackers in a mode that halts them (Table 02-4, Table 07-10). -/
def State.enterMode (m : Mode) (cause : Nat) (s : State) : State :=
  let s := if s.mode = .diagnostic then s.diagStop else s
  let s := s.recordMode m cause
  let s := if s.twinEn then s.rckEventAll (2 ^ 22) else s
  let s := match m.claim with
    | some b => s.setClaim b
    | none => s
  let s := if m = .standby then { s with twn := { s.twn with standbyFrame := s.frame0, standbyAt := s.now } } else s
  let s := if m = .standby then s.refEnd else s.wr REF_STATUS_TWIN_DIVERGE 0
  if s.rackersHalted then s.haltAll else s

/-- Whether this device holds the control token: its own twin hardware is the holder of lease 255 (R529). -/
def State.holdsToken (s : State) : Bool := s.on TWN_STATUS_TOKEN

/-- Take the control token, or renew it, until TWN_CFG.TOKEN frames from now (R529). -/
def State.takeToken (s : State) : State :=
  let s := if s.on (RCK_LEASE_H_HELD 255) && s.rd (RCK_LEASE_H_HOLDER 255) != holderTwin then s.endLease 255 .dropped else s
  (s.grantLease 255 holderTwin 0 (s.frame0 + s.rd TWN_CFG_TOKEN)).wr TWN_STATUS_TOKEN 1

/-- Release the control token (R543). -/
def State.releaseToken (s : State) : State :=
  if s.holdsToken then (s.endLease 255 .delivered).wr TWN_STATUS_TOKEN 0 else s

/-- Whether the twin is able to take over, as this device sees it. -/
def State.peerAble (s : State) : Bool :=
  let m := s.rd TWN_STATUS_PEER_MODE
  s.on TWN_STATUS_LINK && !s.twn.peerFenced && decide (3 ≤ m ∧ m ≤ 5) && s.twn.stateAt.isSome

/-- Keep TWN_STATUS.PEER_ABLE up to date. -/
def State.updateAble (s : State) : State := s.wrB TWN_STATUS_PEER_ABLE s.peerAble

/-- Whether the twin sees and journals: the device is in a twin pair, not in SOLO and past DEFAULT (R533, R537). -/
def State.paired (s : State) : Bool :=
  s.twinEn && s.mode != .solo && s.mode != .startup && s.mode != .default
    && !(s.mode == .frozen && s.frzRet == .solo) && !(s.mode == .isolated && s.isoRet == .solo)
    && !(s.mode == .frozen && s.frzRet == .isolated && s.isoRet == .solo)

/-- The mode whose outcomes hold for a trigger (R60). -/
def State.triggerMode (s : State) : Mode :=
  let iso (m : Mode) : Mode := if m = .isolated then s.isoRet else m
  if s.mode = .frozen then iso s.frzRet else iso s.mode

/-- RELINQUISH: the claim clears, the token is released, and the mode becomes RELINQUISHED; the cause goes into the STATE
records (R543). -/
def State.relinquish (row cause : Nat) (s : State) : State :=
  let s := (s.setClaim false).releaseToken
  let s := { s with twn := { s.twn with cause := row + 1 } }
  s.enterMode .relinquished cause

/-- Entry to SAFE: the rackers halt, the crosspoint is frozen and every output follows its loss policy; after a thermal
cause domains 37 to 40 and 51 to 82 are powered down (R61). -/
def State.enterSafe (cause : Nat) (s : State) : State :=
  let s := (s.enterMode .safe cause).haltAll
  let s := s.forN 4608 fun d s =>
    if s.on (XPT_MAP_RD_VALID d) && !s.on (XPT_MAP_RD_COVERED d) then (s.slipFrame d).enterPolicy d else s
  if cause = 6 then
    { s with top := { s.top with forcedOff := s.top.forcedOff ||| (15 * 2 ^ 37) ||| ((2 ^ 32 - 1) * 2 ^ 51) } }
  else s

/-- A self-diagnosis trigger, by its row of Table 02-5: 0 route proof, 1 ECC, 2 regulator, 3 thermal, 4 racker trap,
5 ledger (R59, R60). -/
def State.trigger (row : Nat) (s : State) : State :=
  let cause := if row = 3 then 6 else 5
  let m := s.triggerMode
  let s := s.capture 0 (eventOf 1 row) row
  let able := (m = .active ∨ m = .standby ∨ m = .takeover) ∧ s.peerAble = true
  if s.mode = .startup ∨ s.mode = .quiesce ∨ s.mode = .relinquished ∨ s.mode = .safe then s
  else if able then
    let s := { s with top := { s.top with relinquishedBy := s.top.relinquishedBy ||| 2 ^ row } }
    s.relinquish row cause
  else if row = 1 ∨ row = 2 ∨ row = 3 then s.enterSafe cause
  else s

/-- The racker trap of Table 02-5 (R292). -/
def State.trapTrigger (r : Nat) (s : State) : State :=
  let s := { s with top := { s.top with trapped := s.top.trapped ||| 2 ^ r } }
  s.trigger 4

/-- Enter TAKEOVER: the claim is set and the token taken (R544). -/
def State.enterTakeover (s : State) : State :=
  let s := (s.enterMode .takeover 3).takeToken
  s.raise TWN_EVENT_TAKEOVER

/-- The device diverges from its twin and asks for a catch-up (R539). -/
def State.diverge (s : State) : State :=
  let s := (s.wr TWN_STATUS_DIVERGED 1).raise TWN_EVENT_DIVERGE
  { (s.wr TWN_STATUS_SYNC 0) with twn := { s.twn with wants := true, stamp := none, image := none } }

/-! ## Mirror records without credits -/

/-- The two groups of a 32-bit word, the high one first. -/
def wordGroups (v : Nat) : List Nat := [v / 2 ^ 16 % 2 ^ 16, v % 2 ^ 16]

/-- The groups of a mirror record: MREC with its TYPE, LEN, the data groups and the CRC (R530). -/
def mirrorGroups (type : Nat) (groups : List Nat) : List (Bool × Nat) :=
  let l := (groups.length + 1) :: groups
  (true, 0x7000 + type) :: (l ++ [crc16 l]).map fun g => (false, g)

/-- Put a record on the mirror port (R84, R530). The layout of an OPREC, EFFECT or IMAGE is not given: such a record is named, and its
groups are not computed. -/
def State.putMirror (o : Out) (s : State) : State :=
  match o with
  | .mirror type groups => (s.sendGroups 36 (mirrorGroups type groups)).emit o
  | o => s.emit o

/-- Send a record without credits (STATE, CKPT): TYPE and the data groups between LEN and the CRC. -/
def State.sendFree (type : Nat) (groups : List Nat) (s : State) : State :=
  if s.twinEn && s.on (TRL_STATUS_TX_ACTIVE 36) then s.putMirror (.mirror type groups) else s

end Sys2Proof.Machine
end

