-- ==== Sys2Proof/Machine/Ledger.lean ====
section
/-! DEFINITION. The ledger: books, checks, epochs, marks and the held checkpoint (R514 to R525). -/

namespace Sys2Proof.Machine

/-! ## Books and checks -/

/-- Close the books at a PLAN0 frame boundary: the live checkpoint takes every counter; it is named by the frame that ends
(R519). -/
def State.closeBooks (s : State) : State :=
  let s := { s with ldg := { s.ldg with
    live := s.ldg.books, liveFrame := s.frame0 - 1, closedAt := s.frame0, checked := false } }
  s.wr LDG_STATUS_CHECK_BUSY 1

/-- The units of a set of books that fail their equation, in class order and then index order (R520). -/
def failingUnits (l : List (Nat × List Nat)) : List (Nat × Nat) :=
  (l.filter fun e => !balanced (e.1 / 8192) (e.1 % 8192) e.2).map fun e => (e.1 / 8192, e.1 % 8192)

/-- Record an imbalance and raise its trigger; later failures of the same books are only counted (R520). -/
def State.imbalance (c i more : Nat) (s : State) : State :=
  let s := ((s.wr LDG_IMB_CLASS c).wr LDG_IMB_INDEX i).wr LDG_IMB_F_FRAME (wrap32 s.ldg.liveFrame)
  let s := ((s.wr LDG_IMB_VALID 1).bumpBy (LDG_INFO_COUNT 2) more).raise LDG_STATUS_IMBALANCE
  let s := { s with top := { s.top with imbalance := true } }
  s.trigger 5

/-- The CKPT record of a ledger check (R530, TWN_PEER_LDG, TWN_PEER_CLOSE): the epoch, then the frame of the books with VOID and
IMBALANCE of those books. PRESUMED layout: the spec gives the content and not the groups. -/
def State.sendCheckpoint (bad : Bool) (s : State) : State :=
  s.sendFree 6 (wordGroups (s.rd LDG_EPOCH_EPOCH)
    ++ wordGroups (s.ldg.liveFrame % 2 ^ 30 + s.rd LDG_STATUS_VOID * 2 ^ 30 + ofBool bad * 2 ^ 31))

/-- Evaluate the equations over the live checkpoint, and report them to the twin (R515, R520, R521, R530). -/
def State.checkBooks (s : State) : State :=
  let s := { s with ldg := { s.ldg with checked := true } }
  let s := (s.wr LDG_STATUS_CHECK_BUSY 0).wr LDG_CLOSE_F_FRAME (wrap32 s.ldg.liveFrame)
  let failing := failingUnits s.ldg.live
  let s := s.sendCheckpoint (!failing.isEmpty && !s.on LDG_STATUS_VOID)
  match failing with
  | [] => { s with top := { s.top with imbalance := false } }
  | (c, i) :: more => if s.on LDG_STATUS_VOID then s else s.imbalance c i more.length

/-- BOOKS_CLOSE: at a PLAN0 frame boundary the books of the frame that ends close, once (R519). -/
def execBooksClose (s : State) : Host.Outcome State Fault Refusal :=
  .next (if s.on (PLN_STATUS_RUN 0) ∧ s.ldg.closedAt < s.frame0 then s.closeBooks else s)

/-- LEDGER_CHECK: the equations are evaluated over the live checkpoint (R520). -/
def execLedgerCheck (s : State) : Host.Outcome State Fault Refusal :=
  .next (if s.ldg.checked then s else s.checkBooks)

/-- LEDGER_ECC_ERROR: the books are void until the next epoch, and the self-diagnosis trigger is raised (R521). -/
def execLedgerEccError (s : State) : Host.Outcome State Fault Refusal :=
  .next (((s.wr LDG_STATUS_VOID 1).raise LDG_STATUS_STORE_ECC).trigger 1)

/-! ## Epochs -/

/-- Request an epoch at the boundary of a PLAN0 frame; requests for the same boundary start one (R522). -/
def State.requestEpoch (f : Nat) (s : State) : State :=
  if s.ldg.epochs.contains f then s else { s with ldg := { s.ldg with epochs := s.ldg.epochs ++ [f] } }

/-- The columns of a unit at the start of an epoch: RES_OPEN and RESIDENT take what is resident, the others are 0. -/
def epochColumns (u : List Nat) : List Nat := [0, 0, 0, 0, 0, 0, u.getD 6 0, u.getD 6 0]

/-- Start an epoch at this boundary (R522). -/
def State.startEpoch (s : State) : State :=
  let fresh := (s.ldg.books.map fun e => (e.1, epochColumns e.2)).filter fun e => e.2 != noBooks
  let s := { s with ldg := { s.ldg with books := fresh, epochs := s.ldg.epochs.filter fun f => decide (s.frame0 < f) } }
  let s := { s with top := { s.top with imbalance := false } }
  let s := (s.wr LDG_EPOCH_EPOCH (s.rd LDG_EPOCH_EPOCH + 1)).wr LDG_EPOCH_F_FRAME (wrap32 s.frame0)
  (s.wr LDG_STATUS_VOID 0).bump (LDG_INFO_COUNT 1)

/-- EPOCH_START: at a requested PLAN0 frame boundary the books of the old epoch close and the new epoch starts (R521,
R522). -/
def execEpochStart (s : State) : Host.Outcome State Fault Refusal :=
  .next (
    if s.ldg.epochs.any fun f => decide (f ≤ s.frame0) then
      (if s.ldg.closedAt < s.frame0 then s.closeBooks else s).startEpoch
    else s)

/-! ## The held checkpoint -/

/-- LDG_CTRL.HOLD: a copy of the live checkpoint is held (R524). -/
def State.holdBooks (s : State) : State :=
  let s := { s with ldg := { s.ldg with held := some s.ldg.live } }
  (s.wr LDG_STATUS_HELD 1).wr LDG_HOLD_F_FRAME (wrap32 s.ldg.liveFrame)

/-- LDG_CTRL.RELEASE: the held copy is discarded (R524). -/
def State.releaseBooks (s : State) : State :=
  { s.wr LDG_STATUS_HELD 0 with ldg := { (s.wr LDG_STATUS_HELD 0).ldg with held := none } }

/-- A write of LDG_CTRL; an EPOCH that applies at a journal stamp names the stamped boundary itself (R522, R524, R525). -/
def State.ledgerControl (v : Nat) (stamped : Bool) (s : State) : State :=
  let s := if bit v 0 then s.requestEpoch (if stamped then s.frame0 else s.frame0 + 1) else s
  let s := if bit v 1 then s.holdBooks else s
  if bit v 2 then s.releaseBooks else s

/-- A write of LDG_SEL loads LDG_VAL from the held checkpoint, or the live one (R524). -/
def State.selectUnit (s : State) : State :=
  let c := s.rd LDG_SEL_CLASS
  let i := s.rd LDG_SEL_INDEX
  let u := if c ≤ 10 then booksOf (s.ldg.held.getD s.ldg.live) c i else noBooks
  s.forN 8 fun k s => (s.wr (LDG_VAL_LO_VALUE k) (u.getD k 0)).wr (LDG_VAL_HI_VALUE k) (u.getD k 0 / 2 ^ 32)

/-! ## Marks -/

/-- Append a mark; the status it returns (R317, R523). -/
def State.addMark (value r frame line : Nat) (s : State) : State × Nat :=
  if 64 ≤ s.ldg.marks.length then (s.raise LDG_STATUS_MARK_OVF, stBusy)
  else ({ s with ldg := { s.ldg with
    marks := s.ldg.marks ++ [{ value := value, racker := r, frame := wrap32 frame, line := line }] } }, stDone)

/-- A read of LDG_MARK_VAL removes the oldest mark and latches its other fields. -/
def State.takeMark (s : State) : State × Nat :=
  match s.ldg.marks with
  | [] => (s.wr LDG_MARK_INFO_VALID 0, 0)
  | m :: l =>
    let s := { s with ldg := { s.ldg with marks := l } }
    let s := ((s.wr LDG_MARK_INFO_LINE m.line).wr LDG_MARK_INFO_RACKER m.racker).wr LDG_MARK_INFO_LEFT l.length
    ((s.wr LDG_MARK_INFO_VALID 1).wr LDG_MARK_F_FRAME m.frame, m.value)

end Sys2Proof.Machine
end

