-- ==== Sys2Proof/Machine/Proof.lean ====
section
/-! DEFINITION. Route proof: rectangles, check records, comparison and verdicts (R503 to R513). -/

namespace Sys2Proof.Machine

/-! ## Rectangles -/

/-- The value in force of a rectangle register: a value written lately waits for the PLAN0 frame boundary (R505). -/
def State.rectWord (s : State) (a : Nat) : Word := storeGet s.word s.ldg.rects a

/-- RGEN in force at an instant (R505). -/
def State.rgenAt (t : Nat) (s : State) : Nat :=
  (s.rd PRF_STATUS_RGEN + 256 - (s.ldg.rgens.filter fun e => decide (t < e.1)).length) % 256

/-- The value of a rectangle register in force under RGEN `g`, the present one or one of the last four (R505). -/
def State.rectWordOf (s : State) (g a : Nat) : Word :=
  storeGet s.word (((s.ldg.rgens.take ((s.rd PRF_STATUS_RGEN + 256 - g) % 256)).reverse.map (·.2)).flatten ++ s.ldg.rects) a

/-- A rectangle register is about to be written: keep the value in force until the boundary (R505). -/
def State.keepRect (a : Nat) (s : State) : State :=
  let rects := if s.ldg.rects.any fun e => e.1 == a then s.ldg.rects else (a, s.word a) :: s.ldg.rects
  { s with ldg := { s.ldg with rects := rects, rectAt := s.frame0 } }

/-- Whether under RGEN `g` rectangle `k` of format `f` is enabled and lies in the raster (R504). -/
def State.rectOn (s : State) (g f k : Nat) : Bool :=
  let pos := (s.rectWordOf g (PRF_RPOS f k)).toNat
  let size := (s.rectWordOf g (PRF_RSIZE f k)).toNat
  let x := pos % 2 ^ 16
  let y := pos / 2 ^ 16
  let w := size % 2 ^ 16
  let h := size / 2 ^ 16
  bit (s.rectWordOf g (PRF_RMASK f)).toNat k && x % 2 == 0 && w % 2 == 0 && w != 0 && h != 0
    && decide (x + w ≤ prfRasterW f) && decide (y + h ≤ prfRasterH f)

/-- Mask of the rectangles of a format that are computed under RGEN `g`. -/
def State.rectMask (s : State) (g f : Nat) : Nat := (rangeFrom 0 4).foldl (fun a k => a + ofBool (s.rectOn g f k) * 2 ^ k) 0

/-- The checks of the rectangles of a format under RGEN `g` over `links` pictures, link after link; 0 for a rectangle that is not computed (R504,
R506). DEDUCED: a frame during which RGEN advances is checked whole by the rectangles whose RGEN its record carries (R505). -/
def State.rectChecks (s : State) (g f links : Nat) (row : Nat → Nat → List Nat) : List Nat :=
  ((rangeFrom 0 links).map fun j => (rangeFrom 0 4).map fun k =>
    if s.rectOn g f k then rectCheck (row j) (s.rectWordOf g (PRF_RPOS f k)).toNat (s.rectWordOf g (PRF_RSIZE f k)).toNat else 0).flatten

/-- The first line of rectangle `k` of format `f` under RGEN `g`. -/
def State.rectFirst (s : State) (g f k : Nat) : Nat :=
  let y := (s.rectWordOf g (PRF_RPOS f k)).toNat / 2 ^ 16
  let h := (s.rectWordOf g (PRF_RSIZE f k)).toNat / 2 ^ 16
  if 2 ≤ h then min (pictureLine f y) (pictureLine f (y + 1)) else pictureLine f y

/-- RGEN_ADVANCE: at a PLAN0 frame boundary the rectangles written take effect (R505). -/
def execRgenAdvance (s : State) : Host.Outcome State Fault Refusal :=
  .next (
    if s.ldg.rects.isEmpty || decide (s.frame0 ≤ s.ldg.rectAt) then s
    else
      let s := { s with ldg := { s.ldg with rects := [], rgens := (((s.planH 0).frameStart s.frame0, s.ldg.rects) :: s.ldg.rgens).take 4 } }
      (s.wr PRF_STATUS_RGEN (s.rd PRF_STATUS_RGEN + 1)).raise PRF_EVENT_RECT_CHANGE)

/-! ## Check records -/

/-- Check records of a source id, or of destination `d` at key 8192 + d, newest first. -/
def State.recsOf (s : State) (k : Nat) : List CheckRec := storeGet (fun _ => []) s.ldg.recs k
/-- Replace the records at a key. -/
def State.setRecs (k : Nat) (l : List CheckRec) (s : State) : State :=
  { s with ldg := { s.ldg with recs := storeSet (fun _ => []) s.ldg.recs k l } }

/-- Store a record: the last 8 of an input or head tap, the last one of an output tap (R507). -/
def State.addRec (k : Nat) (c : CheckRec) (s : State) : State :=
  s.setRecs k ((c :: s.recsOf k).take (if k < 8192 then 8 else 1))

/-- Set DAMAGED bits on a record of a source by its tag (R507, R508). -/
def State.damageRec (src tag mask : Nat) (s : State) : State :=
  s.setRecs src ((s.recsOf src).map fun c => if c.tag = tag then { c with damaged := c.damaged ||| mask } else c)

/-- The rectangles under RGEN `g` in which a line of a frame of format `f` lies, by its line in frame numbering. -/
def State.rectsAtLine (s : State) (g f line : Nat) : Nat :=
  (rangeFrom 0 4).foldl (fun a k =>
    let y := (s.rectWordOf g (PRF_RPOS f k)).toNat / 2 ^ 16
    let h := (s.rectWordOf g (PRF_RSIZE f k)).toNat / 2 ^ 16
    if s.rectOn g f k && ((rangeFrom y h).any fun z => pictureLine f z == line) then a + 2 ^ k else a) 0

/-- The record that the input tap of input `i` writes for its newest frame, with its checks link after link. -/
def State.inputRecord (s : State) (i : Nat) (checks : List Nat) : CheckRec :=
  let h := s.inH i
  { tag := frameTag i (h.frames - 1), crc := checks, rgen := h.rgen, valid := s.rectMask h.rgen (s.rd (XPT_IN_STAT_FORMAT i)),
    damaged := h.damaged }

/-- A write of PRF_REC_SEL loads a record; one that holds nothing loads as 0. -/
def State.loadRecord (s : State) : State :=
  let id := s.rd PRF_REC_SEL_ID
  let age := s.rd PRF_REC_SEL_AGE
  let c := ((s.recsOf (if s.on PRF_REC_SEL_OUT then 8192 + id else id)).drop age).headD
    { tag := 0, crc := [], rgen := 0, valid := 0, damaged := 0 }
  let s := (s.wr PRF_REC_TAG_TAG c.tag).forN 4 fun k s => s.wr (PRF_REC_CRC_CRC k) (c.crc.getD k 0)
  let s := (s.wr PRF_REC_INFO_RGEN c.rgen).wr PRF_REC_INFO_VALID (if c.invalid then 0 else c.valid)
  (s.wr PRF_REC_INFO_DAMAGED c.damaged).wr PRF_REC_INFO_LAND_LINE c.landLine

/-- PROOF_STORE_ECC_ERROR: an uncorrectable error invalidates the record it touches; it is no trigger (R508). -/
def execProofStoreEccError (id : Fin 8192) (out : Bool) (age : Fin 8) (s : State) : Host.Outcome State Fault Refusal :=
  .next (
    let k := if out then 8192 + id.val else id.val
    let l := s.recsOf k
    let s := s.setRecs k (l.zipIdx.map fun e => if e.2 = age.val then { e.1 with invalid := true } else e.1)
    s.raise PRF_STATUS_STORE_ERR)

/-! ## Verdicts -/

/-- The reference record of a pattern generator for a plan format (R507). -/
def State.patternRecord (s : State) (src f : Nat) : CheckRec :=
  { tag := src * 2 ^ 19, rgen := s.rd PRF_STATUS_RGEN, valid := s.rectMask (s.rd PRF_STATUS_RGEN) f, damaged := 0,
    crc := s.rectChecks (s.rd PRF_STATUS_RGEN) f (if f = 7 then 4 else 1) (patternRow src f) }

/-- Reasons 1 to 5 of Table 13-2 for an output frame from source `src`; 0 for none. -/
def State.notComparable (s : State) (d src : Nat) : Nat :=
  let h := s.outH d
  if !s.on PRF_CFG_EN then 1
  else if s.srcTransparent src then 2
  else if h.policy || !s.srcPresent src then 3
  else if h.slip then 4
  else if (match headOf src with | some g => decide (s.refFrame (s.rd (MVH_CFG_PLAN g)) < (s.mvhH g).clean) | none => false) then 5
  else 0

/-- Compare an output frame's checks with its source's record: verdict code and reason (R510, R511). -/
def State.compareFrame (s : State) (d src f : Nat) (checks : List Nat) : Nat × Nat :=
  let h := s.outH d
  let pattern := decide (4736 ≤ src ∧ src < 4768)
  let reason := s.notComparable d src
  if reason ≠ 0 then (3, reason)
  else if h.tag / 2 ^ 19 ≠ src then (2, 0)
  else
    let found := if pattern then some (s.patternRecord src f)
      else (s.recsOf src).find? fun c => c.tag == h.tag && !c.invalid
    match found with
    | none => (3, 7)
    | some c =>
      if c.rgen ≠ h.rgen ∨ s.fab.digest.contains src = true then (3, 6)
      else
        let rects := indicesWhere 4 fun k =>
          bit c.valid k && bit (s.rectMask h.rgen f) k && !bit c.damaged k && (h.landLine == 0 || decide (h.landLine ≤ s.rectFirst h.rgen f k))
        let links := if f = 7 then 4 else 1
        if rects.isEmpty then (3, 8)
        else if (rangeFrom 0 links).all fun n => rects.all fun k => checks.getD (4 * n + k) 0 == c.crc.getD (4 * n + k) 0
        then (1, 0) else (2, 0)

/-- The mismatch run of a destination reaches 3 (R513). Before the trigger has led to RELINQUISHED, only this escalation counts as one
since the trigger (Table 02-5). -/
def State.escalate (d tag : Nat) (s : State) : State :=
  let s := ((s.wr PRF_ESC_DST d).raise PRF_ESC_VALID).wr PRF_ESC_TAG_TAG tag
  let s := ((s.raiseArg PRF_EVENT_ESCALATE d).bump (PRF_CNT_COUNT 4)).wr (PRF_DST_RUN d) 0
  let since := if bit s.top.relinquishedBy 0 then s.top.escalated else []
  let s := { s with top := { s.top with escalated := if since.contains d then since else d :: since } }
  s.trigger 0

/-- Move the mismatch run of a destination by a verdict (R513). -/
def State.moveRun (d code tag : Nat) (s : State) : State :=
  let h := s.outH d
  if code = 1 then
    let s := (s.setOutH d { h with quiet := 0 }).wr (PRF_DST_RUN d) 0
    { s with top := { s.top with escalated := s.top.escalated.filter (· != d) } }
  else if code = 2 then
    let s := (s.setOutH d { h with quiet := 0 }).wr (PRF_DST_RUN d) (s.rd (PRF_DST_RUN d) + 1)
    if s.rd (PRF_DST_RUN d) = 3 then s.escalate d tag else s
  else if h.quiet = 7 then (s.setOutH d { h with quiet := 0 }).wr (PRF_DST_RUN d) 0
  else s.setOutH d { h with quiet := h.quiet + 1 }

/-- The verdict of a frame of destination `d` that began at `since` has been formed: a PROVE that waits for the first such frame from an
instant on takes it (R310). -/
def State.proveTakes (d since code tag : Nat) (s : State) : State :=
  s.forN 16 fun r s =>
    match (s.rckH r).wait with
    | .prove _ x fromT _ _ _ =>
      if x = d ∧ max fromT (s.outH d).landed ≤ since ∧ (s.rckH r).proved.isNone then
        s.setRckH r { s.rckH r with proved := some (code, tag), metAt := some s.now }
      else s
    | _ => s

/-- The checks of the output frame in progress, link after link: of the lines that the output stage has handed to serialisation, or of those that
it hands to a transmit context (R503, R506). -/
def State.outChecks (s : State) (d f : Nat) : List Nat :=
  s.rectChecks (s.outH d).rgen f (if f = 7 then 4 else 1) fun j y =>
    if s.packetMode (d / 128) then rowWords f y (s.outLine d j (pictureLine f y))
    else pictureRow f (s.outH (d + 4 * j)).sdo.rows y

/-- VERDICT: the last active line of the output frame in progress has left the output stage: its record is stored and its verdict formed, once
(R507, R510 to R513). -/
def execVerdict (d : Fin 4608) (s : State) : Host.Outcome State Fault Refusal :=
  .next (
    let h := s.outH d
    if !h.running || h.judged || h.masked || !s.on (XPT_MAP_RD_VALID d) || s.on (XPT_MAP_RD_COVERED d) then s
    else
      let src := s.rd (XPT_MAP_RD_SRC d)
      let f := (s.planH (s.outPlan d)).format
      let checks := s.outChecks d f
      let s := s.addRec (8192 + d) { tag := h.tag, crc := checks, rgen := h.rgen, valid := s.rectMask h.rgen f, damaged := 0,
                                     landLine := h.landLine }
      let (code, reason) := s.compareFrame d src f checks
      let s := s.setOutH d { s.outH d with judged := true, verdict := some (h.since, code, h.tag) }
      let s := s.proveTakes d h.since code h.tag
      let s := ((s.wr (PRF_DST_LAST d) code).wr (PRF_DST_REASON d) reason).wr (PRF_DST_TAG d) h.tag
      let s := (s.bump (PRF_CNT_COUNT 0)).bump (PRF_CNT_COUNT code)
      let s := if code = 2 then s.raiseArg PRF_EVENT_MISMATCH d else s
      s.moveRun d code h.tag)

end Sys2Proof.Machine
end

