-- ==== Sys2Proof/Machine/Video.lean ====
section
/-! DEFINITION. Commands of the video path: presence, cask windows, carriage, output frames and plans, cellar errors,
admission and the power states of the cellar's channels (R321 to R369). -/

namespace Sys2Proof.Machine

/-! ## Inputs -/

/-- The elastic stores of an input's links start to fill (R378). -/
def State.startElastic (i : Nat) (s : State) : State := s.forL (s.linkAreas i) fun x s => (s.setElastic x {}).setInH x { s.inH x with rateBad := 0 }

/-- Show the offset of an input against its home plan, and whether it lies in its window (R336). -/
def State.showOffset (i : Nat) (t : Int) (s : State) : State :=
  (s.wrInt (XPT_IN_OFFS_NS i) (t / 6)).wrB (XPT_IN_STAT_IN_WINDOW i) (bit (s.inH i).windows (s.rd (XPT_IN_CFG_HOME i)))

/-- A cellar-mode input that returns with another format or rate gives its charges back and asks again, reads included; with
the same ones it keeps them (R363). -/
def State.readmit (i kind : Nat) (s : State) : State :=
  let h := s.inH i
  if h.cellar && h.kind != kind then
    let plans := h.reads.map (·.plan)
    let s := (s.forL plans fun p s => s.releaseRead i p).withdrawLoad { cls := 0, id := i }
    (s.askCellar i).forL plans fun p s => s.assignRead i p
  else s.askCellar i

/-- An input becomes present: classified with a format and rate, or unclassified (R323, R326, R363, R378). -/
def State.inputPresent (i : Nat) (classified : Bool) (format rate : Nat) (levelB : Bool) (s : State) : State :=
  if s.on (XPT_IN_STAT_PRESENT i) || !s.addresses i || s.transparent i || !s.carries (inDomain i)
      || (classified && !rateAllowed format rate) then s
  else
    let f := if classified then format else 0
    let k := if classified then rate else 0
    let s := ((s.wr (XPT_IN_STAT_PRESENT i) 1).wrB (XPT_IN_STAT_CLASSIFIED i) classified).wr (XPT_IN_STAT_FORMAT i) f
    let s := (s.wr (XPT_IN_STAT_RATE i) k).wrB (XPT_IN_STAT_LEVEL_B i) levelB
    let s := s.setInH i { s.inH i with frames := 0, stored := [], complete := none, windows := 0, damaged := 0 }
    let s := (s.readmit i (if classified then f * 8 + k else 64)).askSkim i
    (s.updateMode i).startElastic i

/-- Whether a present input carries another structure than this one. -/
def State.structureDiffers (s : State) (i : Nat) (classified : Bool) (format rate : Nat) (levelB : Bool) : Bool :=
  s.on (XPT_IN_STAT_CLASSIFIED i) != classified || s.on (XPT_IN_STAT_LEVEL_B i) != levelB
    || (classified && (s.rd (XPT_IN_STAT_FORMAT i) != format || s.rd (XPT_IN_STAT_RATE i) != rate))

/-- The format and rate of Table 05-4 that the serial signals of an input's links have, all alike; none where it is unclassified (R323). -/
def State.linkFormat (s : State) (i : Nat) : Option (Nat × Nat × Bool) :=
  match (s.inH i).sdi.classify with
  | some (f, r, b) =>
    if (s.inAddr i).2 = 16 then
      (if f = 6 && (s.linkAreas i).all fun x => (s.inH x).sdi.classify == some (f, r, b) then some (7, r, b) else none)
    else some (f, r, b)
  | none => none

/-- INPUT_PRESENT: TRS has been found through two frames of one structure, on each link of a group; the structure classifies the input. An input
of a packet-mode trellis takes its presence from its receive context instead (R323, R328). DESIGN CHOICE: two frames of another structure than that of a present input mean that the
TRS of the old one is missing where it is expected: the input is absent (R324) and present again in the same cycle, and so is an SDI candidate
that names it (R173). -/
def execInputPresent (i : Fin 4608) (s : State) : Host.Outcome State Fault Refusal :=
  .next (
    let (format, rate, levelB) := (s.linkFormat i).getD (0, 0, false)
    let classified := (s.linkFormat i).isSome
    if s.packetMode (i / 128) || !s.slotReceived i || !(s.linkAreas i).all fun x => decide (2 ≤ (s.inH x).sdi.frames) then s
    else if s.on (XPT_IN_STAT_PRESENT i) && s.structureDiffers i classified format rate levelB then
      ((s.inputAbsent i).inputPresent i classified format rate levelB).sdiReturn i
    else s.inputPresent i classified format rate levelB)

/-- Length of a line of a present input, in time units: that of its format and rate, or else the longest of any (Table 05-4). -/
def State.inLine (s : State) (i : Nat) : Nat :=
  if s.on (XPT_IN_STAT_CLASSIFIED i) then framePeriod (s.rd (XPT_IN_STAT_RATE i)) / totalLines (s.rd (XPT_IN_STAT_FORMAT i)) else 64 * us

/-- INPUT_ABSENT: TRS is missing at two consecutive expected line positions of an input, or of a link of a group (R324). An input that a receive
context carries is absent when the context says so (R328), and the other events of R324 are those of the commands that bring them. -/
def execInputAbsent (i : Fin 4608) (s : State) : Host.Outcome State Fault Refusal :=
  .next (if !s.packetMode (i / 128) && (s.linkAreas i).any fun x => decide ((s.inH x).sdi.at_ + 2 * s.inLine i < s.now) then
    s.inputAbsent i
  else s)

/-- The head tap stores the record of the head frame in progress (R503, R506, R507). -/
def State.headRecord (h : Nat) (s : State) : State :=
  let p := s.rd (MVH_CFG_PLAN h)
  if s.on (MVH_STATUS_STATE h) && s.headComposes h then
    let src := 4608 + 4 * h
    let f := (s.planH p).format
    let g := s.rgenAt (s.refStart p (s.refFrame p))
    s.addRec src { tag := frameTag src (s.refFrame p - (s.mvhH h).base), crc := s.rectChecks g f 1 fun _ => pictureRow f (s.headLines h), rgen := g,
                   valid := s.rectMask g f, damaged := 0 }
  else s

/-- The checks of the frame of an input that has just arrived, link after link (R503, R506). -/
def State.inputChecks (s : State) (i : Nat) : List Nat :=
  let f := s.rd (XPT_IN_STAT_FORMAT i)
  s.rectChecks (s.inH i).rgen f (if f = 7 then 4 else 1) fun j => pictureRow f (s.linesOf i (i + 4 * j) ((s.inH i).frames - 1))

/-- The last word of the last active line of the newest frame leaves the input stage, or for a head return (source 4608 + 4h) the
head: its record is stored, and an input frame in PASS or CASK is delivered (R503, R507, R516). -/
def State.inputFrameComplete (i : Nat) (s : State) : State :=
  let h := s.inH i
  let n := h.frames - 1
  if 4608 ≤ i then (if i % 4 = 0 then s.headRecord ((i - 4608) / 4) else s)
  else if !s.on (XPT_IN_STAT_PRESENT i) || h.frames == 0 || h.complete == some n then s
  else
    let s := s.setInH i { h with complete := some n, doneAt := s.now }
    let s := if s.on (XPT_IN_STAT_CLASSIFIED i) then s.addRec i (s.inputRecord i (s.inputChecks i)) else s
    if s.effMode i = 2 then s
    else
      let h := s.inH i
      let done := h.undecided.filter (· == n)
      (s.setInH i { h with undecided := h.undecided.filter (· != n) }).bookOut 0 i .delivered done.length

/-- CASK_WINDOW_ENTER: the input's offset against plan `p` has stayed in the window for a whole frame, on each of its lines and at the start of
the next one (R336). -/
def execCaskWindowEnter (i : Fin 4608) (p : Fin 8) (s : State) : Host.Outcome State Fault Refusal :=
  .next (
    let h := s.inH i
    let inside (e : Nat × Nat) : Bool := s.inWindow p (s.caskOffset p 1 e.2)
    if !s.compatible i p || s.effMode i == 0 || bit h.windows p || bit h.wasOutside p || decide (h.stored.length < 2) || !(h.stored.take 2).all inside then s
    else
      let s := s.setInH i { h with windows := h.windows + 2 ^ p.val }
      if s.rd (XPT_IN_CFG_HOME i) = p then s.showOffset i (s.caskOffset p 1 ((h.stored.headD (0, 0)).2)) else s)

/-- CASK_WINDOW_EXIT: a line that arrives now lies outside the window of plan `p`: the outputs of that plan that carry the
input through the cask become unaligned at once, and their frames in progress are slip frames (R336). -/
def execCaskWindowExit (i : Fin 4608) (p : Fin 8) (line : Nat) (s : State) : Host.Outcome State Fault Refusal :=
  .next (
    let h := s.inH i
    let t := s.caskOffset p line s.now
    if !bit h.windows p || s.inWindow p t then s
    else
      let s := s.setInH i { h with windows := h.windows - 2 ^ p.val }
      let s := if s.rd (XPT_IN_CFG_HOME i) = p then s.showOffset i t else s
      let s := s.raise XPT_EVENT_WINDOW_EXIT
      s.forL (s.idsOf i) fun src s => s.forL (s.destsOf src) fun d s =>
        if s.outPlan d == p && s.on (XPT_MAP_RD_ALIGNED d) && !s.on (XPT_MAP_RD_CELLAR d) && !s.on (XPT_MAP_RD_POLICY d) then
          (s.wr (XPT_MAP_RD_ALIGNED d) 0).slipFrame d
        else s)

/-! ## Output frames -/

/-- Whether an output carries frames at all: a route in force to a source that is not bit-transparent, not covered, not
masked, its quadrant ready, not between two plans, its plan's clock not lost and its trellis is not a trunk (R17, R134 to R138, R219, R233, R329, R330, R352). -/
def State.carriesFrames (s : State) (d : Nat) : Bool :=
  s.on (XPT_MAP_RD_VALID d) && !s.on (XPT_MAP_RD_COVERED d) && !(s.outH d).masked && s.carries (outDomain d) && !s.trunk (d / 128)
    && !(s.outH d).leaving && !(s.planH (s.outPlan d)).clockLost && !s.srcTransparent (s.rd (XPT_MAP_RD_SRC d))

/-- The latest frame start of output `d` in its carriage: that of its plan's read reference when aligned, else that of its
source (R331, R349). -/
def State.frameDue (s : State) (d : Nat) : Option Nat :=
  let p := s.outPlan d
  let src := s.rd (XPT_MAP_RD_SRC d)
  if s.on (XPT_MAP_RD_ALIGNED d) || s.on (XPT_MAP_RD_POLICY d) || (s.outH d).black then
    if s.on (PLN_STATUS_RUN p) then some (s.refStart p (s.refFrame p)) else none
  else match s.inputOf src with
    | some i => (s.inH i).stored.head?.map (·.2)
    | none => match headOf src with
      | some h =>
        let q := s.rd (MVH_CFG_PLAN h)
        if s.on (PLN_STATUS_RUN q) then some (s.refStart q (s.refFrame q)) else none
      | none => none

/-- Whether an output's next frame start has come and its frame has not begun. -/
def State.atFrameStart (s : State) (d : Nat) : Bool :=
  match s.frameDue d with
  | some t => decide (t ≤ s.now) && decide ((s.outH d).since < t)
  | none => false

/-- Whether a source's carriage can supply the output frame that begins now (R334, R356): a cellar read must find a frame
to select. -/
def State.canSupply (s : State) (d src : Nat) : Bool :=
  let p := s.outPlan d
  match s.inputOf src with
  | some i =>
    if (s.carriage src p).2 then (s.selectFrame i p (s.refFrame p)).isSome
    else !(s.inH i).stored.isEmpty
  | none => true

/-- Whether the frame of plan `p` that begins now is a JUMP or bridge frame, which an aligned output sends cut (R353). -/
def State.cutFrame (s : State) (p : Nat) : Bool :=
  let h := s.planH p
  let f := s.refFrame p
  (match h.jump with | some j => j.frame == f | none => false)
    || (match h.staged with | some st => st.bridged && h.anchorF == f | none => false)

/-- CARRIAGE_CHANGE: at a frame start of the output, the carriage of its source has changed without a route change and can
supply the frame: the frame that begins is a slip frame (R334). -/
def execCarriageChange (d : Fin 4608) (s : State) : Host.Outcome State Fault Refusal :=
  .next (
    let src := s.rd (XPT_MAP_RD_SRC d)
    let (al, ce) := s.carriage src (s.outPlan d)
    if !s.carriesFrames d || s.on (XPT_MAP_RD_POLICY d) || (s.outH d).black || !s.srcPresent src
        || (al == s.on (XPT_MAP_RD_ALIGNED d) && ce == s.on (XPT_MAP_RD_CELLAR d)) || !s.canSupply d src
        || !(s.atFrameStart d || (s.outH d).since == s.now) then s
    else
      let s := (s.wrB (XPT_MAP_RD_ALIGNED d) al).wrB (XPT_MAP_RD_CELLAR d) ce
      if s.atFrameStart d then s.setOutH d { s.outH d with slipNext := true } else s.slipFrame d)

/-- A route to a head's return still has the return's width (R492). -/
def State.headFits (s : State) (d src : Nat) : Bool :=
  match headOf src with
  | some h => widthOf (s.rd (XPT_MAP_RD_WIDTH d)) == (if src % 4 = 0 then s.headWidth h else 1)
  | none => true

/-- Whether the carriage of a source on a plan is a cellar read. -/
def State.needsCellar (s : State) (src p : Nat) : Bool := (s.inputOf src).isSome && (s.carriage src p).2

/-- Whether output `d` follows its loss policy at the frame that begins now: its source is absent, or the device is in SAFE,
or its source cannot supply the frame yet, or what it carries comes from a cellar that serves no reads (R23, R233, R354, R356, R357). -/
def State.followsPolicy (s : State) (d src : Nat) : Bool :=
  s.mode == .safe || !s.srcPresent src || (!s.cellarUp && s.needsCellar src (s.outPlan d)) || !s.headFits d src || (s.on (XPT_MAP_RD_POLICY d) && !s.canSupply d src)

/-- A frame under a loss policy begins; under IDLE the output carries idle fill, which is no frame. Frames under HOLD are
counted (R354, R355). -/
def State.policyFrame (d src : Nat) (s : State) : State :=
  let s := if s.on (XPT_MAP_RD_POLICY d) then s else s.enterPolicy d
  if s.rd (XPT_OUT_CFG_LOSS d) = 2 then s.setOutH d { s.outH d with since := s.now }
  else
    let s := s.beginFrame d (s.carriedTag d src (s.outPlan d)) true false
    let h := s.outH d
    let hold := s.rd (XPT_OUT_CFG_LOSS d) == 1 && !h.holdOver
      && s.cellarUp && (match s.inputOf src with | some i => (s.inH i).cellar | none => false)
    s.setOutH d { h with holds := if hold then h.holds + 1 else h.holds }

/-- A frame from the output's source begins, through its cellar read where it has one (R326, R339, R340, R353, R373). -/
def State.sourceFrame (d src : Nat) (s : State) : State :=
  let p := s.outPlan d
  let f := s.refFrame p
  let s := if s.on (XPT_MAP_RD_POLICY d) then
      let (al, ce) := s.carriage src p
      ((s.wr (XPT_MAP_RD_POLICY d) 0).wrB (XPT_MAP_RD_ALIGNED d) al).wrB (XPT_MAP_RD_CELLAR d) ce
    else s
  let cellar := s.on (XPT_MAP_RD_CELLAR d)
  let s := match s.inputOf src with
    | some i => if cellar then s.readFrame i p f else s
    | none => s
  let again := cellar && (match (s.inputOf src).bind fun i => (s.inH i).readOn p with
    | some r => r.sel.isSome && r.sel == r.prev
    | none => false)
  let s := s.beginFrame d (s.carriedTag d src p) false again
  let h := s.outH d
  let aligned := s.on (XPT_MAP_RD_ALIGNED d)
  let s := s.setOutH d { h with black := false, genFrames := h.genFrames + 1, slip := h.slip || (aligned && s.cutFrame p) }
  if aligned then s.emit (.frame d h.tag (samplesPerFrame (s.planH p).rate (s.seqPos p f))) else s

/-- The next frame of output `d` begins (R325, R339, R340, R351 to R357, R517). -/
def State.startFrame (d : Nat) (s : State) : State :=
  if !s.carriesFrames d then s.endFrame d
  else if !s.atFrameStart d then s
  else
    let s := (s.endFrame d).anchorPtp (s.outPlan d)
    let src := s.rd (XPT_MAP_RD_SRC d)
    if s.followsPolicy d src then s.policyFrame d src else s.sourceFrame d src

/-- HOLD_LIMIT: after HOLD_FRAMES consecutive frames under HOLD the output changes to BLACK (R355). -/
def execHoldLimit (d : Fin 4608) (s : State) : Host.Outcome State Fault Refusal :=
  .next (
    let h := s.outH d
    let n := s.rd (XPT_OUT_CFG_HOLD_FRAMES d)
    if s.on (XPT_MAP_RD_POLICY d) && s.rd (XPT_OUT_CFG_LOSS d) == 1 && !h.holdOver && n != 0 && decide (n ≤ h.holds) then
      s.setOutH d { h with holdOver := true }
    else s)

/-! ## Output plans -/

/-- The audio destinations whose plan is that of output `d` (R384). -/
def State.audioOf (s : State) (d : Nat) : List Nat :=
  (rangeFrom (d / 4 * 32) 32).filter fun a =>
    let g := a % 32 / 4
    (if s.on (AUD_EMB_MAP_EN (d / 4) (g / 4) (g % 4)) then s.rd (AUD_EMB_MAP_QUARTER (d / 4) (g / 4) (g % 4)) else 0) == d % 4

/-- Output `d` leaves its plan at a frame boundary of it: its pending entries are discarded and it carries idle fill (R261,
R330). -/
def State.leavePlan (d : Nat) (s : State) : State :=
  let audio := s.audioOf d
  let s := s.discardWhere (s.outPlan d) fun c => match c with
    | .audio a _ _ => audio.contains a
    | c => c.video == some d
  let s := s.endFrame d
  s.setOutH d { s.outH d with leaving := true, leftAt := s.now }

/-- Output `d` joins its new plan at a frame boundary of it (R330). -/
def State.joinPlan (d : Nat) (s : State) : State :=
  let old := s.outPlan d
  let src := s.rd (XPT_MAP_RD_SRC d)
  let s := (s.wr (XPT_MAP_RD_PLAN d) (s.outPlanSet d)).setOutH d { s.outH d with leaving := false, slipNext := false }
  let p := s.outPlan d
  let s := s.forL (rangeFrom (d + 1) (widthOf (s.rd (XPT_MAP_RD_WIDTH d)) - 1)) fun x s => s.wr (XPT_MAP_RD_PLAN x) p
  if s.on (XPT_MAP_RD_VALID d) then
    let s := s.releaseIdleRead src old
    let s := match s.inputOf src with
      | some i => s.assignRead i p
      | none => s
    let (al, ce) := s.carriage src p
    if s.on (XPT_MAP_RD_POLICY d) then s else (s.wrB (XPT_MAP_RD_ALIGNED d) al).wrB (XPT_MAP_RD_CELLAR d) ce
  else s

/-- OUTPUT_PLAN_CHANGE: an output whose plan has been rewritten leaves its old plan at that plan's frame boundary, at once
where the plan is off, and joins the new one at the new plan's next boundary (R330). -/
def execOutputPlanChange (d : Fin 4608) (s : State) : Host.Outcome State Fault Refusal :=
  .next (
    let p := s.outPlan d
    let q := s.outPlanSet d
    if s.on (XPT_MAP_RD_COVERED d) then s
    else if (s.outH d).leaving then
      (if s.on (PLN_STATUS_RUN q) && decide ((s.outH d).leftAt ≤ s.refStart q (s.refFrame q)) then s.joinPlan d else s)
    else if p = q then s
    else if s.on (PLN_STATUS_RUN p) && decide (s.refStart p (s.refFrame p) ≤ (s.outH d).since) then s
    else s.leavePlan d)

/-! ## Cellar errors -/

/-- CELLAR_ECC_ERROR: an error in what the read of input `i` on plan `p` reads. Kind 1, uncorrectable in data: the line is replaced
and the source record damaged; kind 2, uncorrectable in metadata: the self-diagnosis trigger is raised (R344, R508); kind 0,
corrected: it is counted (CLR_ECC.CORR). -/
def execCellarEccError (i : Fin 4608) (p : Fin 8) (line : Nat) (kind : Fin 3) (s : State) : Host.Outcome State Fault Refusal :=
  .next (
    if kind = 2 then (s.bump CLR_ECC_META_UNCORR_META).trigger 1
    else if kind = 0 then s.bump CLR_ECC_CORR
    else
      let s := s.bump CLR_ECC_UNCORR_DATA
      match (s.inH i).readOn p with
      | some r =>
        match r.sel with
        | some n =>
          let g := match (s.recsOf i).find? fun c => c.tag == frameTag i n with
            | some c => c.rgen
            | none => (s.inH i).rgen
          let mask := s.rectsAtLine g (s.rd (XPT_IN_STAT_FORMAT i)) line
          let row := (rangeFrom 0 4).map fun j => s.lastReadLine i r j line
          let h := { s.inH i with reads := (s.inH i).reads.map fun x => if x.plan = p.val then { x with patch := (line, row) :: x.patch } else x }
          let s := (s.setInH i h).damageRec i (frameTag i n) mask
          if n + 1 = h.frames ∧ h.complete ≠ some n then s.setInH i { s.inH i with damaged := h.damaged ||| mask } else s
        | none => s
      | none => s)

/-- CASK_ECC_ERROR: an uncorrectable error in the cask raises the self-diagnosis trigger (R59, Table 02-5). -/
def execCaskEccError (s : State) : Host.Outcome State Fault Refusal := .next (s.trigger 1)

/-! ## Admission and channels -/

/-- ADMISSION_RETRY: at a PLAN0 frame boundary every pending request is evaluated again, in the order of R365 (R364). -/
def execAdmissionRetry (s : State) : Host.Outcome State Fault Refusal :=
  .next (s.forL s.waitingOrder fun e s => s.decideLoad true e.1 e.2)

/-- A period in time units that a channel has been idle for. -/
def State.channelIdle (s : State) (c : Nat) : Nat := s.now - (s.chanH c).idle

/-- CHANNEL_POWER_DOWN: an active channel that has been idle for 64 cellar clock cycles enters power-down (R368). -/
def execChannelPowerDown (c : Fin 64) (s : State) : Host.Outcome State Fault Refusal :=
  .next (
    if s.on CLR_PM_CFG_PD_EN && (s.chanH c).state == 0 && decide (320 ≤ s.channelIdle c) && decide (130 ≤ s.leastTolerance) then
      s.setChannel c 1
    else s)

/-- CHANNEL_SELF_REFRESH: a channel that has been idle for 100 µs enters self-refresh (R368). -/
def execChannelSelfRefresh (c : Fin 64) (s : State) : Host.Outcome State Fault Refusal :=
  .next (
    if s.on CLR_PM_CFG_SR_EN && (s.chanH c).state != 2 && decide (100 * us ≤ s.channelIdle c) && decide (3000 ≤ s.leastTolerance) then
      s.setChannel c 2
    else s)

/-- CHANNEL_WAKE: an access to a channel makes it active (R368). -/
def execChannelWake (c : Fin 64) (s : State) : Host.Outcome State Fault Refusal := .next (s.setChannel c 0)

end Sys2Proof.Machine
end

