-- ==== Sys2Proof/Machine/Audio.lean ====
section
/-! DEFINITION. Commands of the audio engine and the I²S ports, but for the engine tick itself (R370 to R411). -/

namespace Sys2Proof.Machine

/-! ## Crossfades, channel status, delays, generators -/

/-- CROSSFADE_END: after N ticks the incoming source is alone and FADING clears (R388). -/
def execCrossfadeEnd (a : Fin 49152) (s : State) : Host.Outcome State Fault Refusal :=
  .next (match (s.dstH a).fade with
    | some f => if f.ticks ≤ f.done then s.endFade a else s
    | none => s)

/-- CHANNEL_STATUS_BLOCK_END: a complete 192-sample block that an embedded or remote channel has received updates its NONPCM from byte 0
bit 1; a professional block whose CRCC fails changes nothing, and FORCE_NONPCM holds it at 1 (R393). -/
def execChannelStatusBlockEnd (c : Fin 65536) (s : State) : Host.Outcome State Fault Refusal :=
  .next (match (s.srcH c).status with
    | none => s
    | some b =>
      let s := s.setSrcH c { s.srcH c with status := none }
      if bit b 0 && crccOf b != b / 2 ^ 184 % 256 then s
      else if c.val < 36864 then s.setNonPcm c (bit b 1 || s.on (AUD_SRC_CFG_FORCE_NONPCM c))
      else if 53248 ≤ c.val ∧ c.val < 65535 then s.setNonPcm c (bit b 1)
      else s)

/-- DELAY_CHANGE: the delay written for a channel applies, with a dip on a PCM channel (R380, R381). -/
def execDelayChange (c : Fin 49152) (s : State) : Host.Outcome State Fault Refusal := .next ((s.startDelay c).updateLtr)

/-- DIP_END: the dip is over after 240 ticks, and a write made during it applies (R380). -/
def execDipEnd (c : Fin 49152) (s : State) : Host.Outcome State Fault Refusal :=
  .next (match (s.srcH c).dip with
    | some (n, _, _) =>
      if 240 ≤ n then ((s.setSrcH c { s.srcH c with dip := none }).wr (AUD_SRC_STAT_DIP c) 0).startDelay c else s
    | none => s)

/-- GENERATOR_RESTART: a generator whose registers were written restarts its phase and its keying period (R401). -/
def execGeneratorRestart (n : Fin 64) (s : State) : Host.Outcome State Fault Refusal :=
  .next (if (s.genH n).restart then s.setGenH n {} else s)

/-! ## I²S -/

/-- A slave port that is enabled, its pins powered. -/
def State.i2sSlave (s : State) (k : Nat) : Bool := s.on (I2S_CFG_EN k) && s.on (I2S_CFG_SLAVE k) && s.carries 95

/-- The oscillator's period of port `k`, in time units (R404). -/
def State.loPeriod (s : State) (k : Nat) : Nat := (125000 * 1000000000 / (1000000000 + s.rdInt (I2S_LO_PPB k))).toNat

/-- I2S_LOSS: no WS edge has come for four oscillator periods: a slave port loses its clock (R405). -/
def execI2sLoss (k : Fin 8) (s : State) : Host.Outcome State Fault Refusal :=
  .next (
    let quiet := match (s.i2sH k).wsAt with
      | some t => decide (t + 4 * s.loPeriod k ≤ s.now)
      | none => true
    if s.i2sSlave k && s.on (I2S_STAT_QUALIFIED k) && quiet then s.i2sLost k else s)

/-- Whether a word period that ends now lies within ±10 % of the oscillator's (R406). -/
def State.wsInTime (s : State) (k : Nat) : Bool :=
  match (s.i2sH k).wsAt with
  | some t =>
    let p := s.loPeriod k
    decide (9 * p ≤ 10 * (s.now - t)) && decide (10 * (s.now - t) ≤ 11 * p)
  | none => true

/-- BCLK periods of a word period: 2 × SLOT (R406). -/
def State.slotClocks (s : State) (k : Nat) : Nat := 2 * (16 + 8 * s.rd (I2S_CFG_SLOT k))

/-- Put a frame into a port's FIFO of 16; a full one loses its oldest frame. -/
def pushFifo (l : List (Nat × Nat)) (x : Nat × Nat) : List (Nat × Nat) := if 16 ≤ l.length then l.drop 1 ++ [x] else l ++ [x]

/-- I2S_GLITCH: a word period of `bclk` BCLK periods ends that has another length than 2 × SLOT, or lies outside ±10 % of the oscillator's: its
frame is discarded, an input port repeats its previous samples, and the third glitch within 1 s is a loss (R405, R406). -/
def execI2sGlitch (k : Fin 8) (bclk : Nat) (s : State) : Host.Outcome State Fault Refusal :=
  .next (
    if !s.i2sSlave k || (bclk == s.slotClocks k && s.wsInTime k) then s
    else
      let h := s.i2sH k
      let recent := s.now :: h.glitches.filter fun t => decide (s.now < t + sec)
      let keep := s.on (I2S_STAT_QUALIFIED k) && !s.on (I2S_CFG_DIR k)
      let s := s.setI2sH k { h with glitches := recent, clean := some s.now, wsAt := some s.now, fifo := if keep then pushFifo h.fifo h.last else h.fifo }
      let s := ((s.bump (I2S_CNT_GLITCHES k)).raise ⟨I2S_EVENT, 8 + k, 1⟩).showFill k
      if 3 ≤ recent.length && s.on (I2S_STAT_QUALIFIED k) then s.i2sLost k else s)

/-- I2S_RATE_ERROR: the WS rate averaged over 10 ms is `ppm` off, more than 500 ppm: a loss (R407). -/
def execI2sRateError (k : Fin 8) (ppm : Int) (s : State) : Host.Outcome State Fault Refusal :=
  .next (
    if s.i2sSlave k && (decide (500 < ppm) || decide (ppm < -500)) then
      let s := s.setI2sH k { s.i2sH k with clean := none }
      let s := s.raise (I2S_STAT_RATE_ERR k)
      if s.on (I2S_STAT_QUALIFIED k) then s.i2sLost k else s
    else s)

/-- I2S_QUALIFIED: WS has run for 100 ms without a glitch and in range: the FIFO restarts half full and an input port fades
in (R408). -/
def execI2sQualified (k : Fin 8) (s : State) : Host.Outcome State Fault Refusal :=
  .next (
    let h := s.i2sH k
    let ok := match h.clean with
      | some t => decide (t + 100 * ms ≤ s.now)
      | none => false
    if s.i2sSlave k && !s.on (I2S_STAT_QUALIFIED k) && ok then
      let s := s.setI2sH k { h with fifo := List.replicate 8 (0, 0), lost := false,
                                    ramp := if s.on (I2S_CFG_DIR k) then none else some (true, 0) }
      (s.wr (I2S_STAT_QUALIFIED k) 1).showFill k
    else s)

/-- The sample word of a received slot: 16-bit slots carry bits [23:8] (R402). -/
def State.i2sWord (s : State) (k v : Nat) : Nat := if s.rd (I2S_CFG_SLOT k) = 0 then v % 2 ^ 16 * 2 ^ 16 else v % 2 ^ 24 * 2 ^ 8

/-- The local oscillator of a port is steered by the fill of its FIFO: a free value within ±500 ppm (R404). -/
def State.i2sSteer (k : Nat) (s : State) : State :=
  let y := Config.loOffset k (s.i2sH k).fifo.length s.free
  let y := if y < -500000 then -500000 else if 500000 < y then 500000 else y
  (s.wrInt (I2S_LO_PPB k) y).draw

/-- Count a repeat or a drop of a port's FIFO: on the source side for an input, on the destination side for an output. -/
def State.i2sSlip (k : Nat) (drop : Bool) (s : State) : State :=
  let out := s.on (I2S_CFG_DIR k)
  (s.bump (AUD_CNT_COUNT ((if out then 2 else 0) + ofBool drop))).raise (if out then AUD_EVENT_DST_SLIP else AUD_EVENT_SRC_SLIP)

/-- Take one frame from a port's FIFO: below a fill of 4 the last one again, above 12 the oldest is discarded (R404). -/
def State.popFifo (k : Nat) (s : State) : State × (Nat × Nat) :=
  let h := s.i2sH k
  if h.fifo.length < 4 then (s.i2sSlip k false, h.last)
  else
    let l := if 12 < h.fifo.length then h.fifo.drop 1 else h.fifo
    let x := l.headD h.last
    let s := s.setI2sH k { h with fifo := l.drop 1, last := x }
    ((if 12 < h.fifo.length then s.i2sSlip k true else s), x)

/-- I2S_FRAME_RECEIVED: one WS frame of a slave port, whose word period is no glitch (R406). An input port takes its samples into the FIFO; an output port sends
the FIFO's next frame; the local oscillator is steered (R402, R404, R408). -/
def execI2sFrameReceived (k : Fin 8) (left right : Nat) (s : State) : Host.Outcome State Fault Refusal :=
  .next (
    if !s.i2sSlave k || !s.wsInTime k then s
    else
      let s := s.setI2sH k { s.i2sH k with wsAt := some s.now }
      let h := s.i2sH k
      if !s.on (I2S_STAT_QUALIFIED k) then
        match h.clean with
        | some _ => s
        | none => s.setI2sH k { h with clean := some s.now }
      else if s.on (I2S_CFG_DIR k) then
        let (s, x) := s.popFifo k
        ((s.emit (.i2sFrame k x.1 x.2)).i2sSteer k).showFill k
      else
        let s := s.setI2sH k { h with fifo := pushFifo h.fifo (s.i2sWord k left, s.i2sWord k right) }
        (s.i2sSteer k).showFill k)

end Sys2Proof.Machine
end

