-- ==== Sys2Proof/Machine/PktOps.lean ====
section
/-! DEFINITION. Operations of the packet engine: CRC-32, frame parsing, the classifier, packet arrival and playout, transmit
contexts and the MAC queue (R412 to R453). -/

namespace Sys2Proof.Machine

/-! ## Bytes and the frame check -/

/-- CRC-32 of IEEE 802.3 over the bits of one byte, reflected; `k` bits are left. -/
def crc32Bits : Nat → Nat → Nat
  | 0, c => c
  | k + 1, c => crc32Bits k (if c % 2 = 1 then (c / 2) ^^^ 0xEDB88320 else c / 2)

/-- The CRC-32 register after a list of bytes. -/
def crc32Run : List Nat → Nat → Nat
  | [], c => c
  | b :: l, c => crc32Run l (crc32Bits 8 (c ^^^ (b % 256)))

/-- CRC-32 of a list of bytes. -/
def crc32 (l : List Nat) : Nat := crc32Run l 0xFFFFFFFF ^^^ 0xFFFFFFFF

/-- The four bytes of a CRC as they are sent: least significant first. -/
def crcBytes (c : Nat) : List Nat := [c % 256, c / 2 ^ 8 % 256, c / 2 ^ 16 % 256, c / 2 ^ 24 % 256]

/-- The big-endian number in `n` bytes from position `i` of a list. -/
def beAt (l : List Nat) (i n : Nat) : Nat := ((l.drop i).take n).foldl (fun a b => a * 256 + b % 256) 0

/-- The `n` big-endian bytes of a number. -/
def beBytes : Nat → Nat → List Nat
  | 0, _ => []
  | n + 1, v => v / 2 ^ (8 * n) % 256 :: beBytes n v

/-- The Internet checksum of a list of bytes. -/
def ipSum : List Nat → Nat → Nat
  | a :: b :: l, c => ipSum l (c + a * 256 + b)
  | [a], c => c + a * 256
  | [], c => c

/-- A sum folded to 16 bits, complemented. -/
def ipFold (c : Nat) : Nat :=
  let c := c % 2 ^ 16 + c / 2 ^ 16
  let c := c % 2 ^ 16 + c / 2 ^ 16
  0xFFFF - c

/-! ## Receiving frames -/

/-- Count of frame events k of trellis `n` (PKT_CNT). -/
def State.pktCount (n k : Nat) (s : State) : State := s.bump (PKT_CNT_COUNT n k)

/-- A frame that has entered is discarded: counted, its bit set, and dropped in the ledger (R453). -/
def State.dropFrame (n : Nat) (bit : Field) (k : Nat) (s : State) : State :=
  ((s.raise bit).pktCount n k).bookOut 2 n .dropped 1

/-- A frame goes to a PTP instance or a context. -/
def State.deliverFrame (n : Nat) (s : State) : State := s.bookOut 2 n .delivered 1

/-- The first 64 bytes of an unmatched frame are held in PKT_CAP (R429). -/
def State.captureFrame (n : Nat) (bytes : List Nat) (s : State) : State :=
  s.forN 16 fun k s => s.wr (PKT_CAP_BYTES n k)
    (bytes.getD (4 * k) 0 + bytes.getD (4 * k + 1) 0 * 2 ^ 8 + bytes.getD (4 * k + 2) 0 * 2 ^ 16 + bytes.getD (4 * k + 3) 0 * 2 ^ 24)

/-- An unmatched frame (R429). -/
def State.unmatched (n : Nat) (bytes : List Nat) (s : State) : State :=
  (s.captureFrame n bytes).dropFrame n (PKT_STATUS_UNMATCHED n) 8

/-- A classifier entry as a frame sees it: whether it matches (R431). -/
def clsMatches (n vid dip sip dport : Nat) (w : List Nat) : Bool :=
  let w0 := w.getD 0 0
  bit w0 31 && w0 / 2 ^ 22 % 64 == n && w0 % 2 ^ 12 == vid && w.getD 1 0 == dip && w.getD 3 0 / 2 ^ 16 == dport
    && (bit w0 28 || w.getD 2 0 == sip)

/-- What the classifier finds: the words of the matching entry with the lowest index. -/
def State.classify (s : State) (n vid dip sip dport : Nat) : Option (List Nat) :=
  (s.cls.find? fun e => clsMatches n vid dip sip dport e.2).map (·.2)

/-! ## Receive contexts -/

/-- Time of PTP instance `n` in ns (R453). -/
def State.instanceNs (s : State) (n : Nat) : Int := (s.deviceNs : Int) + (s.ptpH n).offset

/-- The media clock of a context type in Hz (R436). -/
def mediaClock (type : Nat) : Nat := if type = 1 then 48000 else 90000

/-- Stop and empty the input of a type 0 context. -/
def State.rxInputGone (x : Nat) (s : State) : State :=
  let s := s.wr (PKT_RXC_STAT_PRESENT x) 0
  if s.rd (PKT_RXC_CFG_TYPE x) = 0 then
    (s.setRxH x { s.rxH x with good := 0, judged := none }).inputAbsent (s.rd (PKT_RXC_BIND_BASE x))
  else s.setRxH x { s.rxH x with play := [], last := none }

/-- Every packet that a context holds is dropped (R443, R518). -/
def State.rxDropHeld (x : Nat) (s : State) : State :=
  let h := s.rxH x
  (s.setRxH x { h with held := [] }).bookOut 3 x .dropped h.held.length

/-- A context stops at once (R443). -/
def State.rxStop (x : Nat) (s : State) : State :=
  if !s.on (PKT_RXC_STAT_ACTIVE x) then s
  else
    let s := (s.rxDropHeld x).rxInputGone x
    let h := s.rxH x
    let s := s.setRxH x { on := h.on, admitted := h.admitted, tokens := h.tokens }
    ((s.wr (PKT_RXC_STAT_ACTIVE x) 0).wr (PKT_RXC_STAT_LEG0 x) 0).wr (PKT_RXC_STAT_LEG1 x) 0

/-- A context stops, and the type 2 contexts that name it as their companion with it (R433). -/
def State.rxStopAll (x : Nat) (s : State) : State :=
  let s := s.rxStop x
  s.forL s.rx fun e s =>
    if s.rd (PKT_RXC_CFG_TYPE e.1) = 2 ∧ s.rd (PKT_RXC_BIND_BASE e.1) = x ∧ e.1 ≠ x ∧ !s.rxBound e.1 then
      (s.rxStop e.1).wrB (PKT_RXC_STAT_BIND_ERR e.1) (s.rxH e.1).on
    else s

/-- A context re-anchors: the next packet gives A0; for type 0 it is a loss followed by a new presence (R437). -/
def State.rxReanchor (x : Nat) (s : State) : State :=
  let s := (s.setRxH x { s.rxH x with anchor := none, late := 0 }).raise (PKT_RXC_STAT_REANCHOR x)
  if s.rd (PKT_RXC_CFG_TYPE x) = 0 then s.rxInputGone x else s

/-- The effective timing of the active contexts is judged anew; where it has changed, the next packet anchors afresh
(R436, R437). -/
def State.rxTiming (s : State) : State :=
  s.forL s.rx fun e s =>
    if s.on (PKT_RXC_STAT_ACTIVE e.1) && (s.on (PKT_RXC_STAT_TIMING_EFF e.1) == s.rxPtp e.1) then
      (s.wrB (PKT_RXC_STAT_TIMING_EFF e.1) (!s.rxPtp e.1)).rxReanchor e.1
    else s

/-- The nominal instant of a packet with timestamp `ts` that arrives now, in time units, and the context's anchor after it
(R436). -/
def State.rxNominal (s : State) (x ts : Nat) : Int × Option (Nat × Nat) :=
  let rate : Int := mediaClock (s.rd (PKT_RXC_CFG_TYPE x))
  let h := s.rxH x
  if s.rxPtp x then
    let t := s.instanceNs (s.rd (PKT_RXC_CFG_PTP_SEL x))
    let m := t * rate / 1000000000
    let back := (m - ts) % (2 ^ 32 : Nat)
    let at_ := -((-(m - back) * 1000000000) / rate)
    ((s.now : Int) - (t - at_) * 6, h.anchor)
  else
    let (a, t0) := h.anchor.getD (s.now, ts)
    ((a : Int) + signedOf 32 (ts + 2 ^ 32 - t0) * (sec : Int) / rate, some (a, t0))

/-- P_eff of a context in time units. -/
def State.playoutUnits (s : State) (x : Nat) : Nat := s.playout x * us

/-- Sequence numbers of a context count modulo 2³² for type 0 and 2¹⁶ otherwise (R438). -/
def seqWidth (type : Nat) : Nat := if type = 0 then 32 else 16

/-- A further copy of a sequence number (R438, R439). -/
def State.furtherCopy (x leg : Nat) (e : SeenH) (s : State) : State :=
  let h := s.rxH x
  let diff := s.now - e.arrival
  let s := if e.leg ≠ leg ∧ !e.measured then
      (s.setRxH x { h with seen := h.seen.map fun y => if y.seq = e.seq then { y with measured := true } else y }).wr
        (PKT_RXC_SKEW_US x) (max (s.rd (PKT_RXC_SKEW_US x)) (min 65535 (diff / us)))
    else s
  if (s.now : Int) < e.deadline + (s.rd (PKT_RXC_TIME_MERGE_WIN x) * 100 * us : Nat) then s.bookThrough 3 x .merged 1
  else (s.bookThrough 3 x .dropped 1).raise (if leg = 0 then PKT_RXC_STAT_LEG0_LATE x else PKT_RXC_STAT_LEG1_LATE x)

/-- The first copy of a sequence number: held when it arrives by its deadline, else dropped. A packet that arrives more than
P_eff before its nominal instant re-anchors the context and is the first packet after that; the eighth late one in a row
re-anchors it for the next packet (R436 to R438). -/
def State.firstCopy (x leg seq ts : Nat) (marker : Bool) (payload : List Nat) (s : State) : State :=
  let early := decide ((s.now : Int) + (s.playoutUnits x : Nat) < (s.rxNominal x ts).1)
  let s := if early then s.rxReanchor x else s
  let (nom, anchor) := s.rxNominal x ts
  let deadline := nom + (s.playoutUnits x : Nat)
  let w := seqWidth (s.rd (PKT_RXC_CFG_TYPE x))
  let h := s.rxH x
  let seen := { seq := seq, leg := leg, arrival := s.now, deadline := deadline } ::
    h.seen.filter fun e => decide (signedOf w (seq + 2 ^ w - e.seq) < (2 ^ (w - 2) : Nat))
  let h : RxH := { h with seen := seen, anchor := anchor }
  if deadline < (s.now : Int) then
    let s := (s.setRxH x { h with late := h.late + 1 }).bookThrough 3 x .dropped 1
    if h.late = 7 then s.rxReanchor x else s
  else
    let p : PktH := { seq := seq, ts := ts, marker := marker, deadline := deadline, payload := payload }
    (s.setRxH x { h with held := h.held ++ [p], late := 0 }).bookIn 3 x 1

/-- Show a leg, and for types 1 and 2 the context, as present (R439). -/
def State.legPresent (x leg : Nat) (s : State) : State :=
  let h := s.rxH x
  let s := s.setRxH x { h with legAt := if leg = 0 then (s.now, h.legAt.2) else (h.legAt.1, s.now) }
  let s := s.wr (if leg = 0 then PKT_RXC_STAT_LEG0 x else PKT_RXC_STAT_LEG1 x) 1
  if s.rd (PKT_RXC_CFG_TYPE x) = 0 then s else s.wr (PKT_RXC_STAT_PRESENT x) 1

/-- Start of the RTP payload: after the CSRC list and the header extension. -/
def rtpStart (l : List Nat) : Nat :=
  let base := 12 + 4 * (l.getD 0 0 % 16)
  if bit (l.getD 0 0) 4 then base + 4 + 4 * beAt l (base + 2) 2 else base

/-- A copy of a packet arrives at an active context on a leg (R436 to R439). -/
def State.packetArrives (x leg : Nat) (l : List Nat) (s : State) : State :=
  let b1 := l.getD 1 0
  let bad := decide (l.length < 12) || l.getD 0 0 / 64 != 2 || b1 % 128 != s.rd (PKT_RXC_CFG_PT x)
    || (s.on (PKT_RXC_CFG_SSRC_CHK x) && beAt l 8 4 != s.rd (PKT_RXC_SSRC_SSRC x))
  if bad then s.bookThrough 3 x .dropped 1
  else
    let s := s.legPresent x leg
    let type := s.rd (PKT_RXC_CFG_TYPE x)
    let i := rtpStart l
    let pad := if bit (l.getD 0 0) 5 then l.getLastD 0 else 0
    let payload := (l.drop i).take (l.length - i - pad)
    let seq := if type = 0 then beAt payload 0 2 * 2 ^ 16 + beAt l 2 2 else beAt l 2 2
    match (s.rxH x).seen.find? fun e => e.seq == seq with
    | some e => s.furtherCopy x leg e
    | none => s.firstCopy x leg seq (beAt l 4 4) (bit b1 7) payload

/-! ## Using packets -/

/-- The segments of a type 0 payload after the extended sequence number: (field and row, pixel offset, pixels) (R440). -/
def srdHeaders : Nat → List Nat → List (Nat × Nat × Nat)
  | 0, _ => []
  | k + 1, l =>
    if l.length < 6 then []
    else
      let e := (beAt l 2 2, beAt l 4 2 % 2 ^ 15, beAt l 0 2 * 2 / 5)
      if bit (l.getD 4 0) 7 then e :: srdHeaders k (l.drop 6) else [e]

/-- Period of a frame in ticks of the 90 kHz media clock, rounded down. -/
def frameTicks (rate : Nat) : Nat := framePeriod rate * 90000 / sec

/-- The segments of a payload with the raster words that stand for their pixels. -/
def segWords : List (Nat × Nat × Nat) → List Nat → List ((Nat × Nat × Nat) × List Nat)
  | [], _ => []
  | e :: l, data =>
    let n := e.2.2 / 2 * 5
    (e, pixelWords (e.2.2 / 2) (data.take n)) :: segWords l (data.drop n)

/-- The picture line of a row that a segment names by field and row: fields follow one another (ST 2110-20). -/
def segmentRow (format v : Nat) : Nat :=
  let field := v / 2 ^ 15
  let row := v % 2 ^ 15
  if interlaced format || format == 4 then (if format = 0 then 2 * row + 1 - field else 2 * row + field) else row

/-- Add one segment to a frame under assembly: rows of the second field follow those of the first. -/
def FrmH.addSegment (format : Nat) (f : FrmH) (x : (Nat × Nat × Nat) × List Nat) : FrmH :=
  let e := x.1
  let y := segmentRow format e.1
  let n := storeGet (fun _ => 0) f.lines y
  { f with
    lines := storeSet (fun _ => 0) f.lines y (n + e.2.2), pix := (y, e.2.1, x.2) :: f.pix, rows := max f.rows (y + 1), cols := max f.cols (e.2.1 + e.2.2),
    bad := f.bad || decide (prfRasterH format * (if format = 7 then 2 else 1) ≤ y)
      || decide (prfRasterW format * (if format = 7 then 2 else 1) < e.2.1 + e.2.2) }

/-- Whether a frame that has ended matches the context's format and rate: `some true` for a whole frame that does, `some
false` for one that does not, none for one with packets missing (R440). -/
def State.frameMatch (s : State) (x : Nat) (f : FrmH) : Option Bool :=
  let format := s.rd (PKT_RXC_CFG_FORMAT x)
  let k := if format = 7 then 2 else 1
  let step := match (s.rxH x).judged with
    | some t => (f.ts + 2 ^ 32 - t) % 2 ^ 32
    | none => frameTicks (s.rd (PKT_RXC_CFG_RATE x))
  let ticks := frameTicks (s.rd (PKT_RXC_CFG_RATE x))
  if f.bad then some false
  else if f.gap then none
  else some (f.rows == prfRasterH format * k && f.cols == prfRasterW format * k && (step == ticks || step == ticks + 1))

/-- The slots that the active type 0 contexts of a slot give a gang layout; the input of context `x` gets its width. -/
def State.fitGang (x : Nat) (s : State) : State :=
  let (b, w) := s.rxSpan x
  let slot := b / 4
  if w = 16 then s.forL (rangeFrom slot 4) fun k s => s.setInCode k 5
  else
    let wide (q : Nat) : Bool := s.rx.any fun e =>
      s.on (PKT_RXC_STAT_ACTIVE e.1) && s.rd (PKT_RXC_CFG_TYPE e.1) == 0 && s.rxSpan e.1 == (4 * slot + q, 2)
    s.setInCode slot (if w = 4 then 4 else ofBool (wide 0) + 2 * ofBool (wide 2))

/-- A frame of a type 0 context has ended: two in a row that match make its input present, one that does not is a loss
(R440). -/
def State.judgeFrame (x : Nat) (f : FrmH) (s : State) : State :=
  let verdict := s.frameMatch x f
  let s := s.setRxH x { s.rxH x with judged := some f.ts }
  match verdict with
  | none => if s.on (PKT_RXC_STAT_PRESENT x) then s else s.setRxH x { s.rxH x with good := 0 }
  | some false => (s.raise (PKT_RXC_STAT_FMT_ERR x)).rxInputGone x
  | some true =>
    let n := (s.rxH x).good + 1
    let s := s.setRxH x { s.rxH x with good := n }
    if n < 2 ∨ s.on (PKT_RXC_STAT_PRESENT x) then s
    else
      let s := (s.fitGang x).wr (PKT_RXC_STAT_PRESENT x) 1
      s.inputPresent (s.rd (PKT_RXC_BIND_BASE x)) true (s.rd (PKT_RXC_CFG_FORMAT x)) (s.rd (PKT_RXC_CFG_RATE x)) false

/-- The timestamp of the frame that a type 0 packet belongs to: a second field belongs to the frame under assembly whose
timestamp lies less than a frame before its own (R440). -/
def State.frameKey (s : State) (x ts : Nat) (second : Bool) : Nat :=
  match (s.rxH x).frames.head? with
  | some f => if second && decide ((ts + 2 ^ 32 - f.ts) % 2 ^ 32 < frameTicks (s.rd (PKT_RXC_CFG_RATE x))) then f.ts else ts
  | none => ts

/-- A type 0 packet is used: its pixels join its frame; the first packet of a later frame ends the one before (R440). -/
def State.useVideo (x : Nat) (p : PktH) (s : State) : State :=
  let format := s.rd (PKT_RXC_CFG_FORMAT x)
  let segs := srdHeaders 3 (p.payload.drop 2)
  let second := segs.any fun e => decide (2 ^ 15 ≤ e.1)
  let key := s.frameKey x p.ts second
  let old := (s.rxH x).frames
  let s := match old.head? with
    | some f => if f.ts = key then s else s.judgeFrame x f
    | none => s
  let h := s.rxH x
  let f : FrmH := match h.frames.find? fun f => f.ts == key with
    | some f => f
    | none => { ts := key, next := match old.head? with | some g => g.next | none => p.seq, gap := old.isEmpty }
  let f := { f with gap := f.gap || f.next != p.seq, next := (p.seq + 1) % 2 ^ 32 }
  let f := (segWords segs (p.payload.drop (2 + 6 * segs.length))).foldl (fun f e => f.addSegment format e) f
  s.setRxH x { h with frames := (f :: h.frames.filter fun g => g.ts != key).take 2 }

/-- The words of picture line `y` of a frame under assembly, of `w` pixels. -/
def FrmH.row (f : FrmH) (w y : Nat) : List Nat :=
  (f.pix.filter fun e => e.1 == y).foldl (fun l e => l.take (2 * e.2.1) ++ e.2.2 ++ l.drop (2 * e.2.1 + e.2.2.length)) (List.replicate (2 * w) 0)

/-- Row `y` of link `j` of a picture: the picture's own, but a 4320-line picture is four of 2160 lines that take pairs of pixels in turn, two from
each row (PRESUMED: ST 2082-12). -/
def linkRow (f j : Nat) (row : Nat → List Nat) (y : Nat) : List Nat :=
  if f ≠ 7 then row y
  else
    let l := row (2 * y + j / 2)
    ((rangeFrom 0 (prfRasterW f / 2)).map fun k => (l.drop (4 * (2 * k + j % 2))).take 4).flatten

/-- Row `y` of a picture from the rows of its links. -/
def wholeRow (f : Nat) (link : Nat → Nat → List Nat) (y : Nat) : List Nat :=
  if f ≠ 7 then link 0 y
  else
    let a := link (2 * (y % 2)) (y / 2)
    let b := link (2 * (y % 2) + 1) (y / 2)
    ((rangeFrom 0 (prfRasterW f / 2)).map fun k => (a.drop (4 * k)).take 4 ++ (b.drop (4 * k)).take 4).flatten

/-- `n` bits of a list of bytes from bit `i` on, the first the most significant. -/
def bitsAt (l : List Nat) (i n : Nat) : Nat := beAt l 0 l.length / 2 ^ (8 * l.length - i - n) % 2 ^ n

/-- The ancillary packets of a type 2 payload with timestamp `ts`, from bit `i` on; at most `k` are read (PRESUMED: the payload of RFC 8331, which
ST 2110-40 takes). -/
def ancOf (ts : Nat) (l : List Nat) : Nat → Nat → List AncH
  | 0, _ => []
  | k + 1, i =>
    let n := bitsAt l (i + 52) 8
    let e := i + 32 + 10 * (n + 4)
    if 8 * l.length < e then []
    else
      { ts := ts, line := bitsAt l (i + 1) 11, offset := bitsAt l (i + 12) 12, chroma := bitsAt l i 1 == 1,
        words := (rangeFrom 0 (n + 4)).map fun j => bitsAt l (i + 32 + 10 * j) 10 } :: ancOf ts l k ((e + 31) / 32 * 32)

/-- A type 2 packet is used: each of its ancillary packets waits for its line of the companion's frame. One whose line lies outside the format, or
has been released, is dropped; DESIGN CHOICE: the RTP packet counts as dropped where none of them is left (R441). -/
def State.useAnc (x : Nat) (p : PktH) (s : State) : State :=
  let y := s.rd (PKT_RXC_BIND_BASE x)
  let h := s.rxH y
  let all := ancOf p.ts p.payload (p.payload.getD 4 0) 64
  let ok (a : AncH) : Bool := decide (1 ≤ a.line) && decide (a.line ≤ totalLines (s.rd (PKT_RXC_CFG_FORMAT y)))
    && !h.frames.any fun f => decide (0 < f.out) &&
      (if f.ts = p.ts then decide (a.line ≤ f.out) else decide (signedOf 32 (p.ts + 2 ^ 32 - f.ts) < 0))
  let kept := all.filter ok
  (s.setRxH y { h with anc := h.anc ++ kept }).bookOut 3 x (if kept.isEmpty && !all.isEmpty then .dropped else .delivered) 1

/-- A line goes into the raster of an input that a receive context feeds: its first line begins a frame. -/
def SdiH.release (now line : Nat) (words : List Nat) (h : SdiH) : SdiH :=
  let h := if line = 1 then h.closeFrame now else h
  { h with rows := (line, words) :: h.rows, cask := words, line := line }

/-- Put an ancillary packet into a line: its offset counts the words of its stream from the SAV on. DESIGN CHOICE: one without an offset stands
directly after the SAV. -/
def AncH.put (f : Nat) (a : AncH) (l : List Nat) : List Nat :=
  let n := (streamsOf f).1
  let (c, y) := ancPlaces n
  let start := l.length / n - 2 * activeSamples f / n
  let at_ := (start + if 0xFFC ≤ a.offset then 0 else a.offset) % (l.length / n)
  putStream n (if a.chroma then c else y) (n * at_) l ([0, 0x3FF, 0x3FF] ++ a.words)

/-- The sample frames of a type 1 payload: for each, one sample word of every channel (R442). -/
def audioFrames : Nat → Nat → Nat → List Nat → List (List Nat)
  | 0, _, _, _ => []
  | k + 1, count, size, l =>
    if l.length < count * size then []
    else
      ((rangeFrom 0 count).map fun j => if size = 3 then beAt l (3 * j) 3 * 2 ^ 8 else beAt l (2 * j) 2 * 2 ^ 16) ::
        audioFrames k count size (l.drop (count * size))

/-- A type 1 packet is used: its sample frames play from its deadline on, one per 1/48,000 s (R442). -/
def State.useAudio (x : Nat) (p : PktH) (s : State) : State :=
  let size := if s.on (PKT_RXC_CFG_ENC x) then 2 else 3
  let frames := audioFrames (if s.on (PKT_RXC_CFG_PTIME x) then 6 else 48) (s.rd (PKT_RXC_BIND_COUNT x)) size p.payload
  let h := s.rxH x
  s.setRxH x { h with play := h.play ++ frames.zipIdx.map fun e => (p.deadline + (e.2 * 125000 : Nat), e.1) }

/-- The held packet whose deadline is earliest, with those that remain. -/
def nextDue : List PktH → Option (PktH × List PktH)
  | [] => none
  | p :: l => match nextDue l with
    | some (q, r) => if q.deadline < p.deadline then some (q, p :: r) else some (p, l)
    | none => some (p, l)

/-! ## Transmit contexts -/

/-- The trellis that a transmit context sends on (R444). -/
def State.txTrellis (s : State) (y : Nat) : Nat :=
  if s.rd (PKT_TXC_CFG_TYPE y) = 1 then s.rd (PKT_TXC_BIND_TRELLIS y) else s.rd (PKT_TXC_BIND_BASE y) / 128

/-- A transmit context that is enabled and accepted: waiting to start, or sending. -/
def State.txAccepted (s : State) (y : Nat) : Bool := (s.txH y).taken

/-- The accepted transmit contexts other than `y`. -/
def State.txOthers (s : State) (y : Nat) : List Nat :=
  (s.tx.map fun e => e.1).filter fun z => z != y && s.txAccepted z

/-- Sample frames in a packet of a type 1 transmit context. -/
def State.txSamples (s : State) (y : Nat) : Nat := if s.on (PKT_TXC_CFG_PTIME y) then 6 else 48

/-- Whether the binding of a transmit context is valid (R444, R445). -/
def State.txBound (s : State) (y : Nat) : Bool :=
  let b := s.rd (PKT_TXC_BIND_BASE y)
  let n := s.rd (PKT_TXC_BIND_COUNT y)
  let same (t : Nat) : List Nat := (s.txOthers y).filter fun z => s.rd (PKT_TXC_CFG_TYPE z) == t
  let pl := s.rd (PKT_TXC_PKT_PAYLOAD y)
  s.packetMode (s.txTrellis y) &&
    match s.rd (PKT_TXC_CFG_TYPE y) with
    | 1 =>
      decide (n ≤ 64) && decide (b + n ≤ 12288)
        && decide (s.txSamples y * n * (if s.on (PKT_TXC_CFG_ENC y) then 2 else 3) + 62 ≤ s.rd (PKT_CFG_MAX_LEN (s.txTrellis y)))
        && !(same 1).any fun z =>
          let b' := s.rd (PKT_TXC_BIND_BASE z)
          decide (b < b' + s.rd (PKT_TXC_BIND_COUNT z)) && decide (b' < b + n)
    | 2 => (same 0).any (fun z => s.rd (PKT_TXC_BIND_BASE z) == b) && !(same 2).any fun z => s.rd (PKT_TXC_BIND_BASE z) == b
    | _ =>
      (if s.on (PKT_TXC_CFG_PACKING y) then pl == 1260 else pl % 5 == 0 && decide (600 ≤ pl ∧ pl ≤ 1400))
        && !(same 0).any fun z => s.rd (PKT_TXC_BIND_BASE z) == b

/-- Rates of the active region-push streams on a trellis, without that of head `h` (R495). -/
def State.pushRates (s : State) (n h : Nat) : Nat :=
  (rangeFrom 0 32).foldl (fun a g =>
    if g != h && s.on (MVH_RP_STAT_ACTIVE g) && s.rd (MVH_RP_CFG_TRELLIS g) == n then a + s.rd (MVH_RP_RATE_MBPS g) else a) 0

/-- Declared rates of the accepted contexts on a trellis, without `y`. -/
def State.txRates (s : State) (n y : Nat) : Nat :=
  ((s.txOthers y).filter fun z => s.txTrellis z == n).foldl (fun a z => a + s.rd (PKT_TXC_RATE_MBPS z)) 0 + s.pushRates n 32

/-- Show the sum of RATE of the active contexts of a trellis (R450). -/
def State.showTxUsed (n : Nat) (s : State) : State :=
  let all := (s.txOthers 4096).filter fun z => s.txTrellis z == n && s.on (PKT_TXC_STAT_ACTIVE z)
  s.wr (PKT_TX_USED_MBPS n) (all.foldl (fun a z => a + s.rd (PKT_TXC_RATE_MBPS z)) 0 + s.pushRates n 32)

/-- The boundary count of a context: frames of its output's plan, or engine ticks (R451). -/
def State.txBoundary (s : State) (y : Nat) : Nat :=
  if s.rd (PKT_TXC_CFG_TYPE y) = 1 then s.aud.ticks else s.frameOf (s.outPlan (s.rd (PKT_TXC_BIND_BASE y)))

/-- Enable a transmit context: refused with a bad binding or beyond the budget of its trellis (R444, R450). -/
def State.txEnable (y : Nat) (s : State) : State :=
  let ok := s.txBound y
  let n := s.txTrellis y
  let fits := decide (s.txRates n y + s.rd (PKT_TXC_RATE_MBPS y) ≤ 379810)
  let s := (s.wrB (PKT_TXC_STAT_BIND_ERR y) (!ok)).wrB (PKT_TXC_STAT_BUDGET y) (ok && !fits)
  if ok && fits then
    if s.on (PKT_TXC_STAT_ACTIVE y) then s.setTxH y { s.txH y with stopping := none }
    else s.setTxH y { taken := true, waiting := some (s.txBoundary y) }
  else s

/-- A transmit context stops. -/
def State.txStop (y : Nat) (s : State) : State :=
  ((s.setTxH y {}).wr (PKT_TXC_STAT_ACTIVE y) 0).showTxUsed (s.txTrellis y)

/-- Disable a transmit context: it stops after the frame or packet in progress (R451). -/
def State.txDisable (y : Nat) (s : State) : State :=
  let s := (s.wr (PKT_TXC_STAT_BIND_ERR y) 0).wr (PKT_TXC_STAT_BUDGET y) 0
  if s.on (PKT_TXC_STAT_ACTIVE y) then s.setTxH y { s.txH y with stopping := some (s.txBoundary y) } else s.setTxH y {}

/-- The time that a transmit context stamps with, in ns, for an instant: instance time in RATE_LOCK, else device time
(R447). -/
def State.txTime (s : State) (y t : Nat) : Int :=
  let n := s.rd (PKT_TXC_CFG_PTP_SEL y)
  let dev : Int := (((t : Int) - s.top.t0) / 6)
  if s.rateLocked n then dev + (s.ptpH n).offset else dev

/-- The instant that a type 0 or 2 frame's timestamp names (R447): its start on its plan in aligned carriage, else the start
of the output frame. -/
def State.txFrameStart (s : State) (d : Nat) : Nat :=
  let h := s.outH d
  let p := s.outPlan d
  if s.on (XPT_MAP_RD_ALIGNED d) then
    let q := s.planH p
    q.frameStart (q.posAt (h.since - s.refDelay p)).frame
  else h.since

/-- Fields or segments in which a flow carries a frame (R440, R445). -/
def fieldsOf (f : Nat) : Nat := if interlaced f || f == 4 then 2 else 1

/-- Packets in a field or frame of a type 0 context: its active pixels in groups of 5 bytes for 2, by PAYLOAD (R448). -/
def State.txFieldPackets (s : State) (y : Nat) : Nat :=
  let f := (s.planH (s.outPlan (s.rd (PKT_TXC_BIND_BASE y)))).format
  let bytes := prfRasterW f * (prfRasterH f / fieldsOf f) * (if f = 7 then 4 else 1) * 5 / 2
  let pl := s.rd (PKT_TXC_PKT_PAYLOAD y)
  (bytes + pl - 1) / pl

/-- Packets in a frame of a type 0 context (R448). -/
def State.txPackets (s : State) (y : Nat) : Nat :=
  fieldsOf (s.planH (s.outPlan (s.rd (PKT_TXC_BIND_BASE y)))).format * s.txFieldPackets y

/-- Of a frame's period, as a fraction: the part in which packets leave, and TRO_DEFAULT (PRESUMED: ST 2110-21). -/
def senderTimes (f : Nat) : (Nat × Nat) × (Nat × Nat) :=
  match f with
  | 0 => ((487, 525), (20, 525))
  | 1 => ((576, 625), (26, 625))
  | 2 => ((720, 750), (28, 750))
  | 3 | 4 => ((1080, 1125), (22, 1125))
  | _ => ((1080, 1125), (43, 1125))

/-- The instant at which packet `k` of the frame in progress of a type 0 context is to leave: T_F + TRO + k × TRS, of its field (R449). -/
def State.departure (s : State) (y k : Nat) : Nat :=
  let d := s.rd (PKT_TXC_BIND_BASE y)
  let h := s.planH (s.outPlan d)
  let t := framePeriod h.rate
  let (act, tro) := senderTimes h.format
  let n := max 1 (s.txFieldPackets y)
  let first := s.txFrameStart d + k / n * (t / 2)
  let wait := if s.rd (PKT_TXC_TRO_NS y) = 0 then t * tro.1 / tro.2 else s.rd (PKT_TXC_TRO_NS y) * ns
  first + wait + k % n * (t * act.1) / (act.2 * fieldsOf h.format * n)

/-- The last line of a field of a format: all of a frame's where it has one (R449). -/
def lastOfField (f : Nat) (second : Bool) : Nat :=
  if interlaced f && !second then (match f with | 0 => 265 | 1 => 312 | _ => 563) else totalLines f

/-- An Ethernet frame: padded with zeros, with its FCS (R446). -/
def withFcs (l : List Nat) : List Nat :=
  let l := l ++ List.replicate (60 - l.length) 0
  l ++ crcBytes (crc32 l)

/-- A UDP packet in an IPv4 packet; `dscp` is the DSCP field (R446). -/
def ipUdp (dscp ttl sip dip sport dport : Nat) (data : List Nat) : List Nat :=
  let total := 28 + data.length
  let head (sum : Nat) : List Nat :=
    [0x45, dscp * 4] ++ beBytes 2 total ++ [0, 0, 0x40, 0, ttl, 17] ++ beBytes 2 sum ++ beBytes 4 sip ++ beBytes 4 dip
  head (ipFold (ipSum (head 0) 0)) ++ beBytes 2 sport ++ beBytes 2 dport ++ beBytes 2 (8 + data.length) ++ [0, 0] ++ data

/-- The frame of a transmit context around an RTP payload (R446 to R448). -/
def State.txFrame (s : State) (y ts seq : Nat) (marker : Bool) (payload : List Nat) : List Nat :=
  let w (k : Nat) : Nat := s.rd (PKT_TXC_HDR_VALUE y k)
  let rtp := [0x80, ofBool marker * 128 + s.rd (PKT_TXC_CFG_PT y)] ++ beBytes 2 seq ++ beBytes 4 ts ++ beBytes 4 (w 7)
  let tag := if s.on (PKT_TXC_CFG_VLAN_EN y) then [0x81, 0] ++ beBytes 2 (s.rd (PKT_TXC_CFG_PCP y) * 2 ^ 13 + w 3 % 2 ^ 12) else []
  withFcs (beBytes 4 (w 0) ++ beBytes 4 (w 1) ++ beBytes 4 (w 2) ++ tag ++ [0x08, 0]
    ++ ipUdp (s.rd (PKT_TXC_CFG_DSCP y)) (w 3 / 2 ^ 16 % 256) (w 4) (w 5) (w 6 / 2 ^ 16) (w 6) (rtp ++ payload))

/-- The bytes of the sample frames of a type 1 packet. -/
def audioBytes (size : Nat) (l : List (Nat × List Nat)) : List Nat :=
  (l.map fun e => (e.2.map fun w => if size = 3 then beBytes 3 (w / 2 ^ 8) else beBytes 2 (w / 2 ^ 16)).flatten).flatten

/-- A formed packet of unit `u` of class 4 enters the queue of trellis `n`, or is dropped while the transmitter is inactive
or its engine is not ready (R451, R453). -/
def State.txQueue (n u : Nat) (express : Bool) (bytes : List Nat) (s : State) : State :=
  let s := s.bookIn 4 u 1
  if s.on (TRL_STATUS_TX_ACTIVE n) && s.carries (engineDomain n) && s.packetMode n then
    let m := s.macH n
    s.setMacH n { m with queue := m.queue ++ [{ express := express, unit := u, bytes := bytes }] }
  else
    let s := ((s.bookOut 4 u .dropped 1).raise (PKT_STATUS_TX_DROP n)).pktCount n 11
    if u < 4096 then s.raise (PKT_TXC_STAT_DROP u) else if u < 4128 then s.raise (MVH_RP_STAT_DROP (u - 4096)) else s

/-! ## Trellises that come and go -/

/-- The frame under reassembly on a trellis is discarded. -/
def State.dropReasm (n : Nat) (bit : Field) (k : Nat) (s : State) : State :=
  if (s.macH n).reasm.isSome then (s.setMacH n { s.macH n with reasm := none }).dropFrame n bit k else s

/-- Loss of the receive direction aborts the frame in progress (R414). -/
def State.pktLoss (n : Nat) (s : State) : State := s.dropReasm n (PKT_STATUS_ABORT n) 4

/-- Every frame that waits to be sent on a trellis is dropped. -/
def State.dropQueue (n : Nat) (s : State) : State :=
  let m := s.macH n
  let all := m.queue ++ (match m.part with | some (_, _, _, f) => [f] | none => [])
  (s.setMacH n { m with queue := [], part := none }).forL all fun f s => s.bookOut 4 f.unit .dropped 1

/-- Trellis `n` leaves packet mode: its contexts stop, and the frame in progress is aborted (R414, R433, R443, R444). -/
def State.pktLeave (n : Nat) (s : State) : State :=
  let s := (s.pktLoss n).dropQueue n
  let s := s.forL s.rx fun e s =>
    if s.rd (PKT_RXC_CFG_TYPE e.1) = 0 ∧ s.rd (PKT_RXC_BIND_BASE e.1) / 128 = n ∧ s.on (PKT_RXC_STAT_ACTIVE e.1) then
      (s.rxStopAll e.1).wr (PKT_RXC_STAT_BIND_ERR e.1) 1
    else s
  s.forL (s.txOthers 4096) fun y s => if s.txTrellis y = n then (s.txStop y).wr (PKT_TXC_STAT_BIND_ERR y) 1 else s

/-- The domain of engine `e` stops being ready: everything resident in its units is dropped (R453, R518). -/
def State.engineOff (e : Nat) (s : State) : State :=
  s.forL (rangeFrom (9 * e) 9) fun n s =>
    let s := (s.setMacH n { s.macH n with reasm := none, part := none, queue := [] }).dropResident 2 n
    let s := s.forL s.rx fun x s =>
      if s.rd (PKT_RXC_CFG_TYPE x.1) = 0 ∧ s.rd (PKT_RXC_BIND_BASE x.1) / 128 = n ∧ s.on (PKT_RXC_STAT_ACTIVE x.1) then
        (s.rxDropHeld x.1).rxInputGone x.1
      else s
    let s := s.forL (s.txOthers 4096) fun y s => if s.txTrellis y = n then s.dropResident 4 y else s
    s.dropResident 4 (4128 + n)

end Sys2Proof.Machine
end

