-- ==== Sys2Proof/Machine/Packet.lean ====
section
/-! DEFINITION. Commands of the packet engine: frames and fragments, STATUS groups, receive and transmit contexts (R412 to
R453). -/

namespace Sys2Proof.Machine

/-! ## Frames received -/

/-- Whether a frame's bytes from the IPv4 header on hold a whole header with a good checksum. -/
def ipHeaderGood (l : List Nat) : Bool :=
  let n := l.getD 0 0 % 16 * 4
  l.getD 0 0 / 16 == 4 && decide (20 ≤ n ∧ n ≤ l.length) && ipFold (ipSum (l.take n) 0) == 0

/-- Whether an IPv4 packet is UDP and not a fragment. -/
def isUdp (l : List Nat) : Bool := l.getD 9 0 == 17 && beAt l 6 2 % 2 ^ 14 == 0 && decide (l.getD 0 0 % 16 * 4 + 8 ≤ l.length)

/-- An IPv4 UDP frame that is not a PTP frame goes through the classifier (R429, R431, R443). -/
def State.classifyFrame (n vid : Nat) (bytes ip : List Nat) (s : State) : State :=
  let u := ip.drop (ip.getD 0 0 % 16 * 4)
  match s.classify n vid (beAt ip 16 4) (beAt ip 12 4) (beAt u 2 2) with
  | none => s.unmatched n bytes
  | some w =>
    let w0 := w.getD 0 0
    let x := w.getD 3 0 % 2 ^ 12
    if !bit w0 30 then s.bookOut 2 n .dropped 1
    else if !s.on (PKT_RXC_STAT_ACTIVE x) then (s.raise (PKT_STATUS_CTX_OFF n)).bookOut 2 n .dropped 1
    else (s.deliverFrame n).packetArrives x (ofBool (bit w0 29)) ((u.drop 8).take (beAt u 4 2 - 8))

/-- A frame after tag removal (R427 to R429). -/
def State.routeFrame (n vid : Nat) (bytes : List Nat) (s : State) : State :=
  let type := beAt bytes 12 2
  let ip := bytes.drop 14
  let toPtp (s : State) : State :=
    if s.on (PTP_CFG_EN n) then (s.pktCount n 9).deliverFrame n else (s.raise (PKT_STATUS_PTP_OFF n)).bookOut 2 n .dropped 1
  if type = 0x88F7 then toPtp s
  else if type = 0x0800 then
    if !ipHeaderGood ip then s.dropFrame n (PKT_STATUS_IP_ERR n) 7
    else
      let port := beAt (ip.drop (ip.getD 0 0 % 16 * 4)) 2 2
      if !isUdp ip then s.unmatched n bytes
      else if port = 319 ∨ port = 320 then toPtp s
      else s.classifyFrame n vid bytes ip
  else s.unmatched n bytes

/-- The tag of a frame that has passed the length and FCS checks is taken and removed; the FCS is left off (R426). -/
def State.untagFrame (n : Nat) (bytes : List Nat) (s : State) : State :=
  let l := bytes.take (bytes.length - 4)
  let type := beAt l 12 2
  if type = 0x88A8 then s.dropFrame n (PKT_STATUS_TAG_ERR n) 6
  else if type = 0x8100 then
    let vid := beAt l 14 2 % 2 ^ 12
    let inner := beAt l 16 2
    if inner = 0x8100 ∨ inner = 0x88A8 then s.dropFrame n (PKT_STATUS_TAG_ERR n) 6
    else s.routeFrame n (if vid = 0 then 0xFFF else vid) (l.take 12 ++ l.drop 16)
  else s.routeFrame n 0xFFF l

/-- Whether the last four bytes of a list are the CRC of the others. -/
def fcsGood (l : List Nat) : Bool :=
  decide (4 ≤ l.length) && l.drop (l.length - 4) == crcBytes (crc32 (l.take (l.length - 4)))

/-- A whole frame is judged (R425). -/
def State.judgeBytes (n : Nat) (bytes : List Nat) (s : State) : State :=
  if !fcsGood bytes then s.dropFrame n (PKT_STATUS_FCS_ERR n) 1
  else if bytes.length < 64 then s.dropFrame n (PKT_STATUS_RUNT n) 2
  else if s.rd (PKT_CFG_MAX_LEN n) < bytes.length then s.dropFrame n (PKT_STATUS_OVERSIZE n) 3
  else s.untagFrame n bytes

/-- The counts of SMD-S and SMD-C (Table 11-2). -/
def smdStart (smd : Nat) : Option Nat := [0xE6, 0x4C, 0x7F, 0xB3].findIdx? (· == smd)
def smdContinue (smd : Nat) : Option Nat := [0x61, 0x52, 0x9E, 0x2A].findIdx? (· == smd)
/-- The frag_count byte of a continuation (R418). -/
def fragCount (k : Nat) : Nat := [0xE6, 0x4C, 0x7F, 0xB3].getD (k % 4) 0

/-- A frame enters: counted, and booked in class 2 (R453). -/
def State.frameEnters (n : Nat) (s : State) : State := (s.pktCount n 0).bookIn 2 n 1

/-- A fragment's bytes join the frame under reassembly: a good mCRC keeps it open, a good FCS completes it (R420). -/
def State.joinFragment (n count k : Nat) (before bytes : List Nat) (s : State) : State :=
  let body := bytes.take (bytes.length - 4)
  let all := before ++ body
  let crc := crc32 all
  let tail := bytes.drop (bytes.length - 4)
  if decide (4 ≤ bytes.length) && tail == crcBytes (crc ^^^ 0x0000FFFF) then
    if bytes.length < 64 then (s.setMacH n { s.macH n with reasm := none }).dropFrame n (PKT_STATUS_FRAG_ERR n) 5
    else s.setMacH n { s.macH n with reasm := some (count, k, all) }
  else
    let s := s.setMacH n { s.macH n with reasm := none }
    if decide (4 ≤ bytes.length) && tail == crcBytes crc then s.judgeBytes n (all ++ tail)
    else s.dropFrame n (PKT_STATUS_FCS_ERR n) 1

/-- A frame or fragment on packet-mode trellis `n` between its START, with an SMD, and its end; `aborted` says that another
group came before the end (R414, R416, R420). While the engine is not ready nothing enters. -/
def State.receiveFrame (n smd : Nat) (bytes : List Nat) (aborted : Bool) (s : State) : State :=
  if !s.packetMode n || !s.carries (engineDomain n) || s.rd (TRL_STATUS_RX_STATE n) != 6 then s
  else if smd = 0xD5 then
    let s := s.frameEnters n
    if aborted then s.dropFrame n (PKT_STATUS_ABORT n) 4 else s.judgeBytes n bytes
  else match smdStart smd, smdContinue smd with
    | some c, _ =>
      let s := s.dropReasm n (PKT_STATUS_FRAG_ERR n) 5
      let s := s.frameEnters n
      if !s.on (PKT_CFG_PREEMPT n) then s.dropFrame n (PKT_STATUS_FRAG_ERR n) 5
      else if aborted then s.dropFrame n (PKT_STATUS_ABORT n) 4
      else s.joinFragment n c 0 [] bytes
    | none, some c =>
      match (s.macH n).reasm with
      | some (count, k, before) =>
        if aborted then s.dropReasm n (PKT_STATUS_ABORT n) 4
        else if count ≠ c ∨ bytes.headD 0 ≠ fragCount k then s.dropReasm n (PKT_STATUS_FRAG_ERR n) 5
        else s.joinFragment n c (k + 1) before (bytes.drop 1)
      | none => (s.raise (PKT_STATUS_FRAG_ERR n)).pktCount n 5
    | none, none => (s.raise (PKT_STATUS_FRAG_ERR n)).pktCount n 5

/-- FRAME_RECEIVED: a frame is received, checked, classified and delivered or discarded (R412 to R416, R425 to R443). -/
def execFrameReceived (n : Fin 36) (smd : Fin 256) (bytes : List Nat) (aborted : Bool) (s : State) :
    Host.Outcome State Fault Refusal :=
  .next (s.receiveFrame n smd bytes aborted)

/-- FRAGMENT_RECEIVED: a preemption fragment is reassembled or discarded (R416, R420). -/
def execFragmentReceived (n : Fin 36) (smd : Fin 256) (bytes : List Nat) (aborted : Bool) (s : State) :
    Host.Outcome State Fault Refusal :=
  .next (s.receiveFrame n smd bytes aborted)

/-- STATUS_RECEIVED: the partner's STATUS shows its claim and side (R413). -/
def execStatusReceived (n : Fin 36) (arg : Fin 256) (s : State) : Host.Outcome State Fault Refusal :=
  .next (
    if !s.packetMode n || !s.carries (engineDomain n) || s.rd (TRL_STATUS_RX_STATE n) != 6 then s
    else (s.wr (PKT_STATUS_RX_CLAIM n) (arg / 128)).wr (PKT_STATUS_RX_SIDE n) (arg / 64))

/-! ## Frames sent -/

/-- A frame of unit `u` has left: counted and delivered; the stamp of a Delay_Req is taken, in instance time at the pin
(R453, R456). -/
def State.frameLeft (n u : Nat) (s : State) : State :=
  let s := ((s.pktCount n 10).bookOut 4 u .delivered 1)
  if u = 4128 + n then
    let h := s.ptpH n
    match h.dreq with
    | some (seq, t, none) =>
      let t3 := s.instanceNs n + s.rd (PTP_LAT_TX_LAT n) / 10 + s.rd (PTP_LINK_LINK_TX n)
      s.setPtpH n { h with dreq := some (seq, t, some t3) }
    | _ => s
  else s

/-- The frame that the transmitter sends next, and what it leaves: an express frame first, then the rest of an interrupted
frame, then the oldest other frame (R417). -/
def MacH.express (m : MacH) : Option TxFrame := m.queue.find? (·.express)

/-- Remove the first frame of a class from a queue. -/
def dropFirst (express : Bool) : List TxFrame → List TxFrame
  | [] => []
  | f :: l => if f.express = express then l else f :: dropFirst express l

/-- Send a preemptible frame, or the rest of one, up to byte `cut` where that may be done for a waiting express frame, else
to its end (R417, R418). `k` fragments of it have been continued and `sent` of its bytes have left. -/
def State.sendPreemptible (n count k sent : Nat) (first : Bool) (f : TxFrame) (cut : Option Nat) (s : State) : State :=
  let frag := 64 * (1 + s.rd (PKT_CFG_ADD_FRAG n))
  let smd := if first then fragCount count else [0x61, 0x52, 0x9E, 0x2A].getD (count % 4) 0
  let pre := if first then [] else [fragCount k]
  let k' := if first then 0 else k + 1
  match cut with
  | some b =>
    if (s.macH n).express.isSome ∧ sent + frag ≤ b + 4 ∧ b + 64 ≤ f.bytes.length then
      let mcrc := crcBytes (crc32 (f.bytes.take b) ^^^ 0x0000FFFF)
      (s.setMacH n { s.macH n with part := some (count, k', b, f) }).putEther n smd (pre ++ ((f.bytes.take b).drop sent) ++ mcrc)
    else ((s.setMacH n { s.macH n with part := none }).putEther n smd (pre ++ f.bytes.drop sent)).frameLeft n f.unit
  | none => ((s.setMacH n { s.macH n with part := none }).putEther n smd (pre ++ f.bytes.drop sent)).frameLeft n f.unit

/-- The next frame of a trellis goes between START and TERM groups (R412, R416 to R418). -/
def State.nextFrame (n : Nat) (cut : Option Nat) (s : State) : State :=
  let m := s.macH n
  if !s.on (PKT_CFG_PREEMPT n) && m.part.isNone then
    match m.queue with
    | f :: l => ((s.setMacH n { m with queue := l }).putEther n 0xD5 f.bytes).frameLeft n f.unit
    | [] => s
  else
    let express := match cut with
      | none => m.express
      | some _ => none
    match express, m.part with
    | some f, _ => ((s.setMacH n { m with queue := dropFirst true m.queue }).putEther n 0xD5 f.bytes).frameLeft n f.unit
    | none, some (count, k, sent, f) => s.sendPreemptible n count k sent false f cut
    | none, none =>
      match m.queue.find? (fun f => !f.express) with
      | some f =>
        let s := s.setMacH n { m with queue := dropFirst false m.queue, count := (m.count + 1) % 4 }
        s.sendPreemptible n m.count 0 0 true f cut
      | none => s

/-- A STATUS group goes, with the claim in force (R413, R415). -/
def State.sendStatus (n : Nat) (s : State) : State :=
  let s := s.setMacH n { s.macH n with told := (s.trlH n).txGroups / (laneCount n * 4094) + 1 }
  s.putStatus n (ofBool s.top.claim * 128 + s.rd TOP_STRAP_TWIN_SIDE * 64 + s.rd TOP_STRAP_TWIN_EN * 32 + s.rd TOP_MODE_MODE)

/-- The gap after a frame: it carries a STATUS group where the lane frame has had none (R415). -/
def State.statusGap (n : Nat) (s : State) : State :=
  if (s.macH n).told = (s.trlH n).txGroups / (laneCount n * 4094) + 1 then s else s.sendStatus n

/-- FRAME_SENT: the next frame is sent between START and TERM groups; `cut` names the byte before which the transmitter
interrupts a preemptible frame for an express frame that waits. A STATUS group goes in the gap after it where the lane frame has had none
(R412, R415 to R418). -/
def execFrameSent (n : Fin 36) (cut : Option Nat) (s : State) : Host.Outcome State Fault Refusal :=
  .next (
    if !s.packetMode n || !s.on (TRL_STATUS_TX_ACTIVE n) || !s.carries (engineDomain n) then s
    else (s.nextFrame n cut).statusGap n)

/-- STATUS_SENT: a STATUS group is sent in a gap of the lane frame (R413, R415). -/
def execStatusSent (n : Fin 36) (s : State) : Host.Outcome State Fault Refusal :=
  .next (if !s.packetMode n || !s.on (TRL_STATUS_TX_ACTIVE n) || !s.carries (engineDomain n) then s else s.sendStatus n)

/-! ## Receive contexts -/

/-- PKT_CLS_CMD: WRITE installs the staged words at INDEX, READ loads them (R432). -/
def State.classifierWrite (s : State) : State :=
  let w := (rangeFrom 0 4).map fun k => s.rd (PKT_CLS_W_WORD k)
  let w := [w.getD 0 0 - w.getD 0 0 / 2 ^ 12 % 2 ^ 10 * 2 ^ 12, w.getD 1 0, w.getD 2 0, w.getD 3 0 - w.getD 3 0 / 2 ^ 12 % 2 ^ 4 * 2 ^ 12]
  { s with cls := storeSet (fun _ => [0, 0, 0, 0]) s.cls (s.rd PKT_CLS_IDX_INDEX) w }
def State.classifierRead (s : State) : State :=
  let w := storeGet (fun _ => [0, 0, 0, 0]) s.cls (s.rd PKT_CLS_IDX_INDEX)
  s.forN 4 fun k s => s.wr (PKT_CLS_W_WORD k) (w.getD k 0)

/-- The values that a receive context's registers store (R435 and the field descriptions). -/
def State.rxcFix (x : Nat) (s : State) : State :=
  let s := s.when (s.rd (PKT_RXC_CFG_TYPE x) == 3) fun s => s.wr (PKT_RXC_CFG_TYPE x) 0
  let s := s.when (s.rd (PKT_RXC_BIND_COUNT x) == 0) fun s => s.wr (PKT_RXC_BIND_COUNT x) 1
  let s := s.wr (PKT_RXC_TIME_PLAYOUT x) (min (s.rd (PKT_RXC_TIME_PLAYOUT x)) 10000)
  let s := s.wr (PKT_RXC_TIME_MERGE_WIN x) (min (s.rd (PKT_RXC_TIME_MERGE_WIN x)) (if s.rd (PKT_RXC_CFG_TYPE x) = 1 then 500 else 50))
  let s := s.when (s.rd (PKT_RXC_TIME_LOSS_TO x) == 0) fun s => s.wr (PKT_RXC_TIME_LOSS_TO x) 1
  s.when (s.rd (PKT_RXC_RATE_MBPS x) == 0) fun s => s.wr (PKT_RXC_RATE_MBPS x) 1

/-- The load of a receive context. -/
def mergeLoad (x : Nat) : Load := { cls := 2, id := x }

/-- A receive context is enabled: it is bound, and requests admission (R433, R434). -/
def State.rxEnable (x : Nat) (s : State) : State :=
  ((s.setRxH x { s.rxH x with on := true }).rxActivate x).askLoad (mergeLoad x) (s.rxCharge x)

/-- A receive context is disabled: it drops what it holds, and gives its charge back (R443). -/
def State.rxDisable (x : Nat) (s : State) : State :=
  let s := (s.rxStopAll x).withdrawLoad (mergeLoad x)
  ((s.setRxH x {}).wr (PKT_RXC_STAT_BIND_ERR x) 0).rxRecheck

/-- After a write of a receive context's registers, given the state before it: the context is enabled or disabled, or binds
and asks for admission anew where its binding, charge or buffer has changed (R433, R434, R443). -/
def State.rxcWritten (x : Nat) (s old : State) : State :=
  let s := s.rxcFix x
  let on := s.on (PKT_RXC_CFG_EN x)
  let was := old.on (PKT_RXC_CFG_EN x)
  if !on then (if was then s.rxDisable x else s)
  else if !was then s.rxEnable x
  else
    let s := if s.word (PKT_RXC_CFG x) ≠ old.word (PKT_RXC_CFG x) ∨ s.word (PKT_RXC_BIND x) ≠ old.word (PKT_RXC_BIND x) then
        s.rxStopAll x else s
    let s := if s.rxCharge x ≠ old.rxCharge x ∨ mergeTokens (s.rxBuffer x) ≠ mergeTokens (old.rxBuffer x) then
        ((s.rxStopAll x).withdrawLoad (mergeLoad x)).askLoad (mergeLoad x) (s.rxCharge x) else s
    (s.rxActivate x).rxRecheck

/-- PACKET_DEADLINE: the held packet of context `x` whose deadline comes first reaches it and is used; its sequence number
has then been delivered once (R438, R440 to R442). -/
def execPacketDeadline (x : Fin 4096) (s : State) : Host.Outcome State Fault Refusal :=
  .next (
    match nextDue (s.rxH x).held with
    | none => s
    | some (p, rest) =>
      if (s.now : Int) < p.deadline then s
      else
        let s := s.setRxH x { s.rxH x with held := rest }
        match s.rd (PKT_RXC_CFG_TYPE x) with
        | 0 => (s.bookOut 3 x .delivered 1).useVideo x p
        | 1 => (s.bookOut 3 x .delivered 1).useAudio x p
        | _ => s.useAnc x p)

/-- LEG_LOSS: no packet has reached a leg for LOSS_TO; a context without a leg is absent (R439). -/
def execLegLoss (x : Fin 4096) (leg : Fin 2) (s : State) : Host.Outcome State Fault Refusal :=
  .next (
    let f := if leg = 0 then PKT_RXC_STAT_LEG0 x else PKT_RXC_STAT_LEG1 x
    let last := if leg = 0 then (s.rxH x).legAt.1 else (s.rxH x).legAt.2
    if !s.on f || decide (s.now < last + s.rd (PKT_RXC_TIME_LOSS_TO x) * 100 * us) then s
    else
      let s := s.wr f 0
      if s.on (PKT_RXC_STAT_LEG0 x) || s.on (PKT_RXC_STAT_LEG1 x) then s else s.rxInputGone x)

/-- Line `line` of frame `f` of type 0 context `x` goes into the rasters of its input's links: its picture rows, or where they are not `whole` the
active part of the line before it; with the ancillary packets that wait for it (R440, R441). -/
def State.releaseLine (x : Nat) (f : FrmH) (line : Nat) (whole : Bool) (s : State) : State :=
  let format := s.rd (PKT_RXC_CFG_FORMAT x)
  let i := s.rd (PKT_RXC_BIND_BASE x)
  let w := prfRasterW format * (if format = 7 then 2 else 1)
  let h := s.rxH x
  let anc := h.anc.filter fun a => a.ts == f.ts && a.line == line
  let s := s.forN (if format = 7 then 4 else 1) fun j s =>
    let g := s.inH (i + 4 * j)
    let active := if whole then activeOfRows format (linkRow format j (f.row w)) line else activeWords format g.sdi.cask
    let l := rasterLine format (s.rd (PKT_RXC_CFG_RATE x)) line active
    let l := if j = 0 then anc.foldl (fun l a => a.put format l) l else l
    s.setInH (i + 4 * j) { g with sdi := g.sdi.release s.now line l }
  let s := s.setRxH x { h with
    anc := h.anc.filter fun a => !(a.ts == f.ts && decide (a.line ≤ line)) && decide (0 ≤ signedOf 32 (a.ts + 2 ^ 32 - f.ts)),
    frames := h.frames.map fun g => if g.ts = f.ts then { g with out := line } else g }
  s.lineArrives i line

/-- LINE_RELEASE: a type 0 context releases line `line` of the frame with timestamp `ts`, which is due at S(n) plus the time of the line: one whose
data has not wholly arrived is replaced, and counted as damaged (R440, R441, R144). The input tap takes the replaced line (R503). -/
def execLineRelease (x : Fin 4096) (ts line : Nat) (s : State) : Host.Outcome State Fault Refusal :=
  .next (
    let format := s.rd (PKT_RXC_CFG_FORMAT x)
    let i := s.rd (PKT_RXC_BIND_BASE x)
    let f := ((s.rxH x).frames.find? fun f => f.ts == ts).getD { ts := ts }
    let due := (s.rxNominal x ts).1 + (s.playoutUnits x : Nat)
      + (((line - 1) * (framePeriod (s.rd (PKT_RXC_CFG_RATE x)) / totalLines format) : Nat) : Int)
    if !s.on (PKT_RXC_STAT_ACTIVE x) || !s.on (PKT_RXC_STAT_PRESENT x) || s.rd (PKT_RXC_CFG_TYPE x) != 0
        || decide (line = 0 ∨ totalLines format < line ∨ line ≤ f.out) || decide ((s.now : Int) < due) then s
    else
      let k := if format = 7 then 2 else 1
      let lines := f.lines
      let whole := ((rangeFrom 0 (prfRasterH format)).filter fun y => pictureLine format y == line).all fun y =>
        (rangeFrom 0 k).all fun z => decide (prfRasterW format * k ≤ storeGet (fun _ => 0) lines (y * k + z))
      let s := s.releaseLine x f line whole
      if whole then s else s.bump (CTN_DMG_COUNT (i / 128)))

/-! ## Transmit contexts -/

/-- The values that a transmit context's registers store. -/
def State.txcFix (y : Nat) (s : State) : State :=
  let s := s.when (s.rd (PKT_TXC_CFG_TYPE y) == 3) fun s => s.wr (PKT_TXC_CFG_TYPE y) 0
  let s := s.when (s.rd (PKT_TXC_BIND_COUNT y) == 0) fun s => s.wr (PKT_TXC_BIND_COUNT y) 1
  s.when (s.rd (PKT_TXC_RATE_MBPS y) == 0) fun s => s.wr (PKT_TXC_RATE_MBPS y) 1

/-- After a write of a transmit context's registers, given the state before it. A new binding or rate of an enabled context
is judged as its enabling is, once it has stopped (R444, R450, R451). -/
def State.txcWritten (y : Nat) (s old : State) : State :=
  let s := s.txcFix y
  let on := s.on (PKT_TXC_CFG_EN y)
  let was := old.on (PKT_TXC_CFG_EN y)
  if !on then (if was then s.txDisable y else s)
  else if !was then s.txEnable y
  else if s.rd (PKT_TXC_CFG_TYPE y) ≠ old.rd (PKT_TXC_CFG_TYPE y) ∨ s.word (PKT_TXC_BIND y) ≠ old.word (PKT_TXC_BIND y)
      ∨ s.rd (PKT_TXC_RATE_MBPS y) ≠ old.rd (PKT_TXC_RATE_MBPS y) ∨ s.on (PKT_TXC_STAT_BIND_ERR y) ∨ s.on (PKT_TXC_STAT_BUDGET y) then
    ((s.setTxH y {}).wr (PKT_TXC_STAT_ACTIVE y) 0).showTxUsed (old.txTrellis y) |>.txEnable y
  else s

/-- TX_CONTEXT_START: at the next frame boundary of its output's plan, or packet-time boundary of engine ticks, an accepted
context starts, and one that is stopping has stopped (R451). -/
def execTxContextStart (y : Fin 4096) (s : State) : Host.Outcome State Fault Refusal :=
  .next (
    let h := s.txH y
    let now := s.txBoundary y
    let n := s.txTrellis y
    let passed (k : Nat) : Bool :=
      decide (k < now) && (s.rd (PKT_TXC_CFG_TYPE y) != 1 || (now / s.txSamples y != k / s.txSamples y))
    match h.waiting, h.stopping with
    | some k, _ =>
      if passed k then
        let s := (s.setTxH y { taken := true }).wr (PKT_TXC_STAT_ACTIVE y) 1
        (s.wrB (PKT_TXC_STAT_TS_PTP y) (s.rateLocked (s.rd (PKT_TXC_CFG_PTP_SEL y)))).showTxUsed n
      else s
    | none, some k => if passed k then s.txStop y else s
    | none, none => s)

/-- Whether the output of a type 0 or 2 transmit context carries content to send: a frame in progress of a source or of a
policy that is not IDLE (R445). -/
def State.txCarries (s : State) (d : Nat) : Bool := (s.outH d).running && !(s.outH d).masked && s.on (XPT_MAP_RD_VALID d)

/-- The words of a row of the picture that output `d` carries, by field and row as a segment names them (R445). -/
def State.flowRow (s : State) (d v : Nat) : List Nat :=
  let f := (s.planH (s.outPlan d)).format
  wholeRow f (fun j y => rowWords f y (s.outLine d j (pictureLine f y))) (segmentRow f v)

/-- Segments of bytes `a` to `b` of a picture whose rows have `n` bytes: row, first byte and number of bytes. At most `k` are cut. -/
def flowSegments (n b : Nat) : Nat → Nat → List (Nat × Nat × Nat)
  | 0, _ => []
  | k + 1, a =>
    if b ≤ a then []
    else
      let len := min (b - a) (n - a % n)
      (a / n, a % n, len) :: flowSegments n b k (a + len)

/-- The payload of packet `k` of a type 0 flow after the extended sequence number: segment headers, and the pixel groups in them (R445,
ST 2110-20). -/
def State.flowPayload (s : State) (y k : Nat) : List Nat :=
  let d := s.rd (PKT_TXC_BIND_BASE y)
  let f := (s.planH (s.outPlan d)).format
  let m := if f = 7 then 2 else 1
  let n := prfRasterW f * m / 2 * 5
  let pl := s.rd (PKT_TXC_PKT_PAYLOAD y)
  let per := max 1 (s.txFieldPackets y)
  let j := k % per
  let segs := flowSegments n (min ((j + 1) * pl) (n * (prfRasterH f * m / fieldsOf f))) 3 (j * pl)
  let rows := segs.map fun e => let v := k / per * 2 ^ 15 + e.1; ((v, s.flowRow d v), e.2)
  let heads := rows.zipIdx.map fun (e : ((Nat × List Nat) × Nat × Nat) × Nat) =>
    beBytes 2 e.1.2.2 ++ beBytes 2 e.1.1.1 ++ beBytes 2 (e.1.2.1 / 5 * 2 + ofBool (decide (e.2 + 1 < rows.length)) * 2 ^ 15)
  let data := rows.map fun e => ((rangeFrom (e.2.1 / 5) (e.2.2 / 5)).map fun g => pixelGroup ((e.1.2.drop (4 * g)).take 4)).flatten
  (heads ++ data).flatten

/-- The ancillary packets of line `line` of the raster of output `d`, but for audio packets, with their words from the DID on (R445). -/
def State.flowAnc (s : State) (d line : Nat) : List AncH :=
  let f := (s.planH (s.outPlan d)).format
  let l := s.outLine d 0 line
  let n := (streamsOf f).1
  let (c, y) := ancPlaces n
  let start := l.length / n - 2 * activeSamples f / n
  let stream (chroma : Bool) : List AncH :=
    (ancWhere (l.length / n) 0 (streamWords n (if chroma then c else y) l)).filterMap fun e =>
      if (rangeFrom 0 8).any (fun g => audioDid f g (e.2.headD 0 % 256)) then none
      else some { ts := 0, line := line, offset := (e.1 + l.length / n - start) % (l.length / n), chroma := chroma, words := e.2 }
  if n = 0 then [] else if c = y then stream false else stream true ++ stream false

/-- An ancillary packet as a type 2 flow carries it (RFC 8331): a number, and how many bits it has. -/
def AncH.coded (a : AncH) : Nat × Nat :=
  let v := ofBool a.chroma * 2 ^ 31 + a.line % 2 ^ 11 * 2 ^ 20 + a.offset % 2 ^ 12 * 2 ^ 8
  let w := a.words.foldl (fun v x => v * 2 ^ 10 + x % 2 ^ 10) v
  let n := 32 + 10 * a.words.length
  let m := (n + 31) / 32 * 32
  (w * 2 ^ (m - n), m)

/-- The payload of packet `k` of a type 2 flow: at most 16 for each field, over which the field's ancillary packets are spread; none where no
packet is left for it (R445). -/
def State.ancPayload (s : State) (y k : Nat) : Option (List Nat) :=
  let d := s.rd (PKT_TXC_BIND_BASE y)
  let f := (s.planH (s.outPlan d)).format
  let two := interlaced f
  let second := two && decide (16 ≤ k)
  let lines := (rangeFrom 1 (totalLines f)).filter fun l => !two || secondField f l == second
  let all := (lines.map fun l => s.flowAnc d l).flatten
  let m := max 1 ((all.length + 15) / 16)
  let mine := (all.drop (m * (k % 16))).take m
  if mine.isEmpty ∨ (!two ∧ 16 ≤ k) ∨ 32 ≤ k then none
  else
    let (v, n) := mine.foldl (fun (a : Nat × Nat) e => let (w, j) := e.coded; (a.1 * 2 ^ j + w, a.2 + j)) (0, 0)
    some (beBytes 2 (n / 8) ++ [mine.length % 256, if two then (if second then 0xC0 else 0x80) else 0, 0, 0] ++ beBytes (n / 8) v)

/-- PACKET_DEPARTURE: a packet leaves: packet `k` of the frame in progress of a type 0 or 2 context, with the picture or ancillary data of the
output's content, or the next samples of a type 1 context. A Type N packet leaves at its time or late, a type 2 packet not before the last line of
its field (R445 to R451). -/
def execPacketDeparture (y : Fin 4096) (k : Nat) (s : State) : Host.Outcome State Fault Refusal :=
  .next (
    let n := s.txTrellis y
    let d := s.rd (PKT_TXC_BIND_BASE y)
    let express := s.on (PKT_TXC_CFG_EXPRESS y)
    let h := s.txH y
    if !s.on (PKT_TXC_STAT_ACTIVE y) then s
    else
      let s := s.wrB (PKT_TXC_STAT_TS_PTP y) (s.rateLocked (s.rd (PKT_TXC_CFG_PTP_SEL y)))
      match s.rd (PKT_TXC_CFG_TYPE y) with
      | 1 =>
        let m := s.txSamples y
        if h.buf.length < m then s
        else
          let t := ((h.buf.headD (0, [])).1)
          let ts := (s.txTime y t * 48000 / 1000000000 % (2 ^ 32 : Nat)).toNat
          let bytes := audioBytes (if s.on (PKT_TXC_CFG_ENC y) then 2 else 3) (h.buf.take m)
          (s.setTxH y { h with buf := h.buf.drop m }).txQueue n y express (s.txFrame y ts (ts / m % 2 ^ 16) false bytes)
      | type =>
        if !s.txCarries d then s
        else
          let t := s.txTime y (s.txFrameStart d)
          let ts := (t * 90000 / 1000000000 % (2 ^ 32 : Nat)).toNat
          let frame := t * 6 / framePeriod (s.planH (s.outPlan d)).rate
          let pkts := s.txPackets y
          let paced := type = 0 ∧ !s.on (PKT_TXC_CFG_PACER y)
          let due := s.departure y k
          let g := s.planH (s.outPlan d)
          let early := (paced ∧ s.now + 50 * ns < due) ∨ (type = 0 ∧ pkts ≤ k)
            ∨ (type ≠ 0 ∧ s.now < s.txFrameStart d + (lastOfField g.format (decide (16 ≤ k)) - 1) * g.lineLen)
          let s := if paced ∧ due + us < s.now then s.raise (PKT_TXC_STAT_LATE y) else s
          if early then s
          else if type = 0 then
            let q := ((frame * (pkts : Nat) + (k : Nat)) % (2 ^ 32 : Nat)).toNat
            s.txQueue n y express (s.txFrame y ts (q % 2 ^ 16) ((k + 1) % max 1 (s.txFieldPackets y) == 0) (beBytes 2 (q / 2 ^ 16) ++ s.flowPayload y k))
          else
            let q := ((frame * 16 + (k : Nat)) % (2 ^ 32 : Nat)).toNat
            match s.ancPayload y k with
            | some l => s.txQueue n y express (s.txFrame y ts (q % 2 ^ 16) false (beBytes 2 (q / 2 ^ 16) ++ l))
            | none => s)

end Sys2Proof.Machine
end

