-- ==== Sys2Proof/Machine/Ptp.lean ====
section
/-! DEFINITION. PTP instances: the port, the choice of a master, delay exchanges, the servo and device time (R454 to
R462). -/

namespace Sys2Proof.Machine

/-! ## Port and servo states -/

/-- What follows every change of a servo or of instance time: a candidate that is no longer in RATE_LOCK is lost, and
contexts whose effective timing has changed re-anchor (R159, R437). -/
def State.ptpChanged (s : State) : State := s.refRecheck.rxTiming

/-- Enter a servo state (Table 11-6). -/
def State.setServo (n k : Nat) (s : State) : State :=
  let was := s.rd (PTP_STATUS_SERVO n)
  if was = k then s
  else
    let s := s.setPtpH n { s.ptpH n with servoAt := s.now, within := 0, stable := 0, accept := false }
    let s := s.wr (PTP_STATUS_SERVO n) k
    if was = 2 then s.raise (PTP_EVENT_RATE_LOCK_LOST n) else s

/-- Enter a port state; leaving SLAVE puts the servo in STEPPED, unless it is in NO_TIME (R455, R459). -/
def State.setPort (n k : Nat) (s : State) : State :=
  let was := s.rd (PTP_STATUS_PORT n)
  if was = k then s
  else
    let s := (s.wr (PTP_STATUS_PORT n) k).raise (PTP_EVENT_STATE_CHANGE n)
    let s := if was = 3 ∧ s.rd (PTP_STATUS_SERVO n) ≠ 0 then
        let held := s.rd (PTP_STATUS_SERVO n) = 3
        let s := s.setServo n 1
        if held then s.raise (PTP_EVENT_JUMP_CLEARED n) else s
      else s
    let h := s.ptpH n
    let s := s.setPtpH n { h with
      offs := [], sync := none, pair := none, dreq := none, mpds := if k = 2 then [] else h.mpds,
      evalAt := if k = 3 then s.now else h.evalAt, hist := if k = 3 then [] else h.hist,
      rates := if k = 3 then [] else h.rates }
    s.ptpChanged

/-- No master is chosen. -/
def State.dropMaster (n : Nat) (s : State) : State :=
  (s.setPtpH n { s.ptpH n with chosen := none }).wr (PTP_STATUS_GM_VALID n) 0

/-- Whether a port can work: its trellis is UP in packet mode, and its engine's domain is ready (Table 11-5). -/
def State.portAble (s : State) (n : Nat) : Bool :=
  s.packetMode n && s.rd (TRL_STATUS_RX_STATE n) == 6 && s.carries (engineDomain n)

/-- DISABLED and FAULTY follow EN and the port's condition (Table 11-5); to be called when either may have changed. -/
def State.ptpCheck (n : Nat) (s : State) : State :=
  let port := s.rd (PTP_STATUS_PORT n)
  if 36 ≤ n then s
  else if !s.on (PTP_CFG_EN n) then
    if port = 0 then s else ((s.setPtpH n { s.ptpH n with foreign := [] }).dropMaster n).setPort n 0
  else if !s.portAble n then
    if port = 4 ∨ port = 0 then (if port = 0 then (s.setPort n 1).setPort n 4 else s)
    else ((s.setPtpH n { s.ptpH n with foreign := [] }).dropMaster n).setPort n 4
  else if port = 0 ∨ port = 4 then s.setPort n 1
  else s

/-! ## The choice of a master -/

/-- Lexicographic order of data sets. -/
def betterSet : List Nat → List Nat → Bool
  | a :: l, b :: m => decide (a < b) || (a == b && betterSet l m)
  | _, _ => false

/-- A foreign master is qualified: its latest two Announce messages lie within four announce intervals, up to now (R455). -/
def Foreign.qualified (f : Foreign) (now : Nat) : Bool :=
  match f.times with
  | _ :: t :: _ => decide (now ≤ t + 4 * f.interval)
  | _ => false

/-- The best qualified master (R455). -/
def State.bestMaster (s : State) (n : Nat) : Option Foreign :=
  ((s.ptpH n).foreign.filter fun f => f.qualified s.now || (s.ptpH n).chosen == some f.port).foldl (fun b f => match b with
    | none => some f
    | some g => if betterSet f.dataset g.dataset then some f else some g) none

/-- Choose a master anew: another one than the last shown is reported and starts UNCALIBRATED (R455). -/
def State.chooseMaster (n : Nat) (s : State) : State :=
  match s.bestMaster n with
  | none => s
  | some f =>
    if (s.ptpH n).chosen = some f.port then s
    else
      let s := s.setPtpH n { s.ptpH n with chosen := some f.port, annAt := f.times.headD s.now, offs := [], mpds := [], pair := none, sync := none, dreq := none }
      let s := ((s.wr (PTP_GM_ID n 0) (f.port.1 / 2 ^ 32)).wr (PTP_GM_ID n 1) f.port.1).wr (PTP_STATUS_GM_VALID n) 1
      (s.raise (PTP_EVENT_GM_CHANGE n)).setPort n 2

/-- Whether a message from a port in a domain is taken by instance `n` (R454). -/
def State.ptpTakes (s : State) (n domain : Nat) : Bool :=
  s.on (PTP_CFG_EN n) && s.portAble n && s.rd (PTP_CFG_DOMAIN n) == domain

/-- Whether a message comes from the chosen master. -/
def State.fromMaster (s : State) (n domain : Nat) (port : Nat × Nat) : Bool :=
  s.ptpTakes n domain && (s.ptpH n).chosen == some port

/-- An announce interval of 2^log s in time units, for logarithms from -7 to 4. -/
def intervalUnits (log : Int) : Nat := if 0 ≤ log then sec * 2 ^ log.toNat else sec / 2 ^ (-log).toNat

/-- ANNOUNCE: an Announce of a master enters the best master clock algorithm. The operands give the sender's port identity,
its data set (priority1, clockClass, clockAccuracy, offsetScaledLogVariance, priority2, grandmasterIdentity, stepsRemoved),
its addresses, currentUtcOffset and logMessageInterval (R454, R455). -/
def execAnnounce (n : Fin 36) (domain : Fin 256) (port : Nat × Nat) (dataset : List Nat) (mac ip : Nat) (utc : Fin 65536)
    (log : Fin 12) (s : State) : Host.Outcome State Fault Refusal :=
  .next (
    if !s.ptpTakes n domain then s
    else
      let h := s.ptpH n
      let old := h.foreign.find? fun f => f.port == port
      let times := (s.now :: (match old with | some f => f.times | none => [])).take 2
      let f : Foreign := { port := port, dataset := dataset ++ [port.1, port.2], mac := mac, ip := ip, times := times,
                           interval := intervalUnits ((log : Nat) - 7 : Int) }
      let s := s.setPtpH n { h with
        foreign := f :: h.foreign.filter (fun g => g.port != port), annAt := if h.chosen = some port then s.now else h.annAt }
      (s.wr (PTP_STATUS_UTC_OFFS n) utc).chooseMaster n)

/-- ANNOUNCE_TIMEOUT: ANN_TO announce intervals have passed without an Announce from the master (Table 11-5). -/
def execAnnounceTimeout (n : Fin 36) (s : State) : Host.Outcome State Fault Refusal :=
  .next (
    let h := s.ptpH n
    match h.chosen, h.foreign.find? (fun f => h.chosen == some f.port) with
    | some p, some f =>
      if s.now < h.annAt + s.rd (PTP_CFG_ANN_TO n) * f.interval then s
      else
        let s := (s.setPtpH n { h with foreign := h.foreign.filter fun g => g.port != p }).dropMaster n
        (s.raise (PTP_EVENT_ANN_TIMEOUT n)).setPort n 1
    | _, _ => s)

/-! ## Delay exchanges -/

/-- The receive stamp of a PTP frame whose START arrives now on lane `lane`, in instance time, in ns (R456). -/
def State.rxStamp (s : State) (n lane : Nat) : Int :=
  s.instanceNs n - ((s.rd (PTP_LAT_RX_LAT n) * 10 + s.rd (TRL_LANE_STAT_SKEW n lane) * 32) / 100 : Nat) - s.rd (PTP_LINK_LINK_RX n)

/-- The mean of a list of integers; 0 for none. -/
def meanInt (l : List Int) : Int := if l.isEmpty then 0 else l.foldl (· + ·) 0 / l.length

/-- The mean path delay (R457). -/
def PtpH.mpd (h : PtpH) : Int := meanInt h.mpds

/-- The offset of the latest Sync: by how much the master is ahead of the instance (R457). -/
def PtpH.syncOffset (h : PtpH) : Option Int := h.pair.map fun p => p.1 + h.mpd - p.2

/-- A Sync is complete: t1 with its corrections, and t2. In SLAVE its offset counts for the present second (R457). -/
def State.syncDone (n : Nat) (t1 t2 : Int) (s : State) : State :=
  let h := { s.ptpH n with pair := some (t1, t2), sync := none }
  if s.rd (PTP_STATUS_PORT n) = 3 then s.setPtpH n { h with offs := (t1 + h.mpd - t2) :: h.offs } else s.setPtpH n h

/-- SYNC: a Sync of the chosen master is received and stamped; one-step masters give t1 in it (R454, R456). Times and
corrections are in ns. -/
def execSync (n : Fin 36) (domain : Fin 256) (port : Nat × Nat) (seq : Fin 65536) (twoStep : Bool) (origin corr : Int)
    (lane : Fin 8) (s : State) : Host.Outcome State Fault Refusal :=
  .next (
    if !s.fromMaster n domain port then s
    else
      let t2 := s.rxStamp n lane
      let c := corr + s.rdInt (PTP_ASYM_NS n)
      if twoStep then s.setPtpH n { s.ptpH n with sync := some (seq, t2, c) } else s.syncDone n (origin + c) t2)

/-- FOLLOW_UP: the Follow_Up of a two-step Sync gives its t1 (R454). -/
def execFollowUp (n : Fin 36) (domain : Fin 256) (port : Nat × Nat) (seq : Fin 65536) (origin corr : Int) (s : State) :
    Host.Outcome State Fault Refusal :=
  .next (
    match (s.ptpH n).sync with
    | some (q, t2, c) => if s.fromMaster n domain port && q == seq.val then s.syncDone n (origin + c + corr) t2 else s
    | none => s)

/-- The clockIdentity of an instance: its MAC address expanded with 0xFFFE (R454). -/
def State.clockId (s : State) (n : Nat) : List Nat :=
  let m := beBytes 4 (s.rd (PTP_ADDR_VALUE n 0)) ++ beBytes 2 (s.rd (PTP_ADDR_VALUE n 1))
  m.take 3 ++ [0xFF, 0xFE] ++ m.drop 3

/-- The Delay_Req message of an instance (IEEE 1588-2019). -/
def State.delayReq (s : State) (n seq : Nat) : List Nat :=
  let corr := codeOf 64 (-(s.rdInt (PTP_ASYM_NS n)) * 65536)
  [0x01, 0x12] ++ beBytes 2 44 ++ [s.rd (PTP_CFG_DOMAIN n), 0] ++ beBytes 2 (s.rd (PTP_CFG_DELAY n) * 0x0400) ++ beBytes 8 corr
    ++ beBytes 4 0 ++ s.clockId n ++ beBytes 2 (n + 1) ++ beBytes 2 seq ++ [1, 0x7F] ++ List.replicate 10 0

/-- The Ethernet frame of a Delay_Req: over UDP or IEEE 802.3, to the multicast address or to the master's own (R454). -/
def State.delayReqFrame (s : State) (n seq : Nat) (f : Foreign) : List Nat :=
  let unicast := s.on (PTP_CFG_DELAY n)
  let src := beBytes 4 (s.rd (PTP_ADDR_VALUE n 0)) ++ beBytes 2 (s.rd (PTP_ADDR_VALUE n 1))
  let vid := s.rd (PTP_ADDR_VALUE n 3) % 2 ^ 12
  let tag := if vid = 0xFFF then [] else [0x81, 0] ++ beBytes 2 vid
  let msg := s.delayReq n seq
  if s.on (PTP_CFG_TRANSPORT n) then
    withFcs ((if unicast then beBytes 6 f.mac else [0x01, 0x1B, 0x19, 0, 0, 0]) ++ src ++ tag ++ [0x88, 0xF7] ++ msg)
  else
    withFcs ((if unicast then beBytes 6 f.mac else [0x01, 0, 0x5E, 0, 0x01, 0x81]) ++ src ++ tag ++ [0x08, 0]
      ++ ipUdp 0 1 (s.rd (PTP_ADDR_VALUE n 2)) (if unicast then f.ip else 0xE0000181) 319 319 msg)

/-- DELAY_REQ: every 2^LOG_DREQ s an instance with a master sends a Delay_Req (R454). -/
def execDelayReq (n : Fin 36) (s : State) : Host.Outcome State Fault Refusal :=
  .next (
    let h := s.ptpH n
    let port := s.rd (PTP_STATUS_PORT n)
    let last := match h.dreq with | some (_, t, _) => some t | none => none
    let due := match last with | some t => decide (t + intervalUnits (s.rdInt (PTP_CFG_LOG_DREQ n)) ≤ s.now) | none => true
    match h.foreign.find? (fun f => h.chosen == some f.port) with
    | some f =>
      if (port = 2 ∨ port = 3) ∧ due = true then
        let seq := h.dreqSeq
        let s := s.setPtpH n { h with dreq := some (seq, s.now, none), dreqSeq := (seq + 1) % 65536 }
        s.txQueue n (4128 + n) true (s.delayReqFrame n seq f)
      else s
    | none => s)

/-- JUMP_HELD is entered from a state, with its first residual (R460). -/
def State.holdJump (n : Nat) (r : Int) (s : State) : State :=
  let was := s.rd (PTP_STATUS_SERVO n)
  let s := s.setServo n 3
  let s := s.setPtpH n { s.ptpH n with before := was }
  (s.wrInt (PTP_JUMP_NS n) r).raise (PTP_EVENT_JUMP n)

/-- The end of UNCALIBRATED: the servo decides from the mean offset of the 8 exchanges (R458). -/
def State.calibrated (n : Nat) (s : State) : State :=
  let m := meanInt (s.ptpH n).offs
  let s := s.setPort n 3
  let h := s.ptpH n
  if s.rd (PTP_STATUS_SERVO n) = 0 then
    let s := s.setPtpH n { h with offset := h.offset + m, base := (0, s.now) }
    ((s.setServo n 1).raise (PTP_EVENT_STEP n)).ptpChanged
  else
    let r := m - h.base.1 - s.rdInt (PTP_RATE_PPB n) * ((s.now - h.base.2 : Nat) : Int) / sec
    let s := s.wrInt (PTP_OFFS_NS n) r
    if r.natAbs ≤ s.rd (PTP_STEP_LIMIT_NS n) then (s.setPtpH n { h with base := (m, s.now) }).setServo n 1
    else s.holdJump n r

/-- DELAY_RESP: the Delay_Resp of the chosen master completes an exchange: mean path delay, and offset (R457, R458). -/
def execDelayResp (n : Fin 36) (domain : Fin 256) (port : Nat × Nat) (seq : Fin 65536) (t4 corr : Int) (s : State) :
    Host.Outcome State Fault Refusal :=
  .next (
    let h := s.ptpH n
    match h.dreq, h.pair with
    | some (q, t, some t3), some (t1, t2) =>
      if !s.fromMaster n domain port || q != seq.val then s
      else
        let d := ((t2 - t3) + (t4 - t1) - corr) / 2
        let h : PtpH := { h with mpds := (d :: h.mpds).take 16, dreq := some (q, t, none) }
        let s := s.wrInt (PTP_MPD_NS n) h.mpd
        if s.rd (PTP_STATUS_PORT n) = 2 then
          let s := s.setPtpH n { h with offs := (t1 + h.mpd - t2) :: h.offs }
          if h.offs.length = 7 then s.calibrated n else s
        else s.setPtpH n h
    | _, _ => s)

/-! ## The servo -/

/-- The least-squares slope of offsets in ns over instants in time units, in ppb (R457); 0 for fewer than two. -/
def slopePpb (l : List (Nat × Int)) : Int :=
  let n : Int := l.length
  let t0 := l.foldl (fun a e => min a e.1) (l.headD (0, 0)).1
  let xs := l.map fun e => (((e.1 - t0 : Nat) : Int), e.2)
  let sx := xs.foldl (fun a e => a + e.1) 0
  let sy := xs.foldl (fun a e => a + e.2) 0
  let sxy := xs.foldl (fun a e => a + e.1 * e.2) 0
  let sxx := xs.foldl (fun a e => a + e.1 * e.1) 0
  let d := n * sxx - sx * sx
  if d = 0 then 0 else (n * sxy - sx * sy) * (sec : Int) / d

/-- The rate estimate has moved by more than 50 ppb within 8 s. -/
def rateMoved (l : List Int) : Bool :=
  match l with
  | r :: rest => (rest.take 8).any fun q => decide (50 < (r - q).natAbs)
  | [] => false

/-- The rate estimate lies within 10 ppb of its value 8 s earlier. -/
def rateSettled (l : List Int) : Bool :=
  match l, l[8]? with
  | r :: _, some q => decide ((r - q).natAbs ≤ 10)
  | _, _ => false

/-- An evaluation in JUMP_HELD: the return first, then acceptance (R459, R460). -/
def State.evaluateHeld (n : Nat) (r : Int) (s : State) : State :=
  let h := s.ptpH n
  let within := if r.natAbs ≤ s.rd (PTP_STEP_LIMIT_NS n) then h.within + 1 else 0
  let stable := if (r - s.rdInt (PTP_JUMP_NS n)).natAbs ≤ 1000 then h.stable + 1 else 0
  if within = 3 then
    (s.setServo n h.before).raise (PTP_EVENT_JUMP_CLEARED n)
  else if h.accept || (s.on (PTP_CFG_AUTO_ACCEPT n) && decide (s.rd (PTP_CFG_ACCEPT_S n) ≤ stable)) then
    let s := (s.setPtpH n { h with offset := h.offset + r }).setServo n 1
    s.raise (PTP_EVENT_STEP n)
  else s.setPtpH n { h with within := within, stable := stable }

/-- SERVO_EVALUATION: once a second from entry to SLAVE, on the mean offset of the second (R457, R459, R460). An evaluation
whose residual is beyond the limit, or in JUMP_HELD, leaves the history as it is. A second without a Sync has none. -/
def execServoEvaluation (n : Fin 36) (s : State) : Host.Outcome State Fault Refusal :=
  .next (
    let h := s.ptpH n
    if s.rd (PTP_STATUS_PORT n) ≠ 3 ∨ s.now < h.evalAt + sec then s
    else if h.offs.isEmpty then s.setPtpH n { h with evalAt := h.evalAt + sec }
    else
      let m := meanInt h.offs
      let r := m - h.base.1 - s.rdInt (PTP_RATE_PPB n) * ((s.now - h.base.2 : Nat) : Int) / sec
      let s := s.wrInt (PTP_OFFS_NS n) r
      let good := decide (r.natAbs ≤ s.rd (PTP_STEP_LIMIT_NS n))
      let hist := if good then (s.now, m) :: h.hist.filter fun e => decide (s.now < e.1 + 8 * sec) else h.hist
      let rate := if good && decide (2 ≤ hist.length) then slopePpb hist else s.rdInt (PTP_RATE_PPB n)
      let rates := (rate :: h.rates).take 17
      let s := (s.wrInt (PTP_RATE_PPB n) rate).setPtpH n { h with
        evalAt := h.evalAt + sec, offs := [], hist := hist, rates := rates, base := if good then (m, s.now) else h.base }
      let s := match s.rd (PTP_STATUS_SERVO n) with
        | 1 =>
          if !good then s.holdJump n r
          else if h.servoAt + 16 * sec ≤ s.now && rateSettled rates then s.setServo n 2 else s
        | 2 => if !good then s.holdJump n r else if rateMoved rates then s.setServo n 1 else s
        | 3 => s.evaluateHeld n r
        | _ => s
      s.ptpChanged)

/-- PTP_CTRL.ACCEPT: the held jump is accepted at the next evaluation; outside JUMP_HELD it is ignored (R460). -/
def State.ptpAccept (n : Nat) (s : State) : State :=
  if s.rd (PTP_STATUS_SERVO n) = 3 then s.setPtpH n { s.ptpH n with accept := true } else s.raise (PTP_EVENT_ACC_IGN n)

/-- PTP_CTRL.RESTART: the servo is NO_TIME, and a working port LISTENING (R461). -/
def State.ptpRestart (n : Nat) (s : State) : State :=
  let port := s.rd (PTP_STATUS_PORT n)
  let s := (s.setPtpH n { s.ptpH n with foreign := [] }).dropMaster n
  let s := if port = 0 ∨ port = 4 then s else s.setPort n 1
  (s.setServo n 0).ptpChanged

/-- The limits of writes to the registers of an instance, and what follows a write of PTP_CFG. -/
def State.ptpWritten (n : Nat) (s : State) : State :=
  let s := s.wr (PTP_CFG_DOMAIN n) (min (s.rd (PTP_CFG_DOMAIN n)) 127)
  let l := s.rdInt (PTP_CFG_LOG_DREQ n)
  let s := s.wrInt (PTP_CFG_LOG_DREQ n) (if l < -7 then -7 else if 0 < l then 0 else l)
  let s := s.wr (PTP_CFG_ANN_TO n) (clampNat 2 7 (s.rd (PTP_CFG_ANN_TO n)))
  let s := s.when (s.rd (PTP_CFG_ACCEPT_S n) == 0) fun s => s.wr (PTP_CFG_ACCEPT_S n) 1
  let s := s.wr (PTP_STEP_LIMIT_NS n) (clampNat 100 100000000 (s.rd (PTP_STEP_LIMIT_NS n)))
  s.ptpCheck n

/-- A read of PTP_DT(0) latches the rest of device time (PTP_DT). -/
def State.latchDeviceTime (s : State) : State :=
  let t := s.deviceNs
  ((s.wr (PTP_DT_VALUE 0) (t / 1000000000)).wr (PTP_DT_VALUE 1) (t / 1000000000 / 2 ^ 32 % 2 ^ 16)).wr (PTP_DT_VALUE 2) (t % 1000000000)

end Sys2Proof.Machine
end

