-- ==== Sys2Proof/Machine/Heads.lean ====
section
/-! DEFINITION. Multiviewer heads: staged sets, commits, latches and flips, LUTs, region push; and the input frame start, whose
skim and copy writers heed the frames that heads hold (R463 to R502). -/

namespace Sys2Proof.Machine

/-! ## Layers -/

/-- The staged state of layer `j`. -/
def State.stagedLayer (s : State) (h j : Nat) : LayerH where
  src := s.word (MVH_LSRC h j)
  crop := s.word (MVH_LCROP h j)
  csize := s.word (MVH_LCSIZE h j)
  dpos := s.word (MVH_LDPOS h j)
  dsize := s.word (MVH_LDSIZE h j)
  ctrl := s.word (MVH_LCTRL h j)
  fence := s.word (MVH_LFENCE_N h j)
  value := s.word (MVH_LFENCE_V h j)

/-- The staged set of a head, as a commit with a SEQ and an instant (R480). -/
def State.stagedSet (s : State) (h seq c : Nat) : SetH where
  seq := seq
  at_ := c
  globals := [s.word (MVH_STAGE h), s.word (MVH_BG h), s.word (MVH_NOSIG h)] ++ (rangeFrom 0 4).map fun k => s.word (MVH_PALETTE h k)
  layers := (rangeFrom 0 8).map fun j => s.stagedLayer h j

/-- MVH_STAGE of a set. -/
def SetH.stage (c : SetH) : Nat := (c.globals.headD 0).toNat

/-- The plan of a head, and its raster (Table 12-1); nothing for a format without one. -/
def State.headPlan (s : State) (h : Nat) : Nat := s.rd (MVH_CFG_PLAN h)
def headRaster (format : Nat) : Nat × Nat := if 2 ≤ format ∧ format ≤ 6 then (prfRasterW format, prfRasterH format) else (0, 0)
def State.raster (s : State) (h : Nat) : Nat × Nat := headRaster (s.planH (s.headPlan h)).format

/-- The condition of Table 12-4 that an enabled layer fails first; 0 for none. -/
def State.layerFault (s : State) (h j : Nat) (l : LayerH) : Nat :=
  let (w, t) := s.raster h
  if s.rd (MVH_CFG_NLAYERS h) ≤ j then 1
  else if w < l.destX + l.destW ∨ t < l.destY + l.destH ∨ l.destX % 2 = 1 ∨ l.destW % 2 = 1 ∨ l.destW < 16 ∨ l.destH < 8 then 2
  else if l.cropX % 2 = 1 ∨ l.cropW % 2 = 1 ∨ 4096 < l.cropW then 3
  else if 8 * l.destW < l.cropW ∨ 8 * l.cropW < l.destW ∨ 4 * l.destH < l.cropH ∨ 8 * l.cropH < l.destH then 4
  else if l.kind = 3 ∨ l.level = 3 ∨ (l.kind = 0 ∧ 4607 < l.id) ∨ (l.kind = 1 ∧ 1 < l.id)
      ∨ (l.kind = 2 ∧ (l.pitch < l.cropX + l.cropW ∨ 728000000 < l.id * 500000 + 3 * l.pitch * (l.cropY + l.cropH))) then 5
  else if l.destW < 2 * l.border ∨ l.destH < 2 * l.border then 6
  else 0

/-- The first enabled layer of the staged set that fails, with its reason (R473). -/
def State.stageFault (s : State) (h : Nat) : Option (Nat × Nat) :=
  ((rangeFrom 0 8).map fun j => (j, if (s.stagedLayer h j).on then s.layerFault h j (s.stagedLayer h j) else 0)).find? fun e => e.2 != 0

/-! ## Commits -/

/-- HCOMMIT on a head at instant C, after the ownership check: a status of Table 07-7 (R480, R481). -/
def State.headCommit (h c : Nat) (s : State) : State × Nat :=
  if !s.on (MVH_CFG_EN h) then (s, stBusy)
  else match s.stageFault h with
    | some (j, reason) =>
      (((s.wr (MVH_STATUS_STAGE_LAYER h) j).wr (MVH_STATUS_STAGE_REASON h) reason).raise (MVH_EVENT_STAGE_ERR h), stInvalid)
    | none =>
      let seq := (s.rd (MVH_COMMIT_SEQ h) + 1) % 2 ^ 16
      let m := s.mvhH h
      let s := if m.pending.isSome then (s.bump (MVH_CNT_COUNT h 3)).raise (MVH_EVENT_SUPERSEDED h) else s
      let s := s.setMvhH h { m with pending := some (s.stagedSet h seq c) }
      ((s.wr (MVH_COMMIT_SEQ h) seq).wr (MVH_STATUS_PENDING h) 1, stDone)

/-! ## Charges and copies -/

/-- The HEAD charge of an enabled layer, in kb/s (R478). -/
def State.layerCharge (s : State) (h : Nat) (l : LayerH) : Nat :=
  if l.on then chargeOf (l.cropW * l.cropH * (if l.kind = 0 then 20 else 24) / 8) (s.planH (s.headPlan h)).rate else 0

/-- The charge of region push, on layer 0 (R478). -/
def State.pushCharge (s : State) (h : Nat) : Nat :=
  let (w, t) := s.raster h
  if s.on (MVH_CFG_OUT_RP h) then 2 * chargeOf (w * t * 20 / 8) (s.planH (s.headPlan h)).rate else 0

/-- What layer `j` with a state needs to be charged. -/
def State.needCharge (s : State) (h j : Nat) (l : LayerH) : Nat := s.layerCharge h l + if j = 0 then s.pushCharge h else 0

/-- What layer `j` of a head is charged. -/
def State.haveCharge (s : State) (h j : Nat) : Nat :=
  (s.adm.granted.filter fun e => e.1.cls == 4 && e.1.id == h * 8 + j).foldl (fun a e => a + e.2) 0

/-- A charge increase is requested, unless the same request is pending (R478). -/
def State.askCharge (h j need : Nat) (s : State) : State :=
  let l : Load := { cls := 4, id := h * 8 + j, sub := 1 }
  let more := need - s.haveCharge h j
  if s.adm.waiting.any fun e => e.1 == l && e.2 == more then s
  else
    let s := s.unwait l
    if more = 0 then s.showAdmission else s.decideLoad false l more

/-- The charge of layer `j` falls to what its displayed state needs; 0 withdraws it (R478). -/
def State.lowerCharge (h j need : Nat) (s : State) : State :=
  if s.haveCharge h j ≤ need then s
  else
    let rest := s.adm.granted.filter fun e => !(e.1.cls == 4 && e.1.id == h * 8 + j)
    let s := { s with adm := { s.adm with
      granted := if need = 0 then rest else rest ++ [(({ cls := 4, id := h * 8 + j } : Load), need)] } }
    s.showAdmission.updateLtr

/-- The load of an L0 copy. -/
def copyLoad (i : Nat) : Load := { cls := 1, id := i }

/-- Whether a layer state reads an L0 copy of an input: L0, of an input that is not in effective mode CELLAR (R471). -/
def State.wantsCopy (s : State) (l : LayerH) : Bool :=
  l.on && l.kind == 0 && l.level == 0 && s.on (XPT_IN_STAT_PRESENT l.id) && s.rd (XPT_IN_STAT_MODE_EFF l.id) != 2

/-- Layer states of a head that are displayed, held, about to flip or pending. -/
def MvhH.layers (m : MvhH) : List LayerH :=
  (match m.shown with | some c => c.layers | none => []) ++ m.held.map (·.2)
    ++ (match m.flip with | some f => f.layers.map (·.2) | none => []) ++ (match m.pending with | some c => c.layers | none => [])
    ++ (match m.again with | some c => c.layers | none => [])

/-- Copies that no layer of any head uses are withdrawn (R471). -/
def State.freeCopies (s : State) : State :=
  let used (i : Nat) : Bool := (rangeFrom 0 32).any fun h => (s.mvhH h).layers.any fun l => s.wantsCopy l && l.id == i
  s.forL ((s.adm.granted ++ s.adm.waiting).filter fun e => e.1.cls == 1 && !used e.1.id) fun e s => s.withdrawLoad e.1

/-- The newest frame of an input that was complete at instant `t`. -/
def InH.completeBy (i : InH) (t : Nat) : Option Nat :=
  i.complete.bind fun k => if i.doneAt ≤ t then some k else if k = 0 then none else some (k - 1)

/-- The newest frame of a rotation that was complete at instant `t`. -/
def InH.newest (i : InH) (copy : Bool) (t : Nat) : Option Nat :=
  match i.completeBy t with
  | some k => ((if copy then i.copy else i.skim).find? fun n => decide (n ≤ k))
  | none => none

/-- The fence of a layer is signalled (R483). -/
def State.fenceOpen (s : State) (l : LayerH) : Bool := !l.fenced || s.fenceReached (l.fence.toNat % 256) l.value.toNat

/-- The charges and the copy of a layer have been granted, and its copy holds a complete frame (R483). -/
def State.layerAdmitted (s : State) (h j : Nat) (l : LayerH) : Bool :=
  decide (s.needCharge h j l ≤ s.haveCharge h j)
    && (!s.wantsCopy l || (s.holdsLoad (copyLoad l.id) && ((s.inH l.id).newest true s.now).isSome))

/-- A layer of a taken commit is ready (R483). -/
def State.layerReady (s : State) (h j : Nat) (l : LayerH) : Bool := !l.on || (s.fenceOpen l && s.layerAdmitted h j l)

/-! ## The displayed set -/

/-- The latency tolerance of a head (R479). -/
def State.headTolerance (s : State) (h : Nat) (layers : List LayerH) : Nat :=
  let p := s.planH (s.headPlan h)
  let k := if p.format = 3 ∨ p.format = 4 ∨ p.format = 6 then 2 else 1
  let tol (l : LayerH) : Nat :=
    let n := l.cropH * k
    (12 - (n + l.destH - 1) / l.destH) * l.destH * framePeriod p.rate / (n * totalLines p.format * ns)
  (layers.filter fun l => l.on && l.cropH != 0 && l.destH != 0).foldl (fun m l => min m (min (tol l) 65534)) 0xFFFF

/-- Show the displayed and held layers in MVH_LSTAT, MVH_STATUS and the tolerance of the head. -/
def State.showLayers (h : Nat) (s : State) : State :=
  let m := s.mvhH h
  let s := s.forN 8 fun j s =>
    let held := m.held.any fun e => e.1 == j
    let s := s.wrB (MVH_LSTAT_HELD h j) held
    let s := if held then s else s.wr (MVH_LSTAT_ADM_REASON h j) 0
    let s := s.wr (MVH_LSTAT_CHARGE h j) (min (s.haveCharge h j / 1000) 65535)
    match m.shownLayers[j]? with
    | some l =>
      let s := (s.wrB (MVH_LSTAT_SHOWN h j) l.on).wrB (MVH_LSTAT_NOSRC h j) (s.layerBlind l)
      (s.wrB (MVH_LSTAT_RATE_HI h j) (s.layerFast h l)).wrB (MVH_LSTAT_COPY h j) (s.wantsCopy l)
    | none => ((s.wr (MVH_LSTAT_SHOWN h j) 0).wr (MVH_LSTAT_NOSRC h j) 0).wr (MVH_LSTAT_RATE_HI h j) 0 |>.wr (MVH_LSTAT_COPY h j) 0
  let s := s.wr (MVH_STATUS_HELD h) (m.held.foldl (fun a e => a ||| 2 ^ e.1) 0)
  (s.wr (CLR_LTR_NS (8 + h)) (s.headTolerance h m.shownLayers)).wakeChannels

/-- Whether a head runs. -/
def State.headRuns (s : State) (h : Nat) : Bool := s.on (MVH_STATUS_STATE h) && s.carries (51 + h)

/-- Show the frame counter of a head (R466). -/
def State.showHeadFrame (h : Nat) (s : State) : State :=
  if s.on (MVH_STATUS_STATE h) then s.wr (MVH_FRAME_COUNT h) (wrap32 (s.frameOf (s.headPlan h) - (s.mvhH h).base)) else s

/-! ## Region push -/

/-- The checks that keep a stream inactive are made, and it becomes active or inactive (R495). -/
def State.pushCheck (h : Nat) (s : State) : State :=
  let n := s.rd (MVH_RP_CFG_TRELLIS h)
  let want := s.on (MVH_CFG_OUT_RP h) && s.headRuns h && s.packetMode n
  let fits := decide (s.rd (MVH_RP_PKT_PAYLOAD h) + 82 ≤ s.rd (PKT_CFG_MAX_LEN n))
  let room := decide (s.txRates n 4096 - (if s.on (MVH_RP_STAT_ACTIVE h) then s.rd (MVH_RP_RATE_MBPS h) else 0) + s.rd (MVH_RP_RATE_MBPS h) ≤ 379810)
  let s := (s.wrB (MVH_RP_STAT_BIND_ERR h) (want && !fits)).wrB (MVH_RP_STAT_BUDGET h) (want && fits && !room)
  let act := want && fits && room
  let was := s.on (MVH_RP_STAT_ACTIVE h)
  let s := s.wrB (MVH_RP_STAT_ACTIVE h) act
  let s := if act && !was then
      s.setMvhH h { s.mvhH h with push := { frame := s.frameOf (s.headPlan h), tiles := (s.mvhH h).push.tiles } }
    else if was && !act then s.setMvhH h { s.mvhH h with push := {} } else s
  if n < 36 then s.showTxUsed n else s

/-! ## Starting and stopping -/

/-- The outputs that carry a head's return lose it. -/
def State.loseHead (h : Nat) (s : State) : State := s.forL (s.destsOf (4608 + 4 * h)) fun d s => s.loseSource d

/-- A head stops carrying a picture; what it keeps is decided by its caller. -/
def State.headOff (h : Nat) (s : State) : State :=
  if !s.on (MVH_STATUS_STATE h) then s
  else
    let s := s.wr (MVH_STATUS_STATE h) 0
    let s := (s.setMvhH h { s.mvhH h with shown := none, flip := none, under := 0, holds := [] }).pushCheck h
    (s.loseHead h).showLayers h

/-- A write of EN = 1: the head starts at its plan's next frame boundary (R486). -/
def State.headEnable (h : Nat) (s : State) : State := s.setMvhH h { s.mvhH h with starting := some s.now, stopping := none }

/-- A write of EN = 0: the head stops at the next frame boundary (R487). -/
def State.headDisable (h : Nat) (s : State) : State :=
  s.setMvhH h { s.mvhH h with starting := none, stopping := some (s.frameOf (s.headPlan h)) }

/-- A head's domain has become ready again: an enabled head starts with what it has kept (R488). -/
def State.headReady (h : Nat) (s : State) : State := if s.on (MVH_CFG_EN h) then s.headEnable h else s

/-- HEAD_START: at the first frame boundary of its plan at or after EN = 1 the head starts with the background alone (R463,
R466, R486). -/
def execHeadStart (h : Fin 32) (s : State) : Host.Outcome State Fault Refusal :=
  .next (
    let p := s.headPlan h
    let k := s.frameOf p
    match (s.mvhH h).starting with
    | some t =>
      if !s.carries (51 + h) || !s.on (PLN_STATUS_RUN p) || decide ((s.planH p).frameStart k < t) then s
      else
        let s := (s.wr (MVH_STATUS_STATE h) 1).wr (MVH_FRAME_COUNT h) 0
        let s := s.setMvhH h { s.mvhH h with
          starting := none, base := k, clean := k + 2, at_ := k, decided := none, shown := none, flip := none }
        let s := if s.headComposes h then s else s.raise (MVH_EVENT_FMT_BAD h)
        (s.pushCheck h).showLayers h
    | none => s)

/-- HEAD_STOP: at the next frame boundary the head stops; its pending commit and held states are discarded, its charges and
copies withdrawn (R487). -/
def execHeadStop (h : Fin 32) (s : State) : Host.Outcome State Fault Refusal :=
  .next (
    let p := s.headPlan h
    match (s.mvhH h).stopping with
    | some k =>
      if s.on (PLN_STATUS_RUN p) && s.on (MVH_STATUS_STATE h) && decide (s.frameOf p ≤ k) then s
      else
        let s := s.headOff h
        let s := s.setMvhH h { s.mvhH h with stopping := none, pending := none, again := none, held := [] }
        let s := s.forN 8 fun j s => (s.unwait { cls := 4, id := h * 8 + j, sub := 1 }).lowerCharge h j 0
        ((s.wr (MVH_STATUS_PENDING h) 0).freeCopies.showAdmission).showLayers h
    | none => s)

/-! ## Retiming -/

/-- A head whose plan has a new timing or runs again: background alone until its latch, which takes the displayed set again
where no commit is pending (R463, R489, R490). -/
def State.retimeHead (h : Nat) (s : State) : State :=
  let f := s.frameOf (s.headPlan h)
  let m := s.mvhH h
  let s := s.setMvhH h { m with shown := none, again := m.shown.orElse fun _ => m.again, flip := none, clean := f + 2, at_ := f,
                                decided := none, push := { frame := f, retimed := true } }
  let s := (s.wr (MVH_STATUS_STATE h) 3).raise (MVH_EVENT_RETIMED h)
  let s := if s.headComposes h then s else s.raise (MVH_EVENT_FMT_BAD h)
  s.showLayers h

/-- Heads of plan `p` after a change of its timing; where the return's width changes, destinations whose route no longer
fits follow their loss policy (R489, R492). -/
def State.retimeHeads (p oldFormat : Nat) (s : State) : State :=
  s.forN 32 fun h s =>
    if s.headPlan h ≠ p then s
    else
      let s := if s.headRuns h then s.retimeHead h else s
      if (oldFormat = 6) == ((s.planH p).format = 6) then s
      else (s.loseHead h).raise (MVH_EVENT_WIDTH_CHG h)

/-- The plan of heads stops: they send nothing and keep their commits (R490). -/
def State.planStopHeads (p : Nat) (s : State) : State :=
  s.forN 32 fun h s =>
    if s.headPlan h = p ∧ s.on (MVH_STATUS_STATE h) then
      let m := s.mvhH h
      (s.setMvhH h { m with again := m.shown.orElse fun _ => m.again }).headOff h
    else s

/-- The plan of heads runs again: enabled heads restart (R490). -/
def State.planStartHeads (p : Nat) (s : State) : State :=
  s.forN 32 fun h s =>
    if s.headPlan h = p ∧ s.on (MVH_CFG_EN h) ∧ (s.mvhH h).starting.isNone ∧ s.carries (51 + h) then s.retimeHead h else s

/-- Clip a layer's destination to a raster (R489). -/
def LayerH.clip (w t : Nat) (l : LayerH) : LayerH :=
  let x := min l.destX w
  let y := min l.destY t
  { l with
    dpos := BitVec.ofNat 32 (x + y * 2 ^ 16),
    dsize := BitVec.ofNat 32 (min l.destW (w - x) + min l.destH (t - y) * 2 ^ 16) }

/-! ## The latch -/

/-- Latch line of a format (Table 12-1). -/
def latchLine (format : Nat) : Nat := match format with | 2 => 746 | 3 | 4 => 1124 | _ => 1122

/-- The latch point of a head in the plan frame in progress, where it occurs (R482). -/
def State.latchPoint (s : State) (h : Nat) : Option Nat :=
  let p := s.headPlan h
  let k := s.frameOf p
  let l := latchLine (s.planH p).format
  if s.headComposes h && s.lineOccurs p k l then some ((s.planH p).lineStart k l) else none

/-- Charge increases and copies that layers need are requested (R471, R478). -/
def State.askLayers (h : Nat) (layers : List LayerH) (s : State) : State :=
  s.forL layers.zipIdx fun e s =>
    let s := s.askCharge h e.2 (s.needCharge h e.2 e.1)
    if s.wantsCopy e.1 then s.askLoad (copyLoad e.1.id) (frameCharge (s.rd (XPT_IN_STAT_FORMAT e.1.id)) (s.rd (XPT_IN_STAT_RATE e.1.id)))
    else s

/-- A held state is counted for its fence or its admission (R484). -/
def State.countHold (h j : Nat) (l : LayerH) (s : State) : State :=
  let s := if s.fenceOpen l then s else (s.bump (MVH_CNT_COUNT h 1)).raise (MVH_EVENT_FENCE_HOLD h)
  if s.layerAdmitted h j l then s else (s.bump (MVH_CNT_COUNT h 2)).raise (MVH_EVENT_ADM_HOLD h)

/-- A latch takes a commit: ready layers flip at the next boundary, the others are held (R484). -/
def State.takeCommit (h : Nat) (c : SetH) (s : State) : State :=
  let rows := c.layers.zipIdx.map fun e => (e.2, e.1)
  let ready := rows.filter fun e => s.layerReady h e.1 e.2
  let held := rows.filter fun e => !s.layerReady h e.1 e.2
  let s := s.forL held fun e s => s.countHold h e.1 e.2
  let m := s.mvhH h
  let s := s.setMvhH h { m with
    pending := if (m.pending.map (·.seq)) = some c.seq then none else m.pending, again := none, held := held,
    flip := some { seq := c.seq, taken := some c, layers := ready } }
  ((s.wr (MVH_COMMIT_TAKEN h) c.seq).wrB (MVH_STATUS_PENDING h) (s.mvhH h).pending.isSome).showLayers h

/-- Held states that are ready flip at the next boundary (R484). -/
def State.takeHeld (h : Nat) (s : State) : State :=
  let m := s.mvhH h
  let ready := m.held.filter fun e => s.layerReady h e.1 e.2
  if ready.isEmpty then s
  else
    (s.setMvhH h { m with
      held := m.held.filter (fun e => !s.layerReady h e.1 e.2),
      flip := some { seq := s.rd (MVH_COMMIT_TAKEN h), taken := none, layers := ready } }).showLayers h

/-- The layers that the next frame shows. -/
def MvhH.nextLayers (m : MvhH) : List LayerH :=
  match m.flip with
  | none => m.shownLayers
  | some f => (rangeFrom 0 8).filterMap fun j =>
    match f.layers.find? fun e => e.1 == j with
    | some e => some e.2
    | none => match m.shownLayers[j]? with | some l => some l | none => (f.taken.bind fun c => c.layers[j]?).map fun l => { l with ctrl := 0 }

/-- The newest complete frame of its source that a KIND 0 layer can read: of the frame store at L0 in effective mode CELLAR, else of its rotation,
as it stood at instant `t` (R469, R471). -/
def State.newestFor (s : State) (l : LayerH) (t : Nat) : Option Nat :=
  if l.level = 0 ∧ !s.wantsCopy l then (s.inH l.id).completeBy t else (s.inH l.id).newest (s.wantsCopy l) t

/-- Each KIND 0 layer of the next frame takes the frame of its source that was the newest complete one at latch point `t`, and holds it in its
rotation (R469). -/
def State.selectFrames (h t : Nat) (s : State) : State :=
  let m := s.mvhH h
  let holds := m.nextLayers.zipIdx.filterMap fun e =>
    let l := e.1
    let copy := s.wantsCopy l
    if l.on && l.kind == 0 && (copy || l.level != 0) then
      ((s.inH l.id).newest copy t).map fun n => (e.2, l.id, copy, n)
    else none
  let picks := m.nextLayers.zipIdx.filterMap fun e =>
    if e.1.on && e.1.kind == 0 then (s.newestFor e.1 t).map fun n => (e.2, e.1.id, n) else none
  s.setMvhH h { m with holds := holds, picks := picks }

/-- LATCH_DECISION: 16 µs after the latch point λ, the head takes the pending commit if its instant is earlier than λ, or
after a retiming the displayed set again; held states that are ready flip too (R469, R482 to R485, R489). -/
def execLatchDecision (h : Fin 32) (s : State) : Host.Outcome State Fault Refusal :=
  .next (
    match s.latchPoint h with
    | none => s
    | some t =>
      let m := s.mvhH h
      let k := s.frameOf (s.headPlan h)
      if !s.headRuns h || decide (s.now < t + 16 * us) || m.decided == some k then s
      else
        let s := s.setMvhH h { m with decided := some k }
        let (w, r) := s.raster h
        let clip (c : SetH) : SetH := if s.rd (MVH_STATUS_STATE h) = 3 then { c with layers := c.layers.map (LayerH.clip w r) } else c
        let taken := match m.pending with
          | some c => if c.at_ < t then some (clip c) else m.again.map clip
          | none => m.again.map clip
        let s := match taken with
          | some c =>
            let s := s.askLayers h c.layers
            if bit c.stage 0 && !(c.layers.zipIdx.all fun e => s.layerReady h e.2 e.1) then s else s.takeCommit h c
          | none => s.takeHeld h
        s.selectFrames h t)

/-! ## The flip -/

/-- The displayed set after a flip: the globals of a taken commit, and each layer that shows a new state. -/
def MvhH.flipped (m : MvhH) (f : FlipH) : SetH :=
  let old := m.shown
  { seq := f.seq, at_ := 0,
    globals := match f.taken with | some c => c.globals | none => match old with | some c => c.globals | none => [],
    layers := m.nextLayers }

/-- A head frame that has ended is compared with its expected checks (R501). -/
def State.expectedCheck (h : Nat) (s : State) : State :=
  let m := s.mvhH h
  let src := 4608 + 4 * h
  let rec_ := (s.recsOf src).find? fun c => c.tag == frameTag src (m.at_ - m.base)
  let seq := match m.shown with | some c => c.seq | none => 0
  if !s.on (MVH_EXP_CFG_EN h) then s.wr (MVH_EXP_STAT_LAST h) 0
  else match m.shown, rec_ with
    | some _, some c =>
      if seq ≠ s.rd (MVH_EXP_CFG_EXP_SEQ h) ∨ !m.held.isEmpty ∨ m.at_ < m.clean ∨ c.invalid ∨ !s.on PRF_CFG_EN then s.wr (MVH_EXP_STAT_LAST h) 0
      else if (indicesWhere 4 fun k => bit (s.rd (MVH_EXP_CFG_MASK h)) k && bit c.valid k).all fun k => c.crc.getD k 0 == s.rd (MVH_EXP_CRC_CRC h k) then
        (s.wr (MVH_EXP_STAT_LAST h) 1).wr (MVH_EXP_STAT_RUN h) 0
      else
        let s := ((s.wr (MVH_EXP_STAT_LAST h) 2).bump (MVH_EXP_STAT_RUN h)).bump (MVH_EXP_CNT_COUNT h)
        if 3 ≤ s.rd (MVH_EXP_STAT_RUN h) then s.raise (MVH_EVENT_EXP_FAIL h) else s
    | _, _ => s.wr (MVH_EXP_STAT_LAST h) 0

/-- Record a flip (R494). -/
def State.recordFlip (h : Nat) (f : FlipH) (s : State) : State :=
  let p := s.headPlan h
  let k := s.frameOf p
  let n := s.rd (MVH_CFG_PTP_SEL h)
  let t : Int := (((s.planH p).frameStart k : Int) - s.top.t0) / 6 + (s.ptpH n).offset
  let s := (s.wr (MVH_FLIP_F_FRAME h) (wrap32 k)).wr (MVH_FLIP_SEQ_SEQ h) f.seq
  let s := s.wr (MVH_FLIP_SEQ_LAYERS h) (f.layers.foldl (fun a e => a ||| 2 ^ e.1) 0)
  let s := if s.rateLocked n then
      ((s.wr (MVH_FLIP_PTP_S_SEC h) (t / 1000000000 % (2 ^ 32 : Nat)).toNat).wr (MVH_FLIP_PTP_NS_NS h) (t % 1000000000).toNat).wr
        (MVH_FLIP_PTP_NS_VALID h) 1
    else s.wr (MVH_FLIP_PTP_NS_VALID h) 0
  s.raise (MVH_EVENT_FLIP h)

/-- FLIP: at a frame boundary of its plan, the head's frame that has ended is checked, the frame counter advances, and what
the last decision made ready is shown (R466, R478, R484, R493, R494, R501). -/
def execFlip (h : Fin 32) (s : State) : Host.Outcome State Fault Refusal :=
  .next (
    let k := s.frameOf (s.headPlan h)
    let m := s.mvhH h
    if !s.headRuns h || !s.on (PLN_STATUS_RUN (s.headPlan h)) || decide (k ≤ m.at_) then s
    else
      let s := s.expectedCheck h
      let s := s.forN 8 fun j s => s.wrB (MVH_LSTAT_UNDERRUN_LAST h j) (bit m.under j)
      let s := s.setMvhH h { s.mvhH h with at_ := k, under := 0, underAt := [], reads := m.picks }
      let s := (s.wr (MVH_STATUS_STATE h) 2).showHeadFrame h
      match m.flip with
      | none => s.showLayers h
      | some f =>
        let s := s.setMvhH h { s.mvhH h with shown := some (m.flipped f), flip := none }
        let s := s.forL f.layers fun e s => s.lowerCharge h e.1 (s.needCharge h e.1 e.2)
        (s.freeCopies.recordFlip h f).showLayers h)

/-- UNDERRUN: a layer that lacks data is transparent for the rest of the frame, counted once per layer and frame (R493). -/
def execUnderrun (h : Fin 32) (j : Fin 8) (s : State) : Host.Outcome State Fault Refusal :=
  .next (
    let m := s.mvhH h
    if !s.headRuns h || bit m.under j || !(match m.shownLayers[j.val]? with | some l => l.on | none => false) then s
    else
      let line := ((s.planH (s.headPlan h)).posAt s.now).line
      let s := (s.setMvhH h { m with under := m.under + 2 ^ j.val, underAt := (j.val, line) :: m.underAt }).bump (MVH_CNT_COUNT h 0)
      (s.wr (MVH_LSTAT_UNDERRUN_LAST h j) 1).raise (MVH_EVENT_UNDERRUN h))

/-! ## LUTs and register writes -/

/-- Whether a set of layer states selects a bank of a pre-blend LUT. -/
def selectsBank (layers : List (Nat × LayerH)) (lut bank : Nat) : Bool :=
  layers.any fun e => e.1 == lut && e.2.on && e.2.lutOn && e.2.lutBank == bank

/-- Whether a bank of a LUT is in use (R476). -/
def State.lutInUse (s : State) (h lut bank : Nat) : Bool :=
  let m := s.mvhH h
  let rows (l : List LayerH) : List (Nat × LayerH) := l.zipIdx.map fun e => (e.2, e.1)
  let sets := m.shown.toList ++ m.pending.toList ++ m.again.toList ++ (match m.flip with | some f => f.taken.toList | none => [])
  if lut = 8 then sets.any fun c => bit c.stage 1 && c.stage / 4 % 2 == bank
  else sets.any (fun c => selectsBank (rows c.layers) lut bank) || selectsBank m.held lut bank
    || selectsBank (match m.flip with | some f => f.layers | none => []) lut bank

/-- The identity entry of a LUT. -/
def lutIdentity (k : Nat) : Nat := k % 1024 * (1 + 2 ^ 10 + 2 ^ 20)

/-- Key of the LUT entry that MVH_LUT_ADDR names. -/
def State.lutKey (s : State) (h : Nat) : Nat :=
  (s.rd (MVH_LUT_ADDR_BANK h) * 16 + s.rd (MVH_LUT_ADDR_LUT h)) * 1024 + s.rd (MVH_LUT_ADDR_INDEX h)

/-- INDEX advances at each access. -/
def State.lutNext (h : Nat) (s : State) : State := s.wr (MVH_LUT_ADDR_INDEX h) (s.rd (MVH_LUT_ADDR_INDEX h) + 1)

/-- A write of MVH_LUT_DATA (R476). -/
def State.lutWrite (h v : Nat) (s : State) : State :=
  let lut := s.rd (MVH_LUT_ADDR_LUT h)
  let s := if 8 < lut then s
    else if s.lutInUse h lut (s.rd (MVH_LUT_ADDR_BANK h)) then s.raise (MVH_STATUS_LUT_WERR h)
    else s.setMvhH h { s.mvhH h with lut := storeSet lutIdentity (s.mvhH h).lut (s.lutKey h) (v % 2 ^ 30) }
  s.lutNext h

/-- A read of MVH_LUT_DATA. -/
def State.lutRead (h : Nat) (s : State) : State × Nat :=
  let v := if 8 < s.rd (MVH_LUT_ADDR_LUT h) then 0 else storeGet lutIdentity (s.mvhH h).lut (s.lutKey h)
  (s.lutNext h, v)

/-- After a write of a head's registers, given the state before it: MVH_CFG.PLAN is refused while EN is 1, and EN, NLAYERS,
PAYLOAD and RATE take the values they may (R486, R487). -/
def State.mvhWritten (h : Nat) (s old : State) : State :=
  let s := if old.on (MVH_CFG_EN h) && s.rd (MVH_CFG_PLAN h) != old.rd (MVH_CFG_PLAN h) then
      (s.wr (MVH_CFG_PLAN h) (old.rd (MVH_CFG_PLAN h))).raise (MVH_STATUS_CFG_REFUSED h) else s
  let s := s.wr (MVH_CFG_NLAYERS h) (clampNat 2 8 (s.rd (MVH_CFG_NLAYERS h)))
  let pl := clampNat 600 8000 (s.rd (MVH_RP_PKT_PAYLOAD h))
  let s := s.wr (MVH_RP_PKT_PAYLOAD h) (pl - pl % 5)
  let s := s.when (s.rd (MVH_RP_RATE_MBPS h) == 0) fun s => s.wr (MVH_RP_RATE_MBPS h) 1
  let s := if s.on (MVH_CFG_EN h) && !old.on (MVH_CFG_EN h) then s.headEnable h
    else if !s.on (MVH_CFG_EN h) && old.on (MVH_CFG_EN h) then s.headDisable h else s
  let s := if s.on (MVH_CFG_OUT_RET h) != old.on (MVH_CFG_OUT_RET h) && !s.on (MVH_CFG_OUT_RET h) then s.loseHead h else s
  s.pushCheck h

/-! ## The cellar as bytes -/

/-- Cellar region of a cellar address (Table 09-8). -/
def cellarRegion (c : Nat) : Nat := ((rangeFrom 0 6).filter fun r => decide (clrRegionBase r * 1000000 ≤ c)).length - 1

/-- A byte of the cellar, as the aperture reads it: what was written in region 3, and elsewhere a free value. -/
def State.readCellar (c : Nat) (s : State) : State × Nat :=
  if s.cellarUp && cellarRegion c == 3 then (s, (storeGet (fun _ => (0 : BitVec 8)) s.cellar c).toNat)
  else (s.draw, Config.cellarByte c s.free % 256)

/-- A byte written to the cellar; only region 3 holds what a read returns. -/
def State.writeCellar (c v : Nat) (s : State) : State :=
  if s.cellarUp && cellarRegion c == 3 then
    { s with cellar := storeSet (fun _ => (0 : BitVec 8)) s.cellar c (BitVec.ofNat 8 v) }
  else s

/-! ## Region-push packets -/

/-- Cellar address of the composed surface of a head (Table 12-3). -/
def surfaceOf (h : Nat) : Nat := clrRegionBase 3 * 1000000 + 71000000 * h

/-- A tile row of a head goes to its composed surface. PRESUMED: rows follow one another, each of 4:2:2 10-bit pixel groups (R468). -/
def State.writeSurface (h row : Nat) (s : State) : State :=
  let (w, _) := s.raster h
  let bytes := ((rangeFrom (8 * row) 8).map fun y =>
    let l := s.headRow h y
    ((rangeFrom 0 (w / 2)).map fun g => pixelGroup ((l.drop (4 * g)).take 4)).flatten).flatten
  s.forL bytes.zipIdx fun e s => s.writeCellar (surfaceOf h + 8 * row * (w / 2 * 5) + e.2) e.1


/-- Maximal runs of marked tiles of a row, from tile `t` on. -/
def tileRuns (marked : Nat → Bool) (row : Nat) : Nat → Nat → List RectH → List RectH
  | 0, _, acc => acc.reverse
  | n + 1, t, acc =>
    if marked t then
      match acc with
      | r :: l => if r.tile + r.tiles = t then tileRuns marked row n (t + 1) ({ r with tiles := r.tiles + 1 } :: l)
        else tileRuns marked row n (t + 1) ({ tile := t, row := row, tiles := 1 } :: acc)
      | [] => tileRuns marked row n (t + 1) [{ tile := t, row := row, tiles := 1 }]
    else tileRuns marked row n (t + 1) acc

/-- The checks of the tiles of a tile row of a head's frame: CRC-32C of its composed samples (R496). -/
def State.tileChecks (s : State) (h row cols : Nat) : List Nat :=
  let rows := (rangeFrom (8 * row) 8).map (s.headRow h)
  (rangeFrom 0 cols).map fun x => rectCheck (fun y => rows.getD y []) (64 * x) (64 + 8 * 2 ^ 16)

/-- The 4:2:2 10-bit pixel groups of `count` pixels of a rectangle from pixel `first` on, in raster order within it, read from the composed
surface (R468, R497). -/
def State.rectPixels (s : State) (h : Nat) (r : RectH) (first count : Nat) : List Nat :=
  let (w, _) := s.raster h
  ((rangeFrom 0 (count / 2)).map fun i =>
    let k := first + 2 * i
    let o := (8 * r.row + k / (64 * r.tiles)) * (w / 2 * 5) + (64 * r.tile + k % (64 * r.tiles)) / 2 * 5
    (rangeFrom 0 5).map fun b => (storeGet (fun _ => (0 : BitVec 8)) s.cellar (surfaceOf h + o + b)).toNat).flatten

/-- TILE_ROW_COMPLETE: the next tile row of the frame in progress is composed and goes to the composed surface; its changed tiles form rectangles
(R468, R496, R497). -/
def execTileRowComplete (h : Fin 32) (s : State) : Host.Outcome State Fault Refusal :=
  .next (
    let m := s.mvhH h
    let q := m.push
    let (w, t) := s.raster h
    let cols := w / 64
    if !s.on (MVH_RP_STAT_ACTIVE h) || q.frame != s.frameOf (s.headPlan h) || decide (t / 8 ≤ q.rows) then s
    else
      let key (x : Nat) : Nat := q.rows * 64 + x
      let checks := s.tileChecks h q.rows cols
      let changed (x : Nat) : Bool :=
        q.full || q.skipped.contains (key x) || storeGet (fun _ => 0) q.tiles (key x) != checks.getD x 0
      let rects := tileRuns changed q.rows cols 0 []
      let tiles := (rangeFrom 0 cols).foldl (fun l x => storeSet (fun _ => 0) l (key x) (checks.getD x 0)) q.tiles
      (s.setMvhH h { m with push := { q with tiles := tiles, rows := q.rows + 1, todo := q.todo ++ rects } }).writeSurface h q.rows)

/-- The header bytes 0 to 19 of a region-push packet (Table 12-7), for the frame in progress of the stream. -/
def State.pushHeader (s : State) (h kind : Nat) (skipped : Bool) : List Nat :=
  let m := s.mvhH h
  let p := s.headPlan h
  let n := s.rd (MVH_CFG_PTP_SEL h)
  let ok := s.rateLocked n
  let t : Int := if ok then (((s.planH p).frameStart m.push.frame : Int) - s.top.t0) / 6 + (s.ptpH n).offset else 0
  let flags := ofBool m.push.full + 2 * ofBool m.push.retimed + 4 * ofBool ok + 8 * ofBool skipped
  [1, kind, h, flags] ++ beBytes 4 (s.rd (MVH_RP_SEQ_SEQ h)) ++ beBytes 4 (m.push.frame - m.base)
    ++ beBytes 4 ((t / 1000000000).toNat) ++ beBytes 4 ((t % 1000000000).toNat)

/-- Send a region-push packet: its frame enters the queue of the trellis, SEQ advances, and the next may start after its own
length at the declared rate (R446, R498 to R500). -/
def State.pushSend (h : Nat) (data : List Nat) (s : State) : State :=
  let w (k : Nat) : Nat := s.rd (MVH_RP_HDR_VALUE h k)
  let tag := if s.on (MVH_RP_CFG_VLAN_EN h) then [0x81, 0] ++ beBytes 2 (s.rd (MVH_RP_CFG_PCP h) * 2 ^ 13 + w 3 % 2 ^ 12) else []
  let bytes := withFcs (beBytes 4 (w 0) ++ beBytes 4 (w 1) ++ beBytes 4 (w 2) ++ tag ++ [0x08, 0]
    ++ ipUdp (s.rd (MVH_RP_CFG_DSCP h)) (w 3 / 2 ^ 16 % 256) (w 4) (w 5) (w 6 / 2 ^ 16) (w 6) data)
  let s := s.wr (MVH_RP_SEQ_SEQ h) (s.rd (MVH_RP_SEQ_SEQ h) + 1)
  let m := s.mvhH h
  let gap := bytes.length * 8 * us / s.rd (MVH_RP_RATE_MBPS h)
  (s.setMvhH h { m with push := { m.push with nextAt := s.now + gap } }).txQueue (s.rd (MVH_RP_CFG_TRELLIS h)) (4096 + h) false bytes

/-- REGION_PUSH_PACKET: at its paced gap the next packet of the first waiting rectangle is formed and sent, with its pixels
(R497 to R499). -/
def execRegionPushPacket (h : Fin 32) (s : State) : Host.Outcome State Fault Refusal :=
  .next (
    let m := s.mvhH h
    let q := m.push
    match q.todo with
    | [] => s
    | r :: rest =>
      if !s.on (MVH_RP_STAT_ACTIVE h) || decide (s.now < q.nextAt) then s
      else
        let total := r.tiles * 64 * 8
        let most := s.rd (MVH_RP_PKT_PAYLOAD h) * 2 / 5
        let count := min (most - most % 2) (total - r.done)
        let last := r.done + count == total
        let head := s.pushHeader h 0 false ++ beBytes 2 (r.tile * 64) ++ beBytes 2 (r.row * 8) ++ beBytes 2 (r.tiles * 64)
          ++ beBytes 2 8 ++ beBytes 2 r.done ++ beBytes 2 count
        let bytes := s.rectPixels h r r.done count
        let s := s.setMvhH h { m with push := { q with
          todo := if last then rest else { r with done := r.done + count } :: rest,
          rects := if r.done = 0 then q.rects + 1 else q.rects, pkts := q.pkts + 1 } }
        s.pushSend h (head ++ bytes))

/-- REGION_PUSH_FRAME_END: at the next frame's start tiles that are in no packet are skipped, and a frame-end packet is sent
(R496, R498, R499). -/
def execRegionPushFrameEnd (h : Fin 32) (s : State) : Host.Outcome State Fault Refusal :=
  .next (
    let m := s.mvhH h
    let q := m.push
    let k := s.frameOf (s.headPlan h)
    let (w, t) := s.raster h
    if !s.on (MVH_RP_STAT_ACTIVE h) || decide (k ≤ q.frame) then s
    else
      let waiting := (q.todo.map fun r => (rangeFrom r.tile r.tiles).map fun x => r.row * 64 + x).flatten
      let missing := ((rangeFrom q.rows (t / 8 - q.rows)).map fun y => (rangeFrom 0 (w / 64)).map fun x => y * 64 + x).flatten
      let skipped := waiting ++ (if q.full then missing else [])
      let s := (s.bumpBy (MVH_CNT_COUNT h 4) skipped.length).when (!skipped.isEmpty) fun s => s.raise (MVH_EVENT_RP_SKIP h)
      let s := s.pushSend h (s.pushHeader h 1 (!skipped.isEmpty) ++ beBytes 4 q.rects ++ beBytes 4 q.pkts ++ [0, 0, 0, 0])
      let r := s.rd (MVH_RP_CFG_REFRESH h)
      let age := q.age + 1
      let full := r != 0 && decide (r ≤ age)
      s.setMvhH h { s.mvhH h with push := { tiles := q.tiles, skipped := skipped, frame := k, full := full, age := if full then 0 else age,
                                            nextAt := (s.mvhH h).push.nextAt } })

/-! ## Input frames -/

/-- Frames of a rotation of an input that some layer holds. -/
def State.heldFrames (s : State) (i : Nat) (copy : Bool) : List Nat :=
  (s.mvh.map fun e => (e.2.holds.filter fun x => x.2.1 == i && x.2.2.1 == copy).map fun x => x.2.2.2).flatten

/-- The writer of a rotation takes frame `n`: it overwrites the oldest frame that no layer holds, or skips (R470). The
rotation after it, and whether it skipped. -/
def rotate (l held : List Nat) (n : Nat) : List Nat × Bool :=
  if l.length < 3 then (n :: l, false)
  else match l.reverse.find? fun k => !held.contains k with
    | some k => (n :: l.filter (· != k), false)
    | none => (l, true)

/-- The skim and copy writers of an input take a frame that begins (R358, R362, R470). -/
def State.writeRotations (i n : Nat) (s : State) : State :=
  let one (copy : Bool) (s : State) : State :=
    let h := s.inH i
    let (l, skip) := rotate (if copy then h.copy else h.skim) (s.heldFrames i copy) n
    let s := s.setInH i (if copy then { h with copy := l } else { h with skim := l })
    if skip then (s.bump XPT_SKIM_SKIP_COUNT).raise XPT_EVENT_SKIM_SKIP else s
  let s := if s.on (XPT_IN_STAT_SKIM_ON i) then one false s else s
  if s.holdsLoad (copyLoad i) then one true s else s

/-- The lines of the frame of an input that ends go to the stores; those of frames that no store holds any longer, and that no head reads, go
(R338, R358, R362). -/
def State.storeLines (i : Nat) (s : State) : State :=
  let h := s.inH i
  let n := h.frames - 1
  let read := (s.mvh.map fun e => (e.2.reads ++ e.2.picks).filterMap fun x => if x.2.1 = i then some x.2.2 else none).flatten
    ++ h.reads.filterMap (·.prev)
  let held (k : Nat) : Bool := (h.stored.any fun e => e.1 == k) || h.skim.contains k || h.copy.contains k || read.contains k
  if h.frames = 0 then s
  else s.forL (s.linkAreas i) fun x s =>
    let g := s.inH x
    s.setInH x { g with pics := (n, g.sdi.rows ++ g.sdi.past) :: g.pics.filter fun e => e.1 != n && held e.1 }

/-- INPUT_FRAME_START: line 1 of the next frame of an input leaves the input stage: the frame enters the ledger, and a frame
that the store's rotation overwrites undecided is dropped. It is a reference frame start of an SDI candidate that names the input (R159,
R325, R326, R336, R338, R358, R470, R505, R516). -/
def execInputFrameStart (i : Fin 4608) (s : State) : Host.Outcome State Fault Refusal :=
  .next (
    if !s.on (XPT_IN_STAT_PRESENT i) || !s.addresses i || s.transparent i then s
    else
      let s := s.storeLines i
      let h := s.inH i
      let n := h.frames
      let gone := h.undecided.filter fun k => decide (k + 3 ≤ n)
      let s := s.setInH i { h with
        frames := n + 1, stored := (n, s.now) :: h.stored.take 2, undecided := h.undecided.filter (fun k => !decide (k + 3 ≤ n)) ++ [n],
        rgen := s.rd PRF_STATUS_RGEN, damaged := 0, outside := 0, wasOutside := h.outside, cellarFrom := if s.cellarUp then h.cellarFrom else n + 1 }
      let s := (s.bookOut 0 i .dropped gone.length).bookIn 0 i 1
      let s := s.forL [4, 5] fun c s =>
        if s.candState c ≠ 0 ∧ s.rd (REF_CAND_CFG_SRC c) = i then s.setCandH c { s.candH c with frameStart := some s.now } else s
      let s := s.showOffset i (s.caskOffset (s.rd (XPT_IN_CFG_HOME i)) 1 s.now)
      if s.cellarUp then s.writeRotations i n else s)

end Sys2Proof.Machine
end

