-- ==== Sys2Proof/Machine/MbxOps.lean ====
section
/-! DEFINITION. Operations of the mailbox channels and doorbells (R587 to R602). -/

namespace Sys2Proof.Machine

/-! ## Windows -/

/-- Whether window `w` of master `m` is enabled and covers an access wholly (R632). -/
def State.windowCovers (s : State) (m w addr len : Nat) : Bool :=
  s.on (MTX_WIN_BASE_EN m w) && decide (s.rd (MTX_WIN_BASE_BASE m w) ≤ addr / 4096)
    && decide ((addr + len - 1) / 4096 ≤ s.rd (MTX_WIN_LIMIT_LIMIT m w))

/-- The cause for which the windows of a master refuse an access, 0 where they admit it (R632). -/
def State.windowCause (s : State) (m : Nat) (write : Bool) (addr len : Nat) : Nat :=
  let ws := indicesWhere 16 fun w => s.windowCovers m w addr len
  if ws.isEmpty then 1
  else if ws.any fun w => s.on (if write then MTX_WIN_BASE_W m w else MTX_WIN_BASE_R m w) then 0 else 2

/-- Whether a master can make an access at all: the device is out of reset, and for the host its function's link is up (R620, R621). -/
def State.busOpen (s : State) (m : Nat) : Bool :=
  !s.top.inReset && (if m = 1 then s.on PCI_STATUS_LINK_UP else if m = 2 then s.on PCI_STATUS_LINK_UP && s.on PCI_STATUS_F1_EN else true)

/-! ## Channels (Table 15-7) -/

/-- Whether a channel index carries anything: 16q + q carries nothing. -/
def isChannel (c : Nat) : Bool := decide (c < 394) && !(decide (c < 256) && c / 16 == c % 16)

/-- A party of a channel. -/
inductive Party where
  | racker (r : Nat)
  | host
  | secure
  | mgt
  | mirror
  | fabric
  deriving DecidableEq, Repr

/-- The sender of a channel. -/
def chanSender (c : Nat) : Party :=
  if c < 256 then .racker (c / 16)
  else if c < 272 then .host
  else if c < 304 then .racker (c % 16)
  else if c < 320 then .mgt
  else if c < 336 then .racker (c % 16)
  else if c < 352 then .mirror
  else if c < 368 then .racker (c % 16)
  else if c < 384 then .fabric
  else if c = 384 then .host
  else if c = 385 then .mgt
  else if c < 390 then .secure
  else .mgt

/-- The receiver of a channel. -/
def chanReceiver (c : Nat) : Party :=
  if c < 272 then .racker (c % 16)
  else if c < 288 then .host
  else if c < 304 then .mgt
  else if c < 320 then .racker (c % 16)
  else if c < 336 then .mirror
  else if c < 352 then .racker (c % 16)
  else if c < 368 then .fabric
  else if c < 384 then .racker (c % 16)
  else if c = 384 then .mgt
  else if c = 385 then .host
  else if c < 390 then .mgt
  else .secure

/-- The matrix master that a party is; the mirror and fabric engines act inside the block. -/
def Party.master : Party → Option Nat
  | .racker r => some (3 + r)
  | .host => some 1
  | .secure => some 2
  | .mgt => some 0
  | .mirror | .fabric => none

/-- The doorbell bank of a channel's receiver: 20 for the secure channels of the management controller. -/
def chanBank (c : Nat) : Option Nat :=
  match chanReceiver c with
  | .racker r => some r
  | .host => some 16
  | .mgt => some (if 386 ≤ c then 20 else 17)
  | .secure => some 19
  | .mirror | .fabric => none

/-- The interrupt source of a channel to the host (Table 16-2). -/
def chanSource (c : Nat) : Option Nat :=
  if 272 ≤ c ∧ c < 288 then some (c - 272) else if c = 385 then some 16
  else if 390 ≤ c ∧ c < 394 then some (40 + (c - 390)) else none

/-- Notify the receiver of a channel of a post (R591, R630). -/
def State.notifyMail (c : Nat) (s : State) : State :=
  match chanReceiver c, chanSource c with
  | .racker r, _ => s.rckEvent r (2 ^ 17)
  | _, some k => s.sendMsix k
  | _, none => s

/-- MBX_HEAD and the pending bit of a channel follow its count and its oldest slot. -/
def State.showChannel (c : Nat) (s : State) : State :=
  let n := s.rd (MBX_CH_COUNT c)
  let rd := s.rd (MBX_CH_RD c)
  let h := s.chnH c
  let s := (s.wr (MBX_HEAD_EPOCH c) (h.epochs.getD rd 0)).wrB (MBX_HEAD_VALID c) (n != 0)
  let s := s.wr (MBX_HEAD_FROM c) (if 368 ≤ c ∧ c < 384 then h.codes.getD rd 0 else 0)
  match chanBank c with
  | some b => s.wrB ⟨MBX_PEND b (c / 32), c % 32, 1⟩ (n != 0)
  | none => s

/-- Record an error of the mailboxes with its channel. -/
def State.mbxError (f : Field) (c : Nat) (s : State) : State := (s.wr MBX_STATUS_ERR_CH c).raise f

/-- Whether a channel has a free slot. -/
def State.chanOpen (s : State) (c : Nat) : Bool := decide (s.rd (MBX_CH_COUNT c) < 8)

/-- Post slot WR with a sender code; a full channel ignores the post (R588). -/
def State.postSlot (c code : Nat) (s : State) : State :=
  if !s.chanOpen c then s.mbxError MBX_STATUS_POST_FULL c
  else
    let w := s.rd (MBX_CH_WR c)
    let h := s.chnH c
    let s := s.setChnH c { h with
      epochs := listSet h.epochs w (s.rd (MBX_EPOCH_SENDER_EPOCH c) % 256), codes := listSet h.codes w (if 352 ≤ c ∧ c < 384 then code % 2 ^ 16 else 0) }
    let s := s.wr ⟨MBX_CH c, 10 + w, 1⟩ 1
    let s := (s.wr (MBX_CH_WR c) (w + 1)).wr (MBX_CH_COUNT c) (s.rd (MBX_CH_COUNT c) + 1)
    ((s.bookIn 9 c 1).showChannel c).notifyMail c

/-- Fill slot WR with 64 words. -/
def State.fillSlot (c : Nat) (words : List Nat) (s : State) : State :=
  let w := s.rd (MBX_CH_WR c)
  s.forN 64 fun k s => s.setWord (MBX_SLOT c w k) (BitVec.ofNat 32 (words.getD k 0))

/-- Fill and post slot WR. -/
def State.sendSlot (c code : Nat) (words : List Nat) (s : State) : State :=
  if s.chanOpen c then (s.fillSlot c words).postSlot c code else s.postSlot c code

/-- The 64 words of the slot that stands `k` behind RD. -/
def State.slotWords (s : State) (c k : Nat) : List Nat :=
  let i := (s.rd (MBX_CH_RD c) + k) % 8
  (rangeFrom 0 64).map fun w => (s.word (MBX_SLOT c i w)).toNat

/-- What has come about on a channel in this cycle (R592). -/
def State.chanNow (s : State) (c : Nat) : ChnH :=
  let h := s.chnH c
  if h.at_ = s.now then h else { h with at_ := s.now, freed := [], frees := 0, posts := 0 }

/-- Free the slot at RD (R590). -/
def State.freeSlot (c : Nat) (s : State) : State :=
  let n := s.rd (MBX_CH_COUNT c)
  if n = 0 then s.mbxError MBX_STATUS_FREE_ERR c
  else
    let rd := s.rd (MBX_CH_RD c)
    let h := s.chanNow c
    let s := s.setChnH c { h with freed := rd :: h.freed }
    let s := s.wr ⟨MBX_CH c, 10 + rd, 1⟩ 0
    let s := (s.wr (MBX_CH_RD c) (rd + 1)).wr (MBX_CH_COUNT c) (n - 1)
    (s.bookOut 9 c .delivered 1).showChannel c

/-- Whether a command writes 1 to a register of channel `c`, MBX_FREE or else MBX_POST, as its receiver or sender does (R593). -/
def State.writesMbx (s : State) (free : Bool) (c : Nat) (x : Instr) : Bool :=
  let party := (if free then chanReceiver c else chanSender c).master
  let a := if free then MBX_FREE c else MBX_POST c
  let may (m : Nat) : Bool := party == some m && s.busOpen m && s.windowCause m true a 4 == 0
  match x with
  | .mbxFree m k => free && k.val == c && may m
  | .mbxPost m k => !free && k.val == c && may m
  | .registerWrite m addr len data => addr == a && len == 4 && data % 2 == 1 && may m
  | _ => false

/-- A free of a full channel that comes in this cycle applies before a post (R592). -/
def State.makeRoom (c : Nat) (s : State) : State :=
  let n := (s.pending.filter (s.writesMbx true c)).length
  if s.chanOpen c || decide (n ≤ (s.chanNow c).frees) then s
  else
    let s := s.freeSlot c
    s.setChnH c { s.chanNow c with frees := (s.chanNow c).frees + 1 }

/-- A free whose command comes now: whether it has applied already (R592). -/
def State.freedAhead (c : Nat) (s : State) : State × Bool :=
  let h := s.chanNow c
  if h.frees = 0 then (s, false) else (s.setChnH c { h with frees := h.frees - 1 }, true)

/-- A post by its sender (R588, R592). One that a sender reset of this cycle has let go ahead has been made. -/
def State.postNow (c : Nat) (s : State) : State :=
  let h := s.chanNow c
  if h.posts ≠ 0 then s.setChnH c { h with posts := h.posts - 1 } else (s.makeRoom c).postSlot c 0

/-! ## Doorbells -/

/-- Notify the receiver of a doorbell bank (R601, Table 07-10, Table 16-2). -/
def State.notifyBell (b : Nat) (s : State) : State :=
  if b < 16 then s.rckEvent b (2 ^ 16) else if b = 16 then s.sendMsix 17 else if b = 19 then s.sendMsix 44 else s

/-- Set bits of a doorbell bank; a bit that becomes set while it is unmasked notifies, and one that is set stays set in this cycle (R600, R601). -/
def State.setBells (b bits : Nat) (s : State) : State :=
  let old := s.rd ⟨MBX_DB b, 0, 32⟩
  let fresh := bits % 2 ^ 32 &&& (2 ^ 32 - 1 - old)
  let s := s.wr ⟨MBX_DB b, 0, 32⟩ (old ||| bits % 2 ^ 32)
  let s := s.forL (indicesWhere 32 fun k => bit bits k) fun k s => s.noteEvent ⟨MBX_DB b, k, 1⟩
  if fresh &&& s.rd (MBX_DB_MASK_MASK b) ≠ 0 then s.notifyBell b else s

/-! ## Resets of parties -/

/-- A reset of a receiver: nothing is discarded; its epochs advance and what is pending is notified again (R595). -/
def State.resetReceiver (p : Party) (s : State) : State :=
  s.forL (indicesWhere 394 fun c => isChannel c && decide (chanReceiver c = p)) fun c s =>
    let s := s.wr (MBX_EPOCH_RECEIVER_EPOCH c) (s.rd (MBX_EPOCH_RECEIVER_EPOCH c) + 1)
    if s.rd (MBX_CH_COUNT c) ≠ 0 then s.notifyMail c else s

/-- A post of this cycle completes before a reset of its sender (R592). -/
def State.postFirst (c : Nat) (s : State) : State :=
  let n := (s.pending.filter (s.writesMbx false c)).length
  if n ≤ (s.chanNow c).posts then s
  else
    let s := (s.makeRoom c).postSlot c 0
    s.setChnH c { s.chanNow c with posts := (s.chanNow c).posts + 1 }

/-- A reset of a sender: slot WR becomes 0 and its epochs advance (R596). A full channel has no slot to fill. -/
def State.resetSender (p : Party) (s : State) : State :=
  s.forL (indicesWhere 394 fun c => isChannel c && decide (chanSender c = p)) fun c s =>
    let s := s.postFirst c
    let s := if s.chanOpen c then s.fillSlot c [] else s
    s.wr (MBX_EPOCH_SENDER_EPOCH c) (s.rd (MBX_EPOCH_SENDER_EPOCH c) + 1)

/-- A reset of a party as sender and as receiver (Table 15-8). -/
def State.resetParty (p : Party) (s : State) : State := (s.resetSender p).resetReceiver p

/-! ## Locks -/

/-- Every lock that a master holds is released (R646). -/
def State.releaseLocks (m : Nat) (s : State) : State :=
  s.forN 64 fun n s =>
    if s.on (MTX_LOCK_HELD n) && s.rd (MTX_LOCK_OWNER n) == m then (s.wr (MTX_LOCK_HELD n) 0).wr (MTX_LOCK_OWNER n) 0 else s

end Sys2Proof.Machine
end

