-- ==== Sys2Proof/Machine/FabOps.lean ====
section
/-! DEFINITION. Operations of the fabric engine: members, routes, messages and credits, leases of the fabric ids
(R556 to R573). -/

namespace Sys2Proof.Machine

/-- The address that stands for the link neighbour alone (R560). -/
abbrev linkLocal : Nat := 0x3F

/-- The value that a list of pairs gives a key, if it does. -/
def pairGet {α : Type} (l : List (Nat × α)) (k : Nat) : Option α := (l.find? fun e => e.1 == k).map (·.2)

/-- A list of pairs with one value for a key. -/
def pairSet {α : Type} (l : List (Nat × α)) (k : Nat) (v : α) : List (Nat × α) := l.filter (fun e => e.1 != k) ++ [(k, v)]

/-- This device's address (R560). -/
def State.fabAddr (s : State) : Nat := s.rd FAB_STATUS_ADDR

/-- A member of the complex: FAB_CFG.EN with a trunk-mode trellis. -/
def State.isMember (s : State) : Bool := s.on FAB_CFG_EN && (rangeFrom 0 36).any fun n => s.trunk n

/-- Whether trunk `n` carries fabric traffic: framed, and not shared with a device of the same address (R560). -/
def State.trunkUp (s : State) (n : Nat) : Bool :=
  s.on FAB_CFG_EN && s.trunk n && (s.ctnH n).state == 2 && !(s.fab.conflict.contains n)

/-- The device that acts for a twin pair towards the fabric (R572). -/
def State.speaks (s : State) : Bool := s.top.claim || !s.twinEn

/-- Whether an address is this device's, or its twin's. -/
def State.ownPair (s : State) (a : Nat) : Bool := a == s.fabAddr || (s.twinEn && a == s.twn.peerAddr)

/-- Whether the routing table reaches an address (R561, R565). -/
def State.reaches (s : State) (a : Nat) : Bool := decide (a < 32) && s.on (FAB_ROUTE_VALID a) && !(s.fab.excluded.contains a)

/-- Whether a mode is that of a candidate conductor (R562). -/
def candidateMode (m : Nat) : Bool := m == 2 || m == 3

/-! ## Messages and credits -/

/-- Message credits held for a trunk. -/
def State.msgCredits (s : State) (n : Nat) : Nat := (pairGet s.fab.credits n).getD 0

/-- Send a message on a trunk, or hold it for want of a credit (R558). CREDIT itself needs none. -/
def State.sendOn (n : Nat) (m : Msg) (s : State) : State :=
  let s : State := if m.type = 1 ∨ s.msgCredits n ≠ 0 then { s with fab := { s.fab with outbox := s.fab.outbox ++ [(n, m)] } } else s
  if m.type = 1 then s.emit (.onhan n m)
  else
    let k := s.msgCredits n
    if k = 0 then { s with fab := { s.fab with queue := s.fab.queue ++ [(n, m)] } }
    else ({ s with fab := { s.fab with credits := pairSet s.fab.credits n (k - 1) } } : State).emit (.onhan n m)

/-- Send a message towards its destination; one without a route is dropped and counted, but MAIL is held (R559). -/
def State.sendMsg (m : Msg) (s : State) : State :=
  if s.reaches m.dest then s.sendOn (s.rd (FAB_ROUTE_TRELLIS m.dest)) m
  else if m.type = 0x0E then { s with fab := { s.fab with stuck := s.fab.stuck ++ [(m, s.frame0)] } }
  else s.bump (FAB_CNT_COUNT 2)

/-- Send a message of this device to an address; it needs no link for its own. -/
def State.tell (type dest : Nat) (body : List Nat) (s : State) : State :=
  s.sendMsg { type := type, dest := dest, src := s.fabAddr, body := body }

/-- Send the messages that wait for credits of a trunk, oldest first, while credits last. -/
def State.drainTrunk (n : Nat) (s : State) : State :=
  let mine := s.fab.queue.filter fun e => e.1 == n
  let s := { s with fab := { s.fab with queue := s.fab.queue.filter fun e => e.1 != n } }
  s.forL mine fun e s => s.sendOn n e.2

/-- Credits arrive for a trunk. -/
def State.addCredits (n k : Nat) (s : State) : State :=
  ({ s with fab := { s.fab with credits := pairSet s.fab.credits n (min 64 (s.msgCredits n + k)) } } : State).drainTrunk n

/-- The buffer space of a message is free again: its credit is returned to the sender (R558, Table 13-5). -/
def State.returnCredit (n : Nat) (s : State) : State :=
  ((s.bookOut 7 n .delivered 1).bookIn 7 n 1).sendOn n { type := 1, dest := linkLocal, src := s.fabAddr, body := [1] }

/-- Neighbours that are established (R560). -/
def State.neighbours (s : State) : List NeighH := s.fab.neigh.filter fun x => decide (2 ≤ x.count)

/-- Send ROUTE to every neighbour: this device, its table, and its neighbours (R561, Table 14-5). -/
def State.announce (s : State) : State :=
  if !s.isMember then s
  else
    let entries := [s.fabAddr, 0, s.rd TOP_MODE_MODE] ++ ((indicesWhere 32 fun a => s.reaches a).map fun a =>
      [a, s.rd (FAB_ROUTE_HOPS a), s.rd (FAB_ROUTE_MODE a)]).flatten
    let near := (s.neighbours.map fun x => [x.trunk, x.addr]).flatten
    let s := { s with fab := { s.fab with told := s.rd TOP_MODE_MODE } }
    s.forL s.neighbours fun x s => s.sendOn x.trunk { type := 3, dest := linkLocal, src := s.fabAddr, body := entries ++ near }

/-! ## Routing table -/

/-- Whether some other device that is a conductor or a candidate is reachable (R565). -/
def State.company (s : State) : Bool :=
  (rangeFrom 0 32).any fun a => a != s.fabAddr && s.reaches a
    && (a == s.rd FAB_STATUS_CONDUCTOR || candidateMode (s.rd (FAB_ROUTE_MODE a)))

/-- Keep track of which members are out of reach and of whether this device is alone (R565). -/
def State.trackReach (s : State) : State :=
  let lost := (rangeFrom 0 32).foldl (fun l a =>
    if s.reaches a then l.filter fun e => e.1 != a
    else if (pairGet s.fab.fresh a).isSome && (pairGet l a).isNone then l ++ [(a, s.frame0)] else l) s.fab.lost
  let alone := if !s.isMember || s.company then none else some (s.fab.alone.getD s.frame0)
  { s with fab := { s.fab with lost := lost, alone := alone } }

/-- The routing table has changed: it is reported and told to the neighbours (R561). -/
def State.routesChanged (s : State) : State := ((s.raise FAB_EVENT_ROUTE_CHANGE).announce).trackReach

/-- An entry leaves the routing table; that of the conductor triggers an election (R561, R562). -/
def State.dropEntry (a : Nat) (s : State) : State :=
  if !s.on (FAB_ROUTE_VALID a) then s
  else
    let s := s.setWord (FAB_ROUTE a) 0
    if a = s.rd FAB_STATUS_CONDUCTOR then { s with fab := { s.fab with trigger := true } } else s

/-- One entry of a ROUTE message received on a trunk (R561): fewest hops first, then the lower trellis. -/
def State.learnRoute (n nxt a hops mode : Nat) (s : State) : State :=
  if a = s.fabAddr ∨ 32 ≤ a ∨ 3 < hops ∨ s.fab.excluded.contains a = true then s
  else
    let via := s.on (FAB_ROUTE_VALID a) && s.rd (FAB_ROUTE_TRELLIS a) == n
    let better := !s.on (FAB_ROUTE_VALID a) || decide (hops < s.rd (FAB_ROUTE_HOPS a))
      || (s.rd (FAB_ROUTE_HOPS a) == hops && decide (n < s.rd (FAB_ROUTE_TRELLIS a)))
    if via || better then
      let s := ((s.wr (FAB_ROUTE_TRELLIS a) n).wr (FAB_ROUTE_HOPS a) hops).wr (FAB_ROUTE_NEXT a) nxt
      let s := (s.wr (FAB_ROUTE_MODE a) mode).wr (FAB_ROUTE_VALID a) 1
      let s := { s with fab := { s.fab with fresh := pairSet s.fab.fresh a s.frame0 } }
      if a = s.rd FAB_STATUS_CONDUCTOR ∧ !candidateMode mode then { s with fab := { s.fab with trigger := true } } else s
    else s

/-- The MAIL messages that were held for want of a route are sent once one exists (R559). -/
def State.sendStuck (s : State) : State :=
  let ready := s.fab.stuck.filter fun e => s.reaches e.1.dest
  let s := { s with fab := { s.fab with stuck := s.fab.stuck.filter fun e => !s.reaches e.1.dest } }
  s.forL ready fun e s => s.sendMsg e.1

/-! ## Fabric leases -/

/-- Show the holder of a fabric lease: a party of this device or its pair, or a peer with its address (R566). -/
def State.setFabLease (i addr index e : Nat) (s : State) : State :=
  let own := s.ownPair addr
  let s := s.grantLease i (if own then index else holderPeer) (if own then 0 else addr) e
  { s with fab := { s.fab with
      holders := if own then s.fab.holders.filter (fun x => x.1 != i) else pairSet s.fab.holders i index } }

/-- Address and requester index of the holder of a fabric lease. -/
def State.fabHolder (s : State) (i : Nat) : Option (Nat × Nat) :=
  if !s.on (RCK_LEASE_H_HELD i) then none
  else if s.rd (RCK_LEASE_H_HOLDER i) = holderPeer then some (s.rd (RCK_LEASE_H_DEV i), (pairGet s.fab.holders i).getD 0)
  else some (s.fabAddr, s.rd (RCK_LEASE_H_HOLDER i))

/-- The digest of the fabric part of the lease table (Table 14-5). -/
def State.leaseDigest (s : State) : Nat :=
  Config.leaseDigest ((rangeFrom 96 128).map fun i =>
    let h := s.fabHolder i
    ((h.map (·.1)).getD 0, (h.map (·.2)).getD 0, s.rd (RCK_LEASE_H_HELD i), s.rd (RCK_LEASE_E_EXPIRY i)))

/-- A LEASE or FREE on a fabric id goes to the conductor (R566); a reservation's request carries its parameters. -/
def State.askConductor (i dur prio index : Nat) (free : Bool) (s : State) : State :=
  let k := i - 128
  let extra := if 128 ≤ i then [s.rd (FAB_RSV_CFG_SRC_DEV k), s.rd (FAB_RSV_CFG_SLOTS k)] else []
  s.tell 5 (s.rd FAB_STATUS_CONDUCTOR) ([i, dur, prio, index, ofBool free] ++ extra)

/-! ## Loss of a trunk -/

/-- The feeds and runs of a reservation end on this device. -/
def State.dropRun (k : Nat) (s : State) : State :=
  let s := s.setWord (FAB_RSV_MAP k) 0
  { s with fab := { s.fab with runs := s.fab.runs.filter fun e => e.1 != k } }

/-- A trunk's link is lost: the credits of its incarnation are reclaimed, its neighbour is gone, and its routes leave the
table (R553, R561). -/
def State.trunkLost (n : Nat) (s : State) : State :=
  let s := s.dropResident 7 n
  let waits := (s.fab.queue.filter fun e => e.1 == n).map (·.2)
  let s := { s with fab := { s.fab with
    credits := s.fab.credits.filter fun e => e.1 != n,
    queue := s.fab.queue.filter fun e => e.1 != n,
    neigh := s.fab.neigh.filter fun x => x.trunk != n } }
  let gone := indicesWhere 32 fun a => s.on (FAB_ROUTE_VALID a) && s.rd (FAB_ROUTE_TRELLIS a) == n
  let s := s.forL gone fun a s => s.dropEntry a
  let s := if gone.isEmpty then s else s.routesChanged
  s.forL waits fun m s => if m.dest = linkLocal then s else s.sendMsg m

/-- A trunk has reached LOCKED: this receiver grants 64 message credits (R558). -/
def State.trunkLocked (n : Nat) (s : State) : State :=
  if s.on FAB_CFG_EN then
    ((s.dropResident 7 n).bookIn 7 n 64).sendOn n { type := 1, dest := linkLocal, src := s.fabAddr, body := [64] }
  else s

end Sys2Proof.Machine
end

