-- ==== Sys2Proof/Machine/TwinOps.lean ====
section
/-! DEFINITION. Operations of the twin link: mirror records and their credits, the journal and its stamps, and the link going
up and down (R530 to R538, R553). -/

namespace Sys2Proof.Machine

/-! ## Mirror records -/

/-- Mirror credits that a record of LEN `len` needs, in units of 64 groups (R532). -/
def mirrorUnits (len : Nat) : Nat := (len + 2 + 63) / 64

/-- Send a record against credits, or hold it until there are enough (R532); while the link is down nothing is sent. -/
def State.sendMirror (units : Nat) (o : Out) (s : State) : State :=
  if !s.on TWN_STATUS_LINK then s
  else if s.twn.queue.isEmpty && decide (units ≤ s.twn.credits) then
    ({ s with twn := { s.twn with credits := s.twn.credits - units } } : State).emit o
  else { s with twn := { s.twn with queue := s.twn.queue ++ [(units, o)] } }

/-- The held records that so many credits send, oldest first, with what is left: records not sent and credits. -/
def splitHeld : List (Nat × Out) → Nat → List Out × List (Nat × Out) × Nat
  | [], c => ([], [], c)
  | (u, o) :: l, c =>
    if u ≤ c then let (sent, rest, c) := splitHeld l (c - u); (o :: sent, rest, c) else ([], (u, o) :: l, c)

/-- Send the held records, oldest first, while the credits last (R532). -/
def State.drainMirror (s : State) : State :=
  let (sent, rest, c) := splitHeld s.twn.queue s.twn.credits
  ({ s with twn := { s.twn with credits := c, queue := rest } } : State).forL sent fun o s => s.putMirror o

/-- The words of a list of groups. -/
def groupWords : List Nat → List Nat
  | a :: b :: l => (a * 2 ^ 16 + b) :: groupWords l
  | _ => []

/-- Buffer space of a received record is free again: its units go back in the next STATE (R532). -/
def State.freeUnits (len : Nat) (s : State) : State := { s with twn := { s.twn with freed := s.twn.freed + mirrorUnits len } }

/-- Whether the CRC of a record passes (R530): `len` is LEN, `groups` what stands between it and the CRC. -/
def mirrorCrcOk (len crc : Nat) (groups : List Nat) : Bool := crc16 (len :: groups) == crc

/-! ## The journal -/

/-- The data groups of a JOURNAL record (Table 14-3). -/
def JEntry.groups (e : JEntry) : List Nat :=
  wordGroups e.seq ++ wordGroups e.frame ++ [e.line, e.kind * 256 + (e.words.length + 255) % 256] ++ (e.words.map wordGroups).flatten

/-- The PLAN0 line boundary that is the LEAD-th after now (R533). -/
def State.lineStamp (s : State) : Nat × Nat :=
  let p := s.pos 0
  let l := totalLines (s.planH 0).format
  let n := p.line + max 1 (s.rd TWN_CFG_LEAD)
  if n ≤ l then (p.frame, n) else (p.frame + 1, n - l)

/-- The first PLAN0 frame boundary at least LEAD lines from now (R533). -/
def State.frameStamp (s : State) : Nat × Nat :=
  let h := s.planH 0
  let k := s.frame0 + 1
  if s.now + max 1 (s.rd TWN_CFG_LEAD) * h.lineLen ≤ h.frameStart k then (k, 1) else (k + 1, 1)

/-- Whether the journal is full (R538). -/
def State.journalFull (s : State) : Bool := decide (Config.journalSize < s.twn.journal.length)

/-- Send a journal entry to the twin. -/
def State.sendEntry (e : JEntry) (s : State) : State := s.sendMirror (mirrorUnits (e.groups.length + 1)) (.mirror 2 e.groups)

/-- An entry goes into the journal: it is numbered, stamped, kept until it is acknowledged, and sent (R533, R538). -/
def State.journal (kind : Nat) (stamp : Nat × Nat) (words : List Nat) (s : State) : State :=
  let seq := wrap32 (s.rd TWN_JSEQ_SEQ + 1)
  let e : JEntry := { seq := seq, frame := wrap32 stamp.1, line := stamp.2, kind := kind, words := words }
  let s := { s.wr TWN_JSEQ_SEQ seq with twn := { s.twn with journal := s.twn.journal ++ [e], waiting := s.twn.waiting ++ [e] } }
  s.sendEntry e

/-- Whether this device journals: one of a twin pair that holds the claim (R533, R537). -/
def State.journals (s : State) : Bool := s.paired && s.top.claim

/-! ## Records of unsynced rackers -/

/-- Send an OPREC, EFFECT or IMAGE; the spec gives its content and not its layout. -/
def State.sendRecord (kind words : Nat) (o : Out) (s : State) : State :=
  s.sendMirror (mirrorUnits (2 + Config.mirrorLen kind words % 1022)) o

/-! ## The link -/

/-- The mirror link goes down (R531): the credits of its incarnation are lost (R553), the mirror engine is reset (Table 15-8),
and slots not acknowledged are to be sent again (R597). -/
def State.mirrorDown (s : State) : State :=
  if !s.on TWN_STATUS_LINK then s
  else
    let s := (s.wr TWN_STATUS_LINK 0).raise TWN_EVENT_LINK_LOSS
    let s := s.dropResident 7 36
    let s := { s with twn := { s.twn with credits := 0, freed := 0, queue := [] } }
    let s := s.forL s.mail fun e s => s.setMailH e.1 { e.2 with sent := 0, held := [] }
    (s.resetParty .mirror).updateAble

/-- The mirror link comes up: 8,192 units are granted each way (R532), and pending rings are sent (R599). -/
def State.mirrorUp (s : State) : State :=
  if s.on TWN_STATUS_LINK then s
  else
    let s := (s.wr TWN_STATUS_LINK 1).bookIn 7 36 8192
    let s := { s with twn := { s.twn with credits := 8192, freed := 0 } }
    let s := s.forL s.mail fun e s =>
      s.forL (indicesWhere 32 fun k => bit e.2.rings k) fun k s =>
        (s.sendMirror (mirrorUnits 4) (.mirror 7 [e.1 + 2 ^ 8, 0, k])).setMailH e.1 { s.mailH e.1 with rings := 0 }
    s.updateAble

end Sys2Proof.Machine
end

