-- ==== Sys2Proof/Machine/RckCore.lean ====
section
/-! DEFINITION. The execution machinery of the rackers: fetch, retire, traps, program time, waits and the operations TAKE and
COMMIT (R238 to R266, R290 to R318). -/

namespace Sys2Proof.Machine

/-! ## Registers and memories of a racker -/

/-- General register `n` of racker `r`. -/
def State.greg (s : State) (r n : Nat) : Word := s.word (RCK_GREG r n)
/-- Write a general register. -/
def State.setGreg (r n : Nat) (v : Word) (s : State) : State := s.setWord (RCK_GREG r n) v
/-- The flags of a racker. -/
def State.setFlags (r : Nat) (f : RckFlags) (s : State) : State := s.setRckH r { s.rckH r with flags := f }
/-- The instruction index in PC. -/
def State.pc (s : State) (r : Nat) : Nat := s.rd (RCK_PC_PC r)

/-- Advance program time by a number of cycles (R239). -/
def State.advance (r cycles : Nat) (s : State) : State :=
  s.setRckH r { s.rckH r with p := (s.rckH r).p + cycles * s.rckPeriod }

/-- Set program time; it never moves backwards (R300). -/
def State.setP (r t : Nat) (s : State) : State := s.setRckH r { s.rckH r with p := max (s.rckH r).p t }

/-- After an instruction the racker runs on, or halts where it was stepping (R287). -/
def State.boundary (r : Nat) (s : State) : State :=
  if (s.rckH r).stepping then (s.setRckH r { s.rckH r with stepping := false }).wr (RCK_STATUS_STATE r) 0
  else s.wr (RCK_STATUS_STATE r) 1

/-- Continue at an index; past 16,383 the next instruction traps with PC_RANGE (Table 07-11). -/
def State.goto (r i : Nat) (s : State) : State :=
  (s.setRckH r { s.rckH r with pcOver := decide (16383 < i) }).wr (RCK_PC_PC r) i

/-- Retire the present instruction after its cycles, and go on with the next one. -/
def State.retire (r cycles : Nat) (s : State) : State := ((s.advance r cycles).goto r (s.pc r + 1)).boundary r

/-- Retire with a jump. -/
def State.retireTo (r cycles i : Nat) (s : State) : State := ((s.advance r cycles).goto r i).boundary r

/-- Complete a wait: the racker resumes with P at the instant its condition became true (R238, R300). -/
def State.resumeAt (r t : Nat) (s : State) : State :=
  let s := s.setP r t
  let s := s.setRckH r { s.rckH r with wait := .none }
  (s.goto r (s.pc r + 1)).boundary r

/-- The racker waits (STATE 2), its PC on the wait instruction. -/
def State.startWait (r : Nat) (w : Wait) (s : State) : State :=
  (s.setRckH r { s.rckH r with wait := w, metAt := none, proved := none }).wr (RCK_STATUS_STATE r) 2

/-! ## Traps -/

/-- A trap of racker `r`: its cause and index are recorded and counted; a trap of class Handler enters the handler where one
is enabled, every other one halts the racker, whose staging buffer is emptied, and triggers self-diagnosis where it owns
anything (R290 to R292, R306). A trap inside the handler is a DOUBLE. -/
def State.trap (r cause arg : Nat) (s : State) : State :=
  let inHandler := s.on (RCK_STATUS_IN_HANDLER r)
  let cause := if inHandler then 4 else cause
  let index := s.pc r
  let s := ((s.wr (RCK_STATUS_TRAP_CAUSE r) cause).wr (RCK_TRAP_PC_PC r) index).bump (RCK_CNT_COUNT r 5)
  let s := s.raise (RCK_STATUS_TRAP r)
  if 5 ≤ cause ∧ cause ≤ 11 ∧ s.on (RCK_CFG_TRAP_VEC_EN r) then
    let s := s.setRckH r { s.rckH r with
      trapInfo := index + cause * 2 ^ 16 + (if cause = 11 then arg * 2 ^ 24 else 0) }
    ((s.wr (RCK_STATUS_IN_HANDLER r) 1).retireTo r 4 (s.rd (RCK_TRAP_VEC_VEC r)))
  else
    let s := s.setRckH r { s.rckH r with staging := [], stepping := false, wait := .none }
    let s := (s.wr (RCK_STATUS_STATE r) 4).showRck r
    if s.ownsAny r then s.trapTrigger r else s

/-! ## Issue -/

/-- A racker runs: STATE 1, its cluster powered. -/
def State.rckRuns (s : State) (r : Nat) : Bool := s.rd (RCK_STATUS_STATE r) == 1 && s.domReady (rckDomain r)

/-- At an instruction boundary more than 10 µs after P, P is set to the real instant; the twin learns of it, and on a standby
the racker becomes unsynced and halts (R240, R540, R541). -/
def State.resync (r : Nat) (s : State) : State :=
  if (s.rckH r).p + 10 * us < s.now then
    let s := (s.setRckH r { s.rckH r with p := s.now }).raise (RCK_STATUS_PT_RESYNC r)
    { s with twn := { s.twn with resync := s.twn.resync ||| 2 ^ r } }
  else s

/-- The word at PC. -/
def State.fetchWord (s : State) (r : Nat) : Nat := (s.word (RCK_PM r (s.pc r))).toNat

/-- Execute the instruction at PC of racker `r`, where its opcode is `op`: an encoding that Table 08-3 does not admit traps
with ILLEGAL (R294). Where the racker does not run, or the word has another opcode, nothing happens. -/
def State.issue (r op : Nat) (f : RckInstr → State → State) (s : State) : State :=
  if s.rckRuns r && !(s.rckH r).pcOver && rckOp (s.fetchWord r) == op then
    let s := s.resync r
    match rckDecode (s.fetchWord r) with
    | some i => f i s
    | none => s.trap r 1 0
  else s

/-! ## Program time as plan positions -/

/-- P as a position of a plan (R242). -/
def State.ptPos (s : State) (r p : Nat) : Pos :=
  if s.on (PLN_STATUS_RUN p) then (s.planH p).posAt (s.rckH r).p else s.pos p

/-- Whether frame `k` of a plan has a line `l`: a frame of fewer lines, or that is cut before it, has none, and the extension lines of a
long JUMP frame are never waited on (R243). -/
def State.hasLine (s : State) (p k l : Nat) : Bool := decide (l ≤ totalLines (s.timingOf p k).format) && s.frameReaches p k l

/-- The first start of line `l` of a plan at or after an instant, in a frame that has it (R243). -/
def State.lineFrom (s : State) (p l t : Nat) : Nat → Nat → Option Nat
  | 0, _ => none
  | n + 1, k =>
    let a := (s.timingOf p k).lineStart k l
    if t ≤ a && s.hasLine p k l then some a else s.lineFrom p l t n (k + 1)

/-- How many lines of plan `p` have begun at an instant; no line of a disabled plan begins (R278). -/
def State.linesBegun (s : State) (p t : Nat) : Nat := if s.on (PLN_STATUS_RUN p) then (s.planH p).linesBy t else (s.planH p).lines

/-- The instant at which a timeout of `n` lines expires that was issued when `issued` lines of plan `p` had begun; 0 lines never
expire, nor does a timeout while the plan is disabled (R278). -/
def State.timeoutAt (s : State) (p n issued : Nat) : Option Nat :=
  if n = 0 || !s.on (PLN_STATUS_RUN p) then none else some ((s.planH p).lineAt (issued + n))

/-- Whether such a timeout has expired before an instant. -/
def State.timedOut (s : State) (p n issued t : Nat) : Bool :=
  match s.timeoutAt p n issued with
  | some x => decide (x < t)
  | none => false

/-! ## Salvo entries -/

/-- Salvo entry `i`, 64 bits. -/
def State.salvo (s : State) (i : Nat) : Nat := (s.word (RCK_SALVO i)).toNat + (s.word (RCK_SALVO i + 4)).toNat * 2 ^ 32

/-- KIND of an entry. -/
def entryKind (e : Nat) : Nat := e / 2 ^ 60 % 16

/-- Whether an entry sets a bit outside its fields (Table 07-2). -/
def entryStray (e : Nat) : Bool :=
  match entryKind e with
  | 1 => e / 2 ^ 13 % 2 ^ 19 != 0 || e / 2 ^ 45 % 2 ^ 13 != 0
  | 2 => e / 2 ^ 16 % 2 ^ 24 != 0 || e / 2 ^ 56 % 16 != 0
  | 3 => e / 2 ^ 33 % 2 ^ 15 != 0 || e / 2 ^ 54 % 64 != 0
  | _ => false

/-- The entries a TAKE reads: up to the first END; and how many were read, the END counted (R247, R299). -/
def State.readEntries (s : State) : Nat → Nat → List Nat × Nat
  | _, 0 => ([], 0)
  | i, n + 1 =>
    let e := s.salvo i
    if entryKind e = 0 then ([], 1)
    else
      let (l, k) := s.readEntries (i + 1) n
      (e :: l, k + 1)

/-! ## The projected map -/

/-- A destination in the projected map: its route, or the gang that covers it. -/
structure Projected where
  valid : Bool
  width : Nat
  cover : Option Nat
  deriving DecidableEq, Repr

/-- The gang that covers output `d` in the map in force. -/
def State.coverOf (s : State) (d : Nat) : Option Nat :=
  [d - d % 2, d - d % 4, d - d % 16].find? fun x =>
    x != d && s.on (XPT_MAP_RD_VALID x) && !s.on (XPT_MAP_RD_COVERED x) && decide (d < x + widthOf (s.rd (XPT_MAP_RD_WIDTH x)))

/-- How a change moves a destination in the projected map (R255). -/
def Projected.step (d : Nat) (q : Projected) : Change → Projected
  | .route x _ w =>
    if x = d then { valid := true, width := w, cover := none }
    else if x < d ∧ d < x + w then { valid := false, width := 1, cover := some x }
    else if q.cover = some x then { valid := false, width := 1, cover := none } else q
  | .clear x =>
    if x = d then { valid := false, width := 1, cover := none }
    else if q.cover = some x then { q with cover := none } else q
  | _ => q

/-- Insert something by the instant at which it lands, after what lands at the same one. -/
def insertAt {α : Type} (t : Nat) (g : α) : List (Nat × α) → List (Nat × α)
  | [] => [(t, g)]
  | a :: l => if a.1 ≤ t then a :: insertAt t g l else (t, g) :: a :: l

/-- The racker's own pending changes, in landing order over all plans (R255). -/
def State.pendingChanges (s : State) (r : Nat) : List Change :=
  (((s.rckH r).ops.flatten.foldl (fun l g => insertAt ((s.timingOf g.plan g.frame).lineStart g.frame g.line) g l) []).map (·.2.changes)).flatten

/-- Output `d` in the projected map, after the racker's pending operations and earlier entries `prior` of this one. -/
def State.projected (s : State) (r d : Nat) (prior : List Change) : Projected :=
  let now : Projected :=
    { valid := s.on (XPT_MAP_RD_VALID d) && !s.on (XPT_MAP_RD_COVERED d), width := widthOf (s.rd (XPT_MAP_RD_WIDTH d)),
      cover := if s.on (XPT_MAP_RD_COVERED d) then s.coverOf d else none }
  (s.pendingChanges r ++ prior).foldl (fun q c => q.step d c) now

/-! ## Validation -/

/-- What validation decides of an entry: the changes it makes, and counts of accepted, denied and refused with the first
refusal reason. -/
structure Verdict where
  changes : List Change := []
  accepted : Nat := 0
  denied : Nat := 0
  refused : Nat := 0
  reason : Nat := 0
  deriving DecidableEq, Repr

/-- A refusal for a reason of Table 07-3. -/
def refuse (reason : Nat) : Verdict := { refused := 1, reason := reason }
/-- A denial. -/
def deny : Verdict := { denied := 1 }

/-- Whether a racker owns every video destination of a range. -/
def State.ownsRange (s : State) (r d w : Nat) : Bool := (rangeFrom d w).all fun x => s.ownerV x == some r

/-- The reason of Table 07-3, codes 3 to 8, for which a VIDEO entry is refused; 0 for none. -/
def State.videoReason (s : State) (clear : Bool) (dst src width : Nat) (q : Projected) : Nat :=
  let p := s.outPlan dst
  if s.trunk (dst / 128) || (!clear && decide (src < 4608) && s.trunk (src / 128)) then 3
  else if !clear && dst % width != 0 then 4
  else if q.cover.isSome then 5
  else if !clear && ((decide (src < 4608) && !s.addresses src)
      || s.headCovered src) then 6
  else if !s.on (PLN_STATUS_RUN p) then 7
  else if !clear && decide (4768 ≤ src) && (s.inputOf src).isNone then 8
  else 0

/-- Validate a VIDEO entry (R251, R252, R386). -/
def State.checkVideo (s : State) (r e fade : Nat) (prior : List Change) : Verdict :=
  let afv := bit e 59
  let clear := bit e 58
  let src := e / 2 ^ 32 % 2 ^ 13
  let dst := e % 2 ^ 13
  if 4607 < dst then refuse 2
  else
    let q := s.projected r dst prior
    let width := if clear then 1 else s.srcWidth src (s.outPlan dst)
    let audio := if afv then s.afvChanges dst (if clear then none else some src) else []
    let reach := if q.cover.isSome then 1 else max (if dst % width = 0 then width else 1) q.width
    if !s.ownsRange r dst reach || !(audio.all fun c => s.ownerA (c.1 / 16) == some r) then deny
    else
      let reason := s.videoReason clear dst src width q
      if reason ≠ 0 then refuse reason
      else
        { changes := (if clear then Change.clear dst else Change.route dst src width) ::
            audio.map fun c => Change.audio c.1 c.2 fade,
          accepted := 1 }

/-- Validate an AUDIO entry. -/
def State.checkAudio (s : State) (r e fade : Nat) : Verdict :=
  let asrc := e / 2 ^ 40 % 2 ^ 16
  let adst := e % 2 ^ 16
  if 49151 < adst then refuse 2
  else if !isSourceChannel asrc then refuse 2
  else if s.ownerA (adst / 16) ≠ some r then deny
  else if !s.on (PLN_STATUS_RUN (s.audPlan adst)) then refuse 7
  else { changes := [.audio adst asrc fade], accepted := 1 }

/-- Validate a SLOTM entry, of index `at_` in its operation: each selected slot on its own (R249, R251, R252). An entry that selects no
slot changes no destination and is not denied. -/
def State.checkSlotm (s : State) (r e at_ : Nat) : Verdict :=
  let n := e / 2 ^ 48 % 64
  let half := e / 2 ^ 32 % 2
  let select := e / 2 ^ 16 % 2 ^ 16
  if 35 < n then refuse 2
  else
    let slots := (indicesWhere 16 fun j => bit select j).map fun j => (n * 128 + (16 * half + j) * 4, bit e j)
    let owned := slots.filter fun x => s.ownsRange r x.1 4
    if owned.isEmpty && !slots.isEmpty then { denied := slots.length }
    else if s.trunk n then { refused := 1, reason := 3, denied := slots.length - owned.length }
    else
      let good := owned.filter fun x => (rangeFrom x.1 4).all fun d => s.on (PLN_STATUS_RUN (s.outPlan d))
      { changes := (good.map fun x => (rangeFrom x.1 4).map fun d => Change.mask d x.2 at_).flatten,
        accepted := if good.isEmpty then 0 else 1,
        denied := slots.length - owned.length, refused := owned.length - good.length, reason := 7 }

/-- Validate one entry (Table 07-2, Table 07-3). NOP entries are skipped and not counted. -/
def State.checkEntry (s : State) (r e fade at_ : Nat) (prior : List Change) : Verdict :=
  if entryStray e then refuse 1
  else match entryKind e with
    | 1 => s.checkVideo r e fade prior
    | 2 => s.checkAudio r e fade
    | 3 => s.checkSlotm r e at_
    | 4 => {}
    | _ => refuse 1

/-- What an operation has gathered over its entries. -/
structure Tally where
  changes : List Change := []
  accepted : Nat := 0
  denied : Nat := 0
  refused : Nat := 0
  /-- The first denial or refusal: entry index, reason (0 for a denial). -/
  first : Option (Nat × Nat) := none
  deriving DecidableEq, Repr

/-- Add the outcome of entry `i` to a tally. A SLOTM entry with slots denied and slots refused records the denial. -/
def Tally.add (t : Tally) (i : Nat) (v : Verdict) : Tally :=
  { changes := t.changes ++ v.changes, accepted := t.accepted + v.accepted, denied := t.denied + v.denied,
    refused := t.refused + v.refused,
    first := t.first.orElse fun _ => if 0 < v.denied then some (i, 0) else if 0 < v.refused then some (i, v.reason) else none }

/-- Validate entries in order, each against the projected map after the ones before it. -/
def State.validate (s : State) (r fade : Nat) : List Nat → Nat → Tally → Tally
  | [], _, t => t
  | e :: l, i, t => s.validate r fade l (i + 1) (t.add i (s.checkEntry r e fade i t.changes))

/-- The plan that a change lands on. -/
def State.changePlan (s : State) : Change → Nat
  | .route d _ _ | .clear d | .mask d _ _ => s.outPlan d
  | .audio a _ _ => s.audPlan a

/-! ## TAKE and COMMIT -/

/-- Record the first denial or refusal in RCK_REFUSE, unless a record is held, and count them all (R266). -/
def State.recordRefusals (r : Nat) (t : Tally) (s : State) : State :=
  let s := (s.bumpBy (RCK_CNT_COUNT r 2) t.denied).bumpBy (RCK_CNT_COUNT r 3) t.refused
  match t.first with
  | some (i, reason) =>
    if s.on (RCK_REFUSE_VALID r) then s
    else (((s.wr (RCK_REFUSE_INDEX r) i).wr (RCK_REFUSE_REASON r) reason).wrB (RCK_REFUSE_DENIED r) (reason == 0)).raise
      (RCK_REFUSE_VALID r)
  | none => s

/-- The groups of an operation's changes with their landings: group and late, for each plan (R257). -/
def State.planGroups (s : State) (changes : List Change) (floor retire : Nat) : List (PlanGroup × Bool) :=
  (rangeFrom 0 8).filterMap fun p =>
    let mine := changes.filter fun c => s.changePlan c == p
    if mine.isEmpty then none
    else match s.assignLanding p floor retire with
      | some (k, l, late) => some ({ plan := p, frame := k, line := l, retired := retire, changes := mine }, late)
      | none => none

/-- CTN_SLOTM_PEND shows the masks that result from all retired entries (R268). -/
def State.pendMasks (changes : List Change) (s : State) : State :=
  s.forL changes fun c s => match c with
    | .mask d on _ => s.wrB ⟨CTN_SLOTM_PEND (d / 128), d % 128 / 4, 1⟩ on
    | _ => s

/-- Write the result word to a register and to RCK_RESULT (R264). -/
def State.writeResult (r rd result : Nat) (s : State) : State :=
  let s := (s.setGreg r rd (BitVec.ofNat 32 result)).wr (RCK_RESULT_RESULT r) result
  s.setFlags r (flagsResult (s.rckH r).flags result)

/-- An operation retires at P: its entries are validated, its plan groups are assigned their switch lines, and its result is
written; STRICT cancels it where an entry is denied or refused (R250 to R266). The floor, if armed, is disarmed (R246). -/
def State.retireOperation (r rd : Nat) (entries : List Nat) (floor : Option Nat) (s : State) : State :=
  let h := s.rckH r
  let t := s.validate r (s.rd (RCK_FADE_TENTHS_MS r)) entries 0 {}
  let s := (s.setRckH r { h with floor := none, wait := .none }).recordRefusals r t
  let s := s.bump (RCK_CNT_COUNT r 0)
  let bad := ofBool (t.denied != 0) * 2 ^ 29 + ofBool (t.refused != 0) * 2 ^ 30
  if s.on (RCK_CFG_STRICT r) && bad != 0 then s.writeResult r rd (t.accepted + bad + 2 ^ 31)
  else
    let groups := s.planGroups t.changes (floor.getD h.p) h.p
    let late : Nat := groups.foldl (fun a g => if g.2 then a + 2 ^ g.1.plan else a) 0
    let plans : Nat := groups.foldl (fun a g => a + 2 ^ g.1.plan) 0
    let s := if late = 0 then s else s.bump (RCK_CNT_COUNT r 1)
    let s := s.pendMasks t.changes
    let s := s.forL groups fun g s =>
      ((s.wr (RCK_LAND_F_FRAME r g.1.plan) (wrap32 g.1.frame)).wr (RCK_LAND_L_LINE r g.1.plan) g.1.line).wr (RCK_LAND_L_PEND r g.1.plan) 1
    let s := if groups.isEmpty then s else s.setRckH r { s.rckH r with ops := (s.rckH r).ops ++ [groups.map (·.1)] }
    let result := t.accepted + late * 2 ^ 13 + plans * 2 ^ 21 + bad
    let s := (s.writeResult r rd result).showRck r
    if s.top.claim && bit (s.rd TWN_STATUS_UNSYNCED) r then s.sendRecord 4 t.changes.length (.oprec r result (groups.map (·.1))) else s

/-- The instant of the armed floor: the start of its frame in the floor plan's timing in force (R246); `none` inside where
that plan is disabled. -/
def State.floorInstant (s : State) (r : Nat) : Option (Option Nat) :=
  match (s.rckH r).floor with
  | none => some none
  | some (p, f) =>
    if s.on (PLN_STATUS_RUN p) then
      let k := s.frameOf p
      let d := signedOf 32 (wrap32 (f + 2 ^ 32 - wrap32 k))
      some (some ((s.planH p).frameStart (((k : Int) + d).toNat)))
    else none

/-- A TAKE or COMMIT at retire: a fifth operation waits for the oldest pending one (R263), a floor on a disabled plan for
that plan (R246); else it retires. -/
def State.operate (r rd : Nat) (entries : List Nat) (s : State) : State :=
  if 4 ≤ (s.rckH r).ops.length then
    (s.setRckH r { s.rckH r with wait := .retire rd entries, landedAt := none }).wr (RCK_STATUS_STATE r) 3
  else match s.floorInstant r with
    | none => s.startWait r (.retire rd entries)
    | some fl =>
      let s := s.retireOperation r rd entries fl
      (s.goto r (s.pc r + 1)).boundary r

/-- A COMMIT of an empty staging buffer: no entry, no pending operation; an armed floor is waited for and disarmed like that of any other
(R246, R265). -/
def State.commitEmpty (r rd : Nat) (s : State) : State :=
  match s.floorInstant r with
  | none => s.startWait r (.retire rd [])
  | some fl => ((s.retireOperation r rd [] fl).goto r (s.pc r + 1)).boundary r

/-- Stage an entry with XSET, AMAP or SLOTM, whose KIND must be `kind`: a 65th traps with STAGE_FULL; a wrong kind is staged
as an entry that COMMIT refuses with BAD_KIND (R249, R265). -/
def State.stage (r kind hi lo : Nat) (s : State) : State :=
  let h := s.rckH r
  if 64 ≤ h.staging.length then s.trap r 8 0
  else
    let e := hi * 2 ^ 32 + lo
    let e := if entryKind e = kind then e else 15 * 2 ^ 60
    ((s.setRckH r { h with staging := h.staging ++ [e] }).showRck r).retire r 2

end Sys2Proof.Machine
end

