-- ==== Sys2Proof/Machine/RckAlu.lean ====
section
/-! DEFINITION. The arithmetic, logic, shift, data memory, special register and branch instructions of the rackers
(R293 to R307). -/

namespace Sys2Proof.Machine

/-! ## Shared operations -/

/-- imm16 zero-extended (R295). -/
def zeroExt16 (i : Nat) : Word := BitVec.ofNat 32 i

/-- The shift count of an operand: bits [4:0]. -/
def shCount (b : Word) : Nat := b.toNat % 32
def shlWord (a : Word) (n : Nat) : Word := a <<< n
def shrWord (a : Word) (n : Nat) : Word := a >>> n
def sarWord (a : Word) (n : Nat) : Word := a.sshiftRight n
def flagsShl (f : RckFlags) (a : Word) (n : Nat) : RckFlags := flagsShift f (shlWord a n) n (lastOutLeft a n)
def flagsShr (f : RckFlags) (a : Word) (n : Nat) : RckFlags := flagsShift f (shrWord a n) n (lastOutRight a n)
def flagsSar (f : RckFlags) (a : Word) (n : Nat) : RckFlags := flagsShift f (sarWord a n) n (lastOutRight a n)

/-- A two-operand operation: rd and the flags from two words. -/
def State.aluWords (r : Nat) (i : RckInstr) (cycles : Nat) (res : Word → Word → Word)
    (fl : RckFlags → Word → Word → RckFlags) (a b : Word) (s : State) : State :=
  ((s.setGreg r i.rd (res a b)).setFlags r (fl (s.rckH r).flags a b)).retire r cycles

/-- A register-register operation (format A). -/
def State.alu (r : Nat) (i : RckInstr) (cycles : Nat) (res : Word → Word → Word)
    (fl : RckFlags → Word → Word → RckFlags) (s : State) : State :=
  s.aluWords r i cycles res fl (s.greg r i.ra) (s.greg r i.rb)

/-- A register-immediate operation (format I) with its extended immediate. -/
def State.aluImm (r : Nat) (i : RckInstr) (cycles : Nat) (res : Word → Word → Word)
    (fl : RckFlags → Word → Word → RckFlags) (b : Word) (s : State) : State :=
  s.aluWords r i cycles res fl (s.greg r i.ra) b

/-- CMP and CMPI: the flags of a subtraction. -/
def State.compare (r : Nat) (a b : Word) (s : State) : State := (s.setFlags r (flagsSub a b)).retire r 1

/-- The address of a data memory or matrix access: ra + imm (R295). -/
def State.effAddr (r : Nat) (i : RckInstr) (s : State) : Nat := (s.greg r i.ra + signExt16 i.immediate).toNat

/-- Check a data memory address: ALIGN first for a word, then DM_RANGE, then an uncorrectable error of the memory (R290,
R302); else go on. -/
def State.dmAccess (r a : Nat) (isWord ecc : Bool) (f : State → State) (s : State) : State :=
  if isWord && a % 4 != 0 then s.trap r 6 0
  else if 0x3FFF < a then s.trap r 5 0
  else if ecc then s.trap r 3 0
  else f s

/-- Replace byte `k` of a word. -/
def putByte (w : Word) (k v : Nat) : Word := fieldPut ⟨0, 8 * k, 8⟩ w v

/-- Go to a branch target, or trap with PC_RANGE where it lies outside program memory; `f` is what the branch does besides
(R305). -/
def State.branch (r : Nat) (target : Int) (f : State → State) (s : State) : State :=
  if target < 0 ∨ 16383 < target then s.trap r 2 0 else (f s).retireTo r 2 target.toNat

/-- Target of BC and CALL: the index of the branch plus imm (R295, R305). -/
def State.relTarget (r : Nat) (i : RckInstr) (s : State) : Int := (s.pc r : Int) + signedOf 16 i.immediate

/-- The word of a special register or view (Table 08-6). -/
def State.special (s : State) (r sel : Nat) : Nat :=
  let h := s.rckH r
  let q := s.ptPos r h.planSel
  match sel with
  | 0 => s.pc r + 1
  | 1 => h.lnk
  | 2 => q.frame % 2 ^ 16 * 2 ^ 16 + q.line
  | 3 => h.planSel
  | 4 => s.rd (RCK_EPOCH_EPOCH r)
  | 5 => h.flags.word
  | 6 => wrap32 q.frame
  | 7 => q.sample * 2 ^ 16 + q.line
  | 8 => r
  | _ => h.trapInfo

/-- Write a writable special register: LNK, PLANSEL or FLAGS (R305, R307). -/
def State.setSpecial (r sel v : Nat) (s : State) : State :=
  let h := s.rckH r
  if sel = 1 then s.setRckH r { h with lnk := v % 2 ^ 14 }
  else if sel = 3 then s.setRckH r { h with planSel := v % 8 }
  else s.setRckH r { h with flags := flagsOfWord v }

/-! ## Arithmetic, logic and shifts -/

/-- ADD: rd ← ra + rb (R298). -/
def execAdd (r : Fin 16) (s : State) : Host.Outcome State Fault Refusal :=
  .next (s.issue r 0x01 fun i s => s.alu r i 1 (fun a b => a + b) (fun _ a b => flagsAdd a b))

/-- SUB: rd ← ra − rb (R298). -/
def execSub (r : Fin 16) (s : State) : Host.Outcome State Fault Refusal :=
  .next (s.issue r 0x02 fun i s => s.alu r i 1 (fun a b => a - b) (fun _ a b => flagsSub a b))

/-- AND: rd ← ra AND rb (R298). -/
def execAnd (r : Fin 16) (s : State) : Host.Outcome State Fault Refusal :=
  .next (s.issue r 0x03 fun i s => s.alu r i 1 (fun a b => a &&& b) (fun f a b => flagsLogic f (a &&& b)))

/-- OR: rd ← ra OR rb (R298). -/
def execOr (r : Fin 16) (s : State) : Host.Outcome State Fault Refusal :=
  .next (s.issue r 0x04 fun i s => s.alu r i 1 (fun a b => a ||| b) (fun f a b => flagsLogic f (a ||| b)))

/-- XOR: rd ← ra XOR rb (R298). -/
def execXor (r : Fin 16) (s : State) : Host.Outcome State Fault Refusal :=
  .next (s.issue r 0x05 fun i s => s.alu r i 1 (fun a b => a ^^^ b) (fun f a b => flagsLogic f (a ^^^ b)))

/-- SHL: rd ← ra shifted left by rb[4:0] (R298). -/
def execShl (r : Fin 16) (s : State) : Host.Outcome State Fault Refusal :=
  .next (s.issue r 0x06 fun i s => s.alu r i 1 (fun a b => shlWord a (shCount b)) (fun f a b => flagsShl f a (shCount b)))

/-- SHR: rd ← ra shifted right logically by rb[4:0] (R298). -/
def execShr (r : Fin 16) (s : State) : Host.Outcome State Fault Refusal :=
  .next (s.issue r 0x07 fun i s => s.alu r i 1 (fun a b => shrWord a (shCount b)) (fun f a b => flagsShr f a (shCount b)))

/-- SAR: rd ← ra shifted right arithmetically by rb[4:0] (R298). -/
def execSar (r : Fin 16) (s : State) : Host.Outcome State Fault Refusal :=
  .next (s.issue r 0x08 fun i s => s.alu r i 1 (fun a b => sarWord a (shCount b)) (fun f a b => flagsSar f a (shCount b)))

/-- MUL: rd ← low 32 bits of ra × rb (R298). -/
def execMul (r : Fin 16) (s : State) : Host.Outcome State Fault Refusal :=
  .next (s.issue r 0x09 fun i s => s.alu r i 3 (fun a b => a * b) (fun f a b => flagsLogic f (a * b)))

/-- CMP: flags of ra − rb, the result discarded (R298). -/
def execCmp (r : Fin 16) (s : State) : Host.Outcome State Fault Refusal :=
  .next (s.issue r 0x0A fun i s => s.compare r (s.greg r i.ra) (s.greg r i.rb))

/-- ADDI: rd ← ra + imm, sign-extended (R298). -/
def execAddi (r : Fin 16) (s : State) : Host.Outcome State Fault Refusal :=
  .next (s.issue r 0x0B fun i s => s.aluImm r i 1 (fun a b => a + b) (fun _ a b => flagsAdd a b) (signExt16 i.immediate))

/-- ANDI: rd ← ra AND imm, zero-extended (R298). -/
def execAndi (r : Fin 16) (s : State) : Host.Outcome State Fault Refusal :=
  .next (s.issue r 0x0C fun i s => s.aluImm r i 1 (fun a b => a &&& b) (fun f a b => flagsLogic f (a &&& b)) (zeroExt16 i.immediate))

/-- ORI: rd ← ra OR imm, zero-extended (R298). -/
def execOri (r : Fin 16) (s : State) : Host.Outcome State Fault Refusal :=
  .next (s.issue r 0x0D fun i s => s.aluImm r i 1 (fun a b => a ||| b) (fun f a b => flagsLogic f (a ||| b)) (zeroExt16 i.immediate))

/-- XORI: rd ← ra XOR imm, zero-extended (R298). -/
def execXori (r : Fin 16) (s : State) : Host.Outcome State Fault Refusal :=
  .next (s.issue r 0x0E fun i s => s.aluImm r i 1 (fun a b => a ^^^ b) (fun f a b => flagsLogic f (a ^^^ b)) (zeroExt16 i.immediate))

/-- SHLI: as SHL with count imm[4:0] (R298). -/
def execShli (r : Fin 16) (s : State) : Host.Outcome State Fault Refusal :=
  .next (s.issue r 0x0F fun i s => s.aluImm r i 1 (fun a b => shlWord a (shCount b)) (fun f a b => flagsShl f a (shCount b)) (zeroExt16 i.immediate))

/-- SHRI: as SHR with count imm[4:0] (R298). -/
def execShri (r : Fin 16) (s : State) : Host.Outcome State Fault Refusal :=
  .next (s.issue r 0x10 fun i s => s.aluImm r i 1 (fun a b => shrWord a (shCount b)) (fun f a b => flagsShr f a (shCount b)) (zeroExt16 i.immediate))

/-- SARI: as SAR with count imm[4:0] (R298). -/
def execSari (r : Fin 16) (s : State) : Host.Outcome State Fault Refusal :=
  .next (s.issue r 0x11 fun i s => s.aluImm r i 1 (fun a b => sarWord a (shCount b)) (fun f a b => flagsSar f a (shCount b)) (zeroExt16 i.immediate))

/-- CMPI: flags of ra − imm, sign-extended (R298). -/
def execCmpi (r : Fin 16) (s : State) : Host.Outcome State Fault Refusal :=
  .next (s.issue r 0x12 fun i s => s.compare r (s.greg r i.ra) (signExt16 i.immediate))

/-- MOVI: rd ← imm, sign-extended (R298). -/
def execMovi (r : Fin 16) (s : State) : Host.Outcome State Fault Refusal :=
  .next (s.issue r 0x13 fun i s => (s.setGreg r i.rd (signExt16 i.immediate)).retire r 1)

/-- LUI: rd ← imm16 × 65,536 (R298). -/
def execLui (r : Fin 16) (s : State) : Host.Outcome State Fault Refusal :=
  .next (s.issue r 0x14 fun i s => (s.setGreg r i.rd (BitVec.ofNat 32 (i.immediate * 2 ^ 16))).retire r 1)

/-! ## Data memory and salvo memory -/

/-- LDW: rd ← the data memory word at ra + imm; `ecc` says that the memory has an uncorrectable error there (R302). -/
def execLdw (r : Fin 16) (ecc : Bool) (s : State) : Host.Outcome State Fault Refusal :=
  .next (s.issue r 0x15 fun i s =>
    let a := s.effAddr r i
    s.dmAccess r a true ecc fun s => (s.setGreg r i.rd (s.word (RCK_DM r (a / 4)))).retire r 2)

/-- STW: the data memory word at ra + imm ← rd (R302). -/
def execStw (r : Fin 16) (ecc : Bool) (s : State) : Host.Outcome State Fault Refusal :=
  .next (s.issue r 0x16 fun i s =>
    let a := s.effAddr r i
    s.dmAccess r a true ecc fun s => (s.setWord (RCK_DM r (a / 4)) (s.greg r i.rd)).retire r 1)

/-- LDB: rd ← the data memory byte at ra + imm, zero-extended (R302). -/
def execLdb (r : Fin 16) (ecc : Bool) (s : State) : Host.Outcome State Fault Refusal :=
  .next (s.issue r 0x17 fun i s =>
    let a := s.effAddr r i
    s.dmAccess r a false ecc fun s =>
      (s.setGreg r i.rd (BitVec.ofNat 32 (fieldGet ⟨0, 8 * (a % 4), 8⟩ (s.word (RCK_DM r (a / 4)))))).retire r 2)

/-- STB: the data memory byte at ra + imm ← rd[7:0] (R302). -/
def execStb (r : Fin 16) (ecc : Bool) (s : State) : Host.Outcome State Fault Refusal :=
  .next (s.issue r 0x18 fun i s =>
    let a := s.effAddr r i
    s.dmAccess r a false ecc fun s =>
      (s.setWord (RCK_DM r (a / 4)) (putByte (s.word (RCK_DM r (a / 4))) (a % 4) (s.greg r i.rd).toNat)).retire r 1)

/-- SLD: rd ← bits [63:32] and rd + 1 ← bits [31:0] of salvo entry ra[15:0] (R303). -/
def execSld (r : Fin 16) (s : State) : Host.Outcome State Fault Refusal :=
  .next (s.issue r 0x19 fun i s =>
    let k := (s.greg r i.ra).toNat % 2 ^ 16
    let hi := s.word (RCK_SALVO k + 4)
    let lo := s.word (RCK_SALVO k)
    ((s.setGreg r i.rd hi).setGreg r (i.rd + 1) lo).retire r 3)

/-! ## Special registers -/

/-- MFS: rd ← the special register or view numbered imm (R307). -/
def execMfs (r : Fin 16) (s : State) : Host.Outcome State Fault Refusal :=
  .next (s.issue r 0x1D fun i s => (s.setGreg r i.rd (BitVec.ofNat 32 (s.special r i.immediate))).retire r 1)

/-- MTS: the special register numbered imm ← ra (R307). -/
def execMts (r : Fin 16) (s : State) : Host.Outcome State Fault Refusal :=
  .next (s.issue r 0x1E fun i s => (s.setSpecial r i.immediate (s.greg r i.ra).toNat).retire r 1)

/-! ## Branches and traps -/

/-- BC: when the condition holds, PC ← index + imm (R297, R305). -/
def execBc (r : Fin 16) (s : State) : Host.Outcome State Fault Refusal :=
  .next (s.issue r 0x20 fun i s =>
    if condHolds (s.rckH r).flags i.rd then s.branch r (s.relTarget r i) id else s.retire r 1)

/-- CALL: LNK ← index + 1; PC ← index + imm (R305). -/
def execCall (r : Fin 16) (s : State) : Host.Outcome State Fault Refusal :=
  .next (s.issue r 0x21 fun i s =>
    s.branch r (s.relTarget r i) fun s => s.setRckH r { s.rckH r with lnk := (s.pc r + 1) % 2 ^ 14 })

/-- JR: PC ← ra, all 32 bits of it (R305). -/
def execJr (r : Fin 16) (s : State) : Host.Outcome State Fault Refusal :=
  .next (s.issue r 0x22 fun i s => s.branch r (s.greg r i.ra).toNat id)

/-- RET: PC ← LNK (R305). -/
def execRet (r : Fin 16) (s : State) : Host.Outcome State Fault Refusal :=
  .next (s.issue r 0x23 fun _ s => s.branch r (s.rckH r).lnk id)

/-- TRAP: trap cause 11 with argument imm[7:0]. The row also stands for the traps that no instruction's own row takes: an
undefined opcode (ILLEGAL), a PC past 16,383 (PC_RANGE), and with `ecc` an uncorrectable error in the fetch (MEM_ECC)
(R290, R294, R306). -/
def execTrap (r : Fin 16) (ecc : Bool) (s : State) : Host.Outcome State Fault Refusal :=
  .next (
    if !s.rckRuns r then s
    else if (s.rckH r).pcOver then (s.resync r).trap r 2 0
    else if ecc then (s.resync r).trap r 3 0
    else if (rckFormat (rckOp (s.fetchWord r))).isNone then (s.resync r).trap r 1 0
    else s.issue r 0x24 fun i s => (s.advance r 4).trap r 11 i.immediate)

/-- RETT: IN_HANDLER clears and the racker continues after the trapping instruction; outside a handler it is ILLEGAL
(R306). -/
def execRett (r : Fin 16) (s : State) : Host.Outcome State Fault Refusal :=
  .next (s.issue r 0x25 fun _ s =>
    if s.on (RCK_STATUS_IN_HANDLER r) then
      (s.wr (RCK_STATUS_IN_HANDLER r) 0).retireTo r 2 ((s.rckH r).trapInfo % 2 ^ 14 + 1)
    else s.trap r 1 0)

/-- STOP: the racker halts itself at the next index (R318). -/
def execStop (r : Fin 16) (s : State) : Host.Outcome State Fault Refusal :=
  .next (s.issue r 0x26 fun _ s => (s.retire r 1).wr (RCK_STATUS_STATE r) 0)

/-- NOP (R298). -/
def execNop (r : Fin 16) (s : State) : Host.Outcome State Fault Refusal :=
  .next (s.issue r 0x3F fun _ s => s.retire r 1)

end Sys2Proof.Machine
end

