-- ==== Sys2Proof/Machine/RckExec.lean ====
section
/-! DEFINITION. The time, wait, routing, proof, fence and GPO instructions of the rackers, and the completion of their waits
(R237 to R270, R278 to R284, R299 to R317). -/

namespace Sys2Proof.Machine

/-- Send an EFFECT record with its line stamp (R541). -/
def State.sendEffect (r kind : Nat) (words : List Nat) (s : State) : State :=
  let (f, l) := s.lineStamp
  s.sendRecord 5 (2 + words.length) (.effect r kind ([wrap32 f, l] ++ words))

/-- The active sends an EFFECT record for an instruction of a racker that its standby does not run (R541). Kinds: 0 FENCES,
1 GPO, 2 LEASE, 3 FREE, 4 RING, 5 LMARK mark, 6 LMARK epoch, 7 HCOMMIT, 8 POST. Kind 9, sent for every racker, reports a MAIL_ACK (R571). -/
def State.effect (r kind : Nat) (words : List Nat) (s : State) : State :=
  if s.top.claim && bit (s.rd TWN_STATUS_UNSYNCED) r then s.sendEffect r kind words else s

/-- Clear or set flag C of a racker. -/
def State.setC (r : Nat) (b : Bool) (s : State) : State := s.setFlags r { (s.rckH r).flags with c := b }
/-- Clear or set flag Z of a racker. -/
def State.setZ (r : Nat) (b : Bool) (s : State) : State := s.setFlags r { (s.rckH r).flags with z := b }

/-- Write a status to rd and set flag Z where it is DONE (Table 08-2, STATUS). -/
def State.giveStatus (r rd status : Nat) (s : State) : State :=
  (s.setGreg r rd (BitVec.ofNat 32 status)).setFlags r (flagsStatus (s.rckH r).flags status)

/-- The number of the frame of P in the plan in PLANSEL; a stopped plan has not begun the frame it will start with. -/
def State.currentFrame (s : State) (r : Nat) : Nat :=
  let p := (s.rckH r).planSel
  if s.on (PLN_STATUS_RUN p) then wrap32 (s.ptPos r p).frame else wrap32 (s.frameOf p + 2 ^ 32 - 1)

/-- The operand of WAITF and AT: frame ra, or the frame of P plus imm15 (R308). -/
def State.frameOperand (s : State) (r : Nat) (i : RckInstr) : Nat :=
  if i.flag then (s.greg r i.ra).toNat else wrap32 (s.currentFrame r + i.immediate)

/-- A frame number read as signed, so many frames after another. -/
def frameDiff (a b : Nat) : Int := signedOf 32 (wrap32 (a + 2 ^ 32 - wrap32 b))

/-- The instant at which a WAITL's condition becomes true, in the plan's timing in force (R243); none while the plan is
disabled (R245). -/
def State.lineInstant (s : State) (p l issued : Nat) : Option Nat :=
  if s.on (PLN_STATUS_RUN p) then s.lineFrom p l issued 4 (s.frameAtTime p issued) else none

/-- The instant at which a frame of a running plan begins, once it has begun (R244). -/
def State.frameInstant (s : State) (p f : Nat) : Option Nat :=
  if s.on (PLN_STATUS_RUN p) ∧ 0 ≤ frameDiff (s.frameOf p) f then
    some ((s.planH p).frameStart (s.frameOf p - (frameDiff (s.frameOf p) f).toNat))
  else none

/-! ## Time instructions -/

/-- WAITL: wait for a line of the plan in PLANSEL (R243, R245, R308). -/
def execWaitl (r : Fin 16) (s : State) : Host.Outcome State Fault Refusal :=
  .next (s.issue r 0x28 fun i s =>
    let l := if i.flag then (s.greg r i.ra).toNat else i.immediate
    let p := (s.rckH r).planSel
    let now := (s.rckH r).p
    if 2 ^ 16 ≤ l ∨ l = 0 ∨ totalLines (s.planTiming p).1 < l then s.trap r 9 0
    else if s.lineInstant p l now = some now then (s.setC r false).retire r 0
    else s.startWait r (.line p l now))

/-- WAITL_COMPLETE: the line has begun; P is its start and C clears (R238, R243, R244). -/
def execWaitlComplete (r : Fin 16) (s : State) : Host.Outcome State Fault Refusal :=
  .next (
    match (s.rckH r).wait with
    | .line p l issued =>
      match s.lineInstant p l issued with
      | some t => if t ≤ s.now then (s.setC r false).resumeAt r t else s
      | none => s
    | _ => s)

/-- WAITF: wait for the start of a frame; a frame that has begun completes it at once with C set (R244, R308). -/
def execWaitf (r : Fin 16) (s : State) : Host.Outcome State Fault Refusal :=
  .next (s.issue r 0x29 fun i s =>
    let f := s.frameOperand r i
    if 0 ≤ frameDiff (s.currentFrame r) f then (s.setC r true).retire r 0
    else s.startWait r (.frame (s.rckH r).planSel f))

/-- WAITF_COMPLETE: the frame has begun; P is its start and C clears (R238, R244). -/
def execWaitfComplete (r : Fin 16) (s : State) : Host.Outcome State Fault Refusal :=
  .next (
    match (s.rckH r).wait with
    | .frame p f =>
      match s.frameInstant p f with
      | some t => (s.setC r false).resumeAt r t
      | none => s
    | _ => s)

/-- AT: arm a floor at a frame of the plan in PLANSEL (R246, R308). -/
def execAtFloor (r : Fin 16) (s : State) : Host.Outcome State Fault Refusal :=
  .next (s.issue r 0x2B fun i s =>
    (s.setRckH r { s.rckH r with floor := some ((s.rckH r).planSel, s.frameOperand r i) }).retire r 1)

/-! ## WAITE -/

/-- Take the events in a mask: they go to rd and clear, but for one set again in this cycle, and Z clears (R278, Table 07-9). -/
def State.takeEvents (r rd mask : Nat) (s : State) : State :=
  let e := s.rd (RCK_EVT_EVT r)
  let h := s.rckH r
  let kept := if h.evtAt = s.now then h.evtAgain &&& (e &&& mask) else 0
  let s := s.setRckH r { h with evtAgain := h.evtAgain - (h.evtAgain &&& (e &&& mask)) }
  let s := (s.setGreg r rd (BitVec.ofNat 32 (e &&& mask))).wr (RCK_EVT_EVT r) (e - (e &&& mask) + kept)
  s.setZ r false

/-- WAITE: wait for events in mask ra, with a timeout in lines (R278, R309). -/
def execWaite (r : Fin 16) (s : State) : Host.Outcome State Fault Refusal :=
  .next (s.issue r 0x2A fun i s =>
    let mask := (s.greg r i.ra).toNat
    if mask = 0 ∧ i.immediate = 0 then s.trap r 1 0
    else if s.rd (RCK_EVT_EVT r) &&& mask ≠ 0 then (s.takeEvents r i.rd mask).retire r 0
    else s.startWait r (.event i.rd mask (s.rckH r).planSel i.immediate (s.linesBegun (s.rckH r).planSel (s.rckH r).p)))

/-- WAITE_COMPLETE: an event in the mask has been applied, no later than the timeout; P is that instant (R238, R278). -/
def execWaiteComplete (r : Fin 16) (s : State) : Host.Outcome State Fault Refusal :=
  .next (
    match (s.rckH r).wait with
    | .event rd mask p n issued =>
      let t := (s.rckH r).metAt.getD s.now
      if s.rd (RCK_EVT_EVT r) &&& mask ≠ 0 && !s.timedOut p n issued t then (s.takeEvents r rd mask).resumeAt r t else s
    | _ => s)

/-- WAITE_TIMEOUT: the timeout expires; rd is 0, Z is set, and P is the instant it expired (R278). -/
def execWaiteTimeout (r : Fin 16) (s : State) : Host.Outcome State Fault Refusal :=
  .next (
    match (s.rckH r).wait with
    | .event rd mask p n issued =>
      match s.timeoutAt p n issued with
      | some t =>
        let early := s.rd (RCK_EVT_EVT r) &&& mask != 0 && decide ((s.rckH r).metAt.getD s.now ≤ t)
        if t ≤ s.now ∧ !early then ((s.setGreg r rd 0).setZ r true).resumeAt r t else s
      | none => s
    | _ => s)

/-! ## PROVE -/

/-- Give a verdict word to rd; Z is set on MATCH (Table 08-3, Table 08-7). -/
def State.giveVerdict (r rd code tag : Nat) (s : State) : State :=
  let tag := if code = 1 ∨ code = 2 then tag % 2 ^ 16 else 0
  (s.setGreg r rd (BitVec.ofNat 32 (code + tag * 2 ^ 16))).setZ r (code == 1)

/-- The verdict that a PROVE on destination `d` from an instant on waits for, once it is formed: that of a frame which began
at or after the instant and after the destination's latest landing (R310). -/
def State.provenVerdict (s : State) (d fromT : Nat) : Option (Nat × Nat) :=
  match (s.outH d).verdict with
  | some (since, code, tag) => if max fromT (s.outH d).landed ≤ since then some (code, tag) else none
  | none => none

/-- Whether destination `d` carries a bit-transparent source in its route in force (R310, R329). -/
def State.routeTransparent (s : State) (d : Nat) : Bool :=
  s.on (XPT_MAP_RD_VALID d) && !s.on (XPT_MAP_RD_COVERED d) && s.srcTransparent (s.rd (XPT_MAP_RD_SRC d))

/-- Whether a change of destination `d` is pending in any racker. -/
def State.changePending (s : State) (d : Nat) : Bool :=
  (rangeFrom 0 16).any fun r => (s.rckH r).ops.any fun o => o.any fun g => g.changes.any fun c => c.video == some d

/-- Whether destination `d` has no frames to compare and none to come: no route, or its mask is 0, with nothing pending
(Table 08-7, code 3). -/
def State.nothingToProve (s : State) (d : Nat) : Bool :=
  (!s.on (XPT_MAP_RD_VALID d) || s.on (XPT_MAP_RD_COVERED d) || (s.outH d).masked) && !s.changePending d

/-- PROVE: wait for the route-proof verdict of destination ra[12:0] (R310). -/
def execProve (r : Fin 16) (s : State) : Host.Outcome State Fault Refusal :=
  .next (s.issue r 0x2C fun i s =>
    let d := (s.greg r i.ra).toNat % 2 ^ 13
    if 4607 < d || s.routeTransparent d then (s.giveVerdict r i.rd 3 0).retire r 0
    else match s.provenVerdict d (s.rckH r).p with
      | some (code, tag) => (s.giveVerdict r i.rd code tag).retire r 0
      | none =>
        s.startWait r (.prove i.rd d (s.rckH r).p (s.rckH r).planSel i.immediate (s.linesBegun (s.rckH r).planSel (s.rckH r).p)))

/-- PROVE_COMPLETE: the verdict is formed, or there is nothing to compare, no later than the timeout; P is the instant of this (R310). -/
def execProveComplete (r : Fin 16) (s : State) : Host.Outcome State Fault Refusal :=
  .next (
    match (s.rckH r).wait with
    | .prove rd d _ p n issued =>
      match (s.rckH r).proved with
      | some (code, tag) =>
        let t := (s.rckH r).metAt.getD s.now
        if s.timedOut p n issued t then s else (s.giveVerdict r rd code tag).resumeAt r t
      | none =>
        let t := (s.outH d).stillAt
        if s.nothingToProve d && !s.timedOut p n issued t then (s.giveVerdict r rd 3 0).resumeAt r t else s
    | _ => s)

/-- PROVE_TIMEOUT: the timeout expires with code 0 (R310). -/
def execProveTimeout (r : Fin 16) (s : State) : Host.Outcome State Fault Refusal :=
  .next (
    match (s.rckH r).wait with
    | .prove rd _ _ p n issued =>
      match s.timeoutAt p n issued with
      | some t =>
        let early := (s.rckH r).proved.isSome && decide ((s.rckH r).metAt.getD s.now ≤ t)
        if t ≤ s.now ∧ !early then (s.giveVerdict r rd 0 0).resumeAt r t else s
      | none => s
    | _ => s)

/-! ## Routing instructions -/

/-- TAKE: read the entries from ra, rb of them, and land them; `ecc` is the index of an entry with an uncorrectable error
in salvo memory (R247, R290 to R292, R299, R311). -/
def execTake (r : Fin 16) (ecc : Option (Fin 65536)) (s : State) : Host.Outcome State Fault Refusal :=
  .next (s.issue r 0x30 fun i s =>
    let base := (s.greg r i.ra).toNat
    let count := (s.greg r i.rb).toNat
    if count = 0 ∨ 4096 < count ∨ 65536 < base + count then s.trap r 7 0
    else
      let (entries, n) := s.readEntries base count
      let bad := match ecc with
        | some k => decide (base ≤ k.val ∧ k.val < base + n)
        | none => false
      if bad then (s.trigger 1).trap r 12 0
      else (s.advance r (12 + 4 * n)).operate r i.rd entries)

/-- XSET: stage ra : rb as a VIDEO entry (R249, R311). -/
def execXset (r : Fin 16) (s : State) : Host.Outcome State Fault Refusal :=
  .next (s.issue r 0x31 fun i s => s.stage r 1 (s.greg r i.ra).toNat (s.greg r i.rb).toNat)

/-- AMAP: stage ra : rb as an AUDIO entry. -/
def execAmap (r : Fin 16) (s : State) : Host.Outcome State Fault Refusal :=
  .next (s.issue r 0x33 fun i s => s.stage r 2 (s.greg r i.ra).toNat (s.greg r i.rb).toNat)

/-- SLOTM: stage ra : rb as a SLOTM entry. -/
def execSlotm (r : Fin 16) (s : State) : Host.Outcome State Fault Refusal :=
  .next (s.issue r 0x35 fun i s => s.stage r 3 (s.greg r i.ra).toNat (s.greg r i.rb).toNat)

/-- COMMIT: land the staging buffer and empty it. With an empty buffer it retires with result word 0 and creates no pending
operation (R265). -/
def execCommit (r : Fin 16) (s : State) : Host.Outcome State Fault Refusal :=
  .next (s.issue r 0x32 fun i s =>
    let h := s.rckH r
    let s := ((s.setRckH r { h with staging := [] }).showRck r).advance r (12 + 4 * h.staging.length)
    if h.staging.isEmpty then s.commitEmpty r i.rd else s.operate r i.rd h.staging)

/-- FADE: the fade time, clamped to 400 (R267, R312). -/
def execFade (r : Fin 16) (s : State) : Host.Outcome State Fault Refusal :=
  .next (s.issue r 0x34 fun i s =>
    let v := if i.flag then i.immediate else (s.greg r i.ra).toNat
    (s.wr (RCK_FADE_TENTHS_MS r) (min v 400)).retire r 1)

/-! ## Fences and GPO -/

/-- FENCEW: wait until fence ra[7:0] reaches rb (R280, R316). -/
def execFencew (r : Fin 16) (s : State) : Host.Outcome State Fault Refusal :=
  .next (s.issue r 0x3A fun i s =>
    let n := (s.greg r i.ra).toNat % 256
    let v := (s.greg r i.rb).toNat
    if s.fenceReached n v then s.retire r 0 else s.startWait r (.fence n v))

/-- FENCEW_COMPLETE: the fence has reached the value; P is the instant at which it first did (R238, R280). -/
def execFencewComplete (r : Fin 16) (s : State) : Host.Outcome State Fault Refusal :=
  .next (
    match (s.rckH r).wait with
    | .fence n v =>
      match (s.rckH r).metAt with
      | some t => s.resumeAt r t
      | none => if s.fenceReached n v then s.resumeAt r s.now else s
    | _ => s)

/-- FENCES: signal fence ra[7:0] with rb (R280, R281, R316). -/
def execFences (r : Fin 16) (s : State) : Host.Outcome State Fault Refusal :=
  .next (s.issue r 0x3B fun i s =>
    let n := (s.greg r i.ra).toNat % 256
    let v := (s.greg r i.rb).toNat
    ((s.writeFence n v).effect r 0 [n, v]).retire r 3)

/-- GPO: drive value ra[15:0] under mask rb[15:0] on the pins the racker owns (R284). -/
def execGpo (r : Fin 16) (s : State) : Host.Outcome State Fault Refusal :=
  .next (s.issue r 0x3E fun i s =>
    let v := (s.greg r i.ra).toNat % 2 ^ 16
    let m := (s.greg r i.rb).toNat % 2 ^ 16
    ((s.driveGpo r v m).effect r 1 [v, m]).retire r 2)

end Sys2Proof.Machine
end

