-- ==== Sys2Proof/Machine/Timing.lean ====
section
/-! DEFINITION. Plans whose timing begins, starts or stops, with what follows for outputs and heads; and the requests and
withdrawals of admission (R201 to R205, R261, R352, R363, R489, R490, R677 to R679). -/

namespace Sys2Proof.Machine

/-- A plan with a new timing: no input is known to lie in its cask window any longer (R336). -/
def State.clearWindows (p : Nat) (s : State) : State :=
  s.forL (s.ins.filter fun e => bit e.2.windows p) fun e s =>
    s.setInH e.1 { s.inH e.1 with windows := (s.inH e.1).windows - 2 ^ p }

/-- The divider of the synthesiser that serves plan `p` runs at the divisor of the plan's timing from time `t` on (R211, R215, R218). -/
def State.planDivides (p t : Nat) (s : State) : State :=
  match s.servingSynth p with
  | some i => s.startDivider i (planDivider (s.planH p).format (s.planH p).rate) t
  | none => s

/-- The new timing of plan `p` begins at `t` with frame `k` (R201, R218). A change written meanwhile is staged from `t` (R677). -/
def State.beginTiming (p t k : Nat) (st : StagedH) (s : State) : State :=
  let h := s.planH p
  let s := s.setPlanH p { h with
    anchorT := t, anchorF := k, segLen := framePeriod st.rate, format := st.format, rate := st.rate, jump := none, staged := none,
    next := none, accAt := t, acc := 0, lines := h.linesTo t }
  let s := ((s.wr (PLN_STATUS_BRIDGE p) 0).wr (PLN_STATUS_JUMP_PEND p) 0).wr (PLN_STATUS_WAIT_CLK p) 0
  let s := ((s.wr (PLN_STATUS_SLEWING p) 0).wr (PLN_STATUS_KEPT p) 0).wr (PLN_PHASE_ERR_NS p) 0
  let s := (s.swapSynth p t st.synth).planDivides p t
  let s := ((s.clearWindows p).updateFreqOnly).retimeHeads p h.format
  match h.next with
  | some (f, r) => s.retime p f r t
  | none => s

/-- NEW_TIMING: the staged timing begins at A, with the frame after the bridge frame, or at B where there is none (R201 to
R203, R218, R489, R677). -/
def execNewTiming (p : Fin 8) (s : State) : Host.Outcome State Fault Refusal :=
  .next (
    let h := s.planH p
    match h.staged with
    | none => s
    | some st =>
      if h.starting then s
      else if st.bridged then
        (if h.anchorT + h.segLen ≤ s.now then s.beginTiming p (h.anchorT + h.segLen) (h.anchorF + 1) st else s)
      else match s.changeTimes p with
        | some (b, a) => if a = b ∧ a ≤ s.now then s.beginTiming p a (h.posAt a).frame st else s
        | none => s)

/-- PLAN_START: an enabled plan starts at its first phase target from readiness on, or at once where it has none, and
continues its frame count (R205, R679). -/
def execPlanStart (p : Fin 8) (s : State) : Host.Outcome State Fault Refusal :=
  .next (
    match (s.planH p).staged with
    | some st => match st.ready with
      | some r =>
        let t := if s.phaseRelatedRate st.rate then s.targetFrom p st.format st.rate r else r
        if (s.planH p).starting ∧ t ≤ s.now then
          let s := s.setPlanH p { s.planH p with
            anchorT := t, segLen := framePeriod st.rate, format := st.format, rate := st.rate, staged := none,
            starting := false, jump := none, accAt := t, acc := 0 }
          (((s.swapSynth p t st.synth).planDivides p t).wr (PLN_STATUS_RUN p) 1).updateFreqOnly.planStartHeads p
        else s
      | none => s
    | none => s)

/-- PLAN_STOP: a disabled plan stops at its next frame boundary; its pending entries are discarded, its outputs carry idle
fill and its heads send nothing. A bridge frame that has begun is completed first (R205, R261, R352, R490, R678). -/
def execPlanStop (p : Fin 8) (s : State) : Host.Outcome State Fault Refusal :=
  .next (
    let h := s.planH p
    let bridged := match h.staged with
      | some st => st.bridged
      | none => false
    match h.stopping with
    | some k =>
      let f := s.frameOf p
      if bridged || !s.on (PLN_STATUS_RUN p) || decide (f ≤ k) then s
      else
        let s := (s.discardWhere p fun _ => true).planStopHeads p
        let s := s.forL (s.outs.filter fun e => e.2.running && s.outPlan e.1 == p.val) fun e s => s.endFrame e.1
        let s := s.setPlanH p { s.planH p with
          anchorT := h.frameStart f, anchorF := f, segLen := framePeriod h.rate, lines := h.linesTo (h.frameStart f),
          stopping := none, jump := none }
        let s := ((s.wr (PLN_STATUS_RUN p) 0).wr (PLN_STATUS_SLEWING p) 0).wr (PLN_STATUS_JUMP_PEND p) 0
        s.updateFreqOnly
    | none => s)

/-- PLAN_SYNTH_UNLOCK: the serving synthesiser loses lock; its gate closes, the plan's outputs carry no signal from there on, its
position goes on, and the clock is restored on a pool synthesiser (R23, R219, R220). -/
def execPlanSynthUnlock (k : Fin 10) (s : State) : Host.Outcome State Fault Refusal :=
  .next (
    let i := 37 + k.val
    match s.servedPlan i with
    | none => s
    | some p =>
      if s.rd (SYN_PLL_STAT_STATE i) < 4 then s
      else
        let s := s.synUnlock i
        let s := (s.setSynH i { s.synH i with failed := true }).setPlanH p { s.planH p with clockLost := true }
        let s := s.forL (s.outs.filter fun e => e.2.running && s.outPlan e.1 == p) fun e s => s.cutOutput e.1
        s.settlePool.restoreClock p)

/-! ## Admission -/

/-- ADMISSION_REQUEST: a load that is wanted and not admitted requests admission: a cellar write (`sub` 0) or the read of plan
`sub` - 1, an L0 copy, a merge buffer, skim writes, or a head layer (R333, R341, R363, R364, R434, R471, R478). -/
def execAdmissionRequest (cls : Fin 5) (id : Fin 4608) (sub : Fin 9) (s : State) : Host.Outcome State Fault Refusal :=
  .next (
    let i := id.val
    match cls.val with
    | 0 => if sub.val = 0 then s.askCellar i else if s.routedOn i (sub - 1) then s.assignRead i (sub - 1) else s
    | 1 =>
      if (rangeFrom 0 32).any fun h => (s.mvhH h).layers.any fun l => s.wantsCopy l && l.id == i then
        s.askLoad (copyLoad i) (frameCharge (s.rd (XPT_IN_STAT_FORMAT i)) (s.rd (XPT_IN_STAT_RATE i)))
      else s
    | 2 => if (s.rxH i).on then s.askLoad (mergeLoad i) (s.rxCharge i) else s
    | 3 => s.askSkim i
    | _ =>
      if 256 ≤ i then s
      else match (s.mvhH (i / 8)).held.find? fun e => e.1 == i % 8 with
        | some e => s.askCharge (i / 8) (i % 8) (s.needCharge (i / 8) (i % 8) e.2)
        | none => s)

/-- ADMISSION_WITHDRAW: a charge that nothing needs any longer is withdrawn (R341, R360, R363, R443, R471, R478, R487). -/
def execAdmissionWithdraw (cls : Fin 5) (id : Fin 4608) (sub : Fin 9) (s : State) : Host.Outcome State Fault Refusal :=
  .next (
    let i := id.val
    match cls.val with
    | 0 =>
      if sub.val ≠ 0 then s.releaseIdleRead i (sub - 1)
      else if s.rd (XPT_IN_CFG_MODE i) = 2 then s else s.withdrawLoad { cls := 0, id := i }
    | 1 => s.freeCopies
    | 2 => if (s.rxH i).on then s else s.withdrawLoad (mergeLoad i)
    | 3 =>
      if s.on (XPT_IN_CFG_SKIM_EN i) && s.on (XPT_IN_STAT_PRESENT i) && decide (s.rd TOP_MODE_SHED < 2) then s
      else s.withdrawLoad { cls := 3, id := i }
    | _ =>
      if 256 ≤ i then s
      else match (s.mvhH (i / 8)).shownLayers[i % 8]? with
        | some l => s.lowerCharge (i / 8) (i % 8) (s.needCharge (i / 8) (i % 8) l)
        | none => if s.on (MVH_STATUS_STATE (i / 8)) then s else s.lowerCharge (i / 8) (i % 8) 0)

end Sys2Proof.Machine
end

