-- ==== Sys2Proof/Machine/Trellis.lean ====
section
/-! DEFINITION. Trellis lanes: bring-up and loss of a receive direction, transmitters, modes of a trellis, patterns and counters
(R67 to R109). -/

namespace Sys2Proof.Machine

/-! ## Transmitters -/

/-- Whether a transmitter is to be active; a fence leaves the mirror port running (R93, R546). -/
def State.txAllowed (s : State) (n : Nat) : Bool :=
  s.domReady n && !s.on (TRL_CFG_TX_IDLE n) && !s.top.inReset && (n == 36 || !s.on TWN_STATUS_FENCED) && !s.top.txStopped

/-- A lane as it leaves electrical idle (R76, R79, R81). DESIGN CHOICE: injections requested and not yet made are dropped (R107). -/
def LaneH.startTx (h : LaneH) : LaneH := { h with scrTx := 2 ^ 47 - 1, rd := 0, pTx := 0, injPend := 0, injBits := 0 }

/-- A transmitter stops. While its transmit clock runs, it sends LANE_OFF on every lane first (R94). -/
def State.stopTx (n : Nat) (clock : Bool) (s : State) : State :=
  if !s.on (TRL_STATUS_TX_ACTIVE n) then s
  else
    let s := if clock then s.emit (.laneOff n) else s
    s.wr (TRL_STATUS_TX_ACTIVE n) 0

/-- TX_ACTIVATE: a transmitter that is to be active starts every lane on group 0 of a lane frame (R84, R95), and its mode framing
with it (R111). -/
def execTxActivate (n : Fin 37) (s : State) : Host.Outcome State Fault Refusal :=
  .next (if s.txAllowed n && !s.on (TRL_STATUS_TX_ACTIVE n) then
    let h := s.trlH n
    let s := s.setTrlH n { h with txGroups := 0, lanes := h.lanes.map LaneH.startTx }
    ((s.wr (TRL_STATUS_TX_ACTIVE n) 1).restartFraming n).applyFfe n
  else s)

/-- TX_DEACTIVATE: a transmitter that is no longer to be active sends LANE_OFF and idles (R93, R94). -/
def execTxDeactivate (n : Fin 37) (s : State) : Host.Outcome State Fault Refusal :=
  .next (if s.txAllowed n then s else s.stopTx n true)

/-- PRESET_APPLY: a written preset takes effect at a lane frame boundary of its direction (R67, R70). -/
def execPresetApply (n : Fin 37) (rx : Bool) (s : State) : Host.Outcome State Fault Refusal :=
  .next (if rx then s.setTrlH n { s.trlH n with presetRx := s.rd (TRL_CFG_PRESET_RX n) }
    else
      let s := s.setTrlH n { s.trlH n with presetTx := s.rd (TRL_CFG_PRESET_TX n) }
      s.when (s.on (TRL_STATUS_TX_ACTIVE n)) fun s => s.applyFfe n)

/-! ## Receive bring-up (Table 03-5) -/

/-- Whether a trellis is looped: its transmitter feeds its own receiver at the pads, in DIAGNOSTIC (R108). -/
def State.looped (s : State) (n : Nat) : Bool := s.mode == .diagnostic && s.on (TRL_CFG_LOOPBACK n)

/-- Whether the forwarded clock that a looped receiver gets runs: the one of its own transmitter (R108). -/
def State.loopClock (s : State) (n : Nat) : Bool := s.looped n && s.on (TRL_STATUS_TX_ACTIVE n)

/-- The receive direction enters a state; its timer starts (R89). -/
def State.setRx (n st : Nat) (s : State) : State :=
  (s.wr (TRL_STATUS_RX_STATE n) st).setTrlH n { s.trlH n with since := s.now }

/-- Whether the receive direction is in a state. -/
def State.rxIs (s : State) (n st : Nat) : Bool := s.rd (TRL_STATUS_RX_STATE n) == st

/-- Whether the timer of the receive state has run for so long. -/
def State.rxAged (s : State) (n t : Nat) : Bool := decide ((s.trlH n).since + t ≤ s.now)

/-- The receive direction falls back before UP and counts one retry (R90). -/
def State.rxRetry (n st : Nat) (s : State) : State := (s.setRx n st).bump (TRL_LOSS_CNT_RETRIES n)

/-- FCLK_DETECTED: the forwarded clock is present and within frequency; WAIT_CLK moves to DLL_LOCK. -/
def execFclkDetected (n : Fin 37) (s : State) : Host.Outcome State Fault Refusal :=
  .next (if s.rxIs n 0 || (s.looped n && !s.loopClock n) then s
    else
      let s := s.wr (TRL_STATUS_FCLK_PRESENT n) 1
      if s.rxIs n 1 then s.setRx n 2 else s)

/-- DLL_LOCKED: DLL_LOCK moves to PHASE. -/
def execDllLocked (n : Fin 37) (s : State) : Host.Outcome State Fault Refusal := .next (if s.rxIs n 2 then s.setRx n 3 else s)

/-- DLL_LOCK_TIMEOUT: 200 µs without lock. -/
def execDllLockTimeout (n : Fin 37) (s : State) : Host.Outcome State Fault Refusal :=
  .next (if s.rxIs n 2 && s.rxAged n (200 * us) then s.rxRetry n 1 else s)

/-- PHASE_SETTLED: every lane has settled at a step of its interpolator (R73). -/
def execPhaseSettled (n : Fin 37) (phases : List (Fin 64)) (s : State) : Host.Outcome State Fault Refusal :=
  .next (if s.rxIs n 3 then
    let s := s.forN (laneCount n) fun l s =>
      (s.wr (TRL_LANE_STAT_PHASE n l) (phases.getD l 0)).setLaneH n l { s.laneH n l with pointer := 0 }
    s.setRx n 4
  else s)

/-- PHASE_SWEEP_TIMEOUT: after 5 ms the sweep restarts. -/
def execPhaseSweepTimeout (n : Fin 37) (s : State) : Host.Outcome State Fault Refusal :=
  .next (if s.rxIs n 3 && s.rxAged n (5 * ms) then s.setRx n 3 else s)

/-- COMMA_ALIGNED: ALIGN moves to DESKEW. -/
def execCommaAligned (n : Fin 37) (s : State) : Host.Outcome State Fault Refusal := .next (if s.rxIs n 4 then s.setRx n 5 else s)

/-- ALIGN_TIMEOUT: 200 µs in ALIGN. -/
def execAlignTimeout (n : Fin 37) (s : State) : Host.Outcome State Fault Refusal :=
  .next (if s.rxIs n 4 && s.rxAged n (200 * us) then s.rxRetry n 3 else s)

/-- Whether the lane numbers received are the expected ones, each once (R86). -/
def laneIdsOk (n : Nat) (ids : List Nat) : Bool := (rangeFrom 0 (laneCount n)).all fun k => (ids.take (laneCount n)).count k == 1

/-- The largest skew that deskew tolerates, in groups (R87). -/
def State.skewLimit (s : State) (n : Nat) : Nat := if n = 36 ∨ s.trunk n = true then 256 else 16

/-- Show the lane numbers and skews received. DESIGN CHOICE: a skew beyond 256 groups, which the field cannot hold, shows as 256. -/
def State.showLanes (n : Nat) (ids skews : List Nat) (s : State) : State :=
  s.forN (laneCount n) fun l s =>
    (s.wr (TRL_LANE_STAT_LANE_ID n l) (ids.getD l 0)).wr (TRL_LANE_STAT_SKEW n l) (min 256 (skews.getD l 0))

/-- Record a milestone of the power-up timeline, once (R46). -/
def State.milestone (k : Nat) (s : State) : State :=
  if bit s.top.reached k then s
  else { s.wr (TOP_BOOT_T_TIME_US k) ((s.now - s.top.t0) / us) with top := { s.top with reached := s.top.reached ||| 2 ^ k } }

/-- Every trellis whose partner is present is up: the fourth milestone (Table 02-2). Looked at when a direction comes up, when a
partner goes away and at t_USE. DESIGN CHOICE: with no partner present by then, it is reached at t_USE. -/
def State.checkAligned (s : State) : State :=
  if bit s.top.reached 2 && (rangeFrom 0 36).all fun n => !s.on (TRL_STATUS_FCLK_PRESENT n) || s.rxIs n 6 then s.milestone 3 else s

/-- The checker of pattern 6 is locked while its lane is aligned (R106). -/
def State.followLock (n l : Nat) (s : State) : State :=
  if s.mode = .diagnostic ∧ s.rd (TRL_LANE_CFG_PAT_SEL n l) = 6 then
    s.wr (TRL_LANE_STAT_CHK_LOCK n l) (s.rd (TRL_LANE_STAT_ALIGNED n l))
  else s

/-- DESKEW_DONE: the lanes are aligned by LANE_MARK and the direction enters UP (R86, R87, R91). `ids` and `skews` are those of the
lanes in physical order, `last` the last symbol of each lane before the first payload group. What the descramblers hold is open
until 47 data payload bits have passed (R80). -/
def execDeskewDone (n : Fin 37) (ids : List (Fin 8)) (skews : List (Fin 257)) (last : List (Fin 4)) (s : State) :
    Host.Outcome State Fault Refusal :=
  .next (if s.rxIs n 5 && laneIdsOk n (ids.map (·.val)) && (skews.take (laneCount n)).all (fun k => decide (k.val ≤ s.skewLimit n)) then
    let s := s.showLanes n (ids.map (·.val)) (skews.map (·.val))
    let s := s.forN (laneCount n) fun l s =>
      (s.wr (TRL_LANE_STAT_ALIGNED n l) 1).setLaneH n l { s.laneH n l with
        pRx := if bit (s.rd (TRL_CFG_RX_POL n)) l then 3 - (last.getD l 0).val else (last.getD l 0).val, scrRx := Config.descrambler n l s.free % 2 ^ 47 }
    let s := s.draw.setRx n 6
    let s := s.setTrlH n { s.trlH n with rxPos := 2, guard := [] }
    let s := s.forN (laneCount n) fun l s => s.followLock n l
    let s := (s.wr (TRL_UP_TS_FRAME n) (wrap32 s.frame0)).wr (TRL_STATUS_LANE_ALIGNED n) (2 ^ laneCount n - 1)
    ((s.ptpCheck n).checkAligned)
  else s)

/-- DESKEW_TIMEOUT: 100 µs in DESKEW, with the reason that applies (R86, R87). -/
def execDeskewTimeout (n : Fin 37) (ids : List (Fin 8)) (skews : List Nat) (s : State) : Host.Outcome State Fault Refusal :=
  .next (if s.rxIs n 5 && s.rxAged n (100 * us) then
    let s := s.showLanes n (ids.map (·.val)) skews
    let s := if laneIdsOk n (ids.map (·.val)) then s else s.raise (TRL_STATUS_LANE_ID_ERR n)
    let s := if (skews.take (laneCount n)).all fun k => decide (k ≤ s.skewLimit n) then s else s.raise (TRL_STATUS_DESKEW_ERR n)
    s.rxRetry n 3
  else s)

/-! ## Loss -/

/-- The mode framing of the receive direction is lost: framing searches anew, no input of the trellis is present, and what was in
progress is dropped (Table 04-5, R143, R146, R414). -/
def State.framingLost (n : Nat) (s : State) : State :=
  if n = 36 then s.mirrorDown
  else
    let h := s.ctnH n
    let locked := h.state == 2
    let s := s.setCtnH n { h with state := 0, check := 0, bad := 0, barred := 0, rest := [] }
    let s := if (s.trlH n).mode = 0 then s.wr (CTN_STATUS_FRAME_STATE n) 0 else s
    let s := s.inputsAbsent n
    let s := if locked then s.forL ((rangeFrom (128 * n) 128).filter fun i => s.transparent i) fun i s =>
        s.forL (s.idsOf i) fun src s => s.forL (s.destsOf src) fun d s => s.loseSource d
      else s
    let s := if s.packetMode n then s.pktLoss n else s
    if s.trunk n && locked then s.trunkLost n else s

/-- The direction leaves UP: the groups held in the loss guard are discarded, no lane is aligned, and the mode framing is told (R96,
R97). -/
def State.leaveUp (n st : Nat) (s : State) : State :=
  let s := (s.setRx n st).wr (TRL_STATUS_LANE_ALIGNED n) 0
  let s := (s.setTrlH n { s.trlH n with guard := [] }).setCtnH n { s.ctnH n with wasLocked := false }
  let s := s.forN (laneCount n) fun l s =>
    ((s.wr (TRL_LANE_STAT_ALIGNED n l) 0).wr (TRL_LANE_STAT_CHK_LOCK n l) 0).wr (TRL_LANE_MARGIN_MARGIN n l) 0
  (s.framingLost n).ptpCheck n

/-- Loss of a receive direction (R97, R98). `more` sets what the condition sets beside it. Outside UP there is nothing to lose. -/
def State.rxLoss (n : Nat) (more : State → State) (s : State) : State :=
  if s.rxIs n 6 then ((more s).raise (TRL_STATUS_LOSS n)).bump (TRL_LOSS_CNT_LOSSES n) |>.leaveUp n 1 else s

/-- A partner has gone: those left may all be aligned, once some direction has come up or t_USE has passed (R46). -/
def State.partnerGone (s : State) : State :=
  if bit s.top.reached 4 || (rangeFrom 0 36).any (fun n => s.rxIs n 6) then s.checkAligned else s

/-- FCLK_STOP: no transition of the forwarded clock for 64 of its cycles. -/
def execFclkStop (n : Fin 37) (s : State) : Host.Outcome State Fault Refusal :=
  .next (if s.loopClock n then s else ((s.wr (TRL_STATUS_FCLK_PRESENT n) 0).rxLoss n id).partnerGone)

/-- DLL_LOSS_OF_LOCK. -/
def execDllLossOfLock (n : Fin 37) (s : State) : Host.Outcome State Fault Refusal := .next (s.rxLoss n id)

/-- FCLK_FREQ_ERROR: the forwarded clock is more than ±50 ppm off. -/
def execFclkFreqError (n : Fin 37) (s : State) : Host.Outcome State Fault Refusal :=
  .next (((s.wr (TRL_STATUS_FCLK_PRESENT n) 0).rxLoss n fun s => s.raise (TRL_STATUS_FREQ_ERR n)).partnerGone)

/-- LANE_OFF_RECEIVED on a lane. -/
def execLaneOffReceived (n : Fin 37) (s : State) : Host.Outcome State Fault Refusal :=
  .next (s.rxLoss n fun s => s.raise (TRL_STATUS_LANE_OFF_RX n))

/-- COMMA_MISSED: a lane has missed the comma in 4 lane frames (R92). -/
def execCommaMissed (n : Fin 37) (s : State) : Host.Outcome State Fault Refusal := .next (s.rxLoss n id)

/-- The pair's domain is no longer ready: the receive direction is OFF and the transmitter stops (R89, R93). -/
def State.trellisOff (n : Nat) (clock : Bool) (s : State) : State :=
  let s := s.stopTx n clock
  let s := s.wr (TRL_STATUS_FCLK_PRESENT n) 0
  if s.rxIs n 6 then s.leaveUp n 0 else s.setRx n 0

/-- The pair's domain has become ready: the receive direction waits for a clock. -/
def State.trellisOn (n : Nat) (s : State) : State := if s.rxIs n 0 then s.setRx n 1 else s

/-- LANE_PLL_UNLOCK: the transmit clock of a trellis has stopped, and its domain is not ready until the PLL has been locked again
(R219, R235). -/
def execLanePllUnlock (n : Fin 37) (s : State) : Host.Outcome State Fault Refusal :=
  .next (((s.synUnlock n).setReady n false).trellisOff n false)

/-! ## Adaptation (R71, R73, R74) -/

/-- ADAPT_STEP: one step of quantity `q` of lane `l`: a tap of the DFE (0 to 5), the gain (6) or the sampling phase (7), at most once
in 1,024 UI for each. -/
def execAdaptStep (n : Fin 37) (l : Fin 8) (q : Fin 8) (up : Bool) (s : State) : Host.Outcome State Fault Refusal :=
  let key := l.val * 8 + q.val
  let due := match pairGet (s.trlH n).adaptAt key with
    | some t => decide (t + 219 ≤ s.now)
    | none => true
  .next (if s.rxIs n 6 && !s.on (TRL_CFG_ADAPT_FREEZE n) && decide (l.val < laneCount n) && due then
    let d : Int := if up then 1 else -1
    let h := s.laneH n l
    let step := s.rd (TRL_LANE_STAT_PHASE n l)
    let wraps := q.val == 7 && (if up then step == 63 else step == 0)
    let pointer := if wraps then h.pointer + d else h.pointer
    if pointer < -4 ∨ 4 < pointer then s
    else
      let h := { h with pointer := pointer }
      let h := if q.val < 6 then { h with taps := listSet h.taps q (max (-256) (min 256 (h.taps.getD q 0 + d))) }
        else if q.val = 6 then { h with gain := h.gain + d } else h
      let s := s.setLaneH n l h
      let s := if q.val = 7 then s.wr (TRL_LANE_STAT_PHASE n l) ((step + (if up then 1 else 63)) % 64) else s
      s.setTrlH n { s.trlH n with adaptAt := pairSet (s.trlH n).adaptAt key s.now }
  else s)

/-- Measure the eye opening of a lane: it is a free value while the lane is aligned, and 0 otherwise; MIN keeps the lowest
(TRL_LANE_MARGIN). -/
def State.measureLane (n l : Nat) (s : State) : State :=
  if s.on (TRL_LANE_STAT_ALIGNED n l) then
    let v := Config.laneMargin n l s.free % 256
    ((s.wr (TRL_LANE_MARGIN_MARGIN n l) v).wr (TRL_LANE_MARGIN_MIN n l) (min v (s.rd (TRL_LANE_MARGIN_MIN n l)))).draw
  else s.wr (TRL_LANE_MARGIN_MARGIN n l) 0

/-! ## Modes of a trellis -/

/-- A write of TRL_CFG.MODE: refused for mode 3 and for a ninth trunk, where a trellis counts
that is in trunk mode or is to enter it (R99); the mirror port ignores it. -/
def State.modeWrite (n v : Nat) (s : State) : State :=
  if n = 36 then s
  else if v = 3 ∨ (v = 2 ∧ 8 ≤ ((rangeFrom 0 36).filter fun k => k != n && (s.rd (TRL_CFG_MODE k) == 2 || s.trunk k)).length) then
    s.raise (TRL_STATUS_MODE_REFUSED n)
  else s.wr (TRL_CFG_MODE n) v

/-- Runs and feeds over trellis `n` end, as it leaves trunk mode. -/
def State.dropFeeds (n : Nat) (s : State) : State :=
  { s with fab := { s.fab with
      runs := s.fab.runs.filter fun e => e.2.out != n && e.2.inn != n,
      feeds := s.fab.feeds.filter fun e => e.1 / 128 != n } }

/-- CTN_TRANS as written, bit q for area q. -/
def State.transWritten (s : State) (n : Nat) : Nat := (rangeFrom 0 4).foldl (fun a k => a + s.rd (CTN_TRANS_TRANS n k) * 2 ^ (32 * k)) 0

/-- CTN_TRANS as written takes effect: an input that becomes bit-transparent gives its charges back, and one that is so no longer is
judged anew (R132, R333). -/
def State.applyTrans (n : Nat) (s : State) : State :=
  let old := (s.ctnH n).trans
  let v := s.transWritten n
  if old = v then s
  else
    let s := s.setCtnH n { s.ctnH n with trans := v }
    let s := s.forL (indicesWhere 128 fun q => bit old q != bit v q) fun q s =>
      let i := 128 * n + q
      (if bit v q then s.withdrawInput i else (s.askCellar i).askSkim i).updateMode i
    s.refRecheck

/-- Both directions restart their mode framing in a new mode (R101): the inputs of the trellis restart, with the gang layout of the
new mode. Routes on the outputs of a trellis that becomes a trunk have no effect from there on (R17). -/
def State.changeMode (n m : Nat) (s : State) : State :=
  let codes := (rangeFrom 0 32).map fun k => s.inCode (32 * n + k)
  let old := (s.trlH n).mode
  let s := s.framingLost n
  let s := if old = 1 then s.pktLeave n else if old = 2 then s.dropFeeds n else s
  let s := (s.setTrlH n { s.trlH n with mode := m, since := if s.rxIs n 6 then s.now else (s.trlH n).since }).setCtnH n { trans := (s.ctnH n).trans }
  let s := s.applyTrans n
  let s := s.forN 32 fun k s =>
    if codes.getD k 0 = s.inCode (32 * n + k) then s
    else
      let ids := rangeFrom (128 * n + 4 * k) 4
      let s := s.forL ids fun i s => (s.withdrawInput i).coverInput i (!s.addresses i)
      if s.on (AUD_SLOT_CFG_DMX_AUTO (32 * n + k)) then
        s.forN 2 fun j s => s.setWord (AUD_DMX_MAP (32 * n + k) j) (BitVec.ofNat 32 (audMapWord (s.inCode (32 * n + k)) j))
      else s
  let s := if m = 2 then s.forL (rangeFrom (128 * n) 128) fun d s => if (s.outH d).running then (s.slipFrame d).endFrame d else s else s
  let s := (s.rxRecheck).ptpCheck n
  let s := s.forN 32 fun h s => if s.rd (MVH_RP_CFG_TRELLIS h) = n then s.pushCheck h else s
  if old = 2 ∨ m = 2 then s.trackReach else s

/-- TRELLIS_MODE_CHANGE: at the next lane frame boundary, the mode written takes effect; what is left of the lane frame
is FILL, so that the new mode framing begins at stream group 0 (R101, R111). -/
def execTrellisModeChange (n : Fin 37) (s : State) : Host.Outcome State Fault Refusal :=
  .next (if n.val ≠ 36 ∧ s.rd (TRL_CFG_MODE n) ≠ (s.trlH n).mode then
    (s.when (s.on (TRL_STATUS_TX_ACTIVE n)) fun s => s.fillFrame n).changeMode n (s.rd (TRL_CFG_MODE n))
  else s)

/-! ## Patterns and checkers -/

/-- The pattern that a lane's settings ask for. -/
def State.patternOf (s : State) (n l : Nat) : Option Nat :=
  if (s.laneDiag n l).on then some (s.rd (TRL_LANE_CFG_PAT_SEL n l)) else none

/-- The generator of a lane starts, stops or changes with its settings, in DIAGNOSTIC: a symbol pattern starts its period, and a PRBS
pattern at a state that the spec leaves open (R104, R105). -/
def State.followPattern (n l : Nat) (was : Option Nat) (s : State) : State :=
  if s.patternOf n l = was then s
  else
    let sel := s.rd (TRL_LANE_CFG_PAT_SEL n l)
    let s := s.setLaneH n l { s.laneH n l with
      phase := 0, gen := Config.prbsSeed n l s.free % (2 ^ prbsDegree sel - 1) + 1 }
    s.draw.emit (.pattern n l (s.patternOf n l))

/-- A lane whose checker is given another pattern seeds itself anew (R106). -/
def State.reseed (n l : Nat) (s : State) : State :=
  ((s.setLaneH n l { s.laneH n l with chkSeen := 0, chkRun := 0, chkErrs := [] }).wr (TRL_LANE_STAT_CHK_LOCK n l) 0).followLock n l

/-- On entry to DIAGNOSTIC, the mode framing of every trellis stops, each lane frame is completed with FILL, the checkers seed
themselves and the enabled generators start (Table 02-4, R104). -/
def State.diagStart (s : State) : State :=
  let s := s.forN 37 fun n s =>
    (s.when (s.on (TRL_STATUS_TX_ACTIVE n)) fun s => s.fillFrame n).forN (laneCount n) fun l s => s.reseed n l
  let s := s.forN 36 fun n s => s.framingLost n
  s.forL s.patternLanes fun e s => s.followPattern e.1 e.2 none

/-- An injection is requested (R104, R107). -/
def State.inject (n l : Nat) (s : State) : State :=
  let m := s.rd (TRL_LANE_CFG_INJ_MODE n l)
  if s.mode == .diagnostic && (m == 1 || m == 3) && decide (l < laneCount n) then
    s.setLaneH n l { s.laneH n l with injPend := (s.laneH n l).injPend + 1 }
  else s

/-- Whether the checker of a lane works: in DIAGNOSTIC (R104). -/
def State.checks (s : State) (n l : Nat) : Bool := s.mode == .diagnostic && decide (l < laneCount n)

/-- CHECKER_LOCK: the checker of a lane has received these bits, newest first, and has predicted 128 of them in a row; the checker of
pattern 6 is locked while its lane is aligned (R106). -/
def execCheckerLock (n : Fin 37) (l : Fin 8) (bits : List Nat) (s : State) : Host.Outcome State Fault Refusal :=
  .next (if !s.checks n l || s.on (TRL_LANE_STAT_CHK_LOCK n l) then s
    else
      let sel := s.rd (TRL_LANE_CFG_PAT_SEL n l)
      if sel < 4 then
        let (h, locked, k, e) := checkBits sel bits.reverse false (s.laneH n l) 0 0
        ((s.setLaneH n l h).countChecked n l k e).wrB (TRL_LANE_STAT_CHK_LOCK n l) locked
      else s.followLock n l)

/-- CHECKER_LOSE_LOCK: a PRBS checker has compared `bits` bits since what it has counted, and found `errs` in error, of which more than
512 among the last 4,096; it counts them, loses lock and reseeds itself (R106). -/
def execCheckerLoseLock (n : Fin 37) (l : Fin 8) (bits errs recent : Nat) (s : State) : Host.Outcome State Fault Refusal :=
  .next (if s.checks n l && s.on (TRL_LANE_STAT_CHK_LOCK n l) && decide (512 < recent ∧ recent ≤ errs ∧ errs ≤ bits)
      && decide (s.rd (TRL_LANE_CFG_PAT_SEL n l) < 4) then
    (s.countChecked n l bits errs).reseed n l
  else s)

/-- A read of a low counter word latches the high bits and clears the counter (R109). -/
def State.readLane48 (n l : Nat) (errs : Bool) (s : State) : State :=
  let h := s.laneH n l
  if errs then ((s.wr (TRL_LANE_ERR_HI_ERR n l) h.errHi).wr (TRL_LANE_ERR_LO_ERR n l) 0).setLaneH n l { h with errHi := 0 }
  else ((s.wr (TRL_LANE_BITS_HI_BITS n l) h.bitsHi).wr (TRL_LANE_BITS_LO_BITS n l) 0).setLaneH n l { h with bitsHi := 0 }

end Sys2Proof.Machine
end

