-- ==== Sys2Proof/Machine/Containers.lean ====
section
/-! DEFINITION. Blocks of container-mode and trunk-mode trellises: their headers, descriptors and payload areas, sent and received
(R110 to R146, R556, R557). -/

namespace Sys2Proof.Machine

/-! ## Sending -/

/-- Source and width of the content that an output area carries: that of its route, or in trunk mode its feed (R569). An output without a
route, masked, unpowered, without a running plan, between two plans or under the loss policy IDLE carries idle fill (R134, R205,
R330, R354); one whose group is powered down at software's request goes on to the end of its plan's line (R38). -/
def State.areaContent (s : State) (d : Nat) : Option (Nat × Nat) :=
  if s.trunk (d / 128) then
    (s.fab.feeds.find? fun e => e.1 == d).bind fun e => if s.srcPresent e.2.1 then some e.2 else none
  else if s.on (XPT_MAP_RD_VALID d) && !s.on (XPT_MAP_RD_COVERED d) && (s.carries (outDomain d) || decide (s.now < (s.outH d).stopAt))
      && (!(s.outH d).masked || (s.outH d).ending) && s.on (PLN_STATUS_RUN (s.outPlan d)) && !(s.outH d).leaving
      && !(s.on (XPT_MAP_RD_POLICY d) && s.rd (XPT_OUT_CFG_LOSS d) == 2) then
    some (s.rd (XPT_MAP_RD_SRC d), widthOf (s.rd (XPT_MAP_RD_WIDTH d)))
  else none

/-- Mode framing codes that a trellis knows: in container mode, in trunk mode, in packet mode, and on the mirror port (R113, R414, R530,
R556). -/
def State.framingCode (s : State) (n code : Nat) : Bool :=
  if n = 36 then code == 0x70
  else if s.trunk n then code == 0x60 || code == 0x61
  else if s.packetMode n then decide (0x50 ≤ code) && decide (code ≤ 0x53)
  else code == 0x40 || code == 0x41

/-- A transit run that leaves on trellis `n` over a slot: its incoming trellis and slot. -/
def State.transitOf (s : State) (n slot : Nat) : Option (Nat × Nat) :=
  (s.fab.runs.find? fun e => e.2.inn != linkLocal && e.2.out == n && decide (e.2.outSlot ≤ slot)
    && decide (slot < e.2.outSlot + e.2.slots)).map fun e => (e.2.inn, e.2.inSlot + (slot - e.2.outSlot))

/-- SLOT_MAP bit of slot `k` of trellis `n`: some quarter is not masked, or carries its last content bit (R133); a trunk's slots
30 and 31 are 0 (R556). -/
def State.slotBit (s : State) (n k : Nat) : Bool :=
  !(s.trunk n && decide (30 ≤ k)) && (rangeFrom (128 * n + 4 * k) 4).any fun d => !(s.outH d).masked || (s.outH d).ending

/-- Gang code that the widths of the content at quarters 0 and 2 of a slot give it (R119). -/
def codeOfWidths (w0 w2 : Nat) : Nat :=
  if w0 = 16 then 5 else if w0 = 4 then 4 else (if w0 = 2 then 1 else 0) + (if w2 = 2 then 2 else 0)

/-- Gang code sent for slot `k` of trellis `n` (R119, R123). A slot carries code 5 only with the other three of its group (R121).
DESIGN CHOICE: while the mask has taken one of them away, the others carry code 0 and idle fill. -/
def State.sentCode (s : State) (n k : Nat) : Nat :=
  if !s.slotBit n k then 0
  else if s.trunk n then
    match s.transitOf n k with
    | some (t, j) => s.inCode (32 * t + j)
    | none =>
      let w (q : Nat) : Nat := ((s.fab.feeds.find? fun e => e.1 == 128 * n + 4 * k + q).map (·.2.2)).getD 1
      let base := k / 4 * 4
      if ((s.fab.feeds.find? fun e => e.1 == 128 * n + 4 * base).map (·.2.2)) == some 16 then 5 else codeOfWidths (w 0) (w 2)
  else
    let c := s.outCode (32 * n + k)
    if c = 5 && !((rangeFrom (k / 4 * 4) 4).all fun j => s.slotBit n j) then 0 else c

/-- SLOT_MAP of the next block. -/
def State.sentMap (s : State) (n : Nat) : Nat := (rangeFrom 0 32).foldl (fun a k => a + ofBool (s.slotBit n k) * 2 ^ k) 0

/-- GANG_MAP of the next block. -/
def State.sentGangs (s : State) (n : Nat) : Nat := (rangeFrom 0 32).foldl (fun a k => a + s.sentCode n k * 8 ^ k) 0

/-- Capacity in bits of area `q` under the gang code of its slot; 0 where another area addresses its gang (Table 04-4, R120). -/
def areaCapacity (code q : Nat) : Nat :=
  if code = 5 then (if q % 4 = 0 then 4096 else 0)
  else
    let (lo, w) := gangOf code (q % 4)
    if lo = q % 4 then 1024 * w else 0

/-- H10 to H14 of the block with index `i`: timing word, identity word or none (R127, R128). -/
def State.extension (s : State) (n i : Nat) : List Nat :=
  let dpll := s.rd REF_STATUS_DPLL * 2 ^ 8
  if i < 56 then
    let p := i % 8
    let h10 := 0x4000 + p * 2 ^ 11 + dpll
    if s.on (PLN_STATUS_RUN p) then
      let x := s.pos p
      [h10 + 2 ^ 7, wrap32 x.frame / 2 ^ 16, x.frame % 2 ^ 16, x.line, x.sample]
    else [h10, 0, 0, 0, 0]
  else if s.on (CTN_CFG_IDENT_EN n) then [0x8000 + dpll, n * 2 ^ 8 + s.rd TOP_STRAP_DEV_ADDR, 0x1152, 0xB000, 0]
  else [0, 0, 0, 0, 0]

/-- Header words H1 to H14 of the next block (Table 04-2, R129, R556). -/
def State.headerWords (s : State) (n i : Nat) : List Nat :=
  let map := s.sentMap n
  let gangs := s.sentGangs n
  let h1 := ofBool s.top.claim * 2 ^ 15 + s.rd TOP_STRAP_TWIN_SIDE * 2 ^ 14 + s.rd TOP_STRAP_TWIN_EN * 2 ^ 13
    + s.rd TOP_MODE_MODE * 2 ^ 8 + (if s.trunk n then s.fabAddr else 0)
  [h1, map / 2 ^ 16, map % 2 ^ 16] ++ ((rangeFrom 0 6).map fun k => gangs / 2 ^ (16 * (5 - k)) % 2 ^ 16) ++ s.extension n i

/-- What an area carries: COUNT, the index of the line's first bit plus one (0 for no line start), and its groups. -/
structure AreaBits where
  count : Nat
  start : Nat
  groups : List Nat
  deriving DecidableEq, Repr

/-- What falls due for an area since the last block: its bits, the raster words of its content, and the index plus one of the word among them
that begins a line (0 for none). -/
structure AreaDue where
  area : Nat
  bits : Nat
  words : Nat
  start : Nat
  deriving DecidableEq, Repr

/-- What falls due for area `q`. -/
def dueFor (areas : List AreaDue) (q : Nat) : AreaDue :=
  (areas.find? fun e => e.area == q).getD { area := q, bits := 0, words := 0, start := 0 }

/-- The addressing output of area `q`: that of link 0 for a code 5 group. -/
def State.areaBase (s : State) (n q : Nat) : Nat := if s.sentCode n (q / 4) = 5 then 128 * n + q / 16 * 16 else 128 * n + q

/-- Whether area `q` carries bits as they have come: transit of a trunk, and the bits of a bit-transparent source (R132, R569). Every other area
carries the serial signal that the output stage makes of the words of its content (R118, R351). -/
def State.rawArea (s : State) (n q : Nat) : Bool :=
  (s.trunk n && (s.transitOf n (q / 4)).isSome)
    || (match s.areaContent (s.areaBase n q) with
        | some e => s.srcTransparent e.1
        | none => false)

/-- Whether the output stage of output `d` follows its plan's lines: in aligned carriage, under a loss policy, and for the black picture after a
loss (R331, R351, R354). -/
def State.onPlanLines (s : State) (d : Nat) : Bool :=
  !s.trunk (d / 128) && (s.on (XPT_MAP_RD_ALIGNED d) || s.on (XPT_MAP_RD_POLICY d) || (s.outH d).black)

/-- Input id whose newest line output `d` takes on link `j`: its source's in unaligned carriage, and that of a trunk's feed (R331, R569). -/
def State.newestOf (s : State) (d j : Nat) : Option Nat :=
  if s.onPlanLines d then none else (s.areaContent d).bind fun e => (s.inputOf e.1).map fun i => i + 4 * j

/-- The line that output `d` begins on link `j`: its plan's, numbered by the nearest line start of the read reference, 1.2 µs after which the
words leave; or the newest line in the cask (R331, R339, R354). -/
def State.lineNumber (s : State) (d j : Nat) : Nat :=
  let p := s.outPlan d
  let g := s.planH p
  match s.newestOf d j with
  | some x => ((s.inH x).sdi.rows.headD (0, [])).1
  | none => (g.posAt (s.now + g.lineLen / 2 - s.refDelay p - 12 * us / 10)).line

/-- How the output stage treats the words of output `d` on link `j` (R331, R349, R351). -/
def State.lineForm (s : State) (d j : Nat) : LineForm :=
  let g := s.planH (s.outPlan d)
  { aligned := if s.onPlanLines d && !(s.outH d).black then some (g.format, g.rate) else none, line := s.lineNumber d j, gap := (s.outH d).gap }

/-- The words of the line that output `d` begins on link `j`: with its audio, but a trunk's feed goes as it is (R331, R396, R569). -/
def State.comingLine (d j line : Nat) (s : State) : State × List Nat :=
  if s.trunk (d / 128) then
    (s, match s.areaContent d with
      | some e => s.sourceLine e.1 (s.outPlan d) j line false
      | none => [])
  else s.nextLine d j line

/-- The words of an area that fall due are coded: the rest of the line in progress, and from the word that begins one its next line
(R118, R331, R351). -/
def State.serialiseArea (n : Nat) (e : AreaDue) (s : State) : State :=
  let d := 128 * n + e.area
  let base := s.areaBase n e.area
  let j := (d - base) / 4
  let c := s.lineForm base j
  let before := if e.start = 0 then e.words else min e.words (e.start - 1)
  let h := s.outH d
  let s := s.setOutH d { h with sdo := h.sdo.queue c (h.sdo.nextWords before) 0 }
  if e.start = 0 ∨ e.words < e.start then s
  else
    let (s, words) := s.comingLine base j c.line
    let h := s.outH d
    let o := h.sdo.beginLine c.line words
    let k := e.words - before
    s.setOutH d { h with sdo := ({ o with ahead := o.ahead.drop k } : SdoH).queue c (({ o with pos := 0 } : SdoH).nextWords k) 1, gap := false }

/-- The words that fall due for the areas of trellis `n` are coded; an area without content starts anew. -/
def State.serialise (n : Nat) (areas : List AreaDue) (s : State) : State :=
  s.forL (areas.filter fun e => decide (e.area < 128) && !s.rawArea n e.area) fun e s =>
    if (s.areaContent (s.areaBase n e.area)).isNone then
      let d := 128 * n + e.area
      s.setOutH d { s.outH d with sdo := { (s.outH d).sdo with rest := [], ahead := [], rows := [] } }
    else s.serialiseArea n e

/-- The bits of the content of area `q` that are due in the next block, as many as there are. -/
def State.areaBits (s : State) (n : Nat) (areas : List AreaDue) (q : Nat) : AreaBits :=
  let l := (s.outH (128 * n + q)).sdo.rest.take (dueFor areas q).bits
  { count := l.length, start := match l.findIdx? fun e => e.2 with | some k => k + 1 | none => 0, groups := packBits (l.map (·.1)) }

/-- The bits that a block has carried have left (R117). -/
def State.serialised (n : Nat) (areas : List AreaDue) (s : State) : State :=
  s.forL (areas.filter fun e => decide (e.area < 128)) fun e s =>
    let d := 128 * n + e.area
    let h := s.outH d
    s.setOutH d { h with sdo := { h.sdo with rest := h.sdo.rest.drop e.bits } }

/-- The first `count` bits of a list of groups, filled up with zeros to `n` groups (R117). -/
def validBits : Nat → Nat → List Nat → List Nat
  | 0, _, _ => []
  | n + 1, count, l =>
    let k := min 16 count
    (l.headD 0 % 2 ^ 16 / 2 ^ (16 - k) * 2 ^ (16 - k)) :: validBits n (count - 16) (l.drop 1)

/-- The groups of bits that remain of a list of groups after its first `k` bits. -/
def dropBits (k : Nat) (l : List Nat) : List Nat := packBits ((groupBits (16 * l.length) l).drop k)

/-- What is due for an area, as the mask of its output lets it through: an area that ends one ends before the line's first bit
(R136), and one that opens it begins with that bit (R137). -/
def AreaBits.masked (a : AreaBits) (h : OutH) : AreaBits :=
  if h.ending then { a with count := if 0 < a.start ∧ a.start ≤ a.count then a.start - 1 else a.count, start := 0 }
  else if h.opening then
    if 0 < a.start ∧ a.start ≤ a.count then { count := a.count - (a.start - 1), start := 1, groups := dropBits (a.start - 1) a.groups }
    else { count := 0, start := 0, groups := [] }
  else a

/-- The groups of a message: header, B0 and B1 with addresses and hops, its body, and the CRC (R557). -/
def Msg.groups (m : Msg) : List Nat :=
  let l := [m.type * 2 ^ 8 + (m.body.length + 2), m.dest * 2 ^ 8 + m.src, m.hops * 2 ^ 14] ++ m.body
  l ++ [crc16 l]

/-- The message area of a block of trunk `n`: the oldest of its messages that wait, each whole, in 512 groups; a header of 0 ends it (R557). -/
def messageArea (n : Nat) (outbox : List (Nat × Msg)) : List Nat :=
  ((outbox.filter fun e => e.1 == n).foldl (fun (a : List Nat × Bool) e =>
    let g := e.2.groups
    if a.2 || decide (512 < a.1.length + g.length) then (a.1, true) else (a.1 ++ g, false)) ([], false)).1

/-- The messages that still wait after a block of trunk `n` with `room` groups for them. -/
def afterArea (n : Nat) : Nat → List (Nat × Msg) → List (Nat × Msg)
  | _, [] => []
  | room, e :: l =>
    if e.1 ≠ n then e :: afterArea n room l
    else
      let k := e.2.groups.length
      if room < k then e :: afterArea n 0 l else afterArea n (room - k) l

/-- Descriptor and payload groups of area `q` of the next block, the payload spread over the areas of its gang (R116, R120, R130,
R132, R134). A line start of a code 5 group is marked when it lies in this block on all four links (R123). -/
def State.sentArea (s : State) (n : Nat) (areas : List AreaDue) (q : Nat) : Nat × List Nat :=
  let cap := areaCapacity (s.sentCode n (q / 4)) q
  let base := s.areaBase n q
  let trunk := s.trunk n
  let a := if trunk then s.areaBits n areas q else (s.areaBits n areas q).masked (s.outH base)
  if s.trunk n && decide (120 ≤ q) then (0, validBits 64 1024 ((messageArea n s.fab.outbox).drop (64 * (q - 120))))
  else
    let src := if s.trunk n && (s.transitOf n (q / 4)).isSome then some 0
      else (s.areaContent base).bind fun e => if e.2 = 16 ∧ s.sentCode n (q / 4) ≠ 5 then none else some e.1
    match src with
    | none => (0, if cap = 0 then [] else validBits (cap / 16) 0 [])
    | some v =>
      if cap = 0 then (0, [])
      else
        let trans := s.srcTransparent v && !(s.trunk n && (s.transitOf n (q / 4)).isSome)
        let count := min a.count cap
        let together := trunk || s.sentCode n (q / 4) ≠ 5
          || (rangeFrom 0 4).all fun j => decide (0 < ((s.areaBits n areas (q / 16 * 16 + 4 * j)).masked (s.outH base)).start)
        let ls := decide (0 < a.start) && decide (a.start ≤ count) && !trans && together
        let desc := ofBool ls * 2 ^ 31 + ofBool trans * 2 ^ 30 + (if ls then (a.start - 1) * 2 ^ 16 else 0) + count
        (desc, validBits (cap / 16) count a.groups)

/-- The groups of the next block of trellis `n` (Table 04-1). -/
def State.blockGroups (s : State) (n i : Nat) (areas : List AreaDue) : List (Bool × Nat) :=
  let code := (if s.trunk n then 0x60 else 0x40) + (if i = 0 then 1 else 0)
  let body := (rangeFrom 0 128).map fun q => s.sentArea n areas q
  let desc := (body.map fun e => [e.1 / 2 ^ 16, e.1 % 2 ^ 16]).flatten
  let head := s.headerWords n i
  let data := head ++ [crc16 (head ++ desc)] ++ desc ++ (body.map (·.2)).flatten
  (true, code * 2 ^ 8 + i) :: data.map fun g => (false, g)

/-- HELLO to the neighbour on a trunk, and ROUTE to all where the mode has changed since the last one (R560, R561, Table 14-5). -/
def State.hello (n : Nat) (s : State) : State :=
  if s.on FAB_CFG_EN then
    let s := s.sendOn n { type := 2, dest := linkLocal, src := s.fabAddr,
                          body := [0x1152, 0xB0, n, if s.twinEn then s.twn.peerAddr else linkLocal, s.rd TOP_MODE_MODE,
                                   wrap32 s.fab.started] }
    if s.fab.told = s.rd TOP_MODE_MODE then s else s.announce
  else s

/-- Whether the first line of an output that a mask change has re-enabled begins in this block (R137). -/
def State.opened (s : State) (areas : List AreaDue) (d : Nat) : Bool :=
  let c := s.sentCode (d / 128) (d % 128 / 4)
  let lo := if c = 5 then d % 128 / 16 * 16 else d % 128 / 4 * 4 + (gangOf c (d % 4)).1
  let a := s.areaBits (d / 128) areas lo
  decide (0 < a.start) && decide (a.start ≤ a.count)

/-- Symbols that arrive on the lanes of trellis `n` while it is UP: the checkers of DIAGNOSTIC see them, the lanes decode them, and the
loss guard releases groups of the stream (R72, R78 to R88, R106). Answers the groups released. -/
def State.receiveSymbols (n : Nat) (symbols : List (List Nat)) (s : State) : State × List (Bool × Nat) :=
  if !s.rxIs n 6 then (s, [])
  else
    let s := if s.mode = .diagnostic then s.forN (laneCount n) fun l s => s.runChecker n l (symbols.getD l []) else s
    let (s, groups) := s.receiveStream n (s.framingCode n) symbols
    s.passGuard n groups

/-- BLOCK_SENT: the next block of a container-mode or trunk-mode trellis leaves (R110 to R123, R127 to R134, R556). `areas` is the timing of
the areas since the last block: for an area, the number of bits due in it, how many raster words of its content fall due, and the index plus one of
the first word of a line's sample 0 among them (0: none). The output stage makes the serial signal of the words (R118, R351). In DIAGNOSTIC the lanes of a trellis or of the mirror port send their patterns, or lane frames of FILL, for the time of
a block, which a loop brings to their own receiver (R104 to R108). -/
def execBlockSent (n : Fin 37) (due : List (Nat × Nat × Nat × Nat)) (s : State) : Host.Outcome State Fault Refusal :=
  .next (if s.on (TRL_STATUS_TX_ACTIVE n) && s.mode == .diagnostic then
    let (s, symbols) := s.sendDiag n 1058
    if s.on (TRL_CFG_LOOPBACK n) then (s.receiveSymbols n symbols).1 else s.emit (.lanes n symbols)
  else if s.on (TRL_STATUS_TX_ACTIVE n) && !s.packetMode n && n.val != 36 then
    let i := (s.ctnH n).next
    let areas := due.map fun e => ({ area := e.1, bits := e.2.1, words := e.2.2.1, start := e.2.2.2 } : AreaDue)
    let s := s.serialise n areas
    let groups := s.blockGroups n i areas
    let map := s.sentMap n
    let gangs := s.sentGangs n
    let s := if s.trunk n then s else (s.wr (CTN_TX_MAP_MAP n) map).forN 3 fun k s => s.wr (CTN_TX_GANG_GANG n k) (gangs / 2 ^ (32 * k))
    let s := (s.sendGroups n groups).setCtnH n { s.ctnH n with next := (i + 1) % 64 }
    let s := s.forL (rangeFrom (128 * n) 128) fun d s =>
      if (s.outH d).ending then s.setOutH d { s.outH d with ending := false }
      else if (s.outH d).opening && s.opened areas d then s.setOutH d { s.outH d with opening := false } else s
    let s := s.serialised n areas
    let s := if s.trunk n then { s with fab := { s.fab with outbox := afterArea n 512 s.fab.outbox } } else s
    if s.trunk n && i == 0 then s.hello n else s
  else s)

/-! ## Receiving -/


/-- A received block: whether group 0 is what a block begins with, its index, whether its header passes its CRC, and its data. -/
structure BlockIn where
  starts : Bool
  index : Nat
  good : Bool
  words : List Nat
  deriving DecidableEq, Repr

/-- Take a block apart (R112, R115). -/
def State.readBlock (s : State) (n : Nat) (l : List (Bool × Nat)) : BlockIn :=
  let g0 := l.headD (false, 0)
  let w := (l.drop 1).map fun e => if e.1 then 0 else e.2
  { starts := g0.1 && s.framingCode n (g0.2 / 2 ^ 8), index := g0.2 % 64,
    good := crc16 (w.take 14 ++ (w.drop 15).take 256) == w.getD 14 0, words := w }

/-- A W1C bit of CTN_STATUS is set on a container-mode trellis; in the other modes the register does not change. -/
def State.raiseCtn (n : Nat) (f : Field) (s : State) : State := if (s.trlH n).mode = 0 then s.raise f else s

/-- Lines of non-transparent inputs that lost bits are damaged: each is replaced by the previous complete line before the input tap, and counted
(R144, R503). -/
def State.damageLines (n : Nat) (lines : List (Nat × Nat)) (s : State) : State :=
  s.forL lines fun e s =>
    let i := 128 * n + e.1 % 128
    if s.on (XPT_IN_STAT_PRESENT i) && !s.transparent i then
      let s := if (s.trlH n).mode = 0 then s.bump (CTN_DMG_COUNT n) else s
      s.setInH i { s.inH i with sdi := (s.inH i).sdi.replaceLine s.now e.2 }
    else s

/-- The inputs of a slot are absent (R125, R126, R140). -/
def State.slotAbsent (n k : Nat) (s : State) : State :=
  s.forL (rangeFrom (128 * n + 4 * k) 4) fun i s =>
    if s.transparent i then s.forL (s.idsOf i) fun src s => s.forL (s.destsOf src) fun d s => s.loseSource d
    else s.inputAbsent i

/-- Whether a received GANG_MAP gives slot `k` a code that it cannot have (R125). -/
def badCode (gangs k : Nat) : Bool :=
  let c (j : Nat) : Nat := gangs / 8 ^ j % 8
  c k == 6 || c k == 7 || (c k == 5 && (rangeFrom (k / 4 * 4) 4).any fun j => c j != 5)

/-- The maps of a good header: slots that leave the map become absent (R140), gang codes are applied or flagged (R124, R125), and
groups of links that are too skewed are absent (R126). `skews` holds the skew in ns of each of the eight groups of slots. -/
def State.takeMaps (n map gangs : Nat) (skews : List Nat) (s : State) : State :=
  let old := (s.ctnH n).map
  let auto := (s.trlH n).mode != 0 || s.on (CTN_CFG_GANG_AUTO n)
  let s := if (s.trlH n).mode = 0 then s.wr (CTN_RX_MAP_MAP n) map else s
  let s := s.forN 32 fun k s => if bit old k && !bit map k then s.slotAbsent n k else s
  let s := s.setCtnH n { s.ctnH n with map := map }
  s.forN 32 fun k s =>
    let c := gangs / 8 ^ k % 8
    let bad := badCode gangs k
    let s := if bad then
        let s := s.raiseCtn n (CTN_STATUS_GANG_BAD n)
        if auto || c == s.inCode (32 * n + k) then s else s.raiseCtn n (CTN_STATUS_GANG_CHANGE n)
      else if c = s.inCode (32 * n + k) then s
      else
        let s := s.raiseCtn n (CTN_STATUS_GANG_CHANGE n)
        if auto then s.setInCode (32 * n + k) c else s
    let skewed := s.inCode (32 * n + k) == 5 && decide (1000 < skews.getD (k / 4) 0)
    let s := if skewed then s.raiseCtn n (CTN_STATUS_QL_SKEW n) else s
    let was := bit (s.ctnH n).barred k
    let b := (s.ctnH n).barred - ofBool was * 2 ^ k + ofBool (bad || skewed) * 2 ^ k
    let s := if (bad || skewed) && !was then s.slotAbsent n k else s
    s.setCtnH n { s.ctnH n with barred := b }

/-- The inputs of trellis `n` whose quarter-slot or gang has a COUNT above its capacity (R145). -/
def State.overCounts (s : State) (n : Nat) (words : List Nat) : List Nat :=
  (indicesWhere 128 fun q =>
    !(s.trunk n && decide (120 ≤ q)) && decide (areaCapacity (s.inCode (32 * n + q / 4)) q < words.getD (16 + 2 * q) 0 % 2 ^ 13)).map
    fun q => (s.inAddr (128 * n + q)).1

/-- Messages of a message area whose CRC fails, or that do not fit it (R557). -/
def badMessages : Nat → List Nat → Nat
  | 0, _ => 0
  | fuel + 1, l =>
    let h := l.headD 0
    if h = 0 then 0
    else
      let len := h % 2 ^ 8
      if len < 2 ∨ l.length < len + 2 then 1
      else
        let bad := crc16 (l.take (len + 1)) != l.getD (len + 1) 0
        ofBool bad + badMessages fuel (l.drop (len + 2))

/-- Bits wait for the blocks of an output area; `start` is the index of a line's first bit among them. -/
def State.queueBits (d : Nat) (bits : List Bool) (start : Option Nat) (s : State) : State :=
  let h := s.outH d
  s.setOutH d { h with sdo := { h.sdo with rest := h.sdo.rest ++ bits.zipIdx.map fun e => (e.1, some e.2 == start) } }

/-- The valid bits of area `q` of trellis `n` go on as they are: those of a transit slot to the trunk that it leaves on, with its line starts, and
those of a bit-transparent input to the areas of the outputs that carry it (R132, R569). -/
def State.passBits (n q : Nat) (bits : List Bool) (start : Option Nat) (s : State) : State :=
  let i := 128 * n + q
  let s := s.forL (s.fab.runs.filter fun e =>
      s.trunk n && e.2.inn == n && e.2.out != linkLocal && decide (e.2.inSlot ≤ q / 4) && decide (q / 4 < e.2.inSlot + e.2.slots)) fun e s =>
    s.queueBits (128 * e.2.out + 4 * (e.2.outSlot + (q / 4 - e.2.inSlot)) + q % 4) bits start
  if !s.transparent i then s
  else s.forL (indicesWhere 4608 fun d => s.rawArea (d / 128) (d % 128) && !(s.trunk (d / 128) && (s.transitOf (d / 128) (d % 128 / 4)).isSome)
      && (match s.areaContent (s.areaBase (d / 128) (d % 128)) with
          | some e => (s.inputOf e.1).map (fun b => b + (d - s.areaBase (d / 128) (d % 128))) == some i
          | none => false)) fun d s => s.queueBits d bits none

/-- The input stage reads the valid bits of the areas of a block, but for those of bit-transparent inputs and the messages of a trunk: lines whose
CRC words do not match their content are counted at the input (R117, R118, R322, R327, R329). -/
def State.readSerial (n : Nat) (words : List Nat) (s : State) : State :=
  s.forN (if s.trunk n then 120 else 128) fun q s =>
    let i := 128 * n + q
    let count := words.getD (16 + 2 * q) 0 % 2 ^ 13
    if count = 0 ∨ areaCapacity (s.inCode (i / 4)) q < count then s
    else
      let desc := words.getD (15 + 2 * q) 0
      let s := s.passBits n q (groupBits count (words.drop (271 + 64 * q))) (if bit desc 15 then some (desc % 2 ^ 14) else none)
      if s.transparent i then s else
      let line := (s.inH i).sdi.line
      let (h, bad) := SdiH.takeBits s.now (groupBits count (words.drop (271 + 64 * q))) (s.inH i).sdi
      let s := s.setInH i { s.inH i with sdi := h }
      let a := (s.inAddr i).1
      if !s.on (XPT_IN_STAT_PRESENT a) then s
      else
        let s := s.bumpBy (XPT_IN_ERR_CRC a) bad
        if h.line = line then s
        else
          let s := s.deembed a i h.cask
          if i = a then s.lineArrives a h.line else s

/-- A block with a good header is taken in LOCKED (R113 to R126, R140, R142, R557). `lines` holds the lines that lose bits where
areas are discarded: area of the input and SDI line. -/
def State.takeBlock (n : Nat) (b : BlockIn) (skews : List Nat) (lines : List (Nat × Nat)) (s : State) : State :=
  let w (k : Nat) : Nat := b.words.getD (k - 1) 0
  let s := (s.setCtnH n { s.ctnH n with index := b.index, bad := 0 }).applyTrans n
  let s := if (s.trlH n).mode = 0 then s.wr (CTN_STATUS_RX_CLAIM n) (w 1 / 2 ^ 15) else s
  let map := (w 2 * 2 ^ 16 + w 3) % (if s.trunk n then 2 ^ 30 else 2 ^ 32)
  let gangs := (rangeFrom 0 6).foldl (fun a k => a * 2 ^ 16 + w (4 + k)) 0
  let s := s.takeMaps n map gangs skews
  let s := if (s.trlH n).mode = 0 ∧ w 10 / 2 ^ 14 = 2 then
      let s := (s.wr (CTN_RX_IDENT_HI n 0) (w 11)).wr (CTN_RX_IDENT_LO n 0) (w 12)
      (s.wr (CTN_RX_IDENT_HI n 1) (w 13)).wr (CTN_RX_IDENT_LO n 1) (w 14)
    else s
  let beyond := s.overCounts n b.words
  let s := if beyond.isEmpty then s else s.raiseCtn n (CTN_STATUS_COUNT_ERR n)
  let s := (s.damageLines n (lines.filter fun e => beyond.contains (128 * n + e.1 % 128))).readSerial n b.words
  if s.trunk n then s.bumpBy (FAB_CNT_COUNT 1) (badMessages 512 (b.words.drop 7951)) else s

/-- The framing state, as the registers of a container-mode trellis show it. -/
def State.setFraming (n st : Nat) (s : State) : State :=
  let s := s.setCtnH n { s.ctnH n with state := st, check := 0, bad := 0, wasLocked := (s.ctnH n).wasLocked || st == 2 }
  if (s.trlH n).mode = 0 then s.wr (CTN_STATUS_FRAME_STATE n) st else s

/-- A header that fails its CRC is counted (R144). -/
def State.headerError (n : Nat) (s : State) : State :=
  if (s.trlH n).mode = 0 then (s.bump (CTN_HDR_ERR_COUNT n)).raise (CTN_STATUS_HDR_CRC_ERR n) else s

/-- A block is framed and checked (Table 04-5, R141 to R144). -/
def State.frameBlock (n : Nat) (b : BlockIn) (skews : List Nat) (lines : List (Nat × Nat)) (s : State) : State :=
  let h := s.ctnH n
  if h.state = 0 then (if b.starts then s.setFraming n 1 else s)
  else if h.state = 1 then
    if !b.starts then s.setFraming n 0
    else if !b.good then (s.headerError n).setFraming n 0
    else if h.check = 0 then s.setCtnH n { h with check := 1 }
    else ((s.setFraming n 2).takeBlock n b skews lines) |> fun s => if s.trunk n then s.trunkLocked n else s
  else if b.starts && b.good then
    let s := if b.index = (h.index + 1) % 64 then s else s.raiseCtn n (CTN_STATUS_IDX_ERR n)
    s.takeBlock n b skews lines
  else
    let s := if b.starts then s.headerError n else s
    let s := (s.damageLines n lines).setCtnH n { s.ctnH n with bad := h.bad + 1, index := (h.index + 1) % 64 }
    if 3 ≤ h.bad then s.framingLost n else s

/-- The groups that the block framing has are cut into blocks: in SEARCH up to a group that begins one, then every 8,464 groups
(Table 04-5). At most `k` blocks are cut. -/
def State.cutBlocks (n : Nat) (skews : List Nat) (lines : List (Nat × Nat)) : Nat → State → State
  | 0, s => s
  | k + 1, s =>
    let h := s.ctnH n
    let l := if h.state = 0 then h.rest.dropWhile fun e => !(e.1 && s.framingCode n (e.2 / 2 ^ 8)) else h.rest
    if l.length < 8464 then s.setCtnH n { h with rest := l }
    else
      let s := s.setCtnH n { h with rest := l.drop 8464 }
      State.cutBlocks n skews lines k (s.frameBlock n (s.readBlock n (l.take 8464)) skews lines)

/-- BLOCK_RECEIVED: symbols of each physical lane of trellis `n` have arrived, those of a block as a rule. They are decoded, and what the
loss guard releases goes to the block framing of a container-mode or trunk-mode trellis (R72, R78 to R88, R141 to R145); the frames of a
packet-mode trellis and the records of the mirror port are commands of their own. While LOOPBACK is 1 in DIAGNOSTIC, a receiver gets
what its own lanes send (R108). -/
def execBlockReceived (n : Fin 37) (symbols : List (List (Fin 4))) (skews : List Nat) (lines : List (Nat × Nat)) (s : State) :
    Host.Outcome State Fault Refusal :=
  .next (if !s.rxIs n 6 || s.looped n then s
    else
      let (s, groups) := s.receiveSymbols n (symbols.map fun l => l.map (·.val))
      if n.val = 36 || s.packetMode n || s.mode == .diagnostic then s
      else
        let s := s.setCtnH n { s.ctnH n with rest := (s.ctnH n).rest ++ groups }
        s.cutBlocks n skews lines ((s.ctnH n).rest.length / 8464 + 1))

/-- FRAMING_LOST: with the blocks whose group 0 is missing, four blocks in a row have been bad (Table 04-5). -/
def execFramingLost (n : Fin 36) (missing : Nat) (s : State) : Host.Outcome State Fault Refusal :=
  .next (if (s.ctnH n).state == 2 && decide (4 ≤ (s.ctnH n).bad + missing) then s.framingLost n else s)

/-- NO_FRAMING: four superblocks in UP without having reached LOCKED (R143). -/
def execNoFraming (n : Fin 36) (s : State) : Host.Outcome State Fault Refusal :=
  .next (if s.rxIs n 6 && (s.trlH n).mode == 0 && !(s.ctnH n).wasLocked && s.rxAged n 520283 then
    s.raise (CTN_STATUS_NO_FRAMING n)
  else s)

end Sys2Proof.Machine
end

