-- ==== Sys2Proof/Machine/Renumber.lean ====
section
/-! DEFINITION. A change of a plan's frame number: every frame number of the plan that the state holds moves with it (R540, R549,
R564). Waits of rackers on absolute frame numbers and armed floors are not shifted. -/

namespace Sys2Proof.Machine

/-- A frame number with `d` added, where there is one. -/
def shiftOpt (d : Nat) (o : Option Nat) : Option Nat := o.map (· + d)

/-- The second numbers of a list of pairs with `d` added. -/
def shiftPairs (d : Nat) (l : List (Nat × Nat)) : List (Nat × Nat) := l.map fun e => (e.1, e.2 + d)

/-- The timing of plan `p` carries its new frame numbers. -/
def State.shiftTiming (p d : Nat) (s : State) : State :=
  let h := s.planH p
  let s := s.setPlanH p { h with
    anchorF := h.anchorF + d, caskAt := h.caskAt + d, stopping := shiftOpt d h.stopping,
    jump := h.jump.map fun j => { j with frame := j.frame + d } }
  { s with aud := { s.aud with anchors := listSet s.aud.anchors p (s.aud.anchors.getD p 0 + d) } }

/-- Cellar reads for plan `p` that count its frames. -/
def State.shiftReads (p d : Nat) (s : State) : State :=
  s.forL s.ins fun e s =>
    s.setInH e.1 { e.2 with reads := e.2.reads.map fun r => if r.plan = p then { r with frame := r.frame + d } else r }

/-- Heads on plan `p`. -/
def State.shiftHeads (p d : Nat) (s : State) : State :=
  s.forL s.mvh fun e s =>
    if s.headPlan e.1 = p then
      let m := e.2
      s.setMvhH e.1 { m with
        stopping := shiftOpt d m.stopping, base := m.base + d, clean := m.clean + d, at_ := m.at_ + d,
        decided := shiftOpt d m.decided, push := { m.push with frame := m.push.frame + d } }
    else s

/-- Transmit contexts that wait for a frame boundary of plan `p`. -/
def State.shiftContexts (p d : Nat) (s : State) : State :=
  s.forL s.tx fun e s =>
    if s.rd (PKT_TXC_CFG_TYPE e.1) ≠ 1 ∧ s.outPlan (s.rd (PKT_TXC_BIND_BASE e.1)) = p then
      s.setTxH e.1 { e.2 with waiting := shiftOpt d e.2.waiting, stopping := shiftOpt d e.2.stopping }
    else s

/-- Pending operations of the rackers, and map entries of a catch-up, that land on plan `p`. -/
def State.shiftOps (p d : Nat) (s : State) : State :=
  let s := { s with twn := { s.twn with landing := s.twn.landing.map fun (g : PlanGroup) => if g.plan = p then { g with frame := g.frame + d } else g } }
  s.forL s.rck fun e s =>
    s.setRckH e.1 { e.2 with ops := e.2.ops.map fun o => o.map fun g => if g.plan = p then { g with frame := g.frame + d } else g }

/-- Numbers of PLAN0 frames outside the fabric: modes, ledger, twin and rackers. -/
def State.shiftPlan0 (d : Nat) (s : State) : State :=
  let s := { s with top := { s.top with
    mgtFrame := s.top.mgtFrame + d, thaw := shiftOpt d s.top.thaw, quiesceFrame := s.top.quiesceFrame + d,
    b1 := shiftOpt d s.top.b1, claimSeen := shiftOpt d s.top.claimSeen } }
  let s := { s with ldg := { s.ldg with
    closedAt := s.ldg.closedAt + d, epochs := s.ldg.epochs.map (· + d), rectAt := s.ldg.rectAt + d } }
  let entry (e : JEntry) : JEntry := { e with frame := wrap32 (e.frame + d) }
  let s := { s with twn := { s.twn with
    standbyFrame := s.twn.standbyFrame + d, stamp := shiftOpt d s.twn.stamp, captureAt := shiftOpt d s.twn.captureAt,
    journal := s.twn.journal.map entry, waiting := s.twn.waiting.map entry,
    held := s.twn.held.map fun x => match x with
      | Held.effect r f l k w => Held.effect r (wrap32 (f + d)) l k w
      | y => y } }
  s.forL s.rck fun e s =>
    let w := match e.2.wait with
      | .lease rd id dur f => Wait.lease rd id dur (f + d)
      | w => w
    s.setRckH e.1 { e.2 with wait := w, request := e.2.request.map fun (q : Nat × Nat) => (q.1, q.2 + d) }

/-- Numbers of PLAN0 frames in the fabric engine. -/
def State.shiftFabric (d : Nat) (s : State) : State :=
  { s with fab := { s.fab with
    beat := s.fab.beat + d, fresh := shiftPairs d s.fab.fresh, lost := shiftPairs d s.fab.lost,
    stuck := s.fab.stuck.map (fun e => (e.1, e.2 + d)), alone := shiftOpt d s.fab.alone, boundary := s.fab.boundary + d,
    host := s.fab.host.map fun e => (e.1, e.2.1, e.2.2 + d) } }

/-- The expiries of the leases on ids 0 to 95 and 255 move with PLAN0, so that their remaining durations are kept (R564). -/
def State.shiftLeases (d : Nat) (s : State) : State :=
  s.forL (255 :: rangeFrom 0 96) fun i s =>
    if s.on (RCK_LEASE_H_HELD i) then s.wr (RCK_LEASE_E_EXPIRY i) (wrap32 (s.rd (RCK_LEASE_E_EXPIRY i) + d)) else s

/-- The frame number of plan `p` changes by `d`, modulo 2³². -/
def State.shiftFrames (p d : Nat) (s : State) : State :=
  if d = 0 then s
  else
    let s := ((((s.shiftTiming p d).shiftReads p d).shiftHeads p d).shiftContexts p d).shiftOps p d
    if p = 0 then ((s.shiftPlan0 d).shiftFabric d).shiftLeases d else s

/-- The change, modulo 2³², that brings a plan's number now to `f`. -/
def State.changeTo (s : State) (p f : Nat) : Nat := wrap32 (f + 2 ^ 32 - wrap32 (s.frameOf p))

end Sys2Proof.Machine
end

