-- ==== Sys2Proof/Machine/Fabric.lean ====
section
/-! DEFINITION. The fabric engine at work: reservations and their paths, arrivals at rackers and the lease table, the frame
boundary, elections, and the messages received (R556 to R573). -/

namespace Sys2Proof.Machine

/-! ## Arrivals that a twin pair journals -/

/-- Words of an arrival (Table 14-3, KIND 3): TYPE, source address and body. -/
def arrivalWords (type src : Nat) (body : List Nat) : List Nat := type :: src :: body

/-- Remote map entries that carry quarter-slot `ch` of a run from device `src` and are in a state (R568). -/
def State.rmapOf (s : State) (src ch st : Nat) : List Nat :=
  indicesWhere 3424 fun r => s.rd (FAB_RMAP_ST_STATE r) == st && s.rd (FAB_RMAP_CH r) == ch
    && (s.rd (FAB_RSV_CFG_SRC_DEV (s.rd (FAB_RMAP_RSV r))) == src
      || ((pairGet s.fab.paths (s.rd (FAB_RMAP_RSV r))).getD []).any fun h => h.src == src)

/-- SELECT_ACK: the entries that wait for it become FED with the width, or are refused (R568). -/
def State.takeSelectAck (src ch : Nat) (width : Option Nat) (s : State) : State :=
  s.forL (s.rmapOf src ch 1) fun r s =>
    match width with
    | some w => (s.wr (FAB_RMAP_ST_STATE r) 2).wr (FAB_RMAP_ST_WIDTH r) w
    | none => (s.wr (FAB_RMAP_ST_STATE r) 3).raise FAB_EVENT_FEED_FAIL

/-- The racker whose LEASE on a fabric id waits, the oldest request first. -/
def State.leaseWaiter (s : State) (id : Nat) : Option (Nat × Nat) :=
  let all := (rangeFrom 0 16).filterMap fun r => match (s.rckH r).wait with
    | .lease rd i _ f => if i = id then some (f, r, rd) else none
    | _ => none
  (all.foldl (fun m e => match m with
    | none => some e
    | some x => if e.1 < x.1 then some e else some x) none).map (·.2)

/-- LEASE_ANS: the racker or host whose request waits gets its status (R275). -/
def State.takeAnswer (id status : Nat) (s : State) : State :=
  match s.leaseWaiter id with
  | some (r, rd) => (s.giveStatus r rd status).resumeAt r s.now
  | none =>
    match s.fab.host with
    | some (i, _, _) =>
      if i = id then
        let s := { s with fab := { s.fab with host := none } }
        (s.wr RCK_LEASE_RES_PEND 0).wr RCK_LEASE_RES_STATUS status
      else s
    | none => s

/-- Hops as the words of a LEASE_UPD, and back. -/
def hopWords (l : List HopH) : List Nat := (l.map fun h => [h.src, h.out, h.dst, h.inn, h.slot, h.slots]).flatten
/-- Hops of a list of words. -/
def wordHops : List Nat → List HopH
  | a :: b :: c :: d :: e :: f :: l => { src := a, out := b, dst := c, inn := d, slot := e, slots := f } :: wordHops l
  | _ => []

/-- Split a list of hops into its paths: a path ends where the next hop does not start at its end. -/
def splitPaths : List HopH → List (List HopH)
  | [] => []
  | h :: l =>
    match splitPaths l with
    | (g :: p) :: more => if g.src = h.dst then (h :: g :: p) :: more else [h] :: (g :: p) :: more
    | _ => [[h]]

/-- Length of the path of a reservation that ends at a device. -/
def pathLength (l : List HopH) (a : Nat) : Nat :=
  match (splitPaths l).find? fun p => (p.getLast?.map (·.dst)) == some a with
  | some p => p.length
  | none => 0

/-- LEASE_UPD: the replica of a fabric lease takes its holder, expiry and runs; a lease freed has holder 0x3F (R566). -/
def State.takeUpdate (id addr index e : Nat) (hops : List HopH) (s : State) : State :=
  let s := if addr = linkLocal then (if s.on (RCK_LEASE_H_HELD id) then s.endLease id .delivered else s)
    else s.setFabLease id addr index e
  if 128 ≤ id then
    let k := id - 128
    let paths := if addr = linkLocal then s.fab.paths.filter fun x => x.1 != k else pairSet s.fab.paths k hops
    let s := { s with fab := { s.fab with paths := paths } }
    if s.on (FAB_RSV_MAP_VALID k) then s.wr (FAB_RSV_MAP_HOPS k) (pathLength hops s.fabAddr) else s
  else s

/-- MAIL reaches racker `q`: a ring sets its doorbell bit; a message goes into channel 368 + q and is acknowledged, or waits while
that is full (R598, R599). -/
def State.deliverMail (q src code : Nat) (words : List Nat) (s : State) : State :=
  if bit code 15 then s.setBells q (2 ^ (words.headD 0 % 32))
  else if s.chanOpen (368 + q) && (s.mailH q).wait.isEmpty then
    let s := s.sendSlot (368 + q) code words
    if s.speaks then s.tell 0x0F src [q, code] else s
  else s.setMailH q { s.mailH q with wait := (s.mailH q).wait ++ [(src, code, words)] }

/-- MAIL that waits for channel 368 + q goes in as the channel has free slots. -/
def State.drainMail (q : Nat) (s : State) : State :=
  match (s.mailH q).wait with
  | (src, code, words) :: l =>
    if s.chanOpen (368 + q) then
      let s := (s.setMailH q { s.mailH q with wait := l }).sendSlot (368 + q) code words
      if s.speaks then s.tell 0x0F src [q, code] else s
    else s
  | [] => s

/-- An arrival of KIND 3 takes effect (R534). A LEASE_UPD that this device has decided itself is already in its table. -/
def State.takeArrival (words : List Nat) (s : State) : State :=
  match words with
  | 6 :: _ :: id :: status :: _ => s.takeAnswer id status
  | 7 :: src :: id :: addr :: index :: e :: hops =>
    if src = s.fabAddr then s else s.takeUpdate id addr index e (wordHops hops)
  | 0x0B :: src :: ch :: code :: _ => s.takeSelectAck src ch (if code = 0xFF then none else some code)
  | 0x0E :: src :: q :: code :: l => s.deliverMail q src code l
  | _ => s

/-- A fabric message for the rackers or the lease table: journaled by the claim holder of a pair, ignored by its standby, taken at
once by any other device (R534). -/
def State.arrive (words : List Nat) (s : State) : State :=
  if s.journals then s.journal 3 s.lineStamp words
  else if s.paired then s
  else s.takeArrival words

/-! ## Paths of reservations (R567) -/

/-- A directed link between two devices: sender, its trellis, receiver, its trellis. -/
structure LinkH where
  src : Nat
  out : Nat
  dst : Nat
  inn : Nat
  deriving DecidableEq, Repr

/-- The directed links that this device knows: those of its own neighbours, and those that the neighbour lists of two members name
from both ends, parallel ones joined in rising trellis order. -/
def State.linksKnown (s : State) : List LinkH :=
  let own := (s.neighbours.map fun x =>
    [({ src := s.fabAddr, out := x.trunk, dst := x.addr, inn := x.far } : LinkH),
     { src := x.addr, out := x.far, dst := s.fabAddr, inn := x.trunk }]).flatten
  let side (a b : Nat) : List Nat := (s.fab.links.filter fun e => e.1 == a && e.2.2 == b).map (·.2.1)
  let others := ((rangeFrom 0 32).map fun a => ((rangeFrom 0 32).map fun b =>
    if a = b ∨ a = s.fabAddr ∨ b = s.fabAddr then []
    else ((side a b).zip (side b a)).map fun e => ({ src := a, out := e.1, dst := b, inn := e.2 } : LinkH)).flatten).flatten
  own ++ others

/-- Hops in use by the reservations other than those of `k`. -/
def State.hopsInUse (s : State) (k : Nat) : List HopH := ((s.fab.paths.filter fun e => e.1 != k).map (·.2)).flatten

/-- The lowest free run of so many slots on a link. -/
def freeRun (used : List HopH) (l : LinkH) (slots : Nat) : Option Nat :=
  (rangeFrom 0 (31 - slots)).find? fun b =>
    used.all fun h => !(h.src == l.src && h.out == l.out) || decide (b + slots ≤ h.slot) || decide (h.slot + h.slots ≤ b)

/-- The first link from one device to another with a free run, and the hop over it. -/
def hopOver (links : List LinkH) (used : List HopH) (a b slots : Nat) : Option HopH :=
  (links.filter fun l => l.src == a && l.dst == b).findSome? fun l =>
    (freeRun used l slots).map fun slot => { src := a, out := l.out, dst := b, inn := l.inn, slot := slot, slots := slots }

/-- Hops over a list of devices, each with its free run. -/
def hopsOver (links : List LinkH) (slots : Nat) : List Nat → List HopH → Option (List HopH)
  | a :: b :: l, used =>
    match hopOver links used a b slots with
    | some h => (hopsOver links slots (b :: l) (h :: used)).map (h :: ·)
    | none => none
  | _, _ => some []

/-- The routes from one device to another in the order of preference: fewest hops, then the lowest intermediate addresses. -/
def routesBetween (a b : Nat) : List (List Nat) :=
  let free (l : List Nat) : List Nat := (rangeFrom 0 32).filter fun x => !l.contains x
  [[a, b]] ++ (free [a, b]).map (fun x => [a, x, b])
    ++ ((free [a, b]).map fun x => (free [a, b, x]).map fun y => [a, x, y, b]).flatten

/-- The best path from one of some sources to a device. -/
def bestPath (links : List LinkH) (used : List HopH) (slots : Nat) (sources : List Nat) (b : Nat) : Option (List HopH) :=
  let all := sources.filterMap fun a =>
    if a = b then none else (routesBetween a b).findSome? fun r => hopsOver links slots r used
  all.foldl (fun m p => match m with
    | none => some p
    | some q => if p.length < q.length then some p else some q) none

/-- A device and its twin, where it has one. -/
def State.pairOf (s : State) (a : Nat) : List Nat :=
  let t := if a = s.fabAddr then (if s.twinEn then s.twn.peerAddr else linkLocal) else (pairGet s.fab.twins a).getD linkLocal
  if t = linkLocal ∨ t = a then [a] else [a, t]

/-- The paths of a reservation: one to each device of the requesting pair (R567). -/
def State.choosePaths (s : State) (k addr srcDev slots : Nat) : Option (List HopH) :=
  let links := s.linksKnown
  (s.pairOf addr).foldl (fun acc b => match acc with
    | none => none
    | some hops => (bestPath links (hops ++ s.hopsInUse k) slots (s.pairOf srcDev) b).map (hops ++ ·)) (some [])

/-- Record a FEED: the run of a reservation in this device, and its receiving run in FAB_RSV_MAP (R567). -/
def State.takeFeed (k : Nat) (r : RunH) (s : State) : State :=
  let s := { s with fab := { s.fab with runs := s.fab.runs.filter (fun e => !(e.1 == k && e.2.inn == r.inn && e.2.out == r.out)) ++ [(k, r)] } }
  if r.out = linkLocal then
    let hops := pathLength ((pairGet s.fab.paths k).getD []) s.fabAddr
    let s := ((s.wr (FAB_RSV_MAP_TRELLIS k) r.inn).wr (FAB_RSV_MAP_SLOT0 k) r.inSlot).wr (FAB_RSV_MAP_SLOTS k) r.slots
    (s.wr (FAB_RSV_MAP_HOPS k) hops).wr (FAB_RSV_MAP_VALID k) 1
  else s

/-- The runs of a path in the devices on it, from a given incoming hop on: device and run. -/
def pathRuns : Option HopH → List HopH → List (Nat × RunH)
  | before, [] =>
    match before with
    | some b => [(b.dst, { inn := b.inn, inSlot := b.slot, out := linkLocal, outSlot := 0, slots := b.slots })]
    | none => []
  | before, h :: l =>
    (h.src, { inn := (before.map (·.inn)).getD linkLocal, inSlot := (before.map (·.slot)).getD 0, out := h.out, outSlot := h.slot,
              slots := h.slots }) :: pathRuns (some h) l

/-- The conductor sends FEED to each device on a reservation's paths. -/
def State.sendFeeds (k : Nat) (hops : List HopH) (s : State) : State :=
  s.forL ((splitPaths hops).map fun p => pathRuns none p).flatten fun e s =>
    if e.1 = s.fabAddr then s.takeFeed k e.2
    else s.tell 9 e.1 [k, e.2.inn, e.2.inSlot, e.2.out, e.2.outSlot, e.2.slots]

/-! ## The conductor's decisions (R566) -/

/-- Send a message to every member that the routing table reaches. -/
def State.tellAll (type : Nat) (body : List Nat) (s : State) : State :=
  s.forL ((rangeFrom 0 32).filter fun a => a != s.fabAddr && s.reaches a) fun a s => s.tell type a body

/-- The conductor broadcasts a change of a fabric lease; in a pair it also goes into the journal. -/
def State.sendUpdate (id addr index e : Nat) (s : State) : State :=
  let hops := if 128 ≤ id then hopWords ((pairGet s.fab.paths (id - 128)).getD []) else []
  let body := [id, addr, index, e] ++ hops
  let s := s.tellAll 7 body
  if s.journals then s.journal 3 s.lineStamp (arrivalWords 7 s.fabAddr body) else s

/-- Whether a lapsed lease of a peer may not yet go to another member: the peer is unreachable and not excluded (R275, R554). -/
def State.awaitsExclusion (s : State) (id addr : Nat) : Bool :=
  match pairGet s.fab.former id with
  | some a => a != addr && !s.reaches a && !(s.fab.excluded.contains a) && (pairGet s.fab.lost a).isSome
  | none => false

/-- The conductor decides a request of device `addr`, requester `index`: status and E (R273 to R276, R566, R567). -/
def State.decideLease (addr id dur index : Nat) (free : Bool) (srcDev slots : Nat) (s : State) : State × Nat × Nat :=
  let s := if s.on (RCK_LEASE_H_HELD id) && s.leaseDue id then s.lapseLease id else s
  let held := s.fabHolder id
  let mine := held == some (addr, index) || (s.ownPair addr && held == some (s.fabAddr, index))
  let k := id - 128
  if id < 96 ∨ 224 ≤ id ∨ 2 ^ 16 ≤ dur ∨ (!free ∧ dur = 0) then (s, stInvalid, 0)
  else if free then
    if mine then
      let s := s.endLease id .delivered
      let s := { s with fab := { s.fab with paths := s.fab.paths.filter fun e => e.1 != k || decide (id < 128) } }
      (s.sendUpdate id linkLocal 0 0, stDone, 0)
    else (s, stDenied, 0)
  else if held.isSome && !mine then (s, stBusy, 0)
  else if held.isNone && s.awaitsExclusion id addr then (s, stBusy, 0)
  else
    let e := wrap32 (s.frame0 + dur)
    let grant (s : State) : State :=
      let s := s.setFabLease id addr index e
      ({ s with fab := { s.fab with former := s.fab.former.filter fun x => x.1 != id } } : State).sendUpdate id addr index e
    if id < 128 || held.isSome then (grant s, stDone, e)
    else match s.choosePaths k addr srcDev (clampNat 1 30 slots) with
      | some hops =>
        let s := grant { s with fab := { s.fab with paths := pairSet s.fab.paths k hops } }
        (s.sendFeeds k hops, stDone, e)
      | none => (s, stBusy, 0)

/-- A LEASE or FREE of this device on a fabric id is sent to the conductor by the claim holder, or decided here where this device is
the conductor (R566, R572). -/
def State.requestFabLease (id dur prio index : Nat) (free : Bool) (s : State) : State :=
  if !s.speaks then s
  else if s.rd FAB_STATUS_CONDUCTOR = s.fabAddr then
    let k := id - 128
    let (s, status, e) := s.decideLease s.fabAddr id dur index free (s.rd (FAB_RSV_CFG_SRC_DEV k)) (s.rd (FAB_RSV_CFG_SLOTS k))
    if free then s else s.arrive (arrivalWords 6 s.fabAddr [id, status, e])
  else if s.rd FAB_STATUS_CONDUCTOR = linkLocal then s
  else s.askConductor id dur prio index free

/-- Rewrite the holder of every fabric lease of a failed twin to another device (R554). -/
def State.inheritLeases (old new : Nat) (s : State) : State :=
  s.forL (rangeFrom 96 128) fun id s =>
    match s.fabHolder id with
    | some (a, index) =>
      if a = old then
        let e := s.rd (RCK_LEASE_E_EXPIRY id)
        (s.setFabLease id new index e).sendUpdate id new index e
      else s
    | none => s

/-- The new active of a pair asks the conductor for the fabric leases of its twin, once it holds the claim and follows a conductor other
than that twin; a conductor rewrites them itself (R554, R572). -/
def State.sendInherit (s : State) : State :=
  let c := s.rd FAB_STATUS_CONDUCTOR
  if !s.fab.inherit || !s.top.claim || !s.isMember || c == linkLocal || c == s.twn.peerAddr then s
  else
    let s := { s with fab := { s.fab with inherit := false } }
    if s.twn.peerAddr = linkLocal then s
    else if c = s.fabAddr then s.inheritLeases s.twn.peerAddr s.fabAddr
    else s.tell 8 c [s.twn.peerAddr]

/-- The twin of this device has failed or relinquished: INHERIT is to be sent (R554). -/
def State.inheritTwin (s : State) : State := ({ s with fab := { s.fab with inherit := true } } : State).sendInherit

/-! ## Sources of remote ids (R568, R569) -/

/-- The source of channel `ch` of reservation `k`, where this device is its source: it is fed into every run of the reservation that
begins here; the width code, or none where it is refused. -/
def State.takeSelect (k ch src : Nat) (s : State) : State × Option Nat :=
  let runs := s.fab.runs.filter fun e => e.1 == k && e.2.inn == linkLocal
  let w := s.srcWidth src 0
  let fits := runs.all fun e => decide (ch + w ≤ 4 * e.2.slots)
  let valid := decide (src < 4768) && !(decide (src < 4608) && (s.trunk (src / 128) || !s.addresses src)) && !s.headCovered src
  if runs.isEmpty || !fits || !valid || ch % w != 0 then (s, none)
  else
    let ids := runs.map fun e => 128 * e.2.out + 4 * e.2.outSlot + ch
    let s := { s with fab := { s.fab with
      feeds := s.fab.feeds.filter (fun e => !(ids.any fun d => decide (d < e.1 + e.2.2) && decide (e.1 < d + w)))
        ++ ids.map fun d => (d, src, w) } }
    (s, some (widthCode w))

/-- The source devices of a reservation's paths, as far as they are known. -/
def State.sourcesOf (s : State) (k : Nat) : List Nat :=
  let l := ((splitPaths ((pairGet s.fab.paths k).getD [])).filterMap fun p => p.head?.map (·.src)).eraseDups
  if l.isEmpty then [s.rd (FAB_RSV_CFG_SRC_DEV k)] else l

/-- A write of FAB_RMAP(r): a binding in use is requested with SELECT, by the claim holder; another is unmapped (R568, R572). -/
def State.rmapWritten (r : Nat) (s : State) : State :=
  if s.on (FAB_RMAP_VALID r) then
    let k := s.rd (FAB_RMAP_RSV r)
    let s := s.setWord (FAB_RMAP_ST r) 1
    if !s.speaks || decide (95 < k) then s
    else s.forL (s.sourcesOf k) fun a s => s.tell 0x0A a [k, s.rd (FAB_RMAP_CH r), s.rd (FAB_RMAP_SRC r)]
  else s.setWord (FAB_RMAP_ST r) 0

/-- Runs whose reservation has ended stop at a PLAN0 frame boundary, with their feeds and the bindings over them (R567). -/
def State.endRuns (s : State) : State :=
  let dead := (((s.fab.runs.map (·.1)).eraseDups).filter fun k => !s.on (RCK_LEASE_H_HELD (128 + k)))
  s.forL dead fun k s =>
    let outs := (s.fab.runs.filter fun e => e.1 == k && e.2.inn == linkLocal).map (·.2)
    let s := { s with fab := { s.fab with
      feeds := s.fab.feeds.filter fun e => !(outs.any fun r =>
        decide (128 * r.out + 4 * r.outSlot ≤ e.1) && decide (e.1 < 128 * r.out + 4 * (r.outSlot + r.slots))) } }
    let s := s.forL (indicesWhere 3424 fun r => s.on (FAB_RMAP_ST_STATE r) && s.rd (FAB_RMAP_RSV r) == k) fun r s =>
      s.setWord (FAB_RMAP_ST r) 0
    s.dropRun k

/-! ## The frame boundary, conductor and elections (R562 to R565) -/

/-- Set the conductor that this device follows, and its role. -/
def State.setConductor (a : Nat) (s : State) : State :=
  let s := (s.wr FAB_STATUS_CONDUCTOR a).wr TOP_MODE_ROLE (if a = linkLocal then 0 else if a = s.fabAddr then 2 else 1)
  { s with fab := { s.fab with joined := decide (a = s.fabAddr), beat := s.frame0, renumber := none } }

/-- The conductor's heartbeat to every member (Table 14-5). -/
def State.sendHeartbeat (s : State) : State :=
  s.tellAll 4 ([s.rd FAB_STATUS_TERM, wrap32 s.frame0, s.leaseDigest] ++ s.fab.excluded)

/-- Whether this device is a candidate (R562). -/
def State.isCandidate (s : State) : Bool := s.isMember && candidateMode (s.rd TOP_MODE_MODE)

/-- Elect the lowest-addressed candidate (R562). -/
def State.elect (s : State) : State :=
  let ok := (rangeFrom 0 32).find? fun a =>
    if a = s.fabAddr then s.isCandidate else s.reaches a && candidateMode (s.rd (FAB_ROUTE_MODE a))
  let s := ({ s with fab := { s.fab with trigger := false } } : State).raise FAB_EVENT_ELECTION
  match ok with
  | none => s.setConductor linkLocal
  | some a =>
    let s := s.setConductor a
    if a = s.fabAddr then
      let t := (s.fab.maxTerm + 1) % 2 ^ 16
      ({ s with fab := { s.fab with maxTerm := t } } : State).wr FAB_STATUS_TERM t
    else s

/-- The change of a PLAN0 frame number by renumbering is made (R564). -/
def State.applyRenumber (d : Nat) (s : State) : State :=
  if d = 0 then s else ((s.shiftFrames 0 d).raise FAB_EVENT_RENUMBER).rckEventAll (2 ^ 21)

/-- What the fabric engine does once at each PLAN0 frame boundary: a renumbering takes effect, ended runs stop, an election is held
where one is due, the conductor sends its heartbeat, ROUTE goes to the neighbours, and MAIL held too long is reported (R559, R561,
R562, R564, R567). -/
def State.fabBoundary (s : State) : State :=
  if !s.isMember || decide (s.frame0 ≤ s.fab.boundary) then s
  else
    let s := { s with fab := { s.fab with boundary := s.frame0 } }
    let s := match s.fab.renumber with
      | some d => ({ s with fab := { s.fab with renumber := none } } : State).applyRenumber d.toNat
      | none => s
    let s := s.endRuns
    let s := if s.fab.trigger || s.rd FAB_STATUS_CONDUCTOR == linkLocal then s.elect else s
    let s := if s.rd FAB_STATUS_CONDUCTOR = s.fabAddr then s.sendHeartbeat else s
    let s := s.announce.trackReach.sendInherit
    if s.fab.stuck.any fun e => decide (e.2 + 3 ≤ s.frame0) then s.raise FAB_EVENT_MAIL_STALL else s

/-- The part of FAB_CFG that changes with EN (R562, Table 15-8): the engine stops and is reset, or starts. -/
def State.fabCfgWritten (was : Bool) (s : State) : State :=
  if s.on FAB_CFG_EN then
    if was then s
    else
      let s := { s with fab := { s.fab with started := s.frame0, boundary := s.frame0 } }
      s.forL (indicesWhere 36 fun n => s.trunk n && (s.ctnH n).state == 2) fun n s => s.trunkLocked n
  else if was then
    let s := (s.resetParty .fabric).setConductor linkLocal
    let s := s.forN 32 fun a s => s.setWord (FAB_ROUTE a) 0
    let s := s.forN 36 fun n s => if s.trunk n then s.dropResident 7 n else s
    { s with fab := { s.fab with neigh := [], links := [], fresh := [], credits := [], queue := [], alone := none, lost := [] } }
  else s

/-! ## Receiving -/

/-- A message received whole on trunk `n`: it is counted, its buffer space returned, and it is taken here, forwarded or dropped;
a message of an excluded member is ignored, but for HELLO (R557 to R559, R565). -/
def State.receive (n : Nat) (m : Msg) (take : State → State) (s : State) : State :=
  if !s.trunkUp n then s
  else
    let s := s.bump (FAB_CNT_COUNT 0)
    let s := if m.type = 1 then s else s.returnCredit n
    if s.fab.excluded.contains m.src && m.type != 2 then s
    else if m.dest = linkLocal ∨ m.dest = s.fabAddr then take s
    else if 3 ≤ m.hops then s.bump (FAB_CNT_COUNT 2)
    else s.sendMsg { m with hops := m.hops + 1 }

/-- CREDIT: message credits come back (R558). -/
def execCredit (n : Fin 36) (src : Fin 64) (count : Nat) (s : State) : Host.Outcome State Fault Refusal :=
  .next (s.receive n { type := 1, dest := linkLocal, src := src, body := [count] } fun s => s.addCredits n count)

/-- HELLO: a neighbour is established after two consecutive superblocks; this device's own address is a conflict (R560, R565). -/
def execHello (n : Fin 36) (addr : Fin 64) (far : Fin 64) (twin : Fin 64) (mode : Fin 16) (inc : Nat) (s : State) :
    Host.Outcome State Fault Refusal :=
  .next (
    if s.on FAB_CFG_EN && s.trunk n && addr.val == s.fabAddr then
      { (s.wr FAB_STATUS_ADDR_CONFLICT 1) with fab := { s.fab with
          conflict := if s.fab.conflict.contains n.val then s.fab.conflict else s.fab.conflict ++ [n.val] } }
    else s.receive n { type := 2, dest := linkLocal, src := addr, body := [0x1152, 0xB0, far, twin, mode, inc] } fun s =>
      let renewed := pairGet s.fab.incs addr.val != some (wrap32 inc)
      let s := { s with fab := { s.fab with
        incs := pairSet s.fab.incs addr.val (wrap32 inc), twins := pairSet s.fab.twins addr.val twin.val,
        excluded := if renewed then s.fab.excluded.filter (· != addr.val) else s.fab.excluded,
        silent := if renewed then s.fab.silent.filter (·.1 != addr.val) else s.fab.silent } }
      if s.fab.excluded.contains addr.val then s
      else
        let count := match s.fab.neigh.find? fun x => x.trunk == n.val && x.addr == addr.val with
          | some x => if s.now < x.at_ + 2 * 130080 then x.count + 1 else 1
          | none => 1
        let x : NeighH := { trunk := n, addr := addr, far := far, twin := twin, mode := mode, inc := wrap32 inc, count := count, at_ := s.now }
        let s := { s with fab := { s.fab with neigh := s.fab.neigh.filter (fun y => y.trunk != n.val) ++ [x] } }
        if count = 2 then
          let s := s.learnRoute n addr addr 1 mode
          (s.routesChanged).sendStuck
        else s)

/-- ROUTE: the neighbour's table and neighbour list are learned (R561). `entries` are (address, hops, mode), `near` are (trellis,
address). -/
def execRoute (n : Fin 36) (src : Fin 64) (entries : List (Fin 64 × Fin 4 × Fin 16)) (near : List (Fin 64 × Fin 64)) (s : State) :
    Host.Outcome State Fault Refusal :=
  .next (s.receive n { type := 3, dest := linkLocal, src := src, body := [] } fun s =>
    let table (s : State) : List Word := (rangeFrom 0 32).map fun a => s.word (FAB_ROUTE a)
    let before := table s
    let s := { s with fab := { s.fab with
      links := s.fab.links.filter (fun (e : Nat × Nat × Nat) => e.1 != src.val)
        ++ near.map fun (e : Fin 64 × Fin 64) => (src.val, e.1.val, e.2.val) } }
    let s := s.forL entries fun e s => s.learnRoute n src e.1 (e.2.1.val + 1) e.2.2
    (if table s = before then s.trackReach else s.routesChanged).sendStuck)

/-- ROUTE_EXPIRY: no ROUTE has refreshed an entry by line 1 + HB_LINES of three consecutive frames (R561). -/
def execRouteExpiry (a : Fin 32) (s : State) : Host.Outcome State Fault Refusal :=
  .next (
    let late := decide ((pairGet s.fab.fresh a.val).getD 0 + 3 ≤ s.frame0) && decide (1 + s.rd FAB_CFG_HB_LINES ≤ (s.pos 0).line)
    if s.on (FAB_ROUTE_VALID a) && late then (s.dropEntry a).routesChanged else s)

/-- Take the conductor's frame number: the change to make at the next PLAN0 frame boundary, where one is needed (R564). `phase` is by
how much the conductor's frame began after this device's present one. -/
def State.compareFrames (frame : Nat) (phase : Int) (s : State) : State :=
  let h := s.planH 0
  let f : Int := framePeriod h.rate
  let n := (2 * phase + f) / (2 * f)
  let off := (phase - n * f).natAbs
  let s := s.wrB FAB_STATUS_P0_SKEW (decide (h.lineLen < off))
  if s.fab.joined then s
  else
    let d := (((frame : Int) - (wrap32 s.frame0 : Int) - n) % ((2 ^ 32 : Nat) : Int)).toNat
    let s := { s with fab := { s.fab with joined := true } }
    if d = 0 || (s.paired && !s.top.claim) then s
    else if s.journals then s.journal 5 s.frameStamp (d :: List.replicate 7 0)
    else { s with fab := { s.fab with renumber := some d } }

/-- Essence of an excluded member counts as absent: the inputs of trunks to it, and of the runs that it feeds (R565). -/
def State.excludeEssence (a : Nat) (s : State) : State :=
  let near := (s.fab.neigh.filter fun x => x.addr == a).map fun x => (a, x.trunk, 0, 30)
  let far := (s.fab.runs.filter fun e => e.2.out == linkLocal
      && ((splitPaths ((pairGet s.fab.paths e.1).getD [])).any fun p => (p.head?.map (·.src)) == some a)).map fun e =>
    (a, e.2.inn, e.2.inSlot, e.2.slots)
  let s := { s with fab := { s.fab with silent := s.fab.silent ++ near ++ far } }
  s.forL (near ++ far) fun e s => s.forL (rangeFrom (128 * e.2.1 + 4 * e.2.2.1) (4 * e.2.2.2)) fun i s => s.inputAbsent i

/-- A member is excluded (R565). -/
def State.exclude (a : Nat) (s : State) : State :=
  if s.fab.excluded.contains a || a == s.fabAddr then s
  else
    let s := { s with fab := { s.fab with excluded := s.fab.excluded ++ [a] } }
    ((s.dropEntry a).excludeEssence a).raise FAB_EVENT_EXCLUDED

/-- ISOLATED ends at a conductor heartbeat, unless the device is FROZEN (R58). -/
def State.endIsolation (s : State) : State :=
  if s.mode = .isolated then s.enterMode s.isoRet 4 else s

/-- HEARTBEAT: the higher term is followed, and for one term the lower address; the follower compares frame numbers and lease
digests, takes the exclusions, and leaves ISOLATED (R58, R562 to R565). -/
def execHeartbeat (n : Fin 36) (dest src : Fin 64) (hops : Fin 4) (term : Fin 65536) (frame digest : Nat) (excluded : List (Fin 32))
    (phase : Int) (s : State) : Host.Outcome State Fault Refusal :=
  .next (s.receive n
      { type := 4, dest := dest, src := src, hops := hops, body := [term.val, frame, digest] ++ excluded.map (·.val) } fun s =>
    if !s.isMember then s
    else
      let s := s.fabBoundary
      let c := s.rd FAB_STATUS_CONDUCTOR
      let t := s.rd FAB_STATUS_TERM
      let s := { s with fab := { s.fab with maxTerm := max s.fab.maxTerm term.val } }
      let follow := c == src.val || c == linkLocal || decide (t < term.val) || (t == term.val && decide (src.val < c))
      if !follow then s
      else
        let s := if c = src.val then s else s.setConductor src
        let s := s.wr FAB_STATUS_TERM term
        let s := { s with fab := { s.fab with beat := s.frame0, trigger := false } }
        let s := s.compareFrames (wrap32 frame) phase
        let s := (s.forL excluded fun a s => s.exclude a).sendInherit
        let s := if digest ≠ s.leaseDigest then s.tell 0x10 src [0] else s
        s.endIsolation)

/-- HEARTBEAT_MISSED: the heartbeats of three consecutive frames have not arrived by line 1 + HB_LINES: an election is due (R562). -/
def execHeartbeatMissed (s : State) : Host.Outcome State Fault Refusal :=
  .next (
    let c := s.rd FAB_STATUS_CONDUCTOR
    if s.isMember && c != linkLocal && c != s.fabAddr && decide (s.fab.beat + 3 ≤ s.frame0)
        && decide (1 + s.rd FAB_CFG_HB_LINES ≤ (s.pos 0).line) then
      { s with fab := { s.fab with trigger := true } }
    else s)

/-- ELECTION: the boundary of a PLAN0 frame in the fabric engine, with the election where one is due (R562). -/
def execElection (s : State) : Host.Outcome State Fault Refusal := .next s.fabBoundary

/-- EXCLUDE: the conductor excludes a member that has been unreachable for 3 PLAN0 frames (R565). -/
def execExclude (a : Fin 32) (s : State) : Host.Outcome State Fault Refusal :=
  .next (
    match pairGet s.fab.lost a.val with
    | some f => if s.rd FAB_STATUS_CONDUCTOR = s.fabAddr ∧ f + 3 ≤ s.frame0 then s.exclude a else s
    | none => s)

/-- Whether a request is decided before another one of the same cycle (R566). -/
def ReqH.before (a b : ReqH) : Bool :=
  decide (b.prio < a.prio) || (a.prio == b.prio && (decide (a.addr < b.addr) || (a.addr == b.addr && decide (a.index < b.index))))

/-- The request of a command that is a LEASE_REQ which this device takes. -/
def State.requestOf (s : State) (c : Instr) : Option ReqH :=
  match c with
  | .leaseReq n dest src _ id dur prio index free srcDev slots =>
    if s.trunkUp n && !s.fab.excluded.contains src.val && (dest.val == linkLocal || dest.val == s.fabAddr) then
      some { addr := src, index := index, prio := prio, id := id, dur := dur, free := free, srcDev := srcDev, slots := slots }
    else none
  | _ => none

/-- Put a request into its place among others. -/
def placeRequest (q : ReqH) : List ReqH → List ReqH
  | [] => [q]
  | r :: l => if q.before r then q :: r :: l else r :: placeRequest q l

/-- The requests of this cycle that are decided before `q`, in order (R566). -/
def State.ahead (s : State) (q : ReqH) : List ReqH :=
  ((s.pending.filterMap s.requestOf).filter fun r => r.before q).foldl (fun l r => placeRequest r l) []

/-- Decide a request. -/
def State.decideOne (q : ReqH) (s : State) : State × Nat × Nat := s.decideLease q.addr q.id q.dur q.index q.free q.srcDev q.slots

/-- Decide a request after those of the same cycle that rank before it, whose answers wait for their messages (R566). -/
def State.decideRequest (q : ReqH) (s : State) : State × Nat × Nat :=
  match s.fab.decided.find? fun e => e.1 == q && e.2.1 == s.now with
  | some e => ({ s with fab := { s.fab with decided := s.fab.decided.erase e } }, e.2.2)
  | none =>
    (s.forL (s.ahead q) fun r s =>
      let (t, a) := s.decideOne r
      { t with fab := { t.fab with decided := t.fab.decided ++ [(r, s.now, a)] } }).decideOne q

/-- LEASE_REQ: the conductor decides a request and answers it (R566, R567). -/
def execLeaseReq (n : Fin 36) (dest src : Fin 64) (hops : Fin 4) (id : Fin 256) (dur prio index : Nat) (free : Bool)
    (srcDev slots : Fin 64) (s : State) : Host.Outcome State Fault Refusal :=
  .next (s.receive n
      { type := 5, dest := dest, src := src, hops := hops,
        body := [id.val, dur, prio, index, ofBool free] ++ (if 128 ≤ id.val then [srcDev.val, slots.val] else []) } fun s =>
    if s.rd FAB_STATUS_CONDUCTOR ≠ s.fabAddr then s
    else
      let (s, status, e) := s.decideRequest
        { addr := src, index := index, prio := prio, id := id, dur := dur, free := free, srcDev := srcDev, slots := slots }
      s.tell 6 src [id, status, e])

/-- LEASE_ANS: an answer for a request of this device (R275, R534). -/
def execLeaseAns (n : Fin 36) (dest src : Fin 64) (hops : Fin 4) (id : Fin 256) (status : Fin 4) (e : Nat) (s : State) :
    Host.Outcome State Fault Refusal :=
  .next (s.receive n { type := 6, dest := dest, src := src, hops := hops, body := [id, status, e] } fun s =>
    s.arrive (arrivalWords 6 src [id, status, wrap32 e]))

/-- LEASE_UPD: a change of a fabric lease reaches the replica (R534, R566). -/
def execLeaseUpd (n : Fin 36) (dest src : Fin 64) (hops : Fin 4) (id : Fin 224) (addr : Fin 64) (index : Fin 32) (e : Nat)
    (runs : List HopH) (s : State) : Host.Outcome State Fault Refusal :=
  .next (s.receive n { type := 7, dest := dest, src := src, hops := hops, body := [id.val, addr, index, e] ++ hopWords runs } fun s =>
    if id.val < 96 then s else s.arrive (arrivalWords 7 src ([id.val, addr, index, wrap32 e] ++ hopWords runs)))

/-- LEASE_SYNC: a request (`copy` none) is answered with entries 96 to 223; a copy of them replaces the replica (R563). A copy lists
(id, holder, index, E) of the leases held. -/
def execLeaseSync (n : Fin 36) (dest src : Fin 64) (hops : Fin 4) (copy : Option (List (Fin 224 × Fin 64 × Fin 32 × Nat))) (s : State) :
    Host.Outcome State Fault Refusal :=
  let body : List Nat := match copy with
    | none => [0]
    | some l => 1 :: (l.map fun e => [e.1.val, e.2.1.val, e.2.2.1.val, e.2.2.2]).flatten
  .next (s.receive n { type := 0x10, dest := dest, src := src, hops := hops, body := body } fun s =>
    match copy with
    | none =>
      if s.rd FAB_STATUS_CONDUCTOR ≠ s.fabAddr then s
      else
        let l := (rangeFrom 96 128).filterMap fun i => (s.fabHolder i).map fun h => [i, h.1, h.2, s.rd (RCK_LEASE_E_EXPIRY i)]
        s.tell 0x10 src (1 :: l.flatten)
    | some l =>
      if src.val ≠ s.rd FAB_STATUS_CONDUCTOR then s
      else
        let s := s.forL (rangeFrom 96 128) fun i s =>
          if s.on (RCK_LEASE_H_HELD i) && !(l.any fun e => e.1.val == i) then s.endLease i .dropped else s
        s.forL l fun e s => if e.1.val < 96 then s else s.setFabLease e.1 e.2.1 e.2.2.1 (wrap32 e.2.2.2))

/-- INHERIT: the conductor rewrites the fabric leases of a failed twin to the sender (R554). -/
def execInherit (n : Fin 36) (dest src : Fin 64) (hops : Fin 4) (failed : Fin 64) (s : State) : Host.Outcome State Fault Refusal :=
  .next (s.receive n { type := 8, dest := dest, src := src, hops := hops, body := [failed] } fun s =>
    if s.rd FAB_STATUS_CONDUCTOR = s.fabAddr then s.inheritLeases failed src else s)

/-- FEED: this device's run of a reservation (R567). -/
def execFeed (n : Fin 36) (dest src : Fin 64) (hops : Fin 4) (k : Fin 96) (run : RunH) (s : State) : Host.Outcome State Fault Refusal :=
  .next (s.receive n
      { type := 9, dest := dest, src := src, hops := hops, body := [k.val, run.inn, run.inSlot, run.out, run.outSlot, run.slots] } fun s =>
    s.takeFeed k run)

/-- SELECT: the source device feeds a source into a channel, or refuses (R568, R569). -/
def execSelect (n : Fin 36) (dest src : Fin 64) (hops : Fin 4) (k : Fin 96) (ch : Fin 128) (id : Fin 8192) (s : State) :
    Host.Outcome State Fault Refusal :=
  .next (s.receive n { type := 0x0A, dest := dest, src := src, hops := hops, body := [k, ch, id] } fun s =>
    let (s, w) := s.takeSelect k ch id
    s.tell 0x0B src [ch, w.getD 0xFF])

/-- SELECT_ACK: bindings of a channel become FED with a width code, or are refused (R568). -/
def execSelectAck (n : Fin 36) (dest src : Fin 64) (hops : Fin 4) (ch : Fin 128) (width : Option (Fin 4)) (s : State) :
    Host.Outcome State Fault Refusal :=
  let code : Nat := match width with
    | some w => w.val
    | none => 0xFF
  .next (s.receive n { type := 0x0B, dest := dest, src := src, hops := hops, body := [ch, code] } fun s =>
    s.arrive (arrivalWords 0x0B src [ch, code]))

/-- RECORD: the source record of a remote frame is stored under its remote ids, for route proof (R569). -/
def execRecord (n : Fin 36) (dest src : Fin 64) (hops : Fin 4) (ch : Fin 128) (tag rgen digest : Nat) (checks : List Nat)
    (valid damaged : Fin 16) (s : State) : Host.Outcome State Fault Refusal :=
  .next (s.receive n
      { type := 0x0C, dest := dest, src := src, hops := hops,
        body := [ch.val, tag, rgen, digest] ++ checks ++ [valid.val, damaged.val] } fun s =>
    let own := Config.rectDigest (((rangeFrom 0 8).map fun f => ((rangeFrom 0 4).map fun k =>
      [(s.rectWord (PRF_RPOS f k)).toNat, (s.rectWord (PRF_RSIZE f k)).toNat]).flatten).flatten)
    s.forL (s.rmapOf src ch 2) fun r s =>
      let id := 4768 + r
      let s := s.addRec id { tag := frameTag id tag, crc := checks, rgen := s.rd PRF_STATUS_RGEN, valid := valid, damaged := damaged }
      let rest := s.fab.digest.filter (· != id)
      let s := { s with fab := { s.fab with digest := if digest = own then rest else rest ++ [id] } }
      match s.inputOf id with
      | some i => s.setInH i { s.inH i with tag := tag % 2 ^ 19 }
      | none => s)

/-- AUDIO: samples of a remote group enter its elastic store; a full store discards the oldest (R570). `ticks` holds six lists of 16
sample words. -/
def execAudio (n : Fin 36) (dest src : Fin 64) (hops : Fin 4) (m : Fin 768) (ticks : List (List Nat)) (s : State) :
    Host.Outcome State Fault Refusal :=
  .next (s.receive n { type := 0x0D, dest := dest, src := src, hops := hops, body := m.val :: ticks.flatten } fun s =>
    if !s.on (FAB_AMAP_VALID m) || s.rd (FAB_AMAP_SRC_DEV m) != src.val then s
    else
      let h := s.elastic (8192 + m)
      let frames := h.frames ++ ticks.map fun t => (rangeFrom 0 16).map fun j => (53248 + 16 * m.val + j, t.getD j 0)
      s.setElastic (8192 + m) { h with frames := frames.drop (frames.length - 128) })

/-- MAIL: a message or ring for racker `q` (R534, R571, R598, R599). -/
def execMail (n : Fin 36) (dest src : Fin 64) (hops : Fin 4) (q : Fin 16) (code : Fin 65536) (words : List Nat) (s : State) :
    Host.Outcome State Fault Refusal :=
  .next (s.receive n { type := 0x0E, dest := dest, src := src, hops := hops, body := [q.val, code.val] ++ words } fun s =>
    s.arrive (arrivalWords 0x0E src ([q.val, code.val] ++ words)))

/-- The slot of racker `r` that was sent as MAIL is free (R571). -/
def State.mailDone (r : Nat) (s : State) : State :=
  let h := s.mailH r
  if h.away = 0 then s else (s.setMailH r { h with away := h.away - 1 }).freeSlot (352 + r)

/-- MAIL_ACK: the sending slot is freed; the claim holder of a pair tells its standby (R571, R598). -/
def execMailAck (n : Fin 36) (dest src : Fin 64) (hops : Fin 4) (q : Fin 16) (code : Fin 65536) (s : State) :
    Host.Outcome State Fault Refusal :=
  .next (s.receive n { type := 0x0F, dest := dest, src := src, hops := hops, body := [q, code] } fun s =>
    let r := code.val % 16
    if (s.mailH r).away = 0 then s
    else
      let s := s.mailDone r
      if s.journals then s.sendEffect r 9 [] else s)

/-- FABRIC_MAIL_SEND: the next posted slot of channel 352 + r goes out as MAIL, once a route exists (R571, R572, R598). -/
def execFabricMailSend (r : Fin 16) (s : State) : Host.Outcome State Fault Refusal :=
  .next (
    let c := 352 + r.val
    let k := (s.mailH r).away
    let code := (s.chnH c).codes.getD ((s.rd (MBX_CH_RD c) + k) % 8) 0
    if !s.speaks || decide (s.rd (MBX_CH_COUNT c) ≤ k) || !s.reaches (code / 2 ^ 8 % 64) then s
    else
      let s := s.setMailH r { s.mailH r with away := k + 1 }
      s.tell 0x0E (code / 2 ^ 8 % 64) ([code % 16, r.val + s.fabAddr * 2 ^ 8] ++ s.slotWords c k))

end Sys2Proof.Machine
end

