-- ==== Sys2Proof/Machine/RckCtl.lean ====
section
/-! DEFINITION. Starting, resuming and stepping of rackers; waiting operations; and the head, ledger, lease, doorbell and mailbox
instructions (R246, R263, R269 to R276, R282 to R289, R312 to R317). -/

namespace Sys2Proof.Machine

/-! ## Start, resume, step -/

/-- Racker `r` starts at an instant: its registers are reset, its epoch advances, and it begins at ENTRY (R285, R542, R646,
Table 15-8). -/
def State.startRacker (r t : Nat) (s : State) : State :=
  let s := s.forN 32 fun g s => s.setGreg r g 0
  let h := s.rckH r
  let s := s.setRckH r { h with
    flags := {}, lnk := 0, planSel := 0, p := t, staging := [], wait := .none, pcOver := false, request := none, stepping := false }
  let s := (s.wr (RCK_FADE_TENTHS_MS r) 0).wr (RCK_PC_PC r) (s.rd (RCK_CFG_ENTRY r))
  let s := s.wr (RCK_EPOCH_EPOCH r) (s.rd (RCK_EPOCH_EPOCH r) + 1)
  let s := (s.wr (RCK_STATUS_STATE r) 1).showRck r
  let s := s.wr ⟨TWN_STATUS, 16 + r, 1⟩ 0
  (s.resetParty (.racker r)).releaseLocks (3 + r)

/-- A halted racker goes on from RCK_PC at an instant (R287). -/
def State.resumeRacker (r t : Nat) (step : Bool) (s : State) : State :=
  let s := s.setP r t
  (s.setRckH r { s.rckH r with request := none, stepping := step }).wr (RCK_STATUS_STATE r) 1

/-- START (1), RESUME (2) or STEP (3) takes effect at a PLAN0 frame boundary (R285, R287). -/
def State.beginRacker (r kind t : Nat) (s : State) : State :=
  if s.rackersHalted || !s.domReady (rckDomain r) then s.setRckH r { s.rckH r with request := none }
  else if kind = 1 then s.startRacker r t else s.resumeRacker r t (kind == 3)

/-- The start of the PLAN0 frame now. -/
def State.boundary0 (s : State) : Nat := (s.planH 0).frameStart s.frame0

/-- The rackers with AUTOSTART = 1 start at this boundary (R286). -/
def State.startAuto (s : State) : State :=
  let t := s.boundary0
  s.forL (indicesWhere 16 fun r => s.on (RCK_CFG_AUTOSTART r)) fun r s => s.beginRacker r 1 t

/-- HALT by the host: a racker halts at once, a wait being abandoned; a TAKE, COMMIT or HCOMMIT at retire is not stopped part-way, and the
racker halts once it has retired (R287, R301). -/
def State.hostHalt (r : Nat) (s : State) : State :=
  match (s.rckH r).wait with
  | .retire _ _ => s.setRckH r { s.rckH r with stepping := true, request := none }
  | _ => s.haltRacker r

/-- A request through RCK_CTRL: in a twin pair it is made at its stamp, a frame boundary; else at the next boundary (R285). HALT takes
effect at once (R287). A journaled START makes the racker synced (R542), as `startRacker` does. -/
def State.rckControl (r v : Nat) (stamped : Bool) (s : State) : State :=
  let ask (kind : Nat) (s : State) : State :=
    let halted := s.rd (RCK_STATUS_STATE r) = 0 ∨ s.rd (RCK_STATUS_STATE r) = 4
    if stamped then (if kind = 1 ∨ halted then s.beginRacker r kind s.boundary0 else s) else s.requestRacker r kind
  let s := if bit v 2 then s.hostHalt r else s
  if bit v 0 then ask 1 s else if bit v 1 then ask 2 s else if bit v 3 then ask 3 s else s

/-- RACKER_STARTS: the PLAN0 frame boundary of a requested START, RESUME or STEP (R285, R287). -/
def execRackerStarts (r : Fin 16) (s : State) : Host.Outcome State Fault Refusal :=
  .next (
    match (s.rckH r).request with
    | some (kind, f) => if f < s.frame0 then s.beginRacker r kind ((s.planH 0).frameStart (f + 1)) else s
    | none => s)

/-! ## HCOMMIT -/

/-- The words of an HCOMMIT's EFFECT: the head and its staged set. -/
def State.stagedWords (s : State) (h : Nat) : List Nat :=
  let c := s.stagedSet h 0 0
  h :: (c.globals.map (·.toNat)) ++ (c.layers.map fun l =>
    [l.src.toNat, l.crop.toNat, l.csize.toNat, l.dpos.toNat, l.dsize.toNat, l.ctrl.toNat, l.fence.toNat, l.value.toNat]).flatten

/-- HCOMMIT retires: ownership, head and set are checked, and the floor is disarmed (R246, R269, R270, R312). -/
def State.retireHcommit (r rd h : Nat) (floor : Option Nat) (s : State) : State :=
  let s := s.setRckH r { s.rckH r with floor := none, wait := .none }
  let (s, status) :=
    if 31 < h then (s, stInvalid)
    else if !s.ownsHead r h then (s.bump (RCK_CNT_COUNT r 2), stDenied)
    else
      let words := s.stagedWords h
      let (s, status) := s.headCommit h (max (s.rckH r).p (floor.getD 0))
      (if status = stDone then s.effect r 7 words else s, status)
  ((s.giveStatus r rd status).goto r (s.pc r + 1)).boundary r

/-- HCOMMIT at retire: it waits for a floor plan that is disabled (R246). -/
def State.hcommit (r rd h : Nat) (s : State) : State :=
  match s.floorInstant r with
  | none => s.startWait r (.retire rd [h])
  | some fl => s.retireHcommit r rd h fl

/-- HCOMMIT: commit the staged set of a head (R269, R312). -/
def execHcommit (r : Fin 16) (s : State) : Host.Outcome State Fault Refusal :=
  .next (s.issue r 0x36 fun i s =>
    (s.advance r 8).hcommit r i.rd (if i.flag then i.immediate else (s.greg r i.ra).toNat))

/-- OPERATION_WAIT_DONE: the oldest pending operation has wholly landed, or the floor's plan runs again; P becomes that instant and
the operation that waits at retire goes on (R246, R263). -/
def execOperationWaitDone (r : Fin 16) (s : State) : Host.Outcome State Fault Refusal :=
  .next (
    let h := s.rckH r
    match h.wait with
    | .retire rd entries =>
      let blocked := s.rd (RCK_STATUS_STATE r) == 3
      if blocked && (h.landedAt.isNone || decide (4 ≤ h.ops.length)) then s
      else if !blocked && (s.floorInstant r).isNone then s
      else
        let t := if blocked then h.landedAt.getD 0
          else match h.floor with
            | some (p, _) => (s.planH p).anchorT
            | none => 0
        let s := s.setP r t
        let op := rckOp (s.fetchWord r)
        if op = 0x36 then s.hcommit r rd (entries.headD 0)
        else if op = 0x32 ∧ entries = [] then s.commitEmpty r rd
        else s.operate r rd entries
    | _ => s)

/-! ## Ledger marks -/

/-- LMARK_MARK: mode 0 appends a mark with ra, the racker and P (R317). -/
def execLmarkMark (r : Fin 16) (s : State) : Host.Outcome State Fault Refusal :=
  .next (s.issue r 0x37 fun i s =>
    if i.immediate ≠ 0 then s
    else
      let s := s.advance r 4
      let p := s.ptPos r 0
      let v := (s.greg r i.ra).toNat
      let (s, status) := s.addMark v r p.frame p.line
      (((s.effect r 5 [v, wrap32 p.frame, p.line]).giveStatus r i.rd status).goto r (s.pc r + 1)).boundary r)

/-- LMARK_EPOCH: mode 1 requests an epoch at the first PLAN0 frame boundary after P at retire; other modes are ILLEGAL (R317). -/
def execLmarkEpoch (r : Fin 16) (s : State) : Host.Outcome State Fault Refusal :=
  .next (s.issue r 0x37 fun i s =>
    if i.immediate = 0 then s
    else if i.immediate ≠ 1 then s.trap r 1 0
    else
      let s := s.advance r 4
      let f := (s.ptPos r 0).frame + 1
      let s := (s.requestEpoch f).effect r 6 [wrap32 f]
      ((s.setGreg r i.rd (BitVec.ofNat 32 f)).goto r (s.pc r + 1)).boundary r)

/-! ## Leases -/

/-- LEASE: take or renew a lease; ids 96 to 223 wait for the conductor's answer (R272, R275, R315). -/
def execLease (r : Fin 16) (s : State) : Host.Outcome State Fault Refusal :=
  .next (s.issue r 0x38 fun i s =>
    let id := (s.greg r i.ra).toNat
    let n := (s.greg r i.rb).toNat
    if 224 ≤ id ∨ n = 0 ∨ 65535 < n then (s.giveStatus r i.rd stInvalid).retire r 6
    else if id < 96 then
      let (s, status) := s.leaseRequest r id n (s.rd (RCK_CFG_PRIO r))
      ((s.effect r 2 [id, n]).giveStatus r i.rd status).retire r 6
    else
      (s.startWait r (.lease i.rd id n s.frame0)).requestFabLease id n (s.rd (RCK_CFG_PRIO r)) r false)

/-- FREE of a fabric lease by its holder: it is released at once and the conductor is told (R274, R566). -/
def State.freeFabric (holder id prio : Nat) (s : State) : State × Nat :=
  let s := s.expireLease id
  if s.on (RCK_LEASE_H_HELD id) && s.rd (RCK_LEASE_H_HOLDER id) == holder then
    let s := s.requestFabLease id 0 prio holder true
    (if s.on (RCK_LEASE_H_HELD id) then s.endLease id .delivered else s, stDone)
  else (s, stDenied)

/-- FREE: release a lease (R274, R315). -/
def execFree (r : Fin 16) (s : State) : Host.Outcome State Fault Refusal :=
  .next (s.issue r 0x39 fun i s =>
    let id := (s.greg r i.ra).toNat
    let (s, status) :=
      if 224 ≤ id then (s, stInvalid)
      else if id < 96 then s.freeLocal r id
      else s.freeFabric r id (s.rd (RCK_CFG_PRIO r))
    ((s.effect r 3 [id]).giveStatus r i.rd status).retire r 6)

/-- A write of RCK_LEASE_REQ by the host (16) or the management controller (17) (R272 to R275, Table 07-9). -/
def State.hostLease (holder v : Nat) (s : State) : State :=
  let id := v % 256
  let n := v / 2 ^ 8 % 2 ^ 16
  let prio := if holder = holderMgt then 7 else v / 2 ^ 24 % 8
  if bit v 27 then
    let (s, status) :=
      if 224 ≤ id then (s, stInvalid) else if id < 96 then s.freeLocal holder id else s.freeFabric holder id prio
    s.wr RCK_LEASE_RES_STATUS status
  else if 224 ≤ id ∨ n = 0 then s.wr RCK_LEASE_RES_STATUS stInvalid
  else if id < 96 then
    let (s, status) := s.leaseRequest holder id n prio
    s.wr RCK_LEASE_RES_STATUS status
  else
    let s := { s with fab := { s.fab with host := some (id, n, s.frame0) } }
    (s.wr RCK_LEASE_RES_PEND 1).requestFabLease id n prio holder false

/-- LEASE_TIMEOUT: no answer of the conductor within 3 PLAN0 frames: BUSY, and P is the instant of the timeout (R275). `who` is a
racker, or 16 for a request through RCK_LEASE_REQ. -/
def execLeaseTimeout (who : Fin 17) (s : State) : Host.Outcome State Fault Refusal :=
  .next (
    if who.val = 16 then
      match s.fab.host with
      | some (_, _, f) =>
        if f + 3 ≤ s.frame0 then
          let s := { s with fab := { s.fab with host := none } }
          (s.wr RCK_LEASE_RES_PEND 0).wr RCK_LEASE_RES_STATUS stBusy
        else s
      | none => s
    else
      match (s.rckH who).wait with
      | .lease rd _ _ f =>
        if f + 3 ≤ s.frame0 then (s.giveStatus who rd stBusy).resumeAt who ((s.planH 0).frameStart (f + 3)) else s
      | _ => s)

/-! ## RING and POST -/

/-- The channel that racker `r` posts on for a receiver code (Table 08-8, Table 15-7); none where the code is INVALID (R313). -/
def State.postChannel (s : State) (r code : Nat) : Option Nat :=
  let recv := code % 32
  let dev := code / 2 ^ 8 % 32
  if 2 ^ 16 ≤ code ∨ code / 2 ^ 5 % 8 ≠ 0 ∨ code / 2 ^ 13 % 4 ≠ 0 then none
  else if bit code 15 then (if 15 < recv ∨ !s.reaches dev then none else some (352 + r))
  else if recv < 16 then (if recv = r then none else some (16 * r + recv))
  else if recv = 16 then some (272 + r)
  else if recv = 17 then some (288 + r)
  else if recv = 18 then some (320 + r)
  else none

/-- A ring for the twin: sent, or held while the mirror link is down (R599). -/
def State.ringTwin (r k : Nat) (s : State) : State :=
  if s.on TWN_STATUS_LINK then s.sendMirror (mirrorUnits 4) (.mirror 7 [r + 2 ^ 8, 0, k])
  else s.setMailH r { s.mailH r with rings := (s.mailH r).rings ||| 2 ^ k }

/-- Ring bit `k` of the receiver that a channel leads to (R282, R599). -/
def State.ringChannel (r c code k : Nat) (s : State) : State :=
  if 352 ≤ c then
    if s.speaks then
      s.tell 0x0E (code / 2 ^ 8 % 32) ([code % 32, r + s.fabAddr * 2 ^ 8 + 2 ^ 15, k] ++ List.replicate 63 0)
    else s
  else if 320 ≤ c then s.ringTwin r k
  else match chanBank c with
    | some b => s.setBells b (2 ^ k)
    | none => s

/-- RING: set doorbell bit imm8[4:0] of receiver ra (R282, R313, R599). -/
def execRing (r : Fin 16) (s : State) : Host.Outcome State Fault Refusal :=
  .next (s.issue r 0x3C fun i s =>
    let code := (s.greg r i.ra).toNat
    let k := i.immediate % 32
    match s.postChannel r code with
    | none => (s.giveStatus r i.rd stInvalid).retire r 3
    | some c => (((s.ringChannel r c code k).effect r 4 [code, k]).giveStatus r i.rd stDone).retire r 3)

/-- POST: copy 256 bytes of data memory from address rb into the next slot of the channel to receiver ra; `ecc` says that the data
memory has an uncorrectable error there (R283, R290, R313, R314). -/
def execPostMsg (r : Fin 16) (ecc : Bool) (s : State) : Host.Outcome State Fault Refusal :=
  .next (s.issue r 0x3D fun i s =>
    let code := (s.greg r i.ra).toNat
    let a := (s.greg r i.rb).toNat
    if a % 4 ≠ 0 then s.trap r 6 0
    else if 0x3FFF < a + 255 then s.trap r 5 0
    else match s.postChannel r code with
      | none => (s.giveStatus r i.rd stInvalid).retire r 68
      | some c =>
        let s := s.makeRoom c
        if !s.chanOpen c then (s.giveStatus r i.rd stBusy).retire r 68
        else if ecc then s.trap r 3 0
        else
          let words := (rangeFrom (a / 4) 64).map fun k => (s.word (RCK_DM r k)).toNat
          let s := s.sendSlot c code words
          let s := if c < 320 then s.effect r 8 (c :: words) else s
          (s.giveStatus r i.rd stDone).retire r 68)

end Sys2Proof.Machine
end

