-- ==== Sys2Proof/Machine/Engine.lean ====
section
/-! DEFINITION. The audio engine's tick, output frames, and complete input frames with the records of the sources that this device feeds
into trunks (R325, R370 to R410, R442, R516, R569, R570). -/

namespace Sys2Proof.Machine

/-! ## Video frames -/

/-- Rectangle digest of the rectangles in force (Table 14-5). -/
def State.rectDigest (s : State) : Nat :=
  Config.rectDigest (((rangeFrom 0 8).map fun f => ((rangeFrom 0 4).map fun k =>
    [(s.rectWord (PRF_RPOS f k)).toNat, (s.rectWord (PRF_RSIZE f k)).toNat]).flatten).flatten)

/-- Reservation, channel in the run, and receiving device of a feed at a trunk quarter-slot id. -/
def State.feedTarget (s : State) (d : Nat) : Option (Nat × Nat × Nat) :=
  (s.fab.runs.find? fun e => e.2.inn == linkLocal && decide (128 * e.2.out + 4 * e.2.outSlot ≤ d)
      && decide (d < 128 * e.2.out + 4 * (e.2.outSlot + e.2.slots))).bind fun e =>
    let path := (splitPaths ((pairGet s.fab.paths e.1).getD [])).find? fun p => match p.head? with
      | some h => h.src == s.fabAddr && h.out == e.2.out && h.slot == e.2.outSlot
      | none => false
    (path.bind fun p => p.getLast?).map fun h => (e.1, d - (128 * e.2.out + 4 * e.2.outSlot), h.dst)

/-- The record of a source's newest frame is sent to the devices that it is fed to (R569). -/
def State.sendRecords (src : Nat) (s : State) : State :=
  match (s.recsOf src).head? with
  | none => s
  | some c =>
    s.forL (s.fab.feeds.filter fun e => e.2.1 == src) fun e s =>
      match s.feedTarget e.1 with
      | some (_, ch, dst) =>
        s.tell 0x0C dst ([ch, c.tag, c.rgen, s.rectDigest] ++ (rangeFrom 0 4).map (fun k => c.crc.getD k 0) ++ [c.valid, c.damaged])
      | none => s

/-- INPUT_FRAME_COMPLETE: the newest frame of an input, or of a head return (source 4608 + 4h), is complete (R503, R507, R516, R569). -/
def execInputFrameComplete (i : Fin 4736) (s : State) : Host.Outcome State Fault Refusal :=
  .next ((s.inputFrameComplete i).sendRecords i)

/-- OUTPUT_FRAME_START: the next frame of an output begins (R325, R339, R340, R351 to R357, R517). -/
def execOutputFrameStart (d : Fin 4608) (s : State) : Host.Outcome State Fault Refusal := .next (s.startFrame d)

/-! ## Source side of a tick -/

/-- Read an elastic store once, with its thresholds: below `lo` the last frame again, above `hi` the oldest is dropped first; a store
starts once it holds `start` frames (R378, R570). Answers the frame read; `book` says that its samples are counted. -/
def State.readElastic (k lo hi start : Nat) (book : Bool) (s : State) : State × List (Nat × Nat) :=
  let h := s.elastic k
  let go := h.started || decide (start ≤ h.frames.length)
  if !go then (s, [])
  else
    let h := { h with started := true }
    if h.frames.length < lo then
      let s := s.setElastic k h
      let s := if book then s.forL h.last fun e s => s.bookCopy 5 (e.1 / 16) 1 else s
      ((s.bump (AUD_CNT_COUNT 0)).raise AUD_EVENT_SRC_SLIP, h.last)
    else
      let old := if hi < h.frames.length then h.frames.take 1 else []
      let frames := h.frames.drop old.length
      let f := frames.headD []
      let s := s.setElastic k { h with frames := frames.drop 1, last := f }
      if old.isEmpty then (s, f)
      else
        let s := if book then s.forL old.flatten fun e s => s.bookOut 5 (e.1 / 16) .dropped 1 else s
        ((s.bump (AUD_CNT_COUNT 1)).raise AUD_EVENT_SRC_SLIP, f)

/-- The sample frame of a playing context whose deadline is the latest at or before now (R442): the frames that were due and are
dropped, the one delivered, and what is left. -/
def dueFrames (now : Int) (l : List (Int × List Nat)) : List (List Nat) × Option (List Nat) × List (Int × List Nat) :=
  let due := l.takeWhile fun e => decide (e.1 ≤ now)
  match due.reverse with
  | [] => ([], none, l)
  | e :: more => ((more.reverse).map (·.2), some e.2, l.drop due.length)

/-- One tick of the channels of a type 1 receive context (R382, R442): channel and sample. -/
def State.tickContext (x : Nat) (s : State) : State × List (Nat × Sample) :=
  let base := 36864 + s.rd (PKT_RXC_BIND_BASE x)
  let count := s.rd (PKT_RXC_BIND_COUNT x)
  let h := s.rxH x
  if s.rd (PKT_RXC_CFG_TYPE x) ≠ 1 ∨ !s.on (PKT_RXC_STAT_ACTIVE x) then (s, [])
  else if !s.on (PKT_RXC_STAT_PRESENT x) || !s.carries 84 then (s, (rangeFrom base count).map fun c => (c, {}))
  else
    let (gone, f, rest) := dueFrames s.now h.play
    let n := count * gone.length
    let s := s.forL gone fun _ s => s.forL (rangeFrom base count) fun c s => s.bookThrough 5 (c / 16) .dropped 1
    let s := if n = 0 then s else (s.bump (AUD_CNT_COUNT 1)).raise AUD_EVENT_SRC_SLIP
    let sample (w : List Nat) : List (Nat × Sample) :=
      (rangeFrom 0 count).map fun j => (base + j, { word := w.getD j 0, counted := true })
    match f, h.last with
    | some w, _ =>
      let s := s.forL (rangeFrom base count) fun c s => s.bookIn 5 (c / 16) 1
      (s.setRxH x { h with play := rest, last := some w }, sample w)
    | none, some w =>
      let s := s.forL (rangeFrom base count) fun c s => s.bookCopy 5 (c / 16) 1
      ((s.bump (AUD_CNT_COUNT 0)).raise AUD_EVENT_SRC_SLIP, sample w)
    | none, none => (s, (rangeFrom base count).map fun c => (c, {}))

/-- One tick of every delay line: the samples that arrive for it; MUTE where none does (R377). -/
def State.tickLines (arrived : List (Nat × Sample)) (s : State) : State :=
  let keys := (arrived.map (·.1) ++ (s.src.map (·.1)).filter fun c => decide (c < 49152)).eraseDups
  s.forL keys fun c s => s.tickSource c ((pairGet arrived c).getD {})

/-- The word that a channel without a delay line delivers until the next tick. -/
def State.setCur (c w : Nat) (s : State) : State := s.setSrcH c { s.srcH c with cur := w }

/-- One tick of the input ports: a slave port's FIFO is read, a master port delivers what it receives; ramps apply (R403 to R408). -/
def State.tickI2sIn (master : List (Fin 8 × Nat × Nat)) (s : State) : State :=
  s.forN 8 fun k s =>
    if s.on (I2S_CFG_DIR k) || !s.on (I2S_CFG_EN k) then s
    else if !s.carries 95 then (s.setCur (49216 + 2 * k) 0).setCur (49217 + 2 * k) 0
    else
      let (s, x) : State × (Nat × Nat) :=
        if !s.on (I2S_CFG_SLAVE k) then
          match master.find? fun e => e.1.val == k with
          | some e => (s, (s.i2sWord k e.2.1, s.i2sWord k e.2.2))
          | none => (s, (0, 0))
        else if s.on (I2S_STAT_QUALIFIED k) then s.popFifo k
        else (s, (s.i2sH k).last)
      let h := s.i2sH k
      let muted := s.on (I2S_CFG_SLAVE k) && !s.on (I2S_STAT_QUALIFIED k) && h.ramp.isNone
      let (h, done) : I2sH × Bool := match h.ramp with
        | some (true, n) => ({ h with ramp := if 47 ≤ n then none else some (true, n + 1) }, decide (47 ≤ n))
        | some (false, n) => ({ h with ramp := if n ≤ 1 then none else some (false, n - 1), last := if n ≤ 1 then (0, 0) else h.last }, false)
        | none => (h, false)
      let r := if done then none else h.ramp
      let w (v : Nat) : Nat := if muted then 0 else rampWord r v
      let x := match h.ramp, (s.i2sH k).ramp with
        | none, some (false, _) => (0, 0)
        | _, _ => x
      ((((s.setI2sH k h).setCur (49216 + 2 * k) (w x.1)).setCur (49217 + 2 * k) (w x.2))).showFill k

/-- One tick of the remote groups, whose stores hold 128 sample frames (R570). -/
def State.tickRemote (s : State) : State :=
  s.forL ((s.est.map (·.1)).filter fun k => decide (8192 ≤ k)) fun k s =>
    let (s, f) := s.readElastic k 32 96 64 false
    s.forL f fun e s => if e.1 = muteChannel then s else (s.setCur e.1 e.2).takeStatus e.1 e.2

/-! ## Destination side of a tick -/

/-- Running crossfades of destinations that nothing reads go on. -/
def State.tickFades (read : List Nat) (s : State) : State :=
  s.forL (s.dst.filter fun e => e.2.fade.isSome && !read.contains e.1) fun e s =>
    s.setDstH e.1 { e.2 with fade := (s.mapWord e.1).2 }

/-- The destinations that a type 1 transmit context reads. -/
def State.txDests (s : State) (y : Nat) : List Nat := rangeFrom (36864 + s.rd (PKT_TXC_BIND_BASE y)) (s.rd (PKT_TXC_BIND_COUNT y))

/-- The destinations that the output ports copy (R409). -/
def State.portDests (s : State) : List Nat :=
  ((rangeFrom 0 8).map fun k =>
    if s.on (I2S_CFG_DIR k) && s.on (I2S_CFG_EN k) then
      [s.rd (I2S_TX_SEL_DST0 k), s.rd (I2S_TX_SEL_DST1 k)].filter fun a => decide (a < 49152)
    else []).flatten

/-- Whether some output port that copies a destination has a running clock: else the samples read for it are dropped (R405). -/
def State.portRuns (s : State) (a : Nat) : Bool :=
  (rangeFrom 0 8).any fun k =>
    s.on (I2S_CFG_DIR k) && s.on (I2S_CFG_EN k) && (s.rd (I2S_TX_SEL_DST0 k) == a || s.rd (I2S_TX_SEL_DST1 k) == a)
      && s.carries 95 && (!s.on (I2S_CFG_SLAVE k) || s.on (I2S_STAT_QUALIFIED k))

/-- Whether the lines of an output read a destination's samples (R396). -/
def State.embeds (s : State) (a : Nat) : Bool :=
  decide (a < 36864) &&
    (let o := a / 32
     let g := a % 32 / 4
     let d := 4 * o + s.rd (AUD_EMB_MAP_QUARTER o (g / 4) (g % 4))
     s.on (AUD_EMB_MAP_EN o (g / 4) (g % 4)) && (s.carriesFrames d && !s.idleAudio a))

/-- Active type 1 transmit contexts. -/
def State.txAudio (s : State) : List Nat :=
  (s.tx.map (·.1)).filter fun y => s.on (PKT_TXC_STAT_ACTIVE y) && s.rd (PKT_TXC_CFG_TYPE y) == 1

/-- One tick of the output ports: each sends or queues the samples that its destinations' readers took (R403 to R405, R409). -/
def State.tickI2sOut (s : State) : State :=
  s.forN 8 fun k s =>
    if !s.on (I2S_CFG_DIR k) || !s.on (I2S_CFG_EN k) || !s.carries 95 then s
    else
      let w (a : Nat) : Nat := if a < 49152 then (s.dstH a).last else 0
      let l := w (s.rd (I2S_TX_SEL_DST0 k))
      let r := w (s.rd (I2S_TX_SEL_DST1 k))
      if !s.on (I2S_CFG_SLAVE k) then s.emit (.i2sFrame k l r)
      else if s.on (I2S_STAT_QUALIFIED k) then
        let h := s.i2sH k
        (s.setI2sH k { h with fifo := pushFifo h.fifo (l, r) }).showFill k
      else s

/-- A tick is done: the next one falls due after 512 cycles of the audio synthesiser's 24.576 MHz, 1/48,000 s at its nominal word (R213,
R370). -/
def State.tickDone (s : State) : State :=
  let w := s.synWord 47
  let a := 125000 * nominalWord 47 + s.aud.frac
  { s with aud := { s.aud with ticks := s.aud.ticks + 1, next := s.aud.next + a / w, frac := a % w } }

/-- ENGINE_TICK: the engine takes one sample of every channel when its tick is due (R370, R371, R377 to R382, R388, R396 to R410, R442, R570).
`master` holds the words of master-mode input ports. -/
def execEngineTick (master : List (Fin 8 × Nat × Nat)) (s : State) : Host.Outcome State Fault Refusal :=
  .next (
    if s.aud.tickAt.isNone || decide (s.now < s.aud.next) then s
    else if !s.carries 83 then s.tickDone
    else
      let s := s.forN 64 fun n s => if (s.genH n).restart then s.setGenH n {} else s
      let (s, embedded) := foldOver (((s.est.map (·.1)).filter fun k => decide (k < 4608))) (fun k (x : State × List (Nat × Nat)) =>
        let (s, f) := x.1.readElastic k 16 48 32 true
        (s, x.2 ++ f)) (s, ([] : List (Nat × Nat)))
      let s := s.forL embedded fun e s => s.takeStatus e.1 e.2
      let bad := (embedded.map (·.1)).filter s.rateUnsup
      let s := s.forL embedded fun e s => if bad.contains e.1 then s.bookOut 5 (e.1 / 16) .dropped 1 else s
      let s := s.forL ((indicesWhere 36864 fun c => s.on (AUD_SRC_STAT_UNSUP c)).filter fun c => !s.rateUnsup c) fun c s =>
        s.wr (AUD_SRC_STAT_UNSUP c) 0
      let s := s.forL (bad.filter fun c => !s.on (AUD_SRC_STAT_UNSUP c)) fun c s => (s.wr (AUD_SRC_STAT_UNSUP c) 1).raise AUD_EVENT_UNSUP
      let samples := (embedded.filter fun e => !bad.contains e.1).map fun e => (e.1, ({ word := e.2, counted := true } : Sample))
      let (s, packets) := foldOver (s.rx.map (·.1)) (fun x (a : State × List (Nat × Sample)) =>
        let (s, l) := a.1.tickContext x
        (s, a.2 ++ l)) (s, ([] : List (Nat × Sample)))
      let s := ((s.tickLines (samples ++ packets)).tickI2sIn master).tickRemote
      let contexts := s.txAudio
      let sent := (contexts.map fun y => s.txDests y).flatten
      let fed := ((s.dst.filter fun e => e.2.store.isSome).map (·.1) ++ sent ++ s.portDests).eraseDups
      let s := s.tickFades fed
      let s := s.forL fed fun a s => s.feedDest a
      let s := s.forL (s.idleDests ++ (sent ++ s.portDests).filter fun a => !s.embeds a).eraseDups fun a s =>
        (s.readDest a 1 (s.idleAudio a || (!sent.contains a && !s.portRuns a))).1
      let s := s.forL contexts fun y s =>
        s.setTxH y { s.txH y with buf := (s.txH y).buf ++ [(s.now, (s.txDests y).map fun a => (s.dstH a).last)] }
      let s := s.tickI2sOut
      let s := s.forN 64 fun n s => s.setGenH n { s.genH n with ticks := (s.genH n).ticks + 1 }
      s.tickDone)

end Sys2Proof.Machine
end

