-- ==== Sys2Proof/Machine/LogOps.lean ====
section
/-! DEFINITION. The event log on its way to NOR, and the PCIe functions' resets (R576, R583, R618 to R622, R680). -/

namespace Sys2Proof.Machine

/-! ## Bytes -/

/-- The little-endian number in `n` bytes from position `i` of a list. -/
def leAt (l : List Nat) (i n : Nat) : Nat := ((l.drop i).take n).foldr (fun b a => a * 256 + b % 256) 0

/-- The `n` little-endian bytes of a number. -/
def leBytes : Nat → Nat → List Nat
  | 0, _ => []
  | n + 1, v => v % 256 :: leBytes n (v / 256)

/-! ## The event log -/

/-- Records of the log region: 55.875 MiB (Table 15-2), and records of one sector, which is erased when the region is full. -/
abbrev logRegion : Nat := 1830912
abbrev logSector : Nat := 2048

/-- A record is completed with SEQ, SEVERITY, ORIGIN and BOOT and reaches NOR; a full region first loses its oldest sector
(R583, Table 15-5). -/
def State.norRecord (origin : Nat) (r : LogRec) (s : State) : State :=
  let seq := s.rd MGT_LOG_SEQ_SEQ
  let e : NorRec := { seq := seq, rec_ := r, severity := Config.severity r.event r.block % 4, origin := origin, boot := s.rd MGT_STATUS_BOOT }
  let log := if logRegion ≤ s.nor.log.length then s.nor.log.drop logSector else s.nor.log
  { s with nor := { s.nor with log := log ++ [e] } }.wr MGT_LOG_SEQ_SEQ (wrap32 (seq + 1))

/-- Every captured record reaches NOR, oldest first. -/
def State.flushLog (s : State) : State := { s with log := [] }.forL s.log fun r s => s.norRecord 0 r

/-! ## PCIe functions -/

/-- The party of function `f`. -/
def functionParty (f : Nat) : Party := if f = 0 then .host else .secure

/-- Whether a function exists: function 1 only with the OTP bit SEC_EN (R620). -/
def State.hasFunction (s : State) (f : Nat) : Bool := f == 0 || s.on PCI_STATUS_F1_EN

/-- Entries of a store by function: keys 2ᵏ × function + offset. -/
def dropFunction {α : Type} (span f : Nat) (l : List (Nat × α)) : List (Nat × α) := l.filter fun e => e.1 / span != f

/-- A reset of function `f`: its outstanding requests are discarded, its locks released, its MSI-X state reset and its host party
reset; it is in D0 again (R622, R646, Table 15-8). -/
def State.functionReset (f : Nat) (s : State) : State :=
  if !s.hasFunction f then s
  else
    let s := s.releaseLocks (1 + f)
    let s := { s with
      pci := { s.pci with masked := dropFunction 64 f s.pci.masked, pend := dropFunction 64 f s.pci.pend,
                          table := dropFunction 0x1000 f s.pci.table, d3 := listSet s.pci.d3 f false },
      twn := { s.twn with stalled := s.twn.stalled.filter fun e => e.master != 1 + f } }
    ((s.wr (MTX_MCFG_OUT (1 + f)) 0).wr ⟨PCI_STATUS, 9 + f, 1⟩ 0).resetParty (functionParty f)

/-- The PCIe logic resets: the link is lost and both functions are reset (R621, R622, R680). -/
def State.pcieDown (s : State) : State :=
  let up := s.on PCI_STATUS_LINK_UP
  let s := ((s.wr PCI_STATUS_LINK_UP 0).wr PCI_STATUS_SPEED 0).wr PCI_STATUS_WIDTH 0
  let s := { s with pci := { s.pci with ready := false } }
  let s := (s.functionReset 0).functionReset 1
  if up then s.raise PCI_EVENT_LINK_DOWN else s

/-- PERST: PCIE_PERST_N is asserted (R621, R622). -/
def execPerst (s : State) : Host.Outcome State Fault Refusal := .next ((s.raise PCI_EVENT_PERST).pcieDown)

/-- ENDPOINT_READY: the endpoint answers configuration requests, its link trained to a speed code and a width (R618, R621). -/
def execEndpointReady (speed : Fin 6) (width : Fin 9) (s : State) : Host.Outcome State Fault Refusal :=
  .next (
    if s.domReady 94 && !s.pci.ready && speed.val != 0 && [1, 2, 4, 8].contains width.val then
      let s := { s with pci := { s.pci with ready := true } }
      ((s.wr PCI_STATUS_LINK_UP 1).wr PCI_STATUS_SPEED speed).wr PCI_STATUS_WIDTH width
    else s)

/-- LINK_DOWN: the PCIe link is lost (R622). -/
def execLinkDown (s : State) : Host.Outcome State Fault Refusal := .next (if s.on PCI_STATUS_LINK_UP then s.pcieDown else s)

/-- FUNCTION_LEVEL_RESET of a function (R622). -/
def execFunctionLevelReset (f : Fin 2) (s : State) : Host.Outcome State Fault Refusal :=
  .next (if s.hasFunction f then (s.functionReset f).raise ⟨PCI_EVENT, 1 + f, 1⟩ else s)

/-- D3HOT_ENTRY: from now on the function's MSI-X messages are held pending (R622). -/
def execD3hotEntry (f : Fin 2) (s : State) : Host.Outcome State Fault Refusal :=
  .next (if s.hasFunction f then
    { s with pci := { s.pci with d3 := listSet s.pci.d3 f true } }.wr ⟨PCI_STATUS, 9 + f, 1⟩ 1
  else s)

/-- Send the pending messages of a function's vectors that are not masked (R628). -/
def State.sendPending (f : Nat) (s : State) : State :=
  if s.pci.d3.getD f false then s
  else s.forN 64 fun v s =>
    let k := f * 64 + v
    if storeGet (fun _ => false) s.pci.pend k && !storeGet (fun _ => true) s.pci.masked k then
      { s with pci := { s.pci with pend := storeSet (fun _ => false) s.pci.pend k false } }.emit (.msix f v)
    else s

/-- D3HOT_EXIT: the function is in D0 and sends what it held (R622). -/
def execD3hotExit (f : Fin 2) (s : State) : Host.Outcome State Fault Refusal :=
  .next (if s.pci.d3.getD f false then
    ({ s with pci := { s.pci with d3 := listSet s.pci.d3 f false } }.wr ⟨PCI_STATUS, 9 + f, 1⟩ 0).sendPending f
  else s)

end Sys2Proof.Machine
end

