-- ==== Sys2Proof/Machine/Power.lean ====
section
/-! DEFINITION. The supply, device reset, switched domains, thermal shed, the power-up timeline and the modes asked for through
TOP_CTRL (R25 to R66, R614, R615, R680). -/

namespace Sys2Proof.Machine

/-! ## The boot record (R615, Table 15-14) -/

/-- The 384 bytes of bank `b`. -/
def State.bootBank (s : State) (b : Nat) : List Nat := (rangeFrom (0x200 + 384 * b) 384).map fun a => s.otpByte a

/-- Whether a bank qualifies: its mark, its version and its CRC. -/
def bankGood (l : List Nat) : Bool := l.getD 0 0 == 0x5A && l.getD 1 0 == 1 && crc32c (l.take 380) == leAt l 380 4

/-- The boot record in force: the highest-numbered bank that qualifies. -/
def State.bootRecord (s : State) : Option (List Nat) := ([3, 2, 1, 0].map s.bootBank).find? bankGood

/-- TWIN_EN of the boot record in force. -/
def State.otpTwin (s : State) : Bool := match s.bootRecord with
  | some l => bit (l.getD 2 0) 0
  | none => false

/-- Whether the boot record holds a valid boot map. -/
def State.otpMap (s : State) : Bool := match s.bootRecord with
  | some l => bit (l.getD 2 0) 1
  | none => false

/-! ## The supply and device reset -/

/-- Whether VIN lies from 11.2 V to 13.2 V. -/
def vinValid (mv : Nat) : Bool := decide (11200 ≤ mv) && decide (mv ≤ 13200)

/-- ALERT_N follows the alarms and VIN_WARN (R26, R582). -/
def State.showAlert (s : State) : State :=
  let alarm (k : Nat) : Bool := s.rd ⟨MGT_ALARM k, 0, 32⟩ &&& s.rd (MGT_AMASK_MASK k) != 0
  s.wrB PWR_STATUS_ALERT (s.on PWR_STATUS_VIN_WARN || alarm 0 || alarm 1)

/-- The release of device reset: t0 is now, the straps are sampled, and the claim follows R54 (R25, R33, R54, R560, R656). PLAN0's frames
count from 0 there (R3), and every synthesiser and logic PLL starts its band search (R236). -/
def State.release (s : State) : State :=
  let s := { s with top := { s.top with inReset := false, t0 := s.now } }
  let s := (s.wr TOP_STRAP_DEV_ADDR s.pin.devAddr).wr TOP_STRAP_TWIN_SIDE s.pin.twinSide
  let s := (s.wr FAB_STATUS_ADDR s.pin.devAddr).setPlanH 0 { s.planH 0 with anchorT := s.now, anchorF := 0, accAt := s.now }
  let s := s.forN 53 fun i s => s.setSynState i 1
  s.setClaim (!s.otpTwin || s.pin.twinSide == 0)

/-- What device reset does at the pins at once: every transmitter that runs sends LANE_OFF and idles, and the twin's pins go low
(R32, R527). -/
def State.dropLines (s : State) : State := ((s.forN 37 fun n s => s.stopTx n true).setClaim false).unfence

/-- Device reset: every transmitter that runs sends LANE_OFF and idles, and everything but PWR_RST_CAUSE, the OTP and NOR returns to
its reset state; the levels of the twin's pins stand as they are. Where VIN is valid and did not cause the reset, it is released
at once (R25, R31 to R33). -/
def State.deviceReset (cause : Nat) (s : State) : State :=
  let s := s.dropLines
  let s1 : State := { State.reset with
    pending := s.pending, now := s.now, lastRead := s.lastRead, free := s.free, out := s.out, otp := s.otp, nor := s.nor,
    pin := { s.pin with ppsOut := none, ppsIn := none, ppsBad := false }, jtag := s.jtag,
    twn := { claimLow := s.twn.claimLow }, plan := [(0, { anchorT := s.now })] }
  let s1 := (s1.wrB TWN_STATUS_FENCED (s.on TWN_STATUS_FENCED)).wrB TWN_STATUS_CLAIM_IN (s.on TWN_STATUS_CLAIM_IN)
  let s1 := s1.wr PWR_RST_CAUSE_CAUSE (if s.pin.vin < 8000 then 0 else cause)
  if cause = 1 ∨ cause = 2 ∨ !vinValid s.pin.vin then s1 else s1.release

/-- VIN as the supply monitor sees it. -/
def State.setVin (mv : Nat) (s : State) : State := { s with pin := { s.pin with vin := mv } }

/-- VIN_VALID: VIN has stayed at `mv`, from 11.2 V to 13.2 V, for 1 ms, the straps at these levels: a device in reset starts at t0
(R25, R33, R656). -/
def execVinValid (mv : Nat) (devAddr : Fin 32) (side : Fin 2) (s : State) : Host.Outcome State Fault Refusal :=
  .next (
    if !vinValid mv then s
    else
      let s := s.setVin mv
      if s.top.inReset then { s with pin := { s.pin with devAddr := devAddr, twinSide := side } }.release else s)

/-- VIN_WARN: VIN has stayed at `mv`, below the warning threshold, for 100 µs (R26). -/
def execVinWarn (mv : Nat) (s : State) : Host.Outcome State Fault Refusal :=
  .next (if s.rd PWR_VIN_THR_WARN_MV ≤ mv ∨ s.top.inReset then s else ((s.setVin mv).raise PWR_STATUS_VIN_WARN).showAlert)

/-- VIN_FAULT: VIN has stayed at `mv`, below the fault threshold or above 13.2 V, for 10 µs (R27). Below 8.0 V the retained cause is
lost and reads 0. -/
def execVinFault (mv : Nat) (s : State) : Host.Outcome State Fault Refusal :=
  .next (
    if s.top.inReset then
      let s := s.setVin mv
      if mv < 8000 then s.wr PWR_RST_CAUSE_CAUSE 0 else s
    else if 13200 < mv then (s.setVin mv).deviceReset 2
    else if mv < s.rd PWR_VIN_THR_FAULT_MV then (s.setVin mv).deviceReset 1
    else s)

/-- A write of TOP_RESET: the key resets the device with cause 3; other values are ignored. -/
def State.resetKey (v : Nat) (s : State) : State := if v % 2 ^ 16 = 0xD1CE then s.deviceReset 3 else s

/-- ALWAYS_ON_REGULATOR_FAULT: a regulator fault on an always-on rail (R31). -/
def execAlwaysOnRegulatorFault (s : State) : Host.Outcome State Fault Refusal := .next (if s.top.inReset then s else s.deviceReset 4)

/-- A write of PWR_VIN_THR: the fault threshold is clamped first, then the warning threshold (R28). -/
def State.vinThrWrite (v : Nat) (s : State) : State :=
  let fault := clampNat 10500 11000 (v / 2 ^ 16 % 2 ^ 16)
  let warn := clampNat (fault + 100) 11800 (v % 2 ^ 16)
  (s.wr PWR_VIN_THR_FAULT_MV fault).wr PWR_VIN_THR_WARN_MV warn

/-! ## Switched domains -/

/-- Whether PWR_DOM_REQ requests domain `i`. -/
def State.domReq (s : State) (i : Nat) : Bool := bit (s.rd (PWR_DOM_REQ_REQ (i / 32))) (i % 32)

/-- Whether the shed level holds domain `i` off (Table 02-3). -/
def State.shedHolds (s : State) (i : Nat) : Bool :=
  let l := s.rd TOP_MODE_SHED
  if 51 ≤ i ∧ i ≤ 82 then decide (2 ≤ l) || (l == 1 && bit (s.rd PWR_SHED_MASK_HEAD) (i - 51))
  else decide (i < 36) && l == 3 && bit s.top.shedPairs i

/-- Whether domain `i` is effectively requested (R36, R39). -/
def State.effReq (s : State) (i : Nat) : Bool :=
  s.domReq i && !bit s.top.forcedOff i && !s.shedHolds i
    && (!(decide (51 ≤ i) && decide (i ≤ 82)) || (s.domReady 37 && s.domReady 38 && s.domReady 39 && s.domReady 40))

/-- The cellar stops serving reads and writes: what its stacks hold of every input is lost, and the outputs that a cellar read feeds
lose their source (R23, R233). DESIGN CHOICE: admitted charges stay admitted. -/
def State.cellarOff (s : State) : State :=
  let s := s.forL s.ins fun e s => s.setInH e.1 { s.inH e.1 with cellarFrom := (s.inH e.1).frames, skim := [], copy := [] }
  s.forN 4608 fun d s => if s.on (XPT_MAP_RD_VALID d) && s.on (XPT_MAP_RD_CELLAR d) then s.loseSource d else s

/-- What becomes of the block of a domain that stops being ready: it carries no signal, and what is resident in its units is
dropped (R23, R38, R518). -/
def State.blockOff (i : Nat) (s : State) : State :=
  if i ≤ 36 then s.trellisOff i true
  else if i ≤ 40 then ((s.cellarOff).wr (MGT_SENS_VALID (i - 5)) 0).setSensH (i - 5) {}
  else if i ≤ 44 then
    s.forL (rangeFrom (1152 * (i - 41)) 1152) fun d s => s.cutOutput d
  else if i ≤ 50 then s.forL (rangeFrom (6 * (i - 45)) 6) fun n s => s.inputsAbsent n
  else if i ≤ 82 then s.headOff (i - 51)
  else if i = 83 then
    let s := s.forL s.est fun e s => s.dropElastic e.1
    s.forL s.dst fun e s => (s.setDstH e.1 { e.2 with store := none, last := 0 }).dropResident 6 (e.1 / 16)
  else if i = 84 then s.forL (s.src.filter fun e => decide (e.1 < 49152)) fun e s => s.bypassDelay e.1
  else if i ≤ 88 then
    let s := s.engineOff (i - 85)
    s.forL (rangeFrom (9 * (i - 85)) 9) fun n s => s.ptpCheck n
  else if i ≤ 92 then
    s.forL (rangeFrom (4 * (i - 89)) 4) fun r s => ((s.haltRacker r).resetParty (.racker r)).releaseLocks (3 + r)
  else if i = 94 then s.pcieDown
  else if i = 95 then s.forN 8 fun k s => if s.on (I2S_CFG_EN k) && s.on (I2S_CFG_SLAVE k) && s.on (I2S_STAT_QUALIFIED k) then s.i2sLost k else s
  else s

/-- The domains that logic PLL `k` feeds move to the safe clock: those of the core PLL carry no signal from there on, so that its inputs
become absent and the output frames in progress are dropped; and the cellar serves no reads and writes (R230, R231, R233). -/
def State.toSafeClock (k : Nat) (s : State) : State :=
  let f : Field := ⟨SYN_STATUS, k, 1⟩
  if s.on f then s
  else
    let s := s.wr f 1
    if k = 0 then
      let s := s.forL (rangeFrom 0 36) fun n s => s.inputsAbsent n
      s.forL s.outs fun e s => s.cutOutput e.1
    else if k = 2 then s.cellarOff
    else s

/-- A logic PLL relocks at its word, its domains on the safe clock (R230, R231). -/
def State.relockLogic (k : Nat) (s : State) : State := (s.toSafeClock k).relock (48 + k) (s.synWord (48 + k))

/-- LOGIC_PLL_UNLOCK: the domains of a logic PLL move to the safe clock while it relocks (R231, R233). -/
def execLogicPllUnlock (k : Fin 5) (s : State) : Host.Outcome State Fault Refusal :=
  .next (if s.rd (SYN_PLL_STAT_STATE (48 + k)) < 3 then s else (s.toSafeClock k).synUnlock (48 + k))

/-- SAFE_CLOCK_RETURN: a logic PLL that has held lock for 64 µs takes its domains back (R231). -/
def execSafeClockReturn (k : Fin 5) (s : State) : Host.Outcome State Fault Refusal :=
  .next (
    let s := s.settle (48 + k)
    let f : Field := ⟨SYN_STATUS, k, 1⟩
    if s.on f ∧ s.rd (SYN_PLL_STAT_STATE (48 + k)) = 4 then s.wr f 0 else s)

/-- RELOCK of SYN_PLL_CTRL: a logic PLL puts its domains on the safe clock and relocks; a pool synthesiser relocks; it is
ignored for the others (R231). -/
def State.synRelock (i : Nat) (s : State) : State :=
  if 48 ≤ i ∧ i ≤ 52 then s.relockLogic (i - 48)
  else if 37 ≤ i ∧ i ≤ 46 ∧ s.rd (SYN_PLL_STAT_USER i) = 0xFF then s.relock i (((s.synH i).target).getD (s.synWord i))
  else s

/-- A write of SYN_PLL_CTRL: the flush applies first (R223). -/
def State.synCtrlWrite (i v : Nat) (s : State) : State :=
  (s.when (bit v 0) fun s => s.synFlush i).when (bit v 1) fun s => s.synRelock i

/-- What the block of a domain that becomes ready does at once. -/
def State.blockOn (i : Nat) (s : State) : State :=
  if i ≤ 36 then s.trellisOn i
  else if 51 ≤ i ∧ i ≤ 82 then s.headReady (i - 51)
  else if i = 84 then s.forL (s.src.filter fun e => decide (e.1 < 49152)) fun e s => s.bypassDelay e.1
  else if 85 ≤ i ∧ i ≤ 88 then s.forL (rangeFrom (9 * (i - 85)) 9) fun n s => s.ptpCheck n
  else s

/-- A domain stops being ready. -/
def State.domainOff (i : Nat) (s : State) : State := if s.domReady i then (s.setReady i false).blockOff i else s

/-- The logic PLL of a domain that is powered up relocks. DESIGN CHOICE: of R230's 'at power-up of the domains they feed', the model takes
the power-up of a domain whose PLL feeds no other ready domain; a PLL that feeds domains in use keeps them on its clock. -/
def State.powerUpRelock (i : Nat) (s : State) : State :=
  if (rangeFrom 0 96).any (fun j => pllOf j == pllOf i && s.domReady j) || s.on ⟨SYN_STATUS, pllOf i, 1⟩ then s
  else s.relockLogic (pllOf i)

/-- DOMAIN_READY: an effectively requested domain is powered and ready (R36, R37). The domains wait for the OTP, and
those of the trellises and the mirror port for their lane PLLs, which must have held lock for 64 µs (Table 02-2, R235). -/
def execDomainReady (i : Fin 96) (s : State) : Host.Outcome State Fault Refusal :=
  .next (
    let s := if i.val ≤ 36 then s.settle i else s
    let clock := decide (36 < i.val) || s.rd (SYN_PLL_STAT_STATE i) == 4
    if bit s.top.reached (if i.val ≤ 36 then 2 else 1) && clock && s.effReq i && !s.domReady i then
      ((s.powerUpRelock i).setReady i true).blockOn i
    else s)

/-- The running outputs of a crosspoint group go on to the next line boundary of their plans (R38). -/
def State.finishLines (i : Nat) (s : State) : State :=
  if i < 41 ∨ 44 < i then s
  else
    s.forL (rangeFrom (1152 * (i - 41)) 1152) fun d s =>
      let g := s.planH (s.outPlan d)
      if (s.outH d).running then s.setOutH d { s.outH d with stopAt := g.lineAt (g.linesTo s.now + 1) } else s

/-- DOMAIN_STOP: a domain that is no longer effectively requested stops (R36, R38). -/
def execDomainStop (i : Fin 96) (s : State) : Host.Outcome State Fault Refusal :=
  .next (if s.effReq i then s else if s.domReady i then (s.finishLines i).domainOff i else s)

/-- REGULATOR_FAULT on the rail of a switched domain: it is powered down, and the trigger is raised (R29, R30). -/
def execRegulatorFault (i : Fin 96) (s : State) : Host.Outcome State Fault Refusal :=
  .next (
    if s.top.inReset then s
    else
      let s := { s with top := { s.top with forcedOff := s.top.forcedOff ||| 2 ^ i.val } }
      ((s.domainOff i).raise PWR_STATUS_REG_FAULT).trigger 2)

/-- Reason for which a request to power down domain `i` is refused, 0 for none (R40). -/
def State.domRefusal (s : State) (m i : Nat) : Nat :=
  if i = 93 then (if s.mode = .quiesce then 0 else 1)
  else if 89 ≤ i ∧ i ≤ 92 then
    (if (rangeFrom (4 * (i - 89)) 4).all fun r => s.rd (RCK_STATUS_STATE r) == 0 || s.rd (RCK_STATUS_STATE r) == 4 then 0 else 2)
  else if 37 ≤ i ∧ i ≤ 40 then
    (if ((rangeFrom 0 4608).any fun k => s.effMode k == 2) || (rangeFrom 51 32).any fun k => s.domReady k then 3 else 0)
  else if i = 94 then (if m = 0 then 0 else 4)
  else 0

/-- A write of PWR_DOM_REQ(k) by master `m`: each refused power-down is recorded and leaves its domain on; M0 powering down domain
94 loses the PCIe link at once (R40, R41, R680). -/
def State.domReqWrite (m k v : Nat) (s : State) : State :=
  s.forN 32 fun b s =>
    let f : Field := ⟨PWR_DOM_REQ k, b, 1⟩
    let i := 32 * k + b
    if bit v b then s.wr f 1
    else if !s.on f then s
    else
      let r := s.domRefusal m i
      if r ≠ 0 then ((s.wr PWR_DOM_ERR_DOMAIN i).wr PWR_DOM_ERR_REASON r).raise PWR_DOM_ERR_VALID
      else if i = 94 then (s.wr f 0).domainOff 94
      else s.wr f 0

/-! ## Thermal shed -/

/-- Entry threshold of a shed level in quarters of a °C. -/
def State.shedEntry (s : State) (l : Nat) : Int :=
  4 * ((match l with
    | 1 => s.rd PWR_SHED_THR_L1
    | 2 => s.rd PWR_SHED_THR_L2
    | _ => s.rd PWR_SHED_THR_L3 : Nat) : Int)

/-- The highest level whose entry threshold the hottest die sensor has reached (R42). -/
def State.shedReached (s : State) : Nat :=
  let t := s.hottestQuarters
  if s.shedEntry 3 ≤ t then 3 else if s.shedEntry 2 ≤ t then 2 else if s.shedEntry 1 ≤ t then 1 else 0

/-- Note since when the hottest die sensor has been below the fall threshold of the present level (R42). -/
def State.trackCool (s : State) : State :=
  let l := s.rd TOP_MODE_SHED
  let cool := l != 0 && decide (s.hottestQuarters < s.shedEntry l - 4 * (s.rd PWR_SHED_HYST_HYST : Int))
  { s with top := { s.top with coolSince := if cool then s.top.coolSince.orElse fun _ => some s.now else none } }

/-- Trellis pairs without a partner and without a routed quarter-slot id (R43). -/
def State.idlePairs (s : State) : Nat :=
  (rangeFrom 0 36).foldl (fun a n =>
    let routed := (rangeFrom (128 * n) 128).any (fun d => s.on (XPT_MAP_RD_VALID d))
      || (rangeFrom 0 4608).any (fun d => s.on (XPT_MAP_RD_VALID d) && s.rd (XPT_MAP_RD_SRC d) / 128 == n)
    a + (if s.on (TRL_STATUS_FCLK_PRESENT n) || routed then 0 else 2 ^ n)) 0

/-- The shed level changes: entry to level 3 fixes the set of idle pairs, skim writes stop from level 2 on and pattern generators
at level 3, and THERM_N follows level 3 (R43, Table 02-3). -/
def State.setShed (l : Nat) (s : State) : State :=
  let old := s.rd TOP_MODE_SHED
  let pairs := if l = 3 ∧ old < 3 then s.idlePairs else if l < 3 then 0 else s.top.shedPairs
  let s := { s with top := { s.top with shedPairs := pairs, coolSince := none } }
  let s := (s.wr TOP_MODE_SHED l).wrB PWR_STATUS_THERM (l == 3)
  let s := if 2 ≤ l then s.forL (s.adm.granted ++ s.adm.waiting) fun e s => if e.1.cls = 3 then s.withdrawLoad e.1 else s else s
  let s := if l = 3 ∧ old < 3 then s.forL (rangeFrom 4736 32) fun g s => s.forL (s.destsOf g) fun d s => s.loseSource d else s
  s.trackCool

/-- SHED_RISE: the hottest die sensor has reached a higher level (R42). -/
def execShedRise (s : State) : Host.Outcome State Fault Refusal :=
  .next (if s.rd TOP_MODE_SHED < s.shedReached then s.setShed s.shedReached else s)

/-- SHED_FALL: the hottest die sensor has stayed below the fall threshold for HOLD seconds (R42). -/
def execShedFall (s : State) : Host.Outcome State Fault Refusal :=
  .next (match s.top.coolSince with
    | some t =>
      if s.rd TOP_MODE_SHED ≠ 0 ∧ t + s.rd PWR_SHED_HYST_HOLD * sec ≤ s.now then s.setShed (s.rd TOP_MODE_SHED - 1) else s
    | none => s)

/-- Whether temperature sensor `i` is at or above its critical limit (R44). -/
def State.critical (s : State) (i : Nat) : Bool :=
  s.on (MGT_SENS_VALID i) && decide (4 * ((if i < 32 then s.rd PWR_SHED_THR_CRIT else 95 : Nat) : Int) ≤ s.rdInt (MGT_SENS_VALUE i))

/-- THERMAL_CRITICAL: a die or HBM sensor has been at or above its limit for 1 ms (R44). -/
def execThermalCritical (i : Fin 36) (s : State) : Host.Outcome State Fault Refusal := .next (if s.critical i then s.trigger 3 else s)

/-- A write of PWR_SHED_THR, ignored unless the values strictly increase and CRIT is at most 115 (R66). -/
def State.shedThrWrite (v : Nat) (s : State) : State :=
  let l1 := v % 2 ^ 8
  let l2 := v / 2 ^ 8 % 2 ^ 8
  let l3 := v / 2 ^ 16 % 2 ^ 8
  let c := v / 2 ^ 24 % 2 ^ 8
  if l1 < l2 ∧ l2 < l3 ∧ l3 < c ∧ c ≤ 115 then (s.setWord PWR_SHED_THR (BitVec.ofNat 32 v)).trackCool else s

/-! ## The power-up timeline (Table 02-2) -/

/-- RAILS_UP: the internal rails are up and the safe PLL is locked (R46, R207). -/
def execRailsUp (s : State) : Host.Outcome State Fault Refusal :=
  .next (if s.top.inReset ∨ bit s.top.reached 0 then s
    else { s with top := { s.top with safePllLocked := true } }.milestone 0)

/-- Trellis mode that a boot record gives trellis `n`; of more than eight trunks the eight lowest-numbered are trunks (R48, R100). -/
def bootMode (l : List Nat) (n : Nat) : Nat :=
  let m (k : Nat) : Nat := l.getD (16 + k / 4) 0 / 4 ^ (k % 4) % 4
  if m n = 3 then 0 else if m n = 2 ∧ 8 ≤ ((rangeFrom 0 n).filter fun k => m k == 2).length then 0 else m n

/-- A PLAN entry that is used and names a format and rate that go together: EN, FORMAT, RATE. -/
def bootPlan (l : List Nat) (p : Nat) : Option (Nat × Nat × Nat) :=
  let b := l.getD (88 + p) 0
  if bit b 7 && rateAllowed (b / 2 % 8) (b / 16 % 8) then some (if p = 0 then 1 else b % 2, b / 2 % 8, b / 16 % 8) else none

/-- The registers and modes that a boot record sets (Table 15-14). -/
def State.applyRecord (l : List Nat) (s : State) : State :=
  let s := ((s.wrB TOP_STRAP_TWIN_EN (bit (l.getD 2 0) 0))).wrB TOP_STRAP_BOOT_MAP (bit (l.getD 2 0) 1)
  let s := s.forN 96 fun i s =>
    if bit (l.getD (4 + i / 8) 0) (i % 8) && !(decide (41 ≤ i ∧ i ≤ 50) || decide (89 ≤ i ∧ i ≤ 94)) then
      s.wr ⟨PWR_DOM_REQ (i / 32), i % 32, 1⟩ 0
    else s
  let s := s.forN 36 fun n s =>
    let s := (s.wr (TRL_CFG_MODE n) (bootMode l n)).setTrlH n { s.trlH n with mode := bootMode l n }
    if bit (l.getD (46 + n / 8) 0) (n % 8) then
      let c := l.getD (28 + n / 2) 0 / 16 ^ (n % 2) % 16
      let s := ((s.wr (TRL_CFG_PRESET_TX n) (c % 4)).wr (TRL_CFG_PRESET_RX n) (c / 4)).wr (TRL_CFG_RX_POL n) (l.getD (52 + n) 0)
      s.setTrlH n { s.trlH n with presetTx := c % 4, presetRx := c / 4 }
    else s
  s.forN 8 fun p s => match bootPlan l p with
    | some (en, f, r) => ((s.wr (PLN_CFG_EN p) en).wr (PLN_CFG_FORMAT p) f).wr (PLN_CFG_RATE p) r
    | none => s

/-- Number of blown bits of the security counter. -/
def State.otpCounter (s : State) : Nat := (rangeFrom 0 256).foldl (fun a k => a + ofBool (bit (s.otpByte (0xC4 + k / 8)) (k % 8))) 0

/-- OTP_LOADED: every OTP reset value and the boot record in force are taken (R46, R614, R615, R620). The plan synthesisers start
on the nominal word of their plan's family (R212). -/
def execOtpLoaded (s : State) : Host.Outcome State Fault Refusal :=
  .next (
    if s.top.inReset ∨ !bit s.top.reached 0 ∨ bit s.top.reached 1 then s
    else
      let s := (s.wrB PCI_STATUS_F1_EN (bit (s.otpByte 0xC1) 1)).wr UPD_SVN_COUNTER s.otpCounter
      let s := (s.wr UPD_KEYS_PRESENT (s.otpByte 0xC0 % 16)).wr UPD_KEYS_REVOKED (s.otpByte 0xC0 / 16)
      let mac := s.otpField 0xEA 6
      let s := (s.wr (CBS_MAC_VALUE 0) (mac / 2 ^ 16)).wr (CBS_MAC_VALUE 1) (mac % 2 ^ 16)
      let s := s.forN 36 fun n s =>
        (s.wr (PTP_LAT_RX_LAT n) (s.otpField (0xF0 + 4 * n) 2)).wr (PTP_LAT_TX_LAT n) (s.otpField (0xF2 + 4 * n) 2)
      let s := match s.bootRecord with
        | some l => s.applyRecord l
        | none => s
      let s := s.forN 8 fun p s =>
        if family1001 (s.rd (PLN_CFG_FORMAT p)) (s.rd (PLN_CFG_RATE p)) then s.setSynWord (37 + p) (planNominal true) else s
      s.milestone 1)

/-- Whether a route may not name an input id: it is one of a trunk, or a gang covers it (R7, R17). -/
def State.closedSource (s : State) (src : Nat) : Bool := decide (src < 4608) && (s.trunk (src / 128) || !s.addresses src)

/-- A route of the map at t_USE (R47): pass-through of a source by its addressing id. -/
def State.bootRoute (d src : Nat) (s : State) : State :=
  let p := s.outPlan d
  let w := s.srcWidth src p
  let s := ((s.wr (XPT_MAP_RD_SRC d) src).wr (XPT_MAP_RD_VALID d) 1).wr (XPT_MAP_RD_WIDTH d) (widthCode w)
  let s := s.cover d w
  let present := s.srcPresent src
  let (al, ce) := if present then s.carriage src p else (true, false)
  let s := ((s.wrB (XPT_MAP_RD_POLICY d) (!present)).wrB (XPT_MAP_RD_ALIGNED d) al).wrB (XPT_MAP_RD_CELLAR d) ce
  s.followCode (d / 4)

/-- The boot map: the source that each listed output takes; entries of Table 15-14 that R615 ignores are left out. -/
def State.bootMap (s : State) : List (Nat × Nat) :=
  match s.bootRecord with
  | some l =>
    if bit (l.getD 2 0) 1 then
      ((rangeFrom 0 (min 64 (l.getD 3 0))).map fun e => leAt l (96 + 4 * e) 4).filterMap fun w =>
        let d := w % 2 ^ 13
        let src := w / 2 ^ 13 % 2 ^ 13
        if d < 4608 ∧ (s.trlH (d / 128)).mode ≠ 2 ∧ (src < 4608 ∨ (4736 ≤ src ∧ src < 4768)) then some (d, src) else none
    else []
  | none => []

/-- The enabled plans start, free-running, with frame 0 now (Table 02-2). -/
def State.startPlans (s : State) : State :=
  (s.forN 8 fun p s =>
    let f := s.rd (PLN_CFG_FORMAT p)
    let r := s.rd (PLN_CFG_RATE p)
    let s := s.setPlanH p { s.planH p with
      anchorT := s.now, anchorF := 0, segLen := framePeriod r, format := f, rate := r, accAt := s.now, acc := 0 }
    let s := s.startDivider (37 + p) (planDivider f r) s.now
    if s.on (PLN_CFG_EN p) then s.wr (PLN_STATUS_RUN p) 1 else s).updateFreqOnly

/-- T_USE: mode DEFAULT; the plans run, the identity map with the boot map over it is in force, and the audio engine starts its
ticks at this PLAN0 frame boundary (R46, R47, R53, R54, R371, R385). -/
def execTUse (s : State) : Host.Outcome State Fault Refusal :=
  .next (
    if s.top.inReset ∨ s.mode ≠ .startup ∨ s.top.reached % 8 ≠ 7 then s
    else
      let s := s.startPlans
      let map := s.bootMap
      let s := s.forN 4608 fun d s =>
        if (s.trlH (d / 128)).mode = 0 ∧ s.addresses d ∧ !(map.any fun e => e.1 == d) ∧ !s.on (XPT_MAP_RD_COVERED d) then s.bootRoute d d else s
      let s := s.forL map fun e s => if s.on (XPT_MAP_RD_COVERED e.1) || s.closedSource e.2 then s else s.bootRoute e.1 e.2
      let s := { s with aud := { s.aud with tickAt := some s.now, ticks := 0, next := s.now, frac := 0 } }
      let s := (((s.checkAligned).milestone 4).wr TOP_STATUS_USE 1).enterMode .default 1
      s.setClaim (!s.twinEn || !s.on TOP_STRAP_TWIN_SIDE))

/-- Whether the claim counts as held at the boundary that leaves DEFAULT: TWIN_CLAIM_IN has been low throughout the PLAN0 frame
that ends there (R528). -/
def State.claimHeld (s : State) : Bool :=
  s.top.claim && (match s.twn.claimLow with
    | some t => decide (t ≤ (s.planH 0).frameStart (s.frame0 - 1))
    | none => false)

/-- DEFAULT_LEFT: the first PLAN0 frame boundary after MGT_READY (R53, R286, R528, R529). -/
def execDefaultLeft (s : State) : Host.Outcome State Fault Refusal :=
  .next (
    if s.mode ≠ .default ∨ !s.on TOP_STATUS_MGT_READY ∨ s.frame0 ≤ s.top.mgtFrame then s
    else
      let held := s.claimHeld
      let s := if !s.twinEn then s.enterMode .solo 1
        else if held then (s.enterMode .active 1).takeToken
        else
          let s := s.enterMode .standby 1
          { s with twn := { s.twn with wants := true } }
      (s.wr TOP_STATUS_DEFAULT_SALVO_DONE 1).startAuto)

/-- CELLAR_TRAINED: cellar mode is available (R46). -/
def execCellarTrained (s : State) : Host.Outcome State Fault Refusal :=
  .next (if s.top.inReset ∨ s.on TOP_STATUS_CELLAR_READY then s else ((s.milestone 6).wr TOP_STATUS_CELLAR_READY 1).wr CLR_STATUS_READY 1)

/-- CELLAR_TRAINING_FAIL: logged, and CELLAR_READY stays 0 (R51). -/
def execCellarTrainingFail (s : State) : Host.Outcome State Fault Refusal :=
  .next (if s.top.inReset ∨ s.on TOP_STATUS_CELLAR_READY then s
    else (s.wr CLR_STATUS_TRAIN_FAIL 1).capture 0 (eventOf 8 0) 0)

/-! ## Requests through TOP_CTRL -/

/-- A request that Table 02-4 does not allow now (R55). -/
def State.reqErr (s : State) : State := s.raise TOP_STATUS_REQ_ERR

/-- Whether FREEZE is allowed now. -/
def State.mayFreeze (s : State) : Bool := s.mode == .solo || s.mode == .active || s.mode == .standby || s.mode == .isolated

/-- FREEZE takes effect: FRZ_RET records the mode, the rackers halt and what is pending is discarded (R55, R58, R289). -/
def State.freeze (s : State) : State :=
  if s.mayFreeze then
    let s := (s.wr TOP_MODE_FRZ_RET s.mode.code).enterMode .frozen 2
    s.forN 16 fun r s => s.discardAll r
  else s.reqErr

/-- THAW takes effect at a PLAN0 frame boundary: back to FRZ_RET, and the AUTOSTART rackers start (R55, R58, R286). -/
def State.thawNow (s : State) : State :=
  let s := { s with top := { s.top with thaw := none } }
  if s.mode = .frozen then (s.enterMode s.frzRet 2).startAuto else s

/-- THAW: in a twin pair at its stamp, else at the first PLAN0 frame boundary strictly after the write (R55). -/
def State.thaw (s : State) : State :=
  if s.mode ≠ .frozen then s.reqErr
  else if s.paired then s.thawNow
  else { s with top := { s.top with thaw := some s.frame0 } }

/-- THAW_APPLY: that boundary (R55, R58). -/
def execThawApply (s : State) : Host.Outcome State Fault Refusal :=
  .next (match s.top.thaw with
    | some f => if f < s.frame0 then s.thawNow else s
    | none => s)

/-- DIAG (R55, R104). -/
def State.diag (s : State) : State :=
  if s.mode = .default ∨ s.mode = .solo ∨ s.mode = .relinquished then (s.enterMode .diagnostic 2).diagStart else s.reqErr

/-- QUIESCE: mode 10 at the request (R62); a device in QUIESCE already stays as it is. -/
def State.quiesce (s : State) : State :=
  if s.mode = .startup then s.reqErr
  else if s.mode = .quiesce then s
  else
    let s := s.enterMode .quiesce 2
    { s with top := { s.top with quiesceFrame := s.frame0, b1 := none, claimSeen := none } }

/-- Whether the causes of the relinquish have cleared, and allow a REJOIN (Table 02-5). -/
def State.causesClear (s : State) : Bool :=
  let t := s.top
  !bit t.relinquishedBy 1 && !bit t.relinquishedBy 2
    && (!bit t.relinquishedBy 0 || t.escalated.all fun d => !s.on (XPT_MAP_RD_VALID d))
    && (!bit t.relinquishedBy 3 || (s.rd TOP_MODE_SHED == 0 && (rangeFrom 0 36).all fun i => !s.critical i))
    && (!bit t.relinquishedBy 4 || (rangeFrom 0 16).all fun r => !(bit t.trapped r && s.on (RCK_STATUS_TRAP r)))
    && (!bit t.relinquishedBy 5 || !t.imbalance)

/-- REJOIN: a relinquished device whose causes have cleared and whose twin is ACTIVE enters STANDBY and asks for a catch-up
(R59, R548). -/
def State.rejoin (s : State) : State :=
  if s.mode = .relinquished ∧ s.causesClear ∧ s.rd TWN_STATUS_PEER_MODE = 3 ∧ s.on TWN_STATUS_LINK then
    let s := { s with top := { s.top with relinquishedBy := 0, escalated := [], trapped := 0 },
                      twn := { s.twn with cause := 0, wants := true } }
    s.enterMode .standby 2
  else s.reqErr

/-- A write of TOP_CTRL, its requests in the order of R57. -/
def State.topControl (v : Nat) (s : State) : State :=
  let s := if bit v 3 then s.quiesce else s
  let s := if bit v 0 then s.freeze else s
  let s := if bit v 1 then s.thaw else s
  let s := if bit v 2 then s.diag else s
  if bit v 4 then s.rejoin else s

/-! ## The end of QUIESCE and the entry to ISOLATED -/

/-- QUIESCE_B1: the first PLAN0 frame boundary after the request (R62, R63). -/
def execQuiesceB1 (s : State) : Host.Outcome State Fault Refusal :=
  .next (
    if s.mode ≠ .quiesce ∨ s.top.b1.isSome ∨ s.frame0 ≤ s.top.quiesceFrame then s
    else
      let s := { s with top := { s.top with b1 := some s.frame0, heldAtB1 := s.top.claim && s.peerAble } }
      let s := s.haltAll
      let s := (if s.ldg.closedAt < s.frame0 then s.closeBooks else s).checkBooks
      (s.setClaim false).releaseToken)

/-- Whether the period of R63 has ended. -/
def State.txPeriodOver (s : State) : Bool :=
  match s.top.b1 with
  | some b =>
    if s.top.heldAtB1 then
      decide (b + 2 ≤ s.frame0) || (match s.top.claimSeen with
        | some f => decide (f < s.frame0)
        | none => false)
    else decide (b + 1 ≤ s.frame0)
  | none => false

/-- QUIESCE_TX_END: the transmitters idle, the log is flushed to NOR, every switched domain but 94 is powered down, and QUIESCED is
set (R63, R64). -/
def execQuiesceTxEnd (s : State) : Host.Outcome State Fault Refusal :=
  .next (
    if s.mode ≠ .quiesce ∨ s.top.txStopped ∨ !s.txPeriodOver then s
    else
      let s := { s with top := { s.top with txStopped := true } }
      let s := s.forN 37 fun n s => s.stopTx n true
      let s := { s with top := { s.top with forcedOff := s.top.forcedOff ||| (2 ^ 96 - 1 - 2 ^ 94) } }
      let s := s.forN 96 fun i s => if i = 94 then s else s.domainOff i
      (s.flushLog).wr TOP_STATUS_QUIESCED 1)

/-- ISOLATED_ENTRY: a member that has reached no conductor and no candidate for 3 PLAN0 frames (R58, R565). -/
def execIsolatedEntry (s : State) : Host.Outcome State Fault Refusal :=
  .next (
    match s.fab.alone with
    | some f =>
      if s.isMember ∧ (s.mode = .solo ∨ s.mode = .active ∨ s.mode = .standby) ∧ f + 3 ≤ s.frame0 then
        let s := (s.wr TOP_MODE_ISO_RET s.mode.code).enterMode .isolated 4
        s.wr TOP_MODE_ROLE 0
      else s
    | none => s)

end Sys2Proof.Machine
end

