-- ==== Sys2Proof/Machine/Mgt.lean ====
section
/-! DEFINITION. The management controller: restarts, the boot record, image verification, update states, sensors and alarms, and the
commands of Table 15-6 (R574 to R586, R606 to R617). -/

namespace Sys2Proof.Machine

/-! ## NOR -/

/-- `n` bytes of image slot `slot` from an offset; erased bytes are 0xFF. -/
def State.slotBytes (s : State) (slot a n : Nat) : List Nat :=
  (rangeFrom a n).map fun k => storeGet (fun _ => 0xFF) (if slot = 0 then s.nor.slotA else s.nor.slotB) k

/-- The bytes of an image slot become `l`. -/
def State.setSlot (slot : Nat) (l : List (Nat × Nat)) (s : State) : State :=
  { s with nor := if slot = 0 then { s.nor with slotA := l } else { s.nor with slotB := l } }

/-- Write bytes into an image slot. -/
def State.writeSlot (slot a : Nat) (bytes : List Nat) (s : State) : State :=
  s.setSlot slot (foldOver ((rangeFrom a bytes.length).zip bytes) (fun e l => storeSet (fun _ => 0xFF) l e.1 (e.2 % 256))
    (if slot = 0 then s.nor.slotA else s.nor.slotB))

/-- The boot record in force: of the copies that pass their CRC, the one of the higher generation (R576). -/
def State.bootRec (s : State) : BootRec :=
  match s.nor.boot0, s.nor.boot1 with
  | some a, some b => if a.gen < b.gen then b else a
  | some a, none => a
  | none, some b => b
  | none, none => {}

/-- Write a boot record with the next generation: the copy that is not in force first, then the other (R576). -/
def State.setBootRec (r : BootRec) (s : State) : State :=
  let r := { r with gen := s.bootRec.gen + 1 }
  { s with nor := { s.nor with boot0 := some r, boot1 := some r } }

/-! ## Image verification (R606, Table 15-10) -/

/-- The reason for which the image in a slot does not verify, 0 where it does. -/
def State.imageReason (s : State) (slot : Nat) : Nat :=
  let h := s.slotBytes slot 0 17120
  let key := h.getD 10 0
  let len := leAt h 16 4
  if h.take 9 ≠ [0x41, 0x58, 0x49, 0x4D, 1, 0, 0x52, 0x11, 0xB0] ∨ 100630528 < len then 1
  else if 3 < key ∨ !bit (s.otpByte 0xC0) key ∨ s.on ⟨UPD_KEYS, 4 + key, 1⟩
      ∨ beBytes 48 (Config.sha384 ((h.drop 68).take 436)) ≠ (rangeFrom (48 * key) 48).map (fun a => s.otpByte a) then 2
  else if !Config.rsaOk (h.take 896) then 3
  else if !Config.slhOk h then 4
  else if beBytes 48 (Config.sha384 (s.slotBytes slot 32768 len)) ≠ (h.drop 20).take 48 then 5
  else if h.getD 9 0 < s.rd UPD_SVN_COUNTER then 6 else 0

/-! ## Restarts, trial, fallback -/

/-- The controller restarts: MGT_READY clears, and for its channels it counts as a reset (R575, R646, Table 15-8). -/
def State.mgtRestart (s : State) : State :=
  let s := (s.wr MGT_STATUS_STATE 3).wr TOP_STATUS_MGT_READY 0
  let s := { s with mgt := { s.mgt with healthy := none } }
  (s.resetParty .mgt).releaseLocks 0

/-- The device falls back to the previous image and the pre-migration store (R613). -/
def State.fallBack (cause : Nat) (s : State) : State :=
  let r := s.bootRec
  let s := s.setBootRec { slot := r.previous, previous := r.previous }
  let s := { s with nor := { s.nor with store := s.nor.before } }
  let s := ((s.wr UPD_STATUS_STATE 0).wr UPD_STATUS_CRASHES 0).raiseArg UPD_EVENT_FALLBACK cause
  (s.capture 0x3A (eventOf 6 cause) cause).mgtRestart

/-- A crash of the running image: on trial the second one falls back (R613). -/
def State.mgtCrash (cause : Nat) (s : State) : State :=
  let r := s.bootRec
  if r.trial then
    if r.crashes = 0 then ((s.setBootRec { r with crashes := 1 }).wr UPD_STATUS_CRASHES 1).mgtRestart else s.fallBack cause
  else s.mgtRestart

/-- Whether the controller runs an image or recovery. -/
def State.mgtRuns (s : State) : Bool := s.rd MGT_STATUS_STATE == 1 || s.rd MGT_STATUS_STATE == 2

/-- WATCHDOG_EXPIRY: the watchdog has gone 2 s without service (R575, R613). -/
def execWatchdogExpiry (s : State) : Host.Outcome State Fault Refusal := .next (if s.mgtRuns then s.mgtCrash 1 else s)

/-- CORE_FAULT of the controller (R575, R613). -/
def execCoreFault (s : State) : Host.Outcome State Fault Refusal := .next (if s.mgtRuns then s.mgtCrash 2 else s)

/-- The health checks of R612. -/
def State.healthOk (s : State) : Bool :=
  s.mgt.migrated && !s.mgt.dropped && !s.mgt.logBad
    && (rangeFrom 36 3).all fun i => !s.on (MGT_SENS_ALM_LO i) && !s.on (MGT_SENS_ALM_HI i)

/-- Note since when the health checks of an image on trial pass (R612). -/
def State.trackHealth (s : State) : State :=
  let ok := s.rd UPD_STATUS_STATE == 5 && s.rd MGT_STATUS_STATE == 1 && s.healthOk
  { s with mgt := { s.mgt with healthy := if ok then s.mgt.healthy.orElse fun _ => some s.now else none } }

/-- Blow OTP bits, each given as 8 × byte + bit; those in `stuck` do not take. Answers whether every bit is blown (R616). -/
def State.blow (bits stuck : List Nat) (s : State) : State × Bool :=
  let s := s.forL bits fun k s =>
    if stuck.contains k || bit (s.otpByte (k / 8)) (k % 8) then s else s.setOtpByte (k / 8) (s.otpByte (k / 8) + 2 ^ (k % 8))
  (s, bits.all fun k => bit (s.otpByte (k / 8)) (k % 8))

/-- An OTP write is logged with the command code and the first byte offset (R617). -/
def State.logOtp (code offset : Nat) (s : State) : State := s.capture 0x3A (eventOf 7 code) (code + offset * 2 ^ 8)

/-- The image on trial is confirmed: counter bits are blown up to its SVN, and TRIAL ends (R611). -/
def State.confirm (s : State) : State :=
  let svn := s.rd UPD_SVN_IMAGE_SVN
  let old := s.otpCounter
  let s := if old < svn then
      (((s.blow (rangeFrom (8 * 0xC4) svn) []).1).raise UPD_EVENT_SVN_ADVANCED).logOtp 0x36 0xC4
    else s
  let r := s.bootRec
  let s := s.setBootRec { r with trial := false, crashes := 0 }
  let s := ((s.wr MGT_STATUS_TRIAL 0).wr UPD_STATUS_STATE 0).wr UPD_STATUS_CRASHES 0
  s.raise UPD_EVENT_CONFIRMED

/-- A write of UPD_CONFIRM: 0xC0DE from M0 in TRIAL confirms (R611). -/
def State.confirmKey (m v : Nat) (s : State) : State :=
  if m = 0 ∧ v % 2 ^ 16 = 0xC0DE ∧ s.rd UPD_STATUS_STATE = 5 then s.confirm else s

/-- Seconds left in the health window, as UPD_STATUS shows them. -/
def State.showWindow (s : State) : State :=
  let e := s.mgt.window + s.rd UPD_CFG_WINDOW_S * sec
  s.wr UPD_STATUS_WINDOW_LEFT (if s.rd UPD_STATUS_STATE = 5 then (e - s.now + sec - 1) / sec else 0)

/-- AUTO_CONFIRM: the health checks of the trial have held for SETTLE_S (R612). -/
def execAutoConfirm (s : State) : Host.Outcome State Fault Refusal :=
  .next (match s.mgt.healthy with
    | some t =>
      if s.rd UPD_STATUS_STATE = 5 ∧ s.on UPD_CFG_AUTO_CONFIRM ∧ t + s.rd UPD_CFG_SETTLE_S * sec ≤ s.now then s.confirm else s
    | none => s)

/-- HEALTH_WINDOW_EXPIRY: the health window ends unconfirmed (R612, R613). -/
def execHealthWindowExpiry (s : State) : Host.Outcome State Fault Refusal :=
  .next (if s.rd UPD_STATUS_STATE = 5 ∧ s.mgt.window + s.rd UPD_CFG_WINDOW_S * sec ≤ s.now then s.fallBack 3 else s)

/-! ## Sensors, alarms and the log -/

/-- Whether a sensor has a reading at all (R580): an HBM sensor needs its stack, sensor 39 a receive direction in UP. -/
def State.sensorLive (s : State) (i : Nat) : Bool :=
  if 32 ≤ i ∧ i < 36 then s.domReady (37 + (i - 32))
  else if i = 39 then (rangeFrom 0 37).any fun n => s.rxIs n 6
  else true

/-- The smallest margin over the lanes of every receive direction in UP, and where it is (Table 15-4). -/
def State.worstLane (s : State) : Nat × Nat :=
  (((rangeFrom 0 37).filter fun n => s.rxIs n 6).map fun n => (rangeFrom 0 (laneCount n)).map fun l => (s.rd (TRL_LANE_MARGIN_MARGIN n l), n * 8 + l)).flatten.foldl
    (fun b e => if e.1 < b.1 then e else b) (256, 0)

/-- SENSOR_UPDATE: sensor `i` updates with a reading, or with `none` fails its self-check; sensor 39 reads the lane margins
(R579 to R581). -/
def execSensorUpdate (i : Fin 64) (reading : Option Int) (s : State) : Host.Outcome State Fault Refusal :=
  .next (
    let s := s.when (i.val == 39) fun s =>
      s.forL (indicesWhere 37 fun n => s.rxIs n 6) fun n s => s.forN (laneCount n) fun l s => s.measureLane n l
    let live := s.sensorLive i
    let s := match reading with
      | none => s.setSensH i { failed := true }
      | some v =>
        let v : Int := if i.val = 39 then (s.worstLane.1 : Nat) else v
        let s := (s.wrInt (MGT_SENS_VALUE i) v).wr (MGT_SENS_WHERE i) (if i.val = 39 then s.worstLane.2 else 0)
        let lo := s.rdInt (MGT_THR_LO i)
        let hi := s.rdInt (MGT_THR_HI i)
        let v := s.rdInt (MGT_SENS_VALUE i)
        let h := s.sensH i
        s.setSensH i (if live then {
          low := if lo ≠ -32768 ∧ v < lo then h.low + 1 else 0,
          high := if hi ≠ 32767 ∧ hi < v then h.high + 1 else 0,
          clear := if (lo = -32768 ∨ lo + 8 ≤ v) ∧ (hi = 32767 ∨ v ≤ hi - 8) then h.clear + 1 else 0 } else {})
    (s.wrB (MGT_SENS_VALID i) (live && reading.isSome)).trackCool)

/-- An alarm rises: its bit, its sensor's bit and ALERT_N; it is logged, and the source of alarms sends its message when it
becomes asserted (R582, R583, Table 16-2). -/
def State.alarmRise (i : Nat) (f : Field) (s : State) : State :=
  if s.on f then s
  else
    let was := (s.rd ⟨MGT_ALARM 0, 0, 32⟩ &&& s.rd (MGT_AMASK_MASK 0)) ||| (s.rd ⟨MGT_ALARM 1, 0, 32⟩ &&& s.rd (MGT_AMASK_MASK 1))
    let s := (s.wr f 1).wr ⟨MGT_ALARM (i / 32), i % 32, 1⟩ 1
    let s := (s.capture 0x3A (eventOf 2 i) i).showAlert
    let on := (s.rd ⟨MGT_ALARM 0, 0, 32⟩ &&& s.rd (MGT_AMASK_MASK 0)) ||| (s.rd ⟨MGT_ALARM 1, 0, 32⟩ &&& s.rd (MGT_AMASK_MASK 1))
    (if was = 0 ∧ on ≠ 0 then s.sendMsix 34 else s).trackHealth

/-- ALARM_RAISE: 3 consecutive updates beyond a limit, or a failed self-check (R580, R581). -/
def execAlarmRaise (i : Fin 64) (s : State) : Host.Outcome State Fault Refusal :=
  .next (
    let h := s.sensH i
    if h.failed then s.alarmRise i (MGT_SENS_ALM_HI i)
    else if !s.on (MGT_SENS_VALID i) then s
    else
      let s := if 3 ≤ h.low then s.alarmRise i (MGT_SENS_ALM_LO i) else s
      if 3 ≤ h.high then s.alarmRise i (MGT_SENS_ALM_HI i) else s)

/-- ALARM_CLEAR: 3 consecutive updates well within the limits (R581, R582). MGT_ALARM keeps its bit until it is written. -/
def execAlarmClear (i : Fin 64) (s : State) : Host.Outcome State Fault Refusal :=
  .next (
    if 3 ≤ (s.sensH i).clear ∧ (s.on (MGT_SENS_ALM_LO i) ∨ s.on (MGT_SENS_ALM_HI i)) then
      let s := (s.wr (MGT_SENS_ALM_LO i) 0).wr (MGT_SENS_ALM_HI i) 0
      (s.capture 0x3A (eventOf 3 i) i).trackHealth
    else s)

/-- LOG_FLUSH: the oldest captured record reaches NOR; `error` says that NOR failed. A record later than 1 s after its event, or an
error, fails a health check of the trial (R583, R612). -/
def execLogFlush (error : Bool) (s : State) : Host.Outcome State Fault Refusal :=
  .next (
    match s.log with
    | [] => s
    | r :: l =>
      if !s.mgtRuns then s
      else
        let late := r.dtNs + 1000000000 < s.deviceNs
        let s := if late || error then ({ s with mgt := { s.mgt with logBad := true } } : State).trackHealth else s
        if error then s else ({ s with log := l } : State).norRecord 0 r)

/-! ## Commands -/

/-- Channels that bring commands, in the order in which they are served; 394 stands for the control bus (R585, Table 15-7). -/
def commandChannels : List Nat := rangeFrom 288 16 ++ [384, 386, 387, 388, 389]

/-- The command at the head: its channel, its 64 words and its sender's MAC address on the control bus. -/
def State.command (s : State) : Option (Nat × List Nat × Nat) :=
  match commandChannels.find? fun c => s.rd (MBX_CH_COUNT c) != 0 with
  | some c => some (c, s.slotWords c 0, 0)
  | none => match s.cbs.rx with
    | f :: _ => some (394, (rangeFrom 0 64).map fun k => leAt f.bytes (4 * k) 4, f.src)
    | [] => none

/-- The channel on which a command is answered. -/
def replyChannel (c : Nat) : Nat := if c < 304 then c + 16 else if c = 384 then 385 else c + 4

/-- Whether the answer of a channel has room. -/
def State.replyOpen (s : State) (c : Nat) : Bool := c == 394 || s.chanOpen (replyChannel c)

/-- Show whether the control bus MAC has a frame to send. -/
def State.showTx (s : State) : State := s.wrB CBS_STATUS_TX_BUSY (!s.cbs.tx.isEmpty)

/-- The MAC address of the control bus port. -/
def State.cbsMac (s : State) : Nat := s.rd (CBS_MAC_VALUE 0) * 2 ^ 16 + s.rd ⟨CBS_MAC 1, 0, 16⟩

/-- Answer a command of channel `c` (Table 15-6, R584, R605). -/
def State.reply (c mac code seq status : Nat) (results : List Nat) (s : State) : State :=
  let words := code :: seq :: status :: results
  if c = 394 then
    let f : CbsFrame := { dest := mac, src := s.cbsMac, etype := s.rd CBS_CFG_ETYPE,
                          bytes := (rangeFrom 0 64).flatMap fun k => leBytes 4 (words.getD k 0) }
    ({ s with cbs := { s.cbs with tx := s.cbs.tx ++ [f] } } : State).showTx
  else s.sendSlot (replyChannel c) 0 words

/-- Take the command of channel `c`. -/
def State.takeCommand (c : Nat) (s : State) : State :=
  if c = 394 then { s with cbs := { s.cbs with rx := s.cbs.rx.drop 1 } } else s.freeSlot c

/-- Whether a channel has update rights (R584). -/
def State.updateRights (s : State) (c : Nat) : Bool :=
  (decide (386 ≤ c) && decide (c < 390)) || (c == 384 && bit (s.otpByte 0xC1) 2) || (c == 394 && bit (s.otpByte 0xC1) 3)

/-- The rights that a command needs (Table 15-6): 0 any channel, 1 update rights, 2 host secure channels. -/
def commandRights (code : Nat) : Nat :=
  if [0x24, 0x30, 0x31, 0x32, 0x33, 0x34, 0x36].contains code then 1
  else if [0x26, 0x27, 0x35, 0x37].contains code then 2 else 0

/-- Codes of Table 15-6. -/
def knownCommand (code : Nat) : Bool :=
  (decide (0x20 ≤ code) && decide (code ≤ 0x27)) || (decide (0x30 ≤ code) && decide (code ≤ 0x37)) || code == 0x3F

/-- Commands that recovery accepts (R577). -/
def recoveryCommand (code : Nat) : Bool := [0x30, 0x31, 0x32, 0x33, 0x34, 0x36, 0x3F].contains code

/-- Whether the rights of channel `c` cover a command. -/
def State.allowed (s : State) (c code : Nat) : Bool :=
  (match commandRights code with
    | 0 => true
    | 1 => s.updateRights c
    | _ => decide (386 ≤ c) && decide (c < 390))
    && (s.rd MGT_STATUS_STATE == 1 || recoveryCommand code)

/-- Serve the command at the head if its code is `code`, or with `other` an unknown one: BUSY while an image is verified, DENIED
without its rights, else what `run` answers for its channel and words: a status and results (R584, R585). -/
def State.serve (code : Nat) (other : Bool) (run : Nat → List Nat → State → State × Nat × List Nat) (s : State) : State :=
  match s.command with
  | none => s
  | some (c, words, mac) =>
    let got := words.getD 0 0 % 256
    let seq := words.getD 1 0
    if !s.mgtRuns || !s.replyOpen c then s
    else if got = code then
      let s := s.takeCommand c
      if s.rd UPD_STATUS_STATE = 2 then s.reply c mac code seq stBusy []
      else if !s.allowed c code then s.reply c mac code seq stDenied []
      else
        let (s, status, results) := run c words s
        s.reply c mac code seq status results
    else if other && !knownCommand got then (s.takeCommand c).reply c mac got seq stInvalid []
    else s

/-- Status REJECTED with a reason. -/
abbrev stRejected : Nat := 4

/-- The 4-byte words of a list of bytes. -/
def bytesWords (l : List Nat) : List Nat := (rangeFrom 0 ((l.length + 3) / 4)).map fun k => leAt l (4 * k) 4

/-- The bytes of the words of a message from byte 8 on. -/
def argBytes (words : List Nat) : List Nat := (words.drop 2).flatMap fun w => leBytes 4 w

/-- SENSOR_READ (0x20): MGT_SENS words (Table 15-6). -/
def State.cmdSensorRead (_ : Nat) (w : List Nat) (s : State) : State × Nat × List Nat :=
  let i := w.getD 2 0
  let n := w.getD 3 0
  if n = 0 ∨ 60 < n ∨ 64 < i + n then (s, stInvalid, [])
  else (s, stDone, (rangeFrom i n).map fun k => (s.word (MGT_SENS k)).toNat)

def execSensorRead (s : State) : Host.Outcome State Fault Refusal := .next (s.serve 0x20 false State.cmdSensorRead)

/-- THRESH_SET (0x21): limits of a sensor. -/
def State.cmdThreshSet (_ : Nat) (w : List Nat) (s : State) : State × Nat × List Nat :=
  let i := w.getD 2 0
  if 63 < i then (s, stInvalid, [])
  else ((s.wr (MGT_THR_LO i) (w.getD 3 0)).wr (MGT_THR_HI i) (w.getD 4 0), stDone, [])

def execThreshSet (s : State) : Host.Outcome State Fault Refusal := .next (s.serve 0x21 false State.cmdThreshSet)

/-- The 32 bytes of a log record in NOR (Table 15-5). -/
def NorRec.bytes (e : NorRec) : List Nat :=
  let r := e.rec_
  let l := leBytes 4 e.seq ++ leBytes 4 r.frame ++ leBytes 2 r.line ++ leBytes 1 r.event ++ leBytes 1 r.block
    ++ leBytes 4 (r.dtNs / 1000000000) ++ leBytes 4 (r.dtNs % 1000000000) ++ leBytes 1 e.severity ++ leBytes 1 e.origin
    ++ leBytes 2 e.boot ++ leBytes 4 r.arg
  l ++ leBytes 4 (crc32c l)

/-- LOG_READ (0x22): log records from a SEQ on. -/
def State.cmdLogRead (_ : Nat) (w : List Nat) (s : State) : State × Nat × List Nat :=
  let q := w.getD 2 0
  let n := w.getD 3 0
  if n = 0 ∨ 7 < n then (s, stInvalid, [])
  else
    let l := s.nor.log.filter fun e => decide (wrap32 (e.seq + 2 ^ 32 - q) < n)
    (s, stDone, l.flatMap fun e => bytesWords e.bytes)

def execLogRead (s : State) : Host.Outcome State Fault Refusal := .next (s.serve 0x22 false State.cmdLogRead)

/-- The records of a configuration store: offset and bytes in all of each (Table 15-3). Reading ends at bytes that are no record. -/
def storeRecords : Nat → List Nat → Nat → List (Nat × Nat)
  | 0, _, _ => []
  | k + 1, l, a =>
    let len := leAt l 4 4
    if l.length < 12 + len ∨ len % 4 ≠ 0 then []
    else (a, 12 + len) :: storeRecords k (l.drop (12 + len)) (a + 12 + len)

/-- Whether the CRC of a store record passes. -/
def recordGood (l : List Nat) : Bool := crc32c (l.take (l.length - 4)) == leAt l (l.length - 4) 4

/-- The bytes of each record of a store. -/
def storeList (l : List Nat) : List (List Nat) := (storeRecords l.length l 0).map fun e => (l.drop e.1).take e.2

/-- STORE_READ (0x23): bytes of a record of the configuration store. -/
def State.cmdStoreRead (_ : Nat) (w : List Nat) (s : State) : State × Nat × List Nat :=
  match (storeList s.nor.store)[w.getD 2 0]? with
  | some r => if r.length ≤ w.getD 3 0 then (s, stInvalid, []) else (s, stDone, bytesWords ((r.drop (w.getD 3 0)).take 224))
  | none => (s, stInvalid, [])

def execStoreRead (s : State) : Host.Outcome State Fault Refusal := .next (s.serve 0x23 false State.cmdStoreRead)

/-- STORE_LOAD (0x24): a complete store, pulled by the DMA engine as `bytes`, replaces the store if every record passes; `fail`: the
function's bus master enable is 0, or NOR fails (R586, R606, R647). -/
def State.cmdStoreLoad (bytes : List Nat) (fail : Bool) (_ : Nat) (w : List Nat) (s : State) : State × Nat × List Nat :=
  let n := w.getD 4 0
  let l := (bytes.take n).map (· % 256)
  if 4 * 2 ^ 20 < n then (s, stInvalid, [])
  else if fail then (s, stRejected, [8])
  else
    let rs := storeList l
    if l.length = n ∧ (rs.map List.length).foldl (· + ·) 0 = n ∧ rs.all recordGood then
      ({ s with nor := { s.nor with before := s.nor.store, store := l } }, stDone, [])
    else (s, stRejected, [5])

def execStoreLoad (bytes : List Nat) (fail : Bool) (s : State) : Host.Outcome State Fault Refusal :=
  .next (s.serve 0x24 false (State.cmdStoreLoad bytes fail))

/-- OTP_READ (0x25): bytes of the OTP. -/
def State.cmdOtpRead (_ : Nat) (w : List Nat) (s : State) : State × Nat × List Nat :=
  let a := w.getD 2 0
  let n := w.getD 3 0
  if n = 0 ∨ 224 < n ∨ 2048 < a + n then (s, stInvalid, [])
  else (s, stDone, bytesWords ((rangeFrom a n).map fun k => s.otpByte k))

def execOtpRead (s : State) : Host.Outcome State Fault Refusal := .next (s.serve 0x25 false State.cmdOtpRead)

/-- The OTP bits, as 8 × byte + bit, that bytes at an offset hold. -/
def otpBits (a : Nat) (bytes : List Nat) : List Nat :=
  ((rangeFrom a bytes.length).zip bytes).flatMap fun e => ((rangeFrom 0 8).filter fun k => bit e.2 k).map (8 * e.1 + ·)

/-- Status of an OTP write whose bits were blown, and its record (R616, R617). -/
def State.otpDone (code a : Nat) (bits stuck : List Nat) (s : State) : State × Nat × List Nat :=
  let (s, ok) := s.blow bits stuck
  let s := s.logOtp code a
  if ok then (s, stDone, []) else (s, stRejected, [12])

/-- OTP_BANK_WRITE (0x26): a boot record image, pulled as `bytes`, goes into a blank bank; bits in `stuck` do not take (R616). -/
def State.cmdOtpBankWrite (bytes : List Nat) (fail : Bool) (stuck : List Nat) (_ : Nat) (w : List Nat) (s : State) : State × Nat × List Nat :=
  let b := w.getD 4 0
  let l := (rangeFrom 0 384).map fun k => bytes.getD k 0 % 256
  if 3 < b then (s, stInvalid, [])
  else if fail then (s, stRejected, [8])
  else if !bankGood l then (s, stRejected, [11])
  else if (s.bootBank b).any (· != 0) then (s, stRejected, [10])
  else s.otpDone 0x26 (0x200 + 384 * b) (otpBits (0x200 + 384 * b) l) stuck

def execOtpBankWrite (bytes : List Nat) (fail : Bool) (stuck : List (Fin 16384)) (s : State) : Host.Outcome State Fault Refusal :=
  .next (s.serve 0x26 false (State.cmdOtpBankWrite bytes fail (stuck.map (·.val))))

/-- OTP_BOARD_WRITE (0x27): the board identity once, and policy bits (R616). -/
def State.cmdOtpBoardWrite (stuck : List Nat) (_ : Nat) (w : List Nat) (s : State) : State × Nat × List Nat :=
  let l := (argBytes w).take 16
  let id := l.take 12
  let policy := l.getD 12 0
  let held := (rangeFrom 0xE4 12).any fun a => s.otpByte a != 0
  if (l.drop 13).any (· != 0) ∨ policy &&& 0xE1 ≠ 0 then (s, stInvalid, [])
  else if held && id.any (· != 0) then (s, stRejected, [10])
  else
    let bits := otpBits 0xE4 id ++ otpBits 0xC1 [policy]
    s.otpDone 0x27 (if id.any (· != 0) then 0xE4 else 0xC1) bits stuck

def execOtpBoardWrite (stuck : List (Fin 16384)) (s : State) : Host.Outcome State Fault Refusal :=
  .next (s.serve 0x27 false (State.cmdOtpBoardWrite (stuck.map (·.val))))

/-- KEY_INSTALL (0x37): the hash of key slot 1, 2 or 3, once (R616). -/
def State.cmdKeyInstall (stuck : List Nat) (_ : Nat) (w : List Nat) (s : State) : State × Nat × List Nat :=
  let k := w.getD 2 0
  if k = 0 ∨ 3 < k then (s, stInvalid, [])
  else if bit (s.otpByte 0xC0) k then (s, stRejected, [10])
  else s.otpDone 0x37 (48 * k) (otpBits (48 * k) ((argBytes w).drop 4 |>.take 48) ++ [8 * 0xC0 + k]) stuck

def execKeyInstall (stuck : List (Fin 16384)) (s : State) : Host.Outcome State Fault Refusal :=
  .next (s.serve 0x37 false (State.cmdKeyInstall (stuck.map (·.val))))

/-- KEY_REVOKE (0x35): never the slot of the running image, nor the last one that is not revoked (R607). -/
def State.cmdKeyRevoke (stuck : List Nat) (_ : Nat) (w : List Nat) (s : State) : State × Nat × List Nat :=
  let k := w.getD 2 0
  let live := (rangeFrom 0 4).filter fun i => bit (s.otpByte 0xC0) i && !bit (s.otpByte 0xC0) (4 + i)
  if 3 < k ∨ k = s.rd UPD_KEYS_RUNNING ∨ live = [k] then (s, stInvalid, [])
  else s.otpDone 0x35 0xC0 [8 * 0xC0 + 4 + k] stuck

def execKeyRevoke (stuck : List (Fin 16384)) (s : State) : Host.Outcome State Fault Refusal :=
  .next (s.serve 0x35 false (State.cmdKeyRevoke (stuck.map (·.val))))

/-- PING (0x3F): the image version and MGT_STATUS; it stands for every unknown code too, which is answered with INVALID (R584). -/
def State.cmdPing (_ : Nat) (_ : List Nat) (s : State) : State × Nat × List Nat :=
  (s, stDone, [s.rd MGT_VERSION_VERSION, (s.word MGT_STATUS).toNat])

def execPing (s : State) : Host.Outcome State Fault Refusal := .next (s.serve 0x3F true State.cmdPing)

/-! ## Field update (R608 to R613) -/

/-- A command that the update state does not allow. -/
def State.sequenceErr (s : State) : State × Nat × List Nat := (s.wr UPD_STATUS_REASON 7, stRejected, [7])

/-- An update step is logged (R583). -/
def State.logStep (code : Nat) (s : State) : State := s.capture 0x3D (eventOf 5 code) code

/-- Size of an image slot. -/
abbrev slotSize : Nat := 96 * 2 ^ 20

/-- UPD_BEGIN (0x30): the inactive slot is erased, and an image of a length is expected. -/
def State.cmdUpdBegin (_ : Nat) (w : List Nat) (s : State) : State × Nat × List Nat :=
  let st := s.rd UPD_STATUS_STATE
  let n := w.getD 2 0
  if st ≠ 0 ∧ st ≠ 4 then s.sequenceErr
  else if slotSize < n then (s, stInvalid, [])
  else
    let slot := 1 - s.bootRec.slot
    let s := (s.setSlot slot []).wr UPD_STATUS_SLOT_NEW slot
    let s := ((s.wr UPD_STATUS_STATE 1).wr UPD_STATUS_REASON 0).logStep 0x30
    ({ s with mgt := { s.mgt with length := n } }, stDone, [])

def execUpdBegin (s : State) : Host.Outcome State Fault Refusal := .next (s.serve 0x30 false State.cmdUpdBegin)

/-- UPD_CHUNK (0x31): bytes of the image, pulled by the DMA engine; `fail` as for STORE_LOAD. -/
def State.cmdUpdChunk (bytes : List Nat) (fail : Bool) (_ : Nat) (w : List Nat) (s : State) : State × Nat × List Nat :=
  let a := w.getD 4 0
  let n := w.getD 5 0
  if s.rd UPD_STATUS_STATE ≠ 1 ∨ s.mgt.length < a + n then s.sequenceErr
  else if 2 ^ 20 < n then (s, stInvalid, [])
  else if fail then (s.wr UPD_STATUS_REASON 8, stRejected, [8])
  else (s.writeSlot (s.rd UPD_STATUS_SLOT_NEW) a (bytes.take n), stDone, [])

def execUpdChunk (bytes : List Nat) (fail : Bool) (s : State) : Host.Outcome State Fault Refusal :=
  .next (s.serve 0x31 false (State.cmdUpdChunk bytes fail))

/-- UPD_VERIFY (0x32): in RECEIVING the verification starts, and its end is the answer; else it is refused with SEQUENCE. -/
def execUpdVerify (s : State) : Host.Outcome State Fault Refusal :=
  .next (match s.command with
    | none => s
    | some (c, words, mac) =>
      if s.mgtRuns && words.getD 0 0 % 256 == 0x32 && s.rd UPD_STATUS_STATE == 1 && s.allowed c 0x32 then
        let s := s.takeCommand c
        let s := { s with mgt := { s.mgt with verify := some (c, words.getD 1 0, mac) } }
        (s.wr UPD_STATUS_STATE 2).logStep 0x32
      else s.serve 0x32 false fun _ _ s => s.sequenceErr)

/-- VERIFY_DONE: the image verifies, or it is rejected with the reason of the first check that fails (R606). -/
def execVerifyDone (s : State) : Host.Outcome State Fault Refusal :=
  .next (match s.mgt.verify with
    | none => s
    | some (c, seq, mac) =>
      if !s.mgtRuns || !s.replyOpen c then s
      else
        let slot := s.rd UPD_STATUS_SLOT_NEW
        let r := s.imageReason slot
        let s := { s with mgt := { s.mgt with verify := none } }
        let s := s.wr UPD_SVN_IMAGE_SVN ((s.slotBytes slot 9 1).headD 0)
        let s := (s.wr UPD_STATUS_STATE (if r = 0 then 3 else 4)).wr UPD_STATUS_REASON r
        let s := if r = 0 then s.raise UPD_EVENT_VERIFIED else s.raiseArg UPD_EVENT_REJECTED r
        if r = 0 then s.reply c mac 0x32 seq stDone [] else s.reply c mac 0x32 seq stRejected [r])

/-- UPD_ACTIVATE (0x33): the new image goes on trial, and the controller restarts into it (R609). -/
def execUpdActivate (s : State) : Host.Outcome State Fault Refusal :=
  .next (
    let was := s.rd UPD_STATUS_STATE
    let s1 := s.serve 0x33 false fun _ _ s =>
      if s.rd UPD_STATUS_STATE ≠ 3 then s.sequenceErr
      else
        let r := s.bootRec
        let s := { s with nor := { s.nor with before := s.nor.store } }
        let s := s.setBootRec { slot := s.rd UPD_STATUS_SLOT_NEW, previous := r.slot, trial := true }
        let s := ((s.wr UPD_STATUS_STATE 5).wr UPD_STATUS_CRASHES 0).raise UPD_EVENT_ACTIVATED
        ({ s with mgt := { s.mgt with window := s.now, migrated := false, dropped := false } }, stDone, [])
    if was = 3 ∧ s1.rd UPD_STATUS_STATE = 5 then s1.mgtRestart else s1)

/-- UPD_ABORT (0x34): back to IDLE. -/
def State.cmdUpdAbort (_ : Nat) (_ : List Nat) (s : State) : State × Nat × List Nat :=
  let st := s.rd UPD_STATUS_STATE
  if st = 1 ∨ st = 3 ∨ st = 4 then ((s.wr UPD_STATUS_STATE 0).logStep 0x34, stDone, []) else s.sequenceErr

def execUpdAbort (s : State) : Host.Outcome State Fault Refusal := .next (s.serve 0x34 false State.cmdUpdAbort)

/-- UPD_CONFIRM (0x36): the image on trial confirms itself when its health checks pass (R612). -/
def State.cmdUpdConfirm (_ : Nat) (_ : List Nat) (s : State) : State × Nat × List Nat :=
  if s.rd UPD_STATUS_STATE ≠ 5 then s.sequenceErr
  else if !s.healthOk then (s.wr UPD_STATUS_REASON 9, stRejected, [9])
  else (s.confirm, stDone, [])

def execUpdConfirm (s : State) : Host.Outcome State Fault Refusal := .next (s.serve 0x36 false State.cmdUpdConfirm)

/-! ## The control bus (R603 to R605) -/

/-- Serve the command at the head if it needs nothing from outside: what CBS_FRAME_RECEIVED executes at once. -/
def State.serveHead (s : State) : State :=
  match s.command with
  | some (394, words, _) =>
    match words.getD 0 0 % 256 with
    | 0x20 => s.serve 0x20 false State.cmdSensorRead
    | 0x21 => s.serve 0x21 false State.cmdThreshSet
    | 0x22 => s.serve 0x22 false State.cmdLogRead
    | 0x23 => s.serve 0x23 false State.cmdStoreRead
    | 0x25 => s.serve 0x25 false State.cmdOtpRead
    | 0x30 => s.serve 0x30 false State.cmdUpdBegin
    | 0x34 => s.serve 0x34 false State.cmdUpdAbort
    | 0x36 => s.serve 0x36 false State.cmdUpdConfirm
    | 0x24 | 0x26 | 0x27 | 0x31 | 0x32 | 0x33 | 0x35 | 0x37 => s
    | _ => s.serve 0x3F true State.cmdPing
  | _ => s

/-- An event of the MAC: its bit and its counter. -/
def State.cbsCount (f : Field) (k : Nat) (s : State) : State := (s.wr f 1).bump (CBS_CNT_COUNT k)

/-- CBS_FRAME_RECEIVED: a frame with its FCS, from another station, is accepted or discarded; a command frame waits its turn in the
receive buffer, and is executed at once where it is the next command and needs no data from outside (R604, R605). -/
def execCbsFrameReceived (bytes : List Nat) (s : State) : Host.Outcome State Fault Refusal :=
  .next (
    let l := bytes.map (· % 256)
    let dest := beAt l 0 6
    if !s.on CBS_CFG_EN then s
    else if l.length < 64 then s.cbsCount CBS_STATUS_RX_RUNT 6
    else if 1518 < l.length then s.cbsCount CBS_STATUS_RX_LONG 6
    else if crcBytes (crc32 (l.take (l.length - 4))) ≠ l.drop (l.length - 4) then s.cbsCount CBS_STATUS_RX_FCS 5
    else if dest ≠ s.cbsMac ∧ dest ≠ 2 ^ 48 - 1 then s
    else if 8 ≤ s.cbs.rx.length then s.cbsCount CBS_STATUS_RX_OVF 7
    else
      let s := s.bump (CBS_CNT_COUNT 1)
      if beAt l 12 2 ≠ s.rd CBS_CFG_ETYPE ∨ l.length ≠ 274 ∨ !s.on CBS_CFG_CMD_EN then s.wr CBS_STATUS_RX_ETYPE 1
      else
        let f : CbsFrame := { dest := dest, src := beAt l 6 6, etype := beAt l 12 2, bytes := (l.drop 14).take 256 }
        ({ s with cbs := { s.cbs with rx := s.cbs.rx ++ [f] } } : State).serveHead)

/-- The frame at the head is done with. -/
def State.dropTx (s : State) : State := ({ s with cbs := { s.cbs with tx := s.cbs.tx.drop 1, tries := 0, backoff := none } } : State).showTx

/-- CBS_TRANSMIT: the medium has been idle for 96 bit times, and the frame at the head is sent (R603). -/
def execCbsTransmit (s : State) : Host.Outcome State Fault Refusal :=
  .next (match s.cbs.tx with
    | f :: _ => if s.on CBS_CFG_EN && s.cbs.backoff.isNone then ((s.emit (.cbs f)).bump (CBS_CNT_COUNT 0)).dropTx else s
    | [] => s)

/-- COLLISION while the frame at the head is sent, `late` after its first 512 bits (R603). -/
def execCollision (late : Bool) (s : State) : Host.Outcome State Fault Refusal :=
  .next (
    if s.cbs.tx.isEmpty || !s.on CBS_CFG_EN || s.cbs.backoff.isSome then s
    else
      let s := (s.emit .jam).cbsCount CBS_STATUS_COLL 2
      let n := s.cbs.tries + 1
      if late then (s.cbsCount CBS_STATUS_LATE_COLL 3).dropTx
      else if 16 ≤ n then (s.cbsCount CBS_STATUS_EXCESS_COLL 4).dropTx
      else
        let r := Config.backoff s.free % 2 ^ min n 10
        ({ s with cbs := { s.cbs with tries := n, backoff := some (s.now + r * 51200 * ns) } } : State).draw)

/-- BACKOFF_EXPIRY: the wait after a collision is over, and the frame is tried again (R603). -/
def execBackoffExpiry (s : State) : Host.Outcome State Fault Refusal :=
  .next (match s.cbs.backoff with
    | some t => if t ≤ s.now then { s with cbs := { s.cbs with backoff := none } } else s
    | none => s)

end Sys2Proof.Machine
end

