-- ==== Sys2Proof/Machine/TwinCtl.lean ====
section
/-! DEFINITION. What TWN_CTRL asks for: the release of the fence, the way to SOLO, and a catch-up (R547, R548, R550); and the mail of
the mirror engine (R597, R599). -/

namespace Sys2Proof.Machine

/-- TWN_CTRL.GO_SOLO: an ACTIVE device moves to SOLO, and from then on neither renews the token nor journals (R550). -/
def State.goSolo (s : State) : State := if s.mode = .active then s.enterMode .solo 2 else s

/-- The claim holder takes a catch-up request: it journals a KIND 4 entry with a frame stamp S, and will capture its state at S;
a SOLO device does so only while JOIN_EN is 1 (R548, R550). -/
def State.takeCatchup (s : State) : State :=
  if s.twinEn && s.top.claim && s.on TWN_STATUS_LINK && (s.mode != .solo || s.on TWN_CFG_JOIN_EN) then
    let (f, l) := s.frameStamp
    let s := s.journal 4 (f, l) []
    { s with twn := { s.twn with captureAt := some f } }
  else s

/-- TWN_CTRL.CATCHUP: the claim holder takes the request itself; another device of a pair asks its twin (R548). -/
def State.askCatchup (s : State) : State :=
  if !s.twinEn then s
  else if s.top.claim then s.takeCatchup
  else { s.wr TWN_STATUS_SYNC 0 with twn := { s.twn with wants := true, stamp := none, image := none } }

/-- A write of TWN_CTRL. -/
def State.twinControl (v : Nat) (s : State) : State :=
  ((s.when (bit v 0) State.unfence).when (bit v 1) State.goSolo).when (bit v 2) State.askCatchup

/-! ## Mirror mail (Table 15-9) -/

/-- The two groups of a message word: byte 2k in [15:8] and byte 2k + 1 in [7:0]. -/
def mailGroups (v : Nat) : List Nat := [v % 2 ^ 8 * 2 ^ 8 + v / 2 ^ 8 % 2 ^ 8, v / 2 ^ 16 % 2 ^ 8 * 2 ^ 8 + v / 2 ^ 24 % 2 ^ 8]

/-- The message words of the groups of a MAIL record. -/
def mailWords : List Nat → List Nat
  | a :: b :: l => (a / 2 ^ 8 % 2 ^ 8 + a % 2 ^ 8 * 2 ^ 8 + b / 2 ^ 8 % 2 ^ 8 * 2 ^ 16 + b % 2 ^ 8 * 2 ^ 24) :: mailWords l
  | _ => []

/-- Acknowledge a message of racker `r` of the twin. -/
def State.mailAck (r mseq : Nat) (s : State) : State := s.sendMirror (mirrorUnits 3) (.mirror 7 [r + 2 ^ 9, mseq])

/-- Deliver a message into channel 336 + r, acknowledge it, and return the buffer space of its record. -/
def State.mailDeliver (r mseq : Nat) (words : List Nat) (s : State) : State :=
  let s := s.sendSlot (336 + r) 0 words
  let s := s.setMailH r { s.mailH r with got := some mseq }
  (s.mailAck r mseq).freeUnits 131

/-- Deliver the records held for racker `r` while its channel has room (R597); `n` bounds their number. -/
def State.mailHeld (r : Nat) : Nat → State → State
  | 0, s => s
  | n + 1, s =>
    match (s.mailH r).held with
    | (q, words) :: l =>
      if s.chanOpen (336 + r) then
        State.mailHeld r n ((s.setMailH r { s.mailH r with held := l }).mailDeliver r q words)
      else s
    | [] => s

end Sys2Proof.Machine
end

