-- ==== Sys2Proof/Machine/RegWrite.lean ====
section
/-! DEFINITION. What a write of a register does: the stored bits, the bits that a 1 clears, and what each block does when one of its
registers is written (R10 to R13 and the register tables). `m` is the master of the write (R631). -/

namespace Sys2Proof.Machine

/-! ## Stored bits -/

/-- `old` with the bits of `mask` taken from `new`. -/
def mergeBits (mask new old : Nat) : Nat := (old &&& (2 ^ 32 - 1 - mask)) ||| (new &&& mask)

/-- A write of the host that leaves an interrupt source asserted sends another message (R630, Table 16-2). -/
def State.signalAgain (m k : Nat) (on : Bool) (s : State) : State :=
  if (m = 1 ∨ m = 2) ∧ on = true then (if k = 36 then (s.sendMsix 36).sendMsix 45 else s.sendMsix k) else s

/-- The stored effect of a write: RW bits take the value written, and a 1 clears a W1C bit (R10) that hardware does not set in the
same cycle (R12). DEDUCED: what stands at one value of `now` is one cycle, in which the event and the write come in either order. -/
def State.storeReg (m a v : Nat) (s : State) : State :=
  match regAt a with
  | none => s
  | some (d, _) =>
    let w := mergeBits d.rw v (s.word a).toNat
    let s := s.setWord a (BitVec.ofNat 32 (w - (w &&& v &&& (d.w1c - (d.w1c &&& s.setBits a)))))
    match sourceOf a with
    | some k => if d.w1c = 0 then s else s.signalAgain m k (s.asserted k)
    | none => s

/-- Whether a write applies at a journal stamp: every journal-class write of a twin pair but those of rackers (R533). -/
def State.stamped (s : State) (m : Nat) : Bool := s.paired && !(decide (3 ≤ m) && decide (m ≤ 18))

/-! ## Blocks -/

/-- TOP and PWR (R28, R32, R40, R55, R66). -/
def State.writeTop (m a v : Nat) (s : State) : State :=
  if a = TOP_CTRL then s.topControl v
  else if a = TOP_RESET then s.resetKey v
  else if a = PWR_VIN_THR then s.vinThrWrite v
  else if a = PWR_SHED_THR then s.shedThrWrite v
  else if PWR_DOM_REQ 0 ≤ a ∧ a ≤ PWR_DOM_REQ 2 then s.domReqWrite m ((a - PWR_DOM_REQ 0) / 4) v
  else if a = PWR_STATUS then (s.storeReg m a v).showAlert
  else if a = PWR_SHED_MASK ∨ a = PWR_SHED_HYST then (s.storeReg m a v).trackCool
  else s.storeReg m a v

/-- REF: the fields that are written take effect after the losses, timers, results and the selection of the cycle (R158, R179). -/
def State.writeRef (m a v : Nat) (s : State) : State :=
  let s' := s.storeReg m a v
  if a = REF_EVENT then s'
  else if s.refWaits then { s with dpll := { s.dpll with held := s.dpll.held ++ [(a, s'.word a)] } }
  else s'.refWriteFixup

/-- PLN (R191 to R205, R677 to R679). -/
def State.writePln (m a v : Nat) (s : State) : State :=
  let p := (a - PLN_CFG 0) / (PLN_CFG 1 - PLN_CFG 0)
  if a = PLN_CFG p then s.planCfgWrite p v
  else if a = PLN_ALIGN p then s.planAlignWrite p v
  else if a = PLN_CTRL p then s.planCtrlWrite p v
  else s.storeReg m a v

/-- SYN (R209, R223, R231 and the clamp of SLOPE). -/
def State.writeSyn (m a v : Nat) (i : Nat) (s : State) : State :=
  if a = SYN_PLL_SEED i then s.seedWrite i v
  else if a = SYN_PLL_CTRL i then s.synCtrlWrite i v
  else if a = SYN_PLL_CFG i then
    let s := s.storeReg m a v
    s.wr (SYN_PLL_CFG_SLOPE i) (clampNat 100 50000 (s.rd (SYN_PLL_CFG_SLOPE i)))
  else if a = SYN_CACHE_SEL then (s.storeReg m a v).showCache
  else s.storeReg m a v

/-- The bits of `mask` of a value keep what the register holds. -/
def State.keepBits (s : State) (a mask v : Nat) : Nat := mergeBits mask (s.word a).toNat v

/-- TRL (R99 to R107): outside DIAGNOSTIC, LOOPBACK and the pattern, checker and injector controls keep their values. -/
def State.writeTrl (m a v n l : Nat) (s : State) : State :=
  let diag := s.mode == .diagnostic
  if a = TRL_CFG n then
    let s1 := s.modeWrite n (v % 4)
    let keep := 3 + (if diag then 0 else 2 ^ (TRL_CFG_LOOPBACK n).lo * (2 ^ (TRL_CFG_LOOPBACK n).width - 1))
    s1.storeReg m a (s1.keepBits a keep v)
  else if a = TRL_LANE_CFG n l then
    let was := s.patternOf n l
    let sel := s.rd (TRL_LANE_CFG_PAT_SEL n l)
    let s := s.storeReg m a (if diag then v else s.keepBits a 0xD8 v)
    let s := s.wr (TRL_LANE_CFG_INJ_RATE n l) (clampNat 10 40 (s.rd (TRL_LANE_CFG_INJ_RATE n l)))
    s.when (diag && decide (l < laneCount n)) fun s =>
      (s.followPattern n l was).when (s.rd (TRL_LANE_CFG_PAT_SEL n l) != sel) fun s => s.reseed n l
  else if a = TRL_LANE_INJ n l then s.when (bit v 0) fun s => s.inject n l
  else s.storeReg m a v

/-- CTN: the input gang layout as written applies while GANG_AUTO is 0 (R124); a change of TRANS takes
effect at the next block, and at once where no blocks come (R132). -/
def State.writeCtn (m a v n k : Nat) (s : State) : State :=
  if a = CTN_RX_GANG n k then
    if s.on (CTN_CFG_GANG_AUTO n) then s
    else if (s.trlH n).mode ≠ 0 then s.storeReg m a v
    else
      let g := s.gangBits n
      let w := 2 ^ (32 * k)
      let g := g - g / w % 2 ^ 32 * w + v % 2 ^ 32 * w
      s.forN 32 fun j s => s.setInCode (32 * n + j) (g / 8 ^ j % 8)
  else if a = CTN_TRANS n k then
    let s := s.storeReg m a v
    if (s.ctnH n).state = 2 then s else s.applyTrans n
  else s.storeReg m a v

/-- XPT (R331, R333, R335, R358). -/
def State.writeXpt (m a v i : Nat) (s : State) : State :=
  if a = XPT_IN_CFG i then
    let old := s.rd (XPT_IN_CFG_MODE i)
    let s := s.storeReg m a v
    let s := s.when (s.rd (XPT_IN_CFG_MODE i) == 3) fun s => s.wr (XPT_IN_CFG_MODE i) 1
    let mode := s.rd (XPT_IN_CFG_MODE i)
    let s := if old = 2 ∧ mode ≠ 2 then
        s.forL ((s.adm.granted ++ s.adm.waiting).filter fun e => e.1.cls == 0 && e.1.id == i) fun e s => s.withdrawLoad e.1
      else if old ≠ 2 ∧ mode = 2 then s.askCellar i else s
    let s := if s.on (XPT_IN_CFG_SKIM_EN i) then s.askSkim i else s.withdrawLoad { cls := 3, id := i }
    let s := match (s.inH i).stored with
      | [] => s
      | e :: _ => s.showOffset i (s.caskOffset (s.rd (XPT_IN_CFG_HOME i)) 1 e.2)
    s.updateMode i
  else if a = XPT_PLAN_CASK i then
    let h := s.planH i
    let f := s.frameOf i
    let now := if h.caskAt ≤ f then s.rd (XPT_PLAN_CASK_REF i) else h.cask
    (s.storeReg m a v).setPlanH i { h with cask := now, caskAt := f + 1 }
  else s.storeReg m a v

/-- CLR: the budget is at most its reset value, and the head cap at most the budget (R363). -/
def State.writeClr (m a v : Nat) (s : State) : State :=
  if a = CLR_ADM_BUDGET then
    let s := s.wr CLR_ADM_BUDGET_MBPS (min (v % 2 ^ 32) 31457280)
    s.wr CLR_ADM_HEADCAP_MBPS (min (s.rd CLR_ADM_HEADCAP_MBPS) (s.rd CLR_ADM_BUDGET_MBPS))
  else if a = CLR_ADM_HEADCAP then s.wr CLR_ADM_HEADCAP_MBPS (min (v % 2 ^ 32) (s.rd CLR_ADM_BUDGET_MBPS))
  else s.storeReg m a v

/-- The position map of a slot takes the entries of a gang code (R376, R396). -/
def State.loadMap (a code : Nat) (s : State) : State :=
  s.forN 2 fun k s => s.setWord (a + 4 * k) (BitVec.ofNat 32 (audMapWord code k))

/-- AUD (R376, R380, R393, R396, R400, R401). -/
def State.writeAud (m a v i : Nat) (s : State) : State :=
  if a = AUD_GEN_CFG i then
    let s := s.storeReg m a v
    let s := s.when (s.rd (AUD_GEN_CFG_MODE i) == 3) fun s => s.wr (AUD_GEN_CFG_MODE i) 0
    let s := s.wr (AUD_GEN_CFG_FREQ i) (clampNat 20 20000 (s.rd (AUD_GEN_CFG_FREQ i)))
    s.setGenH i { s.genH i with restart := true }
  else if a = AUD_GEN_LVL i then
    let s := s.storeReg m a v
    let s := s.wr (AUD_GEN_LVL_ATTEN i) (min (s.rd (AUD_GEN_LVL_ATTEN i)) 1200)
    let s := s.wr (AUD_GEN_LVL_ON i) (max 1 (s.rd (AUD_GEN_LVL_ON i)))
    let s := s.wr (AUD_GEN_LVL_OFF i) (max 1 (s.rd (AUD_GEN_LVL_OFF i)))
    s.setGenH i { s.genH i with restart := true }
  else if a = AUD_SRC_CFG i then
    let s := s.storeReg m a v
    let s := s.wr (AUD_SRC_CFG_DELAY i) (min (s.rd (AUD_SRC_CFG_DELAY i)) 24000)
    if 36864 ≤ i then s.setNonPcm i (s.on (AUD_SRC_CFG_FORCE_NONPCM i))
    else s.when (s.on (AUD_SRC_CFG_FORCE_NONPCM i)) fun s => s.setNonPcm i true
  else if a = AUD_SLOT_CFG i then
    let s := s.storeReg m a v
    let s := s.when (s.on (AUD_SLOT_CFG_DMX_AUTO i)) fun s => s.loadMap (AUD_DMX_MAP i 0) (s.inCode i)
    s.when (s.on (AUD_SLOT_CFG_EMB_AUTO i)) fun s => s.followCode i
  else if AUD_DMX_MAP i 0 ≤ a ∧ a ≤ AUD_DMX_MAP i 1 then (if s.on (AUD_SLOT_CFG_DMX_AUTO i) then s else s.storeReg m a v)
  else if AUD_EMB_MAP i 0 ≤ a ∧ a ≤ AUD_EMB_MAP i 1 then (if s.on (AUD_SLOT_CFG_EMB_AUTO i) then s else s.storeReg m a v)
  else s.storeReg m a v

/-- I2S (R393, R402 to R408): a port whose use changes starts anew. -/
def State.writeI2s (m a v k : Nat) (s : State) : State :=
  if a = I2S_CFG k then
    let old := s
    let s := s.storeReg m a v
    let s := s.when (s.rd (I2S_CFG_SLOT k) == 3) fun s => s.wr (I2S_CFG_SLOT k) 2
    let s := s.when (!s.on (I2S_CFG_SLAVE k) && s.rd (I2S_CFG_SLOT k) == 1) fun s => s.wr (I2S_CFG_SLOT k) 2
    let changed := (old.on (I2S_CFG_EN k), old.on (I2S_CFG_DIR k), old.on (I2S_CFG_SLAVE k))
      != (s.on (I2S_CFG_EN k), s.on (I2S_CFG_DIR k), s.on (I2S_CFG_SLAVE k))
    let s := s.when changed fun s => ((s.wr (I2S_STAT_QUALIFIED k) 0).setI2sH k {}).showFill k
    if old.on (I2S_CFG_NONPCM k) = s.on (I2S_CFG_NONPCM k) then s
    else
      let s := s.forL (rangeFrom (49216 + 2 * k) 2) fun c s =>
        s.forL (s.listeners c) fun x s => s.wrB (AUD_MAP_RD_NONPCM x) (s.on (I2S_CFG_NONPCM k))
      s.raise AUD_EVENT_NONPCM_CHANGE
  else s.storeReg m a v

/-- PKT (R425, R432 to R451). -/
def State.writePkt (m a v i : Nat) (s : State) : State :=
  if a < PKT_RXC_CFG 0 then
    let s := s.storeReg m a v
    if a = PKT_CFG i then s.wr (PKT_CFG_MAX_LEN i) (clampNat 64 9216 (s.rd (PKT_CFG_MAX_LEN i))) else s
  else if a < PKT_TXC_CFG 0 then
    if a = PKT_RXC_STAT i then s.storeReg m a v else (s.storeReg m a v).rxcWritten i s
  else if a < PKT_CLS_IDX then
    if a = PKT_TXC_STAT i then s.storeReg m a v else (s.storeReg m a v).txcWritten i s
  else if a = PKT_CLS_CMD then (s.when (bit v 0) State.classifierWrite).when (bit v 1) State.classifierRead
  else s.storeReg m a v

/-- PTP (R454 to R462). -/
def State.writePtp (m a v n : Nat) (s : State) : State :=
  if a = PTP_CTRL n then (s.when (bit v 0) fun s => s.ptpAccept n).when (bit v 1) fun s => s.ptpRestart n
  else if a = PTP_EVENT n then s.storeReg m a v
  else (s.storeReg m a v).ptpWritten n

/-- Whether the mode lets program memory be written: DEFAULT, FROZEN or DIAGNOSTIC (R288), or STARTUP for the store that the
controller loads (R578). -/
def State.mayLoad (s : State) (m : Nat) : Bool :=
  s.mode == .default || s.mode == .frozen || (m == 0 && s.mode == .startup)

/-- A racker's registers (R285 to R292). -/
def State.writeRck (m a v r g : Nat) (s : State) : State :=
  if a = RCK_CTRL r then s.rckControl r v (s.stamped m)
  else if a = RCK_GREG r g then (if s.rd (RCK_STATUS_STATE r) = 0 ∨ s.rd (RCK_STATUS_STATE r) = 4 then s.storeReg m a v else s)
  else s.storeReg m a v

/-- The rackers' shared registers (R274, R281, R284, R288). -/
def State.writeShared (m a v n : Nat) (s : State) : State :=
  if a < RCK_SH_STATUS then
    if s.mayLoad m then (s.storeReg m a v).followHostGpo else s.raise RCK_SH_STATUS_OWN_WERR
  else if a = RCK_GPO_HOST then (s.storeReg m a v).followHostGpo
  else if a = RCK_LEASE_REQ then s.hostLease (if m = 0 then holderMgt else holderHost) v
  else if a = RCK_FENCE n then s.writeFence n v
  else s.storeReg m a v

/-- MVH (R476, R486, R487). -/
def State.writeMvh (m a v h : Nat) (s : State) : State :=
  if a = MVH_LUT_DATA h then s.lutWrite h v
  else if a = MVH_STATUS h ∨ a = MVH_EVENT h then s.storeReg m a v
  else (s.storeReg m a v).mvhWritten h s

/-- PRF (R505, R507): a rectangle written waits for the boundary, which at a journal stamp is the stamped one. -/
def State.writePrf (m a v : Nat) (s : State) : State :=
  if a = PRF_REC_SEL then (s.storeReg m a v).loadRecord
  else if PRF_RMASK 0 ≤ a ∧ a < PRF_REC_SEL then
    let s1 := (s.keepRect a).storeReg m a v
    if s.stamped m then { s1 with ldg := { s1.ldg with rectAt := s.frame0 - 1 } } else s1
  else s.storeReg m a v

/-- LDG (R522 to R524). -/
def State.writeLdg (m a v : Nat) (s : State) : State :=
  if a = LDG_CTRL then s.ledgerControl v (s.stamped m)
  else if a = LDG_SEL then (s.storeReg m a v).selectUnit
  else s.storeReg m a v

/-- TWN (R529, R533, R545, R547 to R550). -/
def State.writeTwn (m a v : Nat) (s : State) : State :=
  if a = TWN_CTRL then s.twinControl v
  else if a = TWN_CFG then
    let s := s.storeReg m a v
    let s := s.wr TWN_CFG_LEAD (max 1 (s.rd TWN_CFG_LEAD))
    let s := s.wr TWN_CFG_TOKEN (clampNat 2 8 (s.rd TWN_CFG_TOKEN))
    s.wr TWN_CFG_FENCE_WAIT (max 1 (s.rd TWN_CFG_FENCE_WAIT))
  else s.storeReg m a v

/-- FAB (R556, R561, R567, R568). -/
def State.writeFab (m a v k : Nat) (s : State) : State :=
  if a = FAB_CFG then
    let was := s.on FAB_CFG_EN
    let s := s.storeReg m a v
    (s.wr FAB_CFG_HB_LINES (max 1 (s.rd FAB_CFG_HB_LINES))).fabCfgWritten was
  else if a = FAB_RSV_CFG k then
    let s := s.storeReg m a v
    s.wr (FAB_RSV_CFG_SLOTS k) (clampNat 1 30 (s.rd (FAB_RSV_CFG_SLOTS k)))
  else if a = FAB_RMAP k then (s.storeReg m a v).rmapWritten k
  else s.storeReg m a v

/-- Whether an alarm stands that its mask lets through (Table 16-2, source 34). -/
def State.alarmShown (s : State) : Bool := (rangeFrom 0 2).any fun k => s.rd ⟨MGT_ALARM k, 0, 32⟩ &&& s.rd (MGT_AMASK_MASK k) != 0

/-- MGT (R575, R582): ALERT_N and the interrupt source of the alarms follow a write of the alarms or of their masks. -/
def State.writeMgt (m a v : Nat) (s : State) : State :=
  if a = MGT_CTRL then s.when (bit v 0) State.mgtRestart
  else if MGT_ALARM 0 ≤ a ∧ a ≤ MGT_AMASK 1 then
    let was := s.alarmShown
    let s := (s.storeReg m a v).showAlert
    if a < MGT_AMASK 0 then s.signalAgain m 34 s.alarmShown else s.when (!was && s.alarmShown) (State.sendMsix 34)
  else s.storeReg m a v

/-- CBS, UPD (R605, R609, R611, R612). -/
def State.writeUpd (m a v : Nat) (s : State) : State :=
  if a = UPD_CONFIRM then s.confirmKey m v
  else if a = UPD_CFG then
    let s := s.storeReg m a v
    let s := s.wr UPD_CFG_WINDOW_S (clampNat 10 600 (s.rd UPD_CFG_WINDOW_S))
    (s.wr UPD_CFG_SETTLE_S (max 1 (s.rd UPD_CFG_SETTLE_S))).trackHealth
  else s.storeReg m a v

/-- A write of MTX_LOCK_REL(n) (R645). -/
def State.releaseLock (m n : Nat) (s : State) : State :=
  if s.pci.freed.contains (n, m, s.now) then { s with pci := { s.pci with freed := s.pci.freed.filter fun e => e != (n, m, s.now) } } else
  let held := s.on (MTX_LOCK_HELD n)
  let mine := s.rd (MTX_LOCK_OWNER n) == m
  if held && (mine || m == 0 || m == 2) then
    let s := (s.wr (MTX_LOCK_HELD n) 0).wr (MTX_LOCK_OWNER n) 0
    if mine then s else s.raise MTX_EVENT_LOCK_FORCED
  else s.raise MTX_EVENT_LOCK_ERR

/-- MTX (R634, R639, R645) and PCI (R626, R629). -/
def State.writeMtx (m a v k : Nat) (s : State) : State :=
  if a = MTX_LOCK_REL k then (if bit v 0 then s.releaseLock m k else s)
  else if a = MTX_PARK k then s.wr (MTX_PARK_MASTER k) (if 21 < v % 32 then 0 else v % 32)
  else if a = PCI_VEC_MAP k then
    let s := s.storeReg m a v
    s.when (decide (40 ≤ k) && decide (7 < s.rd (PCI_VEC_MAP_VEC k))) fun s => s.wr (PCI_VEC_MAP_VEC k) 7
  else s.storeReg m a v

/-! ## Mailboxes -/

/-- A channel loses its oldest slot; an engine that waits for room in it goes on (R590, R597, R598). -/
def State.mbxFree (c : Nat) (s : State) : State :=
  let (s, done) := s.freedAhead c
  let s := if done then s else s.freeSlot c
  if 368 ≤ c ∧ c < 384 then s.drainMail (c - 368)
  else if 336 ≤ c ∧ c < 352 then s.mailHeld (c - 336) 64 else s

/-- A write of doorbell bits or of a doorbell mask (R600, R601). Only the receiver of a bank and M0 clear bits. -/
def State.writeBell (m a v b : Nat) (s : State) : State :=
  let receiver := m == 0 || (decide (b < 16) && m == 3 + b) || (b == 16 && m == 1) || (b == 19 && m == 2)
  if a = MBX_DB_SET b then s.setBells b v
  else if !receiver then s
  else if a = MBX_DB b then
    let s := s.storeReg m a v
    let on := s.rd ⟨MBX_DB b, 0, 32⟩ &&& s.rd (MBX_DB_MASK_MASK b) != 0
    if b = 16 then s.signalAgain m 17 on else if b = 19 then s.signalAgain m 44 on else s
  else
    let fresh := s.rd ⟨MBX_DB b, 0, 32⟩ &&& v % 2 ^ 32
    let s := s.storeReg m a v
    if fresh = 0 then s else s.notifyBell b

/-- MBX registers other than slots (R588, R590, R600, R601). -/
def State.writeMbx (m a v k : Nat) (s : State) : State :=
  if a = MBX_POST k then s.when (bit v 0) fun s => s.postNow k
  else if a = MBX_FREE k then s.when (bit v 0) fun s => s.mbxFree k
  else if MBX_DB 0 ≤ a ∧ a < MBX_STATUS then s.writeBell m a v k
  else s.storeReg m a v

/-! ## Every register -/

/-- A write of the 32-bit value `v` to the register at address `a` by master `m`. -/
def State.writeReg (m a v : Nat) (s : State) : State :=
  match regAt a with
  | none => s
  | some (_, ix) =>
    let i := ix.getD 0 0
    let j := ix.getD 1 0
    match blockOf a with
    | .top | .pwr => s.writeTop m a v
    | .ref => s.writeRef m a v
    | .syn => s.writeSyn m a v i
    | .pln => s.writePln m a v
    | .trl => s.writeTrl m a v i j
    | .ctn => s.writeCtn m a v i j
    | .xpt => s.writeXpt m a v i
    | .clr => s.writeClr m a v
    | .aud => s.writeAud m a v i
    | .i2s => s.writeI2s m a v i
    | .pkt => s.writePkt m a v i
    | .ptp => if a < PTP_DT 0 then s.writePtp m a v i else s
    | .rck r => s.writeRck m a v r j
    | .rckShared => s.writeShared m a v i
    | .mvh => s.writeMvh m a v i
    | .prf => s.writePrf m a v
    | .ldg => s.writeLdg m a v
    | .twn => s.writeTwn m a v
    | .fab => s.writeFab m a v i
    | .mgt => s.writeMgt m a v
    | .mbx => s.writeMbx m a v i
    | .upd => s.writeUpd m a v
    | .mtx | .pci => s.writeMtx m a v i
    | .cbs => s.storeReg m a v
    | .salvo => s

end Sys2Proof.Machine
end

