-- ==== Sys2Proof/Machine/RegRead.lean ====
section
/-! DEFINITION. What a read of a register does: registers that follow time or other state are brought up to date, RS fields perform
their side effect, and the value before it is returned (R10, R109, R195, R523, R644). -/

namespace Sys2Proof.Machine

/-- The mask of an output quarter-slot that results from all retired SLOTM entries: that of the pending change that retired last, else
the one in force (R268). -/
def State.pendingMask (s : State) (id : Nat) : Bool :=
  let all := (((rangeFrom 0 16).map fun r => (s.rckH r).ops.flatten).flatten.map fun g =>
    g.changes.filterMap fun c => match c with
      | .mask d on _ => if d = id then some (g.retired, on) else none
      | _ => none).flatten
  (all.foldl (fun (m : Nat × Bool) e => if m.1 ≤ e.1 then e else m) (0, !(s.outH id).masked)).2

/-- Bring a register that shows time or other state up to date before it is read. -/
def State.refresh (a i j : Nat) (s : State) : State :=
  match blockOf a with
  | .pwr => if a = PWR_STATUS then s.wrB PWR_STATUS_VIN_OK (decide (s.rd PWR_VIN_THR_FAULT_MV ≤ s.pin.vin)) else s
  | .ref =>
    if a = REF_HOLD_T then
      s.wr REF_HOLD_T_SEC (if s.rd REF_STATUS_DPLL = 3 ∨ s.rd REF_STATUS_DPLL = 4 then (s.now - s.dpll.holdAt) / sec else 0)
    else s
  | .syn =>
    if a = SYN_STATUS then s.settlePool.wrB SYN_STATUS_SAFE_LOCK s.top.safePllLocked
    else if a = SYN_CACHE_DATA ∨ a = SYN_CACHE_TEMP then s.showCache
    else if a = SYN_PLL_STAT i then s.settle i
    else s
  | .pln =>
    let p := i
    if a = PLN_POS_F p then s.wr (PLN_POS_F_FRAME p) (wrap32 (s.frameOf p))
    else if a = PLN_STATUS p then s.endJump p
    else if a = PLN_PHASE_ERR p then (if s.phaseRelated p && s.on (PLN_STATUS_RUN p) then s.showPhase p (s.phaseError p) else s)
    else s
  | .trl => if a = TRL_LANE_MARGIN i j then (if j < laneCount i then s.measureLane i j else s) else s
  | .ctn =>
    if a = CTN_SLOTM_PEND i then
      s.forN 32 fun k s => s.wrB ⟨CTN_SLOTM_PEND i, k, 1⟩ ((rangeFrom (128 * i + 4 * k) 4).any s.pendingMask)
    else s
  | .xpt =>
    if a = XPT_STATUS then
      let s := s.forN 4 fun q s => s.wrB ⟨XPT_STATUS, q, 1⟩ (s.domReady (41 + q))
      s.forN 6 fun g s => s.wrB ⟨XPT_STATUS, 4 + g, 1⟩ (s.domReady (45 + g))
    else s
  | .clr => if a = CLR_STATUS then s.forN 4 fun k s => s.wrB ⟨CLR_STATUS, 2 + k, 1⟩ (s.domReady (37 + k)) else s
  | .aud =>
    if a = AUD_STATUS then
      ((s.wrB AUD_STATUS_A_READY (s.domReady 83)).wrB AUD_STATUS_B_READY (s.domReady 84)).wrB AUD_STATUS_SYN_LOCK
        (s.rd (SYN_PLL_STAT_STATE 47) == 4)
    else if AUD_SEQ 0 ≤ a ∧ a ≤ AUD_SEQ 7 then s.wr (AUD_SEQ_POS i) (s.seqPos i (s.frameOf i))
    else if a = AUD_MAP_RD i then s.wr (AUD_MAP_RD_PLAN i) (s.audPlan i)
    else s
  | .ptp => if a = PTP_DT 0 then s.latchDeviceTime else s
  | .rck r => if a = RCK_PT_F r then s.wr (RCK_PT_F_FRAME r) (wrap32 (s.ptPos r 0).frame) else s
  | .mvh => if a = MVH_FRAME i then s.showHeadFrame i else s
  | .upd => if a = UPD_STATUS then s.showWindow else s
  | _ => s

/-- The master of a command that reads lock `n`. -/
def lockReader (n : Nat) (c : Instr) : Option Nat :=
  match c with
  | .lockAcquire m k => if k = n then some m else none
  | .counterRead m addr len => if addr = MTX_LOCK n ∧ len = 4 then some m else none
  | _ => none

/-- The master of a command that releases lock `n`. -/
def lockReleaser (n : Nat) (c : Instr) : Option Nat :=
  match c with
  | .lockRelease m k => if k = n then some m else none
  | .registerWrite m addr len data => if addr = MTX_LOCK_REL n ∧ len = 4 ∧ data % 2 = 1 then some m else none
  | _ => none

/-- The master to which a free lock goes of those that read it in this cycle, `m` the first of them: that of the highest QoS, and then of the lowest
number (R636, R644). -/
def State.lockWinner (s : State) (m n : Nat) : Nat :=
  (s.pending.filterMap (lockReader n)).foldl (fun w k =>
    let q := s.rd (MTX_MCFG_QOS k)
    let p := s.rd (MTX_MCFG_QOS w)
    if s.busOpen k && s.windowCause k false (MTX_LOCK n) 4 == 0 && (decide (p < q) || (p == q && decide (k < w))) then k else w) m

/-- Releases of a held lock that come in this cycle apply before its reads (R645). -/
def State.releaseFirst (n : Nat) (s : State) : State :=
  let free (k : Nat) : Bool := s.busOpen k && s.windowCause k true (MTX_LOCK_REL n) 4 == 0
    && (k == s.rd (MTX_LOCK_OWNER n) || k == 0 || k == 2)
  match (s.pending.filterMap (lockReleaser n)).find? free with
  | some k => if s.on (MTX_LOCK_HELD n) then
      let t := s.releaseLock k n
      { t with pci := { t.pci with freed := (n, k, s.now) :: t.pci.freed } }
    else s
  | none => s

/-- A read of MTX_LOCK(n): a free lock goes to the reader, or to another one of the same cycle that ranks before it (R644). -/
def State.readLock (m n : Nat) (s : State) : State × Nat :=
  if s.pci.won.contains (n, m, s.now) then
    ({ s with pci := { s.pci with won := s.pci.won.filter fun e => e != (n, m, s.now) } }, 0)
  else
    let s := s.releaseFirst n
    if s.on (MTX_LOCK_HELD n) then (s, (s.word (MTX_LOCK n)).toNat)
    else
      let w := s.lockWinner m n
      let t := (s.wr (MTX_LOCK_OWNER n) w).wr (MTX_LOCK_HELD n) 1
      if w = m then (t, 0) else ({ t with pci := { t.pci with won := (n, w, s.now) :: t.pci.won } }, (t.word (MTX_LOCK n)).toNat)

/-- The side effect of a read: an RS field is cleared unless its description says otherwise (R10). -/
def State.afterRead (a i j rs : Nat) (s : State) : State :=
  let clear (s : State) : State := s.setWord a (BitVec.ofNat 32 (mergeBits rs 0 (s.word a).toNat))
  match blockOf a with
  | .pln =>
    if a = PLN_POS_F i then
      let q := s.pos i
      (s.wr (PLN_POS_L_LINE i) q.line).wr (PLN_POS_L_SAMPLE i) q.sample
    else clear s
  | .syn => if a = SYN_PLL_INT i then s.wr (SYN_PLL_FRAC_FRAC i) (s.synWord i) else clear s
  | .trl =>
    if a = TRL_LANE_ERR_LO i j then s.readLane48 i j true
    else if a = TRL_LANE_BITS_LO i j then s.readLane48 i j false
    else if a = TRL_LANE_MARGIN i j then s.wr (TRL_LANE_MARGIN_MIN i j) 0xFF
    else clear s
  | .rck r =>
    if a = RCK_PT_F r then
      let q := s.ptPos r 0
      (s.wr (RCK_PT_L_LINE r) q.line).wr (RCK_PT_L_SAMPLE r) q.sample
    else clear s
  | _ => if rs = 0 then s else clear s

/-- A read of the register at address `a` by master `m`: the state after it, and the value. -/
def State.readReg (m a : Nat) (s : State) : State × Nat :=
  match regAt a with
  | none => (s, 0)
  | some (d, ix) =>
    let i := ix.getD 0 0
    let j := ix.getD 1 0
    if a = LDG_MARK_VAL then s.takeMark
    else
      match blockOf a with
      | .mvh =>
        if a = MVH_LUT_DATA i then s.lutRead i
        else
          let s := s.refresh a i j
          (s.afterRead a i j d.rs, (s.word a).toNat)
      | .mtx => if a = MTX_LOCK i then s.readLock m i else (s.afterRead a i j d.rs, (s.word a).toNat)
      | _ =>
        let s := s.refresh a i j
        (s.afterRead a i j d.rs, (s.word a).toNat)

end Sys2Proof.Machine
end

