-- ==== Sys2Proof/Machine/Bus.lean ====
section
/-! DEFINITION. Accesses over the control matrix: the windows and refusals, the rights in the mailboxes, the memories of BAR0, the
cellar aperture, the MSI-X table, the journal, and the access itself (R533 to R538, R587 to R594, R602, R623 to R649). -/

namespace Sys2Proof.Machine

/-! ## The words of an access -/

/-- The words that an access touches, in address order: word address, mask of the bytes touched, and value in place. -/
def accessWords (addr len data : Nat) : List (Nat × Nat × Nat) :=
  (rangeFrom (addr / 4) ((addr + len + 3) / 4 - addr / 4)).map fun k =>
    let mask := (rangeFrom 0 4).foldl (fun x b => if addr ≤ 4 * k + b ∧ 4 * k + b < addr + len then x + 255 * 2 ^ (8 * b) else x) 0
    let v := if addr ≤ 4 * k then data / 2 ^ (8 * (4 * k - addr)) % 2 ^ 32 else data * 2 ^ (8 * (addr - 4 * k)) % 2 ^ 32
    (4 * k, mask, v &&& mask)

/-- The first matrix address of the cellar aperture (R623). -/
abbrev apertureBase : Nat := 0x400000000

/-- Channel whose slot, POST, FREE or status register lies at an address (R587). -/
def mbxChannel (a : Nat) : Option Nat :=
  let o := a - 0x3B00000
  if a < 0x3B00000 then none
  else if o < 394 * 0x800 then some (o / 0x800)
  else if 0xD0000 ≤ o ∧ o < 0xD5000 ∧ o % 0x1000 < 4 * 394 then some (o % 0x1000 / 4)
  else none

/-- Doorbell bank whose register lies at an address. -/
def mbxBank (a : Nat) : Option Nat :=
  let o := a - 0x3B00000
  if 0xD8000 ≤ o ∧ o < 0xD8000 + 21 * 0x40 then some ((o - 0xD8000) / 0x40)
  else if 0xE0000 ≤ o ∧ o < 0xE0000 + 21 * 0x10 then some ((o - 0xE0000) / 0x10) else none

/-- Whether an address lies in a slot window. -/
def inSlots (a : Nat) : Bool := decide (MBX_SLOT 0 0 0 ≤ a) && decide (a < MBX_SLOT 394 0 0)

/-- Whether an address lies in the MSI-X table or pending bit array (R628). -/
def inMsix (a : Nat) : Bool := decide (0x3F01000 ≤ a) && decide (a < 0x3F02008)

/-- Whether an address lies behind BAR0 in a memory, which takes accesses of any length (R625). -/
def inMemory (a : Nat) : Bool := inRckMemory a || inSlots a || inMsix a

/-- Whether a word of BAR0 is occupied for a master: a register or a memory; bank 18 does not exist, and the MSI-X table is that of
the function that makes the access (R628, R635). -/
def occupied (m a : Nat) : Bool :=
  if 0x4000000 ≤ a then false
  else if inRckMemory a then true
  else if inMsix a then
    let n := if m = 1 then 64 else if m = 2 then 8 else 0
    decide (a < 0x3F01000 + 16 * n) || (decide (0x3F02000 ≤ a) && decide (0 < n))
  else (regAt a).isSome && mbxBank a != some 18

/-- The switched domains of which one must be ready for a register of BAR0 to answer; none: always on (Table 01-4, R635). -/
def regDomains (a : Nat) : List Nat :=
  match blockOf a with
  | .trl => [(a - TRL_CFG 0) / 0x4000]
  | .ctn => [(a - CTN_CFG 0) / 0x4000]
  | .xpt =>
    if a < XPT_IN_CFG 0 then rangeFrom 41 10
    else if a < XPT_OUT_PLAN 0 then [inDomain (a % 0x10000 / 4)]
    else if a < XPT_OUT_CFG 0 then [outDomain (8 * ((a - XPT_OUT_PLAN 0) / 4))]
    else [outDomain (a % 0x10000 / 4)]
  | .clr => rangeFrom 37 4
  | .aud =>
    if a < AUD_GEN_CFG 0 ∨ (AUD_SRC_CFG 0 ≤ a ∧ a < AUD_MAP_RD 0) then [83, 84]
    else if a < AUD_GRP_CFG 0 then [84] else [83]
  | .i2s => [95]
  | .pkt => if a < PKT_RXC_CFG 0 then [85 + (a - PKT_CFG 0) / 0x4000 / 9] else rangeFrom 85 4
  | .rck r => [rckDomain r]
  | .salvo | .rckShared => rangeFrom 89 4
  | .mvh => [51 + (a - MVH_CFG 0) / 0x10000]
  | .prf | .ldg => [93]
  | .pci => [94]
  | _ => []

/-- Whether the domain of a register is ready. -/
def State.answers (s : State) (a : Nat) : Bool :=
  let l := regDomains a
  l.isEmpty || l.any fun i => s.domReady i

/-! ## Refusals -/

/-- Cellar address of a byte of the aperture, where its sub-window is enabled and it lies in the cellar (R626). -/
def State.cellarAddr (s : State) (a : Nat) : Option Nat :=
  let o := a - apertureBase
  let k := o / 2 ^ 30
  let c := s.rd (PCI_AP_MAP_BASE k) * 64 + o % 2 ^ 30
  if s.on (PCI_AP_MAP_EN k) && decide (c < 96000000000) then some c else none

/-- Whether the aperture refuses an access to a byte (R626). -/
def State.apertureRefuses (s : State) (write : Bool) (a : Nat) : Bool :=
  match s.cellarAddr a with
  | none => true
  | some c => write && !bit (s.rd PCI_AP_CFG_WREN) (cellarRegion c)

/-- Whether master `m` may not write the window register at an address (R634). -/
def windowLocked (m a : Nat) : Bool :=
  decide (MTX_WIN_BASE 0 0 ≤ a) && decide (a < MTX_WIN_BASE 22 0)
    && !(m == 0 || m == 2 || (m == 1 && (let t := (a - MTX_WIN_BASE 0 0) / 0x100; decide (3 ≤ t) && decide (t ≤ 18))))

/-- Whether the secure rules keep a master from a mailbox register (R594). -/
def secureRefuses (m a : Nat) : Bool :=
  let refuses (secure : Bool) : Bool := if secure then !(m == 0 || m == 2) else m == 2
  match mbxChannel a, mbxBank a with
  | some c, _ => refuses (decide (386 ≤ c))
  | none, some b => refuses (b == 19 || b == 20)
  | none, none => false

/-- Whether an access to a slot, MBX_POST or MBX_FREE is one that R593 does not allow. -/
def State.mailRefuses (s : State) (m : Nat) (write : Bool) (a : Nat) : Bool :=
  match mbxChannel a with
  | none => false
  | some c =>
    let sends := isChannel c && (chanSender c).master == some m
    let receives := isChannel c && (chanReceiver c).master == some m
    let posted := bit (s.rd (MBX_CH_POSTED c)) ((a - MBX_SLOT c 0 0) / 0x100)
    if inSlots a then
      if write then !sends
      else !(receives || (sends && !posted) || (m == 21 && decide (c ≤ 385)))
    else write && ((a == MBX_POST c && !sends) || (a == MBX_FREE c && !receives))

/-- Why an access is refused. -/
inductive Refused where
  /-- It is not. -/
  | no
  /-- With a cause of MTX_ERR_INFO (R632). -/
  | cause (n : Nat)
  /-- By the secure rules, with cause 3 (R594). -/
  | secure
  /-- By R593, for the channel. -/
  | mail (c : Nat)
  deriving DecidableEq, Repr

/-- The rights that an access to a register of BAR0 needs beside its windows (R593, R594, R625, R634). -/
def State.rights (s : State) (m : Nat) (write : Bool) (addr len : Nat) : Refused :=
  let ws := (accessWords addr len 0).map (·.1)
  if ws.any fun a => windowLocked m a && write then .cause 2
  else if ws.any (secureRefuses m) then .secure
  else if (write && m != 0 && m != 2 && ws.any fun a => blockOf a == .upd) then .cause 3
  else match ws.find? (s.mailRefuses m write) with
    | some a => .mail ((mbxChannel a).getD 0)
    | none => .no

/-- What becomes of an access before it acts: the windows, the access size of registers, the rights, the aperture. -/
def State.verdictOn (s : State) (m : Nat) (write : Bool) (addr len : Nat) : Refused :=
  let w := s.windowCause m write addr len
  if w ≠ 0 then .cause w
  else if addr < 0x4000000 then
    let ws := (accessWords addr len 0).map (·.1)
    let register := ws.any fun a => occupied m a && !inMemory a
    if register && !((len == 4 && addr % 4 == 0) || (len == 8 && addr % 8 == 0)) then .cause 5 else s.rights m write addr len
  else if apertureBase ≤ addr then
    if (rangeFrom addr len).any (s.apertureRefuses write) then .cause 4 else .no
  else .no

/-- Record a refused transaction (R632). -/
def State.recordRefusal (m : Nat) (write : Bool) (addr cause : Nat) (s : State) : State :=
  let s := s.wr MTX_ERR_ADDR_ADDR addr
  let s := ((s.wr MTX_ERR_INFO_ADDR_HI (addr / 2 ^ 32)).wrB MTX_ERR_INFO_WRITE write).wr MTX_ERR_INFO_MASTER m
  let s := ((s.wr MTX_ERR_INFO_CAUSE cause).wr MTX_ERR_INFO_VALID 1).raise MTX_EVENT_REFUSED
  s.when (cause == 4) (State.raise PCI_EVENT_AP_ERR)

/-- A refusal takes its effect: its record or its error bit. -/
def State.refuse (m : Nat) (write : Bool) (addr : Nat) (r : Refused) (s : State) : State :=
  match r with
  | .no => s
  | .cause n => s.recordRefusal m write addr n
  | .secure => (s.recordRefusal m write addr 3).mbxError MBX_STATUS_SEC_ERR ((mbxChannel addr).getD 0)
  | .mail c => s.mbxError MBX_STATUS_ACC_ERR c

/-! ## Words -/

/-- MSI-X table and pending bits of the function that makes the access (R628). -/
def State.msixRead (s : State) (f o : Nat) : Nat :=
  if 0x1000 ≤ o then
    (rangeFrom 0 32).foldl (fun x b => x + ofBool (storeGet (fun _ => false) s.pci.pend (64 * f + 8 * (o - 0x1000) + b)) * 2 ^ b) 0
  else if o % 16 = 12 then ofBool (storeGet (fun _ => true) s.pci.masked (64 * f + o / 16))
  else (storeGet (fun _ => (0 : Word)) s.pci.table (0x1000 * f + o)).toNat

/-- A write of the MSI-X table: a vector that its mask bit frees sends what it held pending. -/
def State.msixWrite (f o v : Nat) (s : State) : State :=
  if 0x1000 ≤ o then s
  else if o % 16 = 12 then
    ({ s with pci := { s.pci with masked := storeSet (fun _ => true) s.pci.masked (64 * f + o / 16) (bit v 0) } } : State).sendPending f
  else { s with pci := { s.pci with table := storeSet (fun _ => (0 : Word)) s.pci.table (0x1000 * f + o) (BitVec.ofNat 32 v) } }

/-- Bytes of the aperture, from an address on. -/
def State.readBytes : Nat → Nat → State → State × Nat
  | 0, _, s => (s, 0)
  | n + 1, a, s =>
    let (s, v) := s.readCellar ((s.cellarAddr a).getD 0)
    let (s, w) := State.readBytes n (a + 1) s
    (s, v + 256 * w)

/-- Write bytes through the aperture. -/
def State.writeBytes : Nat → Nat → Nat → State → State
  | 0, _, _, s => s
  | n + 1, a, v, s => State.writeBytes n (a + 1) (v / 256) (s.writeCellar ((s.cellarAddr a).getD 0) (v % 256))

/-- A word of BAR0 that an access does not reach: nothing is there, or its domain is off (R635). -/
def State.unreached (m a : Nat) (s : State) : Option State :=
  if !occupied m a then some (s.raise MTX_EVENT_UNMAPPED)
  else if !s.answers a then some (s.raise MTX_EVENT_DOM_OFF)
  else none

/-- A write of a word of BAR0 takes effect: `mask` says which of its bits are written. -/
def State.putWord (m a mask v : Nat) (s : State) : State :=
  match s.unreached m a with
  | some s => s
  | none =>
    let w := mergeBits mask v (s.word a).toNat
    if inRckMemory a then
      match blockOf a with
      | .rck r =>
        if a < RCK_DM r 0 then
          let halted := s.rd (RCK_STATUS_STATE r) == 0 || s.rd (RCK_STATUS_STATE r) == 4
          if halted && (s.mayLoad m || s.mode == .diagnostic) then s.setWord a (BitVec.ofNat 32 w) else s.raise (RCK_STATUS_PM_WERR r)
        else s.setWord a (BitVec.ofNat 32 w)
      | _ => s.setWord a (BitVec.ofNat 32 w)
    else if inSlots a then
      let c := (mbxChannel a).getD 0
      let k := (a - MBX_SLOT c 0 0) / 0x100
      if k = s.rd (MBX_CH_WR c) ∧ s.chanOpen c = true then s.setWord a (BitVec.ofNat 32 w) else s.mbxError MBX_STATUS_WR_ERR c
    else if inMsix a then s.msixWrite (m - 1) (a - 0x3F01000) (mergeBits mask v (s.msixRead (m - 1) (a - 0x3F01000)))
    else s.writeReg m a v

/-- A read of a word of BAR0. A slot that is not posted reads 0, but for its sender, and in the cycle of its free (R589, R592,
R593). -/
def State.getWord (m a : Nat) (s : State) : State × Nat :=
  match s.unreached m a with
  | some s => (s, 0)
  | none =>
    if inRckMemory a then (s, (s.word a).toNat)
    else if inSlots a then
      let c := (mbxChannel a).getD 0
      let posted := bit (s.rd (MBX_CH_POSTED c)) ((a - MBX_SLOT c 0 0) / 0x100)
      let freed := (s.chanNow c).freed.contains ((a - MBX_SLOT c 0 0) / 0x100)
      (s, if posted || freed || (chanSender c).master == some m then (s.word a).toNat else 0)
    else if inMsix a then (s, s.msixRead (m - 1) (a - 0x3F01000))
    else s.readReg m a

/-! ## Journal-class writes -/

/-- Whether a master's writes to journal-class targets are journaled: those of rackers never are. -/
def journalMaster (m : Nat) : Bool := m == 0 || m == 1 || m == 2 || m == 19 || m == 21

/-- Whether a word is a journal-class target, and if so whether with a line stamp (R102, R132, R180, R335, R411, R452, R462, R502,
R525, R533, R573, R602). TOP_CTRL, TRL_CFG and LDG_CTRL, of which only some bits are, are not among them. -/
def journalClass (a : Nat) : Option Bool :=
  let named (b : Bool) : Option Bool := if b then some false else none
  match blockOf a with
  | .ref | .pln | .salvo | .rckShared | .mvh | .pkt => some false
  | .ctn => named (decide (0x40 ≤ a % 0x4000) && decide (a % 0x4000 < 0x50))
  | .xpt => named ((decide (XPT_PLAN_CASK 0 ≤ a) && decide (a ≤ XPT_PLAN_CASK 7)) || (decide (XPT_IN_CFG 0 ≤ a) && decide (a < XPT_IN_STAT 0))
      || (decide (XPT_OUT_PLAN 0 ≤ a) && decide (a < XPT_MAP_RD 0)))
  | .clr => named (a == CLR_ADM_BUDGET || a == CLR_ADM_HEADCAP)
  | .aud => named (decide (AUD_GEN_CFG 0 ≤ a) && decide (a < AUD_SRC_STAT 0))
  | .i2s => named (a < I2S_EVENT && (a % 0x20 == 0 || a % 0x20 == 8))
  | .ptp => named (decide (a < PTP_DT 0) && [0, 4, 0x10, 0x24, 0x28, 0x2C, 0x40, 0x44].contains (a % 0x100))
  | .prf => named (a == PRF_CFG || (decide (PRF_RMASK 0 ≤ a) && decide (a < PRF_REC_SEL)))
  | .fab => named (a == FAB_CFG || (regAt a).any fun e => e.1.base == FAB_RSV_CFG 0 || e.1.base == FAB_RMAP 0 || e.1.base == FAB_AMAP 0)
  | .rck r => named (inRckMemory a || a == RCK_CTRL r || a == RCK_CFG r || a == RCK_TRAP_VEC r
      || (decide (RCK_GREG r 0 ≤ a) && decide (a ≤ RCK_GREG r 31)))
  | .mbx =>
    match mbxChannel a with
    | some c =>
      let toRacker := match chanReceiver c with
        | .racker _ => true
        | _ => false
      if toRacker && (inSlots a || a == MBX_POST c) then some true else none
    | none => if decide (MBX_DB 0 ≤ a) && decide (a < MBX_DB 16) && a % 0x10 == 8 then some true else none
  | _ => none

/-- Whether a journaled write of a register waits for its stamp. -/
def State.modeWaits (s : State) (a : Nat) : Bool := s.twn.waiting.any fun e => e.kind == 1 && e.words.head? == some a

/-- The bits of a register of which only some are journal-class: FREEZE and THAW, TRL_CFG.MODE where it changes or an
earlier write of it waits (R102), LDG_CTRL.EPOCH. -/
def State.journalBits (s : State) (a v : Nat) : Nat :=
  if a = TOP_CTRL then v % 4
  else if a = LDG_CTRL then v % 2
  else match blockOf a with
    | .trl => if a % 0x4000 = 0 ∧ (v % 4 ≠ (s.word a).toNat % 4 ∨ s.modeWaits a) then 3 else 0
    | _ => 0

/-- Whether writes are journaled or, on a device that does not hold the claim, ignored: in a twin pair (R533, R536, R537). -/
def State.journalsFor (s : State) (m : Nat) : Bool := s.paired && journalMaster m

/-- The data memory of rackers, as IMAGE records carry it (R542). -/
def State.memoryImage (s : State) (rackers : List Nat) : Image :=
  { words := s.regs.filter fun e => rackers.any fun r => decide (RCK_DM r 0 ≤ e.1) && decide (e.1 < RCK_DM r 4096) }

/-- Before the stamp of a journaled START of unsynced rackers, or of a THAW that starts them, the active sends their data memory
(R542). -/
def State.sendMemories (a : Nat) (words : List Nat) (s : State) : State :=
  let starts := (indicesWhere 16 fun r => bit (s.rd TWN_STATUS_UNSYNCED) r).filter fun r =>
    (a == RCK_CTRL r && bit (words.headD 0) 0) || (a == TOP_CTRL && bit (words.headD 0) 1 && s.on (RCK_CFG_AUTOSTART r))
  if starts.isEmpty then s
  else
    let m := s.memoryImage starts
    s.sendRecord 3 (2 * m.words.length) (.image m)

/-- A journal-class write of words at consecutive offsets from `a` on: into the journal on the claim holder, ignored on its twin. -/
def State.journalWrite (a : Nat) (line : Bool) (words : List Nat) (s : State) : State :=
  if s.top.claim then (s.journal 1 (if line then s.lineStamp else s.frameStamp) (a :: words)).sendMemories a words
  else s.raise TWN_EVENT_SB_WRITE

/-- The write of one word of an access. -/
def State.writeWord (m a mask v : Nat) (s : State) : State :=
  if s.journalsFor m && (s.unreached m a).isNone then
    match journalClass a with
    | some line => s.journalWrite a line [mergeBits mask v (s.word a).toNat]
    | none =>
      if s.journalBits a v = 0 then s.putWord m a mask v
      else
        let s1 := s.journalWrite a false [v]
        if a = TOP_CTRL then s1.putWord m a mask (v - v % 4)
        else if a = LDG_CTRL then s1.putWord m a mask (v - v % 2)
        else s1.putWord m a mask (v - v % 4 + (s.word a).toNat % 4)
  else s.putWord m a mask v

/-- A word that the journal has carried takes effect at its stamp; of a register of which only some bits are journaled, those bits. -/
def State.applyWord (m a v : Nat) (s : State) : State :=
  match blockOf a with
  | .top => s.putWord m a (2 ^ 32 - 1) (v % 4)
  | .ldg => s.putWord m a (2 ^ 32 - 1) (v % 2)
  | .trl => s.modeWrite ((a - TRL_CFG 0) / 0x4000) (v % 4)
  | _ => s.putWord m a (2 ^ 32 - 1) v

/-! ## Accesses -/

/-- Whether a write has to go into the journal (R533). -/
def State.needsJournal (s : State) (m : Nat) (ws : List (Nat × Nat × Nat)) : Bool :=
  s.journalsFor m && s.top.claim && ws.any fun e =>
    (s.unreached m e.1).isNone && ((journalClass e.1).isSome || s.journalBits e.1 e.2.2 != 0)

/-- The one journal class of all the words of a write, where they have one. -/
def commonClass (ws : List (Nat × Nat × Nat)) : Option Bool :=
  match ws with
  | [] => none
  | e :: l => if l.all fun x => journalClass x.1 == journalClass e.1 then journalClass e.1 else none

/-- A write that nothing refuses acts: words of one journal class enter the journal together, others act one by one in address
order (R533, R625, R638). -/
def State.actWrite (m addr len data : Nat) (s : State) : State :=
  if apertureBase ≤ addr then s.writeBytes len addr data
  else
    let ws := accessWords addr len data
    match commonClass ws with
    | some line =>
      if s.journalsFor m && ws.all fun e => (s.unreached m e.1).isNone then
        s.journalWrite ((ws.headD (0, 0, 0)).1) line (ws.map fun e => mergeBits e.2.1 e.2.2 (s.word e.1).toNat)
      else s.forL ws fun e s => s.writeWord m e.1 e.2.1 e.2.2
    | none => s.forL ws fun e s => s.writeWord m e.1 e.2.1 e.2.2

/-- The words of a read, put together in address order. -/
def State.readWords (m addr len : Nat) : List (Nat × Nat × Nat) → State → State × Nat
  | [], s => (s, 0)
  | (a, mask, _) :: l, s =>
    let (s, v) := s.getWord m a
    let (s, w) := State.readWords m addr len l s
    let x := v &&& mask
    (s, (if addr ≤ a then x * 2 ^ (8 * (a - addr)) else x / 2 ^ (8 * (addr - a))) + w)

/-- A read that nothing refuses. -/
def State.actRead (m addr len : Nat) (s : State) : State × Nat :=
  if apertureBase ≤ addr then s.readBytes len addr else s.readWords m addr len (accessWords addr len 0)

/-- What a refused read returns: all ones to the host (R624), 0 under R593, R594 and to the other masters. -/
def refusedData (m len : Nat) (r : Refused) : Nat :=
  match r with
  | .cause _ => if m = 1 ∨ m = 2 then 2 ^ (8 * len) - 1 else 0
  | _ => 0

/-- Carry out an access: the state after it, and whether it got an error response. -/
def State.carryOut (x : Access) (s : State) : State × Bool :=
  let r := s.verdictOn x.master x.write x.addr x.len
  if r ≠ .no then
    let s := s.refuse x.master x.write x.addr r
    (if x.write then s else { s with lastRead := refusedData x.master x.len r }, true)
  else if x.write then (s.actWrite x.master x.addr x.len x.data, false)
  else
    let (s, v) := s.actRead x.master x.addr x.len
    ({ s with lastRead := v }, false)

/-- Whether an access has to wait: an earlier one of its master stalls, or it is itself a journal-class write that finds the journal
full (R538, R641, R642). -/
def State.stalls (s : State) (x : Access) : Bool :=
  (s.twn.stalled.any fun e => e.master == x.master)
    || (x.write && s.journalFull && decide (x.addr < 0x4000000) && s.verdictOn x.master true x.addr x.len == .no
        && s.needsJournal x.master (accessWords x.addr x.len x.data))

/-- The accesses that wait; MTX_MCFG.OUT shows how many a master has outstanding, up to 32; those beyond wait at the master (R640). -/
def State.setStalled (l : List Access) (s : State) : State :=
  let all := ((s.twn.stalled ++ l).map (·.master)).eraseDups
  ({ s with twn := { s.twn with stalled := l } } : State).forL all fun m s =>
    s.wr (MTX_MCFG_OUT m) (min 32 (l.filter fun e => e.master == m).length)

/-- Whether master `m` waits, over at most `k` masters, for master `goal`: one whose accesses stall waits for room in the journal, which the mirror
engine, master 20, empties (R538). -/
def State.waitsFor (s : State) (goal : Nat) : Nat → Nat → Bool
  | 0, m => m == goal
  | k + 1, m => m == goal || ((s.twn.stalled.any fun e => e.master == m) && s.waitsFor goal k 20)

/-- Whether the wait of an access that has to wait would close a cycle: it waits for the mirror engine, which waits for its master (R643). -/
def State.closesCycle (s : State) (x : Access) : Bool := s.waitsFor x.master 22 20

/-- An access over the control matrix: the state after it, and whether it got an error response. It is of 1 to 512 bytes (Table 16-1,
R625). -/
def State.access (x : Access) (s : State) : State × Bool :=
  if !s.busOpen x.master || x.len == 0 || decide (512 < x.len) then (s, false)
  else if s.stalls x then
    ((if s.closesCycle x then s.raise MTX_EVENT_CYCLE_HOLD else s).setStalled (s.twn.stalled ++ [x]), false)
  else s.carryOut x

/-- A write of a master. -/
def State.busWrite (m addr len data : Nat) (s : State) : State :=
  (s.access { master := m, write := true, addr := addr, len := len, data := data }).1

/-- A read of a master; State.lastRead takes what it returns. -/
def State.busRead (m addr len : Nat) (s : State) : State := (s.access { master := m, write := false, addr := addr, len := len }).1

/-- Accesses that stalled go on, oldest first, while nothing stalls them (R538); `n` bounds their number. -/
def State.releaseStalled : Nat → State → State
  | 0, s => s
  | n + 1, s =>
    match s.twn.stalled with
    | [] => s
    | x :: l =>
      let s1 : State := { s with twn := { s.twn with stalled := l.filter fun e => e.master != x.master } }
      if s1.stalls x then s
      else
        State.releaseStalled n ((s.setStalled l).carryOut x).1

end Sys2Proof.Machine
end

