-- ==== Sys2Proof/Machine/Boot.lean ====
section
/-! DEFINITION. The start of the management controller: the boot ROM, the migration of the store by an image on trial, and the store's
application (R320, R575 to R578, R606, R610, R613). -/

namespace Sys2Proof.Machine

/-! ## Records of the store -/

/-- The 32-bit words from a byte position of a list. -/
def payloadWords (l : List Nat) (a n : Nat) : List Nat := (rangeFrom 0 (n / 4)).map fun k => leAt l (a + 4 * k) 4

/-- Words written to consecutive words of BAR0. -/
def wordsFrom (a : Nat) : List Nat → List (Nat × Nat)
  | [] => []
  | v :: l => (a, v) :: wordsFrom (a + 4) l

/-- The BAR0 address that a record of a load file begins at (Table 08-13); none for a record that the table does not admit. -/
def loadTarget (type racker offset len : Nat) : Option Nat :=
  if len % 4 ≠ 0 ∨ (type = 3 ∧ len % 8 ≠ 0) then none
  else if type = 1 ∧ racker < 16 ∧ offset + len ≤ 65536 ∧ offset % 4 = 0 then some (RCK_PM racker 0 + offset)
  else if type = 2 ∧ racker < 16 ∧ offset + len ≤ 16384 ∧ offset % 4 = 0 then some (RCK_DM racker 0 + offset)
  else if type = 3 ∧ racker = 0xFF ∧ offset + len ≤ 524288 ∧ offset % 8 = 0 then some (RCK_SALVO 0 + offset)
  else if type = 4 ∧ racker < 16 ∧ offset = 0 then some (RCK_CFG racker)
  else if type = 5 ∧ racker < 16 ∧ offset = 0 then some (RCK_TRAP_VEC racker)
  else if type = 6 ∧ racker = 0xFF ∧ offset % 4 = 0 then some (0x3080000 + offset)
  else none

/-- The writes of so many records of a load file, none where one of them fails its CRC or is not admitted. -/
def loadRecords : Nat → List Nat → Option (List (Nat × Nat))
  | 0, l => if l.isEmpty then some [] else none
  | n + 1, l =>
    let len := leAt l 8 4
    if l.length < 16 + len ∨ !recordGood (l.take (16 + len)) ∨ leAt l 2 2 ≠ 0 then none
    else match loadTarget (l.getD 0 0) (l.getD 1 0) (leAt l 4 4) len with
      | none => none
      | some a => (loadRecords n (l.drop (16 + len))).map fun w => wordsFrom a (payloadWords l 12 len) ++ w

/-- The writes of a racking load file in file order, none where it fails R320. -/
def loadFile (l : List Nat) : Option (List (Nat × Nat)) :=
  if l.length < 16 ∨ l.take 6 ≠ [0x46, 0x52, 0x4A, 0x4C, 1, 0] ∨ leAt l 8 4 ≠ 0x00B01152 ∨ !recordGood (l.take 16) then none
  else loadRecords (leAt l 6 2) (l.drop 16)

/-- The pairs of a register list. -/
def pairsOf : List Nat → List (Nat × Nat)
  | a :: v :: l => (a, v) :: pairsOf l
  | _ => []

/-- The payload of a store record, its trailing CRC left out (Table 15-3). -/
def recordPayload (l : List Nat) : List Nat := (l.drop 8).take (leAt l 4 4)

/-- The writes that a record of the store makes, `other` those of a record of type 3 or 4, whose payload the spec does not lay out; none
for a record that is skipped and logged (Table 15-3). -/
def recordWrites (l : List Nat) (other : List (Nat × Nat)) : Option (List (Nat × Nat)) :=
  if !recordGood l then none
  else
    let p := recordPayload l
    match leAt l 0 2 with
    | 1 => loadFile p
    | 2 => some (pairsOf (payloadWords p 0 p.length))
    | 3 | 4 => some other
    | _ => some []

/-- The controller writes the store to the device, in store order; `other` gives the writes of its records of types 3 and 4, by their
position (R574, R578). -/
def State.applyStore (other : List (Nat × List (Nat × Nat))) (s : State) : State :=
  s.forL (storeList s.nor.store).zipIdx fun e s =>
    match recordWrites e.1 ((pairGet other e.2).getD []) with
    | some w => s.forL w fun x s => s.busWrite 0 x.1 4 x.2
    | none => s.capture 0x3A (eventOf 9 e.2) e.2

/-! ## The start -/

/-- The slot that the boot ROM starts: the ACTIVE one, or the other where that does not verify; a restart after a fall-back has no other
(R577, R613). -/
def State.bootSlot (s : State) : Option Nat :=
  let r := s.bootRec
  let back := s.rd MGT_STATUS_STATE == 3 && r.previous == r.slot && (s.nor.boot0.isSome || s.nor.boot1.isSome)
  if s.imageReason r.slot = 0 then some r.slot
  else if !back && s.imageReason (1 - r.slot) == 0 then some (1 - r.slot)
  else none

/-- At its first start the image on trial replaces the store by its migrated form (R610). -/
def State.migrate (store : List Nat) (dropped : Bool) (s : State) : State :=
  { s with nor := { s.nor with store := store }, mgt := { s.mgt with migrated := true, dropped := dropped } }

/-- The registers of a controller whose image in a slot starts. -/
def State.showImage (slot : Nat) (s : State) : State :=
  let h := s.slotBytes slot 0 16
  let s := ((s.wr MGT_STATUS_STATE 1).wr MGT_STATUS_SLOT slot).wr MGT_VERSION_VERSION (leAt h 12 4)
  (s.bump MGT_STATUS_BOOT).wr UPD_KEYS_RUNNING (h.getD 10 0)

/-- The image in a slot starts on trial: the health window goes on, or where a device reset has ended it starts now (R608, R609). -/
def State.resumeTrial (slot crashes : Nat) (store : List Nat) (dropped : Bool) (s : State) : State :=
  let s := if s.rd UPD_STATUS_STATE = 5 then s else { s with mgt := { s.mgt with window := s.now } }
  let s := ((s.wr MGT_STATUS_TRIAL 1).wr UPD_STATUS_STATE 5).wr UPD_STATUS_CRASHES crashes
  let s := (s.wr UPD_STATUS_SLOT_NEW slot).wr UPD_SVN_IMAGE_SVN ((s.slotBytes slot 0 16).getD 9 0)
  (s.when (!s.mgt.migrated) (State.migrate store dropped)).trackHealth

/-- The first start since device reset logs banks of OTP that hold data and do not qualify, and PLAN entries of the boot record in force
that are marked used and not allowed (R615). -/
def State.logBanks (s : State) : State :=
  let s := s.forN 4 fun b s =>
    let l := s.bootBank b
    if (l.any fun x => x != 0) && !bankGood l then s.capture 0x3A (eventOf 10 b) b else s
  match s.bootRecord with
  | some l => s.forN 8 fun p s =>
    let x := l.getD (88 + p) 0
    if bit x 7 && !rateAllowed (x / 2 % 8) (x / 16 % 8) then s.capture 0x3A (eventOf 12 p) p else s
  | none => s

/-- Whether the device is in STARTUP or DEFAULT, the modes in which an image applies the store (R578). -/
def State.storeMode (s : State) : Bool := s.mode == .startup || s.mode == .default

/-- The image in a slot starts, and then sets MGT_READY (R53, R577, R578). -/
def State.startImage (slot : Nat) (store : List Nat) (dropped : Bool) (other : List (Nat × List (Nat × Nat))) (s : State) : State :=
  let r := s.bootRec
  let s := s.when (slot != r.slot) fun s =>
    ((s.setBootRec { slot := slot, previous := r.slot }).wr UPD_STATUS_STATE 0).capture 0x3A (eventOf 4 slot) slot
  let s := s.showImage slot
  let s := if s.bootRec.trial then s.resumeTrial slot s.bootRec.crashes store dropped else s.wr MGT_STATUS_TRIAL 0
  let s := s.capture 0x3A (eventOf 11 slot) (s.rd MGT_STATUS_BOOT)
  let s := s.when s.storeMode fun s => s.applyStore other
  let s := s.when (s.rd MGT_STATUS_BOOT == 1) State.logBanks
  let s := s.milestone 5
  ({ s with top := { s.top with mgtFrame := s.frame0 } } : State).wr TOP_STATUS_MGT_READY 1

/-- BOOT: once the OTP is loaded, the boot ROM verifies and starts an image, or enters recovery (R577). `store` is the store as the image on trial migrates it at
its first start, and `dropped` says that the migration dropped a record (R610); `other`: see `State.applyStore`. -/
def execBoot (store : List Nat) (dropped : Bool) (other : List (Nat × List (Nat × Nat))) (s : State) : Host.Outcome State Fault Refusal :=
  .next (
    let st := s.rd MGT_STATUS_STATE
    if s.top.inReset ∨ !bit s.top.reached 1 ∨ (st ≠ 0 ∧ st ≠ 3) then s
    else match s.bootSlot with
      | some slot => s.startImage slot store dropped other
      | none => s.wr MGT_STATUS_STATE 2)

end Sys2Proof.Machine
end

