-- ==== Sys2Proof/Machine/Pins.lean ====
section
/-! DEFINITION. GPI, PPS and the JTAG port (R279, R534, R660, R662, R663, R675, R676). -/

namespace Sys2Proof.Machine

/-! ## GPI -/

/-- GPI levels reach the rackers: RCK_GPI, and the event bits of the pins that change (R279, Table 07-10). -/
def State.applyGpi (levels : Nat) (s : State) : State :=
  let changed := s.rd RCK_GPI_VALUE ^^^ levels % 2 ^ 16
  if changed = 0 then s else (s.wr RCK_GPI_VALUE levels).rckEventAll changed

/-- The claim holder of a twin pair journals a change of its GPI with a line stamp (R534). -/
def State.journalGpi (s : State) : State := s.journal 2 s.lineStamp [s.pin.gpi]

/-- GPI_CHANGE: pin `k` has been sampled at a level ten consecutive times (R534, R660). -/
def execGpiChange (k : Fin 16) (level : Bool) (s : State) : Host.Outcome State Fault Refusal :=
  .next (
    if bit s.pin.gpi k = level then s
    else
      let g := s.pin.gpi ^^^ 2 ^ k.val
      let s := { s with pin := { s.pin with gpi := g, gpiAt := s.now } }
      if s.journals then s.journalGpi else s)

/-- GPI_APPLIED: the first PLAN0 line boundary after sampling; in a twin pair the claim holder journals levels that it has not, and the
stamp applies them (R279, R534, R660). -/
def execGpiApplied (s : State) : Host.Outcome State Fault Refusal :=
  .next (
    let p := s.pos 0
    if s.top.inReset ∨ s.rd RCK_GPI_VALUE = s.pin.gpi then s
    else if s.paired then
      if s.top.claim && !s.twn.waiting.any fun e => e.kind == 2 then s.journalGpi else s
    else if (s.planH 0).lineStart p.frame p.line ≤ s.pin.gpiAt then s
    else s.applyGpi s.pin.gpi)

/-! ## PPS -/

/-- The time that PPS_OUT follows, in ns: of the lowest-numbered instance in RATE_LOCK, or device time (R662). -/
def State.ppsTime (s : State) : Int :=
  match (rangeFrom 0 36).find? fun n => s.rateLocked n with
  | some n => (s.deviceNs : Int) + (s.ptpH n).offset
  | none => s.deviceNs

/-- PPS_OUT_EDGE: a whole second of the time followed, within 10 ns; an edge less than 0.5 s after the last one is omitted (R662). The
pin is low until t_USE (Table 17-12). -/
def execPpsOutEdge (s : State) : Host.Outcome State Fault Refusal :=
  .next (
    let frac := (s.ppsTime + 10) % 1000000000
    let soon := match s.pin.ppsOut with
      | some t => decide (s.now < t + 500 * ms)
      | none => false
    if s.top.inReset ∨ !s.on TOP_STATUS_USE ∨ decide ((20 : Int) < frac) ∨ soon = true then s
    else ({ s with pin := { s.pin with ppsOut := some s.now } } : State).emit .pps)

/-- By how much an edge now differs from the nearest rising edge of PPS_OUT, in ns: the last one, or that of the next whole second of the time
followed; within 20 ns of a whole second the edge of that second counts (R662, R663). -/
def State.ppsDiff (s : State) : Int :=
  let f := s.ppsTime % 1000000000
  let ahead := f - 1000000000
  let last := match s.pin.ppsOut with
    | some t => (((s.now - t) / ns : Nat) : Int)
    | none => 1000000000
  let behind := if f ≤ 20 then min f last else last
  clampSigned 32 (if behind ≤ -ahead then behind else ahead)

/-- Whether an edge of PPS_IN now is the first after 3 s without one (R663). -/
def State.ppsFirst (s : State) : Bool :=
  match s.pin.ppsIn with
  | some u => decide (u + 3 * sec ≤ s.now)
  | none => decide (s.top.t0 + 3 * sec ≤ s.now)

/-- PPS_IN_EDGE: a rising edge of PPS_IN is compared with the nearest rising edge of PPS_OUT, and logged where it is more than 1 µs off
and the previous one was not, or where it is the first after 3 s (R663). -/
def execPpsInEdge (s : State) : Host.Outcome State Fault Refusal :=
  .next (
    let d := s.ppsDiff
    let bad := decide (1000 < d) || decide (d < -1000)
    let log := (bad && !s.pin.ppsBad) || s.ppsFirst
    let s := { s with pin := { s.pin with ppsIn := some s.now, ppsBad := bad } }
    if log then s.capture 0 0x90 (codeOf 32 d) else s)

/-! ## JTAG -/

/-- OTP policy bit DBG_LOCK (R675, R617). -/
def State.dbgLock (s : State) : Bool := bit (s.otpByte 0xC1) 4

/-- An instruction is loaded; the bypass register captures 0. -/
def State.jtagIr (code : Nat) (s : State) : State := { s with jtag := { s.jtag with ir := code, dr := 0 } }

/-- The IDCODE register (Table 17-17): the manufacturer identity is the low 11 bits of OTP bytes 0x0C2 and 0x0C3. -/
def State.idcode (s : State) : Nat := 1 * 2 ^ 28 + 0x1152 * 2 ^ 12 + s.otpField 0xC2 2 % 2 ^ 11 * 2 + 1

/-- TEST_LOGIC_RESET: the instruction is IDCODE (R675). -/
def execTestLogicReset (s : State) : Host.Outcome State Fault Refusal := .next (s.jtagIr 1)

/-- EXTEST: the 1.8 V outputs take the boundary-scan cells, which capture the pins' levels and are then loaded (R675). -/
def execExtest (levels cells : Nat) (s : State) : Host.Outcome State Fault Refusal :=
  .next { s.jtagIr 0 with jtag := { (s.jtagIr 0).jtag with captured := levels, cells := cells } }

/-- IDCODE: the data register captures the identity (R675). -/
def execIdcode (s : State) : Host.Outcome State Fault Refusal :=
  .next { s.jtagIr 1 with jtag := { (s.jtagIr 1).jtag with dr := s.idcode } }

/-- SAMPLE_PRELOAD: the boundary-scan cells capture the pins' levels and are loaded; the pins are not disturbed (R675). -/
def execSamplePreload (levels cells : Nat) (s : State) : Host.Outcome State Fault Refusal :=
  .next { s.jtagIr 2 with jtag := { (s.jtagIr 2).jtag with captured := levels, cells := cells } }

/-- CLAMP: the 1.8 V outputs hold the boundary-scan values (R675). -/
def execClamp (s : State) : Host.Outcome State Fault Refusal := .next (s.jtagIr 3)

/-- HIGHZ: the 1.8 V outputs are high-impedance (R675). -/
def execHighz (s : State) : Host.Outcome State Fault Refusal := .next (s.jtagIr 4)

/-- BYPASS (R675). -/
def execBypass (s : State) : Host.Outcome State Fault Refusal := .next (s.jtagIr 0xFF)

/-- DEVRESET: an entry to Run-Test/Idle with the instruction resets the device with cause 5; under DBG_LOCK it acts as BYPASS (R675). -/
def execDevreset (s : State) : Host.Outcome State Fault Refusal :=
  .next (
    let t := s.jtagIr 0x10
    if s.dbgLock ∨ s.top.inReset then t else t.deviceReset 5)

/-- An Update-DR of DBGACC with a command: it starts unless an access is in progress (R676). -/
def State.dbgStart (write : Bool) (addr data : Nat) (s : State) : State :=
  let s := s.jtagIr 0x20
  if s.dbgLock then s
  else if s.jtag.busy.isSome then { s with jtag := { s.jtag with ignored := true } }
  else { s with jtag := { s.jtag with busy := some (write, addr, data) } }

/-- DBGACC_READ: CMD 1 starts a read of word `w` of the matrix as master M21 (R676). -/
def execDbgaccRead (w : Fin 8589934592) (s : State) : Host.Outcome State Fault Refusal := .next (s.dbgStart false (4 * w) 0)

/-- DBGACC_WRITE: CMD 2 starts a write of word `w` of the matrix as master M21 (R676). -/
def execDbgaccWrite (w : Fin 8589934592) (v : Word) (s : State) : Host.Outcome State Fault Refusal := .next (s.dbgStart true (4 * w) v.toNat)

/-- DBGACC_DONE: the access in progress completes, unless its port is held by a journal stall (R676, R642). -/
def execDbgaccDone (s : State) : Host.Outcome State Fault Refusal :=
  .next (
    match s.jtag.busy with
    | none => s
    | some (write, addr, data) =>
      let x : Access := { master := 21, write := write, addr := addr, len := 4, data := data }
      if s.busOpen 21 && s.stalls x then s
      else
        let s0 : State := { s with jtag := { s.jtag with busy := none, addr := addr, data := 0, status := 2 } }
        if !s.busOpen 21 then s0
        else
          let (s1, err) := s0.carryOut x
          { s1 with jtag := { s1.jtag with status := if err then 2 else 0, data := if write || err then 0 else s1.lastRead } })

/-- DBGACC_CAPTURE: Capture-DR loads STATUS, the address of the last access and the data of a completed read (R676). -/
def execDbgaccCapture (s : State) : Host.Outcome State Fault Refusal :=
  .next (
    let j := s.jtag
    if s.dbgLock then s.jtagIr 0x20
    else
      let status := if j.busy.isSome || j.ignored then 1 else j.status
      let addr := match j.busy with
        | some (_, a, _) => a
        | none => j.addr
      { s with jtag := { j with ir := 0x20, ignored := false, dr := status + addr * 2 ^ 2 + j.data * 2 ^ 37 } })

end Sys2Proof.Machine
end

