-- ==== Sys2Proof/Machine/Takeover.lean ====
section
/-! DEFINITION. Shadow execution of unsynced rackers, the control token, the fence and the takeover (R529, R540 to R547, R551, R552,
R554). -/

namespace Sys2Proof.Machine

/-! ## Frame numbers of the twin -/

/-- The frame of plan `p` that carries a number of 32 bits and lies nearest to the one now. -/
def State.nearFrame (s : State) (p f : Nat) : Nat :=
  let k := s.frameOf p
  ((k : Int) + signedOf 32 (wrap32 (f + 2 ^ 32 - wrap32 k))).toNat

/-- The instant of a stamp: sample 0 of its line of PLAN0 (R535). -/
def State.stampAt (s : State) (frame line : Nat) : Nat := (s.planH 0).lineStart (s.nearFrame 0 frame) line

/-- Whether the frame of a plan that `e` was recorded in has ended. -/
def State.adoptDue (s : State) (e : Nat × Nat × Nat) : Bool := decide (e.2.2 < s.frameOf e.1)

/-- Plans whose frame boundary has come adopt the active's frame numbers (R540, R549). -/
def State.adoptFrames (s : State) : State :=
  let due := s.twn.adopt.filter s.adoptDue
  if due.isEmpty then s
  else
    let s := { s with twn := { s.twn with adopt := s.twn.adopt.filter fun e => !s.adoptDue e } }
    (s.forL due fun e s => s.shiftFrames e.1 e.2.1).raise TWN_EVENT_PLAN_ADOPT

/-- Plan `p` has to change its frame number by `d` at its next boundary; 0 takes the change back. -/
def State.setAdopt (p d : Nat) (s : State) : State :=
  let was := s.twn.adopt.find? fun e => e.1 == p
  let rest := s.twn.adopt.filter fun e => e.1 != p
  let at_ := match was with
    | some e => e.2.2
    | none => s.frameOf p
  { s with twn := { s.twn with adopt := if d = 0 then rest else rest ++ [(p, d, at_)] } }

/-! ## Unsynced rackers -/

/-- Rackers become unsynced on the standby, which halts them; the active marks them too, for it has to send what they do (R540,
R541). -/
def State.unsync (mask : Nat) (s : State) : State :=
  let s := s.wr TWN_STATUS_UNSYNCED (s.rd TWN_STATUS_UNSYNCED ||| mask)
  if s.top.claim then s else s.forL (indicesWhere 16 fun r => bit mask r) fun r s => s.haltRacker r

/-- The groups of an OPREC in this device's numbering of frames. -/
def State.localGroups (s : State) (groups : List PlanGroup) : List PlanGroup :=
  groups.map fun g => { g with frame := s.nearFrame g.plan g.frame, retired := s.now }

/-- An operation of a racker of the active lands as assigned; its result goes into RCK_RESULT and RCK_LAND (R541). -/
def State.landRecord (r result : Nat) (groups : List PlanGroup) (s : State) : State :=
  let groups := s.localGroups groups
  let s := s.wr (RCK_RESULT_RESULT r) result
  let s := s.pendMasks (groups.map (·.changes)).flatten
  let s := s.forL groups fun g s =>
    ((s.wr (RCK_LAND_F_FRAME r g.plan) (wrap32 g.frame)).wr (RCK_LAND_L_LINE r g.plan) g.line).wr (RCK_LAND_L_PEND r g.plan) 1
  (if groups.isEmpty then s else s.setRckH r { s.rckH r with ops := (s.rckH r).ops ++ [groups] }).showRck r

/-- The words of a staged set go into the staged registers of a head. -/
def State.stageWords (h : Nat) (words : List Nat) (s : State) : State :=
  let put (a : Nat) (k : Nat) (s : State) : State := s.setWord a (BitVec.ofNat 32 (words.getD k 0))
  let s := ((s |> put (MVH_STAGE h) 0) |> put (MVH_BG h) 1) |> put (MVH_NOSIG h) 2
  let s := s.forN 4 fun k s => put (MVH_PALETTE h k) (3 + k) s
  s.forN 8 fun j s => s.forN 8 fun k s => put (MVH_LSRC h j + 4 * k) (7 + 8 * j + k) s

/-- An effect of a racker of the active takes place (R541, R571). The kinds are those of `State.effect`. -/
def State.applyEffect (r kind : Nat) (words : List Nat) (s : State) : State :=
  let w (k : Nat) : Nat := words.getD k 0
  match kind with
  | 0 => s.writeFence (w 0) (w 1)
  | 1 => s.driveGpo r (w 0) (w 1)
  | 2 => if w 0 < 96 then (s.leaseLocal r (w 0) (w 1)).1 else s
  | 3 =>
    if w 0 < 96 then (s.freeLocal r (w 0)).1
    else if s.on (RCK_LEASE_H_HELD (w 0)) && s.rd (RCK_LEASE_H_HOLDER (w 0)) == r then s.endLease (w 0) .delivered else s
  | 4 => match s.postChannel r (w 0) with
    | some c => s.ringChannel r c (w 0) (w 1)
    | none => s
  | 5 => (s.addMark (w 0) r (w 1) (w 2)).1
  | 6 => s.requestEpoch (s.nearFrame 0 (w 0))
  | 7 => ((s.stageWords (w 0) (words.drop 1)).headCommit (w 0) s.now).1
  | 8 => s.sendSlot (w 0) 0 (words.drop 1)
  | _ => if s.rd (MBX_CH_COUNT (352 + r)) = 0 then s else s.freeSlot (352 + r)

/-! ## Taking over -/

/-- Held OPRECs of a catch-up that will not be installed: their operations land as assigned (R551). -/
def State.landHeld (s : State) : State :=
  s.forL s.twn.held fun x s => match x with
    | .oprec r result groups => s.landRecord r result groups
    | .effect .. => s

/-- A standby takes over: it enters TAKEOVER and takes the token; one that has not reached its install point discards the image and
keeps its own state (R544, R551). Journal numbers go on after the last entry received. -/
def State.takeOver (s : State) : State :=
  let unsynced := !s.on TWN_STATUS_SYNC
  let s := if unsynced then s.landHeld else s
  let seq := match s.twn.waiting.getLast? with
    | some e => e.seq
    | none => s.rd TWN_JSEQ_SEQ
  let s := (s.wr TWN_JSEQ_SEQ seq).enterTakeover
  if unsynced then
    ({ s with twn := { s.twn with wants := false, stamp := none, image := none, whole := none, held := [] } } : State).raise
      TWN_EVENT_TAKEOVER_UNSYNC
  else s

/-- A STANDBY that is not fenced sees its twin relinquish (R544, R554). -/
def State.relinquishSeen (s : State) : State :=
  if s.mode = .standby ∧ !s.on TWN_STATUS_FENCED then ((s.raise TWN_EVENT_RELINQ_SEEN).takeOver).inheritTwin else s

/-- Whether the twin holds the control token, by this device's copy of lease 255 (R529). -/
def State.twinHolds (s : State) : Bool :=
  s.on (RCK_LEASE_H_HELD 255) && s.rd (RCK_LEASE_H_HOLDER 255) == holderPeer && !s.leaseDue 255

/-! ## The control token -/

/-- The modes in which the token is held and renewed (R529, R56, R62). -/
def State.renews (s : State) : Bool :=
  s.twinEn && (match s.mode with
    | .quiesce => s.holdsToken && s.top.b1.isNone
    | _ => s.triggerMode == .active || s.triggerMode == .takeover)

/-- TOKEN_RENEW: at a PLAN0 frame boundary the twin hardware renews the token (R529). -/
def execTokenRenew (s : State) : Host.Outcome State Fault Refusal :=
  .next (if s.renews && !s.on TWN_STATUS_FENCED then s.takeToken else s)

/-- The PLAN0 frame at whose start the STANDBY's copy of the token lapses. A STANDBY that holds no copy, and that has had no STATE since
its entry or whose twin is STANDBY too, counts TOKEN frames from its entry (R529, R545). -/
def State.lapseFrame (s : State) : Option Nat :=
  if s.on (RCK_LEASE_H_HELD 255) && s.rd (RCK_LEASE_H_HOLDER 255) == holderPeer then
    some (s.nearFrame 0 (s.rd (RCK_LEASE_E_EXPIRY 255)))
  else
    let silent := match s.twn.stateAt with
      | some t => decide (t < s.twn.standbyAt)
      | none => true
    if silent || s.rd TWN_STATUS_PEER_MODE == 4 then some (s.twn.standbyFrame + s.rd TWN_CFG_TOKEN) else none

/-- Whether this STANDBY has to fence its twin now (R545). -/
def State.fenceDue (s : State) : Bool :=
  let wait := if s.rd TWN_STATUS_PEER_MODE = 4 ∧ s.on TOP_STRAP_TWIN_SIDE then 1 else 0
  s.twinEn && s.mode == .standby && !s.on TWN_STATUS_FENCED && !s.on TWN_STATUS_FENCING && s.rd TWN_STATUS_PEER_MODE != 2
    && (match s.lapseFrame with
      | some f => decide (f + wait ≤ s.frame0)
      | none => false)

/-- TOKEN_LAPSE: the STANDBY's copy of the token lapses and it asserts TWIN_FENCE_OUT; a token that this device itself no longer renews
ends (R529, R545, R550). -/
def execTokenLapse (s : State) : Host.Outcome State Fault Refusal :=
  .next (
    if s.holdsToken then
      (if s.leaseDue 255 && !s.renews then (s.endLease 255 .dropped).wr TWN_STATUS_TOKEN 0 else s)
    else if s.fenceDue then
      let s := if s.on (RCK_LEASE_H_HELD 255) then s.endLease 255 .dropped else s
      let s := ((s.wr TWN_STATUS_FENCING 1).emit (.fenceOut true)).raise TWN_EVENT_FENCE_OUT
      ({ s with twn := { s.twn with fencing := some s.now } } : State).inheritTwin
    else s)

/-- FENCE_WAIT_EXPIRY: FENCE_WAIT µs after the fence, the device enters TAKEOVER unless it is itself fenced (R545). -/
def execFenceWaitExpiry (s : State) : Host.Outcome State Fault Refusal :=
  .next (
    match s.twn.fencing with
    | some t =>
      if s.now < t + max 1 (s.rd TWN_CFG_FENCE_WAIT) * us then s
      else
        let s := { s with twn := { s.twn with fencing := none } }
        if s.mode = .standby ∧ !s.on TWN_STATUS_FENCED then s.takeOver.sendInherit else s
    | none => s)

/-- The level of TWIN_CLAIM_IN, as sampled: since when it has been low (R527, R528). -/
def State.sampleClaim (level : Bool) (s : State) : State :=
  let low := if level then none else s.twn.claimLow.orElse fun _ => some s.now
  ({ s with twn := { s.twn with claimLow := low } } : State).wrB TWN_STATUS_CLAIM_IN level

/-- CLAIM_IN_LOW: TWIN_CLAIM_IN has been low for 1 µs; a STANDBY whose twin holds the token sees a relinquish (R544). -/
def execClaimInLow (s : State) : Host.Outcome State Fault Refusal :=
  .next (
    let s := s.sampleClaim false
    if s.top.inReset ∨ !s.twinEn ∨ !s.twinHolds then s else s.relinquishSeen)

/-- FENCE_IN: TWIN_FENCE_IN goes high: the transmitters of trellises 0 to 35 stop, the claim clears, and an ACTIVE or TAKEOVER device
becomes a STANDBY with its rackers halted, and diverged; what of the fabric it holds is its twin's (R546). In device reset only the
level is seen. -/
def execFenceIn (s : State) : Host.Outcome State Fault Refusal :=
  .next (
    if s.on TWN_STATUS_FENCED then s
    else if s.top.inReset then s.wr TWN_STATUS_FENCED 1
    else
      let s := ((s.wr TWN_STATUS_FENCED 1).raise TWN_EVENT_FENCE_IN).setClaim false
      let s := s.forN 36 fun n s => s.stopTx n true
      if s.mode = .active ∨ s.mode = .takeover then (((s.releaseToken).enterMode .standby 3).haltAll).diverge
      else if s.rackersHalted then s.haltAll
      else s)

/-- The claim that the present mode gives the device; in the modes that keep the claim of their entry, that of the mode entered from
(R54, R526). -/
def State.claimOfMode (s : State) : Bool :=
  match s.mode with
  | .startup | .default => !s.twinEn || !s.on TOP_STRAP_TWIN_SIDE
  | m => (m.claim.getD ((s.triggerMode.claim).getD false))

/-- FENCE_IN_RELEASED: TWIN_FENCE_IN goes low: the transmitters may become active again (R93), and a STANDBY asks for a catch-up. -/
def execFenceInReleased (s : State) : Host.Outcome State Fault Refusal :=
  .next (
    if !s.on TWN_STATUS_FENCED then s
    else
      let s := s.wr TWN_STATUS_FENCED 0
      if s.top.inReset then s
      else
        let s := s.setClaim s.claimOfMode
        if s.mode = .standby then s.askCatchup else s)

/-- TAKEOVER_COMPLETE: at the next PLAN0 line boundary TAKEOVER becomes ACTIVE; unsynced rackers with AUTOSTART start at the first
PLAN0 frame boundary after it (R544, R551). -/
def execTakeoverComplete (s : State) : Host.Outcome State Fault Refusal :=
  .next (
    let p := s.pos 0
    if s.mode ≠ .takeover ∨ (wrap32 p.frame = s.rd TOP_MODE_TSF_FRAME ∧ p.line = s.rd TOP_MODE_TSL_LINE) then s
    else
      let s := (s.enterMode .active 3).takeToken
      let s := s.forL (indicesWhere 16 fun r => bit (s.rd TWN_STATUS_UNSYNCED) r && s.on (RCK_CFG_AUTOSTART r)) fun r s =>
        s.requestRacker r 1
      s.sendInherit)

end Sys2Proof.Machine
end

