-- ==== Sys2Proof/Machine/TwinLink.lean ====
section
/-! DEFINITION. The mirror link: STATE, JOURNAL, OPREC, EFFECT, CKPT and MAIL records, and the journal (R530 to R541, R550, R555, R597,
R599). -/

namespace Sys2Proof.Machine

/-- A record on the mirror port: one whose CRC fails is discarded and counted (R530). `units`: it took buffer space, which is free
again (R532); a MAIL message frees its own. -/
def State.record (len crc : Nat) (groups : List Nat) (units : Bool) (f : State → State) (s : State) : State :=
  if s.top.inReset || !s.twinEn || s.rd (TRL_STATUS_RX_STATE 36) != 6 then s
  else if mirrorCrcOk len crc groups then (if units then (f s).freeUnits len else f s)
  else
    let s := s.bump TWN_ERR_CRC
    if units then s.freeUnits len else s

/-! ## STATE -/

/-- Group `i` of a STATE record, from 1 on (Table 14-2). -/
def stateGroup (g : List Nat) (i : Nat) : Nat := g.getD (i - 1) 0

/-- The 32-bit value of groups `i` and `i + 1`. -/
def stateWord (g : List Nat) (i : Nat) : Nat := stateGroup g i * 2 ^ 16 + stateGroup g (i + 1)

/-- The SEQ that this device expects next (R539). -/
def State.expectedSeq (s : State) : Nat :=
  wrap32 ((match s.twn.waiting.getLast? with
    | some e => e.seq
    | none => s.rd TWN_JSEQ_SEQ) + 1)

/-- JACK: the highest SEQ applied; after an entry out of order, the SEQ expected (R539, Table 14-2). -/
def State.jack (s : State) : Nat := if s.twn.gap then s.expectedSeq else s.rd TWN_JSEQ_SEQ

/-- The groups of a STATE record (Table 14-2). -/
def State.stateGroups (s : State) : List Nat :=
  let p := s.pos 0
  let f := s.twn.freed
  [ofBool s.top.claim * 2 ^ 15 + s.rd TOP_STRAP_TWIN_SIDE * 2 ^ 14 + s.rd TWN_STATUS_FENCED * 2 ^ 13 + s.rd TWN_STATUS_SYNC * 2 ^ 12
      + s.rd TOP_MODE_MODE * 2 ^ 8 + s.rd TOP_MODE_SHED * 2 ^ 6 + s.rd TOP_STRAP_DEV_ADDR]
    ++ wordGroups p.frame ++ [p.line]
    ++ wordGroups (if s.holdsToken then s.rd (RCK_LEASE_E_EXPIRY 255) else 0)
    ++ wordGroups s.jack
    ++ [s.rd REF_STATUS_SEL * 2 ^ 13 + s.rd REF_STATUS_DPLL * 2 ^ 10 + f % 2 ^ 10, s.twn.cause * 2 ^ 8 + f / 2 ^ 10 % 2 ^ 4, s.twn.resync]
    ++ ((rangeFrom 1 7).map fun q => wordGroups (s.frameOf q)).flatten

/-- STATE_SENT: at every PLAN0 line boundary; the buffer space freed since the last one is granted again, and the rackers that have
set PT_RESYNC become unsynced (R530, R532, R540). TWIN_CLAIM_IN stands at `claimIn`. -/
def execStateSent (claimIn : Bool) (s : State) : Host.Outcome State Fault Refusal :=
  .next (
    let s := s.sampleClaim claimIn
    if s.top.inReset || !s.twinEn || !s.on (PLN_STATUS_RUN 0) || !s.on (TRL_STATUS_TX_ACTIVE 36) then s
    else
      let s := s.adoptFrames
      let n := s.twn.freed
      let mask := s.twn.resync
      let s := s.sendFree 1 s.stateGroups
      let s := (s.bookOut 7 36 .delivered n).bookIn 7 36 n
      let s := { s with twn := { s.twn with freed := 0, resync := 0, gap := false } }
      if mask = 0 then s else s.unsync mask)

/-- A JACK reaches the claim holder. One that names an entry still waiting for its stamp cannot be an acknowledgement: it is the SEQ that
the standby expects, and the entries from there on are sent again. Else the entries up to it are no longer kept (R538, R539). -/
def State.takeJack (jack : Nat) (s : State) : State :=
  if !s.top.claim then s
  else if s.twn.waiting.any fun e => e.seq == jack then
    let again := s.twn.journal.filter fun e => decide (0 ≤ signedOf 32 (wrap32 (e.seq + 2 ^ 32 - jack)))
    (s.forL again fun e s => s.sendEntry e).bumpBy TWN_ERR_RESENT again.length
  else
    { s with twn := { s.twn with
        journal := s.twn.journal.filter fun e => decide (0 < signedOf 32 (wrap32 (e.seq + 2 ^ 32 - jack))) } }

/-- The copy of lease 255 that a STANDBY keeps (R529). -/
def State.copyToken (e : Nat) (s : State) : State :=
  if s.triggerMode != .standby || s.holdsToken then s
  else if e ≠ 0 then s.grantLease 255 holderPeer s.twn.peerAddr e
  else if s.on (RCK_LEASE_H_HELD 255) then s.endLease 255 .delivered
  else s

/-- Frame numbers of the plans in the active's STATE, compared with this device's at the start of the PLAN0 line that it names
(R540). -/
def State.compareState (g : List Nat) (s : State) : State :=
  let line := stateGroup g 4
  let p := s.pos 0
  let k := if line ≤ p.line then p.frame else p.frame - 1
  let t := (s.planH 0).lineStart k line
  let diff (q n : Nat) : Nat := wrap32 (n + 2 ^ 32 - wrap32 (if s.on (PLN_STATUS_RUN q) then ((s.planH q).posAt t).frame else s.frameOf q))
  let d0 := diff 0 (stateWord g 2)
  let s := s.setAdopt 0 d0
  s.forL (rangeFrom 1 7) fun q s => s.setAdopt q (diff q (stateWord g (10 + 2 * q)))

/-- What a STATE record says of the twin: its mode, claim, fence, cause and address (Table 14-2, R547). -/
def State.takePeer (g : List Nat) (s : State) : State :=
  let w := stateGroup g 1
  let mode := w / 2 ^ 8 % 16
  let s := { s with twn := { s.twn with
    stateAt := some s.now, peerClaim := bit w 15, peerFenced := bit w 13, peerCause := stateGroup g 10 / 2 ^ 8, peerAddr := w % 64 } }
  let s := (s.wr TWN_STATUS_PEER_MODE mode).updateAble
  if mode ≤ 1 then s.unfence else s

/-- Mirror credits come back; held records go out (R532). -/
def State.takeUnits (n : Nat) (s : State) : State :=
  if s.on TWN_STATUS_LINK then
    ({ s with twn := { s.twn with credits := min 8192 (s.twn.credits + n) } } : State).drainMirror
  else s

/-- The candidate that the twin in the active role has selected (R180). -/
def State.takeSelection (sel : Option Nat) (s : State) : State :=
  if s.dpll.peerSel = sel then s
  else
    let s := { s with dpll := { s.dpll with peerSel := sel } }
    if s.mode = .standby then s.refEnd else s

/-- A STANDBY sees that its twin is in SOLO: it is diverged and asks for a catch-up (R550). -/
def State.seeSolo (s : State) : State :=
  if s.mode = .standby ∧ (s.on TWN_STATUS_DIVERGED && s.twn.wants) = false then
    let s := (s.wr TWN_STATUS_DIVERGED 1).wr TWN_STATUS_SYNC 0
    { s with twn := { s.twn with wants := true, stamp := none, image := none, whole := none } }
  else s

/-- A device in QUIESCE sees the claim of its twin after B1 (R63). -/
def State.seeClaim (s : State) : State :=
  if s.mode = .quiesce ∧ s.top.b1.isSome = true ∧ s.top.claimSeen = none then
    { s with top := { s.top with claimSeen := some s.frame0 } }
  else s

/-- A valid STATE record (Table 14-2). -/
def State.takeState (g : List Nat) (s : State) : State :=
  let claim := bit (stateGroup g 1) 15
  let mode := stateGroup g 1 / 2 ^ 8 % 16
  let e := stateWord g 5
  let cause := stateGroup g 10 / 2 ^ 8
  let held := s.twinHolds
  let s := (((s.takePeer g).copyToken e).takeJack (stateWord g 7)).takeUnits
    (stateGroup g 9 % 2 ^ 10 + stateGroup g 10 % 2 ^ 4 * 2 ^ 10)
  let s := s.when (s.paired && stateGroup g 11 != 0) (State.unsync (stateGroup g 11))
  let s := s.when (claim && !s.top.claim) (State.compareState g)
  let s := s.takeSelection (if claim then some (stateGroup g 9 / 2 ^ 13) else none)
  let s := (s.when claim State.seeClaim).when (mode == 2) State.seeSolo
  s.when ((e != 0 || held) && (!claim || cause != 0 || mode == 6)) State.relinquishSeen

/-- STATE_RECEIVED (R529, R531, R532, R538 to R540, R544, R547, R550). -/
def execStateReceived (len crc : Nat) (groups : List Nat) (s : State) : Host.Outcome State Fault Refusal :=
  .next ((s.record len crc groups false fun s => s.takeState groups).adoptFrames)

/-- Whether the STATE records of the last 8 lines are missing (R531). -/
def State.stateMissing (s : State) : Bool :=
  match s.twn.stateAt with
  | some t => decide (t + 8 * (s.planH 0).lineLen ≤ s.now)
  | none => true

/-- MIRROR_LINK_DOWN: loss of the receive direction, or 8 STATE records missing (R531, R553). -/
def execMirrorLinkDown (s : State) : Host.Outcome State Fault Refusal :=
  .next (if s.rd (TRL_STATUS_RX_STATE 36) ≠ 6 ∨ s.stateMissing then s.mirrorDown else s)

/-- MIRROR_LINK_UP: the receive direction of instance 36 is UP and valid STATE records arrive (R531, R532). -/
def execMirrorLinkUp (s : State) : Host.Outcome State Fault Refusal :=
  .next (if s.rd (TRL_STATUS_RX_STATE 36) = 6 ∧ !s.stateMissing ∧ s.twinEn then s.mirrorUp else s)

/-! ## The journal -/

/-- JOURNAL_ENTRY: a write of a master that has to go into the journal (R533). -/
def execJournalEntry (m : Fin 22) (addr len data : Nat) (s : State) : Host.Outcome State Fault Refusal :=
  .next (if addr < 0x4000000 ∧ s.needsJournal m (accessWords addr len data) then s.busWrite m addr len data else s)

/-- JOURNAL_STALL_RELEASE: the journal has space again (R538). -/
def execJournalStallRelease (s : State) : Host.Outcome State Fault Refusal := .next (s.releaseStalled s.twn.stalled.length)

/-- The entry that the groups of a JOURNAL record carry (Table 14-3); a KIND 4 entry has no words. -/
def entryOf (g : List Nat) : JEntry :=
  let w (i : Nat) : Nat := g.getD (i - 1) 0
  let kind := w 6 / 2 ^ 8
  { seq := w 1 * 2 ^ 16 + w 2, frame := w 3 * 2 ^ 16 + w 4, line := w 5, kind := kind,
    words := if kind = 4 then [] else groupWords ((g.drop 6).take (2 * (w 6 % 2 ^ 8 + 1))) }

/-- A JOURNAL entry reaches a device without the claim (R535, R539, R548, R549). One that wants a catch-up takes nothing before the
KIND 4 entry, which the image covers, and holds what follows it until its install point. -/
def State.takeEntry (e : JEntry) (s : State) : State :=
  if s.top.claim || !s.paired then s
  else if s.twn.wants && s.twn.stamp.isNone then
    let s := s.wr TWN_JSEQ_SEQ e.seq
    if e.kind = 4 then { s with twn := { s.twn with stamp := some (s.nearFrame 0 e.frame), waiting := [] } } else s
  else
    let d := signedOf 32 (wrap32 (e.seq + 2 ^ 32 - s.expectedSeq))
    if d < 0 then s
    else if 0 < d then { s with twn := { s.twn with gap := true } }
    else if !s.twn.wants && decide (s.stampAt e.frame e.line < s.now) then s.diverge
    else
      let s := { s with twn := { s.twn with waiting := s.twn.waiting ++ [e] } }
      if e.kind = 4 then { s with twn := { s.twn with wants := true, stamp := some (s.nearFrame 0 e.frame), image := none, whole := none } }
      else s

/-- JOURNAL_RECEIVED (R539). -/
def execJournalReceived (len crc : Nat) (groups : List Nat) (s : State) : Host.Outcome State Fault Refusal :=
  .next (s.record len crc groups true fun s => s.takeEntry (entryOf groups))

/-- The words of a KIND 1 entry are written, from its offset on. -/
def State.applyWords (m a : Nat) : List Nat → State → State
  | [], s => s
  | v :: l, s => State.applyWords m (a + 4) l (s.applyWord m a v)

/-- The plans change their frame numbers as a KIND 5 entry says. -/
def State.renumberPlans (p : Nat) : List Nat → State → State
  | [], s => s
  | d :: l, s => State.renumberPlans (p + 1) l (if p = 0 then s.applyRenumber d else s.shiftFrames p d)

/-- An entry takes effect (Table 14-3). A standby counts it as applied. -/
def State.applyEntry (e : JEntry) (s : State) : State :=
  let s := if s.top.claim then s else s.wr TWN_JSEQ_SEQ e.seq
  match e.kind with
  | 1 => s.applyWords e.master (e.words.headD 0) (e.words.drop 1)
  | 2 => s.applyGpi (e.words.headD 0)
  | 3 => s.takeArrival e.words
  | 5 => s.renumberPlans 0 e.words
  | _ => s

/-- The entry that is to apply first among those whose stamp has come: by stamp, then by SEQ (R535). -/
def State.dueEntry (s : State) : Option JEntry :=
  (s.twn.waiting.filter fun e => decide (s.stampAt e.frame e.line ≤ s.now)).foldl (fun m e => match m with
    | none => some e
    | some x => if s.stampAt e.frame e.line < s.stampAt x.frame x.line then some e else some x) none

/-- Apply the entries whose stamps have come; `n` bounds their number. -/
def State.applyDue : Nat → State → State
  | 0, s => s
  | n + 1, s =>
    match s.dueEntry with
    | some e =>
      let s := { s with twn := { s.twn with waiting := s.twn.waiting.filter fun x => x.seq != e.seq } }
      State.applyDue n (s.applyEntry e)
    | none => s

/-- Apply the effects whose stamps have come, in the order of their arrival (R541). -/
def State.applyEffects (s : State) : State :=
  let due (x : Held) : Bool := match x with
    | .effect _ f l _ _ => decide (s.stampAt f l ≤ s.now)
    | .oprec .. => false
  let now := s.twn.held.filter due
  let s := { s with twn := { s.twn with held := s.twn.held.filter fun x => !due x } }
  s.forL now fun x s => match x with
    | .effect r _ _ kind words => s.applyEffect r kind words
    | .oprec .. => s

/-- JOURNAL_APPLY: entries and effects take effect at their stamps; a standby that waits for its install point holds them (R535, R539,
R549). -/
def execJournalApply (s : State) : Host.Outcome State Fault Refusal :=
  .next (if s.top.inReset || (s.twn.wants && !s.top.claim) then s else (s.applyDue s.twn.waiting.length).applyEffects)

/-! ## Records of unsynced rackers -/

/-- OPREC_RECEIVED: racker, result word and the groups as assigned (R541). Before its install point a standby holds it; what is older
than the image it does not need (R549). -/
def execOprecReceived (len : Nat) (r : Fin 16) (result : Word) (groups : List PlanGroup) (s : State) : Host.Outcome State Fault Refusal :=
  .next (
    let s := s.freeUnits len
    if s.top.inReset || s.top.claim || !s.paired || (s.twn.wants && s.twn.stamp.isNone) then s
    else if s.twn.wants then { s with twn := { s.twn with held := s.twn.held ++ [.oprec r result.toNat groups] } }
    else s.landRecord r result.toNat groups)

/-- EFFECT_RECEIVED: racker, kind, line stamp and words (R541, R571). -/
def execEffectReceived (len : Nat) (r : Fin 16) (kind : Fin 10) (frame line : Nat) (words : List Nat) (s : State) :
    Host.Outcome State Fault Refusal :=
  .next (
    let s := s.freeUnits len
    if s.top.inReset || s.top.claim || !s.paired || (s.twn.wants && s.twn.stamp.isNone) then s
    else { s with twn := { s.twn with held := s.twn.held ++ [.effect r (wrap32 frame) line kind words] } })

/-- CKPT_RECEIVED: the twin's ledger epoch, and the frame, VOID and IMBALANCE of its books (R530). PRESUMED layout, as
`State.sendCheckpoint` sends it. -/
def execCkptReceived (len crc : Nat) (groups : List Nat) (s : State) : Host.Outcome State Fault Refusal :=
  .next (s.record len crc groups false fun s =>
    let w := groupWords groups
    (s.wr TWN_PEER_LDG_EPOCH (w.getD 0 0)).setWord TWN_PEER_CLOSE (BitVec.ofNat 32 (w.getD 1 0)))

/-! ## Mirror mail -/

/-- MAIL_RECORD: a message of racker r of the twin is delivered into channel 336 + r and acknowledged, or held while that is full; one
that is not newer than the last is acknowledged again (R555, R597, Table 15-9). -/
def execMailRecord (len crc : Nat) (groups : List Nat) (s : State) : Host.Outcome State Fault Refusal :=
  .next (s.record len crc groups false fun s =>
    let w := groups.headD 0
    let r := w % 32
    let q := groups.getD 1 0
    let words := mailWords (groups.drop 2)
    let h := s.mailH r
    let last := (h.held.getLast?.map (·.1)).orElse fun _ => h.got
    let newer := match last with
      | some x => decide (0 < signedOf 16 (q + 2 ^ 16 - x))
      | none => true
    if bit w 8 || bit w 9 || decide (15 < r) then s.freeUnits len
    else if !newer then (s.mailAck r q).freeUnits len
    else if h.held.isEmpty && s.chanOpen (336 + r) then s.mailDeliver r q words
    else s.setMailH r { h with held := h.held ++ [(q, words)] })

/-- MAIL_RECORD_ACK: the acknowledged slot is freed (R597). -/
def execMailRecordAck (len crc : Nat) (groups : List Nat) (s : State) : Host.Outcome State Fault Refusal :=
  .next (s.record len crc groups true fun s =>
    let w := groups.headD 0
    let r := w % 32
    let h := s.mailH r
    if !bit w 9 || decide (15 < r) || h.sent == 0 || h.mseq != groups.getD 1 0 then s
    else (s.setMailH r { h with mseq := (h.mseq + 1) % 2 ^ 16, sent := h.sent - 1 }).freeSlot (320 + r))

/-- RING_RECORD: a bit of doorbell bank r is set (R599). -/
def execRingRecord (len crc : Nat) (groups : List Nat) (s : State) : Host.Outcome State Fault Refusal :=
  .next (s.record len crc groups true fun s =>
    let w := groups.headD 0
    if !bit w 8 || decide (15 < w % 32) then s else s.setBells (w % 32) (2 ^ (groups.getD 2 0 % 32)))

/-- MIRROR_MAIL_SEND: the next posted slot of channel 320 + r goes out as a MAIL record (R555, R597). -/
def execMirrorMailSend (r : Fin 16) (s : State) : Host.Outcome State Fault Refusal :=
  .next (
    let h := s.mailH r
    let c := 320 + r.val
    if !s.on TWN_STATUS_LINK || decide (s.rd (MBX_CH_COUNT c) ≤ h.sent) then s
    else
      let groups := ((s.slotWords c h.sent).map mailGroups).flatten
      let s := s.setMailH r { h with sent := h.sent + 1 }
      s.sendMirror (mirrorUnits 131) (.mirror 7 ([r.val, (h.mseq + h.sent) % 2 ^ 16] ++ groups)))

end Sys2Proof.Machine
end

