-- ==== Sys2Proof/Machine/Catchup.lean ====
section
/-! DEFINITION. Catch-up: its request, the capture at S, the IMAGE records and the install at I (R542, R548 to R551); and the requests
through TWN_CTRL. -/

namespace Sys2Proof.Machine

/-! ## Requests through TWN_CTRL -/

/-- UNFENCE: master `m` writes TWN_CTRL.UNFENCE (R547). -/
def execUnfence (m : Fin 22) (s : State) : Host.Outcome State Fault Refusal := .next (s.busWrite m TWN_CTRL 4 1)

/-- GO_SOLO: master `m` writes TWN_CTRL.GO_SOLO (R550). -/
def execGoSolo (m : Fin 22) (s : State) : Host.Outcome State Fault Refusal := .next (s.busWrite m TWN_CTRL 4 2)

/-- CATCHUP: master `m` writes TWN_CTRL.CATCHUP, or the request of the twin arrives at the claim holder (R548). -/
def execCatchup (m : Option (Fin 22)) (s : State) : Host.Outcome State Fault Refusal :=
  .next (
    match m with
    | some m => s.busWrite m TWN_CTRL 4 4
    | none => if s.top.inReset then s else s.takeCatchup)

/-! ## The image -/

/-- Whether racker `r` is halted. -/
def State.isHalted (s : State) (r : Nat) : Bool := s.rd (RCK_STATUS_STATE r) == 0 || s.rd (RCK_STATUS_STATE r) == 4

/-- Whether a word belongs to a catch-up image as it stands: memories of rackers, registers of halted rackers, salvo memory and the
RCK shared registers but for lease 255 (R548). -/
def plainWord (halted : Nat → Bool) (a : Nat) : Bool :=
  match blockOf a with
  | .salvo => true
  | .rckShared => a != RCK_LEASE_H 255 && a != RCK_LEASE_E 255
  | .rck r => inRckMemory a || halted r
  | _ => false

/-- Whether a word is a journal-class register of another block (R548). -/
def namedWord (a : Nat) : Bool :=
  match blockOf a with
  | .salvo | .rckShared | .mbx => false
  | .rck _ => !inRckMemory a && (journalClass a).isSome
  | .trl => a % 0x4000 == 0
  | _ => (journalClass a).isSome

/-- Whether a word is of the crosspoint map or of the audio map table. -/
def inMaps (a : Nat) : Bool :=
  (decide (XPT_MAP_RD 0 ≤ a) && decide (a < XPT_MAP_RD 4608)) || (decide (AUD_MAP_RD 0 ≤ a) && decide (a < AUD_MAP_RD 49152))

/-- The state of the claim holder, captured in one step (R548). -/
def State.captureImage (s : State) : Image where
  words := s.regs.filter fun e => plainWord s.isHalted e.1 || namedWord e.1 || inMaps e.1
  masked := (s.outs.filter fun e => e.2.masked).map (·.1)
  rackers := ((rangeFrom 0 16).filter s.isHalted).map fun r =>
    { racker := r, flags := (s.rckH r).flags, lnk := (s.rckH r).lnk, planSel := (s.rckH r).planSel, trapInfo := (s.rckH r).trapInfo }
  heads := s.mvh.map fun e => { head := e.1, shown := e.2.shown, pending := e.2.pending, held := e.2.held, lut := e.2.lut }
  classifier := s.cls
  frames := (rangeFrom 0 8).map fun p => wrap32 (s.frameOf p)
  running := ((rangeFrom 0 16).filter fun r => !s.isHalted r).foldl (fun a r => a + 2 ^ r) 0

/-- A SOLO device that accepts a joiner becomes ACTIVE (R550). -/
def State.leaveSolo (s : State) : State := if s.mode = .solo then (s.enterMode .active 3).takeToken else s

/-- The claim holder captures its state and sends it; the rackers that run become unsynced on the standby (R548, R549). -/
def State.sendCapture (s : State) : State :=
  let img := s.captureImage
  ((({ s with twn := { s.twn with captureAt := none } } : State).sendRecord 3 (2 * img.words.length) (.image img)).unsync
    img.running).leaveSolo

/-- CATCHUP_CAPTURE: at S, once every entry stamped at or before it has applied, the claim holder captures its state and sends it; a
SOLO device becomes ACTIVE (R548 to R550). -/
def execCatchupCapture (s : State) : Host.Outcome State Fault Refusal :=
  .next (
    match s.twn.captureAt with
    | some f =>
      if s.frame0 < f ∨ !s.top.claim ∨ s.dueEntry.isSome then s else s.sendCapture
    | none => s)

/-- Two parts of an image together. -/
def Image.append (a b : Image) : Image where
  words := a.words ++ b.words
  masked := a.masked ++ b.masked
  rackers := a.rackers ++ b.rackers
  heads := a.heads ++ b.heads
  classifier := a.classifier ++ b.classifier
  frames := a.frames ++ b.frames
  running := a.running ||| b.running

/-- The data memory of an unsynced racker is loaded: words not listed are 0 (R542). -/
def State.loadMemory (r : Nat) (words : List (Nat × Word)) (s : State) : State :=
  s.forN 4096 fun w s => s.setWord (RCK_DM r w) ((pairGet words (RCK_DM r w)).getD 0)

/-- IMAGE_RECEIVED: a record of the catch-up image, `last` for its last one, is buffered; or it is the data memory of racker r, ahead of
its START (R542, R548, R549). -/
def execImageReceived (len : Nat) (memory : Option (Fin 16)) (part : Image) (last : Bool) (s : State) :
    Host.Outcome State Fault Refusal :=
  .next (
    let s := s.freeUnits len
    if s.top.inReset || s.top.claim || !s.paired then s
    else match memory with
      | some r => if bit (s.rd TWN_STATUS_UNSYNCED) r then s.loadMemory r part.words else s
      | none =>
        if !s.twn.wants then s
        else
          let s := { s with twn := { s.twn with image := some ((s.twn.image.getD {}).append part) } }
          if last then { s with twn := { s.twn with whole := some s.frame0 } } else s)

/-! ## The install -/

/-- A word that an image has, or its reset value. -/
def Image.word (img : Image) (a : Nat) : Word := (pairGet img.words a).getD (resetWord a)

/-- The words of the image that stand as they are replace this device's. -/
def State.installPlain (img : Image) (s : State) : State :=
  let ok (a : Nat) : Bool := plainWord (fun r => !bit img.running r) a
  let mine := (s.regs.map (·.1)).filter ok
  let s := s.forL mine fun a s => s.setWord a (img.word a)
  let s := s.forL (img.words.filter fun e => ok e.1) fun e s => s.setWord e.1 e.2
  s.forL img.rackers fun h s => s.setRckH h.racker { s.rckH h.racker with
    flags := h.flags, lnk := h.lnk, planSel := h.planSel, trapInfo := h.trapInfo }

/-- A journal-class register takes its value of the image, with the effect of its write, where its RW bits differ. -/
def State.installNamed (img : Image) (a : Nat) (s : State) : State :=
  let v := (img.word a).toNat
  let w := (s.word a).toNat
  match blockOf a with
  | .trl => if v % 4 = w % 4 then s else s.applyWord 1 a v
  | _ =>
    match regAt a with
    | some (d, _) => if d.rw &&& v = d.rw &&& w then s else s.applyWord 1 a (mergeBits d.rw v 0)
    | none => s

/-- The change that brings output `d` to the map of the image, where its entry differs. -/
def State.mapChange (s : State) (img : Image) (d : Nat) : List Change :=
  let v := (img.word (XPT_MAP_RD d))
  let valid := fieldGet (XPT_MAP_RD_VALID d) v == 1 && fieldGet (XPT_MAP_RD_COVERED d) v == 0
  let mine := s.on (XPT_MAP_RD_VALID d) && !s.on (XPT_MAP_RD_COVERED d)
  let same := fieldGet (XPT_MAP_RD_SRC d) v == s.rd (XPT_MAP_RD_SRC d) && fieldGet (XPT_MAP_RD_WIDTH d) v == s.rd (XPT_MAP_RD_WIDTH d)
  if valid && !(mine && same) then [.route d (fieldGet (XPT_MAP_RD_SRC d) v) (widthOf (fieldGet (XPT_MAP_RD_WIDTH d) v))]
  else if !valid && mine && fieldGet (XPT_MAP_RD_COVERED d) v == 0 then [.clear d]
  else []

/-- The changes that bring the maps and the slot masks to those of the image (R549). -/
def State.mapChanges (s : State) (img : Image) : List Change :=
  let touched := (s.regs.map (·.1) ++ img.words.map (·.1)).filter inMaps
  let video := (rangeFrom 0 4608).filter fun d => touched.contains (XPT_MAP_RD d)
  let audio := (touched.filter fun a => decide (AUD_MAP_RD 0 ≤ a)).eraseDups
  let masks := (rangeFrom 0 4608).filter fun d => (s.outH d).masked != img.masked.contains d
  (video.map fun d => s.mapChange img d).flatten
    ++ audio.filterMap (fun a =>
      let c := (a - AUD_MAP_RD 0) / 4
      let v := fieldGet (AUD_MAP_RD_ASRC c) (img.word a)
      if v = s.rd (AUD_MAP_RD_ASRC c) then none else some (Change.audio c v 0))
    ++ masks.map fun d => Change.mask d (!img.masked.contains d) 0

/-- Changes land on the first switch line of their plan at or after now, with no commit horizon (R549). -/
def State.landSoon (changes : List Change) (s : State) : State :=
  s.forN 8 fun p s =>
    let mine := changes.filter fun c => s.changePlan c == p
    if mine.isEmpty then s
    else match s.switchFrom p s.now with
      | some (k, l) =>
        { s with twn := { s.twn with landing := s.twn.landing ++ [{ plan := p, frame := k, line := l, retired := s.now, changes := mine }] } }
      | none => s

/-- A held OPREC at the install point: what has its landing ahead lands as assigned, the rest on the next switch line (R549). -/
def State.installRecord (r result : Nat) (groups : List PlanGroup) (s : State) : State :=
  let ahead (g : PlanGroup) : Bool := decide (s.now ≤ (s.planH g.plan).lineStart (s.nearFrame g.plan g.frame) g.line)
  let late := groups.filter fun g => !ahead g
  (s.landSoon (late.map (·.changes)).flatten).landRecord r result (groups.filter ahead)

/-- The heads of the image take their displayed set, pending commit, held states and LUTs. -/
def State.installHeads (img : Image) (s : State) : State :=
  s.forL img.heads fun e s =>
    s.setMvhH e.head { s.mvhH e.head with shown := e.shown, pending := e.pending, held := e.held, lut := e.lut }

/-- The plans are to adopt the frame numbers of the image, captured at the start of PLAN0 frame `f`: a plan whose frame begins now at
once, the others at their next boundary (R549). -/
def State.installFrames (img : Image) (f : Nat) (s : State) : State :=
  let t := (s.planH 0).frameStart f
  let s := s.forN 8 fun p s =>
    let mine := if s.on (PLN_STATUS_RUN p) then ((s.planH p).posAt t).frame else s.frameOf p
    let d := wrap32 (img.frames.getD p (wrap32 mine) + 2 ^ 32 - wrap32 mine)
    let begins := !s.on (PLN_STATUS_RUN p) || (s.planH p).frameStart (s.frameOf p) == s.now
    let rest := s.twn.adopt.filter fun e => e.1 != p
    let here := if begins then s.frameOf p - 1 else s.frameOf p
    { s with twn := { s.twn with adopt := if d = 0 then rest else rest ++ [(p, d, here)] } }
  s.adoptFrames

/-- The install of an image (R549). -/
def State.install (img : Image) (f : Nat) (s : State) : State :=
  let s := (s.forL (indicesWhere 16 fun r => !s.isHalted r) fun r s => s.haltRacker r).installPlain img
  let named := ((s.regs.map (·.1) ++ img.words.map (·.1)).filter namedWord).eraseDups
  let s := s.forL named fun a s => s.installNamed img a
  let s := ({ s with cls := img.classifier } : State).installHeads img
  let s := (s.followHostGpo).landSoon (s.mapChanges img)
  let s := s.installFrames img f
  let s := (s.wr TWN_STATUS_UNSYNCED img.running).wr TWN_STATUS_DIVERGED 0
  let held := s.twn.held
  let s := { s.wr TWN_STATUS_SYNC 1 with
    twn := { s.twn with wants := false, stamp := none, image := none, whole := none,
                        held := held.filter fun x => match x with
                          | .oprec .. => false
                          | .effect .. => true } }
  let s := s.applyDue s.twn.waiting.length
  let s := s.forL held fun x s => match x with
    | .oprec r result groups => s.installRecord r result groups
    | .effect .. => s
  (s.applyEffects).raise TWN_EVENT_CATCHUP_DONE

/-- CATCHUP_INSTALL: the install point I, which is S where the whole image has arrived by then, else the first PLAN0 frame boundary after
its last record arrived (R549). -/
def execCatchupInstall (s : State) : Host.Outcome State Fault Refusal :=
  .next (
    match s.twn.stamp, s.twn.whole, s.twn.image with
    | some f, some w, some img =>
      if s.top.claim || !s.twn.wants || decide (s.frame0 < f) || (decide (f ≤ w) && decide (s.frame0 ≤ w)) then s else s.install img f
    | _, _, _ => s)

end Sys2Proof.Machine
end

