-- ==== Sys2Proof/Machine/RegRows.lean ====
section
/-! DEFINITION. The commands that are one access of a master over the control matrix, in the order of the table: each is a write or a
read at its register's own address, so that windows, refusals, domains and the journal act on all of them alike. The host is M1 and
M2, the management controller M0 (Table 16-3). -/

namespace Sys2Proof.Machine

/-! ## TOP, PWR -/

/-- TOP_RESET_KEY: a write of TOP_RESET; 0xD1CE resets the device with cause 3 (R32). -/
def execTopResetKey (m : Fin 22) (key : Word) (s : State) : Host.Outcome State Fault Refusal := .next (s.busWrite m TOP_RESET 4 key.toNat)

/-- PWR_DOM_REQ_WRITE: a write of PWR_DOM_REQ(k) (R40, R41, R680). -/
def execPwrDomReqWrite (m : Fin 22) (k : Fin 3) (v : Word) (s : State) : Host.Outcome State Fault Refusal :=
  .next (s.busWrite m (PWR_DOM_REQ k) 4 v.toNat)

/-- PWR_VIN_THR_WRITE: a write of PWR_VIN_THR (R28). -/
def execPwrVinThrWrite (m : Fin 22) (v : Word) (s : State) : Host.Outcome State Fault Refusal := .next (s.busWrite m PWR_VIN_THR 4 v.toNat)

/-- PWR_SHED_THR_WRITE: a write of PWR_SHED_THR (R66). -/
def execPwrShedThrWrite (m : Fin 22) (v : Word) (s : State) : Host.Outcome State Fault Refusal := .next (s.busWrite m PWR_SHED_THR 4 v.toNat)

/-- FREEZE: TOP_CTRL.FREEZE (R55, R58, R289). -/
def execFreeze (m : Fin 22) (s : State) : Host.Outcome State Fault Refusal := .next (s.busWrite m TOP_CTRL 4 1)

/-- THAW: TOP_CTRL.THAW (R55). -/
def execThaw (m : Fin 22) (s : State) : Host.Outcome State Fault Refusal := .next (s.busWrite m TOP_CTRL 4 2)

/-- DIAG: TOP_CTRL.DIAG (R55, R104). -/
def execDiag (m : Fin 22) (s : State) : Host.Outcome State Fault Refusal := .next (s.busWrite m TOP_CTRL 4 4)

/-- QUIESCE: TOP_CTRL.QUIESCE (R62). -/
def execQuiesce (m : Fin 22) (s : State) : Host.Outcome State Fault Refusal := .next (s.busWrite m TOP_CTRL 4 8)

/-- REJOIN: TOP_CTRL.REJOIN (R59). -/
def execRejoin (m : Fin 22) (s : State) : Host.Outcome State Fault Refusal := .next (s.busWrite m TOP_CTRL 4 16)

/-! ## TRL -/

/-- TRELLIS_MODE_WRITE: a write of TRL_CFG(n).MODE, its other fields as they are (R99, R102). -/
def execTrellisModeWrite (m : Fin 22) (n : Fin 37) (mode : Fin 4) (s : State) : Host.Outcome State Fault Refusal :=
  .next (s.busWrite m (TRL_CFG n) 4 (mergeBits 3 mode (s.word (TRL_CFG n)).toNat))

/-- INJECT: a write of 1 to TRL_LANE_INJ(l).INJECT (R104, R107). -/
def execInject (m : Fin 22) (n : Fin 37) (l : Fin 8) (s : State) : Host.Outcome State Fault Refusal :=
  .next (s.busWrite m (TRL_LANE_INJ n l) 4 1)

/-- LANE_COUNTER_READ: a read of TRL_LANE_ERR_LO or TRL_LANE_BITS_LO (R109). -/
def execLaneCounterRead (m : Fin 22) (n : Fin 37) (l : Fin 8) (errs : Bool) (s : State) : Host.Outcome State Fault Refusal :=
  .next (s.busRead m (if errs then TRL_LANE_ERR_LO n l else TRL_LANE_BITS_LO n l) 4)

/-- COUNTER_READ: a read of `len` bytes at a matrix address: of RS counters, and of any register or memory that has no row of its own
(R10, R12, R625). -/
def execCounterRead (m : Fin 22) (addr len : Nat) (s : State) : Host.Outcome State Fault Refusal := .next (s.busRead m addr len)

/-! ## PLN, SYN -/

/-- PLAN_CONFIG_WRITE: a write of PLN_CFG(p) (R191, R192, R201, R205, R677). -/
def execPlanConfigWrite (m : Fin 22) (p : Fin 8) (v : Word) (s : State) : Host.Outcome State Fault Refusal :=
  .next (s.busWrite m (PLN_CFG p) 4 v.toNat)

/-- PLAN_ALIGN_WRITE: a write of PLN_ALIGN(p) (R191, R196). -/
def execPlanAlignWrite (m : Fin 22) (p : Fin 8) (v : Word) (s : State) : Host.Outcome State Fault Refusal :=
  .next (s.busWrite m (PLN_ALIGN p) 4 v.toNat)

/-- POLICY_CHANGE: a write of PLN_CFG(p).POLICY, the other fields as they are (R199). -/
def execPolicyChange (m : Fin 22) (p : Fin 8) (policy : Fin 4) (s : State) : Host.Outcome State Fault Refusal :=
  .next (s.busWrite m (PLN_CFG p) 4 (mergeBits (3 * 2 ^ 7) (policy * 2 ^ 7) (s.word (PLN_CFG p)).toNat))

/-- JUMP_NOW: a write of 1 to PLN_CTRL(p).JUMP_NOW (R198). -/
def execJumpNow (m : Fin 22) (p : Fin 8) (s : State) : Host.Outcome State Fault Refusal := .next (s.busWrite m (PLN_CTRL p) 4 1)

/-- PLAN_ENABLE: a write of 1 to PLN_CFG(p).EN, the other fields as they are (R205, R679). -/
def execPlanEnable (m : Fin 22) (p : Fin 8) (s : State) : Host.Outcome State Fault Refusal :=
  .next (s.busWrite m (PLN_CFG p) 4 ((s.word (PLN_CFG p)).toNat ||| 1))

/-- SEED_WRITE: a write of SYN_PLL_SEED(i) (R209, R210). -/
def execSeedWrite (m : Fin 22) (i : Fin 53) (seed : Fin 65536) (s : State) : Host.Outcome State Fault Refusal :=
  .next (s.busWrite m (SYN_PLL_SEED i) 4 seed)

/-- FLUSH: a write of 1 to SYN_PLL_CTRL(i).FLUSH (R223). -/
def execFlush (m : Fin 22) (i : Fin 53) (s : State) : Host.Outcome State Fault Refusal := .next (s.busWrite m (SYN_PLL_CTRL i) 4 1)

/-- RELOCK: a write of 1 to SYN_PLL_CTRL(i).RELOCK (R231). -/
def execRelock (m : Fin 22) (i : Fin 53) (s : State) : Host.Outcome State Fault Refusal := .next (s.busWrite m (SYN_PLL_CTRL i) 4 2)

/-! ## RCK -/

/-- START: RCK_CTRL(r).START (R285). -/
def execStart (m : Fin 22) (r : Fin 16) (s : State) : Host.Outcome State Fault Refusal := .next (s.busWrite m (RCK_CTRL r) 4 1)

/-- RESUME: RCK_CTRL(r).RESUME (R287). -/
def execResume (m : Fin 22) (r : Fin 16) (s : State) : Host.Outcome State Fault Refusal := .next (s.busWrite m (RCK_CTRL r) 4 2)

/-- HALT: RCK_CTRL(r).HALT (R287). -/
def execHalt (m : Fin 22) (r : Fin 16) (s : State) : Host.Outcome State Fault Refusal := .next (s.busWrite m (RCK_CTRL r) 4 4)

/-- STEP: RCK_CTRL(r).STEP (R287). -/
def execStep (m : Fin 22) (r : Fin 16) (s : State) : Host.Outcome State Fault Refusal := .next (s.busWrite m (RCK_CTRL r) 4 8)

/-- PROGRAM_MEMORY_WRITE: a write of word `w` of a racker's program memory (R288). -/
def execProgramMemoryWrite (m : Fin 22) (r : Fin 16) (w : Fin 16384) (v : Word) (s : State) : Host.Outcome State Fault Refusal :=
  .next (s.busWrite m (RCK_PM r w) 4 v.toNat)

/-- Address of word `k` of the ownership tables: 1,152 words of RCK_OWN_V, 768 of RCK_OWN_A, 8 of RCK_OWN_H and 4 of RCK_GPO_OWN. -/
def ownAddr (k : Nat) : Nat :=
  if k < 1152 then RCK_OWN_V k else if k < 1920 then RCK_OWN_A (k - 1152) else if k < 1928 then RCK_OWN_H (k - 1920) else RCK_GPO_OWN (k - 1928)

/-- OWNERSHIP_WRITE: a write of word `k` of the ownership tables (R288). -/
def execOwnershipWrite (m : Fin 22) (k : Fin 1932) (v : Word) (s : State) : Host.Outcome State Fault Refusal :=
  .next (s.busWrite m (ownAddr k) 4 v.toNat)

/-- FENCE_WRITE: a write of RCK_FENCE(n) (R281). -/
def execFenceWrite (m : Fin 22) (n : Fin 256) (v : Word) (s : State) : Host.Outcome State Fault Refusal :=
  .next (s.busWrite m (RCK_FENCE n) 4 v.toNat)

/-- HOST_LEASE: a write of RCK_LEASE_REQ with FREE 0 (R272, R275). -/
def execHostLease (m : Fin 22) (id : Fin 256) (dur : Fin 65536) (prio : Fin 8) (s : State) : Host.Outcome State Fault Refusal :=
  .next (s.busWrite m RCK_LEASE_REQ 4 (id + dur * 2 ^ 8 + prio * 2 ^ 24))

/-- HOST_FREE: a write of RCK_LEASE_REQ with FREE 1 (R274). -/
def execHostFree (m : Fin 22) (id : Fin 256) (prio : Fin 8) (s : State) : Host.Outcome State Fault Refusal :=
  .next (s.busWrite m RCK_LEASE_REQ 4 (id + prio * 2 ^ 24 + 2 ^ 27))

/-- PROGRAM_TIME_READ: a read of RCK_PT_F (R242). -/
def execProgramTimeRead (m : Fin 22) (r : Fin 16) (s : State) : Host.Outcome State Fault Refusal := .next (s.busRead m (RCK_PT_F r) 4)

/-- SST: salvo entry ra[15:0] ← rd : rd + 1, in one access of master M3 + r; an error response traps (R303, R304). -/
def execSst (r : Fin 16) (s : State) : Host.Outcome State Fault Refusal :=
  .next (s.issue r 0x1A fun i s =>
    let k := (s.greg r i.ra).toNat % 2 ^ 16
    let v := (s.greg r i.rd).toNat * 2 ^ 32 + (s.greg r (i.rd + 1)).toNat
    let (s, err) := s.access { master := 3 + r, write := true, addr := RCK_SALVO k, len := 8, data := v }
    if err then s.trap r 10 0 else s.retire r 2)

/-- MLD: rd ← the word at BAR0 offset ra + imm, read as master M3 + r (R304). -/
def execMld (r : Fin 16) (s : State) : Host.Outcome State Fault Refusal :=
  .next (s.issue r 0x1B fun i s =>
    let a := s.effAddr r i
    if a % 4 ≠ 0 then s.trap r 6 0
    else
      let (s, err) := s.access { master := 3 + r, write := false, addr := a, len := 4 }
      if err then s.trap r 10 0 else (s.setGreg r i.rd (BitVec.ofNat 32 s.lastRead)).retire r 6)

/-- MST: the word at BAR0 offset ra + imm ← rd, written as master M3 + r (R304). -/
def execMst (r : Fin 16) (s : State) : Host.Outcome State Fault Refusal :=
  .next (s.issue r 0x1C fun i s =>
    let a := s.effAddr r i
    if a % 4 ≠ 0 then s.trap r 6 0
    else
      let (s, err) := s.access { master := 3 + r, write := true, addr := a, len := 4, data := (s.greg r i.rd).toNat }
      if err then s.trap r 10 0 else s.retire r 3)

/-! ## PKT, PTP -/

/-- CLASSIFIER_WRITE: PKT_CLS_CMD.WRITE (R432). -/
def execClassifierWrite (m : Fin 22) (s : State) : Host.Outcome State Fault Refusal := .next (s.busWrite m PKT_CLS_CMD 4 1)

/-- CLASSIFIER_READ: PKT_CLS_CMD.READ (R432). -/
def execClassifierRead (m : Fin 22) (s : State) : Host.Outcome State Fault Refusal := .next (s.busWrite m PKT_CLS_CMD 4 2)

/-- RX_CONTEXT_ENABLE: a write of PKT_RXC_CFG(x) with EN 1 and the other fields of `v` (R433, R434). -/
def execRxContextEnable (m : Fin 22) (x : Fin 4096) (v : Word) (s : State) : Host.Outcome State Fault Refusal :=
  .next (s.busWrite m (PKT_RXC_CFG x) 4 (v.toNat ||| 1))

/-- TX_CONTEXT_ENABLE: a write of PKT_TXC_CFG(y) with EN 1 and the other fields of `v` (R444, R450). -/
def execTxContextEnable (m : Fin 22) (y : Fin 4096) (v : Word) (s : State) : Host.Outcome State Fault Refusal :=
  .next (s.busWrite m (PKT_TXC_CFG y) 4 (v.toNat ||| 1))

/-- ACCEPT: PTP_CTRL(n).ACCEPT (R460). -/
def execAccept (m : Fin 22) (n : Fin 36) (s : State) : Host.Outcome State Fault Refusal := .next (s.busWrite m (PTP_CTRL n) 4 1)

/-- PTP_RESTART: PTP_CTRL(n).RESTART (R461). -/
def execPtpRestart (m : Fin 22) (n : Fin 36) (s : State) : Host.Outcome State Fault Refusal := .next (s.busWrite m (PTP_CTRL n) 4 2)

/-- DEVICE_TIME_READ: a read of PTP_DT(0) latches the rest of device time (R10). -/
def execDeviceTimeRead (m : Fin 22) (s : State) : Host.Outcome State Fault Refusal := .next (s.busRead m (PTP_DT 0) 4)

/-- PLAN_POSITION_READ: a read of PLN_POS_F(p) latches line and sample (R10). -/
def execPlanPositionRead (m : Fin 22) (p : Fin 8) (s : State) : Host.Outcome State Fault Refusal := .next (s.busRead m (PLN_POS_F p) 4)

/-! ## MVH, PRF, LDG -/

/-- LUT_DATA_WRITE: a write of MVH_LUT_DATA (R476). -/
def execLutDataWrite (m : Fin 22) (h : Fin 32) (v : Word) (s : State) : Host.Outcome State Fault Refusal :=
  .next (s.busWrite m (MVH_LUT_DATA h) 4 v.toNat)

/-- LUT_DATA_READ: a read of MVH_LUT_DATA (R476). -/
def execLutDataRead (m : Fin 22) (h : Fin 32) (s : State) : Host.Outcome State Fault Refusal := .next (s.busRead m (MVH_LUT_DATA h) 4)

/-- RECORD_SELECT: a write of PRF_REC_SEL loads a check record (R507). -/
def execRecordSelect (m : Fin 22) (v : Word) (s : State) : Host.Outcome State Fault Refusal := .next (s.busWrite m PRF_REC_SEL 4 v.toNat)

/-- EPOCH_REQUEST: LDG_CTRL.EPOCH (R522, R525). -/
def execEpochRequest (m : Fin 22) (s : State) : Host.Outcome State Fault Refusal := .next (s.busWrite m LDG_CTRL 4 1)

/-- HOLD: LDG_CTRL.HOLD (R524). -/
def execHold (m : Fin 22) (s : State) : Host.Outcome State Fault Refusal := .next (s.busWrite m LDG_CTRL 4 2)

/-- RELEASE: LDG_CTRL.RELEASE (R524). -/
def execRelease (m : Fin 22) (s : State) : Host.Outcome State Fault Refusal := .next (s.busWrite m LDG_CTRL 4 4)

/-- LEDGER_SELECT: a write of LDG_SEL loads LDG_VAL (R524). -/
def execLedgerSelect (m : Fin 22) (v : Word) (s : State) : Host.Outcome State Fault Refusal := .next (s.busWrite m LDG_SEL 4 v.toNat)

/-- MARK_READ: a read of LDG_MARK_VAL (R523). -/
def execMarkRead (m : Fin 22) (s : State) : Host.Outcome State Fault Refusal := .next (s.busRead m LDG_MARK_VAL 4)

/-! ## MGT, UPD, MBX, MTX -/

/-- MGT_CTRL_RESTART: MGT_CTRL.RESTART (R575). -/
def execMgtCtrlRestart (m : Fin 22) (s : State) : Host.Outcome State Fault Refusal := .next (s.busWrite m MGT_CTRL 4 1)

/-- UPD_CONFIRM_KEY: a write of UPD_CONFIRM; 0xC0DE by M0 in TRIAL confirms (R611). -/
def execUpdConfirmKey (m : Fin 22) (key : Fin 65536) (s : State) : Host.Outcome State Fault Refusal := .next (s.busWrite m UPD_CONFIRM 4 key)

/-- MBX_POST: a write of 1 to MBX_POST(c) (R588, R593). -/
def execMbxPost (m : Fin 22) (c : Fin 394) (s : State) : Host.Outcome State Fault Refusal := .next (s.busWrite m (MBX_POST c) 4 1)

/-- MBX_FREE: a write of 1 to MBX_FREE(c) (R590, R593). -/
def execMbxFree (m : Fin 22) (c : Fin 394) (s : State) : Host.Outcome State Fault Refusal := .next (s.busWrite m (MBX_FREE c) 4 1)

/-- DOORBELL_SET: a write of MBX_DB_SET(b) (R600). -/
def execDoorbellSet (m : Fin 22) (b : Fin 21) (bits : Word) (s : State) : Host.Outcome State Fault Refusal :=
  .next (s.busWrite m (MBX_DB_SET b) 4 bits.toNat)

/-- DOORBELL_CLEAR: a write of MBX_DB(b) (R600). -/
def execDoorbellClear (m : Fin 22) (b : Fin 21) (bits : Word) (s : State) : Host.Outcome State Fault Refusal :=
  .next (s.busWrite m (MBX_DB b) 4 bits.toNat)

/-- DOORBELL_MASK: a write of MBX_DB_MASK(b) (R601). -/
def execDoorbellMask (m : Fin 22) (b : Fin 21) (mask : Word) (s : State) : Host.Outcome State Fault Refusal :=
  .next (s.busWrite m (MBX_DB_MASK b) 4 mask.toNat)

/-- LOCK_ACQUIRE: a read of MTX_LOCK(n) (R644). -/
def execLockAcquire (m : Fin 22) (n : Fin 64) (s : State) : Host.Outcome State Fault Refusal := .next (s.busRead m (MTX_LOCK n) 4)

/-- LOCK_RELEASE: a write of 1 to MTX_LOCK_REL(n) (R645). -/
def execLockRelease (m : Fin 22) (n : Fin 64) (s : State) : Host.Outcome State Fault Refusal := .next (s.busWrite m (MTX_LOCK_REL n) 4 1)

/-- REGISTER_WRITE: a write of `len` bytes at a matrix address: of a register that has no row of its own, under its access type (R10),
of a memory behind BAR0 (R625), or through the cellar aperture (R626). -/
def execRegisterWrite (m : Fin 22) (addr len data : Nat) (s : State) : Host.Outcome State Fault Refusal := .next (s.busWrite m addr len data)

end Sys2Proof.Machine
end

