-- ==== Sys2Proof/Machine/Dispatch.lean ====
section
/-! DEFINITION. The meaning of every command: one arm per constructor of `Instr`. -/

namespace Sys2Proof.Machine

def exec (i : Instr) (s : State) : Host.Outcome State Fault Refusal :=
  match i with
  | .vinValid mv devAddr side => Sys2Proof.Machine.execVinValid mv devAddr side s
  | .vinWarn mv => Sys2Proof.Machine.execVinWarn mv s
  | .vinFault mv => Sys2Proof.Machine.execVinFault mv s
  | .topResetKey m key => Sys2Proof.Machine.execTopResetKey m key s
  | .regulatorFault idx => Sys2Proof.Machine.execRegulatorFault idx s
  | .alwaysOnRegulatorFault => Sys2Proof.Machine.execAlwaysOnRegulatorFault s
  | .pwrDomReqWrite m k v => Sys2Proof.Machine.execPwrDomReqWrite m k v s
  | .domainReady idx => Sys2Proof.Machine.execDomainReady idx s
  | .domainStop idx => Sys2Proof.Machine.execDomainStop idx s
  | .shedRise => Sys2Proof.Machine.execShedRise s
  | .shedFall => Sys2Proof.Machine.execShedFall s
  | .thermalCritical idx => Sys2Proof.Machine.execThermalCritical idx s
  | .pwrVinThrWrite m v => Sys2Proof.Machine.execPwrVinThrWrite m v s
  | .pwrShedThrWrite m v => Sys2Proof.Machine.execPwrShedThrWrite m v s
  | .railsUp => Sys2Proof.Machine.execRailsUp s
  | .otpLoaded => Sys2Proof.Machine.execOtpLoaded s
  | .bandSearchesDone bands => Sys2Proof.Machine.execBandSearchesDone bands s
  | .tUse => Sys2Proof.Machine.execTUse s
  | .defaultLeft => Sys2Proof.Machine.execDefaultLeft s
  | .cellarTrained => Sys2Proof.Machine.execCellarTrained s
  | .cellarTrainingFail => Sys2Proof.Machine.execCellarTrainingFail s
  | .freeze m => Sys2Proof.Machine.execFreeze m s
  | .thaw m => Sys2Proof.Machine.execThaw m s
  | .thawApply => Sys2Proof.Machine.execThawApply s
  | .diag m => Sys2Proof.Machine.execDiag m s
  | .quiesce m => Sys2Proof.Machine.execQuiesce m s
  | .quiesceB1 => Sys2Proof.Machine.execQuiesceB1 s
  | .quiesceTxEnd => Sys2Proof.Machine.execQuiesceTxEnd s
  | .rejoin m => Sys2Proof.Machine.execRejoin m s
  | .isolatedEntry => Sys2Proof.Machine.execIsolatedEntry s
  | .presetApply n rx => Sys2Proof.Machine.execPresetApply n rx s
  | .adaptStep n l q up => Sys2Proof.Machine.execAdaptStep n l q up s
  | .fclkDetected n => Sys2Proof.Machine.execFclkDetected n s
  | .dllLocked n => Sys2Proof.Machine.execDllLocked n s
  | .dllLockTimeout n => Sys2Proof.Machine.execDllLockTimeout n s
  | .phaseSettled n phases => Sys2Proof.Machine.execPhaseSettled n phases s
  | .phaseSweepTimeout n => Sys2Proof.Machine.execPhaseSweepTimeout n s
  | .commaAligned n => Sys2Proof.Machine.execCommaAligned n s
  | .alignTimeout n => Sys2Proof.Machine.execAlignTimeout n s
  | .deskewDone n ids skews last => Sys2Proof.Machine.execDeskewDone n ids skews last s
  | .deskewTimeout n ids skews => Sys2Proof.Machine.execDeskewTimeout n ids skews s
  | .fclkStop n => Sys2Proof.Machine.execFclkStop n s
  | .dllLossOfLock n => Sys2Proof.Machine.execDllLossOfLock n s
  | .fclkFreqError n => Sys2Proof.Machine.execFclkFreqError n s
  | .laneOffReceived n => Sys2Proof.Machine.execLaneOffReceived n s
  | .commaMissed n => Sys2Proof.Machine.execCommaMissed n s
  | .txActivate n => Sys2Proof.Machine.execTxActivate n s
  | .txDeactivate n => Sys2Proof.Machine.execTxDeactivate n s
  | .trellisModeWrite m n mode => Sys2Proof.Machine.execTrellisModeWrite m n mode s
  | .trellisModeChange n => Sys2Proof.Machine.execTrellisModeChange n s
  | .inject m n l => Sys2Proof.Machine.execInject m n l s
  | .checkerLock n l bits => Sys2Proof.Machine.execCheckerLock n l bits s
  | .checkerLoseLock n l bits errs recent => Sys2Proof.Machine.execCheckerLoseLock n l bits errs recent s
  | .laneCounterRead m n l errs => Sys2Proof.Machine.execLaneCounterRead m n l errs s
  | .counterRead m addr len => Sys2Proof.Machine.execCounterRead m addr len s
  | .blockSent n due => Sys2Proof.Machine.execBlockSent n due s
  | .blockReceived n symbols skews lines => Sys2Proof.Machine.execBlockReceived n symbols skews lines s
  | .framingLost n missing => Sys2Proof.Machine.execFramingLost n missing s
  | .noFraming n => Sys2Proof.Machine.execNoFraming n s
  | .refClassified c hz => Sys2Proof.Machine.execRefClassified c hz s
  | .frameMarker c idle levels => Sys2Proof.Machine.execFrameMarker c idle levels s
  | .markerTimeout c => Sys2Proof.Machine.execMarkerTimeout c s
  | .refGlitch c ps => Sys2Proof.Machine.execRefGlitch c ps s
  | .refClockLost c ps => Sys2Proof.Machine.execRefClockLost c ps s
  | .candidatePresent c => Sys2Proof.Machine.execCandidatePresent c s
  | .driftMonitorUpdate meas => Sys2Proof.Machine.execDriftMonitorUpdate meas s
  | .qualified c => Sys2Proof.Machine.execQualified c s
  | .disqualified c => Sys2Proof.Machine.execDisqualified c s
  | .bandwidthStep => Sys2Proof.Machine.execBandwidthStep s
  | .handOff freq b => Sys2Proof.Machine.execHandOff freq b s
  | .dpllLocked freq phase => Sys2Proof.Machine.execDpllLocked freq phase s
  | .dpllUnlock phase => Sys2Proof.Machine.execDpllUnlock phase s
  | .holdoverExpired => Sys2Proof.Machine.execHoldoverExpired s
  | .planConfigWrite m p v => Sys2Proof.Machine.execPlanConfigWrite m p v s
  | .poolClaim p => Sys2Proof.Machine.execPoolClaim p s
  | .synthReady p => Sys2Proof.Machine.execSynthReady p s
  | .bridgeFrame p => Sys2Proof.Machine.execBridgeFrame p s
  | .newTiming p => Sys2Proof.Machine.execNewTiming p s
  | .planAlignWrite m p v => Sys2Proof.Machine.execPlanAlignWrite m p v s
  | .policyChange m p policy => Sys2Proof.Machine.execPolicyChange m p policy s
  | .jumpNow m p => Sys2Proof.Machine.execJumpNow m p s
  | .jumpFrame p => Sys2Proof.Machine.execJumpFrame p s
  | .slewDone p => Sys2Proof.Machine.execSlewDone p s
  | .planEnable m p => Sys2Proof.Machine.execPlanEnable m p s
  | .planStart p => Sys2Proof.Machine.execPlanStart p s
  | .planStop p => Sys2Proof.Machine.execPlanStop p s
  | .seedWrite m idx seed => Sys2Proof.Machine.execSeedWrite m idx seed s
  | .flush m idx => Sys2Proof.Machine.execFlush m idx s
  | .relock m idx => Sys2Proof.Machine.execRelock m idx s
  | .bandSearchDone idx band found => Sys2Proof.Machine.execBandSearchDone idx band found s
  | .rampUpdate idx loop => Sys2Proof.Machine.execRampUpdate idx loop s
  | .planSynthUnlock k => Sys2Proof.Machine.execPlanSynthUnlock k s
  | .lanePllUnlock n => Sys2Proof.Machine.execLanePllUnlock n s
  | .logicPllUnlock k => Sys2Proof.Machine.execLogicPllUnlock k s
  | .safeClockReturn k => Sys2Proof.Machine.execSafeClockReturn k s
  | .start m r => Sys2Proof.Machine.execStart m r s
  | .rackerStarts r => Sys2Proof.Machine.execRackerStarts r s
  | .resume m r => Sys2Proof.Machine.execResume m r s
  | .halt m r => Sys2Proof.Machine.execHalt m r s
  | .step m r => Sys2Proof.Machine.execStep m r s
  | .programMemoryWrite m r w v => Sys2Proof.Machine.execProgramMemoryWrite m r w v s
  | .ownershipWrite m k v => Sys2Proof.Machine.execOwnershipWrite m k v s
  | .fenceWrite m n v => Sys2Proof.Machine.execFenceWrite m n v s
  | .hostLease m id dur prio => Sys2Proof.Machine.execHostLease m id dur prio s
  | .hostFree m id prio => Sys2Proof.Machine.execHostFree m id prio s
  | .leaseLapse idx => Sys2Proof.Machine.execLeaseLapse idx s
  | .leaseTimeout who => Sys2Proof.Machine.execLeaseTimeout who s
  | .gpiChange k level => Sys2Proof.Machine.execGpiChange k level s
  | .gpiApplied => Sys2Proof.Machine.execGpiApplied s
  | .programTimeRead m r => Sys2Proof.Machine.execProgramTimeRead m r s
  | .add r => Sys2Proof.Machine.execAdd r s
  | .sub r => Sys2Proof.Machine.execSub r s
  | .and r => Sys2Proof.Machine.execAnd r s
  | .or r => Sys2Proof.Machine.execOr r s
  | .xor r => Sys2Proof.Machine.execXor r s
  | .shl r => Sys2Proof.Machine.execShl r s
  | .shr r => Sys2Proof.Machine.execShr r s
  | .sar r => Sys2Proof.Machine.execSar r s
  | .mul r => Sys2Proof.Machine.execMul r s
  | .cmp r => Sys2Proof.Machine.execCmp r s
  | .addi r => Sys2Proof.Machine.execAddi r s
  | .andi r => Sys2Proof.Machine.execAndi r s
  | .ori r => Sys2Proof.Machine.execOri r s
  | .xori r => Sys2Proof.Machine.execXori r s
  | .shli r => Sys2Proof.Machine.execShli r s
  | .shri r => Sys2Proof.Machine.execShri r s
  | .sari r => Sys2Proof.Machine.execSari r s
  | .cmpi r => Sys2Proof.Machine.execCmpi r s
  | .movi r => Sys2Proof.Machine.execMovi r s
  | .lui r => Sys2Proof.Machine.execLui r s
  | .ldw r ecc => Sys2Proof.Machine.execLdw r ecc s
  | .stw r ecc => Sys2Proof.Machine.execStw r ecc s
  | .ldb r ecc => Sys2Proof.Machine.execLdb r ecc s
  | .stb r ecc => Sys2Proof.Machine.execStb r ecc s
  | .sld r => Sys2Proof.Machine.execSld r s
  | .sst r => Sys2Proof.Machine.execSst r s
  | .mld r => Sys2Proof.Machine.execMld r s
  | .mst r => Sys2Proof.Machine.execMst r s
  | .mfs r => Sys2Proof.Machine.execMfs r s
  | .mts r => Sys2Proof.Machine.execMts r s
  | .bc r => Sys2Proof.Machine.execBc r s
  | .call r => Sys2Proof.Machine.execCall r s
  | .jr r => Sys2Proof.Machine.execJr r s
  | .ret r => Sys2Proof.Machine.execRet r s
  | .trap r ecc => Sys2Proof.Machine.execTrap r ecc s
  | .rett r => Sys2Proof.Machine.execRett r s
  | .stop r => Sys2Proof.Machine.execStop r s
  | .nop r => Sys2Proof.Machine.execNop r s
  | .waitl r => Sys2Proof.Machine.execWaitl r s
  | .waitlComplete r => Sys2Proof.Machine.execWaitlComplete r s
  | .waitf r => Sys2Proof.Machine.execWaitf r s
  | .waitfComplete r => Sys2Proof.Machine.execWaitfComplete r s
  | .waite r => Sys2Proof.Machine.execWaite r s
  | .waiteComplete r => Sys2Proof.Machine.execWaiteComplete r s
  | .waiteTimeout r => Sys2Proof.Machine.execWaiteTimeout r s
  | .atFloor r => Sys2Proof.Machine.execAtFloor r s
  | .prove r => Sys2Proof.Machine.execProve r s
  | .proveComplete r => Sys2Proof.Machine.execProveComplete r s
  | .proveTimeout r => Sys2Proof.Machine.execProveTimeout r s
  | .take r ecc => Sys2Proof.Machine.execTake r ecc s
  | .operationWaitDone r => Sys2Proof.Machine.execOperationWaitDone r s
  | .xset r => Sys2Proof.Machine.execXset r s
  | .amap r => Sys2Proof.Machine.execAmap r s
  | .slotm r => Sys2Proof.Machine.execSlotm r s
  | .commit r => Sys2Proof.Machine.execCommit r s
  | .fade r => Sys2Proof.Machine.execFade r s
  | .hcommit r => Sys2Proof.Machine.execHcommit r s
  | .lmarkMark r => Sys2Proof.Machine.execLmarkMark r s
  | .lmarkEpoch r => Sys2Proof.Machine.execLmarkEpoch r s
  | .lease r => Sys2Proof.Machine.execLease r s
  | .free r => Sys2Proof.Machine.execFree r s
  | .fencew r => Sys2Proof.Machine.execFencew r s
  | .fencewComplete r => Sys2Proof.Machine.execFencewComplete r s
  | .fences r => Sys2Proof.Machine.execFences r s
  | .ring r => Sys2Proof.Machine.execRing r s
  | .postMsg r ecc => Sys2Proof.Machine.execPostMsg r ecc s
  | .gpo r => Sys2Proof.Machine.execGpo r s
  | .planGroupLands p => Sys2Proof.Machine.execPlanGroupLands p s
  | .inputPresent idx => Sys2Proof.Machine.execInputPresent idx s
  | .inputAbsent idx => Sys2Proof.Machine.execInputAbsent idx s
  | .inputFrameStart idx => Sys2Proof.Machine.execInputFrameStart idx s
  | .caskWindowEnter idx p => Sys2Proof.Machine.execCaskWindowEnter idx p s
  | .caskWindowExit idx p line => Sys2Proof.Machine.execCaskWindowExit idx p line s
  | .carriageChange d => Sys2Proof.Machine.execCarriageChange d s
  | .outputFrameStart d => Sys2Proof.Machine.execOutputFrameStart d s
  | .cellarEccError idx p line kind => Sys2Proof.Machine.execCellarEccError idx p line kind s
  | .holdLimit d => Sys2Proof.Machine.execHoldLimit d s
  | .outputPlanChange d => Sys2Proof.Machine.execOutputPlanChange d s
  | .admissionRequest cls id sub => Sys2Proof.Machine.execAdmissionRequest cls id sub s
  | .admissionRetry => Sys2Proof.Machine.execAdmissionRetry s
  | .admissionWithdraw cls id sub => Sys2Proof.Machine.execAdmissionWithdraw cls id sub s
  | .channelPowerDown c => Sys2Proof.Machine.execChannelPowerDown c s
  | .channelSelfRefresh c => Sys2Proof.Machine.execChannelSelfRefresh c s
  | .channelWake c => Sys2Proof.Machine.execChannelWake c s
  | .engineTick master => Sys2Proof.Machine.execEngineTick master s
  | .crossfadeEnd a => Sys2Proof.Machine.execCrossfadeEnd a s
  | .channelStatusBlockEnd c => Sys2Proof.Machine.execChannelStatusBlockEnd c s
  | .delayChange c => Sys2Proof.Machine.execDelayChange c s
  | .dipEnd c => Sys2Proof.Machine.execDipEnd c s
  | .generatorRestart n => Sys2Proof.Machine.execGeneratorRestart n s
  | .i2sLoss k => Sys2Proof.Machine.execI2sLoss k s
  | .i2sGlitch k bclk => Sys2Proof.Machine.execI2sGlitch k bclk s
  | .i2sRateError k ppm => Sys2Proof.Machine.execI2sRateError k ppm s
  | .i2sQualified k => Sys2Proof.Machine.execI2sQualified k s
  | .frameReceived n smd bytes aborted => Sys2Proof.Machine.execFrameReceived n smd bytes aborted s
  | .fragmentReceived n smd bytes aborted => Sys2Proof.Machine.execFragmentReceived n smd bytes aborted s
  | .statusReceived n arg => Sys2Proof.Machine.execStatusReceived n arg s
  | .frameSent n cut => Sys2Proof.Machine.execFrameSent n cut s
  | .statusSent n => Sys2Proof.Machine.execStatusSent n s
  | .classifierWrite m => Sys2Proof.Machine.execClassifierWrite m s
  | .classifierRead m => Sys2Proof.Machine.execClassifierRead m s
  | .rxContextEnable m x v => Sys2Proof.Machine.execRxContextEnable m x v s
  | .packetDeadline x => Sys2Proof.Machine.execPacketDeadline x s
  | .legLoss x leg => Sys2Proof.Machine.execLegLoss x leg s
  | .lineRelease x ts line => Sys2Proof.Machine.execLineRelease x ts line s
  | .txContextEnable m y v => Sys2Proof.Machine.execTxContextEnable m y v s
  | .txContextStart y => Sys2Proof.Machine.execTxContextStart y s
  | .packetDeparture y k => Sys2Proof.Machine.execPacketDeparture y k s
  | .announce n domain port dataset mac ip utc log => Sys2Proof.Machine.execAnnounce n domain port dataset mac ip utc log s
  | .sync n domain port seq twoStep origin corr lane => Sys2Proof.Machine.execSync n domain port seq twoStep origin corr lane s
  | .followUp n domain port seq origin corr => Sys2Proof.Machine.execFollowUp n domain port seq origin corr s
  | .delayReq n => Sys2Proof.Machine.execDelayReq n s
  | .delayResp n domain port seq t4 corr => Sys2Proof.Machine.execDelayResp n domain port seq t4 corr s
  | .announceTimeout n => Sys2Proof.Machine.execAnnounceTimeout n s
  | .servoEvaluation n => Sys2Proof.Machine.execServoEvaluation n s
  | .accept m n => Sys2Proof.Machine.execAccept m n s
  | .ptpRestart m n => Sys2Proof.Machine.execPtpRestart m n s
  | .deviceTimeRead m => Sys2Proof.Machine.execDeviceTimeRead m s
  | .planPositionRead m p => Sys2Proof.Machine.execPlanPositionRead m p s
  | .headStart h => Sys2Proof.Machine.execHeadStart h s
  | .headStop h => Sys2Proof.Machine.execHeadStop h s
  | .latchDecision h => Sys2Proof.Machine.execLatchDecision h s
  | .flip h => Sys2Proof.Machine.execFlip h s
  | .underrun h j => Sys2Proof.Machine.execUnderrun h j s
  | .lutDataWrite m h v => Sys2Proof.Machine.execLutDataWrite m h v s
  | .tileRowComplete h => Sys2Proof.Machine.execTileRowComplete h s
  | .regionPushPacket h => Sys2Proof.Machine.execRegionPushPacket h s
  | .regionPushFrameEnd h => Sys2Proof.Machine.execRegionPushFrameEnd h s
  | .verdict d => Sys2Proof.Machine.execVerdict d s
  | .rgenAdvance => Sys2Proof.Machine.execRgenAdvance s
  | .recordSelect m v => Sys2Proof.Machine.execRecordSelect m v s
  | .booksClose => Sys2Proof.Machine.execBooksClose s
  | .ledgerCheck => Sys2Proof.Machine.execLedgerCheck s
  | .ledgerEccError => Sys2Proof.Machine.execLedgerEccError s
  | .epochRequest m => Sys2Proof.Machine.execEpochRequest m s
  | .epochStart => Sys2Proof.Machine.execEpochStart s
  | .hold m => Sys2Proof.Machine.execHold m s
  | .release m => Sys2Proof.Machine.execRelease m s
  | .ledgerSelect m v => Sys2Proof.Machine.execLedgerSelect m v s
  | .markRead m => Sys2Proof.Machine.execMarkRead m s
  | .stateSent claimIn => Sys2Proof.Machine.execStateSent claimIn s
  | .stateReceived len crc groups => Sys2Proof.Machine.execStateReceived len crc groups s
  | .mirrorLinkDown => Sys2Proof.Machine.execMirrorLinkDown s
  | .mirrorLinkUp => Sys2Proof.Machine.execMirrorLinkUp s
  | .journalEntry m addr len data => Sys2Proof.Machine.execJournalEntry m addr len data s
  | .journalStallRelease => Sys2Proof.Machine.execJournalStallRelease s
  | .journalReceived len crc groups => Sys2Proof.Machine.execJournalReceived len crc groups s
  | .journalApply => Sys2Proof.Machine.execJournalApply s
  | .oprecReceived len r result groups => Sys2Proof.Machine.execOprecReceived len r result groups s
  | .effectReceived len r kind frame line words => Sys2Proof.Machine.execEffectReceived len r kind frame line words s
  | .ckptReceived len crc groups => Sys2Proof.Machine.execCkptReceived len crc groups s
  | .tokenRenew => Sys2Proof.Machine.execTokenRenew s
  | .tokenLapse => Sys2Proof.Machine.execTokenLapse s
  | .fenceWaitExpiry => Sys2Proof.Machine.execFenceWaitExpiry s
  | .claimInLow => Sys2Proof.Machine.execClaimInLow s
  | .fenceIn => Sys2Proof.Machine.execFenceIn s
  | .takeoverComplete => Sys2Proof.Machine.execTakeoverComplete s
  | .unfence m => Sys2Proof.Machine.execUnfence m s
  | .goSolo m => Sys2Proof.Machine.execGoSolo m s
  | .catchup m => Sys2Proof.Machine.execCatchup m s
  | .catchupCapture => Sys2Proof.Machine.execCatchupCapture s
  | .imageReceived len memory part last => Sys2Proof.Machine.execImageReceived len memory part last s
  | .catchupInstall => Sys2Proof.Machine.execCatchupInstall s
  | .mailRecord len crc groups => Sys2Proof.Machine.execMailRecord len crc groups s
  | .mailRecordAck len crc groups => Sys2Proof.Machine.execMailRecordAck len crc groups s
  | .ringRecord len crc groups => Sys2Proof.Machine.execRingRecord len crc groups s
  | .mirrorMailSend r => Sys2Proof.Machine.execMirrorMailSend r s
  | .credit n src count => Sys2Proof.Machine.execCredit n src count s
  | .hello n addr far twin mode inc => Sys2Proof.Machine.execHello n addr far twin mode inc s
  | .route n src entries near => Sys2Proof.Machine.execRoute n src entries near s
  | .routeExpiry a => Sys2Proof.Machine.execRouteExpiry a s
  | .heartbeat n dest src hops term frame digest excluded phase => Sys2Proof.Machine.execHeartbeat n dest src hops term frame digest excluded phase s
  | .heartbeatMissed => Sys2Proof.Machine.execHeartbeatMissed s
  | .election => Sys2Proof.Machine.execElection s
  | .exclude a => Sys2Proof.Machine.execExclude a s
  | .leaseReq n dest src hops id dur prio index free srcDev slots => Sys2Proof.Machine.execLeaseReq n dest src hops id dur prio index free srcDev slots s
  | .leaseAns n dest src hops id status e => Sys2Proof.Machine.execLeaseAns n dest src hops id status e s
  | .leaseUpd n dest src hops id addr index e runs => Sys2Proof.Machine.execLeaseUpd n dest src hops id addr index e runs s
  | .leaseSync n dest src hops copy => Sys2Proof.Machine.execLeaseSync n dest src hops copy s
  | .inherit n dest src hops failed => Sys2Proof.Machine.execInherit n dest src hops failed s
  | .feed n dest src hops k run => Sys2Proof.Machine.execFeed n dest src hops k run s
  | .select n dest src hops k ch id => Sys2Proof.Machine.execSelect n dest src hops k ch id s
  | .selectAck n dest src hops ch width => Sys2Proof.Machine.execSelectAck n dest src hops ch width s
  | .record n dest src hops ch tag rgen digest checks valid damaged => Sys2Proof.Machine.execRecord n dest src hops ch tag rgen digest checks valid damaged s
  | .audio n dest src hops m ticks => Sys2Proof.Machine.execAudio n dest src hops m ticks s
  | .mail n dest src hops q code words => Sys2Proof.Machine.execMail n dest src hops q code words s
  | .mailAck n dest src hops q code => Sys2Proof.Machine.execMailAck n dest src hops q code s
  | .fabricMailSend r => Sys2Proof.Machine.execFabricMailSend r s
  | .watchdogExpiry => Sys2Proof.Machine.execWatchdogExpiry s
  | .coreFault => Sys2Proof.Machine.execCoreFault s
  | .mgtCtrlRestart m => Sys2Proof.Machine.execMgtCtrlRestart m s
  | .boot store dropped other => Sys2Proof.Machine.execBoot store dropped other s
  | .sensorUpdate idx reading => Sys2Proof.Machine.execSensorUpdate idx reading s
  | .alarmRaise idx => Sys2Proof.Machine.execAlarmRaise idx s
  | .alarmClear idx => Sys2Proof.Machine.execAlarmClear idx s
  | .logFlush error => Sys2Proof.Machine.execLogFlush error s
  | .sensorRead => Sys2Proof.Machine.execSensorRead s
  | .threshSet => Sys2Proof.Machine.execThreshSet s
  | .logRead => Sys2Proof.Machine.execLogRead s
  | .storeRead => Sys2Proof.Machine.execStoreRead s
  | .storeLoad bytes fail => Sys2Proof.Machine.execStoreLoad bytes fail s
  | .otpRead => Sys2Proof.Machine.execOtpRead s
  | .otpBankWrite bytes fail stuck => Sys2Proof.Machine.execOtpBankWrite bytes fail stuck s
  | .otpBoardWrite stuck => Sys2Proof.Machine.execOtpBoardWrite stuck s
  | .keyInstall stuck => Sys2Proof.Machine.execKeyInstall stuck s
  | .keyRevoke stuck => Sys2Proof.Machine.execKeyRevoke stuck s
  | .ping => Sys2Proof.Machine.execPing s
  | .updBegin => Sys2Proof.Machine.execUpdBegin s
  | .updChunk bytes fail => Sys2Proof.Machine.execUpdChunk bytes fail s
  | .updVerify => Sys2Proof.Machine.execUpdVerify s
  | .verifyDone => Sys2Proof.Machine.execVerifyDone s
  | .updActivate => Sys2Proof.Machine.execUpdActivate s
  | .updAbort => Sys2Proof.Machine.execUpdAbort s
  | .updConfirm => Sys2Proof.Machine.execUpdConfirm s
  | .updConfirmKey m key => Sys2Proof.Machine.execUpdConfirmKey m key s
  | .autoConfirm => Sys2Proof.Machine.execAutoConfirm s
  | .healthWindowExpiry => Sys2Proof.Machine.execHealthWindowExpiry s
  | .mbxPost m c => Sys2Proof.Machine.execMbxPost m c s
  | .mbxFree m c => Sys2Proof.Machine.execMbxFree m c s
  | .doorbellSet m b bits => Sys2Proof.Machine.execDoorbellSet m b bits s
  | .doorbellClear m b bits => Sys2Proof.Machine.execDoorbellClear m b bits s
  | .doorbellMask m b mask => Sys2Proof.Machine.execDoorbellMask m b mask s
  | .cbsFrameReceived bytes => Sys2Proof.Machine.execCbsFrameReceived bytes s
  | .cbsTransmit => Sys2Proof.Machine.execCbsTransmit s
  | .collision late => Sys2Proof.Machine.execCollision late s
  | .backoffExpiry => Sys2Proof.Machine.execBackoffExpiry s
  | .perst => Sys2Proof.Machine.execPerst s
  | .endpointReady speed width => Sys2Proof.Machine.execEndpointReady speed width s
  | .linkDown => Sys2Proof.Machine.execLinkDown s
  | .functionLevelReset f => Sys2Proof.Machine.execFunctionLevelReset f s
  | .d3hotEntry f => Sys2Proof.Machine.execD3hotEntry f s
  | .lockAcquire m n => Sys2Proof.Machine.execLockAcquire m n s
  | .lockRelease m n => Sys2Proof.Machine.execLockRelease m n s
  | .registerWrite m addr len data => Sys2Proof.Machine.execRegisterWrite m addr len data s
  | .ppsOutEdge => Sys2Proof.Machine.execPpsOutEdge s
  | .ppsInEdge => Sys2Proof.Machine.execPpsInEdge s
  | .testLogicReset => Sys2Proof.Machine.execTestLogicReset s
  | .extest levels cells => Sys2Proof.Machine.execExtest levels cells s
  | .idcode => Sys2Proof.Machine.execIdcode s
  | .samplePreload levels cells => Sys2Proof.Machine.execSamplePreload levels cells s
  | .clamp => Sys2Proof.Machine.execClamp s
  | .highz => Sys2Proof.Machine.execHighz s
  | .bypass => Sys2Proof.Machine.execBypass s
  | .devreset => Sys2Proof.Machine.execDevreset s
  | .dbgaccRead w => Sys2Proof.Machine.execDbgaccRead w s
  | .dbgaccWrite w v => Sys2Proof.Machine.execDbgaccWrite w v s
  | .dbgaccCapture => Sys2Proof.Machine.execDbgaccCapture s
  | .fenceInReleased => Sys2Proof.Machine.execFenceInReleased s
  | .d3hotExit f => Sys2Proof.Machine.execD3hotExit f s
  | .lutDataRead m h => Sys2Proof.Machine.execLutDataRead m h s
  | .i2sFrameReceived k left right => Sys2Proof.Machine.execI2sFrameReceived k left right s
  | .inputFrameComplete idx => Sys2Proof.Machine.execInputFrameComplete idx s
  | .caskEccError => Sys2Proof.Machine.execCaskEccError s
  | .proofStoreEccError id out age => Sys2Proof.Machine.execProofStoreEccError id out age s
  | .dbgaccDone => Sys2Proof.Machine.execDbgaccDone s

end Sys2Proof.Machine
end

