-- ==== Sys2Proof/Machine/Step.lean ====
section
/-! DEFINITION. One step: the command at the front of the queue takes effect; an empty queue lets time pass. -/

namespace Sys2Proof.Machine

/-- One step of the block. The command at the front of the queue is carried out with the rest of the queue. With nothing waiting the block idles,
and 2 ns pass, a racker's clock period at 500 MHz (R239). DESIGN CHOICE: what falls due by then is a command of its own. -/
def step (s : State) : Host.Outcome State Fault Refusal :=
  match s.pending with
  | [] => .next { s with now := s.now + 12 }
  | i :: l => exec i { s with pending := l }

/-- The state with the command that a word of the opcode table spells put at the front of its queue. The table gives its rows no bits: no
word spells a command, and the state stands as it is. -/
def State.withFetchWord (s : State) (nbits w : Nat) : State :=
  match Sys2Proof.decodeTableWord nbits w with
  | some i => { s with pending := i :: s.pending }
  | none => s

end Sys2Proof.Machine
end

