-- ==== Sys2Proof/Safety.lean ====
section
/-! DEFINITION. The terms in which claims about runs are made: when an access goes through, when a racker issues an instruction, the
canonical form of the state, and what a command leaves alone. -/

namespace Sys2Proof.Machine

/-- A master's access of one word of a register of BAR0 goes through: the device is out of reset and for the host its link is up (R620,
R621), nothing of the master stalls (R538), a window admits it and no right is missing (R593, R594, R632, R634), a register lies there and its
domain answers (R635), and the write need not go into the journal of a twin pair (R533). -/
def State.Admits (s : State) (m : Nat) (write : Bool) (a : Nat) : Prop :=
  s.busOpen m = true ∧ (s.twn.stalled.any fun e => e.master == m) = false ∧ s.verdictOn m write a 4 = .no ∧ s.unreached m a = none
    ∧ s.journalsFor m = false

/-- A racker issues an instruction: it runs, its PC lies in program memory, and the word there decodes to the instruction (R240, R293,
R294). -/
def State.Issues (s : State) (r : Fin 16) (i : RckInstr) : Prop :=
  s.rckRuns r = true ∧ (s.rckH r).pcOver = false ∧ rckDecode (s.fetchWord r) = some i

/-- The sparse stores of registers, memories and OTP bytes are in canonical form, and the keys of the cellar are bytes of it. -/
def State.canon (s : State) : Bool :=
  storeWf resetWord s.regs && storeWf (fun _ => (0 : BitVec 8)) s.cellar && storeWf (fun _ => 0) s.otp

end Sys2Proof.Machine
end

