-- ==== Sys2Proof/Certificates/Slice0/Obligations.lean ====
section
/-! DEFINITION. The statements about the model, each a Prop: what a step and every command do, the canonical form that every step keeps,
encodings, and the rules of the spec that say what the machine does. -/

open Sys2Proof Sys2Proof.Machine

/-- A step runs the command at the front of the queue. For every command and state, the step of the state with that command at the front of its
  queue is the outcome of the command on the state with the rest of the queue. (The spec: 00_scope.md.) -/
def Obligations.StepRunsTheFrontCommand : Prop :=
  ∀ (c : Instr) (s : State), step { s with pending := c :: s.pending } = exec c s

/-- With nothing waiting, a step lets one racker clock period at 500 MHz pass and changes nothing else. With an empty queue a step answers the state
  with its time advanced by 12 time units of 1/6 ns. The model's choice (log entry 2): the spec gives the block no idle step. (The spec:
  07_racking_programs.md.) -/
def Obligations.AnEmptyQueueLetsTimePass : Prop :=
  ∀ s : State, s.pending = [] → step s = .next { s with now := s.now + 12 }

/-- The state after reset. After reset the device is in device reset, nothing waits, no books and no log records are held, the host waits for its
  link, and the registers named hold the values that their tables state, among them the VIN thresholds, the thermal thresholds, the journal lead,
  the state of every racker, the lanes' transmit presets and the reset windows of the control matrix. (The spec: 02_supply_domains_and_modes.md,
  07_racking_programs.md, 13_route_proof_and_ledger.md, 14_twin_failover_and_fabric.md, 16_host_interface_and_control_matrix.md.) -/
def Obligations.ResetLeavesTheStatedValues : Prop :=
  State.reset.top.inReset = true ∧ State.reset.pending = [] ∧ State.reset.log = [] ∧ State.reset.ldg.books = [] ∧
    State.reset.mode = .startup ∧ State.reset.rd PCI_STATUS_LINK_UP = 0 ∧
    State.reset.rd PWR_VIN_THR_FAULT_MV = 10800 ∧ State.reset.rd PWR_VIN_THR_WARN_MV = 11000 ∧
    State.reset.rd PWR_SHED_THR_CRIT = 110 ∧ State.reset.rd PWR_SHED_HYST_HYST = 3 ∧ State.reset.rd PWR_SHED_HYST_HOLD = 1 ∧
    State.reset.rd TWN_CFG_LEAD = 2 ∧
    (∀ r : Fin 16, State.reset.rd (RCK_STATUS_STATE r) = 0 ∧ State.reset.rd (RCK_PC_PC r) = 0 ∧ (State.reset.rckH r).lnk = 0) ∧
    (∀ i : Fin 256, State.reset.rd (RCK_LEASE_H_HELD i) = 0 ∧ State.reset.word (RCK_FENCE i) = 0) ∧
    (∀ n : Fin 64, State.reset.word (MTX_LOCK n) = 0) ∧
    (∀ m : Fin 22, State.reset.rd (MTX_WIN_BASE_EN m 0) = 1 ∧ State.reset.rd (MTX_WIN_BASE_R m 0) = 1 ∧ State.reset.rd (MTX_WIN_BASE_W m 0) = 1)

/-- The sparse stores of the reset state are in canonical form. The registers, memories, OTP bytes and cellar bytes of the reset state are in
  canonical form. The form is the model's own (log entry 3). (The spec: 00_scope.md.) -/
def Obligations.ResetMemoryIsCanonical : Prop :=
  State.reset.canon = true

/-- Every step keeps the canonical form of memory. From every state whose sparse stores of registers, memories, OTP bytes and cellar bytes are in
  canonical form, a step that answers a next state answers one whose stores are in canonical form too, whichever command stands in front. The form
  is the model's own (log entry 3). (The spec: 00_scope.md.) -/
def Obligations.EveryStepKeepsTheCanonicalForm : Prop :=
  ∀ s t : State, s.canon = true → step s = .next t → t.canon = true

/-- Every command answers a next state and leaves the waiting commands and the time alone. Every command in every state answers a next state, in
  which the commands that wait and the time are as they were: no command is refused, none faults, none drops another command, and time passes only
  between commands (log entry 2). (The spec: 00_scope.md.) -/
def Obligations.EveryCommandCompletesAndKeepsQueueAndTime : Prop :=
  ∀ (c : Instr) (s : State), ∃ t, exec c s = .next t ∧ t.pending = s.pending ∧ t.now = s.now

/-- A racker's instruction word decodes to the instruction it encodes. For every well-formed racker instruction, with every operand at every value
  its format admits, the word written from Table 08-1 has 32 bits and decodes to that instruction. (The spec: 08_racking_instruction_set.md.) -/
def Obligations.RackerWordsDecodeToWhatTheyEncode : Prop :=
  ∀ i : RckInstr, i.wf = true → rckEncode i < 2 ^ 32 ∧ rckDecode (rckEncode i) = some i

/-- A word that decodes is the word of a well-formed instruction. Every 32-bit word that decodes, decodes to a well-formed instruction whose own
  word is that word: no bit of a decoded word is dropped, and no two words decode to one instruction. (The spec: 08_racking_instruction_set.md.) -/
def Obligations.RackerWordsHaveOneReading : Prop :=
  ∀ (w : Nat) (i : RckInstr), w < 2 ^ 32 → rckDecode w = some i → i.wf = true ∧ rckEncode i = w

/-- Words written out from Table 08-1 decode to the instructions they stand for. One word of each of the five formats, and an undefined opcode,
  written out bit by bit from Table 08-1 and Table 08-3, decode as the tables say. (The spec: 08_racking_instruction_set.md.) -/
def Obligations.KnownRackerWordsDecode : Prop :=
  rckDecode 0b00000100001111100100100000000000 = some (.regs 0x01 1 30 9) ∧
    rckDecode 0b01010100010000111111111111111100 = some (.imm 0x15 2 3 0xFFFC) ∧
    rckDecode 0b10100000000001000000000000000000 = none ∧
    rckDecode 0b10100000000001001000000000000000 = some (.time 0x28 0 4 true 0) ∧
    rckDecode 0b10100000000000000000001001001100 = some (.time 0x28 0 0 false 588) ∧
    rckDecode 0b11000000101001100011100000000000 = some (.rout 0x30 5 6 7 false 0) ∧
    rckDecode 0b11110001010011000000000000011111 = some (.sync 0x3C 10 12 0 31) ∧
    rckDecode 0b01111100000000000000000000000000 = none

/-- A group sent on a lane is received as it was sent. A group sent by R75, R76, R79 and R81 and received by R78, R80 and R82 gives back its kind
  flag and payload, whatever the running disparity and whichever candidate was sent, where the receiver holds the sender's last symbol and scrambler
  state; and it leaves the receiver with the sender's new ones. With inverted polarity (R72) the same holds of the inverted symbols. (The spec:
  03_trellis_lanes.md.) -/
def Obligations.LaneCodeRoundTrip : Prop :=
  ∀ (control : Bool) (payload : Nat) (h k : LaneH), payload < 2 ^ 16 → h.pTx < 4 → k.scrRx = h.scrTx → k.pRx = h.pTx →
    receiveGroup false (sendGroup control payload h).2 k =
      ({ k with scrRx := (sendGroup control payload h).1.scrTx, pRx := (sendGroup control payload h).1.pTx }, control, payload) ∧
    receiveGroup true ((sendGroup control payload h).2.map (3 - ·)) k = receiveGroup false (sendGroup control payload h).2 k

/-- A write of thermal thresholds that do not rise, or exceed 115, changes nothing. A write to PWR_SHED_THR that goes through, whose values do not
  strictly increase from L1 to CRIT or whose CRIT is above 115, leaves the whole state as it was. (R66.) -/
def Obligations.ShedThresholdsThatDoNotRiseAreIgnored : Prop :=
  ∀ (s : State) (m : Fin 22) (v : Word), s.Admits m true PWR_SHED_THR →
    (v.toNat / 2 ^ 8 % 256 ≤ v.toNat % 256 ∨ v.toNat / 2 ^ 16 % 256 ≤ v.toNat / 2 ^ 8 % 256 ∨
      v.toNat / 2 ^ 24 ≤ v.toNat / 2 ^ 16 % 256 ∨ 115 < v.toNat / 2 ^ 24) →
    exec (.pwrShedThrWrite m v) s = .next s

/-- The VIN thresholds are stored clamped, the fault threshold first. A write to PWR_VIN_THR that goes through stores the fault threshold clamped to
  10,500 to 11,000 mV, then the warning threshold clamped from 100 mV above the stored fault threshold to 11,800 mV, and changes no other word.
  (R28.) -/
def Obligations.VinThresholdsAreClamped : Prop :=
  ∀ (s : State) (m : Fin 22) (v : Word) (f w : Nat), s.Admits m true PWR_VIN_THR →
    f = (if v.toNat / 2 ^ 16 < 10500 then 10500 else if 11000 < v.toNat / 2 ^ 16 then 11000 else v.toNat / 2 ^ 16) →
    w = (if v.toNat % 2 ^ 16 < f + 100 then f + 100 else if 11800 < v.toNat % 2 ^ 16 then 11800 else v.toNat % 2 ^ 16) →
    ∃ t, exec (.pwrVinThrWrite m v) s = .next t ∧ t.rd PWR_VIN_THR_FAULT_MV = f ∧ t.rd PWR_VIN_THR_WARN_MV = w ∧
      (∀ a, a ≠ PWR_VIN_THR → t.word a = s.word a)

/-- A fence takes a written value only where that lies ahead of it. A write of a fence by a master, and FENCES of a racker, store the value only
  when the difference from the fence's value is positive as a signed 32-bit value, and otherwise the fence keeps its value; no other fence changes.
  (R281.) -/
def Obligations.FencesOnlyAdvance : Prop :=
  (∀ (s : State) (m : Fin 22) (n : Fin 256) (v : Word), s.Admits m true (RCK_FENCE n) →
      ∃ t, exec (.fenceWrite m n v) s = .next t ∧
        t.word (RCK_FENCE n) = (if 0 < (v - s.word (RCK_FENCE n)).toInt then v else s.word (RCK_FENCE n)) ∧
        (∀ a, a ≠ RCK_FENCE n → t.word a = s.word a)) ∧
    (∀ (s : State) (r : Fin 16) (i : RckInstr) (n : Nat) (v : Word), s.Issues r i → i.op = 0x3B →
      n = (s.greg r i.ra).toNat % 256 → v = s.greg r i.rb →
      ∃ t, exec (.fences r) s = .next t ∧
        t.word (RCK_FENCE n) = (if 0 < (v - s.word (RCK_FENCE n)).toInt then v else s.word (RCK_FENCE n)) ∧
        (∀ k, k < 256 → k ≠ n → t.word (RCK_FENCE k) = s.word (RCK_FENCE k)))

/-- Data memory addresses are byte addresses, words are little-endian, and bad addresses trap. LDW and STW trap with cause ALIGN at an address that
  is not a multiple of 4, before anything else; the four loads and stores trap with cause DM_RANGE at any other address above 0x3FFF; at a good
  address without an ECC error LDW and STW move the word there, LDB reads the byte that lies at the address in little-endian order, and STB replaces
  that byte of its word and no other. (R302.) -/
def Obligations.DataMemoryAccessesAreChecked : Prop :=
  ∀ (s u : State) (r : Fin 16) (i : RckInstr) (ecc : Bool) (a : Nat), s.Issues r i → u = s.resync r →
    a = (u.greg r i.ra + signExt16 i.immediate).toNat →
    (i.op = 0x15 → a % 4 ≠ 0 → exec (.ldw r ecc) s = .next (u.trap r 6 0)) ∧
    (i.op = 0x16 → a % 4 ≠ 0 → exec (.stw r ecc) s = .next (u.trap r 6 0)) ∧
    (i.op = 0x15 → a % 4 = 0 → 0x3FFF < a → exec (.ldw r ecc) s = .next (u.trap r 5 0)) ∧
    (i.op = 0x16 → a % 4 = 0 → 0x3FFF < a → exec (.stw r ecc) s = .next (u.trap r 5 0)) ∧
    (i.op = 0x17 → 0x3FFF < a → exec (.ldb r ecc) s = .next (u.trap r 5 0)) ∧
    (i.op = 0x18 → 0x3FFF < a → exec (.stb r ecc) s = .next (u.trap r 5 0)) ∧
    (ecc = false → a ≤ 0x3FFF →
      (i.op = 0x15 → a % 4 = 0 → exec (.ldw r ecc) s = .next ((u.setGreg r i.rd (u.word (RCK_DM r (a / 4)))).retire r 2)) ∧
      (i.op = 0x16 → a % 4 = 0 → exec (.stw r ecc) s = .next ((u.setWord (RCK_DM r (a / 4)) (u.greg r i.rd)).retire r 1)) ∧
      (i.op = 0x17 → exec (.ldb r ecc) s =
        .next ((u.setGreg r i.rd (BitVec.ofNat 32 ((u.word (RCK_DM r (a / 4))).toNat / 2 ^ (8 * (a % 4)) % 256))).retire r 2)) ∧
      (i.op = 0x18 → ∃ w : Word, exec (.stb r ecc) s = .next ((u.setWord (RCK_DM r (a / 4)) w).retire r 1) ∧
        ∀ k, k < 4 → w.toNat / 2 ^ (8 * k) % 256 =
          (if k = a % 4 then (u.greg r i.rd).toNat % 256 else (u.word (RCK_DM r (a / 4))).toNat / 2 ^ (8 * k) % 256)))

/-- A regulator fault on an always-on rail is a device reset of cause 4. Out of device reset, with VIN above the 8 V of a power-on, a regulator
  fault on the rail of an always-on domain leaves PWR_RST_CAUSE.CAUSE at 4, the mode STARTUP, no racker running and no lease held. (R31.) -/
def Obligations.AlwaysOnRegulatorFaultResetsTheDevice : Prop :=
  ∀ s : State, s.top.inReset = false → 8000 ≤ s.pin.vin →
    ∃ t, exec .alwaysOnRegulatorFault s = .next t ∧ t.rd PWR_RST_CAUSE_CAUSE = 4 ∧ t.mode = .startup ∧
      (∀ r : Fin 16, t.rd (RCK_STATUS_STATE r) = 0) ∧ (∀ i : Fin 256, t.rd (RCK_LEASE_H_HELD i) = 0)

/-- A read of a free lock takes it, a read of a held one names its holder, and only its holder, M0 or M2 releases it. With no other request in the
  cycle, a read of a free lock returns 0 and the reader holds the lock; a read of a held lock returns the holder's master number with bit 31 set and
  changes no word; where another master of higher QoS, or of equal QoS and lower number, reads the free lock in the same cycle, that master acquires
  it and this read returns it as the holder; a write of 1 to the release register frees a lock that the writer holds, or that another master holds
  where the writer is M0 or M2, and any other release changes no lock (R644, R645; the commands that wait are the requests of the cycle, log entry
  2). (The spec: 16_host_interface_and_control_matrix.md.) -/
def Obligations.LocksAreHeldByTheirReader : Prop :=
  ∀ (s : State) (m : Fin 22) (n : Fin 64),
    (s.Admits m false (MTX_LOCK n) → s.pending = [] → s.pci.won.contains (n.val, m.val, s.now) = false → s.word (MTX_LOCK n) = 0 →
      ∃ t, exec (.lockAcquire m n) s = .next t ∧ t.lastRead = 0 ∧ t.word (MTX_LOCK n) = BitVec.ofNat 32 (2 ^ 31 + m) ∧
        (∀ a, a ≠ MTX_LOCK n → t.word a = s.word a)) ∧
    (∀ k : Fin 22, s.Admits m false (MTX_LOCK n) → s.pending = [.lockAcquire k n] → s.pci.won.contains (n.val, m.val, s.now) = false →
      s.word (MTX_LOCK n) = 0 → s.busOpen k = true → s.windowCause k false (MTX_LOCK n) 4 = 0 →
      s.rd (MTX_MCFG_QOS m) < s.rd (MTX_MCFG_QOS k) ∨ s.rd (MTX_MCFG_QOS m) = s.rd (MTX_MCFG_QOS k) ∧ k < m →
      ∃ t, exec (.lockAcquire m n) s = .next t ∧ t.lastRead = 2 ^ 31 + k ∧ t.word (MTX_LOCK n) = BitVec.ofNat 32 (2 ^ 31 + k)) ∧
    (∀ k : Fin 22, s.Admits m false (MTX_LOCK n) → s.pending = [] → s.pci.won.contains (n.val, m.val, s.now) = false →
      s.word (MTX_LOCK n) = BitVec.ofNat 32 (2 ^ 31 + k) →
      ∃ t, exec (.lockAcquire m n) s = .next t ∧ t.lastRead = 2 ^ 31 + k ∧ (∀ a, t.word a = s.word a)) ∧
    (∀ k : Fin 22, s.Admits m true (MTX_LOCK_REL n) → s.word (MTX_LOCK n) = BitVec.ofNat 32 (2 ^ 31 + k) →
      s.pci.freed.contains (n.val, m.val, s.now) = false → k = m ∨ m = 0 ∨ m = 2 →
      ∃ t, exec (.lockRelease m n) s = .next t ∧ t.word (MTX_LOCK n) = 0) ∧
    (s.Admits m true (MTX_LOCK_REL n) → s.pci.freed.contains (n.val, m.val, s.now) = false →
      ¬ (s.on (MTX_LOCK_HELD n) = true ∧ (s.rd (MTX_LOCK_OWNER n) = m ∨ m = 0 ∨ m = 2)) →
      ∃ t, exec (.lockRelease m n) s = .next t ∧ (∀ k : Fin 64, t.word (MTX_LOCK k) = s.word (MTX_LOCK k)) ∧
        t.on MTX_EVENT_LOCK_ERR = true)

/-- A doorbell write sets the bits written, and only the receiver of the bank clears them. A write to MBX_DB_SET that goes through sets the bits
  written and keeps the others; a write to MBX_DB by M0 or by the receiver of the bank clears the bits written that were not set in the same cycle
  and keeps the others; a write to MBX_DB by any other master clears none (R600; the model notes which bits were set in the present cycle). (The
  spec: 15_management_mailboxes_and_update.md.) -/
def Obligations.DoorbellBitsAreSetAndClearedByTheirMasters : Prop :=
  ∀ (s : State) (m : Fin 22) (b : Fin 21) (v : Word),
    (s.Admits m true (MBX_DB_SET b) → ∃ t, exec (.doorbellSet m b v) s = .next t ∧ t.word (MBX_DB b) = s.word (MBX_DB b) ||| v) ∧
    (s.Admits m true (MBX_DB b) →
      m.val = 0 ∨ (b.val < 16 ∧ m.val = 3 + b.val) ∨ (b.val = 16 ∧ m.val = 1) ∨ (b.val = 19 ∧ m.val = 2) →
      ∃ t, exec (.doorbellClear m b v) s = .next t ∧ ∀ k, k < 32 → bit (t.word (MBX_DB b)).toNat k =
        (bit (s.word (MBX_DB b)).toNat k && (!bit v.toNat k || (s.pci.setAt == s.now && s.pci.setNow.contains (MBX_DB b, k))))) ∧
    (s.Admits m true (MBX_DB b) →
      ¬ (m.val = 0 ∨ (b.val < 16 ∧ m.val = 3 + b.val) ∨ (b.val = 16 ∧ m.val = 1) ∨ (b.val = 19 ∧ m.val = 2)) →
      exec (.doorbellClear m b v) s = .next s)

/-- A post fills the write slot of a channel, a free empties its read slot, and a full or empty channel changes neither. A post that goes through on
  a channel of fewer than 8 messages sets the posted bit of slot WR, advances WR and increases COUNT; a free on a channel that holds messages and is
  not one that the fabric feeds or drains (336 to 383, where a free goes on to move held mail) clears the posted bit of slot RD, advances RD and
  decreases COUNT; a post on a full channel and a free on an empty one of those leave the channel as it was and set POST_FULL or FREE_ERR; but where
  a free of the full channel falls in the same cycle, it applies before the post, which then succeeds (R588, R590, R592; the commands that wait are
  those of the cycle, log entry 2). (The spec: 15_management_mailboxes_and_update.md.) -/
def Obligations.MailboxChannelsCountTheirMessages : Prop :=
  ∀ (s : State) (m : Fin 22) (c : Fin 394),
    (s.Admits m true (MBX_POST c) → (s.chanNow c).posts = 0 → s.rd (MBX_CH_COUNT c) < 8 →
      ∃ t, exec (.mbxPost m c) s = .next t ∧ t.rd (MBX_CH_COUNT c) = s.rd (MBX_CH_COUNT c) + 1 ∧
        t.rd (MBX_CH_WR c) = (s.rd (MBX_CH_WR c) + 1) % 8 ∧ t.rd (MBX_CH_RD c) = s.rd (MBX_CH_RD c) ∧
        (∀ k, k < 8 → bit (t.rd (MBX_CH_POSTED c)) k = if k = s.rd (MBX_CH_WR c) then true else bit (s.rd (MBX_CH_POSTED c)) k)) ∧
    (s.Admits m true (MBX_FREE c) → ¬ (336 ≤ c.val ∧ c.val < 384) → (s.chanNow c).frees = 0 → 1 ≤ s.rd (MBX_CH_COUNT c) →
      ∃ t, exec (.mbxFree m c) s = .next t ∧ t.rd (MBX_CH_COUNT c) = s.rd (MBX_CH_COUNT c) - 1 ∧
        t.rd (MBX_CH_RD c) = (s.rd (MBX_CH_RD c) + 1) % 8 ∧ t.rd (MBX_CH_WR c) = s.rd (MBX_CH_WR c) ∧
        (∀ k, k < 8 → bit (t.rd (MBX_CH_POSTED c)) k = if k = s.rd (MBX_CH_RD c) then false else bit (s.rd (MBX_CH_POSTED c)) k)) ∧
    (s.Admits m true (MBX_POST c) → (s.chanNow c).posts = 0 → (s.chanNow c).frees = 0 → s.rd (MBX_CH_COUNT c) = 8 →
      (∃ x ∈ s.pending, s.writesMbx true c x = true) →
      ∃ t, exec (.mbxPost m c) s = .next t ∧ t.rd (MBX_CH_COUNT c) = 8 ∧ t.rd (MBX_CH_WR c) = (s.rd (MBX_CH_WR c) + 1) % 8 ∧
        t.rd (MBX_CH_RD c) = (s.rd (MBX_CH_RD c) + 1) % 8) ∧
    (s.Admits m true (MBX_POST c) → (s.chanNow c).posts = 0 → s.pending = [] → 8 ≤ s.rd (MBX_CH_COUNT c) →
      ∃ t, exec (.mbxPost m c) s = .next t ∧ t.on MBX_STATUS_POST_FULL = true ∧ t.word (MBX_CH c) = s.word (MBX_CH c)) ∧
    (s.Admits m true (MBX_FREE c) → ¬ (336 ≤ c.val ∧ c.val < 384) → (s.chanNow c).frees = 0 → s.rd (MBX_CH_COUNT c) = 0 →
      ∃ t, exec (.mbxFree m c) s = .next t ∧ t.on MBX_STATUS_FREE_ERR = true ∧ t.word (MBX_CH c) = s.word (MBX_CH c))

/-- A lease on a local id is granted where it is free or already held, and freed by its holder alone. LEASE on an id below 96, for 1 to 65,535 PLAN0
  frames, of a lease that is free or that the racker holds and that has not lapsed, with no better request for it in the same cycle, gives DONE,
  makes the racker the holder and sets the expiry frame to the current PLAN0 frame number plus the duration; of a lease that another party holds and
  that has not lapsed, gives BUSY and leaves it; FREE by the holder of a lease that has not lapsed ends it and gives DONE, and by another party
  changes no lease and gives DENIED (R272, R274 for local ids). (The spec: 07_racking_programs.md.) -/
def Obligations.LocalLeasesAreGrantedAndFreed : Prop :=
  ∀ (s u : State) (r : Fin 16) (i : RckInstr) (id n : Nat), s.Issues r i → u = s.resync r →
    id = (u.greg r i.ra).toNat → n = (u.greg r i.rb).toNat → id < 96 →
    (i.op = 0x38 → 1 ≤ n → n ≤ 65535 →
      (u.on (RCK_LEASE_H_HELD id) = false ∨ u.rd (RCK_LEASE_H_HOLDER id) = r) → (u.on (RCK_LEASE_H_HELD id) && u.leaseDue id) = false →
      u.outbidLease id r (u.rd (RCK_CFG_PRIO r)) = false →
      ∃ t, exec (.lease r) s = .next t ∧ t.on (RCK_LEASE_H_HELD id) = true ∧ t.rd (RCK_LEASE_H_HOLDER id) = r ∧
        t.rd (RCK_LEASE_E_EXPIRY id) = (u.frame0 + n) % 2 ^ 32 ∧ t.greg r i.rd = 0) ∧
    (i.op = 0x38 → 1 ≤ n → n ≤ 65535 → u.on (RCK_LEASE_H_HELD id) = true → u.rd (RCK_LEASE_H_HOLDER id) ≠ r → u.leaseDue id = false →
      ∃ t, exec (.lease r) s = .next t ∧ t.word (RCK_LEASE_H id) = u.word (RCK_LEASE_H id) ∧
        t.word (RCK_LEASE_E id) = u.word (RCK_LEASE_E id) ∧ t.greg r i.rd = 1) ∧
    (i.op = 0x39 → u.on (RCK_LEASE_H_HELD id) = true → u.rd (RCK_LEASE_H_HOLDER id) = r → u.leaseDue id = false →
      ∃ t, exec (.free r) s = .next t ∧ t.on (RCK_LEASE_H_HELD id) = false ∧ t.greg r i.rd = 0) ∧
    (i.op = 0x39 → u.on (RCK_LEASE_H_HELD id) = false ∨ u.rd (RCK_LEASE_H_HOLDER id) ≠ r ∧ u.leaseDue id = false →
      ∃ t, exec (.free r) s = .next t ∧ (∀ k, k < 256 → t.word (RCK_LEASE_H k) = u.word (RCK_LEASE_H k)) ∧ t.greg r i.rd = 2)

/-- A branch goes to its target, or traps where the target lies outside program memory. BC whose condition holds, CALL, JR and RET go to the target
  at a cost of 2 cycles, CALL leaving index + 1 in LNK and the others leaving LNK; where the target lies outside 0 to 16,383 they trap with cause
  PC_RANGE instead; BC whose condition does not hold goes on at a cost of 1 cycle. JR takes all 32 bits of ra (R298, R305). (The spec:
  08_racking_instruction_set.md.) -/
def Obligations.BranchesStayInProgramMemory : Prop :=
  ∀ (s u : State) (r : Fin 16) (i : RckInstr) (c : Instr) (target : Int), s.Issues r i → u = s.resync r →
    ((c, i.op) = (.bc r, 0x20) ∧ condHolds (u.rckH r).flags i.rd = true ∧ target = u.pc r + signedOf 16 i.immediate ∨
      (c, i.op) = (.call r, 0x21) ∧ target = u.pc r + signedOf 16 i.immediate ∨
      (c, i.op) = (.jr r, 0x22) ∧ target = (u.greg r i.ra).toNat ∨
      (c, i.op) = (.ret r, 0x23) ∧ target = (u.rckH r).lnk) →
    (target < 0 ∨ 16383 < target → exec c s = .next (u.trap r 2 0)) ∧
    (0 ≤ target → target ≤ 16383 →
      ∃ t, exec c s = .next t ∧ (t.pc r : Int) = target ∧ (t.rckH r).p = (u.rckH r).p + 2 * u.rckPeriod ∧
        (t.rckH r).lnk = (if i.op = 0x21 then (u.pc r + 1) % 2 ^ 14 else (u.rckH r).lnk) ∧ (t.rckH r).flags = (u.rckH r).flags ∧
        (∀ n, n < 32 → t.greg r n = u.greg r n) ∧ (∀ k, k < 4096 → t.word (RCK_DM r k) = u.word (RCK_DM r k)))

/-- The arithmetic instructions of a racker change their destination, the flags, PC and program time alone. An arithmetic, logic, shift, compare or
  immediate-move instruction leaves every word of the address map but its destination register, the racker's PC and status registers and the log's
  loss counter as it was, so also all of every racker's memories, the salvo memory and the shared registers; a compare leaves its destination
  register too. It leaves every other racker, LNK, the staging buffer, the floor and the operations in flight of its own, the fabric, the twin's
  journal and the cellar. (The spec: 08_racking_instruction_set.md.) -/
def Obligations.ArithmeticLeavesEverythingElse : Prop :=
  ∀ (s : State) (r : Fin 16) (i : RckInstr) (c : Instr), s.Issues r i →
    (c, i.op) ∈ [(Instr.add r, 0x01), (.sub r, 0x02), (.and r, 0x03), (.or r, 0x04), (.xor r, 0x05), (.shl r, 0x06), (.shr r, 0x07),
      (.sar r, 0x08), (.mul r, 0x09), (.cmp r, 0x0A), (.addi r, 0x0B), (.andi r, 0x0C), (.ori r, 0x0D), (.xori r, 0x0E),
      (.shli r, 0x0F), (.shri r, 0x10), (.sari r, 0x11), (.cmpi r, 0x12), (.movi r, 0x13), (.lui r, 0x14)] →
    ∃ t, exec c s = .next t ∧
      (∀ a, a ≠ RCK_STATUS r → a ≠ RCK_PC r → a ≠ MGT_LOG_LOST → (a ≠ RCK_GREG r i.rd ∨ i.op = 0x0A ∨ i.op = 0x12) → t.word a = s.word a) ∧
      (∀ q, q ≠ r.val → t.rckH q = s.rckH q) ∧ (t.rckH r).lnk = (s.rckH r).lnk ∧ (t.rckH r).staging = (s.rckH r).staging ∧
      (t.rckH r).floor = (s.rckH r).floor ∧ (t.rckH r).ops = (s.rckH r).ops ∧ t.fab = s.fab ∧ t.twn.journal = s.twn.journal ∧ t.cellar = s.cellar

/-- A store of a racker changes one word of its data memory. STW and STB at an address that they admit, computed from ra and the immediate, leave
  every word of the address map as it was but the data memory word that holds the address, the racker's PC and status registers and the log's loss
  counter; the loads leave every word but their destination register and those. So every other byte of memory reads as before. (The spec:
  08_racking_instruction_set.md.) -/
def Obligations.DataStoresChangeOneWord : Prop :=
  ∀ (s : State) (r : Fin 16) (i : RckInstr) (a : Nat), s.Issues r i → a = s.effAddr r i → a ≤ 0x3FFF →
    (i.op = 0x16 → a % 4 = 0 → ∃ t, exec (.stw r false) s = .next t ∧
      (∀ x, x ≠ RCK_DM r (a / 4) → x ≠ RCK_STATUS r → x ≠ RCK_PC r → x ≠ MGT_LOG_LOST → t.word x = s.word x)) ∧
    (i.op = 0x18 → ∃ t, exec (.stb r false) s = .next t ∧
      (∀ x, x ≠ RCK_DM r (a / 4) → x ≠ RCK_STATUS r → x ≠ RCK_PC r → x ≠ MGT_LOG_LOST → t.word x = s.word x)) ∧
    (i.op = 0x15 → a % 4 = 0 → ∃ t, exec (.ldw r false) s = .next t ∧
      (∀ x, x ≠ RCK_GREG r i.rd → x ≠ RCK_STATUS r → x ≠ RCK_PC r → x ≠ MGT_LOG_LOST → t.word x = s.word x)) ∧
    (i.op = 0x17 → ∃ t, exec (.ldb r false) s = .next t ∧
      (∀ x, x ≠ RCK_GREG r i.rd → x ≠ RCK_STATUS r → x ≠ RCK_PC r → x ≠ MGT_LOG_LOST → t.word x = s.word x))

/-- A read of a lane counter returns its low word, latches its high half and clears it. A read of TRL_LANE_ERR_LO or TRL_LANE_BITS_LO that goes
  through returns the low 32 bits of the counter, copies its high 16 bits into the matching _HI register, clears all of the counter, and changes no
  other word. (R109.) -/
def Obligations.LaneCountersClearOnRead : Prop :=
  ∀ (s : State) (m : Fin 22) (n : Fin 37) (l : Fin 8),
    (s.Admits m false (TRL_LANE_ERR_LO n l) →
      ∃ t, exec (.counterRead m (TRL_LANE_ERR_LO n l) 4) s = .next t ∧ t.lastRead = (s.word (TRL_LANE_ERR_LO n l)).toNat ∧
        t.rd (TRL_LANE_ERR_HI_ERR n l) = (s.laneH n l).errHi % 2 ^ 16 ∧ t.word (TRL_LANE_ERR_LO n l) = 0 ∧ (t.laneH n l).errHi = 0 ∧
        (∀ a, a ≠ TRL_LANE_ERR_LO n l → a ≠ TRL_LANE_ERR_HI n l → t.word a = s.word a)) ∧
    (s.Admits m false (TRL_LANE_BITS_LO n l) →
      ∃ t, exec (.counterRead m (TRL_LANE_BITS_LO n l) 4) s = .next t ∧ t.lastRead = (s.word (TRL_LANE_BITS_LO n l)).toNat ∧
        t.rd (TRL_LANE_BITS_HI_BITS n l) = (s.laneH n l).bitsHi % 2 ^ 16 ∧ t.word (TRL_LANE_BITS_LO n l) = 0 ∧ (t.laneH n l).bitsHi = 0 ∧
        (∀ a, a ≠ TRL_LANE_BITS_LO n l → a ≠ TRL_LANE_BITS_HI n l → t.word a = s.word a))

/-- No OTP command clears a blown bit. After each command that writes the OTP - a boot record bank, the board identity, a key, a revocation - every
  bit that was blown is still blown, whichever bits do not take and whatever the command's arguments (R616). (The spec:
  15_management_mailboxes_and_update.md.) -/
def Obligations.BlownBitsStayBlown : Prop :=
  ∀ (s t : State) (c : Instr) (bytes : List Nat) (fail : Bool) (stuck : List (Fin 16384)),
    c ∈ [.otpBankWrite bytes fail stuck, .otpBoardWrite stuck, .keyInstall stuck, .keyRevoke stuck] → exec c s = .next t →
    ∀ a k, bit (s.otpByte a) k = true → bit (t.otpByte a) k = true

/-- An access outside a master's windows is refused and recorded, and reads as ones to the host. An access of a word that no enabled window of its
  master covers gets cause 1, and one that a window covers without granting its direction gets cause 2: the address, the master, the direction and
  the cause stand in MTX_ERR_ADDR and MTX_ERR_INFO, REFUSED is set, a read by the host returns all ones and by any other master 0, and no word
  outside the registers of the record and the log's loss counter changes (R624, R632). (The spec: 16_host_interface_and_control_matrix.md.) -/
def Obligations.RefusedAccessesAreRecorded : Prop :=
  ∀ (s : State) (m : Fin 22) (a : Nat) (v cause : Nat), s.busOpen m = true → (s.twn.stalled.any fun e => e.master == m.val) = false →
    a < 2 ^ 35 → cause = 1 ∨ cause = 2 →
    (s.windowCause m false a 4 = cause →
      ∃ t, exec (.counterRead m a 4) s = .next t ∧ t.lastRead = (if m.val = 1 ∨ m.val = 2 then 2 ^ 32 - 1 else 0) ∧
        t.rd MTX_ERR_ADDR_ADDR = a % 2 ^ 32 ∧ t.rd MTX_ERR_INFO_ADDR_HI = a / 2 ^ 32 ∧ t.rd MTX_ERR_INFO_MASTER = m ∧
        t.rd MTX_ERR_INFO_WRITE = 0 ∧ t.rd MTX_ERR_INFO_CAUSE = cause ∧ t.rd MTX_ERR_INFO_VALID = 1 ∧ t.on MTX_EVENT_REFUSED = true ∧
        (∀ x, x ≠ MTX_ERR_ADDR → x ≠ MTX_ERR_INFO → x ≠ MTX_EVENT → x ≠ MGT_LOG_LOST → t.word x = s.word x)) ∧
    (s.windowCause m true a 4 = cause →
      ∃ t, exec (.registerWrite m a 4 v) s = .next t ∧
        t.rd MTX_ERR_ADDR_ADDR = a % 2 ^ 32 ∧ t.rd MTX_ERR_INFO_ADDR_HI = a / 2 ^ 32 ∧ t.rd MTX_ERR_INFO_MASTER = m ∧
        t.rd MTX_ERR_INFO_WRITE = 1 ∧ t.rd MTX_ERR_INFO_CAUSE = cause ∧ t.rd MTX_ERR_INFO_VALID = 1 ∧ t.on MTX_EVENT_REFUSED = true ∧
        (∀ x, x ≠ MTX_ERR_ADDR → x ≠ MTX_ERR_INFO → x ≠ MTX_EVENT → x ≠ MGT_LOG_LOST → t.word x = s.word x))

/-- Without the claim bit of a twin pair, a journal-class write of the device's own masters changes nothing but SB_WRITE. In a twin pair, on a
  device whose claim bit is 0, a write of a journal-class register by a master whose writes are journaled, which the matrix admits, sets
  TWN_EVENT.SB_WRITE and changes no word but that event register and the log's loss counter (R536). (The spec: 14_twin_failover_and_fabric.md.) -/
def Obligations.StandbyIgnoresItsOwnJournalWrites : Prop :=
  ∀ (s : State) (m : Fin 22) (a v : Nat), s.busOpen m = true → (s.twn.stalled.any fun e => e.master == m.val) = false →
    s.verdictOn m true a 4 = .no → a % 4 = 0 → a < 0x4000000 → v < 2 ^ 32 → s.unreached m a = none →
    s.journalsFor m = true → s.top.claim = false → (journalClass a).isSome = true →
    ∃ t, exec (.registerWrite m a 4 v) s = .next t ∧ t.on TWN_EVENT_SB_WRITE = true ∧
      (∀ x, x ≠ TWN_EVENT → x ≠ MGT_LOG_LOST → t.word x = s.word x) ∧ t.twn.journal = s.twn.journal

/-- TRAP enters the handler, and RETT goes on after the instruction that trapped. TRAP outside a handler, with the trap vector enabled, leaves cause
  11 in TRAP_CAUSE, its index in TRAP_PC and in TRAPINFO with the cause and its argument, sets IN_HANDLER and goes to the vector at a cost of 4
  cycles for TRAP and 4 for the entry (log entry 104); RETT in a handler clears IN_HANDLER and goes on at TRAPINFO's index + 1; neither changes a
  general register, LNK or the flags (R291, R306). (The spec: 08_racking_instruction_set.md.) -/
def Obligations.TrapsEnterTheirHandler : Prop :=
  ∀ (s u : State) (r : Fin 16) (i : RckInstr), s.Issues r i → u = s.resync r →
    (i.op = 0x24 → u.on (RCK_STATUS_IN_HANDLER r) = false → u.on (RCK_CFG_TRAP_VEC_EN r) = true →
      ∃ t, exec (.trap r false) s = .next t ∧ t.rd (RCK_STATUS_TRAP_CAUSE r) = 11 ∧ t.rd (RCK_TRAP_PC_PC r) = u.pc r ∧
        t.on (RCK_STATUS_IN_HANDLER r) = true ∧ t.pc r = u.rd (RCK_TRAP_VEC_VEC r) ∧ (t.rckH r).p = (u.rckH r).p + 8 * u.rckPeriod ∧
        (t.rckH r).trapInfo = u.pc r + 11 * 2 ^ 16 + i.immediate * 2 ^ 24 ∧ (t.rckH r).lnk = (u.rckH r).lnk ∧
        (t.rckH r).flags = (u.rckH r).flags ∧ (∀ n, n < 32 → t.greg r n = u.greg r n)) ∧
    (i.op = 0x25 → u.on (RCK_STATUS_IN_HANDLER r) = true → (u.rckH r).trapInfo % 2 ^ 14 < 16383 →
      ∃ t, exec (.rett r) s = .next t ∧ t.on (RCK_STATUS_IN_HANDLER r) = false ∧ t.pc r = (u.rckH r).trapInfo % 2 ^ 14 + 1 ∧
        (t.rckH r).lnk = (u.rckH r).lnk ∧ (t.rckH r).flags = (u.rckH r).flags ∧ (∀ n, n < 32 → t.greg r n = u.greg r n))

/-- What supply, reset, regulator, power-domain and shedding commands leave. A supply reading, the reset key, a regulator fault, a domain request, a
  domain becoming ready or stopping, a shed step, a critical temperature and the two threshold registers each complete with the named state change
  and nothing else. (The spec: 02_supply_domains_and_modes.md.) -/
def Obligations.SupplyAndDomainCommandsComplete : Prop :=
  (∀ (s : State) (mv : Nat) (devAddr : Fin 32) (side : Fin 2), vinValid mv = true → s.top.inReset = true → exec (.vinValid mv devAddr side) s =
    .next ({ s.setVin mv with pin := { (s.setVin mv).pin with devAddr := devAddr, twinSide := side } }.release)) ∧
  (∀ (s : State) (mv : Nat), s.top.inReset = false → mv < s.rd PWR_VIN_THR_WARN_MV → exec (.vinWarn mv) s = .next (((s.setVin mv).raise
    PWR_STATUS_VIN_WARN).showAlert)) ∧
  (∀ (s : State) (mv : Nat), s.top.inReset = false → mv ≤ 13200 → mv < s.rd PWR_VIN_THR_FAULT_MV → exec (.vinFault mv) s = .next ((s.setVin
    mv).deviceReset 1)) ∧
  (∀ (s : State) (m : Fin 22) (key : Word), s.Admits m true TOP_RESET → key.toNat % 2 ^ 16 = 0xD1CE → exec (.topResetKey m key) s = .next
    (s.deviceReset 3)) ∧
  (∀ (s : State) (i : Fin 96), s.top.inReset = false → exec (.regulatorFault i) s = .next
    ((({ s with top := { s.top with forcedOff := s.top.forcedOff ||| 2 ^ i.val } }.domainOff i).raise PWR_STATUS_REG_FAULT).trigger 2)) ∧
  (∀ (s : State), s.top.inReset = false → exec (.alwaysOnRegulatorFault) s = .next (s.deviceReset 4)) ∧
  (∀ (s : State) (m : Fin 22) (k : Fin 3) (v : Word), s.Admits m true (PWR_DOM_REQ k) → exec (.pwrDomReqWrite m k v) s = .next (s.domReqWrite m k
    v.toNat)) ∧
  (∀ (s : State) (k : Fin 96), 36 < k.val → bit s.top.reached 1 = true → s.effReq k = true → s.domReady k = false → exec (.domainReady k) s =
    .next (((s.powerUpRelock k).setReady k true).blockOn k)) ∧
  (∀ (s : State) (k : Fin 96) (u : State), k.val ≤ 36 → u = s.settle k → bit u.top.reached 2 = true → u.rd (SYN_PLL_STAT_STATE k) = 4 → u.effReq k
    = true → u.domReady k = false → exec (.domainReady k) s = .next (((u.powerUpRelock k).setReady k true).blockOn k)) ∧
  (∀ (s : State) (i : Fin 96), s.effReq i = false → s.domReady i = true → exec (.domainStop i) s = .next ((s.finishLines i).domainOff i)) ∧
  (∀ (s : State), s.rd TOP_MODE_SHED < s.shedReached → exec (.shedRise) s = .next (s.setShed s.shedReached)) ∧
  (∀ (s : State) (t : Nat), s.top.coolSince = some t → s.rd TOP_MODE_SHED ≠ 0 → t + s.rd PWR_SHED_HYST_HOLD * sec ≤ s.now → exec (.shedFall) s =
    .next (s.setShed (s.rd TOP_MODE_SHED - 1))) ∧
  (∀ (s : State) (i : Fin 36), s.critical i = true → exec (.thermalCritical i) s = .next (s.trigger 3)) ∧
  (∀ (s : State) (m : Fin 22) (v : Word), s.Admits m true PWR_VIN_THR → exec (.pwrVinThrWrite m v) s = .next (s.vinThrWrite v.toNat)) ∧
  (∀ (s : State) (m : Fin 22) (v : Word), s.Admits m true PWR_SHED_THR → exec (.pwrShedThrWrite m v) s = .next (s.shedThrWrite v.toNat))

/-- What the boot timeline and the mode commands leave. Each milestone of the power-up timeline and each command that moves the device between its
  modes completes, where its mode and conditions hold, with the named state change and nothing else. (The spec: 02_supply_domains_and_modes.md.) -/
def Obligations.BootAndModeCommandsComplete : Prop :=
  (∀ (s : State), s.top.inReset = false → bit s.top.reached 0 = false → exec (.railsUp) s = .next
    ({ s with top := { s.top with safePllLocked := true } }.milestone 0)) ∧
  (∀ (s : State), s.top.inReset = false → bit s.top.reached 0 = true → bit s.top.reached 1 = false → ∃ u : State, exec (.otpLoaded) s = .next
    (u.milestone 1) ∧ u.now = s.now ∧ u.pending = s.pending) ∧
  (∀ (s : State) (bands : List (Fin 256)) (u : State), s.top.inReset = false → s.mode = .startup → bit s.top.reached 2 = false → (u = (s.forN 53
    fun k x => let y := x.setSynH k ((x.synH k).cacheWrite
    { int := x.synWord k / 2 ^ 32, fracHi := x.synWord k / 2 ^ 20 % 2 ^ 12, band := (bands.getD k 0).val, temp := x.hottestC, made := x.now }); if
    48 ≤ k then (y.wr (SYN_PLL_STAT_BAND k) (bands.getD k 0).val).setSynState k 3 else ((y.wr (SYN_PLL_STAT_BAND k) (bands.getD k 0).val).wr
    (SYN_PLL_STAT_GATE k) 1).setSynState k 4).updatePool) → exec (.bandSearchesDone bands) s = .next
    ({ u with top := { u.top with reached := u.top.reached + 4 } }.wr (TOP_BOOT_T_TIME_US 2) ((u.now - u.top.t0) / us))) ∧
  (∀ (s : State) (u v w : State), s.top.inReset = false → s.mode = .startup → s.top.reached % 8 = 7 → u = s.startPlans → (v = u.forN 4608 fun d x
    => if (x.trlH (d / 128)).mode = 0 ∧ x.addresses d ∧ !(u.bootMap.any fun e => e.1 == d) ∧ !x.on (XPT_MAP_RD_COVERED d) then x.bootRoute d d
    else x) → (w = v.forL u.bootMap fun e x => if x.on (XPT_MAP_RD_COVERED e.1) || x.closedSource e.2 then x else x.bootRoute e.1 e.2) → exec
    (.tUse) s = .next (((((({ w with aud := { w.aud with tickAt := some w.now, ticks := 0, next := w.now, frac := 0 } } :
    State).checkAligned).milestone 4).wr TOP_STATUS_USE 1).enterMode .default 1) |> fun x => x.setClaim (!x.twinEn || !x.on TOP_STRAP_TWIN_SIDE))) ∧
  (∀ (s : State), s.mode = .default → s.on TOP_STATUS_MGT_READY = true → s.top.mgtFrame < s.frame0 → s.twinEn = false → exec (.defaultLeft) s =
    .next (((s.enterMode .solo 1).wr TOP_STATUS_DEFAULT_SALVO_DONE 1).startAuto)) ∧
  (∀ (s : State), s.top.inReset = false → s.on TOP_STATUS_CELLAR_READY = false → exec (.cellarTrained) s = .next (((s.milestone 6).wr
    TOP_STATUS_CELLAR_READY 1).wr CLR_STATUS_READY 1)) ∧
  (∀ (s : State), s.top.inReset = false → s.on TOP_STATUS_CELLAR_READY = false → exec (.cellarTrainingFail) s = .next ((s.wr CLR_STATUS_TRAIN_FAIL
    1).capture 0 (eventOf 8 0) 0)) ∧
  (∀ (s : State) (m : Fin 22), s.Admits m true TOP_CTRL → s.mayFreeze = true → exec (.freeze m) s = .next (s.freeze)) ∧
  (∀ (s : State) (m : Fin 22), s.Admits m true TOP_CTRL → s.mode = .frozen → exec (.thaw m) s = .next (s.thaw)) ∧
  (∀ (s : State) (f : Nat), s.top.thaw = some f → f < s.frame0 → exec (.thawApply) s = .next (s.thawNow)) ∧
  (∀ (s : State) (m : Fin 22), s.Admits m true TOP_CTRL → (s.mode = .default ∨ s.mode = .solo ∨ s.mode = .relinquished) → exec (.diag m) s = .next
    ((s.enterMode .diagnostic 2).diagStart)) ∧
  (∀ (s : State) (m : Fin 22), s.Admits m true TOP_CTRL → s.mode ≠ .startup → exec (.quiesce m) s = .next (s.quiesce)) ∧
  (∀ (s : State) (u : State), s.mode = .quiesce → s.top.b1 = none → s.top.quiesceFrame < s.frame0 → u =
    ({ s with top := { s.top with b1 := some s.frame0, heldAtB1 := s.top.claim && s.peerAble } } : State).haltAll → exec (.quiesceB1) s = .next
    (((((if u.ldg.closedAt < u.frame0 then u.closeBooks else u).checkBooks).setClaim false).releaseToken))) ∧
  (∀ (s : State) (u : State), s.mode = .quiesce → s.top.txStopped = false → s.txPeriodOver = true → (u =
    ({ s with top := { s.top with txStopped := true } } : State).forN 37 fun n x => x.stopTx n true) → exec (.quiesceTxEnd) s = .next
    (((({ u with top := { u.top with forcedOff := u.top.forcedOff ||| (2 ^ 96 - 1 - 2 ^ 94) } } : State).forN 96 fun k x => if k = 94 then x else
    x.domainOff k).flushLog).wr TOP_STATUS_QUIESCED 1)) ∧
  (∀ (s : State) (m : Fin 22), s.Admits m true TOP_CTRL → s.mode = .relinquished → exec (.rejoin m) s = .next (s.rejoin)) ∧
  (∀ (s : State) (f : Nat), s.fab.alone = some f → s.isMember = true → (s.mode = .solo ∨ s.mode = .active ∨ s.mode = .standby) → f + 3 ≤ s.frame0
    → exec (.isolatedEntry) s = .next (((s.wr TOP_MODE_ISO_RET s.mode.code).enterMode .isolated 4).wr TOP_MODE_ROLE 0))

/-- What the receiver's state machine does at each of its events. Each event of a trellis receiver, in the receive state it belongs to, completes
  with the receive state, timer, flags and lane values that the spec gives it and nothing else; a loss event from UP returns the receiver as its
  common loss operation says. (The spec: 03_trellis_lanes.md.) -/
def Obligations.ReceiverCommandsComplete : Prop :=
  (∀ (s : State) (n : Fin 37), exec (.presetApply n true) s = .next (s.setTrlH n { s.trlH n with presetRx := s.rd (TRL_CFG_PRESET_RX n) })) ∧
  (∀ (s : State) (n : Fin 37), s.on (TRL_STATUS_TX_ACTIVE n) = true → exec (.presetApply n false) s = .next ((s.setTrlH n
    { s.trlH n with presetTx := s.rd (TRL_CFG_PRESET_TX n) }).applyFfe n)) ∧
  (∀ (s : State) (n : Fin 37), s.on (TRL_STATUS_TX_ACTIVE n) = false → exec (.presetApply n false) s = .next (s.setTrlH n
    { s.trlH n with presetTx := s.rd (TRL_CFG_PRESET_TX n) })) ∧
  (∀ (s : State) (n : Fin 37) (l : Fin 8) (up : Bool), s.rxIs n 6 = true → s.on (TRL_CFG_ADAPT_FREEZE n) = false → l.val < laneCount n → (s.trlH
    n).adaptAt = [] → (-4 ≤ (s.laneH n l).pointer ∧ (s.laneH n l).pointer ≤ 4) → exec (.adaptStep n l 6 up) s = .next ({ s with }.setLaneH n l
    { s.laneH n l with gain := (s.laneH n l).gain + (if up then 1 else -1) } |> fun u => u.setTrlH n
    { u.trlH n with adaptAt := pairSet (u.trlH n).adaptAt (l.val * 8 + 6) u.now })) ∧
  (∀ (s : State) (n : Fin 37), s.rxIs n 1 = true → s.looped n = false → exec (.fclkDetected n) s = .next ((s.wr (TRL_STATUS_FCLK_PRESENT n)
    1).setRx n 2)) ∧
  (∀ (s : State) (n : Fin 37), s.rxIs n 2 = true → exec (.dllLocked n) s = .next (s.setRx n 3)) ∧
  (∀ (s : State) (n : Fin 37), s.rxIs n 2 = true → s.rxAged n (200 * us) = true → exec (.dllLockTimeout n) s = .next (s.rxRetry n 1)) ∧
  (∀ (s : State) (n : Fin 37) (phases : List (Fin 64)), s.rxIs n 3 = true → ∃ u : State, exec (.phaseSettled n phases) s = .next (u.setRx n 4) ∧
    u.now = s.now ∧ u.pending = s.pending) ∧
  (∀ (s : State) (n : Fin 37), s.rxIs n 3 = true → s.rxAged n (5 * ms) = true → exec (.phaseSweepTimeout n) s = .next (s.setRx n 3)) ∧
  (∀ (s : State) (n : Fin 37), s.rxIs n 4 = true → exec (.commaAligned n) s = .next (s.setRx n 5)) ∧
  (∀ (s : State) (n : Fin 37), s.rxIs n 4 = true → s.rxAged n (200 * us) = true → exec (.alignTimeout n) s = .next (s.rxRetry n 3)) ∧
  (∀ (s : State) (n : Fin 37) (ids : List (Fin 8)) (skews : List (Fin 257)) (last : List (Fin 4)), s.rxIs n 5 = true → laneIdsOk n (ids.map
    (·.val)) = true → ((skews.take (laneCount n)).all (fun k => decide (k.val ≤ s.skewLimit n)) = true) → ∃ u : State, exec (.deskewDone n ids
    skews last) s = .next ((((u.wr (TRL_UP_TS_FRAME n) (wrap32 u.frame0)).wr (TRL_STATUS_LANE_ALIGNED n) (2 ^ laneCount n - 1)).ptpCheck
    n).checkAligned) ∧ (u.trlH n).rxPos = 2 ∧ u.now = s.now ∧ u.pending = s.pending) ∧
  (∀ (s : State) (n : Fin 37) (ids : List (Fin 8)) (skews : List Nat) (v : State), s.rxIs n 5 = true → s.rxAged n (100 * us) = true → laneIdsOk n
    (ids.map (·.val)) = false → v = (s.showLanes n (ids.map (·.val)) skews).raise (TRL_STATUS_LANE_ID_ERR n) → ((skews.take (laneCount n)).all
    (fun k => decide (k ≤ v.skewLimit n)) = true) → exec (.deskewTimeout n ids skews) s = .next (v.rxRetry n 3)) ∧
  (∀ (s : State) (n : Fin 37), s.loopClock n = false → exec (.fclkStop n) s = .next (((s.wr (TRL_STATUS_FCLK_PRESENT n) 0).rxLoss n
    id).partnerGone)) ∧
  (∀ (s : State) (n : Fin 37), exec (.dllLossOfLock n) s = .next (s.rxLoss n id)) ∧
  (∀ (s : State) (n : Fin 37), exec (.fclkFreqError n) s = .next (((s.wr (TRL_STATUS_FCLK_PRESENT n) 0).rxLoss n fun u => u.raise
    (TRL_STATUS_FREQ_ERR n)).partnerGone)) ∧
  (∀ (s : State) (n : Fin 37), exec (.laneOffReceived n) s = .next (s.rxLoss n fun u => u.raise (TRL_STATUS_LANE_OFF_RX n))) ∧
  (∀ (s : State) (n : Fin 37), exec (.commaMissed n) s = .next (s.rxLoss n id)) ∧
  (∀ (s : State) (n : Fin 37), exec (.lanePllUnlock n) s = .next (((s.synUnlock n).setReady n false).trellisOff n false))

/-- What a trellis transmitter, its test patterns and its block framing do. Starting and stopping a transmitter, a mode write and its change, an
  injected error, the pattern checker's lock and its loss, and a block's sending, receiving and framing loss complete with the named change of the
  trellis's own state. (The spec: 03_trellis_lanes.md, 04_containers_slots_and_partners.md.) -/
def Obligations.TransmitPatternAndFramingCommandsComplete : Prop :=
  (∀ (s : State) (n : Fin 37), s.txAllowed n = true → s.on (TRL_STATUS_TX_ACTIVE n) = false → exec (.txActivate n) s = .next ((((s.setTrlH n
    { s.trlH n with txGroups := 0, lanes := (s.trlH n).lanes.map LaneH.startTx }).wr (TRL_STATUS_TX_ACTIVE n) 1).restartFraming n).applyFfe n)) ∧
  (∀ (s : State) (n : Fin 37), s.txAllowed n = false → exec (.txDeactivate n) s = .next (s.stopTx n true)) ∧
  (∀ (s : State) (m : Fin 22) (n : Fin 37) (mode : Fin 4), s.Admits m true (TRL_CFG n) → ∃ u : State, u = s.modeWrite n mode ∧ exec
    (.trellisModeWrite m n mode) s = .next (u.storeReg m (TRL_CFG n) (u.keepBits (TRL_CFG n) (3 + if s.mode == .diagnostic then 0 else 2 ^
    (TRL_CFG_LOOPBACK n).lo * (2 ^ (TRL_CFG_LOOPBACK n).width - 1)) (mergeBits 3 mode (s.word (TRL_CFG n)).toNat)))) ∧
  (∀ (s : State) (n : Fin 37), n.val ≠ 36 → s.rd (TRL_CFG_MODE n) ≠ (s.trlH n).mode → exec (.trellisModeChange n) s = .next ((s.when (s.on
    (TRL_STATUS_TX_ACTIVE n)) fun u => u.fillFrame n).changeMode n (s.rd (TRL_CFG_MODE n)))) ∧
  (∀ (s : State) (m : Fin 22) (n : Fin 37) (l : Fin 8), s.Admits m true (TRL_LANE_INJ n l) → exec (.inject m n l) s = .next (s.inject n l)) ∧
  (∀ (s : State) (n : Fin 37) (l : Fin 8) (bits : List Nat), s.checks n l = true → s.on (TRL_LANE_STAT_CHK_LOCK n l) = false → s.rd
    (TRL_LANE_CFG_PAT_SEL n l) = 6 → s.mode = .diagnostic → exec (.checkerLock n l bits) s = .next (s.wr (TRL_LANE_STAT_CHK_LOCK n l) (s.rd
    (TRL_LANE_STAT_ALIGNED n l)))) ∧
  (∀ (s : State) (n : Fin 37) (l : Fin 8) (bits : List Nat) (q : LaneH × Bool × Nat × Nat), s.checks n l = true → s.on (TRL_LANE_STAT_CHK_LOCK n
    l) = false → s.rd (TRL_LANE_CFG_PAT_SEL n l) < 4 → q = checkBits (s.rd (TRL_LANE_CFG_PAT_SEL n l)) bits.reverse false (s.laneH n l) 0 0 → exec
    (.checkerLock n l bits) s = .next (((s.setLaneH n l q.1).countChecked n l q.2.2.1 q.2.2.2).wrB (TRL_LANE_STAT_CHK_LOCK n l) q.2.1)) ∧
  (∀ (s : State) (n : Fin 37) (l : Fin 8) (bits errs recent : Nat), s.checks n l = true → s.on (TRL_LANE_STAT_CHK_LOCK n l) = true → (512 < recent
    ∧ recent ≤ errs ∧ errs ≤ bits) → s.rd (TRL_LANE_CFG_PAT_SEL n l) < 4 → s.on (TRL_LANE_CFG_CHK_EN n l) = true → ∃ e b : Nat, e = addLane48
    (s.rd (TRL_LANE_ERR_LO_ERR n l)) (s.laneH n l).errHi errs ∧ b = addLane48 (s.rd (TRL_LANE_BITS_LO_BITS n l)) (s.laneH n l).bitsHi bits ∧ exec
    (.checkerLoseLock n l bits errs recent) s = .next ((((s.wr (TRL_LANE_ERR_LO_ERR n l) e).wr (TRL_LANE_BITS_LO_BITS n l) b).setLaneH n l
    { s.laneH n l with errHi := e / 2 ^ 32, bitsHi := b / 2 ^ 32 }).reseed n l)) ∧
  (∀ (s : State) (n : Fin 37) (due : List (Nat × Nat × Nat × Nat)) (areas : List AreaDue) (v u w : State), s.on (TRL_STATUS_TX_ACTIVE n) = true →
    s.packetMode n = false → s.mode ≠ .diagnostic → n.val ≠ 36 → (areas = due.map fun e =>
    { area := e.1, bits := e.2.1, words := e.2.2.1, start := e.2.2.2 }) → v = s.serialise n areas → v.trunk n = true → u = (v.sendGroups n
    (v.blockGroups n (s.ctnH n).next areas)).setCtnH n { v.ctnH n with next := ((s.ctnH n).next + 1) % 64 } → (w = (u.forL (rangeFrom (128 * n)
    128) fun d x => if (x.outH d).ending then x.setOutH d { x.outH d with ending := false } else if (x.outH d).opening && x.opened areas d then
    x.setOutH d { x.outH d with opening := false } else x).serialised n areas) → w.trunk n = true → (s.ctnH n).next ≠ 0 → exec (.blockSent n due)
    s = .next ({ w with fab := { w.fab with outbox := afterArea n 512 w.fab.outbox } })) ∧
  (∀ (s : State) (n : Fin 37) (symbols : List (List (Fin 4))) (skews : List Nat) (lines : List (Nat × Nat)) (q : State × List (Bool × Nat)) (u :
    State), s.rxIs n 6 = true → s.looped n = false → n.val ≠ 36 → (q = s.receiveSymbols n (symbols.map fun l => l.map (·.val))) → q.1.packetMode n
    = false → q.1.mode ≠ .diagnostic → u = q.1.setCtnH n { q.1.ctnH n with rest := (q.1.ctnH n).rest ++ q.2 } → exec (.blockReceived n symbols
    skews lines) s = .next (u.cutBlocks n skews lines ((u.ctnH n).rest.length / 8464 + 1))) ∧
  (∀ (s : State) (n : Fin 36) (missing : Nat), (s.ctnH n).state = 2 → 4 ≤ (s.ctnH n).bad + missing → exec (.framingLost n missing) s = .next
    (s.framingLost n)) ∧
  (∀ (s : State) (n : Fin 36), s.rxIs n 6 = true → (s.trlH n).mode = 0 → (s.ctnH n).wasLocked = false → s.rxAged n 520283 = true → exec
    (.noFraming n) s = .next (s.raise (CTN_STATUS_NO_FRAMING n)))

/-- What the reference candidates and the DPLL do at each of their events. Each event of a reference candidate or of the DPLL, under the conditions
  the spec gives it, completes with the named change of the candidate, of the DPLL and of their registers. (The spec:
  05_references_holdover_and_plans.md.) -/
def Obligations.ReferenceCommandsComplete : Prop :=
  (∀ (s : State) (c : Fin 2) (hz : Nat), s.candState c = 0 → exec (.refClassified c hz) s = .next (s.wr (REF_CAND_STAT_CLASS c) (classifyHz hz))) ∧
  (∀ (s : State) (c : Fin 2) (idle : Nat) (levels : List Bool) (k t w : Nat), s.candState c ≠ 0 → k = s.rd (REF_CAND_STAT_CLASS c) → t = s.now -
    refCycles k (10 * markerCell k) → markerWord k idle levels = some w → markerWordOk w = true → s.markerOnTime c w t = true → exec (.frameMarker
    c idle levels) s = .next ((s.takeMarker c w t).refEnd)) ∧
  (∀ (s : State) (c : Fin 2) (idle : Nat) (levels : List Bool) (k t w : Nat), s.candState c ≠ 0 → k = s.rd (REF_CAND_STAT_CLASS c) → t = s.now -
    refCycles k (10 * markerCell k) → markerWord k idle levels = some w → (markerWordOk w && s.markerOnTime c w t) = false → exec (.frameMarker c
    idle levels) s = .next (((s.bump (REF_MARKER_ERR c)).raise REF_EVENT_MARKER_ERR).refEnd)) ∧
  (∀ (s : State) (c : Fin 2), s.candState c ≠ 0 → (s.candH c).markerSince + 3 * framePeriod (s.candRate c) ≤ s.now → s.on (REF_CAND_CFG_FP_REQ c)
    = false → exec (.markerTimeout c) s = .next (((s.setCandH c { s.candH c with marker := none, frameStart := none }).wr (REF_CAND_STAT_FREQ_ONLY
    c) 1).updateFreqOnly.refEnd)) ∧
  (∀ (s : State) (c : Fin 2) (ps : Nat), s.rd (REF_CAND_STAT_CLASS c) ≠ 0 → glitchPeriod (s.rd (REF_CAND_STAT_CLASS c)) ps = true → (s.candH
    c).glitches = [] → exec (.refGlitch c ps) s = .next ((((s.setCandH c { s.candH c with glitches := [s.now] }).bump (REF_GLITCH_GLITCHES
    c)).raise REF_EVENT_GLITCH).refEnd)) ∧
  (∀ (s : State) (c : Fin 2) (ps : Nat), clockGone (s.rd (REF_CAND_STAT_CLASS c)) ps = true → exec (.refClockLost c ps) s = .next ((s.candLoss
    c).refEnd)) ∧
  (∀ (s : State) (c : Fin 6), exec (.candidatePresent c) s = .next (s.candPresent c)) ∧
  (∀ (s : State) (meas : List Int) (u : State), s.dpll.monAt + sec ≤ s.now → u = (({ s with dpll := { s.dpll with monAt := s.now } } :
    State).candTimers).holdMeasures meas → exec (.driftMonitorUpdate meas) s = .next (((u.xoUpdate u.xoAverage (s.now -
    s.dpll.monAt)).showOffsets.majorities.candStates.qualLeft.noteHistory).refEnd)) ∧
  (∀ (s : State) (c : Fin 6), s.candState c = 1 → s.candGood c = true → (s.candH c).since + s.rd REF_CFG_QUAL_S * sec ≤ s.now → exec (.qualified
    c) s = .next ((s.setCand c 2).refEnd)) ∧
  (∀ (s : State) (c : Fin 6), s.candState c = 3 → (s.candH c).since + s.rd REF_CFG_DISQ_S * sec ≤ s.now → exec (.disqualified c) s = .next
    ((s.setCand c 4).refEnd)) ∧
  (∀ (s : State) (t k : Nat), (s.rd REF_STATUS_DPLL = 1 ∨ s.rd REF_STATUS_DPLL = 2) → ((bandwidthSchedule (s.rd (REF_CAND_STAT_CLASS (s.rd
    REF_STATUS_SEL)))).find? (fun e => e.2 == s.rd REF_STATUS_BW_STEP + 1) = some (t, k)) → s.dpll.acqSince + t * (sec / 2) ≤ s.now → exec
    (.bandwidthStep) s = .next (s.wr REF_STATUS_BW_STEP k)) ∧
  (∀ (s : State) (freq : Nat) (b : Int) (u : State), s.rd REF_STATUS_DPLL = 1 → s.dpll.handoff = none → freq ≤ 20 → s.dpll.selAt + 2 * sec ≤ s.now
    → u = { s with dpll := { s.dpll with handoff := some s.now, firstDone := true } } → exec (.handOff freq b) s = .next (((u.wr
    REF_STATUS_FREQ_ACQ 1).wrInt REF_BUILDOUT_NS (u.buildOut (u.rd REF_STATUS_SEL) b)).forN 8 fun p x => x.takeError p (if !s.dpll.firstDone &&
    !x.on (PLN_CFG_FIRST_LOCK p) then 1 else x.rd (PLN_CFG_POLICY p)))) ∧
  (∀ (s : State) (freq phase t : Nat), s.dpll.handoff = some t → s.rd REF_STATUS_DPLL = 1 → freq ≤ 20 → phase ≤ 100 → t + 2 * sec ≤ s.now → exec
    (.dpllLocked freq phase) s = .next (s.setDpll 2)) ∧
  (∀ (s : State) (phase : Nat), s.rd REF_STATUS_DPLL = 2 → 1000 < phase → s.dpll.since + sec ≤ s.now → exec (.dpllUnlock phase) s = .next
    (({ (s.raise REF_EVENT_UNLOCK).setDpll 1 with dpll := { ((s.raise REF_EVENT_UNLOCK).setDpll 1).dpll with handoff := none } }).wr
    REF_STATUS_FREQ_ACQ 0)) ∧
  (∀ (s : State), s.rd REF_STATUS_DPLL = 3 → s.dpll.since + s.rd REF_HOLD_VALID_MIN * 60 * sec ≤ s.now → exec (.holdoverExpired) s = .next
    ((s.setDpll 4).raise REF_EVENT_HOLD_EXPIRED))

/-- What the timing plans do when they are configured, changed, jumped, slewed, started and stopped. A write of a plan register reaches its plan,
  and each step of a staged change, of a jump or slew and of a plan's start and stop, under its conditions, leaves the plan's timing and status as
  the spec says. (The spec: 05_references_holdover_and_plans.md.) -/
def Obligations.PlanCommandsComplete : Prop :=
  (∀ (s : State) (m : Fin 22) (p : Fin 8) (v : Word), s.Admits m true (PLN_CFG p) → exec (.planConfigWrite m p v) s = .next (s.planCfgWrite p
    v.toNat)) ∧
  (∀ (s : State) (p : Fin 8) (u : State), u = s.settlePool → u.clockless p = true → exec (.poolClaim p) s = .next (u.restoreClock p)) ∧
  (∀ (s : State) (p : Fin 8) (u : State) (st : StagedH), u = s.settlePool → u.clockless p = false → u.poolFree.isEmpty = false → u.waitsPool p =
    true → (u.planH p).staged = some st → exec (.poolClaim p) s = .next (u.claimFor p st)) ∧
  (∀ (s : State) (p : Fin 8) (i : Nat) (u : State) (st : StagedH), (((rangeFrom 37 10).find? fun k => (s.synH k).claim == some p.val) = some i) →
    u = s.settle i → u.rd (SYN_PLL_STAT_STATE i) = 4 → (u.synH i).target = none → (u.planH p).clockLost = false → (u.planH p).staged = some st →
    exec (.synthReady p) s = .next ((u.setPlanH p { u.planH p with staged := some { st with ready := some (u.synH i).since } }).wr
    (PLN_STATUS_WAIT_CLK p) 0)) ∧
  (∀ (s : State) (p : Fin 8) (i : Nat) (u : State), (((rangeFrom 37 10).find? fun k => (s.synH k).claim == some p.val) = some i) → u = s.settle i
    → u.rd (SYN_PLL_STAT_STATE i) = 4 → (u.synH i).target = none → (u.planH p).clockLost = true → exec (.synthReady p) s = .next ((u.setPlanH p
    { u.planH p with clockLost := false }).swapSynth p u.now (some i))) ∧
  (∀ (s : State) (p : Fin 8) (b a : Nat) (st : StagedH), s.changeTimes p = some (b, a) → (s.planH p).staged = some st → b < a → b ≤ s.now →
    st.bridged = false → (s.planH p).starting = false → exec (.bridgeFrame p) s = .next (((s.setPlanH p
    { s.planH p with anchorT := b, anchorF := ((s.planH p).posAt b).frame, segLen := a - b, lines := (s.planH p).linesTo b, jump := none, staged := some { st with bridged := true } }).wr
    (PLN_STATUS_BRIDGE p) 1).wr (PLN_STATUS_JUMP_PEND p) 0)) ∧
  (∀ (s : State) (p : Fin 8) (st : StagedH), (s.planH p).staged = some st → (s.planH p).starting = false → st.bridged = true → (s.planH p).anchorT
    + (s.planH p).segLen ≤ s.now → exec (.newTiming p) s = .next (s.beginTiming p ((s.planH p).anchorT + (s.planH p).segLen) ((s.planH p).anchorF
    + 1) st)) ∧
  (∀ (s : State) (m : Fin 22) (p : Fin 8) (v : Word), s.Admits m true (PLN_ALIGN p) → exec (.planAlignWrite m p v) s = .next (s.planAlignWrite p
    v.toNat)) ∧
  (∀ (s : State) (m : Fin 22) (p : Fin 8) (k : Fin 4), s.Admits m true (PLN_CFG p) → exec (.policyChange m p k) s = .next (s.planCfgWrite p
    (mergeBits (3 * 2 ^ 7) (k * 2 ^ 7) (s.word (PLN_CFG p)).toNat))) ∧
  (∀ (s : State) (m : Fin 22) (p : Fin 8), s.Admits m true (PLN_CTRL p) → exec (.jumpNow m p) s = .next (s.planCtrlWrite p 1)) ∧
  (∀ (s : State) (p : Fin 8) (j : JumpH) (t : Nat), (s.planH p).jump = some j → j.running = false → j.frame ≤ s.frameOf p → t = (s.planH
    p).frameStart j.frame → s.changeDue p t = false → exec (.jumpFrame p) s = .next (((s.setPlanH p
    { s.planH p with anchorT := t, anchorF := j.frame, segLen := (((s.planH p).frameLen j.frame : Int) + j.change).toNat, lines := (s.planH p).linesTo t, jump := some { j with running := true } }).wr
    (PLN_JUMP_F_FRAME p) (wrap32 j.frame)).wrInt (PLN_JUMP_NS_NS p) (j.change / 6))) ∧
  (∀ (s : State) (p : Fin 8) (j : JumpH), (s.planH p).jump = some j → j.running = true → exec (.jumpFrame p) s = .next (s.endJump p)) ∧
  (∀ (s : State) (p : Fin 8), s.on (PLN_STATUS_SLEWING p) = true → (s.phaseError p).natAbs ≤ 6 → exec (.slewDone p) s = .next ((s.wr
    (PLN_STATUS_SLEWING p) 0).showPhase p (s.phaseError p))) ∧
  (∀ (s : State) (m : Fin 22) (p : Fin 8), s.Admits m true (PLN_CFG p) → exec (.planEnable m p) s = .next (s.planCfgWrite p ((s.word (PLN_CFG
    p)).toNat ||| 1))) ∧
  (∀ (s : State) (p : Fin 8) (st : StagedH) (r : Nat), (s.planH p).staged = some st → st.ready = some r → s.phaseRelatedRate st.rate = false →
    (s.planH p).starting = true → r ≤ s.now → exec (.planStart p) s = .next (((((((s.setPlanH p
    { s.planH p with anchorT := r, segLen := framePeriod st.rate, format := st.format, rate := st.rate, staged := none, starting := false, jump := none, accAt := r, acc := 0 }).swapSynth
    p r st.synth).planDivides p r).wr (PLN_STATUS_RUN p) 1).updateFreqOnly).planStartHeads p))) ∧
  (∀ (s : State) (p : Fin 8) (k : Nat), (s.planH p).staged = none → (s.planH p).stopping = some k → s.on (PLN_STATUS_RUN p) = true → k < s.frameOf
    p → ∃ u : State, exec (.planStop p) s = .next ((((u.wr (PLN_STATUS_RUN p) 0).wr (PLN_STATUS_SLEWING p) 0).wr (PLN_STATUS_JUMP_PEND p)
    0).updateFreqOnly) ∧ (u.planH p).stopping = none ∧ (u.planH p).anchorF = s.frameOf p)

/-- What the synthesisers do when they are written, searched, ramped and lose lock. A write of a synthesiser register reaches its synthesiser, and a
  band search, a ramp update, a loss of lock and the return from the safe clock leave its registers and hidden state as the spec says. (The spec:
  06_clock_synthesis.md.) -/
def Obligations.SynthesiserCommandsComplete : Prop :=
  (∀ (s : State) (m : Fin 22) (i : Fin 53) (seed : Fin 65536), s.Admits m true (SYN_PLL_SEED i) → exec (.seedWrite m i seed) s = .next
    (s.seedWrite i seed)) ∧
  (∀ (s : State) (m : Fin 22) (i : Fin 53), s.Admits m true (SYN_PLL_CTRL i) → exec (.flush m i) s = .next (s.synFlush i)) ∧
  (∀ (s : State) (m : Fin 22) (i : Fin 53), s.Admits m true (SYN_PLL_CTRL i) → exec (.relock m i) s = .next (s.synRelock i)) ∧
  (∀ (s : State) (i : Fin 53) (band : Fin 256) (found : Bool), s.rd (SYN_PLL_STAT_STATE i) = 1 → found = false → exec (.bandSearchDone i band
    found) s = .next (s.raiseArg SYN_EVENT_SEARCH_FAIL i)) ∧
  (∀ (s : State) (i : Fin 53) (band : Fin 256) (found : Bool), s.rd (SYN_PLL_STAT_STATE i) = 1 → found = true → ∃ e : BandEntry, e.band = band ∧
    e.made = s.now ∧ exec (.bandSearchDone i band found) s = .next (((s.setSynH i { (s.synH i).cacheWrite e with lockT := 40 * us }).wr
    (SYN_PLL_STAT_BAND i) band).setSynState i 2)) ∧
  (∀ (s : State) (i : Fin 53) (loop : Int) (w : State), (s.synH i).rampAt + us ≤ s.now → w = (s.runMash i).steer loop → w.servedPlan i = none →
    i.val ≠ 47 → w.rd (SYN_PLL_STAT_STATE i) < 4 → exec (.rampUpdate i loop) s = .next (w.setSynH i { w.synH i with rampAt := w.now })) ∧
  (∀ (s : State) (i : Fin 53) (loop : Int) (w u : State) (want next : Nat), (s.synH i).rampAt + us ≤ s.now → w = (s.runMash i).steer loop →
    w.servedPlan i = none → i.val ≠ 47 → u = w.setSynH i { w.synH i with rampAt := w.now } → 4 ≤ u.rd (SYN_PLL_STAT_STATE i) → (u.synH i).target =
    some want → (u.synH i).rampFrom = none → next = rampNext (u.rd (SYN_PLL_CFG_PROFILE i)) (u.rd (SYN_PLL_CFG_SLOPE i)) (u.synWord i) (u.synWord
    i) u.now want u.now → exec (.rampUpdate i loop) s = .next (((u.setSynH i
    { u.synH i with rate := (next : Int) - u.synWord i, rampEnd := if next = want then ((u.synH i).rampEnd).orElse fun _ => some u.now else none }).setSynWord
    i next).settle i)) ∧
  (∀ (s : State) (k : Fin 10) (p : Nat) (v w : State), s.servedPlan (37 + k.val) = some p → 4 ≤ s.rd (SYN_PLL_STAT_STATE (37 + k.val)) → v =
    s.synUnlock (37 + k.val) → w = (v.setSynH (37 + k.val) { v.synH (37 + k.val) with failed := true }).setPlanH p
    { v.planH p with clockLost := true } → exec (.planSynthUnlock k) s = .next ((w.forL (w.outs.filter fun e => e.2.running && w.outPlan e.1 == p)
    fun e x => x.cutOutput e.1).settlePool.restoreClock p)) ∧
  (∀ (s : State) (k : Fin 5), 3 ≤ s.rd (SYN_PLL_STAT_STATE (48 + k.val)) → exec (.logicPllUnlock k) s = .next ((s.toSafeClock k).synUnlock (48 +
    k))) ∧
  (∀ (s : State) (k : Fin 5) (u : State), u = s.settle (48 + k.val) → u.on ⟨SYN_STATUS, k, 1⟩ = true → u.rd (SYN_PLL_STAT_STATE (48 + k.val)) = 4
    → exec (.safeClockReturn k) s = .next (u.wr ⟨SYN_STATUS, k, 1⟩ 0))

/-- What starting, stopping and loading a racker, fences, host leases and pins do. A write of the racker control, program memory, ownership, fence
  and lease registers reaches its operation, and a request that comes due, a lease that lapses or is not answered, and a pin that changes leave the
  named state. (The spec: 07_racking_programs.md.) -/
def Obligations.RackerControlCommandsComplete : Prop :=
  (∀ (s : State) (m : Fin 22) (r : Fin 16), s.Admits m true (RCK_CTRL r) → exec (.start m r) s = .next (s.rckControl r 1 (s.stamped m))) ∧
  (∀ (s : State) (r : Fin 16) (kind f : Nat), (s.rckH r).request = some (kind, f) → f < s.frame0 → exec (.rackerStarts r) s = .next (s.beginRacker
    r kind ((s.planH 0).frameStart (f + 1)))) ∧
  (∀ (s : State) (m : Fin 22) (r : Fin 16), s.Admits m true (RCK_CTRL r) → exec (.resume m r) s = .next (s.rckControl r 2 (s.stamped m))) ∧
  (∀ (s : State) (m : Fin 22) (r : Fin 16), s.Admits m true (RCK_CTRL r) → exec (.halt m r) s = .next (s.rckControl r 4 (s.stamped m))) ∧
  (∀ (s : State) (m : Fin 22) (r : Fin 16), s.Admits m true (RCK_CTRL r) → exec (.step m r) s = .next (s.rckControl r 8 (s.stamped m))) ∧
  (∀ (s : State) (m : Fin 22) (r : Fin 16) (k : Fin 16384) (v : Word), s.Admits m true (RCK_PM r k) → s.rd (RCK_STATUS_STATE r) = 0 → s.mayLoad m
    = true → exec (.programMemoryWrite m r k v) s = .next (s.setWord (RCK_PM r k) v)) ∧
  (∀ (s : State) (m : Fin 22) (k : Fin 1932) (v : Word), s.Admits m true (ownAddr k) → s.mayLoad m = true → exec (.ownershipWrite m k v) s = .next
    ((s.storeReg m (ownAddr k) v.toNat).followHostGpo)) ∧
  (∀ (s : State) (m : Fin 22) (n : Fin 256) (v : Word), s.Admits m true (RCK_FENCE n) → exec (.fenceWrite m n v) s = .next (s.writeFence n
    v.toNat)) ∧
  (∀ (s : State) (m : Fin 22) (id : Fin 256) (dur : Fin 65536) (prio : Fin 8), s.Admits m true RCK_LEASE_REQ → exec (.hostLease m id dur prio) s =
    .next (s.hostLease (if m.val = 0 then holderMgt else holderHost) (id + dur * 2 ^ 8 + prio * 2 ^ 24))) ∧
  (∀ (s : State) (m : Fin 22) (id : Fin 256) (prio : Fin 8), s.Admits m true RCK_LEASE_REQ → exec (.hostFree m id prio) s = .next (s.hostLease (if
    m.val = 0 then holderMgt else holderHost) (id + prio * 2 ^ 24 + 2 ^ 27))) ∧
  (∀ (s : State) (k : Fin 256), s.on (RCK_LEASE_H_HELD k) = true → k.val ≠ 255 → s.leaseDue k = true → (s.rd (RCK_LEASE_H_HOLDER k) ≠ holderPeer ∨
    96 ≤ k.val ∨ s.on TWN_STATUS_FENCING = true) → exec (.leaseLapse k) s = .next (s.lapseLease k)) ∧
  (∀ (s : State) (who : Fin 17) (a b f : Nat), who.val = 16 → s.fab.host = some (a, b, f) → f + 3 ≤ s.frame0 → exec (.leaseTimeout who) s = .next
    (({ s with fab := { s.fab with host := none } }.wr RCK_LEASE_RES_PEND 0).wr RCK_LEASE_RES_STATUS stBusy)) ∧
  (∀ (s : State) (who : Fin 17) (rd a b f : Nat), who.val < 16 → (s.rckH who).wait = .lease rd a b f → f + 3 ≤ s.frame0 → exec (.leaseTimeout who)
    s = .next ((s.giveStatus who rd stBusy).resumeAt who ((s.planH 0).frameStart (f + 3)))) ∧
  (∀ (s : State) (k : Fin 16) (level : Bool), bit s.pin.gpi k ≠ level → s.journals = false → exec (.gpiChange k level) s = .next
    ({ s with pin := { s.pin with gpi := s.pin.gpi ^^^ 2 ^ k.val, gpiAt := s.now } })) ∧
  (∀ (s : State), s.top.inReset = false → s.rd RCK_GPI_VALUE ≠ s.pin.gpi → s.paired = false → s.pin.gpiAt < (s.planH 0).lineStart (s.pos 0).frame
    (s.pos 0).line → exec (.gpiApplied) s = .next (s.applyGpi s.pin.gpi)) ∧
  (∀ (s : State) (m : Fin 22) (r : Fin 16), s.Admits m false (RCK_PT_F r) → ∃ (u : State) (v : Nat), s.getWord m (RCK_PT_F r) = (u, v) ∧ exec
    (.programTimeRead m r) s = .next { u with lastRead := v &&& (2 ^ 32 - 1) }) ∧
  (∀ (s : State) (r : Fin 16) (rd p x : Nat) (entries : List Nat), (s.rckH r).wait = .retire rd entries → s.rd (RCK_STATUS_STATE r) ≠ 3 →
    (s.floorInstant r).isNone = false → (s.rckH r).floor = some (p, x) → rckOp (s.fetchWord r) ≠ 0x36 → entries ≠ [] → exec (.operationWaitDone r)
    s = .next ((s.setP r (s.planH p).anchorT).operate r rd entries)) ∧
  (∀ (s : State) (r : Fin 16) (rd t : Nat) (entries : List Nat), (s.rckH r).wait = .retire rd entries → s.rd (RCK_STATUS_STATE r) = 3 → (s.rckH
    r).landedAt = some t → (s.rckH r).ops.length < 4 → rckOp (s.fetchWord r) ≠ 0x36 → entries ≠ [] → exec (.operationWaitDone r) s = .next
    ((s.setP r t).operate r rd entries))

/-- The arithmetic, logic and shift instructions of a racker. Where a racker issues one of these instructions, the command completes: the
  destination register holds the result that Table 08-4 gives, the flags are those of Table 08-5, and the instruction retires after its cycles. (The
  spec: 08_racking_instruction_set.md.) -/
def Obligations.RackerArithmeticCompletes : Prop :=
  (∀ (s : State) (r : Fin 16) (i : RckInstr), s.Issues r i → i.op = 0x01 → exec (.add r) s = .next ((((s.resync r).setGreg r i.rd ((s.resync
    r).greg r i.ra + (s.resync r).greg r i.rb)).setFlags r (flagsAdd ((s.resync r).greg r i.ra) ((s.resync r).greg r i.rb))).retire r 1)) ∧
  (∀ (s : State) (r : Fin 16) (i : RckInstr), s.Issues r i → i.op = 0x02 → exec (.sub r) s = .next ((((s.resync r).setGreg r i.rd ((s.resync
    r).greg r i.ra - (s.resync r).greg r i.rb)).setFlags r (flagsSub ((s.resync r).greg r i.ra) ((s.resync r).greg r i.rb))).retire r 1)) ∧
  (∀ (s : State) (r : Fin 16) (i : RckInstr), s.Issues r i → i.op = 0x03 → exec (.and r) s = .next ((((s.resync r).setGreg r i.rd ((s.resync
    r).greg r i.ra &&& (s.resync r).greg r i.rb)).setFlags r (flagsLogic ((s.resync r).rckH r).flags ((s.resync r).greg r i.ra &&& (s.resync
    r).greg r i.rb))).retire r 1)) ∧
  (∀ (s : State) (r : Fin 16) (i : RckInstr), s.Issues r i → i.op = 0x04 → exec (.or r) s = .next ((((s.resync r).setGreg r i.rd ((s.resync
    r).greg r i.ra ||| (s.resync r).greg r i.rb)).setFlags r (flagsLogic ((s.resync r).rckH r).flags ((s.resync r).greg r i.ra ||| (s.resync
    r).greg r i.rb))).retire r 1)) ∧
  (∀ (s : State) (r : Fin 16) (i : RckInstr), s.Issues r i → i.op = 0x05 → exec (.xor r) s = .next ((((s.resync r).setGreg r i.rd ((s.resync
    r).greg r i.ra ^^^ (s.resync r).greg r i.rb)).setFlags r (flagsLogic ((s.resync r).rckH r).flags ((s.resync r).greg r i.ra ^^^ (s.resync
    r).greg r i.rb))).retire r 1)) ∧
  (∀ (s : State) (r : Fin 16) (i : RckInstr), s.Issues r i → i.op = 0x06 → exec (.shl r) s = .next ((((s.resync r).setGreg r i.rd ((s.resync
    r).greg r i.ra <<< (((s.resync r).greg r i.rb).toNat % 32))).setFlags r (flagsShl ((s.resync r).rckH r).flags ((s.resync r).greg r i.ra)
    (((s.resync r).greg r i.rb).toNat % 32))).retire r 1)) ∧
  (∀ (s : State) (r : Fin 16) (i : RckInstr), s.Issues r i → i.op = 0x07 → exec (.shr r) s = .next ((((s.resync r).setGreg r i.rd ((s.resync
    r).greg r i.ra >>> (((s.resync r).greg r i.rb).toNat % 32))).setFlags r (flagsShr ((s.resync r).rckH r).flags ((s.resync r).greg r i.ra)
    (((s.resync r).greg r i.rb).toNat % 32))).retire r 1)) ∧
  (∀ (s : State) (r : Fin 16) (i : RckInstr), s.Issues r i → i.op = 0x08 → exec (.sar r) s = .next ((((s.resync r).setGreg r i.rd (((s.resync
    r).greg r i.ra).sshiftRight (((s.resync r).greg r i.rb).toNat % 32))).setFlags r (flagsSar ((s.resync r).rckH r).flags ((s.resync r).greg r
    i.ra) (((s.resync r).greg r i.rb).toNat % 32))).retire r 1)) ∧
  (∀ (s : State) (r : Fin 16) (i : RckInstr), s.Issues r i → i.op = 0x09 → exec (.mul r) s = .next ((((s.resync r).setGreg r i.rd ((s.resync
    r).greg r i.ra * (s.resync r).greg r i.rb)).setFlags r (flagsLogic ((s.resync r).rckH r).flags ((s.resync r).greg r i.ra * (s.resync r).greg r
    i.rb))).retire r 3)) ∧
  (∀ (s : State) (r : Fin 16) (i : RckInstr), s.Issues r i → i.op = 0x0A → exec (.cmp r) s = .next (((s.resync r).setFlags r (flagsSub ((s.resync
    r).greg r i.ra) ((s.resync r).greg r i.rb))).retire r 1)) ∧
  (∀ (s : State) (r : Fin 16) (i : RckInstr), s.Issues r i → i.op = 0x0B → exec (.addi r) s = .next ((((s.resync r).setGreg r i.rd ((s.resync
    r).greg r i.ra + signExt16 i.immediate)).setFlags r (flagsAdd ((s.resync r).greg r i.ra) (signExt16 i.immediate))).retire r 1)) ∧
  (∀ (s : State) (r : Fin 16) (i : RckInstr), s.Issues r i → i.op = 0x0C → exec (.andi r) s = .next ((((s.resync r).setGreg r i.rd ((s.resync
    r).greg r i.ra &&& BitVec.ofNat 32 i.immediate)).setFlags r (flagsLogic ((s.resync r).rckH r).flags ((s.resync r).greg r i.ra &&& BitVec.ofNat
    32 i.immediate))).retire r 1)) ∧
  (∀ (s : State) (r : Fin 16) (i : RckInstr), s.Issues r i → i.op = 0x0D → exec (.ori r) s = .next ((((s.resync r).setGreg r i.rd ((s.resync
    r).greg r i.ra ||| BitVec.ofNat 32 i.immediate)).setFlags r (flagsLogic ((s.resync r).rckH r).flags ((s.resync r).greg r i.ra ||| BitVec.ofNat
    32 i.immediate))).retire r 1)) ∧
  (∀ (s : State) (r : Fin 16) (i : RckInstr), s.Issues r i → i.op = 0x0E → exec (.xori r) s = .next ((((s.resync r).setGreg r i.rd ((s.resync
    r).greg r i.ra ^^^ BitVec.ofNat 32 i.immediate)).setFlags r (flagsLogic ((s.resync r).rckH r).flags ((s.resync r).greg r i.ra ^^^ BitVec.ofNat
    32 i.immediate))).retire r 1)) ∧
  (∀ (s : State) (r : Fin 16) (i : RckInstr), s.Issues r i → i.op = 0x0F → i.immediate < 32 → exec (.shli r) s = .next ((((s.resync r).setGreg r
    i.rd ((s.resync r).greg r i.ra <<< i.immediate)).setFlags r (flagsShl ((s.resync r).rckH r).flags ((s.resync r).greg r i.ra)
    i.immediate)).retire r 1)) ∧
  (∀ (s : State) (r : Fin 16) (i : RckInstr), s.Issues r i → i.op = 0x10 → i.immediate < 32 → exec (.shri r) s = .next ((((s.resync r).setGreg r
    i.rd ((s.resync r).greg r i.ra >>> i.immediate)).setFlags r (flagsShr ((s.resync r).rckH r).flags ((s.resync r).greg r i.ra)
    i.immediate)).retire r 1)) ∧
  (∀ (s : State) (r : Fin 16) (i : RckInstr), s.Issues r i → i.op = 0x11 → i.immediate < 32 → exec (.sari r) s = .next ((((s.resync r).setGreg r
    i.rd (((s.resync r).greg r i.ra).sshiftRight i.immediate)).setFlags r (flagsSar ((s.resync r).rckH r).flags ((s.resync r).greg r i.ra)
    i.immediate)).retire r 1)) ∧
  (∀ (s : State) (r : Fin 16) (i : RckInstr), s.Issues r i → i.op = 0x12 → exec (.cmpi r) s = .next (((s.resync r).setFlags r (flagsSub ((s.resync
    r).greg r i.ra) (signExt16 i.immediate))).retire r 1)) ∧
  (∀ (s : State) (r : Fin 16) (i : RckInstr), s.Issues r i → i.op = 0x13 → exec (.movi r) s = .next (((s.resync r).setGreg r i.rd (signExt16
    i.immediate)).retire r 1)) ∧
  (∀ (s : State) (r : Fin 16) (i : RckInstr), s.Issues r i → i.op = 0x14 → exec (.lui r) s = .next (((s.resync r).setGreg r i.rd (BitVec.ofNat 32
    (i.immediate * 2 ^ 16))).retire r 1))

/-- The data memory, salvo memory, matrix and special register instructions of a racker. Where a racker issues one of these instructions with an
  address that the spec admits, the command completes: a load leaves the word or byte in its register, a store leaves it in the memory, and the
  instruction retires after its cycles. (The spec: 08_racking_instruction_set.md.) -/
def Obligations.RackerMemoryAndSpecialInstructionsComplete : Prop :=
  (∀ (s : State) (r : Fin 16) (i : RckInstr) (ecc : Bool), s.Issues r i → i.op = 0x15 → (s.resync r).effAddr r i % 4 = 0 → (s.resync r).effAddr r
    i ≤ 0x3FFF → ecc = false → exec (.ldw r ecc) s = .next (((s.resync r).setGreg r i.rd ((s.resync r).word (RCK_DM r ((s.resync r).effAddr r i /
    4)))).retire r 2)) ∧
  (∀ (s : State) (r : Fin 16) (i : RckInstr) (ecc : Bool), s.Issues r i → i.op = 0x16 → (s.resync r).effAddr r i % 4 = 0 → (s.resync r).effAddr r
    i ≤ 0x3FFF → ecc = false → exec (.stw r ecc) s = .next (((s.resync r).setWord (RCK_DM r ((s.resync r).effAddr r i / 4)) ((s.resync r).greg r
    i.rd)).retire r 1)) ∧
  (∀ (s : State) (r : Fin 16) (i : RckInstr) (ecc : Bool), s.Issues r i → i.op = 0x17 → (s.resync r).effAddr r i ≤ 0x3FFF → ecc = false → exec
    (.ldb r ecc) s = .next (((s.resync r).setGreg r i.rd (BitVec.ofNat 32 (((s.resync r).word (RCK_DM r ((s.resync r).effAddr r i / 4))).toNat / 2
    ^ (8 * ((s.resync r).effAddr r i % 4)) % 2 ^ 8))).retire r 2)) ∧
  (∀ (s : State) (r : Fin 16) (i : RckInstr) (ecc : Bool), s.Issues r i → i.op = 0x18 → (s.resync r).effAddr r i ≤ 0x3FFF → ecc = false → exec
    (.stb r ecc) s = .next (((s.resync r).setWord (RCK_DM r ((s.resync r).effAddr r i / 4)) (putByte ((s.resync r).word (RCK_DM r ((s.resync
    r).effAddr r i / 4))) ((s.resync r).effAddr r i % 4) ((s.resync r).greg r i.rd).toNat)).retire r 1)) ∧
  (∀ (s : State) (r : Fin 16) (i : RckInstr), s.Issues r i → i.op = 0x19 → exec (.sld r) s = .next ((((s.resync r).setGreg r i.rd ((s.resync
    r).word (RCK_SALVO (((s.resync r).greg r i.ra).toNat % 2 ^ 16) + 4))).setGreg r (i.rd + 1) ((s.resync r).word (RCK_SALVO (((s.resync r).greg r
    i.ra).toNat % 2 ^ 16)))).retire r 3)) ∧
  (∀ (s : State) (r : Fin 16) (i : RckInstr) (v : State), s.Issues r i → i.op = 0x1A → (s.resync r).access
    { master := 3 + r, write := true, addr := RCK_SALVO (((s.resync r).greg r i.ra).toNat % 2 ^ 16), len := 8, data := ((s.resync r).greg r i.rd).toNat * 2 ^ 32 + ((s.resync r).greg r (i.rd + 1)).toNat }
    = (v, false) → exec (.sst r) s = .next (v.retire r 2)) ∧
  (∀ (s : State) (r : Fin 16) (i : RckInstr) (v : State), s.Issues r i → i.op = 0x1B → (s.resync r).effAddr r i % 4 = 0 → (s.resync r).access
    { master := 3 + r, write := false, addr := (s.resync r).effAddr r i, len := 4 } = (v, false) → exec (.mld r) s = .next ((v.setGreg r i.rd
    (BitVec.ofNat 32 v.lastRead)).retire r 6)) ∧
  (∀ (s : State) (r : Fin 16) (i : RckInstr) (v : State), s.Issues r i → i.op = 0x1C → (s.resync r).effAddr r i % 4 = 0 → (s.resync r).access
    { master := 3 + r, write := true, addr := (s.resync r).effAddr r i, len := 4, data := ((s.resync r).greg r i.rd).toNat } = (v, false) → exec
    (.mst r) s = .next (v.retire r 3)) ∧
  (∀ (s : State) (r : Fin 16) (i : RckInstr), s.Issues r i → i.op = 0x1D → exec (.mfs r) s = .next (((s.resync r).setGreg r i.rd (BitVec.ofNat 32
    ((s.resync r).special r i.immediate))).retire r 1)) ∧
  (∀ (s : State) (r : Fin 16) (i : RckInstr), s.Issues r i → i.op = 0x1E → i.immediate = 1 → exec (.mts r) s = .next (((s.resync r).setRckH r
    { (s.resync r).rckH r with lnk := ((s.resync r).greg r i.ra).toNat % 2 ^ 14 }).retire r 1))

/-- The branch, trap and wait instructions of a racker and the ends of its waits. Where a racker issues one of these instructions, or its wait comes
  to its end, the command completes: the racker continues at the index, in the state and at the program time that the spec gives, or waits. (The
  spec: 08_racking_instruction_set.md, 07_racking_programs.md.) -/
def Obligations.RackerBranchTrapAndWaitInstructionsComplete : Prop :=
  (∀ (s : State) (r : Fin 16) (i : RckInstr), s.Issues r i → i.op = 0x20 → condHolds ((s.resync r).rckH r).flags i.rd = true → (0 ≤ (s.resync
    r).relTarget r i ∧ (s.resync r).relTarget r i ≤ 16383) → exec (.bc r) s = .next ((s.resync r).retireTo r 2 ((s.resync r).relTarget r
    i).toNat)) ∧
  (∀ (s : State) (r : Fin 16) (i : RckInstr), s.Issues r i → i.op = 0x21 → (0 ≤ (s.resync r).relTarget r i ∧ (s.resync r).relTarget r i ≤ 16383) →
    exec (.call r) s = .next (((s.resync r).setRckH r { (s.resync r).rckH r with lnk := ((s.resync r).pc r + 1) % 2 ^ 14 }).retireTo r 2
    ((s.resync r).relTarget r i).toNat)) ∧
  (∀ (s : State) (r : Fin 16) (i : RckInstr), s.Issues r i → i.op = 0x22 → ((s.resync r).greg r i.ra).toNat ≤ 16383 → exec (.jr r) s = .next
    ((s.resync r).retireTo r 2 ((s.resync r).greg r i.ra).toNat)) ∧
  (∀ (s : State) (r : Fin 16) (i : RckInstr), s.Issues r i → i.op = 0x23 → ((s.resync r).rckH r).lnk ≤ 16383 → exec (.ret r) s = .next ((s.resync
    r).retireTo r 2 ((s.resync r).rckH r).lnk)) ∧
  (∀ (s : State) (r : Fin 16) (i : RckInstr) (ecc : Bool), s.Issues r i → i.op = 0x24 → ecc = false → exec (.trap r ecc) s = .next (((s.resync
    r).advance r 4).trap r 11 i.immediate)) ∧
  (∀ (s : State) (r : Fin 16) (i : RckInstr), s.Issues r i → i.op = 0x25 → (s.resync r).on (RCK_STATUS_IN_HANDLER r) = true → exec (.rett r) s =
    .next (((s.resync r).wr (RCK_STATUS_IN_HANDLER r) 0).retireTo r 2 (((s.resync r).rckH r).trapInfo % 2 ^ 14 + 1))) ∧
  (∀ (s : State) (r : Fin 16) (i : RckInstr), s.Issues r i → i.op = 0x26 → exec (.stop r) s = .next (((s.resync r).retire r 1).wr
    (RCK_STATUS_STATE r) 0)) ∧
  (∀ (s : State) (r : Fin 16) (i : RckInstr), s.Issues r i → i.op = 0x3F → exec (.nop r) s = .next ((s.resync r).retire r 1)) ∧
  (∀ (s : State) (r : Fin 16) (i : RckInstr), s.Issues r i → i.op = 0x28 → i.flag = false → (i.immediate ≠ 0 ∧ i.immediate < 2 ^ 16 ∧ i.immediate
    ≤ totalLines ((s.resync r).planTiming ((s.resync r).rckH r).planSel).1) → (s.resync r).lineInstant ((s.resync r).rckH r).planSel i.immediate
    ((s.resync r).rckH r).p ≠ some ((s.resync r).rckH r).p → exec (.waitl r) s = .next ((s.resync r).startWait r (.line ((s.resync r).rckH
    r).planSel i.immediate ((s.resync r).rckH r).p))) ∧
  (∀ (s : State) (r : Fin 16) (p l issued t : Nat), (s.rckH r).wait = .line p l issued → s.lineInstant p l issued = some t → t ≤ s.now → exec
    (.waitlComplete r) s = .next ((s.setC r false).resumeAt r t)) ∧
  (∀ (s : State) (r : Fin 16) (i : RckInstr), s.Issues r i → i.op = 0x29 → frameDiff ((s.resync r).currentFrame r) ((s.resync r).frameOperand r i)
    < 0 → exec (.waitf r) s = .next ((s.resync r).startWait r (.frame ((s.resync r).rckH r).planSel ((s.resync r).frameOperand r i)))) ∧
  (∀ (s : State) (r : Fin 16) (p f t : Nat), (s.rckH r).wait = .frame p f → s.frameInstant p f = some t → exec (.waitfComplete r) s = .next
    ((s.setC r false).resumeAt r t)) ∧
  (∀ (s : State) (r : Fin 16) (i : RckInstr), s.Issues r i → i.op = 0x2A → (((s.resync r).greg r i.ra).toNat ≠ 0 ∨ i.immediate ≠ 0) → (s.resync
    r).rd (RCK_EVT_EVT r) &&& ((s.resync r).greg r i.ra).toNat = 0 → exec (.waite r) s = .next ((s.resync r).startWait r (.event i.rd ((s.resync
    r).greg r i.ra).toNat ((s.resync r).rckH r).planSel i.immediate ((s.resync r).linesBegun ((s.resync r).rckH r).planSel ((s.resync r).rckH
    r).p)))) ∧
  (∀ (s : State) (r : Fin 16) (rd mask p n issued t : Nat), (s.rckH r).wait = .event rd mask p n issued → s.rd (RCK_EVT_EVT r) &&& mask ≠ 0 → t =
    (s.rckH r).metAt.getD s.now → s.timedOut p n issued t = false → exec (.waiteComplete r) s = .next ((s.takeEvents r rd mask).resumeAt r t)) ∧
  (∀ (s : State) (r : Fin 16) (rd mask p n issued t : Nat), (s.rckH r).wait = .event rd mask p n issued → s.timeoutAt p n issued = some t → t ≤
    s.now → s.rd (RCK_EVT_EVT r) &&& mask = 0 → exec (.waiteTimeout r) s = .next (((s.setGreg r rd 0).setZ r true).resumeAt r t)) ∧
  (∀ (s : State) (r : Fin 16) (i : RckInstr), s.Issues r i → i.op = 0x2B → exec (.atFloor r) s = .next (((s.resync r).setRckH r
    { (s.resync r).rckH r with floor := some (((s.resync r).rckH r).planSel, (s.resync r).frameOperand r i) }).retire r 1)) ∧
  (∀ (s : State) (r : Fin 16) (i : RckInstr), s.Issues r i → i.op = 0x2C → ((s.resync r).greg r i.ra).toNat % 2 ^ 13 ≤ 4607 → (s.resync
    r).routeTransparent (((s.resync r).greg r i.ra).toNat % 2 ^ 13) = false → (s.resync r).provenVerdict (((s.resync r).greg r i.ra).toNat % 2 ^
    13) ((s.resync r).rckH r).p = none → exec (.prove r) s = .next ((s.resync r).startWait r (.prove i.rd (((s.resync r).greg r i.ra).toNat % 2 ^
    13) ((s.resync r).rckH r).p ((s.resync r).rckH r).planSel i.immediate ((s.resync r).linesBegun ((s.resync r).rckH r).planSel ((s.resync
    r).rckH r).p)))) ∧
  (∀ (s : State) (r : Fin 16) (rd d t0 p n issued code tag t : Nat), (s.rckH r).wait = .prove rd d t0 p n issued → (s.rckH r).proved = some (code,
    tag) → t = (s.rckH r).metAt.getD s.now → s.timedOut p n issued t = false → exec (.proveComplete r) s = .next ((s.giveVerdict r rd code
    tag).resumeAt r t)) ∧
  (∀ (s : State) (r : Fin 16) (rd d t0 p n issued : Nat), (s.rckH r).wait = .prove rd d t0 p n issued → (s.rckH r).proved = none →
    s.nothingToProve d = true → s.timedOut p n issued (s.outH d).stillAt = false → exec (.proveComplete r) s = .next ((s.giveVerdict r rd 3
    0).resumeAt r (s.outH d).stillAt)) ∧
  (∀ (s : State) (r : Fin 16) (rd d t0 p n issued t : Nat), (s.rckH r).wait = .prove rd d t0 p n issued → s.timeoutAt p n issued = some t → t ≤
    s.now → (s.rckH r).proved = none → exec (.proveTimeout r) s = .next ((s.giveVerdict r rd 0 0).resumeAt r t))

/-- The operation, ledger, lease, fence, message and pin instructions of a racker. Where a racker issues one of these instructions with operands
  that the spec admits, the command completes: its entries go to the operation, the lease, fence, message or pin acts, the twin is told of the
  effect, the status is given and the instruction retires. (The spec: 08_racking_instruction_set.md, 07_racking_programs.md.) -/
def Obligations.RackerOperationInstructionsComplete : Prop :=
  (∀ (s : State) (r : Fin 16) (i : RckInstr) (ecc : Option (Fin 65536)), s.Issues r i → i.op = 0x30 → (((s.resync r).greg r i.rb).toNat ≠ 0 ∧
    ((s.resync r).greg r i.rb).toNat ≤ 4096) → ((s.resync r).greg r i.ra).toNat + ((s.resync r).greg r i.rb).toNat ≤ 65536 → ecc = none → exec
    (.take r ecc) s = .next (((s.resync r).advance r (12 + 4 * ((s.resync r).readEntries ((s.resync r).greg r i.ra).toNat ((s.resync r).greg r
    i.rb).toNat).2)).operate r i.rd ((s.resync r).readEntries ((s.resync r).greg r i.ra).toNat ((s.resync r).greg r i.rb).toNat).1)) ∧
  (∀ (s : State) (r : Fin 16) (i : RckInstr), s.Issues r i → i.op = 0x31 → exec (.xset r) s = .next ((s.resync r).stage r 1 ((s.resync r).greg r
    i.ra).toNat ((s.resync r).greg r i.rb).toNat)) ∧
  (∀ (s : State) (r : Fin 16) (i : RckInstr), s.Issues r i → i.op = 0x33 → exec (.amap r) s = .next ((s.resync r).stage r 2 ((s.resync r).greg r
    i.ra).toNat ((s.resync r).greg r i.rb).toNat)) ∧
  (∀ (s : State) (r : Fin 16) (i : RckInstr), s.Issues r i → i.op = 0x35 → exec (.slotm r) s = .next ((s.resync r).stage r 3 ((s.resync r).greg r
    i.ra).toNat ((s.resync r).greg r i.rb).toNat)) ∧
  (∀ (s : State) (r : Fin 16) (i : RckInstr), s.Issues r i → i.op = 0x32 → ((s.resync r).rckH r).staging ≠ [] → exec (.commit r) s = .next
    (((((s.resync r).setRckH r { (s.resync r).rckH r with staging := [] }).showRck r).advance r (12 + 4 * ((s.resync r).rckH
    r).staging.length)).operate r i.rd ((s.resync r).rckH r).staging)) ∧
  (∀ (s : State) (r : Fin 16) (i : RckInstr), s.Issues r i → i.op = 0x32 → ((s.resync r).rckH r).staging = [] → exec (.commit r) s = .next
    (((((s.resync r).setRckH r { (s.resync r).rckH r with staging := [] }).showRck r).advance r 12).commitEmpty r i.rd)) ∧
  (∀ (s : State) (r : Fin 16) (i : RckInstr), s.Issues r i → i.op = 0x34 → exec (.fade r) s = .next (((s.resync r).wr (RCK_FADE_TENTHS_MS r) (min
    (if i.flag then i.immediate else ((s.resync r).greg r i.ra).toNat) 400)).retire r 1)) ∧
  (∀ (s : State) (r : Fin 16) (i : RckInstr), s.Issues r i → i.op = 0x36 → exec (.hcommit r) s = .next (((s.resync r).advance r 8).hcommit r i.rd
    (if i.flag then i.immediate else ((s.resync r).greg r i.ra).toNat))) ∧
  (∀ (s : State) (r : Fin 16) (i : RckInstr) (v : State) (st : Nat), s.Issues r i → i.op = 0x37 → i.immediate = 0 → ((s.resync r).advance r
    4).addMark (((s.resync r).advance r 4).greg r i.ra).toNat r (((s.resync r).advance r 4).ptPos r 0).frame (((s.resync r).advance r 4).ptPos r
    0).line = (v, st) → ∃ w : State, exec (.lmarkMark r) s = .next (((w.giveStatus r i.rd st).goto r (v.pc r + 1)).boundary r) ∧ w = v.effect r 5
    [(((s.resync r).advance r 4).greg r i.ra).toNat, wrap32 (((s.resync r).advance r 4).ptPos r 0).frame, (((s.resync r).advance r 4).ptPos r
    0).line]) ∧
  (∀ (s : State) (r : Fin 16) (i : RckInstr), s.Issues r i → i.op = 0x37 → i.immediate = 1 → ∃ w : State, w = (((s.resync r).advance r
    4).requestEpoch ((((s.resync r).advance r 4).ptPos r 0).frame + 1)).effect r 6 [wrap32 ((((s.resync r).advance r 4).ptPos r 0).frame + 1)] ∧
    exec (.lmarkEpoch r) s = .next (((w.setGreg r i.rd (BitVec.ofNat 32 ((((s.resync r).advance r 4).ptPos r 0).frame + 1))).goto r (w.pc r +
    1)).boundary r)) ∧
  (∀ (s : State) (r : Fin 16) (i : RckInstr) (v : State) (st : Nat), s.Issues r i → i.op = 0x38 → ((s.resync r).greg r i.ra).toNat < 96 →
    (((s.resync r).greg r i.rb).toNat ≠ 0 ∧ ((s.resync r).greg r i.rb).toNat ≤ 65535) → (s.resync r).leaseRequest r ((s.resync r).greg r
    i.ra).toNat ((s.resync r).greg r i.rb).toNat ((s.resync r).rd (RCK_CFG_PRIO r)) = (v, st) → exec (.lease r) s = .next (((v.effect r 2
    [((s.resync r).greg r i.ra).toNat, ((s.resync r).greg r i.rb).toNat]).giveStatus r i.rd st).retire r 6)) ∧
  (∀ (s : State) (r : Fin 16) (i : RckInstr), s.Issues r i → i.op = 0x38 → (96 ≤ ((s.resync r).greg r i.ra).toNat ∧ ((s.resync r).greg r
    i.ra).toNat < 224) → (((s.resync r).greg r i.rb).toNat ≠ 0 ∧ ((s.resync r).greg r i.rb).toNat ≤ 65535) → exec (.lease r) s = .next (((s.resync
    r).startWait r (.lease i.rd ((s.resync r).greg r i.ra).toNat ((s.resync r).greg r i.rb).toNat (s.resync r).frame0)).requestFabLease ((s.resync
    r).greg r i.ra).toNat ((s.resync r).greg r i.rb).toNat ((s.resync r).rd (RCK_CFG_PRIO r)) r false)) ∧
  (∀ (s : State) (r : Fin 16) (i : RckInstr) (v : State) (st : Nat), s.Issues r i → i.op = 0x39 → ((s.resync r).greg r i.ra).toNat < 96 →
    (s.resync r).freeLocal r ((s.resync r).greg r i.ra).toNat = (v, st) → exec (.free r) s = .next (((v.effect r 3 [((s.resync r).greg r
    i.ra).toNat]).giveStatus r i.rd st).retire r 6)) ∧
  (∀ (s : State) (r : Fin 16) (i : RckInstr), s.Issues r i → i.op = 0x3A → (s.resync r).fenceReached (((s.resync r).greg r i.ra).toNat % 256)
    ((s.resync r).greg r i.rb).toNat = true → exec (.fencew r) s = .next ((s.resync r).retire r 0)) ∧
  (∀ (s : State) (r : Fin 16) (n v : Nat), (s.rckH r).wait = .fence n v → s.fenceReached n v = true → exec (.fencewComplete r) s = .next
    (s.resumeAt r ((s.rckH r).metAt.getD s.now))) ∧
  (∀ (s : State) (r : Fin 16) (i : RckInstr), s.Issues r i → i.op = 0x3B → exec (.fences r) s = .next ((((s.resync r).writeFence (((s.resync
    r).greg r i.ra).toNat % 256) ((s.resync r).greg r i.rb).toNat).effect r 0 [((s.resync r).greg r i.ra).toNat % 256, ((s.resync r).greg r
    i.rb).toNat]).retire r 3)) ∧
  (∀ (s : State) (r : Fin 16) (i : RckInstr) (c : Nat), s.Issues r i → i.op = 0x3C → (s.resync r).postChannel r ((s.resync r).greg r i.ra).toNat =
    some c → exec (.ring r) s = .next (((((s.resync r).ringChannel r c ((s.resync r).greg r i.ra).toNat (i.immediate % 32)).effect r 4 [((s.resync
    r).greg r i.ra).toNat, i.immediate % 32]).giveStatus r i.rd stDone).retire r 3)) ∧
  (∀ (s : State) (r : Fin 16) (i : RckInstr) (ecc : Bool) (c : Nat) (q : State), s.Issues r i → i.op = 0x3D → ((s.resync r).greg r i.rb).toNat % 4
    = 0 → ((s.resync r).greg r i.rb).toNat + 255 ≤ 0x3FFF → (s.resync r).postChannel r ((s.resync r).greg r i.ra).toNat = some c → q = (s.resync
    r).makeRoom c → q.chanOpen c = true → ecc = false → ∃ (words : List Nat) (v : State), words = ((rangeFrom (((s.resync r).greg r i.rb).toNat /
    4) 64).map fun k => (q.word (RCK_DM r k)).toNat) ∧ v = (if c < 320 then (q.sendSlot c ((s.resync r).greg r i.ra).toNat words).effect r 8 (c ::
    words) else q.sendSlot c ((s.resync r).greg r i.ra).toNat words) ∧ exec (.postMsg r ecc) s = .next ((v.giveStatus r i.rd stDone).retire r 68)) ∧
  (∀ (s : State) (r : Fin 16) (i : RckInstr), s.Issues r i → i.op = 0x3E → exec (.gpo r) s = .next ((((s.resync r).driveGpo r (((s.resync r).greg
    r i.ra).toNat % 2 ^ 16) (((s.resync r).greg r i.rb).toNat % 2 ^ 16)).effect r 1 [((s.resync r).greg r i.ra).toNat % 2 ^ 16, ((s.resync r).greg
    r i.rb).toNat % 2 ^ 16]).retire r 2)) ∧
  (∀ (s : State) (p : Fin 8) (k : Nat) (g : PlanGroup), s.nextGroup p = some (16, k, g) → (s.mode ≠ .safe ∧ s.mode ≠ .diagnostic) → s.on
    (PLN_STATUS_RUN p) = true → (s.timingOf p g.frame).lineStart g.frame g.line ≤ s.now → exec (.planGroupLands p) s = .next
    (({ s with twn := { s.twn with landing := s.twn.landing.filter fun x => x.plan != p } }.landChanges p g.line g.changes).1)) ∧
  (∀ (s : State) (p : Fin 8) (r k : Nat) (g : PlanGroup) (u v : State), s.nextGroup p = some (r, k, g) → r < 16 → ((s.mode ≠ .safe ∧ s.mode ≠
    .diagnostic)) → s.on (PLN_STATUS_RUN p) = true → (s.timingOf p g.frame).lineStart g.frame g.line ≤ s.now → (u = s.setRckH r
    { s.rckH r with ops := listSet (s.rckH r).ops k (((s.rckH r).ops.getD k []).filter fun x => x.plan != p) }) → v = ((u.landChanges p g.line
    g.changes).1.discarded r (entryCount (u.landChanges p g.line g.changes).2)).settleOps r ((s.timingOf p g.frame).lineStart g.frame g.line) →
    (((v.rckH r).ops.any fun o => o.any fun x => x.plan == p.val) = false) → exec (.planGroupLands p) s = .next (((v.wr (RCK_LAND_F_FRAME r p)
    (wrap32 g.frame)).wr (RCK_LAND_L_LINE r p) g.line).showLand r p))

/-- What inputs, their frames and the cask window do. An input becoming present or absent, a frame start, entering and leaving a cask window and a
  cellar memory error complete with the named change of the input, of its reads and of the ledger. (The spec: 09_video_path_cask_and_cellar.md.) -/
def Obligations.VideoInputCommandsComplete : Prop :=
  (∀ (s : State) (k : Fin 4608) (format rate : Nat) (levelB : Bool), s.packetMode (k.val / 128) = false → s.slotReceived k = true → ((s.linkAreas
    k).all (fun x => decide (2 ≤ (s.inH x).sdi.frames)) = true) → s.linkFormat k = some (format, rate, levelB) → s.on (XPT_IN_STAT_PRESENT k) =
    false → exec (.inputPresent k) s = .next (s.inputPresent k true format rate levelB)) ∧
  (∀ (s : State) (k : Fin 4608), s.packetMode (k.val / 128) = false → s.slotReceived k = true → ((s.linkAreas k).all (fun x => decide (2 ≤ (s.inH
    x).sdi.frames)) = true) → s.linkFormat k = none → s.on (XPT_IN_STAT_PRESENT k) = false → exec (.inputPresent k) s = .next (s.inputPresent k
    false 0 0 false)) ∧
  (∀ (s : State) (k : Fin 4608) (format rate : Nat) (levelB : Bool), s.packetMode (k.val / 128) = false → s.slotReceived k = true → ((s.linkAreas
    k).all (fun x => decide (2 ≤ (s.inH x).sdi.frames)) = true) → s.linkFormat k = some (format, rate, levelB) → s.on (XPT_IN_STAT_PRESENT k) =
    true → s.structureDiffers k true format rate levelB = true → exec (.inputPresent k) s = .next (((s.inputAbsent k).inputPresent k true format
    rate levelB).sdiReturn k)) ∧
  (∀ (s : State) (k : Fin 4608), s.packetMode (k.val / 128) = false → ((s.linkAreas k).any (fun x => decide ((s.inH x).sdi.at_ + 2 * s.inLine k <
    s.now)) = true) → exec (.inputAbsent k) s = .next (s.inputAbsent k)) ∧
  (∀ (s : State) (k : Fin 4608) (u v w t : State), s.on (XPT_IN_STAT_PRESENT k) = true → s.addresses k = true → s.transparent k = false → u =
    s.storeLines k → (v = ((u.setInH k
    { u.inH k with frames := (u.inH k).frames + 1, stored := ((u.inH k).frames, u.now) :: (u.inH k).stored.take 2, undecided := (u.inH k).undecided.filter (fun x => !decide (x + 3 ≤ (u.inH k).frames)) ++ [(u.inH k).frames], rgen := u.rd PRF_STATUS_RGEN, damaged := 0, outside := 0, wasOutside := (u.inH k).outside, cellarFrom := if u.cellarUp then (u.inH k).cellarFrom else (u.inH k).frames + 1 }).bookOut
    0 k .dropped ((u.inH k).undecided.filter fun x => decide (x + 3 ≤ (u.inH k).frames)).length).bookIn 0 k 1) → (w = v.forL [4, 5] fun c x => if
    x.candState c ≠ 0 ∧ x.rd (REF_CAND_CFG_SRC c) = k.val then x.setCandH c { x.candH c with frameStart := some x.now } else x) → t = w.showOffset
    k (w.caskOffset (w.rd (XPT_IN_CFG_HOME k)) 1 w.now) → exec (.inputFrameStart k) s = .next (if t.cellarUp then t.writeRotations k (u.inH
    k).frames else t)) ∧
  (∀ (s : State) (k : Fin 4608) (p : Fin 8), s.compatible k p = true → s.effMode k ≠ 0 → bit (s.inH k).windows p = false → bit (s.inH
    k).wasOutside p = false → 2 ≤ (s.inH k).stored.length → (((s.inH k).stored.take 2).all (fun e => s.inWindow p (s.caskOffset p 1 e.2)) = true)
    → exec (.caskWindowEnter k p) s = .next ((s.setInH k { s.inH k with windows := (s.inH k).windows + 2 ^ p.val }).when (s.rd (XPT_IN_CFG_HOME k)
    == p.val) fun x => x.showOffset k (x.caskOffset p 1 (((s.inH k).stored.headD (0, 0)).2)))) ∧
  (∀ (s : State) (k : Fin 4608) (p : Fin 8) (line : Nat) (v : State), bit (s.inH k).windows p = true → s.inWindow p (s.caskOffset p line s.now) =
    false → s.rd (XPT_IN_CFG_HOME k) ≠ p → v = (s.setInH k { s.inH k with windows := (s.inH k).windows - 2 ^ p.val }).raise XPT_EVENT_WINDOW_EXIT
    → (∀ src ∈ v.idsOf k, v.destsOf src = []) → exec (.caskWindowExit k p line) s = .next (v)) ∧
  (∀ (s : State) (k : Fin 4608) (p : Fin 8) (line : Nat) (kind : Fin 3), kind = 2 → exec (.cellarEccError k p line kind) s = .next ((s.bump
    CLR_ECC_META_UNCORR_META).trigger 1)) ∧
  (∀ (s : State) (k : Fin 4608) (p : Fin 8) (line : Nat) (kind : Fin 3), kind = 0 → exec (.cellarEccError k p line kind) s = .next (s.bump
    CLR_ECC_CORR)) ∧
  (∀ (s : State) (k : Fin 4608) (p : Fin 8) (line : Nat) (kind : Fin 3) (r : ReadH) (n : Nat) (c : CheckRec) (u w : State), kind = 1 → u = s.bump
    CLR_ECC_UNCORR_DATA → (u.inH k).readOn p = some r → r.sel = some n → ((u.recsOf k).find? (fun e => e.tag == frameTag k n) = some c) → (u.inH
    k).complete = some n → (w = u.setInH k
    { u.inH k with reads := (u.inH k).reads.map fun x => if x.plan = p.val then { x with patch := (line, (rangeFrom 0 4).map fun j => u.lastReadLine k r j line) :: x.patch } else x })
    → exec (.cellarEccError k p line kind) s = .next (w.damageRec k (frameTag k n) (u.rectsAtLine c.rgen (u.rd (XPT_IN_STAT_FORMAT k)) line)))

/-- What outputs, cellar admission and the cellar's channels do. A change of carriage, an output frame start, the hold limit, a change of plan, an
  admission request, retry or withdrawal, and a channel's power state complete with the named change of the output, of the admitted loads and of the
  channel. (The spec: 09_video_path_cask_and_cellar.md.) -/
def Obligations.OutputAndAdmissionCommandsComplete : Prop :=
  (∀ (s : State) (d : Fin 4608), s.carriesFrames d = true → s.on (XPT_MAP_RD_POLICY d) = false → (s.outH d).black = false → s.srcPresent (s.rd
    (XPT_MAP_RD_SRC d)) = true → s.carriage (s.rd (XPT_MAP_RD_SRC d)) (s.outPlan d) ≠ (s.on (XPT_MAP_RD_ALIGNED d), s.on (XPT_MAP_RD_CELLAR d)) →
    s.canSupply d (s.rd (XPT_MAP_RD_SRC d)) = true → s.atFrameStart d = false → (s.outH d).since = s.now → (((s.wrB (XPT_MAP_RD_ALIGNED d)
    (s.carriage (s.rd (XPT_MAP_RD_SRC d)) (s.outPlan d)).1).wrB (XPT_MAP_RD_CELLAR d) (s.carriage (s.rd (XPT_MAP_RD_SRC d)) (s.outPlan
    d)).2).atFrameStart d) = false → exec (.carriageChange d) s = .next (((s.wrB (XPT_MAP_RD_ALIGNED d) (s.carriage (s.rd (XPT_MAP_RD_SRC d))
    (s.outPlan d)).1).wrB (XPT_MAP_RD_CELLAR d) (s.carriage (s.rd (XPT_MAP_RD_SRC d)) (s.outPlan d)).2).slipFrame d)) ∧
  (∀ (s : State) (d : Fin 4608), exec (.outputFrameStart d) s = .next (s.startFrame d)) ∧
  (∀ (s : State) (d : Fin 4608), s.on (XPT_MAP_RD_POLICY d) = true → s.rd (XPT_OUT_CFG_LOSS d) = 1 → (s.outH d).holdOver = false → s.rd
    (XPT_OUT_CFG_HOLD_FRAMES d) ≠ 0 → s.rd (XPT_OUT_CFG_HOLD_FRAMES d) ≤ (s.outH d).holds → exec (.holdLimit d) s = .next (s.setOutH d
    { s.outH d with holdOver := true })) ∧
  (∀ (s : State) (d : Fin 4608), s.on (XPT_MAP_RD_COVERED d) = false → (s.outH d).leaving = true → s.on (PLN_STATUS_RUN (s.outPlanSet d)) = true →
    (s.outH d).leftAt ≤ s.refStart (s.outPlanSet d) (s.refFrame (s.outPlanSet d)) → exec (.outputPlanChange d) s = .next (s.joinPlan d)) ∧
  (∀ (s : State) (d : Fin 4608), s.on (XPT_MAP_RD_COVERED d) = false → (s.outH d).leaving = false → s.outPlan d ≠ s.outPlanSet d → s.on
    (PLN_STATUS_RUN (s.outPlan d)) = false → exec (.outputPlanChange d) s = .next (s.leavePlan d)) ∧
  (∀ (s : State) (cls : Fin 5) (id : Fin 4608) (sub : Fin 9), cls = 0 → sub = 0 → exec (.admissionRequest cls id sub) s = .next (s.askCellar id)) ∧
  (∀ (s : State) (cls : Fin 5) (id : Fin 4608) (sub : Fin 9), cls = 3 → exec (.admissionRequest cls id sub) s = .next (s.askSkim id)) ∧
  (∀ (s : State), exec (.admissionRetry) s = .next (s.forL s.waitingOrder fun e u => u.decideLoad true e.1 e.2)) ∧
  (∀ (s : State) (cls : Fin 5) (id : Fin 4608) (sub : Fin 9), cls = 0 → sub = 0 → s.rd (XPT_IN_CFG_MODE id) ≠ 2 → exec (.admissionWithdraw cls id
    sub) s = .next (s.withdrawLoad { cls := 0, id := id })) ∧
  (∀ (s : State) (c : Fin 64), s.on CLR_PM_CFG_PD_EN = true → (s.chanH c).state = 0 → 320 ≤ s.channelIdle c → 130 ≤ s.leastTolerance → exec
    (.channelPowerDown c) s = .next (s.setChannel c 1)) ∧
  (∀ (s : State) (c : Fin 64), s.on CLR_PM_CFG_SR_EN = true → (s.chanH c).state ≠ 2 → 100 * us ≤ s.channelIdle c → 3000 ≤ s.leastTolerance → exec
    (.channelSelfRefresh c) s = .next (s.setChannel c 2)) ∧
  (∀ (s : State) (c : Fin 64), exec (.channelWake c) s = .next (s.setChannel c 0))

/-- What the audio engine's events do. A tick of the audio engine, the end of a crossfade or of a dip, a channel status block, a delay change, a
  generator restart and the events of an I2S port complete with the named change of the channel, destination or port. (The spec:
  10_audio_channels_and_i2s.md.) -/
def Obligations.AudioCommandsComplete : Prop :=
  (∀ (s : State) (master : List (Fin 8 × Nat × Nat)), s.aud.tickAt ≠ none → s.aud.next ≤ s.now → s.carries 83 = true → ∃ u : State, exec
    (.engineTick master) s = .next u.tickDone ∧ u.now = s.now ∧ u.pending = s.pending) ∧
  (∀ (s : State) (master : List (Fin 8 × Nat × Nat)), s.aud.tickAt ≠ none → s.aud.next ≤ s.now → s.carries 83 = false → exec (.engineTick master)
    s = .next (s.tickDone)) ∧
  (∀ (s : State) (a : Fin 49152) (f : FadeH), (s.dstH a).fade = some f → f.ticks ≤ f.done → exec (.crossfadeEnd a) s = .next (s.endFade a)) ∧
  (∀ (s : State) (c : Fin 65536) (b : Nat), (s.srcH c).status = some b → (bit b 0 = false ∨ crccOf b = b / 2 ^ 184 % 256) → c.val < 36864 → exec
    (.channelStatusBlockEnd c) s = .next ((s.setSrcH c { s.srcH c with status := none }).setNonPcm c (bit b 1 || (s.setSrcH c
    { s.srcH c with status := none }).on (AUD_SRC_CFG_FORCE_NONPCM c)))) ∧
  (∀ (s : State) (c : Fin 65536) (b : Nat), (s.srcH c).status = some b → (bit b 0 = true ∧ crccOf b ≠ b / 2 ^ 184 % 256) → exec
    (.channelStatusBlockEnd c) s = .next (s.setSrcH c { s.srcH c with status := none })) ∧
  (∀ (s : State) (c : Fin 49152), exec (.delayChange c) s = .next ((s.startDelay c).updateLtr)) ∧
  (∀ (s : State) (c : Fin 49152) (n d : Nat) (b : Bool), (s.srcH c).dip = some (n, d, b) → 240 ≤ n → exec (.dipEnd c) s = .next (((s.setSrcH c
    { s.srcH c with dip := none }).wr (AUD_SRC_STAT_DIP c) 0).startDelay c)) ∧
  (∀ (s : State) (n : Fin 64), (s.genH n).restart = true → exec (.generatorRestart n) s = .next (s.setGenH n {})) ∧
  (∀ (s : State) (k : Fin 8), s.i2sSlave k = true → s.on (I2S_STAT_QUALIFIED k) = true → (∀ t, (s.i2sH k).wsAt = some t → t + 4 * s.loPeriod k ≤
    s.now) → exec (.i2sLoss k) s = .next (s.i2sLost k)) ∧
  (∀ (s : State) (k : Fin 8) (bclk : Nat), s.i2sSlave k = true → (bclk ≠ s.slotClocks k ∨ s.wsInTime k = false) → (((s.i2sH k).glitches.filter
    (fun t => decide (s.now < t + sec))).length < 2) → s.on (I2S_STAT_QUALIFIED k) = false → exec (.i2sGlitch k bclk) s = .next ((((s.setI2sH k
    { s.i2sH k with glitches := s.now :: (s.i2sH k).glitches.filter (fun t => decide (s.now < t + sec)), clean := some s.now, wsAt := some s.now }).bump
    (I2S_CNT_GLITCHES k)).raise ⟨I2S_EVENT, 8 + k, 1⟩).showFill k)) ∧
  (∀ (s : State) (k : Fin 8) (ppm : Int), s.i2sSlave k = true → (500 < ppm ∨ ppm < -500) → s.on (I2S_STAT_QUALIFIED k) = true → ∃ u : State, exec
    (.i2sRateError k ppm) s = .next (if u.on (I2S_STAT_QUALIFIED k) then u.i2sLost k else u) ∧ u = (s.setI2sH k
    { s.i2sH k with clean := none }).raise (I2S_STAT_RATE_ERR k)) ∧
  (∀ (s : State) (k : Fin 8) (t : Nat), s.i2sSlave k = true → s.on (I2S_STAT_QUALIFIED k) = false → (s.i2sH k).clean = some t → t + 100 * ms ≤
    s.now → exec (.i2sQualified k) s = .next (((s.setI2sH k
    { s.i2sH k with fifo := List.replicate 8 (0, 0), lost := false, ramp := if s.on (I2S_CFG_DIR k) then none else some (true, 0) }).wr
    (I2S_STAT_QUALIFIED k) 1).showFill k))

/-- What received and sent Ethernet frames, status groups and the classifier commands do. A frame, fragment or status received on or sent from a
  packet-mode trellis and a classifier command complete with the named change of the MAC, of its counters and of the classifier. (The spec:
  11_packet_essence_and_network_time.md.) -/
def Obligations.PacketFrameCommandsComplete : Prop :=
  (∀ (s : State) (n : Fin 36) (smd : Fin 256) (bytes : List Nat) (aborted : Bool), exec (.frameReceived n smd bytes aborted) s = .next
    (s.receiveFrame n smd bytes aborted)) ∧
  (∀ (s : State) (n : Fin 36) (smd : Fin 256) (bytes : List Nat) (aborted : Bool), exec (.fragmentReceived n smd bytes aborted) s = .next
    (s.receiveFrame n smd bytes aborted)) ∧
  (∀ (s : State) (n : Fin 36) (arg : Fin 256), s.packetMode n = true → s.carries (engineDomain n) = true → s.rd (TRL_STATUS_RX_STATE n) = 6 → exec
    (.statusReceived n arg) s = .next ((s.wr (PKT_STATUS_RX_CLAIM n) (arg / 128)).wr (PKT_STATUS_RX_SIDE n) (arg / 64))) ∧
  (∀ (s : State) (n : Fin 36) (cut : Option Nat), s.packetMode n = true → s.on (TRL_STATUS_TX_ACTIVE n) = true → s.carries (engineDomain n) = true
    → exec (.frameSent n cut) s = .next ((s.nextFrame n cut).statusGap n)) ∧
  (∀ (s : State) (n : Fin 36), s.packetMode n = true → s.on (TRL_STATUS_TX_ACTIVE n) = true → s.carries (engineDomain n) = true → exec
    (.statusSent n) s = .next (s.sendStatus n)) ∧
  (∀ (s : State) (m : Fin 22), s.Admits m true PKT_CLS_CMD → exec (.classifierWrite m) s = .next (s.classifierWrite)) ∧
  (∀ (s : State) (m : Fin 22), s.Admits m true PKT_CLS_CMD → exec (.classifierRead m) s = .next (s.classifierRead))

/-- What the receive and transmit contexts do. Enabling a context, a packet's deadline, the loss of a leg, the release of a line, a transmit
  context's start and a packet's departure complete with the named change of the context. (The spec: 11_packet_essence_and_network_time.md.) -/
def Obligations.PacketContextCommandsComplete : Prop :=
  (∀ (s : State) (m : Fin 22) (x : Fin 4096) (v : Word), s.Admits m true (PKT_RXC_CFG x) → ∃ u : State, u = s.storeReg m (PKT_RXC_CFG x) (v.toNat
    ||| 1) ∧ exec (.rxContextEnable m x v) s = .next (u.rxcWritten x s)) ∧
  (∀ (s : State) (m : Fin 22) (y : Fin 4096) (v : Word), s.Admits m true (PKT_TXC_CFG y) → ∃ u : State, u = s.storeReg m (PKT_TXC_CFG y) (v.toNat
    ||| 1) ∧ exec (.txContextEnable m y v) s = .next (u.txcWritten y s)) ∧
  (∀ (s : State) (x : Fin 4096) (p : PktH) (rest : List PktH), nextDue (s.rxH x).held = some (p, rest) → p.deadline ≤ (s.now : Int) → s.rd
    (PKT_RXC_CFG_TYPE x) = 1 → exec (.packetDeadline x) s = .next (((s.setRxH x { s.rxH x with held := rest }).bookOut 3 x .delivered 1).useAudio
    x p)) ∧
  (∀ (s : State) (x : Fin 4096) (p : PktH) (rest : List PktH), nextDue (s.rxH x).held = some (p, rest) → p.deadline ≤ (s.now : Int) → s.rd
    (PKT_RXC_CFG_TYPE x) = 0 → exec (.packetDeadline x) s = .next (((s.setRxH x { s.rxH x with held := rest }).bookOut 3 x .delivered 1).useVideo
    x p)) ∧
  (∀ (s : State) (x : Fin 4096) (p : PktH) (rest : List PktH), nextDue (s.rxH x).held = some (p, rest) → p.deadline ≤ (s.now : Int) → 2 ≤ s.rd
    (PKT_RXC_CFG_TYPE x) → exec (.packetDeadline x) s = .next ((s.setRxH x { s.rxH x with held := rest }).useAnc x p)) ∧
  (∀ (s : State) (x : Fin 4096) (leg : Fin 2), leg = 0 → s.on (PKT_RXC_STAT_LEG0 x) = true → (s.rxH x).legAt.1 + s.rd (PKT_RXC_TIME_LOSS_TO x) *
    100 * us ≤ s.now → s.on (PKT_RXC_STAT_LEG1 x) = false → ∃ u : State, u = s.wr (PKT_RXC_STAT_LEG0 x) 0 ∧ exec (.legLoss x leg) s = .next (if
    u.on (PKT_RXC_STAT_LEG0 x) || u.on (PKT_RXC_STAT_LEG1 x) then u else u.rxInputGone x)) ∧
  (∀ (s : State) (x : Fin 4096) (ts line : Nat), s.on (PKT_RXC_STAT_ACTIVE x) = true → s.on (PKT_RXC_STAT_PRESENT x) = true → s.rd
    (PKT_RXC_CFG_TYPE x) = 0 → s.rd (PKT_RXC_CFG_FORMAT x) ≠ 7 → 0 < prfRasterW (s.rd (PKT_RXC_CFG_FORMAT x)) → (s.rxH x).frames = [] → (line ≠ 0
    ∧ line ≤ totalLines (s.rd (PKT_RXC_CFG_FORMAT x))) → (s.rxNominal x ts).1 + (s.playoutUnits x : Nat) + (((line - 1) * (framePeriod (s.rd
    (PKT_RXC_CFG_RATE x)) / totalLines (s.rd (PKT_RXC_CFG_FORMAT x))) : Nat) : Int) ≤ (s.now : Int) → (∃ y ∈ rangeFrom 0 (prfRasterH (s.rd
    (PKT_RXC_CFG_FORMAT x))), pictureLine (s.rd (PKT_RXC_CFG_FORMAT x)) y = line) → exec (.lineRelease x ts line) s = .next ((s.releaseLine x
    { ts := ts } line false).bump (CTN_DMG_COUNT (s.rd (PKT_RXC_BIND_BASE x) / 128)))) ∧
  (∀ (s : State) (y : Fin 4096) (k : Nat), (s.txH y).waiting = some k → k < s.txBoundary y → s.rd (PKT_TXC_CFG_TYPE y) ≠ 1 → ∃ u : State, u =
    (s.setTxH y { taken := true }).wr (PKT_TXC_STAT_ACTIVE y) 1 ∧ exec (.txContextStart y) s = .next ((u.wrB (PKT_TXC_STAT_TS_PTP y) (u.rateLocked
    (u.rd (PKT_TXC_CFG_PTP_SEL y)))).showTxUsed (s.txTrellis y))) ∧
  (∀ (s : State) (y : Fin 4096) (k : Nat) (v : State), s.on (PKT_TXC_STAT_ACTIVE y) = true → v = s.wrB (PKT_TXC_STAT_TS_PTP y) (s.rateLocked (s.rd
    (PKT_TXC_CFG_PTP_SEL y))) → v.rd (PKT_TXC_CFG_TYPE y) = 1 → v.txSamples y ≤ (s.txH y).buf.length → ∃ frame : List Nat, exec (.packetDeparture
    y k) s = .next ((v.setTxH y { s.txH y with buf := (s.txH y).buf.drop (v.txSamples y) }).txQueue (s.txTrellis y) y (s.on (PKT_TXC_CFG_EXPRESS
    y)) frame)) ∧
  (∀ (s : State) (y : Fin 4096) (k : Nat) (v : State), s.on (PKT_TXC_STAT_ACTIVE y) = true → v = s.wrB (PKT_TXC_STAT_TS_PTP y) (s.rateLocked (s.rd
    (PKT_TXC_CFG_PTP_SEL y))) → v.rd (PKT_TXC_CFG_TYPE y) = 0 → v.txCarries (s.rd (PKT_TXC_BIND_BASE y)) = true → v.on (PKT_TXC_CFG_PACER y) =
    true → k < v.txPackets y → ∃ frame : List Nat, exec (.packetDeparture y k) s = .next (v.txQueue (s.txTrellis y) y (s.on (PKT_TXC_CFG_EXPRESS
    y)) frame))

/-- What the PTP instances do at each message and evaluation. Each PTP message that an instance takes, its timeouts and evaluations and its two
  commands complete with the named change of the instance. (The spec: 11_packet_essence_and_network_time.md.) -/
def Obligations.PtpCommandsComplete : Prop :=
  (∀ (s : State) (n : Fin 36) (domain : Fin 256) (port : Nat × Nat) (dataset : List Nat) (mac ip : Nat) (utc : Fin 65536) (log : Fin 12),
    s.ptpTakes n domain = true → ∃ f : Foreign, f.port = port ∧ f.mac = mac ∧ f.ip = ip ∧ f.dataset = dataset ++ [port.1, port.2] ∧ f.times.head?
    = some s.now ∧ exec (.announce n domain port dataset mac ip utc log) s = .next (((s.setPtpH n
    { s.ptpH n with foreign := f :: (s.ptpH n).foreign.filter (fun g => g.port != port), annAt := if (s.ptpH n).chosen = some port then s.now else (s.ptpH n).annAt }).wr
    (PTP_STATUS_UTC_OFFS n) utc).chooseMaster n)) ∧
  (∀ (s : State) (n : Fin 36) (domain : Fin 256) (port : Nat × Nat) (seq : Fin 65536) (twoStep : Bool) (origin corr : Int) (lane : Fin 8),
    s.fromMaster n domain port = true → exec (.sync n domain port seq twoStep origin corr lane) s = .next (if twoStep then s.setPtpH n
    { s.ptpH n with sync := some (seq.val, s.rxStamp n lane, corr + s.rdInt (PTP_ASYM_NS n)) } else s.syncDone n (origin + (corr + s.rdInt
    (PTP_ASYM_NS n))) (s.rxStamp n lane))) ∧
  (∀ (s : State) (n : Fin 36) (domain : Fin 256) (port : Nat × Nat) (seq : Fin 65536) (origin corr : Int) (t2 c : Int), (s.ptpH n).sync = some
    (seq.val, t2, c) → s.fromMaster n domain port = true → exec (.followUp n domain port seq origin corr) s = .next (s.syncDone n (origin + c +
    corr) t2)) ∧
  (∀ (s : State) (n : Fin 36) (f : Foreign), ((s.ptpH n).foreign.find? (fun f => (s.ptpH n).chosen == some f.port) = some f) → (s.rd
    (PTP_STATUS_PORT n) = 2 ∨ s.rd (PTP_STATUS_PORT n) = 3) → (s.ptpH n).dreq = none → ∃ u : State, u = s.setPtpH n
    { s.ptpH n with dreq := some ((s.ptpH n).dreqSeq, s.now, none), dreqSeq := ((s.ptpH n).dreqSeq + 1) % 65536 } ∧ exec (.delayReq n) s = .next
    (u.txQueue n (4128 + n) true (u.delayReqFrame n (s.ptpH n).dreqSeq f))) ∧
  (∀ (s : State) (n : Fin 36) (domain : Fin 256) (port : Nat × Nat) (seq : Fin 65536) (t4 corr : Int) (t : Nat) (t1 t2 t3 : Int), (s.ptpH n).dreq
    = some (seq.val, t, some t3) → (s.ptpH n).pair = some (t1, t2) → s.fromMaster n domain port = true → s.rd (PTP_STATUS_PORT n) = 3 → ∃ h :
    PtpH, h = { s.ptpH n with mpds := (((t2 - t3) + (t4 - t1) - corr) / 2 :: (s.ptpH n).mpds).take 16, dreq := some (seq.val, t, none) } ∧
    ((s.wrInt (PTP_MPD_NS n) h.mpd).rd (PTP_STATUS_PORT n) = 3 → exec (.delayResp n domain port seq t4 corr) s = .next ((s.wrInt (PTP_MPD_NS n)
    h.mpd).setPtpH n h))) ∧
  (∀ (s : State) (n : Fin 36) (p : Nat × Nat) (f : Foreign), (s.ptpH n).chosen = some p → ((s.ptpH n).foreign.find? (fun f => (s.ptpH n).chosen ==
    some f.port) = some f) → (s.ptpH n).annAt + s.rd (PTP_CFG_ANN_TO n) * f.interval ≤ s.now → exec (.announceTimeout n) s = .next ((((s.setPtpH n
    { s.ptpH n with foreign := (s.ptpH n).foreign.filter fun g => g.port != p }).dropMaster n).raise (PTP_EVENT_ANN_TIMEOUT n)).setPort n 1)) ∧
  (∀ (s : State) (n : Fin 36), s.rd (PTP_STATUS_PORT n) = 3 → (s.ptpH n).evalAt + sec ≤ s.now → (s.ptpH n).offs = [] → exec (.servoEvaluation n) s
    = .next (s.setPtpH n { s.ptpH n with evalAt := (s.ptpH n).evalAt + sec })) ∧
  (∀ (s : State) (n : Fin 36), s.rd (PTP_STATUS_PORT n) = 3 → (s.ptpH n).evalAt + sec ≤ s.now → (s.ptpH n).offs ≠ [] → ∃ u : State, exec
    (.servoEvaluation n) s = .next u.ptpChanged ∧ u.now = s.now ∧ u.pending = s.pending) ∧
  (∀ (s : State) (m : Fin 22) (n : Fin 36), s.Admits m true (PTP_CTRL n) → s.rd (PTP_STATUS_SERVO n) = 3 → exec (.accept m n) s = .next (s.setPtpH
    n { s.ptpH n with accept := true })) ∧
  (∀ (s : State) (m : Fin 22) (n : Fin 36), s.Admits m true (PTP_CTRL n) → exec (.ptpRestart m n) s = .next (s.ptpRestart n)) ∧
  (∀ (s : State) (m : Fin 22), s.Admits m false (PTP_DT 0) → ∃ (u : State) (v : Nat), s.getWord m (PTP_DT 0) = (u, v) ∧ exec (.deviceTimeRead m) s
    = .next { u with lastRead := v &&& (2 ^ 32 - 1) }) ∧
  (∀ (s : State) (m : Fin 22) (p : Fin 8), s.Admits m false (PLN_POS_F p) → ∃ (u : State) (v : Nat), s.getWord m (PLN_POS_F p) = (u, v) ∧ exec
    (.planPositionRead m p) s = .next { u with lastRead := v &&& (2 ^ 32 - 1) })

/-- What the multiviewer heads do at their starts, latches, flips and region-push events. A head's start and stop, latch decision, flip, underrun
  and look-up table access, and its region-push tiles, packets and frame ends complete with the named change of the head. (The spec:
  12_multiviewer_heads.md.) -/
def Obligations.HeadCommandsComplete : Prop :=
  (∀ (s : State) (h : Fin 32) (t : Nat), (s.mvhH h).starting = some t → s.carries (51 + h) = true → s.on (PLN_STATUS_RUN (s.headPlan h)) = true →
    t ≤ (s.planH (s.headPlan h)).frameStart (s.frameOf (s.headPlan h)) → ∃ u : State, u = ((s.wr (MVH_STATUS_STATE h) 1).wr (MVH_FRAME_COUNT h) 0)
    ∧ ∃ v : State, v = u.setMvhH h
    { u.mvhH h with starting := none, base := s.frameOf (s.headPlan h), clean := s.frameOf (s.headPlan h) + 2, at_ := s.frameOf (s.headPlan h), decided := none, shown := none, flip := none }
    ∧ exec (.headStart h) s = .next (((if v.headComposes h then v else v.raise (MVH_EVENT_FMT_BAD h)).pushCheck h).showLayers h)) ∧
  (∀ (s : State) (h : Fin 32) (k : Nat), (s.mvhH h).stopping = some k → (s.on (MVH_STATUS_STATE h) = false ∨ k < s.frameOf (s.headPlan h)) → ∃ u :
    State, u = (s.headOff h).setMvhH h { (s.headOff h).mvhH h with stopping := none, pending := none, again := none, held := [] } ∧ exec
    (.headStop h) s = .next ((((u.forN 8 fun j v => (v.unwait { cls := 4, id := h * 8 + j, sub := 1 }).lowerCharge h j 0).wr (MVH_STATUS_PENDING
    h) 0).freeCopies.showAdmission).showLayers h)) ∧
  (∀ (s : State) (h : Fin 32) (t : Nat), s.latchPoint h = some t → s.headRuns h = true → t + 16 * us ≤ s.now → (s.mvhH h).decided ≠ some
    (s.frameOf (s.headPlan h)) → (s.mvhH h).pending = none → (s.mvhH h).again = none → exec (.latchDecision h) s = .next (((s.setMvhH h
    { s.mvhH h with decided := some (s.frameOf (s.headPlan h)) }).takeHeld h).selectFrames h t)) ∧
  (∀ (s : State) (h : Fin 32), s.headRuns h = true → s.on (PLN_STATUS_RUN (s.headPlan h)) = true → (s.mvhH h).at_ < s.frameOf (s.headPlan h) →
    (s.mvhH h).flip = none → ∃ u : State, u = (s.expectedCheck h).forN 8 (fun j v => v.wrB (MVH_LSTAT_UNDERRUN_LAST h j) (bit (s.mvhH h).under j))
    ∧ ∃ v : State, v = u.setMvhH h { u.mvhH h with at_ := s.frameOf (s.headPlan h), under := 0, underAt := [], reads := (s.mvhH h).picks } ∧ exec
    (.flip h) s = .next (((v.wr (MVH_STATUS_STATE h) 2).showHeadFrame h).showLayers h)) ∧
  (∀ (s : State) (h : Fin 32) (j : Fin 8) (l : LayerH), s.headRuns h = true → bit (s.mvhH h).under j = false → (s.mvhH h).shownLayers[j.val]? =
    some l → l.on = true → exec (.underrun h j) s = .next ((((s.setMvhH h
    { s.mvhH h with under := (s.mvhH h).under + 2 ^ j.val, underAt := (j.val, ((s.planH (s.headPlan h)).posAt s.now).line) :: (s.mvhH h).underAt }).bump
    (MVH_CNT_COUNT h 0)).wr (MVH_LSTAT_UNDERRUN_LAST h j) 1).raise (MVH_EVENT_UNDERRUN h))) ∧
  (∀ (s : State) (m : Fin 22) (h : Fin 32) (v : Word), s.Admits m true (MVH_LUT_DATA h) → exec (.lutDataWrite m h v) s = .next (s.lutWrite h
    v.toNat)) ∧
  (∀ (s : State) (m : Fin 22) (h : Fin 32), s.Admits m false (MVH_LUT_DATA h) → ∃ (u : State) (v : Nat), s.getWord m (MVH_LUT_DATA h) = (u, v) ∧
    exec (.lutDataRead m h) s = .next { u with lastRead := v &&& (2 ^ 32 - 1) }) ∧
  (∀ (s : State) (h : Fin 32), s.on (MVH_RP_STAT_ACTIVE h) = true → (s.mvhH h).push.frame = s.frameOf (s.headPlan h) → (s.mvhH h).push.rows <
    (s.raster h).2 / 8 → ∃ (tiles : List (Nat × Nat)) (rects : List RectH), exec (.tileRowComplete h) s = .next ((s.setMvhH h
    { s.mvhH h with push := { (s.mvhH h).push with tiles := tiles, rows := (s.mvhH h).push.rows + 1, todo := (s.mvhH h).push.todo ++ rects } }).writeSurface
    h (s.mvhH h).push.rows) ∧ (∀ r ∈ rects, r.row = (s.mvhH h).push.rows)) ∧
  (∀ (s : State) (h : Fin 32) (r : RectH) (rest : List RectH), (s.mvhH h).push.todo = r :: rest → s.on (MVH_RP_STAT_ACTIVE h) = true → (s.mvhH
    h).push.nextAt ≤ s.now → ∃ (u : State) (bytes : List Nat), exec (.regionPushPacket h) s = .next (u.pushSend h bytes) ∧ (u.mvhH h).push.pkts =
    (s.mvhH h).push.pkts + 1 ∧ u.regs = s.regs) ∧
  (∀ (s : State) (h : Fin 32), s.on (MVH_RP_STAT_ACTIVE h) = true → (s.mvhH h).push.frame < s.frameOf (s.headPlan h) → ∃ (u : State) (q : PushH),
    exec (.regionPushFrameEnd h) s = .next (u.setMvhH h { u.mvhH h with push := q }) ∧ q.frame = s.frameOf (s.headPlan h) ∧ q.rows = 0 ∧ q.todo =
    [] ∧ q.rects = 0 ∧ q.pkts = 0)

/-- What route proof and the ledger do at verdicts, rectangle changes, selections, closes, checks, holds and epochs. A verdict, a rectangle
  generation, a record or unit selection, a close and a check of the books, their hold and release, an epoch's request and start, memory errors and
  a mark read complete with the named change of the verdict registers or the books. (The spec: 13_route_proof_and_ledger.md.) -/
def Obligations.ProofAndLedgerCommandsComplete : Prop :=
  (∀ (s : State) (d : Fin 4608) (f src code reason : Nat) (checks : List Nat) (v w : State), (s.outH d).running = true → (s.outH d).judged = false
    → (s.outH d).masked = false → s.on (XPT_MAP_RD_VALID d) = true → s.on (XPT_MAP_RD_COVERED d) = false → src = s.rd (XPT_MAP_RD_SRC d) → f =
    (s.planH (s.outPlan d)).format → checks = s.outChecks d f → v = s.addRec (8192 + d)
    { tag := (s.outH d).tag, crc := checks, rgen := (s.outH d).rgen, valid := s.rectMask (s.outH d).rgen f, damaged := 0, landLine := (s.outH d).landLine }
    → v.compareFrame d src f checks = (code, reason) → w = ((((((v.setOutH d
    { v.outH d with judged := true, verdict := some ((s.outH d).since, code, (s.outH d).tag) }).proveTakes d (s.outH d).since code (s.outH
    d).tag).wr (PRF_DST_LAST d) code).wr (PRF_DST_REASON d) reason).wr (PRF_DST_TAG d) (s.outH d).tag).bump (PRF_CNT_COUNT 0)).bump (PRF_CNT_COUNT
    code) → exec (.verdict d) s = .next ((if code = 2 then w.raiseArg PRF_EVENT_MISMATCH d else w).moveRun d code (s.outH d).tag)) ∧
  (∀ (s : State) (u : State), s.ldg.rects ≠ [] → s.ldg.rectAt < s.frame0 → u =
    { s with ldg := { s.ldg with rects := [], rgens := (((s.planH 0).frameStart s.frame0, s.ldg.rects) :: s.ldg.rgens).take 4 } } → exec
    (.rgenAdvance) s = .next ((u.wr PRF_STATUS_RGEN (u.rd PRF_STATUS_RGEN + 1)).raise PRF_EVENT_RECT_CHANGE)) ∧
  (∀ (s : State) (m : Fin 22) (v : Word), s.Admits m true PRF_REC_SEL → exec (.recordSelect m v) s = .next ((s.storeReg m PRF_REC_SEL
    v.toNat).loadRecord)) ∧
  (∀ (s : State), s.on (PLN_STATUS_RUN 0) = true → s.ldg.closedAt < s.frame0 → exec (.booksClose) s = .next (s.closeBooks)) ∧
  (∀ (s : State), s.ldg.checked = false → exec (.ledgerCheck) s = .next (s.checkBooks)) ∧
  (∀ (s : State), exec (.ledgerEccError) s = .next (((s.wr LDG_STATUS_VOID 1).raise LDG_STATUS_STORE_ECC).trigger 1)) ∧
  (∀ (s : State) (m : Fin 22), s.Admits m true LDG_CTRL → exec (.epochRequest m) s = .next (s.requestEpoch (if s.stamped m then s.frame0 else
    s.frame0 + 1))) ∧
  (∀ (s : State), (s.ldg.epochs.any (fun f => decide (f ≤ s.frame0)) = true) → s.frame0 ≤ s.ldg.closedAt → exec (.epochStart) s = .next
    (s.startEpoch)) ∧
  (∀ (s : State), (s.ldg.epochs.any (fun f => decide (f ≤ s.frame0)) = true) → s.ldg.closedAt < s.frame0 → exec (.epochStart) s = .next
    (s.closeBooks.startEpoch)) ∧
  (∀ (s : State) (m : Fin 22), s.Admits m true LDG_CTRL → exec (.hold m) s = .next (s.holdBooks)) ∧
  (∀ (s : State) (m : Fin 22), s.Admits m true LDG_CTRL → exec (.release m) s = .next (s.releaseBooks)) ∧
  (∀ (s : State) (m : Fin 22) (v : Word), s.Admits m true LDG_SEL → exec (.ledgerSelect m v) s = .next ((s.storeReg m LDG_SEL
    v.toNat).selectUnit)) ∧
  (∀ (s : State) (m : Fin 22), s.Admits m false LDG_MARK_VAL → ∃ (u : State) (v : Nat), s.getWord m LDG_MARK_VAL = (u, v) ∧ exec (.markRead m) s =
    .next { u with lastRead := v &&& (2 ^ 32 - 1) }) ∧
  (∀ (s : State) (id : Fin 8192) (out : Bool) (age : Fin 8), ∃ k : Nat, k = (if out then 8192 + id.val else id.val) ∧ exec (.proofStoreEccError id
    out age) s = .next ((s.setRecs k ((s.recsOf k).zipIdx.map fun e => if e.2 = age.val then { e.1 with invalid := true } else e.1)).raise
    PRF_STATUS_STORE_ERR)) ∧
  (∀ (s : State), exec (.caskEccError) s = .next (s.trigger 1))

/-- What the mirror port sends, receives and applies. A STATE record sent, each mirror record received with a good CRC, the link going down or up,
  an entry made, released and applied, and a token renewal complete with the named change of the twin's state. (The spec:
  14_twin_failover_and_fabric.md.) -/
def Obligations.MirrorLinkCommandsComplete : Prop :=
  (∀ (s : State) (claimIn : Bool), (s.sampleClaim claimIn).top.inReset = false → (s.sampleClaim claimIn).twinEn = true → (s.sampleClaim
    claimIn).on (PLN_STATUS_RUN 0) = true → (s.sampleClaim claimIn).on (TRL_STATUS_TX_ACTIVE 36) = true → ∃ u v : State, u = (s.sampleClaim
    claimIn).adoptFrames ∧ v = ((u.sendFree 1 u.stateGroups).bookOut 7 36 .delivered u.twn.freed).bookIn 7 36 u.twn.freed ∧ exec (.stateSent
    claimIn) s = .next (if u.twn.resync = 0 then { v with twn := { v.twn with freed := 0, resync := 0, gap := false } } else
    { v with twn := { v.twn with freed := 0, resync := 0, gap := false } }.unsync u.twn.resync)) ∧
  (∀ (s : State) (len crc : Nat) (groups : List Nat), s.top.inReset = false → s.twinEn = true → s.rd (TRL_STATUS_RX_STATE 36) = 6 → mirrorCrcOk
    len crc groups = true → exec (.stateReceived len crc groups) s = .next ((s.takeState groups).adoptFrames)) ∧
  (∀ (s : State), (s.rd (TRL_STATUS_RX_STATE 36) ≠ 6 ∨ s.stateMissing = true) → exec (.mirrorLinkDown) s = .next (s.mirrorDown)) ∧
  (∀ (s : State), s.rd (TRL_STATUS_RX_STATE 36) = 6 → s.stateMissing = false → s.twinEn = true → exec (.mirrorLinkUp) s = .next (s.mirrorUp)) ∧
  (∀ (s : State) (m : Fin 22) (addr len data : Nat), addr < 0x4000000 → s.needsJournal m (accessWords addr len data) = true → exec (.journalEntry
    m addr len data) s = .next (s.busWrite m addr len data)) ∧
  (∀ (s : State), exec (.journalStallRelease) s = .next (s.releaseStalled s.twn.stalled.length)) ∧
  (∀ (s : State) (len crc : Nat) (groups : List Nat), s.top.inReset = false → s.twinEn = true → s.rd (TRL_STATUS_RX_STATE 36) = 6 → mirrorCrcOk
    len crc groups = true → exec (.journalReceived len crc groups) s = .next ((s.takeEntry (entryOf groups)).freeUnits len)) ∧
  (∀ (s : State), s.top.inReset = false → (s.twn.wants = false ∨ s.top.claim = true) → exec (.journalApply) s = .next ((s.applyDue
    s.twn.waiting.length).applyEffects)) ∧
  (∀ (s : State) (len : Nat) (r : Fin 16) (result : Word) (groups : List PlanGroup), (s.freeUnits len).top.inReset = false → (s.freeUnits
    len).top.claim = false → (s.freeUnits len).paired = true → (s.freeUnits len).twn.wants = false → exec (.oprecReceived len r result groups) s =
    .next ((s.freeUnits len).landRecord r result.toNat groups)) ∧
  (∀ (s : State) (len : Nat) (r : Fin 16) (kind : Fin 10) (frame line : Nat) (words : List Nat), (s.freeUnits len).top.inReset = false →
    (s.freeUnits len).top.claim = false → (s.freeUnits len).paired = true → (s.freeUnits len).twn.wants = false → exec (.effectReceived len r kind
    frame line words) s = .next
    ({ s.freeUnits len with twn := { (s.freeUnits len).twn with held := (s.freeUnits len).twn.held ++ [.effect r (wrap32 frame) line kind words] } })) ∧
  (∀ (s : State) (len crc : Nat) (groups : List Nat), s.top.inReset = false → s.twinEn = true → s.rd (TRL_STATUS_RX_STATE 36) = 6 → mirrorCrcOk
    len crc groups = true → exec (.ckptReceived len crc groups) s = .next ((s.wr TWN_PEER_LDG_EPOCH ((groupWords groups).getD 0 0)).setWord
    TWN_PEER_CLOSE (BitVec.ofNat 32 ((groupWords groups).getD 1 0)))) ∧
  (∀ (s : State), s.renews = true → s.on TWN_STATUS_FENCED = false → exec (.tokenRenew) s = .next (s.takeToken))

/-- What the token, fencing, takeover and catch-up do. A lapse of the token, the end of the fence wait, the fence input, a takeover's completion,
  the unfence, solo and catch-up commands, an image's capture, receipt and install complete with the named change of mode, token and twin state.
  (The spec: 14_twin_failover_and_fabric.md.) -/
def Obligations.TakeoverAndCatchupCommandsComplete : Prop :=
  (∀ (s : State), s.holdsToken = true → s.leaseDue 255 = true → s.renews = false → exec (.tokenLapse) s = .next ((s.endLease 255 .dropped).wr
    TWN_STATUS_TOKEN 0)) ∧
  (∀ (s : State) (u v : State), s.holdsToken = false → s.fenceDue = true → (u = s.when (s.on (RCK_LEASE_H_HELD 255)) fun x => x.endLease 255
    .dropped) → v = ((u.wr TWN_STATUS_FENCING 1).emit (.fenceOut true)).raise TWN_EVENT_FENCE_OUT → exec (.tokenLapse) s = .next
    (({ v with twn := { v.twn with fencing := some v.now } } : State).inheritTwin)) ∧
  (∀ (s : State) (t : Nat), s.twn.fencing = some t → t + max 1 (s.rd TWN_CFG_FENCE_WAIT) * us ≤ s.now → s.mode = .standby → s.on TWN_STATUS_FENCED
    = false → ∃ u : State, u = { s with twn := { s.twn with fencing := none } } ∧ exec (.fenceWaitExpiry) s = .next (if u.mode = .standby ∧ !u.on
    TWN_STATUS_FENCED then u.takeOver.sendInherit else u)) ∧
  (∀ (s : State), (s.sampleClaim false).top.inReset = false → (s.sampleClaim false).twinEn = true → (s.sampleClaim false).twinHolds = true → exec
    (.claimInLow) s = .next ((s.sampleClaim false).relinquishSeen)) ∧
  (∀ (s : State), s.on TWN_STATUS_FENCED = false → s.top.inReset = false → (s.mode = .active ∨ s.mode = .takeover) → ∃ u : State, u = (((s.wr
    TWN_STATUS_FENCED 1).raise TWN_EVENT_FENCE_IN).setClaim false).forN 36 (fun n v => v.stopTx n true) ∧ (u.mode = .active ∨ u.mode = .takeover →
    exec (.fenceIn) s = .next ((((u.releaseToken).enterMode .standby 3).haltAll).diverge))) ∧
  (∀ (s : State), s.mode = .takeover → (wrap32 (s.pos 0).frame ≠ s.rd TOP_MODE_TSF_FRAME ∨ (s.pos 0).line ≠ s.rd TOP_MODE_TSL_LINE) → ∃ u : State,
    u = (s.enterMode .active 3).takeToken ∧ exec (.takeoverComplete) s = .next ((u.forL (indicesWhere 16 fun r => bit (u.rd TWN_STATUS_UNSYNCED) r
    && u.on (RCK_CFG_AUTOSTART r)) fun r v => v.requestRacker r 1).sendInherit)) ∧
  (∀ (s : State) (m : Fin 22), s.Admits m true TWN_CTRL → s.on TWN_STATUS_FENCING = true → exec (.unfence m) s = .next ((s.wr TWN_STATUS_FENCING
    0).emit (.fenceOut false))) ∧
  (∀ (s : State) (m : Fin 22), s.Admits m true TWN_CTRL → s.on TWN_STATUS_FENCING = false → exec (.unfence m) s = .next (s)) ∧
  (∀ (s : State) (m : Fin 22), s.Admits m true TWN_CTRL → s.mode = .active → exec (.goSolo m) s = .next (s.enterMode .solo 2)) ∧
  (∀ (s : State) (m : Option (Fin 22)), m = none → s.top.inReset = false → exec (.catchup m) s = .next (s.takeCatchup)) ∧
  (∀ (s : State) (f : Nat), s.twn.captureAt = some f → f ≤ s.frame0 → s.top.claim = true → s.dueEntry = none → exec (.catchupCapture) s = .next
    (s.sendCapture)) ∧
  (∀ (s : State) (len : Nat) (memory : Option (Fin 16)) (part : Image) (last : Bool), memory = none → (s.freeUnits len).top.inReset = false →
    (s.freeUnits len).top.claim = false → (s.freeUnits len).paired = true → (s.freeUnits len).twn.wants = true → ∃ u : State, u =
    { s.freeUnits len with twn := { (s.freeUnits len).twn with image := some (((s.freeUnits len).twn.image.getD {}).append part) } } ∧ exec
    (.imageReceived len memory part last) s = .next (if last then { u with twn := { u.twn with whole := some u.frame0 } } else u)) ∧
  (∀ (s : State) (f w : Nat) (img : Image), s.twn.stamp = some f → s.twn.whole = some w → s.twn.image = some img → s.top.claim = false →
    s.twn.wants = true → w < f → f ≤ s.frame0 → exec (.catchupInstall) s = .next (s.install img f)) ∧
  (∀ (s : State), s.on TWN_STATUS_FENCED = true → s.top.inReset = false → ∃ u : State, u = (s.wr TWN_STATUS_FENCED 0).setClaim (s.wr
    TWN_STATUS_FENCED 0).claimOfMode ∧ exec (.fenceInReleased) s = .next (if u.mode = .standby then u.askCatchup else u))

/-- What mail and rings over the mirror port do. A MAIL record that is the next one with room in its channel is delivered, an acknowledgement of the
  message at the head frees its slot, a ring sets the doorbell, and a waiting message is sent, with the named change and nothing else. (The spec:
  14_twin_failover_and_fabric.md, 15_management_mailboxes_and_update.md.) -/
def Obligations.MirrorMailCommandsComplete : Prop :=
  (∀ (s : State) (len crc : Nat) (groups : List Nat), s.top.inReset = false → s.twinEn = true → s.rd (TRL_STATUS_RX_STATE 36) = 6 → mirrorCrcOk
    len crc groups = true → bit (groups.headD 0) 8 = false → bit (groups.headD 0) 9 = false → groups.headD 0 % 32 ≤ 15 → (s.mailH (groups.headD 0
    % 32)).held = [] → (s.mailH (groups.headD 0 % 32)).got = none → s.chanOpen (336 + groups.headD 0 % 32) = true → exec (.mailRecord len crc
    groups) s = .next (s.mailDeliver (groups.headD 0 % 32) (groups.getD 1 0) (mailWords (groups.drop 2)))) ∧
  (∀ (s : State) (len crc : Nat) (groups : List Nat), s.top.inReset = false → s.twinEn = true → s.rd (TRL_STATUS_RX_STATE 36) = 6 → mirrorCrcOk
    len crc groups = true → bit (groups.headD 0) 9 = true → groups.headD 0 % 32 ≤ 15 → (s.mailH (groups.headD 0 % 32)).sent ≠ 0 → (s.mailH
    (groups.headD 0 % 32)).mseq = groups.getD 1 0 → exec (.mailRecordAck len crc groups) s = .next (((s.setMailH (groups.headD 0 % 32)
    { s.mailH (groups.headD 0 % 32) with mseq := ((s.mailH (groups.headD 0 % 32)).mseq + 1) % 2 ^ 16, sent := (s.mailH (groups.headD 0 % 32)).sent - 1 }).freeSlot
    (320 + groups.headD 0 % 32)).freeUnits len)) ∧
  (∀ (s : State) (len crc : Nat) (groups : List Nat), s.top.inReset = false → s.twinEn = true → s.rd (TRL_STATUS_RX_STATE 36) = 6 → mirrorCrcOk
    len crc groups = true → bit (groups.headD 0) 8 = true → groups.headD 0 % 32 ≤ 15 → exec (.ringRecord len crc groups) s = .next ((s.setBells
    (groups.headD 0 % 32) (2 ^ (groups.getD 2 0 % 32))).freeUnits len)) ∧
  (∀ (s : State) (r : Fin 16), s.on TWN_STATUS_LINK = true → (s.mailH r).sent < s.rd (MBX_CH_COUNT (320 + r.val)) → exec (.mirrorMailSend r) s =
    .next ((s.setMailH r { s.mailH r with sent := (s.mailH r).sent + 1 }).sendMirror (mirrorUnits 131) (.mirror 7 ([r.val, ((s.mailH r).mseq +
    (s.mailH r).sent) % 2 ^ 16] ++ ((s.slotWords (320 + r.val) (s.mailH r).sent).map mailGroups).flatten))))

/-- What credits, HELLO, ROUTE, heartbeats, elections and exclusions do. A link-local message received on a trunk that is up, and each event of the
  conductor's election, complete with the named change of credits, neighbours, routes and conductor. (The spec: 14_twin_failover_and_fabric.md.) -/
def Obligations.FabricMembershipCommandsComplete : Prop :=
  (∀ (s : State) (n : Fin 36) (src : Fin 64) (count : Nat), s.trunkUp n = true → s.fab.excluded.contains src.val = false → ∃ u : State, u = s.bump
    (FAB_CNT_COUNT 0) ∧ exec (.credit n src count) s = .next (u.addCredits n count)) ∧
  (∀ (s : State) (n : Fin 36) (addr far twin : Fin 64) (mode : Fin 16) (inc : Nat), s.on FAB_CFG_EN = true → s.trunk n = true → addr.val =
    s.fabAddr → exec (.hello n addr far twin mode inc) s = .next
    ({ s.wr FAB_STATUS_ADDR_CONFLICT 1 with fab := { s.fab with conflict := if s.fab.conflict.contains n.val then s.fab.conflict else s.fab.conflict ++ [n.val] } })) ∧
  (∀ (s : State) (n : Fin 36) (addr far twin : Fin 64) (mode : Fin 16) (inc : Nat), s.trunkUp n = true → addr.val ≠ s.fabAddr → ((s.bump
    (FAB_CNT_COUNT 0)).returnCredit n).fab.excluded = [] → ((s.bump (FAB_CNT_COUNT 0)).returnCredit n).fab.neigh = [] → ∃ t : State, exec (.hello
    n addr far twin mode inc) s = .next t ∧ t.fab.neigh =
    [{ trunk := n, addr := addr, far := far, twin := twin, mode := mode, inc := wrap32 inc, count := 1, at_ := s.now }] ∧ pairGet t.fab.twins
    addr.val = some twin.val) ∧
  (∀ (s : State) (n : Fin 36) (src : Fin 64) (entries : List (Fin 64 × Fin 4 × Fin 16)) (near : List (Fin 64 × Fin 64)), s.trunkUp n = true →
    ((s.bump (FAB_CNT_COUNT 0)).returnCredit n).fab.excluded.contains src.val = false → entries = [] → ∃ u : State, u =
    { ((s.bump (FAB_CNT_COUNT 0)).returnCredit n) with fab := { ((s.bump (FAB_CNT_COUNT 0)).returnCredit n).fab with links := ((s.bump (FAB_CNT_COUNT 0)).returnCredit n).fab.links.filter (fun (e : Nat × Nat × Nat) => e.1 != src.val) ++ near.map fun (e : Fin 64 × Fin 64) => (src.val, e.1.val, e.2.val) } }
    ∧ exec (.route n src entries near) s = .next (u.trackReach.sendStuck)) ∧
  (∀ (s : State) (a : Fin 32), s.on (FAB_ROUTE_VALID a) = true → (pairGet s.fab.fresh a.val).getD 0 + 3 ≤ s.frame0 → 1 + s.rd FAB_CFG_HB_LINES ≤
    (s.pos 0).line → exec (.routeExpiry a) s = .next ((s.dropEntry a).routesChanged)) ∧
  (∀ (s : State) (n : Fin 36) (dest src : Fin 64) (hops : Fin 4) (term : Fin 65536) (frame digest : Nat) (excluded : List (Fin 32)) (phase : Int),
    s.trunkUp n = true → ((s.bump (FAB_CNT_COUNT 0)).returnCredit n).fab.excluded.contains src.val = false → (dest.val = linkLocal ∨ dest.val =
    ((s.bump (FAB_CNT_COUNT 0)).returnCredit n).fabAddr) → ((s.bump (FAB_CNT_COUNT 0)).returnCredit n).isMember = true → src.val = ((s.bump
    (FAB_CNT_COUNT 0)).returnCredit n).fabBoundary.rd FAB_STATUS_CONDUCTOR → ∃ u : State, u =
    ({ ((s.bump (FAB_CNT_COUNT 0)).returnCredit n).fabBoundary with fab := { ((s.bump (FAB_CNT_COUNT 0)).returnCredit n).fabBoundary.fab with maxTerm := max ((s.bump (FAB_CNT_COUNT 0)).returnCredit n).fabBoundary.fab.maxTerm term.val } }).wr
    FAB_STATUS_TERM term ∧ ∃ w : State, w = (({ u with fab := { u.fab with beat := u.frame0, trigger := false } }.compareFrames (wrap32 frame)
    phase).forL excluded fun a x => x.exclude a).sendInherit ∧ exec (.heartbeat n dest src hops term frame digest excluded phase) s = .next ((if
    digest ≠ w.leaseDigest then w.tell 0x10 src [0] else w).endIsolation)) ∧
  (∀ (s : State), s.isMember = true → (s.rd FAB_STATUS_CONDUCTOR ≠ linkLocal ∧ s.rd FAB_STATUS_CONDUCTOR ≠ s.fabAddr) → s.fab.beat + 3 ≤ s.frame0
    → 1 + s.rd FAB_CFG_HB_LINES ≤ (s.pos 0).line → exec (.heartbeatMissed) s = .next ({ s with fab := { s.fab with trigger := true } })) ∧
  (∀ (s : State), exec (.election) s = .next (s.fabBoundary)) ∧
  (∀ (s : State) (a : Fin 32) (f : Nat), pairGet s.fab.lost a.val = some f → s.rd FAB_STATUS_CONDUCTOR = s.fabAddr → f + 3 ≤ s.frame0 → exec
    (.exclude a) s = .next (s.exclude a))

/-- What leases, feeds, records, audio and mail over the fabric do. Each message of a lease, a feed, a selection, a proof record, audio or mail
  received for this device on a trunk that is up, and a mail message that waits to be sent, complete with the named change. (The spec:
  14_twin_failover_and_fabric.md.) -/
def Obligations.FabricLeaseAndMediaCommandsComplete : Prop :=
  (∀ (s : State) (n : Fin 36) (dest src : Fin 64) (hops : Fin 4) (k : Fin 256) (dur prio index : Nat) (free : Bool) (srcDev slots : Fin 64) (q :
    State × Nat × Nat), s.trunkUp n = true → ((s.bump (FAB_CNT_COUNT 0)).returnCredit n).fab.excluded.contains src.val = false → (dest.val =
    linkLocal ∨ dest.val = ((s.bump (FAB_CNT_COUNT 0)).returnCredit n).fabAddr) → ((s.bump (FAB_CNT_COUNT 0)).returnCredit n).rd
    FAB_STATUS_CONDUCTOR = ((s.bump (FAB_CNT_COUNT 0)).returnCredit n).fabAddr → q = ((s.bump (FAB_CNT_COUNT 0)).returnCredit n).decideRequest
    { addr := src, index := index, prio := prio, id := k, dur := dur, free := free, srcDev := srcDev, slots := slots } → exec (.leaseReq n dest
    src hops k dur prio index free srcDev slots) s = .next (q.1.tell 6 src [k.val, q.2.1, q.2.2])) ∧
  (∀ (s : State) (n : Fin 36) (dest src : Fin 64) (hops : Fin 4) (k : Fin 256) (status : Fin 4) (e : Nat), s.trunkUp n = true → ((s.bump
    (FAB_CNT_COUNT 0)).returnCredit n).fab.excluded.contains src.val = false → (dest.val = linkLocal ∨ dest.val = ((s.bump (FAB_CNT_COUNT
    0)).returnCredit n).fabAddr) → exec (.leaseAns n dest src hops k status e) s = .next (((s.bump (FAB_CNT_COUNT 0)).returnCredit n).arrive
    (arrivalWords 6 src [k, status, wrap32 e]))) ∧
  (∀ (s : State) (n : Fin 36) (dest src : Fin 64) (hops : Fin 4) (k : Fin 224) (addr : Fin 64) (index : Fin 32) (e : Nat) (runs : List HopH),
    s.trunkUp n = true → ((s.bump (FAB_CNT_COUNT 0)).returnCredit n).fab.excluded.contains src.val = false → (dest.val = linkLocal ∨ dest.val =
    ((s.bump (FAB_CNT_COUNT 0)).returnCredit n).fabAddr) → 96 ≤ k.val → exec (.leaseUpd n dest src hops k addr index e runs) s = .next (((s.bump
    (FAB_CNT_COUNT 0)).returnCredit n).arrive (arrivalWords 7 src ([k.val, addr.val, index.val, wrap32 e] ++ hopWords runs)))) ∧
  (∀ (s : State) (n : Fin 36) (dest src : Fin 64) (hops : Fin 4) (copy : Option (List (Fin 224 × Fin 64 × Fin 32 × Nat))), s.trunkUp n = true →
    ((s.bump (FAB_CNT_COUNT 0)).returnCredit n).fab.excluded.contains src.val = false → (dest.val = linkLocal ∨ dest.val = ((s.bump (FAB_CNT_COUNT
    0)).returnCredit n).fabAddr) → copy = none → ((s.bump (FAB_CNT_COUNT 0)).returnCredit n).rd FAB_STATUS_CONDUCTOR = ((s.bump (FAB_CNT_COUNT
    0)).returnCredit n).fabAddr → exec (.leaseSync n dest src hops copy) s = .next (((s.bump (FAB_CNT_COUNT 0)).returnCredit n).tell 0x10 src (1
    :: (((rangeFrom 96 128).filterMap fun k => (((s.bump (FAB_CNT_COUNT 0)).returnCredit n).fabHolder k).map fun h => [k, h.1, h.2, ((s.bump
    (FAB_CNT_COUNT 0)).returnCredit n).rd (RCK_LEASE_E_EXPIRY k)])).flatten))) ∧
  (∀ (s : State) (n : Fin 36) (dest src : Fin 64) (hops : Fin 4) (failed : Fin 64), s.trunkUp n = true → ((s.bump (FAB_CNT_COUNT 0)).returnCredit
    n).fab.excluded.contains src.val = false → (dest.val = linkLocal ∨ dest.val = ((s.bump (FAB_CNT_COUNT 0)).returnCredit n).fabAddr) → ((s.bump
    (FAB_CNT_COUNT 0)).returnCredit n).rd FAB_STATUS_CONDUCTOR = ((s.bump (FAB_CNT_COUNT 0)).returnCredit n).fabAddr → exec (.inherit n dest src
    hops failed) s = .next (((s.bump (FAB_CNT_COUNT 0)).returnCredit n).inheritLeases failed src)) ∧
  (∀ (s : State) (n : Fin 36) (dest src : Fin 64) (hops : Fin 4) (k : Fin 96) (run : RunH), s.trunkUp n = true → ((s.bump (FAB_CNT_COUNT
    0)).returnCredit n).fab.excluded.contains src.val = false → (dest.val = linkLocal ∨ dest.val = ((s.bump (FAB_CNT_COUNT 0)).returnCredit
    n).fabAddr) → exec (.feed n dest src hops k run) s = .next (((s.bump (FAB_CNT_COUNT 0)).returnCredit n).takeFeed k run)) ∧
  (∀ (s : State) (n : Fin 36) (dest src : Fin 64) (hops : Fin 4) (k : Fin 96) (ch : Fin 128) (idv : Fin 8192), s.trunkUp n = true → ((s.bump
    (FAB_CNT_COUNT 0)).returnCredit n).fab.excluded.contains src.val = false → (dest.val = linkLocal ∨ dest.val = ((s.bump (FAB_CNT_COUNT
    0)).returnCredit n).fabAddr) → exec (.select n dest src hops k ch idv) s = .next ((((s.bump (FAB_CNT_COUNT 0)).returnCredit n).takeSelect k ch
    idv).1.tell 0x0B src [ch.val, (((s.bump (FAB_CNT_COUNT 0)).returnCredit n).takeSelect k ch idv).2.getD 0xFF])) ∧
  (∀ (s : State) (n : Fin 36) (dest src : Fin 64) (hops : Fin 4) (ch : Fin 128) (width : Option (Fin 4)), s.trunkUp n = true → ((s.bump
    (FAB_CNT_COUNT 0)).returnCredit n).fab.excluded.contains src.val = false → (dest.val = linkLocal ∨ dest.val = ((s.bump (FAB_CNT_COUNT
    0)).returnCredit n).fabAddr) → exec (.selectAck n dest src hops ch width) s = .next (((s.bump (FAB_CNT_COUNT 0)).returnCredit n).arrive
    (arrivalWords 0x0B src [ch.val, match width with | some w => w.val | none => 0xFF]))) ∧
  (∀ (s : State) (n : Fin 36) (dest src : Fin 64) (hops : Fin 4) (ch : Fin 128) (tag rgen digest : Nat) (checks : List Nat) (valid damaged : Fin
    16) (k : Nat), s.trunkUp n = true → ((s.bump (FAB_CNT_COUNT 0)).returnCredit n).fab.excluded.contains src.val = false → (dest.val = linkLocal
    ∨ dest.val = ((s.bump (FAB_CNT_COUNT 0)).returnCredit n).fabAddr) → ((s.bump (FAB_CNT_COUNT 0)).returnCredit n).rmapOf src ch 2 = [k] → ∃ t :
    State, exec (.record n dest src hops ch tag rgen digest checks valid damaged) s = .next t ∧ t.fab.digest = if digest = Config.rectDigest
    (((rangeFrom 0 8).map fun f => ((rangeFrom 0 4).map fun k => [(((s.bump (FAB_CNT_COUNT 0)).returnCredit n).rectWord (PRF_RPOS f k)).toNat,
    (((s.bump (FAB_CNT_COUNT 0)).returnCredit n).rectWord (PRF_RSIZE f k)).toNat]).flatten).flatten) then ((s.bump (FAB_CNT_COUNT 0)).returnCredit
    n).fab.digest.filter (· != 4768 + k) else ((s.bump (FAB_CNT_COUNT 0)).returnCredit n).fab.digest.filter (· != 4768 + k) ++ [4768 + k]) ∧
  (∀ (s : State) (n : Fin 36) (dest src : Fin 64) (hops : Fin 4) (k : Fin 768) (ticks : List (List Nat)), s.trunkUp n = true → ((s.bump
    (FAB_CNT_COUNT 0)).returnCredit n).fab.excluded.contains src.val = false → (dest.val = linkLocal ∨ dest.val = ((s.bump (FAB_CNT_COUNT
    0)).returnCredit n).fabAddr) → ((s.bump (FAB_CNT_COUNT 0)).returnCredit n).on (FAB_AMAP_VALID k) = true → ((s.bump (FAB_CNT_COUNT
    0)).returnCredit n).rd (FAB_AMAP_SRC_DEV k) = src.val → ∃ frames : List (List (Nat × Nat)), frames = (((s.bump (FAB_CNT_COUNT 0)).returnCredit
    n).elastic (8192 + k)).frames ++ ticks.map (fun t => (rangeFrom 0 16).map fun j => (53248 + 16 * k.val + j, t.getD j 0)) ∧ exec (.audio n dest
    src hops k ticks) s = .next (((s.bump (FAB_CNT_COUNT 0)).returnCredit n).setElastic (8192 + k)
    { ((s.bump (FAB_CNT_COUNT 0)).returnCredit n).elastic (8192 + k) with frames := frames.drop (frames.length - 128) })) ∧
  (∀ (s : State) (n : Fin 36) (dest src : Fin 64) (hops : Fin 4) (q : Fin 16) (code : Fin 65536) (words : List Nat), s.trunkUp n = true → ((s.bump
    (FAB_CNT_COUNT 0)).returnCredit n).fab.excluded.contains src.val = false → (dest.val = linkLocal ∨ dest.val = ((s.bump (FAB_CNT_COUNT
    0)).returnCredit n).fabAddr) → exec (.mail n dest src hops q code words) s = .next (((s.bump (FAB_CNT_COUNT 0)).returnCredit n).arrive
    (arrivalWords 0x0E src ([q.val, code.val] ++ words)))) ∧
  (∀ (s : State) (n : Fin 36) (dest src : Fin 64) (hops : Fin 4) (q : Fin 16) (code : Fin 65536), s.trunkUp n = true → ((s.bump (FAB_CNT_COUNT
    0)).returnCredit n).fab.excluded.contains src.val = false → (dest.val = linkLocal ∨ dest.val = ((s.bump (FAB_CNT_COUNT 0)).returnCredit
    n).fabAddr) → (((s.bump (FAB_CNT_COUNT 0)).returnCredit n).mailH (code.val % 16)).away ≠ 0 → (((s.bump (FAB_CNT_COUNT 0)).returnCredit
    n).mailDone (code.val % 16)).journals = false → exec (.mailAck n dest src hops q code) s = .next (((s.bump (FAB_CNT_COUNT 0)).returnCredit
    n).mailDone (code.val % 16))) ∧
  (∀ (s : State) (r : Fin 16), s.speaks = true → (s.mailH r).away < s.rd (MBX_CH_COUNT (352 + r.val)) → s.reaches ((s.chnH (352 +
    r.val)).codes.getD ((s.rd (MBX_CH_RD (352 + r.val)) + (s.mailH r).away) % 8) 0 / 2 ^ 8 % 64) = true → ∃ code : Nat, code = (s.chnH (352 +
    r.val)).codes.getD ((s.rd (MBX_CH_RD (352 + r.val)) + (s.mailH r).away) % 8) 0 ∧ ∃ u : State, u = s.setMailH r
    { s.mailH r with away := (s.mailH r).away + 1 } ∧ exec (.fabricMailSend r) s = .next (u.tell 0x0E (code / 2 ^ 8 % 64) ([code % 16, r.val +
    u.fabAddr * 2 ^ 8] ++ u.slotWords (352 + r.val) (s.mailH r).away)))

/-- What the management controller's crashes, boot, sensors and log do. A watchdog expiry, a core fault, a restart, a boot, a sensor update, an
  alarm's rise and fall and a log flush complete with the named change of the controller, of its sensors and of its log. (The spec:
  15_management_mailboxes_and_update.md.) -/
def Obligations.ManagementCommandsComplete : Prop :=
  (∀ (s : State), s.mgtRuns = true → exec (.watchdogExpiry) s = .next (s.mgtCrash 1)) ∧
  (∀ (s : State), s.mgtRuns = true → exec (.coreFault) s = .next (s.mgtCrash 2)) ∧
  (∀ (s : State) (m : Fin 22), s.Admits m true MGT_CTRL → exec (.mgtCtrlRestart m) s = .next (s.mgtRestart)) ∧
  (∀ (s : State) (store : List Nat) (dropped : Bool) (other : List (Nat × List (Nat × Nat))), s.top.inReset = false → bit s.top.reached 1 = true →
    (s.rd MGT_STATUS_STATE = 0 ∨ s.rd MGT_STATUS_STATE = 3) → exec (.boot store dropped other) s = .next (s.startImage (s.bootSlot.getD 0) store
    dropped other) ∧ s.bootSlot ≠ none ∨ exec (.boot store dropped other) s = .next (s.wr MGT_STATUS_STATE 2) ∧ s.bootSlot = none) ∧
  (∀ (s : State) (k : Fin 64) (reading : Option Int), k.val ≠ 39 → reading = none → ∃ u : State, u = s.setSensH k { failed := true } ∧ exec
    (.sensorUpdate k reading) s = .next ((u.wrB (MGT_SENS_VALID k) false).trackCool)) ∧
  (∀ (s : State) (k : Fin 64) (reading : Option Int) (v : Int), k.val ≠ 39 → reading = some v → ∃ (u : State) (h : SensH), u = (s.wrInt
    (MGT_SENS_VALUE k) v).wr (MGT_SENS_WHERE k) 0 ∧ h = (if s.sensorLive k then
    { low := if u.rdInt (MGT_THR_LO k) ≠ -32768 ∧ u.rdInt (MGT_SENS_VALUE k) < u.rdInt (MGT_THR_LO k) then (u.sensH k).low + 1 else 0, high := if u.rdInt (MGT_THR_HI k) ≠ 32767 ∧ u.rdInt (MGT_THR_HI k) < u.rdInt (MGT_SENS_VALUE k) then (u.sensH k).high + 1 else 0, clear := if (u.rdInt (MGT_THR_LO k) = -32768 ∨ u.rdInt (MGT_THR_LO k) + 8 ≤ u.rdInt (MGT_SENS_VALUE k)) ∧ (u.rdInt (MGT_THR_HI k) = 32767 ∨ u.rdInt (MGT_SENS_VALUE k) ≤ u.rdInt (MGT_THR_HI k) - 8) then (u.sensH k).clear + 1 else 0 }
    else {}) ∧ exec (.sensorUpdate k reading) s = .next (((u.setSensH k h).wrB (MGT_SENS_VALID k) (s.sensorLive k)).trackCool)) ∧
  (∀ (s : State) (k : Fin 64), (s.sensH k).failed = false → s.on (MGT_SENS_VALID k) = true → (s.sensH k).low < 3 → 3 ≤ (s.sensH k).high → exec
    (.alarmRaise k) s = .next (s.alarmRise k (MGT_SENS_ALM_HI k))) ∧
  (∀ (s : State) (k : Fin 64), 3 ≤ (s.sensH k).clear → (s.on (MGT_SENS_ALM_LO k) = true ∨ s.on (MGT_SENS_ALM_HI k) = true) → exec (.alarmClear k)
    s = .next ((((s.wr (MGT_SENS_ALM_LO k) 0).wr (MGT_SENS_ALM_HI k) 0).capture 0x3A (eventOf 3 k) k).trackHealth)) ∧
  (∀ (s : State) (error : Bool) (r : LogRec) (l : List LogRec), s.log = r :: l → s.mgtRuns = true → s.deviceNs ≤ r.dtNs + 1000000000 → error =
    false → exec (.logFlush error) s = .next (({ s with log := l } : State).norRecord 0 r))

/-- What the management command frames do. Each command frame of the management controller, where it runs, may reply, is not verifying and allows
  the command, with arguments that the spec admits, takes the frame, has its effect and replies DONE with its results. (The spec:
  15_management_mailboxes_and_update.md.) -/
def Obligations.ManagementReadCommandsComplete : Prop :=
  (∀ (s : State) (c : Nat) (w : List Nat) (mac : Nat), s.command = some (c, w, mac) → s.mgtRuns = true → s.replyOpen c = true → w.getD 0 0 % 256 =
    0x20 → (s.takeCommand c).rd UPD_STATUS_STATE ≠ 2 → (s.takeCommand c).allowed c 0x20 = true → (w.getD 3 0 ≠ 0 ∧ w.getD 3 0 ≤ 60 ∧ w.getD 2 0 +
    w.getD 3 0 ≤ 64) → exec (.sensorRead) s = .next ((s.takeCommand c).reply c mac 0x20 (w.getD 1 0) 0 ((rangeFrom (w.getD 2 0) (w.getD 3 0)).map
    fun k => ((s.takeCommand c).word (MGT_SENS k)).toNat))) ∧
  (∀ (s : State) (c : Nat) (w : List Nat) (mac : Nat), s.command = some (c, w, mac) → s.mgtRuns = true → s.replyOpen c = true → w.getD 0 0 % 256 =
    0x21 → (s.takeCommand c).rd UPD_STATUS_STATE ≠ 2 → (s.takeCommand c).allowed c 0x21 = true → w.getD 2 0 ≤ 63 → exec (.threshSet) s = .next
    ((((s.takeCommand c).wr (MGT_THR_LO (w.getD 2 0)) (w.getD 3 0)).wr (MGT_THR_HI (w.getD 2 0)) (w.getD 4 0)).reply c mac 0x21 (w.getD 1 0) 0
    [])) ∧
  (∀ (s : State) (c : Nat) (w : List Nat) (mac : Nat), s.command = some (c, w, mac) → s.mgtRuns = true → s.replyOpen c = true → w.getD 0 0 % 256 =
    0x22 → (s.takeCommand c).rd UPD_STATUS_STATE ≠ 2 → (s.takeCommand c).allowed c 0x22 = true → (w.getD 3 0 ≠ 0 ∧ w.getD 3 0 ≤ 7) → exec
    (.logRead) s = .next ((s.takeCommand c).reply c mac 0x22 (w.getD 1 0) 0 (((s.takeCommand c).nor.log.filter fun e => decide (wrap32 (e.seq + 2
    ^ 32 - w.getD 2 0) < w.getD 3 0)).flatMap fun e => bytesWords e.bytes))) ∧
  (∀ (s : State) (c : Nat) (w : List Nat) (mac : Nat) (x : List Nat), s.command = some (c, w, mac) → s.mgtRuns = true → s.replyOpen c = true →
    w.getD 0 0 % 256 = 0x23 → (s.takeCommand c).rd UPD_STATUS_STATE ≠ 2 → (s.takeCommand c).allowed c 0x23 = true → (storeList (s.takeCommand
    c).nor.store)[w.getD 2 0]? = some x → w.getD 3 0 < x.length → exec (.storeRead) s = .next ((s.takeCommand c).reply c mac 0x23 (w.getD 1 0) 0
    (bytesWords ((x.drop (w.getD 3 0)).take 224)))) ∧
  (∀ (s : State) (c : Nat) (w : List Nat) (mac : Nat) (bytes : List Nat) (fail : Bool), s.command = some (c, w, mac) → s.mgtRuns = true →
    s.replyOpen c = true → w.getD 0 0 % 256 = 0x24 → (s.takeCommand c).rd UPD_STATUS_STATE ≠ 2 → (s.takeCommand c).allowed c 0x24 = true → fail =
    false → w.getD 4 0 ≤ 4 * 2 ^ 20 → ((bytes.take (w.getD 4 0)).map (· % 256)).length = w.getD 4 0 → ((storeList ((bytes.take (w.getD 4 0)).map
    (· % 256))).map List.length).foldl (· + ·) 0 = w.getD 4 0 → (storeList ((bytes.take (w.getD 4 0)).map (· % 256))).all recordGood = true → exec
    (.storeLoad bytes fail) s = .next
    (({ (s.takeCommand c) with nor := { (s.takeCommand c).nor with before := (s.takeCommand c).nor.store, store := (bytes.take (w.getD 4 0)).map (· % 256) } }
    : State).reply c mac 0x24 (w.getD 1 0) 0 [])) ∧
  (∀ (s : State) (c : Nat) (w : List Nat) (mac : Nat), s.command = some (c, w, mac) → s.mgtRuns = true → s.replyOpen c = true → w.getD 0 0 % 256 =
    0x25 → (s.takeCommand c).rd UPD_STATUS_STATE ≠ 2 → (s.takeCommand c).allowed c 0x25 = true → (w.getD 3 0 ≠ 0 ∧ w.getD 3 0 ≤ 224 ∧ w.getD 2 0 +
    w.getD 3 0 ≤ 2048) → exec (.otpRead) s = .next ((s.takeCommand c).reply c mac 0x25 (w.getD 1 0) 0 (bytesWords ((rangeFrom (w.getD 2 0) (w.getD
    3 0)).map fun k => (s.takeCommand c).otpByte k)))) ∧
  (∀ (s : State) (c : Nat) (w : List Nat) (mac : Nat) (bytes : List Nat) (fail : Bool) (stuck : List (Fin 16384)) (l : List Nat) (b : Nat),
    s.command = some (c, w, mac) → s.mgtRuns = true → s.replyOpen c = true → w.getD 0 0 % 256 = 0x26 → (s.takeCommand c).rd UPD_STATUS_STATE ≠ 2 →
    (s.takeCommand c).allowed c 0x26 = true → (l = (rangeFrom 0 384).map fun k => bytes.getD k 0 % 256) → w.getD 4 0 = b → b ≤ 3 → fail = false →
    bankGood l = true → ((s.takeCommand c).bootBank b).any (· != 0) = false → ((s.takeCommand c).blow (otpBits (0x200 + 384 * b) l) (stuck.map
    (·.val))).2 = true → exec (.otpBankWrite bytes fail stuck) s = .next ((((s.takeCommand c).blow (otpBits (0x200 + 384 * b) l) (stuck.map
    (·.val))).1.logOtp 0x26 (0x200 + 384 * b)).reply c mac 0x26 (w.getD 1 0) 0 [])) ∧
  (∀ (s : State) (c : Nat) (w : List Nat) (mac : Nat) (stuck : List (Fin 16384)) (l : List Nat), s.command = some (c, w, mac) → s.mgtRuns = true →
    s.replyOpen c = true → w.getD 0 0 % 256 = 0x27 → (s.takeCommand c).rd UPD_STATUS_STATE ≠ 2 → (s.takeCommand c).allowed c 0x27 = true → l =
    (argBytes w).take 16 → (l.drop 13).any (· != 0) = false → l.getD 12 0 &&& 0xE1 = 0 → (((rangeFrom 0xE4 12).any fun a => (s.takeCommand
    c).otpByte a != 0) = false) → ((s.takeCommand c).blow (otpBits 0xE4 (l.take 12) ++ otpBits 0xC1 [l.getD 12 0]) (stuck.map (·.val))).2 = true →
    exec (.otpBoardWrite stuck) s = .next ((((s.takeCommand c).blow (otpBits 0xE4 (l.take 12) ++ otpBits 0xC1 [l.getD 12 0]) (stuck.map
    (·.val))).1.logOtp 0x27 (if (l.take 12).any (· != 0) = true then 0xE4 else 0xC1)).reply c mac 0x27 (w.getD 1 0) 0 [])) ∧
  (∀ (s : State) (c : Nat) (w : List Nat) (mac : Nat) (stuck : List (Fin 16384)) (k : Nat), s.command = some (c, w, mac) → s.mgtRuns = true →
    s.replyOpen c = true → w.getD 0 0 % 256 = 0x37 → (s.takeCommand c).rd UPD_STATUS_STATE ≠ 2 → (s.takeCommand c).allowed c 0x37 = true → w.getD
    2 0 = k → (1 ≤ k ∧ k ≤ 3) → bit ((s.takeCommand c).otpByte 0xC0) k = false → ((s.takeCommand c).blow (otpBits (48 * k) ((argBytes w).drop 4
    |>.take 48) ++ [8 * 0xC0 + k]) (stuck.map (·.val))).2 = true → exec (.keyInstall stuck) s = .next ((((s.takeCommand c).blow (otpBits (48 * k)
    ((argBytes w).drop 4 |>.take 48) ++ [8 * 0xC0 + k]) (stuck.map (·.val))).1.logOtp 0x37 (48 * k)).reply c mac 0x37 (w.getD 1 0) 0 [])) ∧
  (∀ (s : State) (c : Nat) (w : List Nat) (mac : Nat) (stuck : List (Fin 16384)) (k : Nat), s.command = some (c, w, mac) → s.mgtRuns = true →
    s.replyOpen c = true → w.getD 0 0 % 256 = 0x35 → (s.takeCommand c).rd UPD_STATUS_STATE ≠ 2 → (s.takeCommand c).allowed c 0x35 = true → w.getD
    2 0 = k → k ≤ 3 → k ≠ (s.takeCommand c).rd UPD_KEYS_RUNNING → (((rangeFrom 0 4).filter fun i => bit ((s.takeCommand c).otpByte 0xC0) i && !bit
    ((s.takeCommand c).otpByte 0xC0) (4 + i)) ≠ [k]) → ((s.takeCommand c).blow [8 * 0xC0 + 4 + k] (stuck.map (·.val))).2 = true → exec (.keyRevoke
    stuck) s = .next ((((s.takeCommand c).blow [8 * 0xC0 + 4 + k] (stuck.map (·.val))).1.logOtp 0x35 0xC0).reply c mac 0x35 (w.getD 1 0) 0 [])) ∧
  (∀ (s : State) (c : Nat) (w : List Nat) (mac : Nat), s.command = some (c, w, mac) → s.mgtRuns = true → s.replyOpen c = true → w.getD 0 0 % 256 =
    0x3F → (s.takeCommand c).rd UPD_STATUS_STATE ≠ 2 → (s.takeCommand c).allowed c 0x3F = true → exec (.ping) s = .next ((s.takeCommand c).reply c
    mac 0x3F (w.getD 1 0) 0 [(s.takeCommand c).rd MGT_VERSION_VERSION, ((s.takeCommand c).word MGT_STATUS).toNat]))

/-- What an update's commands and its end do. Each step of an image update in the state that admits it - begin, chunk, verify and its end, activate,
  abort, confirm in its three ways and the expiry of the health window - completes with the named change of the update's state. (The spec:
  15_management_mailboxes_and_update.md.) -/
def Obligations.UpdateCommandsComplete : Prop :=
  (∀ (s : State) (c : Nat) (w : List Nat) (mac : Nat), s.command = some (c, w, mac) → s.mgtRuns = true → s.replyOpen c = true → w.getD 0 0 % 256 =
    0x30 → (s.takeCommand c).rd UPD_STATUS_STATE ≠ 2 → (s.takeCommand c).allowed c 0x30 = true → ((s.takeCommand c).rd UPD_STATUS_STATE = 0 ∨
    (s.takeCommand c).rd UPD_STATUS_STATE = 4) → w.getD 2 0 ≤ slotSize → ∃ u : State, u = ((((((s.takeCommand c).setSlot (1 - (s.takeCommand
    c).bootRec.slot) []).wr UPD_STATUS_SLOT_NEW (1 - (s.takeCommand c).bootRec.slot)).wr UPD_STATUS_STATE 1).wr UPD_STATUS_REASON 0).logStep 0x30)
    ∧ exec (.updBegin) s = .next (({ u with mgt := { u.mgt with length := w.getD 2 0 } } : State).reply c mac 0x30 (w.getD 1 0) 0 [])) ∧
  (∀ (s : State) (c : Nat) (w : List Nat) (mac : Nat) (bytes : List Nat) (fail : Bool), s.command = some (c, w, mac) → s.mgtRuns = true →
    s.replyOpen c = true → w.getD 0 0 % 256 = 0x31 → (s.takeCommand c).rd UPD_STATUS_STATE ≠ 2 → (s.takeCommand c).allowed c 0x31 = true →
    (s.takeCommand c).rd UPD_STATUS_STATE = 1 → w.getD 4 0 + w.getD 5 0 ≤ (s.takeCommand c).mgt.length → w.getD 5 0 ≤ 2 ^ 20 → fail = false → exec
    (.updChunk bytes fail) s = .next (((s.takeCommand c).writeSlot ((s.takeCommand c).rd UPD_STATUS_SLOT_NEW) (w.getD 4 0) (bytes.take (w.getD 5
    0))).reply c mac 0x31 (w.getD 1 0) 0 [])) ∧
  (∀ (s : State) (c mac : Nat) (w : List Nat), s.command = some (c, w, mac) → s.mgtRuns = true → w.getD 0 0 % 256 = 0x32 → s.rd UPD_STATUS_STATE =
    1 → s.allowed c 0x32 = true → exec (.updVerify) s = .next
    (({ s.takeCommand c with mgt := { (s.takeCommand c).mgt with verify := some (c, w.getD 1 0, mac) } }.wr UPD_STATUS_STATE 2).logStep 0x32)) ∧
  (∀ (s : State) (c q mac : Nat), s.mgt.verify = some (c, q, mac) → s.mgtRuns = true → s.replyOpen c = true → s.imageReason (s.rd
    UPD_STATUS_SLOT_NEW) ≠ 0 → ∃ (u : State) (r : Nat), r = s.imageReason (s.rd UPD_STATUS_SLOT_NEW) ∧ u =
    ((({ s with mgt := { s.mgt with verify := none } }.wr UPD_SVN_IMAGE_SVN ((({ s with mgt := { s.mgt with verify := none } } : State).slotBytes
    (s.rd UPD_STATUS_SLOT_NEW) 9 1).headD 0)).wr UPD_STATUS_STATE 4).wr UPD_STATUS_REASON r).raiseArg UPD_EVENT_REJECTED r ∧ exec (.verifyDone) s
    = .next (u.reply c mac 0x32 q stRejected [r])) ∧
  (∀ (s : State) (c : Nat) (w : List Nat) (mac : Nat), s.command = some (c, w, mac) → s.mgtRuns = true → s.replyOpen c = true → w.getD 0 0 % 256 =
    0x33 → (s.takeCommand c).rd UPD_STATUS_STATE ≠ 2 → (s.takeCommand c).allowed c 0x33 = true → (s.takeCommand c).rd UPD_STATUS_STATE = 3 → s.rd
    UPD_STATUS_STATE = 3 → ∃ (u1 u : State), u1 =
    ({ (s.takeCommand c) with nor := { (s.takeCommand c).nor with before := (s.takeCommand c).nor.store } } : State).setBootRec
    { slot := ({ (s.takeCommand c) with nor := { (s.takeCommand c).nor with before := (s.takeCommand c).nor.store } } : State).rd UPD_STATUS_SLOT_NEW, previous := (s.takeCommand c).bootRec.slot, trial := true }
    ∧ u = (((u1.wr UPD_STATUS_STATE 5).wr UPD_STATUS_CRASHES 0).raise UPD_EVENT_ACTIVATED) ∧ ∃ t : State, t =
    ({ u with mgt := { u.mgt with window := u.now, migrated := false, dropped := false } } : State).reply c mac 0x33 (w.getD 1 0) 0 [] ∧ exec
    (.updActivate) s = .next (if t.rd UPD_STATUS_STATE = 5 then t.mgtRestart else t)) ∧
  (∀ (s : State) (c : Nat) (w : List Nat) (mac : Nat), s.command = some (c, w, mac) → s.mgtRuns = true → s.replyOpen c = true → w.getD 0 0 % 256 =
    0x34 → (s.takeCommand c).rd UPD_STATUS_STATE ≠ 2 → (s.takeCommand c).allowed c 0x34 = true → ((s.takeCommand c).rd UPD_STATUS_STATE = 1 ∨
    (s.takeCommand c).rd UPD_STATUS_STATE = 3 ∨ (s.takeCommand c).rd UPD_STATUS_STATE = 4) → exec (.updAbort) s = .next ((((s.takeCommand c).wr
    UPD_STATUS_STATE 0).logStep 0x34).reply c mac 0x34 (w.getD 1 0) 0 [])) ∧
  (∀ (s : State) (c : Nat) (w : List Nat) (mac : Nat), s.command = some (c, w, mac) → s.mgtRuns = true → s.replyOpen c = true → w.getD 0 0 % 256 =
    0x36 → (s.takeCommand c).rd UPD_STATUS_STATE ≠ 2 → (s.takeCommand c).allowed c 0x36 = true → (s.takeCommand c).rd UPD_STATUS_STATE = 5 →
    (s.takeCommand c).healthOk = true → exec (.updConfirm) s = .next ((s.takeCommand c).confirm.reply c mac 0x36 (w.getD 1 0) 0 [])) ∧
  (∀ (s : State) (m : Fin 22) (key : Fin 65536), s.Admits m true UPD_CONFIRM → m.val = 0 → key.val = 0xC0DE → s.rd UPD_STATUS_STATE = 5 → exec
    (.updConfirmKey m key) s = .next (s.confirm)) ∧
  (∀ (s : State) (t : Nat), s.mgt.healthy = some t → s.rd UPD_STATUS_STATE = 5 → s.on UPD_CFG_AUTO_CONFIRM = true → t + s.rd UPD_CFG_SETTLE_S *
    sec ≤ s.now → exec (.autoConfirm) s = .next (s.confirm)) ∧
  (∀ (s : State), s.rd UPD_STATUS_STATE = 5 → s.mgt.window + s.rd UPD_CFG_WINDOW_S * sec ≤ s.now → exec (.healthWindowExpiry) s = .next
    (s.fallBack 3))

/-- What mailbox, doorbell, lock and plain register accesses do. A post, a free, the setting, clearing and masking of doorbells, the taking and
  releasing of a lock, and any other admitted read or write complete with the named change. (The spec: 15_management_mailboxes_and_update.md,
  16_host_interface_and_control_matrix.md.) -/
def Obligations.MailboxDoorbellAndLockCommandsComplete : Prop :=
  (∀ (s : State) (m : Fin 22) (c : Fin 394), s.Admits m true (MBX_POST c) → exec (.mbxPost m c) s = .next (s.postNow c)) ∧
  (∀ (s : State) (m : Fin 22) (c : Fin 394), s.Admits m true (MBX_FREE c) → exec (.mbxFree m c) s = .next (s.mbxFree c)) ∧
  (∀ (s : State) (m : Fin 22) (k : Fin 21) (v : Word), s.Admits m true (MBX_DB_SET k) → exec (.doorbellSet m k v) s = .next (s.setBells k
    v.toNat)) ∧
  (∀ (s : State) (m : Fin 22) (k : Fin 21) (v : Word), s.Admits m true (MBX_DB k) → exec (.doorbellClear m k v) s = .next (s.writeBell m (MBX_DB
    k) v.toNat k)) ∧
  (∀ (s : State) (m : Fin 22) (k : Fin 21) (v : Word), s.Admits m true (MBX_DB_MASK k) → exec (.doorbellMask m k v) s = .next (s.writeBell m
    (MBX_DB_MASK k) v.toNat k)) ∧
  (∀ (s : State) (m : Fin 22) (n : Fin 64), s.Admits m false (MTX_LOCK n) → ∃ (u : State) (v : Nat), s.getWord m (MTX_LOCK n) = (u, v) ∧ exec
    (.lockAcquire m n) s = .next { u with lastRead := v &&& (2 ^ 32 - 1) }) ∧
  (∀ (s : State) (m : Fin 22) (n : Fin 64), s.Admits m true (MTX_LOCK_REL n) → exec (.lockRelease m n) s = .next (s.releaseLock m n)) ∧
  (∀ (s : State) (m : Fin 22) (n : Fin 37) (l : Fin 8) (errs : Bool), s.Admits m false (if errs then TRL_LANE_ERR_LO n l else TRL_LANE_BITS_LO n
    l) → ∃ (u : State) (v : Nat), s.getWord m (if errs then TRL_LANE_ERR_LO n l else TRL_LANE_BITS_LO n l) = (u, v) ∧ exec (.laneCounterRead m n l
    errs) s = .next { u with lastRead := v &&& (2 ^ 32 - 1) }) ∧
  (∀ (s : State) (m : Fin 22) (a : Nat), s.Admits m false a → (a % 4 = 0 ∧ a < 0x4000000) → ∃ (u : State) (v : Nat), s.getWord m a = (u, v) ∧ exec
    (.counterRead m a 4) s = .next { u with lastRead := v &&& (2 ^ 32 - 1) }) ∧
  (∀ (s : State) (m : Fin 22) (a v : Nat), s.Admits m true a → (a % 4 = 0 ∧ a < 0x4000000 ∧ v < 2 ^ 32 ∧ inMemory a = false) → exec
    (.registerWrite m a 4 v) s = .next (s.writeReg m a v))

/-- What the control bus, the PCIe link and the PPS pins do. A control bus frame received, sent, collided or held off, each event of the PCIe link
  and of a function's power state, and a PPS edge complete with the named change. (The spec: 15_management_mailboxes_and_update.md,
  16_host_interface_and_control_matrix.md, 17_electrical_pins_and_package.md.) -/
def Obligations.ControlBusPcieAndTimingPinCommandsComplete : Prop :=
  (∀ (s : State) (bytes : List Nat), s.on CBS_CFG_EN = true → (bytes.map (· % 256)).length < 64 → exec (.cbsFrameReceived bytes) s = .next ((s.wr
    CBS_STATUS_RX_RUNT 1).bump (CBS_CNT_COUNT 6))) ∧
  (∀ (s : State) (bytes : List Nat), s.on CBS_CFG_EN = true → (bytes.map (· % 256)).length = 274 → crcBytes (crc32 ((bytes.map (· % 256)).take
    270)) = (bytes.map (· % 256)).drop 270 → beAt (bytes.map (· % 256)) 0 6 = s.cbsMac → s.cbs.rx.length < 8 → ∃ u : State, u = s.bump
    (CBS_CNT_COUNT 1) ∧ (beAt (bytes.map (· % 256)) 12 2 = u.rd CBS_CFG_ETYPE → u.on CBS_CFG_CMD_EN = true → exec (.cbsFrameReceived bytes) s =
    .next
    (({ u with cbs := { u.cbs with rx := u.cbs.rx ++ [{ dest := beAt (bytes.map (· % 256)) 0 6, src := beAt (bytes.map (· % 256)) 6 6, etype := beAt (bytes.map (· % 256)) 12 2, bytes := ((bytes.map (· % 256)).drop 14).take 256 }] } }
    : State).serveHead))) ∧
  (∀ (s : State) (f : CbsFrame) (l : List CbsFrame), s.cbs.tx = f :: l → s.on CBS_CFG_EN = true → s.cbs.backoff = none → exec (.cbsTransmit) s =
    .next (((s.emit (.cbs f)).bump (CBS_CNT_COUNT 0)).dropTx)) ∧
  (∀ (s : State) (late : Bool), s.cbs.tx ≠ [] → s.on CBS_CFG_EN = true → s.cbs.backoff = none → late = true → exec (.collision late) s = .next
    (((((s.emit .jam).wr CBS_STATUS_COLL 1).bump (CBS_CNT_COUNT 2)).wr CBS_STATUS_LATE_COLL 1 |>.bump (CBS_CNT_COUNT 3)).dropTx)) ∧
  (∀ (s : State) (t : Nat), s.cbs.backoff = some t → t ≤ s.now → exec (.backoffExpiry) s = .next
    ({ s with cbs := { s.cbs with backoff := none } })) ∧
  (∀ (s : State), exec (.perst) s = .next ((s.raise PCI_EVENT_PERST).pcieDown)) ∧
  (∀ (s : State) (speed : Fin 6) (width : Fin 9), s.domReady 94 = true → s.pci.ready = false → speed.val ≠ 0 → (width.val = 1 ∨ width.val = 2 ∨
    width.val = 4 ∨ width.val = 8) → exec (.endpointReady speed width) s = .next ((({ s with pci := { s.pci with ready := true } }.wr
    PCI_STATUS_LINK_UP 1).wr PCI_STATUS_SPEED speed).wr PCI_STATUS_WIDTH width)) ∧
  (∀ (s : State), s.on PCI_STATUS_LINK_UP = true → exec (.linkDown) s = .next (s.pcieDown)) ∧
  (∀ (s : State) (f : Fin 2), s.hasFunction f = true → exec (.functionLevelReset f) s = .next ((s.functionReset f).raise ⟨PCI_EVENT, 1 + f, 1⟩)) ∧
  (∀ (s : State) (f : Fin 2), s.hasFunction f = true → exec (.d3hotEntry f) s = .next
    ({ s with pci := { s.pci with d3 := listSet s.pci.d3 f true } }.wr ⟨PCI_STATUS, 9 + f, 1⟩ 1)) ∧
  (∀ (s : State) (f : Fin 2), s.pci.d3.getD f false = true → exec (.d3hotExit f) s = .next
    (({ s with pci := { s.pci with d3 := listSet s.pci.d3 f false } }.wr ⟨PCI_STATUS, 9 + f, 1⟩ 0).sendPending f)) ∧
  (∀ (s : State), s.top.inReset = false → s.on TOP_STATUS_USE = true → (s.ppsTime + 10) % 1000000000 ≤ 20 → s.pin.ppsOut = none → exec
    (.ppsOutEdge) s = .next (({ s with pin := { s.pin with ppsOut := some s.now } } : State).emit .pps)) ∧
  (∀ (s : State), (1000 < s.ppsDiff ∨ s.ppsDiff < -1000) → s.pin.ppsBad = false → exec (.ppsInEdge) s = .next
    (({ s with pin := { s.pin with ppsIn := some s.now, ppsBad := true } } : State).capture 0 0x90 (codeOf 32 s.ppsDiff))) ∧
  (∀ (s : State), s.ppsFirst = true → exec (.ppsInEdge) s = .next
    (({ s with pin := { s.pin with ppsIn := some s.now, ppsBad := decide (1000 < s.ppsDiff) || decide (s.ppsDiff < -1000) } } : State).capture 0
    0x90 (codeOf 32 s.ppsDiff))) ∧
  (∀ (s : State), s.ppsFirst = false → (-1000 ≤ s.ppsDiff ∧ s.ppsDiff ≤ 1000 ∨ s.pin.ppsBad = true) → exec (.ppsInEdge) s = .next
    ({ s with pin := { s.pin with ppsIn := some s.now, ppsBad := decide (1000 < s.ppsDiff) || decide (s.ppsDiff < -1000) } })) ∧
  (∀ (s : State) (k : Fin 8) (left right : Nat) (v : State), s.i2sSlave k = true → s.wsInTime k = true → v = s.setI2sH k
    { s.i2sH k with wsAt := some s.now } → v.on (I2S_STAT_QUALIFIED k) = true → v.on (I2S_CFG_DIR k) = false → exec (.i2sFrameReceived k left
    right) s = .next (((v.setI2sH k { v.i2sH k with fifo := pushFifo (v.i2sH k).fifo (v.i2sWord k left, v.i2sWord k right) }).i2sSteer k).showFill
    k)) ∧
  (∀ (s : State) (k : Fin 8) (left right : Nat) (v : State), s.i2sSlave k = true → s.wsInTime k = true → v = s.setI2sH k
    { s.i2sH k with wsAt := some s.now } → v.on (I2S_STAT_QUALIFIED k) = false → (v.i2sH k).clean = none → exec (.i2sFrameReceived k left right) s
    = .next (v.setI2sH k { v.i2sH k with clean := some v.now })) ∧
  (∀ (s : State) (k : Fin 4736), exec (.inputFrameComplete k) s = .next ((s.inputFrameComplete k).sendRecords k))

/-- What each JTAG instruction and debug access does. Each JTAG instruction loads its code into the instruction register, with the boundary cells,
  identification and debug register that the spec gives it; a debug access starts, is done and is captured as the spec says. (The spec:
  17_electrical_pins_and_package.md.) -/
def Obligations.DebugPortCommandsComplete : Prop :=
  (∀ (s : State), exec (.testLogicReset) s = .next ({ s with jtag := { s.jtag with ir := 1, dr := 0 } })) ∧
  (∀ (s : State) (levels cells : Nat), exec (.extest levels cells) s = .next
    ({ s with jtag := { s.jtag with ir := 0, dr := 0, captured := levels, cells := cells } })) ∧
  (∀ (s : State), exec (.idcode) s = .next
    ({ s with jtag := { s.jtag with ir := 1, dr := ({ s with jtag := { s.jtag with ir := 1, dr := 0 } } : State).idcode } })) ∧
  (∀ (s : State) (levels cells : Nat), exec (.samplePreload levels cells) s = .next
    ({ s with jtag := { s.jtag with ir := 2, dr := 0, captured := levels, cells := cells } })) ∧
  (∀ (s : State), exec (.clamp) s = .next ({ s with jtag := { s.jtag with ir := 3, dr := 0 } })) ∧
  (∀ (s : State), exec (.highz) s = .next ({ s with jtag := { s.jtag with ir := 4, dr := 0 } })) ∧
  (∀ (s : State), exec (.bypass) s = .next ({ s with jtag := { s.jtag with ir := 0xFF, dr := 0 } })) ∧
  (∀ (s : State), s.dbgLock = false → s.top.inReset = false → exec (.devreset) s = .next (({ s with jtag := { s.jtag with ir := 0x10, dr := 0 } }
    : State).deviceReset 5)) ∧
  (∀ (s : State) (k : Fin 8589934592), s.dbgLock = false → s.jtag.busy = none → exec (.dbgaccRead k) s = .next
    ({ s with jtag := { s.jtag with ir := 0x20, dr := 0, busy := some (false, 4 * k, 0) } })) ∧
  (∀ (s : State) (k : Fin 8589934592) (v : Word), s.dbgLock = false → s.jtag.busy = none → exec (.dbgaccWrite k v) s = .next
    ({ s with jtag := { s.jtag with ir := 0x20, dr := 0, busy := some (true, 4 * k, v.toNat) } })) ∧
  (∀ (s : State), s.dbgLock = false → s.jtag.busy = none → s.jtag.ignored = false → exec (.dbgaccCapture) s = .next
    ({ s with jtag := { s.jtag with ir := 0x20, ignored := false, dr := s.jtag.status + s.jtag.addr * 2 ^ 2 + s.jtag.data * 2 ^ 37 } })) ∧
  (∀ (s : State) (a d : Nat), s.jtag.busy = some (true, a, d) → s.top.inReset = true → exec (.dbgaccDone) s = .next
    ({ s with jtag := { s.jtag with busy := none, addr := a, data := 0, status := 2 } })) ∧
  (∀ (s : State) (wr : Bool) (a d : Nat) (u : State), s.jtag.busy = some (wr, a, d) → s.busOpen 21 = true → s.stalls
    { master := 21, write := wr, addr := a, len := 4, data := d } = false →
    ({ s with jtag := { s.jtag with busy := none, addr := a, data := 0, status := 2 } } : State).carryOut
    { master := 21, write := wr, addr := a, len := 4, data := d } = (u, false) → exec (.dbgaccDone) s = .next
    ({ u with jtag := { u.jtag with status := 0, data := if wr then 0 else u.lastRead } }))
end

