-- ==== Sys2Proof/Laws/Store.lean ====
section
/-! SUPPORT. Sparse stores: what a read after a write gives, and that every write keeps the canonical form. -/

namespace Sys2Proof.Machine

variable {α : Type}

theorem storeAbove_mono (l : List (Nat × α)) {a b : Nat} (h : a ≤ b) (hb : storeAbove b l = true) : storeAbove a l = true := by
  induction l with
  | nil => rfl
  | cons e l ih =>
    obtain ⟨k, v⟩ := e
    simp only [storeAbove, Bool.and_eq_true, decide_eq_true_eq] at hb ⊢
    exact ⟨by omega, ih hb.2⟩

/-- A key at or below the bound of a store is not listed. -/
theorem storeGet_above (d : Nat → α) (l : List (Nat × α)) {b k : Nat} (h : storeAbove b l = true) (hk : k ≤ b) :
    storeGet d l k = d k := by
  induction l with
  | nil => rfl
  | cons e l ih =>
    obtain ⟨a, v⟩ := e
    simp only [storeAbove, Bool.and_eq_true, decide_eq_true_eq] at h
    have : a ≠ k := by omega
    simp only [storeGet, this, if_false]
    exact ih h.2

theorem storeGet_put_same (d : Nat → α) (l : List (Nat × α)) (k : Nat) (v : α) : storeGet d (storePut l k v) k = v := by
  induction l with
  | nil => simp [storePut, storeGet]
  | cons e l ih =>
    obtain ⟨a, w⟩ := e
    simp only [storePut]
    split
    · simp [storeGet]
    · split
      · simp [storeGet]
      · simp only [storeGet]
        rw [if_neg (by assumption)]
        exact ih

theorem storeGet_put_ne (d : Nat → α) (l : List (Nat × α)) {k j : Nat} (v : α) (h : j ≠ k) :
    storeGet d (storePut l k v) j = storeGet d l j := by
  induction l with
  | nil => simp [storePut, storeGet, Ne.symm h]
  | cons e l ih =>
    obtain ⟨a, w⟩ := e
    simp only [storePut]
    split
    · simp [storeGet, Ne.symm h]
    · split
      · rename_i h2
        subst h2
        simp [storeGet, Ne.symm h]
      · simp only [storeGet, ih]

theorem storeGet_drop_ne (d : Nat → α) (l : List (Nat × α)) {k j : Nat} (h : j ≠ k) :
    storeGet d (storeDrop l k) j = storeGet d l j := by
  induction l with
  | nil => rfl
  | cons e l ih =>
    obtain ⟨a, w⟩ := e
    simp only [storeDrop]
    split
    · rename_i h2
      subst h2
      simp only [storeGet, Ne.symm h, if_false, ih]
    · simp only [storeGet, ih]

theorem storeAbove_put (l : List (Nat × α)) {b k : Nat} (v : α) (hk : b < k) (h : storeAbove b l = true) :
    storeAbove b (storePut l k v) = true := by
  induction l with
  | nil => simp [storePut, storeAbove, hk]
  | cons e l ih =>
    obtain ⟨a, w⟩ := e
    simp only [storeAbove, Bool.and_eq_true, decide_eq_true_eq] at h
    simp only [storePut]
    split
    · simp [storeAbove, hk, h]
    · split
      · simp [storeAbove, hk, h]
      · simp [storeAbove, h, ih h.2]

theorem storeAbove_drop (l : List (Nat × α)) {b : Nat} (k : Nat) (h : storeAbove b l = true) : storeAbove b (storeDrop l k) = true := by
  induction l with
  | nil => rfl
  | cons e l ih =>
    obtain ⟨a, w⟩ := e
    simp only [storeAbove, Bool.and_eq_true, decide_eq_true_eq] at h
    simp only [storeDrop]
    split
    · exact ih h.2
    · simp [storeAbove, h, ih h.2]

variable [DecidableEq α]

theorem storeWf_drop (d : Nat → α) (l : List (Nat × α)) (k : Nat) (h : storeWf d l = true) : storeWf d (storeDrop l k) = true := by
  induction l with
  | nil => rfl
  | cons e l ih =>
    obtain ⟨a, w⟩ := e
    simp only [storeWf, Bool.and_eq_true] at h
    simp only [storeDrop]
    split
    · exact ih h.2
    · simp only [storeWf, Bool.and_eq_true]
      exact ⟨⟨h.1.1, storeAbove_drop l k h.1.2⟩, ih h.2⟩

theorem storeWf_put (d : Nat → α) (l : List (Nat × α)) {k : Nat} {v : α} (hv : v ≠ d k) (h : storeWf d l = true) :
    storeWf d (storePut l k v) = true := by
  induction l with
  | nil => simp [storePut, storeWf, storeAbove, hv]
  | cons e l ih =>
    obtain ⟨a, w⟩ := e
    simp only [storeWf, Bool.and_eq_true, decide_eq_true_eq] at h
    simp only [storePut]
    split
    · rename_i hk
      simp only [storeWf, storeAbove, Bool.and_eq_true, decide_eq_true_eq]
      exact ⟨⟨hv, hk, storeAbove_mono l (by omega) h.1.2⟩, h⟩
    · split
      · rename_i h2
        subst h2
        simp only [storeWf, Bool.and_eq_true, decide_eq_true_eq]
        exact ⟨⟨hv, h.1.2⟩, h.2⟩
      · simp only [storeWf, Bool.and_eq_true, decide_eq_true_eq]
        exact ⟨⟨h.1.1, storeAbove_put l v (by omega) h.1.2⟩, ih h.2⟩

/-- Every write keeps the canonical form. -/
theorem storeWf_set (d : Nat → α) (l : List (Nat × α)) (k : Nat) (v : α) (h : storeWf d l = true) : storeWf d (storeSet d l k v) = true := by
  unfold storeSet
  split
  · exact storeWf_drop d l k h
  · exact storeWf_put d l (by assumption) h

omit [DecidableEq α] in
/-- A key that has been dropped reads as unlisted. -/
theorem storeGet_drop_same (d : Nat → α) (l : List (Nat × α)) (k : Nat) : storeGet d (storeDrop l k) k = d k := by
  induction l with
  | nil => rfl
  | cons e l ih =>
    obtain ⟨a, w⟩ := e
    simp only [storeDrop]
    split
    · exact ih
    · rename_i h2
      simp only [storeGet, h2, if_false]
      exact ih

/-- A read after a write of the same key. -/
@[simp] theorem storeGet_set_same (d : Nat → α) (l : List (Nat × α)) (k : Nat) (v : α) : storeGet d (storeSet d l k v) k = v := by
  unfold storeSet
  split
  · rename_i h2
    rw [storeGet_drop_same d l k, h2]
  · exact storeGet_put_same d l k v

/-- A read after a write of another key. -/
theorem storeGet_set_ne (d : Nat → α) (l : List (Nat × α)) {k j : Nat} (v : α) (h : j ≠ k) :
    storeGet d (storeSet d l k v) j = storeGet d l j := by
  unfold storeSet
  split
  · exact storeGet_drop_ne d l h
  · exact storeGet_put_ne d l v h

/-- A pass that changes nothing at any element changes nothing. -/
theorem foldOver_fixed {α σ : Type} {l : List α} {f : α → σ → σ} {s : σ} (h : ∀ a ∈ l, f a s = s) : foldOver l f s = s := by
  induction l with
  | nil => rfl
  | cons a l ih =>
    rw [foldOver, h a (by simp)]
    exact ih fun b hb => h b (by simp [hb])

/-- A property that every element's change keeps holds after a pass over the list. -/
theorem foldOver_keeps {α σ : Type} {P : σ → Prop} {l : List α} {f : α → σ → σ} (h : ∀ a s, P s → P (f a s)) {s : σ} (hs : P s) :
    P (foldOver l f s) := by
  induction l generalizing s with
  | nil => exact hs
  | cons a l ih => exact ih (h a s hs)

end Sys2Proof.Machine
end

