-- ==== Sys2Proof/Laws/State.lean ====
section
/-! SUPPORT. What the updates of the state leave alone, field by field, and what a read after a write gives. -/

namespace Sys2Proof.Machine

variable (s : State)

/-! ## Registers -/

@[simp] theorem State.word_setWord_same (a : Nat) (w : Word) : (s.setWord a w).word a = w := by
  simp [State.word, State.setWord]

theorem State.word_setWord_ne {a b : Nat} (w : Word) (h : b ≠ a) : (s.setWord a w).word b = s.word b := by
  simp only [State.word, State.setWord]
  exact storeGet_set_ne _ _ w h

/-- A field read back from the word it was written to. -/
theorem fieldGet_fieldPut_same (f : Field) (w : Word) (v : Nat) (h : f.lo + f.width ≤ 32) : fieldGet f (fieldPut f w v) = v % 2 ^ f.width := by
  unfold fieldGet fieldPut
  obtain ⟨a, lo, n⟩ := f
  simp only at h ⊢
  have hw : w.toNat < 2 ^ 32 := w.isLt
  have hlo : 0 < 2 ^ lo := Nat.two_pow_pos lo
  have hn : 0 < 2 ^ n := Nat.two_pow_pos n
  have hv : v % 2 ^ n < 2 ^ n := Nat.mod_lt _ hn
  have hr : w.toNat % 2 ^ lo < 2 ^ lo := Nat.mod_lt _ hlo
  have e : 2 ^ (lo + n) = 2 ^ n * 2 ^ lo := by rw [Nat.add_comm, Nat.pow_add]
  have key : w.toNat / 2 ^ (lo + n) * 2 ^ (lo + n) + v % 2 ^ n * 2 ^ lo + w.toNat % 2 ^ lo
      = (w.toNat / 2 ^ (lo + n) * 2 ^ n + v % 2 ^ n) * 2 ^ lo + w.toNat % 2 ^ lo := by
    rw [e]; ring
  have hsmall : (w.toNat / 2 ^ (lo + n) * 2 ^ n + v % 2 ^ n) * 2 ^ lo + w.toNat % 2 ^ lo < 2 ^ 32 := by
    have h1 : w.toNat / 2 ^ (lo + n) < 2 ^ (32 - (lo + n)) := by
      apply Nat.div_lt_of_lt_mul
      rw [← Nat.pow_add]
      have : lo + n + (32 - (lo + n)) = 32 := by omega
      rw [this]; exact hw
    have h2 : w.toNat / 2 ^ (lo + n) * 2 ^ n + v % 2 ^ n < 2 ^ (32 - lo) := by
      have h3 : 2 ^ (32 - lo) = 2 ^ (32 - (lo + n)) * 2 ^ n := by rw [← Nat.pow_add]; congr 1; omega
      rw [h3]
      calc w.toNat / 2 ^ (lo + n) * 2 ^ n + v % 2 ^ n < w.toNat / 2 ^ (lo + n) * 2 ^ n + 2 ^ n := by omega
        _ = (w.toNat / 2 ^ (lo + n) + 1) * 2 ^ n := by ring
        _ ≤ 2 ^ (32 - (lo + n)) * 2 ^ n := Nat.mul_le_mul_right _ h1
    have h4 : 2 ^ 32 = 2 ^ (32 - lo) * 2 ^ lo := by rw [← Nat.pow_add]; congr 1; omega
    rw [h4]
    calc (w.toNat / 2 ^ (lo + n) * 2 ^ n + v % 2 ^ n) * 2 ^ lo + w.toNat % 2 ^ lo
        < (w.toNat / 2 ^ (lo + n) * 2 ^ n + v % 2 ^ n) * 2 ^ lo + 2 ^ lo := by omega
      _ = (w.toNat / 2 ^ (lo + n) * 2 ^ n + v % 2 ^ n + 1) * 2 ^ lo := by ring
      _ ≤ 2 ^ (32 - lo) * 2 ^ lo := Nat.mul_le_mul_right _ h2
  rw [key, BitVec.toNat_ofNat, Nat.mod_eq_of_lt hsmall, Nat.add_comm, Nat.add_mul_div_right _ _ hlo, Nat.div_eq_of_lt hr, Nat.zero_add,
    Nat.add_comm, Nat.add_mul_mod_self_right, Nat.mod_mod]

/-- The value of a word with one field replaced. -/
theorem fieldPut_toNat (f : Field) (w : Word) (v : Nat) (h : f.lo + f.width ≤ 32) :
    (fieldPut f w v).toNat = (w.toNat / 2 ^ (f.lo + f.width) * 2 ^ f.width + v % 2 ^ f.width) * 2 ^ f.lo + w.toNat % 2 ^ f.lo := by
  obtain ⟨a, lo, n⟩ := f
  simp only at h ⊢
  have hw : w.toNat < 2 ^ 32 := w.isLt
  have e : 2 ^ (lo + n) = 2 ^ n * 2 ^ lo := by rw [Nat.add_comm, Nat.pow_add]
  have hlo : 0 < 2 ^ lo := Nat.two_pow_pos lo
  have hn : 0 < 2 ^ n := Nat.two_pow_pos n
  have hv : v % 2 ^ n < 2 ^ n := Nat.mod_lt _ hn
  have hr : w.toNat % 2 ^ lo < 2 ^ lo := Nat.mod_lt _ hlo
  have h1 : w.toNat / 2 ^ (lo + n) + 1 ≤ 2 ^ (32 - (lo + n)) := by
    apply Nat.div_lt_of_lt_mul
    rw [← Nat.pow_add, show lo + n + (32 - (lo + n)) = 32 by omega]
    exact hw
  have h4 : 2 ^ 32 = 2 ^ (32 - (lo + n)) * 2 ^ n * 2 ^ lo := by
    rw [← Nat.pow_add, ← Nat.pow_add]; congr 1; omega
  have hs : (w.toNat / 2 ^ (lo + n) * 2 ^ n + v % 2 ^ n) * 2 ^ lo + w.toNat % 2 ^ lo < 2 ^ 32 := by
    have a1 : w.toNat / 2 ^ (lo + n) * 2 ^ n + v % 2 ^ n + 1 ≤ (w.toNat / 2 ^ (lo + n) + 1) * 2 ^ n := by
      rw [Nat.add_mul]; omega
    have a2 := a1.trans (Nat.mul_le_mul_right (2 ^ n) h1)
    have a3 := Nat.mul_le_mul_right (2 ^ lo) a2
    rw [← h4, Nat.add_mul] at a3
    omega
  have key : w.toNat / 2 ^ (lo + n) * 2 ^ (lo + n) + v % 2 ^ n * 2 ^ lo + w.toNat % 2 ^ lo
      = (w.toNat / 2 ^ (lo + n) * 2 ^ n + v % 2 ^ n) * 2 ^ lo + w.toNat % 2 ^ lo := by
    rw [e]; ring
  unfold fieldPut
  simp only [BitVec.toNat_ofNat]
  rw [key, Nat.mod_eq_of_lt hs]

/-- A field keeps its value when another field of its word is written. -/
theorem fieldGet_fieldPut_ne (f g : Field) (w : Word) (v : Nat) (h : f.lo + f.width ≤ 32)
    (hd : g.lo + g.width ≤ f.lo ∨ f.lo + f.width ≤ g.lo) : fieldGet g (fieldPut f w v) = fieldGet g w := by
  unfold fieldGet
  rw [fieldPut_toNat f w v h]
  have hr : w.toNat % 2 ^ f.lo < 2 ^ f.lo := Nat.mod_lt _ (Nat.two_pow_pos _)
  rcases hd with hd | hd
  · have e1 : ∀ x : Nat, x / 2 ^ g.lo % 2 ^ g.width = x % 2 ^ f.lo % 2 ^ (g.lo + g.width) / 2 ^ g.lo := fun x => by
      rw [Nat.mod_mod_of_dvd _ (Nat.pow_dvd_pow 2 hd), Nat.pow_add, Nat.mod_mul_right_div_self]
    rw [e1, e1 w.toNat, Nat.add_comm, Nat.add_mul_mod_self_right, Nat.mod_mod]
  · have e1 : ∀ x : Nat, x / 2 ^ g.lo = x / 2 ^ (f.lo + f.width) / 2 ^ (g.lo - (f.lo + f.width)) := fun x => by
      rw [Nat.div_div_eq_div_mul, ← Nat.pow_add]
      congr 2
      omega
    have e2 : ((w.toNat / 2 ^ (f.lo + f.width) * 2 ^ f.width + v % 2 ^ f.width) * 2 ^ f.lo + w.toNat % 2 ^ f.lo) / 2 ^ (f.lo + f.width)
        = w.toNat / 2 ^ (f.lo + f.width) := by
      have hv : v % 2 ^ f.width < 2 ^ f.width := Nat.mod_lt _ (Nat.two_pow_pos _)
      rw [Nat.pow_add, ← Nat.div_div_eq_div_mul, Nat.add_comm, Nat.add_mul_div_right _ _ (Nat.two_pow_pos _), Nat.div_eq_of_lt hr,
        Nat.zero_add, Nat.add_comm, Nat.add_mul_div_right _ _ (Nat.two_pow_pos _), Nat.div_eq_of_lt hv, Nat.zero_add]
    rw [e1, e2, ← e1]

/-- A field reads as written, modulo its width. -/
theorem State.rd_wr_same (f : Field) (v : Nat) (h : f.lo + f.width ≤ 32) : (s.wr f v).rd f = v % 2 ^ f.width := by
  simp [State.rd, State.wr, fieldGet_fieldPut_same f _ v h]

theorem State.rd_wr_ne {f g : Field} (v : Nat) (h : g.addr ≠ f.addr) : (s.wr f v).rd g = s.rd g := by
  simp only [State.rd, State.wr, State.word_setWord_ne s _ h]

/-- Another field of the same word keeps its value. -/
theorem State.rd_wr_apart {f g : Field} (v : Nat) (h : f.lo + f.width ≤ 32) (hd : g.lo + g.width ≤ f.lo ∨ f.lo + f.width ≤ g.lo) :
    (s.wr f v).rd g = s.rd g := by
  by_cases ha : g.addr = f.addr
  · simp only [State.rd, State.wr, ha, State.word_setWord_same, fieldGet_fieldPut_ne f g _ v h hd]
  · exact s.rd_wr_ne v ha

theorem State.word_wr_ne {f : Field} {a : Nat} (v : Nat) (h : a ≠ f.addr) : (s.wr f v).word a = s.word a := by
  simp only [State.wr, State.word_setWord_ne s _ h]

/-- Writing registers keeps their store canonical. -/
theorem State.regs_wf_setWord (a : Nat) (w : Word) (h : storeWf resetWord s.regs = true) : storeWf resetWord (s.setWord a w).regs = true :=
  storeWf_set _ _ _ _ h

@[simp] theorem State.pending_setWord (a : Nat) (w : Word) : (s.setWord a w).pending = s.pending := (rfl)
@[simp] theorem State.now_setWord (a : Nat) (w : Word) : (s.setWord a w).now = s.now := (rfl)
@[simp] theorem State.lastRead_setWord (a : Nat) (w : Word) : (s.setWord a w).lastRead = s.lastRead := (rfl)
@[simp] theorem State.free_setWord (a : Nat) (w : Word) : (s.setWord a w).free = s.free := (rfl)
@[simp] theorem State.out_setWord (a : Nat) (w : Word) : (s.setWord a w).out = s.out := (rfl)
@[simp] theorem State.log_setWord (a : Nat) (w : Word) : (s.setWord a w).log = s.log := (rfl)
@[simp] theorem State.top_setWord (a : Nat) (w : Word) : (s.setWord a w).top = s.top := (rfl)
@[simp] theorem State.trl_setWord (a : Nat) (w : Word) : (s.setWord a w).trl = s.trl := (rfl)
@[simp] theorem State.cand_setWord (a : Nat) (w : Word) : (s.setWord a w).cand = s.cand := (rfl)
@[simp] theorem State.dpll_setWord (a : Nat) (w : Word) : (s.setWord a w).dpll = s.dpll := (rfl)
@[simp] theorem State.plan_setWord (a : Nat) (w : Word) : (s.setWord a w).plan = s.plan := (rfl)
@[simp] theorem State.syn_setWord (a : Nat) (w : Word) : (s.setWord a w).syn = s.syn := (rfl)
@[simp] theorem State.ptp_setWord (a : Nat) (w : Word) : (s.setWord a w).ptp = s.ptp := (rfl)
@[simp] theorem State.rck_setWord (a : Nat) (w : Word) : (s.setWord a w).rck = s.rck := (rfl)
@[simp] theorem State.pci_setWord (a : Nat) (w : Word) : (s.setWord a w).pci = s.pci := (rfl)
@[simp] theorem State.ins_setWord (a : Nat) (w : Word) : (s.setWord a w).ins = s.ins := (rfl)
@[simp] theorem State.outs_setWord (a : Nat) (w : Word) : (s.setWord a w).outs = s.outs := (rfl)
@[simp] theorem State.adm_setWord (a : Nat) (w : Word) : (s.setWord a w).adm = s.adm := (rfl)
@[simp] theorem State.chans_setWord (a : Nat) (w : Word) : (s.setWord a w).chans = s.chans := (rfl)
@[simp] theorem State.ldg_setWord (a : Nat) (w : Word) : (s.setWord a w).ldg = s.ldg := (rfl)
@[simp] theorem State.aud_setWord (a : Nat) (w : Word) : (s.setWord a w).aud = s.aud := (rfl)
@[simp] theorem State.src_setWord (a : Nat) (w : Word) : (s.setWord a w).src = s.src := (rfl)
@[simp] theorem State.est_setWord (a : Nat) (w : Word) : (s.setWord a w).est = s.est := (rfl)
@[simp] theorem State.dst_setWord (a : Nat) (w : Word) : (s.setWord a w).dst = s.dst := (rfl)
@[simp] theorem State.gens_setWord (a : Nat) (w : Word) : (s.setWord a w).gens = s.gens := (rfl)
@[simp] theorem State.i2s_setWord (a : Nat) (w : Word) : (s.setWord a w).i2s = s.i2s := (rfl)
@[simp] theorem State.mvh_setWord (a : Nat) (w : Word) : (s.setWord a w).mvh = s.mvh := (rfl)
@[simp] theorem State.twn_setWord (a : Nat) (w : Word) : (s.setWord a w).twn = s.twn := (rfl)
@[simp] theorem State.cls_setWord (a : Nat) (w : Word) : (s.setWord a w).cls = s.cls := (rfl)
@[simp] theorem State.rx_setWord (a : Nat) (w : Word) : (s.setWord a w).rx = s.rx := (rfl)
@[simp] theorem State.tx_setWord (a : Nat) (w : Word) : (s.setWord a w).tx = s.tx := (rfl)
@[simp] theorem State.mac_setWord (a : Nat) (w : Word) : (s.setWord a w).mac = s.mac := (rfl)
@[simp] theorem State.ctn_setWord (a : Nat) (w : Word) : (s.setWord a w).ctn = s.ctn := (rfl)
@[simp] theorem State.fab_setWord (a : Nat) (w : Word) : (s.setWord a w).fab = s.fab := (rfl)
@[simp] theorem State.chn_setWord (a : Nat) (w : Word) : (s.setWord a w).chn = s.chn := (rfl)
@[simp] theorem State.mail_setWord (a : Nat) (w : Word) : (s.setWord a w).mail = s.mail := (rfl)
@[simp] theorem State.nor_setWord (a : Nat) (w : Word) : (s.setWord a w).nor = s.nor := (rfl)
@[simp] theorem State.otp_setWord (a : Nat) (w : Word) : (s.setWord a w).otp = s.otp := (rfl)
@[simp] theorem State.mgt_setWord (a : Nat) (w : Word) : (s.setWord a w).mgt = s.mgt := (rfl)
@[simp] theorem State.sens_setWord (a : Nat) (w : Word) : (s.setWord a w).sens = s.sens := (rfl)
@[simp] theorem State.cbs_setWord (a : Nat) (w : Word) : (s.setWord a w).cbs = s.cbs := (rfl)
@[simp] theorem State.jtag_setWord (a : Nat) (w : Word) : (s.setWord a w).jtag = s.jtag := (rfl)
@[simp] theorem State.pin_setWord (a : Nat) (w : Word) : (s.setWord a w).pin = s.pin := (rfl)
@[simp] theorem State.cellar_setWord (a : Nat) (w : Word) : (s.setWord a w).cellar = s.cellar := (rfl)
@[simp] theorem State.pending_wr (f : Field) (v : Nat) : (s.wr f v).pending = s.pending := (rfl)
@[simp] theorem State.now_wr (f : Field) (v : Nat) : (s.wr f v).now = s.now := (rfl)
@[simp] theorem State.lastRead_wr (f : Field) (v : Nat) : (s.wr f v).lastRead = s.lastRead := (rfl)
@[simp] theorem State.free_wr (f : Field) (v : Nat) : (s.wr f v).free = s.free := (rfl)
@[simp] theorem State.out_wr (f : Field) (v : Nat) : (s.wr f v).out = s.out := (rfl)
@[simp] theorem State.log_wr (f : Field) (v : Nat) : (s.wr f v).log = s.log := (rfl)
@[simp] theorem State.top_wr (f : Field) (v : Nat) : (s.wr f v).top = s.top := (rfl)
@[simp] theorem State.trl_wr (f : Field) (v : Nat) : (s.wr f v).trl = s.trl := (rfl)
@[simp] theorem State.cand_wr (f : Field) (v : Nat) : (s.wr f v).cand = s.cand := (rfl)
@[simp] theorem State.dpll_wr (f : Field) (v : Nat) : (s.wr f v).dpll = s.dpll := (rfl)
@[simp] theorem State.plan_wr (f : Field) (v : Nat) : (s.wr f v).plan = s.plan := (rfl)
@[simp] theorem State.syn_wr (f : Field) (v : Nat) : (s.wr f v).syn = s.syn := (rfl)
@[simp] theorem State.ptp_wr (f : Field) (v : Nat) : (s.wr f v).ptp = s.ptp := (rfl)
@[simp] theorem State.rck_wr (f : Field) (v : Nat) : (s.wr f v).rck = s.rck := (rfl)
@[simp] theorem State.pci_wr (f : Field) (v : Nat) : (s.wr f v).pci = s.pci := (rfl)
@[simp] theorem State.ins_wr (f : Field) (v : Nat) : (s.wr f v).ins = s.ins := (rfl)
@[simp] theorem State.outs_wr (f : Field) (v : Nat) : (s.wr f v).outs = s.outs := (rfl)
@[simp] theorem State.adm_wr (f : Field) (v : Nat) : (s.wr f v).adm = s.adm := (rfl)
@[simp] theorem State.chans_wr (f : Field) (v : Nat) : (s.wr f v).chans = s.chans := (rfl)
@[simp] theorem State.ldg_wr (f : Field) (v : Nat) : (s.wr f v).ldg = s.ldg := (rfl)
@[simp] theorem State.aud_wr (f : Field) (v : Nat) : (s.wr f v).aud = s.aud := (rfl)
@[simp] theorem State.src_wr (f : Field) (v : Nat) : (s.wr f v).src = s.src := (rfl)
@[simp] theorem State.est_wr (f : Field) (v : Nat) : (s.wr f v).est = s.est := (rfl)
@[simp] theorem State.dst_wr (f : Field) (v : Nat) : (s.wr f v).dst = s.dst := (rfl)
@[simp] theorem State.gens_wr (f : Field) (v : Nat) : (s.wr f v).gens = s.gens := (rfl)
@[simp] theorem State.i2s_wr (f : Field) (v : Nat) : (s.wr f v).i2s = s.i2s := (rfl)
@[simp] theorem State.mvh_wr (f : Field) (v : Nat) : (s.wr f v).mvh = s.mvh := (rfl)
@[simp] theorem State.twn_wr (f : Field) (v : Nat) : (s.wr f v).twn = s.twn := (rfl)
@[simp] theorem State.cls_wr (f : Field) (v : Nat) : (s.wr f v).cls = s.cls := (rfl)
@[simp] theorem State.rx_wr (f : Field) (v : Nat) : (s.wr f v).rx = s.rx := (rfl)
@[simp] theorem State.tx_wr (f : Field) (v : Nat) : (s.wr f v).tx = s.tx := (rfl)
@[simp] theorem State.mac_wr (f : Field) (v : Nat) : (s.wr f v).mac = s.mac := (rfl)
@[simp] theorem State.ctn_wr (f : Field) (v : Nat) : (s.wr f v).ctn = s.ctn := (rfl)
@[simp] theorem State.fab_wr (f : Field) (v : Nat) : (s.wr f v).fab = s.fab := (rfl)
@[simp] theorem State.chn_wr (f : Field) (v : Nat) : (s.wr f v).chn = s.chn := (rfl)
@[simp] theorem State.mail_wr (f : Field) (v : Nat) : (s.wr f v).mail = s.mail := (rfl)
@[simp] theorem State.nor_wr (f : Field) (v : Nat) : (s.wr f v).nor = s.nor := (rfl)
@[simp] theorem State.otp_wr (f : Field) (v : Nat) : (s.wr f v).otp = s.otp := (rfl)
@[simp] theorem State.mgt_wr (f : Field) (v : Nat) : (s.wr f v).mgt = s.mgt := (rfl)
@[simp] theorem State.sens_wr (f : Field) (v : Nat) : (s.wr f v).sens = s.sens := (rfl)
@[simp] theorem State.cbs_wr (f : Field) (v : Nat) : (s.wr f v).cbs = s.cbs := (rfl)
@[simp] theorem State.jtag_wr (f : Field) (v : Nat) : (s.wr f v).jtag = s.jtag := (rfl)
@[simp] theorem State.pin_wr (f : Field) (v : Nat) : (s.wr f v).pin = s.pin := (rfl)
@[simp] theorem State.cellar_wr (f : Field) (v : Nat) : (s.wr f v).cellar = s.cellar := (rfl)
@[simp] theorem State.pending_wrB (f : Field) (b : Bool) : (s.wrB f b).pending = s.pending := (rfl)
@[simp] theorem State.now_wrB (f : Field) (b : Bool) : (s.wrB f b).now = s.now := (rfl)
@[simp] theorem State.lastRead_wrB (f : Field) (b : Bool) : (s.wrB f b).lastRead = s.lastRead := (rfl)
@[simp] theorem State.free_wrB (f : Field) (b : Bool) : (s.wrB f b).free = s.free := (rfl)
@[simp] theorem State.out_wrB (f : Field) (b : Bool) : (s.wrB f b).out = s.out := (rfl)
@[simp] theorem State.log_wrB (f : Field) (b : Bool) : (s.wrB f b).log = s.log := (rfl)
@[simp] theorem State.top_wrB (f : Field) (b : Bool) : (s.wrB f b).top = s.top := (rfl)
@[simp] theorem State.trl_wrB (f : Field) (b : Bool) : (s.wrB f b).trl = s.trl := (rfl)
@[simp] theorem State.cand_wrB (f : Field) (b : Bool) : (s.wrB f b).cand = s.cand := (rfl)
@[simp] theorem State.dpll_wrB (f : Field) (b : Bool) : (s.wrB f b).dpll = s.dpll := (rfl)
@[simp] theorem State.plan_wrB (f : Field) (b : Bool) : (s.wrB f b).plan = s.plan := (rfl)
@[simp] theorem State.syn_wrB (f : Field) (b : Bool) : (s.wrB f b).syn = s.syn := (rfl)
@[simp] theorem State.ptp_wrB (f : Field) (b : Bool) : (s.wrB f b).ptp = s.ptp := (rfl)
@[simp] theorem State.rck_wrB (f : Field) (b : Bool) : (s.wrB f b).rck = s.rck := (rfl)
@[simp] theorem State.pci_wrB (f : Field) (b : Bool) : (s.wrB f b).pci = s.pci := (rfl)
@[simp] theorem State.ins_wrB (f : Field) (b : Bool) : (s.wrB f b).ins = s.ins := (rfl)
@[simp] theorem State.outs_wrB (f : Field) (b : Bool) : (s.wrB f b).outs = s.outs := (rfl)
@[simp] theorem State.adm_wrB (f : Field) (b : Bool) : (s.wrB f b).adm = s.adm := (rfl)
@[simp] theorem State.chans_wrB (f : Field) (b : Bool) : (s.wrB f b).chans = s.chans := (rfl)
@[simp] theorem State.ldg_wrB (f : Field) (b : Bool) : (s.wrB f b).ldg = s.ldg := (rfl)
@[simp] theorem State.aud_wrB (f : Field) (b : Bool) : (s.wrB f b).aud = s.aud := (rfl)
@[simp] theorem State.src_wrB (f : Field) (b : Bool) : (s.wrB f b).src = s.src := (rfl)
@[simp] theorem State.est_wrB (f : Field) (b : Bool) : (s.wrB f b).est = s.est := (rfl)
@[simp] theorem State.dst_wrB (f : Field) (b : Bool) : (s.wrB f b).dst = s.dst := (rfl)
@[simp] theorem State.gens_wrB (f : Field) (b : Bool) : (s.wrB f b).gens = s.gens := (rfl)
@[simp] theorem State.i2s_wrB (f : Field) (b : Bool) : (s.wrB f b).i2s = s.i2s := (rfl)
@[simp] theorem State.mvh_wrB (f : Field) (b : Bool) : (s.wrB f b).mvh = s.mvh := (rfl)
@[simp] theorem State.twn_wrB (f : Field) (b : Bool) : (s.wrB f b).twn = s.twn := (rfl)
@[simp] theorem State.cls_wrB (f : Field) (b : Bool) : (s.wrB f b).cls = s.cls := (rfl)
@[simp] theorem State.rx_wrB (f : Field) (b : Bool) : (s.wrB f b).rx = s.rx := (rfl)
@[simp] theorem State.tx_wrB (f : Field) (b : Bool) : (s.wrB f b).tx = s.tx := (rfl)
@[simp] theorem State.mac_wrB (f : Field) (b : Bool) : (s.wrB f b).mac = s.mac := (rfl)
@[simp] theorem State.ctn_wrB (f : Field) (b : Bool) : (s.wrB f b).ctn = s.ctn := (rfl)
@[simp] theorem State.fab_wrB (f : Field) (b : Bool) : (s.wrB f b).fab = s.fab := (rfl)
@[simp] theorem State.chn_wrB (f : Field) (b : Bool) : (s.wrB f b).chn = s.chn := (rfl)
@[simp] theorem State.mail_wrB (f : Field) (b : Bool) : (s.wrB f b).mail = s.mail := (rfl)
@[simp] theorem State.nor_wrB (f : Field) (b : Bool) : (s.wrB f b).nor = s.nor := (rfl)
@[simp] theorem State.otp_wrB (f : Field) (b : Bool) : (s.wrB f b).otp = s.otp := (rfl)
@[simp] theorem State.mgt_wrB (f : Field) (b : Bool) : (s.wrB f b).mgt = s.mgt := (rfl)
@[simp] theorem State.sens_wrB (f : Field) (b : Bool) : (s.wrB f b).sens = s.sens := (rfl)
@[simp] theorem State.cbs_wrB (f : Field) (b : Bool) : (s.wrB f b).cbs = s.cbs := (rfl)
@[simp] theorem State.jtag_wrB (f : Field) (b : Bool) : (s.wrB f b).jtag = s.jtag := (rfl)
@[simp] theorem State.pin_wrB (f : Field) (b : Bool) : (s.wrB f b).pin = s.pin := (rfl)
@[simp] theorem State.cellar_wrB (f : Field) (b : Bool) : (s.wrB f b).cellar = s.cellar := (rfl)

/-! ## Hidden records -/

@[simp] theorem State.trlH_setTrlH (k : Nat) (h : TrlH) : (s.setTrlH k h).trlH k = h := by simp [State.trlH, State.setTrlH]
theorem State.trlH_setTrlH_ne {k j : Nat} (h : TrlH) (hj : j ≠ k) : (s.setTrlH k h).trlH j = s.trlH j := by
  simp only [State.trlH, State.setTrlH]; exact storeGet_set_ne _ _ h hj
@[simp] theorem State.word_setTrlH (k a : Nat) (h : TrlH) : (s.setTrlH k h).word a = s.word a := (rfl)
@[simp] theorem State.rd_setTrlH (k : Nat) (h : TrlH) (f : Field) : (s.setTrlH k h).rd f = s.rd f := (rfl)
@[simp] theorem State.pending_setTrlH (k : Nat) (h : TrlH) : (s.setTrlH k h).pending = s.pending := (rfl)
@[simp] theorem State.regs_setTrlH (k : Nat) (h : TrlH) : (s.setTrlH k h).regs = s.regs := (rfl)
@[simp] theorem State.now_setTrlH (k : Nat) (h : TrlH) : (s.setTrlH k h).now = s.now := (rfl)
@[simp] theorem State.lastRead_setTrlH (k : Nat) (h : TrlH) : (s.setTrlH k h).lastRead = s.lastRead := (rfl)
@[simp] theorem State.free_setTrlH (k : Nat) (h : TrlH) : (s.setTrlH k h).free = s.free := (rfl)
@[simp] theorem State.out_setTrlH (k : Nat) (h : TrlH) : (s.setTrlH k h).out = s.out := (rfl)
@[simp] theorem State.log_setTrlH (k : Nat) (h : TrlH) : (s.setTrlH k h).log = s.log := (rfl)
@[simp] theorem State.top_setTrlH (k : Nat) (h : TrlH) : (s.setTrlH k h).top = s.top := (rfl)
@[simp] theorem State.cand_setTrlH (k : Nat) (h : TrlH) : (s.setTrlH k h).cand = s.cand := (rfl)
@[simp] theorem State.dpll_setTrlH (k : Nat) (h : TrlH) : (s.setTrlH k h).dpll = s.dpll := (rfl)
@[simp] theorem State.plan_setTrlH (k : Nat) (h : TrlH) : (s.setTrlH k h).plan = s.plan := (rfl)
@[simp] theorem State.syn_setTrlH (k : Nat) (h : TrlH) : (s.setTrlH k h).syn = s.syn := (rfl)
@[simp] theorem State.ptp_setTrlH (k : Nat) (h : TrlH) : (s.setTrlH k h).ptp = s.ptp := (rfl)
@[simp] theorem State.rck_setTrlH (k : Nat) (h : TrlH) : (s.setTrlH k h).rck = s.rck := (rfl)
@[simp] theorem State.pci_setTrlH (k : Nat) (h : TrlH) : (s.setTrlH k h).pci = s.pci := (rfl)
@[simp] theorem State.ins_setTrlH (k : Nat) (h : TrlH) : (s.setTrlH k h).ins = s.ins := (rfl)
@[simp] theorem State.outs_setTrlH (k : Nat) (h : TrlH) : (s.setTrlH k h).outs = s.outs := (rfl)
@[simp] theorem State.adm_setTrlH (k : Nat) (h : TrlH) : (s.setTrlH k h).adm = s.adm := (rfl)
@[simp] theorem State.chans_setTrlH (k : Nat) (h : TrlH) : (s.setTrlH k h).chans = s.chans := (rfl)
@[simp] theorem State.ldg_setTrlH (k : Nat) (h : TrlH) : (s.setTrlH k h).ldg = s.ldg := (rfl)
@[simp] theorem State.aud_setTrlH (k : Nat) (h : TrlH) : (s.setTrlH k h).aud = s.aud := (rfl)
@[simp] theorem State.src_setTrlH (k : Nat) (h : TrlH) : (s.setTrlH k h).src = s.src := (rfl)
@[simp] theorem State.est_setTrlH (k : Nat) (h : TrlH) : (s.setTrlH k h).est = s.est := (rfl)
@[simp] theorem State.dst_setTrlH (k : Nat) (h : TrlH) : (s.setTrlH k h).dst = s.dst := (rfl)
@[simp] theorem State.gens_setTrlH (k : Nat) (h : TrlH) : (s.setTrlH k h).gens = s.gens := (rfl)
@[simp] theorem State.i2s_setTrlH (k : Nat) (h : TrlH) : (s.setTrlH k h).i2s = s.i2s := (rfl)
@[simp] theorem State.mvh_setTrlH (k : Nat) (h : TrlH) : (s.setTrlH k h).mvh = s.mvh := (rfl)
@[simp] theorem State.twn_setTrlH (k : Nat) (h : TrlH) : (s.setTrlH k h).twn = s.twn := (rfl)
@[simp] theorem State.cls_setTrlH (k : Nat) (h : TrlH) : (s.setTrlH k h).cls = s.cls := (rfl)
@[simp] theorem State.rx_setTrlH (k : Nat) (h : TrlH) : (s.setTrlH k h).rx = s.rx := (rfl)
@[simp] theorem State.tx_setTrlH (k : Nat) (h : TrlH) : (s.setTrlH k h).tx = s.tx := (rfl)
@[simp] theorem State.mac_setTrlH (k : Nat) (h : TrlH) : (s.setTrlH k h).mac = s.mac := (rfl)
@[simp] theorem State.ctn_setTrlH (k : Nat) (h : TrlH) : (s.setTrlH k h).ctn = s.ctn := (rfl)
@[simp] theorem State.fab_setTrlH (k : Nat) (h : TrlH) : (s.setTrlH k h).fab = s.fab := (rfl)
@[simp] theorem State.chn_setTrlH (k : Nat) (h : TrlH) : (s.setTrlH k h).chn = s.chn := (rfl)
@[simp] theorem State.mail_setTrlH (k : Nat) (h : TrlH) : (s.setTrlH k h).mail = s.mail := (rfl)
@[simp] theorem State.nor_setTrlH (k : Nat) (h : TrlH) : (s.setTrlH k h).nor = s.nor := (rfl)
@[simp] theorem State.otp_setTrlH (k : Nat) (h : TrlH) : (s.setTrlH k h).otp = s.otp := (rfl)
@[simp] theorem State.mgt_setTrlH (k : Nat) (h : TrlH) : (s.setTrlH k h).mgt = s.mgt := (rfl)
@[simp] theorem State.sens_setTrlH (k : Nat) (h : TrlH) : (s.setTrlH k h).sens = s.sens := (rfl)
@[simp] theorem State.cbs_setTrlH (k : Nat) (h : TrlH) : (s.setTrlH k h).cbs = s.cbs := (rfl)
@[simp] theorem State.jtag_setTrlH (k : Nat) (h : TrlH) : (s.setTrlH k h).jtag = s.jtag := (rfl)
@[simp] theorem State.pin_setTrlH (k : Nat) (h : TrlH) : (s.setTrlH k h).pin = s.pin := (rfl)
@[simp] theorem State.cellar_setTrlH (k : Nat) (h : TrlH) : (s.setTrlH k h).cellar = s.cellar := (rfl)
@[simp] theorem State.trlH_setWord (k : Nat) (a : Nat) (w : Word) : (s.setWord a w).trlH k = s.trlH k := (rfl)
@[simp] theorem State.trlH_wr (k : Nat) (f : Field) (v : Nat) : (s.wr f v).trlH k = s.trlH k := (rfl)
@[simp] theorem State.candH_setCandH (k : Nat) (h : CandH) : (s.setCandH k h).candH k = h := by simp [State.candH, State.setCandH]
theorem State.candH_setCandH_ne {k j : Nat} (h : CandH) (hj : j ≠ k) : (s.setCandH k h).candH j = s.candH j := by
  simp only [State.candH, State.setCandH]; exact storeGet_set_ne _ _ h hj
@[simp] theorem State.word_setCandH (k a : Nat) (h : CandH) : (s.setCandH k h).word a = s.word a := (rfl)
@[simp] theorem State.rd_setCandH (k : Nat) (h : CandH) (f : Field) : (s.setCandH k h).rd f = s.rd f := (rfl)
@[simp] theorem State.pending_setCandH (k : Nat) (h : CandH) : (s.setCandH k h).pending = s.pending := (rfl)
@[simp] theorem State.regs_setCandH (k : Nat) (h : CandH) : (s.setCandH k h).regs = s.regs := (rfl)
@[simp] theorem State.now_setCandH (k : Nat) (h : CandH) : (s.setCandH k h).now = s.now := (rfl)
@[simp] theorem State.lastRead_setCandH (k : Nat) (h : CandH) : (s.setCandH k h).lastRead = s.lastRead := (rfl)
@[simp] theorem State.free_setCandH (k : Nat) (h : CandH) : (s.setCandH k h).free = s.free := (rfl)
@[simp] theorem State.out_setCandH (k : Nat) (h : CandH) : (s.setCandH k h).out = s.out := (rfl)
@[simp] theorem State.log_setCandH (k : Nat) (h : CandH) : (s.setCandH k h).log = s.log := (rfl)
@[simp] theorem State.top_setCandH (k : Nat) (h : CandH) : (s.setCandH k h).top = s.top := (rfl)
@[simp] theorem State.trl_setCandH (k : Nat) (h : CandH) : (s.setCandH k h).trl = s.trl := (rfl)
@[simp] theorem State.dpll_setCandH (k : Nat) (h : CandH) : (s.setCandH k h).dpll = s.dpll := (rfl)
@[simp] theorem State.plan_setCandH (k : Nat) (h : CandH) : (s.setCandH k h).plan = s.plan := (rfl)
@[simp] theorem State.syn_setCandH (k : Nat) (h : CandH) : (s.setCandH k h).syn = s.syn := (rfl)
@[simp] theorem State.ptp_setCandH (k : Nat) (h : CandH) : (s.setCandH k h).ptp = s.ptp := (rfl)
@[simp] theorem State.rck_setCandH (k : Nat) (h : CandH) : (s.setCandH k h).rck = s.rck := (rfl)
@[simp] theorem State.pci_setCandH (k : Nat) (h : CandH) : (s.setCandH k h).pci = s.pci := (rfl)
@[simp] theorem State.ins_setCandH (k : Nat) (h : CandH) : (s.setCandH k h).ins = s.ins := (rfl)
@[simp] theorem State.outs_setCandH (k : Nat) (h : CandH) : (s.setCandH k h).outs = s.outs := (rfl)
@[simp] theorem State.adm_setCandH (k : Nat) (h : CandH) : (s.setCandH k h).adm = s.adm := (rfl)
@[simp] theorem State.chans_setCandH (k : Nat) (h : CandH) : (s.setCandH k h).chans = s.chans := (rfl)
@[simp] theorem State.ldg_setCandH (k : Nat) (h : CandH) : (s.setCandH k h).ldg = s.ldg := (rfl)
@[simp] theorem State.aud_setCandH (k : Nat) (h : CandH) : (s.setCandH k h).aud = s.aud := (rfl)
@[simp] theorem State.src_setCandH (k : Nat) (h : CandH) : (s.setCandH k h).src = s.src := (rfl)
@[simp] theorem State.est_setCandH (k : Nat) (h : CandH) : (s.setCandH k h).est = s.est := (rfl)
@[simp] theorem State.dst_setCandH (k : Nat) (h : CandH) : (s.setCandH k h).dst = s.dst := (rfl)
@[simp] theorem State.gens_setCandH (k : Nat) (h : CandH) : (s.setCandH k h).gens = s.gens := (rfl)
@[simp] theorem State.i2s_setCandH (k : Nat) (h : CandH) : (s.setCandH k h).i2s = s.i2s := (rfl)
@[simp] theorem State.mvh_setCandH (k : Nat) (h : CandH) : (s.setCandH k h).mvh = s.mvh := (rfl)
@[simp] theorem State.twn_setCandH (k : Nat) (h : CandH) : (s.setCandH k h).twn = s.twn := (rfl)
@[simp] theorem State.cls_setCandH (k : Nat) (h : CandH) : (s.setCandH k h).cls = s.cls := (rfl)
@[simp] theorem State.rx_setCandH (k : Nat) (h : CandH) : (s.setCandH k h).rx = s.rx := (rfl)
@[simp] theorem State.tx_setCandH (k : Nat) (h : CandH) : (s.setCandH k h).tx = s.tx := (rfl)
@[simp] theorem State.mac_setCandH (k : Nat) (h : CandH) : (s.setCandH k h).mac = s.mac := (rfl)
@[simp] theorem State.ctn_setCandH (k : Nat) (h : CandH) : (s.setCandH k h).ctn = s.ctn := (rfl)
@[simp] theorem State.fab_setCandH (k : Nat) (h : CandH) : (s.setCandH k h).fab = s.fab := (rfl)
@[simp] theorem State.chn_setCandH (k : Nat) (h : CandH) : (s.setCandH k h).chn = s.chn := (rfl)
@[simp] theorem State.mail_setCandH (k : Nat) (h : CandH) : (s.setCandH k h).mail = s.mail := (rfl)
@[simp] theorem State.nor_setCandH (k : Nat) (h : CandH) : (s.setCandH k h).nor = s.nor := (rfl)
@[simp] theorem State.otp_setCandH (k : Nat) (h : CandH) : (s.setCandH k h).otp = s.otp := (rfl)
@[simp] theorem State.mgt_setCandH (k : Nat) (h : CandH) : (s.setCandH k h).mgt = s.mgt := (rfl)
@[simp] theorem State.sens_setCandH (k : Nat) (h : CandH) : (s.setCandH k h).sens = s.sens := (rfl)
@[simp] theorem State.cbs_setCandH (k : Nat) (h : CandH) : (s.setCandH k h).cbs = s.cbs := (rfl)
@[simp] theorem State.jtag_setCandH (k : Nat) (h : CandH) : (s.setCandH k h).jtag = s.jtag := (rfl)
@[simp] theorem State.pin_setCandH (k : Nat) (h : CandH) : (s.setCandH k h).pin = s.pin := (rfl)
@[simp] theorem State.cellar_setCandH (k : Nat) (h : CandH) : (s.setCandH k h).cellar = s.cellar := (rfl)
@[simp] theorem State.candH_setWord (k : Nat) (a : Nat) (w : Word) : (s.setWord a w).candH k = s.candH k := (rfl)
@[simp] theorem State.candH_wr (k : Nat) (f : Field) (v : Nat) : (s.wr f v).candH k = s.candH k := (rfl)
@[simp] theorem State.planH_setPlanH (k : Nat) (h : PlanH) : (s.setPlanH k h).planH k = h := by simp [State.planH, State.setPlanH]
theorem State.planH_setPlanH_ne {k j : Nat} (h : PlanH) (hj : j ≠ k) : (s.setPlanH k h).planH j = s.planH j := by
  simp only [State.planH, State.setPlanH]; exact storeGet_set_ne _ _ h hj
@[simp] theorem State.word_setPlanH (k a : Nat) (h : PlanH) : (s.setPlanH k h).word a = s.word a := (rfl)
@[simp] theorem State.rd_setPlanH (k : Nat) (h : PlanH) (f : Field) : (s.setPlanH k h).rd f = s.rd f := (rfl)
@[simp] theorem State.pending_setPlanH (k : Nat) (h : PlanH) : (s.setPlanH k h).pending = s.pending := (rfl)
@[simp] theorem State.regs_setPlanH (k : Nat) (h : PlanH) : (s.setPlanH k h).regs = s.regs := (rfl)
@[simp] theorem State.now_setPlanH (k : Nat) (h : PlanH) : (s.setPlanH k h).now = s.now := (rfl)
@[simp] theorem State.lastRead_setPlanH (k : Nat) (h : PlanH) : (s.setPlanH k h).lastRead = s.lastRead := (rfl)
@[simp] theorem State.free_setPlanH (k : Nat) (h : PlanH) : (s.setPlanH k h).free = s.free := (rfl)
@[simp] theorem State.out_setPlanH (k : Nat) (h : PlanH) : (s.setPlanH k h).out = s.out := (rfl)
@[simp] theorem State.log_setPlanH (k : Nat) (h : PlanH) : (s.setPlanH k h).log = s.log := (rfl)
@[simp] theorem State.top_setPlanH (k : Nat) (h : PlanH) : (s.setPlanH k h).top = s.top := (rfl)
@[simp] theorem State.trl_setPlanH (k : Nat) (h : PlanH) : (s.setPlanH k h).trl = s.trl := (rfl)
@[simp] theorem State.cand_setPlanH (k : Nat) (h : PlanH) : (s.setPlanH k h).cand = s.cand := (rfl)
@[simp] theorem State.dpll_setPlanH (k : Nat) (h : PlanH) : (s.setPlanH k h).dpll = s.dpll := (rfl)
@[simp] theorem State.syn_setPlanH (k : Nat) (h : PlanH) : (s.setPlanH k h).syn = s.syn := (rfl)
@[simp] theorem State.ptp_setPlanH (k : Nat) (h : PlanH) : (s.setPlanH k h).ptp = s.ptp := (rfl)
@[simp] theorem State.rck_setPlanH (k : Nat) (h : PlanH) : (s.setPlanH k h).rck = s.rck := (rfl)
@[simp] theorem State.pci_setPlanH (k : Nat) (h : PlanH) : (s.setPlanH k h).pci = s.pci := (rfl)
@[simp] theorem State.ins_setPlanH (k : Nat) (h : PlanH) : (s.setPlanH k h).ins = s.ins := (rfl)
@[simp] theorem State.outs_setPlanH (k : Nat) (h : PlanH) : (s.setPlanH k h).outs = s.outs := (rfl)
@[simp] theorem State.adm_setPlanH (k : Nat) (h : PlanH) : (s.setPlanH k h).adm = s.adm := (rfl)
@[simp] theorem State.chans_setPlanH (k : Nat) (h : PlanH) : (s.setPlanH k h).chans = s.chans := (rfl)
@[simp] theorem State.ldg_setPlanH (k : Nat) (h : PlanH) : (s.setPlanH k h).ldg = s.ldg := (rfl)
@[simp] theorem State.aud_setPlanH (k : Nat) (h : PlanH) : (s.setPlanH k h).aud = s.aud := (rfl)
@[simp] theorem State.src_setPlanH (k : Nat) (h : PlanH) : (s.setPlanH k h).src = s.src := (rfl)
@[simp] theorem State.est_setPlanH (k : Nat) (h : PlanH) : (s.setPlanH k h).est = s.est := (rfl)
@[simp] theorem State.dst_setPlanH (k : Nat) (h : PlanH) : (s.setPlanH k h).dst = s.dst := (rfl)
@[simp] theorem State.gens_setPlanH (k : Nat) (h : PlanH) : (s.setPlanH k h).gens = s.gens := (rfl)
@[simp] theorem State.i2s_setPlanH (k : Nat) (h : PlanH) : (s.setPlanH k h).i2s = s.i2s := (rfl)
@[simp] theorem State.mvh_setPlanH (k : Nat) (h : PlanH) : (s.setPlanH k h).mvh = s.mvh := (rfl)
@[simp] theorem State.twn_setPlanH (k : Nat) (h : PlanH) : (s.setPlanH k h).twn = s.twn := (rfl)
@[simp] theorem State.cls_setPlanH (k : Nat) (h : PlanH) : (s.setPlanH k h).cls = s.cls := (rfl)
@[simp] theorem State.rx_setPlanH (k : Nat) (h : PlanH) : (s.setPlanH k h).rx = s.rx := (rfl)
@[simp] theorem State.tx_setPlanH (k : Nat) (h : PlanH) : (s.setPlanH k h).tx = s.tx := (rfl)
@[simp] theorem State.mac_setPlanH (k : Nat) (h : PlanH) : (s.setPlanH k h).mac = s.mac := (rfl)
@[simp] theorem State.ctn_setPlanH (k : Nat) (h : PlanH) : (s.setPlanH k h).ctn = s.ctn := (rfl)
@[simp] theorem State.fab_setPlanH (k : Nat) (h : PlanH) : (s.setPlanH k h).fab = s.fab := (rfl)
@[simp] theorem State.chn_setPlanH (k : Nat) (h : PlanH) : (s.setPlanH k h).chn = s.chn := (rfl)
@[simp] theorem State.mail_setPlanH (k : Nat) (h : PlanH) : (s.setPlanH k h).mail = s.mail := (rfl)
@[simp] theorem State.nor_setPlanH (k : Nat) (h : PlanH) : (s.setPlanH k h).nor = s.nor := (rfl)
@[simp] theorem State.otp_setPlanH (k : Nat) (h : PlanH) : (s.setPlanH k h).otp = s.otp := (rfl)
@[simp] theorem State.mgt_setPlanH (k : Nat) (h : PlanH) : (s.setPlanH k h).mgt = s.mgt := (rfl)
@[simp] theorem State.sens_setPlanH (k : Nat) (h : PlanH) : (s.setPlanH k h).sens = s.sens := (rfl)
@[simp] theorem State.cbs_setPlanH (k : Nat) (h : PlanH) : (s.setPlanH k h).cbs = s.cbs := (rfl)
@[simp] theorem State.jtag_setPlanH (k : Nat) (h : PlanH) : (s.setPlanH k h).jtag = s.jtag := (rfl)
@[simp] theorem State.pin_setPlanH (k : Nat) (h : PlanH) : (s.setPlanH k h).pin = s.pin := (rfl)
@[simp] theorem State.cellar_setPlanH (k : Nat) (h : PlanH) : (s.setPlanH k h).cellar = s.cellar := (rfl)
@[simp] theorem State.planH_setWord (k : Nat) (a : Nat) (w : Word) : (s.setWord a w).planH k = s.planH k := (rfl)
@[simp] theorem State.planH_wr (k : Nat) (f : Field) (v : Nat) : (s.wr f v).planH k = s.planH k := (rfl)
@[simp] theorem State.synH_setSynH (k : Nat) (h : SynH) : (s.setSynH k h).synH k = h := by simp [State.synH, State.setSynH]
theorem State.synH_setSynH_ne {k j : Nat} (h : SynH) (hj : j ≠ k) : (s.setSynH k h).synH j = s.synH j := by
  simp only [State.synH, State.setSynH]; exact storeGet_set_ne _ _ h hj
@[simp] theorem State.word_setSynH (k a : Nat) (h : SynH) : (s.setSynH k h).word a = s.word a := (rfl)
@[simp] theorem State.rd_setSynH (k : Nat) (h : SynH) (f : Field) : (s.setSynH k h).rd f = s.rd f := (rfl)
@[simp] theorem State.pending_setSynH (k : Nat) (h : SynH) : (s.setSynH k h).pending = s.pending := (rfl)
@[simp] theorem State.regs_setSynH (k : Nat) (h : SynH) : (s.setSynH k h).regs = s.regs := (rfl)
@[simp] theorem State.now_setSynH (k : Nat) (h : SynH) : (s.setSynH k h).now = s.now := (rfl)
@[simp] theorem State.lastRead_setSynH (k : Nat) (h : SynH) : (s.setSynH k h).lastRead = s.lastRead := (rfl)
@[simp] theorem State.free_setSynH (k : Nat) (h : SynH) : (s.setSynH k h).free = s.free := (rfl)
@[simp] theorem State.out_setSynH (k : Nat) (h : SynH) : (s.setSynH k h).out = s.out := (rfl)
@[simp] theorem State.log_setSynH (k : Nat) (h : SynH) : (s.setSynH k h).log = s.log := (rfl)
@[simp] theorem State.top_setSynH (k : Nat) (h : SynH) : (s.setSynH k h).top = s.top := (rfl)
@[simp] theorem State.trl_setSynH (k : Nat) (h : SynH) : (s.setSynH k h).trl = s.trl := (rfl)
@[simp] theorem State.cand_setSynH (k : Nat) (h : SynH) : (s.setSynH k h).cand = s.cand := (rfl)
@[simp] theorem State.dpll_setSynH (k : Nat) (h : SynH) : (s.setSynH k h).dpll = s.dpll := (rfl)
@[simp] theorem State.plan_setSynH (k : Nat) (h : SynH) : (s.setSynH k h).plan = s.plan := (rfl)
@[simp] theorem State.ptp_setSynH (k : Nat) (h : SynH) : (s.setSynH k h).ptp = s.ptp := (rfl)
@[simp] theorem State.rck_setSynH (k : Nat) (h : SynH) : (s.setSynH k h).rck = s.rck := (rfl)
@[simp] theorem State.pci_setSynH (k : Nat) (h : SynH) : (s.setSynH k h).pci = s.pci := (rfl)
@[simp] theorem State.ins_setSynH (k : Nat) (h : SynH) : (s.setSynH k h).ins = s.ins := (rfl)
@[simp] theorem State.outs_setSynH (k : Nat) (h : SynH) : (s.setSynH k h).outs = s.outs := (rfl)
@[simp] theorem State.adm_setSynH (k : Nat) (h : SynH) : (s.setSynH k h).adm = s.adm := (rfl)
@[simp] theorem State.chans_setSynH (k : Nat) (h : SynH) : (s.setSynH k h).chans = s.chans := (rfl)
@[simp] theorem State.ldg_setSynH (k : Nat) (h : SynH) : (s.setSynH k h).ldg = s.ldg := (rfl)
@[simp] theorem State.aud_setSynH (k : Nat) (h : SynH) : (s.setSynH k h).aud = s.aud := (rfl)
@[simp] theorem State.src_setSynH (k : Nat) (h : SynH) : (s.setSynH k h).src = s.src := (rfl)
@[simp] theorem State.est_setSynH (k : Nat) (h : SynH) : (s.setSynH k h).est = s.est := (rfl)
@[simp] theorem State.dst_setSynH (k : Nat) (h : SynH) : (s.setSynH k h).dst = s.dst := (rfl)
@[simp] theorem State.gens_setSynH (k : Nat) (h : SynH) : (s.setSynH k h).gens = s.gens := (rfl)
@[simp] theorem State.i2s_setSynH (k : Nat) (h : SynH) : (s.setSynH k h).i2s = s.i2s := (rfl)
@[simp] theorem State.mvh_setSynH (k : Nat) (h : SynH) : (s.setSynH k h).mvh = s.mvh := (rfl)
@[simp] theorem State.twn_setSynH (k : Nat) (h : SynH) : (s.setSynH k h).twn = s.twn := (rfl)
@[simp] theorem State.cls_setSynH (k : Nat) (h : SynH) : (s.setSynH k h).cls = s.cls := (rfl)
@[simp] theorem State.rx_setSynH (k : Nat) (h : SynH) : (s.setSynH k h).rx = s.rx := (rfl)
@[simp] theorem State.tx_setSynH (k : Nat) (h : SynH) : (s.setSynH k h).tx = s.tx := (rfl)
@[simp] theorem State.mac_setSynH (k : Nat) (h : SynH) : (s.setSynH k h).mac = s.mac := (rfl)
@[simp] theorem State.ctn_setSynH (k : Nat) (h : SynH) : (s.setSynH k h).ctn = s.ctn := (rfl)
@[simp] theorem State.fab_setSynH (k : Nat) (h : SynH) : (s.setSynH k h).fab = s.fab := (rfl)
@[simp] theorem State.chn_setSynH (k : Nat) (h : SynH) : (s.setSynH k h).chn = s.chn := (rfl)
@[simp] theorem State.mail_setSynH (k : Nat) (h : SynH) : (s.setSynH k h).mail = s.mail := (rfl)
@[simp] theorem State.nor_setSynH (k : Nat) (h : SynH) : (s.setSynH k h).nor = s.nor := (rfl)
@[simp] theorem State.otp_setSynH (k : Nat) (h : SynH) : (s.setSynH k h).otp = s.otp := (rfl)
@[simp] theorem State.mgt_setSynH (k : Nat) (h : SynH) : (s.setSynH k h).mgt = s.mgt := (rfl)
@[simp] theorem State.sens_setSynH (k : Nat) (h : SynH) : (s.setSynH k h).sens = s.sens := (rfl)
@[simp] theorem State.cbs_setSynH (k : Nat) (h : SynH) : (s.setSynH k h).cbs = s.cbs := (rfl)
@[simp] theorem State.jtag_setSynH (k : Nat) (h : SynH) : (s.setSynH k h).jtag = s.jtag := (rfl)
@[simp] theorem State.pin_setSynH (k : Nat) (h : SynH) : (s.setSynH k h).pin = s.pin := (rfl)
@[simp] theorem State.cellar_setSynH (k : Nat) (h : SynH) : (s.setSynH k h).cellar = s.cellar := (rfl)
@[simp] theorem State.synH_setWord (k : Nat) (a : Nat) (w : Word) : (s.setWord a w).synH k = s.synH k := (rfl)
@[simp] theorem State.synH_wr (k : Nat) (f : Field) (v : Nat) : (s.wr f v).synH k = s.synH k := (rfl)
@[simp] theorem State.ptpH_setPtpH (k : Nat) (h : PtpH) : (s.setPtpH k h).ptpH k = h := by simp [State.ptpH, State.setPtpH]
theorem State.ptpH_setPtpH_ne {k j : Nat} (h : PtpH) (hj : j ≠ k) : (s.setPtpH k h).ptpH j = s.ptpH j := by
  simp only [State.ptpH, State.setPtpH]; exact storeGet_set_ne _ _ h hj
@[simp] theorem State.word_setPtpH (k a : Nat) (h : PtpH) : (s.setPtpH k h).word a = s.word a := (rfl)
@[simp] theorem State.rd_setPtpH (k : Nat) (h : PtpH) (f : Field) : (s.setPtpH k h).rd f = s.rd f := (rfl)
@[simp] theorem State.pending_setPtpH (k : Nat) (h : PtpH) : (s.setPtpH k h).pending = s.pending := (rfl)
@[simp] theorem State.regs_setPtpH (k : Nat) (h : PtpH) : (s.setPtpH k h).regs = s.regs := (rfl)
@[simp] theorem State.now_setPtpH (k : Nat) (h : PtpH) : (s.setPtpH k h).now = s.now := (rfl)
@[simp] theorem State.lastRead_setPtpH (k : Nat) (h : PtpH) : (s.setPtpH k h).lastRead = s.lastRead := (rfl)
@[simp] theorem State.free_setPtpH (k : Nat) (h : PtpH) : (s.setPtpH k h).free = s.free := (rfl)
@[simp] theorem State.out_setPtpH (k : Nat) (h : PtpH) : (s.setPtpH k h).out = s.out := (rfl)
@[simp] theorem State.log_setPtpH (k : Nat) (h : PtpH) : (s.setPtpH k h).log = s.log := (rfl)
@[simp] theorem State.top_setPtpH (k : Nat) (h : PtpH) : (s.setPtpH k h).top = s.top := (rfl)
@[simp] theorem State.trl_setPtpH (k : Nat) (h : PtpH) : (s.setPtpH k h).trl = s.trl := (rfl)
@[simp] theorem State.cand_setPtpH (k : Nat) (h : PtpH) : (s.setPtpH k h).cand = s.cand := (rfl)
@[simp] theorem State.dpll_setPtpH (k : Nat) (h : PtpH) : (s.setPtpH k h).dpll = s.dpll := (rfl)
@[simp] theorem State.plan_setPtpH (k : Nat) (h : PtpH) : (s.setPtpH k h).plan = s.plan := (rfl)
@[simp] theorem State.syn_setPtpH (k : Nat) (h : PtpH) : (s.setPtpH k h).syn = s.syn := (rfl)
@[simp] theorem State.rck_setPtpH (k : Nat) (h : PtpH) : (s.setPtpH k h).rck = s.rck := (rfl)
@[simp] theorem State.pci_setPtpH (k : Nat) (h : PtpH) : (s.setPtpH k h).pci = s.pci := (rfl)
@[simp] theorem State.ins_setPtpH (k : Nat) (h : PtpH) : (s.setPtpH k h).ins = s.ins := (rfl)
@[simp] theorem State.outs_setPtpH (k : Nat) (h : PtpH) : (s.setPtpH k h).outs = s.outs := (rfl)
@[simp] theorem State.adm_setPtpH (k : Nat) (h : PtpH) : (s.setPtpH k h).adm = s.adm := (rfl)
@[simp] theorem State.chans_setPtpH (k : Nat) (h : PtpH) : (s.setPtpH k h).chans = s.chans := (rfl)
@[simp] theorem State.ldg_setPtpH (k : Nat) (h : PtpH) : (s.setPtpH k h).ldg = s.ldg := (rfl)
@[simp] theorem State.aud_setPtpH (k : Nat) (h : PtpH) : (s.setPtpH k h).aud = s.aud := (rfl)
@[simp] theorem State.src_setPtpH (k : Nat) (h : PtpH) : (s.setPtpH k h).src = s.src := (rfl)
@[simp] theorem State.est_setPtpH (k : Nat) (h : PtpH) : (s.setPtpH k h).est = s.est := (rfl)
@[simp] theorem State.dst_setPtpH (k : Nat) (h : PtpH) : (s.setPtpH k h).dst = s.dst := (rfl)
@[simp] theorem State.gens_setPtpH (k : Nat) (h : PtpH) : (s.setPtpH k h).gens = s.gens := (rfl)
@[simp] theorem State.i2s_setPtpH (k : Nat) (h : PtpH) : (s.setPtpH k h).i2s = s.i2s := (rfl)
@[simp] theorem State.mvh_setPtpH (k : Nat) (h : PtpH) : (s.setPtpH k h).mvh = s.mvh := (rfl)
@[simp] theorem State.twn_setPtpH (k : Nat) (h : PtpH) : (s.setPtpH k h).twn = s.twn := (rfl)
@[simp] theorem State.cls_setPtpH (k : Nat) (h : PtpH) : (s.setPtpH k h).cls = s.cls := (rfl)
@[simp] theorem State.rx_setPtpH (k : Nat) (h : PtpH) : (s.setPtpH k h).rx = s.rx := (rfl)
@[simp] theorem State.tx_setPtpH (k : Nat) (h : PtpH) : (s.setPtpH k h).tx = s.tx := (rfl)
@[simp] theorem State.mac_setPtpH (k : Nat) (h : PtpH) : (s.setPtpH k h).mac = s.mac := (rfl)
@[simp] theorem State.ctn_setPtpH (k : Nat) (h : PtpH) : (s.setPtpH k h).ctn = s.ctn := (rfl)
@[simp] theorem State.fab_setPtpH (k : Nat) (h : PtpH) : (s.setPtpH k h).fab = s.fab := (rfl)
@[simp] theorem State.chn_setPtpH (k : Nat) (h : PtpH) : (s.setPtpH k h).chn = s.chn := (rfl)
@[simp] theorem State.mail_setPtpH (k : Nat) (h : PtpH) : (s.setPtpH k h).mail = s.mail := (rfl)
@[simp] theorem State.nor_setPtpH (k : Nat) (h : PtpH) : (s.setPtpH k h).nor = s.nor := (rfl)
@[simp] theorem State.otp_setPtpH (k : Nat) (h : PtpH) : (s.setPtpH k h).otp = s.otp := (rfl)
@[simp] theorem State.mgt_setPtpH (k : Nat) (h : PtpH) : (s.setPtpH k h).mgt = s.mgt := (rfl)
@[simp] theorem State.sens_setPtpH (k : Nat) (h : PtpH) : (s.setPtpH k h).sens = s.sens := (rfl)
@[simp] theorem State.cbs_setPtpH (k : Nat) (h : PtpH) : (s.setPtpH k h).cbs = s.cbs := (rfl)
@[simp] theorem State.jtag_setPtpH (k : Nat) (h : PtpH) : (s.setPtpH k h).jtag = s.jtag := (rfl)
@[simp] theorem State.pin_setPtpH (k : Nat) (h : PtpH) : (s.setPtpH k h).pin = s.pin := (rfl)
@[simp] theorem State.cellar_setPtpH (k : Nat) (h : PtpH) : (s.setPtpH k h).cellar = s.cellar := (rfl)
@[simp] theorem State.ptpH_setWord (k : Nat) (a : Nat) (w : Word) : (s.setWord a w).ptpH k = s.ptpH k := (rfl)
@[simp] theorem State.ptpH_wr (k : Nat) (f : Field) (v : Nat) : (s.wr f v).ptpH k = s.ptpH k := (rfl)
@[simp] theorem State.rckH_setRckH (k : Nat) (h : RckH) : (s.setRckH k h).rckH k = h := by simp [State.rckH, State.setRckH]
theorem State.rckH_setRckH_ne {k j : Nat} (h : RckH) (hj : j ≠ k) : (s.setRckH k h).rckH j = s.rckH j := by
  simp only [State.rckH, State.setRckH]; exact storeGet_set_ne _ _ h hj
@[simp] theorem State.word_setRckH (k a : Nat) (h : RckH) : (s.setRckH k h).word a = s.word a := (rfl)
@[simp] theorem State.rd_setRckH (k : Nat) (h : RckH) (f : Field) : (s.setRckH k h).rd f = s.rd f := (rfl)
@[simp] theorem State.pending_setRckH (k : Nat) (h : RckH) : (s.setRckH k h).pending = s.pending := (rfl)
@[simp] theorem State.regs_setRckH (k : Nat) (h : RckH) : (s.setRckH k h).regs = s.regs := (rfl)
@[simp] theorem State.now_setRckH (k : Nat) (h : RckH) : (s.setRckH k h).now = s.now := (rfl)
@[simp] theorem State.lastRead_setRckH (k : Nat) (h : RckH) : (s.setRckH k h).lastRead = s.lastRead := (rfl)
@[simp] theorem State.free_setRckH (k : Nat) (h : RckH) : (s.setRckH k h).free = s.free := (rfl)
@[simp] theorem State.out_setRckH (k : Nat) (h : RckH) : (s.setRckH k h).out = s.out := (rfl)
@[simp] theorem State.log_setRckH (k : Nat) (h : RckH) : (s.setRckH k h).log = s.log := (rfl)
@[simp] theorem State.top_setRckH (k : Nat) (h : RckH) : (s.setRckH k h).top = s.top := (rfl)
@[simp] theorem State.trl_setRckH (k : Nat) (h : RckH) : (s.setRckH k h).trl = s.trl := (rfl)
@[simp] theorem State.cand_setRckH (k : Nat) (h : RckH) : (s.setRckH k h).cand = s.cand := (rfl)
@[simp] theorem State.dpll_setRckH (k : Nat) (h : RckH) : (s.setRckH k h).dpll = s.dpll := (rfl)
@[simp] theorem State.plan_setRckH (k : Nat) (h : RckH) : (s.setRckH k h).plan = s.plan := (rfl)
@[simp] theorem State.syn_setRckH (k : Nat) (h : RckH) : (s.setRckH k h).syn = s.syn := (rfl)
@[simp] theorem State.ptp_setRckH (k : Nat) (h : RckH) : (s.setRckH k h).ptp = s.ptp := (rfl)
@[simp] theorem State.pci_setRckH (k : Nat) (h : RckH) : (s.setRckH k h).pci = s.pci := (rfl)
@[simp] theorem State.ins_setRckH (k : Nat) (h : RckH) : (s.setRckH k h).ins = s.ins := (rfl)
@[simp] theorem State.outs_setRckH (k : Nat) (h : RckH) : (s.setRckH k h).outs = s.outs := (rfl)
@[simp] theorem State.adm_setRckH (k : Nat) (h : RckH) : (s.setRckH k h).adm = s.adm := (rfl)
@[simp] theorem State.chans_setRckH (k : Nat) (h : RckH) : (s.setRckH k h).chans = s.chans := (rfl)
@[simp] theorem State.ldg_setRckH (k : Nat) (h : RckH) : (s.setRckH k h).ldg = s.ldg := (rfl)
@[simp] theorem State.aud_setRckH (k : Nat) (h : RckH) : (s.setRckH k h).aud = s.aud := (rfl)
@[simp] theorem State.src_setRckH (k : Nat) (h : RckH) : (s.setRckH k h).src = s.src := (rfl)
@[simp] theorem State.est_setRckH (k : Nat) (h : RckH) : (s.setRckH k h).est = s.est := (rfl)
@[simp] theorem State.dst_setRckH (k : Nat) (h : RckH) : (s.setRckH k h).dst = s.dst := (rfl)
@[simp] theorem State.gens_setRckH (k : Nat) (h : RckH) : (s.setRckH k h).gens = s.gens := (rfl)
@[simp] theorem State.i2s_setRckH (k : Nat) (h : RckH) : (s.setRckH k h).i2s = s.i2s := (rfl)
@[simp] theorem State.mvh_setRckH (k : Nat) (h : RckH) : (s.setRckH k h).mvh = s.mvh := (rfl)
@[simp] theorem State.twn_setRckH (k : Nat) (h : RckH) : (s.setRckH k h).twn = s.twn := (rfl)
@[simp] theorem State.cls_setRckH (k : Nat) (h : RckH) : (s.setRckH k h).cls = s.cls := (rfl)
@[simp] theorem State.rx_setRckH (k : Nat) (h : RckH) : (s.setRckH k h).rx = s.rx := (rfl)
@[simp] theorem State.tx_setRckH (k : Nat) (h : RckH) : (s.setRckH k h).tx = s.tx := (rfl)
@[simp] theorem State.mac_setRckH (k : Nat) (h : RckH) : (s.setRckH k h).mac = s.mac := (rfl)
@[simp] theorem State.ctn_setRckH (k : Nat) (h : RckH) : (s.setRckH k h).ctn = s.ctn := (rfl)
@[simp] theorem State.fab_setRckH (k : Nat) (h : RckH) : (s.setRckH k h).fab = s.fab := (rfl)
@[simp] theorem State.chn_setRckH (k : Nat) (h : RckH) : (s.setRckH k h).chn = s.chn := (rfl)
@[simp] theorem State.mail_setRckH (k : Nat) (h : RckH) : (s.setRckH k h).mail = s.mail := (rfl)
@[simp] theorem State.nor_setRckH (k : Nat) (h : RckH) : (s.setRckH k h).nor = s.nor := (rfl)
@[simp] theorem State.otp_setRckH (k : Nat) (h : RckH) : (s.setRckH k h).otp = s.otp := (rfl)
@[simp] theorem State.mgt_setRckH (k : Nat) (h : RckH) : (s.setRckH k h).mgt = s.mgt := (rfl)
@[simp] theorem State.sens_setRckH (k : Nat) (h : RckH) : (s.setRckH k h).sens = s.sens := (rfl)
@[simp] theorem State.cbs_setRckH (k : Nat) (h : RckH) : (s.setRckH k h).cbs = s.cbs := (rfl)
@[simp] theorem State.jtag_setRckH (k : Nat) (h : RckH) : (s.setRckH k h).jtag = s.jtag := (rfl)
@[simp] theorem State.pin_setRckH (k : Nat) (h : RckH) : (s.setRckH k h).pin = s.pin := (rfl)
@[simp] theorem State.cellar_setRckH (k : Nat) (h : RckH) : (s.setRckH k h).cellar = s.cellar := (rfl)
@[simp] theorem State.rckH_setWord (k : Nat) (a : Nat) (w : Word) : (s.setWord a w).rckH k = s.rckH k := (rfl)
@[simp] theorem State.rckH_wr (k : Nat) (f : Field) (v : Nat) : (s.wr f v).rckH k = s.rckH k := (rfl)
@[simp] theorem State.ctnH_setCtnH (k : Nat) (h : CtnH) : (s.setCtnH k h).ctnH k = h := by simp [State.ctnH, State.setCtnH]
theorem State.ctnH_setCtnH_ne {k j : Nat} (h : CtnH) (hj : j ≠ k) : (s.setCtnH k h).ctnH j = s.ctnH j := by
  simp only [State.ctnH, State.setCtnH]; exact storeGet_set_ne _ _ h hj
@[simp] theorem State.word_setCtnH (k a : Nat) (h : CtnH) : (s.setCtnH k h).word a = s.word a := (rfl)
@[simp] theorem State.rd_setCtnH (k : Nat) (h : CtnH) (f : Field) : (s.setCtnH k h).rd f = s.rd f := (rfl)
@[simp] theorem State.pending_setCtnH (k : Nat) (h : CtnH) : (s.setCtnH k h).pending = s.pending := (rfl)
@[simp] theorem State.regs_setCtnH (k : Nat) (h : CtnH) : (s.setCtnH k h).regs = s.regs := (rfl)
@[simp] theorem State.now_setCtnH (k : Nat) (h : CtnH) : (s.setCtnH k h).now = s.now := (rfl)
@[simp] theorem State.lastRead_setCtnH (k : Nat) (h : CtnH) : (s.setCtnH k h).lastRead = s.lastRead := (rfl)
@[simp] theorem State.free_setCtnH (k : Nat) (h : CtnH) : (s.setCtnH k h).free = s.free := (rfl)
@[simp] theorem State.out_setCtnH (k : Nat) (h : CtnH) : (s.setCtnH k h).out = s.out := (rfl)
@[simp] theorem State.log_setCtnH (k : Nat) (h : CtnH) : (s.setCtnH k h).log = s.log := (rfl)
@[simp] theorem State.top_setCtnH (k : Nat) (h : CtnH) : (s.setCtnH k h).top = s.top := (rfl)
@[simp] theorem State.trl_setCtnH (k : Nat) (h : CtnH) : (s.setCtnH k h).trl = s.trl := (rfl)
@[simp] theorem State.cand_setCtnH (k : Nat) (h : CtnH) : (s.setCtnH k h).cand = s.cand := (rfl)
@[simp] theorem State.dpll_setCtnH (k : Nat) (h : CtnH) : (s.setCtnH k h).dpll = s.dpll := (rfl)
@[simp] theorem State.plan_setCtnH (k : Nat) (h : CtnH) : (s.setCtnH k h).plan = s.plan := (rfl)
@[simp] theorem State.syn_setCtnH (k : Nat) (h : CtnH) : (s.setCtnH k h).syn = s.syn := (rfl)
@[simp] theorem State.ptp_setCtnH (k : Nat) (h : CtnH) : (s.setCtnH k h).ptp = s.ptp := (rfl)
@[simp] theorem State.rck_setCtnH (k : Nat) (h : CtnH) : (s.setCtnH k h).rck = s.rck := (rfl)
@[simp] theorem State.pci_setCtnH (k : Nat) (h : CtnH) : (s.setCtnH k h).pci = s.pci := (rfl)
@[simp] theorem State.ins_setCtnH (k : Nat) (h : CtnH) : (s.setCtnH k h).ins = s.ins := (rfl)
@[simp] theorem State.outs_setCtnH (k : Nat) (h : CtnH) : (s.setCtnH k h).outs = s.outs := (rfl)
@[simp] theorem State.adm_setCtnH (k : Nat) (h : CtnH) : (s.setCtnH k h).adm = s.adm := (rfl)
@[simp] theorem State.chans_setCtnH (k : Nat) (h : CtnH) : (s.setCtnH k h).chans = s.chans := (rfl)
@[simp] theorem State.ldg_setCtnH (k : Nat) (h : CtnH) : (s.setCtnH k h).ldg = s.ldg := (rfl)
@[simp] theorem State.aud_setCtnH (k : Nat) (h : CtnH) : (s.setCtnH k h).aud = s.aud := (rfl)
@[simp] theorem State.src_setCtnH (k : Nat) (h : CtnH) : (s.setCtnH k h).src = s.src := (rfl)
@[simp] theorem State.est_setCtnH (k : Nat) (h : CtnH) : (s.setCtnH k h).est = s.est := (rfl)
@[simp] theorem State.dst_setCtnH (k : Nat) (h : CtnH) : (s.setCtnH k h).dst = s.dst := (rfl)
@[simp] theorem State.gens_setCtnH (k : Nat) (h : CtnH) : (s.setCtnH k h).gens = s.gens := (rfl)
@[simp] theorem State.i2s_setCtnH (k : Nat) (h : CtnH) : (s.setCtnH k h).i2s = s.i2s := (rfl)
@[simp] theorem State.mvh_setCtnH (k : Nat) (h : CtnH) : (s.setCtnH k h).mvh = s.mvh := (rfl)
@[simp] theorem State.twn_setCtnH (k : Nat) (h : CtnH) : (s.setCtnH k h).twn = s.twn := (rfl)
@[simp] theorem State.cls_setCtnH (k : Nat) (h : CtnH) : (s.setCtnH k h).cls = s.cls := (rfl)
@[simp] theorem State.rx_setCtnH (k : Nat) (h : CtnH) : (s.setCtnH k h).rx = s.rx := (rfl)
@[simp] theorem State.tx_setCtnH (k : Nat) (h : CtnH) : (s.setCtnH k h).tx = s.tx := (rfl)
@[simp] theorem State.mac_setCtnH (k : Nat) (h : CtnH) : (s.setCtnH k h).mac = s.mac := (rfl)
@[simp] theorem State.fab_setCtnH (k : Nat) (h : CtnH) : (s.setCtnH k h).fab = s.fab := (rfl)
@[simp] theorem State.chn_setCtnH (k : Nat) (h : CtnH) : (s.setCtnH k h).chn = s.chn := (rfl)
@[simp] theorem State.mail_setCtnH (k : Nat) (h : CtnH) : (s.setCtnH k h).mail = s.mail := (rfl)
@[simp] theorem State.nor_setCtnH (k : Nat) (h : CtnH) : (s.setCtnH k h).nor = s.nor := (rfl)
@[simp] theorem State.otp_setCtnH (k : Nat) (h : CtnH) : (s.setCtnH k h).otp = s.otp := (rfl)
@[simp] theorem State.mgt_setCtnH (k : Nat) (h : CtnH) : (s.setCtnH k h).mgt = s.mgt := (rfl)
@[simp] theorem State.sens_setCtnH (k : Nat) (h : CtnH) : (s.setCtnH k h).sens = s.sens := (rfl)
@[simp] theorem State.cbs_setCtnH (k : Nat) (h : CtnH) : (s.setCtnH k h).cbs = s.cbs := (rfl)
@[simp] theorem State.jtag_setCtnH (k : Nat) (h : CtnH) : (s.setCtnH k h).jtag = s.jtag := (rfl)
@[simp] theorem State.pin_setCtnH (k : Nat) (h : CtnH) : (s.setCtnH k h).pin = s.pin := (rfl)
@[simp] theorem State.cellar_setCtnH (k : Nat) (h : CtnH) : (s.setCtnH k h).cellar = s.cellar := (rfl)
@[simp] theorem State.ctnH_setWord (k : Nat) (a : Nat) (w : Word) : (s.setWord a w).ctnH k = s.ctnH k := (rfl)
@[simp] theorem State.ctnH_wr (k : Nat) (f : Field) (v : Nat) : (s.wr f v).ctnH k = s.ctnH k := (rfl)
@[simp] theorem State.chnH_setChnH (k : Nat) (h : ChnH) : (s.setChnH k h).chnH k = h := by simp [State.chnH, State.setChnH]
theorem State.chnH_setChnH_ne {k j : Nat} (h : ChnH) (hj : j ≠ k) : (s.setChnH k h).chnH j = s.chnH j := by
  simp only [State.chnH, State.setChnH]; exact storeGet_set_ne _ _ h hj
@[simp] theorem State.word_setChnH (k a : Nat) (h : ChnH) : (s.setChnH k h).word a = s.word a := (rfl)
@[simp] theorem State.rd_setChnH (k : Nat) (h : ChnH) (f : Field) : (s.setChnH k h).rd f = s.rd f := (rfl)
@[simp] theorem State.pending_setChnH (k : Nat) (h : ChnH) : (s.setChnH k h).pending = s.pending := (rfl)
@[simp] theorem State.regs_setChnH (k : Nat) (h : ChnH) : (s.setChnH k h).regs = s.regs := (rfl)
@[simp] theorem State.now_setChnH (k : Nat) (h : ChnH) : (s.setChnH k h).now = s.now := (rfl)
@[simp] theorem State.lastRead_setChnH (k : Nat) (h : ChnH) : (s.setChnH k h).lastRead = s.lastRead := (rfl)
@[simp] theorem State.free_setChnH (k : Nat) (h : ChnH) : (s.setChnH k h).free = s.free := (rfl)
@[simp] theorem State.out_setChnH (k : Nat) (h : ChnH) : (s.setChnH k h).out = s.out := (rfl)
@[simp] theorem State.log_setChnH (k : Nat) (h : ChnH) : (s.setChnH k h).log = s.log := (rfl)
@[simp] theorem State.top_setChnH (k : Nat) (h : ChnH) : (s.setChnH k h).top = s.top := (rfl)
@[simp] theorem State.trl_setChnH (k : Nat) (h : ChnH) : (s.setChnH k h).trl = s.trl := (rfl)
@[simp] theorem State.cand_setChnH (k : Nat) (h : ChnH) : (s.setChnH k h).cand = s.cand := (rfl)
@[simp] theorem State.dpll_setChnH (k : Nat) (h : ChnH) : (s.setChnH k h).dpll = s.dpll := (rfl)
@[simp] theorem State.plan_setChnH (k : Nat) (h : ChnH) : (s.setChnH k h).plan = s.plan := (rfl)
@[simp] theorem State.syn_setChnH (k : Nat) (h : ChnH) : (s.setChnH k h).syn = s.syn := (rfl)
@[simp] theorem State.ptp_setChnH (k : Nat) (h : ChnH) : (s.setChnH k h).ptp = s.ptp := (rfl)
@[simp] theorem State.rck_setChnH (k : Nat) (h : ChnH) : (s.setChnH k h).rck = s.rck := (rfl)
@[simp] theorem State.pci_setChnH (k : Nat) (h : ChnH) : (s.setChnH k h).pci = s.pci := (rfl)
@[simp] theorem State.ins_setChnH (k : Nat) (h : ChnH) : (s.setChnH k h).ins = s.ins := (rfl)
@[simp] theorem State.outs_setChnH (k : Nat) (h : ChnH) : (s.setChnH k h).outs = s.outs := (rfl)
@[simp] theorem State.adm_setChnH (k : Nat) (h : ChnH) : (s.setChnH k h).adm = s.adm := (rfl)
@[simp] theorem State.chans_setChnH (k : Nat) (h : ChnH) : (s.setChnH k h).chans = s.chans := (rfl)
@[simp] theorem State.ldg_setChnH (k : Nat) (h : ChnH) : (s.setChnH k h).ldg = s.ldg := (rfl)
@[simp] theorem State.aud_setChnH (k : Nat) (h : ChnH) : (s.setChnH k h).aud = s.aud := (rfl)
@[simp] theorem State.src_setChnH (k : Nat) (h : ChnH) : (s.setChnH k h).src = s.src := (rfl)
@[simp] theorem State.est_setChnH (k : Nat) (h : ChnH) : (s.setChnH k h).est = s.est := (rfl)
@[simp] theorem State.dst_setChnH (k : Nat) (h : ChnH) : (s.setChnH k h).dst = s.dst := (rfl)
@[simp] theorem State.gens_setChnH (k : Nat) (h : ChnH) : (s.setChnH k h).gens = s.gens := (rfl)
@[simp] theorem State.i2s_setChnH (k : Nat) (h : ChnH) : (s.setChnH k h).i2s = s.i2s := (rfl)
@[simp] theorem State.mvh_setChnH (k : Nat) (h : ChnH) : (s.setChnH k h).mvh = s.mvh := (rfl)
@[simp] theorem State.twn_setChnH (k : Nat) (h : ChnH) : (s.setChnH k h).twn = s.twn := (rfl)
@[simp] theorem State.cls_setChnH (k : Nat) (h : ChnH) : (s.setChnH k h).cls = s.cls := (rfl)
@[simp] theorem State.rx_setChnH (k : Nat) (h : ChnH) : (s.setChnH k h).rx = s.rx := (rfl)
@[simp] theorem State.tx_setChnH (k : Nat) (h : ChnH) : (s.setChnH k h).tx = s.tx := (rfl)
@[simp] theorem State.mac_setChnH (k : Nat) (h : ChnH) : (s.setChnH k h).mac = s.mac := (rfl)
@[simp] theorem State.ctn_setChnH (k : Nat) (h : ChnH) : (s.setChnH k h).ctn = s.ctn := (rfl)
@[simp] theorem State.fab_setChnH (k : Nat) (h : ChnH) : (s.setChnH k h).fab = s.fab := (rfl)
@[simp] theorem State.mail_setChnH (k : Nat) (h : ChnH) : (s.setChnH k h).mail = s.mail := (rfl)
@[simp] theorem State.nor_setChnH (k : Nat) (h : ChnH) : (s.setChnH k h).nor = s.nor := (rfl)
@[simp] theorem State.otp_setChnH (k : Nat) (h : ChnH) : (s.setChnH k h).otp = s.otp := (rfl)
@[simp] theorem State.mgt_setChnH (k : Nat) (h : ChnH) : (s.setChnH k h).mgt = s.mgt := (rfl)
@[simp] theorem State.sens_setChnH (k : Nat) (h : ChnH) : (s.setChnH k h).sens = s.sens := (rfl)
@[simp] theorem State.cbs_setChnH (k : Nat) (h : ChnH) : (s.setChnH k h).cbs = s.cbs := (rfl)
@[simp] theorem State.jtag_setChnH (k : Nat) (h : ChnH) : (s.setChnH k h).jtag = s.jtag := (rfl)
@[simp] theorem State.pin_setChnH (k : Nat) (h : ChnH) : (s.setChnH k h).pin = s.pin := (rfl)
@[simp] theorem State.cellar_setChnH (k : Nat) (h : ChnH) : (s.setChnH k h).cellar = s.cellar := (rfl)
@[simp] theorem State.chnH_setWord (k : Nat) (a : Nat) (w : Word) : (s.setWord a w).chnH k = s.chnH k := (rfl)
@[simp] theorem State.chnH_wr (k : Nat) (f : Field) (v : Nat) : (s.wr f v).chnH k = s.chnH k := (rfl)
@[simp] theorem State.mailH_setMailH (k : Nat) (h : MailH) : (s.setMailH k h).mailH k = h := by simp [State.mailH, State.setMailH]
theorem State.mailH_setMailH_ne {k j : Nat} (h : MailH) (hj : j ≠ k) : (s.setMailH k h).mailH j = s.mailH j := by
  simp only [State.mailH, State.setMailH]; exact storeGet_set_ne _ _ h hj
@[simp] theorem State.word_setMailH (k a : Nat) (h : MailH) : (s.setMailH k h).word a = s.word a := (rfl)
@[simp] theorem State.rd_setMailH (k : Nat) (h : MailH) (f : Field) : (s.setMailH k h).rd f = s.rd f := (rfl)
@[simp] theorem State.pending_setMailH (k : Nat) (h : MailH) : (s.setMailH k h).pending = s.pending := (rfl)
@[simp] theorem State.regs_setMailH (k : Nat) (h : MailH) : (s.setMailH k h).regs = s.regs := (rfl)
@[simp] theorem State.now_setMailH (k : Nat) (h : MailH) : (s.setMailH k h).now = s.now := (rfl)
@[simp] theorem State.lastRead_setMailH (k : Nat) (h : MailH) : (s.setMailH k h).lastRead = s.lastRead := (rfl)
@[simp] theorem State.free_setMailH (k : Nat) (h : MailH) : (s.setMailH k h).free = s.free := (rfl)
@[simp] theorem State.out_setMailH (k : Nat) (h : MailH) : (s.setMailH k h).out = s.out := (rfl)
@[simp] theorem State.log_setMailH (k : Nat) (h : MailH) : (s.setMailH k h).log = s.log := (rfl)
@[simp] theorem State.top_setMailH (k : Nat) (h : MailH) : (s.setMailH k h).top = s.top := (rfl)
@[simp] theorem State.trl_setMailH (k : Nat) (h : MailH) : (s.setMailH k h).trl = s.trl := (rfl)
@[simp] theorem State.cand_setMailH (k : Nat) (h : MailH) : (s.setMailH k h).cand = s.cand := (rfl)
@[simp] theorem State.dpll_setMailH (k : Nat) (h : MailH) : (s.setMailH k h).dpll = s.dpll := (rfl)
@[simp] theorem State.plan_setMailH (k : Nat) (h : MailH) : (s.setMailH k h).plan = s.plan := (rfl)
@[simp] theorem State.syn_setMailH (k : Nat) (h : MailH) : (s.setMailH k h).syn = s.syn := (rfl)
@[simp] theorem State.ptp_setMailH (k : Nat) (h : MailH) : (s.setMailH k h).ptp = s.ptp := (rfl)
@[simp] theorem State.rck_setMailH (k : Nat) (h : MailH) : (s.setMailH k h).rck = s.rck := (rfl)
@[simp] theorem State.pci_setMailH (k : Nat) (h : MailH) : (s.setMailH k h).pci = s.pci := (rfl)
@[simp] theorem State.ins_setMailH (k : Nat) (h : MailH) : (s.setMailH k h).ins = s.ins := (rfl)
@[simp] theorem State.outs_setMailH (k : Nat) (h : MailH) : (s.setMailH k h).outs = s.outs := (rfl)
@[simp] theorem State.adm_setMailH (k : Nat) (h : MailH) : (s.setMailH k h).adm = s.adm := (rfl)
@[simp] theorem State.chans_setMailH (k : Nat) (h : MailH) : (s.setMailH k h).chans = s.chans := (rfl)
@[simp] theorem State.ldg_setMailH (k : Nat) (h : MailH) : (s.setMailH k h).ldg = s.ldg := (rfl)
@[simp] theorem State.aud_setMailH (k : Nat) (h : MailH) : (s.setMailH k h).aud = s.aud := (rfl)
@[simp] theorem State.src_setMailH (k : Nat) (h : MailH) : (s.setMailH k h).src = s.src := (rfl)
@[simp] theorem State.est_setMailH (k : Nat) (h : MailH) : (s.setMailH k h).est = s.est := (rfl)
@[simp] theorem State.dst_setMailH (k : Nat) (h : MailH) : (s.setMailH k h).dst = s.dst := (rfl)
@[simp] theorem State.gens_setMailH (k : Nat) (h : MailH) : (s.setMailH k h).gens = s.gens := (rfl)
@[simp] theorem State.i2s_setMailH (k : Nat) (h : MailH) : (s.setMailH k h).i2s = s.i2s := (rfl)
@[simp] theorem State.mvh_setMailH (k : Nat) (h : MailH) : (s.setMailH k h).mvh = s.mvh := (rfl)
@[simp] theorem State.twn_setMailH (k : Nat) (h : MailH) : (s.setMailH k h).twn = s.twn := (rfl)
@[simp] theorem State.cls_setMailH (k : Nat) (h : MailH) : (s.setMailH k h).cls = s.cls := (rfl)
@[simp] theorem State.rx_setMailH (k : Nat) (h : MailH) : (s.setMailH k h).rx = s.rx := (rfl)
@[simp] theorem State.tx_setMailH (k : Nat) (h : MailH) : (s.setMailH k h).tx = s.tx := (rfl)
@[simp] theorem State.mac_setMailH (k : Nat) (h : MailH) : (s.setMailH k h).mac = s.mac := (rfl)
@[simp] theorem State.ctn_setMailH (k : Nat) (h : MailH) : (s.setMailH k h).ctn = s.ctn := (rfl)
@[simp] theorem State.fab_setMailH (k : Nat) (h : MailH) : (s.setMailH k h).fab = s.fab := (rfl)
@[simp] theorem State.chn_setMailH (k : Nat) (h : MailH) : (s.setMailH k h).chn = s.chn := (rfl)
@[simp] theorem State.nor_setMailH (k : Nat) (h : MailH) : (s.setMailH k h).nor = s.nor := (rfl)
@[simp] theorem State.otp_setMailH (k : Nat) (h : MailH) : (s.setMailH k h).otp = s.otp := (rfl)
@[simp] theorem State.mgt_setMailH (k : Nat) (h : MailH) : (s.setMailH k h).mgt = s.mgt := (rfl)
@[simp] theorem State.sens_setMailH (k : Nat) (h : MailH) : (s.setMailH k h).sens = s.sens := (rfl)
@[simp] theorem State.cbs_setMailH (k : Nat) (h : MailH) : (s.setMailH k h).cbs = s.cbs := (rfl)
@[simp] theorem State.jtag_setMailH (k : Nat) (h : MailH) : (s.setMailH k h).jtag = s.jtag := (rfl)
@[simp] theorem State.pin_setMailH (k : Nat) (h : MailH) : (s.setMailH k h).pin = s.pin := (rfl)
@[simp] theorem State.cellar_setMailH (k : Nat) (h : MailH) : (s.setMailH k h).cellar = s.cellar := (rfl)
@[simp] theorem State.mailH_setWord (k : Nat) (a : Nat) (w : Word) : (s.setWord a w).mailH k = s.mailH k := (rfl)
@[simp] theorem State.mailH_wr (k : Nat) (f : Field) (v : Nat) : (s.wr f v).mailH k = s.mailH k := (rfl)
@[simp] theorem State.sensH_setSensH (k : Nat) (h : SensH) : (s.setSensH k h).sensH k = h := by simp [State.sensH, State.setSensH]
theorem State.sensH_setSensH_ne {k j : Nat} (h : SensH) (hj : j ≠ k) : (s.setSensH k h).sensH j = s.sensH j := by
  simp only [State.sensH, State.setSensH]; exact storeGet_set_ne _ _ h hj
@[simp] theorem State.word_setSensH (k a : Nat) (h : SensH) : (s.setSensH k h).word a = s.word a := (rfl)
@[simp] theorem State.rd_setSensH (k : Nat) (h : SensH) (f : Field) : (s.setSensH k h).rd f = s.rd f := (rfl)
@[simp] theorem State.pending_setSensH (k : Nat) (h : SensH) : (s.setSensH k h).pending = s.pending := (rfl)
@[simp] theorem State.regs_setSensH (k : Nat) (h : SensH) : (s.setSensH k h).regs = s.regs := (rfl)
@[simp] theorem State.now_setSensH (k : Nat) (h : SensH) : (s.setSensH k h).now = s.now := (rfl)
@[simp] theorem State.lastRead_setSensH (k : Nat) (h : SensH) : (s.setSensH k h).lastRead = s.lastRead := (rfl)
@[simp] theorem State.free_setSensH (k : Nat) (h : SensH) : (s.setSensH k h).free = s.free := (rfl)
@[simp] theorem State.out_setSensH (k : Nat) (h : SensH) : (s.setSensH k h).out = s.out := (rfl)
@[simp] theorem State.log_setSensH (k : Nat) (h : SensH) : (s.setSensH k h).log = s.log := (rfl)
@[simp] theorem State.top_setSensH (k : Nat) (h : SensH) : (s.setSensH k h).top = s.top := (rfl)
@[simp] theorem State.trl_setSensH (k : Nat) (h : SensH) : (s.setSensH k h).trl = s.trl := (rfl)
@[simp] theorem State.cand_setSensH (k : Nat) (h : SensH) : (s.setSensH k h).cand = s.cand := (rfl)
@[simp] theorem State.dpll_setSensH (k : Nat) (h : SensH) : (s.setSensH k h).dpll = s.dpll := (rfl)
@[simp] theorem State.plan_setSensH (k : Nat) (h : SensH) : (s.setSensH k h).plan = s.plan := (rfl)
@[simp] theorem State.syn_setSensH (k : Nat) (h : SensH) : (s.setSensH k h).syn = s.syn := (rfl)
@[simp] theorem State.ptp_setSensH (k : Nat) (h : SensH) : (s.setSensH k h).ptp = s.ptp := (rfl)
@[simp] theorem State.rck_setSensH (k : Nat) (h : SensH) : (s.setSensH k h).rck = s.rck := (rfl)
@[simp] theorem State.pci_setSensH (k : Nat) (h : SensH) : (s.setSensH k h).pci = s.pci := (rfl)
@[simp] theorem State.ins_setSensH (k : Nat) (h : SensH) : (s.setSensH k h).ins = s.ins := (rfl)
@[simp] theorem State.outs_setSensH (k : Nat) (h : SensH) : (s.setSensH k h).outs = s.outs := (rfl)
@[simp] theorem State.adm_setSensH (k : Nat) (h : SensH) : (s.setSensH k h).adm = s.adm := (rfl)
@[simp] theorem State.chans_setSensH (k : Nat) (h : SensH) : (s.setSensH k h).chans = s.chans := (rfl)
@[simp] theorem State.ldg_setSensH (k : Nat) (h : SensH) : (s.setSensH k h).ldg = s.ldg := (rfl)
@[simp] theorem State.aud_setSensH (k : Nat) (h : SensH) : (s.setSensH k h).aud = s.aud := (rfl)
@[simp] theorem State.src_setSensH (k : Nat) (h : SensH) : (s.setSensH k h).src = s.src := (rfl)
@[simp] theorem State.est_setSensH (k : Nat) (h : SensH) : (s.setSensH k h).est = s.est := (rfl)
@[simp] theorem State.dst_setSensH (k : Nat) (h : SensH) : (s.setSensH k h).dst = s.dst := (rfl)
@[simp] theorem State.gens_setSensH (k : Nat) (h : SensH) : (s.setSensH k h).gens = s.gens := (rfl)
@[simp] theorem State.i2s_setSensH (k : Nat) (h : SensH) : (s.setSensH k h).i2s = s.i2s := (rfl)
@[simp] theorem State.mvh_setSensH (k : Nat) (h : SensH) : (s.setSensH k h).mvh = s.mvh := (rfl)
@[simp] theorem State.twn_setSensH (k : Nat) (h : SensH) : (s.setSensH k h).twn = s.twn := (rfl)
@[simp] theorem State.cls_setSensH (k : Nat) (h : SensH) : (s.setSensH k h).cls = s.cls := (rfl)
@[simp] theorem State.rx_setSensH (k : Nat) (h : SensH) : (s.setSensH k h).rx = s.rx := (rfl)
@[simp] theorem State.tx_setSensH (k : Nat) (h : SensH) : (s.setSensH k h).tx = s.tx := (rfl)
@[simp] theorem State.mac_setSensH (k : Nat) (h : SensH) : (s.setSensH k h).mac = s.mac := (rfl)
@[simp] theorem State.ctn_setSensH (k : Nat) (h : SensH) : (s.setSensH k h).ctn = s.ctn := (rfl)
@[simp] theorem State.fab_setSensH (k : Nat) (h : SensH) : (s.setSensH k h).fab = s.fab := (rfl)
@[simp] theorem State.chn_setSensH (k : Nat) (h : SensH) : (s.setSensH k h).chn = s.chn := (rfl)
@[simp] theorem State.mail_setSensH (k : Nat) (h : SensH) : (s.setSensH k h).mail = s.mail := (rfl)
@[simp] theorem State.nor_setSensH (k : Nat) (h : SensH) : (s.setSensH k h).nor = s.nor := (rfl)
@[simp] theorem State.otp_setSensH (k : Nat) (h : SensH) : (s.setSensH k h).otp = s.otp := (rfl)
@[simp] theorem State.mgt_setSensH (k : Nat) (h : SensH) : (s.setSensH k h).mgt = s.mgt := (rfl)
@[simp] theorem State.cbs_setSensH (k : Nat) (h : SensH) : (s.setSensH k h).cbs = s.cbs := (rfl)
@[simp] theorem State.jtag_setSensH (k : Nat) (h : SensH) : (s.setSensH k h).jtag = s.jtag := (rfl)
@[simp] theorem State.pin_setSensH (k : Nat) (h : SensH) : (s.setSensH k h).pin = s.pin := (rfl)
@[simp] theorem State.cellar_setSensH (k : Nat) (h : SensH) : (s.setSensH k h).cellar = s.cellar := (rfl)
@[simp] theorem State.sensH_setWord (k : Nat) (a : Nat) (w : Word) : (s.setWord a w).sensH k = s.sensH k := (rfl)
@[simp] theorem State.sensH_wr (k : Nat) (f : Field) (v : Nat) : (s.wr f v).sensH k = s.sensH k := (rfl)
@[simp] theorem State.inH_setInH (k : Nat) (h : InH) : (s.setInH k h).inH k = h := by simp [State.inH, State.setInH]
theorem State.inH_setInH_ne {k j : Nat} (h : InH) (hj : j ≠ k) : (s.setInH k h).inH j = s.inH j := by
  simp only [State.inH, State.setInH]; exact storeGet_set_ne _ _ h hj
@[simp] theorem State.word_setInH (k a : Nat) (h : InH) : (s.setInH k h).word a = s.word a := (rfl)
@[simp] theorem State.rd_setInH (k : Nat) (h : InH) (f : Field) : (s.setInH k h).rd f = s.rd f := (rfl)
@[simp] theorem State.pending_setInH (k : Nat) (h : InH) : (s.setInH k h).pending = s.pending := (rfl)
@[simp] theorem State.regs_setInH (k : Nat) (h : InH) : (s.setInH k h).regs = s.regs := (rfl)
@[simp] theorem State.now_setInH (k : Nat) (h : InH) : (s.setInH k h).now = s.now := (rfl)
@[simp] theorem State.lastRead_setInH (k : Nat) (h : InH) : (s.setInH k h).lastRead = s.lastRead := (rfl)
@[simp] theorem State.free_setInH (k : Nat) (h : InH) : (s.setInH k h).free = s.free := (rfl)
@[simp] theorem State.out_setInH (k : Nat) (h : InH) : (s.setInH k h).out = s.out := (rfl)
@[simp] theorem State.log_setInH (k : Nat) (h : InH) : (s.setInH k h).log = s.log := (rfl)
@[simp] theorem State.top_setInH (k : Nat) (h : InH) : (s.setInH k h).top = s.top := (rfl)
@[simp] theorem State.trl_setInH (k : Nat) (h : InH) : (s.setInH k h).trl = s.trl := (rfl)
@[simp] theorem State.cand_setInH (k : Nat) (h : InH) : (s.setInH k h).cand = s.cand := (rfl)
@[simp] theorem State.dpll_setInH (k : Nat) (h : InH) : (s.setInH k h).dpll = s.dpll := (rfl)
@[simp] theorem State.plan_setInH (k : Nat) (h : InH) : (s.setInH k h).plan = s.plan := (rfl)
@[simp] theorem State.syn_setInH (k : Nat) (h : InH) : (s.setInH k h).syn = s.syn := (rfl)
@[simp] theorem State.ptp_setInH (k : Nat) (h : InH) : (s.setInH k h).ptp = s.ptp := (rfl)
@[simp] theorem State.rck_setInH (k : Nat) (h : InH) : (s.setInH k h).rck = s.rck := (rfl)
@[simp] theorem State.pci_setInH (k : Nat) (h : InH) : (s.setInH k h).pci = s.pci := (rfl)
@[simp] theorem State.outs_setInH (k : Nat) (h : InH) : (s.setInH k h).outs = s.outs := (rfl)
@[simp] theorem State.adm_setInH (k : Nat) (h : InH) : (s.setInH k h).adm = s.adm := (rfl)
@[simp] theorem State.chans_setInH (k : Nat) (h : InH) : (s.setInH k h).chans = s.chans := (rfl)
@[simp] theorem State.ldg_setInH (k : Nat) (h : InH) : (s.setInH k h).ldg = s.ldg := (rfl)
@[simp] theorem State.aud_setInH (k : Nat) (h : InH) : (s.setInH k h).aud = s.aud := (rfl)
@[simp] theorem State.src_setInH (k : Nat) (h : InH) : (s.setInH k h).src = s.src := (rfl)
@[simp] theorem State.est_setInH (k : Nat) (h : InH) : (s.setInH k h).est = s.est := (rfl)
@[simp] theorem State.dst_setInH (k : Nat) (h : InH) : (s.setInH k h).dst = s.dst := (rfl)
@[simp] theorem State.gens_setInH (k : Nat) (h : InH) : (s.setInH k h).gens = s.gens := (rfl)
@[simp] theorem State.i2s_setInH (k : Nat) (h : InH) : (s.setInH k h).i2s = s.i2s := (rfl)
@[simp] theorem State.mvh_setInH (k : Nat) (h : InH) : (s.setInH k h).mvh = s.mvh := (rfl)
@[simp] theorem State.twn_setInH (k : Nat) (h : InH) : (s.setInH k h).twn = s.twn := (rfl)
@[simp] theorem State.cls_setInH (k : Nat) (h : InH) : (s.setInH k h).cls = s.cls := (rfl)
@[simp] theorem State.rx_setInH (k : Nat) (h : InH) : (s.setInH k h).rx = s.rx := (rfl)
@[simp] theorem State.tx_setInH (k : Nat) (h : InH) : (s.setInH k h).tx = s.tx := (rfl)
@[simp] theorem State.mac_setInH (k : Nat) (h : InH) : (s.setInH k h).mac = s.mac := (rfl)
@[simp] theorem State.ctn_setInH (k : Nat) (h : InH) : (s.setInH k h).ctn = s.ctn := (rfl)
@[simp] theorem State.fab_setInH (k : Nat) (h : InH) : (s.setInH k h).fab = s.fab := (rfl)
@[simp] theorem State.chn_setInH (k : Nat) (h : InH) : (s.setInH k h).chn = s.chn := (rfl)
@[simp] theorem State.mail_setInH (k : Nat) (h : InH) : (s.setInH k h).mail = s.mail := (rfl)
@[simp] theorem State.nor_setInH (k : Nat) (h : InH) : (s.setInH k h).nor = s.nor := (rfl)
@[simp] theorem State.otp_setInH (k : Nat) (h : InH) : (s.setInH k h).otp = s.otp := (rfl)
@[simp] theorem State.mgt_setInH (k : Nat) (h : InH) : (s.setInH k h).mgt = s.mgt := (rfl)
@[simp] theorem State.sens_setInH (k : Nat) (h : InH) : (s.setInH k h).sens = s.sens := (rfl)
@[simp] theorem State.cbs_setInH (k : Nat) (h : InH) : (s.setInH k h).cbs = s.cbs := (rfl)
@[simp] theorem State.jtag_setInH (k : Nat) (h : InH) : (s.setInH k h).jtag = s.jtag := (rfl)
@[simp] theorem State.pin_setInH (k : Nat) (h : InH) : (s.setInH k h).pin = s.pin := (rfl)
@[simp] theorem State.cellar_setInH (k : Nat) (h : InH) : (s.setInH k h).cellar = s.cellar := (rfl)
@[simp] theorem State.inH_setWord (k : Nat) (a : Nat) (w : Word) : (s.setWord a w).inH k = s.inH k := (rfl)
@[simp] theorem State.inH_wr (k : Nat) (f : Field) (v : Nat) : (s.wr f v).inH k = s.inH k := (rfl)
@[simp] theorem State.outH_setOutH (k : Nat) (h : OutH) : (s.setOutH k h).outH k = h := by simp [State.outH, State.setOutH]
theorem State.outH_setOutH_ne {k j : Nat} (h : OutH) (hj : j ≠ k) : (s.setOutH k h).outH j = s.outH j := by
  simp only [State.outH, State.setOutH]; exact storeGet_set_ne _ _ h hj
@[simp] theorem State.word_setOutH (k a : Nat) (h : OutH) : (s.setOutH k h).word a = s.word a := (rfl)
@[simp] theorem State.rd_setOutH (k : Nat) (h : OutH) (f : Field) : (s.setOutH k h).rd f = s.rd f := (rfl)
@[simp] theorem State.pending_setOutH (k : Nat) (h : OutH) : (s.setOutH k h).pending = s.pending := (rfl)
@[simp] theorem State.regs_setOutH (k : Nat) (h : OutH) : (s.setOutH k h).regs = s.regs := (rfl)
@[simp] theorem State.now_setOutH (k : Nat) (h : OutH) : (s.setOutH k h).now = s.now := (rfl)
@[simp] theorem State.lastRead_setOutH (k : Nat) (h : OutH) : (s.setOutH k h).lastRead = s.lastRead := (rfl)
@[simp] theorem State.free_setOutH (k : Nat) (h : OutH) : (s.setOutH k h).free = s.free := (rfl)
@[simp] theorem State.out_setOutH (k : Nat) (h : OutH) : (s.setOutH k h).out = s.out := (rfl)
@[simp] theorem State.log_setOutH (k : Nat) (h : OutH) : (s.setOutH k h).log = s.log := (rfl)
@[simp] theorem State.top_setOutH (k : Nat) (h : OutH) : (s.setOutH k h).top = s.top := (rfl)
@[simp] theorem State.trl_setOutH (k : Nat) (h : OutH) : (s.setOutH k h).trl = s.trl := (rfl)
@[simp] theorem State.cand_setOutH (k : Nat) (h : OutH) : (s.setOutH k h).cand = s.cand := (rfl)
@[simp] theorem State.dpll_setOutH (k : Nat) (h : OutH) : (s.setOutH k h).dpll = s.dpll := (rfl)
@[simp] theorem State.plan_setOutH (k : Nat) (h : OutH) : (s.setOutH k h).plan = s.plan := (rfl)
@[simp] theorem State.syn_setOutH (k : Nat) (h : OutH) : (s.setOutH k h).syn = s.syn := (rfl)
@[simp] theorem State.ptp_setOutH (k : Nat) (h : OutH) : (s.setOutH k h).ptp = s.ptp := (rfl)
@[simp] theorem State.rck_setOutH (k : Nat) (h : OutH) : (s.setOutH k h).rck = s.rck := (rfl)
@[simp] theorem State.pci_setOutH (k : Nat) (h : OutH) : (s.setOutH k h).pci = s.pci := (rfl)
@[simp] theorem State.ins_setOutH (k : Nat) (h : OutH) : (s.setOutH k h).ins = s.ins := (rfl)
@[simp] theorem State.adm_setOutH (k : Nat) (h : OutH) : (s.setOutH k h).adm = s.adm := (rfl)
@[simp] theorem State.chans_setOutH (k : Nat) (h : OutH) : (s.setOutH k h).chans = s.chans := (rfl)
@[simp] theorem State.ldg_setOutH (k : Nat) (h : OutH) : (s.setOutH k h).ldg = s.ldg := (rfl)
@[simp] theorem State.aud_setOutH (k : Nat) (h : OutH) : (s.setOutH k h).aud = s.aud := (rfl)
@[simp] theorem State.src_setOutH (k : Nat) (h : OutH) : (s.setOutH k h).src = s.src := (rfl)
@[simp] theorem State.est_setOutH (k : Nat) (h : OutH) : (s.setOutH k h).est = s.est := (rfl)
@[simp] theorem State.dst_setOutH (k : Nat) (h : OutH) : (s.setOutH k h).dst = s.dst := (rfl)
@[simp] theorem State.gens_setOutH (k : Nat) (h : OutH) : (s.setOutH k h).gens = s.gens := (rfl)
@[simp] theorem State.i2s_setOutH (k : Nat) (h : OutH) : (s.setOutH k h).i2s = s.i2s := (rfl)
@[simp] theorem State.mvh_setOutH (k : Nat) (h : OutH) : (s.setOutH k h).mvh = s.mvh := (rfl)
@[simp] theorem State.twn_setOutH (k : Nat) (h : OutH) : (s.setOutH k h).twn = s.twn := (rfl)
@[simp] theorem State.cls_setOutH (k : Nat) (h : OutH) : (s.setOutH k h).cls = s.cls := (rfl)
@[simp] theorem State.rx_setOutH (k : Nat) (h : OutH) : (s.setOutH k h).rx = s.rx := (rfl)
@[simp] theorem State.tx_setOutH (k : Nat) (h : OutH) : (s.setOutH k h).tx = s.tx := (rfl)
@[simp] theorem State.mac_setOutH (k : Nat) (h : OutH) : (s.setOutH k h).mac = s.mac := (rfl)
@[simp] theorem State.ctn_setOutH (k : Nat) (h : OutH) : (s.setOutH k h).ctn = s.ctn := (rfl)
@[simp] theorem State.fab_setOutH (k : Nat) (h : OutH) : (s.setOutH k h).fab = s.fab := (rfl)
@[simp] theorem State.chn_setOutH (k : Nat) (h : OutH) : (s.setOutH k h).chn = s.chn := (rfl)
@[simp] theorem State.mail_setOutH (k : Nat) (h : OutH) : (s.setOutH k h).mail = s.mail := (rfl)
@[simp] theorem State.nor_setOutH (k : Nat) (h : OutH) : (s.setOutH k h).nor = s.nor := (rfl)
@[simp] theorem State.otp_setOutH (k : Nat) (h : OutH) : (s.setOutH k h).otp = s.otp := (rfl)
@[simp] theorem State.mgt_setOutH (k : Nat) (h : OutH) : (s.setOutH k h).mgt = s.mgt := (rfl)
@[simp] theorem State.sens_setOutH (k : Nat) (h : OutH) : (s.setOutH k h).sens = s.sens := (rfl)
@[simp] theorem State.cbs_setOutH (k : Nat) (h : OutH) : (s.setOutH k h).cbs = s.cbs := (rfl)
@[simp] theorem State.jtag_setOutH (k : Nat) (h : OutH) : (s.setOutH k h).jtag = s.jtag := (rfl)
@[simp] theorem State.pin_setOutH (k : Nat) (h : OutH) : (s.setOutH k h).pin = s.pin := (rfl)
@[simp] theorem State.cellar_setOutH (k : Nat) (h : OutH) : (s.setOutH k h).cellar = s.cellar := (rfl)
@[simp] theorem State.outH_setWord (k : Nat) (a : Nat) (w : Word) : (s.setWord a w).outH k = s.outH k := (rfl)
@[simp] theorem State.outH_wr (k : Nat) (f : Field) (v : Nat) : (s.wr f v).outH k = s.outH k := (rfl)
@[simp] theorem State.chanH_setChanH (k : Nat) (h : ChanH) : (s.setChanH k h).chanH k = h := by simp [State.chanH, State.setChanH]
theorem State.chanH_setChanH_ne {k j : Nat} (h : ChanH) (hj : j ≠ k) : (s.setChanH k h).chanH j = s.chanH j := by
  simp only [State.chanH, State.setChanH]; exact storeGet_set_ne _ _ h hj
@[simp] theorem State.word_setChanH (k a : Nat) (h : ChanH) : (s.setChanH k h).word a = s.word a := (rfl)
@[simp] theorem State.rd_setChanH (k : Nat) (h : ChanH) (f : Field) : (s.setChanH k h).rd f = s.rd f := (rfl)
@[simp] theorem State.pending_setChanH (k : Nat) (h : ChanH) : (s.setChanH k h).pending = s.pending := (rfl)
@[simp] theorem State.regs_setChanH (k : Nat) (h : ChanH) : (s.setChanH k h).regs = s.regs := (rfl)
@[simp] theorem State.now_setChanH (k : Nat) (h : ChanH) : (s.setChanH k h).now = s.now := (rfl)
@[simp] theorem State.lastRead_setChanH (k : Nat) (h : ChanH) : (s.setChanH k h).lastRead = s.lastRead := (rfl)
@[simp] theorem State.free_setChanH (k : Nat) (h : ChanH) : (s.setChanH k h).free = s.free := (rfl)
@[simp] theorem State.out_setChanH (k : Nat) (h : ChanH) : (s.setChanH k h).out = s.out := (rfl)
@[simp] theorem State.log_setChanH (k : Nat) (h : ChanH) : (s.setChanH k h).log = s.log := (rfl)
@[simp] theorem State.top_setChanH (k : Nat) (h : ChanH) : (s.setChanH k h).top = s.top := (rfl)
@[simp] theorem State.trl_setChanH (k : Nat) (h : ChanH) : (s.setChanH k h).trl = s.trl := (rfl)
@[simp] theorem State.cand_setChanH (k : Nat) (h : ChanH) : (s.setChanH k h).cand = s.cand := (rfl)
@[simp] theorem State.dpll_setChanH (k : Nat) (h : ChanH) : (s.setChanH k h).dpll = s.dpll := (rfl)
@[simp] theorem State.plan_setChanH (k : Nat) (h : ChanH) : (s.setChanH k h).plan = s.plan := (rfl)
@[simp] theorem State.syn_setChanH (k : Nat) (h : ChanH) : (s.setChanH k h).syn = s.syn := (rfl)
@[simp] theorem State.ptp_setChanH (k : Nat) (h : ChanH) : (s.setChanH k h).ptp = s.ptp := (rfl)
@[simp] theorem State.rck_setChanH (k : Nat) (h : ChanH) : (s.setChanH k h).rck = s.rck := (rfl)
@[simp] theorem State.pci_setChanH (k : Nat) (h : ChanH) : (s.setChanH k h).pci = s.pci := (rfl)
@[simp] theorem State.ins_setChanH (k : Nat) (h : ChanH) : (s.setChanH k h).ins = s.ins := (rfl)
@[simp] theorem State.outs_setChanH (k : Nat) (h : ChanH) : (s.setChanH k h).outs = s.outs := (rfl)
@[simp] theorem State.adm_setChanH (k : Nat) (h : ChanH) : (s.setChanH k h).adm = s.adm := (rfl)
@[simp] theorem State.ldg_setChanH (k : Nat) (h : ChanH) : (s.setChanH k h).ldg = s.ldg := (rfl)
@[simp] theorem State.aud_setChanH (k : Nat) (h : ChanH) : (s.setChanH k h).aud = s.aud := (rfl)
@[simp] theorem State.src_setChanH (k : Nat) (h : ChanH) : (s.setChanH k h).src = s.src := (rfl)
@[simp] theorem State.est_setChanH (k : Nat) (h : ChanH) : (s.setChanH k h).est = s.est := (rfl)
@[simp] theorem State.dst_setChanH (k : Nat) (h : ChanH) : (s.setChanH k h).dst = s.dst := (rfl)
@[simp] theorem State.gens_setChanH (k : Nat) (h : ChanH) : (s.setChanH k h).gens = s.gens := (rfl)
@[simp] theorem State.i2s_setChanH (k : Nat) (h : ChanH) : (s.setChanH k h).i2s = s.i2s := (rfl)
@[simp] theorem State.mvh_setChanH (k : Nat) (h : ChanH) : (s.setChanH k h).mvh = s.mvh := (rfl)
@[simp] theorem State.twn_setChanH (k : Nat) (h : ChanH) : (s.setChanH k h).twn = s.twn := (rfl)
@[simp] theorem State.cls_setChanH (k : Nat) (h : ChanH) : (s.setChanH k h).cls = s.cls := (rfl)
@[simp] theorem State.rx_setChanH (k : Nat) (h : ChanH) : (s.setChanH k h).rx = s.rx := (rfl)
@[simp] theorem State.tx_setChanH (k : Nat) (h : ChanH) : (s.setChanH k h).tx = s.tx := (rfl)
@[simp] theorem State.mac_setChanH (k : Nat) (h : ChanH) : (s.setChanH k h).mac = s.mac := (rfl)
@[simp] theorem State.ctn_setChanH (k : Nat) (h : ChanH) : (s.setChanH k h).ctn = s.ctn := (rfl)
@[simp] theorem State.fab_setChanH (k : Nat) (h : ChanH) : (s.setChanH k h).fab = s.fab := (rfl)
@[simp] theorem State.chn_setChanH (k : Nat) (h : ChanH) : (s.setChanH k h).chn = s.chn := (rfl)
@[simp] theorem State.mail_setChanH (k : Nat) (h : ChanH) : (s.setChanH k h).mail = s.mail := (rfl)
@[simp] theorem State.nor_setChanH (k : Nat) (h : ChanH) : (s.setChanH k h).nor = s.nor := (rfl)
@[simp] theorem State.otp_setChanH (k : Nat) (h : ChanH) : (s.setChanH k h).otp = s.otp := (rfl)
@[simp] theorem State.mgt_setChanH (k : Nat) (h : ChanH) : (s.setChanH k h).mgt = s.mgt := (rfl)
@[simp] theorem State.sens_setChanH (k : Nat) (h : ChanH) : (s.setChanH k h).sens = s.sens := (rfl)
@[simp] theorem State.cbs_setChanH (k : Nat) (h : ChanH) : (s.setChanH k h).cbs = s.cbs := (rfl)
@[simp] theorem State.jtag_setChanH (k : Nat) (h : ChanH) : (s.setChanH k h).jtag = s.jtag := (rfl)
@[simp] theorem State.pin_setChanH (k : Nat) (h : ChanH) : (s.setChanH k h).pin = s.pin := (rfl)
@[simp] theorem State.cellar_setChanH (k : Nat) (h : ChanH) : (s.setChanH k h).cellar = s.cellar := (rfl)
@[simp] theorem State.chanH_setWord (k : Nat) (a : Nat) (w : Word) : (s.setWord a w).chanH k = s.chanH k := (rfl)
@[simp] theorem State.chanH_wr (k : Nat) (f : Field) (v : Nat) : (s.wr f v).chanH k = s.chanH k := (rfl)
@[simp] theorem State.srcH_setSrcH (k : Nat) (h : SrcH) : (s.setSrcH k h).srcH k = h := by simp [State.srcH, State.setSrcH]
theorem State.srcH_setSrcH_ne {k j : Nat} (h : SrcH) (hj : j ≠ k) : (s.setSrcH k h).srcH j = s.srcH j := by
  simp only [State.srcH, State.setSrcH]; exact storeGet_set_ne _ _ h hj
@[simp] theorem State.word_setSrcH (k a : Nat) (h : SrcH) : (s.setSrcH k h).word a = s.word a := (rfl)
@[simp] theorem State.rd_setSrcH (k : Nat) (h : SrcH) (f : Field) : (s.setSrcH k h).rd f = s.rd f := (rfl)
@[simp] theorem State.pending_setSrcH (k : Nat) (h : SrcH) : (s.setSrcH k h).pending = s.pending := (rfl)
@[simp] theorem State.regs_setSrcH (k : Nat) (h : SrcH) : (s.setSrcH k h).regs = s.regs := (rfl)
@[simp] theorem State.now_setSrcH (k : Nat) (h : SrcH) : (s.setSrcH k h).now = s.now := (rfl)
@[simp] theorem State.lastRead_setSrcH (k : Nat) (h : SrcH) : (s.setSrcH k h).lastRead = s.lastRead := (rfl)
@[simp] theorem State.free_setSrcH (k : Nat) (h : SrcH) : (s.setSrcH k h).free = s.free := (rfl)
@[simp] theorem State.out_setSrcH (k : Nat) (h : SrcH) : (s.setSrcH k h).out = s.out := (rfl)
@[simp] theorem State.log_setSrcH (k : Nat) (h : SrcH) : (s.setSrcH k h).log = s.log := (rfl)
@[simp] theorem State.top_setSrcH (k : Nat) (h : SrcH) : (s.setSrcH k h).top = s.top := (rfl)
@[simp] theorem State.trl_setSrcH (k : Nat) (h : SrcH) : (s.setSrcH k h).trl = s.trl := (rfl)
@[simp] theorem State.cand_setSrcH (k : Nat) (h : SrcH) : (s.setSrcH k h).cand = s.cand := (rfl)
@[simp] theorem State.dpll_setSrcH (k : Nat) (h : SrcH) : (s.setSrcH k h).dpll = s.dpll := (rfl)
@[simp] theorem State.plan_setSrcH (k : Nat) (h : SrcH) : (s.setSrcH k h).plan = s.plan := (rfl)
@[simp] theorem State.syn_setSrcH (k : Nat) (h : SrcH) : (s.setSrcH k h).syn = s.syn := (rfl)
@[simp] theorem State.ptp_setSrcH (k : Nat) (h : SrcH) : (s.setSrcH k h).ptp = s.ptp := (rfl)
@[simp] theorem State.rck_setSrcH (k : Nat) (h : SrcH) : (s.setSrcH k h).rck = s.rck := (rfl)
@[simp] theorem State.pci_setSrcH (k : Nat) (h : SrcH) : (s.setSrcH k h).pci = s.pci := (rfl)
@[simp] theorem State.ins_setSrcH (k : Nat) (h : SrcH) : (s.setSrcH k h).ins = s.ins := (rfl)
@[simp] theorem State.outs_setSrcH (k : Nat) (h : SrcH) : (s.setSrcH k h).outs = s.outs := (rfl)
@[simp] theorem State.adm_setSrcH (k : Nat) (h : SrcH) : (s.setSrcH k h).adm = s.adm := (rfl)
@[simp] theorem State.chans_setSrcH (k : Nat) (h : SrcH) : (s.setSrcH k h).chans = s.chans := (rfl)
@[simp] theorem State.ldg_setSrcH (k : Nat) (h : SrcH) : (s.setSrcH k h).ldg = s.ldg := (rfl)
@[simp] theorem State.aud_setSrcH (k : Nat) (h : SrcH) : (s.setSrcH k h).aud = s.aud := (rfl)
@[simp] theorem State.est_setSrcH (k : Nat) (h : SrcH) : (s.setSrcH k h).est = s.est := (rfl)
@[simp] theorem State.dst_setSrcH (k : Nat) (h : SrcH) : (s.setSrcH k h).dst = s.dst := (rfl)
@[simp] theorem State.gens_setSrcH (k : Nat) (h : SrcH) : (s.setSrcH k h).gens = s.gens := (rfl)
@[simp] theorem State.i2s_setSrcH (k : Nat) (h : SrcH) : (s.setSrcH k h).i2s = s.i2s := (rfl)
@[simp] theorem State.mvh_setSrcH (k : Nat) (h : SrcH) : (s.setSrcH k h).mvh = s.mvh := (rfl)
@[simp] theorem State.twn_setSrcH (k : Nat) (h : SrcH) : (s.setSrcH k h).twn = s.twn := (rfl)
@[simp] theorem State.cls_setSrcH (k : Nat) (h : SrcH) : (s.setSrcH k h).cls = s.cls := (rfl)
@[simp] theorem State.rx_setSrcH (k : Nat) (h : SrcH) : (s.setSrcH k h).rx = s.rx := (rfl)
@[simp] theorem State.tx_setSrcH (k : Nat) (h : SrcH) : (s.setSrcH k h).tx = s.tx := (rfl)
@[simp] theorem State.mac_setSrcH (k : Nat) (h : SrcH) : (s.setSrcH k h).mac = s.mac := (rfl)
@[simp] theorem State.ctn_setSrcH (k : Nat) (h : SrcH) : (s.setSrcH k h).ctn = s.ctn := (rfl)
@[simp] theorem State.fab_setSrcH (k : Nat) (h : SrcH) : (s.setSrcH k h).fab = s.fab := (rfl)
@[simp] theorem State.chn_setSrcH (k : Nat) (h : SrcH) : (s.setSrcH k h).chn = s.chn := (rfl)
@[simp] theorem State.mail_setSrcH (k : Nat) (h : SrcH) : (s.setSrcH k h).mail = s.mail := (rfl)
@[simp] theorem State.nor_setSrcH (k : Nat) (h : SrcH) : (s.setSrcH k h).nor = s.nor := (rfl)
@[simp] theorem State.otp_setSrcH (k : Nat) (h : SrcH) : (s.setSrcH k h).otp = s.otp := (rfl)
@[simp] theorem State.mgt_setSrcH (k : Nat) (h : SrcH) : (s.setSrcH k h).mgt = s.mgt := (rfl)
@[simp] theorem State.sens_setSrcH (k : Nat) (h : SrcH) : (s.setSrcH k h).sens = s.sens := (rfl)
@[simp] theorem State.cbs_setSrcH (k : Nat) (h : SrcH) : (s.setSrcH k h).cbs = s.cbs := (rfl)
@[simp] theorem State.jtag_setSrcH (k : Nat) (h : SrcH) : (s.setSrcH k h).jtag = s.jtag := (rfl)
@[simp] theorem State.pin_setSrcH (k : Nat) (h : SrcH) : (s.setSrcH k h).pin = s.pin := (rfl)
@[simp] theorem State.cellar_setSrcH (k : Nat) (h : SrcH) : (s.setSrcH k h).cellar = s.cellar := (rfl)
@[simp] theorem State.srcH_setWord (k : Nat) (a : Nat) (w : Word) : (s.setWord a w).srcH k = s.srcH k := (rfl)
@[simp] theorem State.srcH_wr (k : Nat) (f : Field) (v : Nat) : (s.wr f v).srcH k = s.srcH k := (rfl)
@[simp] theorem State.dstH_setDstH (k : Nat) (h : DstH) : (s.setDstH k h).dstH k = h := by simp [State.dstH, State.setDstH]
theorem State.dstH_setDstH_ne {k j : Nat} (h : DstH) (hj : j ≠ k) : (s.setDstH k h).dstH j = s.dstH j := by
  simp only [State.dstH, State.setDstH]; exact storeGet_set_ne _ _ h hj
@[simp] theorem State.word_setDstH (k a : Nat) (h : DstH) : (s.setDstH k h).word a = s.word a := (rfl)
@[simp] theorem State.rd_setDstH (k : Nat) (h : DstH) (f : Field) : (s.setDstH k h).rd f = s.rd f := (rfl)
@[simp] theorem State.pending_setDstH (k : Nat) (h : DstH) : (s.setDstH k h).pending = s.pending := (rfl)
@[simp] theorem State.regs_setDstH (k : Nat) (h : DstH) : (s.setDstH k h).regs = s.regs := (rfl)
@[simp] theorem State.now_setDstH (k : Nat) (h : DstH) : (s.setDstH k h).now = s.now := (rfl)
@[simp] theorem State.lastRead_setDstH (k : Nat) (h : DstH) : (s.setDstH k h).lastRead = s.lastRead := (rfl)
@[simp] theorem State.free_setDstH (k : Nat) (h : DstH) : (s.setDstH k h).free = s.free := (rfl)
@[simp] theorem State.out_setDstH (k : Nat) (h : DstH) : (s.setDstH k h).out = s.out := (rfl)
@[simp] theorem State.log_setDstH (k : Nat) (h : DstH) : (s.setDstH k h).log = s.log := (rfl)
@[simp] theorem State.top_setDstH (k : Nat) (h : DstH) : (s.setDstH k h).top = s.top := (rfl)
@[simp] theorem State.trl_setDstH (k : Nat) (h : DstH) : (s.setDstH k h).trl = s.trl := (rfl)
@[simp] theorem State.cand_setDstH (k : Nat) (h : DstH) : (s.setDstH k h).cand = s.cand := (rfl)
@[simp] theorem State.dpll_setDstH (k : Nat) (h : DstH) : (s.setDstH k h).dpll = s.dpll := (rfl)
@[simp] theorem State.plan_setDstH (k : Nat) (h : DstH) : (s.setDstH k h).plan = s.plan := (rfl)
@[simp] theorem State.syn_setDstH (k : Nat) (h : DstH) : (s.setDstH k h).syn = s.syn := (rfl)
@[simp] theorem State.ptp_setDstH (k : Nat) (h : DstH) : (s.setDstH k h).ptp = s.ptp := (rfl)
@[simp] theorem State.rck_setDstH (k : Nat) (h : DstH) : (s.setDstH k h).rck = s.rck := (rfl)
@[simp] theorem State.pci_setDstH (k : Nat) (h : DstH) : (s.setDstH k h).pci = s.pci := (rfl)
@[simp] theorem State.ins_setDstH (k : Nat) (h : DstH) : (s.setDstH k h).ins = s.ins := (rfl)
@[simp] theorem State.outs_setDstH (k : Nat) (h : DstH) : (s.setDstH k h).outs = s.outs := (rfl)
@[simp] theorem State.adm_setDstH (k : Nat) (h : DstH) : (s.setDstH k h).adm = s.adm := (rfl)
@[simp] theorem State.chans_setDstH (k : Nat) (h : DstH) : (s.setDstH k h).chans = s.chans := (rfl)
@[simp] theorem State.ldg_setDstH (k : Nat) (h : DstH) : (s.setDstH k h).ldg = s.ldg := (rfl)
@[simp] theorem State.aud_setDstH (k : Nat) (h : DstH) : (s.setDstH k h).aud = s.aud := (rfl)
@[simp] theorem State.src_setDstH (k : Nat) (h : DstH) : (s.setDstH k h).src = s.src := (rfl)
@[simp] theorem State.est_setDstH (k : Nat) (h : DstH) : (s.setDstH k h).est = s.est := (rfl)
@[simp] theorem State.gens_setDstH (k : Nat) (h : DstH) : (s.setDstH k h).gens = s.gens := (rfl)
@[simp] theorem State.i2s_setDstH (k : Nat) (h : DstH) : (s.setDstH k h).i2s = s.i2s := (rfl)
@[simp] theorem State.mvh_setDstH (k : Nat) (h : DstH) : (s.setDstH k h).mvh = s.mvh := (rfl)
@[simp] theorem State.twn_setDstH (k : Nat) (h : DstH) : (s.setDstH k h).twn = s.twn := (rfl)
@[simp] theorem State.cls_setDstH (k : Nat) (h : DstH) : (s.setDstH k h).cls = s.cls := (rfl)
@[simp] theorem State.rx_setDstH (k : Nat) (h : DstH) : (s.setDstH k h).rx = s.rx := (rfl)
@[simp] theorem State.tx_setDstH (k : Nat) (h : DstH) : (s.setDstH k h).tx = s.tx := (rfl)
@[simp] theorem State.mac_setDstH (k : Nat) (h : DstH) : (s.setDstH k h).mac = s.mac := (rfl)
@[simp] theorem State.ctn_setDstH (k : Nat) (h : DstH) : (s.setDstH k h).ctn = s.ctn := (rfl)
@[simp] theorem State.fab_setDstH (k : Nat) (h : DstH) : (s.setDstH k h).fab = s.fab := (rfl)
@[simp] theorem State.chn_setDstH (k : Nat) (h : DstH) : (s.setDstH k h).chn = s.chn := (rfl)
@[simp] theorem State.mail_setDstH (k : Nat) (h : DstH) : (s.setDstH k h).mail = s.mail := (rfl)
@[simp] theorem State.nor_setDstH (k : Nat) (h : DstH) : (s.setDstH k h).nor = s.nor := (rfl)
@[simp] theorem State.otp_setDstH (k : Nat) (h : DstH) : (s.setDstH k h).otp = s.otp := (rfl)
@[simp] theorem State.mgt_setDstH (k : Nat) (h : DstH) : (s.setDstH k h).mgt = s.mgt := (rfl)
@[simp] theorem State.sens_setDstH (k : Nat) (h : DstH) : (s.setDstH k h).sens = s.sens := (rfl)
@[simp] theorem State.cbs_setDstH (k : Nat) (h : DstH) : (s.setDstH k h).cbs = s.cbs := (rfl)
@[simp] theorem State.jtag_setDstH (k : Nat) (h : DstH) : (s.setDstH k h).jtag = s.jtag := (rfl)
@[simp] theorem State.pin_setDstH (k : Nat) (h : DstH) : (s.setDstH k h).pin = s.pin := (rfl)
@[simp] theorem State.cellar_setDstH (k : Nat) (h : DstH) : (s.setDstH k h).cellar = s.cellar := (rfl)
@[simp] theorem State.dstH_setWord (k : Nat) (a : Nat) (w : Word) : (s.setWord a w).dstH k = s.dstH k := (rfl)
@[simp] theorem State.dstH_wr (k : Nat) (f : Field) (v : Nat) : (s.wr f v).dstH k = s.dstH k := (rfl)
@[simp] theorem State.genH_setGenH (k : Nat) (h : GenH) : (s.setGenH k h).genH k = h := by simp [State.genH, State.setGenH]
theorem State.genH_setGenH_ne {k j : Nat} (h : GenH) (hj : j ≠ k) : (s.setGenH k h).genH j = s.genH j := by
  simp only [State.genH, State.setGenH]; exact storeGet_set_ne _ _ h hj
@[simp] theorem State.word_setGenH (k a : Nat) (h : GenH) : (s.setGenH k h).word a = s.word a := (rfl)
@[simp] theorem State.rd_setGenH (k : Nat) (h : GenH) (f : Field) : (s.setGenH k h).rd f = s.rd f := (rfl)
@[simp] theorem State.pending_setGenH (k : Nat) (h : GenH) : (s.setGenH k h).pending = s.pending := (rfl)
@[simp] theorem State.regs_setGenH (k : Nat) (h : GenH) : (s.setGenH k h).regs = s.regs := (rfl)
@[simp] theorem State.now_setGenH (k : Nat) (h : GenH) : (s.setGenH k h).now = s.now := (rfl)
@[simp] theorem State.lastRead_setGenH (k : Nat) (h : GenH) : (s.setGenH k h).lastRead = s.lastRead := (rfl)
@[simp] theorem State.free_setGenH (k : Nat) (h : GenH) : (s.setGenH k h).free = s.free := (rfl)
@[simp] theorem State.out_setGenH (k : Nat) (h : GenH) : (s.setGenH k h).out = s.out := (rfl)
@[simp] theorem State.log_setGenH (k : Nat) (h : GenH) : (s.setGenH k h).log = s.log := (rfl)
@[simp] theorem State.top_setGenH (k : Nat) (h : GenH) : (s.setGenH k h).top = s.top := (rfl)
@[simp] theorem State.trl_setGenH (k : Nat) (h : GenH) : (s.setGenH k h).trl = s.trl := (rfl)
@[simp] theorem State.cand_setGenH (k : Nat) (h : GenH) : (s.setGenH k h).cand = s.cand := (rfl)
@[simp] theorem State.dpll_setGenH (k : Nat) (h : GenH) : (s.setGenH k h).dpll = s.dpll := (rfl)
@[simp] theorem State.plan_setGenH (k : Nat) (h : GenH) : (s.setGenH k h).plan = s.plan := (rfl)
@[simp] theorem State.syn_setGenH (k : Nat) (h : GenH) : (s.setGenH k h).syn = s.syn := (rfl)
@[simp] theorem State.ptp_setGenH (k : Nat) (h : GenH) : (s.setGenH k h).ptp = s.ptp := (rfl)
@[simp] theorem State.rck_setGenH (k : Nat) (h : GenH) : (s.setGenH k h).rck = s.rck := (rfl)
@[simp] theorem State.pci_setGenH (k : Nat) (h : GenH) : (s.setGenH k h).pci = s.pci := (rfl)
@[simp] theorem State.ins_setGenH (k : Nat) (h : GenH) : (s.setGenH k h).ins = s.ins := (rfl)
@[simp] theorem State.outs_setGenH (k : Nat) (h : GenH) : (s.setGenH k h).outs = s.outs := (rfl)
@[simp] theorem State.adm_setGenH (k : Nat) (h : GenH) : (s.setGenH k h).adm = s.adm := (rfl)
@[simp] theorem State.chans_setGenH (k : Nat) (h : GenH) : (s.setGenH k h).chans = s.chans := (rfl)
@[simp] theorem State.ldg_setGenH (k : Nat) (h : GenH) : (s.setGenH k h).ldg = s.ldg := (rfl)
@[simp] theorem State.aud_setGenH (k : Nat) (h : GenH) : (s.setGenH k h).aud = s.aud := (rfl)
@[simp] theorem State.src_setGenH (k : Nat) (h : GenH) : (s.setGenH k h).src = s.src := (rfl)
@[simp] theorem State.est_setGenH (k : Nat) (h : GenH) : (s.setGenH k h).est = s.est := (rfl)
@[simp] theorem State.dst_setGenH (k : Nat) (h : GenH) : (s.setGenH k h).dst = s.dst := (rfl)
@[simp] theorem State.i2s_setGenH (k : Nat) (h : GenH) : (s.setGenH k h).i2s = s.i2s := (rfl)
@[simp] theorem State.mvh_setGenH (k : Nat) (h : GenH) : (s.setGenH k h).mvh = s.mvh := (rfl)
@[simp] theorem State.twn_setGenH (k : Nat) (h : GenH) : (s.setGenH k h).twn = s.twn := (rfl)
@[simp] theorem State.cls_setGenH (k : Nat) (h : GenH) : (s.setGenH k h).cls = s.cls := (rfl)
@[simp] theorem State.rx_setGenH (k : Nat) (h : GenH) : (s.setGenH k h).rx = s.rx := (rfl)
@[simp] theorem State.tx_setGenH (k : Nat) (h : GenH) : (s.setGenH k h).tx = s.tx := (rfl)
@[simp] theorem State.mac_setGenH (k : Nat) (h : GenH) : (s.setGenH k h).mac = s.mac := (rfl)
@[simp] theorem State.ctn_setGenH (k : Nat) (h : GenH) : (s.setGenH k h).ctn = s.ctn := (rfl)
@[simp] theorem State.fab_setGenH (k : Nat) (h : GenH) : (s.setGenH k h).fab = s.fab := (rfl)
@[simp] theorem State.chn_setGenH (k : Nat) (h : GenH) : (s.setGenH k h).chn = s.chn := (rfl)
@[simp] theorem State.mail_setGenH (k : Nat) (h : GenH) : (s.setGenH k h).mail = s.mail := (rfl)
@[simp] theorem State.nor_setGenH (k : Nat) (h : GenH) : (s.setGenH k h).nor = s.nor := (rfl)
@[simp] theorem State.otp_setGenH (k : Nat) (h : GenH) : (s.setGenH k h).otp = s.otp := (rfl)
@[simp] theorem State.mgt_setGenH (k : Nat) (h : GenH) : (s.setGenH k h).mgt = s.mgt := (rfl)
@[simp] theorem State.sens_setGenH (k : Nat) (h : GenH) : (s.setGenH k h).sens = s.sens := (rfl)
@[simp] theorem State.cbs_setGenH (k : Nat) (h : GenH) : (s.setGenH k h).cbs = s.cbs := (rfl)
@[simp] theorem State.jtag_setGenH (k : Nat) (h : GenH) : (s.setGenH k h).jtag = s.jtag := (rfl)
@[simp] theorem State.pin_setGenH (k : Nat) (h : GenH) : (s.setGenH k h).pin = s.pin := (rfl)
@[simp] theorem State.cellar_setGenH (k : Nat) (h : GenH) : (s.setGenH k h).cellar = s.cellar := (rfl)
@[simp] theorem State.genH_setWord (k : Nat) (a : Nat) (w : Word) : (s.setWord a w).genH k = s.genH k := (rfl)
@[simp] theorem State.genH_wr (k : Nat) (f : Field) (v : Nat) : (s.wr f v).genH k = s.genH k := (rfl)
@[simp] theorem State.i2sH_setI2sH (k : Nat) (h : I2sH) : (s.setI2sH k h).i2sH k = h := by simp [State.i2sH, State.setI2sH]
theorem State.i2sH_setI2sH_ne {k j : Nat} (h : I2sH) (hj : j ≠ k) : (s.setI2sH k h).i2sH j = s.i2sH j := by
  simp only [State.i2sH, State.setI2sH]; exact storeGet_set_ne _ _ h hj
@[simp] theorem State.word_setI2sH (k a : Nat) (h : I2sH) : (s.setI2sH k h).word a = s.word a := (rfl)
@[simp] theorem State.rd_setI2sH (k : Nat) (h : I2sH) (f : Field) : (s.setI2sH k h).rd f = s.rd f := (rfl)
@[simp] theorem State.pending_setI2sH (k : Nat) (h : I2sH) : (s.setI2sH k h).pending = s.pending := (rfl)
@[simp] theorem State.regs_setI2sH (k : Nat) (h : I2sH) : (s.setI2sH k h).regs = s.regs := (rfl)
@[simp] theorem State.now_setI2sH (k : Nat) (h : I2sH) : (s.setI2sH k h).now = s.now := (rfl)
@[simp] theorem State.lastRead_setI2sH (k : Nat) (h : I2sH) : (s.setI2sH k h).lastRead = s.lastRead := (rfl)
@[simp] theorem State.free_setI2sH (k : Nat) (h : I2sH) : (s.setI2sH k h).free = s.free := (rfl)
@[simp] theorem State.out_setI2sH (k : Nat) (h : I2sH) : (s.setI2sH k h).out = s.out := (rfl)
@[simp] theorem State.log_setI2sH (k : Nat) (h : I2sH) : (s.setI2sH k h).log = s.log := (rfl)
@[simp] theorem State.top_setI2sH (k : Nat) (h : I2sH) : (s.setI2sH k h).top = s.top := (rfl)
@[simp] theorem State.trl_setI2sH (k : Nat) (h : I2sH) : (s.setI2sH k h).trl = s.trl := (rfl)
@[simp] theorem State.cand_setI2sH (k : Nat) (h : I2sH) : (s.setI2sH k h).cand = s.cand := (rfl)
@[simp] theorem State.dpll_setI2sH (k : Nat) (h : I2sH) : (s.setI2sH k h).dpll = s.dpll := (rfl)
@[simp] theorem State.plan_setI2sH (k : Nat) (h : I2sH) : (s.setI2sH k h).plan = s.plan := (rfl)
@[simp] theorem State.syn_setI2sH (k : Nat) (h : I2sH) : (s.setI2sH k h).syn = s.syn := (rfl)
@[simp] theorem State.ptp_setI2sH (k : Nat) (h : I2sH) : (s.setI2sH k h).ptp = s.ptp := (rfl)
@[simp] theorem State.rck_setI2sH (k : Nat) (h : I2sH) : (s.setI2sH k h).rck = s.rck := (rfl)
@[simp] theorem State.pci_setI2sH (k : Nat) (h : I2sH) : (s.setI2sH k h).pci = s.pci := (rfl)
@[simp] theorem State.ins_setI2sH (k : Nat) (h : I2sH) : (s.setI2sH k h).ins = s.ins := (rfl)
@[simp] theorem State.outs_setI2sH (k : Nat) (h : I2sH) : (s.setI2sH k h).outs = s.outs := (rfl)
@[simp] theorem State.adm_setI2sH (k : Nat) (h : I2sH) : (s.setI2sH k h).adm = s.adm := (rfl)
@[simp] theorem State.chans_setI2sH (k : Nat) (h : I2sH) : (s.setI2sH k h).chans = s.chans := (rfl)
@[simp] theorem State.ldg_setI2sH (k : Nat) (h : I2sH) : (s.setI2sH k h).ldg = s.ldg := (rfl)
@[simp] theorem State.aud_setI2sH (k : Nat) (h : I2sH) : (s.setI2sH k h).aud = s.aud := (rfl)
@[simp] theorem State.src_setI2sH (k : Nat) (h : I2sH) : (s.setI2sH k h).src = s.src := (rfl)
@[simp] theorem State.est_setI2sH (k : Nat) (h : I2sH) : (s.setI2sH k h).est = s.est := (rfl)
@[simp] theorem State.dst_setI2sH (k : Nat) (h : I2sH) : (s.setI2sH k h).dst = s.dst := (rfl)
@[simp] theorem State.gens_setI2sH (k : Nat) (h : I2sH) : (s.setI2sH k h).gens = s.gens := (rfl)
@[simp] theorem State.mvh_setI2sH (k : Nat) (h : I2sH) : (s.setI2sH k h).mvh = s.mvh := (rfl)
@[simp] theorem State.twn_setI2sH (k : Nat) (h : I2sH) : (s.setI2sH k h).twn = s.twn := (rfl)
@[simp] theorem State.cls_setI2sH (k : Nat) (h : I2sH) : (s.setI2sH k h).cls = s.cls := (rfl)
@[simp] theorem State.rx_setI2sH (k : Nat) (h : I2sH) : (s.setI2sH k h).rx = s.rx := (rfl)
@[simp] theorem State.tx_setI2sH (k : Nat) (h : I2sH) : (s.setI2sH k h).tx = s.tx := (rfl)
@[simp] theorem State.mac_setI2sH (k : Nat) (h : I2sH) : (s.setI2sH k h).mac = s.mac := (rfl)
@[simp] theorem State.ctn_setI2sH (k : Nat) (h : I2sH) : (s.setI2sH k h).ctn = s.ctn := (rfl)
@[simp] theorem State.fab_setI2sH (k : Nat) (h : I2sH) : (s.setI2sH k h).fab = s.fab := (rfl)
@[simp] theorem State.chn_setI2sH (k : Nat) (h : I2sH) : (s.setI2sH k h).chn = s.chn := (rfl)
@[simp] theorem State.mail_setI2sH (k : Nat) (h : I2sH) : (s.setI2sH k h).mail = s.mail := (rfl)
@[simp] theorem State.nor_setI2sH (k : Nat) (h : I2sH) : (s.setI2sH k h).nor = s.nor := (rfl)
@[simp] theorem State.otp_setI2sH (k : Nat) (h : I2sH) : (s.setI2sH k h).otp = s.otp := (rfl)
@[simp] theorem State.mgt_setI2sH (k : Nat) (h : I2sH) : (s.setI2sH k h).mgt = s.mgt := (rfl)
@[simp] theorem State.sens_setI2sH (k : Nat) (h : I2sH) : (s.setI2sH k h).sens = s.sens := (rfl)
@[simp] theorem State.cbs_setI2sH (k : Nat) (h : I2sH) : (s.setI2sH k h).cbs = s.cbs := (rfl)
@[simp] theorem State.jtag_setI2sH (k : Nat) (h : I2sH) : (s.setI2sH k h).jtag = s.jtag := (rfl)
@[simp] theorem State.pin_setI2sH (k : Nat) (h : I2sH) : (s.setI2sH k h).pin = s.pin := (rfl)
@[simp] theorem State.cellar_setI2sH (k : Nat) (h : I2sH) : (s.setI2sH k h).cellar = s.cellar := (rfl)
@[simp] theorem State.i2sH_setWord (k : Nat) (a : Nat) (w : Word) : (s.setWord a w).i2sH k = s.i2sH k := (rfl)
@[simp] theorem State.i2sH_wr (k : Nat) (f : Field) (v : Nat) : (s.wr f v).i2sH k = s.i2sH k := (rfl)
@[simp] theorem State.mvhH_setMvhH (k : Nat) (h : MvhH) : (s.setMvhH k h).mvhH k = h := by simp [State.mvhH, State.setMvhH]
theorem State.mvhH_setMvhH_ne {k j : Nat} (h : MvhH) (hj : j ≠ k) : (s.setMvhH k h).mvhH j = s.mvhH j := by
  simp only [State.mvhH, State.setMvhH]; exact storeGet_set_ne _ _ h hj
@[simp] theorem State.word_setMvhH (k a : Nat) (h : MvhH) : (s.setMvhH k h).word a = s.word a := (rfl)
@[simp] theorem State.rd_setMvhH (k : Nat) (h : MvhH) (f : Field) : (s.setMvhH k h).rd f = s.rd f := (rfl)
@[simp] theorem State.pending_setMvhH (k : Nat) (h : MvhH) : (s.setMvhH k h).pending = s.pending := (rfl)
@[simp] theorem State.regs_setMvhH (k : Nat) (h : MvhH) : (s.setMvhH k h).regs = s.regs := (rfl)
@[simp] theorem State.now_setMvhH (k : Nat) (h : MvhH) : (s.setMvhH k h).now = s.now := (rfl)
@[simp] theorem State.lastRead_setMvhH (k : Nat) (h : MvhH) : (s.setMvhH k h).lastRead = s.lastRead := (rfl)
@[simp] theorem State.free_setMvhH (k : Nat) (h : MvhH) : (s.setMvhH k h).free = s.free := (rfl)
@[simp] theorem State.out_setMvhH (k : Nat) (h : MvhH) : (s.setMvhH k h).out = s.out := (rfl)
@[simp] theorem State.log_setMvhH (k : Nat) (h : MvhH) : (s.setMvhH k h).log = s.log := (rfl)
@[simp] theorem State.top_setMvhH (k : Nat) (h : MvhH) : (s.setMvhH k h).top = s.top := (rfl)
@[simp] theorem State.trl_setMvhH (k : Nat) (h : MvhH) : (s.setMvhH k h).trl = s.trl := (rfl)
@[simp] theorem State.cand_setMvhH (k : Nat) (h : MvhH) : (s.setMvhH k h).cand = s.cand := (rfl)
@[simp] theorem State.dpll_setMvhH (k : Nat) (h : MvhH) : (s.setMvhH k h).dpll = s.dpll := (rfl)
@[simp] theorem State.plan_setMvhH (k : Nat) (h : MvhH) : (s.setMvhH k h).plan = s.plan := (rfl)
@[simp] theorem State.syn_setMvhH (k : Nat) (h : MvhH) : (s.setMvhH k h).syn = s.syn := (rfl)
@[simp] theorem State.ptp_setMvhH (k : Nat) (h : MvhH) : (s.setMvhH k h).ptp = s.ptp := (rfl)
@[simp] theorem State.rck_setMvhH (k : Nat) (h : MvhH) : (s.setMvhH k h).rck = s.rck := (rfl)
@[simp] theorem State.pci_setMvhH (k : Nat) (h : MvhH) : (s.setMvhH k h).pci = s.pci := (rfl)
@[simp] theorem State.ins_setMvhH (k : Nat) (h : MvhH) : (s.setMvhH k h).ins = s.ins := (rfl)
@[simp] theorem State.outs_setMvhH (k : Nat) (h : MvhH) : (s.setMvhH k h).outs = s.outs := (rfl)
@[simp] theorem State.adm_setMvhH (k : Nat) (h : MvhH) : (s.setMvhH k h).adm = s.adm := (rfl)
@[simp] theorem State.chans_setMvhH (k : Nat) (h : MvhH) : (s.setMvhH k h).chans = s.chans := (rfl)
@[simp] theorem State.ldg_setMvhH (k : Nat) (h : MvhH) : (s.setMvhH k h).ldg = s.ldg := (rfl)
@[simp] theorem State.aud_setMvhH (k : Nat) (h : MvhH) : (s.setMvhH k h).aud = s.aud := (rfl)
@[simp] theorem State.src_setMvhH (k : Nat) (h : MvhH) : (s.setMvhH k h).src = s.src := (rfl)
@[simp] theorem State.est_setMvhH (k : Nat) (h : MvhH) : (s.setMvhH k h).est = s.est := (rfl)
@[simp] theorem State.dst_setMvhH (k : Nat) (h : MvhH) : (s.setMvhH k h).dst = s.dst := (rfl)
@[simp] theorem State.gens_setMvhH (k : Nat) (h : MvhH) : (s.setMvhH k h).gens = s.gens := (rfl)
@[simp] theorem State.i2s_setMvhH (k : Nat) (h : MvhH) : (s.setMvhH k h).i2s = s.i2s := (rfl)
@[simp] theorem State.twn_setMvhH (k : Nat) (h : MvhH) : (s.setMvhH k h).twn = s.twn := (rfl)
@[simp] theorem State.cls_setMvhH (k : Nat) (h : MvhH) : (s.setMvhH k h).cls = s.cls := (rfl)
@[simp] theorem State.rx_setMvhH (k : Nat) (h : MvhH) : (s.setMvhH k h).rx = s.rx := (rfl)
@[simp] theorem State.tx_setMvhH (k : Nat) (h : MvhH) : (s.setMvhH k h).tx = s.tx := (rfl)
@[simp] theorem State.mac_setMvhH (k : Nat) (h : MvhH) : (s.setMvhH k h).mac = s.mac := (rfl)
@[simp] theorem State.ctn_setMvhH (k : Nat) (h : MvhH) : (s.setMvhH k h).ctn = s.ctn := (rfl)
@[simp] theorem State.fab_setMvhH (k : Nat) (h : MvhH) : (s.setMvhH k h).fab = s.fab := (rfl)
@[simp] theorem State.chn_setMvhH (k : Nat) (h : MvhH) : (s.setMvhH k h).chn = s.chn := (rfl)
@[simp] theorem State.mail_setMvhH (k : Nat) (h : MvhH) : (s.setMvhH k h).mail = s.mail := (rfl)
@[simp] theorem State.nor_setMvhH (k : Nat) (h : MvhH) : (s.setMvhH k h).nor = s.nor := (rfl)
@[simp] theorem State.otp_setMvhH (k : Nat) (h : MvhH) : (s.setMvhH k h).otp = s.otp := (rfl)
@[simp] theorem State.mgt_setMvhH (k : Nat) (h : MvhH) : (s.setMvhH k h).mgt = s.mgt := (rfl)
@[simp] theorem State.sens_setMvhH (k : Nat) (h : MvhH) : (s.setMvhH k h).sens = s.sens := (rfl)
@[simp] theorem State.cbs_setMvhH (k : Nat) (h : MvhH) : (s.setMvhH k h).cbs = s.cbs := (rfl)
@[simp] theorem State.jtag_setMvhH (k : Nat) (h : MvhH) : (s.setMvhH k h).jtag = s.jtag := (rfl)
@[simp] theorem State.pin_setMvhH (k : Nat) (h : MvhH) : (s.setMvhH k h).pin = s.pin := (rfl)
@[simp] theorem State.cellar_setMvhH (k : Nat) (h : MvhH) : (s.setMvhH k h).cellar = s.cellar := (rfl)
@[simp] theorem State.mvhH_setWord (k : Nat) (a : Nat) (w : Word) : (s.setWord a w).mvhH k = s.mvhH k := (rfl)
@[simp] theorem State.mvhH_wr (k : Nat) (f : Field) (v : Nat) : (s.wr f v).mvhH k = s.mvhH k := (rfl)
@[simp] theorem State.rxH_setRxH (k : Nat) (h : RxH) : (s.setRxH k h).rxH k = h := by simp [State.rxH, State.setRxH]
theorem State.rxH_setRxH_ne {k j : Nat} (h : RxH) (hj : j ≠ k) : (s.setRxH k h).rxH j = s.rxH j := by
  simp only [State.rxH, State.setRxH]; exact storeGet_set_ne _ _ h hj
@[simp] theorem State.word_setRxH (k a : Nat) (h : RxH) : (s.setRxH k h).word a = s.word a := (rfl)
@[simp] theorem State.rd_setRxH (k : Nat) (h : RxH) (f : Field) : (s.setRxH k h).rd f = s.rd f := (rfl)
@[simp] theorem State.pending_setRxH (k : Nat) (h : RxH) : (s.setRxH k h).pending = s.pending := (rfl)
@[simp] theorem State.regs_setRxH (k : Nat) (h : RxH) : (s.setRxH k h).regs = s.regs := (rfl)
@[simp] theorem State.now_setRxH (k : Nat) (h : RxH) : (s.setRxH k h).now = s.now := (rfl)
@[simp] theorem State.lastRead_setRxH (k : Nat) (h : RxH) : (s.setRxH k h).lastRead = s.lastRead := (rfl)
@[simp] theorem State.free_setRxH (k : Nat) (h : RxH) : (s.setRxH k h).free = s.free := (rfl)
@[simp] theorem State.out_setRxH (k : Nat) (h : RxH) : (s.setRxH k h).out = s.out := (rfl)
@[simp] theorem State.log_setRxH (k : Nat) (h : RxH) : (s.setRxH k h).log = s.log := (rfl)
@[simp] theorem State.top_setRxH (k : Nat) (h : RxH) : (s.setRxH k h).top = s.top := (rfl)
@[simp] theorem State.trl_setRxH (k : Nat) (h : RxH) : (s.setRxH k h).trl = s.trl := (rfl)
@[simp] theorem State.cand_setRxH (k : Nat) (h : RxH) : (s.setRxH k h).cand = s.cand := (rfl)
@[simp] theorem State.dpll_setRxH (k : Nat) (h : RxH) : (s.setRxH k h).dpll = s.dpll := (rfl)
@[simp] theorem State.plan_setRxH (k : Nat) (h : RxH) : (s.setRxH k h).plan = s.plan := (rfl)
@[simp] theorem State.syn_setRxH (k : Nat) (h : RxH) : (s.setRxH k h).syn = s.syn := (rfl)
@[simp] theorem State.ptp_setRxH (k : Nat) (h : RxH) : (s.setRxH k h).ptp = s.ptp := (rfl)
@[simp] theorem State.rck_setRxH (k : Nat) (h : RxH) : (s.setRxH k h).rck = s.rck := (rfl)
@[simp] theorem State.pci_setRxH (k : Nat) (h : RxH) : (s.setRxH k h).pci = s.pci := (rfl)
@[simp] theorem State.ins_setRxH (k : Nat) (h : RxH) : (s.setRxH k h).ins = s.ins := (rfl)
@[simp] theorem State.outs_setRxH (k : Nat) (h : RxH) : (s.setRxH k h).outs = s.outs := (rfl)
@[simp] theorem State.adm_setRxH (k : Nat) (h : RxH) : (s.setRxH k h).adm = s.adm := (rfl)
@[simp] theorem State.chans_setRxH (k : Nat) (h : RxH) : (s.setRxH k h).chans = s.chans := (rfl)
@[simp] theorem State.ldg_setRxH (k : Nat) (h : RxH) : (s.setRxH k h).ldg = s.ldg := (rfl)
@[simp] theorem State.aud_setRxH (k : Nat) (h : RxH) : (s.setRxH k h).aud = s.aud := (rfl)
@[simp] theorem State.src_setRxH (k : Nat) (h : RxH) : (s.setRxH k h).src = s.src := (rfl)
@[simp] theorem State.est_setRxH (k : Nat) (h : RxH) : (s.setRxH k h).est = s.est := (rfl)
@[simp] theorem State.dst_setRxH (k : Nat) (h : RxH) : (s.setRxH k h).dst = s.dst := (rfl)
@[simp] theorem State.gens_setRxH (k : Nat) (h : RxH) : (s.setRxH k h).gens = s.gens := (rfl)
@[simp] theorem State.i2s_setRxH (k : Nat) (h : RxH) : (s.setRxH k h).i2s = s.i2s := (rfl)
@[simp] theorem State.mvh_setRxH (k : Nat) (h : RxH) : (s.setRxH k h).mvh = s.mvh := (rfl)
@[simp] theorem State.twn_setRxH (k : Nat) (h : RxH) : (s.setRxH k h).twn = s.twn := (rfl)
@[simp] theorem State.cls_setRxH (k : Nat) (h : RxH) : (s.setRxH k h).cls = s.cls := (rfl)
@[simp] theorem State.tx_setRxH (k : Nat) (h : RxH) : (s.setRxH k h).tx = s.tx := (rfl)
@[simp] theorem State.mac_setRxH (k : Nat) (h : RxH) : (s.setRxH k h).mac = s.mac := (rfl)
@[simp] theorem State.ctn_setRxH (k : Nat) (h : RxH) : (s.setRxH k h).ctn = s.ctn := (rfl)
@[simp] theorem State.fab_setRxH (k : Nat) (h : RxH) : (s.setRxH k h).fab = s.fab := (rfl)
@[simp] theorem State.chn_setRxH (k : Nat) (h : RxH) : (s.setRxH k h).chn = s.chn := (rfl)
@[simp] theorem State.mail_setRxH (k : Nat) (h : RxH) : (s.setRxH k h).mail = s.mail := (rfl)
@[simp] theorem State.nor_setRxH (k : Nat) (h : RxH) : (s.setRxH k h).nor = s.nor := (rfl)
@[simp] theorem State.otp_setRxH (k : Nat) (h : RxH) : (s.setRxH k h).otp = s.otp := (rfl)
@[simp] theorem State.mgt_setRxH (k : Nat) (h : RxH) : (s.setRxH k h).mgt = s.mgt := (rfl)
@[simp] theorem State.sens_setRxH (k : Nat) (h : RxH) : (s.setRxH k h).sens = s.sens := (rfl)
@[simp] theorem State.cbs_setRxH (k : Nat) (h : RxH) : (s.setRxH k h).cbs = s.cbs := (rfl)
@[simp] theorem State.jtag_setRxH (k : Nat) (h : RxH) : (s.setRxH k h).jtag = s.jtag := (rfl)
@[simp] theorem State.pin_setRxH (k : Nat) (h : RxH) : (s.setRxH k h).pin = s.pin := (rfl)
@[simp] theorem State.cellar_setRxH (k : Nat) (h : RxH) : (s.setRxH k h).cellar = s.cellar := (rfl)
@[simp] theorem State.rxH_setWord (k : Nat) (a : Nat) (w : Word) : (s.setWord a w).rxH k = s.rxH k := (rfl)
@[simp] theorem State.rxH_wr (k : Nat) (f : Field) (v : Nat) : (s.wr f v).rxH k = s.rxH k := (rfl)
@[simp] theorem State.txH_setTxH (k : Nat) (h : TxH) : (s.setTxH k h).txH k = h := by simp [State.txH, State.setTxH]
theorem State.txH_setTxH_ne {k j : Nat} (h : TxH) (hj : j ≠ k) : (s.setTxH k h).txH j = s.txH j := by
  simp only [State.txH, State.setTxH]; exact storeGet_set_ne _ _ h hj
@[simp] theorem State.word_setTxH (k a : Nat) (h : TxH) : (s.setTxH k h).word a = s.word a := (rfl)
@[simp] theorem State.rd_setTxH (k : Nat) (h : TxH) (f : Field) : (s.setTxH k h).rd f = s.rd f := (rfl)
@[simp] theorem State.pending_setTxH (k : Nat) (h : TxH) : (s.setTxH k h).pending = s.pending := (rfl)
@[simp] theorem State.regs_setTxH (k : Nat) (h : TxH) : (s.setTxH k h).regs = s.regs := (rfl)
@[simp] theorem State.now_setTxH (k : Nat) (h : TxH) : (s.setTxH k h).now = s.now := (rfl)
@[simp] theorem State.lastRead_setTxH (k : Nat) (h : TxH) : (s.setTxH k h).lastRead = s.lastRead := (rfl)
@[simp] theorem State.free_setTxH (k : Nat) (h : TxH) : (s.setTxH k h).free = s.free := (rfl)
@[simp] theorem State.out_setTxH (k : Nat) (h : TxH) : (s.setTxH k h).out = s.out := (rfl)
@[simp] theorem State.log_setTxH (k : Nat) (h : TxH) : (s.setTxH k h).log = s.log := (rfl)
@[simp] theorem State.top_setTxH (k : Nat) (h : TxH) : (s.setTxH k h).top = s.top := (rfl)
@[simp] theorem State.trl_setTxH (k : Nat) (h : TxH) : (s.setTxH k h).trl = s.trl := (rfl)
@[simp] theorem State.cand_setTxH (k : Nat) (h : TxH) : (s.setTxH k h).cand = s.cand := (rfl)
@[simp] theorem State.dpll_setTxH (k : Nat) (h : TxH) : (s.setTxH k h).dpll = s.dpll := (rfl)
@[simp] theorem State.plan_setTxH (k : Nat) (h : TxH) : (s.setTxH k h).plan = s.plan := (rfl)
@[simp] theorem State.syn_setTxH (k : Nat) (h : TxH) : (s.setTxH k h).syn = s.syn := (rfl)
@[simp] theorem State.ptp_setTxH (k : Nat) (h : TxH) : (s.setTxH k h).ptp = s.ptp := (rfl)
@[simp] theorem State.rck_setTxH (k : Nat) (h : TxH) : (s.setTxH k h).rck = s.rck := (rfl)
@[simp] theorem State.pci_setTxH (k : Nat) (h : TxH) : (s.setTxH k h).pci = s.pci := (rfl)
@[simp] theorem State.ins_setTxH (k : Nat) (h : TxH) : (s.setTxH k h).ins = s.ins := (rfl)
@[simp] theorem State.outs_setTxH (k : Nat) (h : TxH) : (s.setTxH k h).outs = s.outs := (rfl)
@[simp] theorem State.adm_setTxH (k : Nat) (h : TxH) : (s.setTxH k h).adm = s.adm := (rfl)
@[simp] theorem State.chans_setTxH (k : Nat) (h : TxH) : (s.setTxH k h).chans = s.chans := (rfl)
@[simp] theorem State.ldg_setTxH (k : Nat) (h : TxH) : (s.setTxH k h).ldg = s.ldg := (rfl)
@[simp] theorem State.aud_setTxH (k : Nat) (h : TxH) : (s.setTxH k h).aud = s.aud := (rfl)
@[simp] theorem State.src_setTxH (k : Nat) (h : TxH) : (s.setTxH k h).src = s.src := (rfl)
@[simp] theorem State.est_setTxH (k : Nat) (h : TxH) : (s.setTxH k h).est = s.est := (rfl)
@[simp] theorem State.dst_setTxH (k : Nat) (h : TxH) : (s.setTxH k h).dst = s.dst := (rfl)
@[simp] theorem State.gens_setTxH (k : Nat) (h : TxH) : (s.setTxH k h).gens = s.gens := (rfl)
@[simp] theorem State.i2s_setTxH (k : Nat) (h : TxH) : (s.setTxH k h).i2s = s.i2s := (rfl)
@[simp] theorem State.mvh_setTxH (k : Nat) (h : TxH) : (s.setTxH k h).mvh = s.mvh := (rfl)
@[simp] theorem State.twn_setTxH (k : Nat) (h : TxH) : (s.setTxH k h).twn = s.twn := (rfl)
@[simp] theorem State.cls_setTxH (k : Nat) (h : TxH) : (s.setTxH k h).cls = s.cls := (rfl)
@[simp] theorem State.rx_setTxH (k : Nat) (h : TxH) : (s.setTxH k h).rx = s.rx := (rfl)
@[simp] theorem State.mac_setTxH (k : Nat) (h : TxH) : (s.setTxH k h).mac = s.mac := (rfl)
@[simp] theorem State.ctn_setTxH (k : Nat) (h : TxH) : (s.setTxH k h).ctn = s.ctn := (rfl)
@[simp] theorem State.fab_setTxH (k : Nat) (h : TxH) : (s.setTxH k h).fab = s.fab := (rfl)
@[simp] theorem State.chn_setTxH (k : Nat) (h : TxH) : (s.setTxH k h).chn = s.chn := (rfl)
@[simp] theorem State.mail_setTxH (k : Nat) (h : TxH) : (s.setTxH k h).mail = s.mail := (rfl)
@[simp] theorem State.nor_setTxH (k : Nat) (h : TxH) : (s.setTxH k h).nor = s.nor := (rfl)
@[simp] theorem State.otp_setTxH (k : Nat) (h : TxH) : (s.setTxH k h).otp = s.otp := (rfl)
@[simp] theorem State.mgt_setTxH (k : Nat) (h : TxH) : (s.setTxH k h).mgt = s.mgt := (rfl)
@[simp] theorem State.sens_setTxH (k : Nat) (h : TxH) : (s.setTxH k h).sens = s.sens := (rfl)
@[simp] theorem State.cbs_setTxH (k : Nat) (h : TxH) : (s.setTxH k h).cbs = s.cbs := (rfl)
@[simp] theorem State.jtag_setTxH (k : Nat) (h : TxH) : (s.setTxH k h).jtag = s.jtag := (rfl)
@[simp] theorem State.pin_setTxH (k : Nat) (h : TxH) : (s.setTxH k h).pin = s.pin := (rfl)
@[simp] theorem State.cellar_setTxH (k : Nat) (h : TxH) : (s.setTxH k h).cellar = s.cellar := (rfl)
@[simp] theorem State.txH_setWord (k : Nat) (a : Nat) (w : Word) : (s.setWord a w).txH k = s.txH k := (rfl)
@[simp] theorem State.txH_wr (k : Nat) (f : Field) (v : Nat) : (s.wr f v).txH k = s.txH k := (rfl)
@[simp] theorem State.macH_setMacH (k : Nat) (h : MacH) : (s.setMacH k h).macH k = h := by simp [State.macH, State.setMacH]
theorem State.macH_setMacH_ne {k j : Nat} (h : MacH) (hj : j ≠ k) : (s.setMacH k h).macH j = s.macH j := by
  simp only [State.macH, State.setMacH]; exact storeGet_set_ne _ _ h hj
@[simp] theorem State.word_setMacH (k a : Nat) (h : MacH) : (s.setMacH k h).word a = s.word a := (rfl)
@[simp] theorem State.rd_setMacH (k : Nat) (h : MacH) (f : Field) : (s.setMacH k h).rd f = s.rd f := (rfl)
@[simp] theorem State.pending_setMacH (k : Nat) (h : MacH) : (s.setMacH k h).pending = s.pending := (rfl)
@[simp] theorem State.regs_setMacH (k : Nat) (h : MacH) : (s.setMacH k h).regs = s.regs := (rfl)
@[simp] theorem State.now_setMacH (k : Nat) (h : MacH) : (s.setMacH k h).now = s.now := (rfl)
@[simp] theorem State.lastRead_setMacH (k : Nat) (h : MacH) : (s.setMacH k h).lastRead = s.lastRead := (rfl)
@[simp] theorem State.free_setMacH (k : Nat) (h : MacH) : (s.setMacH k h).free = s.free := (rfl)
@[simp] theorem State.out_setMacH (k : Nat) (h : MacH) : (s.setMacH k h).out = s.out := (rfl)
@[simp] theorem State.log_setMacH (k : Nat) (h : MacH) : (s.setMacH k h).log = s.log := (rfl)
@[simp] theorem State.top_setMacH (k : Nat) (h : MacH) : (s.setMacH k h).top = s.top := (rfl)
@[simp] theorem State.trl_setMacH (k : Nat) (h : MacH) : (s.setMacH k h).trl = s.trl := (rfl)
@[simp] theorem State.cand_setMacH (k : Nat) (h : MacH) : (s.setMacH k h).cand = s.cand := (rfl)
@[simp] theorem State.dpll_setMacH (k : Nat) (h : MacH) : (s.setMacH k h).dpll = s.dpll := (rfl)
@[simp] theorem State.plan_setMacH (k : Nat) (h : MacH) : (s.setMacH k h).plan = s.plan := (rfl)
@[simp] theorem State.syn_setMacH (k : Nat) (h : MacH) : (s.setMacH k h).syn = s.syn := (rfl)
@[simp] theorem State.ptp_setMacH (k : Nat) (h : MacH) : (s.setMacH k h).ptp = s.ptp := (rfl)
@[simp] theorem State.rck_setMacH (k : Nat) (h : MacH) : (s.setMacH k h).rck = s.rck := (rfl)
@[simp] theorem State.pci_setMacH (k : Nat) (h : MacH) : (s.setMacH k h).pci = s.pci := (rfl)
@[simp] theorem State.ins_setMacH (k : Nat) (h : MacH) : (s.setMacH k h).ins = s.ins := (rfl)
@[simp] theorem State.outs_setMacH (k : Nat) (h : MacH) : (s.setMacH k h).outs = s.outs := (rfl)
@[simp] theorem State.adm_setMacH (k : Nat) (h : MacH) : (s.setMacH k h).adm = s.adm := (rfl)
@[simp] theorem State.chans_setMacH (k : Nat) (h : MacH) : (s.setMacH k h).chans = s.chans := (rfl)
@[simp] theorem State.ldg_setMacH (k : Nat) (h : MacH) : (s.setMacH k h).ldg = s.ldg := (rfl)
@[simp] theorem State.aud_setMacH (k : Nat) (h : MacH) : (s.setMacH k h).aud = s.aud := (rfl)
@[simp] theorem State.src_setMacH (k : Nat) (h : MacH) : (s.setMacH k h).src = s.src := (rfl)
@[simp] theorem State.est_setMacH (k : Nat) (h : MacH) : (s.setMacH k h).est = s.est := (rfl)
@[simp] theorem State.dst_setMacH (k : Nat) (h : MacH) : (s.setMacH k h).dst = s.dst := (rfl)
@[simp] theorem State.gens_setMacH (k : Nat) (h : MacH) : (s.setMacH k h).gens = s.gens := (rfl)
@[simp] theorem State.i2s_setMacH (k : Nat) (h : MacH) : (s.setMacH k h).i2s = s.i2s := (rfl)
@[simp] theorem State.mvh_setMacH (k : Nat) (h : MacH) : (s.setMacH k h).mvh = s.mvh := (rfl)
@[simp] theorem State.twn_setMacH (k : Nat) (h : MacH) : (s.setMacH k h).twn = s.twn := (rfl)
@[simp] theorem State.cls_setMacH (k : Nat) (h : MacH) : (s.setMacH k h).cls = s.cls := (rfl)
@[simp] theorem State.rx_setMacH (k : Nat) (h : MacH) : (s.setMacH k h).rx = s.rx := (rfl)
@[simp] theorem State.tx_setMacH (k : Nat) (h : MacH) : (s.setMacH k h).tx = s.tx := (rfl)
@[simp] theorem State.ctn_setMacH (k : Nat) (h : MacH) : (s.setMacH k h).ctn = s.ctn := (rfl)
@[simp] theorem State.fab_setMacH (k : Nat) (h : MacH) : (s.setMacH k h).fab = s.fab := (rfl)
@[simp] theorem State.chn_setMacH (k : Nat) (h : MacH) : (s.setMacH k h).chn = s.chn := (rfl)
@[simp] theorem State.mail_setMacH (k : Nat) (h : MacH) : (s.setMacH k h).mail = s.mail := (rfl)
@[simp] theorem State.nor_setMacH (k : Nat) (h : MacH) : (s.setMacH k h).nor = s.nor := (rfl)
@[simp] theorem State.otp_setMacH (k : Nat) (h : MacH) : (s.setMacH k h).otp = s.otp := (rfl)
@[simp] theorem State.mgt_setMacH (k : Nat) (h : MacH) : (s.setMacH k h).mgt = s.mgt := (rfl)
@[simp] theorem State.sens_setMacH (k : Nat) (h : MacH) : (s.setMacH k h).sens = s.sens := (rfl)
@[simp] theorem State.cbs_setMacH (k : Nat) (h : MacH) : (s.setMacH k h).cbs = s.cbs := (rfl)
@[simp] theorem State.jtag_setMacH (k : Nat) (h : MacH) : (s.setMacH k h).jtag = s.jtag := (rfl)
@[simp] theorem State.pin_setMacH (k : Nat) (h : MacH) : (s.setMacH k h).pin = s.pin := (rfl)
@[simp] theorem State.cellar_setMacH (k : Nat) (h : MacH) : (s.setMacH k h).cellar = s.cellar := (rfl)
@[simp] theorem State.macH_setWord (k : Nat) (a : Nat) (w : Word) : (s.setWord a w).macH k = s.macH k := (rfl)
@[simp] theorem State.macH_wr (k : Nat) (f : Field) (v : Nat) : (s.wr f v).macH k = s.macH k := (rfl)

end Sys2Proof.Machine
end

