-- ==== Sys2Proof/Laws/Ops.lean ====
section
/-! SUPPORT. What the shared operations leave alone, field by field, and the words that they leave. -/

namespace Sys2Proof.Machine

variable (s : State)

/-- What each step of a fold over numbers keeps, the fold keeps. -/
theorem State.forN_keeps {β : Type} (g : State → β) {f : Nat → State → State} (hf : ∀ i u, g (f i u) = g u) (n : Nat) (u : State) :
    g (u.forN n f) = g u := by
  unfold State.forN
  generalize rangeFrom 0 n = l
  induction l generalizing u with
  | nil => rfl
  | cons a l ih => exact (ih (f a u)).trans (hf a u)

theorem State.capture_aux (p : Prop) [Decidable p] (f : Field) (l : List LogRec) :
    (if p then { s with log := l } else s.bump f) =
      { s with regs := (if p then { s with log := l } else s.bump f).regs, log := (if p then { s with log := l } else s.bump f).log } := by
  by_cases h : p <;> simp only [h, if_true, if_false]
  rfl

@[simp] theorem State.pending_wrInt (f : Field) (v : Int) : (s.wrInt f v).pending = s.pending := (rfl)
@[simp] theorem State.now_wrInt (f : Field) (v : Int) : (s.wrInt f v).now = s.now := (rfl)
@[simp] theorem State.lastRead_wrInt (f : Field) (v : Int) : (s.wrInt f v).lastRead = s.lastRead := (rfl)
@[simp] theorem State.free_wrInt (f : Field) (v : Int) : (s.wrInt f v).free = s.free := (rfl)
@[simp] theorem State.out_wrInt (f : Field) (v : Int) : (s.wrInt f v).out = s.out := (rfl)
@[simp] theorem State.log_wrInt (f : Field) (v : Int) : (s.wrInt f v).log = s.log := (rfl)
@[simp] theorem State.top_wrInt (f : Field) (v : Int) : (s.wrInt f v).top = s.top := (rfl)
@[simp] theorem State.trl_wrInt (f : Field) (v : Int) : (s.wrInt f v).trl = s.trl := (rfl)
@[simp] theorem State.cand_wrInt (f : Field) (v : Int) : (s.wrInt f v).cand = s.cand := (rfl)
@[simp] theorem State.dpll_wrInt (f : Field) (v : Int) : (s.wrInt f v).dpll = s.dpll := (rfl)
@[simp] theorem State.plan_wrInt (f : Field) (v : Int) : (s.wrInt f v).plan = s.plan := (rfl)
@[simp] theorem State.syn_wrInt (f : Field) (v : Int) : (s.wrInt f v).syn = s.syn := (rfl)
@[simp] theorem State.ptp_wrInt (f : Field) (v : Int) : (s.wrInt f v).ptp = s.ptp := (rfl)
@[simp] theorem State.rck_wrInt (f : Field) (v : Int) : (s.wrInt f v).rck = s.rck := (rfl)
@[simp] theorem State.pci_wrInt (f : Field) (v : Int) : (s.wrInt f v).pci = s.pci := (rfl)
@[simp] theorem State.ins_wrInt (f : Field) (v : Int) : (s.wrInt f v).ins = s.ins := (rfl)
@[simp] theorem State.outs_wrInt (f : Field) (v : Int) : (s.wrInt f v).outs = s.outs := (rfl)
@[simp] theorem State.adm_wrInt (f : Field) (v : Int) : (s.wrInt f v).adm = s.adm := (rfl)
@[simp] theorem State.chans_wrInt (f : Field) (v : Int) : (s.wrInt f v).chans = s.chans := (rfl)
@[simp] theorem State.ldg_wrInt (f : Field) (v : Int) : (s.wrInt f v).ldg = s.ldg := (rfl)
@[simp] theorem State.aud_wrInt (f : Field) (v : Int) : (s.wrInt f v).aud = s.aud := (rfl)
@[simp] theorem State.src_wrInt (f : Field) (v : Int) : (s.wrInt f v).src = s.src := (rfl)
@[simp] theorem State.est_wrInt (f : Field) (v : Int) : (s.wrInt f v).est = s.est := (rfl)
@[simp] theorem State.dst_wrInt (f : Field) (v : Int) : (s.wrInt f v).dst = s.dst := (rfl)
@[simp] theorem State.gens_wrInt (f : Field) (v : Int) : (s.wrInt f v).gens = s.gens := (rfl)
@[simp] theorem State.i2s_wrInt (f : Field) (v : Int) : (s.wrInt f v).i2s = s.i2s := (rfl)
@[simp] theorem State.mvh_wrInt (f : Field) (v : Int) : (s.wrInt f v).mvh = s.mvh := (rfl)
@[simp] theorem State.twn_wrInt (f : Field) (v : Int) : (s.wrInt f v).twn = s.twn := (rfl)
@[simp] theorem State.cls_wrInt (f : Field) (v : Int) : (s.wrInt f v).cls = s.cls := (rfl)
@[simp] theorem State.rx_wrInt (f : Field) (v : Int) : (s.wrInt f v).rx = s.rx := (rfl)
@[simp] theorem State.tx_wrInt (f : Field) (v : Int) : (s.wrInt f v).tx = s.tx := (rfl)
@[simp] theorem State.mac_wrInt (f : Field) (v : Int) : (s.wrInt f v).mac = s.mac := (rfl)
@[simp] theorem State.ctn_wrInt (f : Field) (v : Int) : (s.wrInt f v).ctn = s.ctn := (rfl)
@[simp] theorem State.fab_wrInt (f : Field) (v : Int) : (s.wrInt f v).fab = s.fab := (rfl)
@[simp] theorem State.chn_wrInt (f : Field) (v : Int) : (s.wrInt f v).chn = s.chn := (rfl)
@[simp] theorem State.mail_wrInt (f : Field) (v : Int) : (s.wrInt f v).mail = s.mail := (rfl)
@[simp] theorem State.nor_wrInt (f : Field) (v : Int) : (s.wrInt f v).nor = s.nor := (rfl)
@[simp] theorem State.otp_wrInt (f : Field) (v : Int) : (s.wrInt f v).otp = s.otp := (rfl)
@[simp] theorem State.mgt_wrInt (f : Field) (v : Int) : (s.wrInt f v).mgt = s.mgt := (rfl)
@[simp] theorem State.sens_wrInt (f : Field) (v : Int) : (s.wrInt f v).sens = s.sens := (rfl)
@[simp] theorem State.cbs_wrInt (f : Field) (v : Int) : (s.wrInt f v).cbs = s.cbs := (rfl)
@[simp] theorem State.jtag_wrInt (f : Field) (v : Int) : (s.wrInt f v).jtag = s.jtag := (rfl)
@[simp] theorem State.pin_wrInt (f : Field) (v : Int) : (s.wrInt f v).pin = s.pin := (rfl)
@[simp] theorem State.cellar_wrInt (f : Field) (v : Int) : (s.wrInt f v).cellar = s.cellar := (rfl)

@[simp] theorem State.pending_bumpBy (f : Field) (n : Nat) : (s.bumpBy f n).pending = s.pending := (rfl)
@[simp] theorem State.now_bumpBy (f : Field) (n : Nat) : (s.bumpBy f n).now = s.now := (rfl)
@[simp] theorem State.lastRead_bumpBy (f : Field) (n : Nat) : (s.bumpBy f n).lastRead = s.lastRead := (rfl)
@[simp] theorem State.free_bumpBy (f : Field) (n : Nat) : (s.bumpBy f n).free = s.free := (rfl)
@[simp] theorem State.out_bumpBy (f : Field) (n : Nat) : (s.bumpBy f n).out = s.out := (rfl)
@[simp] theorem State.log_bumpBy (f : Field) (n : Nat) : (s.bumpBy f n).log = s.log := (rfl)
@[simp] theorem State.top_bumpBy (f : Field) (n : Nat) : (s.bumpBy f n).top = s.top := (rfl)
@[simp] theorem State.trl_bumpBy (f : Field) (n : Nat) : (s.bumpBy f n).trl = s.trl := (rfl)
@[simp] theorem State.cand_bumpBy (f : Field) (n : Nat) : (s.bumpBy f n).cand = s.cand := (rfl)
@[simp] theorem State.dpll_bumpBy (f : Field) (n : Nat) : (s.bumpBy f n).dpll = s.dpll := (rfl)
@[simp] theorem State.plan_bumpBy (f : Field) (n : Nat) : (s.bumpBy f n).plan = s.plan := (rfl)
@[simp] theorem State.syn_bumpBy (f : Field) (n : Nat) : (s.bumpBy f n).syn = s.syn := (rfl)
@[simp] theorem State.ptp_bumpBy (f : Field) (n : Nat) : (s.bumpBy f n).ptp = s.ptp := (rfl)
@[simp] theorem State.rck_bumpBy (f : Field) (n : Nat) : (s.bumpBy f n).rck = s.rck := (rfl)
@[simp] theorem State.pci_bumpBy (f : Field) (n : Nat) : (s.bumpBy f n).pci = s.pci := (rfl)
@[simp] theorem State.ins_bumpBy (f : Field) (n : Nat) : (s.bumpBy f n).ins = s.ins := (rfl)
@[simp] theorem State.outs_bumpBy (f : Field) (n : Nat) : (s.bumpBy f n).outs = s.outs := (rfl)
@[simp] theorem State.adm_bumpBy (f : Field) (n : Nat) : (s.bumpBy f n).adm = s.adm := (rfl)
@[simp] theorem State.chans_bumpBy (f : Field) (n : Nat) : (s.bumpBy f n).chans = s.chans := (rfl)
@[simp] theorem State.ldg_bumpBy (f : Field) (n : Nat) : (s.bumpBy f n).ldg = s.ldg := (rfl)
@[simp] theorem State.aud_bumpBy (f : Field) (n : Nat) : (s.bumpBy f n).aud = s.aud := (rfl)
@[simp] theorem State.src_bumpBy (f : Field) (n : Nat) : (s.bumpBy f n).src = s.src := (rfl)
@[simp] theorem State.est_bumpBy (f : Field) (n : Nat) : (s.bumpBy f n).est = s.est := (rfl)
@[simp] theorem State.dst_bumpBy (f : Field) (n : Nat) : (s.bumpBy f n).dst = s.dst := (rfl)
@[simp] theorem State.gens_bumpBy (f : Field) (n : Nat) : (s.bumpBy f n).gens = s.gens := (rfl)
@[simp] theorem State.i2s_bumpBy (f : Field) (n : Nat) : (s.bumpBy f n).i2s = s.i2s := (rfl)
@[simp] theorem State.mvh_bumpBy (f : Field) (n : Nat) : (s.bumpBy f n).mvh = s.mvh := (rfl)
@[simp] theorem State.twn_bumpBy (f : Field) (n : Nat) : (s.bumpBy f n).twn = s.twn := (rfl)
@[simp] theorem State.cls_bumpBy (f : Field) (n : Nat) : (s.bumpBy f n).cls = s.cls := (rfl)
@[simp] theorem State.rx_bumpBy (f : Field) (n : Nat) : (s.bumpBy f n).rx = s.rx := (rfl)
@[simp] theorem State.tx_bumpBy (f : Field) (n : Nat) : (s.bumpBy f n).tx = s.tx := (rfl)
@[simp] theorem State.mac_bumpBy (f : Field) (n : Nat) : (s.bumpBy f n).mac = s.mac := (rfl)
@[simp] theorem State.ctn_bumpBy (f : Field) (n : Nat) : (s.bumpBy f n).ctn = s.ctn := (rfl)
@[simp] theorem State.fab_bumpBy (f : Field) (n : Nat) : (s.bumpBy f n).fab = s.fab := (rfl)
@[simp] theorem State.chn_bumpBy (f : Field) (n : Nat) : (s.bumpBy f n).chn = s.chn := (rfl)
@[simp] theorem State.mail_bumpBy (f : Field) (n : Nat) : (s.bumpBy f n).mail = s.mail := (rfl)
@[simp] theorem State.nor_bumpBy (f : Field) (n : Nat) : (s.bumpBy f n).nor = s.nor := (rfl)
@[simp] theorem State.otp_bumpBy (f : Field) (n : Nat) : (s.bumpBy f n).otp = s.otp := (rfl)
@[simp] theorem State.mgt_bumpBy (f : Field) (n : Nat) : (s.bumpBy f n).mgt = s.mgt := (rfl)
@[simp] theorem State.sens_bumpBy (f : Field) (n : Nat) : (s.bumpBy f n).sens = s.sens := (rfl)
@[simp] theorem State.cbs_bumpBy (f : Field) (n : Nat) : (s.bumpBy f n).cbs = s.cbs := (rfl)
@[simp] theorem State.jtag_bumpBy (f : Field) (n : Nat) : (s.bumpBy f n).jtag = s.jtag := (rfl)
@[simp] theorem State.pin_bumpBy (f : Field) (n : Nat) : (s.bumpBy f n).pin = s.pin := (rfl)
@[simp] theorem State.cellar_bumpBy (f : Field) (n : Nat) : (s.bumpBy f n).cellar = s.cellar := (rfl)

@[simp] theorem State.pending_bump (f : Field) : (s.bump f).pending = s.pending := (rfl)
@[simp] theorem State.now_bump (f : Field) : (s.bump f).now = s.now := (rfl)
@[simp] theorem State.lastRead_bump (f : Field) : (s.bump f).lastRead = s.lastRead := (rfl)
@[simp] theorem State.free_bump (f : Field) : (s.bump f).free = s.free := (rfl)
@[simp] theorem State.out_bump (f : Field) : (s.bump f).out = s.out := (rfl)
@[simp] theorem State.log_bump (f : Field) : (s.bump f).log = s.log := (rfl)
@[simp] theorem State.top_bump (f : Field) : (s.bump f).top = s.top := (rfl)
@[simp] theorem State.trl_bump (f : Field) : (s.bump f).trl = s.trl := (rfl)
@[simp] theorem State.cand_bump (f : Field) : (s.bump f).cand = s.cand := (rfl)
@[simp] theorem State.dpll_bump (f : Field) : (s.bump f).dpll = s.dpll := (rfl)
@[simp] theorem State.plan_bump (f : Field) : (s.bump f).plan = s.plan := (rfl)
@[simp] theorem State.syn_bump (f : Field) : (s.bump f).syn = s.syn := (rfl)
@[simp] theorem State.ptp_bump (f : Field) : (s.bump f).ptp = s.ptp := (rfl)
@[simp] theorem State.rck_bump (f : Field) : (s.bump f).rck = s.rck := (rfl)
@[simp] theorem State.pci_bump (f : Field) : (s.bump f).pci = s.pci := (rfl)
@[simp] theorem State.ins_bump (f : Field) : (s.bump f).ins = s.ins := (rfl)
@[simp] theorem State.outs_bump (f : Field) : (s.bump f).outs = s.outs := (rfl)
@[simp] theorem State.adm_bump (f : Field) : (s.bump f).adm = s.adm := (rfl)
@[simp] theorem State.chans_bump (f : Field) : (s.bump f).chans = s.chans := (rfl)
@[simp] theorem State.ldg_bump (f : Field) : (s.bump f).ldg = s.ldg := (rfl)
@[simp] theorem State.aud_bump (f : Field) : (s.bump f).aud = s.aud := (rfl)
@[simp] theorem State.src_bump (f : Field) : (s.bump f).src = s.src := (rfl)
@[simp] theorem State.est_bump (f : Field) : (s.bump f).est = s.est := (rfl)
@[simp] theorem State.dst_bump (f : Field) : (s.bump f).dst = s.dst := (rfl)
@[simp] theorem State.gens_bump (f : Field) : (s.bump f).gens = s.gens := (rfl)
@[simp] theorem State.i2s_bump (f : Field) : (s.bump f).i2s = s.i2s := (rfl)
@[simp] theorem State.mvh_bump (f : Field) : (s.bump f).mvh = s.mvh := (rfl)
@[simp] theorem State.twn_bump (f : Field) : (s.bump f).twn = s.twn := (rfl)
@[simp] theorem State.cls_bump (f : Field) : (s.bump f).cls = s.cls := (rfl)
@[simp] theorem State.rx_bump (f : Field) : (s.bump f).rx = s.rx := (rfl)
@[simp] theorem State.tx_bump (f : Field) : (s.bump f).tx = s.tx := (rfl)
@[simp] theorem State.mac_bump (f : Field) : (s.bump f).mac = s.mac := (rfl)
@[simp] theorem State.ctn_bump (f : Field) : (s.bump f).ctn = s.ctn := (rfl)
@[simp] theorem State.fab_bump (f : Field) : (s.bump f).fab = s.fab := (rfl)
@[simp] theorem State.chn_bump (f : Field) : (s.bump f).chn = s.chn := (rfl)
@[simp] theorem State.mail_bump (f : Field) : (s.bump f).mail = s.mail := (rfl)
@[simp] theorem State.nor_bump (f : Field) : (s.bump f).nor = s.nor := (rfl)
@[simp] theorem State.otp_bump (f : Field) : (s.bump f).otp = s.otp := (rfl)
@[simp] theorem State.mgt_bump (f : Field) : (s.bump f).mgt = s.mgt := (rfl)
@[simp] theorem State.sens_bump (f : Field) : (s.bump f).sens = s.sens := (rfl)
@[simp] theorem State.cbs_bump (f : Field) : (s.bump f).cbs = s.cbs := (rfl)
@[simp] theorem State.jtag_bump (f : Field) : (s.bump f).jtag = s.jtag := (rfl)
@[simp] theorem State.pin_bump (f : Field) : (s.bump f).pin = s.pin := (rfl)
@[simp] theorem State.cellar_bump (f : Field) : (s.bump f).cellar = s.cellar := (rfl)

@[simp] theorem State.pending_resetRange (a b : Nat) : (s.resetRange a b).pending = s.pending := (rfl)
@[simp] theorem State.now_resetRange (a b : Nat) : (s.resetRange a b).now = s.now := (rfl)
@[simp] theorem State.lastRead_resetRange (a b : Nat) : (s.resetRange a b).lastRead = s.lastRead := (rfl)
@[simp] theorem State.free_resetRange (a b : Nat) : (s.resetRange a b).free = s.free := (rfl)
@[simp] theorem State.out_resetRange (a b : Nat) : (s.resetRange a b).out = s.out := (rfl)
@[simp] theorem State.log_resetRange (a b : Nat) : (s.resetRange a b).log = s.log := (rfl)
@[simp] theorem State.top_resetRange (a b : Nat) : (s.resetRange a b).top = s.top := (rfl)
@[simp] theorem State.trl_resetRange (a b : Nat) : (s.resetRange a b).trl = s.trl := (rfl)
@[simp] theorem State.cand_resetRange (a b : Nat) : (s.resetRange a b).cand = s.cand := (rfl)
@[simp] theorem State.dpll_resetRange (a b : Nat) : (s.resetRange a b).dpll = s.dpll := (rfl)
@[simp] theorem State.plan_resetRange (a b : Nat) : (s.resetRange a b).plan = s.plan := (rfl)
@[simp] theorem State.syn_resetRange (a b : Nat) : (s.resetRange a b).syn = s.syn := (rfl)
@[simp] theorem State.ptp_resetRange (a b : Nat) : (s.resetRange a b).ptp = s.ptp := (rfl)
@[simp] theorem State.rck_resetRange (a b : Nat) : (s.resetRange a b).rck = s.rck := (rfl)
@[simp] theorem State.pci_resetRange (a b : Nat) : (s.resetRange a b).pci = s.pci := (rfl)
@[simp] theorem State.ins_resetRange (a b : Nat) : (s.resetRange a b).ins = s.ins := (rfl)
@[simp] theorem State.outs_resetRange (a b : Nat) : (s.resetRange a b).outs = s.outs := (rfl)
@[simp] theorem State.adm_resetRange (a b : Nat) : (s.resetRange a b).adm = s.adm := (rfl)
@[simp] theorem State.chans_resetRange (a b : Nat) : (s.resetRange a b).chans = s.chans := (rfl)
@[simp] theorem State.ldg_resetRange (a b : Nat) : (s.resetRange a b).ldg = s.ldg := (rfl)
@[simp] theorem State.aud_resetRange (a b : Nat) : (s.resetRange a b).aud = s.aud := (rfl)
@[simp] theorem State.src_resetRange (a b : Nat) : (s.resetRange a b).src = s.src := (rfl)
@[simp] theorem State.est_resetRange (a b : Nat) : (s.resetRange a b).est = s.est := (rfl)
@[simp] theorem State.dst_resetRange (a b : Nat) : (s.resetRange a b).dst = s.dst := (rfl)
@[simp] theorem State.gens_resetRange (a b : Nat) : (s.resetRange a b).gens = s.gens := (rfl)
@[simp] theorem State.i2s_resetRange (a b : Nat) : (s.resetRange a b).i2s = s.i2s := (rfl)
@[simp] theorem State.mvh_resetRange (a b : Nat) : (s.resetRange a b).mvh = s.mvh := (rfl)
@[simp] theorem State.twn_resetRange (a b : Nat) : (s.resetRange a b).twn = s.twn := (rfl)
@[simp] theorem State.cls_resetRange (a b : Nat) : (s.resetRange a b).cls = s.cls := (rfl)
@[simp] theorem State.rx_resetRange (a b : Nat) : (s.resetRange a b).rx = s.rx := (rfl)
@[simp] theorem State.tx_resetRange (a b : Nat) : (s.resetRange a b).tx = s.tx := (rfl)
@[simp] theorem State.mac_resetRange (a b : Nat) : (s.resetRange a b).mac = s.mac := (rfl)
@[simp] theorem State.ctn_resetRange (a b : Nat) : (s.resetRange a b).ctn = s.ctn := (rfl)
@[simp] theorem State.fab_resetRange (a b : Nat) : (s.resetRange a b).fab = s.fab := (rfl)
@[simp] theorem State.chn_resetRange (a b : Nat) : (s.resetRange a b).chn = s.chn := (rfl)
@[simp] theorem State.mail_resetRange (a b : Nat) : (s.resetRange a b).mail = s.mail := (rfl)
@[simp] theorem State.nor_resetRange (a b : Nat) : (s.resetRange a b).nor = s.nor := (rfl)
@[simp] theorem State.otp_resetRange (a b : Nat) : (s.resetRange a b).otp = s.otp := (rfl)
@[simp] theorem State.mgt_resetRange (a b : Nat) : (s.resetRange a b).mgt = s.mgt := (rfl)
@[simp] theorem State.sens_resetRange (a b : Nat) : (s.resetRange a b).sens = s.sens := (rfl)
@[simp] theorem State.cbs_resetRange (a b : Nat) : (s.resetRange a b).cbs = s.cbs := (rfl)
@[simp] theorem State.jtag_resetRange (a b : Nat) : (s.resetRange a b).jtag = s.jtag := (rfl)
@[simp] theorem State.pin_resetRange (a b : Nat) : (s.resetRange a b).pin = s.pin := (rfl)
@[simp] theorem State.cellar_resetRange (a b : Nat) : (s.resetRange a b).cellar = s.cellar := (rfl)

@[simp] theorem State.pending_emit (o : Out) : (s.emit o).pending = s.pending := (rfl)
@[simp] theorem State.regs_emit (o : Out) : (s.emit o).regs = s.regs := (rfl)
@[simp] theorem State.now_emit (o : Out) : (s.emit o).now = s.now := (rfl)
@[simp] theorem State.lastRead_emit (o : Out) : (s.emit o).lastRead = s.lastRead := (rfl)
@[simp] theorem State.free_emit (o : Out) : (s.emit o).free = s.free := (rfl)
@[simp] theorem State.log_emit (o : Out) : (s.emit o).log = s.log := (rfl)
@[simp] theorem State.top_emit (o : Out) : (s.emit o).top = s.top := (rfl)
@[simp] theorem State.trl_emit (o : Out) : (s.emit o).trl = s.trl := (rfl)
@[simp] theorem State.cand_emit (o : Out) : (s.emit o).cand = s.cand := (rfl)
@[simp] theorem State.dpll_emit (o : Out) : (s.emit o).dpll = s.dpll := (rfl)
@[simp] theorem State.plan_emit (o : Out) : (s.emit o).plan = s.plan := (rfl)
@[simp] theorem State.syn_emit (o : Out) : (s.emit o).syn = s.syn := (rfl)
@[simp] theorem State.ptp_emit (o : Out) : (s.emit o).ptp = s.ptp := (rfl)
@[simp] theorem State.rck_emit (o : Out) : (s.emit o).rck = s.rck := (rfl)
@[simp] theorem State.pci_emit (o : Out) : (s.emit o).pci = s.pci := (rfl)
@[simp] theorem State.ins_emit (o : Out) : (s.emit o).ins = s.ins := (rfl)
@[simp] theorem State.outs_emit (o : Out) : (s.emit o).outs = s.outs := (rfl)
@[simp] theorem State.adm_emit (o : Out) : (s.emit o).adm = s.adm := (rfl)
@[simp] theorem State.chans_emit (o : Out) : (s.emit o).chans = s.chans := (rfl)
@[simp] theorem State.ldg_emit (o : Out) : (s.emit o).ldg = s.ldg := (rfl)
@[simp] theorem State.aud_emit (o : Out) : (s.emit o).aud = s.aud := (rfl)
@[simp] theorem State.src_emit (o : Out) : (s.emit o).src = s.src := (rfl)
@[simp] theorem State.est_emit (o : Out) : (s.emit o).est = s.est := (rfl)
@[simp] theorem State.dst_emit (o : Out) : (s.emit o).dst = s.dst := (rfl)
@[simp] theorem State.gens_emit (o : Out) : (s.emit o).gens = s.gens := (rfl)
@[simp] theorem State.i2s_emit (o : Out) : (s.emit o).i2s = s.i2s := (rfl)
@[simp] theorem State.mvh_emit (o : Out) : (s.emit o).mvh = s.mvh := (rfl)
@[simp] theorem State.twn_emit (o : Out) : (s.emit o).twn = s.twn := (rfl)
@[simp] theorem State.cls_emit (o : Out) : (s.emit o).cls = s.cls := (rfl)
@[simp] theorem State.rx_emit (o : Out) : (s.emit o).rx = s.rx := (rfl)
@[simp] theorem State.tx_emit (o : Out) : (s.emit o).tx = s.tx := (rfl)
@[simp] theorem State.mac_emit (o : Out) : (s.emit o).mac = s.mac := (rfl)
@[simp] theorem State.ctn_emit (o : Out) : (s.emit o).ctn = s.ctn := (rfl)
@[simp] theorem State.fab_emit (o : Out) : (s.emit o).fab = s.fab := (rfl)
@[simp] theorem State.chn_emit (o : Out) : (s.emit o).chn = s.chn := (rfl)
@[simp] theorem State.mail_emit (o : Out) : (s.emit o).mail = s.mail := (rfl)
@[simp] theorem State.nor_emit (o : Out) : (s.emit o).nor = s.nor := (rfl)
@[simp] theorem State.otp_emit (o : Out) : (s.emit o).otp = s.otp := (rfl)
@[simp] theorem State.mgt_emit (o : Out) : (s.emit o).mgt = s.mgt := (rfl)
@[simp] theorem State.sens_emit (o : Out) : (s.emit o).sens = s.sens := (rfl)
@[simp] theorem State.cbs_emit (o : Out) : (s.emit o).cbs = s.cbs := (rfl)
@[simp] theorem State.jtag_emit (o : Out) : (s.emit o).jtag = s.jtag := (rfl)
@[simp] theorem State.pin_emit (o : Out) : (s.emit o).pin = s.pin := (rfl)
@[simp] theorem State.cellar_emit (o : Out) : (s.emit o).cellar = s.cellar := (rfl)

@[simp] theorem State.pending_draw : (s.draw).pending = s.pending := (rfl)
@[simp] theorem State.regs_draw : (s.draw).regs = s.regs := (rfl)
@[simp] theorem State.now_draw : (s.draw).now = s.now := (rfl)
@[simp] theorem State.lastRead_draw : (s.draw).lastRead = s.lastRead := (rfl)
@[simp] theorem State.out_draw : (s.draw).out = s.out := (rfl)
@[simp] theorem State.log_draw : (s.draw).log = s.log := (rfl)
@[simp] theorem State.top_draw : (s.draw).top = s.top := (rfl)
@[simp] theorem State.trl_draw : (s.draw).trl = s.trl := (rfl)
@[simp] theorem State.cand_draw : (s.draw).cand = s.cand := (rfl)
@[simp] theorem State.dpll_draw : (s.draw).dpll = s.dpll := (rfl)
@[simp] theorem State.plan_draw : (s.draw).plan = s.plan := (rfl)
@[simp] theorem State.syn_draw : (s.draw).syn = s.syn := (rfl)
@[simp] theorem State.ptp_draw : (s.draw).ptp = s.ptp := (rfl)
@[simp] theorem State.rck_draw : (s.draw).rck = s.rck := (rfl)
@[simp] theorem State.pci_draw : (s.draw).pci = s.pci := (rfl)
@[simp] theorem State.ins_draw : (s.draw).ins = s.ins := (rfl)
@[simp] theorem State.outs_draw : (s.draw).outs = s.outs := (rfl)
@[simp] theorem State.adm_draw : (s.draw).adm = s.adm := (rfl)
@[simp] theorem State.chans_draw : (s.draw).chans = s.chans := (rfl)
@[simp] theorem State.ldg_draw : (s.draw).ldg = s.ldg := (rfl)
@[simp] theorem State.aud_draw : (s.draw).aud = s.aud := (rfl)
@[simp] theorem State.src_draw : (s.draw).src = s.src := (rfl)
@[simp] theorem State.est_draw : (s.draw).est = s.est := (rfl)
@[simp] theorem State.dst_draw : (s.draw).dst = s.dst := (rfl)
@[simp] theorem State.gens_draw : (s.draw).gens = s.gens := (rfl)
@[simp] theorem State.i2s_draw : (s.draw).i2s = s.i2s := (rfl)
@[simp] theorem State.mvh_draw : (s.draw).mvh = s.mvh := (rfl)
@[simp] theorem State.twn_draw : (s.draw).twn = s.twn := (rfl)
@[simp] theorem State.cls_draw : (s.draw).cls = s.cls := (rfl)
@[simp] theorem State.rx_draw : (s.draw).rx = s.rx := (rfl)
@[simp] theorem State.tx_draw : (s.draw).tx = s.tx := (rfl)
@[simp] theorem State.mac_draw : (s.draw).mac = s.mac := (rfl)
@[simp] theorem State.ctn_draw : (s.draw).ctn = s.ctn := (rfl)
@[simp] theorem State.fab_draw : (s.draw).fab = s.fab := (rfl)
@[simp] theorem State.chn_draw : (s.draw).chn = s.chn := (rfl)
@[simp] theorem State.mail_draw : (s.draw).mail = s.mail := (rfl)
@[simp] theorem State.nor_draw : (s.draw).nor = s.nor := (rfl)
@[simp] theorem State.otp_draw : (s.draw).otp = s.otp := (rfl)
@[simp] theorem State.mgt_draw : (s.draw).mgt = s.mgt := (rfl)
@[simp] theorem State.sens_draw : (s.draw).sens = s.sens := (rfl)
@[simp] theorem State.cbs_draw : (s.draw).cbs = s.cbs := (rfl)
@[simp] theorem State.jtag_draw : (s.draw).jtag = s.jtag := (rfl)
@[simp] theorem State.pin_draw : (s.draw).pin = s.pin := (rfl)
@[simp] theorem State.cellar_draw : (s.draw).cellar = s.cellar := (rfl)

@[simp] theorem State.pending_setReady (i : Nat) (b : Bool) : (s.setReady i b).pending = s.pending := by simp [State.setReady]
@[simp] theorem State.now_setReady (i : Nat) (b : Bool) : (s.setReady i b).now = s.now := by simp [State.setReady]
@[simp] theorem State.lastRead_setReady (i : Nat) (b : Bool) : (s.setReady i b).lastRead = s.lastRead := by simp [State.setReady]
@[simp] theorem State.free_setReady (i : Nat) (b : Bool) : (s.setReady i b).free = s.free := by simp [State.setReady]
@[simp] theorem State.out_setReady (i : Nat) (b : Bool) : (s.setReady i b).out = s.out := by simp [State.setReady]
@[simp] theorem State.log_setReady (i : Nat) (b : Bool) : (s.setReady i b).log = s.log := by simp [State.setReady]
@[simp] theorem State.top_setReady (i : Nat) (b : Bool) : (s.setReady i b).top = s.top := by simp [State.setReady]
@[simp] theorem State.trl_setReady (i : Nat) (b : Bool) : (s.setReady i b).trl = s.trl := by simp [State.setReady]
@[simp] theorem State.cand_setReady (i : Nat) (b : Bool) : (s.setReady i b).cand = s.cand := by simp [State.setReady]
@[simp] theorem State.dpll_setReady (i : Nat) (b : Bool) : (s.setReady i b).dpll = s.dpll := by simp [State.setReady]
@[simp] theorem State.plan_setReady (i : Nat) (b : Bool) : (s.setReady i b).plan = s.plan := by simp [State.setReady]
@[simp] theorem State.syn_setReady (i : Nat) (b : Bool) : (s.setReady i b).syn = s.syn := by simp [State.setReady]
@[simp] theorem State.ptp_setReady (i : Nat) (b : Bool) : (s.setReady i b).ptp = s.ptp := by simp [State.setReady]
@[simp] theorem State.rck_setReady (i : Nat) (b : Bool) : (s.setReady i b).rck = s.rck := by simp [State.setReady]
@[simp] theorem State.pci_setReady (i : Nat) (b : Bool) : (s.setReady i b).pci = s.pci := by simp [State.setReady]
@[simp] theorem State.ins_setReady (i : Nat) (b : Bool) : (s.setReady i b).ins = s.ins := by simp [State.setReady]
@[simp] theorem State.outs_setReady (i : Nat) (b : Bool) : (s.setReady i b).outs = s.outs := by simp [State.setReady]
@[simp] theorem State.adm_setReady (i : Nat) (b : Bool) : (s.setReady i b).adm = s.adm := by simp [State.setReady]
@[simp] theorem State.chans_setReady (i : Nat) (b : Bool) : (s.setReady i b).chans = s.chans := by simp [State.setReady]
@[simp] theorem State.ldg_setReady (i : Nat) (b : Bool) : (s.setReady i b).ldg = s.ldg := by simp [State.setReady]
@[simp] theorem State.aud_setReady (i : Nat) (b : Bool) : (s.setReady i b).aud = s.aud := by simp [State.setReady]
@[simp] theorem State.src_setReady (i : Nat) (b : Bool) : (s.setReady i b).src = s.src := by simp [State.setReady]
@[simp] theorem State.est_setReady (i : Nat) (b : Bool) : (s.setReady i b).est = s.est := by simp [State.setReady]
@[simp] theorem State.dst_setReady (i : Nat) (b : Bool) : (s.setReady i b).dst = s.dst := by simp [State.setReady]
@[simp] theorem State.gens_setReady (i : Nat) (b : Bool) : (s.setReady i b).gens = s.gens := by simp [State.setReady]
@[simp] theorem State.i2s_setReady (i : Nat) (b : Bool) : (s.setReady i b).i2s = s.i2s := by simp [State.setReady]
@[simp] theorem State.mvh_setReady (i : Nat) (b : Bool) : (s.setReady i b).mvh = s.mvh := by simp [State.setReady]
@[simp] theorem State.twn_setReady (i : Nat) (b : Bool) : (s.setReady i b).twn = s.twn := by simp [State.setReady]
@[simp] theorem State.cls_setReady (i : Nat) (b : Bool) : (s.setReady i b).cls = s.cls := by simp [State.setReady]
@[simp] theorem State.rx_setReady (i : Nat) (b : Bool) : (s.setReady i b).rx = s.rx := by simp [State.setReady]
@[simp] theorem State.tx_setReady (i : Nat) (b : Bool) : (s.setReady i b).tx = s.tx := by simp [State.setReady]
@[simp] theorem State.mac_setReady (i : Nat) (b : Bool) : (s.setReady i b).mac = s.mac := by simp [State.setReady]
@[simp] theorem State.ctn_setReady (i : Nat) (b : Bool) : (s.setReady i b).ctn = s.ctn := by simp [State.setReady]
@[simp] theorem State.fab_setReady (i : Nat) (b : Bool) : (s.setReady i b).fab = s.fab := by simp [State.setReady]
@[simp] theorem State.chn_setReady (i : Nat) (b : Bool) : (s.setReady i b).chn = s.chn := by simp [State.setReady]
@[simp] theorem State.mail_setReady (i : Nat) (b : Bool) : (s.setReady i b).mail = s.mail := by simp [State.setReady]
@[simp] theorem State.nor_setReady (i : Nat) (b : Bool) : (s.setReady i b).nor = s.nor := by simp [State.setReady]
@[simp] theorem State.otp_setReady (i : Nat) (b : Bool) : (s.setReady i b).otp = s.otp := by simp [State.setReady]
@[simp] theorem State.mgt_setReady (i : Nat) (b : Bool) : (s.setReady i b).mgt = s.mgt := by simp [State.setReady]
@[simp] theorem State.sens_setReady (i : Nat) (b : Bool) : (s.setReady i b).sens = s.sens := by simp [State.setReady]
@[simp] theorem State.cbs_setReady (i : Nat) (b : Bool) : (s.setReady i b).cbs = s.cbs := by simp [State.setReady]
@[simp] theorem State.jtag_setReady (i : Nat) (b : Bool) : (s.setReady i b).jtag = s.jtag := by simp [State.setReady]
@[simp] theorem State.pin_setReady (i : Nat) (b : Bool) : (s.setReady i b).pin = s.pin := by simp [State.setReady]
@[simp] theorem State.cellar_setReady (i : Nat) (b : Bool) : (s.setReady i b).cellar = s.cellar := by simp [State.setReady]

@[simp] theorem State.pending_setClaim (b : Bool) : (s.setClaim b).pending = s.pending := by simp only [State.setClaim]; split <;> rfl
@[simp] theorem State.regs_setClaim (b : Bool) : (s.setClaim b).regs = s.regs := by simp only [State.setClaim]; split <;> rfl
@[simp] theorem State.now_setClaim (b : Bool) : (s.setClaim b).now = s.now := by simp only [State.setClaim]; split <;> rfl
@[simp] theorem State.lastRead_setClaim (b : Bool) : (s.setClaim b).lastRead = s.lastRead := by simp only [State.setClaim]; split <;> rfl
@[simp] theorem State.free_setClaim (b : Bool) : (s.setClaim b).free = s.free := by simp only [State.setClaim]; split <;> rfl
@[simp] theorem State.log_setClaim (b : Bool) : (s.setClaim b).log = s.log := by simp only [State.setClaim]; split <;> rfl
@[simp] theorem State.trl_setClaim (b : Bool) : (s.setClaim b).trl = s.trl := by simp only [State.setClaim]; split <;> rfl
@[simp] theorem State.cand_setClaim (b : Bool) : (s.setClaim b).cand = s.cand := by simp only [State.setClaim]; split <;> rfl
@[simp] theorem State.dpll_setClaim (b : Bool) : (s.setClaim b).dpll = s.dpll := by simp only [State.setClaim]; split <;> rfl
@[simp] theorem State.plan_setClaim (b : Bool) : (s.setClaim b).plan = s.plan := by simp only [State.setClaim]; split <;> rfl
@[simp] theorem State.syn_setClaim (b : Bool) : (s.setClaim b).syn = s.syn := by simp only [State.setClaim]; split <;> rfl
@[simp] theorem State.ptp_setClaim (b : Bool) : (s.setClaim b).ptp = s.ptp := by simp only [State.setClaim]; split <;> rfl
@[simp] theorem State.rck_setClaim (b : Bool) : (s.setClaim b).rck = s.rck := by simp only [State.setClaim]; split <;> rfl
@[simp] theorem State.pci_setClaim (b : Bool) : (s.setClaim b).pci = s.pci := by simp only [State.setClaim]; split <;> rfl
@[simp] theorem State.ins_setClaim (b : Bool) : (s.setClaim b).ins = s.ins := by simp only [State.setClaim]; split <;> rfl
@[simp] theorem State.outs_setClaim (b : Bool) : (s.setClaim b).outs = s.outs := by simp only [State.setClaim]; split <;> rfl
@[simp] theorem State.adm_setClaim (b : Bool) : (s.setClaim b).adm = s.adm := by simp only [State.setClaim]; split <;> rfl
@[simp] theorem State.chans_setClaim (b : Bool) : (s.setClaim b).chans = s.chans := by simp only [State.setClaim]; split <;> rfl
@[simp] theorem State.ldg_setClaim (b : Bool) : (s.setClaim b).ldg = s.ldg := by simp only [State.setClaim]; split <;> rfl
@[simp] theorem State.aud_setClaim (b : Bool) : (s.setClaim b).aud = s.aud := by simp only [State.setClaim]; split <;> rfl
@[simp] theorem State.src_setClaim (b : Bool) : (s.setClaim b).src = s.src := by simp only [State.setClaim]; split <;> rfl
@[simp] theorem State.est_setClaim (b : Bool) : (s.setClaim b).est = s.est := by simp only [State.setClaim]; split <;> rfl
@[simp] theorem State.dst_setClaim (b : Bool) : (s.setClaim b).dst = s.dst := by simp only [State.setClaim]; split <;> rfl
@[simp] theorem State.gens_setClaim (b : Bool) : (s.setClaim b).gens = s.gens := by simp only [State.setClaim]; split <;> rfl
@[simp] theorem State.i2s_setClaim (b : Bool) : (s.setClaim b).i2s = s.i2s := by simp only [State.setClaim]; split <;> rfl
@[simp] theorem State.mvh_setClaim (b : Bool) : (s.setClaim b).mvh = s.mvh := by simp only [State.setClaim]; split <;> rfl
@[simp] theorem State.twn_setClaim (b : Bool) : (s.setClaim b).twn = s.twn := by simp only [State.setClaim]; split <;> rfl
@[simp] theorem State.cls_setClaim (b : Bool) : (s.setClaim b).cls = s.cls := by simp only [State.setClaim]; split <;> rfl
@[simp] theorem State.rx_setClaim (b : Bool) : (s.setClaim b).rx = s.rx := by simp only [State.setClaim]; split <;> rfl
@[simp] theorem State.tx_setClaim (b : Bool) : (s.setClaim b).tx = s.tx := by simp only [State.setClaim]; split <;> rfl
@[simp] theorem State.mac_setClaim (b : Bool) : (s.setClaim b).mac = s.mac := by simp only [State.setClaim]; split <;> rfl
@[simp] theorem State.ctn_setClaim (b : Bool) : (s.setClaim b).ctn = s.ctn := by simp only [State.setClaim]; split <;> rfl
@[simp] theorem State.fab_setClaim (b : Bool) : (s.setClaim b).fab = s.fab := by simp only [State.setClaim]; split <;> rfl
@[simp] theorem State.chn_setClaim (b : Bool) : (s.setClaim b).chn = s.chn := by simp only [State.setClaim]; split <;> rfl
@[simp] theorem State.mail_setClaim (b : Bool) : (s.setClaim b).mail = s.mail := by simp only [State.setClaim]; split <;> rfl
@[simp] theorem State.nor_setClaim (b : Bool) : (s.setClaim b).nor = s.nor := by simp only [State.setClaim]; split <;> rfl
@[simp] theorem State.otp_setClaim (b : Bool) : (s.setClaim b).otp = s.otp := by simp only [State.setClaim]; split <;> rfl
@[simp] theorem State.mgt_setClaim (b : Bool) : (s.setClaim b).mgt = s.mgt := by simp only [State.setClaim]; split <;> rfl
@[simp] theorem State.sens_setClaim (b : Bool) : (s.setClaim b).sens = s.sens := by simp only [State.setClaim]; split <;> rfl
@[simp] theorem State.cbs_setClaim (b : Bool) : (s.setClaim b).cbs = s.cbs := by simp only [State.setClaim]; split <;> rfl
@[simp] theorem State.jtag_setClaim (b : Bool) : (s.setClaim b).jtag = s.jtag := by simp only [State.setClaim]; split <;> rfl
@[simp] theorem State.pin_setClaim (b : Bool) : (s.setClaim b).pin = s.pin := by simp only [State.setClaim]; split <;> rfl
@[simp] theorem State.cellar_setClaim (b : Bool) : (s.setClaim b).cellar = s.cellar := by simp only [State.setClaim]; split <;> rfl

theorem State.capture_eq (b e a : Nat) : s.capture b e a = { s with regs := (s.capture b e a).regs, log := (s.capture b e a).log } := by
  unfold State.capture
  exact State.capture_aux s _ _ _
@[simp] theorem State.pending_capture (b e a : Nat) : (s.capture b e a).pending = s.pending := by rw [State.capture_eq]
@[simp] theorem State.now_capture (b e a : Nat) : (s.capture b e a).now = s.now := by rw [State.capture_eq]
@[simp] theorem State.lastRead_capture (b e a : Nat) : (s.capture b e a).lastRead = s.lastRead := by rw [State.capture_eq]
@[simp] theorem State.free_capture (b e a : Nat) : (s.capture b e a).free = s.free := by rw [State.capture_eq]
@[simp] theorem State.out_capture (b e a : Nat) : (s.capture b e a).out = s.out := by rw [State.capture_eq]
@[simp] theorem State.top_capture (b e a : Nat) : (s.capture b e a).top = s.top := by rw [State.capture_eq]
@[simp] theorem State.trl_capture (b e a : Nat) : (s.capture b e a).trl = s.trl := by rw [State.capture_eq]
@[simp] theorem State.cand_capture (b e a : Nat) : (s.capture b e a).cand = s.cand := by rw [State.capture_eq]
@[simp] theorem State.dpll_capture (b e a : Nat) : (s.capture b e a).dpll = s.dpll := by rw [State.capture_eq]
@[simp] theorem State.plan_capture (b e a : Nat) : (s.capture b e a).plan = s.plan := by rw [State.capture_eq]
@[simp] theorem State.syn_capture (b e a : Nat) : (s.capture b e a).syn = s.syn := by rw [State.capture_eq]
@[simp] theorem State.ptp_capture (b e a : Nat) : (s.capture b e a).ptp = s.ptp := by rw [State.capture_eq]
@[simp] theorem State.rck_capture (b e a : Nat) : (s.capture b e a).rck = s.rck := by rw [State.capture_eq]
@[simp] theorem State.pci_capture (b e a : Nat) : (s.capture b e a).pci = s.pci := by rw [State.capture_eq]
@[simp] theorem State.ins_capture (b e a : Nat) : (s.capture b e a).ins = s.ins := by rw [State.capture_eq]
@[simp] theorem State.outs_capture (b e a : Nat) : (s.capture b e a).outs = s.outs := by rw [State.capture_eq]
@[simp] theorem State.adm_capture (b e a : Nat) : (s.capture b e a).adm = s.adm := by rw [State.capture_eq]
@[simp] theorem State.chans_capture (b e a : Nat) : (s.capture b e a).chans = s.chans := by rw [State.capture_eq]
@[simp] theorem State.ldg_capture (b e a : Nat) : (s.capture b e a).ldg = s.ldg := by rw [State.capture_eq]
@[simp] theorem State.aud_capture (b e a : Nat) : (s.capture b e a).aud = s.aud := by rw [State.capture_eq]
@[simp] theorem State.src_capture (b e a : Nat) : (s.capture b e a).src = s.src := by rw [State.capture_eq]
@[simp] theorem State.est_capture (b e a : Nat) : (s.capture b e a).est = s.est := by rw [State.capture_eq]
@[simp] theorem State.dst_capture (b e a : Nat) : (s.capture b e a).dst = s.dst := by rw [State.capture_eq]
@[simp] theorem State.gens_capture (b e a : Nat) : (s.capture b e a).gens = s.gens := by rw [State.capture_eq]
@[simp] theorem State.i2s_capture (b e a : Nat) : (s.capture b e a).i2s = s.i2s := by rw [State.capture_eq]
@[simp] theorem State.mvh_capture (b e a : Nat) : (s.capture b e a).mvh = s.mvh := by rw [State.capture_eq]
@[simp] theorem State.twn_capture (b e a : Nat) : (s.capture b e a).twn = s.twn := by rw [State.capture_eq]
@[simp] theorem State.cls_capture (b e a : Nat) : (s.capture b e a).cls = s.cls := by rw [State.capture_eq]
@[simp] theorem State.rx_capture (b e a : Nat) : (s.capture b e a).rx = s.rx := by rw [State.capture_eq]
@[simp] theorem State.tx_capture (b e a : Nat) : (s.capture b e a).tx = s.tx := by rw [State.capture_eq]
@[simp] theorem State.mac_capture (b e a : Nat) : (s.capture b e a).mac = s.mac := by rw [State.capture_eq]
@[simp] theorem State.ctn_capture (b e a : Nat) : (s.capture b e a).ctn = s.ctn := by rw [State.capture_eq]
@[simp] theorem State.fab_capture (b e a : Nat) : (s.capture b e a).fab = s.fab := by rw [State.capture_eq]
@[simp] theorem State.chn_capture (b e a : Nat) : (s.capture b e a).chn = s.chn := by rw [State.capture_eq]
@[simp] theorem State.mail_capture (b e a : Nat) : (s.capture b e a).mail = s.mail := by rw [State.capture_eq]
@[simp] theorem State.nor_capture (b e a : Nat) : (s.capture b e a).nor = s.nor := by rw [State.capture_eq]
@[simp] theorem State.otp_capture (b e a : Nat) : (s.capture b e a).otp = s.otp := by rw [State.capture_eq]
@[simp] theorem State.mgt_capture (b e a : Nat) : (s.capture b e a).mgt = s.mgt := by rw [State.capture_eq]
@[simp] theorem State.sens_capture (b e a : Nat) : (s.capture b e a).sens = s.sens := by rw [State.capture_eq]
@[simp] theorem State.cbs_capture (b e a : Nat) : (s.capture b e a).cbs = s.cbs := by rw [State.capture_eq]
@[simp] theorem State.jtag_capture (b e a : Nat) : (s.capture b e a).jtag = s.jtag := by rw [State.capture_eq]
@[simp] theorem State.pin_capture (b e a : Nat) : (s.capture b e a).pin = s.pin := by rw [State.capture_eq]
@[simp] theorem State.cellar_capture (b e a : Nat) : (s.capture b e a).cellar = s.cellar := by rw [State.capture_eq]

theorem State.sendMsix_eq (k : Nat) : s.sendMsix k = { s with out := (s.sendMsix k).out, pci := (s.sendMsix k).pci } := by simp only [State.sendMsix]; split <;> [split; skip] <;> rfl
@[simp] theorem State.pending_sendMsix (k : Nat) : (s.sendMsix k).pending = s.pending := by rw [State.sendMsix_eq]
@[simp] theorem State.regs_sendMsix (k : Nat) : (s.sendMsix k).regs = s.regs := by rw [State.sendMsix_eq]
@[simp] theorem State.now_sendMsix (k : Nat) : (s.sendMsix k).now = s.now := by rw [State.sendMsix_eq]
@[simp] theorem State.lastRead_sendMsix (k : Nat) : (s.sendMsix k).lastRead = s.lastRead := by rw [State.sendMsix_eq]
@[simp] theorem State.free_sendMsix (k : Nat) : (s.sendMsix k).free = s.free := by rw [State.sendMsix_eq]
@[simp] theorem State.log_sendMsix (k : Nat) : (s.sendMsix k).log = s.log := by rw [State.sendMsix_eq]
@[simp] theorem State.top_sendMsix (k : Nat) : (s.sendMsix k).top = s.top := by rw [State.sendMsix_eq]
@[simp] theorem State.trl_sendMsix (k : Nat) : (s.sendMsix k).trl = s.trl := by rw [State.sendMsix_eq]
@[simp] theorem State.cand_sendMsix (k : Nat) : (s.sendMsix k).cand = s.cand := by rw [State.sendMsix_eq]
@[simp] theorem State.dpll_sendMsix (k : Nat) : (s.sendMsix k).dpll = s.dpll := by rw [State.sendMsix_eq]
@[simp] theorem State.plan_sendMsix (k : Nat) : (s.sendMsix k).plan = s.plan := by rw [State.sendMsix_eq]
@[simp] theorem State.syn_sendMsix (k : Nat) : (s.sendMsix k).syn = s.syn := by rw [State.sendMsix_eq]
@[simp] theorem State.ptp_sendMsix (k : Nat) : (s.sendMsix k).ptp = s.ptp := by rw [State.sendMsix_eq]
@[simp] theorem State.rck_sendMsix (k : Nat) : (s.sendMsix k).rck = s.rck := by rw [State.sendMsix_eq]
@[simp] theorem State.ins_sendMsix (k : Nat) : (s.sendMsix k).ins = s.ins := by rw [State.sendMsix_eq]
@[simp] theorem State.outs_sendMsix (k : Nat) : (s.sendMsix k).outs = s.outs := by rw [State.sendMsix_eq]
@[simp] theorem State.adm_sendMsix (k : Nat) : (s.sendMsix k).adm = s.adm := by rw [State.sendMsix_eq]
@[simp] theorem State.chans_sendMsix (k : Nat) : (s.sendMsix k).chans = s.chans := by rw [State.sendMsix_eq]
@[simp] theorem State.ldg_sendMsix (k : Nat) : (s.sendMsix k).ldg = s.ldg := by rw [State.sendMsix_eq]
@[simp] theorem State.aud_sendMsix (k : Nat) : (s.sendMsix k).aud = s.aud := by rw [State.sendMsix_eq]
@[simp] theorem State.src_sendMsix (k : Nat) : (s.sendMsix k).src = s.src := by rw [State.sendMsix_eq]
@[simp] theorem State.est_sendMsix (k : Nat) : (s.sendMsix k).est = s.est := by rw [State.sendMsix_eq]
@[simp] theorem State.dst_sendMsix (k : Nat) : (s.sendMsix k).dst = s.dst := by rw [State.sendMsix_eq]
@[simp] theorem State.gens_sendMsix (k : Nat) : (s.sendMsix k).gens = s.gens := by rw [State.sendMsix_eq]
@[simp] theorem State.i2s_sendMsix (k : Nat) : (s.sendMsix k).i2s = s.i2s := by rw [State.sendMsix_eq]
@[simp] theorem State.mvh_sendMsix (k : Nat) : (s.sendMsix k).mvh = s.mvh := by rw [State.sendMsix_eq]
@[simp] theorem State.twn_sendMsix (k : Nat) : (s.sendMsix k).twn = s.twn := by rw [State.sendMsix_eq]
@[simp] theorem State.cls_sendMsix (k : Nat) : (s.sendMsix k).cls = s.cls := by rw [State.sendMsix_eq]
@[simp] theorem State.rx_sendMsix (k : Nat) : (s.sendMsix k).rx = s.rx := by rw [State.sendMsix_eq]
@[simp] theorem State.tx_sendMsix (k : Nat) : (s.sendMsix k).tx = s.tx := by rw [State.sendMsix_eq]
@[simp] theorem State.mac_sendMsix (k : Nat) : (s.sendMsix k).mac = s.mac := by rw [State.sendMsix_eq]
@[simp] theorem State.ctn_sendMsix (k : Nat) : (s.sendMsix k).ctn = s.ctn := by rw [State.sendMsix_eq]
@[simp] theorem State.fab_sendMsix (k : Nat) : (s.sendMsix k).fab = s.fab := by rw [State.sendMsix_eq]
@[simp] theorem State.chn_sendMsix (k : Nat) : (s.sendMsix k).chn = s.chn := by rw [State.sendMsix_eq]
@[simp] theorem State.mail_sendMsix (k : Nat) : (s.sendMsix k).mail = s.mail := by rw [State.sendMsix_eq]
@[simp] theorem State.nor_sendMsix (k : Nat) : (s.sendMsix k).nor = s.nor := by rw [State.sendMsix_eq]
@[simp] theorem State.otp_sendMsix (k : Nat) : (s.sendMsix k).otp = s.otp := by rw [State.sendMsix_eq]
@[simp] theorem State.mgt_sendMsix (k : Nat) : (s.sendMsix k).mgt = s.mgt := by rw [State.sendMsix_eq]
@[simp] theorem State.sens_sendMsix (k : Nat) : (s.sendMsix k).sens = s.sens := by rw [State.sendMsix_eq]
@[simp] theorem State.cbs_sendMsix (k : Nat) : (s.sendMsix k).cbs = s.cbs := by rw [State.sendMsix_eq]
@[simp] theorem State.jtag_sendMsix (k : Nat) : (s.sendMsix k).jtag = s.jtag := by rw [State.sendMsix_eq]
@[simp] theorem State.pin_sendMsix (k : Nat) : (s.sendMsix k).pin = s.pin := by rw [State.sendMsix_eq]
@[simp] theorem State.cellar_sendMsix (k : Nat) : (s.sendMsix k).cellar = s.cellar := by rw [State.sendMsix_eq]

@[simp] theorem State.pending_noteEvent (f : Field) : (s.noteEvent f).pending = s.pending := (rfl)
@[simp] theorem State.regs_noteEvent (f : Field) : (s.noteEvent f).regs = s.regs := (rfl)
@[simp] theorem State.now_noteEvent (f : Field) : (s.noteEvent f).now = s.now := (rfl)
@[simp] theorem State.lastRead_noteEvent (f : Field) : (s.noteEvent f).lastRead = s.lastRead := (rfl)
@[simp] theorem State.free_noteEvent (f : Field) : (s.noteEvent f).free = s.free := (rfl)
@[simp] theorem State.out_noteEvent (f : Field) : (s.noteEvent f).out = s.out := (rfl)
@[simp] theorem State.log_noteEvent (f : Field) : (s.noteEvent f).log = s.log := (rfl)
@[simp] theorem State.top_noteEvent (f : Field) : (s.noteEvent f).top = s.top := (rfl)
@[simp] theorem State.trl_noteEvent (f : Field) : (s.noteEvent f).trl = s.trl := (rfl)
@[simp] theorem State.cand_noteEvent (f : Field) : (s.noteEvent f).cand = s.cand := (rfl)
@[simp] theorem State.dpll_noteEvent (f : Field) : (s.noteEvent f).dpll = s.dpll := (rfl)
@[simp] theorem State.plan_noteEvent (f : Field) : (s.noteEvent f).plan = s.plan := (rfl)
@[simp] theorem State.syn_noteEvent (f : Field) : (s.noteEvent f).syn = s.syn := (rfl)
@[simp] theorem State.ptp_noteEvent (f : Field) : (s.noteEvent f).ptp = s.ptp := (rfl)
@[simp] theorem State.rck_noteEvent (f : Field) : (s.noteEvent f).rck = s.rck := (rfl)
@[simp] theorem State.ins_noteEvent (f : Field) : (s.noteEvent f).ins = s.ins := (rfl)
@[simp] theorem State.outs_noteEvent (f : Field) : (s.noteEvent f).outs = s.outs := (rfl)
@[simp] theorem State.adm_noteEvent (f : Field) : (s.noteEvent f).adm = s.adm := (rfl)
@[simp] theorem State.chans_noteEvent (f : Field) : (s.noteEvent f).chans = s.chans := (rfl)
@[simp] theorem State.ldg_noteEvent (f : Field) : (s.noteEvent f).ldg = s.ldg := (rfl)
@[simp] theorem State.aud_noteEvent (f : Field) : (s.noteEvent f).aud = s.aud := (rfl)
@[simp] theorem State.src_noteEvent (f : Field) : (s.noteEvent f).src = s.src := (rfl)
@[simp] theorem State.est_noteEvent (f : Field) : (s.noteEvent f).est = s.est := (rfl)
@[simp] theorem State.dst_noteEvent (f : Field) : (s.noteEvent f).dst = s.dst := (rfl)
@[simp] theorem State.gens_noteEvent (f : Field) : (s.noteEvent f).gens = s.gens := (rfl)
@[simp] theorem State.i2s_noteEvent (f : Field) : (s.noteEvent f).i2s = s.i2s := (rfl)
@[simp] theorem State.mvh_noteEvent (f : Field) : (s.noteEvent f).mvh = s.mvh := (rfl)
@[simp] theorem State.twn_noteEvent (f : Field) : (s.noteEvent f).twn = s.twn := (rfl)
@[simp] theorem State.cls_noteEvent (f : Field) : (s.noteEvent f).cls = s.cls := (rfl)
@[simp] theorem State.rx_noteEvent (f : Field) : (s.noteEvent f).rx = s.rx := (rfl)
@[simp] theorem State.tx_noteEvent (f : Field) : (s.noteEvent f).tx = s.tx := (rfl)
@[simp] theorem State.mac_noteEvent (f : Field) : (s.noteEvent f).mac = s.mac := (rfl)
@[simp] theorem State.ctn_noteEvent (f : Field) : (s.noteEvent f).ctn = s.ctn := (rfl)
@[simp] theorem State.fab_noteEvent (f : Field) : (s.noteEvent f).fab = s.fab := (rfl)
@[simp] theorem State.chn_noteEvent (f : Field) : (s.noteEvent f).chn = s.chn := (rfl)
@[simp] theorem State.mail_noteEvent (f : Field) : (s.noteEvent f).mail = s.mail := (rfl)
@[simp] theorem State.nor_noteEvent (f : Field) : (s.noteEvent f).nor = s.nor := (rfl)
@[simp] theorem State.otp_noteEvent (f : Field) : (s.noteEvent f).otp = s.otp := (rfl)
@[simp] theorem State.mgt_noteEvent (f : Field) : (s.noteEvent f).mgt = s.mgt := (rfl)
@[simp] theorem State.sens_noteEvent (f : Field) : (s.noteEvent f).sens = s.sens := (rfl)
@[simp] theorem State.cbs_noteEvent (f : Field) : (s.noteEvent f).cbs = s.cbs := (rfl)
@[simp] theorem State.jtag_noteEvent (f : Field) : (s.noteEvent f).jtag = s.jtag := (rfl)
@[simp] theorem State.pin_noteEvent (f : Field) : (s.noteEvent f).pin = s.pin := (rfl)
@[simp] theorem State.cellar_noteEvent (f : Field) : (s.noteEvent f).cellar = s.cellar := (rfl)

@[simp] theorem State.pending_setEvent (f : Field) (a : Nat) : (s.setEvent f a).pending = s.pending := by simp only [State.setEvent]; (repeat' split) <;> simp
@[simp] theorem State.now_setEvent (f : Field) (a : Nat) : (s.setEvent f a).now = s.now := by simp only [State.setEvent]; (repeat' split) <;> simp
@[simp] theorem State.lastRead_setEvent (f : Field) (a : Nat) : (s.setEvent f a).lastRead = s.lastRead := by simp only [State.setEvent]; (repeat' split) <;> simp
@[simp] theorem State.free_setEvent (f : Field) (a : Nat) : (s.setEvent f a).free = s.free := by simp only [State.setEvent]; (repeat' split) <;> simp
@[simp] theorem State.top_setEvent (f : Field) (a : Nat) : (s.setEvent f a).top = s.top := by simp only [State.setEvent]; (repeat' split) <;> simp
@[simp] theorem State.trl_setEvent (f : Field) (a : Nat) : (s.setEvent f a).trl = s.trl := by simp only [State.setEvent]; (repeat' split) <;> simp
@[simp] theorem State.cand_setEvent (f : Field) (a : Nat) : (s.setEvent f a).cand = s.cand := by simp only [State.setEvent]; (repeat' split) <;> simp
@[simp] theorem State.dpll_setEvent (f : Field) (a : Nat) : (s.setEvent f a).dpll = s.dpll := by simp only [State.setEvent]; (repeat' split) <;> simp
@[simp] theorem State.plan_setEvent (f : Field) (a : Nat) : (s.setEvent f a).plan = s.plan := by simp only [State.setEvent]; (repeat' split) <;> simp
@[simp] theorem State.syn_setEvent (f : Field) (a : Nat) : (s.setEvent f a).syn = s.syn := by simp only [State.setEvent]; (repeat' split) <;> simp
@[simp] theorem State.ptp_setEvent (f : Field) (a : Nat) : (s.setEvent f a).ptp = s.ptp := by simp only [State.setEvent]; (repeat' split) <;> simp
@[simp] theorem State.rck_setEvent (f : Field) (a : Nat) : (s.setEvent f a).rck = s.rck := by simp only [State.setEvent]; (repeat' split) <;> simp
@[simp] theorem State.ins_setEvent (f : Field) (a : Nat) : (s.setEvent f a).ins = s.ins := by simp only [State.setEvent]; (repeat' split) <;> simp
@[simp] theorem State.outs_setEvent (f : Field) (a : Nat) : (s.setEvent f a).outs = s.outs := by simp only [State.setEvent]; (repeat' split) <;> simp
@[simp] theorem State.adm_setEvent (f : Field) (a : Nat) : (s.setEvent f a).adm = s.adm := by simp only [State.setEvent]; (repeat' split) <;> simp
@[simp] theorem State.chans_setEvent (f : Field) (a : Nat) : (s.setEvent f a).chans = s.chans := by simp only [State.setEvent]; (repeat' split) <;> simp
@[simp] theorem State.ldg_setEvent (f : Field) (a : Nat) : (s.setEvent f a).ldg = s.ldg := by simp only [State.setEvent]; (repeat' split) <;> simp
@[simp] theorem State.aud_setEvent (f : Field) (a : Nat) : (s.setEvent f a).aud = s.aud := by simp only [State.setEvent]; (repeat' split) <;> simp
@[simp] theorem State.src_setEvent (f : Field) (a : Nat) : (s.setEvent f a).src = s.src := by simp only [State.setEvent]; (repeat' split) <;> simp
@[simp] theorem State.est_setEvent (f : Field) (a : Nat) : (s.setEvent f a).est = s.est := by simp only [State.setEvent]; (repeat' split) <;> simp
@[simp] theorem State.dst_setEvent (f : Field) (a : Nat) : (s.setEvent f a).dst = s.dst := by simp only [State.setEvent]; (repeat' split) <;> simp
@[simp] theorem State.gens_setEvent (f : Field) (a : Nat) : (s.setEvent f a).gens = s.gens := by simp only [State.setEvent]; (repeat' split) <;> simp
@[simp] theorem State.i2s_setEvent (f : Field) (a : Nat) : (s.setEvent f a).i2s = s.i2s := by simp only [State.setEvent]; (repeat' split) <;> simp
@[simp] theorem State.mvh_setEvent (f : Field) (a : Nat) : (s.setEvent f a).mvh = s.mvh := by simp only [State.setEvent]; (repeat' split) <;> simp
@[simp] theorem State.twn_setEvent (f : Field) (a : Nat) : (s.setEvent f a).twn = s.twn := by simp only [State.setEvent]; (repeat' split) <;> simp
@[simp] theorem State.cls_setEvent (f : Field) (a : Nat) : (s.setEvent f a).cls = s.cls := by simp only [State.setEvent]; (repeat' split) <;> simp
@[simp] theorem State.rx_setEvent (f : Field) (a : Nat) : (s.setEvent f a).rx = s.rx := by simp only [State.setEvent]; (repeat' split) <;> simp
@[simp] theorem State.tx_setEvent (f : Field) (a : Nat) : (s.setEvent f a).tx = s.tx := by simp only [State.setEvent]; (repeat' split) <;> simp
@[simp] theorem State.mac_setEvent (f : Field) (a : Nat) : (s.setEvent f a).mac = s.mac := by simp only [State.setEvent]; (repeat' split) <;> simp
@[simp] theorem State.ctn_setEvent (f : Field) (a : Nat) : (s.setEvent f a).ctn = s.ctn := by simp only [State.setEvent]; (repeat' split) <;> simp
@[simp] theorem State.fab_setEvent (f : Field) (a : Nat) : (s.setEvent f a).fab = s.fab := by simp only [State.setEvent]; (repeat' split) <;> simp
@[simp] theorem State.chn_setEvent (f : Field) (a : Nat) : (s.setEvent f a).chn = s.chn := by simp only [State.setEvent]; (repeat' split) <;> simp
@[simp] theorem State.mail_setEvent (f : Field) (a : Nat) : (s.setEvent f a).mail = s.mail := by simp only [State.setEvent]; (repeat' split) <;> simp
@[simp] theorem State.nor_setEvent (f : Field) (a : Nat) : (s.setEvent f a).nor = s.nor := by simp only [State.setEvent]; (repeat' split) <;> simp
@[simp] theorem State.otp_setEvent (f : Field) (a : Nat) : (s.setEvent f a).otp = s.otp := by simp only [State.setEvent]; (repeat' split) <;> simp
@[simp] theorem State.mgt_setEvent (f : Field) (a : Nat) : (s.setEvent f a).mgt = s.mgt := by simp only [State.setEvent]; (repeat' split) <;> simp
@[simp] theorem State.sens_setEvent (f : Field) (a : Nat) : (s.setEvent f a).sens = s.sens := by simp only [State.setEvent]; (repeat' split) <;> simp
@[simp] theorem State.cbs_setEvent (f : Field) (a : Nat) : (s.setEvent f a).cbs = s.cbs := by simp only [State.setEvent]; (repeat' split) <;> simp
@[simp] theorem State.jtag_setEvent (f : Field) (a : Nat) : (s.setEvent f a).jtag = s.jtag := by simp only [State.setEvent]; (repeat' split) <;> simp
@[simp] theorem State.pin_setEvent (f : Field) (a : Nat) : (s.setEvent f a).pin = s.pin := by simp only [State.setEvent]; (repeat' split) <;> simp
@[simp] theorem State.cellar_setEvent (f : Field) (a : Nat) : (s.setEvent f a).cellar = s.cellar := by simp only [State.setEvent]; (repeat' split) <;> simp

@[simp] theorem State.pending_raiseArg (f : Field) (a : Nat) : (s.raiseArg f a).pending = s.pending := by simp [State.raiseArg]
@[simp] theorem State.now_raiseArg (f : Field) (a : Nat) : (s.raiseArg f a).now = s.now := by simp [State.raiseArg]
@[simp] theorem State.lastRead_raiseArg (f : Field) (a : Nat) : (s.raiseArg f a).lastRead = s.lastRead := by simp [State.raiseArg]
@[simp] theorem State.free_raiseArg (f : Field) (a : Nat) : (s.raiseArg f a).free = s.free := by simp [State.raiseArg]
@[simp] theorem State.top_raiseArg (f : Field) (a : Nat) : (s.raiseArg f a).top = s.top := by simp [State.raiseArg]
@[simp] theorem State.trl_raiseArg (f : Field) (a : Nat) : (s.raiseArg f a).trl = s.trl := by simp [State.raiseArg]
@[simp] theorem State.cand_raiseArg (f : Field) (a : Nat) : (s.raiseArg f a).cand = s.cand := by simp [State.raiseArg]
@[simp] theorem State.dpll_raiseArg (f : Field) (a : Nat) : (s.raiseArg f a).dpll = s.dpll := by simp [State.raiseArg]
@[simp] theorem State.plan_raiseArg (f : Field) (a : Nat) : (s.raiseArg f a).plan = s.plan := by simp [State.raiseArg]
@[simp] theorem State.syn_raiseArg (f : Field) (a : Nat) : (s.raiseArg f a).syn = s.syn := by simp [State.raiseArg]
@[simp] theorem State.ptp_raiseArg (f : Field) (a : Nat) : (s.raiseArg f a).ptp = s.ptp := by simp [State.raiseArg]
@[simp] theorem State.rck_raiseArg (f : Field) (a : Nat) : (s.raiseArg f a).rck = s.rck := by simp [State.raiseArg]
@[simp] theorem State.ins_raiseArg (f : Field) (a : Nat) : (s.raiseArg f a).ins = s.ins := by simp [State.raiseArg]
@[simp] theorem State.outs_raiseArg (f : Field) (a : Nat) : (s.raiseArg f a).outs = s.outs := by simp [State.raiseArg]
@[simp] theorem State.adm_raiseArg (f : Field) (a : Nat) : (s.raiseArg f a).adm = s.adm := by simp [State.raiseArg]
@[simp] theorem State.chans_raiseArg (f : Field) (a : Nat) : (s.raiseArg f a).chans = s.chans := by simp [State.raiseArg]
@[simp] theorem State.ldg_raiseArg (f : Field) (a : Nat) : (s.raiseArg f a).ldg = s.ldg := by simp [State.raiseArg]
@[simp] theorem State.aud_raiseArg (f : Field) (a : Nat) : (s.raiseArg f a).aud = s.aud := by simp [State.raiseArg]
@[simp] theorem State.src_raiseArg (f : Field) (a : Nat) : (s.raiseArg f a).src = s.src := by simp [State.raiseArg]
@[simp] theorem State.est_raiseArg (f : Field) (a : Nat) : (s.raiseArg f a).est = s.est := by simp [State.raiseArg]
@[simp] theorem State.dst_raiseArg (f : Field) (a : Nat) : (s.raiseArg f a).dst = s.dst := by simp [State.raiseArg]
@[simp] theorem State.gens_raiseArg (f : Field) (a : Nat) : (s.raiseArg f a).gens = s.gens := by simp [State.raiseArg]
@[simp] theorem State.i2s_raiseArg (f : Field) (a : Nat) : (s.raiseArg f a).i2s = s.i2s := by simp [State.raiseArg]
@[simp] theorem State.mvh_raiseArg (f : Field) (a : Nat) : (s.raiseArg f a).mvh = s.mvh := by simp [State.raiseArg]
@[simp] theorem State.twn_raiseArg (f : Field) (a : Nat) : (s.raiseArg f a).twn = s.twn := by simp [State.raiseArg]
@[simp] theorem State.cls_raiseArg (f : Field) (a : Nat) : (s.raiseArg f a).cls = s.cls := by simp [State.raiseArg]
@[simp] theorem State.rx_raiseArg (f : Field) (a : Nat) : (s.raiseArg f a).rx = s.rx := by simp [State.raiseArg]
@[simp] theorem State.tx_raiseArg (f : Field) (a : Nat) : (s.raiseArg f a).tx = s.tx := by simp [State.raiseArg]
@[simp] theorem State.mac_raiseArg (f : Field) (a : Nat) : (s.raiseArg f a).mac = s.mac := by simp [State.raiseArg]
@[simp] theorem State.ctn_raiseArg (f : Field) (a : Nat) : (s.raiseArg f a).ctn = s.ctn := by simp [State.raiseArg]
@[simp] theorem State.fab_raiseArg (f : Field) (a : Nat) : (s.raiseArg f a).fab = s.fab := by simp [State.raiseArg]
@[simp] theorem State.chn_raiseArg (f : Field) (a : Nat) : (s.raiseArg f a).chn = s.chn := by simp [State.raiseArg]
@[simp] theorem State.mail_raiseArg (f : Field) (a : Nat) : (s.raiseArg f a).mail = s.mail := by simp [State.raiseArg]
@[simp] theorem State.nor_raiseArg (f : Field) (a : Nat) : (s.raiseArg f a).nor = s.nor := by simp [State.raiseArg]
@[simp] theorem State.otp_raiseArg (f : Field) (a : Nat) : (s.raiseArg f a).otp = s.otp := by simp [State.raiseArg]
@[simp] theorem State.mgt_raiseArg (f : Field) (a : Nat) : (s.raiseArg f a).mgt = s.mgt := by simp [State.raiseArg]
@[simp] theorem State.sens_raiseArg (f : Field) (a : Nat) : (s.raiseArg f a).sens = s.sens := by simp [State.raiseArg]
@[simp] theorem State.cbs_raiseArg (f : Field) (a : Nat) : (s.raiseArg f a).cbs = s.cbs := by simp [State.raiseArg]
@[simp] theorem State.jtag_raiseArg (f : Field) (a : Nat) : (s.raiseArg f a).jtag = s.jtag := by simp [State.raiseArg]
@[simp] theorem State.pin_raiseArg (f : Field) (a : Nat) : (s.raiseArg f a).pin = s.pin := by simp [State.raiseArg]
@[simp] theorem State.cellar_raiseArg (f : Field) (a : Nat) : (s.raiseArg f a).cellar = s.cellar := by simp [State.raiseArg]

@[simp] theorem State.pending_raise (f : Field) : (s.raise f).pending = s.pending := by simp [State.raise]
@[simp] theorem State.now_raise (f : Field) : (s.raise f).now = s.now := by simp [State.raise]
@[simp] theorem State.lastRead_raise (f : Field) : (s.raise f).lastRead = s.lastRead := by simp [State.raise]
@[simp] theorem State.free_raise (f : Field) : (s.raise f).free = s.free := by simp [State.raise]
@[simp] theorem State.top_raise (f : Field) : (s.raise f).top = s.top := by simp [State.raise]
@[simp] theorem State.trl_raise (f : Field) : (s.raise f).trl = s.trl := by simp [State.raise]
@[simp] theorem State.cand_raise (f : Field) : (s.raise f).cand = s.cand := by simp [State.raise]
@[simp] theorem State.dpll_raise (f : Field) : (s.raise f).dpll = s.dpll := by simp [State.raise]
@[simp] theorem State.plan_raise (f : Field) : (s.raise f).plan = s.plan := by simp [State.raise]
@[simp] theorem State.syn_raise (f : Field) : (s.raise f).syn = s.syn := by simp [State.raise]
@[simp] theorem State.ptp_raise (f : Field) : (s.raise f).ptp = s.ptp := by simp [State.raise]
@[simp] theorem State.rck_raise (f : Field) : (s.raise f).rck = s.rck := by simp [State.raise]
@[simp] theorem State.ins_raise (f : Field) : (s.raise f).ins = s.ins := by simp [State.raise]
@[simp] theorem State.outs_raise (f : Field) : (s.raise f).outs = s.outs := by simp [State.raise]
@[simp] theorem State.adm_raise (f : Field) : (s.raise f).adm = s.adm := by simp [State.raise]
@[simp] theorem State.chans_raise (f : Field) : (s.raise f).chans = s.chans := by simp [State.raise]
@[simp] theorem State.ldg_raise (f : Field) : (s.raise f).ldg = s.ldg := by simp [State.raise]
@[simp] theorem State.aud_raise (f : Field) : (s.raise f).aud = s.aud := by simp [State.raise]
@[simp] theorem State.src_raise (f : Field) : (s.raise f).src = s.src := by simp [State.raise]
@[simp] theorem State.est_raise (f : Field) : (s.raise f).est = s.est := by simp [State.raise]
@[simp] theorem State.dst_raise (f : Field) : (s.raise f).dst = s.dst := by simp [State.raise]
@[simp] theorem State.gens_raise (f : Field) : (s.raise f).gens = s.gens := by simp [State.raise]
@[simp] theorem State.i2s_raise (f : Field) : (s.raise f).i2s = s.i2s := by simp [State.raise]
@[simp] theorem State.mvh_raise (f : Field) : (s.raise f).mvh = s.mvh := by simp [State.raise]
@[simp] theorem State.twn_raise (f : Field) : (s.raise f).twn = s.twn := by simp [State.raise]
@[simp] theorem State.cls_raise (f : Field) : (s.raise f).cls = s.cls := by simp [State.raise]
@[simp] theorem State.rx_raise (f : Field) : (s.raise f).rx = s.rx := by simp [State.raise]
@[simp] theorem State.tx_raise (f : Field) : (s.raise f).tx = s.tx := by simp [State.raise]
@[simp] theorem State.mac_raise (f : Field) : (s.raise f).mac = s.mac := by simp [State.raise]
@[simp] theorem State.ctn_raise (f : Field) : (s.raise f).ctn = s.ctn := by simp [State.raise]
@[simp] theorem State.fab_raise (f : Field) : (s.raise f).fab = s.fab := by simp [State.raise]
@[simp] theorem State.chn_raise (f : Field) : (s.raise f).chn = s.chn := by simp [State.raise]
@[simp] theorem State.mail_raise (f : Field) : (s.raise f).mail = s.mail := by simp [State.raise]
@[simp] theorem State.nor_raise (f : Field) : (s.raise f).nor = s.nor := by simp [State.raise]
@[simp] theorem State.otp_raise (f : Field) : (s.raise f).otp = s.otp := by simp [State.raise]
@[simp] theorem State.mgt_raise (f : Field) : (s.raise f).mgt = s.mgt := by simp [State.raise]
@[simp] theorem State.sens_raise (f : Field) : (s.raise f).sens = s.sens := by simp [State.raise]
@[simp] theorem State.cbs_raise (f : Field) : (s.raise f).cbs = s.cbs := by simp [State.raise]
@[simp] theorem State.jtag_raise (f : Field) : (s.raise f).jtag = s.jtag := by simp [State.raise]
@[simp] theorem State.pin_raise (f : Field) : (s.raise f).pin = s.pin := by simp [State.raise]
@[simp] theorem State.cellar_raise (f : Field) : (s.raise f).cellar = s.cellar := by simp [State.raise]

@[simp] theorem State.pending_recordMode (m : Mode) (c : Nat) : (s.recordMode m c).pending = s.pending := by simp [State.recordMode]
@[simp] theorem State.now_recordMode (m : Mode) (c : Nat) : (s.recordMode m c).now = s.now := by simp [State.recordMode]
@[simp] theorem State.lastRead_recordMode (m : Mode) (c : Nat) : (s.recordMode m c).lastRead = s.lastRead := by simp [State.recordMode]
@[simp] theorem State.free_recordMode (m : Mode) (c : Nat) : (s.recordMode m c).free = s.free := by simp [State.recordMode]
@[simp] theorem State.top_recordMode (m : Mode) (c : Nat) : (s.recordMode m c).top = s.top := by simp [State.recordMode]
@[simp] theorem State.trl_recordMode (m : Mode) (c : Nat) : (s.recordMode m c).trl = s.trl := by simp [State.recordMode]
@[simp] theorem State.cand_recordMode (m : Mode) (c : Nat) : (s.recordMode m c).cand = s.cand := by simp [State.recordMode]
@[simp] theorem State.dpll_recordMode (m : Mode) (c : Nat) : (s.recordMode m c).dpll = s.dpll := by simp [State.recordMode]
@[simp] theorem State.plan_recordMode (m : Mode) (c : Nat) : (s.recordMode m c).plan = s.plan := by simp [State.recordMode]
@[simp] theorem State.syn_recordMode (m : Mode) (c : Nat) : (s.recordMode m c).syn = s.syn := by simp [State.recordMode]
@[simp] theorem State.ptp_recordMode (m : Mode) (c : Nat) : (s.recordMode m c).ptp = s.ptp := by simp [State.recordMode]
@[simp] theorem State.rck_recordMode (m : Mode) (c : Nat) : (s.recordMode m c).rck = s.rck := by simp [State.recordMode]
@[simp] theorem State.ins_recordMode (m : Mode) (c : Nat) : (s.recordMode m c).ins = s.ins := by simp [State.recordMode]
@[simp] theorem State.outs_recordMode (m : Mode) (c : Nat) : (s.recordMode m c).outs = s.outs := by simp [State.recordMode]
@[simp] theorem State.adm_recordMode (m : Mode) (c : Nat) : (s.recordMode m c).adm = s.adm := by simp [State.recordMode]
@[simp] theorem State.chans_recordMode (m : Mode) (c : Nat) : (s.recordMode m c).chans = s.chans := by simp [State.recordMode]
@[simp] theorem State.ldg_recordMode (m : Mode) (c : Nat) : (s.recordMode m c).ldg = s.ldg := by simp [State.recordMode]
@[simp] theorem State.aud_recordMode (m : Mode) (c : Nat) : (s.recordMode m c).aud = s.aud := by simp [State.recordMode]
@[simp] theorem State.src_recordMode (m : Mode) (c : Nat) : (s.recordMode m c).src = s.src := by simp [State.recordMode]
@[simp] theorem State.est_recordMode (m : Mode) (c : Nat) : (s.recordMode m c).est = s.est := by simp [State.recordMode]
@[simp] theorem State.dst_recordMode (m : Mode) (c : Nat) : (s.recordMode m c).dst = s.dst := by simp [State.recordMode]
@[simp] theorem State.gens_recordMode (m : Mode) (c : Nat) : (s.recordMode m c).gens = s.gens := by simp [State.recordMode]
@[simp] theorem State.i2s_recordMode (m : Mode) (c : Nat) : (s.recordMode m c).i2s = s.i2s := by simp [State.recordMode]
@[simp] theorem State.mvh_recordMode (m : Mode) (c : Nat) : (s.recordMode m c).mvh = s.mvh := by simp [State.recordMode]
@[simp] theorem State.twn_recordMode (m : Mode) (c : Nat) : (s.recordMode m c).twn = s.twn := by simp [State.recordMode]
@[simp] theorem State.cls_recordMode (m : Mode) (c : Nat) : (s.recordMode m c).cls = s.cls := by simp [State.recordMode]
@[simp] theorem State.rx_recordMode (m : Mode) (c : Nat) : (s.recordMode m c).rx = s.rx := by simp [State.recordMode]
@[simp] theorem State.tx_recordMode (m : Mode) (c : Nat) : (s.recordMode m c).tx = s.tx := by simp [State.recordMode]
@[simp] theorem State.mac_recordMode (m : Mode) (c : Nat) : (s.recordMode m c).mac = s.mac := by simp [State.recordMode]
@[simp] theorem State.ctn_recordMode (m : Mode) (c : Nat) : (s.recordMode m c).ctn = s.ctn := by simp [State.recordMode]
@[simp] theorem State.fab_recordMode (m : Mode) (c : Nat) : (s.recordMode m c).fab = s.fab := by simp [State.recordMode]
@[simp] theorem State.chn_recordMode (m : Mode) (c : Nat) : (s.recordMode m c).chn = s.chn := by simp [State.recordMode]
@[simp] theorem State.mail_recordMode (m : Mode) (c : Nat) : (s.recordMode m c).mail = s.mail := by simp [State.recordMode]
@[simp] theorem State.nor_recordMode (m : Mode) (c : Nat) : (s.recordMode m c).nor = s.nor := by simp [State.recordMode]
@[simp] theorem State.otp_recordMode (m : Mode) (c : Nat) : (s.recordMode m c).otp = s.otp := by simp [State.recordMode]
@[simp] theorem State.mgt_recordMode (m : Mode) (c : Nat) : (s.recordMode m c).mgt = s.mgt := by simp [State.recordMode]
@[simp] theorem State.sens_recordMode (m : Mode) (c : Nat) : (s.recordMode m c).sens = s.sens := by simp [State.recordMode]
@[simp] theorem State.cbs_recordMode (m : Mode) (c : Nat) : (s.recordMode m c).cbs = s.cbs := by simp [State.recordMode]
@[simp] theorem State.jtag_recordMode (m : Mode) (c : Nat) : (s.recordMode m c).jtag = s.jtag := by simp [State.recordMode]
@[simp] theorem State.pin_recordMode (m : Mode) (c : Nat) : (s.recordMode m c).pin = s.pin := by simp [State.recordMode]
@[simp] theorem State.cellar_recordMode (m : Mode) (c : Nat) : (s.recordMode m c).cellar = s.cellar := by simp [State.recordMode]

@[simp] theorem State.pending_addCol (c i : Nat) (k : Col) (n : Nat) : (s.addCol c i k n).pending = s.pending := (rfl)
@[simp] theorem State.regs_addCol (c i : Nat) (k : Col) (n : Nat) : (s.addCol c i k n).regs = s.regs := (rfl)
@[simp] theorem State.now_addCol (c i : Nat) (k : Col) (n : Nat) : (s.addCol c i k n).now = s.now := (rfl)
@[simp] theorem State.lastRead_addCol (c i : Nat) (k : Col) (n : Nat) : (s.addCol c i k n).lastRead = s.lastRead := (rfl)
@[simp] theorem State.free_addCol (c i : Nat) (k : Col) (n : Nat) : (s.addCol c i k n).free = s.free := (rfl)
@[simp] theorem State.out_addCol (c i : Nat) (k : Col) (n : Nat) : (s.addCol c i k n).out = s.out := (rfl)
@[simp] theorem State.log_addCol (c i : Nat) (k : Col) (n : Nat) : (s.addCol c i k n).log = s.log := (rfl)
@[simp] theorem State.top_addCol (c i : Nat) (k : Col) (n : Nat) : (s.addCol c i k n).top = s.top := (rfl)
@[simp] theorem State.trl_addCol (c i : Nat) (k : Col) (n : Nat) : (s.addCol c i k n).trl = s.trl := (rfl)
@[simp] theorem State.cand_addCol (c i : Nat) (k : Col) (n : Nat) : (s.addCol c i k n).cand = s.cand := (rfl)
@[simp] theorem State.dpll_addCol (c i : Nat) (k : Col) (n : Nat) : (s.addCol c i k n).dpll = s.dpll := (rfl)
@[simp] theorem State.plan_addCol (c i : Nat) (k : Col) (n : Nat) : (s.addCol c i k n).plan = s.plan := (rfl)
@[simp] theorem State.syn_addCol (c i : Nat) (k : Col) (n : Nat) : (s.addCol c i k n).syn = s.syn := (rfl)
@[simp] theorem State.ptp_addCol (c i : Nat) (k : Col) (n : Nat) : (s.addCol c i k n).ptp = s.ptp := (rfl)
@[simp] theorem State.rck_addCol (c i : Nat) (k : Col) (n : Nat) : (s.addCol c i k n).rck = s.rck := (rfl)
@[simp] theorem State.pci_addCol (c i : Nat) (k : Col) (n : Nat) : (s.addCol c i k n).pci = s.pci := (rfl)
@[simp] theorem State.ins_addCol (c i : Nat) (k : Col) (n : Nat) : (s.addCol c i k n).ins = s.ins := (rfl)
@[simp] theorem State.outs_addCol (c i : Nat) (k : Col) (n : Nat) : (s.addCol c i k n).outs = s.outs := (rfl)
@[simp] theorem State.adm_addCol (c i : Nat) (k : Col) (n : Nat) : (s.addCol c i k n).adm = s.adm := (rfl)
@[simp] theorem State.chans_addCol (c i : Nat) (k : Col) (n : Nat) : (s.addCol c i k n).chans = s.chans := (rfl)
@[simp] theorem State.aud_addCol (c i : Nat) (k : Col) (n : Nat) : (s.addCol c i k n).aud = s.aud := (rfl)
@[simp] theorem State.src_addCol (c i : Nat) (k : Col) (n : Nat) : (s.addCol c i k n).src = s.src := (rfl)
@[simp] theorem State.est_addCol (c i : Nat) (k : Col) (n : Nat) : (s.addCol c i k n).est = s.est := (rfl)
@[simp] theorem State.dst_addCol (c i : Nat) (k : Col) (n : Nat) : (s.addCol c i k n).dst = s.dst := (rfl)
@[simp] theorem State.gens_addCol (c i : Nat) (k : Col) (n : Nat) : (s.addCol c i k n).gens = s.gens := (rfl)
@[simp] theorem State.i2s_addCol (c i : Nat) (k : Col) (n : Nat) : (s.addCol c i k n).i2s = s.i2s := (rfl)
@[simp] theorem State.mvh_addCol (c i : Nat) (k : Col) (n : Nat) : (s.addCol c i k n).mvh = s.mvh := (rfl)
@[simp] theorem State.twn_addCol (c i : Nat) (k : Col) (n : Nat) : (s.addCol c i k n).twn = s.twn := (rfl)
@[simp] theorem State.cls_addCol (c i : Nat) (k : Col) (n : Nat) : (s.addCol c i k n).cls = s.cls := (rfl)
@[simp] theorem State.rx_addCol (c i : Nat) (k : Col) (n : Nat) : (s.addCol c i k n).rx = s.rx := (rfl)
@[simp] theorem State.tx_addCol (c i : Nat) (k : Col) (n : Nat) : (s.addCol c i k n).tx = s.tx := (rfl)
@[simp] theorem State.mac_addCol (c i : Nat) (k : Col) (n : Nat) : (s.addCol c i k n).mac = s.mac := (rfl)
@[simp] theorem State.ctn_addCol (c i : Nat) (k : Col) (n : Nat) : (s.addCol c i k n).ctn = s.ctn := (rfl)
@[simp] theorem State.fab_addCol (c i : Nat) (k : Col) (n : Nat) : (s.addCol c i k n).fab = s.fab := (rfl)
@[simp] theorem State.chn_addCol (c i : Nat) (k : Col) (n : Nat) : (s.addCol c i k n).chn = s.chn := (rfl)
@[simp] theorem State.mail_addCol (c i : Nat) (k : Col) (n : Nat) : (s.addCol c i k n).mail = s.mail := (rfl)
@[simp] theorem State.nor_addCol (c i : Nat) (k : Col) (n : Nat) : (s.addCol c i k n).nor = s.nor := (rfl)
@[simp] theorem State.otp_addCol (c i : Nat) (k : Col) (n : Nat) : (s.addCol c i k n).otp = s.otp := (rfl)
@[simp] theorem State.mgt_addCol (c i : Nat) (k : Col) (n : Nat) : (s.addCol c i k n).mgt = s.mgt := (rfl)
@[simp] theorem State.sens_addCol (c i : Nat) (k : Col) (n : Nat) : (s.addCol c i k n).sens = s.sens := (rfl)
@[simp] theorem State.cbs_addCol (c i : Nat) (k : Col) (n : Nat) : (s.addCol c i k n).cbs = s.cbs := (rfl)
@[simp] theorem State.jtag_addCol (c i : Nat) (k : Col) (n : Nat) : (s.addCol c i k n).jtag = s.jtag := (rfl)
@[simp] theorem State.pin_addCol (c i : Nat) (k : Col) (n : Nat) : (s.addCol c i k n).pin = s.pin := (rfl)
@[simp] theorem State.cellar_addCol (c i : Nat) (k : Col) (n : Nat) : (s.addCol c i k n).cellar = s.cellar := (rfl)

@[simp] theorem State.pending_subResident (c i n : Nat) : (s.subResident c i n).pending = s.pending := (rfl)
@[simp] theorem State.regs_subResident (c i n : Nat) : (s.subResident c i n).regs = s.regs := (rfl)
@[simp] theorem State.now_subResident (c i n : Nat) : (s.subResident c i n).now = s.now := (rfl)
@[simp] theorem State.lastRead_subResident (c i n : Nat) : (s.subResident c i n).lastRead = s.lastRead := (rfl)
@[simp] theorem State.free_subResident (c i n : Nat) : (s.subResident c i n).free = s.free := (rfl)
@[simp] theorem State.out_subResident (c i n : Nat) : (s.subResident c i n).out = s.out := (rfl)
@[simp] theorem State.log_subResident (c i n : Nat) : (s.subResident c i n).log = s.log := (rfl)
@[simp] theorem State.top_subResident (c i n : Nat) : (s.subResident c i n).top = s.top := (rfl)
@[simp] theorem State.trl_subResident (c i n : Nat) : (s.subResident c i n).trl = s.trl := (rfl)
@[simp] theorem State.cand_subResident (c i n : Nat) : (s.subResident c i n).cand = s.cand := (rfl)
@[simp] theorem State.dpll_subResident (c i n : Nat) : (s.subResident c i n).dpll = s.dpll := (rfl)
@[simp] theorem State.plan_subResident (c i n : Nat) : (s.subResident c i n).plan = s.plan := (rfl)
@[simp] theorem State.syn_subResident (c i n : Nat) : (s.subResident c i n).syn = s.syn := (rfl)
@[simp] theorem State.ptp_subResident (c i n : Nat) : (s.subResident c i n).ptp = s.ptp := (rfl)
@[simp] theorem State.rck_subResident (c i n : Nat) : (s.subResident c i n).rck = s.rck := (rfl)
@[simp] theorem State.pci_subResident (c i n : Nat) : (s.subResident c i n).pci = s.pci := (rfl)
@[simp] theorem State.ins_subResident (c i n : Nat) : (s.subResident c i n).ins = s.ins := (rfl)
@[simp] theorem State.outs_subResident (c i n : Nat) : (s.subResident c i n).outs = s.outs := (rfl)
@[simp] theorem State.adm_subResident (c i n : Nat) : (s.subResident c i n).adm = s.adm := (rfl)
@[simp] theorem State.chans_subResident (c i n : Nat) : (s.subResident c i n).chans = s.chans := (rfl)
@[simp] theorem State.aud_subResident (c i n : Nat) : (s.subResident c i n).aud = s.aud := (rfl)
@[simp] theorem State.src_subResident (c i n : Nat) : (s.subResident c i n).src = s.src := (rfl)
@[simp] theorem State.est_subResident (c i n : Nat) : (s.subResident c i n).est = s.est := (rfl)
@[simp] theorem State.dst_subResident (c i n : Nat) : (s.subResident c i n).dst = s.dst := (rfl)
@[simp] theorem State.gens_subResident (c i n : Nat) : (s.subResident c i n).gens = s.gens := (rfl)
@[simp] theorem State.i2s_subResident (c i n : Nat) : (s.subResident c i n).i2s = s.i2s := (rfl)
@[simp] theorem State.mvh_subResident (c i n : Nat) : (s.subResident c i n).mvh = s.mvh := (rfl)
@[simp] theorem State.twn_subResident (c i n : Nat) : (s.subResident c i n).twn = s.twn := (rfl)
@[simp] theorem State.cls_subResident (c i n : Nat) : (s.subResident c i n).cls = s.cls := (rfl)
@[simp] theorem State.rx_subResident (c i n : Nat) : (s.subResident c i n).rx = s.rx := (rfl)
@[simp] theorem State.tx_subResident (c i n : Nat) : (s.subResident c i n).tx = s.tx := (rfl)
@[simp] theorem State.mac_subResident (c i n : Nat) : (s.subResident c i n).mac = s.mac := (rfl)
@[simp] theorem State.ctn_subResident (c i n : Nat) : (s.subResident c i n).ctn = s.ctn := (rfl)
@[simp] theorem State.fab_subResident (c i n : Nat) : (s.subResident c i n).fab = s.fab := (rfl)
@[simp] theorem State.chn_subResident (c i n : Nat) : (s.subResident c i n).chn = s.chn := (rfl)
@[simp] theorem State.mail_subResident (c i n : Nat) : (s.subResident c i n).mail = s.mail := (rfl)
@[simp] theorem State.nor_subResident (c i n : Nat) : (s.subResident c i n).nor = s.nor := (rfl)
@[simp] theorem State.otp_subResident (c i n : Nat) : (s.subResident c i n).otp = s.otp := (rfl)
@[simp] theorem State.mgt_subResident (c i n : Nat) : (s.subResident c i n).mgt = s.mgt := (rfl)
@[simp] theorem State.sens_subResident (c i n : Nat) : (s.subResident c i n).sens = s.sens := (rfl)
@[simp] theorem State.cbs_subResident (c i n : Nat) : (s.subResident c i n).cbs = s.cbs := (rfl)
@[simp] theorem State.jtag_subResident (c i n : Nat) : (s.subResident c i n).jtag = s.jtag := (rfl)
@[simp] theorem State.pin_subResident (c i n : Nat) : (s.subResident c i n).pin = s.pin := (rfl)
@[simp] theorem State.cellar_subResident (c i n : Nat) : (s.subResident c i n).cellar = s.cellar := (rfl)

theorem State.bookIn_eq (c i n : Nat) : s.bookIn c i n = { s with ldg := (s.bookIn c i n).ldg } := by unfold State.bookIn; split <;> rfl
@[simp] theorem State.pending_bookIn (c i n : Nat) : (s.bookIn c i n).pending = s.pending := by rw [State.bookIn_eq]
@[simp] theorem State.regs_bookIn (c i n : Nat) : (s.bookIn c i n).regs = s.regs := by rw [State.bookIn_eq]
@[simp] theorem State.now_bookIn (c i n : Nat) : (s.bookIn c i n).now = s.now := by rw [State.bookIn_eq]
@[simp] theorem State.lastRead_bookIn (c i n : Nat) : (s.bookIn c i n).lastRead = s.lastRead := by rw [State.bookIn_eq]
@[simp] theorem State.free_bookIn (c i n : Nat) : (s.bookIn c i n).free = s.free := by rw [State.bookIn_eq]
@[simp] theorem State.out_bookIn (c i n : Nat) : (s.bookIn c i n).out = s.out := by rw [State.bookIn_eq]
@[simp] theorem State.log_bookIn (c i n : Nat) : (s.bookIn c i n).log = s.log := by rw [State.bookIn_eq]
@[simp] theorem State.top_bookIn (c i n : Nat) : (s.bookIn c i n).top = s.top := by rw [State.bookIn_eq]
@[simp] theorem State.trl_bookIn (c i n : Nat) : (s.bookIn c i n).trl = s.trl := by rw [State.bookIn_eq]
@[simp] theorem State.cand_bookIn (c i n : Nat) : (s.bookIn c i n).cand = s.cand := by rw [State.bookIn_eq]
@[simp] theorem State.dpll_bookIn (c i n : Nat) : (s.bookIn c i n).dpll = s.dpll := by rw [State.bookIn_eq]
@[simp] theorem State.plan_bookIn (c i n : Nat) : (s.bookIn c i n).plan = s.plan := by rw [State.bookIn_eq]
@[simp] theorem State.syn_bookIn (c i n : Nat) : (s.bookIn c i n).syn = s.syn := by rw [State.bookIn_eq]
@[simp] theorem State.ptp_bookIn (c i n : Nat) : (s.bookIn c i n).ptp = s.ptp := by rw [State.bookIn_eq]
@[simp] theorem State.rck_bookIn (c i n : Nat) : (s.bookIn c i n).rck = s.rck := by rw [State.bookIn_eq]
@[simp] theorem State.pci_bookIn (c i n : Nat) : (s.bookIn c i n).pci = s.pci := by rw [State.bookIn_eq]
@[simp] theorem State.ins_bookIn (c i n : Nat) : (s.bookIn c i n).ins = s.ins := by rw [State.bookIn_eq]
@[simp] theorem State.outs_bookIn (c i n : Nat) : (s.bookIn c i n).outs = s.outs := by rw [State.bookIn_eq]
@[simp] theorem State.adm_bookIn (c i n : Nat) : (s.bookIn c i n).adm = s.adm := by rw [State.bookIn_eq]
@[simp] theorem State.chans_bookIn (c i n : Nat) : (s.bookIn c i n).chans = s.chans := by rw [State.bookIn_eq]
@[simp] theorem State.aud_bookIn (c i n : Nat) : (s.bookIn c i n).aud = s.aud := by rw [State.bookIn_eq]
@[simp] theorem State.src_bookIn (c i n : Nat) : (s.bookIn c i n).src = s.src := by rw [State.bookIn_eq]
@[simp] theorem State.est_bookIn (c i n : Nat) : (s.bookIn c i n).est = s.est := by rw [State.bookIn_eq]
@[simp] theorem State.dst_bookIn (c i n : Nat) : (s.bookIn c i n).dst = s.dst := by rw [State.bookIn_eq]
@[simp] theorem State.gens_bookIn (c i n : Nat) : (s.bookIn c i n).gens = s.gens := by rw [State.bookIn_eq]
@[simp] theorem State.i2s_bookIn (c i n : Nat) : (s.bookIn c i n).i2s = s.i2s := by rw [State.bookIn_eq]
@[simp] theorem State.mvh_bookIn (c i n : Nat) : (s.bookIn c i n).mvh = s.mvh := by rw [State.bookIn_eq]
@[simp] theorem State.twn_bookIn (c i n : Nat) : (s.bookIn c i n).twn = s.twn := by rw [State.bookIn_eq]
@[simp] theorem State.cls_bookIn (c i n : Nat) : (s.bookIn c i n).cls = s.cls := by rw [State.bookIn_eq]
@[simp] theorem State.rx_bookIn (c i n : Nat) : (s.bookIn c i n).rx = s.rx := by rw [State.bookIn_eq]
@[simp] theorem State.tx_bookIn (c i n : Nat) : (s.bookIn c i n).tx = s.tx := by rw [State.bookIn_eq]
@[simp] theorem State.mac_bookIn (c i n : Nat) : (s.bookIn c i n).mac = s.mac := by rw [State.bookIn_eq]
@[simp] theorem State.ctn_bookIn (c i n : Nat) : (s.bookIn c i n).ctn = s.ctn := by rw [State.bookIn_eq]
@[simp] theorem State.fab_bookIn (c i n : Nat) : (s.bookIn c i n).fab = s.fab := by rw [State.bookIn_eq]
@[simp] theorem State.chn_bookIn (c i n : Nat) : (s.bookIn c i n).chn = s.chn := by rw [State.bookIn_eq]
@[simp] theorem State.mail_bookIn (c i n : Nat) : (s.bookIn c i n).mail = s.mail := by rw [State.bookIn_eq]
@[simp] theorem State.nor_bookIn (c i n : Nat) : (s.bookIn c i n).nor = s.nor := by rw [State.bookIn_eq]
@[simp] theorem State.otp_bookIn (c i n : Nat) : (s.bookIn c i n).otp = s.otp := by rw [State.bookIn_eq]
@[simp] theorem State.mgt_bookIn (c i n : Nat) : (s.bookIn c i n).mgt = s.mgt := by rw [State.bookIn_eq]
@[simp] theorem State.sens_bookIn (c i n : Nat) : (s.bookIn c i n).sens = s.sens := by rw [State.bookIn_eq]
@[simp] theorem State.cbs_bookIn (c i n : Nat) : (s.bookIn c i n).cbs = s.cbs := by rw [State.bookIn_eq]
@[simp] theorem State.jtag_bookIn (c i n : Nat) : (s.bookIn c i n).jtag = s.jtag := by rw [State.bookIn_eq]
@[simp] theorem State.pin_bookIn (c i n : Nat) : (s.bookIn c i n).pin = s.pin := by rw [State.bookIn_eq]
@[simp] theorem State.cellar_bookIn (c i n : Nat) : (s.bookIn c i n).cellar = s.cellar := by rw [State.bookIn_eq]

theorem State.bookOut_eq (c i : Nat) (k : Col) (n : Nat) : s.bookOut c i k n = { s with ldg := (s.bookOut c i k n).ldg } := by unfold State.bookOut; split <;> rfl
@[simp] theorem State.pending_bookOut (c i : Nat) (k : Col) (n : Nat) : (s.bookOut c i k n).pending = s.pending := by rw [State.bookOut_eq]
@[simp] theorem State.regs_bookOut (c i : Nat) (k : Col) (n : Nat) : (s.bookOut c i k n).regs = s.regs := by rw [State.bookOut_eq]
@[simp] theorem State.now_bookOut (c i : Nat) (k : Col) (n : Nat) : (s.bookOut c i k n).now = s.now := by rw [State.bookOut_eq]
@[simp] theorem State.lastRead_bookOut (c i : Nat) (k : Col) (n : Nat) : (s.bookOut c i k n).lastRead = s.lastRead := by rw [State.bookOut_eq]
@[simp] theorem State.free_bookOut (c i : Nat) (k : Col) (n : Nat) : (s.bookOut c i k n).free = s.free := by rw [State.bookOut_eq]
@[simp] theorem State.out_bookOut (c i : Nat) (k : Col) (n : Nat) : (s.bookOut c i k n).out = s.out := by rw [State.bookOut_eq]
@[simp] theorem State.log_bookOut (c i : Nat) (k : Col) (n : Nat) : (s.bookOut c i k n).log = s.log := by rw [State.bookOut_eq]
@[simp] theorem State.top_bookOut (c i : Nat) (k : Col) (n : Nat) : (s.bookOut c i k n).top = s.top := by rw [State.bookOut_eq]
@[simp] theorem State.trl_bookOut (c i : Nat) (k : Col) (n : Nat) : (s.bookOut c i k n).trl = s.trl := by rw [State.bookOut_eq]
@[simp] theorem State.cand_bookOut (c i : Nat) (k : Col) (n : Nat) : (s.bookOut c i k n).cand = s.cand := by rw [State.bookOut_eq]
@[simp] theorem State.dpll_bookOut (c i : Nat) (k : Col) (n : Nat) : (s.bookOut c i k n).dpll = s.dpll := by rw [State.bookOut_eq]
@[simp] theorem State.plan_bookOut (c i : Nat) (k : Col) (n : Nat) : (s.bookOut c i k n).plan = s.plan := by rw [State.bookOut_eq]
@[simp] theorem State.syn_bookOut (c i : Nat) (k : Col) (n : Nat) : (s.bookOut c i k n).syn = s.syn := by rw [State.bookOut_eq]
@[simp] theorem State.ptp_bookOut (c i : Nat) (k : Col) (n : Nat) : (s.bookOut c i k n).ptp = s.ptp := by rw [State.bookOut_eq]
@[simp] theorem State.rck_bookOut (c i : Nat) (k : Col) (n : Nat) : (s.bookOut c i k n).rck = s.rck := by rw [State.bookOut_eq]
@[simp] theorem State.pci_bookOut (c i : Nat) (k : Col) (n : Nat) : (s.bookOut c i k n).pci = s.pci := by rw [State.bookOut_eq]
@[simp] theorem State.ins_bookOut (c i : Nat) (k : Col) (n : Nat) : (s.bookOut c i k n).ins = s.ins := by rw [State.bookOut_eq]
@[simp] theorem State.outs_bookOut (c i : Nat) (k : Col) (n : Nat) : (s.bookOut c i k n).outs = s.outs := by rw [State.bookOut_eq]
@[simp] theorem State.adm_bookOut (c i : Nat) (k : Col) (n : Nat) : (s.bookOut c i k n).adm = s.adm := by rw [State.bookOut_eq]
@[simp] theorem State.chans_bookOut (c i : Nat) (k : Col) (n : Nat) : (s.bookOut c i k n).chans = s.chans := by rw [State.bookOut_eq]
@[simp] theorem State.aud_bookOut (c i : Nat) (k : Col) (n : Nat) : (s.bookOut c i k n).aud = s.aud := by rw [State.bookOut_eq]
@[simp] theorem State.src_bookOut (c i : Nat) (k : Col) (n : Nat) : (s.bookOut c i k n).src = s.src := by rw [State.bookOut_eq]
@[simp] theorem State.est_bookOut (c i : Nat) (k : Col) (n : Nat) : (s.bookOut c i k n).est = s.est := by rw [State.bookOut_eq]
@[simp] theorem State.dst_bookOut (c i : Nat) (k : Col) (n : Nat) : (s.bookOut c i k n).dst = s.dst := by rw [State.bookOut_eq]
@[simp] theorem State.gens_bookOut (c i : Nat) (k : Col) (n : Nat) : (s.bookOut c i k n).gens = s.gens := by rw [State.bookOut_eq]
@[simp] theorem State.i2s_bookOut (c i : Nat) (k : Col) (n : Nat) : (s.bookOut c i k n).i2s = s.i2s := by rw [State.bookOut_eq]
@[simp] theorem State.mvh_bookOut (c i : Nat) (k : Col) (n : Nat) : (s.bookOut c i k n).mvh = s.mvh := by rw [State.bookOut_eq]
@[simp] theorem State.twn_bookOut (c i : Nat) (k : Col) (n : Nat) : (s.bookOut c i k n).twn = s.twn := by rw [State.bookOut_eq]
@[simp] theorem State.cls_bookOut (c i : Nat) (k : Col) (n : Nat) : (s.bookOut c i k n).cls = s.cls := by rw [State.bookOut_eq]
@[simp] theorem State.rx_bookOut (c i : Nat) (k : Col) (n : Nat) : (s.bookOut c i k n).rx = s.rx := by rw [State.bookOut_eq]
@[simp] theorem State.tx_bookOut (c i : Nat) (k : Col) (n : Nat) : (s.bookOut c i k n).tx = s.tx := by rw [State.bookOut_eq]
@[simp] theorem State.mac_bookOut (c i : Nat) (k : Col) (n : Nat) : (s.bookOut c i k n).mac = s.mac := by rw [State.bookOut_eq]
@[simp] theorem State.ctn_bookOut (c i : Nat) (k : Col) (n : Nat) : (s.bookOut c i k n).ctn = s.ctn := by rw [State.bookOut_eq]
@[simp] theorem State.fab_bookOut (c i : Nat) (k : Col) (n : Nat) : (s.bookOut c i k n).fab = s.fab := by rw [State.bookOut_eq]
@[simp] theorem State.chn_bookOut (c i : Nat) (k : Col) (n : Nat) : (s.bookOut c i k n).chn = s.chn := by rw [State.bookOut_eq]
@[simp] theorem State.mail_bookOut (c i : Nat) (k : Col) (n : Nat) : (s.bookOut c i k n).mail = s.mail := by rw [State.bookOut_eq]
@[simp] theorem State.nor_bookOut (c i : Nat) (k : Col) (n : Nat) : (s.bookOut c i k n).nor = s.nor := by rw [State.bookOut_eq]
@[simp] theorem State.otp_bookOut (c i : Nat) (k : Col) (n : Nat) : (s.bookOut c i k n).otp = s.otp := by rw [State.bookOut_eq]
@[simp] theorem State.mgt_bookOut (c i : Nat) (k : Col) (n : Nat) : (s.bookOut c i k n).mgt = s.mgt := by rw [State.bookOut_eq]
@[simp] theorem State.sens_bookOut (c i : Nat) (k : Col) (n : Nat) : (s.bookOut c i k n).sens = s.sens := by rw [State.bookOut_eq]
@[simp] theorem State.cbs_bookOut (c i : Nat) (k : Col) (n : Nat) : (s.bookOut c i k n).cbs = s.cbs := by rw [State.bookOut_eq]
@[simp] theorem State.jtag_bookOut (c i : Nat) (k : Col) (n : Nat) : (s.bookOut c i k n).jtag = s.jtag := by rw [State.bookOut_eq]
@[simp] theorem State.pin_bookOut (c i : Nat) (k : Col) (n : Nat) : (s.bookOut c i k n).pin = s.pin := by rw [State.bookOut_eq]
@[simp] theorem State.cellar_bookOut (c i : Nat) (k : Col) (n : Nat) : (s.bookOut c i k n).cellar = s.cellar := by rw [State.bookOut_eq]

@[simp] theorem State.pending_bookThrough (c i : Nat) (k : Col) (n : Nat) : (s.bookThrough c i k n).pending = s.pending := by simp [State.bookThrough]
@[simp] theorem State.regs_bookThrough (c i : Nat) (k : Col) (n : Nat) : (s.bookThrough c i k n).regs = s.regs := by simp [State.bookThrough]
@[simp] theorem State.now_bookThrough (c i : Nat) (k : Col) (n : Nat) : (s.bookThrough c i k n).now = s.now := by simp [State.bookThrough]
@[simp] theorem State.lastRead_bookThrough (c i : Nat) (k : Col) (n : Nat) : (s.bookThrough c i k n).lastRead = s.lastRead := by simp [State.bookThrough]
@[simp] theorem State.free_bookThrough (c i : Nat) (k : Col) (n : Nat) : (s.bookThrough c i k n).free = s.free := by simp [State.bookThrough]
@[simp] theorem State.out_bookThrough (c i : Nat) (k : Col) (n : Nat) : (s.bookThrough c i k n).out = s.out := by simp [State.bookThrough]
@[simp] theorem State.log_bookThrough (c i : Nat) (k : Col) (n : Nat) : (s.bookThrough c i k n).log = s.log := by simp [State.bookThrough]
@[simp] theorem State.top_bookThrough (c i : Nat) (k : Col) (n : Nat) : (s.bookThrough c i k n).top = s.top := by simp [State.bookThrough]
@[simp] theorem State.trl_bookThrough (c i : Nat) (k : Col) (n : Nat) : (s.bookThrough c i k n).trl = s.trl := by simp [State.bookThrough]
@[simp] theorem State.cand_bookThrough (c i : Nat) (k : Col) (n : Nat) : (s.bookThrough c i k n).cand = s.cand := by simp [State.bookThrough]
@[simp] theorem State.dpll_bookThrough (c i : Nat) (k : Col) (n : Nat) : (s.bookThrough c i k n).dpll = s.dpll := by simp [State.bookThrough]
@[simp] theorem State.plan_bookThrough (c i : Nat) (k : Col) (n : Nat) : (s.bookThrough c i k n).plan = s.plan := by simp [State.bookThrough]
@[simp] theorem State.syn_bookThrough (c i : Nat) (k : Col) (n : Nat) : (s.bookThrough c i k n).syn = s.syn := by simp [State.bookThrough]
@[simp] theorem State.ptp_bookThrough (c i : Nat) (k : Col) (n : Nat) : (s.bookThrough c i k n).ptp = s.ptp := by simp [State.bookThrough]
@[simp] theorem State.rck_bookThrough (c i : Nat) (k : Col) (n : Nat) : (s.bookThrough c i k n).rck = s.rck := by simp [State.bookThrough]
@[simp] theorem State.pci_bookThrough (c i : Nat) (k : Col) (n : Nat) : (s.bookThrough c i k n).pci = s.pci := by simp [State.bookThrough]
@[simp] theorem State.ins_bookThrough (c i : Nat) (k : Col) (n : Nat) : (s.bookThrough c i k n).ins = s.ins := by simp [State.bookThrough]
@[simp] theorem State.outs_bookThrough (c i : Nat) (k : Col) (n : Nat) : (s.bookThrough c i k n).outs = s.outs := by simp [State.bookThrough]
@[simp] theorem State.adm_bookThrough (c i : Nat) (k : Col) (n : Nat) : (s.bookThrough c i k n).adm = s.adm := by simp [State.bookThrough]
@[simp] theorem State.chans_bookThrough (c i : Nat) (k : Col) (n : Nat) : (s.bookThrough c i k n).chans = s.chans := by simp [State.bookThrough]
@[simp] theorem State.aud_bookThrough (c i : Nat) (k : Col) (n : Nat) : (s.bookThrough c i k n).aud = s.aud := by simp [State.bookThrough]
@[simp] theorem State.src_bookThrough (c i : Nat) (k : Col) (n : Nat) : (s.bookThrough c i k n).src = s.src := by simp [State.bookThrough]
@[simp] theorem State.est_bookThrough (c i : Nat) (k : Col) (n : Nat) : (s.bookThrough c i k n).est = s.est := by simp [State.bookThrough]
@[simp] theorem State.dst_bookThrough (c i : Nat) (k : Col) (n : Nat) : (s.bookThrough c i k n).dst = s.dst := by simp [State.bookThrough]
@[simp] theorem State.gens_bookThrough (c i : Nat) (k : Col) (n : Nat) : (s.bookThrough c i k n).gens = s.gens := by simp [State.bookThrough]
@[simp] theorem State.i2s_bookThrough (c i : Nat) (k : Col) (n : Nat) : (s.bookThrough c i k n).i2s = s.i2s := by simp [State.bookThrough]
@[simp] theorem State.mvh_bookThrough (c i : Nat) (k : Col) (n : Nat) : (s.bookThrough c i k n).mvh = s.mvh := by simp [State.bookThrough]
@[simp] theorem State.twn_bookThrough (c i : Nat) (k : Col) (n : Nat) : (s.bookThrough c i k n).twn = s.twn := by simp [State.bookThrough]
@[simp] theorem State.cls_bookThrough (c i : Nat) (k : Col) (n : Nat) : (s.bookThrough c i k n).cls = s.cls := by simp [State.bookThrough]
@[simp] theorem State.rx_bookThrough (c i : Nat) (k : Col) (n : Nat) : (s.bookThrough c i k n).rx = s.rx := by simp [State.bookThrough]
@[simp] theorem State.tx_bookThrough (c i : Nat) (k : Col) (n : Nat) : (s.bookThrough c i k n).tx = s.tx := by simp [State.bookThrough]
@[simp] theorem State.mac_bookThrough (c i : Nat) (k : Col) (n : Nat) : (s.bookThrough c i k n).mac = s.mac := by simp [State.bookThrough]
@[simp] theorem State.ctn_bookThrough (c i : Nat) (k : Col) (n : Nat) : (s.bookThrough c i k n).ctn = s.ctn := by simp [State.bookThrough]
@[simp] theorem State.fab_bookThrough (c i : Nat) (k : Col) (n : Nat) : (s.bookThrough c i k n).fab = s.fab := by simp [State.bookThrough]
@[simp] theorem State.chn_bookThrough (c i : Nat) (k : Col) (n : Nat) : (s.bookThrough c i k n).chn = s.chn := by simp [State.bookThrough]
@[simp] theorem State.mail_bookThrough (c i : Nat) (k : Col) (n : Nat) : (s.bookThrough c i k n).mail = s.mail := by simp [State.bookThrough]
@[simp] theorem State.nor_bookThrough (c i : Nat) (k : Col) (n : Nat) : (s.bookThrough c i k n).nor = s.nor := by simp [State.bookThrough]
@[simp] theorem State.otp_bookThrough (c i : Nat) (k : Col) (n : Nat) : (s.bookThrough c i k n).otp = s.otp := by simp [State.bookThrough]
@[simp] theorem State.mgt_bookThrough (c i : Nat) (k : Col) (n : Nat) : (s.bookThrough c i k n).mgt = s.mgt := by simp [State.bookThrough]
@[simp] theorem State.sens_bookThrough (c i : Nat) (k : Col) (n : Nat) : (s.bookThrough c i k n).sens = s.sens := by simp [State.bookThrough]
@[simp] theorem State.cbs_bookThrough (c i : Nat) (k : Col) (n : Nat) : (s.bookThrough c i k n).cbs = s.cbs := by simp [State.bookThrough]
@[simp] theorem State.jtag_bookThrough (c i : Nat) (k : Col) (n : Nat) : (s.bookThrough c i k n).jtag = s.jtag := by simp [State.bookThrough]
@[simp] theorem State.pin_bookThrough (c i : Nat) (k : Col) (n : Nat) : (s.bookThrough c i k n).pin = s.pin := by simp [State.bookThrough]
@[simp] theorem State.cellar_bookThrough (c i : Nat) (k : Col) (n : Nat) : (s.bookThrough c i k n).cellar = s.cellar := by simp [State.bookThrough]

@[simp] theorem State.pending_grantLease (i h d e : Nat) : (s.grantLease i h d e).pending = s.pending := by simp only [State.grantLease]; split <;> simp
@[simp] theorem State.now_grantLease (i h d e : Nat) : (s.grantLease i h d e).now = s.now := by simp only [State.grantLease]; split <;> simp
@[simp] theorem State.lastRead_grantLease (i h d e : Nat) : (s.grantLease i h d e).lastRead = s.lastRead := by simp only [State.grantLease]; split <;> simp
@[simp] theorem State.free_grantLease (i h d e : Nat) : (s.grantLease i h d e).free = s.free := by simp only [State.grantLease]; split <;> simp
@[simp] theorem State.out_grantLease (i h d e : Nat) : (s.grantLease i h d e).out = s.out := by simp only [State.grantLease]; split <;> simp
@[simp] theorem State.log_grantLease (i h d e : Nat) : (s.grantLease i h d e).log = s.log := by simp only [State.grantLease]; split <;> simp
@[simp] theorem State.top_grantLease (i h d e : Nat) : (s.grantLease i h d e).top = s.top := by simp only [State.grantLease]; split <;> simp
@[simp] theorem State.trl_grantLease (i h d e : Nat) : (s.grantLease i h d e).trl = s.trl := by simp only [State.grantLease]; split <;> simp
@[simp] theorem State.cand_grantLease (i h d e : Nat) : (s.grantLease i h d e).cand = s.cand := by simp only [State.grantLease]; split <;> simp
@[simp] theorem State.dpll_grantLease (i h d e : Nat) : (s.grantLease i h d e).dpll = s.dpll := by simp only [State.grantLease]; split <;> simp
@[simp] theorem State.plan_grantLease (i h d e : Nat) : (s.grantLease i h d e).plan = s.plan := by simp only [State.grantLease]; split <;> simp
@[simp] theorem State.syn_grantLease (i h d e : Nat) : (s.grantLease i h d e).syn = s.syn := by simp only [State.grantLease]; split <;> simp
@[simp] theorem State.ptp_grantLease (i h d e : Nat) : (s.grantLease i h d e).ptp = s.ptp := by simp only [State.grantLease]; split <;> simp
@[simp] theorem State.rck_grantLease (i h d e : Nat) : (s.grantLease i h d e).rck = s.rck := by simp only [State.grantLease]; split <;> simp
@[simp] theorem State.pci_grantLease (i h d e : Nat) : (s.grantLease i h d e).pci = s.pci := by simp only [State.grantLease]; split <;> simp
@[simp] theorem State.ins_grantLease (i h d e : Nat) : (s.grantLease i h d e).ins = s.ins := by simp only [State.grantLease]; split <;> simp
@[simp] theorem State.outs_grantLease (i h d e : Nat) : (s.grantLease i h d e).outs = s.outs := by simp only [State.grantLease]; split <;> simp
@[simp] theorem State.adm_grantLease (i h d e : Nat) : (s.grantLease i h d e).adm = s.adm := by simp only [State.grantLease]; split <;> simp
@[simp] theorem State.chans_grantLease (i h d e : Nat) : (s.grantLease i h d e).chans = s.chans := by simp only [State.grantLease]; split <;> simp
@[simp] theorem State.aud_grantLease (i h d e : Nat) : (s.grantLease i h d e).aud = s.aud := by simp only [State.grantLease]; split <;> simp
@[simp] theorem State.src_grantLease (i h d e : Nat) : (s.grantLease i h d e).src = s.src := by simp only [State.grantLease]; split <;> simp
@[simp] theorem State.est_grantLease (i h d e : Nat) : (s.grantLease i h d e).est = s.est := by simp only [State.grantLease]; split <;> simp
@[simp] theorem State.dst_grantLease (i h d e : Nat) : (s.grantLease i h d e).dst = s.dst := by simp only [State.grantLease]; split <;> simp
@[simp] theorem State.gens_grantLease (i h d e : Nat) : (s.grantLease i h d e).gens = s.gens := by simp only [State.grantLease]; split <;> simp
@[simp] theorem State.i2s_grantLease (i h d e : Nat) : (s.grantLease i h d e).i2s = s.i2s := by simp only [State.grantLease]; split <;> simp
@[simp] theorem State.mvh_grantLease (i h d e : Nat) : (s.grantLease i h d e).mvh = s.mvh := by simp only [State.grantLease]; split <;> simp
@[simp] theorem State.twn_grantLease (i h d e : Nat) : (s.grantLease i h d e).twn = s.twn := by simp only [State.grantLease]; split <;> simp
@[simp] theorem State.cls_grantLease (i h d e : Nat) : (s.grantLease i h d e).cls = s.cls := by simp only [State.grantLease]; split <;> simp
@[simp] theorem State.rx_grantLease (i h d e : Nat) : (s.grantLease i h d e).rx = s.rx := by simp only [State.grantLease]; split <;> simp
@[simp] theorem State.tx_grantLease (i h d e : Nat) : (s.grantLease i h d e).tx = s.tx := by simp only [State.grantLease]; split <;> simp
@[simp] theorem State.mac_grantLease (i h d e : Nat) : (s.grantLease i h d e).mac = s.mac := by simp only [State.grantLease]; split <;> simp
@[simp] theorem State.ctn_grantLease (i h d e : Nat) : (s.grantLease i h d e).ctn = s.ctn := by simp only [State.grantLease]; split <;> simp
@[simp] theorem State.fab_grantLease (i h d e : Nat) : (s.grantLease i h d e).fab = s.fab := by simp only [State.grantLease]; split <;> simp
@[simp] theorem State.chn_grantLease (i h d e : Nat) : (s.grantLease i h d e).chn = s.chn := by simp only [State.grantLease]; split <;> simp
@[simp] theorem State.mail_grantLease (i h d e : Nat) : (s.grantLease i h d e).mail = s.mail := by simp only [State.grantLease]; split <;> simp
@[simp] theorem State.nor_grantLease (i h d e : Nat) : (s.grantLease i h d e).nor = s.nor := by simp only [State.grantLease]; split <;> simp
@[simp] theorem State.otp_grantLease (i h d e : Nat) : (s.grantLease i h d e).otp = s.otp := by simp only [State.grantLease]; split <;> simp
@[simp] theorem State.mgt_grantLease (i h d e : Nat) : (s.grantLease i h d e).mgt = s.mgt := by simp only [State.grantLease]; split <;> simp
@[simp] theorem State.sens_grantLease (i h d e : Nat) : (s.grantLease i h d e).sens = s.sens := by simp only [State.grantLease]; split <;> simp
@[simp] theorem State.cbs_grantLease (i h d e : Nat) : (s.grantLease i h d e).cbs = s.cbs := by simp only [State.grantLease]; split <;> simp
@[simp] theorem State.jtag_grantLease (i h d e : Nat) : (s.grantLease i h d e).jtag = s.jtag := by simp only [State.grantLease]; split <;> simp
@[simp] theorem State.pin_grantLease (i h d e : Nat) : (s.grantLease i h d e).pin = s.pin := by simp only [State.grantLease]; split <;> simp
@[simp] theorem State.cellar_grantLease (i h d e : Nat) : (s.grantLease i h d e).cellar = s.cellar := by simp only [State.grantLease]; split <;> simp

@[simp] theorem State.pending_endLease (i : Nat) (c : Col) : (s.endLease i c).pending = s.pending := by simp [State.endLease]
@[simp] theorem State.now_endLease (i : Nat) (c : Col) : (s.endLease i c).now = s.now := by simp [State.endLease]
@[simp] theorem State.lastRead_endLease (i : Nat) (c : Col) : (s.endLease i c).lastRead = s.lastRead := by simp [State.endLease]
@[simp] theorem State.free_endLease (i : Nat) (c : Col) : (s.endLease i c).free = s.free := by simp [State.endLease]
@[simp] theorem State.out_endLease (i : Nat) (c : Col) : (s.endLease i c).out = s.out := by simp [State.endLease]
@[simp] theorem State.log_endLease (i : Nat) (c : Col) : (s.endLease i c).log = s.log := by simp [State.endLease]
@[simp] theorem State.top_endLease (i : Nat) (c : Col) : (s.endLease i c).top = s.top := by simp [State.endLease]
@[simp] theorem State.trl_endLease (i : Nat) (c : Col) : (s.endLease i c).trl = s.trl := by simp [State.endLease]
@[simp] theorem State.cand_endLease (i : Nat) (c : Col) : (s.endLease i c).cand = s.cand := by simp [State.endLease]
@[simp] theorem State.dpll_endLease (i : Nat) (c : Col) : (s.endLease i c).dpll = s.dpll := by simp [State.endLease]
@[simp] theorem State.plan_endLease (i : Nat) (c : Col) : (s.endLease i c).plan = s.plan := by simp [State.endLease]
@[simp] theorem State.syn_endLease (i : Nat) (c : Col) : (s.endLease i c).syn = s.syn := by simp [State.endLease]
@[simp] theorem State.ptp_endLease (i : Nat) (c : Col) : (s.endLease i c).ptp = s.ptp := by simp [State.endLease]
@[simp] theorem State.rck_endLease (i : Nat) (c : Col) : (s.endLease i c).rck = s.rck := by simp [State.endLease]
@[simp] theorem State.pci_endLease (i : Nat) (c : Col) : (s.endLease i c).pci = s.pci := by simp [State.endLease]
@[simp] theorem State.ins_endLease (i : Nat) (c : Col) : (s.endLease i c).ins = s.ins := by simp [State.endLease]
@[simp] theorem State.outs_endLease (i : Nat) (c : Col) : (s.endLease i c).outs = s.outs := by simp [State.endLease]
@[simp] theorem State.adm_endLease (i : Nat) (c : Col) : (s.endLease i c).adm = s.adm := by simp [State.endLease]
@[simp] theorem State.chans_endLease (i : Nat) (c : Col) : (s.endLease i c).chans = s.chans := by simp [State.endLease]
@[simp] theorem State.aud_endLease (i : Nat) (c : Col) : (s.endLease i c).aud = s.aud := by simp [State.endLease]
@[simp] theorem State.src_endLease (i : Nat) (c : Col) : (s.endLease i c).src = s.src := by simp [State.endLease]
@[simp] theorem State.est_endLease (i : Nat) (c : Col) : (s.endLease i c).est = s.est := by simp [State.endLease]
@[simp] theorem State.dst_endLease (i : Nat) (c : Col) : (s.endLease i c).dst = s.dst := by simp [State.endLease]
@[simp] theorem State.gens_endLease (i : Nat) (c : Col) : (s.endLease i c).gens = s.gens := by simp [State.endLease]
@[simp] theorem State.i2s_endLease (i : Nat) (c : Col) : (s.endLease i c).i2s = s.i2s := by simp [State.endLease]
@[simp] theorem State.mvh_endLease (i : Nat) (c : Col) : (s.endLease i c).mvh = s.mvh := by simp [State.endLease]
@[simp] theorem State.twn_endLease (i : Nat) (c : Col) : (s.endLease i c).twn = s.twn := by simp [State.endLease]
@[simp] theorem State.cls_endLease (i : Nat) (c : Col) : (s.endLease i c).cls = s.cls := by simp [State.endLease]
@[simp] theorem State.rx_endLease (i : Nat) (c : Col) : (s.endLease i c).rx = s.rx := by simp [State.endLease]
@[simp] theorem State.tx_endLease (i : Nat) (c : Col) : (s.endLease i c).tx = s.tx := by simp [State.endLease]
@[simp] theorem State.mac_endLease (i : Nat) (c : Col) : (s.endLease i c).mac = s.mac := by simp [State.endLease]
@[simp] theorem State.ctn_endLease (i : Nat) (c : Col) : (s.endLease i c).ctn = s.ctn := by simp [State.endLease]
@[simp] theorem State.fab_endLease (i : Nat) (c : Col) : (s.endLease i c).fab = s.fab := by simp [State.endLease]
@[simp] theorem State.chn_endLease (i : Nat) (c : Col) : (s.endLease i c).chn = s.chn := by simp [State.endLease]
@[simp] theorem State.mail_endLease (i : Nat) (c : Col) : (s.endLease i c).mail = s.mail := by simp [State.endLease]
@[simp] theorem State.nor_endLease (i : Nat) (c : Col) : (s.endLease i c).nor = s.nor := by simp [State.endLease]
@[simp] theorem State.otp_endLease (i : Nat) (c : Col) : (s.endLease i c).otp = s.otp := by simp [State.endLease]
@[simp] theorem State.mgt_endLease (i : Nat) (c : Col) : (s.endLease i c).mgt = s.mgt := by simp [State.endLease]
@[simp] theorem State.sens_endLease (i : Nat) (c : Col) : (s.endLease i c).sens = s.sens := by simp [State.endLease]
@[simp] theorem State.cbs_endLease (i : Nat) (c : Col) : (s.endLease i c).cbs = s.cbs := by simp [State.endLease]
@[simp] theorem State.jtag_endLease (i : Nat) (c : Col) : (s.endLease i c).jtag = s.jtag := by simp [State.endLease]
@[simp] theorem State.pin_endLease (i : Nat) (c : Col) : (s.endLease i c).pin = s.pin := by simp [State.endLease]
@[simp] theorem State.cellar_endLease (i : Nat) (c : Col) : (s.endLease i c).cellar = s.cellar := by simp [State.endLease]

@[simp] theorem State.pending_meets (r : Nat) : (s.meets r).pending = s.pending := by unfold State.meets; split <;> simp
@[simp] theorem State.regs_meets (r : Nat) : (s.meets r).regs = s.regs := by unfold State.meets; split <;> simp
@[simp] theorem State.now_meets (r : Nat) : (s.meets r).now = s.now := by unfold State.meets; split <;> simp
@[simp] theorem State.lastRead_meets (r : Nat) : (s.meets r).lastRead = s.lastRead := by unfold State.meets; split <;> simp
@[simp] theorem State.free_meets (r : Nat) : (s.meets r).free = s.free := by unfold State.meets; split <;> simp
@[simp] theorem State.out_meets (r : Nat) : (s.meets r).out = s.out := by unfold State.meets; split <;> simp
@[simp] theorem State.log_meets (r : Nat) : (s.meets r).log = s.log := by unfold State.meets; split <;> simp
@[simp] theorem State.top_meets (r : Nat) : (s.meets r).top = s.top := by unfold State.meets; split <;> simp
@[simp] theorem State.trl_meets (r : Nat) : (s.meets r).trl = s.trl := by unfold State.meets; split <;> simp
@[simp] theorem State.cand_meets (r : Nat) : (s.meets r).cand = s.cand := by unfold State.meets; split <;> simp
@[simp] theorem State.dpll_meets (r : Nat) : (s.meets r).dpll = s.dpll := by unfold State.meets; split <;> simp
@[simp] theorem State.plan_meets (r : Nat) : (s.meets r).plan = s.plan := by unfold State.meets; split <;> simp
@[simp] theorem State.syn_meets (r : Nat) : (s.meets r).syn = s.syn := by unfold State.meets; split <;> simp
@[simp] theorem State.ptp_meets (r : Nat) : (s.meets r).ptp = s.ptp := by unfold State.meets; split <;> simp
@[simp] theorem State.pci_meets (r : Nat) : (s.meets r).pci = s.pci := by unfold State.meets; split <;> simp
@[simp] theorem State.ins_meets (r : Nat) : (s.meets r).ins = s.ins := by unfold State.meets; split <;> simp
@[simp] theorem State.outs_meets (r : Nat) : (s.meets r).outs = s.outs := by unfold State.meets; split <;> simp
@[simp] theorem State.adm_meets (r : Nat) : (s.meets r).adm = s.adm := by unfold State.meets; split <;> simp
@[simp] theorem State.chans_meets (r : Nat) : (s.meets r).chans = s.chans := by unfold State.meets; split <;> simp
@[simp] theorem State.ldg_meets (r : Nat) : (s.meets r).ldg = s.ldg := by unfold State.meets; split <;> simp
@[simp] theorem State.aud_meets (r : Nat) : (s.meets r).aud = s.aud := by unfold State.meets; split <;> simp
@[simp] theorem State.src_meets (r : Nat) : (s.meets r).src = s.src := by unfold State.meets; split <;> simp
@[simp] theorem State.est_meets (r : Nat) : (s.meets r).est = s.est := by unfold State.meets; split <;> simp
@[simp] theorem State.dst_meets (r : Nat) : (s.meets r).dst = s.dst := by unfold State.meets; split <;> simp
@[simp] theorem State.gens_meets (r : Nat) : (s.meets r).gens = s.gens := by unfold State.meets; split <;> simp
@[simp] theorem State.i2s_meets (r : Nat) : (s.meets r).i2s = s.i2s := by unfold State.meets; split <;> simp
@[simp] theorem State.mvh_meets (r : Nat) : (s.meets r).mvh = s.mvh := by unfold State.meets; split <;> simp
@[simp] theorem State.twn_meets (r : Nat) : (s.meets r).twn = s.twn := by unfold State.meets; split <;> simp
@[simp] theorem State.cls_meets (r : Nat) : (s.meets r).cls = s.cls := by unfold State.meets; split <;> simp
@[simp] theorem State.rx_meets (r : Nat) : (s.meets r).rx = s.rx := by unfold State.meets; split <;> simp
@[simp] theorem State.tx_meets (r : Nat) : (s.meets r).tx = s.tx := by unfold State.meets; split <;> simp
@[simp] theorem State.mac_meets (r : Nat) : (s.meets r).mac = s.mac := by unfold State.meets; split <;> simp
@[simp] theorem State.ctn_meets (r : Nat) : (s.meets r).ctn = s.ctn := by unfold State.meets; split <;> simp
@[simp] theorem State.fab_meets (r : Nat) : (s.meets r).fab = s.fab := by unfold State.meets; split <;> simp
@[simp] theorem State.chn_meets (r : Nat) : (s.meets r).chn = s.chn := by unfold State.meets; split <;> simp
@[simp] theorem State.mail_meets (r : Nat) : (s.meets r).mail = s.mail := by unfold State.meets; split <;> simp
@[simp] theorem State.nor_meets (r : Nat) : (s.meets r).nor = s.nor := by unfold State.meets; split <;> simp
@[simp] theorem State.otp_meets (r : Nat) : (s.meets r).otp = s.otp := by unfold State.meets; split <;> simp
@[simp] theorem State.mgt_meets (r : Nat) : (s.meets r).mgt = s.mgt := by unfold State.meets; split <;> simp
@[simp] theorem State.sens_meets (r : Nat) : (s.meets r).sens = s.sens := by unfold State.meets; split <;> simp
@[simp] theorem State.cbs_meets (r : Nat) : (s.meets r).cbs = s.cbs := by unfold State.meets; split <;> simp
@[simp] theorem State.jtag_meets (r : Nat) : (s.meets r).jtag = s.jtag := by unfold State.meets; split <;> simp
@[simp] theorem State.pin_meets (r : Nat) : (s.meets r).pin = s.pin := by unfold State.meets; split <;> simp
@[simp] theorem State.cellar_meets (r : Nat) : (s.meets r).cellar = s.cellar := by unfold State.meets; split <;> simp

@[simp] theorem State.pending_writeFence (n v : Nat) : (s.writeFence n v).pending = s.pending := by simp only [State.writeFence]; (split) <;> [exact (State.forN_keeps (fun u => u.pending) (fun i u => by (repeat' split) <;> simp) _ _).trans (by simp); rfl]
@[simp] theorem State.now_writeFence (n v : Nat) : (s.writeFence n v).now = s.now := by simp only [State.writeFence]; (split) <;> [exact (State.forN_keeps (fun u => u.now) (fun i u => by (repeat' split) <;> simp) _ _).trans (by simp); rfl]
@[simp] theorem State.lastRead_writeFence (n v : Nat) : (s.writeFence n v).lastRead = s.lastRead := by simp only [State.writeFence]; (split) <;> [exact (State.forN_keeps (fun u => u.lastRead) (fun i u => by (repeat' split) <;> simp) _ _).trans (by simp); rfl]
@[simp] theorem State.free_writeFence (n v : Nat) : (s.writeFence n v).free = s.free := by simp only [State.writeFence]; (split) <;> [exact (State.forN_keeps (fun u => u.free) (fun i u => by (repeat' split) <;> simp) _ _).trans (by simp); rfl]
@[simp] theorem State.out_writeFence (n v : Nat) : (s.writeFence n v).out = s.out := by simp only [State.writeFence]; (split) <;> [exact (State.forN_keeps (fun u => u.out) (fun i u => by (repeat' split) <;> simp) _ _).trans (by simp); rfl]
@[simp] theorem State.log_writeFence (n v : Nat) : (s.writeFence n v).log = s.log := by simp only [State.writeFence]; (split) <;> [exact (State.forN_keeps (fun u => u.log) (fun i u => by (repeat' split) <;> simp) _ _).trans (by simp); rfl]
@[simp] theorem State.top_writeFence (n v : Nat) : (s.writeFence n v).top = s.top := by simp only [State.writeFence]; (split) <;> [exact (State.forN_keeps (fun u => u.top) (fun i u => by (repeat' split) <;> simp) _ _).trans (by simp); rfl]
@[simp] theorem State.trl_writeFence (n v : Nat) : (s.writeFence n v).trl = s.trl := by simp only [State.writeFence]; (split) <;> [exact (State.forN_keeps (fun u => u.trl) (fun i u => by (repeat' split) <;> simp) _ _).trans (by simp); rfl]
@[simp] theorem State.cand_writeFence (n v : Nat) : (s.writeFence n v).cand = s.cand := by simp only [State.writeFence]; (split) <;> [exact (State.forN_keeps (fun u => u.cand) (fun i u => by (repeat' split) <;> simp) _ _).trans (by simp); rfl]
@[simp] theorem State.dpll_writeFence (n v : Nat) : (s.writeFence n v).dpll = s.dpll := by simp only [State.writeFence]; (split) <;> [exact (State.forN_keeps (fun u => u.dpll) (fun i u => by (repeat' split) <;> simp) _ _).trans (by simp); rfl]
@[simp] theorem State.plan_writeFence (n v : Nat) : (s.writeFence n v).plan = s.plan := by simp only [State.writeFence]; (split) <;> [exact (State.forN_keeps (fun u => u.plan) (fun i u => by (repeat' split) <;> simp) _ _).trans (by simp); rfl]
@[simp] theorem State.syn_writeFence (n v : Nat) : (s.writeFence n v).syn = s.syn := by simp only [State.writeFence]; (split) <;> [exact (State.forN_keeps (fun u => u.syn) (fun i u => by (repeat' split) <;> simp) _ _).trans (by simp); rfl]
@[simp] theorem State.ptp_writeFence (n v : Nat) : (s.writeFence n v).ptp = s.ptp := by simp only [State.writeFence]; (split) <;> [exact (State.forN_keeps (fun u => u.ptp) (fun i u => by (repeat' split) <;> simp) _ _).trans (by simp); rfl]
@[simp] theorem State.pci_writeFence (n v : Nat) : (s.writeFence n v).pci = s.pci := by simp only [State.writeFence]; (split) <;> [exact (State.forN_keeps (fun u => u.pci) (fun i u => by (repeat' split) <;> simp) _ _).trans (by simp); rfl]
@[simp] theorem State.ins_writeFence (n v : Nat) : (s.writeFence n v).ins = s.ins := by simp only [State.writeFence]; (split) <;> [exact (State.forN_keeps (fun u => u.ins) (fun i u => by (repeat' split) <;> simp) _ _).trans (by simp); rfl]
@[simp] theorem State.outs_writeFence (n v : Nat) : (s.writeFence n v).outs = s.outs := by simp only [State.writeFence]; (split) <;> [exact (State.forN_keeps (fun u => u.outs) (fun i u => by (repeat' split) <;> simp) _ _).trans (by simp); rfl]
@[simp] theorem State.adm_writeFence (n v : Nat) : (s.writeFence n v).adm = s.adm := by simp only [State.writeFence]; (split) <;> [exact (State.forN_keeps (fun u => u.adm) (fun i u => by (repeat' split) <;> simp) _ _).trans (by simp); rfl]
@[simp] theorem State.chans_writeFence (n v : Nat) : (s.writeFence n v).chans = s.chans := by simp only [State.writeFence]; (split) <;> [exact (State.forN_keeps (fun u => u.chans) (fun i u => by (repeat' split) <;> simp) _ _).trans (by simp); rfl]
@[simp] theorem State.ldg_writeFence (n v : Nat) : (s.writeFence n v).ldg = s.ldg := by simp only [State.writeFence]; (split) <;> [exact (State.forN_keeps (fun u => u.ldg) (fun i u => by (repeat' split) <;> simp) _ _).trans (by simp); rfl]
@[simp] theorem State.aud_writeFence (n v : Nat) : (s.writeFence n v).aud = s.aud := by simp only [State.writeFence]; (split) <;> [exact (State.forN_keeps (fun u => u.aud) (fun i u => by (repeat' split) <;> simp) _ _).trans (by simp); rfl]
@[simp] theorem State.src_writeFence (n v : Nat) : (s.writeFence n v).src = s.src := by simp only [State.writeFence]; (split) <;> [exact (State.forN_keeps (fun u => u.src) (fun i u => by (repeat' split) <;> simp) _ _).trans (by simp); rfl]
@[simp] theorem State.est_writeFence (n v : Nat) : (s.writeFence n v).est = s.est := by simp only [State.writeFence]; (split) <;> [exact (State.forN_keeps (fun u => u.est) (fun i u => by (repeat' split) <;> simp) _ _).trans (by simp); rfl]
@[simp] theorem State.dst_writeFence (n v : Nat) : (s.writeFence n v).dst = s.dst := by simp only [State.writeFence]; (split) <;> [exact (State.forN_keeps (fun u => u.dst) (fun i u => by (repeat' split) <;> simp) _ _).trans (by simp); rfl]
@[simp] theorem State.gens_writeFence (n v : Nat) : (s.writeFence n v).gens = s.gens := by simp only [State.writeFence]; (split) <;> [exact (State.forN_keeps (fun u => u.gens) (fun i u => by (repeat' split) <;> simp) _ _).trans (by simp); rfl]
@[simp] theorem State.i2s_writeFence (n v : Nat) : (s.writeFence n v).i2s = s.i2s := by simp only [State.writeFence]; (split) <;> [exact (State.forN_keeps (fun u => u.i2s) (fun i u => by (repeat' split) <;> simp) _ _).trans (by simp); rfl]
@[simp] theorem State.mvh_writeFence (n v : Nat) : (s.writeFence n v).mvh = s.mvh := by simp only [State.writeFence]; (split) <;> [exact (State.forN_keeps (fun u => u.mvh) (fun i u => by (repeat' split) <;> simp) _ _).trans (by simp); rfl]
@[simp] theorem State.twn_writeFence (n v : Nat) : (s.writeFence n v).twn = s.twn := by simp only [State.writeFence]; (split) <;> [exact (State.forN_keeps (fun u => u.twn) (fun i u => by (repeat' split) <;> simp) _ _).trans (by simp); rfl]
@[simp] theorem State.cls_writeFence (n v : Nat) : (s.writeFence n v).cls = s.cls := by simp only [State.writeFence]; (split) <;> [exact (State.forN_keeps (fun u => u.cls) (fun i u => by (repeat' split) <;> simp) _ _).trans (by simp); rfl]
@[simp] theorem State.rx_writeFence (n v : Nat) : (s.writeFence n v).rx = s.rx := by simp only [State.writeFence]; (split) <;> [exact (State.forN_keeps (fun u => u.rx) (fun i u => by (repeat' split) <;> simp) _ _).trans (by simp); rfl]
@[simp] theorem State.tx_writeFence (n v : Nat) : (s.writeFence n v).tx = s.tx := by simp only [State.writeFence]; (split) <;> [exact (State.forN_keeps (fun u => u.tx) (fun i u => by (repeat' split) <;> simp) _ _).trans (by simp); rfl]
@[simp] theorem State.mac_writeFence (n v : Nat) : (s.writeFence n v).mac = s.mac := by simp only [State.writeFence]; (split) <;> [exact (State.forN_keeps (fun u => u.mac) (fun i u => by (repeat' split) <;> simp) _ _).trans (by simp); rfl]
@[simp] theorem State.ctn_writeFence (n v : Nat) : (s.writeFence n v).ctn = s.ctn := by simp only [State.writeFence]; (split) <;> [exact (State.forN_keeps (fun u => u.ctn) (fun i u => by (repeat' split) <;> simp) _ _).trans (by simp); rfl]
@[simp] theorem State.fab_writeFence (n v : Nat) : (s.writeFence n v).fab = s.fab := by simp only [State.writeFence]; (split) <;> [exact (State.forN_keeps (fun u => u.fab) (fun i u => by (repeat' split) <;> simp) _ _).trans (by simp); rfl]
@[simp] theorem State.chn_writeFence (n v : Nat) : (s.writeFence n v).chn = s.chn := by simp only [State.writeFence]; (split) <;> [exact (State.forN_keeps (fun u => u.chn) (fun i u => by (repeat' split) <;> simp) _ _).trans (by simp); rfl]
@[simp] theorem State.mail_writeFence (n v : Nat) : (s.writeFence n v).mail = s.mail := by simp only [State.writeFence]; (split) <;> [exact (State.forN_keeps (fun u => u.mail) (fun i u => by (repeat' split) <;> simp) _ _).trans (by simp); rfl]
@[simp] theorem State.nor_writeFence (n v : Nat) : (s.writeFence n v).nor = s.nor := by simp only [State.writeFence]; (split) <;> [exact (State.forN_keeps (fun u => u.nor) (fun i u => by (repeat' split) <;> simp) _ _).trans (by simp); rfl]
@[simp] theorem State.otp_writeFence (n v : Nat) : (s.writeFence n v).otp = s.otp := by simp only [State.writeFence]; (split) <;> [exact (State.forN_keeps (fun u => u.otp) (fun i u => by (repeat' split) <;> simp) _ _).trans (by simp); rfl]
@[simp] theorem State.mgt_writeFence (n v : Nat) : (s.writeFence n v).mgt = s.mgt := by simp only [State.writeFence]; (split) <;> [exact (State.forN_keeps (fun u => u.mgt) (fun i u => by (repeat' split) <;> simp) _ _).trans (by simp); rfl]
@[simp] theorem State.sens_writeFence (n v : Nat) : (s.writeFence n v).sens = s.sens := by simp only [State.writeFence]; (split) <;> [exact (State.forN_keeps (fun u => u.sens) (fun i u => by (repeat' split) <;> simp) _ _).trans (by simp); rfl]
@[simp] theorem State.cbs_writeFence (n v : Nat) : (s.writeFence n v).cbs = s.cbs := by simp only [State.writeFence]; (split) <;> [exact (State.forN_keeps (fun u => u.cbs) (fun i u => by (repeat' split) <;> simp) _ _).trans (by simp); rfl]
@[simp] theorem State.jtag_writeFence (n v : Nat) : (s.writeFence n v).jtag = s.jtag := by simp only [State.writeFence]; (split) <;> [exact (State.forN_keeps (fun u => u.jtag) (fun i u => by (repeat' split) <;> simp) _ _).trans (by simp); rfl]
@[simp] theorem State.pin_writeFence (n v : Nat) : (s.writeFence n v).pin = s.pin := by simp only [State.writeFence]; (split) <;> [exact (State.forN_keeps (fun u => u.pin) (fun i u => by (repeat' split) <;> simp) _ _).trans (by simp); rfl]
@[simp] theorem State.cellar_writeFence (n v : Nat) : (s.writeFence n v).cellar = s.cellar := by simp only [State.writeFence]; (split) <;> [exact (State.forN_keeps (fun u => u.cellar) (fun i u => by (repeat' split) <;> simp) _ _).trans (by simp); rfl]

@[simp] theorem State.pending_rckEvent (r m : Nat) : (s.rckEvent r m).pending = s.pending := by simp only [State.rckEvent]; (repeat' split) <;> simp
@[simp] theorem State.now_rckEvent (r m : Nat) : (s.rckEvent r m).now = s.now := by simp only [State.rckEvent]; (repeat' split) <;> simp
@[simp] theorem State.lastRead_rckEvent (r m : Nat) : (s.rckEvent r m).lastRead = s.lastRead := by simp only [State.rckEvent]; (repeat' split) <;> simp
@[simp] theorem State.free_rckEvent (r m : Nat) : (s.rckEvent r m).free = s.free := by simp only [State.rckEvent]; (repeat' split) <;> simp
@[simp] theorem State.out_rckEvent (r m : Nat) : (s.rckEvent r m).out = s.out := by simp only [State.rckEvent]; (repeat' split) <;> simp
@[simp] theorem State.log_rckEvent (r m : Nat) : (s.rckEvent r m).log = s.log := by simp only [State.rckEvent]; (repeat' split) <;> simp
@[simp] theorem State.top_rckEvent (r m : Nat) : (s.rckEvent r m).top = s.top := by simp only [State.rckEvent]; (repeat' split) <;> simp
@[simp] theorem State.trl_rckEvent (r m : Nat) : (s.rckEvent r m).trl = s.trl := by simp only [State.rckEvent]; (repeat' split) <;> simp
@[simp] theorem State.cand_rckEvent (r m : Nat) : (s.rckEvent r m).cand = s.cand := by simp only [State.rckEvent]; (repeat' split) <;> simp
@[simp] theorem State.dpll_rckEvent (r m : Nat) : (s.rckEvent r m).dpll = s.dpll := by simp only [State.rckEvent]; (repeat' split) <;> simp
@[simp] theorem State.plan_rckEvent (r m : Nat) : (s.rckEvent r m).plan = s.plan := by simp only [State.rckEvent]; (repeat' split) <;> simp
@[simp] theorem State.syn_rckEvent (r m : Nat) : (s.rckEvent r m).syn = s.syn := by simp only [State.rckEvent]; (repeat' split) <;> simp
@[simp] theorem State.ptp_rckEvent (r m : Nat) : (s.rckEvent r m).ptp = s.ptp := by simp only [State.rckEvent]; (repeat' split) <;> simp
@[simp] theorem State.pci_rckEvent (r m : Nat) : (s.rckEvent r m).pci = s.pci := by simp only [State.rckEvent]; (repeat' split) <;> simp
@[simp] theorem State.ins_rckEvent (r m : Nat) : (s.rckEvent r m).ins = s.ins := by simp only [State.rckEvent]; (repeat' split) <;> simp
@[simp] theorem State.outs_rckEvent (r m : Nat) : (s.rckEvent r m).outs = s.outs := by simp only [State.rckEvent]; (repeat' split) <;> simp
@[simp] theorem State.adm_rckEvent (r m : Nat) : (s.rckEvent r m).adm = s.adm := by simp only [State.rckEvent]; (repeat' split) <;> simp
@[simp] theorem State.chans_rckEvent (r m : Nat) : (s.rckEvent r m).chans = s.chans := by simp only [State.rckEvent]; (repeat' split) <;> simp
@[simp] theorem State.ldg_rckEvent (r m : Nat) : (s.rckEvent r m).ldg = s.ldg := by simp only [State.rckEvent]; (repeat' split) <;> simp
@[simp] theorem State.aud_rckEvent (r m : Nat) : (s.rckEvent r m).aud = s.aud := by simp only [State.rckEvent]; (repeat' split) <;> simp
@[simp] theorem State.src_rckEvent (r m : Nat) : (s.rckEvent r m).src = s.src := by simp only [State.rckEvent]; (repeat' split) <;> simp
@[simp] theorem State.est_rckEvent (r m : Nat) : (s.rckEvent r m).est = s.est := by simp only [State.rckEvent]; (repeat' split) <;> simp
@[simp] theorem State.dst_rckEvent (r m : Nat) : (s.rckEvent r m).dst = s.dst := by simp only [State.rckEvent]; (repeat' split) <;> simp
@[simp] theorem State.gens_rckEvent (r m : Nat) : (s.rckEvent r m).gens = s.gens := by simp only [State.rckEvent]; (repeat' split) <;> simp
@[simp] theorem State.i2s_rckEvent (r m : Nat) : (s.rckEvent r m).i2s = s.i2s := by simp only [State.rckEvent]; (repeat' split) <;> simp
@[simp] theorem State.mvh_rckEvent (r m : Nat) : (s.rckEvent r m).mvh = s.mvh := by simp only [State.rckEvent]; (repeat' split) <;> simp
@[simp] theorem State.twn_rckEvent (r m : Nat) : (s.rckEvent r m).twn = s.twn := by simp only [State.rckEvent]; (repeat' split) <;> simp
@[simp] theorem State.cls_rckEvent (r m : Nat) : (s.rckEvent r m).cls = s.cls := by simp only [State.rckEvent]; (repeat' split) <;> simp
@[simp] theorem State.rx_rckEvent (r m : Nat) : (s.rckEvent r m).rx = s.rx := by simp only [State.rckEvent]; (repeat' split) <;> simp
@[simp] theorem State.tx_rckEvent (r m : Nat) : (s.rckEvent r m).tx = s.tx := by simp only [State.rckEvent]; (repeat' split) <;> simp
@[simp] theorem State.mac_rckEvent (r m : Nat) : (s.rckEvent r m).mac = s.mac := by simp only [State.rckEvent]; (repeat' split) <;> simp
@[simp] theorem State.ctn_rckEvent (r m : Nat) : (s.rckEvent r m).ctn = s.ctn := by simp only [State.rckEvent]; (repeat' split) <;> simp
@[simp] theorem State.fab_rckEvent (r m : Nat) : (s.rckEvent r m).fab = s.fab := by simp only [State.rckEvent]; (repeat' split) <;> simp
@[simp] theorem State.chn_rckEvent (r m : Nat) : (s.rckEvent r m).chn = s.chn := by simp only [State.rckEvent]; (repeat' split) <;> simp
@[simp] theorem State.mail_rckEvent (r m : Nat) : (s.rckEvent r m).mail = s.mail := by simp only [State.rckEvent]; (repeat' split) <;> simp
@[simp] theorem State.nor_rckEvent (r m : Nat) : (s.rckEvent r m).nor = s.nor := by simp only [State.rckEvent]; (repeat' split) <;> simp
@[simp] theorem State.otp_rckEvent (r m : Nat) : (s.rckEvent r m).otp = s.otp := by simp only [State.rckEvent]; (repeat' split) <;> simp
@[simp] theorem State.mgt_rckEvent (r m : Nat) : (s.rckEvent r m).mgt = s.mgt := by simp only [State.rckEvent]; (repeat' split) <;> simp
@[simp] theorem State.sens_rckEvent (r m : Nat) : (s.rckEvent r m).sens = s.sens := by simp only [State.rckEvent]; (repeat' split) <;> simp
@[simp] theorem State.cbs_rckEvent (r m : Nat) : (s.rckEvent r m).cbs = s.cbs := by simp only [State.rckEvent]; (repeat' split) <;> simp
@[simp] theorem State.jtag_rckEvent (r m : Nat) : (s.rckEvent r m).jtag = s.jtag := by simp only [State.rckEvent]; (repeat' split) <;> simp
@[simp] theorem State.pin_rckEvent (r m : Nat) : (s.rckEvent r m).pin = s.pin := by simp only [State.rckEvent]; (repeat' split) <;> simp
@[simp] theorem State.cellar_rckEvent (r m : Nat) : (s.rckEvent r m).cellar = s.cellar := by simp only [State.rckEvent]; (repeat' split) <;> simp

@[simp] theorem State.pending_showRck (r : Nat) : (s.showRck r).pending = s.pending := by simp [State.showRck]
@[simp] theorem State.now_showRck (r : Nat) : (s.showRck r).now = s.now := by simp [State.showRck]
@[simp] theorem State.lastRead_showRck (r : Nat) : (s.showRck r).lastRead = s.lastRead := by simp [State.showRck]
@[simp] theorem State.free_showRck (r : Nat) : (s.showRck r).free = s.free := by simp [State.showRck]
@[simp] theorem State.out_showRck (r : Nat) : (s.showRck r).out = s.out := by simp [State.showRck]
@[simp] theorem State.log_showRck (r : Nat) : (s.showRck r).log = s.log := by simp [State.showRck]
@[simp] theorem State.top_showRck (r : Nat) : (s.showRck r).top = s.top := by simp [State.showRck]
@[simp] theorem State.trl_showRck (r : Nat) : (s.showRck r).trl = s.trl := by simp [State.showRck]
@[simp] theorem State.cand_showRck (r : Nat) : (s.showRck r).cand = s.cand := by simp [State.showRck]
@[simp] theorem State.dpll_showRck (r : Nat) : (s.showRck r).dpll = s.dpll := by simp [State.showRck]
@[simp] theorem State.plan_showRck (r : Nat) : (s.showRck r).plan = s.plan := by simp [State.showRck]
@[simp] theorem State.syn_showRck (r : Nat) : (s.showRck r).syn = s.syn := by simp [State.showRck]
@[simp] theorem State.ptp_showRck (r : Nat) : (s.showRck r).ptp = s.ptp := by simp [State.showRck]
@[simp] theorem State.rck_showRck (r : Nat) : (s.showRck r).rck = s.rck := by simp [State.showRck]
@[simp] theorem State.pci_showRck (r : Nat) : (s.showRck r).pci = s.pci := by simp [State.showRck]
@[simp] theorem State.ins_showRck (r : Nat) : (s.showRck r).ins = s.ins := by simp [State.showRck]
@[simp] theorem State.outs_showRck (r : Nat) : (s.showRck r).outs = s.outs := by simp [State.showRck]
@[simp] theorem State.adm_showRck (r : Nat) : (s.showRck r).adm = s.adm := by simp [State.showRck]
@[simp] theorem State.chans_showRck (r : Nat) : (s.showRck r).chans = s.chans := by simp [State.showRck]
@[simp] theorem State.ldg_showRck (r : Nat) : (s.showRck r).ldg = s.ldg := by simp [State.showRck]
@[simp] theorem State.aud_showRck (r : Nat) : (s.showRck r).aud = s.aud := by simp [State.showRck]
@[simp] theorem State.src_showRck (r : Nat) : (s.showRck r).src = s.src := by simp [State.showRck]
@[simp] theorem State.est_showRck (r : Nat) : (s.showRck r).est = s.est := by simp [State.showRck]
@[simp] theorem State.dst_showRck (r : Nat) : (s.showRck r).dst = s.dst := by simp [State.showRck]
@[simp] theorem State.gens_showRck (r : Nat) : (s.showRck r).gens = s.gens := by simp [State.showRck]
@[simp] theorem State.i2s_showRck (r : Nat) : (s.showRck r).i2s = s.i2s := by simp [State.showRck]
@[simp] theorem State.mvh_showRck (r : Nat) : (s.showRck r).mvh = s.mvh := by simp [State.showRck]
@[simp] theorem State.twn_showRck (r : Nat) : (s.showRck r).twn = s.twn := by simp [State.showRck]
@[simp] theorem State.cls_showRck (r : Nat) : (s.showRck r).cls = s.cls := by simp [State.showRck]
@[simp] theorem State.rx_showRck (r : Nat) : (s.showRck r).rx = s.rx := by simp [State.showRck]
@[simp] theorem State.tx_showRck (r : Nat) : (s.showRck r).tx = s.tx := by simp [State.showRck]
@[simp] theorem State.mac_showRck (r : Nat) : (s.showRck r).mac = s.mac := by simp [State.showRck]
@[simp] theorem State.ctn_showRck (r : Nat) : (s.showRck r).ctn = s.ctn := by simp [State.showRck]
@[simp] theorem State.fab_showRck (r : Nat) : (s.showRck r).fab = s.fab := by simp [State.showRck]
@[simp] theorem State.chn_showRck (r : Nat) : (s.showRck r).chn = s.chn := by simp [State.showRck]
@[simp] theorem State.mail_showRck (r : Nat) : (s.showRck r).mail = s.mail := by simp [State.showRck]
@[simp] theorem State.nor_showRck (r : Nat) : (s.showRck r).nor = s.nor := by simp [State.showRck]
@[simp] theorem State.otp_showRck (r : Nat) : (s.showRck r).otp = s.otp := by simp [State.showRck]
@[simp] theorem State.mgt_showRck (r : Nat) : (s.showRck r).mgt = s.mgt := by simp [State.showRck]
@[simp] theorem State.sens_showRck (r : Nat) : (s.showRck r).sens = s.sens := by simp [State.showRck]
@[simp] theorem State.cbs_showRck (r : Nat) : (s.showRck r).cbs = s.cbs := by simp [State.showRck]
@[simp] theorem State.jtag_showRck (r : Nat) : (s.showRck r).jtag = s.jtag := by simp [State.showRck]
@[simp] theorem State.pin_showRck (r : Nat) : (s.showRck r).pin = s.pin := by simp [State.showRck]
@[simp] theorem State.cellar_showRck (r : Nat) : (s.showRck r).cellar = s.cellar := by simp [State.showRck]

@[simp] theorem State.pending_setGreg (r n : Nat) (v : Word) : (s.setGreg r n v).pending = s.pending := (rfl)
@[simp] theorem State.now_setGreg (r n : Nat) (v : Word) : (s.setGreg r n v).now = s.now := (rfl)
@[simp] theorem State.lastRead_setGreg (r n : Nat) (v : Word) : (s.setGreg r n v).lastRead = s.lastRead := (rfl)
@[simp] theorem State.free_setGreg (r n : Nat) (v : Word) : (s.setGreg r n v).free = s.free := (rfl)
@[simp] theorem State.out_setGreg (r n : Nat) (v : Word) : (s.setGreg r n v).out = s.out := (rfl)
@[simp] theorem State.log_setGreg (r n : Nat) (v : Word) : (s.setGreg r n v).log = s.log := (rfl)
@[simp] theorem State.top_setGreg (r n : Nat) (v : Word) : (s.setGreg r n v).top = s.top := (rfl)
@[simp] theorem State.trl_setGreg (r n : Nat) (v : Word) : (s.setGreg r n v).trl = s.trl := (rfl)
@[simp] theorem State.cand_setGreg (r n : Nat) (v : Word) : (s.setGreg r n v).cand = s.cand := (rfl)
@[simp] theorem State.dpll_setGreg (r n : Nat) (v : Word) : (s.setGreg r n v).dpll = s.dpll := (rfl)
@[simp] theorem State.plan_setGreg (r n : Nat) (v : Word) : (s.setGreg r n v).plan = s.plan := (rfl)
@[simp] theorem State.syn_setGreg (r n : Nat) (v : Word) : (s.setGreg r n v).syn = s.syn := (rfl)
@[simp] theorem State.ptp_setGreg (r n : Nat) (v : Word) : (s.setGreg r n v).ptp = s.ptp := (rfl)
@[simp] theorem State.rck_setGreg (r n : Nat) (v : Word) : (s.setGreg r n v).rck = s.rck := (rfl)
@[simp] theorem State.pci_setGreg (r n : Nat) (v : Word) : (s.setGreg r n v).pci = s.pci := (rfl)
@[simp] theorem State.ins_setGreg (r n : Nat) (v : Word) : (s.setGreg r n v).ins = s.ins := (rfl)
@[simp] theorem State.outs_setGreg (r n : Nat) (v : Word) : (s.setGreg r n v).outs = s.outs := (rfl)
@[simp] theorem State.adm_setGreg (r n : Nat) (v : Word) : (s.setGreg r n v).adm = s.adm := (rfl)
@[simp] theorem State.chans_setGreg (r n : Nat) (v : Word) : (s.setGreg r n v).chans = s.chans := (rfl)
@[simp] theorem State.ldg_setGreg (r n : Nat) (v : Word) : (s.setGreg r n v).ldg = s.ldg := (rfl)
@[simp] theorem State.aud_setGreg (r n : Nat) (v : Word) : (s.setGreg r n v).aud = s.aud := (rfl)
@[simp] theorem State.src_setGreg (r n : Nat) (v : Word) : (s.setGreg r n v).src = s.src := (rfl)
@[simp] theorem State.est_setGreg (r n : Nat) (v : Word) : (s.setGreg r n v).est = s.est := (rfl)
@[simp] theorem State.dst_setGreg (r n : Nat) (v : Word) : (s.setGreg r n v).dst = s.dst := (rfl)
@[simp] theorem State.gens_setGreg (r n : Nat) (v : Word) : (s.setGreg r n v).gens = s.gens := (rfl)
@[simp] theorem State.i2s_setGreg (r n : Nat) (v : Word) : (s.setGreg r n v).i2s = s.i2s := (rfl)
@[simp] theorem State.mvh_setGreg (r n : Nat) (v : Word) : (s.setGreg r n v).mvh = s.mvh := (rfl)
@[simp] theorem State.twn_setGreg (r n : Nat) (v : Word) : (s.setGreg r n v).twn = s.twn := (rfl)
@[simp] theorem State.cls_setGreg (r n : Nat) (v : Word) : (s.setGreg r n v).cls = s.cls := (rfl)
@[simp] theorem State.rx_setGreg (r n : Nat) (v : Word) : (s.setGreg r n v).rx = s.rx := (rfl)
@[simp] theorem State.tx_setGreg (r n : Nat) (v : Word) : (s.setGreg r n v).tx = s.tx := (rfl)
@[simp] theorem State.mac_setGreg (r n : Nat) (v : Word) : (s.setGreg r n v).mac = s.mac := (rfl)
@[simp] theorem State.ctn_setGreg (r n : Nat) (v : Word) : (s.setGreg r n v).ctn = s.ctn := (rfl)
@[simp] theorem State.fab_setGreg (r n : Nat) (v : Word) : (s.setGreg r n v).fab = s.fab := (rfl)
@[simp] theorem State.chn_setGreg (r n : Nat) (v : Word) : (s.setGreg r n v).chn = s.chn := (rfl)
@[simp] theorem State.mail_setGreg (r n : Nat) (v : Word) : (s.setGreg r n v).mail = s.mail := (rfl)
@[simp] theorem State.nor_setGreg (r n : Nat) (v : Word) : (s.setGreg r n v).nor = s.nor := (rfl)
@[simp] theorem State.otp_setGreg (r n : Nat) (v : Word) : (s.setGreg r n v).otp = s.otp := (rfl)
@[simp] theorem State.mgt_setGreg (r n : Nat) (v : Word) : (s.setGreg r n v).mgt = s.mgt := (rfl)
@[simp] theorem State.sens_setGreg (r n : Nat) (v : Word) : (s.setGreg r n v).sens = s.sens := (rfl)
@[simp] theorem State.cbs_setGreg (r n : Nat) (v : Word) : (s.setGreg r n v).cbs = s.cbs := (rfl)
@[simp] theorem State.jtag_setGreg (r n : Nat) (v : Word) : (s.setGreg r n v).jtag = s.jtag := (rfl)
@[simp] theorem State.pin_setGreg (r n : Nat) (v : Word) : (s.setGreg r n v).pin = s.pin := (rfl)
@[simp] theorem State.cellar_setGreg (r n : Nat) (v : Word) : (s.setGreg r n v).cellar = s.cellar := (rfl)

@[simp] theorem State.pending_setFlags (r : Nat) (f : RckFlags) : (s.setFlags r f).pending = s.pending := (rfl)
@[simp] theorem State.regs_setFlags (r : Nat) (f : RckFlags) : (s.setFlags r f).regs = s.regs := (rfl)
@[simp] theorem State.now_setFlags (r : Nat) (f : RckFlags) : (s.setFlags r f).now = s.now := (rfl)
@[simp] theorem State.lastRead_setFlags (r : Nat) (f : RckFlags) : (s.setFlags r f).lastRead = s.lastRead := (rfl)
@[simp] theorem State.free_setFlags (r : Nat) (f : RckFlags) : (s.setFlags r f).free = s.free := (rfl)
@[simp] theorem State.out_setFlags (r : Nat) (f : RckFlags) : (s.setFlags r f).out = s.out := (rfl)
@[simp] theorem State.log_setFlags (r : Nat) (f : RckFlags) : (s.setFlags r f).log = s.log := (rfl)
@[simp] theorem State.top_setFlags (r : Nat) (f : RckFlags) : (s.setFlags r f).top = s.top := (rfl)
@[simp] theorem State.trl_setFlags (r : Nat) (f : RckFlags) : (s.setFlags r f).trl = s.trl := (rfl)
@[simp] theorem State.cand_setFlags (r : Nat) (f : RckFlags) : (s.setFlags r f).cand = s.cand := (rfl)
@[simp] theorem State.dpll_setFlags (r : Nat) (f : RckFlags) : (s.setFlags r f).dpll = s.dpll := (rfl)
@[simp] theorem State.plan_setFlags (r : Nat) (f : RckFlags) : (s.setFlags r f).plan = s.plan := (rfl)
@[simp] theorem State.syn_setFlags (r : Nat) (f : RckFlags) : (s.setFlags r f).syn = s.syn := (rfl)
@[simp] theorem State.ptp_setFlags (r : Nat) (f : RckFlags) : (s.setFlags r f).ptp = s.ptp := (rfl)
@[simp] theorem State.pci_setFlags (r : Nat) (f : RckFlags) : (s.setFlags r f).pci = s.pci := (rfl)
@[simp] theorem State.ins_setFlags (r : Nat) (f : RckFlags) : (s.setFlags r f).ins = s.ins := (rfl)
@[simp] theorem State.outs_setFlags (r : Nat) (f : RckFlags) : (s.setFlags r f).outs = s.outs := (rfl)
@[simp] theorem State.adm_setFlags (r : Nat) (f : RckFlags) : (s.setFlags r f).adm = s.adm := (rfl)
@[simp] theorem State.chans_setFlags (r : Nat) (f : RckFlags) : (s.setFlags r f).chans = s.chans := (rfl)
@[simp] theorem State.ldg_setFlags (r : Nat) (f : RckFlags) : (s.setFlags r f).ldg = s.ldg := (rfl)
@[simp] theorem State.aud_setFlags (r : Nat) (f : RckFlags) : (s.setFlags r f).aud = s.aud := (rfl)
@[simp] theorem State.src_setFlags (r : Nat) (f : RckFlags) : (s.setFlags r f).src = s.src := (rfl)
@[simp] theorem State.est_setFlags (r : Nat) (f : RckFlags) : (s.setFlags r f).est = s.est := (rfl)
@[simp] theorem State.dst_setFlags (r : Nat) (f : RckFlags) : (s.setFlags r f).dst = s.dst := (rfl)
@[simp] theorem State.gens_setFlags (r : Nat) (f : RckFlags) : (s.setFlags r f).gens = s.gens := (rfl)
@[simp] theorem State.i2s_setFlags (r : Nat) (f : RckFlags) : (s.setFlags r f).i2s = s.i2s := (rfl)
@[simp] theorem State.mvh_setFlags (r : Nat) (f : RckFlags) : (s.setFlags r f).mvh = s.mvh := (rfl)
@[simp] theorem State.twn_setFlags (r : Nat) (f : RckFlags) : (s.setFlags r f).twn = s.twn := (rfl)
@[simp] theorem State.cls_setFlags (r : Nat) (f : RckFlags) : (s.setFlags r f).cls = s.cls := (rfl)
@[simp] theorem State.rx_setFlags (r : Nat) (f : RckFlags) : (s.setFlags r f).rx = s.rx := (rfl)
@[simp] theorem State.tx_setFlags (r : Nat) (f : RckFlags) : (s.setFlags r f).tx = s.tx := (rfl)
@[simp] theorem State.mac_setFlags (r : Nat) (f : RckFlags) : (s.setFlags r f).mac = s.mac := (rfl)
@[simp] theorem State.ctn_setFlags (r : Nat) (f : RckFlags) : (s.setFlags r f).ctn = s.ctn := (rfl)
@[simp] theorem State.fab_setFlags (r : Nat) (f : RckFlags) : (s.setFlags r f).fab = s.fab := (rfl)
@[simp] theorem State.chn_setFlags (r : Nat) (f : RckFlags) : (s.setFlags r f).chn = s.chn := (rfl)
@[simp] theorem State.mail_setFlags (r : Nat) (f : RckFlags) : (s.setFlags r f).mail = s.mail := (rfl)
@[simp] theorem State.nor_setFlags (r : Nat) (f : RckFlags) : (s.setFlags r f).nor = s.nor := (rfl)
@[simp] theorem State.otp_setFlags (r : Nat) (f : RckFlags) : (s.setFlags r f).otp = s.otp := (rfl)
@[simp] theorem State.mgt_setFlags (r : Nat) (f : RckFlags) : (s.setFlags r f).mgt = s.mgt := (rfl)
@[simp] theorem State.sens_setFlags (r : Nat) (f : RckFlags) : (s.setFlags r f).sens = s.sens := (rfl)
@[simp] theorem State.cbs_setFlags (r : Nat) (f : RckFlags) : (s.setFlags r f).cbs = s.cbs := (rfl)
@[simp] theorem State.jtag_setFlags (r : Nat) (f : RckFlags) : (s.setFlags r f).jtag = s.jtag := (rfl)
@[simp] theorem State.pin_setFlags (r : Nat) (f : RckFlags) : (s.setFlags r f).pin = s.pin := (rfl)
@[simp] theorem State.cellar_setFlags (r : Nat) (f : RckFlags) : (s.setFlags r f).cellar = s.cellar := (rfl)

@[simp] theorem State.pending_advance (r n : Nat) : (s.advance r n).pending = s.pending := (rfl)
@[simp] theorem State.regs_advance (r n : Nat) : (s.advance r n).regs = s.regs := (rfl)
@[simp] theorem State.now_advance (r n : Nat) : (s.advance r n).now = s.now := (rfl)
@[simp] theorem State.lastRead_advance (r n : Nat) : (s.advance r n).lastRead = s.lastRead := (rfl)
@[simp] theorem State.free_advance (r n : Nat) : (s.advance r n).free = s.free := (rfl)
@[simp] theorem State.out_advance (r n : Nat) : (s.advance r n).out = s.out := (rfl)
@[simp] theorem State.log_advance (r n : Nat) : (s.advance r n).log = s.log := (rfl)
@[simp] theorem State.top_advance (r n : Nat) : (s.advance r n).top = s.top := (rfl)
@[simp] theorem State.trl_advance (r n : Nat) : (s.advance r n).trl = s.trl := (rfl)
@[simp] theorem State.cand_advance (r n : Nat) : (s.advance r n).cand = s.cand := (rfl)
@[simp] theorem State.dpll_advance (r n : Nat) : (s.advance r n).dpll = s.dpll := (rfl)
@[simp] theorem State.plan_advance (r n : Nat) : (s.advance r n).plan = s.plan := (rfl)
@[simp] theorem State.syn_advance (r n : Nat) : (s.advance r n).syn = s.syn := (rfl)
@[simp] theorem State.ptp_advance (r n : Nat) : (s.advance r n).ptp = s.ptp := (rfl)
@[simp] theorem State.pci_advance (r n : Nat) : (s.advance r n).pci = s.pci := (rfl)
@[simp] theorem State.ins_advance (r n : Nat) : (s.advance r n).ins = s.ins := (rfl)
@[simp] theorem State.outs_advance (r n : Nat) : (s.advance r n).outs = s.outs := (rfl)
@[simp] theorem State.adm_advance (r n : Nat) : (s.advance r n).adm = s.adm := (rfl)
@[simp] theorem State.chans_advance (r n : Nat) : (s.advance r n).chans = s.chans := (rfl)
@[simp] theorem State.ldg_advance (r n : Nat) : (s.advance r n).ldg = s.ldg := (rfl)
@[simp] theorem State.aud_advance (r n : Nat) : (s.advance r n).aud = s.aud := (rfl)
@[simp] theorem State.src_advance (r n : Nat) : (s.advance r n).src = s.src := (rfl)
@[simp] theorem State.est_advance (r n : Nat) : (s.advance r n).est = s.est := (rfl)
@[simp] theorem State.dst_advance (r n : Nat) : (s.advance r n).dst = s.dst := (rfl)
@[simp] theorem State.gens_advance (r n : Nat) : (s.advance r n).gens = s.gens := (rfl)
@[simp] theorem State.i2s_advance (r n : Nat) : (s.advance r n).i2s = s.i2s := (rfl)
@[simp] theorem State.mvh_advance (r n : Nat) : (s.advance r n).mvh = s.mvh := (rfl)
@[simp] theorem State.twn_advance (r n : Nat) : (s.advance r n).twn = s.twn := (rfl)
@[simp] theorem State.cls_advance (r n : Nat) : (s.advance r n).cls = s.cls := (rfl)
@[simp] theorem State.rx_advance (r n : Nat) : (s.advance r n).rx = s.rx := (rfl)
@[simp] theorem State.tx_advance (r n : Nat) : (s.advance r n).tx = s.tx := (rfl)
@[simp] theorem State.mac_advance (r n : Nat) : (s.advance r n).mac = s.mac := (rfl)
@[simp] theorem State.ctn_advance (r n : Nat) : (s.advance r n).ctn = s.ctn := (rfl)
@[simp] theorem State.fab_advance (r n : Nat) : (s.advance r n).fab = s.fab := (rfl)
@[simp] theorem State.chn_advance (r n : Nat) : (s.advance r n).chn = s.chn := (rfl)
@[simp] theorem State.mail_advance (r n : Nat) : (s.advance r n).mail = s.mail := (rfl)
@[simp] theorem State.nor_advance (r n : Nat) : (s.advance r n).nor = s.nor := (rfl)
@[simp] theorem State.otp_advance (r n : Nat) : (s.advance r n).otp = s.otp := (rfl)
@[simp] theorem State.mgt_advance (r n : Nat) : (s.advance r n).mgt = s.mgt := (rfl)
@[simp] theorem State.sens_advance (r n : Nat) : (s.advance r n).sens = s.sens := (rfl)
@[simp] theorem State.cbs_advance (r n : Nat) : (s.advance r n).cbs = s.cbs := (rfl)
@[simp] theorem State.jtag_advance (r n : Nat) : (s.advance r n).jtag = s.jtag := (rfl)
@[simp] theorem State.pin_advance (r n : Nat) : (s.advance r n).pin = s.pin := (rfl)
@[simp] theorem State.cellar_advance (r n : Nat) : (s.advance r n).cellar = s.cellar := (rfl)

@[simp] theorem State.pending_setP (r t : Nat) : (s.setP r t).pending = s.pending := (rfl)
@[simp] theorem State.regs_setP (r t : Nat) : (s.setP r t).regs = s.regs := (rfl)
@[simp] theorem State.now_setP (r t : Nat) : (s.setP r t).now = s.now := (rfl)
@[simp] theorem State.lastRead_setP (r t : Nat) : (s.setP r t).lastRead = s.lastRead := (rfl)
@[simp] theorem State.free_setP (r t : Nat) : (s.setP r t).free = s.free := (rfl)
@[simp] theorem State.out_setP (r t : Nat) : (s.setP r t).out = s.out := (rfl)
@[simp] theorem State.log_setP (r t : Nat) : (s.setP r t).log = s.log := (rfl)
@[simp] theorem State.top_setP (r t : Nat) : (s.setP r t).top = s.top := (rfl)
@[simp] theorem State.trl_setP (r t : Nat) : (s.setP r t).trl = s.trl := (rfl)
@[simp] theorem State.cand_setP (r t : Nat) : (s.setP r t).cand = s.cand := (rfl)
@[simp] theorem State.dpll_setP (r t : Nat) : (s.setP r t).dpll = s.dpll := (rfl)
@[simp] theorem State.plan_setP (r t : Nat) : (s.setP r t).plan = s.plan := (rfl)
@[simp] theorem State.syn_setP (r t : Nat) : (s.setP r t).syn = s.syn := (rfl)
@[simp] theorem State.ptp_setP (r t : Nat) : (s.setP r t).ptp = s.ptp := (rfl)
@[simp] theorem State.pci_setP (r t : Nat) : (s.setP r t).pci = s.pci := (rfl)
@[simp] theorem State.ins_setP (r t : Nat) : (s.setP r t).ins = s.ins := (rfl)
@[simp] theorem State.outs_setP (r t : Nat) : (s.setP r t).outs = s.outs := (rfl)
@[simp] theorem State.adm_setP (r t : Nat) : (s.setP r t).adm = s.adm := (rfl)
@[simp] theorem State.chans_setP (r t : Nat) : (s.setP r t).chans = s.chans := (rfl)
@[simp] theorem State.ldg_setP (r t : Nat) : (s.setP r t).ldg = s.ldg := (rfl)
@[simp] theorem State.aud_setP (r t : Nat) : (s.setP r t).aud = s.aud := (rfl)
@[simp] theorem State.src_setP (r t : Nat) : (s.setP r t).src = s.src := (rfl)
@[simp] theorem State.est_setP (r t : Nat) : (s.setP r t).est = s.est := (rfl)
@[simp] theorem State.dst_setP (r t : Nat) : (s.setP r t).dst = s.dst := (rfl)
@[simp] theorem State.gens_setP (r t : Nat) : (s.setP r t).gens = s.gens := (rfl)
@[simp] theorem State.i2s_setP (r t : Nat) : (s.setP r t).i2s = s.i2s := (rfl)
@[simp] theorem State.mvh_setP (r t : Nat) : (s.setP r t).mvh = s.mvh := (rfl)
@[simp] theorem State.twn_setP (r t : Nat) : (s.setP r t).twn = s.twn := (rfl)
@[simp] theorem State.cls_setP (r t : Nat) : (s.setP r t).cls = s.cls := (rfl)
@[simp] theorem State.rx_setP (r t : Nat) : (s.setP r t).rx = s.rx := (rfl)
@[simp] theorem State.tx_setP (r t : Nat) : (s.setP r t).tx = s.tx := (rfl)
@[simp] theorem State.mac_setP (r t : Nat) : (s.setP r t).mac = s.mac := (rfl)
@[simp] theorem State.ctn_setP (r t : Nat) : (s.setP r t).ctn = s.ctn := (rfl)
@[simp] theorem State.fab_setP (r t : Nat) : (s.setP r t).fab = s.fab := (rfl)
@[simp] theorem State.chn_setP (r t : Nat) : (s.setP r t).chn = s.chn := (rfl)
@[simp] theorem State.mail_setP (r t : Nat) : (s.setP r t).mail = s.mail := (rfl)
@[simp] theorem State.nor_setP (r t : Nat) : (s.setP r t).nor = s.nor := (rfl)
@[simp] theorem State.otp_setP (r t : Nat) : (s.setP r t).otp = s.otp := (rfl)
@[simp] theorem State.mgt_setP (r t : Nat) : (s.setP r t).mgt = s.mgt := (rfl)
@[simp] theorem State.sens_setP (r t : Nat) : (s.setP r t).sens = s.sens := (rfl)
@[simp] theorem State.cbs_setP (r t : Nat) : (s.setP r t).cbs = s.cbs := (rfl)
@[simp] theorem State.jtag_setP (r t : Nat) : (s.setP r t).jtag = s.jtag := (rfl)
@[simp] theorem State.pin_setP (r t : Nat) : (s.setP r t).pin = s.pin := (rfl)
@[simp] theorem State.cellar_setP (r t : Nat) : (s.setP r t).cellar = s.cellar := (rfl)

@[simp] theorem State.pending_boundary (r : Nat) : (s.boundary r).pending = s.pending := by unfold State.boundary; split <;> simp
@[simp] theorem State.now_boundary (r : Nat) : (s.boundary r).now = s.now := by unfold State.boundary; split <;> simp
@[simp] theorem State.lastRead_boundary (r : Nat) : (s.boundary r).lastRead = s.lastRead := by unfold State.boundary; split <;> simp
@[simp] theorem State.free_boundary (r : Nat) : (s.boundary r).free = s.free := by unfold State.boundary; split <;> simp
@[simp] theorem State.out_boundary (r : Nat) : (s.boundary r).out = s.out := by unfold State.boundary; split <;> simp
@[simp] theorem State.log_boundary (r : Nat) : (s.boundary r).log = s.log := by unfold State.boundary; split <;> simp
@[simp] theorem State.top_boundary (r : Nat) : (s.boundary r).top = s.top := by unfold State.boundary; split <;> simp
@[simp] theorem State.trl_boundary (r : Nat) : (s.boundary r).trl = s.trl := by unfold State.boundary; split <;> simp
@[simp] theorem State.cand_boundary (r : Nat) : (s.boundary r).cand = s.cand := by unfold State.boundary; split <;> simp
@[simp] theorem State.dpll_boundary (r : Nat) : (s.boundary r).dpll = s.dpll := by unfold State.boundary; split <;> simp
@[simp] theorem State.plan_boundary (r : Nat) : (s.boundary r).plan = s.plan := by unfold State.boundary; split <;> simp
@[simp] theorem State.syn_boundary (r : Nat) : (s.boundary r).syn = s.syn := by unfold State.boundary; split <;> simp
@[simp] theorem State.ptp_boundary (r : Nat) : (s.boundary r).ptp = s.ptp := by unfold State.boundary; split <;> simp
@[simp] theorem State.pci_boundary (r : Nat) : (s.boundary r).pci = s.pci := by unfold State.boundary; split <;> simp
@[simp] theorem State.ins_boundary (r : Nat) : (s.boundary r).ins = s.ins := by unfold State.boundary; split <;> simp
@[simp] theorem State.outs_boundary (r : Nat) : (s.boundary r).outs = s.outs := by unfold State.boundary; split <;> simp
@[simp] theorem State.adm_boundary (r : Nat) : (s.boundary r).adm = s.adm := by unfold State.boundary; split <;> simp
@[simp] theorem State.chans_boundary (r : Nat) : (s.boundary r).chans = s.chans := by unfold State.boundary; split <;> simp
@[simp] theorem State.ldg_boundary (r : Nat) : (s.boundary r).ldg = s.ldg := by unfold State.boundary; split <;> simp
@[simp] theorem State.aud_boundary (r : Nat) : (s.boundary r).aud = s.aud := by unfold State.boundary; split <;> simp
@[simp] theorem State.src_boundary (r : Nat) : (s.boundary r).src = s.src := by unfold State.boundary; split <;> simp
@[simp] theorem State.est_boundary (r : Nat) : (s.boundary r).est = s.est := by unfold State.boundary; split <;> simp
@[simp] theorem State.dst_boundary (r : Nat) : (s.boundary r).dst = s.dst := by unfold State.boundary; split <;> simp
@[simp] theorem State.gens_boundary (r : Nat) : (s.boundary r).gens = s.gens := by unfold State.boundary; split <;> simp
@[simp] theorem State.i2s_boundary (r : Nat) : (s.boundary r).i2s = s.i2s := by unfold State.boundary; split <;> simp
@[simp] theorem State.mvh_boundary (r : Nat) : (s.boundary r).mvh = s.mvh := by unfold State.boundary; split <;> simp
@[simp] theorem State.twn_boundary (r : Nat) : (s.boundary r).twn = s.twn := by unfold State.boundary; split <;> simp
@[simp] theorem State.cls_boundary (r : Nat) : (s.boundary r).cls = s.cls := by unfold State.boundary; split <;> simp
@[simp] theorem State.rx_boundary (r : Nat) : (s.boundary r).rx = s.rx := by unfold State.boundary; split <;> simp
@[simp] theorem State.tx_boundary (r : Nat) : (s.boundary r).tx = s.tx := by unfold State.boundary; split <;> simp
@[simp] theorem State.mac_boundary (r : Nat) : (s.boundary r).mac = s.mac := by unfold State.boundary; split <;> simp
@[simp] theorem State.ctn_boundary (r : Nat) : (s.boundary r).ctn = s.ctn := by unfold State.boundary; split <;> simp
@[simp] theorem State.fab_boundary (r : Nat) : (s.boundary r).fab = s.fab := by unfold State.boundary; split <;> simp
@[simp] theorem State.chn_boundary (r : Nat) : (s.boundary r).chn = s.chn := by unfold State.boundary; split <;> simp
@[simp] theorem State.mail_boundary (r : Nat) : (s.boundary r).mail = s.mail := by unfold State.boundary; split <;> simp
@[simp] theorem State.nor_boundary (r : Nat) : (s.boundary r).nor = s.nor := by unfold State.boundary; split <;> simp
@[simp] theorem State.otp_boundary (r : Nat) : (s.boundary r).otp = s.otp := by unfold State.boundary; split <;> simp
@[simp] theorem State.mgt_boundary (r : Nat) : (s.boundary r).mgt = s.mgt := by unfold State.boundary; split <;> simp
@[simp] theorem State.sens_boundary (r : Nat) : (s.boundary r).sens = s.sens := by unfold State.boundary; split <;> simp
@[simp] theorem State.cbs_boundary (r : Nat) : (s.boundary r).cbs = s.cbs := by unfold State.boundary; split <;> simp
@[simp] theorem State.jtag_boundary (r : Nat) : (s.boundary r).jtag = s.jtag := by unfold State.boundary; split <;> simp
@[simp] theorem State.pin_boundary (r : Nat) : (s.boundary r).pin = s.pin := by unfold State.boundary; split <;> simp
@[simp] theorem State.cellar_boundary (r : Nat) : (s.boundary r).cellar = s.cellar := by unfold State.boundary; split <;> simp

@[simp] theorem State.pending_goto (r i : Nat) : (s.goto r i).pending = s.pending := by simp [State.goto]
@[simp] theorem State.now_goto (r i : Nat) : (s.goto r i).now = s.now := by simp [State.goto]
@[simp] theorem State.lastRead_goto (r i : Nat) : (s.goto r i).lastRead = s.lastRead := by simp [State.goto]
@[simp] theorem State.free_goto (r i : Nat) : (s.goto r i).free = s.free := by simp [State.goto]
@[simp] theorem State.out_goto (r i : Nat) : (s.goto r i).out = s.out := by simp [State.goto]
@[simp] theorem State.log_goto (r i : Nat) : (s.goto r i).log = s.log := by simp [State.goto]
@[simp] theorem State.top_goto (r i : Nat) : (s.goto r i).top = s.top := by simp [State.goto]
@[simp] theorem State.trl_goto (r i : Nat) : (s.goto r i).trl = s.trl := by simp [State.goto]
@[simp] theorem State.cand_goto (r i : Nat) : (s.goto r i).cand = s.cand := by simp [State.goto]
@[simp] theorem State.dpll_goto (r i : Nat) : (s.goto r i).dpll = s.dpll := by simp [State.goto]
@[simp] theorem State.plan_goto (r i : Nat) : (s.goto r i).plan = s.plan := by simp [State.goto]
@[simp] theorem State.syn_goto (r i : Nat) : (s.goto r i).syn = s.syn := by simp [State.goto]
@[simp] theorem State.ptp_goto (r i : Nat) : (s.goto r i).ptp = s.ptp := by simp [State.goto]
@[simp] theorem State.pci_goto (r i : Nat) : (s.goto r i).pci = s.pci := by simp [State.goto]
@[simp] theorem State.ins_goto (r i : Nat) : (s.goto r i).ins = s.ins := by simp [State.goto]
@[simp] theorem State.outs_goto (r i : Nat) : (s.goto r i).outs = s.outs := by simp [State.goto]
@[simp] theorem State.adm_goto (r i : Nat) : (s.goto r i).adm = s.adm := by simp [State.goto]
@[simp] theorem State.chans_goto (r i : Nat) : (s.goto r i).chans = s.chans := by simp [State.goto]
@[simp] theorem State.ldg_goto (r i : Nat) : (s.goto r i).ldg = s.ldg := by simp [State.goto]
@[simp] theorem State.aud_goto (r i : Nat) : (s.goto r i).aud = s.aud := by simp [State.goto]
@[simp] theorem State.src_goto (r i : Nat) : (s.goto r i).src = s.src := by simp [State.goto]
@[simp] theorem State.est_goto (r i : Nat) : (s.goto r i).est = s.est := by simp [State.goto]
@[simp] theorem State.dst_goto (r i : Nat) : (s.goto r i).dst = s.dst := by simp [State.goto]
@[simp] theorem State.gens_goto (r i : Nat) : (s.goto r i).gens = s.gens := by simp [State.goto]
@[simp] theorem State.i2s_goto (r i : Nat) : (s.goto r i).i2s = s.i2s := by simp [State.goto]
@[simp] theorem State.mvh_goto (r i : Nat) : (s.goto r i).mvh = s.mvh := by simp [State.goto]
@[simp] theorem State.twn_goto (r i : Nat) : (s.goto r i).twn = s.twn := by simp [State.goto]
@[simp] theorem State.cls_goto (r i : Nat) : (s.goto r i).cls = s.cls := by simp [State.goto]
@[simp] theorem State.rx_goto (r i : Nat) : (s.goto r i).rx = s.rx := by simp [State.goto]
@[simp] theorem State.tx_goto (r i : Nat) : (s.goto r i).tx = s.tx := by simp [State.goto]
@[simp] theorem State.mac_goto (r i : Nat) : (s.goto r i).mac = s.mac := by simp [State.goto]
@[simp] theorem State.ctn_goto (r i : Nat) : (s.goto r i).ctn = s.ctn := by simp [State.goto]
@[simp] theorem State.fab_goto (r i : Nat) : (s.goto r i).fab = s.fab := by simp [State.goto]
@[simp] theorem State.chn_goto (r i : Nat) : (s.goto r i).chn = s.chn := by simp [State.goto]
@[simp] theorem State.mail_goto (r i : Nat) : (s.goto r i).mail = s.mail := by simp [State.goto]
@[simp] theorem State.nor_goto (r i : Nat) : (s.goto r i).nor = s.nor := by simp [State.goto]
@[simp] theorem State.otp_goto (r i : Nat) : (s.goto r i).otp = s.otp := by simp [State.goto]
@[simp] theorem State.mgt_goto (r i : Nat) : (s.goto r i).mgt = s.mgt := by simp [State.goto]
@[simp] theorem State.sens_goto (r i : Nat) : (s.goto r i).sens = s.sens := by simp [State.goto]
@[simp] theorem State.cbs_goto (r i : Nat) : (s.goto r i).cbs = s.cbs := by simp [State.goto]
@[simp] theorem State.jtag_goto (r i : Nat) : (s.goto r i).jtag = s.jtag := by simp [State.goto]
@[simp] theorem State.pin_goto (r i : Nat) : (s.goto r i).pin = s.pin := by simp [State.goto]
@[simp] theorem State.cellar_goto (r i : Nat) : (s.goto r i).cellar = s.cellar := by simp [State.goto]

@[simp] theorem State.pending_retire (r n : Nat) : (s.retire r n).pending = s.pending := by simp [State.retire]
@[simp] theorem State.now_retire (r n : Nat) : (s.retire r n).now = s.now := by simp [State.retire]
@[simp] theorem State.lastRead_retire (r n : Nat) : (s.retire r n).lastRead = s.lastRead := by simp [State.retire]
@[simp] theorem State.free_retire (r n : Nat) : (s.retire r n).free = s.free := by simp [State.retire]
@[simp] theorem State.out_retire (r n : Nat) : (s.retire r n).out = s.out := by simp [State.retire]
@[simp] theorem State.log_retire (r n : Nat) : (s.retire r n).log = s.log := by simp [State.retire]
@[simp] theorem State.top_retire (r n : Nat) : (s.retire r n).top = s.top := by simp [State.retire]
@[simp] theorem State.trl_retire (r n : Nat) : (s.retire r n).trl = s.trl := by simp [State.retire]
@[simp] theorem State.cand_retire (r n : Nat) : (s.retire r n).cand = s.cand := by simp [State.retire]
@[simp] theorem State.dpll_retire (r n : Nat) : (s.retire r n).dpll = s.dpll := by simp [State.retire]
@[simp] theorem State.plan_retire (r n : Nat) : (s.retire r n).plan = s.plan := by simp [State.retire]
@[simp] theorem State.syn_retire (r n : Nat) : (s.retire r n).syn = s.syn := by simp [State.retire]
@[simp] theorem State.ptp_retire (r n : Nat) : (s.retire r n).ptp = s.ptp := by simp [State.retire]
@[simp] theorem State.pci_retire (r n : Nat) : (s.retire r n).pci = s.pci := by simp [State.retire]
@[simp] theorem State.ins_retire (r n : Nat) : (s.retire r n).ins = s.ins := by simp [State.retire]
@[simp] theorem State.outs_retire (r n : Nat) : (s.retire r n).outs = s.outs := by simp [State.retire]
@[simp] theorem State.adm_retire (r n : Nat) : (s.retire r n).adm = s.adm := by simp [State.retire]
@[simp] theorem State.chans_retire (r n : Nat) : (s.retire r n).chans = s.chans := by simp [State.retire]
@[simp] theorem State.ldg_retire (r n : Nat) : (s.retire r n).ldg = s.ldg := by simp [State.retire]
@[simp] theorem State.aud_retire (r n : Nat) : (s.retire r n).aud = s.aud := by simp [State.retire]
@[simp] theorem State.src_retire (r n : Nat) : (s.retire r n).src = s.src := by simp [State.retire]
@[simp] theorem State.est_retire (r n : Nat) : (s.retire r n).est = s.est := by simp [State.retire]
@[simp] theorem State.dst_retire (r n : Nat) : (s.retire r n).dst = s.dst := by simp [State.retire]
@[simp] theorem State.gens_retire (r n : Nat) : (s.retire r n).gens = s.gens := by simp [State.retire]
@[simp] theorem State.i2s_retire (r n : Nat) : (s.retire r n).i2s = s.i2s := by simp [State.retire]
@[simp] theorem State.mvh_retire (r n : Nat) : (s.retire r n).mvh = s.mvh := by simp [State.retire]
@[simp] theorem State.twn_retire (r n : Nat) : (s.retire r n).twn = s.twn := by simp [State.retire]
@[simp] theorem State.cls_retire (r n : Nat) : (s.retire r n).cls = s.cls := by simp [State.retire]
@[simp] theorem State.rx_retire (r n : Nat) : (s.retire r n).rx = s.rx := by simp [State.retire]
@[simp] theorem State.tx_retire (r n : Nat) : (s.retire r n).tx = s.tx := by simp [State.retire]
@[simp] theorem State.mac_retire (r n : Nat) : (s.retire r n).mac = s.mac := by simp [State.retire]
@[simp] theorem State.ctn_retire (r n : Nat) : (s.retire r n).ctn = s.ctn := by simp [State.retire]
@[simp] theorem State.fab_retire (r n : Nat) : (s.retire r n).fab = s.fab := by simp [State.retire]
@[simp] theorem State.chn_retire (r n : Nat) : (s.retire r n).chn = s.chn := by simp [State.retire]
@[simp] theorem State.mail_retire (r n : Nat) : (s.retire r n).mail = s.mail := by simp [State.retire]
@[simp] theorem State.nor_retire (r n : Nat) : (s.retire r n).nor = s.nor := by simp [State.retire]
@[simp] theorem State.otp_retire (r n : Nat) : (s.retire r n).otp = s.otp := by simp [State.retire]
@[simp] theorem State.mgt_retire (r n : Nat) : (s.retire r n).mgt = s.mgt := by simp [State.retire]
@[simp] theorem State.sens_retire (r n : Nat) : (s.retire r n).sens = s.sens := by simp [State.retire]
@[simp] theorem State.cbs_retire (r n : Nat) : (s.retire r n).cbs = s.cbs := by simp [State.retire]
@[simp] theorem State.jtag_retire (r n : Nat) : (s.retire r n).jtag = s.jtag := by simp [State.retire]
@[simp] theorem State.pin_retire (r n : Nat) : (s.retire r n).pin = s.pin := by simp [State.retire]
@[simp] theorem State.cellar_retire (r n : Nat) : (s.retire r n).cellar = s.cellar := by simp [State.retire]

@[simp] theorem State.pending_retireTo (r n i : Nat) : (s.retireTo r n i).pending = s.pending := by simp [State.retireTo]
@[simp] theorem State.now_retireTo (r n i : Nat) : (s.retireTo r n i).now = s.now := by simp [State.retireTo]
@[simp] theorem State.lastRead_retireTo (r n i : Nat) : (s.retireTo r n i).lastRead = s.lastRead := by simp [State.retireTo]
@[simp] theorem State.free_retireTo (r n i : Nat) : (s.retireTo r n i).free = s.free := by simp [State.retireTo]
@[simp] theorem State.out_retireTo (r n i : Nat) : (s.retireTo r n i).out = s.out := by simp [State.retireTo]
@[simp] theorem State.log_retireTo (r n i : Nat) : (s.retireTo r n i).log = s.log := by simp [State.retireTo]
@[simp] theorem State.top_retireTo (r n i : Nat) : (s.retireTo r n i).top = s.top := by simp [State.retireTo]
@[simp] theorem State.trl_retireTo (r n i : Nat) : (s.retireTo r n i).trl = s.trl := by simp [State.retireTo]
@[simp] theorem State.cand_retireTo (r n i : Nat) : (s.retireTo r n i).cand = s.cand := by simp [State.retireTo]
@[simp] theorem State.dpll_retireTo (r n i : Nat) : (s.retireTo r n i).dpll = s.dpll := by simp [State.retireTo]
@[simp] theorem State.plan_retireTo (r n i : Nat) : (s.retireTo r n i).plan = s.plan := by simp [State.retireTo]
@[simp] theorem State.syn_retireTo (r n i : Nat) : (s.retireTo r n i).syn = s.syn := by simp [State.retireTo]
@[simp] theorem State.ptp_retireTo (r n i : Nat) : (s.retireTo r n i).ptp = s.ptp := by simp [State.retireTo]
@[simp] theorem State.pci_retireTo (r n i : Nat) : (s.retireTo r n i).pci = s.pci := by simp [State.retireTo]
@[simp] theorem State.ins_retireTo (r n i : Nat) : (s.retireTo r n i).ins = s.ins := by simp [State.retireTo]
@[simp] theorem State.outs_retireTo (r n i : Nat) : (s.retireTo r n i).outs = s.outs := by simp [State.retireTo]
@[simp] theorem State.adm_retireTo (r n i : Nat) : (s.retireTo r n i).adm = s.adm := by simp [State.retireTo]
@[simp] theorem State.chans_retireTo (r n i : Nat) : (s.retireTo r n i).chans = s.chans := by simp [State.retireTo]
@[simp] theorem State.ldg_retireTo (r n i : Nat) : (s.retireTo r n i).ldg = s.ldg := by simp [State.retireTo]
@[simp] theorem State.aud_retireTo (r n i : Nat) : (s.retireTo r n i).aud = s.aud := by simp [State.retireTo]
@[simp] theorem State.src_retireTo (r n i : Nat) : (s.retireTo r n i).src = s.src := by simp [State.retireTo]
@[simp] theorem State.est_retireTo (r n i : Nat) : (s.retireTo r n i).est = s.est := by simp [State.retireTo]
@[simp] theorem State.dst_retireTo (r n i : Nat) : (s.retireTo r n i).dst = s.dst := by simp [State.retireTo]
@[simp] theorem State.gens_retireTo (r n i : Nat) : (s.retireTo r n i).gens = s.gens := by simp [State.retireTo]
@[simp] theorem State.i2s_retireTo (r n i : Nat) : (s.retireTo r n i).i2s = s.i2s := by simp [State.retireTo]
@[simp] theorem State.mvh_retireTo (r n i : Nat) : (s.retireTo r n i).mvh = s.mvh := by simp [State.retireTo]
@[simp] theorem State.twn_retireTo (r n i : Nat) : (s.retireTo r n i).twn = s.twn := by simp [State.retireTo]
@[simp] theorem State.cls_retireTo (r n i : Nat) : (s.retireTo r n i).cls = s.cls := by simp [State.retireTo]
@[simp] theorem State.rx_retireTo (r n i : Nat) : (s.retireTo r n i).rx = s.rx := by simp [State.retireTo]
@[simp] theorem State.tx_retireTo (r n i : Nat) : (s.retireTo r n i).tx = s.tx := by simp [State.retireTo]
@[simp] theorem State.mac_retireTo (r n i : Nat) : (s.retireTo r n i).mac = s.mac := by simp [State.retireTo]
@[simp] theorem State.ctn_retireTo (r n i : Nat) : (s.retireTo r n i).ctn = s.ctn := by simp [State.retireTo]
@[simp] theorem State.fab_retireTo (r n i : Nat) : (s.retireTo r n i).fab = s.fab := by simp [State.retireTo]
@[simp] theorem State.chn_retireTo (r n i : Nat) : (s.retireTo r n i).chn = s.chn := by simp [State.retireTo]
@[simp] theorem State.mail_retireTo (r n i : Nat) : (s.retireTo r n i).mail = s.mail := by simp [State.retireTo]
@[simp] theorem State.nor_retireTo (r n i : Nat) : (s.retireTo r n i).nor = s.nor := by simp [State.retireTo]
@[simp] theorem State.otp_retireTo (r n i : Nat) : (s.retireTo r n i).otp = s.otp := by simp [State.retireTo]
@[simp] theorem State.mgt_retireTo (r n i : Nat) : (s.retireTo r n i).mgt = s.mgt := by simp [State.retireTo]
@[simp] theorem State.sens_retireTo (r n i : Nat) : (s.retireTo r n i).sens = s.sens := by simp [State.retireTo]
@[simp] theorem State.cbs_retireTo (r n i : Nat) : (s.retireTo r n i).cbs = s.cbs := by simp [State.retireTo]
@[simp] theorem State.jtag_retireTo (r n i : Nat) : (s.retireTo r n i).jtag = s.jtag := by simp [State.retireTo]
@[simp] theorem State.pin_retireTo (r n i : Nat) : (s.retireTo r n i).pin = s.pin := by simp [State.retireTo]
@[simp] theorem State.cellar_retireTo (r n i : Nat) : (s.retireTo r n i).cellar = s.cellar := by simp [State.retireTo]

@[simp] theorem State.pending_resumeAt (r t : Nat) : (s.resumeAt r t).pending = s.pending := by simp [State.resumeAt]
@[simp] theorem State.now_resumeAt (r t : Nat) : (s.resumeAt r t).now = s.now := by simp [State.resumeAt]
@[simp] theorem State.lastRead_resumeAt (r t : Nat) : (s.resumeAt r t).lastRead = s.lastRead := by simp [State.resumeAt]
@[simp] theorem State.free_resumeAt (r t : Nat) : (s.resumeAt r t).free = s.free := by simp [State.resumeAt]
@[simp] theorem State.out_resumeAt (r t : Nat) : (s.resumeAt r t).out = s.out := by simp [State.resumeAt]
@[simp] theorem State.log_resumeAt (r t : Nat) : (s.resumeAt r t).log = s.log := by simp [State.resumeAt]
@[simp] theorem State.top_resumeAt (r t : Nat) : (s.resumeAt r t).top = s.top := by simp [State.resumeAt]
@[simp] theorem State.trl_resumeAt (r t : Nat) : (s.resumeAt r t).trl = s.trl := by simp [State.resumeAt]
@[simp] theorem State.cand_resumeAt (r t : Nat) : (s.resumeAt r t).cand = s.cand := by simp [State.resumeAt]
@[simp] theorem State.dpll_resumeAt (r t : Nat) : (s.resumeAt r t).dpll = s.dpll := by simp [State.resumeAt]
@[simp] theorem State.plan_resumeAt (r t : Nat) : (s.resumeAt r t).plan = s.plan := by simp [State.resumeAt]
@[simp] theorem State.syn_resumeAt (r t : Nat) : (s.resumeAt r t).syn = s.syn := by simp [State.resumeAt]
@[simp] theorem State.ptp_resumeAt (r t : Nat) : (s.resumeAt r t).ptp = s.ptp := by simp [State.resumeAt]
@[simp] theorem State.pci_resumeAt (r t : Nat) : (s.resumeAt r t).pci = s.pci := by simp [State.resumeAt]
@[simp] theorem State.ins_resumeAt (r t : Nat) : (s.resumeAt r t).ins = s.ins := by simp [State.resumeAt]
@[simp] theorem State.outs_resumeAt (r t : Nat) : (s.resumeAt r t).outs = s.outs := by simp [State.resumeAt]
@[simp] theorem State.adm_resumeAt (r t : Nat) : (s.resumeAt r t).adm = s.adm := by simp [State.resumeAt]
@[simp] theorem State.chans_resumeAt (r t : Nat) : (s.resumeAt r t).chans = s.chans := by simp [State.resumeAt]
@[simp] theorem State.ldg_resumeAt (r t : Nat) : (s.resumeAt r t).ldg = s.ldg := by simp [State.resumeAt]
@[simp] theorem State.aud_resumeAt (r t : Nat) : (s.resumeAt r t).aud = s.aud := by simp [State.resumeAt]
@[simp] theorem State.src_resumeAt (r t : Nat) : (s.resumeAt r t).src = s.src := by simp [State.resumeAt]
@[simp] theorem State.est_resumeAt (r t : Nat) : (s.resumeAt r t).est = s.est := by simp [State.resumeAt]
@[simp] theorem State.dst_resumeAt (r t : Nat) : (s.resumeAt r t).dst = s.dst := by simp [State.resumeAt]
@[simp] theorem State.gens_resumeAt (r t : Nat) : (s.resumeAt r t).gens = s.gens := by simp [State.resumeAt]
@[simp] theorem State.i2s_resumeAt (r t : Nat) : (s.resumeAt r t).i2s = s.i2s := by simp [State.resumeAt]
@[simp] theorem State.mvh_resumeAt (r t : Nat) : (s.resumeAt r t).mvh = s.mvh := by simp [State.resumeAt]
@[simp] theorem State.twn_resumeAt (r t : Nat) : (s.resumeAt r t).twn = s.twn := by simp [State.resumeAt]
@[simp] theorem State.cls_resumeAt (r t : Nat) : (s.resumeAt r t).cls = s.cls := by simp [State.resumeAt]
@[simp] theorem State.rx_resumeAt (r t : Nat) : (s.resumeAt r t).rx = s.rx := by simp [State.resumeAt]
@[simp] theorem State.tx_resumeAt (r t : Nat) : (s.resumeAt r t).tx = s.tx := by simp [State.resumeAt]
@[simp] theorem State.mac_resumeAt (r t : Nat) : (s.resumeAt r t).mac = s.mac := by simp [State.resumeAt]
@[simp] theorem State.ctn_resumeAt (r t : Nat) : (s.resumeAt r t).ctn = s.ctn := by simp [State.resumeAt]
@[simp] theorem State.fab_resumeAt (r t : Nat) : (s.resumeAt r t).fab = s.fab := by simp [State.resumeAt]
@[simp] theorem State.chn_resumeAt (r t : Nat) : (s.resumeAt r t).chn = s.chn := by simp [State.resumeAt]
@[simp] theorem State.mail_resumeAt (r t : Nat) : (s.resumeAt r t).mail = s.mail := by simp [State.resumeAt]
@[simp] theorem State.nor_resumeAt (r t : Nat) : (s.resumeAt r t).nor = s.nor := by simp [State.resumeAt]
@[simp] theorem State.otp_resumeAt (r t : Nat) : (s.resumeAt r t).otp = s.otp := by simp [State.resumeAt]
@[simp] theorem State.mgt_resumeAt (r t : Nat) : (s.resumeAt r t).mgt = s.mgt := by simp [State.resumeAt]
@[simp] theorem State.sens_resumeAt (r t : Nat) : (s.resumeAt r t).sens = s.sens := by simp [State.resumeAt]
@[simp] theorem State.cbs_resumeAt (r t : Nat) : (s.resumeAt r t).cbs = s.cbs := by simp [State.resumeAt]
@[simp] theorem State.jtag_resumeAt (r t : Nat) : (s.resumeAt r t).jtag = s.jtag := by simp [State.resumeAt]
@[simp] theorem State.pin_resumeAt (r t : Nat) : (s.resumeAt r t).pin = s.pin := by simp [State.resumeAt]
@[simp] theorem State.cellar_resumeAt (r t : Nat) : (s.resumeAt r t).cellar = s.cellar := by simp [State.resumeAt]

@[simp] theorem State.pending_startWait (r : Nat) (w : Wait) : (s.startWait r w).pending = s.pending := by simp [State.startWait]
@[simp] theorem State.now_startWait (r : Nat) (w : Wait) : (s.startWait r w).now = s.now := by simp [State.startWait]
@[simp] theorem State.lastRead_startWait (r : Nat) (w : Wait) : (s.startWait r w).lastRead = s.lastRead := by simp [State.startWait]
@[simp] theorem State.free_startWait (r : Nat) (w : Wait) : (s.startWait r w).free = s.free := by simp [State.startWait]
@[simp] theorem State.out_startWait (r : Nat) (w : Wait) : (s.startWait r w).out = s.out := by simp [State.startWait]
@[simp] theorem State.log_startWait (r : Nat) (w : Wait) : (s.startWait r w).log = s.log := by simp [State.startWait]
@[simp] theorem State.top_startWait (r : Nat) (w : Wait) : (s.startWait r w).top = s.top := by simp [State.startWait]
@[simp] theorem State.trl_startWait (r : Nat) (w : Wait) : (s.startWait r w).trl = s.trl := by simp [State.startWait]
@[simp] theorem State.cand_startWait (r : Nat) (w : Wait) : (s.startWait r w).cand = s.cand := by simp [State.startWait]
@[simp] theorem State.dpll_startWait (r : Nat) (w : Wait) : (s.startWait r w).dpll = s.dpll := by simp [State.startWait]
@[simp] theorem State.plan_startWait (r : Nat) (w : Wait) : (s.startWait r w).plan = s.plan := by simp [State.startWait]
@[simp] theorem State.syn_startWait (r : Nat) (w : Wait) : (s.startWait r w).syn = s.syn := by simp [State.startWait]
@[simp] theorem State.ptp_startWait (r : Nat) (w : Wait) : (s.startWait r w).ptp = s.ptp := by simp [State.startWait]
@[simp] theorem State.pci_startWait (r : Nat) (w : Wait) : (s.startWait r w).pci = s.pci := by simp [State.startWait]
@[simp] theorem State.ins_startWait (r : Nat) (w : Wait) : (s.startWait r w).ins = s.ins := by simp [State.startWait]
@[simp] theorem State.outs_startWait (r : Nat) (w : Wait) : (s.startWait r w).outs = s.outs := by simp [State.startWait]
@[simp] theorem State.adm_startWait (r : Nat) (w : Wait) : (s.startWait r w).adm = s.adm := by simp [State.startWait]
@[simp] theorem State.chans_startWait (r : Nat) (w : Wait) : (s.startWait r w).chans = s.chans := by simp [State.startWait]
@[simp] theorem State.ldg_startWait (r : Nat) (w : Wait) : (s.startWait r w).ldg = s.ldg := by simp [State.startWait]
@[simp] theorem State.aud_startWait (r : Nat) (w : Wait) : (s.startWait r w).aud = s.aud := by simp [State.startWait]
@[simp] theorem State.src_startWait (r : Nat) (w : Wait) : (s.startWait r w).src = s.src := by simp [State.startWait]
@[simp] theorem State.est_startWait (r : Nat) (w : Wait) : (s.startWait r w).est = s.est := by simp [State.startWait]
@[simp] theorem State.dst_startWait (r : Nat) (w : Wait) : (s.startWait r w).dst = s.dst := by simp [State.startWait]
@[simp] theorem State.gens_startWait (r : Nat) (w : Wait) : (s.startWait r w).gens = s.gens := by simp [State.startWait]
@[simp] theorem State.i2s_startWait (r : Nat) (w : Wait) : (s.startWait r w).i2s = s.i2s := by simp [State.startWait]
@[simp] theorem State.mvh_startWait (r : Nat) (w : Wait) : (s.startWait r w).mvh = s.mvh := by simp [State.startWait]
@[simp] theorem State.twn_startWait (r : Nat) (w : Wait) : (s.startWait r w).twn = s.twn := by simp [State.startWait]
@[simp] theorem State.cls_startWait (r : Nat) (w : Wait) : (s.startWait r w).cls = s.cls := by simp [State.startWait]
@[simp] theorem State.rx_startWait (r : Nat) (w : Wait) : (s.startWait r w).rx = s.rx := by simp [State.startWait]
@[simp] theorem State.tx_startWait (r : Nat) (w : Wait) : (s.startWait r w).tx = s.tx := by simp [State.startWait]
@[simp] theorem State.mac_startWait (r : Nat) (w : Wait) : (s.startWait r w).mac = s.mac := by simp [State.startWait]
@[simp] theorem State.ctn_startWait (r : Nat) (w : Wait) : (s.startWait r w).ctn = s.ctn := by simp [State.startWait]
@[simp] theorem State.fab_startWait (r : Nat) (w : Wait) : (s.startWait r w).fab = s.fab := by simp [State.startWait]
@[simp] theorem State.chn_startWait (r : Nat) (w : Wait) : (s.startWait r w).chn = s.chn := by simp [State.startWait]
@[simp] theorem State.mail_startWait (r : Nat) (w : Wait) : (s.startWait r w).mail = s.mail := by simp [State.startWait]
@[simp] theorem State.nor_startWait (r : Nat) (w : Wait) : (s.startWait r w).nor = s.nor := by simp [State.startWait]
@[simp] theorem State.otp_startWait (r : Nat) (w : Wait) : (s.startWait r w).otp = s.otp := by simp [State.startWait]
@[simp] theorem State.mgt_startWait (r : Nat) (w : Wait) : (s.startWait r w).mgt = s.mgt := by simp [State.startWait]
@[simp] theorem State.sens_startWait (r : Nat) (w : Wait) : (s.startWait r w).sens = s.sens := by simp [State.startWait]
@[simp] theorem State.cbs_startWait (r : Nat) (w : Wait) : (s.startWait r w).cbs = s.cbs := by simp [State.startWait]
@[simp] theorem State.jtag_startWait (r : Nat) (w : Wait) : (s.startWait r w).jtag = s.jtag := by simp [State.startWait]
@[simp] theorem State.pin_startWait (r : Nat) (w : Wait) : (s.startWait r w).pin = s.pin := by simp [State.startWait]
@[simp] theorem State.cellar_startWait (r : Nat) (w : Wait) : (s.startWait r w).cellar = s.cellar := by simp [State.startWait]

@[simp] theorem State.pending_resync (r : Nat) : (s.resync r).pending = s.pending := by unfold State.resync; split <;> simp
@[simp] theorem State.now_resync (r : Nat) : (s.resync r).now = s.now := by unfold State.resync; split <;> simp
@[simp] theorem State.lastRead_resync (r : Nat) : (s.resync r).lastRead = s.lastRead := by unfold State.resync; split <;> simp
@[simp] theorem State.free_resync (r : Nat) : (s.resync r).free = s.free := by unfold State.resync; split <;> simp
@[simp] theorem State.top_resync (r : Nat) : (s.resync r).top = s.top := by unfold State.resync; split <;> simp
@[simp] theorem State.trl_resync (r : Nat) : (s.resync r).trl = s.trl := by unfold State.resync; split <;> simp
@[simp] theorem State.cand_resync (r : Nat) : (s.resync r).cand = s.cand := by unfold State.resync; split <;> simp
@[simp] theorem State.dpll_resync (r : Nat) : (s.resync r).dpll = s.dpll := by unfold State.resync; split <;> simp
@[simp] theorem State.plan_resync (r : Nat) : (s.resync r).plan = s.plan := by unfold State.resync; split <;> simp
@[simp] theorem State.syn_resync (r : Nat) : (s.resync r).syn = s.syn := by unfold State.resync; split <;> simp
@[simp] theorem State.ptp_resync (r : Nat) : (s.resync r).ptp = s.ptp := by unfold State.resync; split <;> simp
@[simp] theorem State.ins_resync (r : Nat) : (s.resync r).ins = s.ins := by unfold State.resync; split <;> simp
@[simp] theorem State.outs_resync (r : Nat) : (s.resync r).outs = s.outs := by unfold State.resync; split <;> simp
@[simp] theorem State.adm_resync (r : Nat) : (s.resync r).adm = s.adm := by unfold State.resync; split <;> simp
@[simp] theorem State.chans_resync (r : Nat) : (s.resync r).chans = s.chans := by unfold State.resync; split <;> simp
@[simp] theorem State.ldg_resync (r : Nat) : (s.resync r).ldg = s.ldg := by unfold State.resync; split <;> simp
@[simp] theorem State.aud_resync (r : Nat) : (s.resync r).aud = s.aud := by unfold State.resync; split <;> simp
@[simp] theorem State.src_resync (r : Nat) : (s.resync r).src = s.src := by unfold State.resync; split <;> simp
@[simp] theorem State.est_resync (r : Nat) : (s.resync r).est = s.est := by unfold State.resync; split <;> simp
@[simp] theorem State.dst_resync (r : Nat) : (s.resync r).dst = s.dst := by unfold State.resync; split <;> simp
@[simp] theorem State.gens_resync (r : Nat) : (s.resync r).gens = s.gens := by unfold State.resync; split <;> simp
@[simp] theorem State.i2s_resync (r : Nat) : (s.resync r).i2s = s.i2s := by unfold State.resync; split <;> simp
@[simp] theorem State.mvh_resync (r : Nat) : (s.resync r).mvh = s.mvh := by unfold State.resync; split <;> simp
@[simp] theorem State.cls_resync (r : Nat) : (s.resync r).cls = s.cls := by unfold State.resync; split <;> simp
@[simp] theorem State.rx_resync (r : Nat) : (s.resync r).rx = s.rx := by unfold State.resync; split <;> simp
@[simp] theorem State.tx_resync (r : Nat) : (s.resync r).tx = s.tx := by unfold State.resync; split <;> simp
@[simp] theorem State.mac_resync (r : Nat) : (s.resync r).mac = s.mac := by unfold State.resync; split <;> simp
@[simp] theorem State.ctn_resync (r : Nat) : (s.resync r).ctn = s.ctn := by unfold State.resync; split <;> simp
@[simp] theorem State.fab_resync (r : Nat) : (s.resync r).fab = s.fab := by unfold State.resync; split <;> simp
@[simp] theorem State.chn_resync (r : Nat) : (s.resync r).chn = s.chn := by unfold State.resync; split <;> simp
@[simp] theorem State.mail_resync (r : Nat) : (s.resync r).mail = s.mail := by unfold State.resync; split <;> simp
@[simp] theorem State.nor_resync (r : Nat) : (s.resync r).nor = s.nor := by unfold State.resync; split <;> simp
@[simp] theorem State.otp_resync (r : Nat) : (s.resync r).otp = s.otp := by unfold State.resync; split <;> simp
@[simp] theorem State.mgt_resync (r : Nat) : (s.resync r).mgt = s.mgt := by unfold State.resync; split <;> simp
@[simp] theorem State.sens_resync (r : Nat) : (s.resync r).sens = s.sens := by unfold State.resync; split <;> simp
@[simp] theorem State.cbs_resync (r : Nat) : (s.resync r).cbs = s.cbs := by unfold State.resync; split <;> simp
@[simp] theorem State.jtag_resync (r : Nat) : (s.resync r).jtag = s.jtag := by unfold State.resync; split <;> simp
@[simp] theorem State.pin_resync (r : Nat) : (s.resync r).pin = s.pin := by unfold State.resync; split <;> simp
@[simp] theorem State.cellar_resync (r : Nat) : (s.resync r).cellar = s.cellar := by unfold State.resync; split <;> simp

/-! ## Words -/

/-- The argument order of `State.wr` that the piped updates use. -/
@[simp] theorem State.word_mk_wrB_ne {f : Field} {a : Nat} (b : Bool) (h : a ≠ f.addr) : (s.wrB f b).word a = s.word a := by
  simp [State.wrB, State.word_wr_ne _ _ h]

@[simp] theorem State.word_emit (o : Out) (a : Nat) : (s.emit o).word a = s.word a := (rfl)
@[simp] theorem State.word_draw (a : Nat) : s.draw.word a = s.word a := (rfl)
@[simp] theorem State.word_setClaim (b : Bool) (a : Nat) : (s.setClaim b).word a = s.word a := by
  simp only [State.setClaim]; split <;> rfl
@[simp] theorem State.word_sendMsix (k a : Nat) : (s.sendMsix k).word a = s.word a := by simp [State.word]

/-- A capture leaves every word but MGT_LOG_LOST. -/
theorem State.word_capture (b e x : Nat) {a : Nat} (h : a ≠ MGT_LOG_LOST) : (s.capture b e x).word a = s.word a := by
  unfold State.capture
  split
  · rfl
  · exact State.word_wr_ne _ _ h

/-- Raising an event bit leaves every word but its own and MGT_LOG_LOST. -/
theorem State.word_setEvent {f : Field} (x : Nat) {a : Nat} (hf : a ≠ f.addr) (hl : a ≠ MGT_LOG_LOST) : (s.setEvent f x).word a = s.word a := by
  have hw (t : State) : (t.wr f 1).word a = t.word a := State.word_wr_ne _ _ hf
  simp only [State.setEvent]
  repeat' split
  all_goals simp [hw, State.word_capture _ _ _ _ hl]

@[simp] theorem State.word_noteEvent (f : Field) (a : Nat) : (s.noteEvent f).word a = s.word a := (rfl)

theorem State.word_raiseArg {f : Field} (x : Nat) {a : Nat} (hf : a ≠ f.addr) (hl : a ≠ MGT_LOG_LOST) : (s.raiseArg f x).word a = s.word a := by
  simp [State.raiseArg, State.word_setEvent (s.noteEvent f) x hf hl]

theorem State.word_raise {f : Field} {a : Nat} (hf : a ≠ f.addr) (hl : a ≠ MGT_LOG_LOST) : (s.raise f).word a = s.word a :=
  State.word_raiseArg s 0 hf hl

/-- A field outside the words that a raise touches. -/
theorem State.rd_raise {f g : Field} (hf : g.addr ≠ f.addr) (hl : g.addr ≠ MGT_LOG_LOST) : (s.raise f).rd g = s.rd g := by
  simp [State.rd, State.word_raise s hf hl]

/-- An event bit that has been raised reads as set. -/
theorem State.on_setEvent {f : Field} (x : Nat) (h : f.lo + f.width ≤ 32) (hw : f.width = 1) (hl : f.addr ≠ MGT_LOG_LOST) :
    (s.setEvent f x).on f = true := by
  have h1 (t : State) : (t.wr f 1).rd f = 1 := by rw [State.rd_wr_same _ _ _ h, hw]; decide
  have hc (t : State) (b e : Nat) : (t.capture b e x).rd f = t.rd f := by simp [State.rd, State.word_capture _ _ _ _ hl]
  have hm (t : State) (k : Nat) : (t.sendMsix k).rd f = t.rd f := by simp [State.rd]
  simp only [State.setEvent]
  split
  · assumption
  · simp only [State.on, bne_iff_ne, ne_eq]
    repeat' split
    all_goals simp [h1, hc, hm]

theorem State.on_raise {f : Field} (h : f.lo + f.width ≤ 32) (hw : f.width = 1) (hl : f.addr ≠ MGT_LOG_LOST) : (s.raise f).on f = true :=
  State.on_setEvent (s.noteEvent f) 0 h hw hl

end Sys2Proof.Machine
end

