-- ==== Sys2Proof/Laws/Bus.lean ====
section
/-! SUPPORT. An access of one word that nothing refuses reaches its register. -/

namespace Sys2Proof.Machine

/-- The one word of an aligned access of four bytes. -/
theorem accessWords_word {a : Nat} (v : Nat) (h : a % 4 = 0) (hv : v < 2 ^ 32) : accessWords a 4 v = [(a, 2 ^ 32 - 1, v)] := by
  have h1 : (a + 4 + 3) / 4 - a / 4 = 1 := by omega
  have h2 : 4 * (a / 4) = a := by omega
  have hm : (rangeFrom 0 4).foldl (fun x b => if a ≤ a + b ∧ a + b < a + 4 then x + 255 * 2 ^ (8 * b) else x) 0 = 2 ^ 32 - 1 := by
    simp [rangeFrom]
  have hand : v &&& (2 ^ 32 - 1) = v := by
    rw [Nat.and_two_pow_sub_one_eq_mod]; exact Nat.mod_eq_of_lt hv
  simp only [accessWords, h1, rangeFrom, List.map_cons, List.map_nil, h2]
  rw [← hm] at hand
  simp [rangeFrom] at hand hm ⊢
  have hmod : v % 4294967296 = v := Nat.mod_eq_of_lt hv
  rw [hmod]
  exact hand

/-- Merging all the bits of a word leaves nothing of the old one. -/
theorem mergeBits_all (new old : Nat) (h : new < 2 ^ 32) : mergeBits (2 ^ 32 - 1) new old = new := by
  unfold mergeBits
  rw [Nat.and_two_pow_sub_one_eq_mod, Nat.mod_eq_of_lt h]
  simp

/-- A merge of words is a word. -/
theorem mergeBits_lt (mask new old : Nat) (_ : old < 2 ^ 32) (hm : mask < 2 ^ 32 := by first | decide | omega) : mergeBits mask new old < 2 ^ 32 := by
  unfold mergeBits
  exact Nat.or_lt_two_pow (Nat.and_lt_two_pow _ (by omega)) (Nat.and_lt_two_pow _ hm)

/-- Merging the low bits of a word gives them. -/
theorem mergeBits_low (k new old : Nat) (hk : k ≤ 32) (h : new < 2 ^ k) : mergeBits (2 ^ k - 1) new old % 2 ^ k = new := by
  unfold mergeBits
  rw [← Nat.and_two_pow_sub_one_eq_mod, Nat.and_or_distrib_right, Nat.and_assoc, Nat.and_assoc, Nat.and_self]
  have h0 : (2 ^ 32 - 1 - (2 ^ k - 1)) &&& (2 ^ k - 1) = 0 := by
    apply Nat.eq_of_testBit_eq
    intro i
    have hs : 2 ^ 32 - 1 - (2 ^ k - 1) = (2 ^ (32 - k) - 1) * 2 ^ k := by
      rw [Nat.sub_mul, ← Nat.pow_add, show 32 - k + k = 32 by omega]
      have : 0 < 2 ^ k := Nat.two_pow_pos k
      omega
    rw [Nat.testBit_and, hs, Nat.testBit_mul_two_pow, Nat.testBit_two_pow_sub_one, Nat.zero_testBit]
    by_cases hi : i < k
    · simp [show ¬ k ≤ i by omega]
    · simp [hi]
  rw [h0, Nat.and_zero, Nat.zero_or, Nat.and_two_pow_sub_one_eq_mod, Nat.mod_eq_of_lt h]

/-- A register's row and its indices, from its indices. -/
theorem regAt_of {a : Nat} {ix : List Nat} (h : (regAt a).map (·.2) = some ix) : ∃ d, regAt a = some (d, ix) := by
  obtain ⟨⟨d, x⟩, hd, rfl⟩ := Option.map_eq_some_iff.1 h
  exact ⟨d, hd⟩

variable (s : State)

/-- A word write that is admitted, and that nothing stalls or journals, acts on its word at once. -/
theorem State.busWrite_admits {m a v : Nat} (ha : a % 4 = 0) (hb : a < 0x4000000) (hv : v < 2 ^ 32) (h : s.Admits m true a) :
    s.busWrite m a 4 v = s.putWord m a (2 ^ 32 - 1) v := by
  obtain ⟨ho, hs, hr, hu, hj⟩ := h
  have hap : ¬ apertureBase ≤ a := by simp only [apertureBase]; omega
  have hn : s.needsJournal m (accessWords a 4 v) = false := by simp [State.needsJournal, hj]
  have hst : s.stalls { master := m, write := true, addr := a, len := 4, data := v } = false := by
    simp only [State.stalls, hs, hn, Bool.and_false, Bool.or_false]
  have hw : s.writeWord m a (2 ^ 32 - 1) v = s.putWord m a (2 ^ 32 - 1) v := by simp only [State.writeWord, hj, Bool.false_and]; rfl
  have hact : s.actWrite m a 4 v = s.putWord m a (2 ^ 32 - 1) v := by
    simp only [State.actWrite, if_neg hap, accessWords_word v ha hv, hj, Bool.false_and]
    split
    · simp only [Bool.false_eq_true, if_false, State.forL, foldOver, hw]
    · simp only [State.forL, foldOver, hw]
  have hc : s.carryOut { master := m, write := true, addr := a, len := 4, data := v } = (s.putWord m a (2 ^ 32 - 1) v, false) := by
    simp only [State.carryOut, hr, ne_eq, not_true_eq_false, if_false, if_true, hact]
  simp only [State.busWrite, State.access, ho, hst, hc, Bool.not_true, Bool.false_or]
  simp

/-- So does one of a register, in the operation of its block. -/
theorem State.busWrite_register {m a v : Nat} (ha : a % 4 = 0) (hb : a < 0x4000000) (hv : v < 2 ^ 32) (hm : inMemory a = false)
    (h : s.Admits m true a) : s.busWrite m a 4 v = s.writeReg m a v := by
  rw [s.busWrite_admits ha hb hv h]
  have hu := h.2.2.2.1
  simp only [inMemory, Bool.or_eq_false_iff] at hm
  simp only [State.putWord, hu, hm.1.1, hm.1.2, hm.2, Bool.false_eq_true, if_false]

/-- A word read that is admitted gives what its word gives. -/
theorem State.busRead_admits {m a : Nat} (ha : a % 4 = 0) (hb : a < 0x4000000) (h : s.Admits m false a) :
    s.busRead m a 4 = { (s.getWord m a).1 with lastRead := (s.getWord m a).2 &&& (2 ^ 32 - 1) } := by
  obtain ⟨ho, hs, hr, hu, hj⟩ := h
  have hap : ¬ apertureBase ≤ a := by simp only [apertureBase]; omega
  have hst : s.stalls { master := m, write := false, addr := a, len := 4 } = false := by
    simp only [State.stalls, hs, Bool.false_and, Bool.or_false]
  have hact : s.actRead m a 4 = ((s.getWord m a).1, (s.getWord m a).2 &&& (2 ^ 32 - 1)) := by
    have h0 : (0 : Nat) < 2 ^ 32 := by norm_num
    simp only [State.actRead, if_neg hap, accessWords_word 0 ha h0, State.readWords]
    simp
  have hc : s.carryOut { master := m, write := false, addr := a, len := 4 } =
      ({ (s.getWord m a).1 with lastRead := (s.getWord m a).2 &&& (2 ^ 32 - 1) }, false) := by
    simp only [State.carryOut, hr, ne_eq, not_true_eq_false, if_false, Bool.false_eq_true, hact]
  simp only [State.busRead, State.access, ho, hst, hc, Bool.not_true, Bool.false_or]
  simp

end Sys2Proof.Machine
end

