-- ==== Sys2Proof/Laws/Exec.lean ====
section
/-! SUPPORT. What exec does with each command: its meaning, one lemma per constructor. -/

namespace Sys2Proof.Machine

variable (s : State)

@[simp] theorem exec_vinValid (mv : Nat) (devAddr : Fin 32) (side : Fin 2) : exec (.vinValid mv devAddr side) s = execVinValid mv devAddr side s := (rfl)
@[simp] theorem exec_vinWarn (mv : Nat) : exec (.vinWarn mv) s = execVinWarn mv s := (rfl)
@[simp] theorem exec_vinFault (mv : Nat) : exec (.vinFault mv) s = execVinFault mv s := (rfl)
@[simp] theorem exec_topResetKey (m : Fin 22) (key : Word) : exec (.topResetKey m key) s = execTopResetKey m key s := (rfl)
@[simp] theorem exec_regulatorFault (idx : Fin 96) : exec (.regulatorFault idx) s = execRegulatorFault idx s := (rfl)
@[simp] theorem exec_alwaysOnRegulatorFault : exec (.alwaysOnRegulatorFault) s = execAlwaysOnRegulatorFault s := (rfl)
@[simp] theorem exec_pwrDomReqWrite (m : Fin 22) (k : Fin 3) (v : Word) : exec (.pwrDomReqWrite m k v) s = execPwrDomReqWrite m k v s := (rfl)
@[simp] theorem exec_domainReady (idx : Fin 96) : exec (.domainReady idx) s = execDomainReady idx s := (rfl)
@[simp] theorem exec_domainStop (idx : Fin 96) : exec (.domainStop idx) s = execDomainStop idx s := (rfl)
@[simp] theorem exec_shedRise : exec (.shedRise) s = execShedRise s := (rfl)
@[simp] theorem exec_shedFall : exec (.shedFall) s = execShedFall s := (rfl)
@[simp] theorem exec_thermalCritical (idx : Fin 36) : exec (.thermalCritical idx) s = execThermalCritical idx s := (rfl)
@[simp] theorem exec_pwrVinThrWrite (m : Fin 22) (v : Word) : exec (.pwrVinThrWrite m v) s = execPwrVinThrWrite m v s := (rfl)
@[simp] theorem exec_pwrShedThrWrite (m : Fin 22) (v : Word) : exec (.pwrShedThrWrite m v) s = execPwrShedThrWrite m v s := (rfl)
@[simp] theorem exec_railsUp : exec (.railsUp) s = execRailsUp s := (rfl)
@[simp] theorem exec_otpLoaded : exec (.otpLoaded) s = execOtpLoaded s := (rfl)
@[simp] theorem exec_bandSearchesDone (bands : List (Fin 256)) : exec (.bandSearchesDone bands) s = execBandSearchesDone bands s := (rfl)
@[simp] theorem exec_tUse : exec (.tUse) s = execTUse s := (rfl)
@[simp] theorem exec_defaultLeft : exec (.defaultLeft) s = execDefaultLeft s := (rfl)
@[simp] theorem exec_cellarTrained : exec (.cellarTrained) s = execCellarTrained s := (rfl)
@[simp] theorem exec_cellarTrainingFail : exec (.cellarTrainingFail) s = execCellarTrainingFail s := (rfl)
@[simp] theorem exec_freeze (m : Fin 22) : exec (.freeze m) s = execFreeze m s := (rfl)
@[simp] theorem exec_thaw (m : Fin 22) : exec (.thaw m) s = execThaw m s := (rfl)
@[simp] theorem exec_thawApply : exec (.thawApply) s = execThawApply s := (rfl)
@[simp] theorem exec_diag (m : Fin 22) : exec (.diag m) s = execDiag m s := (rfl)
@[simp] theorem exec_quiesce (m : Fin 22) : exec (.quiesce m) s = execQuiesce m s := (rfl)
@[simp] theorem exec_quiesceB1 : exec (.quiesceB1) s = execQuiesceB1 s := (rfl)
@[simp] theorem exec_quiesceTxEnd : exec (.quiesceTxEnd) s = execQuiesceTxEnd s := (rfl)
@[simp] theorem exec_rejoin (m : Fin 22) : exec (.rejoin m) s = execRejoin m s := (rfl)
@[simp] theorem exec_isolatedEntry : exec (.isolatedEntry) s = execIsolatedEntry s := (rfl)
@[simp] theorem exec_presetApply (n : Fin 37) (rx : Bool) : exec (.presetApply n rx) s = execPresetApply n rx s := (rfl)
@[simp] theorem exec_adaptStep (n : Fin 37) (l : Fin 8) (q : Fin 8) (up : Bool) : exec (.adaptStep n l q up) s = execAdaptStep n l q up s := (rfl)
@[simp] theorem exec_fclkDetected (n : Fin 37) : exec (.fclkDetected n) s = execFclkDetected n s := (rfl)
@[simp] theorem exec_dllLocked (n : Fin 37) : exec (.dllLocked n) s = execDllLocked n s := (rfl)
@[simp] theorem exec_dllLockTimeout (n : Fin 37) : exec (.dllLockTimeout n) s = execDllLockTimeout n s := (rfl)
@[simp] theorem exec_phaseSettled (n : Fin 37) (phases : List (Fin 64)) : exec (.phaseSettled n phases) s = execPhaseSettled n phases s := (rfl)
@[simp] theorem exec_phaseSweepTimeout (n : Fin 37) : exec (.phaseSweepTimeout n) s = execPhaseSweepTimeout n s := (rfl)
@[simp] theorem exec_commaAligned (n : Fin 37) : exec (.commaAligned n) s = execCommaAligned n s := (rfl)
@[simp] theorem exec_alignTimeout (n : Fin 37) : exec (.alignTimeout n) s = execAlignTimeout n s := (rfl)
@[simp] theorem exec_deskewDone (n : Fin 37) (ids : List (Fin 8)) (skews : List (Fin 257)) (last : List (Fin 4)) : exec (.deskewDone n ids skews last) s = execDeskewDone n ids skews last s := (rfl)
@[simp] theorem exec_deskewTimeout (n : Fin 37) (ids : List (Fin 8)) (skews : List Nat) : exec (.deskewTimeout n ids skews) s = execDeskewTimeout n ids skews s := (rfl)
@[simp] theorem exec_fclkStop (n : Fin 37) : exec (.fclkStop n) s = execFclkStop n s := (rfl)
@[simp] theorem exec_dllLossOfLock (n : Fin 37) : exec (.dllLossOfLock n) s = execDllLossOfLock n s := (rfl)
@[simp] theorem exec_fclkFreqError (n : Fin 37) : exec (.fclkFreqError n) s = execFclkFreqError n s := (rfl)
@[simp] theorem exec_laneOffReceived (n : Fin 37) : exec (.laneOffReceived n) s = execLaneOffReceived n s := (rfl)
@[simp] theorem exec_commaMissed (n : Fin 37) : exec (.commaMissed n) s = execCommaMissed n s := (rfl)
@[simp] theorem exec_txActivate (n : Fin 37) : exec (.txActivate n) s = execTxActivate n s := (rfl)
@[simp] theorem exec_txDeactivate (n : Fin 37) : exec (.txDeactivate n) s = execTxDeactivate n s := (rfl)
@[simp] theorem exec_trellisModeWrite (m : Fin 22) (n : Fin 37) (mode : Fin 4) : exec (.trellisModeWrite m n mode) s = execTrellisModeWrite m n mode s := (rfl)
@[simp] theorem exec_trellisModeChange (n : Fin 37) : exec (.trellisModeChange n) s = execTrellisModeChange n s := (rfl)
@[simp] theorem exec_inject (m : Fin 22) (n : Fin 37) (l : Fin 8) : exec (.inject m n l) s = execInject m n l s := (rfl)
@[simp] theorem exec_checkerLock (n : Fin 37) (l : Fin 8) (bits : List Nat) : exec (.checkerLock n l bits) s = execCheckerLock n l bits s := (rfl)
@[simp] theorem exec_checkerLoseLock (n : Fin 37) (l : Fin 8) (bits errs recent : Nat) : exec (.checkerLoseLock n l bits errs recent) s = execCheckerLoseLock n l bits errs recent s := (rfl)
@[simp] theorem exec_laneCounterRead (m : Fin 22) (n : Fin 37) (l : Fin 8) (errs : Bool) : exec (.laneCounterRead m n l errs) s = execLaneCounterRead m n l errs s := (rfl)
@[simp] theorem exec_counterRead (m : Fin 22) (addr len : Nat) : exec (.counterRead m addr len) s = execCounterRead m addr len s := (rfl)
@[simp] theorem exec_blockSent (n : Fin 37) (due : List (Nat × Nat × Nat × Nat)) : exec (.blockSent n due) s = execBlockSent n due s := (rfl)
@[simp] theorem exec_blockReceived (n : Fin 37) (symbols : List (List (Fin 4))) (skews : List Nat) (lines : List (Nat × Nat)) : exec (.blockReceived n symbols skews lines) s = execBlockReceived n symbols skews lines s := (rfl)
@[simp] theorem exec_framingLost (n : Fin 36) (missing : Nat) : exec (.framingLost n missing) s = execFramingLost n missing s := (rfl)
@[simp] theorem exec_noFraming (n : Fin 36) : exec (.noFraming n) s = execNoFraming n s := (rfl)
@[simp] theorem exec_refClassified (c : Fin 2) (hz : Nat) : exec (.refClassified c hz) s = execRefClassified c hz s := (rfl)
@[simp] theorem exec_frameMarker (c : Fin 2) (idle : Nat) (levels : List Bool) : exec (.frameMarker c idle levels) s = execFrameMarker c idle levels s := (rfl)
@[simp] theorem exec_markerTimeout (c : Fin 2) : exec (.markerTimeout c) s = execMarkerTimeout c s := (rfl)
@[simp] theorem exec_refGlitch (c : Fin 2) (ps : Nat) : exec (.refGlitch c ps) s = execRefGlitch c ps s := (rfl)
@[simp] theorem exec_refClockLost (c : Fin 2) (ps : Nat) : exec (.refClockLost c ps) s = execRefClockLost c ps s := (rfl)
@[simp] theorem exec_candidatePresent (c : Fin 6) : exec (.candidatePresent c) s = execCandidatePresent c s := (rfl)
@[simp] theorem exec_driftMonitorUpdate (meas : List Int) : exec (.driftMonitorUpdate meas) s = execDriftMonitorUpdate meas s := (rfl)
@[simp] theorem exec_qualified (c : Fin 6) : exec (.qualified c) s = execQualified c s := (rfl)
@[simp] theorem exec_disqualified (c : Fin 6) : exec (.disqualified c) s = execDisqualified c s := (rfl)
@[simp] theorem exec_bandwidthStep : exec (.bandwidthStep) s = execBandwidthStep s := (rfl)
@[simp] theorem exec_handOff (freq : Nat) (b : Int) : exec (.handOff freq b) s = execHandOff freq b s := (rfl)
@[simp] theorem exec_dpllLocked (freq : Nat) (phase : Nat) : exec (.dpllLocked freq phase) s = execDpllLocked freq phase s := (rfl)
@[simp] theorem exec_dpllUnlock (phase : Nat) : exec (.dpllUnlock phase) s = execDpllUnlock phase s := (rfl)
@[simp] theorem exec_holdoverExpired : exec (.holdoverExpired) s = execHoldoverExpired s := (rfl)
@[simp] theorem exec_planConfigWrite (m : Fin 22) (p : Fin 8) (v : Word) : exec (.planConfigWrite m p v) s = execPlanConfigWrite m p v s := (rfl)
@[simp] theorem exec_poolClaim (p : Fin 8) : exec (.poolClaim p) s = execPoolClaim p s := (rfl)
@[simp] theorem exec_synthReady (p : Fin 8) : exec (.synthReady p) s = execSynthReady p s := (rfl)
@[simp] theorem exec_bridgeFrame (p : Fin 8) : exec (.bridgeFrame p) s = execBridgeFrame p s := (rfl)
@[simp] theorem exec_newTiming (p : Fin 8) : exec (.newTiming p) s = execNewTiming p s := (rfl)
@[simp] theorem exec_planAlignWrite (m : Fin 22) (p : Fin 8) (v : Word) : exec (.planAlignWrite m p v) s = execPlanAlignWrite m p v s := (rfl)
@[simp] theorem exec_policyChange (m : Fin 22) (p : Fin 8) (policy : Fin 4) : exec (.policyChange m p policy) s = execPolicyChange m p policy s := (rfl)
@[simp] theorem exec_jumpNow (m : Fin 22) (p : Fin 8) : exec (.jumpNow m p) s = execJumpNow m p s := (rfl)
@[simp] theorem exec_jumpFrame (p : Fin 8) : exec (.jumpFrame p) s = execJumpFrame p s := (rfl)
@[simp] theorem exec_slewDone (p : Fin 8) : exec (.slewDone p) s = execSlewDone p s := (rfl)
@[simp] theorem exec_planEnable (m : Fin 22) (p : Fin 8) : exec (.planEnable m p) s = execPlanEnable m p s := (rfl)
@[simp] theorem exec_planStart (p : Fin 8) : exec (.planStart p) s = execPlanStart p s := (rfl)
@[simp] theorem exec_planStop (p : Fin 8) : exec (.planStop p) s = execPlanStop p s := (rfl)
@[simp] theorem exec_seedWrite (m : Fin 22) (idx : Fin 53) (seed : Fin 65536) : exec (.seedWrite m idx seed) s = execSeedWrite m idx seed s := (rfl)
@[simp] theorem exec_flush (m : Fin 22) (idx : Fin 53) : exec (.flush m idx) s = execFlush m idx s := (rfl)
@[simp] theorem exec_relock (m : Fin 22) (idx : Fin 53) : exec (.relock m idx) s = execRelock m idx s := (rfl)
@[simp] theorem exec_bandSearchDone (idx : Fin 53) (band : Fin 256) (found : Bool) : exec (.bandSearchDone idx band found) s = execBandSearchDone idx band found s := (rfl)
@[simp] theorem exec_rampUpdate (idx : Fin 53) (loop : Int) : exec (.rampUpdate idx loop) s = execRampUpdate idx loop s := (rfl)
@[simp] theorem exec_planSynthUnlock (k : Fin 10) : exec (.planSynthUnlock k) s = execPlanSynthUnlock k s := (rfl)
@[simp] theorem exec_lanePllUnlock (n : Fin 37) : exec (.lanePllUnlock n) s = execLanePllUnlock n s := (rfl)
@[simp] theorem exec_logicPllUnlock (k : Fin 5) : exec (.logicPllUnlock k) s = execLogicPllUnlock k s := (rfl)
@[simp] theorem exec_safeClockReturn (k : Fin 5) : exec (.safeClockReturn k) s = execSafeClockReturn k s := (rfl)
@[simp] theorem exec_start (m : Fin 22) (r : Fin 16) : exec (.start m r) s = execStart m r s := (rfl)
@[simp] theorem exec_rackerStarts (r : Fin 16) : exec (.rackerStarts r) s = execRackerStarts r s := (rfl)
@[simp] theorem exec_resume (m : Fin 22) (r : Fin 16) : exec (.resume m r) s = execResume m r s := (rfl)
@[simp] theorem exec_halt (m : Fin 22) (r : Fin 16) : exec (.halt m r) s = execHalt m r s := (rfl)
@[simp] theorem exec_step (m : Fin 22) (r : Fin 16) : exec (.step m r) s = execStep m r s := (rfl)
@[simp] theorem exec_programMemoryWrite (m : Fin 22) (r : Fin 16) (w : Fin 16384) (v : Word) : exec (.programMemoryWrite m r w v) s = execProgramMemoryWrite m r w v s := (rfl)
@[simp] theorem exec_ownershipWrite (m : Fin 22) (k : Fin 1932) (v : Word) : exec (.ownershipWrite m k v) s = execOwnershipWrite m k v s := (rfl)
@[simp] theorem exec_fenceWrite (m : Fin 22) (n : Fin 256) (v : Word) : exec (.fenceWrite m n v) s = execFenceWrite m n v s := (rfl)
@[simp] theorem exec_hostLease (m : Fin 22) (id : Fin 256) (dur : Fin 65536) (prio : Fin 8) : exec (.hostLease m id dur prio) s = execHostLease m id dur prio s := (rfl)
@[simp] theorem exec_hostFree (m : Fin 22) (id : Fin 256) (prio : Fin 8) : exec (.hostFree m id prio) s = execHostFree m id prio s := (rfl)
@[simp] theorem exec_leaseLapse (idx : Fin 256) : exec (.leaseLapse idx) s = execLeaseLapse idx s := (rfl)
@[simp] theorem exec_leaseTimeout (who : Fin 17) : exec (.leaseTimeout who) s = execLeaseTimeout who s := (rfl)
@[simp] theorem exec_gpiChange (k : Fin 16) (level : Bool) : exec (.gpiChange k level) s = execGpiChange k level s := (rfl)
@[simp] theorem exec_gpiApplied : exec (.gpiApplied) s = execGpiApplied s := (rfl)
@[simp] theorem exec_programTimeRead (m : Fin 22) (r : Fin 16) : exec (.programTimeRead m r) s = execProgramTimeRead m r s := (rfl)
@[simp] theorem exec_add (r : Fin 16) : exec (.add r) s = execAdd r s := (rfl)
@[simp] theorem exec_sub (r : Fin 16) : exec (.sub r) s = execSub r s := (rfl)
@[simp] theorem exec_and (r : Fin 16) : exec (.and r) s = execAnd r s := (rfl)
@[simp] theorem exec_or (r : Fin 16) : exec (.or r) s = execOr r s := (rfl)
@[simp] theorem exec_xor (r : Fin 16) : exec (.xor r) s = execXor r s := (rfl)
@[simp] theorem exec_shl (r : Fin 16) : exec (.shl r) s = execShl r s := (rfl)
@[simp] theorem exec_shr (r : Fin 16) : exec (.shr r) s = execShr r s := (rfl)
@[simp] theorem exec_sar (r : Fin 16) : exec (.sar r) s = execSar r s := (rfl)
@[simp] theorem exec_mul (r : Fin 16) : exec (.mul r) s = execMul r s := (rfl)
@[simp] theorem exec_cmp (r : Fin 16) : exec (.cmp r) s = execCmp r s := (rfl)
@[simp] theorem exec_addi (r : Fin 16) : exec (.addi r) s = execAddi r s := (rfl)
@[simp] theorem exec_andi (r : Fin 16) : exec (.andi r) s = execAndi r s := (rfl)
@[simp] theorem exec_ori (r : Fin 16) : exec (.ori r) s = execOri r s := (rfl)
@[simp] theorem exec_xori (r : Fin 16) : exec (.xori r) s = execXori r s := (rfl)
@[simp] theorem exec_shli (r : Fin 16) : exec (.shli r) s = execShli r s := (rfl)
@[simp] theorem exec_shri (r : Fin 16) : exec (.shri r) s = execShri r s := (rfl)
@[simp] theorem exec_sari (r : Fin 16) : exec (.sari r) s = execSari r s := (rfl)
@[simp] theorem exec_cmpi (r : Fin 16) : exec (.cmpi r) s = execCmpi r s := (rfl)
@[simp] theorem exec_movi (r : Fin 16) : exec (.movi r) s = execMovi r s := (rfl)
@[simp] theorem exec_lui (r : Fin 16) : exec (.lui r) s = execLui r s := (rfl)
@[simp] theorem exec_ldw (r : Fin 16) (ecc : Bool) : exec (.ldw r ecc) s = execLdw r ecc s := (rfl)
@[simp] theorem exec_stw (r : Fin 16) (ecc : Bool) : exec (.stw r ecc) s = execStw r ecc s := (rfl)
@[simp] theorem exec_ldb (r : Fin 16) (ecc : Bool) : exec (.ldb r ecc) s = execLdb r ecc s := (rfl)
@[simp] theorem exec_stb (r : Fin 16) (ecc : Bool) : exec (.stb r ecc) s = execStb r ecc s := (rfl)
@[simp] theorem exec_sld (r : Fin 16) : exec (.sld r) s = execSld r s := (rfl)
@[simp] theorem exec_sst (r : Fin 16) : exec (.sst r) s = execSst r s := (rfl)
@[simp] theorem exec_mld (r : Fin 16) : exec (.mld r) s = execMld r s := (rfl)
@[simp] theorem exec_mst (r : Fin 16) : exec (.mst r) s = execMst r s := (rfl)
@[simp] theorem exec_mfs (r : Fin 16) : exec (.mfs r) s = execMfs r s := (rfl)
@[simp] theorem exec_mts (r : Fin 16) : exec (.mts r) s = execMts r s := (rfl)
@[simp] theorem exec_bc (r : Fin 16) : exec (.bc r) s = execBc r s := (rfl)
@[simp] theorem exec_call (r : Fin 16) : exec (.call r) s = execCall r s := (rfl)
@[simp] theorem exec_jr (r : Fin 16) : exec (.jr r) s = execJr r s := (rfl)
@[simp] theorem exec_ret (r : Fin 16) : exec (.ret r) s = execRet r s := (rfl)
@[simp] theorem exec_trap (r : Fin 16) (ecc : Bool) : exec (.trap r ecc) s = execTrap r ecc s := (rfl)
@[simp] theorem exec_rett (r : Fin 16) : exec (.rett r) s = execRett r s := (rfl)
@[simp] theorem exec_stop (r : Fin 16) : exec (.stop r) s = execStop r s := (rfl)
@[simp] theorem exec_nop (r : Fin 16) : exec (.nop r) s = execNop r s := (rfl)
@[simp] theorem exec_waitl (r : Fin 16) : exec (.waitl r) s = execWaitl r s := (rfl)
@[simp] theorem exec_waitlComplete (r : Fin 16) : exec (.waitlComplete r) s = execWaitlComplete r s := (rfl)
@[simp] theorem exec_waitf (r : Fin 16) : exec (.waitf r) s = execWaitf r s := (rfl)
@[simp] theorem exec_waitfComplete (r : Fin 16) : exec (.waitfComplete r) s = execWaitfComplete r s := (rfl)
@[simp] theorem exec_waite (r : Fin 16) : exec (.waite r) s = execWaite r s := (rfl)
@[simp] theorem exec_waiteComplete (r : Fin 16) : exec (.waiteComplete r) s = execWaiteComplete r s := (rfl)
@[simp] theorem exec_waiteTimeout (r : Fin 16) : exec (.waiteTimeout r) s = execWaiteTimeout r s := (rfl)
@[simp] theorem exec_atFloor (r : Fin 16) : exec (.atFloor r) s = execAtFloor r s := (rfl)
@[simp] theorem exec_prove (r : Fin 16) : exec (.prove r) s = execProve r s := (rfl)
@[simp] theorem exec_proveComplete (r : Fin 16) : exec (.proveComplete r) s = execProveComplete r s := (rfl)
@[simp] theorem exec_proveTimeout (r : Fin 16) : exec (.proveTimeout r) s = execProveTimeout r s := (rfl)
@[simp] theorem exec_take (r : Fin 16) (ecc : Option (Fin 65536)) : exec (.take r ecc) s = execTake r ecc s := (rfl)
@[simp] theorem exec_operationWaitDone (r : Fin 16) : exec (.operationWaitDone r) s = execOperationWaitDone r s := (rfl)
@[simp] theorem exec_xset (r : Fin 16) : exec (.xset r) s = execXset r s := (rfl)
@[simp] theorem exec_amap (r : Fin 16) : exec (.amap r) s = execAmap r s := (rfl)
@[simp] theorem exec_slotm (r : Fin 16) : exec (.slotm r) s = execSlotm r s := (rfl)
@[simp] theorem exec_commit (r : Fin 16) : exec (.commit r) s = execCommit r s := (rfl)
@[simp] theorem exec_fade (r : Fin 16) : exec (.fade r) s = execFade r s := (rfl)
@[simp] theorem exec_hcommit (r : Fin 16) : exec (.hcommit r) s = execHcommit r s := (rfl)
@[simp] theorem exec_lmarkMark (r : Fin 16) : exec (.lmarkMark r) s = execLmarkMark r s := (rfl)
@[simp] theorem exec_lmarkEpoch (r : Fin 16) : exec (.lmarkEpoch r) s = execLmarkEpoch r s := (rfl)
@[simp] theorem exec_lease (r : Fin 16) : exec (.lease r) s = execLease r s := (rfl)
@[simp] theorem exec_free (r : Fin 16) : exec (.free r) s = execFree r s := (rfl)
@[simp] theorem exec_fencew (r : Fin 16) : exec (.fencew r) s = execFencew r s := (rfl)
@[simp] theorem exec_fencewComplete (r : Fin 16) : exec (.fencewComplete r) s = execFencewComplete r s := (rfl)
@[simp] theorem exec_fences (r : Fin 16) : exec (.fences r) s = execFences r s := (rfl)
@[simp] theorem exec_ring (r : Fin 16) : exec (.ring r) s = execRing r s := (rfl)
@[simp] theorem exec_postMsg (r : Fin 16) (ecc : Bool) : exec (.postMsg r ecc) s = execPostMsg r ecc s := (rfl)
@[simp] theorem exec_gpo (r : Fin 16) : exec (.gpo r) s = execGpo r s := (rfl)
@[simp] theorem exec_planGroupLands (p : Fin 8) : exec (.planGroupLands p) s = execPlanGroupLands p s := (rfl)
@[simp] theorem exec_inputPresent (idx : Fin 4608) : exec (.inputPresent idx) s = execInputPresent idx s := (rfl)
@[simp] theorem exec_inputAbsent (idx : Fin 4608) : exec (.inputAbsent idx) s = execInputAbsent idx s := (rfl)
@[simp] theorem exec_inputFrameStart (idx : Fin 4608) : exec (.inputFrameStart idx) s = execInputFrameStart idx s := (rfl)
@[simp] theorem exec_caskWindowEnter (idx : Fin 4608) (p : Fin 8) : exec (.caskWindowEnter idx p) s = execCaskWindowEnter idx p s := (rfl)
@[simp] theorem exec_caskWindowExit (idx : Fin 4608) (p : Fin 8) (line : Nat) : exec (.caskWindowExit idx p line) s = execCaskWindowExit idx p line s := (rfl)
@[simp] theorem exec_carriageChange (d : Fin 4608) : exec (.carriageChange d) s = execCarriageChange d s := (rfl)
@[simp] theorem exec_outputFrameStart (d : Fin 4608) : exec (.outputFrameStart d) s = execOutputFrameStart d s := (rfl)
@[simp] theorem exec_cellarEccError (idx : Fin 4608) (p : Fin 8) (line : Nat) (kind : Fin 3) : exec (.cellarEccError idx p line kind) s = execCellarEccError idx p line kind s := (rfl)
@[simp] theorem exec_holdLimit (d : Fin 4608) : exec (.holdLimit d) s = execHoldLimit d s := (rfl)
@[simp] theorem exec_outputPlanChange (d : Fin 4608) : exec (.outputPlanChange d) s = execOutputPlanChange d s := (rfl)
@[simp] theorem exec_admissionRequest (cls : Fin 5) (id : Fin 4608) (sub : Fin 9) : exec (.admissionRequest cls id sub) s = execAdmissionRequest cls id sub s := (rfl)
@[simp] theorem exec_admissionRetry : exec (.admissionRetry) s = execAdmissionRetry s := (rfl)
@[simp] theorem exec_admissionWithdraw (cls : Fin 5) (id : Fin 4608) (sub : Fin 9) : exec (.admissionWithdraw cls id sub) s = execAdmissionWithdraw cls id sub s := (rfl)
@[simp] theorem exec_channelPowerDown (c : Fin 64) : exec (.channelPowerDown c) s = execChannelPowerDown c s := (rfl)
@[simp] theorem exec_channelSelfRefresh (c : Fin 64) : exec (.channelSelfRefresh c) s = execChannelSelfRefresh c s := (rfl)
@[simp] theorem exec_channelWake (c : Fin 64) : exec (.channelWake c) s = execChannelWake c s := (rfl)
@[simp] theorem exec_engineTick (master : List (Fin 8 × Nat × Nat)) : exec (.engineTick master) s = execEngineTick master s := (rfl)
@[simp] theorem exec_crossfadeEnd (a : Fin 49152) : exec (.crossfadeEnd a) s = execCrossfadeEnd a s := (rfl)
@[simp] theorem exec_channelStatusBlockEnd (c : Fin 65536) : exec (.channelStatusBlockEnd c) s = execChannelStatusBlockEnd c s := (rfl)
@[simp] theorem exec_delayChange (c : Fin 49152) : exec (.delayChange c) s = execDelayChange c s := (rfl)
@[simp] theorem exec_dipEnd (c : Fin 49152) : exec (.dipEnd c) s = execDipEnd c s := (rfl)
@[simp] theorem exec_generatorRestart (n : Fin 64) : exec (.generatorRestart n) s = execGeneratorRestart n s := (rfl)
@[simp] theorem exec_i2sLoss (k : Fin 8) : exec (.i2sLoss k) s = execI2sLoss k s := (rfl)
@[simp] theorem exec_i2sGlitch (k : Fin 8) (bclk : Nat) : exec (.i2sGlitch k bclk) s = execI2sGlitch k bclk s := (rfl)
@[simp] theorem exec_i2sRateError (k : Fin 8) (ppm : Int) : exec (.i2sRateError k ppm) s = execI2sRateError k ppm s := (rfl)
@[simp] theorem exec_i2sQualified (k : Fin 8) : exec (.i2sQualified k) s = execI2sQualified k s := (rfl)
@[simp] theorem exec_frameReceived (n : Fin 36) (smd : Fin 256) (bytes : List Nat) (aborted : Bool) : exec (.frameReceived n smd bytes aborted) s = execFrameReceived n smd bytes aborted s := (rfl)
@[simp] theorem exec_fragmentReceived (n : Fin 36) (smd : Fin 256) (bytes : List Nat) (aborted : Bool) : exec (.fragmentReceived n smd bytes aborted) s = execFragmentReceived n smd bytes aborted s := (rfl)
@[simp] theorem exec_statusReceived (n : Fin 36) (arg : Fin 256) : exec (.statusReceived n arg) s = execStatusReceived n arg s := (rfl)
@[simp] theorem exec_frameSent (n : Fin 36) (cut : Option Nat) : exec (.frameSent n cut) s = execFrameSent n cut s := (rfl)
@[simp] theorem exec_statusSent (n : Fin 36) : exec (.statusSent n) s = execStatusSent n s := (rfl)
@[simp] theorem exec_classifierWrite (m : Fin 22) : exec (.classifierWrite m) s = execClassifierWrite m s := (rfl)
@[simp] theorem exec_classifierRead (m : Fin 22) : exec (.classifierRead m) s = execClassifierRead m s := (rfl)
@[simp] theorem exec_rxContextEnable (m : Fin 22) (x : Fin 4096) (v : Word) : exec (.rxContextEnable m x v) s = execRxContextEnable m x v s := (rfl)
@[simp] theorem exec_packetDeadline (x : Fin 4096) : exec (.packetDeadline x) s = execPacketDeadline x s := (rfl)
@[simp] theorem exec_legLoss (x : Fin 4096) (leg : Fin 2) : exec (.legLoss x leg) s = execLegLoss x leg s := (rfl)
@[simp] theorem exec_lineRelease (x : Fin 4096) (ts line : Nat) : exec (.lineRelease x ts line) s = execLineRelease x ts line s := (rfl)
@[simp] theorem exec_txContextEnable (m : Fin 22) (y : Fin 4096) (v : Word) : exec (.txContextEnable m y v) s = execTxContextEnable m y v s := (rfl)
@[simp] theorem exec_txContextStart (y : Fin 4096) : exec (.txContextStart y) s = execTxContextStart y s := (rfl)
@[simp] theorem exec_packetDeparture (y : Fin 4096) (k : Nat) : exec (.packetDeparture y k) s = execPacketDeparture y k s := (rfl)
@[simp] theorem exec_announce (n : Fin 36) (domain : Fin 256) (port : Nat × Nat) (dataset : List Nat) (mac ip : Nat) (utc : Fin 65536) (log : Fin 12) : exec (.announce n domain port dataset mac ip utc log) s = execAnnounce n domain port dataset mac ip utc log s := (rfl)
@[simp] theorem exec_sync (n : Fin 36) (domain : Fin 256) (port : Nat × Nat) (seq : Fin 65536) (twoStep : Bool) (origin corr : Int) (lane : Fin 8) : exec (.sync n domain port seq twoStep origin corr lane) s = execSync n domain port seq twoStep origin corr lane s := (rfl)
@[simp] theorem exec_followUp (n : Fin 36) (domain : Fin 256) (port : Nat × Nat) (seq : Fin 65536) (origin corr : Int) : exec (.followUp n domain port seq origin corr) s = execFollowUp n domain port seq origin corr s := (rfl)
@[simp] theorem exec_delayReq (n : Fin 36) : exec (.delayReq n) s = execDelayReq n s := (rfl)
@[simp] theorem exec_delayResp (n : Fin 36) (domain : Fin 256) (port : Nat × Nat) (seq : Fin 65536) (t4 corr : Int) : exec (.delayResp n domain port seq t4 corr) s = execDelayResp n domain port seq t4 corr s := (rfl)
@[simp] theorem exec_announceTimeout (n : Fin 36) : exec (.announceTimeout n) s = execAnnounceTimeout n s := (rfl)
@[simp] theorem exec_servoEvaluation (n : Fin 36) : exec (.servoEvaluation n) s = execServoEvaluation n s := (rfl)
@[simp] theorem exec_accept (m : Fin 22) (n : Fin 36) : exec (.accept m n) s = execAccept m n s := (rfl)
@[simp] theorem exec_ptpRestart (m : Fin 22) (n : Fin 36) : exec (.ptpRestart m n) s = execPtpRestart m n s := (rfl)
@[simp] theorem exec_deviceTimeRead (m : Fin 22) : exec (.deviceTimeRead m) s = execDeviceTimeRead m s := (rfl)
@[simp] theorem exec_planPositionRead (m : Fin 22) (p : Fin 8) : exec (.planPositionRead m p) s = execPlanPositionRead m p s := (rfl)
@[simp] theorem exec_headStart (h : Fin 32) : exec (.headStart h) s = execHeadStart h s := (rfl)
@[simp] theorem exec_headStop (h : Fin 32) : exec (.headStop h) s = execHeadStop h s := (rfl)
@[simp] theorem exec_latchDecision (h : Fin 32) : exec (.latchDecision h) s = execLatchDecision h s := (rfl)
@[simp] theorem exec_flip (h : Fin 32) : exec (.flip h) s = execFlip h s := (rfl)
@[simp] theorem exec_underrun (h : Fin 32) (j : Fin 8) : exec (.underrun h j) s = execUnderrun h j s := (rfl)
@[simp] theorem exec_lutDataWrite (m : Fin 22) (h : Fin 32) (v : Word) : exec (.lutDataWrite m h v) s = execLutDataWrite m h v s := (rfl)
@[simp] theorem exec_tileRowComplete (h : Fin 32) : exec (.tileRowComplete h) s = execTileRowComplete h s := (rfl)
@[simp] theorem exec_regionPushPacket (h : Fin 32) : exec (.regionPushPacket h) s = execRegionPushPacket h s := (rfl)
@[simp] theorem exec_regionPushFrameEnd (h : Fin 32) : exec (.regionPushFrameEnd h) s = execRegionPushFrameEnd h s := (rfl)
@[simp] theorem exec_verdict (d : Fin 4608) : exec (.verdict d) s = execVerdict d s := (rfl)
@[simp] theorem exec_rgenAdvance : exec (.rgenAdvance) s = execRgenAdvance s := (rfl)
@[simp] theorem exec_recordSelect (m : Fin 22) (v : Word) : exec (.recordSelect m v) s = execRecordSelect m v s := (rfl)
@[simp] theorem exec_booksClose : exec (.booksClose) s = execBooksClose s := (rfl)
@[simp] theorem exec_ledgerCheck : exec (.ledgerCheck) s = execLedgerCheck s := (rfl)
@[simp] theorem exec_ledgerEccError : exec (.ledgerEccError) s = execLedgerEccError s := (rfl)
@[simp] theorem exec_epochRequest (m : Fin 22) : exec (.epochRequest m) s = execEpochRequest m s := (rfl)
@[simp] theorem exec_epochStart : exec (.epochStart) s = execEpochStart s := (rfl)
@[simp] theorem exec_hold (m : Fin 22) : exec (.hold m) s = execHold m s := (rfl)
@[simp] theorem exec_release (m : Fin 22) : exec (.release m) s = execRelease m s := (rfl)
@[simp] theorem exec_ledgerSelect (m : Fin 22) (v : Word) : exec (.ledgerSelect m v) s = execLedgerSelect m v s := (rfl)
@[simp] theorem exec_markRead (m : Fin 22) : exec (.markRead m) s = execMarkRead m s := (rfl)
@[simp] theorem exec_stateSent (claimIn : Bool) : exec (.stateSent claimIn) s = execStateSent claimIn s := (rfl)
@[simp] theorem exec_stateReceived (len crc : Nat) (groups : List Nat) : exec (.stateReceived len crc groups) s = execStateReceived len crc groups s := (rfl)
@[simp] theorem exec_mirrorLinkDown : exec (.mirrorLinkDown) s = execMirrorLinkDown s := (rfl)
@[simp] theorem exec_mirrorLinkUp : exec (.mirrorLinkUp) s = execMirrorLinkUp s := (rfl)
@[simp] theorem exec_journalEntry (m : Fin 22) (addr len data : Nat) : exec (.journalEntry m addr len data) s = execJournalEntry m addr len data s := (rfl)
@[simp] theorem exec_journalStallRelease : exec (.journalStallRelease) s = execJournalStallRelease s := (rfl)
@[simp] theorem exec_journalReceived (len crc : Nat) (groups : List Nat) : exec (.journalReceived len crc groups) s = execJournalReceived len crc groups s := (rfl)
@[simp] theorem exec_journalApply : exec (.journalApply) s = execJournalApply s := (rfl)
@[simp] theorem exec_oprecReceived (len : Nat) (r : Fin 16) (result : Word) (groups : List Machine.PlanGroup) : exec (.oprecReceived len r result groups) s = execOprecReceived len r result groups s := (rfl)
@[simp] theorem exec_effectReceived (len : Nat) (r : Fin 16) (kind : Fin 10) (frame line : Nat) (words : List Nat) : exec (.effectReceived len r kind frame line words) s = execEffectReceived len r kind frame line words s := (rfl)
@[simp] theorem exec_ckptReceived (len crc : Nat) (groups : List Nat) : exec (.ckptReceived len crc groups) s = execCkptReceived len crc groups s := (rfl)
@[simp] theorem exec_tokenRenew : exec (.tokenRenew) s = execTokenRenew s := (rfl)
@[simp] theorem exec_tokenLapse : exec (.tokenLapse) s = execTokenLapse s := (rfl)
@[simp] theorem exec_fenceWaitExpiry : exec (.fenceWaitExpiry) s = execFenceWaitExpiry s := (rfl)
@[simp] theorem exec_claimInLow : exec (.claimInLow) s = execClaimInLow s := (rfl)
@[simp] theorem exec_fenceIn : exec (.fenceIn) s = execFenceIn s := (rfl)
@[simp] theorem exec_takeoverComplete : exec (.takeoverComplete) s = execTakeoverComplete s := (rfl)
@[simp] theorem exec_unfence (m : Fin 22) : exec (.unfence m) s = execUnfence m s := (rfl)
@[simp] theorem exec_goSolo (m : Fin 22) : exec (.goSolo m) s = execGoSolo m s := (rfl)
@[simp] theorem exec_catchup (m : Option (Fin 22)) : exec (.catchup m) s = execCatchup m s := (rfl)
@[simp] theorem exec_catchupCapture : exec (.catchupCapture) s = execCatchupCapture s := (rfl)
@[simp] theorem exec_imageReceived (len : Nat) (memory : Option (Fin 16)) (part : Machine.Image) (last : Bool) : exec (.imageReceived len memory part last) s = execImageReceived len memory part last s := (rfl)
@[simp] theorem exec_catchupInstall : exec (.catchupInstall) s = execCatchupInstall s := (rfl)
@[simp] theorem exec_mailRecord (len crc : Nat) (groups : List Nat) : exec (.mailRecord len crc groups) s = execMailRecord len crc groups s := (rfl)
@[simp] theorem exec_mailRecordAck (len crc : Nat) (groups : List Nat) : exec (.mailRecordAck len crc groups) s = execMailRecordAck len crc groups s := (rfl)
@[simp] theorem exec_ringRecord (len crc : Nat) (groups : List Nat) : exec (.ringRecord len crc groups) s = execRingRecord len crc groups s := (rfl)
@[simp] theorem exec_mirrorMailSend (r : Fin 16) : exec (.mirrorMailSend r) s = execMirrorMailSend r s := (rfl)
@[simp] theorem exec_credit (n : Fin 36) (src : Fin 64) (count : Nat) : exec (.credit n src count) s = execCredit n src count s := (rfl)
@[simp] theorem exec_hello (n : Fin 36) (addr : Fin 64) (far : Fin 64) (twin : Fin 64) (mode : Fin 16) (inc : Nat) : exec (.hello n addr far twin mode inc) s = execHello n addr far twin mode inc s := (rfl)
@[simp] theorem exec_route (n : Fin 36) (src : Fin 64) (entries : List (Fin 64 × Fin 4 × Fin 16)) (near : List (Fin 64 × Fin 64)) : exec (.route n src entries near) s = execRoute n src entries near s := (rfl)
@[simp] theorem exec_routeExpiry (a : Fin 32) : exec (.routeExpiry a) s = execRouteExpiry a s := (rfl)
@[simp] theorem exec_heartbeat (n : Fin 36) (dest src : Fin 64) (hops : Fin 4) (term : Fin 65536) (frame digest : Nat) (excluded : List (Fin 32)) (phase : Int) : exec (.heartbeat n dest src hops term frame digest excluded phase) s = execHeartbeat n dest src hops term frame digest excluded phase s := (rfl)
@[simp] theorem exec_heartbeatMissed : exec (.heartbeatMissed) s = execHeartbeatMissed s := (rfl)
@[simp] theorem exec_election : exec (.election) s = execElection s := (rfl)
@[simp] theorem exec_exclude (a : Fin 32) : exec (.exclude a) s = execExclude a s := (rfl)
@[simp] theorem exec_leaseReq (n : Fin 36) (dest src : Fin 64) (hops : Fin 4) (id : Fin 256) (dur prio index : Nat) (free : Bool) (srcDev slots : Fin 64) : exec (.leaseReq n dest src hops id dur prio index free srcDev slots) s = execLeaseReq n dest src hops id dur prio index free srcDev slots s := (rfl)
@[simp] theorem exec_leaseAns (n : Fin 36) (dest src : Fin 64) (hops : Fin 4) (id : Fin 256) (status : Fin 4) (e : Nat) : exec (.leaseAns n dest src hops id status e) s = execLeaseAns n dest src hops id status e s := (rfl)
@[simp] theorem exec_leaseUpd (n : Fin 36) (dest src : Fin 64) (hops : Fin 4) (id : Fin 224) (addr : Fin 64) (index : Fin 32) (e : Nat) (runs : List Machine.HopH) : exec (.leaseUpd n dest src hops id addr index e runs) s = execLeaseUpd n dest src hops id addr index e runs s := (rfl)
@[simp] theorem exec_leaseSync (n : Fin 36) (dest src : Fin 64) (hops : Fin 4) (copy : Option (List (Fin 224 × Fin 64 × Fin 32 × Nat))) : exec (.leaseSync n dest src hops copy) s = execLeaseSync n dest src hops copy s := (rfl)
@[simp] theorem exec_inherit (n : Fin 36) (dest src : Fin 64) (hops : Fin 4) (failed : Fin 64) : exec (.inherit n dest src hops failed) s = execInherit n dest src hops failed s := (rfl)
@[simp] theorem exec_feed (n : Fin 36) (dest src : Fin 64) (hops : Fin 4) (k : Fin 96) (run : Machine.RunH) : exec (.feed n dest src hops k run) s = execFeed n dest src hops k run s := (rfl)
@[simp] theorem exec_select (n : Fin 36) (dest src : Fin 64) (hops : Fin 4) (k : Fin 96) (ch : Fin 128) (id : Fin 8192) : exec (.select n dest src hops k ch id) s = execSelect n dest src hops k ch id s := (rfl)
@[simp] theorem exec_selectAck (n : Fin 36) (dest src : Fin 64) (hops : Fin 4) (ch : Fin 128) (width : Option (Fin 4)) : exec (.selectAck n dest src hops ch width) s = execSelectAck n dest src hops ch width s := (rfl)
@[simp] theorem exec_record (n : Fin 36) (dest src : Fin 64) (hops : Fin 4) (ch : Fin 128) (tag rgen digest : Nat) (checks : List Nat) (valid damaged : Fin 16) : exec (.record n dest src hops ch tag rgen digest checks valid damaged) s = execRecord n dest src hops ch tag rgen digest checks valid damaged s := (rfl)
@[simp] theorem exec_audio (n : Fin 36) (dest src : Fin 64) (hops : Fin 4) (m : Fin 768) (ticks : List (List Nat)) : exec (.audio n dest src hops m ticks) s = execAudio n dest src hops m ticks s := (rfl)
@[simp] theorem exec_mail (n : Fin 36) (dest src : Fin 64) (hops : Fin 4) (q : Fin 16) (code : Fin 65536) (words : List Nat) : exec (.mail n dest src hops q code words) s = execMail n dest src hops q code words s := (rfl)
@[simp] theorem exec_mailAck (n : Fin 36) (dest src : Fin 64) (hops : Fin 4) (q : Fin 16) (code : Fin 65536) : exec (.mailAck n dest src hops q code) s = execMailAck n dest src hops q code s := (rfl)
@[simp] theorem exec_fabricMailSend (r : Fin 16) : exec (.fabricMailSend r) s = execFabricMailSend r s := (rfl)
@[simp] theorem exec_watchdogExpiry : exec (.watchdogExpiry) s = execWatchdogExpiry s := (rfl)
@[simp] theorem exec_coreFault : exec (.coreFault) s = execCoreFault s := (rfl)
@[simp] theorem exec_mgtCtrlRestart (m : Fin 22) : exec (.mgtCtrlRestart m) s = execMgtCtrlRestart m s := (rfl)
@[simp] theorem exec_boot (store : List Nat) (dropped : Bool) (other : List (Nat × List (Nat × Nat))) : exec (.boot store dropped other) s = execBoot store dropped other s := (rfl)
@[simp] theorem exec_sensorUpdate (idx : Fin 64) (reading : Option Int) : exec (.sensorUpdate idx reading) s = execSensorUpdate idx reading s := (rfl)
@[simp] theorem exec_alarmRaise (idx : Fin 64) : exec (.alarmRaise idx) s = execAlarmRaise idx s := (rfl)
@[simp] theorem exec_alarmClear (idx : Fin 64) : exec (.alarmClear idx) s = execAlarmClear idx s := (rfl)
@[simp] theorem exec_logFlush (error : Bool) : exec (.logFlush error) s = execLogFlush error s := (rfl)
@[simp] theorem exec_sensorRead : exec (.sensorRead) s = execSensorRead s := (rfl)
@[simp] theorem exec_threshSet : exec (.threshSet) s = execThreshSet s := (rfl)
@[simp] theorem exec_logRead : exec (.logRead) s = execLogRead s := (rfl)
@[simp] theorem exec_storeRead : exec (.storeRead) s = execStoreRead s := (rfl)
@[simp] theorem exec_storeLoad (bytes : List Nat) (fail : Bool) : exec (.storeLoad bytes fail) s = execStoreLoad bytes fail s := (rfl)
@[simp] theorem exec_otpRead : exec (.otpRead) s = execOtpRead s := (rfl)
@[simp] theorem exec_otpBankWrite (bytes : List Nat) (fail : Bool) (stuck : List (Fin 16384)) : exec (.otpBankWrite bytes fail stuck) s = execOtpBankWrite bytes fail stuck s := (rfl)
@[simp] theorem exec_otpBoardWrite (stuck : List (Fin 16384)) : exec (.otpBoardWrite stuck) s = execOtpBoardWrite stuck s := (rfl)
@[simp] theorem exec_keyInstall (stuck : List (Fin 16384)) : exec (.keyInstall stuck) s = execKeyInstall stuck s := (rfl)
@[simp] theorem exec_keyRevoke (stuck : List (Fin 16384)) : exec (.keyRevoke stuck) s = execKeyRevoke stuck s := (rfl)
@[simp] theorem exec_ping : exec (.ping) s = execPing s := (rfl)
@[simp] theorem exec_updBegin : exec (.updBegin) s = execUpdBegin s := (rfl)
@[simp] theorem exec_updChunk (bytes : List Nat) (fail : Bool) : exec (.updChunk bytes fail) s = execUpdChunk bytes fail s := (rfl)
@[simp] theorem exec_updVerify : exec (.updVerify) s = execUpdVerify s := (rfl)
@[simp] theorem exec_verifyDone : exec (.verifyDone) s = execVerifyDone s := (rfl)
@[simp] theorem exec_updActivate : exec (.updActivate) s = execUpdActivate s := (rfl)
@[simp] theorem exec_updAbort : exec (.updAbort) s = execUpdAbort s := (rfl)
@[simp] theorem exec_updConfirm : exec (.updConfirm) s = execUpdConfirm s := (rfl)
@[simp] theorem exec_updConfirmKey (m : Fin 22) (key : Fin 65536) : exec (.updConfirmKey m key) s = execUpdConfirmKey m key s := (rfl)
@[simp] theorem exec_autoConfirm : exec (.autoConfirm) s = execAutoConfirm s := (rfl)
@[simp] theorem exec_healthWindowExpiry : exec (.healthWindowExpiry) s = execHealthWindowExpiry s := (rfl)
@[simp] theorem exec_mbxPost (m : Fin 22) (c : Fin 394) : exec (.mbxPost m c) s = execMbxPost m c s := (rfl)
@[simp] theorem exec_mbxFree (m : Fin 22) (c : Fin 394) : exec (.mbxFree m c) s = execMbxFree m c s := (rfl)
@[simp] theorem exec_doorbellSet (m : Fin 22) (b : Fin 21) (bits : Word) : exec (.doorbellSet m b bits) s = execDoorbellSet m b bits s := (rfl)
@[simp] theorem exec_doorbellClear (m : Fin 22) (b : Fin 21) (bits : Word) : exec (.doorbellClear m b bits) s = execDoorbellClear m b bits s := (rfl)
@[simp] theorem exec_doorbellMask (m : Fin 22) (b : Fin 21) (mask : Word) : exec (.doorbellMask m b mask) s = execDoorbellMask m b mask s := (rfl)
@[simp] theorem exec_cbsFrameReceived (bytes : List Nat) : exec (.cbsFrameReceived bytes) s = execCbsFrameReceived bytes s := (rfl)
@[simp] theorem exec_cbsTransmit : exec (.cbsTransmit) s = execCbsTransmit s := (rfl)
@[simp] theorem exec_collision (late : Bool) : exec (.collision late) s = execCollision late s := (rfl)
@[simp] theorem exec_backoffExpiry : exec (.backoffExpiry) s = execBackoffExpiry s := (rfl)
@[simp] theorem exec_perst : exec (.perst) s = execPerst s := (rfl)
@[simp] theorem exec_endpointReady (speed : Fin 6) (width : Fin 9) : exec (.endpointReady speed width) s = execEndpointReady speed width s := (rfl)
@[simp] theorem exec_linkDown : exec (.linkDown) s = execLinkDown s := (rfl)
@[simp] theorem exec_functionLevelReset (f : Fin 2) : exec (.functionLevelReset f) s = execFunctionLevelReset f s := (rfl)
@[simp] theorem exec_d3hotEntry (f : Fin 2) : exec (.d3hotEntry f) s = execD3hotEntry f s := (rfl)
@[simp] theorem exec_lockAcquire (m : Fin 22) (n : Fin 64) : exec (.lockAcquire m n) s = execLockAcquire m n s := (rfl)
@[simp] theorem exec_lockRelease (m : Fin 22) (n : Fin 64) : exec (.lockRelease m n) s = execLockRelease m n s := (rfl)
@[simp] theorem exec_registerWrite (m : Fin 22) (addr len data : Nat) : exec (.registerWrite m addr len data) s = execRegisterWrite m addr len data s := (rfl)
@[simp] theorem exec_ppsOutEdge : exec (.ppsOutEdge) s = execPpsOutEdge s := (rfl)
@[simp] theorem exec_ppsInEdge : exec (.ppsInEdge) s = execPpsInEdge s := (rfl)
@[simp] theorem exec_testLogicReset : exec (.testLogicReset) s = execTestLogicReset s := (rfl)
@[simp] theorem exec_extest (levels cells : Nat) : exec (.extest levels cells) s = execExtest levels cells s := (rfl)
@[simp] theorem exec_idcode : exec (.idcode) s = execIdcode s := (rfl)
@[simp] theorem exec_samplePreload (levels cells : Nat) : exec (.samplePreload levels cells) s = execSamplePreload levels cells s := (rfl)
@[simp] theorem exec_clamp : exec (.clamp) s = execClamp s := (rfl)
@[simp] theorem exec_highz : exec (.highz) s = execHighz s := (rfl)
@[simp] theorem exec_bypass : exec (.bypass) s = execBypass s := (rfl)
@[simp] theorem exec_devreset : exec (.devreset) s = execDevreset s := (rfl)
@[simp] theorem exec_dbgaccRead (w : Fin 8589934592) : exec (.dbgaccRead w) s = execDbgaccRead w s := (rfl)
@[simp] theorem exec_dbgaccWrite (w : Fin 8589934592) (v : Word) : exec (.dbgaccWrite w v) s = execDbgaccWrite w v s := (rfl)
@[simp] theorem exec_dbgaccCapture : exec (.dbgaccCapture) s = execDbgaccCapture s := (rfl)
@[simp] theorem exec_fenceInReleased : exec (.fenceInReleased) s = execFenceInReleased s := (rfl)
@[simp] theorem exec_d3hotExit (f : Fin 2) : exec (.d3hotExit f) s = execD3hotExit f s := (rfl)
@[simp] theorem exec_lutDataRead (m : Fin 22) (h : Fin 32) : exec (.lutDataRead m h) s = execLutDataRead m h s := (rfl)
@[simp] theorem exec_i2sFrameReceived (k : Fin 8) (left right : Nat) : exec (.i2sFrameReceived k left right) s = execI2sFrameReceived k left right s := (rfl)
@[simp] theorem exec_inputFrameComplete (idx : Fin 4736) : exec (.inputFrameComplete idx) s = execInputFrameComplete idx s := (rfl)
@[simp] theorem exec_caskEccError : exec (.caskEccError) s = execCaskEccError s := (rfl)
@[simp] theorem exec_proofStoreEccError (id : Fin 8192) (out : Bool) (age : Fin 8) : exec (.proofStoreEccError id out age) s = execProofStoreEccError id out age s := (rfl)
@[simp] theorem exec_dbgaccDone : exec (.dbgaccDone) s = execDbgaccDone s := (rfl)

end Sys2Proof.Machine
end

