-- ==== Sys2Proof/Laws/Fabric.lean ====
section
/-! SUPPORT. What the reception of a fabric message does (chapter 14). -/

namespace Sys2Proof.Machine

/-- A message other than a credit that a trunk delivers to this device is taken after its count and its credit. -/
theorem State.receive_taken (s : State) (n : Nat) (m : Msg) (f : State → State) (h0 : s.trunkUp n = true) (h1 : m.type ≠ 1)
    (h2 : ((s.bump (FAB_CNT_COUNT 0)).returnCredit n).fab.excluded.contains m.src = false)
    (h3 : m.dest = linkLocal ∨ m.dest = ((s.bump (FAB_CNT_COUNT 0)).returnCredit n).fabAddr) :
    s.receive n m f = f ((s.bump (FAB_CNT_COUNT 0)).returnCredit n) := by
  unfold State.receive
  dsimp only
  rw [if_neg (by rw [h0]; decide), if_neg h1, if_neg (by rw [h2]; simp), if_pos h3]

/-- A credit is taken after its count. -/
theorem State.receive_credit (s : State) (n : Nat) (m : Msg) (f : State → State) (h0 : s.trunkUp n = true) (h1 : m.type = 1)
    (h2 : (s.bump (FAB_CNT_COUNT 0)).fab.excluded.contains m.src = false) (h3 : m.dest = linkLocal) :
    s.receive n m f = f (s.bump (FAB_CNT_COUNT 0)) := by
  unfold State.receive
  dsimp only
  rw [if_neg (by rw [h0]; decide), if_pos h1, if_neg (by rw [h2]; simp), if_pos (.inl h3)]

/-- HELLO is taken from an excluded device too. -/
theorem State.receive_hello (s : State) (n : Nat) (m : Msg) (f : State → State) (h0 : s.trunkUp n = true) (h1 : m.type = 2)
    (h3 : m.dest = linkLocal) : s.receive n m f = f ((s.bump (FAB_CNT_COUNT 0)).returnCredit n) := by
  unfold State.receive
  dsimp only
  rw [if_neg (by rw [h0]; decide), h1, if_neg (by decide : ¬2 = 1), if_neg (by simp), if_pos (.inl h3)]

/-- A pair list gives the value last stored under a key. -/
theorem pairGet_pairSet {α : Type} (l : List (Nat × α)) (k : Nat) (v : α) : pairGet (pairSet l k v) k = some v := by
  have h : (l.filter fun e => e.1 != k).find? (fun e => e.1 == k) = none := by simp
  simp [pairGet, pairSet, List.find?_append, h]

end Sys2Proof.Machine
end

