-- ==== Sys2Proof/Laws/Kept.lean ====
section
/-! SUPPORT. What every operation keeps: the queue of the commands that wait, the time, and the canonical form of the stores. -/

namespace Sys2Proof.Machine

/-- What lies between two states of one command: the same queue, the same time, and the canonical form. -/
structure Kept (s t : State) : Prop where
  pending : t.pending = s.pending
  now : t.now = s.now
  canon : s.canon = true → t.canon = true

theorem Kept.refl (s : State) : Kept s s := ⟨rfl, rfl, id⟩

theorem Kept.trans {r s t : State} (h : Kept r s) (k : Kept s t) : Kept r t :=
  ⟨k.pending.trans h.pending, k.now.trans h.now, fun c => k.canon (h.canon c)⟩

theorem kept_id (s : State) : Kept s (id s) := Kept.refl s

theorem kept_ite {s a b : State} {p : Prop} [Decidable p] (ha : Kept s a) (hb : Kept s b) : Kept s (if p then a else b) := by
  split <;> assumption

theorem kept_ite_fst {α : Type} {s : State} {a b : State × α} {p : Prop} [Decidable p] (ha : Kept s a.1) (hb : Kept s b.1) :
    Kept s (if p then a else b).1 := by
  split <;> assumption

theorem kept_cond {s a b : State} {p : Bool} (ha : Kept s a) (hb : Kept s b) : Kept s (bif p then a else b) := by
  cases p <;> assumption

/-- A change of other fields keeps it. -/
theorem kept_mk {s t : State} {lastRead' : Nat} {free' : Nat} {out' : List Out} {log' : List LogRec} {top' : TopH} {trl' : List (Nat × TrlH)} {cand' : List (Nat × CandH)} {dpll' : DpllH} {plan' : List (Nat × PlanH)} {syn' : List (Nat × SynH)} {ptp' : List (Nat × PtpH)} {rck' : List (Nat × RckH)} {pci' : PciH} {ins' : List (Nat × InH)} {outs' : List (Nat × OutH)} {adm' : AdmH} {chans' : List (Nat × ChanH)} {ldg' : LdgH} {aud' : AudH} {src' : List (Nat × SrcH)} {est' : List (Nat × ElasticH)} {dst' : List (Nat × DstH)} {gens' : List (Nat × GenH)} {i2s' : List (Nat × I2sH)} {mvh' : List (Nat × MvhH)} {twn' : TwnH} {cls' : List (Nat × List Nat)} {rx' : List (Nat × RxH)} {tx' : List (Nat × TxH)} {mac' : List (Nat × MacH)} {ctn' : List (Nat × CtnH)} {fab' : FabH} {chn' : List (Nat × ChnH)} {mail' : List (Nat × MailH)} {nor' : NorH} {mgt' : MgtH} {sens' : List (Nat × SensH)} {cbs' : CbsH} {jtag' : JtagH} {pin' : PinH} (h : Kept s t) :
    Kept s { t with lastRead := lastRead', free := free', out := out', log := log', top := top', trl := trl', cand := cand', dpll := dpll', plan := plan', syn := syn', ptp := ptp', rck := rck', pci := pci', ins := ins', outs := outs', adm := adm', chans := chans', ldg := ldg', aud := aud', src := src', est := est', dst := dst', gens := gens', i2s := i2s', mvh := mvh', twn := twn', cls := cls', rx := rx', tx := tx', mac := mac', ctn := ctn', fab := fab', chn := chn', mail := mail', nor := nor', mgt := mgt', sens := sens', cbs := cbs', jtag := jtag', pin := pin' } :=
  ⟨h.pending, h.now, h.canon⟩

theorem kept_mk_iff {s t : State} {lastRead' : Nat} {free' : Nat} {out' : List Out} {log' : List LogRec} {top' : TopH} {trl' : List (Nat × TrlH)} {cand' : List (Nat × CandH)} {dpll' : DpllH} {plan' : List (Nat × PlanH)} {syn' : List (Nat × SynH)} {ptp' : List (Nat × PtpH)} {rck' : List (Nat × RckH)} {pci' : PciH} {ins' : List (Nat × InH)} {outs' : List (Nat × OutH)} {adm' : AdmH} {chans' : List (Nat × ChanH)} {ldg' : LdgH} {aud' : AudH} {src' : List (Nat × SrcH)} {est' : List (Nat × ElasticH)} {dst' : List (Nat × DstH)} {gens' : List (Nat × GenH)} {i2s' : List (Nat × I2sH)} {mvh' : List (Nat × MvhH)} {twn' : TwnH} {cls' : List (Nat × List Nat)} {rx' : List (Nat × RxH)} {tx' : List (Nat × TxH)} {mac' : List (Nat × MacH)} {ctn' : List (Nat × CtnH)} {fab' : FabH} {chn' : List (Nat × ChnH)} {mail' : List (Nat × MailH)} {nor' : NorH} {mgt' : MgtH} {sens' : List (Nat × SensH)} {cbs' : CbsH} {jtag' : JtagH} {pin' : PinH} :
    Kept s { t with lastRead := lastRead', free := free', out := out', log := log', top := top', trl := trl', cand := cand', dpll := dpll', plan := plan', syn := syn', ptp := ptp', rck := rck', pci := pci', ins := ins', outs := outs', adm := adm', chans := chans', ldg := ldg', aud := aud', src := src', est := est', dst := dst', gens := gens', i2s := i2s', mvh := mvh', twn := twn', cls := cls', rx := rx', tx := tx', mac := mac', ctn := ctn', fab := fab', chn := chn', mail := mail', nor := nor', mgt := mgt', sens := sens', cbs := cbs', jtag := jtag', pin := pin' } ↔ Kept s t :=
  ⟨fun h => ⟨h.pending, h.now, h.canon⟩, fun h => ⟨h.pending, h.now, h.canon⟩⟩

theorem kept_foldOver {α : Type} {s : State} {l : List α} {f : α → State → State} (hf : ∀ a u, Kept u (f a u)) {t : State} (h : Kept s t) :
    Kept s (foldOver l f t) := by
  induction l generalizing t with
  | nil => exact h
  | cons a l ih => exact ih (h.trans (hf a t))

theorem kept_foldOver_fst {α β : Type} {s : State} {l : List α} {f : α → State × β → State × β} (hf : ∀ a u, Kept u.1 (f a u).1)
    {t : State × β} (h : Kept s t.1) : Kept s (foldOver l f t).1 := by
  induction l generalizing t with
  | nil => exact h
  | cons a l ih => exact ih (h.trans (hf a t))

theorem kept_of_fst {α : Type} {s t : State} {x : State × α} {v : α} (h : x = (t, v)) (hk : Kept s x.1) : Kept s t := by
  rw [h] at hk; exact hk

theorem kept_setWord {b s : State} {a : Nat} {w : Word} (h : Kept b s) : Kept b (s.setWord a w) := by
  refine h.trans ⟨rfl, rfl, fun c => ?_⟩
  simp only [State.canon, Bool.and_eq_true] at c ⊢
  exact ⟨⟨s.regs_wf_setWord a w c.1.1, c.1.2⟩, c.2⟩

theorem storeAbove_filter {α : Type} (p : Nat × α → Bool) (l : List (Nat × α)) {b : Nat} (h : storeAbove b l = true) :
    storeAbove b (l.filter p) = true := by
  induction l generalizing b with
  | nil => rfl
  | cons e l ih =>
    obtain ⟨k, v⟩ := e
    simp only [storeAbove, Bool.and_eq_true, decide_eq_true_eq] at h
    simp only [List.filter_cons]
    split
    · simp only [storeAbove, Bool.and_eq_true, decide_eq_true_eq]
      exact ⟨h.1, ih h.2⟩
    · exact ih h.2

theorem storeWf_filter {α : Type} [DecidableEq α] (d : Nat → α) (p : Nat × α → Bool) (l : List (Nat × α)) (h : storeWf d l = true) :
    storeWf d (l.filter p) = true := by
  induction l with
  | nil => rfl
  | cons e l ih =>
    obtain ⟨k, v⟩ := e
    simp only [storeWf, Bool.and_eq_true] at h
    simp only [List.filter_cons]
    split
    · simp only [storeWf, Bool.and_eq_true]
      exact ⟨⟨h.1.1, storeAbove_filter p l h.1.2⟩, ih h.2⟩
    · exact ih h.2

theorem kept_resetRange {b s : State} {lo hi : Nat} (h : Kept b s) : Kept b (s.resetRange lo hi) := by
  refine h.trans ⟨rfl, rfl, fun c => ?_⟩
  simp only [State.canon, Bool.and_eq_true] at c ⊢
  exact ⟨⟨storeWf_filter _ _ _ c.1.1, c.1.2⟩, c.2⟩

theorem kept_setOtpByte {b s : State} {a v : Nat} (h : Kept b s) : Kept b (s.setOtpByte a v) := by
  refine h.trans ⟨rfl, rfl, fun c => ?_⟩
  simp only [State.canon, Bool.and_eq_true] at c ⊢
  exact ⟨c.1, storeWf_set _ _ _ _ c.2⟩

theorem kept_cellar {b s : State} {a : Nat} {v : BitVec 8} (h : Kept b s) :
    Kept b { s with cellar := storeSet (fun _ => (0 : BitVec 8)) s.cellar a v } := by
  refine h.trans ⟨rfl, rfl, fun c => ?_⟩
  simp only [State.canon, Bool.and_eq_true] at c ⊢
  exact ⟨⟨c.1.1, storeWf_set _ _ _ _ c.1.2⟩, c.2⟩

theorem kept_forN {b s : State} {n : Nat} {f : Nat → State → State} (hf : ∀ a u, Kept u (f a u)) (h : Kept b s) : Kept b (s.forN n f) :=
  kept_foldOver hf h

theorem kept_forL {α : Type} {b s : State} {l : List α} {f : α → State → State} (hf : ∀ a u, Kept u (f a u)) (h : Kept b s) :
    Kept b (s.forL l f) :=
  kept_foldOver hf h

end Sys2Proof.Machine
end

