-- ==== Sys2Proof/Laws/KeptOps.lean ====
section
/-! SUPPORT. What the operations of Machine/Ops.lean keep. -/

set_option linter.unusedTactic false
set_option linter.unreachableTactic false
set_option linter.unusedSimpArgs false

namespace Sys2Proof.Machine

theorem kept_wr {s₀ : State} (s : State) (f : Field) (v : Nat)  (hk : Kept s₀ s) : Kept s₀ (State.wr s f v) := by
  refine Kept.trans hk ?_
  simp only [State.wr]
  repeat' (with_reducible first | exact Kept.refl _ | exact kept_id _ | apply kept_setWord | apply kept_ite | apply kept_ite_fst | apply kept_cond | apply kept_foldOver | apply kept_foldOver_fst | intro _ | refine kept_of_fst ‹_ = (_, _)› ?_ | simp only [kept_mk_iff] | split)

theorem kept_wrInt {s₀ : State} (s : State) (f : Field) (v : Int)  (hk : Kept s₀ s) : Kept s₀ (State.wrInt s f v) := by
  refine Kept.trans hk ?_
  simp only [State.wrInt]
  repeat' (with_reducible first | exact Kept.refl _ | exact kept_id _ | apply kept_wr | apply kept_ite | apply kept_ite_fst | apply kept_cond | apply kept_foldOver | apply kept_foldOver_fst | intro _ | refine kept_of_fst ‹_ = (_, _)› ?_ | simp only [kept_mk_iff] | split)

theorem kept_wrB {s₀ : State} (s : State) (f : Field) (b : Bool)  (hk : Kept s₀ s) : Kept s₀ (State.wrB s f b) := by
  refine Kept.trans hk ?_
  simp only [State.wrB]
  repeat' (with_reducible first | exact Kept.refl _ | exact kept_id _ | apply kept_wr | apply kept_ite | apply kept_ite_fst | apply kept_cond | apply kept_foldOver | apply kept_foldOver_fst | intro _ | refine kept_of_fst ‹_ = (_, _)› ?_ | simp only [kept_mk_iff] | split)

theorem kept_bumpBy {s₀ : State} (s : State) (f : Field) (n : Nat)  (hk : Kept s₀ s) : Kept s₀ (State.bumpBy s f n) := by
  refine Kept.trans hk ?_
  simp only [State.bumpBy]
  repeat' (with_reducible first | exact Kept.refl _ | exact kept_id _ | apply kept_wr | apply kept_ite | apply kept_ite_fst | apply kept_cond | apply kept_foldOver | apply kept_foldOver_fst | intro _ | refine kept_of_fst ‹_ = (_, _)› ?_ | simp only [kept_mk_iff] | split)

theorem kept_bump {s₀ : State} (s : State) (f : Field)  (hk : Kept s₀ s) : Kept s₀ (State.bump s f) := by
  refine Kept.trans hk ?_
  simp only [State.bump]
  repeat' (with_reducible first | exact Kept.refl _ | exact kept_id _ | apply kept_bumpBy | apply kept_ite | apply kept_ite_fst | apply kept_cond | apply kept_foldOver | apply kept_foldOver_fst | intro _ | refine kept_of_fst ‹_ = (_, _)› ?_ | simp only [kept_mk_iff] | split)

theorem kept_when {s₀ : State} (s : State) (b : Bool) (f : State → State) (hf : ∀ u, Kept u (f u)) (hk : Kept s₀ s) : Kept s₀ (State.when s b f) := by
  refine Kept.trans hk ?_
  simp only [State.when]
  repeat' (with_reducible first | exact Kept.refl _ | exact kept_id _ | refine Kept.trans ?_ (hf ..) | apply kept_ite | apply kept_ite_fst | apply kept_cond | apply kept_foldOver | apply kept_foldOver_fst | intro _ | refine kept_of_fst ‹_ = (_, _)› ?_ | simp only [kept_mk_iff] | split)

theorem kept_setTrlH {s₀ : State} (s : State) (n : Nat) (h : TrlH)  (hk : Kept s₀ s) : Kept s₀ (State.setTrlH s n h) := by
  refine Kept.trans hk ?_
  simp only [State.setTrlH]
  repeat' (with_reducible first | exact Kept.refl _ | exact kept_id _ | apply kept_ite | apply kept_ite_fst | apply kept_cond | apply kept_foldOver | apply kept_foldOver_fst | intro _ | refine kept_of_fst ‹_ = (_, _)› ?_ | simp only [kept_mk_iff] | split)

theorem kept_setCandH {s₀ : State} (s : State) (c : Nat) (h : CandH)  (hk : Kept s₀ s) : Kept s₀ (State.setCandH s c h) := by
  refine Kept.trans hk ?_
  simp only [State.setCandH]
  repeat' (with_reducible first | exact Kept.refl _ | exact kept_id _ | apply kept_ite | apply kept_ite_fst | apply kept_cond | apply kept_foldOver | apply kept_foldOver_fst | intro _ | refine kept_of_fst ‹_ = (_, _)› ?_ | simp only [kept_mk_iff] | split)

theorem kept_setPlanH {s₀ : State} (s : State) (p : Nat) (h : PlanH)  (hk : Kept s₀ s) : Kept s₀ (State.setPlanH s p h) := by
  refine Kept.trans hk ?_
  simp only [State.setPlanH]
  repeat' (with_reducible first | exact Kept.refl _ | exact kept_id _ | apply kept_ite | apply kept_ite_fst | apply kept_cond | apply kept_foldOver | apply kept_foldOver_fst | intro _ | refine kept_of_fst ‹_ = (_, _)› ?_ | simp only [kept_mk_iff] | split)

theorem kept_setSynH {s₀ : State} (s : State) (i : Nat) (h : SynH)  (hk : Kept s₀ s) : Kept s₀ (State.setSynH s i h) := by
  refine Kept.trans hk ?_
  simp only [State.setSynH]
  repeat' (with_reducible first | exact Kept.refl _ | exact kept_id _ | apply kept_ite | apply kept_ite_fst | apply kept_cond | apply kept_foldOver | apply kept_foldOver_fst | intro _ | refine kept_of_fst ‹_ = (_, _)› ?_ | simp only [kept_mk_iff] | split)

theorem kept_setPtpH {s₀ : State} (s : State) (n : Nat) (h : PtpH)  (hk : Kept s₀ s) : Kept s₀ (State.setPtpH s n h) := by
  refine Kept.trans hk ?_
  simp only [State.setPtpH]
  repeat' (with_reducible first | exact Kept.refl _ | exact kept_id _ | apply kept_ite | apply kept_ite_fst | apply kept_cond | apply kept_foldOver | apply kept_foldOver_fst | intro _ | refine kept_of_fst ‹_ = (_, _)› ?_ | simp only [kept_mk_iff] | split)

theorem kept_setRckH {s₀ : State} (s : State) (r : Nat) (h : RckH)  (hk : Kept s₀ s) : Kept s₀ (State.setRckH s r h) := by
  refine Kept.trans hk ?_
  simp only [State.setRckH]
  repeat' (with_reducible first | exact Kept.refl _ | exact kept_id _ | apply kept_ite | apply kept_ite_fst | apply kept_cond | apply kept_foldOver | apply kept_foldOver_fst | intro _ | refine kept_of_fst ‹_ = (_, _)› ?_ | simp only [kept_mk_iff] | split)

theorem kept_setCtnH {s₀ : State} (s : State) (n : Nat) (h : CtnH)  (hk : Kept s₀ s) : Kept s₀ (State.setCtnH s n h) := by
  refine Kept.trans hk ?_
  simp only [State.setCtnH]
  repeat' (with_reducible first | exact Kept.refl _ | exact kept_id _ | apply kept_ite | apply kept_ite_fst | apply kept_cond | apply kept_foldOver | apply kept_foldOver_fst | intro _ | refine kept_of_fst ‹_ = (_, _)› ?_ | simp only [kept_mk_iff] | split)

theorem kept_setChnH {s₀ : State} (s : State) (c : Nat) (h : ChnH)  (hk : Kept s₀ s) : Kept s₀ (State.setChnH s c h) := by
  refine Kept.trans hk ?_
  simp only [State.setChnH]
  repeat' (with_reducible first | exact Kept.refl _ | exact kept_id _ | apply kept_ite | apply kept_ite_fst | apply kept_cond | apply kept_foldOver | apply kept_foldOver_fst | intro _ | refine kept_of_fst ‹_ = (_, _)› ?_ | simp only [kept_mk_iff] | split)

theorem kept_setMailH {s₀ : State} (s : State) (r : Nat) (h : MailH)  (hk : Kept s₀ s) : Kept s₀ (State.setMailH s r h) := by
  refine Kept.trans hk ?_
  simp only [State.setMailH]
  repeat' (with_reducible first | exact Kept.refl _ | exact kept_id _ | apply kept_ite | apply kept_ite_fst | apply kept_cond | apply kept_foldOver | apply kept_foldOver_fst | intro _ | refine kept_of_fst ‹_ = (_, _)› ?_ | simp only [kept_mk_iff] | split)

theorem kept_setSensH {s₀ : State} (s : State) (i : Nat) (h : SensH)  (hk : Kept s₀ s) : Kept s₀ (State.setSensH s i h) := by
  refine Kept.trans hk ?_
  simp only [State.setSensH]
  repeat' (with_reducible first | exact Kept.refl _ | exact kept_id _ | apply kept_ite | apply kept_ite_fst | apply kept_cond | apply kept_foldOver | apply kept_foldOver_fst | intro _ | refine kept_of_fst ‹_ = (_, _)› ?_ | simp only [kept_mk_iff] | split)

theorem kept_setLaneH {s₀ : State} (s : State) (n l : Nat) (h : LaneH)  (hk : Kept s₀ s) : Kept s₀ (State.setLaneH s n l h) := by
  refine Kept.trans hk ?_
  simp only [State.setLaneH]
  repeat' (with_reducible first | exact Kept.refl _ | exact kept_id _ | apply kept_setTrlH | apply kept_ite | apply kept_ite_fst | apply kept_cond | apply kept_foldOver | apply kept_foldOver_fst | intro _ | refine kept_of_fst ‹_ = (_, _)› ?_ | simp only [kept_mk_iff] | split)

theorem kept_emit {s₀ : State} (s : State) (o : Out)  (hk : Kept s₀ s) : Kept s₀ (State.emit s o) := by
  refine Kept.trans hk ?_
  simp only [State.emit]
  repeat' (with_reducible first | exact Kept.refl _ | exact kept_id _ | apply kept_ite | apply kept_ite_fst | apply kept_cond | apply kept_foldOver | apply kept_foldOver_fst | intro _ | refine kept_of_fst ‹_ = (_, _)› ?_ | simp only [kept_mk_iff] | split)

theorem kept_capture {s₀ : State} (s : State) (block event arg : Nat)  (hk : Kept s₀ s) : Kept s₀ (State.capture s block event arg) := by
  refine Kept.trans hk ?_
  simp only [State.capture]
  repeat' (with_reducible first | exact Kept.refl _ | exact kept_id _ | apply kept_bump | apply kept_ite | apply kept_ite_fst | apply kept_cond | apply kept_foldOver | apply kept_foldOver_fst | intro _ | refine kept_of_fst ‹_ = (_, _)› ?_ | simp only [kept_mk_iff] | split)

theorem kept_sendMsix {s₀ : State} (k : Nat) (s : State)  (hk : Kept s₀ s) : Kept s₀ (State.sendMsix k s) := by
  refine Kept.trans hk ?_
  simp only [State.sendMsix]
  repeat' (with_reducible first | exact Kept.refl _ | exact kept_id _ | apply kept_emit | apply kept_ite | apply kept_ite_fst | apply kept_cond | apply kept_foldOver | apply kept_foldOver_fst | intro _ | refine kept_of_fst ‹_ = (_, _)› ?_ | simp only [kept_mk_iff] | split)

theorem kept_noteEvent {s₀ : State} (f : Field) (s : State)  (hk : Kept s₀ s) : Kept s₀ (State.noteEvent f s) := by
  refine Kept.trans hk ?_
  simp only [State.noteEvent]
  repeat' (with_reducible first | exact Kept.refl _ | exact kept_id _ | apply kept_ite | apply kept_ite_fst | apply kept_cond | apply kept_foldOver | apply kept_foldOver_fst | intro _ | refine kept_of_fst ‹_ = (_, _)› ?_ | simp only [kept_mk_iff] | split)

theorem kept_setEvent {s₀ : State} (f : Field) (arg : Nat) (s : State) (hk : Kept s₀ s) : Kept s₀ (State.setEvent f arg s) := by
  have h1 : Kept s₀ (s.wr f 1) := kept_wr s f 1 hk
  have h2 : Kept s₀ (if isEventReg f.addr then (s.wr f 1).capture (logBlock f.addr) (f.lo + 1) arg else s.wr f 1) :=
    kept_ite (kept_capture _ _ _ _ h1) h1
  simp only [State.setEvent]
  generalize (if isEventReg f.addr then (s.wr f 1).capture (logBlock f.addr) (f.lo + 1) arg else s.wr f 1) = t at h2 ⊢
  split
  · exact hk
  · split
    · exact h2
    · split
      · exact h2
      · split
        · exact kept_sendMsix _ _ (kept_sendMsix _ _ h2)
        · exact kept_sendMsix _ _ h2
theorem kept_raiseArg {s₀ : State} (f : Field) (arg : Nat) (s : State)  (hk : Kept s₀ s) : Kept s₀ (State.raiseArg f arg s) := by
  refine Kept.trans hk ?_
  simp only [State.raiseArg]
  repeat' (with_reducible first | exact Kept.refl _ | exact kept_id _ | apply kept_noteEvent | apply kept_setEvent | apply kept_ite | apply kept_ite_fst | apply kept_cond | apply kept_foldOver | apply kept_foldOver_fst | intro _ | refine kept_of_fst ‹_ = (_, _)› ?_ | simp only [kept_mk_iff] | split)

theorem kept_raise {s₀ : State} (f : Field) (s : State)  (hk : Kept s₀ s) : Kept s₀ (State.raise f s) := by
  refine Kept.trans hk ?_
  simp only [State.raise]
  repeat' (with_reducible first | exact Kept.refl _ | exact kept_id _ | apply kept_raiseArg | apply kept_ite | apply kept_ite_fst | apply kept_cond | apply kept_foldOver | apply kept_foldOver_fst | intro _ | refine kept_of_fst ‹_ = (_, _)› ?_ | simp only [kept_mk_iff] | split)

theorem kept_recordMode {s₀ : State} (m : Mode) (cause : Nat) (s : State)  (hk : Kept s₀ s) : Kept s₀ (State.recordMode m cause s) := by
  refine Kept.trans hk ?_
  simp only [State.recordMode]
  repeat' (with_reducible first | exact Kept.refl _ | exact kept_id _ | apply kept_wr | apply kept_capture | apply kept_sendMsix | apply kept_ite | apply kept_ite_fst | apply kept_cond | apply kept_foldOver | apply kept_foldOver_fst | intro _ | refine kept_of_fst ‹_ = (_, _)› ?_ | simp only [kept_mk_iff] | split)

theorem kept_setReady {s₀ : State} (i : Nat) (b : Bool) (s : State)  (hk : Kept s₀ s) : Kept s₀ (State.setReady i b s) := by
  refine Kept.trans hk ?_
  simp only [State.setReady]
  repeat' (with_reducible first | exact Kept.refl _ | exact kept_id _ | apply kept_wrB | apply kept_ite | apply kept_ite_fst | apply kept_cond | apply kept_foldOver | apply kept_foldOver_fst | intro _ | refine kept_of_fst ‹_ = (_, _)› ?_ | simp only [kept_mk_iff] | split)

theorem kept_draw {s₀ : State} (s : State)  (hk : Kept s₀ s) : Kept s₀ (State.draw s) := by
  refine Kept.trans hk ?_
  simp only [State.draw]
  repeat' (with_reducible first | exact Kept.refl _ | exact kept_id _ | apply kept_ite | apply kept_ite_fst | apply kept_cond | apply kept_foldOver | apply kept_foldOver_fst | intro _ | refine kept_of_fst ‹_ = (_, _)› ?_ | simp only [kept_mk_iff] | split)

end Sys2Proof.Machine
end

