-- ==== Sys2Proof/Laws/KeptLanes.lean ====
section
/-! SUPPORT. What the operations of Machine/Lanes.lean keep. -/

set_option linter.unusedTactic false
set_option linter.unreachableTactic false
set_option linter.unusedSimpArgs false

namespace Sys2Proof.Machine

theorem kept_applyFfe {s₀ : State} (n : Nat) (s : State)  (hk : Kept s₀ s) : Kept s₀ (State.applyFfe n s) := by
  refine Kept.trans hk ?_
  simp only [State.applyFfe]
  repeat' (with_reducible first | exact Kept.refl _ | exact kept_id _ | apply kept_emit | apply kept_ite | apply kept_ite_fst | apply kept_cond | apply kept_foldOver | apply kept_foldOver_fst | intro _ | refine kept_of_fst ‹_ = (_, _)› ?_ | simp only [kept_mk_iff] | split)

theorem kept_sendGroups {s₀ : State} (n : Nat) (groups : List (Bool × Nat)) (s : State)  (hk : Kept s₀ s) : Kept s₀ (State.sendGroups n groups s) := by
  refine Kept.trans hk ?_
  simp only [State.sendGroups]
  repeat' (with_reducible first | exact Kept.refl _ | exact kept_id _ | apply kept_setTrlH | apply kept_emit | apply kept_ite | apply kept_ite_fst | apply kept_cond | apply kept_foldOver | apply kept_foldOver_fst | intro _ | refine kept_of_fst ‹_ = (_, _)› ?_ | simp only [kept_mk_iff] | split)

theorem kept_fillFrame {s₀ : State} (n : Nat) (s : State)  (hk : Kept s₀ s) : Kept s₀ (State.fillFrame n s) := by
  refine Kept.trans hk ?_
  simp only [State.fillFrame]
  repeat' (with_reducible first | exact Kept.refl _ | exact kept_id _ | apply kept_sendGroups | apply kept_ite | apply kept_ite_fst | apply kept_cond | apply kept_foldOver | apply kept_foldOver_fst | intro _ | refine kept_of_fst ‹_ = (_, _)› ?_ | simp only [kept_mk_iff] | split)

theorem kept_putEther {s₀ : State} (n smd : Nat) (bytes : List Nat) (s : State)  (hk : Kept s₀ s) : Kept s₀ (State.putEther n smd bytes s) := by
  refine Kept.trans hk ?_
  simp only [State.putEther]
  repeat' (with_reducible first | exact Kept.refl _ | exact kept_id _ | apply kept_sendGroups | apply kept_emit | apply kept_ite | apply kept_ite_fst | apply kept_cond | apply kept_foldOver | apply kept_foldOver_fst | intro _ | refine kept_of_fst ‹_ = (_, _)› ?_ | simp only [kept_mk_iff] | split)

theorem kept_putStatus {s₀ : State} (n arg : Nat) (s : State)  (hk : Kept s₀ s) : Kept s₀ (State.putStatus n arg s) := by
  refine Kept.trans hk ?_
  simp only [State.putStatus]
  repeat' (with_reducible first | exact Kept.refl _ | exact kept_id _ | apply kept_sendGroups | apply kept_emit | apply kept_ite | apply kept_ite_fst | apply kept_cond | apply kept_foldOver | apply kept_foldOver_fst | intro _ | refine kept_of_fst ‹_ = (_, _)› ?_ | simp only [kept_mk_iff] | split)

theorem kept_codeViolation {s₀ : State} (n l : Nat) (s : State)  (hk : Kept s₀ s) : Kept s₀ (State.codeViolation n l s) := by
  refine Kept.trans hk ?_
  simp only [State.codeViolation]
  repeat' (with_reducible first | exact Kept.refl _ | exact kept_id _ | apply kept_bump | apply kept_raise | apply kept_ite | apply kept_ite_fst | apply kept_cond | apply kept_foldOver | apply kept_foldOver_fst | intro _ | refine kept_of_fst ‹_ = (_, _)› ?_ | simp only [kept_mk_iff] | split)

theorem kept_receiveLane {s₀ : State} (n l : Nat) (allowed : Nat → Bool) (syms : List (List Nat)) (pos : Nat) (s : State)
    (acc : List (Bool × Nat)) (hk : Kept s₀ s) : Kept s₀ (receiveLane n l allowed syms pos s acc).1 := by
  induction syms generalizing pos s acc with
  | nil => exact hk
  | cons sym rest ih =>
    simp only [receiveLane]
    repeat' (first | apply ih | exact hk | apply kept_codeViolation | apply kept_setLaneH | split)
theorem kept_receiveStream {s₀ : State} (n : Nat) (allowed : Nat → Bool) (symbols : List (List Nat)) (s : State)  (hk : Kept s₀ s) : Kept s₀ (State.receiveStream n allowed symbols s).1 := by
  refine Kept.trans hk ?_
  simp only [State.receiveStream]
  repeat' (with_reducible first | exact Kept.refl _ | exact kept_id _ | apply kept_foldOver | apply kept_receiveLane | apply kept_setTrlH | apply kept_ite | apply kept_ite_fst | apply kept_cond | apply kept_foldOver | apply kept_foldOver_fst | intro _ | refine kept_of_fst ‹_ = (_, _)› ?_ | simp only [kept_mk_iff] | split)

theorem kept_passGuard {s₀ : State} (n : Nat) (groups : List (Bool × Nat)) (s : State)  (hk : Kept s₀ s) : Kept s₀ (State.passGuard n groups s).1 := by
  refine Kept.trans hk ?_
  simp only [State.passGuard]
  repeat' (with_reducible first | exact Kept.refl _ | exact kept_id _ | apply kept_setTrlH | apply kept_ite | apply kept_ite_fst | apply kept_cond | apply kept_foldOver | apply kept_foldOver_fst | intro _ | refine kept_of_fst ‹_ = (_, _)› ?_ | simp only [kept_mk_iff] | split)

theorem kept_sendDiag {s₀ : State} (n k : Nat) (s : State)  (hk : Kept s₀ s) : Kept s₀ (State.sendDiag n k s).1 := by
  refine Kept.trans hk ?_
  simp only [State.sendDiag]
  repeat' (with_reducible first | exact Kept.refl _ | exact kept_id _ | apply kept_setTrlH | apply kept_ite | apply kept_ite_fst | apply kept_cond | apply kept_foldOver | apply kept_foldOver_fst | intro _ | refine kept_of_fst ‹_ = (_, _)› ?_ | simp only [kept_mk_iff] | split)

theorem kept_countChecked {s₀ : State} (n l bits errs : Nat) (s : State)  (hk : Kept s₀ s) : Kept s₀ (State.countChecked n l bits errs s) := by
  refine Kept.trans hk ?_
  simp only [State.countChecked]
  repeat' (with_reducible first | exact Kept.refl _ | exact kept_id _ | apply kept_wr | apply kept_setLaneH | apply kept_ite | apply kept_ite_fst | apply kept_cond | apply kept_foldOver | apply kept_foldOver_fst | intro _ | refine kept_of_fst ‹_ = (_, _)› ?_ | simp only [kept_mk_iff] | split)

theorem kept_runChecker {s₀ : State} (n l : Nat) (symbols : List Nat) (s : State)  (hk : Kept s₀ s) : Kept s₀ (State.runChecker n l symbols s) := by
  refine Kept.trans hk ?_
  simp only [State.runChecker]
  repeat' (with_reducible first | exact Kept.refl _ | exact kept_id _ | apply kept_setLaneH | apply kept_countChecked | apply kept_wrB | apply kept_ite | apply kept_ite_fst | apply kept_cond | apply kept_foldOver | apply kept_foldOver_fst | intro _ | refine kept_of_fst ‹_ = (_, _)› ?_ | simp only [kept_mk_iff] | split)

end Sys2Proof.Machine
end

