-- ==== Sys2Proof/Laws/KeptRefs.lean ====
section
/-! SUPPORT. What the operations of Machine/Refs.lean keep. -/

set_option linter.unusedTactic false
set_option linter.unreachableTactic false
set_option linter.unusedSimpArgs false

namespace Sys2Proof.Machine

theorem kept_setCand {s₀ : State} (c st : Nat) (s : State)  (hk : Kept s₀ s) : Kept s₀ (State.setCand c st s) := by
  refine Kept.trans hk ?_
  simp only [State.setCand]
  repeat' (with_reducible first | exact Kept.refl _ | exact kept_id _ | apply kept_setCandH | apply kept_wr | apply kept_raise | apply kept_ite | apply kept_ite_fst | apply kept_cond | apply kept_foldOver | apply kept_foldOver_fst | intro _ | refine kept_of_fst ‹_ = (_, _)› ?_ | simp only [kept_mk_iff] | split)

theorem kept_updateFreqOnly {s₀ : State} (s : State)  (hk : Kept s₀ s) : Kept s₀ (State.updateFreqOnly s) := by
  refine Kept.trans hk ?_
  simp only [State.updateFreqOnly]
  repeat' (with_reducible first | exact Kept.refl _ | exact kept_id _ | apply kept_forN | apply kept_wrB | apply kept_ite | apply kept_ite_fst | apply kept_cond | apply kept_foldOver | apply kept_foldOver_fst | intro _ | refine kept_of_fst ‹_ = (_, _)› ?_ | simp only [kept_mk_iff] | split)

theorem kept_setDpll {s₀ : State} (st : Nat) (s : State)  (hk : Kept s₀ s) : Kept s₀ (State.setDpll st s) := by
  refine Kept.trans hk ?_
  simp only [State.setDpll]
  repeat' (with_reducible first | exact Kept.refl _ | exact kept_id _ | apply kept_wr | apply kept_raise | apply kept_ite | apply kept_ite_fst | apply kept_cond | apply kept_foldOver | apply kept_foldOver_fst | intro _ | refine kept_of_fst ‹_ = (_, _)› ?_ | simp only [kept_mk_iff] | split)

theorem kept_enterAcquiring {s₀ : State} (s : State)  (hk : Kept s₀ s) : Kept s₀ (State.enterAcquiring s) := by
  refine Kept.trans hk ?_
  simp only [State.enterAcquiring]
  repeat' (with_reducible first | exact Kept.refl _ | exact kept_id _ | apply kept_wr | apply kept_setDpll | apply kept_ite | apply kept_ite_fst | apply kept_cond | apply kept_foldOver | apply kept_foldOver_fst | intro _ | refine kept_of_fst ‹_ = (_, _)› ?_ | simp only [kept_mk_iff] | split)

theorem kept_enterHoldover {s₀ : State} (s : State)  (hk : Kept s₀ s) : Kept s₀ (State.enterHoldover s) := by
  refine Kept.trans hk ?_
  simp only [State.enterHoldover]
  repeat' (with_reducible first | exact Kept.refl _ | exact kept_id _ | apply kept_wrB | apply kept_wr | apply kept_setDpll | apply kept_ite | apply kept_ite_fst | apply kept_cond | apply kept_foldOver | apply kept_foldOver_fst | intro _ | refine kept_of_fst ‹_ = (_, _)› ?_ | simp only [kept_mk_iff] | split)

theorem kept_selectCand {s₀ : State} (c : Nat) (s : State)  (hk : Kept s₀ s) : Kept s₀ (State.selectCand c s) := by
  refine Kept.trans hk ?_
  simp only [State.selectCand]
  repeat' (with_reducible first | exact Kept.refl _ | exact kept_id _ | apply kept_wr | apply kept_raise | apply kept_enterHoldover | apply kept_enterAcquiring | apply kept_updateFreqOnly | apply kept_ite | apply kept_ite_fst | apply kept_cond | apply kept_foldOver | apply kept_foldOver_fst | intro _ | refine kept_of_fst ‹_ = (_, _)› ?_ | simp only [kept_mk_iff] | split)

theorem kept_reselect {s₀ : State} (s : State)  (hk : Kept s₀ s) : Kept s₀ (State.reselect s) := by
  refine Kept.trans hk ?_
  simp only [State.reselect]
  repeat' (with_reducible first | exact Kept.refl _ | exact kept_id _ | apply kept_wr | apply kept_selectCand | apply kept_ite | apply kept_ite_fst | apply kept_cond | apply kept_foldOver | apply kept_foldOver_fst | intro _ | refine kept_of_fst ‹_ = (_, _)› ?_ | simp only [kept_mk_iff] | split)

theorem kept_candAbsent {s₀ : State} (c : Nat) (s : State)  (hk : Kept s₀ s) : Kept s₀ (State.candAbsent c s) := by
  refine Kept.trans hk ?_
  simp only [State.candAbsent]
  repeat' (with_reducible first | exact Kept.refl _ | exact kept_id _ | apply kept_setCandH | apply kept_wr | apply kept_when | apply kept_ite | apply kept_ite_fst | apply kept_cond | apply kept_foldOver | apply kept_foldOver_fst | intro _ | refine kept_of_fst ‹_ = (_, _)› ?_ | simp only [kept_mk_iff] | split)

theorem kept_candLoss {s₀ : State} (c : Nat) (s : State)  (hk : Kept s₀ s) : Kept s₀ (State.candLoss c s) := by
  refine Kept.trans hk ?_
  simp only [State.candLoss]
  repeat' (with_reducible first | exact Kept.refl _ | exact kept_id _ | apply kept_wr | apply kept_candAbsent | apply kept_when | apply kept_bump | apply kept_raise | apply kept_ite | apply kept_ite_fst | apply kept_cond | apply kept_foldOver | apply kept_foldOver_fst | intro _ | refine kept_of_fst ‹_ = (_, _)› ?_ | simp only [kept_mk_iff] | split)

theorem kept_candPresent {s₀ : State} (c : Nat) (s : State)  (hk : Kept s₀ s) : Kept s₀ (State.candPresent c s) := by
  refine Kept.trans hk ?_
  simp only [State.candPresent]
  repeat' (with_reducible first | exact Kept.refl _ | exact kept_id _ | apply kept_when | apply kept_wr | apply kept_setCandH | apply kept_setCand | apply kept_raise | apply kept_ite | apply kept_ite_fst | apply kept_cond | apply kept_foldOver | apply kept_foldOver_fst | intro _ | refine kept_of_fst ‹_ = (_, _)› ?_ | simp only [kept_mk_iff] | split)

theorem kept_candDisable {s₀ : State} (c : Nat) (s : State)  (hk : Kept s₀ s) : Kept s₀ (State.candDisable c s) := by
  refine Kept.trans hk ?_
  simp only [State.candDisable]
  repeat' (with_reducible first | exact Kept.refl _ | exact kept_id _ | apply kept_candAbsent | apply kept_when | apply kept_wr | apply kept_ite | apply kept_ite_fst | apply kept_cond | apply kept_foldOver | apply kept_foldOver_fst | intro _ | refine kept_of_fst ‹_ = (_, _)› ?_ | simp only [kept_mk_iff] | split)

theorem kept_loseSources {s₀ : State} (s : State)  (hk : Kept s₀ s) : Kept s₀ (State.loseSources s) := by
  refine Kept.trans hk ?_
  simp only [State.loseSources]
  repeat' (with_reducible first | exact Kept.refl _ | exact kept_id _ | apply kept_forL | apply kept_candLoss | apply kept_ite | apply kept_ite_fst | apply kept_cond | apply kept_foldOver | apply kept_foldOver_fst | intro _ | refine kept_of_fst ‹_ = (_, _)› ?_ | simp only [kept_mk_iff] | split)

theorem kept_refWriteFixup {s₀ : State} (s : State)  (hk : Kept s₀ s) : Kept s₀ (State.refWriteFixup s) := by
  refine Kept.trans hk ?_
  simp only [State.refWriteFixup]
  repeat' (with_reducible first | exact Kept.refl _ | exact kept_id _ | apply kept_when | apply kept_wr | apply kept_forN | apply kept_candDisable | apply kept_loseSources | apply kept_reselect | apply kept_ite | apply kept_ite_fst | apply kept_cond | apply kept_foldOver | apply kept_foldOver_fst | intro _ | refine kept_of_fst ‹_ = (_, _)› ?_ | simp only [kept_mk_iff] | split)

theorem kept_refEnd {s₀ : State} (s : State)  (hk : Kept s₀ s) : Kept s₀ (State.refEnd s) := by
  refine Kept.trans hk ?_
  simp only [State.refEnd]
  repeat' (with_reducible first | exact Kept.refl _ | exact kept_id _ | apply kept_reselect | apply kept_forL | apply kept_setWord | apply kept_refWriteFixup | apply kept_ite | apply kept_ite_fst | apply kept_cond | apply kept_foldOver | apply kept_foldOver_fst | intro _ | refine kept_of_fst ‹_ = (_, _)› ?_ | simp only [kept_mk_iff] | split)

theorem kept_refRecheck {s₀ : State} (s : State)  (hk : Kept s₀ s) : Kept s₀ (State.refRecheck s) := by
  refine Kept.trans hk ?_
  simp only [State.refRecheck]
  repeat' (with_reducible first | exact Kept.refl _ | exact kept_id _ | apply kept_loseSources | apply kept_refEnd | apply kept_ite | apply kept_ite_fst | apply kept_cond | apply kept_foldOver | apply kept_foldOver_fst | intro _ | refine kept_of_fst ‹_ = (_, _)› ?_ | simp only [kept_mk_iff] | split)

theorem kept_sdiReturn {s₀ : State} (i : Nat) (s : State)  (hk : Kept s₀ s) : Kept s₀ (State.sdiReturn i s) := by
  refine Kept.trans hk ?_
  simp only [State.sdiReturn]
  repeat' (with_reducible first | exact Kept.refl _ | exact kept_id _ | apply kept_forL | apply kept_candPresent | apply kept_ite | apply kept_ite_fst | apply kept_cond | apply kept_foldOver | apply kept_foldOver_fst | intro _ | refine kept_of_fst ‹_ = (_, _)› ?_ | simp only [kept_mk_iff] | split)

theorem kept_xoUpdate {s₀ : State} (a : Int) (elapsed : Nat) (s : State)  (hk : Kept s₀ s) : Kept s₀ (State.xoUpdate a elapsed s) := by
  refine Kept.trans hk ?_
  simp only [State.xoUpdate]
  repeat' (with_reducible first | exact Kept.refl _ | exact kept_id _ | apply kept_wrInt | apply kept_wr | apply kept_ite | apply kept_ite_fst | apply kept_cond | apply kept_foldOver | apply kept_foldOver_fst | intro _ | refine kept_of_fst ‹_ = (_, _)› ?_ | simp only [kept_mk_iff] | split)

theorem kept_outvote {s₀ : State} (loser winner : Nat) (s : State)  (hk : Kept s₀ s) : Kept s₀ (State.outvote loser winner s) := by
  refine Kept.trans hk ?_
  simp only [State.outvote]
  repeat' (with_reducible first | exact Kept.refl _ | exact kept_id _ | apply kept_wr | apply kept_raise | apply kept_selectCand | apply kept_ite | apply kept_ite_fst | apply kept_cond | apply kept_foldOver | apply kept_foldOver_fst | intro _ | refine kept_of_fst ‹_ = (_, _)› ?_ | simp only [kept_mk_iff] | split)

theorem kept_judgePair {s₀ : State} (i j : Nat) (s : State)  (hk : Kept s₀ s) : Kept s₀ (State.judgePair i j s).1 := by
  refine Kept.trans hk ?_
  simp only [State.judgePair]
  repeat' (with_reducible first | exact Kept.refl _ | exact kept_id _ | apply kept_raise | apply kept_outvote | apply kept_ite | apply kept_ite_fst | apply kept_cond | apply kept_foldOver | apply kept_foldOver_fst | intro _ | refine kept_of_fst ‹_ = (_, _)› ?_ | simp only [kept_mk_iff] | split)

theorem kept_majorities {s₀ : State} (s : State)  (hk : Kept s₀ s) : Kept s₀ (State.majorities s) := by
  refine Kept.trans hk ?_
  simp only [State.majorities]
  repeat' (with_reducible first | exact Kept.refl _ | exact kept_id _ | apply kept_forN | apply kept_wr | apply kept_foldOver | apply kept_judgePair | apply kept_wrB | apply kept_ite | apply kept_ite_fst | apply kept_cond | apply kept_foldOver | apply kept_foldOver_fst | intro _ | refine kept_of_fst ‹_ = (_, _)› ?_ | simp only [kept_mk_iff] | split)

theorem kept_candTimers {s₀ : State} (s : State)  (hk : Kept s₀ s) : Kept s₀ (State.candTimers s) := by
  refine Kept.trans hk ?_
  simp only [State.candTimers]
  repeat' (with_reducible first | exact Kept.refl _ | exact kept_id _ | apply kept_forN | apply kept_setCand | apply kept_ite | apply kept_ite_fst | apply kept_cond | apply kept_foldOver | apply kept_foldOver_fst | intro _ | refine kept_of_fst ‹_ = (_, _)› ?_ | simp only [kept_mk_iff] | split)

theorem kept_candStates {s₀ : State} (s : State)  (hk : Kept s₀ s) : Kept s₀ (State.candStates s) := by
  refine Kept.trans hk ?_
  simp only [State.candStates]
  repeat' (with_reducible first | exact Kept.refl _ | exact kept_id _ | apply kept_forN | apply kept_setCandH | apply kept_setCand | apply kept_ite | apply kept_ite_fst | apply kept_cond | apply kept_foldOver | apply kept_foldOver_fst | intro _ | refine kept_of_fst ‹_ = (_, _)› ?_ | simp only [kept_mk_iff] | split)

theorem kept_qualLeft {s₀ : State} (s : State)  (hk : Kept s₀ s) : Kept s₀ (State.qualLeft s) := by
  refine Kept.trans hk ?_
  simp only [State.qualLeft]
  repeat' (with_reducible first | exact Kept.refl _ | exact kept_id _ | apply kept_forN | apply kept_wr | apply kept_ite | apply kept_ite_fst | apply kept_cond | apply kept_foldOver | apply kept_foldOver_fst | intro _ | refine kept_of_fst ‹_ = (_, _)› ?_ | simp only [kept_mk_iff] | split)

theorem kept_execRefClassified (c : Fin 2) (hz : Nat) (s : State) : ∃ t, execRefClassified c hz s = .next t ∧ Kept s t := by
  refine ⟨_, rfl, ?_⟩
  repeat' (with_reducible first | exact Kept.refl _ | exact kept_id _ | apply kept_wr | apply kept_ite | apply kept_ite_fst | apply kept_cond | apply kept_foldOver | apply kept_foldOver_fst | intro _ | refine kept_of_fst ‹_ = (_, _)› ?_ | simp only [kept_mk_iff] | split)

theorem kept_anchorSequence {s₀ : State} (p frame : Nat) (s : State)  (hk : Kept s₀ s) : Kept s₀ (State.anchorSequence p frame s) := by
  refine Kept.trans hk ?_
  simp only [State.anchorSequence]
  repeat' (with_reducible first | exact Kept.refl _ | exact kept_id _ | apply kept_ite | apply kept_ite_fst | apply kept_cond | apply kept_foldOver | apply kept_foldOver_fst | intro _ | refine kept_of_fst ‹_ = (_, _)› ?_ | simp only [kept_mk_iff] | split)

theorem kept_takeMarker {s₀ : State} (c w t : Nat) (s : State)  (hk : Kept s₀ s) : Kept s₀ (State.takeMarker c w t s) := by
  refine Kept.trans hk ?_
  simp only [State.takeMarker]
  repeat' (with_reducible first | exact Kept.refl _ | exact kept_id _ | apply kept_candLoss | apply kept_wr | apply kept_candPresent | apply kept_setCandH | apply kept_when | apply kept_raise | apply kept_updateFreqOnly | apply kept_forN | apply kept_anchorSequence | apply kept_ite | apply kept_ite_fst | apply kept_cond | apply kept_foldOver | apply kept_foldOver_fst | intro _ | refine kept_of_fst ‹_ = (_, _)› ?_ | simp only [kept_mk_iff] | split)

theorem kept_execFrameMarker (c : Fin 2) (idle : Nat) (levels : List Bool) (s : State) : ∃ t, execFrameMarker c idle levels s = .next t ∧ Kept s t := by
  refine ⟨_, rfl, ?_⟩
  repeat' (with_reducible first | exact Kept.refl _ | exact kept_id _ | apply kept_refEnd | apply kept_takeMarker | apply kept_bump | apply kept_raise | apply kept_ite | apply kept_ite_fst | apply kept_cond | apply kept_foldOver | apply kept_foldOver_fst | intro _ | refine kept_of_fst ‹_ = (_, _)› ?_ | simp only [kept_mk_iff] | split)

theorem kept_execMarkerTimeout (c : Fin 2) (s : State) : ∃ t, execMarkerTimeout c s = .next t ∧ Kept s t := by
  refine ⟨_, rfl, ?_⟩
  repeat' (with_reducible first | exact Kept.refl _ | exact kept_id _ | apply kept_refEnd | apply kept_candLoss | apply kept_setCandH | apply kept_wr | apply kept_updateFreqOnly | apply kept_ite | apply kept_ite_fst | apply kept_cond | apply kept_foldOver | apply kept_foldOver_fst | intro _ | refine kept_of_fst ‹_ = (_, _)› ?_ | simp only [kept_mk_iff] | split)

theorem kept_execRefGlitch (c : Fin 2) (ps : Nat) (s : State) : ∃ t, execRefGlitch c ps s = .next t ∧ Kept s t := by
  refine ⟨_, rfl, ?_⟩
  repeat' (with_reducible first | exact Kept.refl _ | exact kept_id _ | apply kept_refEnd | apply kept_setCandH | apply kept_bump | apply kept_raise | apply kept_candLoss | apply kept_ite | apply kept_ite_fst | apply kept_cond | apply kept_foldOver | apply kept_foldOver_fst | intro _ | refine kept_of_fst ‹_ = (_, _)› ?_ | simp only [kept_mk_iff] | split)

theorem kept_execRefClockLost (c : Fin 2) (ps : Nat) (s : State) : ∃ t, execRefClockLost c ps s = .next t ∧ Kept s t := by
  refine ⟨_, rfl, ?_⟩
  repeat' (with_reducible first | exact Kept.refl _ | exact kept_id _ | apply kept_candLoss | apply kept_refEnd | apply kept_ite | apply kept_ite_fst | apply kept_cond | apply kept_foldOver | apply kept_foldOver_fst | intro _ | refine kept_of_fst ‹_ = (_, _)› ?_ | simp only [kept_mk_iff] | split)

theorem kept_execCandidatePresent (c : Fin 6) (s : State) : ∃ t, execCandidatePresent c s = .next t ∧ Kept s t := by
  refine ⟨_, rfl, ?_⟩
  repeat' (with_reducible first | exact Kept.refl _ | exact kept_id _ | apply kept_candPresent | apply kept_ite | apply kept_ite_fst | apply kept_cond | apply kept_foldOver | apply kept_foldOver_fst | intro _ | refine kept_of_fst ‹_ = (_, _)› ?_ | simp only [kept_mk_iff] | split)

theorem kept_holdMeasures {s₀ : State} (meas : List Int) (s : State)  (hk : Kept s₀ s) : Kept s₀ (State.holdMeasures meas s) := by
  refine Kept.trans hk ?_
  simp only [State.holdMeasures]
  repeat' (with_reducible first | exact Kept.refl _ | exact kept_id _ | apply kept_forN | apply kept_setCandH | apply kept_ite | apply kept_ite_fst | apply kept_cond | apply kept_foldOver | apply kept_foldOver_fst | intro _ | refine kept_of_fst ‹_ = (_, _)› ?_ | simp only [kept_mk_iff] | split)

theorem kept_showOffsets {s₀ : State} (s : State)  (hk : Kept s₀ s) : Kept s₀ (State.showOffsets s) := by
  refine Kept.trans hk ?_
  simp only [State.showOffsets]
  repeat' (with_reducible first | exact Kept.refl _ | exact kept_id _ | apply kept_forN | apply kept_wrInt | apply kept_ite | apply kept_ite_fst | apply kept_cond | apply kept_foldOver | apply kept_foldOver_fst | intro _ | refine kept_of_fst ‹_ = (_, _)› ?_ | simp only [kept_mk_iff] | split)

theorem kept_noteHistory {s₀ : State} (s : State)  (hk : Kept s₀ s) : Kept s₀ (State.noteHistory s) := by
  refine Kept.trans hk ?_
  simp only [State.noteHistory]
  repeat' (with_reducible first | exact Kept.refl _ | exact kept_id _ | apply kept_ite | apply kept_ite_fst | apply kept_cond | apply kept_foldOver | apply kept_foldOver_fst | intro _ | refine kept_of_fst ‹_ = (_, _)› ?_ | simp only [kept_mk_iff] | split)

theorem kept_execDriftMonitorUpdate (meas : List Int) (s : State) : ∃ t, execDriftMonitorUpdate meas s = .next t ∧ Kept s t := by
  refine ⟨_, rfl, ?_⟩
  repeat' (with_reducible first | exact Kept.refl _ | exact kept_id _ | apply kept_refEnd | apply kept_candTimers | apply kept_holdMeasures | apply kept_xoUpdate | apply kept_showOffsets | apply kept_majorities | apply kept_candStates | apply kept_qualLeft | apply kept_noteHistory | apply kept_ite | apply kept_ite_fst | apply kept_cond | apply kept_foldOver | apply kept_foldOver_fst | intro _ | refine kept_of_fst ‹_ = (_, _)› ?_ | simp only [kept_mk_iff] | split)

theorem kept_execQualified (c : Fin 6) (s : State) : ∃ t, execQualified c s = .next t ∧ Kept s t := by
  refine ⟨_, rfl, ?_⟩
  repeat' (with_reducible first | exact Kept.refl _ | exact kept_id _ | apply kept_setCand | apply kept_refEnd | apply kept_ite | apply kept_ite_fst | apply kept_cond | apply kept_foldOver | apply kept_foldOver_fst | intro _ | refine kept_of_fst ‹_ = (_, _)› ?_ | simp only [kept_mk_iff] | split)

theorem kept_execDisqualified (c : Fin 6) (s : State) : ∃ t, execDisqualified c s = .next t ∧ Kept s t := by
  refine ⟨_, rfl, ?_⟩
  repeat' (with_reducible first | exact Kept.refl _ | exact kept_id _ | apply kept_setCand | apply kept_refEnd | apply kept_ite | apply kept_ite_fst | apply kept_cond | apply kept_foldOver | apply kept_foldOver_fst | intro _ | refine kept_of_fst ‹_ = (_, _)› ?_ | simp only [kept_mk_iff] | split)

theorem kept_execBandwidthStep (s : State) : ∃ t, execBandwidthStep s = .next t ∧ Kept s t := by
  refine ⟨_, rfl, ?_⟩
  repeat' (with_reducible first | exact Kept.refl _ | exact kept_id _ | apply kept_wr | apply kept_ite | apply kept_ite_fst | apply kept_cond | apply kept_foldOver | apply kept_foldOver_fst | intro _ | refine kept_of_fst ‹_ = (_, _)› ?_ | simp only [kept_mk_iff] | split)

theorem kept_execDpllLocked (freq phase : Nat) (s : State) : ∃ t, execDpllLocked freq phase s = .next t ∧ Kept s t := by
  refine ⟨_, rfl, ?_⟩
  repeat' (with_reducible first | exact Kept.refl _ | exact kept_id _ | apply kept_setDpll | apply kept_ite | apply kept_ite_fst | apply kept_cond | apply kept_foldOver | apply kept_foldOver_fst | intro _ | refine kept_of_fst ‹_ = (_, _)› ?_ | simp only [kept_mk_iff] | split)

theorem kept_execDpllUnlock (phase : Nat) (s : State) : ∃ t, execDpllUnlock phase s = .next t ∧ Kept s t := by
  refine ⟨_, rfl, ?_⟩
  repeat' (with_reducible first | exact Kept.refl _ | exact kept_id _ | apply kept_raise | apply kept_setDpll | apply kept_wr | apply kept_ite | apply kept_ite_fst | apply kept_cond | apply kept_foldOver | apply kept_foldOver_fst | intro _ | refine kept_of_fst ‹_ = (_, _)› ?_ | simp only [kept_mk_iff] | split)

theorem kept_execHoldoverExpired (s : State) : ∃ t, execHoldoverExpired s = .next t ∧ Kept s t := by
  refine ⟨_, rfl, ?_⟩
  repeat' (with_reducible first | exact Kept.refl _ | exact kept_id _ | apply kept_setDpll | apply kept_raise | apply kept_ite | apply kept_ite_fst | apply kept_cond | apply kept_foldOver | apply kept_foldOver_fst | intro _ | refine kept_of_fst ‹_ = (_, _)› ?_ | simp only [kept_mk_iff] | split)

end Sys2Proof.Machine
end

