-- ==== Sys2Proof/Laws/KeptSynth.lean ====
section
/-! SUPPORT. What the operations of Machine/Synth.lean keep. -/

set_option linter.unusedTactic false
set_option linter.unreachableTactic false
set_option linter.unusedSimpArgs false

namespace Sys2Proof.Machine

theorem kept_setSynWord {s₀ : State} (i w : Nat) (s : State)  (hk : Kept s₀ s) : Kept s₀ (State.setSynWord i w s) := by
  refine Kept.trans hk ?_
  simp only [State.setSynWord]
  repeat' (with_reducible first | exact Kept.refl _ | exact kept_id _ | apply kept_setSynH | apply kept_wr | apply kept_ite | apply kept_ite_fst | apply kept_cond | apply kept_foldOver | apply kept_foldOver_fst | intro _ | refine kept_of_fst ‹_ = (_, _)› ?_ | simp only [kept_mk_iff] | split)

theorem kept_clampTarget {s₀ : State} (i target : Nat) (s : State)  (hk : Kept s₀ s) : Kept s₀ (State.clampTarget i target s).1 := by
  refine Kept.trans hk ?_
  simp only [State.clampTarget]
  repeat' (with_reducible first | exact Kept.refl _ | exact kept_id _ | apply kept_raise | apply kept_ite | apply kept_ite_fst | apply kept_cond | apply kept_foldOver | apply kept_foldOver_fst | intro _ | refine kept_of_fst ‹_ = (_, _)› ?_ | simp only [kept_mk_iff] | split)

theorem kept_runMash {s₀ : State} (i : Nat) (s : State)  (hk : Kept s₀ s) : Kept s₀ (State.runMash i s) := by
  refine Kept.trans hk ?_
  simp only [State.runMash]
  repeat' (with_reducible first | exact Kept.refl _ | exact kept_id _ | apply kept_setSynH | apply kept_ite | apply kept_ite_fst | apply kept_cond | apply kept_foldOver | apply kept_foldOver_fst | intro _ | refine kept_of_fst ‹_ = (_, _)› ?_ | simp only [kept_mk_iff] | split)

theorem kept_updatePool {s₀ : State} (s : State)  (hk : Kept s₀ s) : Kept s₀ (State.updatePool s) := by
  refine Kept.trans hk ?_
  simp only [State.updatePool]
  repeat' (with_reducible first | exact Kept.refl _ | exact kept_id _ | apply kept_wr | apply kept_ite | apply kept_ite_fst | apply kept_cond | apply kept_foldOver | apply kept_foldOver_fst | intro _ | refine kept_of_fst ‹_ = (_, _)› ?_ | simp only [kept_mk_iff] | split)

theorem kept_setSynStateAt {s₀ : State} (i st t : Nat) (s : State)  (hk : Kept s₀ s) : Kept s₀ (State.setSynStateAt i st t s) := by
  refine Kept.trans hk ?_
  simp only [State.setSynStateAt]
  repeat' (with_reducible first | exact Kept.refl _ | exact kept_id _ | apply kept_setSynH | apply kept_wr | apply kept_ite | apply kept_ite_fst | apply kept_cond | apply kept_foldOver | apply kept_foldOver_fst | intro _ | refine kept_of_fst ‹_ = (_, _)› ?_ | simp only [kept_mk_iff] | split)

theorem kept_setSynState {s₀ : State} (i st : Nat) (s : State)  (hk : Kept s₀ s) : Kept s₀ (State.setSynState i st s) := by
  refine Kept.trans hk ?_
  simp only [State.setSynState]
  repeat' (with_reducible first | exact Kept.refl _ | exact kept_id _ | apply kept_setSynStateAt | apply kept_ite | apply kept_ite_fst | apply kept_cond | apply kept_foldOver | apply kept_foldOver_fst | intro _ | refine kept_of_fst ‹_ = (_, _)› ?_ | simp only [kept_mk_iff] | split)

theorem kept_startRamp {s₀ : State} (i target : Nat) (s : State)  (hk : Kept s₀ s) : Kept s₀ (State.startRamp i target s) := by
  refine Kept.trans hk ?_
  simp only [State.startRamp]
  repeat' (with_reducible first | exact Kept.refl _ | exact kept_id _ | apply kept_setSynH | apply kept_ite | apply kept_ite_fst | apply kept_cond | apply kept_foldOver | apply kept_foldOver_fst | intro _ | refine kept_of_fst ‹_ = (_, _)› ?_ | simp only [kept_mk_iff] | split)

theorem kept_aim {s₀ : State} (i target : Nat) (s : State)  (hk : Kept s₀ s) : Kept s₀ (State.aim i target s) := by
  refine Kept.trans hk ?_
  simp only [State.aim]
  repeat' (with_reducible first | exact Kept.refl _ | exact kept_id _ | apply kept_clampTarget | apply kept_startRamp | apply kept_ite | apply kept_ite_fst | apply kept_cond | apply kept_foldOver | apply kept_foldOver_fst | intro _ | refine kept_of_fst ‹_ = (_, _)› ?_ | simp only [kept_mk_iff] | split)

theorem kept_relock {s₀ : State} (i target : Nat) (s : State)  (hk : Kept s₀ s) : Kept s₀ (State.relock i target s) := by
  refine Kept.trans hk ?_
  simp only [State.relock]
  repeat' (with_reducible first | exact Kept.refl _ | exact kept_id _ | apply kept_wr | apply kept_setSynH | apply kept_setSynState | apply kept_ite | apply kept_ite_fst | apply kept_cond | apply kept_foldOver | apply kept_foldOver_fst | intro _ | refine kept_of_fst ‹_ = (_, _)› ?_ | simp only [kept_mk_iff] | split)

theorem kept_beginMove {s₀ : State} (i target : Nat) (s : State)  (hk : Kept s₀ s) : Kept s₀ (State.beginMove i target s) := by
  refine Kept.trans hk ?_
  simp only [State.beginMove]
  repeat' (with_reducible first | exact Kept.refl _ | exact kept_id _ | apply kept_clampTarget | apply kept_setSynH | apply kept_startRamp | apply kept_setSynState | apply kept_relock | apply kept_ite | apply kept_ite_fst | apply kept_cond | apply kept_foldOver | apply kept_foldOver_fst | intro _ | refine kept_of_fst ‹_ = (_, _)› ?_ | simp only [kept_mk_iff] | split)

theorem kept_finishMove {s₀ : State} (i t : Nat) (s : State)  (hk : Kept s₀ s) : Kept s₀ (State.finishMove i t s) := by
  refine Kept.trans hk ?_
  simp only [State.finishMove]
  repeat' (with_reducible first | exact Kept.refl _ | exact kept_id _ | apply kept_setSynWord | apply kept_setSynH | apply kept_setSynStateAt | apply kept_wr | apply kept_updatePool | apply kept_ite | apply kept_ite_fst | apply kept_cond | apply kept_foldOver | apply kept_foldOver_fst | intro _ | refine kept_of_fst ‹_ = (_, _)› ?_ | simp only [kept_mk_iff] | split)

theorem kept_settle {s₀ : State} (i : Nat) (s : State)  (hk : Kept s₀ s) : Kept s₀ (State.settle i s) := by
  refine Kept.trans hk ?_
  simp only [State.settle]
  repeat' (with_reducible first | exact Kept.refl _ | exact kept_id _ | apply kept_setSynStateAt | apply kept_finishMove | apply kept_ite | apply kept_ite_fst | apply kept_cond | apply kept_foldOver | apply kept_foldOver_fst | intro _ | refine kept_of_fst ‹_ = (_, _)› ?_ | simp only [kept_mk_iff] | split)

theorem kept_settlePool {s₀ : State} (s : State)  (hk : Kept s₀ s) : Kept s₀ (State.settlePool s) := by
  refine Kept.trans hk ?_
  simp only [State.settlePool]
  repeat' (with_reducible first | exact Kept.refl _ | exact kept_id _ | apply kept_forL | apply kept_settle | apply kept_updatePool | apply kept_ite | apply kept_ite_fst | apply kept_cond | apply kept_foldOver | apply kept_foldOver_fst | intro _ | refine kept_of_fst ‹_ = (_, _)› ?_ | simp only [kept_mk_iff] | split)

theorem kept_releaseSynth {s₀ : State} (o : Option Nat) (s : State)  (hk : Kept s₀ s) : Kept s₀ (State.releaseSynth o s) := by
  refine Kept.trans hk ?_
  simp only [State.releaseSynth]
  repeat' (with_reducible first | exact Kept.refl _ | exact kept_id _ | apply kept_setSynH | apply kept_updatePool | apply kept_ite | apply kept_ite_fst | apply kept_cond | apply kept_foldOver | apply kept_foldOver_fst | intro _ | refine kept_of_fst ‹_ = (_, _)› ?_ | simp only [kept_mk_iff] | split)

theorem kept_takeSynth {s₀ : State} (p i word div : Nat) (s : State)  (hk : Kept s₀ s) : Kept s₀ (State.takeSynth p i word div s) := by
  refine Kept.trans hk ?_
  simp only [State.takeSynth]
  repeat' (with_reducible first | exact Kept.refl _ | exact kept_id _ | apply kept_setSynH | apply kept_beginMove | apply kept_updatePool | apply kept_ite | apply kept_ite_fst | apply kept_cond | apply kept_foldOver | apply kept_foldOver_fst | intro _ | refine kept_of_fst ‹_ = (_, _)› ?_ | simp only [kept_mk_iff] | split)

theorem kept_claimSynth {s₀ : State} (p word div : Nat) (s : State)  (hk : Kept s₀ s) : Kept s₀ (State.claimSynth p word div s).1 := by
  refine Kept.trans hk ?_
  simp only [State.claimSynth]
  repeat' (with_reducible first | exact Kept.refl _ | exact kept_id _ | apply kept_takeSynth | apply kept_ite | apply kept_ite_fst | apply kept_cond | apply kept_foldOver | apply kept_foldOver_fst | intro _ | refine kept_of_fst ‹_ = (_, _)› ?_ | simp only [kept_mk_iff] | split)

theorem kept_startDivider {s₀ : State} (i div t : Nat) (s : State)  (hk : Kept s₀ s) : Kept s₀ (State.startDivider i div t s) := by
  refine Kept.trans hk ?_
  simp only [State.startDivider]
  repeat' (with_reducible first | exact Kept.refl _ | exact kept_id _ | apply kept_setSynH | apply kept_ite | apply kept_ite_fst | apply kept_cond | apply kept_foldOver | apply kept_foldOver_fst | intro _ | refine kept_of_fst ‹_ = (_, _)› ?_ | simp only [kept_mk_iff] | split)

theorem kept_swapSynth {s₀ : State} (p t : Nat) (o : Option Nat) (s : State)  (hk : Kept s₀ s) : Kept s₀ (State.swapSynth p t o s) := by
  refine Kept.trans hk ?_
  simp only [State.swapSynth]
  repeat' (with_reducible first | exact Kept.refl _ | exact kept_id _ | apply kept_wr | apply kept_startRamp | apply kept_setSynState | apply kept_setSynH | apply kept_updatePool | apply kept_ite | apply kept_ite_fst | apply kept_cond | apply kept_foldOver | apply kept_foldOver_fst | intro _ | refine kept_of_fst ‹_ = (_, _)› ?_ | simp only [kept_mk_iff] | split)

theorem kept_execBandSearchesDone (bands : List (Fin 256)) (s : State) : ∃ t, execBandSearchesDone bands s = .next t ∧ Kept s t := by
  refine ⟨_, rfl, ?_⟩
  repeat' (with_reducible first | exact Kept.refl _ | exact kept_id _ | apply kept_forN | apply kept_setSynH | apply kept_wr | apply kept_setSynState | apply kept_updatePool | apply kept_ite | apply kept_ite_fst | apply kept_cond | apply kept_foldOver | apply kept_foldOver_fst | intro _ | refine kept_of_fst ‹_ = (_, _)› ?_ | simp only [kept_mk_iff] | split)

theorem kept_execBandSearchDone (i : Fin 53) (band : Fin 256) (found : Bool) (s : State) : ∃ t, execBandSearchDone i band found s = .next t ∧ Kept s t := by
  refine ⟨_, rfl, ?_⟩
  repeat' (with_reducible first | exact Kept.refl _ | exact kept_id _ | apply kept_raiseArg | apply kept_setSynH | apply kept_wr | apply kept_setSynState | apply kept_ite | apply kept_ite_fst | apply kept_cond | apply kept_foldOver | apply kept_foldOver_fst | intro _ | refine kept_of_fst ‹_ = (_, _)› ?_ | simp only [kept_mk_iff] | split)

theorem kept_steer {s₀ : State} (loop : Int) (s : State)  (hk : Kept s₀ s) : Kept s₀ (State.steer loop s) := by
  refine Kept.trans hk ?_
  simp only [State.steer]
  repeat' (with_reducible first | exact Kept.refl _ | exact kept_id _ | apply kept_wrInt | apply kept_ite | apply kept_ite_fst | apply kept_cond | apply kept_foldOver | apply kept_foldOver_fst | intro _ | refine kept_of_fst ‹_ = (_, _)› ?_ | simp only [kept_mk_iff] | split)

theorem kept_advancePlan {s₀ : State} (p : Nat) (s : State)  (hk : Kept s₀ s) : Kept s₀ (State.advancePlan p s) := by
  refine Kept.trans hk ?_
  simp only [State.advancePlan]
  repeat' (with_reducible first | exact Kept.refl _ | exact kept_id _ | apply kept_setPlanH | apply kept_ite | apply kept_ite_fst | apply kept_cond | apply kept_foldOver | apply kept_foldOver_fst | intro _ | refine kept_of_fst ‹_ = (_, _)› ?_ | simp only [kept_mk_iff] | split)

theorem kept_execRampUpdate (i : Fin 53) (loop : Int) (s : State) : ∃ t, execRampUpdate i loop s = .next t ∧ Kept s t := by
  refine ⟨_, rfl, ?_⟩
  repeat' (with_reducible first | exact Kept.refl _ | exact kept_id _ | apply kept_runMash | apply kept_steer | apply kept_advancePlan | apply kept_setPlanH | apply kept_aim | apply kept_setSynH | apply kept_settle | apply kept_setSynWord | apply kept_ite | apply kept_ite_fst | apply kept_cond | apply kept_foldOver | apply kept_foldOver_fst | intro _ | refine kept_of_fst ‹_ = (_, _)› ?_ | simp only [kept_mk_iff] | split)

theorem kept_synUnlock {s₀ : State} (i : Nat) (s : State)  (hk : Kept s₀ s) : Kept s₀ (State.synUnlock i s) := by
  refine Kept.trans hk ?_
  simp only [State.synUnlock]
  repeat' (with_reducible first | exact Kept.refl _ | exact kept_id _ | apply kept_raiseArg | apply kept_bump | apply kept_relock | apply kept_ite | apply kept_ite_fst | apply kept_cond | apply kept_foldOver | apply kept_foldOver_fst | intro _ | refine kept_of_fst ‹_ = (_, _)› ?_ | simp only [kept_mk_iff] | split)

theorem kept_restoreClock {s₀ : State} (p : Nat) (s : State)  (hk : Kept s₀ s) : Kept s₀ (State.restoreClock p s) := by
  refine Kept.trans hk ?_
  simp only [State.restoreClock]
  repeat' (with_reducible first | exact Kept.refl _ | exact kept_id _ | apply kept_claimSynth | apply kept_setPlanH | apply kept_wr | apply kept_raiseArg | apply kept_takeSynth | apply kept_ite | apply kept_ite_fst | apply kept_cond | apply kept_foldOver | apply kept_foldOver_fst | intro _ | refine kept_of_fst ‹_ = (_, _)› ?_ | simp only [kept_mk_iff] | split)

theorem kept_synFlush {s₀ : State} (i : Nat) (s : State)  (hk : Kept s₀ s) : Kept s₀ (State.synFlush i s) := by
  refine Kept.trans hk ?_
  simp only [State.synFlush]
  repeat' (with_reducible first | exact Kept.refl _ | exact kept_id _ | apply kept_setSynH | apply kept_ite | apply kept_ite_fst | apply kept_cond | apply kept_foldOver | apply kept_foldOver_fst | intro _ | refine kept_of_fst ‹_ = (_, _)› ?_ | simp only [kept_mk_iff] | split)

theorem kept_seedWrite {s₀ : State} (i v : Nat) (s : State)  (hk : Kept s₀ s) : Kept s₀ (State.seedWrite i v s) := by
  refine Kept.trans hk ?_
  simp only [State.seedWrite]
  repeat' (with_reducible first | exact Kept.refl _ | exact kept_id _ | apply kept_runMash | apply kept_wr | apply kept_setSynH | apply kept_ite | apply kept_ite_fst | apply kept_cond | apply kept_foldOver | apply kept_foldOver_fst | intro _ | refine kept_of_fst ‹_ = (_, _)› ?_ | simp only [kept_mk_iff] | split)

theorem kept_showCache {s₀ : State} (s : State)  (hk : Kept s₀ s) : Kept s₀ (State.showCache s) := by
  refine Kept.trans hk ?_
  simp only [State.showCache]
  repeat' (with_reducible first | exact Kept.refl _ | exact kept_id _ | apply kept_wr | apply kept_ite | apply kept_ite_fst | apply kept_cond | apply kept_foldOver | apply kept_foldOver_fst | intro _ | refine kept_of_fst ‹_ = (_, _)› ?_ | simp only [kept_mk_iff] | split)

end Sys2Proof.Machine
end

