-- ==== Sys2Proof/Laws/KeptPlans.lean ====
section
/-! SUPPORT. What the operations of Machine/Plans.lean keep. -/

set_option linter.unusedTactic false
set_option linter.unreachableTactic false
set_option linter.unusedSimpArgs false

namespace Sys2Proof.Machine

theorem kept_showPhase {s₀ : State} (p : Nat) (e : Int) (s : State)  (hk : Kept s₀ s) : Kept s₀ (State.showPhase p e s) := by
  refine Kept.trans hk ?_
  simp only [State.showPhase]
  repeat' (with_reducible first | exact Kept.refl _ | exact kept_id _ | apply kept_wrInt | apply kept_ite | apply kept_ite_fst | apply kept_cond | apply kept_foldOver | apply kept_foldOver_fst | intro _ | refine kept_of_fst ‹_ = (_, _)› ?_ | simp only [kept_mk_iff] | split)

theorem kept_endJump {s₀ : State} (p : Nat) (s : State)  (hk : Kept s₀ s) : Kept s₀ (State.endJump p s) := by
  refine Kept.trans hk ?_
  simp only [State.endJump]
  repeat' (with_reducible first | exact Kept.refl _ | exact kept_id _ | apply kept_setPlanH | apply kept_wr | apply kept_ite | apply kept_ite_fst | apply kept_cond | apply kept_foldOver | apply kept_foldOver_fst | intro _ | refine kept_of_fst ‹_ = (_, _)› ?_ | simp only [kept_mk_iff] | split)

theorem kept_decideJump {s₀ : State} (p : Nat) (e : Int) (s : State)  (hk : Kept s₀ s) : Kept s₀ (State.decideJump p e s) := by
  refine Kept.trans hk ?_
  simp only [State.decideJump]
  repeat' (with_reducible first | exact Kept.refl _ | exact kept_id _ | apply kept_setPlanH | apply kept_wr | apply kept_wrInt | apply kept_ite | apply kept_ite_fst | apply kept_cond | apply kept_foldOver | apply kept_foldOver_fst | intro _ | refine kept_of_fst ‹_ = (_, _)› ?_ | simp only [kept_mk_iff] | split)

theorem kept_applyPolicy {s₀ : State} (p policy : Nat) (e : Int) (s : State)  (hk : Kept s₀ s) : Kept s₀ (State.applyPolicy p policy e s) := by
  refine Kept.trans hk ?_
  simp only [State.applyPolicy]
  repeat' (with_reducible first | exact Kept.refl _ | exact kept_id _ | apply kept_showPhase | apply kept_wr | apply kept_decideJump | apply kept_wrB | apply kept_ite | apply kept_ite_fst | apply kept_cond | apply kept_foldOver | apply kept_foldOver_fst | intro _ | refine kept_of_fst ‹_ = (_, _)› ?_ | simp only [kept_mk_iff] | split)

theorem kept_takeError {s₀ : State} (p policy : Nat) (s : State)  (hk : Kept s₀ s) : Kept s₀ (State.takeError p policy s) := by
  refine Kept.trans hk ?_
  simp only [State.takeError]
  repeat' (with_reducible first | exact Kept.refl _ | exact kept_id _ | apply kept_applyPolicy | apply kept_ite | apply kept_ite_fst | apply kept_cond | apply kept_foldOver | apply kept_foldOver_fst | intro _ | refine kept_of_fst ‹_ = (_, _)› ?_ | simp only [kept_mk_iff] | split)

theorem kept_claimFor {s₀ : State} (p : Nat) (st : StagedH) (s : State)  (hk : Kept s₀ s) : Kept s₀ (State.claimFor p st s) := by
  refine Kept.trans hk ?_
  simp only [State.claimFor]
  repeat' (with_reducible first | exact Kept.refl _ | exact kept_id _ | apply kept_setPlanH | apply kept_claimSynth | apply kept_raiseArg | apply kept_takeSynth | apply kept_ite | apply kept_ite_fst | apply kept_cond | apply kept_foldOver | apply kept_foldOver_fst | intro _ | refine kept_of_fst ‹_ = (_, _)› ?_ | simp only [kept_mk_iff] | split)

theorem kept_stageChange {s₀ : State} (p format rate t : Nat) (s : State)  (hk : Kept s₀ s) : Kept s₀ (State.stageChange p format rate t s) := by
  refine Kept.trans hk ?_
  simp only [State.stageChange]
  repeat' (with_reducible first | exact Kept.refl _ | exact kept_id _ | apply kept_setPlanH | apply kept_wr | apply kept_settlePool | apply kept_claimFor | apply kept_raiseArg | apply kept_ite | apply kept_ite_fst | apply kept_cond | apply kept_foldOver | apply kept_foldOver_fst | intro _ | refine kept_of_fst ‹_ = (_, _)› ?_ | simp only [kept_mk_iff] | split)

theorem kept_cancelStaged {s₀ : State} (p : Nat) (s : State)  (hk : Kept s₀ s) : Kept s₀ (State.cancelStaged p s) := by
  refine Kept.trans hk ?_
  simp only [State.cancelStaged]
  repeat' (with_reducible first | exact Kept.refl _ | exact kept_id _ | apply kept_setPlanH | apply kept_releaseSynth | apply kept_wr | apply kept_ite | apply kept_ite_fst | apply kept_cond | apply kept_foldOver | apply kept_foldOver_fst | intro _ | refine kept_of_fst ‹_ = (_, _)› ?_ | simp only [kept_mk_iff] | split)

theorem kept_retime {s₀ : State} (p format rate t : Nat) (s : State)  (hk : Kept s₀ s) : Kept s₀ (State.retime p format rate t s) := by
  refine Kept.trans hk ?_
  simp only [State.retime]
  repeat' (with_reducible first | exact Kept.refl _ | exact kept_id _ | apply kept_cancelStaged | apply kept_stageChange | apply kept_ite | apply kept_ite_fst | apply kept_cond | apply kept_foldOver | apply kept_foldOver_fst | intro _ | refine kept_of_fst ‹_ = (_, _)› ?_ | simp only [kept_mk_iff] | split)

theorem kept_writeTiming {s₀ : State} (p format rate : Nat) (s : State)  (hk : Kept s₀ s) : Kept s₀ (State.writeTiming p format rate s) := by
  refine Kept.trans hk ?_
  simp only [State.writeTiming]
  repeat' (with_reducible first | exact Kept.refl _ | exact kept_id _ | apply kept_setPlanH | apply kept_retime | apply kept_ite | apply kept_ite_fst | apply kept_cond | apply kept_foldOver | apply kept_foldOver_fst | intro _ | refine kept_of_fst ‹_ = (_, _)› ?_ | simp only [kept_mk_iff] | split)

theorem kept_enablePlan {s₀ : State} (p : Nat) (s : State)  (hk : Kept s₀ s) : Kept s₀ (State.enablePlan p s) := by
  refine Kept.trans hk ?_
  simp only [State.enablePlan]
  repeat' (with_reducible first | exact Kept.refl _ | exact kept_id _ | apply kept_setPlanH | apply kept_writeTiming | apply kept_stageChange | apply kept_ite | apply kept_ite_fst | apply kept_cond | apply kept_foldOver | apply kept_foldOver_fst | intro _ | refine kept_of_fst ‹_ = (_, _)› ?_ | simp only [kept_mk_iff] | split)

theorem kept_disablePlan {s₀ : State} (p : Nat) (s : State)  (hk : Kept s₀ s) : Kept s₀ (State.disablePlan p s) := by
  refine Kept.trans hk ?_
  simp only [State.disablePlan]
  repeat' (with_reducible first | exact Kept.refl _ | exact kept_id _ | apply kept_cancelStaged | apply kept_setPlanH | apply kept_ite | apply kept_ite_fst | apply kept_cond | apply kept_foldOver | apply kept_foldOver_fst | intro _ | refine kept_of_fst ‹_ = (_, _)› ?_ | simp only [kept_mk_iff] | split)

theorem kept_changePolicy {s₀ : State} (p policy : Nat) (s : State)  (hk : Kept s₀ s) : Kept s₀ (State.changePolicy p policy s) := by
  refine Kept.trans hk ?_
  simp only [State.changePolicy]
  repeat' (with_reducible first | exact Kept.refl _ | exact kept_id _ | apply kept_applyPolicy | apply kept_ite | apply kept_ite_fst | apply kept_cond | apply kept_foldOver | apply kept_foldOver_fst | intro _ | refine kept_of_fst ‹_ = (_, _)› ?_ | simp only [kept_mk_iff] | split)

theorem kept_planCfgWrite {s₀ : State} (p v : Nat) (s : State)  (hk : Kept s₀ s) : Kept s₀ (State.planCfgWrite p v s) := by
  refine Kept.trans hk ?_
  simp only [State.planCfgWrite]
  repeat' (with_reducible first | exact Kept.refl _ | exact kept_id _ | apply kept_raise | apply kept_wrB | apply kept_wr | apply kept_changePolicy | apply kept_writeTiming | apply kept_enablePlan | apply kept_disablePlan | apply kept_ite | apply kept_ite_fst | apply kept_cond | apply kept_foldOver | apply kept_foldOver_fst | intro _ | refine kept_of_fst ‹_ = (_, _)› ?_ | simp only [kept_mk_iff] | split)

theorem kept_planAlignWrite {s₀ : State} (p v : Nat) (s : State)  (hk : Kept s₀ s) : Kept s₀ (State.planAlignWrite p v s) := by
  refine Kept.trans hk ?_
  simp only [State.planAlignWrite]
  repeat' (with_reducible first | exact Kept.refl _ | exact kept_id _ | apply kept_raise | apply kept_wr | apply kept_takeError | apply kept_ite | apply kept_ite_fst | apply kept_cond | apply kept_foldOver | apply kept_foldOver_fst | intro _ | refine kept_of_fst ‹_ = (_, _)› ?_ | simp only [kept_mk_iff] | split)

theorem kept_planCtrlWrite {s₀ : State} (p v : Nat) (s : State)  (hk : Kept s₀ s) : Kept s₀ (State.planCtrlWrite p v s) := by
  refine Kept.trans hk ?_
  simp only [State.planCtrlWrite]
  repeat' (with_reducible first | exact Kept.refl _ | exact kept_id _ | apply kept_endJump | apply kept_takeError | apply kept_ite | apply kept_ite_fst | apply kept_cond | apply kept_foldOver | apply kept_foldOver_fst | intro _ | refine kept_of_fst ‹_ = (_, _)› ?_ | simp only [kept_mk_iff] | split)

theorem kept_execHandOff (freq : Nat) (b : Int) (s : State) : ∃ t, execHandOff freq b s = .next t ∧ Kept s t := by
  refine ⟨_, rfl, ?_⟩
  repeat' (with_reducible first | exact Kept.refl _ | exact kept_id _ | apply kept_wr | apply kept_wrInt | apply kept_forN | apply kept_takeError | apply kept_ite | apply kept_ite_fst | apply kept_cond | apply kept_foldOver | apply kept_foldOver_fst | intro _ | refine kept_of_fst ‹_ = (_, _)› ?_ | simp only [kept_mk_iff] | split)

theorem kept_execPoolClaim (p : Fin 8) (s : State) : ∃ t, execPoolClaim p s = .next t ∧ Kept s t := by
  refine ⟨_, rfl, ?_⟩
  repeat' (with_reducible first | exact Kept.refl _ | exact kept_id _ | apply kept_settlePool | apply kept_restoreClock | apply kept_claimFor | apply kept_ite | apply kept_ite_fst | apply kept_cond | apply kept_foldOver | apply kept_foldOver_fst | intro _ | refine kept_of_fst ‹_ = (_, _)› ?_ | simp only [kept_mk_iff] | split)

theorem kept_execSynthReady (p : Fin 8) (s : State) : ∃ t, execSynthReady p s = .next t ∧ Kept s t := by
  refine ⟨_, rfl, ?_⟩
  repeat' (with_reducible first | exact Kept.refl _ | exact kept_id _ | apply kept_settle | apply kept_setPlanH | apply kept_swapSynth | apply kept_wr | apply kept_ite | apply kept_ite_fst | apply kept_cond | apply kept_foldOver | apply kept_foldOver_fst | intro _ | refine kept_of_fst ‹_ = (_, _)› ?_ | simp only [kept_mk_iff] | split)

theorem kept_execBridgeFrame (p : Fin 8) (s : State) : ∃ t, execBridgeFrame p s = .next t ∧ Kept s t := by
  refine ⟨_, rfl, ?_⟩
  repeat' (with_reducible first | exact Kept.refl _ | exact kept_id _ | apply kept_setPlanH | apply kept_wr | apply kept_ite | apply kept_ite_fst | apply kept_cond | apply kept_foldOver | apply kept_foldOver_fst | intro _ | refine kept_of_fst ‹_ = (_, _)› ?_ | simp only [kept_mk_iff] | split)

theorem kept_execJumpFrame (p : Fin 8) (s : State) : ∃ t, execJumpFrame p s = .next t ∧ Kept s t := by
  refine ⟨_, rfl, ?_⟩
  repeat' (with_reducible first | exact Kept.refl _ | exact kept_id _ | apply kept_endJump | apply kept_setPlanH | apply kept_wr | apply kept_wrInt | apply kept_ite | apply kept_ite_fst | apply kept_cond | apply kept_foldOver | apply kept_foldOver_fst | intro _ | refine kept_of_fst ‹_ = (_, _)› ?_ | simp only [kept_mk_iff] | split)

theorem kept_execSlewDone (p : Fin 8) (s : State) : ∃ t, execSlewDone p s = .next t ∧ Kept s t := by
  refine ⟨_, rfl, ?_⟩
  repeat' (with_reducible first | exact Kept.refl _ | exact kept_id _ | apply kept_wr | apply kept_showPhase | apply kept_ite | apply kept_ite_fst | apply kept_cond | apply kept_foldOver | apply kept_foldOver_fst | intro _ | refine kept_of_fst ‹_ = (_, _)› ?_ | simp only [kept_mk_iff] | split)

end Sys2Proof.Machine
end

