-- ==== Sys2Proof/Laws/KeptBooks.lean ====
section
/-! SUPPORT. What the operations of Machine/Books.lean keep. -/

set_option linter.unusedTactic false
set_option linter.unreachableTactic false
set_option linter.unusedSimpArgs false

namespace Sys2Proof.Machine

theorem kept_setInH {s₀ : State} (s : State) (i : Nat) (h : InH)  (hk : Kept s₀ s) : Kept s₀ (State.setInH s i h) := by
  refine Kept.trans hk ?_
  simp only [State.setInH]
  repeat' (with_reducible first | exact Kept.refl _ | exact kept_id _ | apply kept_ite | apply kept_ite_fst | apply kept_cond | apply kept_foldOver | apply kept_foldOver_fst | intro _ | refine kept_of_fst ‹_ = (_, _)› ?_ | simp only [kept_mk_iff] | split)

theorem kept_setOutH {s₀ : State} (s : State) (d : Nat) (h : OutH)  (hk : Kept s₀ s) : Kept s₀ (State.setOutH s d h) := by
  refine Kept.trans hk ?_
  simp only [State.setOutH]
  repeat' (with_reducible first | exact Kept.refl _ | exact kept_id _ | apply kept_ite | apply kept_ite_fst | apply kept_cond | apply kept_foldOver | apply kept_foldOver_fst | intro _ | refine kept_of_fst ‹_ = (_, _)› ?_ | simp only [kept_mk_iff] | split)

theorem kept_setChanH {s₀ : State} (s : State) (c : Nat) (h : ChanH)  (hk : Kept s₀ s) : Kept s₀ (State.setChanH s c h) := by
  refine Kept.trans hk ?_
  simp only [State.setChanH]
  repeat' (with_reducible first | exact Kept.refl _ | exact kept_id _ | apply kept_ite | apply kept_ite_fst | apply kept_cond | apply kept_foldOver | apply kept_foldOver_fst | intro _ | refine kept_of_fst ‹_ = (_, _)› ?_ | simp only [kept_mk_iff] | split)

theorem kept_setSrcH {s₀ : State} (s : State) (c : Nat) (h : SrcH)  (hk : Kept s₀ s) : Kept s₀ (State.setSrcH s c h) := by
  refine Kept.trans hk ?_
  simp only [State.setSrcH]
  repeat' (with_reducible first | exact Kept.refl _ | exact kept_id _ | apply kept_ite | apply kept_ite_fst | apply kept_cond | apply kept_foldOver | apply kept_foldOver_fst | intro _ | refine kept_of_fst ‹_ = (_, _)› ?_ | simp only [kept_mk_iff] | split)

theorem kept_setDstH {s₀ : State} (s : State) (a : Nat) (h : DstH)  (hk : Kept s₀ s) : Kept s₀ (State.setDstH s a h) := by
  refine Kept.trans hk ?_
  simp only [State.setDstH]
  repeat' (with_reducible first | exact Kept.refl _ | exact kept_id _ | apply kept_ite | apply kept_ite_fst | apply kept_cond | apply kept_foldOver | apply kept_foldOver_fst | intro _ | refine kept_of_fst ‹_ = (_, _)› ?_ | simp only [kept_mk_iff] | split)

theorem kept_setGenH {s₀ : State} (s : State) (n : Nat) (h : GenH)  (hk : Kept s₀ s) : Kept s₀ (State.setGenH s n h) := by
  refine Kept.trans hk ?_
  simp only [State.setGenH]
  repeat' (with_reducible first | exact Kept.refl _ | exact kept_id _ | apply kept_ite | apply kept_ite_fst | apply kept_cond | apply kept_foldOver | apply kept_foldOver_fst | intro _ | refine kept_of_fst ‹_ = (_, _)› ?_ | simp only [kept_mk_iff] | split)

theorem kept_setI2sH {s₀ : State} (s : State) (k : Nat) (h : I2sH)  (hk : Kept s₀ s) : Kept s₀ (State.setI2sH s k h) := by
  refine Kept.trans hk ?_
  simp only [State.setI2sH]
  repeat' (with_reducible first | exact Kept.refl _ | exact kept_id _ | apply kept_ite | apply kept_ite_fst | apply kept_cond | apply kept_foldOver | apply kept_foldOver_fst | intro _ | refine kept_of_fst ‹_ = (_, _)› ?_ | simp only [kept_mk_iff] | split)

theorem kept_setMvhH {s₀ : State} (s : State) (h : Nat) (v : MvhH)  (hk : Kept s₀ s) : Kept s₀ (State.setMvhH s h v) := by
  refine Kept.trans hk ?_
  simp only [State.setMvhH]
  repeat' (with_reducible first | exact Kept.refl _ | exact kept_id _ | apply kept_ite | apply kept_ite_fst | apply kept_cond | apply kept_foldOver | apply kept_foldOver_fst | intro _ | refine kept_of_fst ‹_ = (_, _)› ?_ | simp only [kept_mk_iff] | split)

theorem kept_setElastic {s₀ : State} (s : State) (i : Nat) (h : ElasticH)  (hk : Kept s₀ s) : Kept s₀ (State.setElastic s i h) := by
  refine Kept.trans hk ?_
  simp only [State.setElastic]
  repeat' (with_reducible first | exact Kept.refl _ | exact kept_id _ | apply kept_ite | apply kept_ite_fst | apply kept_cond | apply kept_foldOver | apply kept_foldOver_fst | intro _ | refine kept_of_fst ‹_ = (_, _)› ?_ | simp only [kept_mk_iff] | split)

theorem kept_addCol {s₀ : State} (c i : Nat) (k : Col) (n : Nat) (s : State)  (hk : Kept s₀ s) : Kept s₀ (State.addCol c i k n s) := by
  refine Kept.trans hk ?_
  simp only [State.addCol]
  repeat' (with_reducible first | exact Kept.refl _ | exact kept_id _ | apply kept_ite | apply kept_ite_fst | apply kept_cond | apply kept_foldOver | apply kept_foldOver_fst | intro _ | refine kept_of_fst ‹_ = (_, _)› ?_ | simp only [kept_mk_iff] | split)

theorem kept_subResident {s₀ : State} (c i n : Nat) (s : State)  (hk : Kept s₀ s) : Kept s₀ (State.subResident c i n s) := by
  refine Kept.trans hk ?_
  simp only [State.subResident]
  repeat' (with_reducible first | exact Kept.refl _ | exact kept_id _ | apply kept_addCol | apply kept_ite | apply kept_ite_fst | apply kept_cond | apply kept_foldOver | apply kept_foldOver_fst | intro _ | refine kept_of_fst ‹_ = (_, _)› ?_ | simp only [kept_mk_iff] | split)

theorem kept_bookIn {s₀ : State} (c i n : Nat) (s : State)  (hk : Kept s₀ s) : Kept s₀ (State.bookIn c i n s) := by
  refine Kept.trans hk ?_
  simp only [State.bookIn]
  repeat' (with_reducible first | exact Kept.refl _ | exact kept_id _ | apply kept_addCol | apply kept_ite | apply kept_ite_fst | apply kept_cond | apply kept_foldOver | apply kept_foldOver_fst | intro _ | refine kept_of_fst ‹_ = (_, _)› ?_ | simp only [kept_mk_iff] | split)

theorem kept_bookOut {s₀ : State} (c i : Nat) (k : Col) (n : Nat) (s : State)  (hk : Kept s₀ s) : Kept s₀ (State.bookOut c i k n s) := by
  refine Kept.trans hk ?_
  simp only [State.bookOut]
  repeat' (with_reducible first | exact Kept.refl _ | exact kept_id _ | apply kept_addCol | apply kept_subResident | apply kept_ite | apply kept_ite_fst | apply kept_cond | apply kept_foldOver | apply kept_foldOver_fst | intro _ | refine kept_of_fst ‹_ = (_, _)› ?_ | simp only [kept_mk_iff] | split)

theorem kept_bookThrough {s₀ : State} (c i : Nat) (k : Col) (n : Nat) (s : State)  (hk : Kept s₀ s) : Kept s₀ (State.bookThrough c i k n s) := by
  refine Kept.trans hk ?_
  simp only [State.bookThrough]
  repeat' (with_reducible first | exact Kept.refl _ | exact kept_id _ | apply kept_bookIn | apply kept_bookOut | apply kept_ite | apply kept_ite_fst | apply kept_cond | apply kept_foldOver | apply kept_foldOver_fst | intro _ | refine kept_of_fst ‹_ = (_, _)› ?_ | simp only [kept_mk_iff] | split)

theorem kept_bookCopy {s₀ : State} (c i n : Nat) (s : State)  (hk : Kept s₀ s) : Kept s₀ (State.bookCopy c i n s) := by
  refine Kept.trans hk ?_
  simp only [State.bookCopy]
  repeat' (with_reducible first | exact Kept.refl _ | exact kept_id _ | apply kept_addCol | apply kept_ite | apply kept_ite_fst | apply kept_cond | apply kept_foldOver | apply kept_foldOver_fst | intro _ | refine kept_of_fst ‹_ = (_, _)› ?_ | simp only [kept_mk_iff] | split)

theorem kept_dropResident {s₀ : State} (c i : Nat) (s : State)  (hk : Kept s₀ s) : Kept s₀ (State.dropResident c i s) := by
  refine Kept.trans hk ?_
  simp only [State.dropResident]
  repeat' (with_reducible first | exact Kept.refl _ | exact kept_id _ | apply kept_bookOut | apply kept_ite | apply kept_ite_fst | apply kept_cond | apply kept_foldOver | apply kept_foldOver_fst | intro _ | refine kept_of_fst ‹_ = (_, _)› ?_ | simp only [kept_mk_iff] | split)

end Sys2Proof.Machine
end

