-- ==== Sys2Proof/Laws/KeptPktBase.lean ====
section
/-! SUPPORT. What the operations of Machine/PktBase.lean keep. -/

set_option linter.unusedTactic false
set_option linter.unreachableTactic false
set_option linter.unusedSimpArgs false

namespace Sys2Proof.Machine

theorem kept_setRxH {s₀ : State} (s : State) (x : Nat) (h : RxH)  (hk : Kept s₀ s) : Kept s₀ (State.setRxH s x h) := by
  refine Kept.trans hk ?_
  simp only [State.setRxH]
  repeat' (with_reducible first | exact Kept.refl _ | exact kept_id _ | apply kept_ite | apply kept_ite_fst | apply kept_cond | apply kept_foldOver | apply kept_foldOver_fst | intro _ | refine kept_of_fst ‹_ = (_, _)› ?_ | simp only [kept_mk_iff] | split)

theorem kept_setTxH {s₀ : State} (s : State) (y : Nat) (h : TxH)  (hk : Kept s₀ s) : Kept s₀ (State.setTxH s y h) := by
  refine Kept.trans hk ?_
  simp only [State.setTxH]
  repeat' (with_reducible first | exact Kept.refl _ | exact kept_id _ | apply kept_ite | apply kept_ite_fst | apply kept_cond | apply kept_foldOver | apply kept_foldOver_fst | intro _ | refine kept_of_fst ‹_ = (_, _)› ?_ | simp only [kept_mk_iff] | split)

theorem kept_setMacH {s₀ : State} (s : State) (n : Nat) (h : MacH)  (hk : Kept s₀ s) : Kept s₀ (State.setMacH s n h) := by
  refine Kept.trans hk ?_
  simp only [State.setMacH]
  repeat' (with_reducible first | exact Kept.refl _ | exact kept_id _ | apply kept_ite | apply kept_ite_fst | apply kept_cond | apply kept_foldOver | apply kept_foldOver_fst | intro _ | refine kept_of_fst ‹_ = (_, _)› ?_ | simp only [kept_mk_iff] | split)

theorem kept_rxActivate {s₀ : State} (x : Nat) (s : State)  (hk : Kept s₀ s) : Kept s₀ (State.rxActivate x s) := by
  refine Kept.trans hk ?_
  simp only [State.rxActivate]
  repeat' (with_reducible first | exact Kept.refl _ | exact kept_id _ | apply kept_wrB | apply kept_setRxH | apply kept_wr | apply kept_ite | apply kept_ite_fst | apply kept_cond | apply kept_foldOver | apply kept_foldOver_fst | intro _ | refine kept_of_fst ‹_ = (_, _)› ?_ | simp only [kept_mk_iff] | split)

theorem kept_rxRecheck {s₀ : State} (s : State)  (hk : Kept s₀ s) : Kept s₀ (State.rxRecheck s) := by
  refine Kept.trans hk ?_
  simp only [State.rxRecheck]
  repeat' (with_reducible first | exact Kept.refl _ | exact kept_id _ | apply kept_forL | apply kept_rxActivate | apply kept_ite | apply kept_ite_fst | apply kept_cond | apply kept_foldOver | apply kept_foldOver_fst | intro _ | refine kept_of_fst ‹_ = (_, _)› ?_ | simp only [kept_mk_iff] | split)

theorem kept_grantMerge {s₀ : State} (x : Nat) (s : State)  (hk : Kept s₀ s) : Kept s₀ (State.grantMerge x s) := by
  refine Kept.trans hk ?_
  simp only [State.grantMerge]
  repeat' (with_reducible first | exact Kept.refl _ | exact kept_id _ | apply kept_bookIn | apply kept_setRxH | apply kept_wr | apply kept_rxActivate | apply kept_rxRecheck | apply kept_ite | apply kept_ite_fst | apply kept_cond | apply kept_foldOver | apply kept_foldOver_fst | intro _ | refine kept_of_fst ‹_ = (_, _)› ?_ | simp only [kept_mk_iff] | split)

theorem kept_freeMerge {s₀ : State} (x : Nat) (s : State)  (hk : Kept s₀ s) : Kept s₀ (State.freeMerge x s) := by
  refine Kept.trans hk ?_
  simp only [State.freeMerge]
  repeat' (with_reducible first | exact Kept.refl _ | exact kept_id _ | apply kept_bookOut | apply kept_setRxH | apply kept_wr | apply kept_ite | apply kept_ite_fst | apply kept_cond | apply kept_foldOver | apply kept_foldOver_fst | intro _ | refine kept_of_fst ‹_ = (_, _)› ?_ | simp only [kept_mk_iff] | split)

end Sys2Proof.Machine
end

