-- ==== Sys2Proof/Laws/KeptVideoOps.lean ====
section
/-! SUPPORT. What the operations of Machine/VideoOps.lean keep. -/

set_option linter.unusedTactic false
set_option linter.unreachableTactic false
set_option linter.unusedSimpArgs false

namespace Sys2Proof.Machine

theorem kept_setGangBits {s₀ : State} (n v : Nat) (s : State)  (hk : Kept s₀ s) : Kept s₀ (State.setGangBits n v s) := by
  refine Kept.trans hk ?_
  simp only [State.setGangBits]
  repeat' (with_reducible first | exact Kept.refl _ | exact kept_id _ | apply kept_forN | apply kept_wr | apply kept_setCtnH | apply kept_ite | apply kept_ite_fst | apply kept_cond | apply kept_foldOver | apply kept_foldOver_fst | intro _ | refine kept_of_fst ‹_ = (_, _)› ?_ | simp only [kept_mk_iff] | split)

theorem kept_dropUndecided {s₀ : State} (i : Nat) (s : State)  (hk : Kept s₀ s) : Kept s₀ (State.dropUndecided i s) := by
  refine Kept.trans hk ?_
  simp only [State.dropUndecided]
  repeat' (with_reducible first | exact Kept.refl _ | exact kept_id _ | apply kept_setInH | apply kept_bookOut | apply kept_ite | apply kept_ite_fst | apply kept_cond | apply kept_foldOver | apply kept_foldOver_fst | intro _ | refine kept_of_fst ‹_ = (_, _)› ?_ | simp only [kept_mk_iff] | split)

theorem kept_updateMode {s₀ : State} (i : Nat) (s : State)  (hk : Kept s₀ s) : Kept s₀ (State.updateMode i s) := by
  refine Kept.trans hk ?_
  simp only [State.updateMode]
  repeat' (with_reducible first | exact Kept.refl _ | exact kept_id _ | apply kept_dropUndecided | apply kept_wr | apply kept_ite | apply kept_ite_fst | apply kept_cond | apply kept_foldOver | apply kept_foldOver_fst | intro _ | refine kept_of_fst ‹_ = (_, _)› ?_ | simp only [kept_mk_iff] | split)

theorem kept_setChannel {s₀ : State} (c st : Nat) (s : State)  (hk : Kept s₀ s) : Kept s₀ (State.setChannel c st s) := by
  refine Kept.trans hk ?_
  simp only [State.setChannel]
  repeat' (with_reducible first | exact Kept.refl _ | exact kept_id _ | apply kept_setChanH | apply kept_wr | apply kept_ite | apply kept_ite_fst | apply kept_cond | apply kept_foldOver | apply kept_foldOver_fst | intro _ | refine kept_of_fst ‹_ = (_, _)› ?_ | simp only [kept_mk_iff] | split)

theorem kept_wakeChannels {s₀ : State} (s : State)  (hk : Kept s₀ s) : Kept s₀ (State.wakeChannels s) := by
  refine Kept.trans hk ?_
  simp only [State.wakeChannels]
  repeat' (with_reducible first | exact Kept.refl _ | exact kept_id _ | apply kept_forL | apply kept_setChannel | apply kept_ite | apply kept_ite_fst | apply kept_cond | apply kept_foldOver | apply kept_foldOver_fst | intro _ | refine kept_of_fst ‹_ = (_, _)› ?_ | simp only [kept_mk_iff] | split)

theorem kept_updateLtr {s₀ : State} (s : State)  (hk : Kept s₀ s) : Kept s₀ (State.updateLtr s) := by
  refine Kept.trans hk ?_
  simp only [State.updateLtr]
  repeat' (with_reducible first | exact Kept.refl _ | exact kept_id _ | apply kept_wr | apply kept_wakeChannels | apply kept_ite | apply kept_ite_fst | apply kept_cond | apply kept_foldOver | apply kept_foldOver_fst | intro _ | refine kept_of_fst ‹_ = (_, _)› ?_ | simp only [kept_mk_iff] | split)

theorem kept_showAdmission {s₀ : State} (s : State)  (hk : Kept s₀ s) : Kept s₀ (State.showAdmission s) := by
  refine Kept.trans hk ?_
  simp only [State.showAdmission]
  repeat' (with_reducible first | exact Kept.refl _ | exact kept_id _ | apply kept_forN | apply kept_wr | apply kept_ite | apply kept_ite_fst | apply kept_cond | apply kept_foldOver | apply kept_foldOver_fst | intro _ | refine kept_of_fst ‹_ = (_, _)› ?_ | simp only [kept_mk_iff] | split)

theorem kept_granted {s₀ : State} (l : Load) (s : State)  (hk : Kept s₀ s) : Kept s₀ (State.granted l s) := by
  refine Kept.trans hk ?_
  simp only [State.granted]
  repeat' (with_reducible first | exact Kept.refl _ | exact kept_id _ | apply kept_cellar | apply kept_setInH | apply kept_wr | apply kept_updateMode | apply kept_bookIn | apply kept_grantMerge | apply kept_ite | apply kept_ite_fst | apply kept_cond | apply kept_foldOver | apply kept_foldOver_fst | intro _ | refine kept_of_fst ‹_ = (_, _)› ?_ | simp only [kept_mk_iff] | split)

theorem kept_unwait {s₀ : State} (l : Load) (s : State)  (hk : Kept s₀ s) : Kept s₀ (State.unwait l s) := by
  refine Kept.trans hk ?_
  simp only [State.unwait]
  repeat' (with_reducible first | exact Kept.refl _ | exact kept_id _ | apply kept_ite | apply kept_ite_fst | apply kept_cond | apply kept_foldOver | apply kept_foldOver_fst | intro _ | refine kept_of_fst ‹_ = (_, _)› ?_ | simp only [kept_mk_iff] | split)

theorem kept_decideLoad {s₀ : State} (again : Bool) (l : Load) (charge : Nat) (s : State)  (hk : Kept s₀ s) : Kept s₀ (State.decideLoad again l charge s) := by
  refine Kept.trans hk ?_
  simp only [State.decideLoad]
  repeat' (with_reducible first | exact Kept.refl _ | exact kept_id _ | apply kept_unwait | apply kept_granted | apply kept_raise | apply kept_showAdmission | apply kept_updateLtr | apply kept_wr | apply kept_ite | apply kept_ite_fst | apply kept_cond | apply kept_foldOver | apply kept_foldOver_fst | intro _ | refine kept_of_fst ‹_ = (_, _)› ?_ | simp only [kept_mk_iff] | split)

theorem kept_askLoad {s₀ : State} (l : Load) (charge : Nat) (s : State)  (hk : Kept s₀ s) : Kept s₀ (State.askLoad l charge s) := by
  refine Kept.trans hk ?_
  simp only [State.askLoad]
  repeat' (with_reducible first | exact Kept.refl _ | exact kept_id _ | apply kept_granted | apply kept_decideLoad | apply kept_ite | apply kept_ite_fst | apply kept_cond | apply kept_foldOver | apply kept_foldOver_fst | intro _ | refine kept_of_fst ‹_ = (_, _)› ?_ | simp only [kept_mk_iff] | split)

theorem kept_withdrawLoad {s₀ : State} (l : Load) (s : State)  (hk : Kept s₀ s) : Kept s₀ (State.withdrawLoad l s) := by
  refine Kept.trans hk ?_
  simp only [State.withdrawLoad]
  repeat' (with_reducible first | exact Kept.refl _ | exact kept_id _ | apply kept_cellar | apply kept_granted | apply kept_setInH | apply kept_wr | apply kept_updateMode | apply kept_bookOut | apply kept_freeMerge | apply kept_showAdmission | apply kept_updateLtr | apply kept_ite | apply kept_ite_fst | apply kept_cond | apply kept_foldOver | apply kept_foldOver_fst | intro _ | refine kept_of_fst ‹_ = (_, _)› ?_ | simp only [kept_mk_iff] | split)

theorem kept_releaseRead {s₀ : State} (i p : Nat) (s : State)  (hk : Kept s₀ s) : Kept s₀ (State.releaseRead i p s) := by
  refine Kept.trans hk ?_
  simp only [State.releaseRead]
  repeat' (with_reducible first | exact Kept.refl _ | exact kept_id _ | apply kept_withdrawLoad | apply kept_ite | apply kept_ite_fst | apply kept_cond | apply kept_foldOver | apply kept_foldOver_fst | intro _ | refine kept_of_fst ‹_ = (_, _)› ?_ | simp only [kept_mk_iff] | split)

theorem kept_askCellar {s₀ : State} (i : Nat) (s : State)  (hk : Kept s₀ s) : Kept s₀ (State.askCellar i s) := by
  refine Kept.trans hk ?_
  simp only [State.askCellar]
  repeat' (with_reducible first | exact Kept.refl _ | exact kept_id _ | apply kept_askLoad | apply kept_ite | apply kept_ite_fst | apply kept_cond | apply kept_foldOver | apply kept_foldOver_fst | intro _ | refine kept_of_fst ‹_ = (_, _)› ?_ | simp only [kept_mk_iff] | split)

theorem kept_askSkim {s₀ : State} (i : Nat) (s : State)  (hk : Kept s₀ s) : Kept s₀ (State.askSkim i s) := by
  refine Kept.trans hk ?_
  simp only [State.askSkim]
  repeat' (with_reducible first | exact Kept.refl _ | exact kept_id _ | apply kept_askLoad | apply kept_ite | apply kept_ite_fst | apply kept_cond | apply kept_foldOver | apply kept_foldOver_fst | intro _ | refine kept_of_fst ‹_ = (_, _)› ?_ | simp only [kept_mk_iff] | split)

theorem kept_assignRead {s₀ : State} (i p : Nat) (s : State)  (hk : Kept s₀ s) : Kept s₀ (State.assignRead i p s) := by
  refine Kept.trans hk ?_
  simp only [State.assignRead]
  repeat' (with_reducible first | exact Kept.refl _ | exact kept_id _ | apply kept_granted | apply kept_wr | apply kept_raise | apply kept_askLoad | apply kept_ite | apply kept_ite_fst | apply kept_cond | apply kept_foldOver | apply kept_foldOver_fst | intro _ | refine kept_of_fst ‹_ = (_, _)› ?_ | simp only [kept_mk_iff] | split)

theorem kept_releaseIdleRead {s₀ : State} (i p : Nat) (s : State)  (hk : Kept s₀ s) : Kept s₀ (State.releaseIdleRead i p s) := by
  refine Kept.trans hk ?_
  simp only [State.releaseIdleRead]
  repeat' (with_reducible first | exact Kept.refl _ | exact kept_id _ | apply kept_releaseRead | apply kept_ite | apply kept_ite_fst | apply kept_cond | apply kept_foldOver | apply kept_foldOver_fst | intro _ | refine kept_of_fst ‹_ = (_, _)› ?_ | simp only [kept_mk_iff] | split)

theorem kept_decideFrames {s₀ : State} (i : Nat) (n : Nat) (s : State)  (hk : Kept s₀ s) : Kept s₀ (State.decideFrames i n s) := by
  refine Kept.trans hk ?_
  simp only [State.decideFrames]
  repeat' (with_reducible first | exact Kept.refl _ | exact kept_id _ | apply kept_setInH | apply kept_bookOut | apply kept_ite | apply kept_ite_fst | apply kept_cond | apply kept_foldOver | apply kept_foldOver_fst | intro _ | refine kept_of_fst ‹_ = (_, _)› ?_ | simp only [kept_mk_iff] | split)

theorem kept_readFrame {s₀ : State} (i p f : Nat) (s : State)  (hk : Kept s₀ s) : Kept s₀ (State.readFrame i p f s) := by
  refine Kept.trans hk ?_
  simp only [State.readFrame]
  repeat' (with_reducible first | exact Kept.refl _ | exact kept_id _ | apply kept_setInH | apply kept_decideFrames | apply kept_ite | apply kept_ite_fst | apply kept_cond | apply kept_foldOver | apply kept_foldOver_fst | intro _ | refine kept_of_fst ‹_ = (_, _)› ?_ | simp only [kept_mk_iff] | split)

theorem kept_endFrame {s₀ : State} (d : Nat) (s : State)  (hk : Kept s₀ s) : Kept s₀ (State.endFrame d s) := by
  refine Kept.trans hk ?_
  simp only [State.endFrame]
  repeat' (with_reducible first | exact Kept.refl _ | exact kept_id _ | apply kept_setOutH | apply kept_bookOut | apply kept_ite | apply kept_ite_fst | apply kept_cond | apply kept_foldOver | apply kept_foldOver_fst | intro _ | refine kept_of_fst ‹_ = (_, _)› ?_ | simp only [kept_mk_iff] | split)

theorem kept_cutOutput {s₀ : State} (d : Nat) (s : State)  (hk : Kept s₀ s) : Kept s₀ (State.cutOutput d s) := by
  refine Kept.trans hk ?_
  simp only [State.cutOutput]
  repeat' (with_reducible first | exact Kept.refl _ | exact kept_id _ | apply kept_setOutH | apply kept_dropResident | apply kept_ite | apply kept_ite_fst | apply kept_cond | apply kept_foldOver | apply kept_foldOver_fst | intro _ | refine kept_of_fst ‹_ = (_, _)› ?_ | simp only [kept_mk_iff] | split)

theorem kept_slipFrame {s₀ : State} (d : Nat) (s : State)  (hk : Kept s₀ s) : Kept s₀ (State.slipFrame d s) := by
  refine Kept.trans hk ?_
  simp only [State.slipFrame]
  repeat' (with_reducible first | exact Kept.refl _ | exact kept_id _ | apply kept_setOutH | apply kept_ite | apply kept_ite_fst | apply kept_cond | apply kept_foldOver | apply kept_foldOver_fst | intro _ | refine kept_of_fst ‹_ = (_, _)› ?_ | simp only [kept_mk_iff] | split)

theorem kept_beginFrame {s₀ : State} (d tag : Nat) (policy again : Bool) (s : State)  (hk : Kept s₀ s) : Kept s₀ (State.beginFrame d tag policy again s) := by
  refine Kept.trans hk ?_
  simp only [State.beginFrame]
  repeat' (with_reducible first | exact Kept.refl _ | exact kept_id _ | apply kept_setOutH | apply kept_bookIn | apply kept_ite | apply kept_ite_fst | apply kept_cond | apply kept_foldOver | apply kept_foldOver_fst | intro _ | refine kept_of_fst ‹_ = (_, _)› ?_ | simp only [kept_mk_iff] | split)

theorem kept_loseSource {s₀ : State} (d : Nat) (s : State)  (hk : Kept s₀ s) : Kept s₀ (State.loseSource d s) := by
  refine Kept.trans hk ?_
  simp only [State.loseSource]
  repeat' (with_reducible first | exact Kept.refl _ | exact kept_id _ | apply kept_slipFrame | apply kept_setOutH | apply kept_wr | apply kept_ite | apply kept_ite_fst | apply kept_cond | apply kept_foldOver | apply kept_foldOver_fst | intro _ | refine kept_of_fst ‹_ = (_, _)› ?_ | simp only [kept_mk_iff] | split)

theorem kept_enterPolicy {s₀ : State} (d : Nat) (s : State)  (hk : Kept s₀ s) : Kept s₀ (State.enterPolicy d s) := by
  refine Kept.trans hk ?_
  simp only [State.enterPolicy]
  repeat' (with_reducible first | exact Kept.refl _ | exact kept_id _ | apply kept_setOutH | apply kept_wr | apply kept_ite | apply kept_ite_fst | apply kept_cond | apply kept_foldOver | apply kept_foldOver_fst | intro _ | refine kept_of_fst ‹_ = (_, _)› ?_ | simp only [kept_mk_iff] | split)

theorem kept_dropElastic {s₀ : State} (i : Nat) (s : State)  (hk : Kept s₀ s) : Kept s₀ (State.dropElastic i s) := by
  refine Kept.trans hk ?_
  simp only [State.dropElastic]
  repeat' (with_reducible first | exact Kept.refl _ | exact kept_id _ | apply kept_forL | apply kept_bookOut | apply kept_setElastic | apply kept_ite | apply kept_ite_fst | apply kept_cond | apply kept_foldOver | apply kept_foldOver_fst | intro _ | refine kept_of_fst ‹_ = (_, _)› ?_ | simp only [kept_mk_iff] | split)

theorem kept_inputAbsent {s₀ : State} (i : Nat) (s : State)  (hk : Kept s₀ s) : Kept s₀ (State.inputAbsent i s) := by
  refine Kept.trans hk ?_
  simp only [State.inputAbsent]
  repeat' (with_reducible first | exact Kept.refl _ | exact kept_id _ | apply kept_dropUndecided | apply kept_withdrawLoad | apply kept_setWord | apply kept_wr | apply kept_setInH | apply kept_bump | apply kept_raise | apply kept_forL | apply kept_dropElastic | apply kept_loseSource | apply kept_refRecheck | apply kept_ite | apply kept_ite_fst | apply kept_cond | apply kept_foldOver | apply kept_foldOver_fst | intro _ | refine kept_of_fst ‹_ = (_, _)› ?_ | simp only [kept_mk_iff] | split)

theorem kept_inputsAbsent {s₀ : State} (n : Nat) (s : State)  (hk : Kept s₀ s) : Kept s₀ (State.inputsAbsent n s) := by
  refine Kept.trans hk ?_
  simp only [State.inputsAbsent]
  repeat' (with_reducible first | exact Kept.refl _ | exact kept_id _ | apply kept_forL | apply kept_inputAbsent | apply kept_ite | apply kept_ite_fst | apply kept_cond | apply kept_foldOver | apply kept_foldOver_fst | intro _ | refine kept_of_fst ‹_ = (_, _)› ?_ | simp only [kept_mk_iff] | split)

theorem kept_coverInput {s₀ : State} (i : Nat) (covered : Bool) (s : State)  (hk : Kept s₀ s) : Kept s₀ (State.coverInput i covered s) := by
  refine Kept.trans hk ?_
  simp only [State.coverInput]
  repeat' (with_reducible first | exact Kept.refl _ | exact kept_id _ | apply kept_setWord | apply kept_wr | apply kept_ite | apply kept_ite_fst | apply kept_cond | apply kept_foldOver | apply kept_foldOver_fst | intro _ | refine kept_of_fst ‹_ = (_, _)› ?_ | simp only [kept_mk_iff] | split)

theorem kept_withdrawInput {s₀ : State} (i : Nat) (s : State)  (hk : Kept s₀ s) : Kept s₀ (State.withdrawInput i s) := by
  refine Kept.trans hk ?_
  simp only [State.withdrawInput]
  repeat' (with_reducible first | exact Kept.refl _ | exact kept_id _ | apply kept_forL | apply kept_granted | apply kept_withdrawLoad | apply kept_ite | apply kept_ite_fst | apply kept_cond | apply kept_foldOver | apply kept_foldOver_fst | intro _ | refine kept_of_fst ‹_ = (_, _)› ?_ | simp only [kept_mk_iff] | split)

theorem kept_setInCode {s₀ : State} (slot code : Nat) (s : State)  (hk : Kept s₀ s) : Kept s₀ (State.setInCode slot code s) := by
  refine Kept.trans hk ?_
  simp only [State.setInCode]
  repeat' (with_reducible first | exact Kept.refl _ | exact kept_id _ | apply kept_forL | apply kept_inputAbsent | apply kept_withdrawInput | apply kept_setGangBits | apply kept_coverInput | apply kept_forN | apply kept_setWord | apply kept_ite | apply kept_ite_fst | apply kept_cond | apply kept_foldOver | apply kept_foldOver_fst | intro _ | refine kept_of_fst ‹_ = (_, _)› ?_ | simp only [kept_mk_iff] | split)

theorem kept_followCode {s₀ : State} (o : Nat) (s : State)  (hk : Kept s₀ s) : Kept s₀ (State.followCode o s) := by
  refine Kept.trans hk ?_
  simp only [State.followCode]
  repeat' (with_reducible first | exact Kept.refl _ | exact kept_id _ | apply kept_forN | apply kept_setWord | apply kept_ite | apply kept_ite_fst | apply kept_cond | apply kept_foldOver | apply kept_foldOver_fst | intro _ | refine kept_of_fst ‹_ = (_, _)› ?_ | simp only [kept_mk_iff] | split)

theorem kept_dropRoute {s₀ : State} (d : Nat) (s : State)  (hk : Kept s₀ s) : Kept s₀ (State.dropRoute d s) := by
  refine Kept.trans hk ?_
  simp only [State.dropRoute]
  repeat' (with_reducible first | exact Kept.refl _ | exact kept_id _ | apply kept_slipFrame | apply kept_endFrame | apply kept_wr | apply kept_setOutH | apply kept_releaseIdleRead | apply kept_ite | apply kept_ite_fst | apply kept_cond | apply kept_foldOver | apply kept_foldOver_fst | intro _ | refine kept_of_fst ‹_ = (_, _)› ?_ | simp only [kept_mk_iff] | split)

theorem kept_dissolve {s₀ : State} (d : Nat) (s : State)  (hk : Kept s₀ s) : Kept s₀ (State.dissolve d s) := by
  refine Kept.trans hk ?_
  simp only [State.dissolve]
  repeat' (with_reducible first | exact Kept.refl _ | exact kept_id _ | apply kept_wr | apply kept_forL | apply kept_ite | apply kept_ite_fst | apply kept_cond | apply kept_foldOver | apply kept_foldOver_fst | intro _ | refine kept_of_fst ‹_ = (_, _)› ?_ | simp only [kept_mk_iff] | split)

theorem kept_cover {s₀ : State} (d w : Nat) (s : State)  (hk : Kept s₀ s) : Kept s₀ (State.cover d w s) := by
  refine Kept.trans hk ?_
  simp only [State.cover]
  repeat' (with_reducible first | exact Kept.refl _ | exact kept_id _ | apply kept_forL | apply kept_dissolve | apply kept_dropRoute | apply kept_wr | apply kept_ite | apply kept_ite_fst | apply kept_cond | apply kept_foldOver | apply kept_foldOver_fst | intro _ | refine kept_of_fst ‹_ = (_, _)› ?_ | simp only [kept_mk_iff] | split)

theorem kept_markLanding {s₀ : State} (d line : Nat) (s : State)  (hk : Kept s₀ s) : Kept s₀ (State.markLanding d line s) := by
  refine Kept.trans hk ?_
  simp only [State.markLanding]
  repeat' (with_reducible first | exact Kept.refl _ | exact kept_id _ | apply kept_setOutH | apply kept_wr | apply kept_ite | apply kept_ite_fst | apply kept_cond | apply kept_foldOver | apply kept_foldOver_fst | intro _ | refine kept_of_fst ‹_ = (_, _)› ?_ | simp only [kept_mk_iff] | split)

theorem kept_switchTo {s₀ : State} (d src width line : Nat) (s : State)  (hk : Kept s₀ s) : Kept s₀ (State.switchTo d src width line s) := by
  refine Kept.trans hk ?_
  simp only [State.switchTo]
  repeat' (with_reducible first | exact Kept.refl _ | exact kept_id _ | apply kept_dissolve | apply kept_wr | apply kept_cover | apply kept_markLanding | apply kept_assignRead | apply kept_releaseIdleRead | apply kept_setOutH | apply kept_wrB | apply kept_readFrame | apply kept_forL | apply kept_bump | apply kept_slipFrame | apply kept_raise | apply kept_followCode | apply kept_ite | apply kept_ite_fst | apply kept_cond | apply kept_foldOver | apply kept_foldOver_fst | intro _ | refine kept_of_fst ‹_ = (_, _)› ?_ | simp only [kept_mk_iff] | split)

theorem kept_clearRoute {s₀ : State} (d line : Nat) (s : State)  (hk : Kept s₀ s) : Kept s₀ (State.clearRoute d line s) := by
  refine Kept.trans hk ?_
  simp only [State.clearRoute]
  repeat' (with_reducible first | exact Kept.refl _ | exact kept_id _ | apply kept_dissolve | apply kept_dropRoute | apply kept_markLanding | apply kept_followCode | apply kept_ite | apply kept_ite_fst | apply kept_cond | apply kept_foldOver | apply kept_foldOver_fst | intro _ | refine kept_of_fst ‹_ = (_, _)› ?_ | simp only [kept_mk_iff] | split)

theorem kept_setMask {s₀ : State} (d : Nat) (on : Bool) (s : State)  (hk : Kept s₀ s) : Kept s₀ (State.setMask d on s) := by
  refine Kept.trans hk ?_
  simp only [State.setMask]
  repeat' (with_reducible first | exact Kept.refl _ | exact kept_id _ | apply kept_slipFrame | apply kept_endFrame | apply kept_setOutH | apply kept_wrB | apply kept_ite | apply kept_ite_fst | apply kept_cond | apply kept_foldOver | apply kept_foldOver_fst | intro _ | refine kept_of_fst ‹_ = (_, _)› ?_ | simp only [kept_mk_iff] | split)

theorem kept_lineArrives {s₀ : State} (i line : Nat) (s : State)  (hk : Kept s₀ s) : Kept s₀ (State.lineArrives i line s) := by
  refine Kept.trans hk ?_
  simp only [State.lineArrives]
  repeat' (with_reducible first | exact Kept.refl _ | exact kept_id _ | apply kept_forN | apply kept_setInH | apply kept_ite | apply kept_ite_fst | apply kept_cond | apply kept_foldOver | apply kept_foldOver_fst | intro _ | refine kept_of_fst ‹_ = (_, _)› ?_ | simp only [kept_mk_iff] | split)

end Sys2Proof.Machine
end

