-- ==== Sys2Proof/Laws/KeptAudioOps.lean ====
section
/-! SUPPORT. What the operations of Machine/AudioOps.lean keep. -/

set_option linter.unusedTactic false
set_option linter.unreachableTactic false
set_option linter.unusedSimpArgs false

namespace Sys2Proof.Machine

theorem kept_anchorPtp {s₀ : State} (p : Nat) (s : State)  (hk : Kept s₀ s) : Kept s₀ (State.anchorPtp p s) := by
  refine Kept.trans hk ?_
  simp only [State.anchorPtp]
  repeat' (with_reducible first | exact Kept.refl _ | exact kept_id _ | apply kept_anchorSequence | apply kept_ite | apply kept_ite_fst | apply kept_cond | apply kept_foldOver | apply kept_foldOver_fst | intro _ | refine kept_of_fst ‹_ = (_, _)› ?_ | simp only [kept_mk_iff] | split)

theorem kept_endFade {s₀ : State} (a : Nat) (s : State)  (hk : Kept s₀ s) : Kept s₀ (State.endFade a s) := by
  refine Kept.trans hk ?_
  simp only [State.endFade]
  repeat' (with_reducible first | exact Kept.refl _ | exact kept_id _ | apply kept_setDstH | apply kept_wr | apply kept_ite | apply kept_ite_fst | apply kept_cond | apply kept_foldOver | apply kept_foldOver_fst | intro _ | refine kept_of_fst ‹_ = (_, _)› ?_ | simp only [kept_mk_iff] | split)

theorem kept_setNonPcm {s₀ : State} (c : Nat) (v : Bool) (s : State)  (hk : Kept s₀ s) : Kept s₀ (State.setNonPcm c v s) := by
  refine Kept.trans hk ?_
  simp only [State.setNonPcm]
  repeat' (with_reducible first | exact Kept.refl _ | exact kept_id _ | apply kept_wrB | apply kept_setSrcH | apply kept_forL | apply kept_endFade | apply kept_wr | apply kept_bump | apply kept_raise | apply kept_ite | apply kept_ite_fst | apply kept_cond | apply kept_foldOver | apply kept_foldOver_fst | intro _ | refine kept_of_fst ‹_ = (_, _)› ?_ | simp only [kept_mk_iff] | split)

theorem kept_takeStatus {s₀ : State} (c w : Nat) (s : State)  (hk : Kept s₀ s) : Kept s₀ (State.takeStatus c w s) := by
  refine Kept.trans hk ?_
  simp only [State.takeStatus]
  repeat' (with_reducible first | exact Kept.refl _ | exact kept_id _ | apply kept_setSrcH | apply kept_ite | apply kept_ite_fst | apply kept_cond | apply kept_foldOver | apply kept_foldOver_fst | intro _ | refine kept_of_fst ‹_ = (_, _)› ?_ | simp only [kept_mk_iff] | split)

theorem kept_moveDelay {s₀ : State} (c new : Nat) (s : State)  (hk : Kept s₀ s) : Kept s₀ (State.moveDelay c new s) := by
  refine Kept.trans hk ?_
  simp only [State.moveDelay]
  repeat' (with_reducible first | exact Kept.refl _ | exact kept_id _ | apply kept_setSrcH | apply kept_bookOut | apply kept_ite | apply kept_ite_fst | apply kept_cond | apply kept_foldOver | apply kept_foldOver_fst | intro _ | refine kept_of_fst ‹_ = (_, _)› ?_ | simp only [kept_mk_iff] | split)

theorem kept_startDelay {s₀ : State} (c : Nat) (s : State)  (hk : Kept s₀ s) : Kept s₀ (State.startDelay c s) := by
  refine Kept.trans hk ?_
  simp only [State.startDelay]
  repeat' (with_reducible first | exact Kept.refl _ | exact kept_id _ | apply kept_moveDelay | apply kept_setSrcH | apply kept_wr | apply kept_ite | apply kept_ite_fst | apply kept_cond | apply kept_foldOver | apply kept_foldOver_fst | intro _ | refine kept_of_fst ‹_ = (_, _)› ?_ | simp only [kept_mk_iff] | split)

theorem kept_bypassDelay {s₀ : State} (c : Nat) (s : State)  (hk : Kept s₀ s) : Kept s₀ (State.bypassDelay c s) := by
  refine Kept.trans hk ?_
  simp only [State.bypassDelay]
  repeat' (with_reducible first | exact Kept.refl _ | exact kept_id _ | apply kept_setSrcH | apply kept_wr | apply kept_moveDelay | apply kept_ite | apply kept_ite_fst | apply kept_cond | apply kept_foldOver | apply kept_foldOver_fst | intro _ | refine kept_of_fst ‹_ = (_, _)› ?_ | simp only [kept_mk_iff] | split)

theorem kept_tickSource {s₀ : State} (c : Nat) (x : Sample) (s : State)  (hk : Kept s₀ s) : Kept s₀ (State.tickSource c x s) := by
  refine Kept.trans hk ?_
  simp only [State.tickSource]
  repeat' (with_reducible first | exact Kept.refl _ | exact kept_id _ | apply kept_bookOut | apply kept_wrB | apply kept_setSrcH | apply kept_moveDelay | apply kept_ite | apply kept_ite_fst | apply kept_cond | apply kept_foldOver | apply kept_foldOver_fst | intro _ | refine kept_of_fst ‹_ = (_, _)› ?_ | simp only [kept_mk_iff] | split)

theorem kept_landAudio {s₀ : State} (a asrc fade : Nat) (s : State)  (hk : Kept s₀ s) : Kept s₀ (State.landAudio a asrc fade s) := by
  refine Kept.trans hk ?_
  simp only [State.landAudio]
  repeat' (with_reducible first | exact Kept.refl _ | exact kept_id _ | apply kept_endFade | apply kept_bump | apply kept_raise | apply kept_wr | apply kept_wrB | apply kept_setDstH | apply kept_ite | apply kept_ite_fst | apply kept_cond | apply kept_foldOver | apply kept_foldOver_fst | intro _ | refine kept_of_fst ‹_ = (_, _)› ?_ | simp only [kept_mk_iff] | split)

theorem kept_primeDest {s₀ : State} (a : Nat) (s : State)  (hk : Kept s₀ s) : Kept s₀ (State.primeDest a s) := by
  refine Kept.trans hk ?_
  simp only [State.primeDest]
  repeat' (with_reducible first | exact Kept.refl _ | exact kept_id _ | apply kept_setDstH | apply kept_bookIn | apply kept_ite | apply kept_ite_fst | apply kept_cond | apply kept_foldOver | apply kept_foldOver_fst | intro _ | refine kept_of_fst ‹_ = (_, _)› ?_ | simp only [kept_mk_iff] | split)

theorem kept_feedDest {s₀ : State} (a : Nat) (s : State)  (hk : Kept s₀ s) : Kept s₀ (State.feedDest a s) := by
  refine Kept.trans hk ?_
  simp only [State.feedDest]
  repeat' (with_reducible first | exact Kept.refl _ | exact kept_id _ | apply kept_primeDest | apply kept_setDstH | apply kept_bookIn | apply kept_bookOut | apply kept_bump | apply kept_raise | apply kept_ite | apply kept_ite_fst | apply kept_cond | apply kept_foldOver | apply kept_foldOver_fst | intro _ | refine kept_of_fst ‹_ = (_, _)› ?_ | simp only [kept_mk_iff] | split)

theorem kept_readDest {s₀ : State} (a n : Nat) (gone : Bool) (s : State)  (hk : Kept s₀ s) : Kept s₀ (State.readDest a n gone s).1 := by
  refine Kept.trans hk ?_
  simp only [State.readDest]
  repeat' (with_reducible first | exact Kept.refl _ | exact kept_id _ | apply kept_primeDest | apply kept_setDstH | apply kept_bookCopy | apply kept_bookOut | apply kept_bumpBy | apply kept_raise | apply kept_emit | apply kept_ite | apply kept_ite_fst | apply kept_cond | apply kept_foldOver | apply kept_foldOver_fst | intro _ | refine kept_of_fst ‹_ = (_, _)› ?_ | simp only [kept_mk_iff] | split)

theorem kept_deembed {s₀ : State} (i x : Nat) (words : List Nat) (s : State)  (hk : Kept s₀ s) : Kept s₀ (State.deembed i x words s) := by
  refine Kept.trans hk ?_
  simp only [State.deembed]
  repeat' (with_reducible first | exact Kept.refl _ | exact kept_id _ | apply kept_setInH | apply kept_setElastic | apply kept_forL | apply kept_bookIn | apply kept_ite | apply kept_ite_fst | apply kept_cond | apply kept_foldOver | apply kept_foldOver_fst | intro _ | refine kept_of_fst ‹_ = (_, _)› ?_ | simp only [kept_mk_iff] | split)

theorem kept_embedLine {s₀ : State} (x f rate count line : Nat) (words : List Nat) (s : State)  (hk : Kept s₀ s) : Kept s₀ (State.embedLine x f rate count line words s).1 := by
  refine Kept.trans hk ?_
  simp only [State.embedLine]
  repeat' (with_reducible first | exact Kept.refl _ | exact kept_id _ | apply kept_foldOver | apply kept_readDest | apply kept_ite | apply kept_ite_fst | apply kept_cond | apply kept_foldOver | apply kept_foldOver_fst | intro _ | refine kept_of_fst ‹_ = (_, _)› ?_ | simp only [kept_mk_iff] | split)

theorem kept_nextLine {s₀ : State} (d j line : Nat) (s : State)  (hk : Kept s₀ s) : Kept s₀ (State.nextLine d j line s).1 := by
  refine Kept.trans hk ?_
  simp only [State.nextLine]
  repeat' (with_reducible first | exact Kept.refl _ | exact kept_id _ | apply kept_embedLine | apply kept_ite | apply kept_ite_fst | apply kept_cond | apply kept_foldOver | apply kept_foldOver_fst | intro _ | refine kept_of_fst ‹_ = (_, _)› ?_ | simp only [kept_mk_iff] | split)

theorem kept_showFill {s₀ : State} (k : Nat) (s : State)  (hk : Kept s₀ s) : Kept s₀ (State.showFill k s) := by
  refine Kept.trans hk ?_
  simp only [State.showFill]
  repeat' (with_reducible first | exact Kept.refl _ | exact kept_id _ | apply kept_wr | apply kept_ite | apply kept_ite_fst | apply kept_cond | apply kept_foldOver | apply kept_foldOver_fst | intro _ | refine kept_of_fst ‹_ = (_, _)› ?_ | simp only [kept_mk_iff] | split)

theorem kept_i2sLost {s₀ : State} (k : Nat) (s : State)  (hk : Kept s₀ s) : Kept s₀ (State.i2sLost k s) := by
  refine Kept.trans hk ?_
  simp only [State.i2sLost]
  repeat' (with_reducible first | exact Kept.refl _ | exact kept_id _ | apply kept_setI2sH | apply kept_wr | apply kept_raise | apply kept_bump | apply kept_showFill | apply kept_ite | apply kept_ite_fst | apply kept_cond | apply kept_foldOver | apply kept_foldOver_fst | intro _ | refine kept_of_fst ‹_ = (_, _)› ?_ | simp only [kept_mk_iff] | split)

end Sys2Proof.Machine
end

