-- ==== Sys2Proof/Laws/KeptRckBase.lean ====
section
/-! SUPPORT. What the operations of Machine/RckBase.lean keep. -/

set_option linter.unusedTactic false
set_option linter.unreachableTactic false
set_option linter.unusedSimpArgs false

namespace Sys2Proof.Machine

theorem kept_meets {s₀ : State} (r : Nat) (s : State)  (hk : Kept s₀ s) : Kept s₀ (State.meets r s) := by
  refine Kept.trans hk ?_
  simp only [State.meets]
  repeat' (with_reducible first | exact Kept.refl _ | exact kept_id _ | apply kept_setRckH | apply kept_ite | apply kept_ite_fst | apply kept_cond | apply kept_foldOver | apply kept_foldOver_fst | intro _ | refine kept_of_fst ‹_ = (_, _)› ?_ | simp only [kept_mk_iff] | split)

theorem kept_rckEvent {s₀ : State} (r mask : Nat) (s : State)  (hk : Kept s₀ s) : Kept s₀ (State.rckEvent r mask s) := by
  refine Kept.trans hk ?_
  simp only [State.rckEvent]
  repeat' (with_reducible first | exact Kept.refl _ | exact kept_id _ | apply kept_setRckH | apply kept_wr | apply kept_meets | apply kept_ite | apply kept_ite_fst | apply kept_cond | apply kept_foldOver | apply kept_foldOver_fst | intro _ | refine kept_of_fst ‹_ = (_, _)› ?_ | simp only [kept_mk_iff] | split)

theorem kept_rckEventAll {s₀ : State} (mask : Nat) (s : State)  (hk : Kept s₀ s) : Kept s₀ (State.rckEventAll mask s) := by
  refine Kept.trans hk ?_
  simp only [State.rckEventAll]
  repeat' (with_reducible first | exact Kept.refl _ | exact kept_id _ | apply kept_forN | apply kept_rckEvent | apply kept_ite | apply kept_ite_fst | apply kept_cond | apply kept_foldOver | apply kept_foldOver_fst | intro _ | refine kept_of_fst ‹_ = (_, _)› ?_ | simp only [kept_mk_iff] | split)

theorem kept_showRck {s₀ : State} (r : Nat) (s : State)  (hk : Kept s₀ s) : Kept s₀ (State.showRck r s) := by
  refine Kept.trans hk ?_
  simp only [State.showRck]
  repeat' (with_reducible first | exact Kept.refl _ | exact kept_id _ | apply kept_wr | apply kept_ite | apply kept_ite_fst | apply kept_cond | apply kept_foldOver | apply kept_foldOver_fst | intro _ | refine kept_of_fst ‹_ = (_, _)› ?_ | simp only [kept_mk_iff] | split)

theorem kept_haltRacker {s₀ : State} (r : Nat) (s : State)  (hk : Kept s₀ s) : Kept s₀ (State.haltRacker r s) := by
  refine Kept.trans hk ?_
  simp only [State.haltRacker]
  repeat' (with_reducible first | exact Kept.refl _ | exact kept_id _ | apply kept_setRckH | apply kept_showRck | apply kept_wr | apply kept_ite | apply kept_ite_fst | apply kept_cond | apply kept_foldOver | apply kept_foldOver_fst | intro _ | refine kept_of_fst ‹_ = (_, _)› ?_ | simp only [kept_mk_iff] | split)

theorem kept_haltAll {s₀ : State} (s : State)  (hk : Kept s₀ s) : Kept s₀ (State.haltAll s) := by
  refine Kept.trans hk ?_
  simp only [State.haltAll]
  repeat' (with_reducible first | exact Kept.refl _ | exact kept_id _ | apply kept_forN | apply kept_haltRacker | apply kept_ite | apply kept_ite_fst | apply kept_cond | apply kept_foldOver | apply kept_foldOver_fst | intro _ | refine kept_of_fst ‹_ = (_, _)› ?_ | simp only [kept_mk_iff] | split)

theorem kept_requestRacker {s₀ : State} (r kind : Nat) (s : State)  (hk : Kept s₀ s) : Kept s₀ (State.requestRacker r kind s) := by
  refine Kept.trans hk ?_
  simp only [State.requestRacker]
  repeat' (with_reducible first | exact Kept.refl _ | exact kept_id _ | apply kept_setRckH | apply kept_ite | apply kept_ite_fst | apply kept_cond | apply kept_foldOver | apply kept_foldOver_fst | intro _ | refine kept_of_fst ‹_ = (_, _)› ?_ | simp only [kept_mk_iff] | split)

theorem kept_grantLease {s₀ : State} (i holder dev e : Nat) (s : State)  (hk : Kept s₀ s) : Kept s₀ (State.grantLease i holder dev e s) := by
  refine Kept.trans hk ?_
  simp only [State.grantLease]
  repeat' (with_reducible first | exact Kept.refl _ | exact kept_id _ | apply kept_bookIn | apply kept_wr | apply kept_ite | apply kept_ite_fst | apply kept_cond | apply kept_foldOver | apply kept_foldOver_fst | intro _ | refine kept_of_fst ‹_ = (_, _)› ?_ | simp only [kept_mk_iff] | split)

theorem kept_endLease {s₀ : State} (i : Nat) (col : Col) (s : State)  (hk : Kept s₀ s) : Kept s₀ (State.endLease i col s) := by
  refine Kept.trans hk ?_
  simp only [State.endLease]
  repeat' (with_reducible first | exact Kept.refl _ | exact kept_id _ | apply kept_bookOut | apply kept_wr | apply kept_ite | apply kept_ite_fst | apply kept_cond | apply kept_foldOver | apply kept_foldOver_fst | intro _ | refine kept_of_fst ‹_ = (_, _)› ?_ | simp only [kept_mk_iff] | split)

theorem kept_lapseLease {s₀ : State} (i : Nat) (s : State)  (hk : Kept s₀ s) : Kept s₀ (State.lapseLease i s) := by
  refine Kept.trans hk ?_
  simp only [State.lapseLease]
  repeat' (with_reducible first | exact Kept.refl _ | exact kept_id _ | apply kept_endLease | apply kept_rckEvent | apply kept_ite | apply kept_ite_fst | apply kept_cond | apply kept_foldOver | apply kept_foldOver_fst | intro _ | refine kept_of_fst ‹_ = (_, _)› ?_ | simp only [kept_mk_iff] | split)

theorem kept_expireLease {s₀ : State} (i : Nat) (s : State)  (hk : Kept s₀ s) : Kept s₀ (State.expireLease i s) := by
  refine Kept.trans hk ?_
  simp only [State.expireLease]
  repeat' (with_reducible first | exact Kept.refl _ | exact kept_id _ | apply kept_lapseLease | apply kept_ite | apply kept_ite_fst | apply kept_cond | apply kept_foldOver | apply kept_foldOver_fst | intro _ | refine kept_of_fst ‹_ = (_, _)› ?_ | simp only [kept_mk_iff] | split)

theorem kept_leaseLocal {s₀ : State} (holder i n : Nat) (s : State)  (hk : Kept s₀ s) : Kept s₀ (State.leaseLocal holder i n s).1 := by
  refine Kept.trans hk ?_
  simp only [State.leaseLocal]
  repeat' (with_reducible first | exact Kept.refl _ | exact kept_id _ | apply kept_expireLease | apply kept_grantLease | apply kept_ite | apply kept_ite_fst | apply kept_cond | apply kept_foldOver | apply kept_foldOver_fst | intro _ | refine kept_of_fst ‹_ = (_, _)› ?_ | simp only [kept_mk_iff] | split)

theorem kept_freeLocal {s₀ : State} (holder i : Nat) (s : State)  (hk : Kept s₀ s) : Kept s₀ (State.freeLocal holder i s).1 := by
  refine Kept.trans hk ?_
  simp only [State.freeLocal]
  repeat' (with_reducible first | exact Kept.refl _ | exact kept_id _ | apply kept_expireLease | apply kept_endLease | apply kept_ite | apply kept_ite_fst | apply kept_cond | apply kept_foldOver | apply kept_foldOver_fst | intro _ | refine kept_of_fst ‹_ = (_, _)› ?_ | simp only [kept_mk_iff] | split)

theorem kept_leaseRequest {s₀ : State} (holder i n prio : Nat) (s : State)  (hk : Kept s₀ s) : Kept s₀ (State.leaseRequest holder i n prio s).1 := by
  refine Kept.trans hk ?_
  simp only [State.leaseRequest]
  repeat' (with_reducible first | exact Kept.refl _ | exact kept_id _ | apply kept_expireLease | apply kept_leaseLocal | apply kept_ite | apply kept_ite_fst | apply kept_cond | apply kept_foldOver | apply kept_foldOver_fst | intro _ | refine kept_of_fst ‹_ = (_, _)› ?_ | simp only [kept_mk_iff] | split)

theorem kept_writeFence {s₀ : State} (n v : Nat) (s : State)  (hk : Kept s₀ s) : Kept s₀ (State.writeFence n v s) := by
  refine Kept.trans hk ?_
  simp only [State.writeFence]
  repeat' (with_reducible first | exact Kept.refl _ | exact kept_id _ | apply kept_wr | apply kept_forN | apply kept_meets | apply kept_ite | apply kept_ite_fst | apply kept_cond | apply kept_foldOver | apply kept_foldOver_fst | intro _ | refine kept_of_fst ‹_ = (_, _)› ?_ | simp only [kept_mk_iff] | split)

theorem kept_followHostGpo {s₀ : State} (s : State)  (hk : Kept s₀ s) : Kept s₀ (State.followHostGpo s) := by
  refine Kept.trans hk ?_
  simp only [State.followHostGpo]
  repeat' (with_reducible first | exact Kept.refl _ | exact kept_id _ | apply kept_forN | apply kept_wr | apply kept_ite | apply kept_ite_fst | apply kept_cond | apply kept_foldOver | apply kept_foldOver_fst | intro _ | refine kept_of_fst ‹_ = (_, _)› ?_ | simp only [kept_mk_iff] | split)

theorem kept_driveGpo {s₀ : State} (r value mask : Nat) (s : State)  (hk : Kept s₀ s) : Kept s₀ (State.driveGpo r value mask s) := by
  refine Kept.trans hk ?_
  simp only [State.driveGpo]
  repeat' (with_reducible first | exact Kept.refl _ | exact kept_id _ | apply kept_forL | apply kept_wr | apply kept_raise | apply kept_ite | apply kept_ite_fst | apply kept_cond | apply kept_foldOver | apply kept_foldOver_fst | intro _ | refine kept_of_fst ‹_ = (_, _)› ?_ | simp only [kept_mk_iff] | split)

theorem kept_discarded {s₀ : State} (r n : Nat) (s : State)  (hk : Kept s₀ s) : Kept s₀ (State.discarded r n s) := by
  refine Kept.trans hk ?_
  simp only [State.discarded]
  repeat' (with_reducible first | exact Kept.refl _ | exact kept_id _ | apply kept_bumpBy | apply kept_rckEvent | apply kept_ite | apply kept_ite_fst | apply kept_cond | apply kept_foldOver | apply kept_foldOver_fst | intro _ | refine kept_of_fst ‹_ = (_, _)› ?_ | simp only [kept_mk_iff] | split)

theorem kept_settleOps {s₀ : State} (r t : Nat) (s : State)  (hk : Kept s₀ s) : Kept s₀ (State.settleOps r t s) := by
  refine Kept.trans hk ?_
  simp only [State.settleOps]
  repeat' (with_reducible first | exact Kept.refl _ | exact kept_id _ | apply kept_setRckH | apply kept_rckEvent | apply kept_showRck | apply kept_ite | apply kept_ite_fst | apply kept_cond | apply kept_foldOver | apply kept_foldOver_fst | intro _ | refine kept_of_fst ‹_ = (_, _)› ?_ | simp only [kept_mk_iff] | split)

theorem kept_showLand {s₀ : State} (r p : Nat) (s : State)  (hk : Kept s₀ s) : Kept s₀ (State.showLand r p s) := by
  refine Kept.trans hk ?_
  simp only [State.showLand]
  repeat' (with_reducible first | exact Kept.refl _ | exact kept_id _ | apply kept_wr | apply kept_ite | apply kept_ite_fst | apply kept_cond | apply kept_foldOver | apply kept_foldOver_fst | intro _ | refine kept_of_fst ‹_ = (_, _)› ?_ | simp only [kept_mk_iff] | split)

theorem kept_discardAll {s₀ : State} (r : Nat) (s : State)  (hk : Kept s₀ s) : Kept s₀ (State.discardAll r s) := by
  refine Kept.trans hk ?_
  simp only [State.discardAll]
  repeat' (with_reducible first | exact Kept.refl _ | exact kept_id _ | apply kept_setRckH | apply kept_discarded | apply kept_forN | apply kept_showLand | apply kept_showRck | apply kept_ite | apply kept_ite_fst | apply kept_cond | apply kept_foldOver | apply kept_foldOver_fst | intro _ | refine kept_of_fst ‹_ = (_, _)› ?_ | simp only [kept_mk_iff] | split)

theorem kept_discardWhere {s₀ : State} (p : Nat) (test : Change → Bool) (s : State)  (hk : Kept s₀ s) : Kept s₀ (State.discardWhere p test s) := by
  refine Kept.trans hk ?_
  simp only [State.discardWhere]
  repeat' (with_reducible first | exact Kept.refl _ | exact kept_id _ | apply kept_forN | apply kept_forL | apply kept_setOutH | apply kept_setRckH | apply kept_discarded | apply kept_settleOps | apply kept_showLand | apply kept_ite | apply kept_ite_fst | apply kept_cond | apply kept_foldOver | apply kept_foldOver_fst | intro _ | refine kept_of_fst ‹_ = (_, _)› ?_ | simp only [kept_mk_iff] | split)

theorem kept_landChange {s₀ : State} (p line : Nat) (c : Change) (s : State)  (hk : Kept s₀ s) : Kept s₀ (State.landChange p line c s).1 := by
  refine Kept.trans hk ?_
  simp only [State.landChange]
  repeat' (with_reducible first | exact Kept.refl _ | exact kept_id _ | apply kept_switchTo | apply kept_clearRoute | apply kept_setMask | apply kept_landAudio | apply kept_ite | apply kept_ite_fst | apply kept_cond | apply kept_foldOver | apply kept_foldOver_fst | intro _ | refine kept_of_fst ‹_ = (_, _)› ?_ | simp only [kept_mk_iff] | split)

theorem kept_landChanges {s₀ : State} (p line : Nat) (l : List Change) (s : State) (hk : Kept s₀ s) : Kept s₀ (State.landChanges p line l s).1 := by
  induction l generalizing s with
  | nil => exact hk
  | cons c l ih =>
    simp only [State.landChanges]
    exact ih _ (kept_landChange _ _ _ _ hk)
theorem kept_execPlanGroupLands (p : Fin 8) (s : State) : ∃ t, execPlanGroupLands p s = .next t ∧ Kept s t := by
  refine ⟨_, rfl, ?_⟩
  repeat' (with_reducible first | exact Kept.refl _ | exact kept_id _ | apply kept_landChanges | apply kept_setRckH | apply kept_discarded | apply kept_settleOps | apply kept_wr | apply kept_showLand | apply kept_ite | apply kept_ite_fst | apply kept_cond | apply kept_foldOver | apply kept_foldOver_fst | intro _ | refine kept_of_fst ‹_ = (_, _)› ?_ | simp only [kept_mk_iff] | split)

theorem kept_execLeaseLapse (i : Fin 256) (s : State) : ∃ t, execLeaseLapse i s = .next t ∧ Kept s t := by
  refine ⟨_, rfl, ?_⟩
  repeat' (with_reducible first | exact Kept.refl _ | exact kept_id _ | apply kept_expireLease | apply kept_ite | apply kept_ite_fst | apply kept_cond | apply kept_foldOver | apply kept_foldOver_fst | intro _ | refine kept_of_fst ‹_ = (_, _)› ?_ | simp only [kept_mk_iff] | split)

end Sys2Proof.Machine
end

