-- ==== Sys2Proof/Laws/KeptModes.lean ====
section
/-! SUPPORT. What the operations of Machine/Modes.lean keep. -/

set_option linter.unusedTactic false
set_option linter.unreachableTactic false
set_option linter.unusedSimpArgs false

namespace Sys2Proof.Machine

theorem kept_setClaim {s₀ : State} (b : Bool) (s : State)  (hk : Kept s₀ s) : Kept s₀ (State.setClaim b s) := by
  refine Kept.trans hk ?_
  simp only [State.setClaim]
  repeat' (with_reducible first | exact Kept.refl _ | exact kept_id _ | apply kept_emit | apply kept_ite | apply kept_ite_fst | apply kept_cond | apply kept_foldOver | apply kept_foldOver_fst | intro _ | refine kept_of_fst ‹_ = (_, _)› ?_ | simp only [kept_mk_iff] | split)

theorem kept_unfence {s₀ : State} (s : State)  (hk : Kept s₀ s) : Kept s₀ (State.unfence s) := by
  refine Kept.trans hk ?_
  simp only [State.unfence]
  repeat' (with_reducible first | exact Kept.refl _ | exact kept_id _ | apply kept_wr | apply kept_emit | apply kept_ite | apply kept_ite_fst | apply kept_cond | apply kept_foldOver | apply kept_foldOver_fst | intro _ | refine kept_of_fst ‹_ = (_, _)› ?_ | simp only [kept_mk_iff] | split)

theorem kept_restartFraming {s₀ : State} (n : Nat) (s : State)  (hk : Kept s₀ s) : Kept s₀ (State.restartFraming n s) := by
  refine Kept.trans hk ?_
  simp only [State.restartFraming]
  repeat' (with_reducible first | exact Kept.refl _ | exact kept_id _ | apply kept_setCtnH | apply kept_ite | apply kept_ite_fst | apply kept_cond | apply kept_foldOver | apply kept_foldOver_fst | intro _ | refine kept_of_fst ‹_ = (_, _)› ?_ | simp only [kept_mk_iff] | split)

theorem kept_diagStop {s₀ : State} (s : State)  (hk : Kept s₀ s) : Kept s₀ (State.diagStop s) := by
  refine Kept.trans hk ?_
  simp only [State.diagStop]
  repeat' (with_reducible first | exact Kept.refl _ | exact kept_id _ | apply kept_forL | apply kept_emit | apply kept_forN | apply kept_wr | apply kept_setLaneH | apply kept_fillFrame | apply kept_restartFraming | apply kept_setTrlH | apply kept_ite | apply kept_ite_fst | apply kept_cond | apply kept_foldOver | apply kept_foldOver_fst | intro _ | refine kept_of_fst ‹_ = (_, _)› ?_ | simp only [kept_mk_iff] | split)

theorem kept_enterMode {s₀ : State} (m : Mode) (cause : Nat) (s : State)  (hk : Kept s₀ s) : Kept s₀ (State.enterMode m cause s) := by
  refine Kept.trans hk ?_
  simp only [State.enterMode]
  repeat' (with_reducible first | exact Kept.refl _ | exact kept_id _ | apply kept_diagStop | apply kept_recordMode | apply kept_rckEventAll | apply kept_setClaim | apply kept_refEnd | apply kept_wr | apply kept_haltAll | apply kept_ite | apply kept_ite_fst | apply kept_cond | apply kept_foldOver | apply kept_foldOver_fst | intro _ | refine kept_of_fst ‹_ = (_, _)› ?_ | simp only [kept_mk_iff] | split)

theorem kept_takeToken {s₀ : State} (s : State)  (hk : Kept s₀ s) : Kept s₀ (State.takeToken s) := by
  refine Kept.trans hk ?_
  simp only [State.takeToken]
  repeat' (with_reducible first | exact Kept.refl _ | exact kept_id _ | apply kept_endLease | apply kept_grantLease | apply kept_wr | apply kept_ite | apply kept_ite_fst | apply kept_cond | apply kept_foldOver | apply kept_foldOver_fst | intro _ | refine kept_of_fst ‹_ = (_, _)› ?_ | simp only [kept_mk_iff] | split)

theorem kept_releaseToken {s₀ : State} (s : State)  (hk : Kept s₀ s) : Kept s₀ (State.releaseToken s) := by
  refine Kept.trans hk ?_
  simp only [State.releaseToken]
  repeat' (with_reducible first | exact Kept.refl _ | exact kept_id _ | apply kept_endLease | apply kept_wr | apply kept_ite | apply kept_ite_fst | apply kept_cond | apply kept_foldOver | apply kept_foldOver_fst | intro _ | refine kept_of_fst ‹_ = (_, _)› ?_ | simp only [kept_mk_iff] | split)

theorem kept_updateAble {s₀ : State} (s : State)  (hk : Kept s₀ s) : Kept s₀ (State.updateAble s) := by
  refine Kept.trans hk ?_
  simp only [State.updateAble]
  repeat' (with_reducible first | exact Kept.refl _ | exact kept_id _ | apply kept_wrB | apply kept_ite | apply kept_ite_fst | apply kept_cond | apply kept_foldOver | apply kept_foldOver_fst | intro _ | refine kept_of_fst ‹_ = (_, _)› ?_ | simp only [kept_mk_iff] | split)

theorem kept_relinquish {s₀ : State} (row cause : Nat) (s : State)  (hk : Kept s₀ s) : Kept s₀ (State.relinquish row cause s) := by
  refine Kept.trans hk ?_
  simp only [State.relinquish]
  repeat' (with_reducible first | exact Kept.refl _ | exact kept_id _ | apply kept_setClaim | apply kept_releaseToken | apply kept_enterMode | apply kept_ite | apply kept_ite_fst | apply kept_cond | apply kept_foldOver | apply kept_foldOver_fst | intro _ | refine kept_of_fst ‹_ = (_, _)› ?_ | simp only [kept_mk_iff] | split)

theorem kept_enterSafe {s₀ : State} (cause : Nat) (s : State)  (hk : Kept s₀ s) : Kept s₀ (State.enterSafe cause s) := by
  refine Kept.trans hk ?_
  simp only [State.enterSafe]
  repeat' (with_reducible first | exact Kept.refl _ | exact kept_id _ | apply kept_enterMode | apply kept_haltAll | apply kept_forN | apply kept_slipFrame | apply kept_enterPolicy | apply kept_ite | apply kept_ite_fst | apply kept_cond | apply kept_foldOver | apply kept_foldOver_fst | intro _ | refine kept_of_fst ‹_ = (_, _)› ?_ | simp only [kept_mk_iff] | split)

theorem kept_trigger {s₀ : State} (row : Nat) (s : State)  (hk : Kept s₀ s) : Kept s₀ (State.trigger row s) := by
  refine Kept.trans hk ?_
  simp only [State.trigger]
  repeat' (with_reducible first | exact Kept.refl _ | exact kept_id _ | apply kept_capture | apply kept_relinquish | apply kept_enterSafe | apply kept_ite | apply kept_ite_fst | apply kept_cond | apply kept_foldOver | apply kept_foldOver_fst | intro _ | refine kept_of_fst ‹_ = (_, _)› ?_ | simp only [kept_mk_iff] | split)

theorem kept_trapTrigger {s₀ : State} (r : Nat) (s : State)  (hk : Kept s₀ s) : Kept s₀ (State.trapTrigger r s) := by
  refine Kept.trans hk ?_
  simp only [State.trapTrigger]
  repeat' (with_reducible first | exact Kept.refl _ | exact kept_id _ | apply kept_trigger | apply kept_ite | apply kept_ite_fst | apply kept_cond | apply kept_foldOver | apply kept_foldOver_fst | intro _ | refine kept_of_fst ‹_ = (_, _)› ?_ | simp only [kept_mk_iff] | split)

theorem kept_enterTakeover {s₀ : State} (s : State)  (hk : Kept s₀ s) : Kept s₀ (State.enterTakeover s) := by
  refine Kept.trans hk ?_
  simp only [State.enterTakeover]
  repeat' (with_reducible first | exact Kept.refl _ | exact kept_id _ | apply kept_enterMode | apply kept_takeToken | apply kept_raise | apply kept_ite | apply kept_ite_fst | apply kept_cond | apply kept_foldOver | apply kept_foldOver_fst | intro _ | refine kept_of_fst ‹_ = (_, _)› ?_ | simp only [kept_mk_iff] | split)

theorem kept_diverge {s₀ : State} (s : State)  (hk : Kept s₀ s) : Kept s₀ (State.diverge s) := by
  refine Kept.trans hk ?_
  simp only [State.diverge]
  repeat' (with_reducible first | exact Kept.refl _ | exact kept_id _ | apply kept_wr | apply kept_raise | apply kept_ite | apply kept_ite_fst | apply kept_cond | apply kept_foldOver | apply kept_foldOver_fst | intro _ | refine kept_of_fst ‹_ = (_, _)› ?_ | simp only [kept_mk_iff] | split)

theorem kept_putMirror {s₀ : State} (o : Out) (s : State)  (hk : Kept s₀ s) : Kept s₀ (State.putMirror o s) := by
  refine Kept.trans hk ?_
  simp only [State.putMirror]
  repeat' (with_reducible first | exact Kept.refl _ | exact kept_id _ | apply kept_sendGroups | apply kept_emit | apply kept_ite | apply kept_ite_fst | apply kept_cond | apply kept_foldOver | apply kept_foldOver_fst | intro _ | refine kept_of_fst ‹_ = (_, _)› ?_ | simp only [kept_mk_iff] | split)

theorem kept_sendFree {s₀ : State} (type : Nat) (groups : List Nat) (s : State)  (hk : Kept s₀ s) : Kept s₀ (State.sendFree type groups s) := by
  refine Kept.trans hk ?_
  simp only [State.sendFree]
  repeat' (with_reducible first | exact Kept.refl _ | exact kept_id _ | apply kept_putMirror | apply kept_ite | apply kept_ite_fst | apply kept_cond | apply kept_foldOver | apply kept_foldOver_fst | intro _ | refine kept_of_fst ‹_ = (_, _)› ?_ | simp only [kept_mk_iff] | split)

end Sys2Proof.Machine
end

