-- ==== Sys2Proof/Laws/KeptLedger.lean ====
section
/-! SUPPORT. What the operations of Machine/Ledger.lean keep. -/

set_option linter.unusedTactic false
set_option linter.unreachableTactic false
set_option linter.unusedSimpArgs false

namespace Sys2Proof.Machine

theorem kept_closeBooks {s₀ : State} (s : State)  (hk : Kept s₀ s) : Kept s₀ (State.closeBooks s) := by
  refine Kept.trans hk ?_
  simp only [State.closeBooks]
  repeat' (with_reducible first | exact Kept.refl _ | exact kept_id _ | apply kept_wr | apply kept_ite | apply kept_ite_fst | apply kept_cond | apply kept_foldOver | apply kept_foldOver_fst | intro _ | refine kept_of_fst ‹_ = (_, _)› ?_ | simp only [kept_mk_iff] | split)

theorem kept_imbalance {s₀ : State} (c i more : Nat) (s : State)  (hk : Kept s₀ s) : Kept s₀ (State.imbalance c i more s) := by
  refine Kept.trans hk ?_
  simp only [State.imbalance]
  repeat' (with_reducible first | exact Kept.refl _ | exact kept_id _ | apply kept_wr | apply kept_bumpBy | apply kept_raise | apply kept_trigger | apply kept_ite | apply kept_ite_fst | apply kept_cond | apply kept_foldOver | apply kept_foldOver_fst | intro _ | refine kept_of_fst ‹_ = (_, _)› ?_ | simp only [kept_mk_iff] | split)

theorem kept_sendCheckpoint {s₀ : State} (bad : Bool) (s : State)  (hk : Kept s₀ s) : Kept s₀ (State.sendCheckpoint bad s) := by
  refine Kept.trans hk ?_
  simp only [State.sendCheckpoint]
  repeat' (with_reducible first | exact Kept.refl _ | exact kept_id _ | apply kept_sendFree | apply kept_ite | apply kept_ite_fst | apply kept_cond | apply kept_foldOver | apply kept_foldOver_fst | intro _ | refine kept_of_fst ‹_ = (_, _)› ?_ | simp only [kept_mk_iff] | split)

theorem kept_checkBooks {s₀ : State} (s : State)  (hk : Kept s₀ s) : Kept s₀ (State.checkBooks s) := by
  refine Kept.trans hk ?_
  simp only [State.checkBooks]
  repeat' (with_reducible first | exact Kept.refl _ | exact kept_id _ | apply kept_wr | apply kept_sendCheckpoint | apply kept_imbalance | apply kept_ite | apply kept_ite_fst | apply kept_cond | apply kept_foldOver | apply kept_foldOver_fst | intro _ | refine kept_of_fst ‹_ = (_, _)› ?_ | simp only [kept_mk_iff] | split)

theorem kept_execBooksClose (s : State) : ∃ t, execBooksClose s = .next t ∧ Kept s t := by
  refine ⟨_, rfl, ?_⟩
  repeat' (with_reducible first | exact Kept.refl _ | exact kept_id _ | apply kept_closeBooks | apply kept_ite | apply kept_ite_fst | apply kept_cond | apply kept_foldOver | apply kept_foldOver_fst | intro _ | refine kept_of_fst ‹_ = (_, _)› ?_ | simp only [kept_mk_iff] | split)

theorem kept_execLedgerCheck (s : State) : ∃ t, execLedgerCheck s = .next t ∧ Kept s t := by
  refine ⟨_, rfl, ?_⟩
  repeat' (with_reducible first | exact Kept.refl _ | exact kept_id _ | apply kept_checkBooks | apply kept_ite | apply kept_ite_fst | apply kept_cond | apply kept_foldOver | apply kept_foldOver_fst | intro _ | refine kept_of_fst ‹_ = (_, _)› ?_ | simp only [kept_mk_iff] | split)

theorem kept_execLedgerEccError (s : State) : ∃ t, execLedgerEccError s = .next t ∧ Kept s t := by
  refine ⟨_, rfl, ?_⟩
  repeat' (with_reducible first | exact Kept.refl _ | exact kept_id _ | apply kept_wr | apply kept_raise | apply kept_trigger | apply kept_ite | apply kept_ite_fst | apply kept_cond | apply kept_foldOver | apply kept_foldOver_fst | intro _ | refine kept_of_fst ‹_ = (_, _)› ?_ | simp only [kept_mk_iff] | split)

theorem kept_requestEpoch {s₀ : State} (f : Nat) (s : State)  (hk : Kept s₀ s) : Kept s₀ (State.requestEpoch f s) := by
  refine Kept.trans hk ?_
  simp only [State.requestEpoch]
  repeat' (with_reducible first | exact Kept.refl _ | exact kept_id _ | apply kept_ite | apply kept_ite_fst | apply kept_cond | apply kept_foldOver | apply kept_foldOver_fst | intro _ | refine kept_of_fst ‹_ = (_, _)› ?_ | simp only [kept_mk_iff] | split)

theorem kept_startEpoch {s₀ : State} (s : State)  (hk : Kept s₀ s) : Kept s₀ (State.startEpoch s) := by
  refine Kept.trans hk ?_
  simp only [State.startEpoch]
  repeat' (with_reducible first | exact Kept.refl _ | exact kept_id _ | apply kept_imbalance | apply kept_wr | apply kept_bump | apply kept_ite | apply kept_ite_fst | apply kept_cond | apply kept_foldOver | apply kept_foldOver_fst | intro _ | refine kept_of_fst ‹_ = (_, _)› ?_ | simp only [kept_mk_iff] | split)

theorem kept_execEpochStart (s : State) : ∃ t, execEpochStart s = .next t ∧ Kept s t := by
  refine ⟨_, rfl, ?_⟩
  repeat' (with_reducible first | exact Kept.refl _ | exact kept_id _ | apply kept_closeBooks | apply kept_startEpoch | apply kept_ite | apply kept_ite_fst | apply kept_cond | apply kept_foldOver | apply kept_foldOver_fst | intro _ | refine kept_of_fst ‹_ = (_, _)› ?_ | simp only [kept_mk_iff] | split)

theorem kept_holdBooks {s₀ : State} (s : State)  (hk : Kept s₀ s) : Kept s₀ (State.holdBooks s) := by
  refine Kept.trans hk ?_
  simp only [State.holdBooks]
  repeat' (with_reducible first | exact Kept.refl _ | exact kept_id _ | apply kept_wr | apply kept_ite | apply kept_ite_fst | apply kept_cond | apply kept_foldOver | apply kept_foldOver_fst | intro _ | refine kept_of_fst ‹_ = (_, _)› ?_ | simp only [kept_mk_iff] | split)

theorem kept_releaseBooks {s₀ : State} (s : State)  (hk : Kept s₀ s) : Kept s₀ (State.releaseBooks s) := by
  refine Kept.trans hk ?_
  simp only [State.releaseBooks]
  repeat' (with_reducible first | exact Kept.refl _ | exact kept_id _ | apply kept_wr | apply kept_ite | apply kept_ite_fst | apply kept_cond | apply kept_foldOver | apply kept_foldOver_fst | intro _ | refine kept_of_fst ‹_ = (_, _)› ?_ | simp only [kept_mk_iff] | split)

theorem kept_ledgerControl {s₀ : State} (v : Nat) (stamped : Bool) (s : State)  (hk : Kept s₀ s) : Kept s₀ (State.ledgerControl v stamped s) := by
  refine Kept.trans hk ?_
  simp only [State.ledgerControl]
  repeat' (with_reducible first | exact Kept.refl _ | exact kept_id _ | apply kept_requestEpoch | apply kept_holdBooks | apply kept_releaseBooks | apply kept_ite | apply kept_ite_fst | apply kept_cond | apply kept_foldOver | apply kept_foldOver_fst | intro _ | refine kept_of_fst ‹_ = (_, _)› ?_ | simp only [kept_mk_iff] | split)

theorem kept_selectUnit {s₀ : State} (s : State)  (hk : Kept s₀ s) : Kept s₀ (State.selectUnit s) := by
  refine Kept.trans hk ?_
  simp only [State.selectUnit]
  repeat' (with_reducible first | exact Kept.refl _ | exact kept_id _ | apply kept_forN | apply kept_wr | apply kept_ite | apply kept_ite_fst | apply kept_cond | apply kept_foldOver | apply kept_foldOver_fst | intro _ | refine kept_of_fst ‹_ = (_, _)› ?_ | simp only [kept_mk_iff] | split)

theorem kept_addMark {s₀ : State} (value r frame line : Nat) (s : State)  (hk : Kept s₀ s) : Kept s₀ (State.addMark value r frame line s).1 := by
  refine Kept.trans hk ?_
  simp only [State.addMark]
  repeat' (with_reducible first | exact Kept.refl _ | exact kept_id _ | apply kept_raise | apply kept_ite | apply kept_ite_fst | apply kept_cond | apply kept_foldOver | apply kept_foldOver_fst | intro _ | refine kept_of_fst ‹_ = (_, _)› ?_ | simp only [kept_mk_iff] | split)

theorem kept_takeMark {s₀ : State} (s : State)  (hk : Kept s₀ s) : Kept s₀ (State.takeMark s).1 := by
  refine Kept.trans hk ?_
  simp only [State.takeMark]
  repeat' (with_reducible first | exact Kept.refl _ | exact kept_id _ | apply kept_wr | apply kept_ite | apply kept_ite_fst | apply kept_cond | apply kept_foldOver | apply kept_foldOver_fst | intro _ | refine kept_of_fst ‹_ = (_, _)› ?_ | simp only [kept_mk_iff] | split)

end Sys2Proof.Machine
end

