-- ==== Sys2Proof/Laws/KeptProof.lean ====
section
/-! SUPPORT. What the operations of Machine/Proof.lean keep. -/

set_option linter.unusedTactic false
set_option linter.unreachableTactic false
set_option linter.unusedSimpArgs false

namespace Sys2Proof.Machine

theorem kept_keepRect {s₀ : State} (a : Nat) (s : State)  (hk : Kept s₀ s) : Kept s₀ (State.keepRect a s) := by
  refine Kept.trans hk ?_
  simp only [State.keepRect]
  repeat' (with_reducible first | exact Kept.refl _ | exact kept_id _ | apply kept_ite | apply kept_ite_fst | apply kept_cond | apply kept_foldOver | apply kept_foldOver_fst | intro _ | refine kept_of_fst ‹_ = (_, _)› ?_ | simp only [kept_mk_iff] | split)

theorem kept_execRgenAdvance (s : State) : ∃ t, execRgenAdvance s = .next t ∧ Kept s t := by
  refine ⟨_, rfl, ?_⟩
  repeat' (with_reducible first | exact Kept.refl _ | exact kept_id _ | apply kept_wr | apply kept_raise | apply kept_ite | apply kept_ite_fst | apply kept_cond | apply kept_foldOver | apply kept_foldOver_fst | intro _ | refine kept_of_fst ‹_ = (_, _)› ?_ | simp only [kept_mk_iff] | split)

theorem kept_setRecs {s₀ : State} (k : Nat) (l : List CheckRec) (s : State)  (hk : Kept s₀ s) : Kept s₀ (State.setRecs k l s) := by
  refine Kept.trans hk ?_
  simp only [State.setRecs]
  repeat' (with_reducible first | exact Kept.refl _ | exact kept_id _ | apply kept_ite | apply kept_ite_fst | apply kept_cond | apply kept_foldOver | apply kept_foldOver_fst | intro _ | refine kept_of_fst ‹_ = (_, _)› ?_ | simp only [kept_mk_iff] | split)

theorem kept_addRec {s₀ : State} (k : Nat) (c : CheckRec) (s : State)  (hk : Kept s₀ s) : Kept s₀ (State.addRec k c s) := by
  refine Kept.trans hk ?_
  simp only [State.addRec]
  repeat' (with_reducible first | exact Kept.refl _ | exact kept_id _ | apply kept_setRecs | apply kept_ite | apply kept_ite_fst | apply kept_cond | apply kept_foldOver | apply kept_foldOver_fst | intro _ | refine kept_of_fst ‹_ = (_, _)› ?_ | simp only [kept_mk_iff] | split)

theorem kept_damageRec {s₀ : State} (src tag mask : Nat) (s : State)  (hk : Kept s₀ s) : Kept s₀ (State.damageRec src tag mask s) := by
  refine Kept.trans hk ?_
  simp only [State.damageRec]
  repeat' (with_reducible first | exact Kept.refl _ | exact kept_id _ | apply kept_setRecs | apply kept_ite | apply kept_ite_fst | apply kept_cond | apply kept_foldOver | apply kept_foldOver_fst | intro _ | refine kept_of_fst ‹_ = (_, _)› ?_ | simp only [kept_mk_iff] | split)

theorem kept_loadRecord {s₀ : State} (s : State)  (hk : Kept s₀ s) : Kept s₀ (State.loadRecord s) := by
  refine Kept.trans hk ?_
  simp only [State.loadRecord]
  repeat' (with_reducible first | exact Kept.refl _ | exact kept_id _ | apply kept_wr | apply kept_forN | apply kept_ite | apply kept_ite_fst | apply kept_cond | apply kept_foldOver | apply kept_foldOver_fst | intro _ | refine kept_of_fst ‹_ = (_, _)› ?_ | simp only [kept_mk_iff] | split)

theorem kept_execProofStoreEccError (id : Fin 8192) (out : Bool) (age : Fin 8) (s : State) : ∃ t, execProofStoreEccError id out age s = .next t ∧ Kept s t := by
  refine ⟨_, rfl, ?_⟩
  repeat' (with_reducible first | exact Kept.refl _ | exact kept_id _ | apply kept_setRecs | apply kept_raise | apply kept_ite | apply kept_ite_fst | apply kept_cond | apply kept_foldOver | apply kept_foldOver_fst | intro _ | refine kept_of_fst ‹_ = (_, _)› ?_ | simp only [kept_mk_iff] | split)

theorem kept_escalate {s₀ : State} (d tag : Nat) (s : State)  (hk : Kept s₀ s) : Kept s₀ (State.escalate d tag s) := by
  refine Kept.trans hk ?_
  simp only [State.escalate]
  repeat' (with_reducible first | exact Kept.refl _ | exact kept_id _ | apply kept_wr | apply kept_raise | apply kept_raiseArg | apply kept_bump | apply kept_trigger | apply kept_ite | apply kept_ite_fst | apply kept_cond | apply kept_foldOver | apply kept_foldOver_fst | intro _ | refine kept_of_fst ‹_ = (_, _)› ?_ | simp only [kept_mk_iff] | split)

theorem kept_moveRun {s₀ : State} (d code tag : Nat) (s : State)  (hk : Kept s₀ s) : Kept s₀ (State.moveRun d code tag s) := by
  refine Kept.trans hk ?_
  simp only [State.moveRun]
  repeat' (with_reducible first | exact Kept.refl _ | exact kept_id _ | apply kept_setOutH | apply kept_wr | apply kept_escalate | apply kept_ite | apply kept_ite_fst | apply kept_cond | apply kept_foldOver | apply kept_foldOver_fst | intro _ | refine kept_of_fst ‹_ = (_, _)› ?_ | simp only [kept_mk_iff] | split)

theorem kept_proveTakes {s₀ : State} (d since code tag : Nat) (s : State)  (hk : Kept s₀ s) : Kept s₀ (State.proveTakes d since code tag s) := by
  refine Kept.trans hk ?_
  simp only [State.proveTakes]
  repeat' (with_reducible first | exact Kept.refl _ | exact kept_id _ | apply kept_forN | apply kept_setRckH | apply kept_ite | apply kept_ite_fst | apply kept_cond | apply kept_foldOver | apply kept_foldOver_fst | intro _ | refine kept_of_fst ‹_ = (_, _)› ?_ | simp only [kept_mk_iff] | split)

theorem kept_execVerdict (d : Fin 4608) (s : State) : ∃ t, execVerdict d s = .next t ∧ Kept s t := by
  refine ⟨_, rfl, ?_⟩
  repeat' (with_reducible first | exact Kept.refl _ | exact kept_id _ | apply kept_addRec | apply kept_setOutH | apply kept_proveTakes | apply kept_wr | apply kept_bump | apply kept_raiseArg | apply kept_moveRun | apply kept_ite | apply kept_ite_fst | apply kept_cond | apply kept_foldOver | apply kept_foldOver_fst | intro _ | refine kept_of_fst ‹_ = (_, _)› ?_ | simp only [kept_mk_iff] | split)

end Sys2Proof.Machine
end

