-- ==== Sys2Proof/Laws/KeptVideo.lean ====
section
/-! SUPPORT. What the operations of Machine/Video.lean keep. -/

set_option linter.unusedTactic false
set_option linter.unreachableTactic false
set_option linter.unusedSimpArgs false

namespace Sys2Proof.Machine

theorem kept_startElastic {s₀ : State} (i : Nat) (s : State)  (hk : Kept s₀ s) : Kept s₀ (State.startElastic i s) := by
  refine Kept.trans hk ?_
  simp only [State.startElastic]
  repeat' (with_reducible first | exact Kept.refl _ | exact kept_id _ | apply kept_forL | apply kept_setElastic | apply kept_setInH | apply kept_ite | apply kept_ite_fst | apply kept_cond | apply kept_foldOver | apply kept_foldOver_fst | intro _ | refine kept_of_fst ‹_ = (_, _)› ?_ | simp only [kept_mk_iff] | split)

theorem kept_showOffset {s₀ : State} (i : Nat) (t : Int) (s : State)  (hk : Kept s₀ s) : Kept s₀ (State.showOffset i t s) := by
  refine Kept.trans hk ?_
  simp only [State.showOffset]
  repeat' (with_reducible first | exact Kept.refl _ | exact kept_id _ | apply kept_wrInt | apply kept_wrB | apply kept_ite | apply kept_ite_fst | apply kept_cond | apply kept_foldOver | apply kept_foldOver_fst | intro _ | refine kept_of_fst ‹_ = (_, _)› ?_ | simp only [kept_mk_iff] | split)

theorem kept_readmit {s₀ : State} (i kind : Nat) (s : State)  (hk : Kept s₀ s) : Kept s₀ (State.readmit i kind s) := by
  refine Kept.trans hk ?_
  simp only [State.readmit]
  repeat' (with_reducible first | exact Kept.refl _ | exact kept_id _ | apply kept_forL | apply kept_releaseRead | apply kept_withdrawLoad | apply kept_askCellar | apply kept_assignRead | apply kept_ite | apply kept_ite_fst | apply kept_cond | apply kept_foldOver | apply kept_foldOver_fst | intro _ | refine kept_of_fst ‹_ = (_, _)› ?_ | simp only [kept_mk_iff] | split)

theorem kept_inputPresent {s₀ : State} (i : Nat) (classified : Bool) (format rate : Nat) (levelB : Bool) (s : State)  (hk : Kept s₀ s) : Kept s₀ (State.inputPresent i classified format rate levelB s) := by
  refine Kept.trans hk ?_
  simp only [State.inputPresent]
  repeat' (with_reducible first | exact Kept.refl _ | exact kept_id _ | apply kept_wr | apply kept_wrB | apply kept_setInH | apply kept_readmit | apply kept_askSkim | apply kept_updateMode | apply kept_startElastic | apply kept_ite | apply kept_ite_fst | apply kept_cond | apply kept_foldOver | apply kept_foldOver_fst | intro _ | refine kept_of_fst ‹_ = (_, _)› ?_ | simp only [kept_mk_iff] | split)

theorem kept_execInputPresent (i : Fin 4608) (s : State) : ∃ t, execInputPresent i s = .next t ∧ Kept s t := by
  refine ⟨_, rfl, ?_⟩
  repeat' (with_reducible first | exact Kept.refl _ | exact kept_id _ | apply kept_inputAbsent | apply kept_inputPresent | apply kept_sdiReturn | apply kept_ite | apply kept_ite_fst | apply kept_cond | apply kept_foldOver | apply kept_foldOver_fst | intro _ | refine kept_of_fst ‹_ = (_, _)› ?_ | simp only [kept_mk_iff] | split)

theorem kept_execInputAbsent (i : Fin 4608) (s : State) : ∃ t, execInputAbsent i s = .next t ∧ Kept s t := by
  refine ⟨_, rfl, ?_⟩
  repeat' (with_reducible first | exact Kept.refl _ | exact kept_id _ | apply kept_inputAbsent | apply kept_ite | apply kept_ite_fst | apply kept_cond | apply kept_foldOver | apply kept_foldOver_fst | intro _ | refine kept_of_fst ‹_ = (_, _)› ?_ | simp only [kept_mk_iff] | split)

theorem kept_headRecord {s₀ : State} (h : Nat) (s : State)  (hk : Kept s₀ s) : Kept s₀ (State.headRecord h s) := by
  refine Kept.trans hk ?_
  simp only [State.headRecord]
  repeat' (with_reducible first | exact Kept.refl _ | exact kept_id _ | apply kept_addRec | apply kept_ite | apply kept_ite_fst | apply kept_cond | apply kept_foldOver | apply kept_foldOver_fst | intro _ | refine kept_of_fst ‹_ = (_, _)› ?_ | simp only [kept_mk_iff] | split)

theorem kept_inputFrameComplete {s₀ : State} (i : Nat) (s : State)  (hk : Kept s₀ s) : Kept s₀ (State.inputFrameComplete i s) := by
  refine Kept.trans hk ?_
  simp only [State.inputFrameComplete]
  repeat' (with_reducible first | exact Kept.refl _ | exact kept_id _ | apply kept_headRecord | apply kept_setInH | apply kept_addRec | apply kept_bookOut | apply kept_ite | apply kept_ite_fst | apply kept_cond | apply kept_foldOver | apply kept_foldOver_fst | intro _ | refine kept_of_fst ‹_ = (_, _)› ?_ | simp only [kept_mk_iff] | split)

theorem kept_execCaskWindowEnter (i : Fin 4608) (p : Fin 8) (s : State) : ∃ t, execCaskWindowEnter i p s = .next t ∧ Kept s t := by
  refine ⟨_, rfl, ?_⟩
  repeat' (with_reducible first | exact Kept.refl _ | exact kept_id _ | apply kept_setInH | apply kept_showOffset | apply kept_ite | apply kept_ite_fst | apply kept_cond | apply kept_foldOver | apply kept_foldOver_fst | intro _ | refine kept_of_fst ‹_ = (_, _)› ?_ | simp only [kept_mk_iff] | split)

theorem kept_execCaskWindowExit (i : Fin 4608) (p : Fin 8) (line : Nat) (s : State) : ∃ t, execCaskWindowExit i p line s = .next t ∧ Kept s t := by
  refine ⟨_, rfl, ?_⟩
  repeat' (with_reducible first | exact Kept.refl _ | exact kept_id _ | apply kept_setInH | apply kept_showOffset | apply kept_raise | apply kept_forL | apply kept_wr | apply kept_slipFrame | apply kept_ite | apply kept_ite_fst | apply kept_cond | apply kept_foldOver | apply kept_foldOver_fst | intro _ | refine kept_of_fst ‹_ = (_, _)› ?_ | simp only [kept_mk_iff] | split)

theorem kept_execCarriageChange (d : Fin 4608) (s : State) : ∃ t, execCarriageChange d s = .next t ∧ Kept s t := by
  refine ⟨_, rfl, ?_⟩
  repeat' (with_reducible first | exact Kept.refl _ | exact kept_id _ | apply kept_wrB | apply kept_setOutH | apply kept_slipFrame | apply kept_ite | apply kept_ite_fst | apply kept_cond | apply kept_foldOver | apply kept_foldOver_fst | intro _ | refine kept_of_fst ‹_ = (_, _)› ?_ | simp only [kept_mk_iff] | split)

theorem kept_policyFrame {s₀ : State} (d src : Nat) (s : State)  (hk : Kept s₀ s) : Kept s₀ (State.policyFrame d src s) := by
  refine Kept.trans hk ?_
  simp only [State.policyFrame]
  repeat' (with_reducible first | exact Kept.refl _ | exact kept_id _ | apply kept_enterPolicy | apply kept_setOutH | apply kept_beginFrame | apply kept_ite | apply kept_ite_fst | apply kept_cond | apply kept_foldOver | apply kept_foldOver_fst | intro _ | refine kept_of_fst ‹_ = (_, _)› ?_ | simp only [kept_mk_iff] | split)

theorem kept_sourceFrame {s₀ : State} (d src : Nat) (s : State)  (hk : Kept s₀ s) : Kept s₀ (State.sourceFrame d src s) := by
  refine Kept.trans hk ?_
  simp only [State.sourceFrame]
  repeat' (with_reducible first | exact Kept.refl _ | exact kept_id _ | apply kept_cellar | apply kept_wr | apply kept_wrB | apply kept_readFrame | apply kept_beginFrame | apply kept_setOutH | apply kept_emit | apply kept_ite | apply kept_ite_fst | apply kept_cond | apply kept_foldOver | apply kept_foldOver_fst | intro _ | refine kept_of_fst ‹_ = (_, _)› ?_ | simp only [kept_mk_iff] | split)

theorem kept_startFrame {s₀ : State} (d : Nat) (s : State)  (hk : Kept s₀ s) : Kept s₀ (State.startFrame d s) := by
  refine Kept.trans hk ?_
  simp only [State.startFrame]
  repeat' (with_reducible first | exact Kept.refl _ | exact kept_id _ | apply kept_endFrame | apply kept_anchorPtp | apply kept_policyFrame | apply kept_sourceFrame | apply kept_ite | apply kept_ite_fst | apply kept_cond | apply kept_foldOver | apply kept_foldOver_fst | intro _ | refine kept_of_fst ‹_ = (_, _)› ?_ | simp only [kept_mk_iff] | split)

theorem kept_execHoldLimit (d : Fin 4608) (s : State) : ∃ t, execHoldLimit d s = .next t ∧ Kept s t := by
  refine ⟨_, rfl, ?_⟩
  repeat' (with_reducible first | exact Kept.refl _ | exact kept_id _ | apply kept_setOutH | apply kept_ite | apply kept_ite_fst | apply kept_cond | apply kept_foldOver | apply kept_foldOver_fst | intro _ | refine kept_of_fst ‹_ = (_, _)› ?_ | simp only [kept_mk_iff] | split)

theorem kept_leavePlan {s₀ : State} (d : Nat) (s : State)  (hk : Kept s₀ s) : Kept s₀ (State.leavePlan d s) := by
  refine Kept.trans hk ?_
  simp only [State.leavePlan]
  repeat' (with_reducible first | exact Kept.refl _ | exact kept_id _ | apply kept_discardWhere | apply kept_endFrame | apply kept_setOutH | apply kept_ite | apply kept_ite_fst | apply kept_cond | apply kept_foldOver | apply kept_foldOver_fst | intro _ | refine kept_of_fst ‹_ = (_, _)› ?_ | simp only [kept_mk_iff] | split)

theorem kept_joinPlan {s₀ : State} (d : Nat) (s : State)  (hk : Kept s₀ s) : Kept s₀ (State.joinPlan d s) := by
  refine Kept.trans hk ?_
  simp only [State.joinPlan]
  repeat' (with_reducible first | exact Kept.refl _ | exact kept_id _ | apply kept_wr | apply kept_setOutH | apply kept_forL | apply kept_releaseIdleRead | apply kept_assignRead | apply kept_wrB | apply kept_ite | apply kept_ite_fst | apply kept_cond | apply kept_foldOver | apply kept_foldOver_fst | intro _ | refine kept_of_fst ‹_ = (_, _)› ?_ | simp only [kept_mk_iff] | split)

theorem kept_execOutputPlanChange (d : Fin 4608) (s : State) : ∃ t, execOutputPlanChange d s = .next t ∧ Kept s t := by
  refine ⟨_, rfl, ?_⟩
  repeat' (with_reducible first | exact Kept.refl _ | exact kept_id _ | apply kept_joinPlan | apply kept_leavePlan | apply kept_ite | apply kept_ite_fst | apply kept_cond | apply kept_foldOver | apply kept_foldOver_fst | intro _ | refine kept_of_fst ‹_ = (_, _)› ?_ | simp only [kept_mk_iff] | split)

theorem kept_execCellarEccError (i : Fin 4608) (p : Fin 8) (line : Nat) (kind : Fin 3) (s : State) : ∃ t, execCellarEccError i p line kind s = .next t ∧ Kept s t := by
  refine ⟨_, rfl, ?_⟩
  repeat' (with_reducible first | exact Kept.refl _ | exact kept_id _ | apply kept_bump | apply kept_trigger | apply kept_setInH | apply kept_damageRec | apply kept_ite | apply kept_ite_fst | apply kept_cond | apply kept_foldOver | apply kept_foldOver_fst | intro _ | refine kept_of_fst ‹_ = (_, _)› ?_ | simp only [kept_mk_iff] | split)

theorem kept_execCaskEccError (s : State) : ∃ t, execCaskEccError s = .next t ∧ Kept s t := by
  refine ⟨_, rfl, ?_⟩
  repeat' (with_reducible first | exact Kept.refl _ | exact kept_id _ | apply kept_trigger | apply kept_ite | apply kept_ite_fst | apply kept_cond | apply kept_foldOver | apply kept_foldOver_fst | intro _ | refine kept_of_fst ‹_ = (_, _)› ?_ | simp only [kept_mk_iff] | split)

theorem kept_execAdmissionRetry (s : State) : ∃ t, execAdmissionRetry s = .next t ∧ Kept s t := by
  refine ⟨_, rfl, ?_⟩
  repeat' (with_reducible first | exact Kept.refl _ | exact kept_id _ | apply kept_forL | apply kept_decideLoad | apply kept_ite | apply kept_ite_fst | apply kept_cond | apply kept_foldOver | apply kept_foldOver_fst | intro _ | refine kept_of_fst ‹_ = (_, _)› ?_ | simp only [kept_mk_iff] | split)

theorem kept_execChannelPowerDown (c : Fin 64) (s : State) : ∃ t, execChannelPowerDown c s = .next t ∧ Kept s t := by
  refine ⟨_, rfl, ?_⟩
  repeat' (with_reducible first | exact Kept.refl _ | exact kept_id _ | apply kept_setChannel | apply kept_ite | apply kept_ite_fst | apply kept_cond | apply kept_foldOver | apply kept_foldOver_fst | intro _ | refine kept_of_fst ‹_ = (_, _)› ?_ | simp only [kept_mk_iff] | split)

theorem kept_execChannelSelfRefresh (c : Fin 64) (s : State) : ∃ t, execChannelSelfRefresh c s = .next t ∧ Kept s t := by
  refine ⟨_, rfl, ?_⟩
  repeat' (with_reducible first | exact Kept.refl _ | exact kept_id _ | apply kept_setChannel | apply kept_ite | apply kept_ite_fst | apply kept_cond | apply kept_foldOver | apply kept_foldOver_fst | intro _ | refine kept_of_fst ‹_ = (_, _)› ?_ | simp only [kept_mk_iff] | split)

theorem kept_execChannelWake (c : Fin 64) (s : State) : ∃ t, execChannelWake c s = .next t ∧ Kept s t := by
  refine ⟨_, rfl, ?_⟩
  repeat' (with_reducible first | exact Kept.refl _ | exact kept_id _ | apply kept_setChannel | apply kept_ite | apply kept_ite_fst | apply kept_cond | apply kept_foldOver | apply kept_foldOver_fst | intro _ | refine kept_of_fst ‹_ = (_, _)› ?_ | simp only [kept_mk_iff] | split)

end Sys2Proof.Machine
end

