-- ==== Sys2Proof/Laws/KeptAudio.lean ====
section
/-! SUPPORT. What the operations of Machine/Audio.lean keep. -/

set_option linter.unusedTactic false
set_option linter.unreachableTactic false
set_option linter.unusedSimpArgs false

namespace Sys2Proof.Machine

theorem kept_execCrossfadeEnd (a : Fin 49152) (s : State) : ∃ t, execCrossfadeEnd a s = .next t ∧ Kept s t := by
  refine ⟨_, rfl, ?_⟩
  repeat' (with_reducible first | exact Kept.refl _ | exact kept_id _ | apply kept_endFade | apply kept_ite | apply kept_ite_fst | apply kept_cond | apply kept_foldOver | apply kept_foldOver_fst | intro _ | refine kept_of_fst ‹_ = (_, _)› ?_ | simp only [kept_mk_iff] | split)

theorem kept_execChannelStatusBlockEnd (c : Fin 65536) (s : State) : ∃ t, execChannelStatusBlockEnd c s = .next t ∧ Kept s t := by
  refine ⟨_, rfl, ?_⟩
  repeat' (with_reducible first | exact Kept.refl _ | exact kept_id _ | apply kept_setSrcH | apply kept_setNonPcm | apply kept_ite | apply kept_ite_fst | apply kept_cond | apply kept_foldOver | apply kept_foldOver_fst | intro _ | refine kept_of_fst ‹_ = (_, _)› ?_ | simp only [kept_mk_iff] | split)

theorem kept_execDelayChange (c : Fin 49152) (s : State) : ∃ t, execDelayChange c s = .next t ∧ Kept s t := by
  refine ⟨_, rfl, ?_⟩
  repeat' (with_reducible first | exact Kept.refl _ | exact kept_id _ | apply kept_startDelay | apply kept_updateLtr | apply kept_ite | apply kept_ite_fst | apply kept_cond | apply kept_foldOver | apply kept_foldOver_fst | intro _ | refine kept_of_fst ‹_ = (_, _)› ?_ | simp only [kept_mk_iff] | split)

theorem kept_execDipEnd (c : Fin 49152) (s : State) : ∃ t, execDipEnd c s = .next t ∧ Kept s t := by
  refine ⟨_, rfl, ?_⟩
  repeat' (with_reducible first | exact Kept.refl _ | exact kept_id _ | apply kept_setSrcH | apply kept_wr | apply kept_startDelay | apply kept_ite | apply kept_ite_fst | apply kept_cond | apply kept_foldOver | apply kept_foldOver_fst | intro _ | refine kept_of_fst ‹_ = (_, _)› ?_ | simp only [kept_mk_iff] | split)

theorem kept_execGeneratorRestart (n : Fin 64) (s : State) : ∃ t, execGeneratorRestart n s = .next t ∧ Kept s t := by
  refine ⟨_, rfl, ?_⟩
  repeat' (with_reducible first | exact Kept.refl _ | exact kept_id _ | apply kept_setGenH | apply kept_ite | apply kept_ite_fst | apply kept_cond | apply kept_foldOver | apply kept_foldOver_fst | intro _ | refine kept_of_fst ‹_ = (_, _)› ?_ | simp only [kept_mk_iff] | split)

theorem kept_execI2sLoss (k : Fin 8) (s : State) : ∃ t, execI2sLoss k s = .next t ∧ Kept s t := by
  refine ⟨_, rfl, ?_⟩
  repeat' (with_reducible first | exact Kept.refl _ | exact kept_id _ | apply kept_i2sLost | apply kept_ite | apply kept_ite_fst | apply kept_cond | apply kept_foldOver | apply kept_foldOver_fst | intro _ | refine kept_of_fst ‹_ = (_, _)› ?_ | simp only [kept_mk_iff] | split)

theorem kept_execI2sGlitch (k : Fin 8) (bclk : Nat) (s : State) : ∃ t, execI2sGlitch k bclk s = .next t ∧ Kept s t := by
  refine ⟨_, rfl, ?_⟩
  repeat' (with_reducible first | exact Kept.refl _ | exact kept_id _ | apply kept_setI2sH | apply kept_bump | apply kept_raise | apply kept_showFill | apply kept_i2sLost | apply kept_ite | apply kept_ite_fst | apply kept_cond | apply kept_foldOver | apply kept_foldOver_fst | intro _ | refine kept_of_fst ‹_ = (_, _)› ?_ | simp only [kept_mk_iff] | split)

theorem kept_execI2sRateError (k : Fin 8) (ppm : Int) (s : State) : ∃ t, execI2sRateError k ppm s = .next t ∧ Kept s t := by
  refine ⟨_, rfl, ?_⟩
  repeat' (with_reducible first | exact Kept.refl _ | exact kept_id _ | apply kept_setI2sH | apply kept_raise | apply kept_i2sLost | apply kept_ite | apply kept_ite_fst | apply kept_cond | apply kept_foldOver | apply kept_foldOver_fst | intro _ | refine kept_of_fst ‹_ = (_, _)› ?_ | simp only [kept_mk_iff] | split)

theorem kept_execI2sQualified (k : Fin 8) (s : State) : ∃ t, execI2sQualified k s = .next t ∧ Kept s t := by
  refine ⟨_, rfl, ?_⟩
  repeat' (with_reducible first | exact Kept.refl _ | exact kept_id _ | apply kept_setI2sH | apply kept_wr | apply kept_showFill | apply kept_ite | apply kept_ite_fst | apply kept_cond | apply kept_foldOver | apply kept_foldOver_fst | intro _ | refine kept_of_fst ‹_ = (_, _)› ?_ | simp only [kept_mk_iff] | split)

theorem kept_i2sSteer {s₀ : State} (k : Nat) (s : State)  (hk : Kept s₀ s) : Kept s₀ (State.i2sSteer k s) := by
  refine Kept.trans hk ?_
  simp only [State.i2sSteer]
  repeat' (with_reducible first | exact Kept.refl _ | exact kept_id _ | apply kept_wrInt | apply kept_draw | apply kept_ite | apply kept_ite_fst | apply kept_cond | apply kept_foldOver | apply kept_foldOver_fst | intro _ | refine kept_of_fst ‹_ = (_, _)› ?_ | simp only [kept_mk_iff] | split)

theorem kept_i2sSlip {s₀ : State} (k : Nat) (drop : Bool) (s : State)  (hk : Kept s₀ s) : Kept s₀ (State.i2sSlip k drop s) := by
  refine Kept.trans hk ?_
  simp only [State.i2sSlip]
  repeat' (with_reducible first | exact Kept.refl _ | exact kept_id _ | apply kept_bump | apply kept_raise | apply kept_ite | apply kept_ite_fst | apply kept_cond | apply kept_foldOver | apply kept_foldOver_fst | intro _ | refine kept_of_fst ‹_ = (_, _)› ?_ | simp only [kept_mk_iff] | split)

theorem kept_popFifo {s₀ : State} (k : Nat) (s : State)  (hk : Kept s₀ s) : Kept s₀ (State.popFifo k s).1 := by
  refine Kept.trans hk ?_
  simp only [State.popFifo]
  repeat' (with_reducible first | exact Kept.refl _ | exact kept_id _ | apply kept_i2sSlip | apply kept_setI2sH | apply kept_ite | apply kept_ite_fst | apply kept_cond | apply kept_foldOver | apply kept_foldOver_fst | intro _ | refine kept_of_fst ‹_ = (_, _)› ?_ | simp only [kept_mk_iff] | split)

theorem kept_execI2sFrameReceived (k : Fin 8) (left right : Nat) (s : State) : ∃ t, execI2sFrameReceived k left right s = .next t ∧ Kept s t := by
  refine ⟨_, rfl, ?_⟩
  repeat' (with_reducible first | exact Kept.refl _ | exact kept_id _ | apply kept_setI2sH | apply kept_popFifo | apply kept_emit | apply kept_i2sSteer | apply kept_showFill | apply kept_ite | apply kept_ite_fst | apply kept_cond | apply kept_foldOver | apply kept_foldOver_fst | intro _ | refine kept_of_fst ‹_ = (_, _)› ?_ | simp only [kept_mk_iff] | split)

end Sys2Proof.Machine
end

