-- ==== Sys2Proof/Laws/KeptPktOps.lean ====
section
/-! SUPPORT. What the operations of Machine/PktOps.lean keep. -/

set_option linter.unusedTactic false
set_option linter.unreachableTactic false
set_option linter.unusedSimpArgs false

namespace Sys2Proof.Machine

theorem kept_pktCount {s₀ : State} (n k : Nat) (s : State)  (hk : Kept s₀ s) : Kept s₀ (State.pktCount n k s) := by
  refine Kept.trans hk ?_
  simp only [State.pktCount]
  repeat' (with_reducible first | exact Kept.refl _ | exact kept_id _ | apply kept_bump | apply kept_ite | apply kept_ite_fst | apply kept_cond | apply kept_foldOver | apply kept_foldOver_fst | intro _ | refine kept_of_fst ‹_ = (_, _)› ?_ | simp only [kept_mk_iff] | split)

theorem kept_dropFrame {s₀ : State} (n : Nat) (bit : Field) (k : Nat) (s : State)  (hk : Kept s₀ s) : Kept s₀ (State.dropFrame n bit k s) := by
  refine Kept.trans hk ?_
  simp only [State.dropFrame]
  repeat' (with_reducible first | exact Kept.refl _ | exact kept_id _ | apply kept_raise | apply kept_pktCount | apply kept_bookOut | apply kept_ite | apply kept_ite_fst | apply kept_cond | apply kept_foldOver | apply kept_foldOver_fst | intro _ | refine kept_of_fst ‹_ = (_, _)› ?_ | simp only [kept_mk_iff] | split)

theorem kept_deliverFrame {s₀ : State} (n : Nat) (s : State)  (hk : Kept s₀ s) : Kept s₀ (State.deliverFrame n s) := by
  refine Kept.trans hk ?_
  simp only [State.deliverFrame]
  repeat' (with_reducible first | exact Kept.refl _ | exact kept_id _ | apply kept_bookOut | apply kept_ite | apply kept_ite_fst | apply kept_cond | apply kept_foldOver | apply kept_foldOver_fst | intro _ | refine kept_of_fst ‹_ = (_, _)› ?_ | simp only [kept_mk_iff] | split)

theorem kept_captureFrame {s₀ : State} (n : Nat) (bytes : List Nat) (s : State)  (hk : Kept s₀ s) : Kept s₀ (State.captureFrame n bytes s) := by
  refine Kept.trans hk ?_
  simp only [State.captureFrame]
  repeat' (with_reducible first | exact Kept.refl _ | exact kept_id _ | apply kept_forN | apply kept_wr | apply kept_ite | apply kept_ite_fst | apply kept_cond | apply kept_foldOver | apply kept_foldOver_fst | intro _ | refine kept_of_fst ‹_ = (_, _)› ?_ | simp only [kept_mk_iff] | split)

theorem kept_unmatched {s₀ : State} (n : Nat) (bytes : List Nat) (s : State)  (hk : Kept s₀ s) : Kept s₀ (State.unmatched n bytes s) := by
  refine Kept.trans hk ?_
  simp only [State.unmatched]
  repeat' (with_reducible first | exact Kept.refl _ | exact kept_id _ | apply kept_captureFrame | apply kept_dropFrame | apply kept_ite | apply kept_ite_fst | apply kept_cond | apply kept_foldOver | apply kept_foldOver_fst | intro _ | refine kept_of_fst ‹_ = (_, _)› ?_ | simp only [kept_mk_iff] | split)

theorem kept_rxInputGone {s₀ : State} (x : Nat) (s : State)  (hk : Kept s₀ s) : Kept s₀ (State.rxInputGone x s) := by
  refine Kept.trans hk ?_
  simp only [State.rxInputGone]
  repeat' (with_reducible first | exact Kept.refl _ | exact kept_id _ | apply kept_wr | apply kept_setRxH | apply kept_inputAbsent | apply kept_ite | apply kept_ite_fst | apply kept_cond | apply kept_foldOver | apply kept_foldOver_fst | intro _ | refine kept_of_fst ‹_ = (_, _)› ?_ | simp only [kept_mk_iff] | split)

theorem kept_rxDropHeld {s₀ : State} (x : Nat) (s : State)  (hk : Kept s₀ s) : Kept s₀ (State.rxDropHeld x s) := by
  refine Kept.trans hk ?_
  simp only [State.rxDropHeld]
  repeat' (with_reducible first | exact Kept.refl _ | exact kept_id _ | apply kept_setRxH | apply kept_bookOut | apply kept_ite | apply kept_ite_fst | apply kept_cond | apply kept_foldOver | apply kept_foldOver_fst | intro _ | refine kept_of_fst ‹_ = (_, _)› ?_ | simp only [kept_mk_iff] | split)

theorem kept_rxStop {s₀ : State} (x : Nat) (s : State)  (hk : Kept s₀ s) : Kept s₀ (State.rxStop x s) := by
  refine Kept.trans hk ?_
  simp only [State.rxStop]
  repeat' (with_reducible first | exact Kept.refl _ | exact kept_id _ | apply kept_rxDropHeld | apply kept_rxInputGone | apply kept_setRxH | apply kept_wr | apply kept_ite | apply kept_ite_fst | apply kept_cond | apply kept_foldOver | apply kept_foldOver_fst | intro _ | refine kept_of_fst ‹_ = (_, _)› ?_ | simp only [kept_mk_iff] | split)

theorem kept_rxStopAll {s₀ : State} (x : Nat) (s : State)  (hk : Kept s₀ s) : Kept s₀ (State.rxStopAll x s) := by
  refine Kept.trans hk ?_
  simp only [State.rxStopAll]
  repeat' (with_reducible first | exact Kept.refl _ | exact kept_id _ | apply kept_rxStop | apply kept_forL | apply kept_wrB | apply kept_ite | apply kept_ite_fst | apply kept_cond | apply kept_foldOver | apply kept_foldOver_fst | intro _ | refine kept_of_fst ‹_ = (_, _)› ?_ | simp only [kept_mk_iff] | split)

theorem kept_rxReanchor {s₀ : State} (x : Nat) (s : State)  (hk : Kept s₀ s) : Kept s₀ (State.rxReanchor x s) := by
  refine Kept.trans hk ?_
  simp only [State.rxReanchor]
  repeat' (with_reducible first | exact Kept.refl _ | exact kept_id _ | apply kept_setRxH | apply kept_raise | apply kept_rxInputGone | apply kept_ite | apply kept_ite_fst | apply kept_cond | apply kept_foldOver | apply kept_foldOver_fst | intro _ | refine kept_of_fst ‹_ = (_, _)› ?_ | simp only [kept_mk_iff] | split)

theorem kept_rxTiming {s₀ : State} (s : State)  (hk : Kept s₀ s) : Kept s₀ (State.rxTiming s) := by
  refine Kept.trans hk ?_
  simp only [State.rxTiming]
  repeat' (with_reducible first | exact Kept.refl _ | exact kept_id _ | apply kept_forL | apply kept_wrB | apply kept_rxReanchor | apply kept_ite | apply kept_ite_fst | apply kept_cond | apply kept_foldOver | apply kept_foldOver_fst | intro _ | refine kept_of_fst ‹_ = (_, _)› ?_ | simp only [kept_mk_iff] | split)

theorem kept_furtherCopy {s₀ : State} (x leg : Nat) (e : SeenH) (s : State)  (hk : Kept s₀ s) : Kept s₀ (State.furtherCopy x leg e s) := by
  refine Kept.trans hk ?_
  simp only [State.furtherCopy]
  repeat' (with_reducible first | exact Kept.refl _ | exact kept_id _ | apply kept_setRxH | apply kept_wr | apply kept_bookThrough | apply kept_raise | apply kept_ite | apply kept_ite_fst | apply kept_cond | apply kept_foldOver | apply kept_foldOver_fst | intro _ | refine kept_of_fst ‹_ = (_, _)› ?_ | simp only [kept_mk_iff] | split)

theorem kept_firstCopy {s₀ : State} (x leg seq ts : Nat) (marker : Bool) (payload : List Nat) (s : State)  (hk : Kept s₀ s) : Kept s₀ (State.firstCopy x leg seq ts marker payload s) := by
  refine Kept.trans hk ?_
  simp only [State.firstCopy]
  repeat' (with_reducible first | exact Kept.refl _ | exact kept_id _ | apply kept_rxReanchor | apply kept_setRxH | apply kept_bookThrough | apply kept_bookIn | apply kept_ite | apply kept_ite_fst | apply kept_cond | apply kept_foldOver | apply kept_foldOver_fst | intro _ | refine kept_of_fst ‹_ = (_, _)› ?_ | simp only [kept_mk_iff] | split)

theorem kept_legPresent {s₀ : State} (x leg : Nat) (s : State)  (hk : Kept s₀ s) : Kept s₀ (State.legPresent x leg s) := by
  refine Kept.trans hk ?_
  simp only [State.legPresent]
  repeat' (with_reducible first | exact Kept.refl _ | exact kept_id _ | apply kept_setRxH | apply kept_wr | apply kept_ite | apply kept_ite_fst | apply kept_cond | apply kept_foldOver | apply kept_foldOver_fst | intro _ | refine kept_of_fst ‹_ = (_, _)› ?_ | simp only [kept_mk_iff] | split)

theorem kept_packetArrives {s₀ : State} (x leg : Nat) (l : List Nat) (s : State)  (hk : Kept s₀ s) : Kept s₀ (State.packetArrives x leg l s) := by
  refine Kept.trans hk ?_
  simp only [State.packetArrives]
  repeat' (with_reducible first | exact Kept.refl _ | exact kept_id _ | apply kept_bookThrough | apply kept_legPresent | apply kept_furtherCopy | apply kept_firstCopy | apply kept_ite | apply kept_ite_fst | apply kept_cond | apply kept_foldOver | apply kept_foldOver_fst | intro _ | refine kept_of_fst ‹_ = (_, _)› ?_ | simp only [kept_mk_iff] | split)

theorem kept_fitGang {s₀ : State} (x : Nat) (s : State)  (hk : Kept s₀ s) : Kept s₀ (State.fitGang x s) := by
  refine Kept.trans hk ?_
  simp only [State.fitGang]
  repeat' (with_reducible first | exact Kept.refl _ | exact kept_id _ | apply kept_forL | apply kept_setInCode | apply kept_ite | apply kept_ite_fst | apply kept_cond | apply kept_foldOver | apply kept_foldOver_fst | intro _ | refine kept_of_fst ‹_ = (_, _)› ?_ | simp only [kept_mk_iff] | split)

theorem kept_judgeFrame {s₀ : State} (x : Nat) (f : FrmH) (s : State)  (hk : Kept s₀ s) : Kept s₀ (State.judgeFrame x f s) := by
  refine Kept.trans hk ?_
  simp only [State.judgeFrame]
  repeat' (with_reducible first | exact Kept.refl _ | exact kept_id _ | apply kept_setRxH | apply kept_raise | apply kept_rxInputGone | apply kept_fitGang | apply kept_wr | apply kept_inputPresent | apply kept_ite | apply kept_ite_fst | apply kept_cond | apply kept_foldOver | apply kept_foldOver_fst | intro _ | refine kept_of_fst ‹_ = (_, _)› ?_ | simp only [kept_mk_iff] | split)

theorem kept_useVideo {s₀ : State} (x : Nat) (p : PktH) (s : State)  (hk : Kept s₀ s) : Kept s₀ (State.useVideo x p s) := by
  refine Kept.trans hk ?_
  simp only [State.useVideo]
  repeat' (with_reducible first | exact Kept.refl _ | exact kept_id _ | apply kept_judgeFrame | apply kept_setRxH | apply kept_ite | apply kept_ite_fst | apply kept_cond | apply kept_foldOver | apply kept_foldOver_fst | intro _ | refine kept_of_fst ‹_ = (_, _)› ?_ | simp only [kept_mk_iff] | split)

theorem kept_useAnc {s₀ : State} (x : Nat) (p : PktH) (s : State)  (hk : Kept s₀ s) : Kept s₀ (State.useAnc x p s) := by
  refine Kept.trans hk ?_
  simp only [State.useAnc]
  repeat' (with_reducible first | exact Kept.refl _ | exact kept_id _ | apply kept_setRxH | apply kept_bookOut | apply kept_ite | apply kept_ite_fst | apply kept_cond | apply kept_foldOver | apply kept_foldOver_fst | intro _ | refine kept_of_fst ‹_ = (_, _)› ?_ | simp only [kept_mk_iff] | split)

theorem kept_useAudio {s₀ : State} (x : Nat) (p : PktH) (s : State)  (hk : Kept s₀ s) : Kept s₀ (State.useAudio x p s) := by
  refine Kept.trans hk ?_
  simp only [State.useAudio]
  repeat' (with_reducible first | exact Kept.refl _ | exact kept_id _ | apply kept_setRxH | apply kept_ite | apply kept_ite_fst | apply kept_cond | apply kept_foldOver | apply kept_foldOver_fst | intro _ | refine kept_of_fst ‹_ = (_, _)› ?_ | simp only [kept_mk_iff] | split)

theorem kept_showTxUsed {s₀ : State} (n : Nat) (s : State)  (hk : Kept s₀ s) : Kept s₀ (State.showTxUsed n s) := by
  refine Kept.trans hk ?_
  simp only [State.showTxUsed]
  repeat' (with_reducible first | exact Kept.refl _ | exact kept_id _ | apply kept_wr | apply kept_ite | apply kept_ite_fst | apply kept_cond | apply kept_foldOver | apply kept_foldOver_fst | intro _ | refine kept_of_fst ‹_ = (_, _)› ?_ | simp only [kept_mk_iff] | split)

theorem kept_txEnable {s₀ : State} (y : Nat) (s : State)  (hk : Kept s₀ s) : Kept s₀ (State.txEnable y s) := by
  refine Kept.trans hk ?_
  simp only [State.txEnable]
  repeat' (with_reducible first | exact Kept.refl _ | exact kept_id _ | apply kept_wrB | apply kept_setTxH | apply kept_ite | apply kept_ite_fst | apply kept_cond | apply kept_foldOver | apply kept_foldOver_fst | intro _ | refine kept_of_fst ‹_ = (_, _)› ?_ | simp only [kept_mk_iff] | split)

theorem kept_txStop {s₀ : State} (y : Nat) (s : State)  (hk : Kept s₀ s) : Kept s₀ (State.txStop y s) := by
  refine Kept.trans hk ?_
  simp only [State.txStop]
  repeat' (with_reducible first | exact Kept.refl _ | exact kept_id _ | apply kept_setTxH | apply kept_wr | apply kept_showTxUsed | apply kept_ite | apply kept_ite_fst | apply kept_cond | apply kept_foldOver | apply kept_foldOver_fst | intro _ | refine kept_of_fst ‹_ = (_, _)› ?_ | simp only [kept_mk_iff] | split)

theorem kept_txDisable {s₀ : State} (y : Nat) (s : State)  (hk : Kept s₀ s) : Kept s₀ (State.txDisable y s) := by
  refine Kept.trans hk ?_
  simp only [State.txDisable]
  repeat' (with_reducible first | exact Kept.refl _ | exact kept_id _ | apply kept_wr | apply kept_setTxH | apply kept_ite | apply kept_ite_fst | apply kept_cond | apply kept_foldOver | apply kept_foldOver_fst | intro _ | refine kept_of_fst ‹_ = (_, _)› ?_ | simp only [kept_mk_iff] | split)

theorem kept_txQueue {s₀ : State} (n u : Nat) (express : Bool) (bytes : List Nat) (s : State)  (hk : Kept s₀ s) : Kept s₀ (State.txQueue n u express bytes s) := by
  refine Kept.trans hk ?_
  simp only [State.txQueue]
  repeat' (with_reducible first | exact Kept.refl _ | exact kept_id _ | apply kept_bookIn | apply kept_setMacH | apply kept_bookOut | apply kept_raise | apply kept_pktCount | apply kept_ite | apply kept_ite_fst | apply kept_cond | apply kept_foldOver | apply kept_foldOver_fst | intro _ | refine kept_of_fst ‹_ = (_, _)› ?_ | simp only [kept_mk_iff] | split)

theorem kept_dropReasm {s₀ : State} (n : Nat) (bit : Field) (k : Nat) (s : State)  (hk : Kept s₀ s) : Kept s₀ (State.dropReasm n bit k s) := by
  refine Kept.trans hk ?_
  simp only [State.dropReasm]
  repeat' (with_reducible first | exact Kept.refl _ | exact kept_id _ | apply kept_setMacH | apply kept_dropFrame | apply kept_ite | apply kept_ite_fst | apply kept_cond | apply kept_foldOver | apply kept_foldOver_fst | intro _ | refine kept_of_fst ‹_ = (_, _)› ?_ | simp only [kept_mk_iff] | split)

theorem kept_pktLoss {s₀ : State} (n : Nat) (s : State)  (hk : Kept s₀ s) : Kept s₀ (State.pktLoss n s) := by
  refine Kept.trans hk ?_
  simp only [State.pktLoss]
  repeat' (with_reducible first | exact Kept.refl _ | exact kept_id _ | apply kept_dropReasm | apply kept_ite | apply kept_ite_fst | apply kept_cond | apply kept_foldOver | apply kept_foldOver_fst | intro _ | refine kept_of_fst ‹_ = (_, _)› ?_ | simp only [kept_mk_iff] | split)

theorem kept_dropQueue {s₀ : State} (n : Nat) (s : State)  (hk : Kept s₀ s) : Kept s₀ (State.dropQueue n s) := by
  refine Kept.trans hk ?_
  simp only [State.dropQueue]
  repeat' (with_reducible first | exact Kept.refl _ | exact kept_id _ | apply kept_setMacH | apply kept_forL | apply kept_bookOut | apply kept_ite | apply kept_ite_fst | apply kept_cond | apply kept_foldOver | apply kept_foldOver_fst | intro _ | refine kept_of_fst ‹_ = (_, _)› ?_ | simp only [kept_mk_iff] | split)

theorem kept_pktLeave {s₀ : State} (n : Nat) (s : State)  (hk : Kept s₀ s) : Kept s₀ (State.pktLeave n s) := by
  refine Kept.trans hk ?_
  simp only [State.pktLeave]
  repeat' (with_reducible first | exact Kept.refl _ | exact kept_id _ | apply kept_pktLoss | apply kept_dropQueue | apply kept_forL | apply kept_rxStopAll | apply kept_wr | apply kept_txStop | apply kept_ite | apply kept_ite_fst | apply kept_cond | apply kept_foldOver | apply kept_foldOver_fst | intro _ | refine kept_of_fst ‹_ = (_, _)› ?_ | simp only [kept_mk_iff] | split)

theorem kept_engineOff {s₀ : State} (e : Nat) (s : State)  (hk : Kept s₀ s) : Kept s₀ (State.engineOff e s) := by
  refine Kept.trans hk ?_
  simp only [State.engineOff]
  repeat' (with_reducible first | exact Kept.refl _ | exact kept_id _ | apply kept_forL | apply kept_setMacH | apply kept_dropResident | apply kept_rxDropHeld | apply kept_rxInputGone | apply kept_ite | apply kept_ite_fst | apply kept_cond | apply kept_foldOver | apply kept_foldOver_fst | intro _ | refine kept_of_fst ‹_ = (_, _)› ?_ | simp only [kept_mk_iff] | split)

end Sys2Proof.Machine
end

