-- ==== Sys2Proof/Laws/KeptPacket.lean ====
section
/-! SUPPORT. What the operations of Machine/Packet.lean keep. -/

set_option linter.unusedTactic false
set_option linter.unreachableTactic false
set_option linter.unusedSimpArgs false

namespace Sys2Proof.Machine

theorem kept_classifyFrame {s₀ : State} (n vid : Nat) (bytes ip : List Nat) (s : State)  (hk : Kept s₀ s) : Kept s₀ (State.classifyFrame n vid bytes ip s) := by
  refine Kept.trans hk ?_
  simp only [State.classifyFrame]
  repeat' (with_reducible first | exact Kept.refl _ | exact kept_id _ | apply kept_unmatched | apply kept_bookOut | apply kept_raise | apply kept_deliverFrame | apply kept_packetArrives | apply kept_ite | apply kept_ite_fst | apply kept_cond | apply kept_foldOver | apply kept_foldOver_fst | intro _ | refine kept_of_fst ‹_ = (_, _)› ?_ | simp only [kept_mk_iff] | split)

theorem kept_routeFrame {s₀ : State} (n vid : Nat) (bytes : List Nat) (s : State)  (hk : Kept s₀ s) : Kept s₀ (State.routeFrame n vid bytes s) := by
  refine Kept.trans hk ?_
  simp only [State.routeFrame]
  repeat' (with_reducible first | exact Kept.refl _ | exact kept_id _ | apply kept_pktCount | apply kept_deliverFrame | apply kept_raise | apply kept_bookOut | apply kept_dropFrame | apply kept_unmatched | apply kept_classifyFrame | apply kept_ite | apply kept_ite_fst | apply kept_cond | apply kept_foldOver | apply kept_foldOver_fst | intro _ | refine kept_of_fst ‹_ = (_, _)› ?_ | simp only [kept_mk_iff] | split)

theorem kept_untagFrame {s₀ : State} (n : Nat) (bytes : List Nat) (s : State)  (hk : Kept s₀ s) : Kept s₀ (State.untagFrame n bytes s) := by
  refine Kept.trans hk ?_
  simp only [State.untagFrame]
  repeat' (with_reducible first | exact Kept.refl _ | exact kept_id _ | apply kept_dropFrame | apply kept_routeFrame | apply kept_ite | apply kept_ite_fst | apply kept_cond | apply kept_foldOver | apply kept_foldOver_fst | intro _ | refine kept_of_fst ‹_ = (_, _)› ?_ | simp only [kept_mk_iff] | split)

theorem kept_judgeBytes {s₀ : State} (n : Nat) (bytes : List Nat) (s : State)  (hk : Kept s₀ s) : Kept s₀ (State.judgeBytes n bytes s) := by
  refine Kept.trans hk ?_
  simp only [State.judgeBytes]
  repeat' (with_reducible first | exact Kept.refl _ | exact kept_id _ | apply kept_dropFrame | apply kept_untagFrame | apply kept_ite | apply kept_ite_fst | apply kept_cond | apply kept_foldOver | apply kept_foldOver_fst | intro _ | refine kept_of_fst ‹_ = (_, _)› ?_ | simp only [kept_mk_iff] | split)

theorem kept_frameEnters {s₀ : State} (n : Nat) (s : State)  (hk : Kept s₀ s) : Kept s₀ (State.frameEnters n s) := by
  refine Kept.trans hk ?_
  simp only [State.frameEnters]
  repeat' (with_reducible first | exact Kept.refl _ | exact kept_id _ | apply kept_pktCount | apply kept_bookIn | apply kept_ite | apply kept_ite_fst | apply kept_cond | apply kept_foldOver | apply kept_foldOver_fst | intro _ | refine kept_of_fst ‹_ = (_, _)› ?_ | simp only [kept_mk_iff] | split)

theorem kept_joinFragment {s₀ : State} (n count k : Nat) (before bytes : List Nat) (s : State)  (hk : Kept s₀ s) : Kept s₀ (State.joinFragment n count k before bytes s) := by
  refine Kept.trans hk ?_
  simp only [State.joinFragment]
  repeat' (with_reducible first | exact Kept.refl _ | exact kept_id _ | apply kept_setMacH | apply kept_dropFrame | apply kept_judgeBytes | apply kept_ite | apply kept_ite_fst | apply kept_cond | apply kept_foldOver | apply kept_foldOver_fst | intro _ | refine kept_of_fst ‹_ = (_, _)› ?_ | simp only [kept_mk_iff] | split)

theorem kept_receiveFrame {s₀ : State} (n smd : Nat) (bytes : List Nat) (aborted : Bool) (s : State)  (hk : Kept s₀ s) : Kept s₀ (State.receiveFrame n smd bytes aborted s) := by
  refine Kept.trans hk ?_
  simp only [State.receiveFrame]
  repeat' (with_reducible first | exact Kept.refl _ | exact kept_id _ | apply kept_frameEnters | apply kept_dropFrame | apply kept_judgeBytes | apply kept_dropReasm | apply kept_joinFragment | apply kept_raise | apply kept_pktCount | apply kept_ite | apply kept_ite_fst | apply kept_cond | apply kept_foldOver | apply kept_foldOver_fst | intro _ | refine kept_of_fst ‹_ = (_, _)› ?_ | simp only [kept_mk_iff] | split)

theorem kept_execFrameReceived (n : Fin 36) (smd : Fin 256) (bytes : List Nat) (aborted : Bool) (s : State) : ∃ t, execFrameReceived n smd bytes aborted s = .next t ∧ Kept s t := by
  refine ⟨_, rfl, ?_⟩
  repeat' (with_reducible first | exact Kept.refl _ | exact kept_id _ | apply kept_receiveFrame | apply kept_ite | apply kept_ite_fst | apply kept_cond | apply kept_foldOver | apply kept_foldOver_fst | intro _ | refine kept_of_fst ‹_ = (_, _)› ?_ | simp only [kept_mk_iff] | split)

theorem kept_execFragmentReceived (n : Fin 36) (smd : Fin 256) (bytes : List Nat) (aborted : Bool) (s : State) : ∃ t, execFragmentReceived n smd bytes aborted s = .next t ∧ Kept s t := by
  refine ⟨_, rfl, ?_⟩
  repeat' (with_reducible first | exact Kept.refl _ | exact kept_id _ | apply kept_receiveFrame | apply kept_ite | apply kept_ite_fst | apply kept_cond | apply kept_foldOver | apply kept_foldOver_fst | intro _ | refine kept_of_fst ‹_ = (_, _)› ?_ | simp only [kept_mk_iff] | split)

theorem kept_execStatusReceived (n : Fin 36) (arg : Fin 256) (s : State) : ∃ t, execStatusReceived n arg s = .next t ∧ Kept s t := by
  refine ⟨_, rfl, ?_⟩
  repeat' (with_reducible first | exact Kept.refl _ | exact kept_id _ | apply kept_wr | apply kept_ite | apply kept_ite_fst | apply kept_cond | apply kept_foldOver | apply kept_foldOver_fst | intro _ | refine kept_of_fst ‹_ = (_, _)› ?_ | simp only [kept_mk_iff] | split)

theorem kept_frameLeft {s₀ : State} (n u : Nat) (s : State)  (hk : Kept s₀ s) : Kept s₀ (State.frameLeft n u s) := by
  refine Kept.trans hk ?_
  simp only [State.frameLeft]
  repeat' (with_reducible first | exact Kept.refl _ | exact kept_id _ | apply kept_pktCount | apply kept_bookOut | apply kept_setPtpH | apply kept_ite | apply kept_ite_fst | apply kept_cond | apply kept_foldOver | apply kept_foldOver_fst | intro _ | refine kept_of_fst ‹_ = (_, _)› ?_ | simp only [kept_mk_iff] | split)

theorem kept_sendPreemptible {s₀ : State} (n count k sent : Nat) (first : Bool) (f : TxFrame) (cut : Option Nat) (s : State)  (hk : Kept s₀ s) : Kept s₀ (State.sendPreemptible n count k sent first f cut s) := by
  refine Kept.trans hk ?_
  simp only [State.sendPreemptible]
  repeat' (with_reducible first | exact Kept.refl _ | exact kept_id _ | apply kept_setMacH | apply kept_putEther | apply kept_frameLeft | apply kept_ite | apply kept_ite_fst | apply kept_cond | apply kept_foldOver | apply kept_foldOver_fst | intro _ | refine kept_of_fst ‹_ = (_, _)› ?_ | simp only [kept_mk_iff] | split)

theorem kept_nextFrame {s₀ : State} (n : Nat) (cut : Option Nat) (s : State)  (hk : Kept s₀ s) : Kept s₀ (State.nextFrame n cut s) := by
  refine Kept.trans hk ?_
  simp only [State.nextFrame]
  repeat' (with_reducible first | exact Kept.refl _ | exact kept_id _ | apply kept_setMacH | apply kept_putEther | apply kept_frameLeft | apply kept_sendPreemptible | apply kept_ite | apply kept_ite_fst | apply kept_cond | apply kept_foldOver | apply kept_foldOver_fst | intro _ | refine kept_of_fst ‹_ = (_, _)› ?_ | simp only [kept_mk_iff] | split)

theorem kept_sendStatus {s₀ : State} (n : Nat) (s : State)  (hk : Kept s₀ s) : Kept s₀ (State.sendStatus n s) := by
  refine Kept.trans hk ?_
  simp only [State.sendStatus]
  repeat' (with_reducible first | exact Kept.refl _ | exact kept_id _ | apply kept_setMacH | apply kept_putStatus | apply kept_ite | apply kept_ite_fst | apply kept_cond | apply kept_foldOver | apply kept_foldOver_fst | intro _ | refine kept_of_fst ‹_ = (_, _)› ?_ | simp only [kept_mk_iff] | split)

theorem kept_statusGap {s₀ : State} (n : Nat) (s : State)  (hk : Kept s₀ s) : Kept s₀ (State.statusGap n s) := by
  refine Kept.trans hk ?_
  simp only [State.statusGap]
  repeat' (with_reducible first | exact Kept.refl _ | exact kept_id _ | apply kept_sendStatus | apply kept_ite | apply kept_ite_fst | apply kept_cond | apply kept_foldOver | apply kept_foldOver_fst | intro _ | refine kept_of_fst ‹_ = (_, _)› ?_ | simp only [kept_mk_iff] | split)

theorem kept_execFrameSent (n : Fin 36) (cut : Option Nat) (s : State) : ∃ t, execFrameSent n cut s = .next t ∧ Kept s t := by
  refine ⟨_, rfl, ?_⟩
  repeat' (with_reducible first | exact Kept.refl _ | exact kept_id _ | apply kept_nextFrame | apply kept_statusGap | apply kept_ite | apply kept_ite_fst | apply kept_cond | apply kept_foldOver | apply kept_foldOver_fst | intro _ | refine kept_of_fst ‹_ = (_, _)› ?_ | simp only [kept_mk_iff] | split)

theorem kept_execStatusSent (n : Fin 36) (s : State) : ∃ t, execStatusSent n s = .next t ∧ Kept s t := by
  refine ⟨_, rfl, ?_⟩
  repeat' (with_reducible first | exact Kept.refl _ | exact kept_id _ | apply kept_sendStatus | apply kept_ite | apply kept_ite_fst | apply kept_cond | apply kept_foldOver | apply kept_foldOver_fst | intro _ | refine kept_of_fst ‹_ = (_, _)› ?_ | simp only [kept_mk_iff] | split)

theorem kept_classifierWrite {s₀ : State} (s : State)  (hk : Kept s₀ s) : Kept s₀ (State.classifierWrite s) := by
  refine Kept.trans hk ?_
  simp only [State.classifierWrite]
  repeat' (with_reducible first | exact Kept.refl _ | exact kept_id _ | apply kept_ite | apply kept_ite_fst | apply kept_cond | apply kept_foldOver | apply kept_foldOver_fst | intro _ | refine kept_of_fst ‹_ = (_, _)› ?_ | simp only [kept_mk_iff] | split)

theorem kept_classifierRead {s₀ : State} (s : State)  (hk : Kept s₀ s) : Kept s₀ (State.classifierRead s) := by
  refine Kept.trans hk ?_
  simp only [State.classifierRead]
  repeat' (with_reducible first | exact Kept.refl _ | exact kept_id _ | apply kept_forN | apply kept_wr | apply kept_ite | apply kept_ite_fst | apply kept_cond | apply kept_foldOver | apply kept_foldOver_fst | intro _ | refine kept_of_fst ‹_ = (_, _)› ?_ | simp only [kept_mk_iff] | split)

theorem kept_rxcFix {s₀ : State} (x : Nat) (s : State)  (hk : Kept s₀ s) : Kept s₀ (State.rxcFix x s) := by
  refine Kept.trans hk ?_
  simp only [State.rxcFix]
  repeat' (with_reducible first | exact Kept.refl _ | exact kept_id _ | apply kept_when | apply kept_wr | apply kept_ite | apply kept_ite_fst | apply kept_cond | apply kept_foldOver | apply kept_foldOver_fst | intro _ | refine kept_of_fst ‹_ = (_, _)› ?_ | simp only [kept_mk_iff] | split)

theorem kept_rxEnable {s₀ : State} (x : Nat) (s : State)  (hk : Kept s₀ s) : Kept s₀ (State.rxEnable x s) := by
  refine Kept.trans hk ?_
  simp only [State.rxEnable]
  repeat' (with_reducible first | exact Kept.refl _ | exact kept_id _ | apply kept_setRxH | apply kept_rxActivate | apply kept_askLoad | apply kept_ite | apply kept_ite_fst | apply kept_cond | apply kept_foldOver | apply kept_foldOver_fst | intro _ | refine kept_of_fst ‹_ = (_, _)› ?_ | simp only [kept_mk_iff] | split)

theorem kept_rxDisable {s₀ : State} (x : Nat) (s : State)  (hk : Kept s₀ s) : Kept s₀ (State.rxDisable x s) := by
  refine Kept.trans hk ?_
  simp only [State.rxDisable]
  repeat' (with_reducible first | exact Kept.refl _ | exact kept_id _ | apply kept_rxStopAll | apply kept_withdrawLoad | apply kept_setRxH | apply kept_wr | apply kept_rxRecheck | apply kept_ite | apply kept_ite_fst | apply kept_cond | apply kept_foldOver | apply kept_foldOver_fst | intro _ | refine kept_of_fst ‹_ = (_, _)› ?_ | simp only [kept_mk_iff] | split)

theorem kept_rxcWritten {s₀ : State} (x : Nat) (s old : State)  (hk : Kept s₀ s) : Kept s₀ (State.rxcWritten x s old) := by
  refine Kept.trans hk ?_
  simp only [State.rxcWritten]
  repeat' (with_reducible first | exact Kept.refl _ | exact kept_id _ | apply kept_rxcFix | apply kept_rxDisable | apply kept_rxEnable | apply kept_rxStopAll | apply kept_withdrawLoad | apply kept_askLoad | apply kept_rxActivate | apply kept_rxRecheck | apply kept_ite | apply kept_ite_fst | apply kept_cond | apply kept_foldOver | apply kept_foldOver_fst | intro _ | refine kept_of_fst ‹_ = (_, _)› ?_ | simp only [kept_mk_iff] | split)

theorem kept_execPacketDeadline (x : Fin 4096) (s : State) : ∃ t, execPacketDeadline x s = .next t ∧ Kept s t := by
  refine ⟨_, rfl, ?_⟩
  repeat' (with_reducible first | exact Kept.refl _ | exact kept_id _ | apply kept_setRxH | apply kept_bookOut | apply kept_useVideo | apply kept_useAudio | apply kept_useAnc | apply kept_ite | apply kept_ite_fst | apply kept_cond | apply kept_foldOver | apply kept_foldOver_fst | intro _ | refine kept_of_fst ‹_ = (_, _)› ?_ | simp only [kept_mk_iff] | split)

theorem kept_execLegLoss (x : Fin 4096) (leg : Fin 2) (s : State) : ∃ t, execLegLoss x leg s = .next t ∧ Kept s t := by
  refine ⟨_, rfl, ?_⟩
  repeat' (with_reducible first | exact Kept.refl _ | exact kept_id _ | apply kept_wr | apply kept_rxInputGone | apply kept_ite | apply kept_ite_fst | apply kept_cond | apply kept_foldOver | apply kept_foldOver_fst | intro _ | refine kept_of_fst ‹_ = (_, _)› ?_ | simp only [kept_mk_iff] | split)

theorem kept_releaseLine {s₀ : State} (x : Nat) (f : FrmH) (line : Nat) (whole : Bool) (s : State)  (hk : Kept s₀ s) : Kept s₀ (State.releaseLine x f line whole s) := by
  refine Kept.trans hk ?_
  simp only [State.releaseLine]
  repeat' (with_reducible first | exact Kept.refl _ | exact kept_id _ | apply kept_forN | apply kept_setInH | apply kept_setRxH | apply kept_lineArrives | apply kept_ite | apply kept_ite_fst | apply kept_cond | apply kept_foldOver | apply kept_foldOver_fst | intro _ | refine kept_of_fst ‹_ = (_, _)› ?_ | simp only [kept_mk_iff] | split)

theorem kept_execLineRelease (x : Fin 4096) (ts line : Nat) (s : State) : ∃ t, execLineRelease x ts line s = .next t ∧ Kept s t := by
  refine ⟨_, rfl, ?_⟩
  repeat' (with_reducible first | exact Kept.refl _ | exact kept_id _ | apply kept_releaseLine | apply kept_bump | apply kept_ite | apply kept_ite_fst | apply kept_cond | apply kept_foldOver | apply kept_foldOver_fst | intro _ | refine kept_of_fst ‹_ = (_, _)› ?_ | simp only [kept_mk_iff] | split)

theorem kept_txcFix {s₀ : State} (y : Nat) (s : State)  (hk : Kept s₀ s) : Kept s₀ (State.txcFix y s) := by
  refine Kept.trans hk ?_
  simp only [State.txcFix]
  repeat' (with_reducible first | exact Kept.refl _ | exact kept_id _ | apply kept_when | apply kept_wr | apply kept_ite | apply kept_ite_fst | apply kept_cond | apply kept_foldOver | apply kept_foldOver_fst | intro _ | refine kept_of_fst ‹_ = (_, _)› ?_ | simp only [kept_mk_iff] | split)

theorem kept_txcWritten {s₀ : State} (y : Nat) (s old : State)  (hk : Kept s₀ s) : Kept s₀ (State.txcWritten y s old) := by
  refine Kept.trans hk ?_
  simp only [State.txcWritten]
  repeat' (with_reducible first | exact Kept.refl _ | exact kept_id _ | apply kept_txcFix | apply kept_txDisable | apply kept_txEnable | apply kept_setTxH | apply kept_wr | apply kept_showTxUsed | apply kept_ite | apply kept_ite_fst | apply kept_cond | apply kept_foldOver | apply kept_foldOver_fst | intro _ | refine kept_of_fst ‹_ = (_, _)› ?_ | simp only [kept_mk_iff] | split)

theorem kept_execTxContextStart (y : Fin 4096) (s : State) : ∃ t, execTxContextStart y s = .next t ∧ Kept s t := by
  refine ⟨_, rfl, ?_⟩
  repeat' (with_reducible first | exact Kept.refl _ | exact kept_id _ | apply kept_setTxH | apply kept_wr | apply kept_wrB | apply kept_showTxUsed | apply kept_txStop | apply kept_ite | apply kept_ite_fst | apply kept_cond | apply kept_foldOver | apply kept_foldOver_fst | intro _ | refine kept_of_fst ‹_ = (_, _)› ?_ | simp only [kept_mk_iff] | split)

theorem kept_execPacketDeparture (y : Fin 4096) (k : Nat) (s : State) : ∃ t, execPacketDeparture y k s = .next t ∧ Kept s t := by
  refine ⟨_, rfl, ?_⟩
  repeat' (with_reducible first | exact Kept.refl _ | exact kept_id _ | apply kept_wrB | apply kept_setTxH | apply kept_txQueue | apply kept_raise | apply kept_ite | apply kept_ite_fst | apply kept_cond | apply kept_foldOver | apply kept_foldOver_fst | intro _ | refine kept_of_fst ‹_ = (_, _)› ?_ | simp only [kept_mk_iff] | split)

end Sys2Proof.Machine
end

