-- ==== Sys2Proof/Laws/KeptPtp.lean ====
section
/-! SUPPORT. What the operations of Machine/Ptp.lean keep. -/

set_option linter.unusedTactic false
set_option linter.unreachableTactic false
set_option linter.unusedSimpArgs false

namespace Sys2Proof.Machine

theorem kept_ptpChanged {s₀ : State} (s : State)  (hk : Kept s₀ s) : Kept s₀ (State.ptpChanged s) := by
  refine Kept.trans hk ?_
  simp only [State.ptpChanged]
  repeat' (with_reducible first | exact Kept.refl _ | exact kept_id _ | apply kept_refRecheck | apply kept_rxTiming | apply kept_ite | apply kept_ite_fst | apply kept_cond | apply kept_foldOver | apply kept_foldOver_fst | intro _ | refine kept_of_fst ‹_ = (_, _)› ?_ | simp only [kept_mk_iff] | split)

theorem kept_setServo {s₀ : State} (n k : Nat) (s : State)  (hk : Kept s₀ s) : Kept s₀ (State.setServo n k s) := by
  refine Kept.trans hk ?_
  simp only [State.setServo]
  repeat' (with_reducible first | exact Kept.refl _ | exact kept_id _ | apply kept_setPtpH | apply kept_wr | apply kept_raise | apply kept_ite | apply kept_ite_fst | apply kept_cond | apply kept_foldOver | apply kept_foldOver_fst | intro _ | refine kept_of_fst ‹_ = (_, _)› ?_ | simp only [kept_mk_iff] | split)

theorem kept_setPort {s₀ : State} (n k : Nat) (s : State)  (hk : Kept s₀ s) : Kept s₀ (State.setPort n k s) := by
  refine Kept.trans hk ?_
  simp only [State.setPort]
  repeat' (with_reducible first | exact Kept.refl _ | exact kept_id _ | apply kept_wr | apply kept_raise | apply kept_setServo | apply kept_setPtpH | apply kept_ptpChanged | apply kept_ite | apply kept_ite_fst | apply kept_cond | apply kept_foldOver | apply kept_foldOver_fst | intro _ | refine kept_of_fst ‹_ = (_, _)› ?_ | simp only [kept_mk_iff] | split)

theorem kept_dropMaster {s₀ : State} (n : Nat) (s : State)  (hk : Kept s₀ s) : Kept s₀ (State.dropMaster n s) := by
  refine Kept.trans hk ?_
  simp only [State.dropMaster]
  repeat' (with_reducible first | exact Kept.refl _ | exact kept_id _ | apply kept_setPtpH | apply kept_wr | apply kept_ite | apply kept_ite_fst | apply kept_cond | apply kept_foldOver | apply kept_foldOver_fst | intro _ | refine kept_of_fst ‹_ = (_, _)› ?_ | simp only [kept_mk_iff] | split)

theorem kept_ptpCheck {s₀ : State} (n : Nat) (s : State)  (hk : Kept s₀ s) : Kept s₀ (State.ptpCheck n s) := by
  refine Kept.trans hk ?_
  simp only [State.ptpCheck]
  repeat' (with_reducible first | exact Kept.refl _ | exact kept_id _ | apply kept_setPtpH | apply kept_dropMaster | apply kept_setPort | apply kept_ite | apply kept_ite_fst | apply kept_cond | apply kept_foldOver | apply kept_foldOver_fst | intro _ | refine kept_of_fst ‹_ = (_, _)› ?_ | simp only [kept_mk_iff] | split)

theorem kept_chooseMaster {s₀ : State} (n : Nat) (s : State)  (hk : Kept s₀ s) : Kept s₀ (State.chooseMaster n s) := by
  refine Kept.trans hk ?_
  simp only [State.chooseMaster]
  repeat' (with_reducible first | exact Kept.refl _ | exact kept_id _ | apply kept_setPtpH | apply kept_wr | apply kept_raise | apply kept_setPort | apply kept_ite | apply kept_ite_fst | apply kept_cond | apply kept_foldOver | apply kept_foldOver_fst | intro _ | refine kept_of_fst ‹_ = (_, _)› ?_ | simp only [kept_mk_iff] | split)

theorem kept_execAnnounce (n : Fin 36) (domain : Fin 256) (port : Nat × Nat) (dataset : List Nat) (mac ip : Nat) (utc : Fin 65536) (log : Fin 12) (s : State) : ∃ t, execAnnounce n domain port dataset mac ip utc log s = .next t ∧ Kept s t := by
  refine ⟨_, rfl, ?_⟩
  repeat' (with_reducible first | exact Kept.refl _ | exact kept_id _ | apply kept_setPtpH | apply kept_wr | apply kept_chooseMaster | apply kept_ite | apply kept_ite_fst | apply kept_cond | apply kept_foldOver | apply kept_foldOver_fst | intro _ | refine kept_of_fst ‹_ = (_, _)› ?_ | simp only [kept_mk_iff] | split)

theorem kept_execAnnounceTimeout (n : Fin 36) (s : State) : ∃ t, execAnnounceTimeout n s = .next t ∧ Kept s t := by
  refine ⟨_, rfl, ?_⟩
  repeat' (with_reducible first | exact Kept.refl _ | exact kept_id _ | apply kept_setPtpH | apply kept_dropMaster | apply kept_raise | apply kept_setPort | apply kept_ite | apply kept_ite_fst | apply kept_cond | apply kept_foldOver | apply kept_foldOver_fst | intro _ | refine kept_of_fst ‹_ = (_, _)› ?_ | simp only [kept_mk_iff] | split)

theorem kept_syncDone {s₀ : State} (n : Nat) (t1 t2 : Int) (s : State)  (hk : Kept s₀ s) : Kept s₀ (State.syncDone n t1 t2 s) := by
  refine Kept.trans hk ?_
  simp only [State.syncDone]
  repeat' (with_reducible first | exact Kept.refl _ | exact kept_id _ | apply kept_setPtpH | apply kept_ite | apply kept_ite_fst | apply kept_cond | apply kept_foldOver | apply kept_foldOver_fst | intro _ | refine kept_of_fst ‹_ = (_, _)› ?_ | simp only [kept_mk_iff] | split)

theorem kept_execSync (n : Fin 36) (domain : Fin 256) (port : Nat × Nat) (seq : Fin 65536) (twoStep : Bool) (origin corr : Int) (lane : Fin 8) (s : State) : ∃ t, execSync n domain port seq twoStep origin corr lane s = .next t ∧ Kept s t := by
  refine ⟨_, rfl, ?_⟩
  repeat' (with_reducible first | exact Kept.refl _ | exact kept_id _ | apply kept_setPtpH | apply kept_syncDone | apply kept_ite | apply kept_ite_fst | apply kept_cond | apply kept_foldOver | apply kept_foldOver_fst | intro _ | refine kept_of_fst ‹_ = (_, _)› ?_ | simp only [kept_mk_iff] | split)

theorem kept_execFollowUp (n : Fin 36) (domain : Fin 256) (port : Nat × Nat) (seq : Fin 65536) (origin corr : Int) (s : State) : ∃ t, execFollowUp n domain port seq origin corr s = .next t ∧ Kept s t := by
  refine ⟨_, rfl, ?_⟩
  repeat' (with_reducible first | exact Kept.refl _ | exact kept_id _ | apply kept_syncDone | apply kept_ite | apply kept_ite_fst | apply kept_cond | apply kept_foldOver | apply kept_foldOver_fst | intro _ | refine kept_of_fst ‹_ = (_, _)› ?_ | simp only [kept_mk_iff] | split)

theorem kept_execDelayReq (n : Fin 36) (s : State) : ∃ t, execDelayReq n s = .next t ∧ Kept s t := by
  refine ⟨_, rfl, ?_⟩
  repeat' (with_reducible first | exact Kept.refl _ | exact kept_id _ | apply kept_setPtpH | apply kept_txQueue | apply kept_ite | apply kept_ite_fst | apply kept_cond | apply kept_foldOver | apply kept_foldOver_fst | intro _ | refine kept_of_fst ‹_ = (_, _)› ?_ | simp only [kept_mk_iff] | split)

theorem kept_holdJump {s₀ : State} (n : Nat) (r : Int) (s : State)  (hk : Kept s₀ s) : Kept s₀ (State.holdJump n r s) := by
  refine Kept.trans hk ?_
  simp only [State.holdJump]
  repeat' (with_reducible first | exact Kept.refl _ | exact kept_id _ | apply kept_setServo | apply kept_setPtpH | apply kept_wrInt | apply kept_raise | apply kept_ite | apply kept_ite_fst | apply kept_cond | apply kept_foldOver | apply kept_foldOver_fst | intro _ | refine kept_of_fst ‹_ = (_, _)› ?_ | simp only [kept_mk_iff] | split)

theorem kept_calibrated {s₀ : State} (n : Nat) (s : State)  (hk : Kept s₀ s) : Kept s₀ (State.calibrated n s) := by
  refine Kept.trans hk ?_
  simp only [State.calibrated]
  repeat' (with_reducible first | exact Kept.refl _ | exact kept_id _ | apply kept_setPort | apply kept_setPtpH | apply kept_setServo | apply kept_raise | apply kept_ptpChanged | apply kept_wrInt | apply kept_holdJump | apply kept_ite | apply kept_ite_fst | apply kept_cond | apply kept_foldOver | apply kept_foldOver_fst | intro _ | refine kept_of_fst ‹_ = (_, _)› ?_ | simp only [kept_mk_iff] | split)

theorem kept_execDelayResp (n : Fin 36) (domain : Fin 256) (port : Nat × Nat) (seq : Fin 65536) (t4 corr : Int) (s : State) : ∃ t, execDelayResp n domain port seq t4 corr s = .next t ∧ Kept s t := by
  refine ⟨_, rfl, ?_⟩
  repeat' (with_reducible first | exact Kept.refl _ | exact kept_id _ | apply kept_wrInt | apply kept_setPtpH | apply kept_calibrated | apply kept_ite | apply kept_ite_fst | apply kept_cond | apply kept_foldOver | apply kept_foldOver_fst | intro _ | refine kept_of_fst ‹_ = (_, _)› ?_ | simp only [kept_mk_iff] | split)

theorem kept_evaluateHeld {s₀ : State} (n : Nat) (r : Int) (s : State)  (hk : Kept s₀ s) : Kept s₀ (State.evaluateHeld n r s) := by
  refine Kept.trans hk ?_
  simp only [State.evaluateHeld]
  repeat' (with_reducible first | exact Kept.refl _ | exact kept_id _ | apply kept_setServo | apply kept_raise | apply kept_setPtpH | apply kept_ite | apply kept_ite_fst | apply kept_cond | apply kept_foldOver | apply kept_foldOver_fst | intro _ | refine kept_of_fst ‹_ = (_, _)› ?_ | simp only [kept_mk_iff] | split)

theorem kept_execServoEvaluation (n : Fin 36) (s : State) : ∃ t, execServoEvaluation n s = .next t ∧ Kept s t := by
  refine ⟨_, rfl, ?_⟩
  repeat' (with_reducible first | exact Kept.refl _ | exact kept_id _ | apply kept_setPtpH | apply kept_wrInt | apply kept_holdJump | apply kept_setServo | apply kept_evaluateHeld | apply kept_ptpChanged | apply kept_ite | apply kept_ite_fst | apply kept_cond | apply kept_foldOver | apply kept_foldOver_fst | intro _ | refine kept_of_fst ‹_ = (_, _)› ?_ | simp only [kept_mk_iff] | split)

theorem kept_ptpAccept {s₀ : State} (n : Nat) (s : State)  (hk : Kept s₀ s) : Kept s₀ (State.ptpAccept n s) := by
  refine Kept.trans hk ?_
  simp only [State.ptpAccept]
  repeat' (with_reducible first | exact Kept.refl _ | exact kept_id _ | apply kept_setPtpH | apply kept_raise | apply kept_ite | apply kept_ite_fst | apply kept_cond | apply kept_foldOver | apply kept_foldOver_fst | intro _ | refine kept_of_fst ‹_ = (_, _)› ?_ | simp only [kept_mk_iff] | split)

theorem kept_ptpRestart {s₀ : State} (n : Nat) (s : State)  (hk : Kept s₀ s) : Kept s₀ (State.ptpRestart n s) := by
  refine Kept.trans hk ?_
  simp only [State.ptpRestart]
  repeat' (with_reducible first | exact Kept.refl _ | exact kept_id _ | apply kept_setPtpH | apply kept_dropMaster | apply kept_setPort | apply kept_setServo | apply kept_ptpChanged | apply kept_ite | apply kept_ite_fst | apply kept_cond | apply kept_foldOver | apply kept_foldOver_fst | intro _ | refine kept_of_fst ‹_ = (_, _)› ?_ | simp only [kept_mk_iff] | split)

theorem kept_ptpWritten {s₀ : State} (n : Nat) (s : State)  (hk : Kept s₀ s) : Kept s₀ (State.ptpWritten n s) := by
  refine Kept.trans hk ?_
  simp only [State.ptpWritten]
  repeat' (with_reducible first | exact Kept.refl _ | exact kept_id _ | apply kept_wr | apply kept_wrInt | apply kept_when | apply kept_ptpCheck | apply kept_ite | apply kept_ite_fst | apply kept_cond | apply kept_foldOver | apply kept_foldOver_fst | intro _ | refine kept_of_fst ‹_ = (_, _)› ?_ | simp only [kept_mk_iff] | split)

theorem kept_latchDeviceTime {s₀ : State} (s : State)  (hk : Kept s₀ s) : Kept s₀ (State.latchDeviceTime s) := by
  refine Kept.trans hk ?_
  simp only [State.latchDeviceTime]
  repeat' (with_reducible first | exact Kept.refl _ | exact kept_id _ | apply kept_wr | apply kept_ite | apply kept_ite_fst | apply kept_cond | apply kept_foldOver | apply kept_foldOver_fst | intro _ | refine kept_of_fst ‹_ = (_, _)› ?_ | simp only [kept_mk_iff] | split)

end Sys2Proof.Machine
end

