-- ==== Sys2Proof/Laws/KeptHeads.lean ====
section
/-! SUPPORT. What the operations of Machine/Heads.lean keep. -/

set_option linter.unusedTactic false
set_option linter.unreachableTactic false
set_option linter.unusedSimpArgs false

namespace Sys2Proof.Machine

theorem kept_headCommit {s₀ : State} (h c : Nat) (s : State)  (hk : Kept s₀ s) : Kept s₀ (State.headCommit h c s).1 := by
  refine Kept.trans hk ?_
  simp only [State.headCommit]
  repeat' (with_reducible first | exact Kept.refl _ | exact kept_id _ | apply kept_wr | apply kept_raise | apply kept_bump | apply kept_setMvhH | apply kept_ite | apply kept_ite_fst | apply kept_cond | apply kept_foldOver | apply kept_foldOver_fst | intro _ | refine kept_of_fst ‹_ = (_, _)› ?_ | simp only [kept_mk_iff] | split)

theorem kept_askCharge {s₀ : State} (h j need : Nat) (s : State)  (hk : Kept s₀ s) : Kept s₀ (State.askCharge h j need s) := by
  refine Kept.trans hk ?_
  simp only [State.askCharge]
  repeat' (with_reducible first | exact Kept.refl _ | exact kept_id _ | apply kept_unwait | apply kept_showAdmission | apply kept_decideLoad | apply kept_ite | apply kept_ite_fst | apply kept_cond | apply kept_foldOver | apply kept_foldOver_fst | intro _ | refine kept_of_fst ‹_ = (_, _)› ?_ | simp only [kept_mk_iff] | split)

theorem kept_lowerCharge {s₀ : State} (h j need : Nat) (s : State)  (hk : Kept s₀ s) : Kept s₀ (State.lowerCharge h j need s) := by
  refine Kept.trans hk ?_
  simp only [State.lowerCharge]
  repeat' (with_reducible first | exact Kept.refl _ | exact kept_id _ | apply kept_granted | apply kept_showAdmission | apply kept_updateLtr | apply kept_ite | apply kept_ite_fst | apply kept_cond | apply kept_foldOver | apply kept_foldOver_fst | intro _ | refine kept_of_fst ‹_ = (_, _)› ?_ | simp only [kept_mk_iff] | split)

theorem kept_freeCopies {s₀ : State} (s : State)  (hk : Kept s₀ s) : Kept s₀ (State.freeCopies s) := by
  refine Kept.trans hk ?_
  simp only [State.freeCopies]
  repeat' (with_reducible first | exact Kept.refl _ | exact kept_id _ | apply kept_forL | apply kept_granted | apply kept_withdrawLoad | apply kept_ite | apply kept_ite_fst | apply kept_cond | apply kept_foldOver | apply kept_foldOver_fst | intro _ | refine kept_of_fst ‹_ = (_, _)› ?_ | simp only [kept_mk_iff] | split)

theorem kept_showLayers {s₀ : State} (h : Nat) (s : State)  (hk : Kept s₀ s) : Kept s₀ (State.showLayers h s) := by
  refine Kept.trans hk ?_
  simp only [State.showLayers]
  repeat' (with_reducible first | exact Kept.refl _ | exact kept_id _ | apply kept_forN | apply kept_wrB | apply kept_wr | apply kept_wakeChannels | apply kept_ite | apply kept_ite_fst | apply kept_cond | apply kept_foldOver | apply kept_foldOver_fst | intro _ | refine kept_of_fst ‹_ = (_, _)› ?_ | simp only [kept_mk_iff] | split)

theorem kept_showHeadFrame {s₀ : State} (h : Nat) (s : State)  (hk : Kept s₀ s) : Kept s₀ (State.showHeadFrame h s) := by
  refine Kept.trans hk ?_
  simp only [State.showHeadFrame]
  repeat' (with_reducible first | exact Kept.refl _ | exact kept_id _ | apply kept_wr | apply kept_ite | apply kept_ite_fst | apply kept_cond | apply kept_foldOver | apply kept_foldOver_fst | intro _ | refine kept_of_fst ‹_ = (_, _)› ?_ | simp only [kept_mk_iff] | split)

theorem kept_pushCheck {s₀ : State} (h : Nat) (s : State)  (hk : Kept s₀ s) : Kept s₀ (State.pushCheck h s) := by
  refine Kept.trans hk ?_
  simp only [State.pushCheck]
  repeat' (with_reducible first | exact Kept.refl _ | exact kept_id _ | apply kept_wrB | apply kept_setMvhH | apply kept_showTxUsed | apply kept_ite | apply kept_ite_fst | apply kept_cond | apply kept_foldOver | apply kept_foldOver_fst | intro _ | refine kept_of_fst ‹_ = (_, _)› ?_ | simp only [kept_mk_iff] | split)

theorem kept_loseHead {s₀ : State} (h : Nat) (s : State)  (hk : Kept s₀ s) : Kept s₀ (State.loseHead h s) := by
  refine Kept.trans hk ?_
  simp only [State.loseHead]
  repeat' (with_reducible first | exact Kept.refl _ | exact kept_id _ | apply kept_forL | apply kept_loseSource | apply kept_ite | apply kept_ite_fst | apply kept_cond | apply kept_foldOver | apply kept_foldOver_fst | intro _ | refine kept_of_fst ‹_ = (_, _)› ?_ | simp only [kept_mk_iff] | split)

theorem kept_headOff {s₀ : State} (h : Nat) (s : State)  (hk : Kept s₀ s) : Kept s₀ (State.headOff h s) := by
  refine Kept.trans hk ?_
  simp only [State.headOff]
  repeat' (with_reducible first | exact Kept.refl _ | exact kept_id _ | apply kept_wr | apply kept_setMvhH | apply kept_pushCheck | apply kept_loseHead | apply kept_showLayers | apply kept_ite | apply kept_ite_fst | apply kept_cond | apply kept_foldOver | apply kept_foldOver_fst | intro _ | refine kept_of_fst ‹_ = (_, _)› ?_ | simp only [kept_mk_iff] | split)

theorem kept_headEnable {s₀ : State} (h : Nat) (s : State)  (hk : Kept s₀ s) : Kept s₀ (State.headEnable h s) := by
  refine Kept.trans hk ?_
  simp only [State.headEnable]
  repeat' (with_reducible first | exact Kept.refl _ | exact kept_id _ | apply kept_setMvhH | apply kept_ite | apply kept_ite_fst | apply kept_cond | apply kept_foldOver | apply kept_foldOver_fst | intro _ | refine kept_of_fst ‹_ = (_, _)› ?_ | simp only [kept_mk_iff] | split)

theorem kept_headDisable {s₀ : State} (h : Nat) (s : State)  (hk : Kept s₀ s) : Kept s₀ (State.headDisable h s) := by
  refine Kept.trans hk ?_
  simp only [State.headDisable]
  repeat' (with_reducible first | exact Kept.refl _ | exact kept_id _ | apply kept_setMvhH | apply kept_ite | apply kept_ite_fst | apply kept_cond | apply kept_foldOver | apply kept_foldOver_fst | intro _ | refine kept_of_fst ‹_ = (_, _)› ?_ | simp only [kept_mk_iff] | split)

theorem kept_headReady {s₀ : State} (h : Nat) (s : State)  (hk : Kept s₀ s) : Kept s₀ (State.headReady h s) := by
  refine Kept.trans hk ?_
  simp only [State.headReady]
  repeat' (with_reducible first | exact Kept.refl _ | exact kept_id _ | apply kept_headEnable | apply kept_ite | apply kept_ite_fst | apply kept_cond | apply kept_foldOver | apply kept_foldOver_fst | intro _ | refine kept_of_fst ‹_ = (_, _)› ?_ | simp only [kept_mk_iff] | split)

theorem kept_execHeadStart (h : Fin 32) (s : State) : ∃ t, execHeadStart h s = .next t ∧ Kept s t := by
  refine ⟨_, rfl, ?_⟩
  repeat' (with_reducible first | exact Kept.refl _ | exact kept_id _ | apply kept_wr | apply kept_setMvhH | apply kept_raise | apply kept_pushCheck | apply kept_showLayers | apply kept_ite | apply kept_ite_fst | apply kept_cond | apply kept_foldOver | apply kept_foldOver_fst | intro _ | refine kept_of_fst ‹_ = (_, _)› ?_ | simp only [kept_mk_iff] | split)

theorem kept_execHeadStop (h : Fin 32) (s : State) : ∃ t, execHeadStop h s = .next t ∧ Kept s t := by
  refine ⟨_, rfl, ?_⟩
  repeat' (with_reducible first | exact Kept.refl _ | exact kept_id _ | apply kept_headOff | apply kept_setMvhH | apply kept_forN | apply kept_unwait | apply kept_lowerCharge | apply kept_wr | apply kept_freeCopies | apply kept_showAdmission | apply kept_showLayers | apply kept_ite | apply kept_ite_fst | apply kept_cond | apply kept_foldOver | apply kept_foldOver_fst | intro _ | refine kept_of_fst ‹_ = (_, _)› ?_ | simp only [kept_mk_iff] | split)

theorem kept_retimeHead {s₀ : State} (h : Nat) (s : State)  (hk : Kept s₀ s) : Kept s₀ (State.retimeHead h s) := by
  refine Kept.trans hk ?_
  simp only [State.retimeHead]
  repeat' (with_reducible first | exact Kept.refl _ | exact kept_id _ | apply kept_setMvhH | apply kept_wr | apply kept_raise | apply kept_showLayers | apply kept_ite | apply kept_ite_fst | apply kept_cond | apply kept_foldOver | apply kept_foldOver_fst | intro _ | refine kept_of_fst ‹_ = (_, _)› ?_ | simp only [kept_mk_iff] | split)

theorem kept_retimeHeads {s₀ : State} (p oldFormat : Nat) (s : State)  (hk : Kept s₀ s) : Kept s₀ (State.retimeHeads p oldFormat s) := by
  refine Kept.trans hk ?_
  simp only [State.retimeHeads]
  repeat' (with_reducible first | exact Kept.refl _ | exact kept_id _ | apply kept_forN | apply kept_retimeHead | apply kept_loseHead | apply kept_raise | apply kept_ite | apply kept_ite_fst | apply kept_cond | apply kept_foldOver | apply kept_foldOver_fst | intro _ | refine kept_of_fst ‹_ = (_, _)› ?_ | simp only [kept_mk_iff] | split)

theorem kept_planStopHeads {s₀ : State} (p : Nat) (s : State)  (hk : Kept s₀ s) : Kept s₀ (State.planStopHeads p s) := by
  refine Kept.trans hk ?_
  simp only [State.planStopHeads]
  repeat' (with_reducible first | exact Kept.refl _ | exact kept_id _ | apply kept_forN | apply kept_setMvhH | apply kept_headOff | apply kept_ite | apply kept_ite_fst | apply kept_cond | apply kept_foldOver | apply kept_foldOver_fst | intro _ | refine kept_of_fst ‹_ = (_, _)› ?_ | simp only [kept_mk_iff] | split)

theorem kept_planStartHeads {s₀ : State} (p : Nat) (s : State)  (hk : Kept s₀ s) : Kept s₀ (State.planStartHeads p s) := by
  refine Kept.trans hk ?_
  simp only [State.planStartHeads]
  repeat' (with_reducible first | exact Kept.refl _ | exact kept_id _ | apply kept_forN | apply kept_retimeHead | apply kept_ite | apply kept_ite_fst | apply kept_cond | apply kept_foldOver | apply kept_foldOver_fst | intro _ | refine kept_of_fst ‹_ = (_, _)› ?_ | simp only [kept_mk_iff] | split)

theorem kept_askLayers {s₀ : State} (h : Nat) (layers : List LayerH) (s : State)  (hk : Kept s₀ s) : Kept s₀ (State.askLayers h layers s) := by
  refine Kept.trans hk ?_
  simp only [State.askLayers]
  repeat' (with_reducible first | exact Kept.refl _ | exact kept_id _ | apply kept_forL | apply kept_askCharge | apply kept_askLoad | apply kept_ite | apply kept_ite_fst | apply kept_cond | apply kept_foldOver | apply kept_foldOver_fst | intro _ | refine kept_of_fst ‹_ = (_, _)› ?_ | simp only [kept_mk_iff] | split)

theorem kept_countHold {s₀ : State} (h j : Nat) (l : LayerH) (s : State)  (hk : Kept s₀ s) : Kept s₀ (State.countHold h j l s) := by
  refine Kept.trans hk ?_
  simp only [State.countHold]
  repeat' (with_reducible first | exact Kept.refl _ | exact kept_id _ | apply kept_bump | apply kept_raise | apply kept_ite | apply kept_ite_fst | apply kept_cond | apply kept_foldOver | apply kept_foldOver_fst | intro _ | refine kept_of_fst ‹_ = (_, _)› ?_ | simp only [kept_mk_iff] | split)

theorem kept_takeCommit {s₀ : State} (h : Nat) (c : SetH) (s : State)  (hk : Kept s₀ s) : Kept s₀ (State.takeCommit h c s) := by
  refine Kept.trans hk ?_
  simp only [State.takeCommit]
  repeat' (with_reducible first | exact Kept.refl _ | exact kept_id _ | apply kept_forL | apply kept_countHold | apply kept_setMvhH | apply kept_wr | apply kept_wrB | apply kept_showLayers | apply kept_ite | apply kept_ite_fst | apply kept_cond | apply kept_foldOver | apply kept_foldOver_fst | intro _ | refine kept_of_fst ‹_ = (_, _)› ?_ | simp only [kept_mk_iff] | split)

theorem kept_takeHeld {s₀ : State} (h : Nat) (s : State)  (hk : Kept s₀ s) : Kept s₀ (State.takeHeld h s) := by
  refine Kept.trans hk ?_
  simp only [State.takeHeld]
  repeat' (with_reducible first | exact Kept.refl _ | exact kept_id _ | apply kept_setMvhH | apply kept_showLayers | apply kept_ite | apply kept_ite_fst | apply kept_cond | apply kept_foldOver | apply kept_foldOver_fst | intro _ | refine kept_of_fst ‹_ = (_, _)› ?_ | simp only [kept_mk_iff] | split)

theorem kept_selectFrames {s₀ : State} (h t : Nat) (s : State)  (hk : Kept s₀ s) : Kept s₀ (State.selectFrames h t s) := by
  refine Kept.trans hk ?_
  simp only [State.selectFrames]
  repeat' (with_reducible first | exact Kept.refl _ | exact kept_id _ | apply kept_setMvhH | apply kept_ite | apply kept_ite_fst | apply kept_cond | apply kept_foldOver | apply kept_foldOver_fst | intro _ | refine kept_of_fst ‹_ = (_, _)› ?_ | simp only [kept_mk_iff] | split)

theorem kept_execLatchDecision (h : Fin 32) (s : State) : ∃ t, execLatchDecision h s = .next t ∧ Kept s t := by
  refine ⟨_, rfl, ?_⟩
  repeat' (with_reducible first | exact Kept.refl _ | exact kept_id _ | apply kept_setMvhH | apply kept_askLayers | apply kept_takeCommit | apply kept_takeHeld | apply kept_selectFrames | apply kept_ite | apply kept_ite_fst | apply kept_cond | apply kept_foldOver | apply kept_foldOver_fst | intro _ | refine kept_of_fst ‹_ = (_, _)› ?_ | simp only [kept_mk_iff] | split)

theorem kept_expectedCheck {s₀ : State} (h : Nat) (s : State)  (hk : Kept s₀ s) : Kept s₀ (State.expectedCheck h s) := by
  refine Kept.trans hk ?_
  simp only [State.expectedCheck]
  repeat' (with_reducible first | exact Kept.refl _ | exact kept_id _ | apply kept_wr | apply kept_bump | apply kept_raise | apply kept_ite | apply kept_ite_fst | apply kept_cond | apply kept_foldOver | apply kept_foldOver_fst | intro _ | refine kept_of_fst ‹_ = (_, _)› ?_ | simp only [kept_mk_iff] | split)

theorem kept_recordFlip {s₀ : State} (h : Nat) (f : FlipH) (s : State)  (hk : Kept s₀ s) : Kept s₀ (State.recordFlip h f s) := by
  refine Kept.trans hk ?_
  simp only [State.recordFlip]
  repeat' (with_reducible first | exact Kept.refl _ | exact kept_id _ | apply kept_wr | apply kept_raise | apply kept_ite | apply kept_ite_fst | apply kept_cond | apply kept_foldOver | apply kept_foldOver_fst | intro _ | refine kept_of_fst ‹_ = (_, _)› ?_ | simp only [kept_mk_iff] | split)

theorem kept_execFlip (h : Fin 32) (s : State) : ∃ t, execFlip h s = .next t ∧ Kept s t := by
  refine ⟨_, rfl, ?_⟩
  repeat' (with_reducible first | exact Kept.refl _ | exact kept_id _ | apply kept_expectedCheck | apply kept_forN | apply kept_wrB | apply kept_setMvhH | apply kept_wr | apply kept_showHeadFrame | apply kept_showLayers | apply kept_forL | apply kept_lowerCharge | apply kept_freeCopies | apply kept_recordFlip | apply kept_ite | apply kept_ite_fst | apply kept_cond | apply kept_foldOver | apply kept_foldOver_fst | intro _ | refine kept_of_fst ‹_ = (_, _)› ?_ | simp only [kept_mk_iff] | split)

theorem kept_execUnderrun (h : Fin 32) (j : Fin 8) (s : State) : ∃ t, execUnderrun h j s = .next t ∧ Kept s t := by
  refine ⟨_, rfl, ?_⟩
  repeat' (with_reducible first | exact Kept.refl _ | exact kept_id _ | apply kept_setMvhH | apply kept_bump | apply kept_wr | apply kept_raise | apply kept_ite | apply kept_ite_fst | apply kept_cond | apply kept_foldOver | apply kept_foldOver_fst | intro _ | refine kept_of_fst ‹_ = (_, _)› ?_ | simp only [kept_mk_iff] | split)

theorem kept_lutNext {s₀ : State} (h : Nat) (s : State)  (hk : Kept s₀ s) : Kept s₀ (State.lutNext h s) := by
  refine Kept.trans hk ?_
  simp only [State.lutNext]
  repeat' (with_reducible first | exact Kept.refl _ | exact kept_id _ | apply kept_wr | apply kept_ite | apply kept_ite_fst | apply kept_cond | apply kept_foldOver | apply kept_foldOver_fst | intro _ | refine kept_of_fst ‹_ = (_, _)› ?_ | simp only [kept_mk_iff] | split)

theorem kept_lutWrite {s₀ : State} (h v : Nat) (s : State)  (hk : Kept s₀ s) : Kept s₀ (State.lutWrite h v s) := by
  refine Kept.trans hk ?_
  simp only [State.lutWrite]
  repeat' (with_reducible first | exact Kept.refl _ | exact kept_id _ | apply kept_raise | apply kept_setMvhH | apply kept_lutNext | apply kept_ite | apply kept_ite_fst | apply kept_cond | apply kept_foldOver | apply kept_foldOver_fst | intro _ | refine kept_of_fst ‹_ = (_, _)› ?_ | simp only [kept_mk_iff] | split)

theorem kept_lutRead {s₀ : State} (h : Nat) (s : State)  (hk : Kept s₀ s) : Kept s₀ (State.lutRead h s).1 := by
  refine Kept.trans hk ?_
  simp only [State.lutRead]
  repeat' (with_reducible first | exact Kept.refl _ | exact kept_id _ | apply kept_lutNext | apply kept_ite | apply kept_ite_fst | apply kept_cond | apply kept_foldOver | apply kept_foldOver_fst | intro _ | refine kept_of_fst ‹_ = (_, _)› ?_ | simp only [kept_mk_iff] | split)

theorem kept_mvhWritten {s₀ : State} (h : Nat) (s old : State)  (hk : Kept s₀ s) : Kept s₀ (State.mvhWritten h s old) := by
  refine Kept.trans hk ?_
  simp only [State.mvhWritten]
  repeat' (with_reducible first | exact Kept.refl _ | exact kept_id _ | apply kept_wr | apply kept_raise | apply kept_when | apply kept_headEnable | apply kept_headDisable | apply kept_loseHead | apply kept_pushCheck | apply kept_ite | apply kept_ite_fst | apply kept_cond | apply kept_foldOver | apply kept_foldOver_fst | intro _ | refine kept_of_fst ‹_ = (_, _)› ?_ | simp only [kept_mk_iff] | split)

theorem kept_readCellar {s₀ : State} (c : Nat) (s : State)  (hk : Kept s₀ s) : Kept s₀ (State.readCellar c s).1 := by
  refine Kept.trans hk ?_
  simp only [State.readCellar]
  repeat' (with_reducible first | exact Kept.refl _ | exact kept_id _ | apply kept_draw | apply kept_ite | apply kept_ite_fst | apply kept_cond | apply kept_foldOver | apply kept_foldOver_fst | intro _ | refine kept_of_fst ‹_ = (_, _)› ?_ | simp only [kept_mk_iff] | split)

theorem kept_writeCellar {s₀ : State} (c v : Nat) (s : State)  (hk : Kept s₀ s) : Kept s₀ (State.writeCellar c v s) := by
  refine Kept.trans hk ?_
  simp only [State.writeCellar]
  repeat' (with_reducible first | exact Kept.refl _ | exact kept_id _ | apply kept_cellar | apply kept_ite | apply kept_ite_fst | apply kept_cond | apply kept_foldOver | apply kept_foldOver_fst | intro _ | refine kept_of_fst ‹_ = (_, _)› ?_ | simp only [kept_mk_iff] | split)

theorem kept_writeSurface {s₀ : State} (h row : Nat) (s : State)  (hk : Kept s₀ s) : Kept s₀ (State.writeSurface h row s) := by
  refine Kept.trans hk ?_
  simp only [State.writeSurface]
  repeat' (with_reducible first | exact Kept.refl _ | exact kept_id _ | apply kept_forL | apply kept_writeCellar | apply kept_ite | apply kept_ite_fst | apply kept_cond | apply kept_foldOver | apply kept_foldOver_fst | intro _ | refine kept_of_fst ‹_ = (_, _)› ?_ | simp only [kept_mk_iff] | split)

theorem kept_execTileRowComplete (h : Fin 32) (s : State) : ∃ t, execTileRowComplete h s = .next t ∧ Kept s t := by
  refine ⟨_, rfl, ?_⟩
  repeat' (with_reducible first | exact Kept.refl _ | exact kept_id _ | apply kept_setMvhH | apply kept_writeSurface | apply kept_ite | apply kept_ite_fst | apply kept_cond | apply kept_foldOver | apply kept_foldOver_fst | intro _ | refine kept_of_fst ‹_ = (_, _)› ?_ | simp only [kept_mk_iff] | split)

theorem kept_pushSend {s₀ : State} (h : Nat) (data : List Nat) (s : State)  (hk : Kept s₀ s) : Kept s₀ (State.pushSend h data s) := by
  refine Kept.trans hk ?_
  simp only [State.pushSend]
  repeat' (with_reducible first | exact Kept.refl _ | exact kept_id _ | apply kept_wr | apply kept_setMvhH | apply kept_txQueue | apply kept_ite | apply kept_ite_fst | apply kept_cond | apply kept_foldOver | apply kept_foldOver_fst | intro _ | refine kept_of_fst ‹_ = (_, _)› ?_ | simp only [kept_mk_iff] | split)

theorem kept_execRegionPushPacket (h : Fin 32) (s : State) : ∃ t, execRegionPushPacket h s = .next t ∧ Kept s t := by
  refine ⟨_, rfl, ?_⟩
  repeat' (with_reducible first | exact Kept.refl _ | exact kept_id _ | apply kept_setMvhH | apply kept_pushSend | apply kept_ite | apply kept_ite_fst | apply kept_cond | apply kept_foldOver | apply kept_foldOver_fst | intro _ | refine kept_of_fst ‹_ = (_, _)› ?_ | simp only [kept_mk_iff] | split)

theorem kept_execRegionPushFrameEnd (h : Fin 32) (s : State) : ∃ t, execRegionPushFrameEnd h s = .next t ∧ Kept s t := by
  refine ⟨_, rfl, ?_⟩
  repeat' (with_reducible first | exact Kept.refl _ | exact kept_id _ | apply kept_bumpBy | apply kept_when | apply kept_raise | apply kept_pushSend | apply kept_setMvhH | apply kept_ite | apply kept_ite_fst | apply kept_cond | apply kept_foldOver | apply kept_foldOver_fst | intro _ | refine kept_of_fst ‹_ = (_, _)› ?_ | simp only [kept_mk_iff] | split)

theorem kept_writeRotations {s₀ : State} (i n : Nat) (s : State)  (hk : Kept s₀ s) : Kept s₀ (State.writeRotations i n s) := by
  refine Kept.trans hk ?_
  simp only [State.writeRotations]
  repeat' (with_reducible first | exact Kept.refl _ | exact kept_id _ | apply kept_setInH | apply kept_bump | apply kept_raise | apply kept_ite | apply kept_ite_fst | apply kept_cond | apply kept_foldOver | apply kept_foldOver_fst | intro _ | refine kept_of_fst ‹_ = (_, _)› ?_ | simp only [kept_mk_iff] | split)

theorem kept_storeLines {s₀ : State} (i : Nat) (s : State)  (hk : Kept s₀ s) : Kept s₀ (State.storeLines i s) := by
  refine Kept.trans hk ?_
  simp only [State.storeLines]
  repeat' (with_reducible first | exact Kept.refl _ | exact kept_id _ | apply kept_forL | apply kept_setInH | apply kept_ite | apply kept_ite_fst | apply kept_cond | apply kept_foldOver | apply kept_foldOver_fst | intro _ | refine kept_of_fst ‹_ = (_, _)› ?_ | simp only [kept_mk_iff] | split)

theorem kept_execInputFrameStart (i : Fin 4608) (s : State) : ∃ t, execInputFrameStart i s = .next t ∧ Kept s t := by
  refine ⟨_, rfl, ?_⟩
  repeat' (with_reducible first | exact Kept.refl _ | exact kept_id _ | apply kept_storeLines | apply kept_setInH | apply kept_bookOut | apply kept_bookIn | apply kept_forL | apply kept_setCandH | apply kept_showOffset | apply kept_writeRotations | apply kept_ite | apply kept_ite_fst | apply kept_cond | apply kept_foldOver | apply kept_foldOver_fst | intro _ | refine kept_of_fst ‹_ = (_, _)› ?_ | simp only [kept_mk_iff] | split)

end Sys2Proof.Machine
end

