-- ==== Sys2Proof/Laws/KeptMbxOps.lean ====
section
/-! SUPPORT. What the operations of Machine/MbxOps.lean keep. -/

set_option linter.unusedTactic false
set_option linter.unreachableTactic false
set_option linter.unusedSimpArgs false

namespace Sys2Proof.Machine

theorem kept_notifyMail {s₀ : State} (c : Nat) (s : State)  (hk : Kept s₀ s) : Kept s₀ (State.notifyMail c s) := by
  refine Kept.trans hk ?_
  simp only [State.notifyMail]
  repeat' (with_reducible first | exact Kept.refl _ | exact kept_id _ | apply kept_rckEvent | apply kept_sendMsix | apply kept_ite | apply kept_ite_fst | apply kept_cond | apply kept_foldOver | apply kept_foldOver_fst | intro _ | refine kept_of_fst ‹_ = (_, _)› ?_ | simp only [kept_mk_iff] | split)

theorem kept_showChannel {s₀ : State} (c : Nat) (s : State)  (hk : Kept s₀ s) : Kept s₀ (State.showChannel c s) := by
  refine Kept.trans hk ?_
  simp only [State.showChannel]
  repeat' (with_reducible first | exact Kept.refl _ | exact kept_id _ | apply kept_wr | apply kept_wrB | apply kept_ite | apply kept_ite_fst | apply kept_cond | apply kept_foldOver | apply kept_foldOver_fst | intro _ | refine kept_of_fst ‹_ = (_, _)› ?_ | simp only [kept_mk_iff] | split)

theorem kept_mbxError {s₀ : State} (f : Field) (c : Nat) (s : State)  (hk : Kept s₀ s) : Kept s₀ (State.mbxError f c s) := by
  refine Kept.trans hk ?_
  simp only [State.mbxError]
  repeat' (with_reducible first | exact Kept.refl _ | exact kept_id _ | apply kept_wr | apply kept_raise | apply kept_ite | apply kept_ite_fst | apply kept_cond | apply kept_foldOver | apply kept_foldOver_fst | intro _ | refine kept_of_fst ‹_ = (_, _)› ?_ | simp only [kept_mk_iff] | split)

theorem kept_postSlot {s₀ : State} (c code : Nat) (s : State)  (hk : Kept s₀ s) : Kept s₀ (State.postSlot c code s) := by
  refine Kept.trans hk ?_
  simp only [State.postSlot]
  repeat' (with_reducible first | exact Kept.refl _ | exact kept_id _ | apply kept_mbxError | apply kept_setChnH | apply kept_wr | apply kept_bookIn | apply kept_showChannel | apply kept_notifyMail | apply kept_ite | apply kept_ite_fst | apply kept_cond | apply kept_foldOver | apply kept_foldOver_fst | intro _ | refine kept_of_fst ‹_ = (_, _)› ?_ | simp only [kept_mk_iff] | split)

theorem kept_fillSlot {s₀ : State} (c : Nat) (words : List Nat) (s : State)  (hk : Kept s₀ s) : Kept s₀ (State.fillSlot c words s) := by
  refine Kept.trans hk ?_
  simp only [State.fillSlot]
  repeat' (with_reducible first | exact Kept.refl _ | exact kept_id _ | apply kept_forN | apply kept_setWord | apply kept_ite | apply kept_ite_fst | apply kept_cond | apply kept_foldOver | apply kept_foldOver_fst | intro _ | refine kept_of_fst ‹_ = (_, _)› ?_ | simp only [kept_mk_iff] | split)

theorem kept_sendSlot {s₀ : State} (c code : Nat) (words : List Nat) (s : State)  (hk : Kept s₀ s) : Kept s₀ (State.sendSlot c code words s) := by
  refine Kept.trans hk ?_
  simp only [State.sendSlot]
  repeat' (with_reducible first | exact Kept.refl _ | exact kept_id _ | apply kept_fillSlot | apply kept_postSlot | apply kept_ite | apply kept_ite_fst | apply kept_cond | apply kept_foldOver | apply kept_foldOver_fst | intro _ | refine kept_of_fst ‹_ = (_, _)› ?_ | simp only [kept_mk_iff] | split)

theorem kept_freeSlot {s₀ : State} (c : Nat) (s : State)  (hk : Kept s₀ s) : Kept s₀ (State.freeSlot c s) := by
  refine Kept.trans hk ?_
  simp only [State.freeSlot]
  repeat' (with_reducible first | exact Kept.refl _ | exact kept_id _ | apply kept_mbxError | apply kept_setChnH | apply kept_wr | apply kept_bookOut | apply kept_showChannel | apply kept_ite | apply kept_ite_fst | apply kept_cond | apply kept_foldOver | apply kept_foldOver_fst | intro _ | refine kept_of_fst ‹_ = (_, _)› ?_ | simp only [kept_mk_iff] | split)

theorem kept_makeRoom {s₀ : State} (c : Nat) (s : State)  (hk : Kept s₀ s) : Kept s₀ (State.makeRoom c s) := by
  refine Kept.trans hk ?_
  simp only [State.makeRoom]
  repeat' (with_reducible first | exact Kept.refl _ | exact kept_id _ | apply kept_freeSlot | apply kept_setChnH | apply kept_ite | apply kept_ite_fst | apply kept_cond | apply kept_foldOver | apply kept_foldOver_fst | intro _ | refine kept_of_fst ‹_ = (_, _)› ?_ | simp only [kept_mk_iff] | split)

theorem kept_freedAhead {s₀ : State} (c : Nat) (s : State)  (hk : Kept s₀ s) : Kept s₀ (State.freedAhead c s).1 := by
  refine Kept.trans hk ?_
  simp only [State.freedAhead]
  repeat' (with_reducible first | exact Kept.refl _ | exact kept_id _ | apply kept_setChnH | apply kept_ite | apply kept_ite_fst | apply kept_cond | apply kept_foldOver | apply kept_foldOver_fst | intro _ | refine kept_of_fst ‹_ = (_, _)› ?_ | simp only [kept_mk_iff] | split)

theorem kept_postNow {s₀ : State} (c : Nat) (s : State)  (hk : Kept s₀ s) : Kept s₀ (State.postNow c s) := by
  refine Kept.trans hk ?_
  simp only [State.postNow]
  repeat' (with_reducible first | exact Kept.refl _ | exact kept_id _ | apply kept_setChnH | apply kept_makeRoom | apply kept_postSlot | apply kept_ite | apply kept_ite_fst | apply kept_cond | apply kept_foldOver | apply kept_foldOver_fst | intro _ | refine kept_of_fst ‹_ = (_, _)› ?_ | simp only [kept_mk_iff] | split)

theorem kept_notifyBell {s₀ : State} (b : Nat) (s : State)  (hk : Kept s₀ s) : Kept s₀ (State.notifyBell b s) := by
  refine Kept.trans hk ?_
  simp only [State.notifyBell]
  repeat' (with_reducible first | exact Kept.refl _ | exact kept_id _ | apply kept_rckEvent | apply kept_sendMsix | apply kept_ite | apply kept_ite_fst | apply kept_cond | apply kept_foldOver | apply kept_foldOver_fst | intro _ | refine kept_of_fst ‹_ = (_, _)› ?_ | simp only [kept_mk_iff] | split)

theorem kept_setBells {s₀ : State} (b bits : Nat) (s : State)  (hk : Kept s₀ s) : Kept s₀ (State.setBells b bits s) := by
  refine Kept.trans hk ?_
  simp only [State.setBells]
  repeat' (with_reducible first | exact Kept.refl _ | exact kept_id _ | apply kept_wr | apply kept_forL | apply kept_noteEvent | apply kept_notifyBell | apply kept_ite | apply kept_ite_fst | apply kept_cond | apply kept_foldOver | apply kept_foldOver_fst | intro _ | refine kept_of_fst ‹_ = (_, _)› ?_ | simp only [kept_mk_iff] | split)

theorem kept_resetReceiver {s₀ : State} (p : Party) (s : State)  (hk : Kept s₀ s) : Kept s₀ (State.resetReceiver p s) := by
  refine Kept.trans hk ?_
  simp only [State.resetReceiver]
  repeat' (with_reducible first | exact Kept.refl _ | exact kept_id _ | apply kept_forL | apply kept_wr | apply kept_notifyMail | apply kept_ite | apply kept_ite_fst | apply kept_cond | apply kept_foldOver | apply kept_foldOver_fst | intro _ | refine kept_of_fst ‹_ = (_, _)› ?_ | simp only [kept_mk_iff] | split)

theorem kept_postFirst {s₀ : State} (c : Nat) (s : State)  (hk : Kept s₀ s) : Kept s₀ (State.postFirst c s) := by
  refine Kept.trans hk ?_
  simp only [State.postFirst]
  repeat' (with_reducible first | exact Kept.refl _ | exact kept_id _ | apply kept_makeRoom | apply kept_postSlot | apply kept_setChnH | apply kept_ite | apply kept_ite_fst | apply kept_cond | apply kept_foldOver | apply kept_foldOver_fst | intro _ | refine kept_of_fst ‹_ = (_, _)› ?_ | simp only [kept_mk_iff] | split)

theorem kept_resetSender {s₀ : State} (p : Party) (s : State)  (hk : Kept s₀ s) : Kept s₀ (State.resetSender p s) := by
  refine Kept.trans hk ?_
  simp only [State.resetSender]
  repeat' (with_reducible first | exact Kept.refl _ | exact kept_id _ | apply kept_forL | apply kept_postFirst | apply kept_fillSlot | apply kept_wr | apply kept_ite | apply kept_ite_fst | apply kept_cond | apply kept_foldOver | apply kept_foldOver_fst | intro _ | refine kept_of_fst ‹_ = (_, _)› ?_ | simp only [kept_mk_iff] | split)

theorem kept_resetParty {s₀ : State} (p : Party) (s : State)  (hk : Kept s₀ s) : Kept s₀ (State.resetParty p s) := by
  refine Kept.trans hk ?_
  simp only [State.resetParty]
  repeat' (with_reducible first | exact Kept.refl _ | exact kept_id _ | apply kept_resetSender | apply kept_resetReceiver | apply kept_ite | apply kept_ite_fst | apply kept_cond | apply kept_foldOver | apply kept_foldOver_fst | intro _ | refine kept_of_fst ‹_ = (_, _)› ?_ | simp only [kept_mk_iff] | split)

theorem kept_releaseLocks {s₀ : State} (m : Nat) (s : State)  (hk : Kept s₀ s) : Kept s₀ (State.releaseLocks m s) := by
  refine Kept.trans hk ?_
  simp only [State.releaseLocks]
  repeat' (with_reducible first | exact Kept.refl _ | exact kept_id _ | apply kept_forN | apply kept_wr | apply kept_ite | apply kept_ite_fst | apply kept_cond | apply kept_foldOver | apply kept_foldOver_fst | intro _ | refine kept_of_fst ‹_ = (_, _)› ?_ | simp only [kept_mk_iff] | split)

end Sys2Proof.Machine
end

