-- ==== Sys2Proof/Laws/KeptFabOps.lean ====
section
/-! SUPPORT. What the operations of Machine/FabOps.lean keep. -/

set_option linter.unusedTactic false
set_option linter.unreachableTactic false
set_option linter.unusedSimpArgs false

namespace Sys2Proof.Machine

theorem kept_sendOn {s₀ : State} (n : Nat) (m : Msg) (s : State)  (hk : Kept s₀ s) : Kept s₀ (State.sendOn n m s) := by
  refine Kept.trans hk ?_
  simp only [State.sendOn]
  repeat' (with_reducible first | exact Kept.refl _ | exact kept_id _ | apply kept_emit | apply kept_ite | apply kept_ite_fst | apply kept_cond | apply kept_foldOver | apply kept_foldOver_fst | intro _ | refine kept_of_fst ‹_ = (_, _)› ?_ | simp only [kept_mk_iff] | split)

theorem kept_sendMsg {s₀ : State} (m : Msg) (s : State)  (hk : Kept s₀ s) : Kept s₀ (State.sendMsg m s) := by
  refine Kept.trans hk ?_
  simp only [State.sendMsg]
  repeat' (with_reducible first | exact Kept.refl _ | exact kept_id _ | apply kept_sendOn | apply kept_bump | apply kept_ite | apply kept_ite_fst | apply kept_cond | apply kept_foldOver | apply kept_foldOver_fst | intro _ | refine kept_of_fst ‹_ = (_, _)› ?_ | simp only [kept_mk_iff] | split)

theorem kept_tell {s₀ : State} (type dest : Nat) (body : List Nat) (s : State)  (hk : Kept s₀ s) : Kept s₀ (State.tell type dest body s) := by
  refine Kept.trans hk ?_
  simp only [State.tell]
  repeat' (with_reducible first | exact Kept.refl _ | exact kept_id _ | apply kept_sendMsg | apply kept_ite | apply kept_ite_fst | apply kept_cond | apply kept_foldOver | apply kept_foldOver_fst | intro _ | refine kept_of_fst ‹_ = (_, _)› ?_ | simp only [kept_mk_iff] | split)

theorem kept_drainTrunk {s₀ : State} (n : Nat) (s : State)  (hk : Kept s₀ s) : Kept s₀ (State.drainTrunk n s) := by
  refine Kept.trans hk ?_
  simp only [State.drainTrunk]
  repeat' (with_reducible first | exact Kept.refl _ | exact kept_id _ | apply kept_forL | apply kept_sendOn | apply kept_ite | apply kept_ite_fst | apply kept_cond | apply kept_foldOver | apply kept_foldOver_fst | intro _ | refine kept_of_fst ‹_ = (_, _)› ?_ | simp only [kept_mk_iff] | split)

theorem kept_addCredits {s₀ : State} (n k : Nat) (s : State)  (hk : Kept s₀ s) : Kept s₀ (State.addCredits n k s) := by
  refine Kept.trans hk ?_
  simp only [State.addCredits]
  repeat' (with_reducible first | exact Kept.refl _ | exact kept_id _ | apply kept_drainTrunk | apply kept_ite | apply kept_ite_fst | apply kept_cond | apply kept_foldOver | apply kept_foldOver_fst | intro _ | refine kept_of_fst ‹_ = (_, _)› ?_ | simp only [kept_mk_iff] | split)

theorem kept_returnCredit {s₀ : State} (n : Nat) (s : State)  (hk : Kept s₀ s) : Kept s₀ (State.returnCredit n s) := by
  refine Kept.trans hk ?_
  simp only [State.returnCredit]
  repeat' (with_reducible first | exact Kept.refl _ | exact kept_id _ | apply kept_bookOut | apply kept_bookIn | apply kept_sendOn | apply kept_ite | apply kept_ite_fst | apply kept_cond | apply kept_foldOver | apply kept_foldOver_fst | intro _ | refine kept_of_fst ‹_ = (_, _)› ?_ | simp only [kept_mk_iff] | split)

theorem kept_announce {s₀ : State} (s : State)  (hk : Kept s₀ s) : Kept s₀ (State.announce s) := by
  refine Kept.trans hk ?_
  simp only [State.announce]
  repeat' (with_reducible first | exact Kept.refl _ | exact kept_id _ | apply kept_forL | apply kept_sendOn | apply kept_ite | apply kept_ite_fst | apply kept_cond | apply kept_foldOver | apply kept_foldOver_fst | intro _ | refine kept_of_fst ‹_ = (_, _)› ?_ | simp only [kept_mk_iff] | split)

theorem kept_trackReach {s₀ : State} (s : State)  (hk : Kept s₀ s) : Kept s₀ (State.trackReach s) := by
  refine Kept.trans hk ?_
  simp only [State.trackReach]
  repeat' (with_reducible first | exact Kept.refl _ | exact kept_id _ | apply kept_ite | apply kept_ite_fst | apply kept_cond | apply kept_foldOver | apply kept_foldOver_fst | intro _ | refine kept_of_fst ‹_ = (_, _)› ?_ | simp only [kept_mk_iff] | split)

theorem kept_routesChanged {s₀ : State} (s : State)  (hk : Kept s₀ s) : Kept s₀ (State.routesChanged s) := by
  refine Kept.trans hk ?_
  simp only [State.routesChanged]
  repeat' (with_reducible first | exact Kept.refl _ | exact kept_id _ | apply kept_raise | apply kept_announce | apply kept_trackReach | apply kept_ite | apply kept_ite_fst | apply kept_cond | apply kept_foldOver | apply kept_foldOver_fst | intro _ | refine kept_of_fst ‹_ = (_, _)› ?_ | simp only [kept_mk_iff] | split)

theorem kept_dropEntry {s₀ : State} (a : Nat) (s : State)  (hk : Kept s₀ s) : Kept s₀ (State.dropEntry a s) := by
  refine Kept.trans hk ?_
  simp only [State.dropEntry]
  repeat' (with_reducible first | exact Kept.refl _ | exact kept_id _ | apply kept_setWord | apply kept_trigger | apply kept_ite | apply kept_ite_fst | apply kept_cond | apply kept_foldOver | apply kept_foldOver_fst | intro _ | refine kept_of_fst ‹_ = (_, _)› ?_ | simp only [kept_mk_iff] | split)

theorem kept_learnRoute {s₀ : State} (n nxt a hops mode : Nat) (s : State)  (hk : Kept s₀ s) : Kept s₀ (State.learnRoute n nxt a hops mode s) := by
  refine Kept.trans hk ?_
  simp only [State.learnRoute]
  repeat' (with_reducible first | exact Kept.refl _ | exact kept_id _ | apply kept_wr | apply kept_trigger | apply kept_ite | apply kept_ite_fst | apply kept_cond | apply kept_foldOver | apply kept_foldOver_fst | intro _ | refine kept_of_fst ‹_ = (_, _)› ?_ | simp only [kept_mk_iff] | split)

theorem kept_sendStuck {s₀ : State} (s : State)  (hk : Kept s₀ s) : Kept s₀ (State.sendStuck s) := by
  refine Kept.trans hk ?_
  simp only [State.sendStuck]
  repeat' (with_reducible first | exact Kept.refl _ | exact kept_id _ | apply kept_forL | apply kept_sendMsg | apply kept_ite | apply kept_ite_fst | apply kept_cond | apply kept_foldOver | apply kept_foldOver_fst | intro _ | refine kept_of_fst ‹_ = (_, _)› ?_ | simp only [kept_mk_iff] | split)

theorem kept_setFabLease {s₀ : State} (i addr index e : Nat) (s : State)  (hk : Kept s₀ s) : Kept s₀ (State.setFabLease i addr index e s) := by
  refine Kept.trans hk ?_
  simp only [State.setFabLease]
  repeat' (with_reducible first | exact Kept.refl _ | exact kept_id _ | apply kept_grantLease | apply kept_ite | apply kept_ite_fst | apply kept_cond | apply kept_foldOver | apply kept_foldOver_fst | intro _ | refine kept_of_fst ‹_ = (_, _)› ?_ | simp only [kept_mk_iff] | split)

theorem kept_askConductor {s₀ : State} (i dur prio index : Nat) (free : Bool) (s : State)  (hk : Kept s₀ s) : Kept s₀ (State.askConductor i dur prio index free s) := by
  refine Kept.trans hk ?_
  simp only [State.askConductor]
  repeat' (with_reducible first | exact Kept.refl _ | exact kept_id _ | apply kept_tell | apply kept_ite | apply kept_ite_fst | apply kept_cond | apply kept_foldOver | apply kept_foldOver_fst | intro _ | refine kept_of_fst ‹_ = (_, _)› ?_ | simp only [kept_mk_iff] | split)

theorem kept_dropRun {s₀ : State} (k : Nat) (s : State)  (hk : Kept s₀ s) : Kept s₀ (State.dropRun k s) := by
  refine Kept.trans hk ?_
  simp only [State.dropRun]
  repeat' (with_reducible first | exact Kept.refl _ | exact kept_id _ | apply kept_setWord | apply kept_ite | apply kept_ite_fst | apply kept_cond | apply kept_foldOver | apply kept_foldOver_fst | intro _ | refine kept_of_fst ‹_ = (_, _)› ?_ | simp only [kept_mk_iff] | split)

theorem kept_trunkLost {s₀ : State} (n : Nat) (s : State)  (hk : Kept s₀ s) : Kept s₀ (State.trunkLost n s) := by
  refine Kept.trans hk ?_
  simp only [State.trunkLost]
  repeat' (with_reducible first | exact Kept.refl _ | exact kept_id _ | apply kept_dropResident | apply kept_forL | apply kept_dropEntry | apply kept_routesChanged | apply kept_sendMsg | apply kept_ite | apply kept_ite_fst | apply kept_cond | apply kept_foldOver | apply kept_foldOver_fst | intro _ | refine kept_of_fst ‹_ = (_, _)› ?_ | simp only [kept_mk_iff] | split)

theorem kept_trunkLocked {s₀ : State} (n : Nat) (s : State)  (hk : Kept s₀ s) : Kept s₀ (State.trunkLocked n s) := by
  refine Kept.trans hk ?_
  simp only [State.trunkLocked]
  repeat' (with_reducible first | exact Kept.refl _ | exact kept_id _ | apply kept_dropResident | apply kept_bookIn | apply kept_sendOn | apply kept_ite | apply kept_ite_fst | apply kept_cond | apply kept_foldOver | apply kept_foldOver_fst | intro _ | refine kept_of_fst ‹_ = (_, _)› ?_ | simp only [kept_mk_iff] | split)

end Sys2Proof.Machine
end

