-- ==== Sys2Proof/Laws/KeptTwinOps.lean ====
section
/-! SUPPORT. What the operations of Machine/TwinOps.lean keep. -/

set_option linter.unusedTactic false
set_option linter.unreachableTactic false
set_option linter.unusedSimpArgs false

namespace Sys2Proof.Machine

theorem kept_sendMirror {s₀ : State} (units : Nat) (o : Out) (s : State)  (hk : Kept s₀ s) : Kept s₀ (State.sendMirror units o s) := by
  refine Kept.trans hk ?_
  simp only [State.sendMirror]
  repeat' (with_reducible first | exact Kept.refl _ | exact kept_id _ | apply kept_emit | apply kept_ite | apply kept_ite_fst | apply kept_cond | apply kept_foldOver | apply kept_foldOver_fst | intro _ | refine kept_of_fst ‹_ = (_, _)› ?_ | simp only [kept_mk_iff] | split)

theorem kept_drainMirror {s₀ : State} (s : State)  (hk : Kept s₀ s) : Kept s₀ (State.drainMirror s) := by
  refine Kept.trans hk ?_
  simp only [State.drainMirror]
  repeat' (with_reducible first | exact Kept.refl _ | exact kept_id _ | apply kept_forL | apply kept_putMirror | apply kept_ite | apply kept_ite_fst | apply kept_cond | apply kept_foldOver | apply kept_foldOver_fst | intro _ | refine kept_of_fst ‹_ = (_, _)› ?_ | simp only [kept_mk_iff] | split)

theorem kept_freeUnits {s₀ : State} (len : Nat) (s : State)  (hk : Kept s₀ s) : Kept s₀ (State.freeUnits len s) := by
  refine Kept.trans hk ?_
  simp only [State.freeUnits]
  repeat' (with_reducible first | exact Kept.refl _ | exact kept_id _ | apply kept_ite | apply kept_ite_fst | apply kept_cond | apply kept_foldOver | apply kept_foldOver_fst | intro _ | refine kept_of_fst ‹_ = (_, _)› ?_ | simp only [kept_mk_iff] | split)

theorem kept_sendEntry {s₀ : State} (e : JEntry) (s : State)  (hk : Kept s₀ s) : Kept s₀ (State.sendEntry e s) := by
  refine Kept.trans hk ?_
  simp only [State.sendEntry]
  repeat' (with_reducible first | exact Kept.refl _ | exact kept_id _ | apply kept_sendMirror | apply kept_ite | apply kept_ite_fst | apply kept_cond | apply kept_foldOver | apply kept_foldOver_fst | intro _ | refine kept_of_fst ‹_ = (_, _)› ?_ | simp only [kept_mk_iff] | split)

theorem kept_journal {s₀ : State} (kind : Nat) (stamp : Nat × Nat) (words : List Nat) (s : State)  (hk : Kept s₀ s) : Kept s₀ (State.journal kind stamp words s) := by
  refine Kept.trans hk ?_
  simp only [State.journal]
  repeat' (with_reducible first | exact Kept.refl _ | exact kept_id _ | apply kept_wr | apply kept_sendEntry | apply kept_ite | apply kept_ite_fst | apply kept_cond | apply kept_foldOver | apply kept_foldOver_fst | intro _ | refine kept_of_fst ‹_ = (_, _)› ?_ | simp only [kept_mk_iff] | split)

theorem kept_sendRecord {s₀ : State} (kind words : Nat) (o : Out) (s : State)  (hk : Kept s₀ s) : Kept s₀ (State.sendRecord kind words o s) := by
  refine Kept.trans hk ?_
  simp only [State.sendRecord]
  repeat' (with_reducible first | exact Kept.refl _ | exact kept_id _ | apply kept_sendMirror | apply kept_ite | apply kept_ite_fst | apply kept_cond | apply kept_foldOver | apply kept_foldOver_fst | intro _ | refine kept_of_fst ‹_ = (_, _)› ?_ | simp only [kept_mk_iff] | split)

theorem kept_mirrorDown {s₀ : State} (s : State)  (hk : Kept s₀ s) : Kept s₀ (State.mirrorDown s) := by
  refine Kept.trans hk ?_
  simp only [State.mirrorDown]
  repeat' (with_reducible first | exact Kept.refl _ | exact kept_id _ | apply kept_wr | apply kept_raise | apply kept_dropResident | apply kept_forL | apply kept_setMailH | apply kept_resetParty | apply kept_updateAble | apply kept_ite | apply kept_ite_fst | apply kept_cond | apply kept_foldOver | apply kept_foldOver_fst | intro _ | refine kept_of_fst ‹_ = (_, _)› ?_ | simp only [kept_mk_iff] | split)

theorem kept_mirrorUp {s₀ : State} (s : State)  (hk : Kept s₀ s) : Kept s₀ (State.mirrorUp s) := by
  refine Kept.trans hk ?_
  simp only [State.mirrorUp]
  repeat' (with_reducible first | exact Kept.refl _ | exact kept_id _ | apply kept_wr | apply kept_bookIn | apply kept_forL | apply kept_sendMirror | apply kept_setMailH | apply kept_updateAble | apply kept_ite | apply kept_ite_fst | apply kept_cond | apply kept_foldOver | apply kept_foldOver_fst | intro _ | refine kept_of_fst ‹_ = (_, _)› ?_ | simp only [kept_mk_iff] | split)

end Sys2Proof.Machine
end

