-- ==== Sys2Proof/Laws/KeptRckCore.lean ====
section
/-! SUPPORT. What the operations of Machine/RckCore.lean keep. -/

set_option linter.unusedTactic false
set_option linter.unreachableTactic false
set_option linter.unusedSimpArgs false

namespace Sys2Proof.Machine

theorem kept_setGreg {s₀ : State} (r n : Nat) (v : Word) (s : State)  (hk : Kept s₀ s) : Kept s₀ (State.setGreg r n v s) := by
  refine Kept.trans hk ?_
  simp only [State.setGreg]
  repeat' (with_reducible first | exact Kept.refl _ | exact kept_id _ | apply kept_setWord | apply kept_ite | apply kept_ite_fst | apply kept_cond | apply kept_foldOver | apply kept_foldOver_fst | intro _ | refine kept_of_fst ‹_ = (_, _)› ?_ | simp only [kept_mk_iff] | split)

theorem kept_setFlags {s₀ : State} (r : Nat) (f : RckFlags) (s : State)  (hk : Kept s₀ s) : Kept s₀ (State.setFlags r f s) := by
  refine Kept.trans hk ?_
  simp only [State.setFlags]
  repeat' (with_reducible first | exact Kept.refl _ | exact kept_id _ | apply kept_setRckH | apply kept_ite | apply kept_ite_fst | apply kept_cond | apply kept_foldOver | apply kept_foldOver_fst | intro _ | refine kept_of_fst ‹_ = (_, _)› ?_ | simp only [kept_mk_iff] | split)

theorem kept_advance {s₀ : State} (r cycles : Nat) (s : State)  (hk : Kept s₀ s) : Kept s₀ (State.advance r cycles s) := by
  refine Kept.trans hk ?_
  simp only [State.advance]
  repeat' (with_reducible first | exact Kept.refl _ | exact kept_id _ | apply kept_setRckH | apply kept_ite | apply kept_ite_fst | apply kept_cond | apply kept_foldOver | apply kept_foldOver_fst | intro _ | refine kept_of_fst ‹_ = (_, _)› ?_ | simp only [kept_mk_iff] | split)

theorem kept_setP {s₀ : State} (r t : Nat) (s : State)  (hk : Kept s₀ s) : Kept s₀ (State.setP r t s) := by
  refine Kept.trans hk ?_
  simp only [State.setP]
  repeat' (with_reducible first | exact Kept.refl _ | exact kept_id _ | apply kept_setRckH | apply kept_ite | apply kept_ite_fst | apply kept_cond | apply kept_foldOver | apply kept_foldOver_fst | intro _ | refine kept_of_fst ‹_ = (_, _)› ?_ | simp only [kept_mk_iff] | split)

theorem kept_boundary {s₀ : State} (r : Nat) (s : State)  (hk : Kept s₀ s) : Kept s₀ (State.boundary r s) := by
  refine Kept.trans hk ?_
  simp only [State.boundary]
  repeat' (with_reducible first | exact Kept.refl _ | exact kept_id _ | apply kept_setRckH | apply kept_wr | apply kept_ite | apply kept_ite_fst | apply kept_cond | apply kept_foldOver | apply kept_foldOver_fst | intro _ | refine kept_of_fst ‹_ = (_, _)› ?_ | simp only [kept_mk_iff] | split)

theorem kept_goto {s₀ : State} (r i : Nat) (s : State)  (hk : Kept s₀ s) : Kept s₀ (State.goto r i s) := by
  refine Kept.trans hk ?_
  simp only [State.goto]
  repeat' (with_reducible first | exact Kept.refl _ | exact kept_id _ | apply kept_setRckH | apply kept_wr | apply kept_ite | apply kept_ite_fst | apply kept_cond | apply kept_foldOver | apply kept_foldOver_fst | intro _ | refine kept_of_fst ‹_ = (_, _)› ?_ | simp only [kept_mk_iff] | split)

theorem kept_retire {s₀ : State} (r cycles : Nat) (s : State)  (hk : Kept s₀ s) : Kept s₀ (State.retire r cycles s) := by
  refine Kept.trans hk ?_
  simp only [State.retire]
  repeat' (with_reducible first | exact Kept.refl _ | exact kept_id _ | apply kept_advance | apply kept_goto | apply kept_boundary | apply kept_ite | apply kept_ite_fst | apply kept_cond | apply kept_foldOver | apply kept_foldOver_fst | intro _ | refine kept_of_fst ‹_ = (_, _)› ?_ | simp only [kept_mk_iff] | split)

theorem kept_retireTo {s₀ : State} (r cycles i : Nat) (s : State)  (hk : Kept s₀ s) : Kept s₀ (State.retireTo r cycles i s) := by
  refine Kept.trans hk ?_
  simp only [State.retireTo]
  repeat' (with_reducible first | exact Kept.refl _ | exact kept_id _ | apply kept_advance | apply kept_goto | apply kept_boundary | apply kept_ite | apply kept_ite_fst | apply kept_cond | apply kept_foldOver | apply kept_foldOver_fst | intro _ | refine kept_of_fst ‹_ = (_, _)› ?_ | simp only [kept_mk_iff] | split)

theorem kept_resumeAt {s₀ : State} (r t : Nat) (s : State)  (hk : Kept s₀ s) : Kept s₀ (State.resumeAt r t s) := by
  refine Kept.trans hk ?_
  simp only [State.resumeAt]
  repeat' (with_reducible first | exact Kept.refl _ | exact kept_id _ | apply kept_setP | apply kept_setRckH | apply kept_goto | apply kept_boundary | apply kept_ite | apply kept_ite_fst | apply kept_cond | apply kept_foldOver | apply kept_foldOver_fst | intro _ | refine kept_of_fst ‹_ = (_, _)› ?_ | simp only [kept_mk_iff] | split)

theorem kept_startWait {s₀ : State} (r : Nat) (w : Wait) (s : State)  (hk : Kept s₀ s) : Kept s₀ (State.startWait r w s) := by
  refine Kept.trans hk ?_
  simp only [State.startWait]
  repeat' (with_reducible first | exact Kept.refl _ | exact kept_id _ | apply kept_setRckH | apply kept_wr | apply kept_ite | apply kept_ite_fst | apply kept_cond | apply kept_foldOver | apply kept_foldOver_fst | intro _ | refine kept_of_fst ‹_ = (_, _)› ?_ | simp only [kept_mk_iff] | split)

theorem kept_trap {s₀ : State} (r cause arg : Nat) (s : State)  (hk : Kept s₀ s) : Kept s₀ (State.trap r cause arg s) := by
  refine Kept.trans hk ?_
  simp only [State.trap]
  repeat' (with_reducible first | exact Kept.refl _ | exact kept_id _ | apply kept_wr | apply kept_bump | apply kept_raise | apply kept_setRckH | apply kept_retireTo | apply kept_showRck | apply kept_trapTrigger | apply kept_ite | apply kept_ite_fst | apply kept_cond | apply kept_foldOver | apply kept_foldOver_fst | intro _ | refine kept_of_fst ‹_ = (_, _)› ?_ | simp only [kept_mk_iff] | split)

theorem kept_resync {s₀ : State} (r : Nat) (s : State)  (hk : Kept s₀ s) : Kept s₀ (State.resync r s) := by
  refine Kept.trans hk ?_
  simp only [State.resync]
  repeat' (with_reducible first | exact Kept.refl _ | exact kept_id _ | apply kept_setRckH | apply kept_raise | apply kept_ite | apply kept_ite_fst | apply kept_cond | apply kept_foldOver | apply kept_foldOver_fst | intro _ | refine kept_of_fst ‹_ = (_, _)› ?_ | simp only [kept_mk_iff] | split)

theorem kept_issue {s₀ : State} (r op : Nat) (f : RckInstr → State → State) (s : State) (hf : ∀ a0 u, Kept u (f a0 u)) (hk : Kept s₀ s) : Kept s₀ (State.issue r op f s) := by
  refine Kept.trans hk ?_
  simp only [State.issue]
  repeat' (with_reducible first | exact Kept.refl _ | exact kept_id _ | apply kept_resync | apply kept_trap | refine Kept.trans ?_ (hf ..) | apply kept_ite | apply kept_ite_fst | apply kept_cond | apply kept_foldOver | apply kept_foldOver_fst | intro _ | refine kept_of_fst ‹_ = (_, _)› ?_ | simp only [kept_mk_iff] | split)

theorem kept_recordRefusals {s₀ : State} (r : Nat) (t : Tally) (s : State)  (hk : Kept s₀ s) : Kept s₀ (State.recordRefusals r t s) := by
  refine Kept.trans hk ?_
  simp only [State.recordRefusals]
  repeat' (with_reducible first | exact Kept.refl _ | exact kept_id _ | apply kept_bumpBy | apply kept_wr | apply kept_wrB | apply kept_raise | apply kept_ite | apply kept_ite_fst | apply kept_cond | apply kept_foldOver | apply kept_foldOver_fst | intro _ | refine kept_of_fst ‹_ = (_, _)› ?_ | simp only [kept_mk_iff] | split)

theorem kept_pendMasks {s₀ : State} (changes : List Change) (s : State)  (hk : Kept s₀ s) : Kept s₀ (State.pendMasks changes s) := by
  refine Kept.trans hk ?_
  simp only [State.pendMasks]
  repeat' (with_reducible first | exact Kept.refl _ | exact kept_id _ | apply kept_forL | apply kept_wrB | apply kept_ite | apply kept_ite_fst | apply kept_cond | apply kept_foldOver | apply kept_foldOver_fst | intro _ | refine kept_of_fst ‹_ = (_, _)› ?_ | simp only [kept_mk_iff] | split)

theorem kept_writeResult {s₀ : State} (r rd result : Nat) (s : State)  (hk : Kept s₀ s) : Kept s₀ (State.writeResult r rd result s) := by
  refine Kept.trans hk ?_
  simp only [State.writeResult]
  repeat' (with_reducible first | exact Kept.refl _ | exact kept_id _ | apply kept_setGreg | apply kept_wr | apply kept_setFlags | apply kept_ite | apply kept_ite_fst | apply kept_cond | apply kept_foldOver | apply kept_foldOver_fst | intro _ | refine kept_of_fst ‹_ = (_, _)› ?_ | simp only [kept_mk_iff] | split)

theorem kept_retireOperation {s₀ : State} (r rd : Nat) (entries : List Nat) (floor : Option Nat) (s : State)  (hk : Kept s₀ s) : Kept s₀ (State.retireOperation r rd entries floor s) := by
  refine Kept.trans hk ?_
  simp only [State.retireOperation]
  repeat' (with_reducible first | exact Kept.refl _ | exact kept_id _ | apply kept_setRckH | apply kept_recordRefusals | apply kept_bump | apply kept_writeResult | apply kept_pendMasks | apply kept_forL | apply kept_wr | apply kept_showRck | apply kept_sendRecord | apply kept_ite | apply kept_ite_fst | apply kept_cond | apply kept_foldOver | apply kept_foldOver_fst | intro _ | refine kept_of_fst ‹_ = (_, _)› ?_ | simp only [kept_mk_iff] | split)

theorem kept_operate {s₀ : State} (r rd : Nat) (entries : List Nat) (s : State)  (hk : Kept s₀ s) : Kept s₀ (State.operate r rd entries s) := by
  refine Kept.trans hk ?_
  simp only [State.operate]
  repeat' (with_reducible first | exact Kept.refl _ | exact kept_id _ | apply kept_setRckH | apply kept_retire | apply kept_wr | apply kept_startWait | apply kept_retireOperation | apply kept_goto | apply kept_boundary | apply kept_ite | apply kept_ite_fst | apply kept_cond | apply kept_foldOver | apply kept_foldOver_fst | intro _ | refine kept_of_fst ‹_ = (_, _)› ?_ | simp only [kept_mk_iff] | split)

theorem kept_commitEmpty {s₀ : State} (r rd : Nat) (s : State)  (hk : Kept s₀ s) : Kept s₀ (State.commitEmpty r rd s) := by
  refine Kept.trans hk ?_
  simp only [State.commitEmpty]
  repeat' (with_reducible first | exact Kept.refl _ | exact kept_id _ | apply kept_startWait | apply kept_retire | apply kept_retireOperation | apply kept_goto | apply kept_boundary | apply kept_ite | apply kept_ite_fst | apply kept_cond | apply kept_foldOver | apply kept_foldOver_fst | intro _ | refine kept_of_fst ‹_ = (_, _)› ?_ | simp only [kept_mk_iff] | split)

theorem kept_stage {s₀ : State} (r kind hi lo : Nat) (s : State)  (hk : Kept s₀ s) : Kept s₀ (State.stage r kind hi lo s) := by
  refine Kept.trans hk ?_
  simp only [State.stage]
  repeat' (with_reducible first | exact Kept.refl _ | exact kept_id _ | apply kept_trap | apply kept_setRckH | apply kept_showRck | apply kept_retire | apply kept_ite | apply kept_ite_fst | apply kept_cond | apply kept_foldOver | apply kept_foldOver_fst | intro _ | refine kept_of_fst ‹_ = (_, _)› ?_ | simp only [kept_mk_iff] | split)

end Sys2Proof.Machine
end

