-- ==== Sys2Proof/Laws/KeptRckExec.lean ====
section
/-! SUPPORT. What the operations of Machine/RckExec.lean keep. -/

set_option linter.unusedTactic false
set_option linter.unreachableTactic false
set_option linter.unusedSimpArgs false

namespace Sys2Proof.Machine

theorem kept_sendEffect {s₀ : State} (r kind : Nat) (words : List Nat) (s : State)  (hk : Kept s₀ s) : Kept s₀ (State.sendEffect r kind words s) := by
  refine Kept.trans hk ?_
  simp only [State.sendEffect]
  repeat' (with_reducible first | exact Kept.refl _ | exact kept_id _ | apply kept_sendRecord | apply kept_ite | apply kept_ite_fst | apply kept_cond | apply kept_foldOver | apply kept_foldOver_fst | intro _ | refine kept_of_fst ‹_ = (_, _)› ?_ | simp only [kept_mk_iff] | split)

theorem kept_effect {s₀ : State} (r kind : Nat) (words : List Nat) (s : State)  (hk : Kept s₀ s) : Kept s₀ (State.effect r kind words s) := by
  refine Kept.trans hk ?_
  simp only [State.effect]
  repeat' (with_reducible first | exact Kept.refl _ | exact kept_id _ | apply kept_sendEffect | apply kept_ite | apply kept_ite_fst | apply kept_cond | apply kept_foldOver | apply kept_foldOver_fst | intro _ | refine kept_of_fst ‹_ = (_, _)› ?_ | simp only [kept_mk_iff] | split)

theorem kept_setC {s₀ : State} (r : Nat) (b : Bool) (s : State)  (hk : Kept s₀ s) : Kept s₀ (State.setC r b s) := by
  refine Kept.trans hk ?_
  simp only [State.setC]
  repeat' (with_reducible first | exact Kept.refl _ | exact kept_id _ | apply kept_setFlags | apply kept_ite | apply kept_ite_fst | apply kept_cond | apply kept_foldOver | apply kept_foldOver_fst | intro _ | refine kept_of_fst ‹_ = (_, _)› ?_ | simp only [kept_mk_iff] | split)

theorem kept_setZ {s₀ : State} (r : Nat) (b : Bool) (s : State)  (hk : Kept s₀ s) : Kept s₀ (State.setZ r b s) := by
  refine Kept.trans hk ?_
  simp only [State.setZ]
  repeat' (with_reducible first | exact Kept.refl _ | exact kept_id _ | apply kept_setFlags | apply kept_ite | apply kept_ite_fst | apply kept_cond | apply kept_foldOver | apply kept_foldOver_fst | intro _ | refine kept_of_fst ‹_ = (_, _)› ?_ | simp only [kept_mk_iff] | split)

theorem kept_giveStatus {s₀ : State} (r rd status : Nat) (s : State)  (hk : Kept s₀ s) : Kept s₀ (State.giveStatus r rd status s) := by
  refine Kept.trans hk ?_
  simp only [State.giveStatus]
  repeat' (with_reducible first | exact Kept.refl _ | exact kept_id _ | apply kept_setGreg | apply kept_setFlags | apply kept_ite | apply kept_ite_fst | apply kept_cond | apply kept_foldOver | apply kept_foldOver_fst | intro _ | refine kept_of_fst ‹_ = (_, _)› ?_ | simp only [kept_mk_iff] | split)

theorem kept_execWaitl (r : Fin 16) (s : State) : ∃ t, execWaitl r s = .next t ∧ Kept s t := by
  refine ⟨_, rfl, ?_⟩
  repeat' (with_reducible first | exact Kept.refl _ | exact kept_id _ | apply kept_issue | apply kept_trap | apply kept_setC | apply kept_retire | apply kept_startWait | apply kept_ite | apply kept_ite_fst | apply kept_cond | apply kept_foldOver | apply kept_foldOver_fst | intro _ | refine kept_of_fst ‹_ = (_, _)› ?_ | simp only [kept_mk_iff] | split)

theorem kept_execWaitlComplete (r : Fin 16) (s : State) : ∃ t, execWaitlComplete r s = .next t ∧ Kept s t := by
  refine ⟨_, rfl, ?_⟩
  repeat' (with_reducible first | exact Kept.refl _ | exact kept_id _ | apply kept_setC | apply kept_resumeAt | apply kept_ite | apply kept_ite_fst | apply kept_cond | apply kept_foldOver | apply kept_foldOver_fst | intro _ | refine kept_of_fst ‹_ = (_, _)› ?_ | simp only [kept_mk_iff] | split)

theorem kept_execWaitf (r : Fin 16) (s : State) : ∃ t, execWaitf r s = .next t ∧ Kept s t := by
  refine ⟨_, rfl, ?_⟩
  repeat' (with_reducible first | exact Kept.refl _ | exact kept_id _ | apply kept_issue | apply kept_setC | apply kept_retire | apply kept_startWait | apply kept_ite | apply kept_ite_fst | apply kept_cond | apply kept_foldOver | apply kept_foldOver_fst | intro _ | refine kept_of_fst ‹_ = (_, _)› ?_ | simp only [kept_mk_iff] | split)

theorem kept_execWaitfComplete (r : Fin 16) (s : State) : ∃ t, execWaitfComplete r s = .next t ∧ Kept s t := by
  refine ⟨_, rfl, ?_⟩
  repeat' (with_reducible first | exact Kept.refl _ | exact kept_id _ | apply kept_setC | apply kept_resumeAt | apply kept_ite | apply kept_ite_fst | apply kept_cond | apply kept_foldOver | apply kept_foldOver_fst | intro _ | refine kept_of_fst ‹_ = (_, _)› ?_ | simp only [kept_mk_iff] | split)

theorem kept_execAtFloor (r : Fin 16) (s : State) : ∃ t, execAtFloor r s = .next t ∧ Kept s t := by
  refine ⟨_, rfl, ?_⟩
  repeat' (with_reducible first | exact Kept.refl _ | exact kept_id _ | apply kept_issue | apply kept_setRckH | apply kept_retire | apply kept_ite | apply kept_ite_fst | apply kept_cond | apply kept_foldOver | apply kept_foldOver_fst | intro _ | refine kept_of_fst ‹_ = (_, _)› ?_ | simp only [kept_mk_iff] | split)

theorem kept_takeEvents {s₀ : State} (r rd mask : Nat) (s : State)  (hk : Kept s₀ s) : Kept s₀ (State.takeEvents r rd mask s) := by
  refine Kept.trans hk ?_
  simp only [State.takeEvents]
  repeat' (with_reducible first | exact Kept.refl _ | exact kept_id _ | apply kept_setRckH | apply kept_setGreg | apply kept_wr | apply kept_setZ | apply kept_ite | apply kept_ite_fst | apply kept_cond | apply kept_foldOver | apply kept_foldOver_fst | intro _ | refine kept_of_fst ‹_ = (_, _)› ?_ | simp only [kept_mk_iff] | split)

theorem kept_execWaite (r : Fin 16) (s : State) : ∃ t, execWaite r s = .next t ∧ Kept s t := by
  refine ⟨_, rfl, ?_⟩
  repeat' (with_reducible first | exact Kept.refl _ | exact kept_id _ | apply kept_issue | apply kept_trap | apply kept_takeEvents | apply kept_retire | apply kept_startWait | apply kept_ite | apply kept_ite_fst | apply kept_cond | apply kept_foldOver | apply kept_foldOver_fst | intro _ | refine kept_of_fst ‹_ = (_, _)› ?_ | simp only [kept_mk_iff] | split)

theorem kept_execWaiteComplete (r : Fin 16) (s : State) : ∃ t, execWaiteComplete r s = .next t ∧ Kept s t := by
  refine ⟨_, rfl, ?_⟩
  repeat' (with_reducible first | exact Kept.refl _ | exact kept_id _ | apply kept_takeEvents | apply kept_resumeAt | apply kept_ite | apply kept_ite_fst | apply kept_cond | apply kept_foldOver | apply kept_foldOver_fst | intro _ | refine kept_of_fst ‹_ = (_, _)› ?_ | simp only [kept_mk_iff] | split)

theorem kept_execWaiteTimeout (r : Fin 16) (s : State) : ∃ t, execWaiteTimeout r s = .next t ∧ Kept s t := by
  refine ⟨_, rfl, ?_⟩
  repeat' (with_reducible first | exact Kept.refl _ | exact kept_id _ | apply kept_setGreg | apply kept_setZ | apply kept_resumeAt | apply kept_ite | apply kept_ite_fst | apply kept_cond | apply kept_foldOver | apply kept_foldOver_fst | intro _ | refine kept_of_fst ‹_ = (_, _)› ?_ | simp only [kept_mk_iff] | split)

theorem kept_giveVerdict {s₀ : State} (r rd code tag : Nat) (s : State)  (hk : Kept s₀ s) : Kept s₀ (State.giveVerdict r rd code tag s) := by
  refine Kept.trans hk ?_
  simp only [State.giveVerdict]
  repeat' (with_reducible first | exact Kept.refl _ | exact kept_id _ | apply kept_setGreg | apply kept_setZ | apply kept_ite | apply kept_ite_fst | apply kept_cond | apply kept_foldOver | apply kept_foldOver_fst | intro _ | refine kept_of_fst ‹_ = (_, _)› ?_ | simp only [kept_mk_iff] | split)

theorem kept_execProve (r : Fin 16) (s : State) : ∃ t, execProve r s = .next t ∧ Kept s t := by
  refine ⟨_, rfl, ?_⟩
  repeat' (with_reducible first | exact Kept.refl _ | exact kept_id _ | apply kept_issue | apply kept_giveVerdict | apply kept_retire | apply kept_startWait | apply kept_ite | apply kept_ite_fst | apply kept_cond | apply kept_foldOver | apply kept_foldOver_fst | intro _ | refine kept_of_fst ‹_ = (_, _)› ?_ | simp only [kept_mk_iff] | split)

theorem kept_execProveComplete (r : Fin 16) (s : State) : ∃ t, execProveComplete r s = .next t ∧ Kept s t := by
  refine ⟨_, rfl, ?_⟩
  repeat' (with_reducible first | exact Kept.refl _ | exact kept_id _ | apply kept_giveVerdict | apply kept_resumeAt | apply kept_ite | apply kept_ite_fst | apply kept_cond | apply kept_foldOver | apply kept_foldOver_fst | intro _ | refine kept_of_fst ‹_ = (_, _)› ?_ | simp only [kept_mk_iff] | split)

theorem kept_execProveTimeout (r : Fin 16) (s : State) : ∃ t, execProveTimeout r s = .next t ∧ Kept s t := by
  refine ⟨_, rfl, ?_⟩
  repeat' (with_reducible first | exact Kept.refl _ | exact kept_id _ | apply kept_giveVerdict | apply kept_resumeAt | apply kept_ite | apply kept_ite_fst | apply kept_cond | apply kept_foldOver | apply kept_foldOver_fst | intro _ | refine kept_of_fst ‹_ = (_, _)› ?_ | simp only [kept_mk_iff] | split)

theorem kept_execTake (r : Fin 16) (ecc : Option (Fin 65536)) (s : State) : ∃ t, execTake r ecc s = .next t ∧ Kept s t := by
  refine ⟨_, rfl, ?_⟩
  repeat' (with_reducible first | exact Kept.refl _ | exact kept_id _ | apply kept_issue | apply kept_trap | apply kept_trigger | apply kept_advance | apply kept_operate | apply kept_ite | apply kept_ite_fst | apply kept_cond | apply kept_foldOver | apply kept_foldOver_fst | intro _ | refine kept_of_fst ‹_ = (_, _)› ?_ | simp only [kept_mk_iff] | split)

theorem kept_execXset (r : Fin 16) (s : State) : ∃ t, execXset r s = .next t ∧ Kept s t := by
  refine ⟨_, rfl, ?_⟩
  repeat' (with_reducible first | exact Kept.refl _ | exact kept_id _ | apply kept_issue | apply kept_stage | apply kept_ite | apply kept_ite_fst | apply kept_cond | apply kept_foldOver | apply kept_foldOver_fst | intro _ | refine kept_of_fst ‹_ = (_, _)› ?_ | simp only [kept_mk_iff] | split)

theorem kept_execAmap (r : Fin 16) (s : State) : ∃ t, execAmap r s = .next t ∧ Kept s t := by
  refine ⟨_, rfl, ?_⟩
  repeat' (with_reducible first | exact Kept.refl _ | exact kept_id _ | apply kept_issue | apply kept_stage | apply kept_ite | apply kept_ite_fst | apply kept_cond | apply kept_foldOver | apply kept_foldOver_fst | intro _ | refine kept_of_fst ‹_ = (_, _)› ?_ | simp only [kept_mk_iff] | split)

theorem kept_execSlotm (r : Fin 16) (s : State) : ∃ t, execSlotm r s = .next t ∧ Kept s t := by
  refine ⟨_, rfl, ?_⟩
  repeat' (with_reducible first | exact Kept.refl _ | exact kept_id _ | apply kept_issue | apply kept_stage | apply kept_ite | apply kept_ite_fst | apply kept_cond | apply kept_foldOver | apply kept_foldOver_fst | intro _ | refine kept_of_fst ‹_ = (_, _)› ?_ | simp only [kept_mk_iff] | split)

theorem kept_execCommit (r : Fin 16) (s : State) : ∃ t, execCommit r s = .next t ∧ Kept s t := by
  refine ⟨_, rfl, ?_⟩
  repeat' (with_reducible first | exact Kept.refl _ | exact kept_id _ | apply kept_issue | apply kept_setRckH | apply kept_showRck | apply kept_advance | apply kept_commitEmpty | apply kept_operate | apply kept_ite | apply kept_ite_fst | apply kept_cond | apply kept_foldOver | apply kept_foldOver_fst | intro _ | refine kept_of_fst ‹_ = (_, _)› ?_ | simp only [kept_mk_iff] | split)

theorem kept_execFade (r : Fin 16) (s : State) : ∃ t, execFade r s = .next t ∧ Kept s t := by
  refine ⟨_, rfl, ?_⟩
  repeat' (with_reducible first | exact Kept.refl _ | exact kept_id _ | apply kept_issue | apply kept_wr | apply kept_retire | apply kept_ite | apply kept_ite_fst | apply kept_cond | apply kept_foldOver | apply kept_foldOver_fst | intro _ | refine kept_of_fst ‹_ = (_, _)› ?_ | simp only [kept_mk_iff] | split)

theorem kept_execFencew (r : Fin 16) (s : State) : ∃ t, execFencew r s = .next t ∧ Kept s t := by
  refine ⟨_, rfl, ?_⟩
  repeat' (with_reducible first | exact Kept.refl _ | exact kept_id _ | apply kept_issue | apply kept_retire | apply kept_startWait | apply kept_ite | apply kept_ite_fst | apply kept_cond | apply kept_foldOver | apply kept_foldOver_fst | intro _ | refine kept_of_fst ‹_ = (_, _)› ?_ | simp only [kept_mk_iff] | split)

theorem kept_execFencewComplete (r : Fin 16) (s : State) : ∃ t, execFencewComplete r s = .next t ∧ Kept s t := by
  refine ⟨_, rfl, ?_⟩
  repeat' (with_reducible first | exact Kept.refl _ | exact kept_id _ | apply kept_resumeAt | apply kept_ite | apply kept_ite_fst | apply kept_cond | apply kept_foldOver | apply kept_foldOver_fst | intro _ | refine kept_of_fst ‹_ = (_, _)› ?_ | simp only [kept_mk_iff] | split)

theorem kept_execFences (r : Fin 16) (s : State) : ∃ t, execFences r s = .next t ∧ Kept s t := by
  refine ⟨_, rfl, ?_⟩
  repeat' (with_reducible first | exact Kept.refl _ | exact kept_id _ | apply kept_issue | apply kept_writeFence | apply kept_effect | apply kept_retire | apply kept_ite | apply kept_ite_fst | apply kept_cond | apply kept_foldOver | apply kept_foldOver_fst | intro _ | refine kept_of_fst ‹_ = (_, _)› ?_ | simp only [kept_mk_iff] | split)

theorem kept_execGpo (r : Fin 16) (s : State) : ∃ t, execGpo r s = .next t ∧ Kept s t := by
  refine ⟨_, rfl, ?_⟩
  repeat' (with_reducible first | exact Kept.refl _ | exact kept_id _ | apply kept_issue | apply kept_driveGpo | apply kept_effect | apply kept_retire | apply kept_ite | apply kept_ite_fst | apply kept_cond | apply kept_foldOver | apply kept_foldOver_fst | intro _ | refine kept_of_fst ‹_ = (_, _)› ?_ | simp only [kept_mk_iff] | split)

end Sys2Proof.Machine
end

