-- ==== Sys2Proof/Laws/KeptTiming.lean ====
section
/-! SUPPORT. What the operations of Machine/Timing.lean keep. -/

set_option linter.unusedTactic false
set_option linter.unreachableTactic false
set_option linter.unusedSimpArgs false

namespace Sys2Proof.Machine

theorem kept_clearWindows {s₀ : State} (p : Nat) (s : State)  (hk : Kept s₀ s) : Kept s₀ (State.clearWindows p s) := by
  refine Kept.trans hk ?_
  simp only [State.clearWindows]
  repeat' (with_reducible first | exact Kept.refl _ | exact kept_id _ | apply kept_forL | apply kept_setInH | apply kept_ite | apply kept_ite_fst | apply kept_cond | apply kept_foldOver | apply kept_foldOver_fst | intro _ | refine kept_of_fst ‹_ = (_, _)› ?_ | simp only [kept_mk_iff] | split)

theorem kept_planDivides {s₀ : State} (p t : Nat) (s : State)  (hk : Kept s₀ s) : Kept s₀ (State.planDivides p t s) := by
  refine Kept.trans hk ?_
  simp only [State.planDivides]
  repeat' (with_reducible first | exact Kept.refl _ | exact kept_id _ | apply kept_startDivider | apply kept_ite | apply kept_ite_fst | apply kept_cond | apply kept_foldOver | apply kept_foldOver_fst | intro _ | refine kept_of_fst ‹_ = (_, _)› ?_ | simp only [kept_mk_iff] | split)

theorem kept_beginTiming {s₀ : State} (p t k : Nat) (st : StagedH) (s : State)  (hk : Kept s₀ s) : Kept s₀ (State.beginTiming p t k st s) := by
  refine Kept.trans hk ?_
  simp only [State.beginTiming]
  repeat' (with_reducible first | exact Kept.refl _ | exact kept_id _ | apply kept_setPlanH | apply kept_wr | apply kept_swapSynth | apply kept_planDivides | apply kept_clearWindows | apply kept_updateFreqOnly | apply kept_retimeHeads | apply kept_retime | apply kept_ite | apply kept_ite_fst | apply kept_cond | apply kept_foldOver | apply kept_foldOver_fst | intro _ | refine kept_of_fst ‹_ = (_, _)› ?_ | simp only [kept_mk_iff] | split)

theorem kept_execNewTiming (p : Fin 8) (s : State) : ∃ t, execNewTiming p s = .next t ∧ Kept s t := by
  refine ⟨_, rfl, ?_⟩
  repeat' (with_reducible first | exact Kept.refl _ | exact kept_id _ | apply kept_beginTiming | apply kept_ite | apply kept_ite_fst | apply kept_cond | apply kept_foldOver | apply kept_foldOver_fst | intro _ | refine kept_of_fst ‹_ = (_, _)› ?_ | simp only [kept_mk_iff] | split)

theorem kept_execPlanStart (p : Fin 8) (s : State) : ∃ t, execPlanStart p s = .next t ∧ Kept s t := by
  refine ⟨_, rfl, ?_⟩
  repeat' (with_reducible first | exact Kept.refl _ | exact kept_id _ | apply kept_setPlanH | apply kept_swapSynth | apply kept_planDivides | apply kept_wr | apply kept_updateFreqOnly | apply kept_planStartHeads | apply kept_ite | apply kept_ite_fst | apply kept_cond | apply kept_foldOver | apply kept_foldOver_fst | intro _ | refine kept_of_fst ‹_ = (_, _)› ?_ | simp only [kept_mk_iff] | split)

theorem kept_execPlanStop (p : Fin 8) (s : State) : ∃ t, execPlanStop p s = .next t ∧ Kept s t := by
  refine ⟨_, rfl, ?_⟩
  repeat' (with_reducible first | exact Kept.refl _ | exact kept_id _ | apply kept_discardWhere | apply kept_planStopHeads | apply kept_forL | apply kept_endFrame | apply kept_setPlanH | apply kept_wr | apply kept_updateFreqOnly | apply kept_ite | apply kept_ite_fst | apply kept_cond | apply kept_foldOver | apply kept_foldOver_fst | intro _ | refine kept_of_fst ‹_ = (_, _)› ?_ | simp only [kept_mk_iff] | split)

theorem kept_execPlanSynthUnlock (k : Fin 10) (s : State) : ∃ t, execPlanSynthUnlock k s = .next t ∧ Kept s t := by
  refine ⟨_, rfl, ?_⟩
  repeat' (with_reducible first | exact Kept.refl _ | exact kept_id _ | apply kept_synUnlock | apply kept_setSynH | apply kept_setPlanH | apply kept_forL | apply kept_cutOutput | apply kept_settlePool | apply kept_restoreClock | apply kept_ite | apply kept_ite_fst | apply kept_cond | apply kept_foldOver | apply kept_foldOver_fst | intro _ | refine kept_of_fst ‹_ = (_, _)› ?_ | simp only [kept_mk_iff] | split)

theorem kept_execAdmissionRequest (cls : Fin 5) (id : Fin 4608) (sub : Fin 9) (s : State) : ∃ t, execAdmissionRequest cls id sub s = .next t ∧ Kept s t := by
  refine ⟨_, rfl, ?_⟩
  repeat' (with_reducible first | exact Kept.refl _ | exact kept_id _ | apply kept_askCellar | apply kept_assignRead | apply kept_askLoad | apply kept_askSkim | apply kept_askCharge | apply kept_ite | apply kept_ite_fst | apply kept_cond | apply kept_foldOver | apply kept_foldOver_fst | intro _ | refine kept_of_fst ‹_ = (_, _)› ?_ | simp only [kept_mk_iff] | split)

theorem kept_execAdmissionWithdraw (cls : Fin 5) (id : Fin 4608) (sub : Fin 9) (s : State) : ∃ t, execAdmissionWithdraw cls id sub s = .next t ∧ Kept s t := by
  refine ⟨_, rfl, ?_⟩
  repeat' (with_reducible first | exact Kept.refl _ | exact kept_id _ | apply kept_releaseIdleRead | apply kept_withdrawLoad | apply kept_freeCopies | apply kept_lowerCharge | apply kept_ite | apply kept_ite_fst | apply kept_cond | apply kept_foldOver | apply kept_foldOver_fst | intro _ | refine kept_of_fst ‹_ = (_, _)› ?_ | simp only [kept_mk_iff] | split)

end Sys2Proof.Machine
end

