-- ==== Sys2Proof/Laws/KeptTrellis.lean ====
section
/-! SUPPORT. What the operations of Machine/Trellis.lean keep. -/

set_option linter.unusedTactic false
set_option linter.unreachableTactic false
set_option linter.unusedSimpArgs false

namespace Sys2Proof.Machine

theorem kept_stopTx {s₀ : State} (n : Nat) (clock : Bool) (s : State)  (hk : Kept s₀ s) : Kept s₀ (State.stopTx n clock s) := by
  refine Kept.trans hk ?_
  simp only [State.stopTx]
  repeat' (with_reducible first | exact Kept.refl _ | exact kept_id _ | apply kept_emit | apply kept_wr | apply kept_ite | apply kept_ite_fst | apply kept_cond | apply kept_foldOver | apply kept_foldOver_fst | intro _ | refine kept_of_fst ‹_ = (_, _)› ?_ | simp only [kept_mk_iff] | split)

theorem kept_execTxActivate (n : Fin 37) (s : State) : ∃ t, execTxActivate n s = .next t ∧ Kept s t := by
  refine ⟨_, rfl, ?_⟩
  repeat' (with_reducible first | exact Kept.refl _ | exact kept_id _ | apply kept_setTrlH | apply kept_wr | apply kept_restartFraming | apply kept_applyFfe | apply kept_ite | apply kept_ite_fst | apply kept_cond | apply kept_foldOver | apply kept_foldOver_fst | intro _ | refine kept_of_fst ‹_ = (_, _)› ?_ | simp only [kept_mk_iff] | split)

theorem kept_execTxDeactivate (n : Fin 37) (s : State) : ∃ t, execTxDeactivate n s = .next t ∧ Kept s t := by
  refine ⟨_, rfl, ?_⟩
  repeat' (with_reducible first | exact Kept.refl _ | exact kept_id _ | apply kept_stopTx | apply kept_ite | apply kept_ite_fst | apply kept_cond | apply kept_foldOver | apply kept_foldOver_fst | intro _ | refine kept_of_fst ‹_ = (_, _)› ?_ | simp only [kept_mk_iff] | split)

theorem kept_execPresetApply (n : Fin 37) (rx : Bool) (s : State) : ∃ t, execPresetApply n rx s = .next t ∧ Kept s t := by
  refine ⟨_, rfl, ?_⟩
  repeat' (with_reducible first | exact Kept.refl _ | exact kept_id _ | apply kept_setTrlH | apply kept_when | apply kept_applyFfe | apply kept_ite | apply kept_ite_fst | apply kept_cond | apply kept_foldOver | apply kept_foldOver_fst | intro _ | refine kept_of_fst ‹_ = (_, _)› ?_ | simp only [kept_mk_iff] | split)

theorem kept_setRx {s₀ : State} (n st : Nat) (s : State)  (hk : Kept s₀ s) : Kept s₀ (State.setRx n st s) := by
  refine Kept.trans hk ?_
  simp only [State.setRx]
  repeat' (with_reducible first | exact Kept.refl _ | exact kept_id _ | apply kept_wr | apply kept_setTrlH | apply kept_ite | apply kept_ite_fst | apply kept_cond | apply kept_foldOver | apply kept_foldOver_fst | intro _ | refine kept_of_fst ‹_ = (_, _)› ?_ | simp only [kept_mk_iff] | split)

theorem kept_rxRetry {s₀ : State} (n st : Nat) (s : State)  (hk : Kept s₀ s) : Kept s₀ (State.rxRetry n st s) := by
  refine Kept.trans hk ?_
  simp only [State.rxRetry]
  repeat' (with_reducible first | exact Kept.refl _ | exact kept_id _ | apply kept_setRx | apply kept_bump | apply kept_ite | apply kept_ite_fst | apply kept_cond | apply kept_foldOver | apply kept_foldOver_fst | intro _ | refine kept_of_fst ‹_ = (_, _)› ?_ | simp only [kept_mk_iff] | split)

theorem kept_execFclkDetected (n : Fin 37) (s : State) : ∃ t, execFclkDetected n s = .next t ∧ Kept s t := by
  refine ⟨_, rfl, ?_⟩
  repeat' (with_reducible first | exact Kept.refl _ | exact kept_id _ | apply kept_wr | apply kept_setRx | apply kept_ite | apply kept_ite_fst | apply kept_cond | apply kept_foldOver | apply kept_foldOver_fst | intro _ | refine kept_of_fst ‹_ = (_, _)› ?_ | simp only [kept_mk_iff] | split)

theorem kept_execDllLocked (n : Fin 37) (s : State) : ∃ t, execDllLocked n s = .next t ∧ Kept s t := by
  refine ⟨_, rfl, ?_⟩
  repeat' (with_reducible first | exact Kept.refl _ | exact kept_id _ | apply kept_setRx | apply kept_ite | apply kept_ite_fst | apply kept_cond | apply kept_foldOver | apply kept_foldOver_fst | intro _ | refine kept_of_fst ‹_ = (_, _)› ?_ | simp only [kept_mk_iff] | split)

theorem kept_execDllLockTimeout (n : Fin 37) (s : State) : ∃ t, execDllLockTimeout n s = .next t ∧ Kept s t := by
  refine ⟨_, rfl, ?_⟩
  repeat' (with_reducible first | exact Kept.refl _ | exact kept_id _ | apply kept_rxRetry | apply kept_ite | apply kept_ite_fst | apply kept_cond | apply kept_foldOver | apply kept_foldOver_fst | intro _ | refine kept_of_fst ‹_ = (_, _)› ?_ | simp only [kept_mk_iff] | split)

theorem kept_execPhaseSettled (n : Fin 37) (phases : List (Fin 64)) (s : State) : ∃ t, execPhaseSettled n phases s = .next t ∧ Kept s t := by
  refine ⟨_, rfl, ?_⟩
  repeat' (with_reducible first | exact Kept.refl _ | exact kept_id _ | apply kept_forN | apply kept_wr | apply kept_setLaneH | apply kept_setRx | apply kept_ite | apply kept_ite_fst | apply kept_cond | apply kept_foldOver | apply kept_foldOver_fst | intro _ | refine kept_of_fst ‹_ = (_, _)› ?_ | simp only [kept_mk_iff] | split)

theorem kept_execPhaseSweepTimeout (n : Fin 37) (s : State) : ∃ t, execPhaseSweepTimeout n s = .next t ∧ Kept s t := by
  refine ⟨_, rfl, ?_⟩
  repeat' (with_reducible first | exact Kept.refl _ | exact kept_id _ | apply kept_setRx | apply kept_ite | apply kept_ite_fst | apply kept_cond | apply kept_foldOver | apply kept_foldOver_fst | intro _ | refine kept_of_fst ‹_ = (_, _)› ?_ | simp only [kept_mk_iff] | split)

theorem kept_execCommaAligned (n : Fin 37) (s : State) : ∃ t, execCommaAligned n s = .next t ∧ Kept s t := by
  refine ⟨_, rfl, ?_⟩
  repeat' (with_reducible first | exact Kept.refl _ | exact kept_id _ | apply kept_setRx | apply kept_ite | apply kept_ite_fst | apply kept_cond | apply kept_foldOver | apply kept_foldOver_fst | intro _ | refine kept_of_fst ‹_ = (_, _)› ?_ | simp only [kept_mk_iff] | split)

theorem kept_execAlignTimeout (n : Fin 37) (s : State) : ∃ t, execAlignTimeout n s = .next t ∧ Kept s t := by
  refine ⟨_, rfl, ?_⟩
  repeat' (with_reducible first | exact Kept.refl _ | exact kept_id _ | apply kept_rxRetry | apply kept_ite | apply kept_ite_fst | apply kept_cond | apply kept_foldOver | apply kept_foldOver_fst | intro _ | refine kept_of_fst ‹_ = (_, _)› ?_ | simp only [kept_mk_iff] | split)

theorem kept_showLanes {s₀ : State} (n : Nat) (ids skews : List Nat) (s : State)  (hk : Kept s₀ s) : Kept s₀ (State.showLanes n ids skews s) := by
  refine Kept.trans hk ?_
  simp only [State.showLanes]
  repeat' (with_reducible first | exact Kept.refl _ | exact kept_id _ | apply kept_forN | apply kept_wr | apply kept_ite | apply kept_ite_fst | apply kept_cond | apply kept_foldOver | apply kept_foldOver_fst | intro _ | refine kept_of_fst ‹_ = (_, _)› ?_ | simp only [kept_mk_iff] | split)

theorem kept_milestone {s₀ : State} (k : Nat) (s : State)  (hk : Kept s₀ s) : Kept s₀ (State.milestone k s) := by
  refine Kept.trans hk ?_
  simp only [State.milestone]
  repeat' (with_reducible first | exact Kept.refl _ | exact kept_id _ | apply kept_wr | apply kept_ite | apply kept_ite_fst | apply kept_cond | apply kept_foldOver | apply kept_foldOver_fst | intro _ | refine kept_of_fst ‹_ = (_, _)› ?_ | simp only [kept_mk_iff] | split)

theorem kept_checkAligned {s₀ : State} (s : State)  (hk : Kept s₀ s) : Kept s₀ (State.checkAligned s) := by
  refine Kept.trans hk ?_
  simp only [State.checkAligned]
  repeat' (with_reducible first | exact Kept.refl _ | exact kept_id _ | apply kept_milestone | apply kept_ite | apply kept_ite_fst | apply kept_cond | apply kept_foldOver | apply kept_foldOver_fst | intro _ | refine kept_of_fst ‹_ = (_, _)› ?_ | simp only [kept_mk_iff] | split)

theorem kept_followLock {s₀ : State} (n l : Nat) (s : State)  (hk : Kept s₀ s) : Kept s₀ (State.followLock n l s) := by
  refine Kept.trans hk ?_
  simp only [State.followLock]
  repeat' (with_reducible first | exact Kept.refl _ | exact kept_id _ | apply kept_wr | apply kept_ite | apply kept_ite_fst | apply kept_cond | apply kept_foldOver | apply kept_foldOver_fst | intro _ | refine kept_of_fst ‹_ = (_, _)› ?_ | simp only [kept_mk_iff] | split)

theorem kept_execDeskewDone (n : Fin 37) (ids : List (Fin 8)) (skews : List (Fin 257)) (last : List (Fin 4)) (s : State) : ∃ t, execDeskewDone n ids skews last s = .next t ∧ Kept s t := by
  refine ⟨_, rfl, ?_⟩
  repeat' (with_reducible first | exact Kept.refl _ | exact kept_id _ | apply kept_showLanes | apply kept_forN | apply kept_wr | apply kept_setLaneH | apply kept_draw | apply kept_setRx | apply kept_setTrlH | apply kept_followLock | apply kept_ptpCheck | apply kept_checkAligned | apply kept_ite | apply kept_ite_fst | apply kept_cond | apply kept_foldOver | apply kept_foldOver_fst | intro _ | refine kept_of_fst ‹_ = (_, _)› ?_ | simp only [kept_mk_iff] | split)

theorem kept_execDeskewTimeout (n : Fin 37) (ids : List (Fin 8)) (skews : List Nat) (s : State) : ∃ t, execDeskewTimeout n ids skews s = .next t ∧ Kept s t := by
  refine ⟨_, rfl, ?_⟩
  repeat' (with_reducible first | exact Kept.refl _ | exact kept_id _ | apply kept_showLanes | apply kept_raise | apply kept_rxRetry | apply kept_ite | apply kept_ite_fst | apply kept_cond | apply kept_foldOver | apply kept_foldOver_fst | intro _ | refine kept_of_fst ‹_ = (_, _)› ?_ | simp only [kept_mk_iff] | split)

theorem kept_framingLost {s₀ : State} (n : Nat) (s : State)  (hk : Kept s₀ s) : Kept s₀ (State.framingLost n s) := by
  refine Kept.trans hk ?_
  simp only [State.framingLost]
  repeat' (with_reducible first | exact Kept.refl _ | exact kept_id _ | apply kept_mirrorDown | apply kept_setCtnH | apply kept_wr | apply kept_inputsAbsent | apply kept_forL | apply kept_loseSource | apply kept_pktLoss | apply kept_trunkLost | apply kept_ite | apply kept_ite_fst | apply kept_cond | apply kept_foldOver | apply kept_foldOver_fst | intro _ | refine kept_of_fst ‹_ = (_, _)› ?_ | simp only [kept_mk_iff] | split)

theorem kept_leaveUp {s₀ : State} (n st : Nat) (s : State)  (hk : Kept s₀ s) : Kept s₀ (State.leaveUp n st s) := by
  refine Kept.trans hk ?_
  simp only [State.leaveUp]
  repeat' (with_reducible first | exact Kept.refl _ | exact kept_id _ | apply kept_setRx | apply kept_wr | apply kept_setTrlH | apply kept_setCtnH | apply kept_forN | apply kept_framingLost | apply kept_ptpCheck | apply kept_ite | apply kept_ite_fst | apply kept_cond | apply kept_foldOver | apply kept_foldOver_fst | intro _ | refine kept_of_fst ‹_ = (_, _)› ?_ | simp only [kept_mk_iff] | split)

theorem kept_rxLoss {s₀ : State} (n : Nat) (more : State → State) (s : State) (hmore : ∀ u, Kept u (more u)) (hk : Kept s₀ s) : Kept s₀ (State.rxLoss n more s) := by
  refine Kept.trans hk ?_
  simp only [State.rxLoss]
  repeat' (with_reducible first | exact Kept.refl _ | exact kept_id _ | apply kept_raise | apply kept_bump | apply kept_leaveUp | refine Kept.trans ?_ (hmore ..) | apply kept_ite | apply kept_ite_fst | apply kept_cond | apply kept_foldOver | apply kept_foldOver_fst | intro _ | refine kept_of_fst ‹_ = (_, _)› ?_ | simp only [kept_mk_iff] | split)

theorem kept_partnerGone {s₀ : State} (s : State)  (hk : Kept s₀ s) : Kept s₀ (State.partnerGone s) := by
  refine Kept.trans hk ?_
  simp only [State.partnerGone]
  repeat' (with_reducible first | exact Kept.refl _ | exact kept_id _ | apply kept_checkAligned | apply kept_ite | apply kept_ite_fst | apply kept_cond | apply kept_foldOver | apply kept_foldOver_fst | intro _ | refine kept_of_fst ‹_ = (_, _)› ?_ | simp only [kept_mk_iff] | split)

theorem kept_execFclkStop (n : Fin 37) (s : State) : ∃ t, execFclkStop n s = .next t ∧ Kept s t := by
  refine ⟨_, rfl, ?_⟩
  repeat' (with_reducible first | exact Kept.refl _ | exact kept_id _ | apply kept_wr | apply kept_rxLoss | apply kept_partnerGone | apply kept_ite | apply kept_ite_fst | apply kept_cond | apply kept_foldOver | apply kept_foldOver_fst | intro _ | refine kept_of_fst ‹_ = (_, _)› ?_ | simp only [kept_mk_iff] | split)

theorem kept_execDllLossOfLock (n : Fin 37) (s : State) : ∃ t, execDllLossOfLock n s = .next t ∧ Kept s t := by
  refine ⟨_, rfl, ?_⟩
  repeat' (with_reducible first | exact Kept.refl _ | exact kept_id _ | apply kept_rxLoss | apply kept_ite | apply kept_ite_fst | apply kept_cond | apply kept_foldOver | apply kept_foldOver_fst | intro _ | refine kept_of_fst ‹_ = (_, _)› ?_ | simp only [kept_mk_iff] | split)

theorem kept_execFclkFreqError (n : Fin 37) (s : State) : ∃ t, execFclkFreqError n s = .next t ∧ Kept s t := by
  refine ⟨_, rfl, ?_⟩
  repeat' (with_reducible first | exact Kept.refl _ | exact kept_id _ | apply kept_wr | apply kept_rxLoss | apply kept_raise | apply kept_partnerGone | apply kept_ite | apply kept_ite_fst | apply kept_cond | apply kept_foldOver | apply kept_foldOver_fst | intro _ | refine kept_of_fst ‹_ = (_, _)› ?_ | simp only [kept_mk_iff] | split)

theorem kept_execLaneOffReceived (n : Fin 37) (s : State) : ∃ t, execLaneOffReceived n s = .next t ∧ Kept s t := by
  refine ⟨_, rfl, ?_⟩
  repeat' (with_reducible first | exact Kept.refl _ | exact kept_id _ | apply kept_rxLoss | apply kept_raise | apply kept_ite | apply kept_ite_fst | apply kept_cond | apply kept_foldOver | apply kept_foldOver_fst | intro _ | refine kept_of_fst ‹_ = (_, _)› ?_ | simp only [kept_mk_iff] | split)

theorem kept_execCommaMissed (n : Fin 37) (s : State) : ∃ t, execCommaMissed n s = .next t ∧ Kept s t := by
  refine ⟨_, rfl, ?_⟩
  repeat' (with_reducible first | exact Kept.refl _ | exact kept_id _ | apply kept_rxLoss | apply kept_ite | apply kept_ite_fst | apply kept_cond | apply kept_foldOver | apply kept_foldOver_fst | intro _ | refine kept_of_fst ‹_ = (_, _)› ?_ | simp only [kept_mk_iff] | split)

theorem kept_trellisOff {s₀ : State} (n : Nat) (clock : Bool) (s : State)  (hk : Kept s₀ s) : Kept s₀ (State.trellisOff n clock s) := by
  refine Kept.trans hk ?_
  simp only [State.trellisOff]
  repeat' (with_reducible first | exact Kept.refl _ | exact kept_id _ | apply kept_stopTx | apply kept_wr | apply kept_leaveUp | apply kept_setRx | apply kept_ite | apply kept_ite_fst | apply kept_cond | apply kept_foldOver | apply kept_foldOver_fst | intro _ | refine kept_of_fst ‹_ = (_, _)› ?_ | simp only [kept_mk_iff] | split)

theorem kept_trellisOn {s₀ : State} (n : Nat) (s : State)  (hk : Kept s₀ s) : Kept s₀ (State.trellisOn n s) := by
  refine Kept.trans hk ?_
  simp only [State.trellisOn]
  repeat' (with_reducible first | exact Kept.refl _ | exact kept_id _ | apply kept_setRx | apply kept_ite | apply kept_ite_fst | apply kept_cond | apply kept_foldOver | apply kept_foldOver_fst | intro _ | refine kept_of_fst ‹_ = (_, _)› ?_ | simp only [kept_mk_iff] | split)

theorem kept_execLanePllUnlock (n : Fin 37) (s : State) : ∃ t, execLanePllUnlock n s = .next t ∧ Kept s t := by
  refine ⟨_, rfl, ?_⟩
  repeat' (with_reducible first | exact Kept.refl _ | exact kept_id _ | apply kept_synUnlock | apply kept_setReady | apply kept_trellisOff | apply kept_ite | apply kept_ite_fst | apply kept_cond | apply kept_foldOver | apply kept_foldOver_fst | intro _ | refine kept_of_fst ‹_ = (_, _)› ?_ | simp only [kept_mk_iff] | split)

theorem kept_execAdaptStep (n : Fin 37) (l : Fin 8) (q : Fin 8) (up : Bool) (s : State) : ∃ t, execAdaptStep n l q up s = .next t ∧ Kept s t := by
  refine ⟨_, rfl, ?_⟩
  repeat' (with_reducible first | exact Kept.refl _ | exact kept_id _ | apply kept_setLaneH | apply kept_wr | apply kept_setTrlH | apply kept_ite | apply kept_ite_fst | apply kept_cond | apply kept_foldOver | apply kept_foldOver_fst | intro _ | refine kept_of_fst ‹_ = (_, _)› ?_ | simp only [kept_mk_iff] | split)

theorem kept_measureLane {s₀ : State} (n l : Nat) (s : State)  (hk : Kept s₀ s) : Kept s₀ (State.measureLane n l s) := by
  refine Kept.trans hk ?_
  simp only [State.measureLane]
  repeat' (with_reducible first | exact Kept.refl _ | exact kept_id _ | apply kept_wr | apply kept_draw | apply kept_ite | apply kept_ite_fst | apply kept_cond | apply kept_foldOver | apply kept_foldOver_fst | intro _ | refine kept_of_fst ‹_ = (_, _)› ?_ | simp only [kept_mk_iff] | split)

theorem kept_modeWrite {s₀ : State} (n v : Nat) (s : State)  (hk : Kept s₀ s) : Kept s₀ (State.modeWrite n v s) := by
  refine Kept.trans hk ?_
  simp only [State.modeWrite]
  repeat' (with_reducible first | exact Kept.refl _ | exact kept_id _ | apply kept_raise | apply kept_wr | apply kept_ite | apply kept_ite_fst | apply kept_cond | apply kept_foldOver | apply kept_foldOver_fst | intro _ | refine kept_of_fst ‹_ = (_, _)› ?_ | simp only [kept_mk_iff] | split)

theorem kept_dropFeeds {s₀ : State} (n : Nat) (s : State)  (hk : Kept s₀ s) : Kept s₀ (State.dropFeeds n s) := by
  refine Kept.trans hk ?_
  simp only [State.dropFeeds]
  repeat' (with_reducible first | exact Kept.refl _ | exact kept_id _ | apply kept_ite | apply kept_ite_fst | apply kept_cond | apply kept_foldOver | apply kept_foldOver_fst | intro _ | refine kept_of_fst ‹_ = (_, _)› ?_ | simp only [kept_mk_iff] | split)

theorem kept_applyTrans {s₀ : State} (n : Nat) (s : State)  (hk : Kept s₀ s) : Kept s₀ (State.applyTrans n s) := by
  refine Kept.trans hk ?_
  simp only [State.applyTrans]
  repeat' (with_reducible first | exact Kept.refl _ | exact kept_id _ | apply kept_setCtnH | apply kept_forL | apply kept_withdrawInput | apply kept_askCellar | apply kept_askSkim | apply kept_updateMode | apply kept_refRecheck | apply kept_ite | apply kept_ite_fst | apply kept_cond | apply kept_foldOver | apply kept_foldOver_fst | intro _ | refine kept_of_fst ‹_ = (_, _)› ?_ | simp only [kept_mk_iff] | split)

theorem kept_changeMode {s₀ : State} (n m : Nat) (s : State)  (hk : Kept s₀ s) : Kept s₀ (State.changeMode n m s) := by
  refine Kept.trans hk ?_
  simp only [State.changeMode]
  repeat' (with_reducible first | exact Kept.refl _ | exact kept_id _ | apply kept_framingLost | apply kept_pktLeave | apply kept_dropFeeds | apply kept_setTrlH | apply kept_setCtnH | apply kept_applyTrans | apply kept_forN | apply kept_forL | apply kept_withdrawInput | apply kept_coverInput | apply kept_setWord | apply kept_slipFrame | apply kept_endFrame | apply kept_rxRecheck | apply kept_ptpCheck | apply kept_pushCheck | apply kept_trackReach | apply kept_ite | apply kept_ite_fst | apply kept_cond | apply kept_foldOver | apply kept_foldOver_fst | intro _ | refine kept_of_fst ‹_ = (_, _)› ?_ | simp only [kept_mk_iff] | split)

theorem kept_execTrellisModeChange (n : Fin 37) (s : State) : ∃ t, execTrellisModeChange n s = .next t ∧ Kept s t := by
  refine ⟨_, rfl, ?_⟩
  repeat' (with_reducible first | exact Kept.refl _ | exact kept_id _ | apply kept_when | apply kept_fillFrame | apply kept_changeMode | apply kept_ite | apply kept_ite_fst | apply kept_cond | apply kept_foldOver | apply kept_foldOver_fst | intro _ | refine kept_of_fst ‹_ = (_, _)› ?_ | simp only [kept_mk_iff] | split)

theorem kept_followPattern {s₀ : State} (n l : Nat) (was : Option Nat) (s : State)  (hk : Kept s₀ s) : Kept s₀ (State.followPattern n l was s) := by
  refine Kept.trans hk ?_
  simp only [State.followPattern]
  repeat' (with_reducible first | exact Kept.refl _ | exact kept_id _ | apply kept_setLaneH | apply kept_draw | apply kept_emit | apply kept_ite | apply kept_ite_fst | apply kept_cond | apply kept_foldOver | apply kept_foldOver_fst | intro _ | refine kept_of_fst ‹_ = (_, _)› ?_ | simp only [kept_mk_iff] | split)

theorem kept_reseed {s₀ : State} (n l : Nat) (s : State)  (hk : Kept s₀ s) : Kept s₀ (State.reseed n l s) := by
  refine Kept.trans hk ?_
  simp only [State.reseed]
  repeat' (with_reducible first | exact Kept.refl _ | exact kept_id _ | apply kept_setLaneH | apply kept_wr | apply kept_followLock | apply kept_ite | apply kept_ite_fst | apply kept_cond | apply kept_foldOver | apply kept_foldOver_fst | intro _ | refine kept_of_fst ‹_ = (_, _)› ?_ | simp only [kept_mk_iff] | split)

theorem kept_diagStart {s₀ : State} (s : State)  (hk : Kept s₀ s) : Kept s₀ (State.diagStart s) := by
  refine Kept.trans hk ?_
  simp only [State.diagStart]
  repeat' (with_reducible first | exact Kept.refl _ | exact kept_id _ | apply kept_forN | apply kept_when | apply kept_fillFrame | apply kept_reseed | apply kept_framingLost | apply kept_forL | apply kept_followPattern | apply kept_ite | apply kept_ite_fst | apply kept_cond | apply kept_foldOver | apply kept_foldOver_fst | intro _ | refine kept_of_fst ‹_ = (_, _)› ?_ | simp only [kept_mk_iff] | split)

theorem kept_inject {s₀ : State} (n l : Nat) (s : State)  (hk : Kept s₀ s) : Kept s₀ (State.inject n l s) := by
  refine Kept.trans hk ?_
  simp only [State.inject]
  repeat' (with_reducible first | exact Kept.refl _ | exact kept_id _ | apply kept_setLaneH | apply kept_ite | apply kept_ite_fst | apply kept_cond | apply kept_foldOver | apply kept_foldOver_fst | intro _ | refine kept_of_fst ‹_ = (_, _)› ?_ | simp only [kept_mk_iff] | split)

theorem kept_execCheckerLock (n : Fin 37) (l : Fin 8) (bits : List Nat) (s : State) : ∃ t, execCheckerLock n l bits s = .next t ∧ Kept s t := by
  refine ⟨_, rfl, ?_⟩
  repeat' (with_reducible first | exact Kept.refl _ | exact kept_id _ | apply kept_setLaneH | apply kept_countChecked | apply kept_wrB | apply kept_followLock | apply kept_ite | apply kept_ite_fst | apply kept_cond | apply kept_foldOver | apply kept_foldOver_fst | intro _ | refine kept_of_fst ‹_ = (_, _)› ?_ | simp only [kept_mk_iff] | split)

theorem kept_execCheckerLoseLock (n : Fin 37) (l : Fin 8) (bits errs recent : Nat) (s : State) : ∃ t, execCheckerLoseLock n l bits errs recent s = .next t ∧ Kept s t := by
  refine ⟨_, rfl, ?_⟩
  repeat' (with_reducible first | exact Kept.refl _ | exact kept_id _ | apply kept_countChecked | apply kept_reseed | apply kept_ite | apply kept_ite_fst | apply kept_cond | apply kept_foldOver | apply kept_foldOver_fst | intro _ | refine kept_of_fst ‹_ = (_, _)› ?_ | simp only [kept_mk_iff] | split)

theorem kept_readLane48 {s₀ : State} (n l : Nat) (errs : Bool) (s : State)  (hk : Kept s₀ s) : Kept s₀ (State.readLane48 n l errs s) := by
  refine Kept.trans hk ?_
  simp only [State.readLane48]
  repeat' (with_reducible first | exact Kept.refl _ | exact kept_id _ | apply kept_wr | apply kept_setLaneH | apply kept_ite | apply kept_ite_fst | apply kept_cond | apply kept_foldOver | apply kept_foldOver_fst | intro _ | refine kept_of_fst ‹_ = (_, _)› ?_ | simp only [kept_mk_iff] | split)

end Sys2Proof.Machine
end

