-- ==== Sys2Proof/Laws/KeptContainers.lean ====
section
/-! SUPPORT. What the operations of Machine/Containers.lean keep. -/

set_option linter.unusedTactic false
set_option linter.unreachableTactic false
set_option linter.unusedSimpArgs false

namespace Sys2Proof.Machine

theorem kept_comingLine {s₀ : State} (d j line : Nat) (s : State)  (hk : Kept s₀ s) : Kept s₀ (State.comingLine d j line s).1 := by
  refine Kept.trans hk ?_
  simp only [State.comingLine]
  repeat' (with_reducible first | exact Kept.refl _ | exact kept_id _ | apply kept_nextLine | apply kept_ite | apply kept_ite_fst | apply kept_cond | apply kept_foldOver | apply kept_foldOver_fst | intro _ | refine kept_of_fst ‹_ = (_, _)› ?_ | simp only [kept_mk_iff] | split)

theorem kept_serialiseArea {s₀ : State} (n : Nat) (e : AreaDue) (s : State)  (hk : Kept s₀ s) : Kept s₀ (State.serialiseArea n e s) := by
  refine Kept.trans hk ?_
  simp only [State.serialiseArea]
  repeat' (with_reducible first | exact Kept.refl _ | exact kept_id _ | apply kept_setOutH | apply kept_comingLine | apply kept_ite | apply kept_ite_fst | apply kept_cond | apply kept_foldOver | apply kept_foldOver_fst | intro _ | refine kept_of_fst ‹_ = (_, _)› ?_ | simp only [kept_mk_iff] | split)

theorem kept_serialise {s₀ : State} (n : Nat) (areas : List AreaDue) (s : State)  (hk : Kept s₀ s) : Kept s₀ (State.serialise n areas s) := by
  refine Kept.trans hk ?_
  simp only [State.serialise]
  repeat' (with_reducible first | exact Kept.refl _ | exact kept_id _ | apply kept_forL | apply kept_setOutH | apply kept_serialiseArea | apply kept_ite | apply kept_ite_fst | apply kept_cond | apply kept_foldOver | apply kept_foldOver_fst | intro _ | refine kept_of_fst ‹_ = (_, _)› ?_ | simp only [kept_mk_iff] | split)

theorem kept_serialised {s₀ : State} (n : Nat) (areas : List AreaDue) (s : State)  (hk : Kept s₀ s) : Kept s₀ (State.serialised n areas s) := by
  refine Kept.trans hk ?_
  simp only [State.serialised]
  repeat' (with_reducible first | exact Kept.refl _ | exact kept_id _ | apply kept_forL | apply kept_setOutH | apply kept_ite | apply kept_ite_fst | apply kept_cond | apply kept_foldOver | apply kept_foldOver_fst | intro _ | refine kept_of_fst ‹_ = (_, _)› ?_ | simp only [kept_mk_iff] | split)

theorem kept_hello {s₀ : State} (n : Nat) (s : State)  (hk : Kept s₀ s) : Kept s₀ (State.hello n s) := by
  refine Kept.trans hk ?_
  simp only [State.hello]
  repeat' (with_reducible first | exact Kept.refl _ | exact kept_id _ | apply kept_sendOn | apply kept_announce | apply kept_ite | apply kept_ite_fst | apply kept_cond | apply kept_foldOver | apply kept_foldOver_fst | intro _ | refine kept_of_fst ‹_ = (_, _)› ?_ | simp only [kept_mk_iff] | split)

theorem kept_receiveSymbols {s₀ : State} (n : Nat) (symbols : List (List Nat)) (s : State)  (hk : Kept s₀ s) : Kept s₀ (State.receiveSymbols n symbols s).1 := by
  refine Kept.trans hk ?_
  simp only [State.receiveSymbols]
  repeat' (with_reducible first | exact Kept.refl _ | exact kept_id _ | apply kept_forN | apply kept_runChecker | apply kept_receiveStream | apply kept_passGuard | apply kept_ite | apply kept_ite_fst | apply kept_cond | apply kept_foldOver | apply kept_foldOver_fst | intro _ | refine kept_of_fst ‹_ = (_, _)› ?_ | simp only [kept_mk_iff] | split)

theorem kept_execBlockSent (n : Fin 37) (due : List (Nat × Nat × Nat × Nat)) (s : State) : ∃ t, execBlockSent n due s = .next t ∧ Kept s t := by
  refine ⟨_, rfl, ?_⟩
  repeat' (with_reducible first | exact Kept.refl _ | exact kept_id _ | apply kept_sendDiag | apply kept_receiveSymbols | apply kept_emit | apply kept_serialise | apply kept_wr | apply kept_forN | apply kept_sendGroups | apply kept_setCtnH | apply kept_forL | apply kept_setOutH | apply kept_serialised | apply kept_hello | apply kept_ite | apply kept_ite_fst | apply kept_cond | apply kept_foldOver | apply kept_foldOver_fst | intro _ | refine kept_of_fst ‹_ = (_, _)› ?_ | simp only [kept_mk_iff] | split)

theorem kept_raiseCtn {s₀ : State} (n : Nat) (f : Field) (s : State)  (hk : Kept s₀ s) : Kept s₀ (State.raiseCtn n f s) := by
  refine Kept.trans hk ?_
  simp only [State.raiseCtn]
  repeat' (with_reducible first | exact Kept.refl _ | exact kept_id _ | apply kept_raise | apply kept_ite | apply kept_ite_fst | apply kept_cond | apply kept_foldOver | apply kept_foldOver_fst | intro _ | refine kept_of_fst ‹_ = (_, _)› ?_ | simp only [kept_mk_iff] | split)

theorem kept_damageLines {s₀ : State} (n : Nat) (lines : List (Nat × Nat)) (s : State)  (hk : Kept s₀ s) : Kept s₀ (State.damageLines n lines s) := by
  refine Kept.trans hk ?_
  simp only [State.damageLines]
  repeat' (with_reducible first | exact Kept.refl _ | exact kept_id _ | apply kept_forL | apply kept_bump | apply kept_setInH | apply kept_ite | apply kept_ite_fst | apply kept_cond | apply kept_foldOver | apply kept_foldOver_fst | intro _ | refine kept_of_fst ‹_ = (_, _)› ?_ | simp only [kept_mk_iff] | split)

theorem kept_slotAbsent {s₀ : State} (n k : Nat) (s : State)  (hk : Kept s₀ s) : Kept s₀ (State.slotAbsent n k s) := by
  refine Kept.trans hk ?_
  simp only [State.slotAbsent]
  repeat' (with_reducible first | exact Kept.refl _ | exact kept_id _ | apply kept_forL | apply kept_loseSource | apply kept_inputAbsent | apply kept_ite | apply kept_ite_fst | apply kept_cond | apply kept_foldOver | apply kept_foldOver_fst | intro _ | refine kept_of_fst ‹_ = (_, _)› ?_ | simp only [kept_mk_iff] | split)

theorem kept_takeMaps {s₀ : State} (n map gangs : Nat) (skews : List Nat) (s : State)  (hk : Kept s₀ s) : Kept s₀ (State.takeMaps n map gangs skews s) := by
  refine Kept.trans hk ?_
  simp only [State.takeMaps]
  repeat' (with_reducible first | exact Kept.refl _ | exact kept_id _ | apply kept_wr | apply kept_forN | apply kept_slotAbsent | apply kept_setCtnH | apply kept_raiseCtn | apply kept_setInCode | apply kept_ite | apply kept_ite_fst | apply kept_cond | apply kept_foldOver | apply kept_foldOver_fst | intro _ | refine kept_of_fst ‹_ = (_, _)› ?_ | simp only [kept_mk_iff] | split)

theorem kept_queueBits {s₀ : State} (d : Nat) (bits : List Bool) (start : Option Nat) (s : State)  (hk : Kept s₀ s) : Kept s₀ (State.queueBits d bits start s) := by
  refine Kept.trans hk ?_
  simp only [State.queueBits]
  repeat' (with_reducible first | exact Kept.refl _ | exact kept_id _ | apply kept_setOutH | apply kept_ite | apply kept_ite_fst | apply kept_cond | apply kept_foldOver | apply kept_foldOver_fst | intro _ | refine kept_of_fst ‹_ = (_, _)› ?_ | simp only [kept_mk_iff] | split)

theorem kept_passBits {s₀ : State} (n q : Nat) (bits : List Bool) (start : Option Nat) (s : State)  (hk : Kept s₀ s) : Kept s₀ (State.passBits n q bits start s) := by
  refine Kept.trans hk ?_
  simp only [State.passBits]
  repeat' (with_reducible first | exact Kept.refl _ | exact kept_id _ | apply kept_forL | apply kept_queueBits | apply kept_ite | apply kept_ite_fst | apply kept_cond | apply kept_foldOver | apply kept_foldOver_fst | intro _ | refine kept_of_fst ‹_ = (_, _)› ?_ | simp only [kept_mk_iff] | split)

theorem kept_readSerial {s₀ : State} (n : Nat) (words : List Nat) (s : State)  (hk : Kept s₀ s) : Kept s₀ (State.readSerial n words s) := by
  refine Kept.trans hk ?_
  simp only [State.readSerial]
  repeat' (with_reducible first | exact Kept.refl _ | exact kept_id _ | apply kept_forN | apply kept_passBits | apply kept_setInH | apply kept_bumpBy | apply kept_deembed | apply kept_lineArrives | apply kept_ite | apply kept_ite_fst | apply kept_cond | apply kept_foldOver | apply kept_foldOver_fst | intro _ | refine kept_of_fst ‹_ = (_, _)› ?_ | simp only [kept_mk_iff] | split)

theorem kept_takeBlock {s₀ : State} (n : Nat) (b : BlockIn) (skews : List Nat) (lines : List (Nat × Nat)) (s : State)  (hk : Kept s₀ s) : Kept s₀ (State.takeBlock n b skews lines s) := by
  refine Kept.trans hk ?_
  simp only [State.takeBlock]
  repeat' (with_reducible first | exact Kept.refl _ | exact kept_id _ | apply kept_setCtnH | apply kept_applyTrans | apply kept_wr | apply kept_takeMaps | apply kept_raiseCtn | apply kept_damageLines | apply kept_readSerial | apply kept_bumpBy | apply kept_ite | apply kept_ite_fst | apply kept_cond | apply kept_foldOver | apply kept_foldOver_fst | intro _ | refine kept_of_fst ‹_ = (_, _)› ?_ | simp only [kept_mk_iff] | split)

theorem kept_setFraming {s₀ : State} (n st : Nat) (s : State)  (hk : Kept s₀ s) : Kept s₀ (State.setFraming n st s) := by
  refine Kept.trans hk ?_
  simp only [State.setFraming]
  repeat' (with_reducible first | exact Kept.refl _ | exact kept_id _ | apply kept_setCtnH | apply kept_wr | apply kept_ite | apply kept_ite_fst | apply kept_cond | apply kept_foldOver | apply kept_foldOver_fst | intro _ | refine kept_of_fst ‹_ = (_, _)› ?_ | simp only [kept_mk_iff] | split)

theorem kept_headerError {s₀ : State} (n : Nat) (s : State)  (hk : Kept s₀ s) : Kept s₀ (State.headerError n s) := by
  refine Kept.trans hk ?_
  simp only [State.headerError]
  repeat' (with_reducible first | exact Kept.refl _ | exact kept_id _ | apply kept_bump | apply kept_raise | apply kept_ite | apply kept_ite_fst | apply kept_cond | apply kept_foldOver | apply kept_foldOver_fst | intro _ | refine kept_of_fst ‹_ = (_, _)› ?_ | simp only [kept_mk_iff] | split)

theorem kept_frameBlock {s₀ : State} (n : Nat) (b : BlockIn) (skews : List Nat) (lines : List (Nat × Nat)) (s : State)  (hk : Kept s₀ s) : Kept s₀ (State.frameBlock n b skews lines s) := by
  refine Kept.trans hk ?_
  simp only [State.frameBlock]
  repeat' (with_reducible first | exact Kept.refl _ | exact kept_id _ | apply kept_setFraming | apply kept_headerError | apply kept_setCtnH | apply kept_takeBlock | apply kept_trunkLocked | apply kept_raiseCtn | apply kept_damageLines | apply kept_framingLost | apply kept_ite | apply kept_ite_fst | apply kept_cond | apply kept_foldOver | apply kept_foldOver_fst | intro _ | refine kept_of_fst ‹_ = (_, _)› ?_ | simp only [kept_mk_iff] | split)

theorem kept_cutBlocks {s₀ : State} (n : Nat) (skews : List Nat) (lines : List (Nat × Nat)) (k : Nat) (s : State) (hk : Kept s₀ s) :
    Kept s₀ (State.cutBlocks n skews lines k s) := by
  induction k generalizing s with
  | zero => exact hk
  | succ k ih =>
    simp only [State.cutBlocks]
    refine kept_ite (kept_setCtnH _ _ _ hk) (ih _ (kept_frameBlock _ _ _ _ _ (kept_setCtnH _ _ _ hk)))
theorem kept_execBlockReceived (n : Fin 37) (symbols : List (List (Fin 4))) (skews : List Nat) (lines : List (Nat × Nat)) (s : State) : ∃ t, execBlockReceived n symbols skews lines s = .next t ∧ Kept s t := by
  refine ⟨_, rfl, ?_⟩
  repeat' (with_reducible first | exact Kept.refl _ | exact kept_id _ | apply kept_receiveSymbols | apply kept_setCtnH | apply kept_cutBlocks | apply kept_ite | apply kept_ite_fst | apply kept_cond | apply kept_foldOver | apply kept_foldOver_fst | intro _ | refine kept_of_fst ‹_ = (_, _)› ?_ | simp only [kept_mk_iff] | split)

theorem kept_execFramingLost (n : Fin 36) (missing : Nat) (s : State) : ∃ t, execFramingLost n missing s = .next t ∧ Kept s t := by
  refine ⟨_, rfl, ?_⟩
  repeat' (with_reducible first | exact Kept.refl _ | exact kept_id _ | apply kept_framingLost | apply kept_ite | apply kept_ite_fst | apply kept_cond | apply kept_foldOver | apply kept_foldOver_fst | intro _ | refine kept_of_fst ‹_ = (_, _)› ?_ | simp only [kept_mk_iff] | split)

theorem kept_execNoFraming (n : Fin 36) (s : State) : ∃ t, execNoFraming n s = .next t ∧ Kept s t := by
  refine ⟨_, rfl, ?_⟩
  repeat' (with_reducible first | exact Kept.refl _ | exact kept_id _ | apply kept_raise | apply kept_ite | apply kept_ite_fst | apply kept_cond | apply kept_foldOver | apply kept_foldOver_fst | intro _ | refine kept_of_fst ‹_ = (_, _)› ?_ | simp only [kept_mk_iff] | split)

end Sys2Proof.Machine
end

