-- ==== Sys2Proof/Laws/KeptRenumber.lean ====
section
/-! SUPPORT. What the operations of Machine/Renumber.lean keep. -/

set_option linter.unusedTactic false
set_option linter.unreachableTactic false
set_option linter.unusedSimpArgs false

namespace Sys2Proof.Machine

theorem kept_shiftTiming {s₀ : State} (p d : Nat) (s : State)  (hk : Kept s₀ s) : Kept s₀ (State.shiftTiming p d s) := by
  refine Kept.trans hk ?_
  simp only [State.shiftTiming]
  repeat' (with_reducible first | exact Kept.refl _ | exact kept_id _ | apply kept_setPlanH | apply kept_ite | apply kept_ite_fst | apply kept_cond | apply kept_foldOver | apply kept_foldOver_fst | intro _ | refine kept_of_fst ‹_ = (_, _)› ?_ | simp only [kept_mk_iff] | split)

theorem kept_shiftReads {s₀ : State} (p d : Nat) (s : State)  (hk : Kept s₀ s) : Kept s₀ (State.shiftReads p d s) := by
  refine Kept.trans hk ?_
  simp only [State.shiftReads]
  repeat' (with_reducible first | exact Kept.refl _ | exact kept_id _ | apply kept_forL | apply kept_setInH | apply kept_ite | apply kept_ite_fst | apply kept_cond | apply kept_foldOver | apply kept_foldOver_fst | intro _ | refine kept_of_fst ‹_ = (_, _)› ?_ | simp only [kept_mk_iff] | split)

theorem kept_shiftHeads {s₀ : State} (p d : Nat) (s : State)  (hk : Kept s₀ s) : Kept s₀ (State.shiftHeads p d s) := by
  refine Kept.trans hk ?_
  simp only [State.shiftHeads]
  repeat' (with_reducible first | exact Kept.refl _ | exact kept_id _ | apply kept_forL | apply kept_setMvhH | apply kept_ite | apply kept_ite_fst | apply kept_cond | apply kept_foldOver | apply kept_foldOver_fst | intro _ | refine kept_of_fst ‹_ = (_, _)› ?_ | simp only [kept_mk_iff] | split)

theorem kept_shiftContexts {s₀ : State} (p d : Nat) (s : State)  (hk : Kept s₀ s) : Kept s₀ (State.shiftContexts p d s) := by
  refine Kept.trans hk ?_
  simp only [State.shiftContexts]
  repeat' (with_reducible first | exact Kept.refl _ | exact kept_id _ | apply kept_forL | apply kept_setTxH | apply kept_ite | apply kept_ite_fst | apply kept_cond | apply kept_foldOver | apply kept_foldOver_fst | intro _ | refine kept_of_fst ‹_ = (_, _)› ?_ | simp only [kept_mk_iff] | split)

theorem kept_shiftOps {s₀ : State} (p d : Nat) (s : State)  (hk : Kept s₀ s) : Kept s₀ (State.shiftOps p d s) := by
  refine Kept.trans hk ?_
  simp only [State.shiftOps]
  repeat' (with_reducible first | exact Kept.refl _ | exact kept_id _ | apply kept_forL | apply kept_setRckH | apply kept_ite | apply kept_ite_fst | apply kept_cond | apply kept_foldOver | apply kept_foldOver_fst | intro _ | refine kept_of_fst ‹_ = (_, _)› ?_ | simp only [kept_mk_iff] | split)

theorem kept_shiftPlan0 {s₀ : State} (d : Nat) (s : State)  (hk : Kept s₀ s) : Kept s₀ (State.shiftPlan0 d s) := by
  refine Kept.trans hk ?_
  simp only [State.shiftPlan0]
  repeat' (with_reducible first | exact Kept.refl _ | exact kept_id _ | apply kept_journal | apply kept_forL | apply kept_setRckH | apply kept_ite | apply kept_ite_fst | apply kept_cond | apply kept_foldOver | apply kept_foldOver_fst | intro _ | refine kept_of_fst ‹_ = (_, _)› ?_ | simp only [kept_mk_iff] | split)

theorem kept_shiftFabric {s₀ : State} (d : Nat) (s : State)  (hk : Kept s₀ s) : Kept s₀ (State.shiftFabric d s) := by
  refine Kept.trans hk ?_
  simp only [State.shiftFabric]
  repeat' (with_reducible first | exact Kept.refl _ | exact kept_id _ | apply kept_ite | apply kept_ite_fst | apply kept_cond | apply kept_foldOver | apply kept_foldOver_fst | intro _ | refine kept_of_fst ‹_ = (_, _)› ?_ | simp only [kept_mk_iff] | split)

theorem kept_shiftLeases {s₀ : State} (d : Nat) (s : State)  (hk : Kept s₀ s) : Kept s₀ (State.shiftLeases d s) := by
  refine Kept.trans hk ?_
  simp only [State.shiftLeases]
  repeat' (with_reducible first | exact Kept.refl _ | exact kept_id _ | apply kept_forL | apply kept_wr | apply kept_ite | apply kept_ite_fst | apply kept_cond | apply kept_foldOver | apply kept_foldOver_fst | intro _ | refine kept_of_fst ‹_ = (_, _)› ?_ | simp only [kept_mk_iff] | split)

theorem kept_shiftFrames {s₀ : State} (p d : Nat) (s : State)  (hk : Kept s₀ s) : Kept s₀ (State.shiftFrames p d s) := by
  refine Kept.trans hk ?_
  simp only [State.shiftFrames]
  repeat' (with_reducible first | exact Kept.refl _ | exact kept_id _ | apply kept_shiftTiming | apply kept_shiftReads | apply kept_shiftHeads | apply kept_shiftContexts | apply kept_shiftOps | apply kept_shiftPlan0 | apply kept_shiftFabric | apply kept_shiftLeases | apply kept_ite | apply kept_ite_fst | apply kept_cond | apply kept_foldOver | apply kept_foldOver_fst | intro _ | refine kept_of_fst ‹_ = (_, _)› ?_ | simp only [kept_mk_iff] | split)

end Sys2Proof.Machine
end

