-- ==== Sys2Proof/Laws/KeptFabric.lean ====
section
/-! SUPPORT. What the operations of Machine/Fabric.lean keep. -/

set_option linter.unusedTactic false
set_option linter.unreachableTactic false
set_option linter.unusedSimpArgs false

namespace Sys2Proof.Machine

theorem kept_takeSelectAck {s₀ : State} (src ch : Nat) (width : Option Nat) (s : State)  (hk : Kept s₀ s) : Kept s₀ (State.takeSelectAck src ch width s) := by
  refine Kept.trans hk ?_
  simp only [State.takeSelectAck]
  repeat' (with_reducible first | exact Kept.refl _ | exact kept_id _ | apply kept_forL | apply kept_wr | apply kept_raise | apply kept_ite | apply kept_ite_fst | apply kept_cond | apply kept_foldOver | apply kept_foldOver_fst | intro _ | refine kept_of_fst ‹_ = (_, _)› ?_ | simp only [kept_mk_iff] | split)

theorem kept_takeAnswer {s₀ : State} (id status : Nat) (s : State)  (hk : Kept s₀ s) : Kept s₀ (State.takeAnswer id status s) := by
  refine Kept.trans hk ?_
  simp only [State.takeAnswer]
  repeat' (with_reducible first | exact Kept.refl _ | exact kept_id _ | apply kept_giveStatus | apply kept_resumeAt | apply kept_wr | apply kept_ite | apply kept_ite_fst | apply kept_cond | apply kept_foldOver | apply kept_foldOver_fst | intro _ | refine kept_of_fst ‹_ = (_, _)› ?_ | simp only [kept_mk_iff] | split)

theorem kept_takeUpdate {s₀ : State} (id addr index e : Nat) (hops : List HopH) (s : State)  (hk : Kept s₀ s) : Kept s₀ (State.takeUpdate id addr index e hops s) := by
  refine Kept.trans hk ?_
  simp only [State.takeUpdate]
  repeat' (with_reducible first | exact Kept.refl _ | exact kept_id _ | apply kept_endLease | apply kept_setFabLease | apply kept_wr | apply kept_ite | apply kept_ite_fst | apply kept_cond | apply kept_foldOver | apply kept_foldOver_fst | intro _ | refine kept_of_fst ‹_ = (_, _)› ?_ | simp only [kept_mk_iff] | split)

theorem kept_deliverMail {s₀ : State} (q src code : Nat) (words : List Nat) (s : State)  (hk : Kept s₀ s) : Kept s₀ (State.deliverMail q src code words s) := by
  refine Kept.trans hk ?_
  simp only [State.deliverMail]
  repeat' (with_reducible first | exact Kept.refl _ | exact kept_id _ | apply kept_setBells | apply kept_sendSlot | apply kept_tell | apply kept_setMailH | apply kept_ite | apply kept_ite_fst | apply kept_cond | apply kept_foldOver | apply kept_foldOver_fst | intro _ | refine kept_of_fst ‹_ = (_, _)› ?_ | simp only [kept_mk_iff] | split)

theorem kept_drainMail {s₀ : State} (q : Nat) (s : State)  (hk : Kept s₀ s) : Kept s₀ (State.drainMail q s) := by
  refine Kept.trans hk ?_
  simp only [State.drainMail]
  repeat' (with_reducible first | exact Kept.refl _ | exact kept_id _ | apply kept_setMailH | apply kept_sendSlot | apply kept_tell | apply kept_ite | apply kept_ite_fst | apply kept_cond | apply kept_foldOver | apply kept_foldOver_fst | intro _ | refine kept_of_fst ‹_ = (_, _)› ?_ | simp only [kept_mk_iff] | split)

theorem kept_takeArrival {s₀ : State} (words : List Nat) (s : State)  (hk : Kept s₀ s) : Kept s₀ (State.takeArrival words s) := by
  refine Kept.trans hk ?_
  simp only [State.takeArrival]
  repeat' (with_reducible first | exact Kept.refl _ | exact kept_id _ | apply kept_takeAnswer | apply kept_takeUpdate | apply kept_takeSelectAck | apply kept_deliverMail | apply kept_ite | apply kept_ite_fst | apply kept_cond | apply kept_foldOver | apply kept_foldOver_fst | intro _ | refine kept_of_fst ‹_ = (_, _)› ?_ | simp only [kept_mk_iff] | split)

theorem kept_arrive {s₀ : State} (words : List Nat) (s : State)  (hk : Kept s₀ s) : Kept s₀ (State.arrive words s) := by
  refine Kept.trans hk ?_
  simp only [State.arrive]
  repeat' (with_reducible first | exact Kept.refl _ | exact kept_id _ | apply kept_journal | apply kept_takeArrival | apply kept_ite | apply kept_ite_fst | apply kept_cond | apply kept_foldOver | apply kept_foldOver_fst | intro _ | refine kept_of_fst ‹_ = (_, _)› ?_ | simp only [kept_mk_iff] | split)

theorem kept_takeFeed {s₀ : State} (k : Nat) (r : RunH) (s : State)  (hk : Kept s₀ s) : Kept s₀ (State.takeFeed k r s) := by
  refine Kept.trans hk ?_
  simp only [State.takeFeed]
  repeat' (with_reducible first | exact Kept.refl _ | exact kept_id _ | apply kept_wr | apply kept_ite | apply kept_ite_fst | apply kept_cond | apply kept_foldOver | apply kept_foldOver_fst | intro _ | refine kept_of_fst ‹_ = (_, _)› ?_ | simp only [kept_mk_iff] | split)

theorem kept_sendFeeds {s₀ : State} (k : Nat) (hops : List HopH) (s : State)  (hk : Kept s₀ s) : Kept s₀ (State.sendFeeds k hops s) := by
  refine Kept.trans hk ?_
  simp only [State.sendFeeds]
  repeat' (with_reducible first | exact Kept.refl _ | exact kept_id _ | apply kept_forL | apply kept_takeFeed | apply kept_tell | apply kept_ite | apply kept_ite_fst | apply kept_cond | apply kept_foldOver | apply kept_foldOver_fst | intro _ | refine kept_of_fst ‹_ = (_, _)› ?_ | simp only [kept_mk_iff] | split)

theorem kept_tellAll {s₀ : State} (type : Nat) (body : List Nat) (s : State)  (hk : Kept s₀ s) : Kept s₀ (State.tellAll type body s) := by
  refine Kept.trans hk ?_
  simp only [State.tellAll]
  repeat' (with_reducible first | exact Kept.refl _ | exact kept_id _ | apply kept_forL | apply kept_tell | apply kept_ite | apply kept_ite_fst | apply kept_cond | apply kept_foldOver | apply kept_foldOver_fst | intro _ | refine kept_of_fst ‹_ = (_, _)› ?_ | simp only [kept_mk_iff] | split)

theorem kept_sendUpdate {s₀ : State} (id addr index e : Nat) (s : State)  (hk : Kept s₀ s) : Kept s₀ (State.sendUpdate id addr index e s) := by
  refine Kept.trans hk ?_
  simp only [State.sendUpdate]
  repeat' (with_reducible first | exact Kept.refl _ | exact kept_id _ | apply kept_tellAll | apply kept_journal | apply kept_ite | apply kept_ite_fst | apply kept_cond | apply kept_foldOver | apply kept_foldOver_fst | intro _ | refine kept_of_fst ‹_ = (_, _)› ?_ | simp only [kept_mk_iff] | split)

theorem kept_decideLease {s₀ : State} (addr id dur index : Nat) (free : Bool) (srcDev slots : Nat) (s : State)  (hk : Kept s₀ s) : Kept s₀ (State.decideLease addr id dur index free srcDev slots s).1 := by
  refine Kept.trans hk ?_
  simp only [State.decideLease]
  repeat' (with_reducible first | exact Kept.refl _ | exact kept_id _ | apply kept_lapseLease | apply kept_endLease | apply kept_sendUpdate | apply kept_setFabLease | apply kept_sendFeeds | apply kept_ite | apply kept_ite_fst | apply kept_cond | apply kept_foldOver | apply kept_foldOver_fst | intro _ | refine kept_of_fst ‹_ = (_, _)› ?_ | simp only [kept_mk_iff] | split)

theorem kept_requestFabLease {s₀ : State} (id dur prio index : Nat) (free : Bool) (s : State)  (hk : Kept s₀ s) : Kept s₀ (State.requestFabLease id dur prio index free s) := by
  refine Kept.trans hk ?_
  simp only [State.requestFabLease]
  repeat' (with_reducible first | exact Kept.refl _ | exact kept_id _ | apply kept_decideLease | apply kept_arrive | apply kept_askConductor | apply kept_ite | apply kept_ite_fst | apply kept_cond | apply kept_foldOver | apply kept_foldOver_fst | intro _ | refine kept_of_fst ‹_ = (_, _)› ?_ | simp only [kept_mk_iff] | split)

theorem kept_inheritLeases {s₀ : State} (old new : Nat) (s : State)  (hk : Kept s₀ s) : Kept s₀ (State.inheritLeases old new s) := by
  refine Kept.trans hk ?_
  simp only [State.inheritLeases]
  repeat' (with_reducible first | exact Kept.refl _ | exact kept_id _ | apply kept_forL | apply kept_setFabLease | apply kept_sendUpdate | apply kept_ite | apply kept_ite_fst | apply kept_cond | apply kept_foldOver | apply kept_foldOver_fst | intro _ | refine kept_of_fst ‹_ = (_, _)› ?_ | simp only [kept_mk_iff] | split)

theorem kept_sendInherit {s₀ : State} (s : State)  (hk : Kept s₀ s) : Kept s₀ (State.sendInherit s) := by
  refine Kept.trans hk ?_
  simp only [State.sendInherit]
  repeat' (with_reducible first | exact Kept.refl _ | exact kept_id _ | apply kept_inheritLeases | apply kept_tell | apply kept_ite | apply kept_ite_fst | apply kept_cond | apply kept_foldOver | apply kept_foldOver_fst | intro _ | refine kept_of_fst ‹_ = (_, _)› ?_ | simp only [kept_mk_iff] | split)

theorem kept_inheritTwin {s₀ : State} (s : State)  (hk : Kept s₀ s) : Kept s₀ (State.inheritTwin s) := by
  refine Kept.trans hk ?_
  simp only [State.inheritTwin]
  repeat' (with_reducible first | exact Kept.refl _ | exact kept_id _ | apply kept_sendInherit | apply kept_ite | apply kept_ite_fst | apply kept_cond | apply kept_foldOver | apply kept_foldOver_fst | intro _ | refine kept_of_fst ‹_ = (_, _)› ?_ | simp only [kept_mk_iff] | split)

theorem kept_takeSelect {s₀ : State} (k ch src : Nat) (s : State)  (hk : Kept s₀ s) : Kept s₀ (State.takeSelect k ch src s).1 := by
  refine Kept.trans hk ?_
  simp only [State.takeSelect]
  repeat' (with_reducible first | exact Kept.refl _ | exact kept_id _ | apply kept_ite | apply kept_ite_fst | apply kept_cond | apply kept_foldOver | apply kept_foldOver_fst | intro _ | refine kept_of_fst ‹_ = (_, _)› ?_ | simp only [kept_mk_iff] | split)

theorem kept_rmapWritten {s₀ : State} (r : Nat) (s : State)  (hk : Kept s₀ s) : Kept s₀ (State.rmapWritten r s) := by
  refine Kept.trans hk ?_
  simp only [State.rmapWritten]
  repeat' (with_reducible first | exact Kept.refl _ | exact kept_id _ | apply kept_setWord | apply kept_forL | apply kept_tell | apply kept_ite | apply kept_ite_fst | apply kept_cond | apply kept_foldOver | apply kept_foldOver_fst | intro _ | refine kept_of_fst ‹_ = (_, _)› ?_ | simp only [kept_mk_iff] | split)

theorem kept_endRuns {s₀ : State} (s : State)  (hk : Kept s₀ s) : Kept s₀ (State.endRuns s) := by
  refine Kept.trans hk ?_
  simp only [State.endRuns]
  repeat' (with_reducible first | exact Kept.refl _ | exact kept_id _ | apply kept_forL | apply kept_setWord | apply kept_dropRun | apply kept_ite | apply kept_ite_fst | apply kept_cond | apply kept_foldOver | apply kept_foldOver_fst | intro _ | refine kept_of_fst ‹_ = (_, _)› ?_ | simp only [kept_mk_iff] | split)

theorem kept_setConductor {s₀ : State} (a : Nat) (s : State)  (hk : Kept s₀ s) : Kept s₀ (State.setConductor a s) := by
  refine Kept.trans hk ?_
  simp only [State.setConductor]
  repeat' (with_reducible first | exact Kept.refl _ | exact kept_id _ | apply kept_wr | apply kept_ite | apply kept_ite_fst | apply kept_cond | apply kept_foldOver | apply kept_foldOver_fst | intro _ | refine kept_of_fst ‹_ = (_, _)› ?_ | simp only [kept_mk_iff] | split)

theorem kept_sendHeartbeat {s₀ : State} (s : State)  (hk : Kept s₀ s) : Kept s₀ (State.sendHeartbeat s) := by
  refine Kept.trans hk ?_
  simp only [State.sendHeartbeat]
  repeat' (with_reducible first | exact Kept.refl _ | exact kept_id _ | apply kept_tellAll | apply kept_ite | apply kept_ite_fst | apply kept_cond | apply kept_foldOver | apply kept_foldOver_fst | intro _ | refine kept_of_fst ‹_ = (_, _)› ?_ | simp only [kept_mk_iff] | split)

theorem kept_elect {s₀ : State} (s : State)  (hk : Kept s₀ s) : Kept s₀ (State.elect s) := by
  refine Kept.trans hk ?_
  simp only [State.elect]
  repeat' (with_reducible first | exact Kept.refl _ | exact kept_id _ | apply kept_trigger | apply kept_raise | apply kept_setConductor | apply kept_wr | apply kept_ite | apply kept_ite_fst | apply kept_cond | apply kept_foldOver | apply kept_foldOver_fst | intro _ | refine kept_of_fst ‹_ = (_, _)› ?_ | simp only [kept_mk_iff] | split)

theorem kept_applyRenumber {s₀ : State} (d : Nat) (s : State)  (hk : Kept s₀ s) : Kept s₀ (State.applyRenumber d s) := by
  refine Kept.trans hk ?_
  simp only [State.applyRenumber]
  repeat' (with_reducible first | exact Kept.refl _ | exact kept_id _ | apply kept_shiftFrames | apply kept_raise | apply kept_rckEventAll | apply kept_ite | apply kept_ite_fst | apply kept_cond | apply kept_foldOver | apply kept_foldOver_fst | intro _ | refine kept_of_fst ‹_ = (_, _)› ?_ | simp only [kept_mk_iff] | split)

theorem kept_fabBoundary {s₀ : State} (s : State)  (hk : Kept s₀ s) : Kept s₀ (State.fabBoundary s) := by
  refine Kept.trans hk ?_
  simp only [State.fabBoundary]
  repeat' (with_reducible first | exact Kept.refl _ | exact kept_id _ | apply kept_boundary | apply kept_applyRenumber | apply kept_endRuns | apply kept_trigger | apply kept_elect | apply kept_sendHeartbeat | apply kept_announce | apply kept_trackReach | apply kept_sendInherit | apply kept_raise | apply kept_ite | apply kept_ite_fst | apply kept_cond | apply kept_foldOver | apply kept_foldOver_fst | intro _ | refine kept_of_fst ‹_ = (_, _)› ?_ | simp only [kept_mk_iff] | split)

theorem kept_fabCfgWritten {s₀ : State} (was : Bool) (s : State)  (hk : Kept s₀ s) : Kept s₀ (State.fabCfgWritten was s) := by
  refine Kept.trans hk ?_
  simp only [State.fabCfgWritten]
  repeat' (with_reducible first | exact Kept.refl _ | exact kept_id _ | apply kept_boundary | apply kept_forL | apply kept_trunkLocked | apply kept_resetParty | apply kept_setConductor | apply kept_forN | apply kept_setWord | apply kept_dropResident | apply kept_ite | apply kept_ite_fst | apply kept_cond | apply kept_foldOver | apply kept_foldOver_fst | intro _ | refine kept_of_fst ‹_ = (_, _)› ?_ | simp only [kept_mk_iff] | split)

theorem kept_receive {s₀ : State} (n : Nat) (m : Msg) (take : State → State) (s : State) (htake : ∀ u, Kept u (take u)) (hk : Kept s₀ s) : Kept s₀ (State.receive n m take s) := by
  refine Kept.trans hk ?_
  simp only [State.receive]
  repeat' (with_reducible first | exact Kept.refl _ | exact kept_id _ | apply kept_bump | apply kept_returnCredit | apply kept_sendMsg | refine Kept.trans ?_ (htake ..) | apply kept_ite | apply kept_ite_fst | apply kept_cond | apply kept_foldOver | apply kept_foldOver_fst | intro _ | refine kept_of_fst ‹_ = (_, _)› ?_ | simp only [kept_mk_iff] | split)

theorem kept_execCredit (n : Fin 36) (src : Fin 64) (count : Nat) (s : State) : ∃ t, execCredit n src count s = .next t ∧ Kept s t := by
  refine ⟨_, rfl, ?_⟩
  repeat' (with_reducible first | exact Kept.refl _ | exact kept_id _ | apply kept_receive | apply kept_addCredits | apply kept_ite | apply kept_ite_fst | apply kept_cond | apply kept_foldOver | apply kept_foldOver_fst | intro _ | refine kept_of_fst ‹_ = (_, _)› ?_ | simp only [kept_mk_iff] | split)

theorem kept_execHello (n : Fin 36) (addr : Fin 64) (far : Fin 64) (twin : Fin 64) (mode : Fin 16) (inc : Nat) (s : State) : ∃ t, execHello n addr far twin mode inc s = .next t ∧ Kept s t := by
  refine ⟨_, rfl, ?_⟩
  repeat' (with_reducible first | exact Kept.refl _ | exact kept_id _ | apply kept_wr | apply kept_receive | apply kept_learnRoute | apply kept_routesChanged | apply kept_sendStuck | apply kept_ite | apply kept_ite_fst | apply kept_cond | apply kept_foldOver | apply kept_foldOver_fst | intro _ | refine kept_of_fst ‹_ = (_, _)› ?_ | simp only [kept_mk_iff] | split)

theorem kept_execRoute (n : Fin 36) (src : Fin 64) (entries : List (Fin 64 × Fin 4 × Fin 16)) (near : List (Fin 64 × Fin 64)) (s : State) : ∃ t, execRoute n src entries near s = .next t ∧ Kept s t := by
  refine ⟨_, rfl, ?_⟩
  repeat' (with_reducible first | exact Kept.refl _ | exact kept_id _ | apply kept_receive | apply kept_forL | apply kept_learnRoute | apply kept_trackReach | apply kept_routesChanged | apply kept_sendStuck | apply kept_ite | apply kept_ite_fst | apply kept_cond | apply kept_foldOver | apply kept_foldOver_fst | intro _ | refine kept_of_fst ‹_ = (_, _)› ?_ | simp only [kept_mk_iff] | split)

theorem kept_execRouteExpiry (a : Fin 32) (s : State) : ∃ t, execRouteExpiry a s = .next t ∧ Kept s t := by
  refine ⟨_, rfl, ?_⟩
  repeat' (with_reducible first | exact Kept.refl _ | exact kept_id _ | apply kept_dropEntry | apply kept_routesChanged | apply kept_ite | apply kept_ite_fst | apply kept_cond | apply kept_foldOver | apply kept_foldOver_fst | intro _ | refine kept_of_fst ‹_ = (_, _)› ?_ | simp only [kept_mk_iff] | split)

theorem kept_compareFrames {s₀ : State} (frame : Nat) (phase : Int) (s : State)  (hk : Kept s₀ s) : Kept s₀ (State.compareFrames frame phase s) := by
  refine Kept.trans hk ?_
  simp only [State.compareFrames]
  repeat' (with_reducible first | exact Kept.refl _ | exact kept_id _ | apply kept_wrB | apply kept_journal | apply kept_ite | apply kept_ite_fst | apply kept_cond | apply kept_foldOver | apply kept_foldOver_fst | intro _ | refine kept_of_fst ‹_ = (_, _)› ?_ | simp only [kept_mk_iff] | split)

theorem kept_excludeEssence {s₀ : State} (a : Nat) (s : State)  (hk : Kept s₀ s) : Kept s₀ (State.excludeEssence a s) := by
  refine Kept.trans hk ?_
  simp only [State.excludeEssence]
  repeat' (with_reducible first | exact Kept.refl _ | exact kept_id _ | apply kept_forL | apply kept_inputAbsent | apply kept_ite | apply kept_ite_fst | apply kept_cond | apply kept_foldOver | apply kept_foldOver_fst | intro _ | refine kept_of_fst ‹_ = (_, _)› ?_ | simp only [kept_mk_iff] | split)

theorem kept_exclude {s₀ : State} (a : Nat) (s : State)  (hk : Kept s₀ s) : Kept s₀ (State.exclude a s) := by
  refine Kept.trans hk ?_
  simp only [State.exclude]
  repeat' (with_reducible first | exact Kept.refl _ | exact kept_id _ | apply kept_dropEntry | apply kept_excludeEssence | apply kept_raise | apply kept_ite | apply kept_ite_fst | apply kept_cond | apply kept_foldOver | apply kept_foldOver_fst | intro _ | refine kept_of_fst ‹_ = (_, _)› ?_ | simp only [kept_mk_iff] | split)

theorem kept_endIsolation {s₀ : State} (s : State)  (hk : Kept s₀ s) : Kept s₀ (State.endIsolation s) := by
  refine Kept.trans hk ?_
  simp only [State.endIsolation]
  repeat' (with_reducible first | exact Kept.refl _ | exact kept_id _ | apply kept_enterMode | apply kept_ite | apply kept_ite_fst | apply kept_cond | apply kept_foldOver | apply kept_foldOver_fst | intro _ | refine kept_of_fst ‹_ = (_, _)› ?_ | simp only [kept_mk_iff] | split)

theorem kept_execHeartbeat (n : Fin 36) (dest src : Fin 64) (hops : Fin 4) (term : Fin 65536) (frame digest : Nat) (excluded : List (Fin 32)) (phase : Int) (s : State) : ∃ t, execHeartbeat n dest src hops term frame digest excluded phase s = .next t ∧ Kept s t := by
  refine ⟨_, rfl, ?_⟩
  repeat' (with_reducible first | exact Kept.refl _ | exact kept_id _ | apply kept_receive | apply kept_fabBoundary | apply kept_setConductor | apply kept_wr | apply kept_trigger | apply kept_compareFrames | apply kept_forL | apply kept_exclude | apply kept_sendInherit | apply kept_tell | apply kept_endIsolation | apply kept_ite | apply kept_ite_fst | apply kept_cond | apply kept_foldOver | apply kept_foldOver_fst | intro _ | refine kept_of_fst ‹_ = (_, _)› ?_ | simp only [kept_mk_iff] | split)

theorem kept_execHeartbeatMissed (s : State) : ∃ t, execHeartbeatMissed s = .next t ∧ Kept s t := by
  refine ⟨_, rfl, ?_⟩
  repeat' (with_reducible first | exact Kept.refl _ | exact kept_id _ | apply kept_trigger | apply kept_ite | apply kept_ite_fst | apply kept_cond | apply kept_foldOver | apply kept_foldOver_fst | intro _ | refine kept_of_fst ‹_ = (_, _)› ?_ | simp only [kept_mk_iff] | split)

theorem kept_execElection (s : State) : ∃ t, execElection s = .next t ∧ Kept s t := by
  refine ⟨_, rfl, ?_⟩
  repeat' (with_reducible first | exact Kept.refl _ | exact kept_id _ | apply kept_fabBoundary | apply kept_ite | apply kept_ite_fst | apply kept_cond | apply kept_foldOver | apply kept_foldOver_fst | intro _ | refine kept_of_fst ‹_ = (_, _)› ?_ | simp only [kept_mk_iff] | split)

theorem kept_execExclude (a : Fin 32) (s : State) : ∃ t, execExclude a s = .next t ∧ Kept s t := by
  refine ⟨_, rfl, ?_⟩
  repeat' (with_reducible first | exact Kept.refl _ | exact kept_id _ | apply kept_exclude | apply kept_ite | apply kept_ite_fst | apply kept_cond | apply kept_foldOver | apply kept_foldOver_fst | intro _ | refine kept_of_fst ‹_ = (_, _)› ?_ | simp only [kept_mk_iff] | split)

theorem kept_decideOne {s₀ : State} (q : ReqH) (s : State)  (hk : Kept s₀ s) : Kept s₀ (State.decideOne q s).1 := by
  refine Kept.trans hk ?_
  simp only [State.decideOne]
  repeat' (with_reducible first | exact Kept.refl _ | exact kept_id _ | apply kept_decideLease | apply kept_ite | apply kept_ite_fst | apply kept_cond | apply kept_foldOver | apply kept_foldOver_fst | intro _ | refine kept_of_fst ‹_ = (_, _)› ?_ | simp only [kept_mk_iff] | split)

theorem kept_decideRequest {s₀ : State} (q : ReqH) (s : State)  (hk : Kept s₀ s) : Kept s₀ (State.decideRequest q s).1 := by
  refine Kept.trans hk ?_
  simp only [State.decideRequest]
  repeat' (with_reducible first | exact Kept.refl _ | exact kept_id _ | apply kept_forL | apply kept_decideOne | apply kept_ite | apply kept_ite_fst | apply kept_cond | apply kept_foldOver | apply kept_foldOver_fst | intro _ | refine kept_of_fst ‹_ = (_, _)› ?_ | simp only [kept_mk_iff] | split)

theorem kept_execLeaseReq (n : Fin 36) (dest src : Fin 64) (hops : Fin 4) (id : Fin 256) (dur prio index : Nat) (free : Bool) (srcDev slots : Fin 64) (s : State) : ∃ t, execLeaseReq n dest src hops id dur prio index free srcDev slots s = .next t ∧ Kept s t := by
  refine ⟨_, rfl, ?_⟩
  repeat' (with_reducible first | exact Kept.refl _ | exact kept_id _ | apply kept_receive | apply kept_decideRequest | apply kept_tell | apply kept_ite | apply kept_ite_fst | apply kept_cond | apply kept_foldOver | apply kept_foldOver_fst | intro _ | refine kept_of_fst ‹_ = (_, _)› ?_ | simp only [kept_mk_iff] | split)

theorem kept_execLeaseAns (n : Fin 36) (dest src : Fin 64) (hops : Fin 4) (id : Fin 256) (status : Fin 4) (e : Nat) (s : State) : ∃ t, execLeaseAns n dest src hops id status e s = .next t ∧ Kept s t := by
  refine ⟨_, rfl, ?_⟩
  repeat' (with_reducible first | exact Kept.refl _ | exact kept_id _ | apply kept_receive | apply kept_arrive | apply kept_ite | apply kept_ite_fst | apply kept_cond | apply kept_foldOver | apply kept_foldOver_fst | intro _ | refine kept_of_fst ‹_ = (_, _)› ?_ | simp only [kept_mk_iff] | split)

theorem kept_execLeaseUpd (n : Fin 36) (dest src : Fin 64) (hops : Fin 4) (id : Fin 224) (addr : Fin 64) (index : Fin 32) (e : Nat) (runs : List HopH) (s : State) : ∃ t, execLeaseUpd n dest src hops id addr index e runs s = .next t ∧ Kept s t := by
  refine ⟨_, rfl, ?_⟩
  repeat' (with_reducible first | exact Kept.refl _ | exact kept_id _ | apply kept_receive | apply kept_arrive | apply kept_ite | apply kept_ite_fst | apply kept_cond | apply kept_foldOver | apply kept_foldOver_fst | intro _ | refine kept_of_fst ‹_ = (_, _)› ?_ | simp only [kept_mk_iff] | split)

theorem kept_execLeaseSync (n : Fin 36) (dest src : Fin 64) (hops : Fin 4) (copy : Option (List (Fin 224 × Fin 64 × Fin 32 × Nat))) (s : State) : ∃ t, execLeaseSync n dest src hops copy s = .next t ∧ Kept s t := by
  refine ⟨_, rfl, ?_⟩
  repeat' (with_reducible first | exact Kept.refl _ | exact kept_id _ | apply kept_receive | apply kept_tell | apply kept_forL | apply kept_endLease | apply kept_setFabLease | apply kept_ite | apply kept_ite_fst | apply kept_cond | apply kept_foldOver | apply kept_foldOver_fst | intro _ | refine kept_of_fst ‹_ = (_, _)› ?_ | simp only [kept_mk_iff] | split)

theorem kept_execInherit (n : Fin 36) (dest src : Fin 64) (hops : Fin 4) (failed : Fin 64) (s : State) : ∃ t, execInherit n dest src hops failed s = .next t ∧ Kept s t := by
  refine ⟨_, rfl, ?_⟩
  repeat' (with_reducible first | exact Kept.refl _ | exact kept_id _ | apply kept_receive | apply kept_inheritLeases | apply kept_ite | apply kept_ite_fst | apply kept_cond | apply kept_foldOver | apply kept_foldOver_fst | intro _ | refine kept_of_fst ‹_ = (_, _)› ?_ | simp only [kept_mk_iff] | split)

theorem kept_execFeed (n : Fin 36) (dest src : Fin 64) (hops : Fin 4) (k : Fin 96) (run : RunH) (s : State) : ∃ t, execFeed n dest src hops k run s = .next t ∧ Kept s t := by
  refine ⟨_, rfl, ?_⟩
  repeat' (with_reducible first | exact Kept.refl _ | exact kept_id _ | apply kept_receive | apply kept_takeFeed | apply kept_ite | apply kept_ite_fst | apply kept_cond | apply kept_foldOver | apply kept_foldOver_fst | intro _ | refine kept_of_fst ‹_ = (_, _)› ?_ | simp only [kept_mk_iff] | split)

theorem kept_execSelect (n : Fin 36) (dest src : Fin 64) (hops : Fin 4) (k : Fin 96) (ch : Fin 128) (id : Fin 8192) (s : State) : ∃ t, execSelect n dest src hops k ch id s = .next t ∧ Kept s t := by
  refine ⟨_, rfl, ?_⟩
  repeat' (with_reducible first | exact Kept.refl _ | exact kept_id _ | apply kept_receive | apply kept_takeSelect | apply kept_tell | apply kept_ite | apply kept_ite_fst | apply kept_cond | apply kept_foldOver | apply kept_foldOver_fst | intro _ | refine kept_of_fst ‹_ = (_, _)› ?_ | simp only [kept_mk_iff] | split)

theorem kept_execSelectAck (n : Fin 36) (dest src : Fin 64) (hops : Fin 4) (ch : Fin 128) (width : Option (Fin 4)) (s : State) : ∃ t, execSelectAck n dest src hops ch width s = .next t ∧ Kept s t := by
  refine ⟨_, rfl, ?_⟩
  repeat' (with_reducible first | exact Kept.refl _ | exact kept_id _ | apply kept_receive | apply kept_arrive | apply kept_ite | apply kept_ite_fst | apply kept_cond | apply kept_foldOver | apply kept_foldOver_fst | intro _ | refine kept_of_fst ‹_ = (_, _)› ?_ | simp only [kept_mk_iff] | split)

theorem kept_execRecord (n : Fin 36) (dest src : Fin 64) (hops : Fin 4) (ch : Fin 128) (tag rgen digest : Nat) (checks : List Nat) (valid damaged : Fin 16) (s : State) : ∃ t, execRecord n dest src hops ch tag rgen digest checks valid damaged s = .next t ∧ Kept s t := by
  refine ⟨_, rfl, ?_⟩
  repeat' (with_reducible first | exact Kept.refl _ | exact kept_id _ | apply kept_receive | apply kept_forL | apply kept_addRec | apply kept_setInH | apply kept_ite | apply kept_ite_fst | apply kept_cond | apply kept_foldOver | apply kept_foldOver_fst | intro _ | refine kept_of_fst ‹_ = (_, _)› ?_ | simp only [kept_mk_iff] | split)

theorem kept_execAudio (n : Fin 36) (dest src : Fin 64) (hops : Fin 4) (m : Fin 768) (ticks : List (List Nat)) (s : State) : ∃ t, execAudio n dest src hops m ticks s = .next t ∧ Kept s t := by
  refine ⟨_, rfl, ?_⟩
  repeat' (with_reducible first | exact Kept.refl _ | exact kept_id _ | apply kept_receive | apply kept_setElastic | apply kept_ite | apply kept_ite_fst | apply kept_cond | apply kept_foldOver | apply kept_foldOver_fst | intro _ | refine kept_of_fst ‹_ = (_, _)› ?_ | simp only [kept_mk_iff] | split)

theorem kept_execMail (n : Fin 36) (dest src : Fin 64) (hops : Fin 4) (q : Fin 16) (code : Fin 65536) (words : List Nat) (s : State) : ∃ t, execMail n dest src hops q code words s = .next t ∧ Kept s t := by
  refine ⟨_, rfl, ?_⟩
  repeat' (with_reducible first | exact Kept.refl _ | exact kept_id _ | apply kept_receive | apply kept_arrive | apply kept_ite | apply kept_ite_fst | apply kept_cond | apply kept_foldOver | apply kept_foldOver_fst | intro _ | refine kept_of_fst ‹_ = (_, _)› ?_ | simp only [kept_mk_iff] | split)

theorem kept_mailDone {s₀ : State} (r : Nat) (s : State)  (hk : Kept s₀ s) : Kept s₀ (State.mailDone r s) := by
  refine Kept.trans hk ?_
  simp only [State.mailDone]
  repeat' (with_reducible first | exact Kept.refl _ | exact kept_id _ | apply kept_setMailH | apply kept_freeSlot | apply kept_ite | apply kept_ite_fst | apply kept_cond | apply kept_foldOver | apply kept_foldOver_fst | intro _ | refine kept_of_fst ‹_ = (_, _)› ?_ | simp only [kept_mk_iff] | split)

theorem kept_execMailAck (n : Fin 36) (dest src : Fin 64) (hops : Fin 4) (q : Fin 16) (code : Fin 65536) (s : State) : ∃ t, execMailAck n dest src hops q code s = .next t ∧ Kept s t := by
  refine ⟨_, rfl, ?_⟩
  repeat' (with_reducible first | exact Kept.refl _ | exact kept_id _ | apply kept_receive | apply kept_mailDone | apply kept_sendEffect | apply kept_ite | apply kept_ite_fst | apply kept_cond | apply kept_foldOver | apply kept_foldOver_fst | intro _ | refine kept_of_fst ‹_ = (_, _)› ?_ | simp only [kept_mk_iff] | split)

theorem kept_execFabricMailSend (r : Fin 16) (s : State) : ∃ t, execFabricMailSend r s = .next t ∧ Kept s t := by
  refine ⟨_, rfl, ?_⟩
  repeat' (with_reducible first | exact Kept.refl _ | exact kept_id _ | apply kept_setMailH | apply kept_tell | apply kept_ite | apply kept_ite_fst | apply kept_cond | apply kept_foldOver | apply kept_foldOver_fst | intro _ | refine kept_of_fst ‹_ = (_, _)› ?_ | simp only [kept_mk_iff] | split)

end Sys2Proof.Machine
end

