-- ==== Sys2Proof/Laws/KeptRckCtl.lean ====
section
/-! SUPPORT. What the operations of Machine/RckCtl.lean keep. -/

set_option linter.unusedTactic false
set_option linter.unreachableTactic false
set_option linter.unusedSimpArgs false

namespace Sys2Proof.Machine

theorem kept_startRacker {s₀ : State} (r t : Nat) (s : State)  (hk : Kept s₀ s) : Kept s₀ (State.startRacker r t s) := by
  refine Kept.trans hk ?_
  simp only [State.startRacker]
  repeat' (with_reducible first | exact Kept.refl _ | exact kept_id _ | apply kept_forN | apply kept_setGreg | apply kept_setRckH | apply kept_wr | apply kept_showRck | apply kept_resetParty | apply kept_releaseLocks | apply kept_ite | apply kept_ite_fst | apply kept_cond | apply kept_foldOver | apply kept_foldOver_fst | intro _ | refine kept_of_fst ‹_ = (_, _)› ?_ | simp only [kept_mk_iff] | split)

theorem kept_resumeRacker {s₀ : State} (r t : Nat) (step : Bool) (s : State)  (hk : Kept s₀ s) : Kept s₀ (State.resumeRacker r t step s) := by
  refine Kept.trans hk ?_
  simp only [State.resumeRacker]
  repeat' (with_reducible first | exact Kept.refl _ | exact kept_id _ | apply kept_setP | apply kept_setRckH | apply kept_wr | apply kept_ite | apply kept_ite_fst | apply kept_cond | apply kept_foldOver | apply kept_foldOver_fst | intro _ | refine kept_of_fst ‹_ = (_, _)› ?_ | simp only [kept_mk_iff] | split)

theorem kept_beginRacker {s₀ : State} (r kind t : Nat) (s : State)  (hk : Kept s₀ s) : Kept s₀ (State.beginRacker r kind t s) := by
  refine Kept.trans hk ?_
  simp only [State.beginRacker]
  repeat' (with_reducible first | exact Kept.refl _ | exact kept_id _ | apply kept_setRckH | apply kept_startRacker | apply kept_resumeRacker | apply kept_ite | apply kept_ite_fst | apply kept_cond | apply kept_foldOver | apply kept_foldOver_fst | intro _ | refine kept_of_fst ‹_ = (_, _)› ?_ | simp only [kept_mk_iff] | split)

theorem kept_startAuto {s₀ : State} (s : State)  (hk : Kept s₀ s) : Kept s₀ (State.startAuto s) := by
  refine Kept.trans hk ?_
  simp only [State.startAuto]
  repeat' (with_reducible first | exact Kept.refl _ | exact kept_id _ | apply kept_forL | apply kept_beginRacker | apply kept_ite | apply kept_ite_fst | apply kept_cond | apply kept_foldOver | apply kept_foldOver_fst | intro _ | refine kept_of_fst ‹_ = (_, _)› ?_ | simp only [kept_mk_iff] | split)

theorem kept_hostHalt {s₀ : State} (r : Nat) (s : State)  (hk : Kept s₀ s) : Kept s₀ (State.hostHalt r s) := by
  refine Kept.trans hk ?_
  simp only [State.hostHalt]
  repeat' (with_reducible first | exact Kept.refl _ | exact kept_id _ | apply kept_retire | apply kept_setRckH | apply kept_haltRacker | apply kept_ite | apply kept_ite_fst | apply kept_cond | apply kept_foldOver | apply kept_foldOver_fst | intro _ | refine kept_of_fst ‹_ = (_, _)› ?_ | simp only [kept_mk_iff] | split)

theorem kept_rckControl {s₀ : State} (r v : Nat) (stamped : Bool) (s : State)  (hk : Kept s₀ s) : Kept s₀ (State.rckControl r v stamped s) := by
  refine Kept.trans hk ?_
  simp only [State.rckControl]
  repeat' (with_reducible first | exact Kept.refl _ | exact kept_id _ | apply kept_beginRacker | apply kept_requestRacker | apply kept_hostHalt | apply kept_ite | apply kept_ite_fst | apply kept_cond | apply kept_foldOver | apply kept_foldOver_fst | intro _ | refine kept_of_fst ‹_ = (_, _)› ?_ | simp only [kept_mk_iff] | split)

theorem kept_execRackerStarts (r : Fin 16) (s : State) : ∃ t, execRackerStarts r s = .next t ∧ Kept s t := by
  refine ⟨_, rfl, ?_⟩
  repeat' (with_reducible first | exact Kept.refl _ | exact kept_id _ | apply kept_beginRacker | apply kept_ite | apply kept_ite_fst | apply kept_cond | apply kept_foldOver | apply kept_foldOver_fst | intro _ | refine kept_of_fst ‹_ = (_, _)› ?_ | simp only [kept_mk_iff] | split)

theorem kept_retireHcommit {s₀ : State} (r rd h : Nat) (floor : Option Nat) (s : State)  (hk : Kept s₀ s) : Kept s₀ (State.retireHcommit r rd h floor s) := by
  refine Kept.trans hk ?_
  simp only [State.retireHcommit]
  repeat' (with_reducible first | exact Kept.refl _ | exact kept_id _ | apply kept_setRckH | apply kept_bump | apply kept_headCommit | apply kept_effect | apply kept_giveStatus | apply kept_goto | apply kept_boundary | apply kept_ite | apply kept_ite_fst | apply kept_cond | apply kept_foldOver | apply kept_foldOver_fst | intro _ | refine kept_of_fst ‹_ = (_, _)› ?_ | simp only [kept_mk_iff] | split)

theorem kept_hcommit {s₀ : State} (r rd h : Nat) (s : State)  (hk : Kept s₀ s) : Kept s₀ (State.hcommit r rd h s) := by
  refine Kept.trans hk ?_
  simp only [State.hcommit]
  repeat' (with_reducible first | exact Kept.refl _ | exact kept_id _ | apply kept_startWait | apply kept_retire | apply kept_retireHcommit | apply kept_ite | apply kept_ite_fst | apply kept_cond | apply kept_foldOver | apply kept_foldOver_fst | intro _ | refine kept_of_fst ‹_ = (_, _)› ?_ | simp only [kept_mk_iff] | split)

theorem kept_execHcommit (r : Fin 16) (s : State) : ∃ t, execHcommit r s = .next t ∧ Kept s t := by
  refine ⟨_, rfl, ?_⟩
  repeat' (with_reducible first | exact Kept.refl _ | exact kept_id _ | apply kept_issue | apply kept_advance | apply kept_hcommit | apply kept_ite | apply kept_ite_fst | apply kept_cond | apply kept_foldOver | apply kept_foldOver_fst | intro _ | refine kept_of_fst ‹_ = (_, _)› ?_ | simp only [kept_mk_iff] | split)

theorem kept_execOperationWaitDone (r : Fin 16) (s : State) : ∃ t, execOperationWaitDone r s = .next t ∧ Kept s t := by
  refine ⟨_, rfl, ?_⟩
  repeat' (with_reducible first | exact Kept.refl _ | exact kept_id _ | apply kept_retire | apply kept_setP | apply kept_hcommit | apply kept_commitEmpty | apply kept_operate | apply kept_ite | apply kept_ite_fst | apply kept_cond | apply kept_foldOver | apply kept_foldOver_fst | intro _ | refine kept_of_fst ‹_ = (_, _)› ?_ | simp only [kept_mk_iff] | split)

theorem kept_execLmarkMark (r : Fin 16) (s : State) : ∃ t, execLmarkMark r s = .next t ∧ Kept s t := by
  refine ⟨_, rfl, ?_⟩
  repeat' (with_reducible first | exact Kept.refl _ | exact kept_id _ | apply kept_issue | apply kept_advance | apply kept_addMark | apply kept_effect | apply kept_giveStatus | apply kept_goto | apply kept_boundary | apply kept_ite | apply kept_ite_fst | apply kept_cond | apply kept_foldOver | apply kept_foldOver_fst | intro _ | refine kept_of_fst ‹_ = (_, _)› ?_ | simp only [kept_mk_iff] | split)

theorem kept_execLmarkEpoch (r : Fin 16) (s : State) : ∃ t, execLmarkEpoch r s = .next t ∧ Kept s t := by
  refine ⟨_, rfl, ?_⟩
  repeat' (with_reducible first | exact Kept.refl _ | exact kept_id _ | apply kept_issue | apply kept_trap | apply kept_advance | apply kept_requestEpoch | apply kept_effect | apply kept_setGreg | apply kept_goto | apply kept_boundary | apply kept_ite | apply kept_ite_fst | apply kept_cond | apply kept_foldOver | apply kept_foldOver_fst | intro _ | refine kept_of_fst ‹_ = (_, _)› ?_ | simp only [kept_mk_iff] | split)

theorem kept_execLease (r : Fin 16) (s : State) : ∃ t, execLease r s = .next t ∧ Kept s t := by
  refine ⟨_, rfl, ?_⟩
  repeat' (with_reducible first | exact Kept.refl _ | exact kept_id _ | apply kept_issue | apply kept_giveStatus | apply kept_retire | apply kept_leaseRequest | apply kept_effect | apply kept_startWait | apply kept_requestFabLease | apply kept_ite | apply kept_ite_fst | apply kept_cond | apply kept_foldOver | apply kept_foldOver_fst | intro _ | refine kept_of_fst ‹_ = (_, _)› ?_ | simp only [kept_mk_iff] | split)

theorem kept_freeFabric {s₀ : State} (holder id prio : Nat) (s : State)  (hk : Kept s₀ s) : Kept s₀ (State.freeFabric holder id prio s).1 := by
  refine Kept.trans hk ?_
  simp only [State.freeFabric]
  repeat' (with_reducible first | exact Kept.refl _ | exact kept_id _ | apply kept_expireLease | apply kept_requestFabLease | apply kept_endLease | apply kept_ite | apply kept_ite_fst | apply kept_cond | apply kept_foldOver | apply kept_foldOver_fst | intro _ | refine kept_of_fst ‹_ = (_, _)› ?_ | simp only [kept_mk_iff] | split)

theorem kept_execFree (r : Fin 16) (s : State) : ∃ t, execFree r s = .next t ∧ Kept s t := by
  refine ⟨_, rfl, ?_⟩
  repeat' (with_reducible first | exact Kept.refl _ | exact kept_id _ | apply kept_issue | apply kept_freeLocal | apply kept_freeFabric | apply kept_effect | apply kept_giveStatus | apply kept_retire | apply kept_ite | apply kept_ite_fst | apply kept_cond | apply kept_foldOver | apply kept_foldOver_fst | intro _ | refine kept_of_fst ‹_ = (_, _)› ?_ | simp only [kept_mk_iff] | split)

theorem kept_hostLease {s₀ : State} (holder v : Nat) (s : State)  (hk : Kept s₀ s) : Kept s₀ (State.hostLease holder v s) := by
  refine Kept.trans hk ?_
  simp only [State.hostLease]
  repeat' (with_reducible first | exact Kept.refl _ | exact kept_id _ | apply kept_freeLocal | apply kept_freeFabric | apply kept_wr | apply kept_leaseRequest | apply kept_requestFabLease | apply kept_ite | apply kept_ite_fst | apply kept_cond | apply kept_foldOver | apply kept_foldOver_fst | intro _ | refine kept_of_fst ‹_ = (_, _)› ?_ | simp only [kept_mk_iff] | split)

theorem kept_execLeaseTimeout (who : Fin 17) (s : State) : ∃ t, execLeaseTimeout who s = .next t ∧ Kept s t := by
  refine ⟨_, rfl, ?_⟩
  repeat' (with_reducible first | exact Kept.refl _ | exact kept_id _ | apply kept_wr | apply kept_giveStatus | apply kept_resumeAt | apply kept_ite | apply kept_ite_fst | apply kept_cond | apply kept_foldOver | apply kept_foldOver_fst | intro _ | refine kept_of_fst ‹_ = (_, _)› ?_ | simp only [kept_mk_iff] | split)

theorem kept_ringTwin {s₀ : State} (r k : Nat) (s : State)  (hk : Kept s₀ s) : Kept s₀ (State.ringTwin r k s) := by
  refine Kept.trans hk ?_
  simp only [State.ringTwin]
  repeat' (with_reducible first | exact Kept.refl _ | exact kept_id _ | apply kept_sendMirror | apply kept_setMailH | apply kept_ite | apply kept_ite_fst | apply kept_cond | apply kept_foldOver | apply kept_foldOver_fst | intro _ | refine kept_of_fst ‹_ = (_, _)› ?_ | simp only [kept_mk_iff] | split)

theorem kept_ringChannel {s₀ : State} (r c code k : Nat) (s : State)  (hk : Kept s₀ s) : Kept s₀ (State.ringChannel r c code k s) := by
  refine Kept.trans hk ?_
  simp only [State.ringChannel]
  repeat' (with_reducible first | exact Kept.refl _ | exact kept_id _ | apply kept_tell | apply kept_ringTwin | apply kept_setBells | apply kept_ite | apply kept_ite_fst | apply kept_cond | apply kept_foldOver | apply kept_foldOver_fst | intro _ | refine kept_of_fst ‹_ = (_, _)› ?_ | simp only [kept_mk_iff] | split)

theorem kept_execRing (r : Fin 16) (s : State) : ∃ t, execRing r s = .next t ∧ Kept s t := by
  refine ⟨_, rfl, ?_⟩
  repeat' (with_reducible first | exact Kept.refl _ | exact kept_id _ | apply kept_issue | apply kept_giveStatus | apply kept_retire | apply kept_ringChannel | apply kept_effect | apply kept_ite | apply kept_ite_fst | apply kept_cond | apply kept_foldOver | apply kept_foldOver_fst | intro _ | refine kept_of_fst ‹_ = (_, _)› ?_ | simp only [kept_mk_iff] | split)

theorem kept_execPostMsg (r : Fin 16) (ecc : Bool) (s : State) : ∃ t, execPostMsg r ecc s = .next t ∧ Kept s t := by
  refine ⟨_, rfl, ?_⟩
  repeat' (with_reducible first | exact Kept.refl _ | exact kept_id _ | apply kept_issue | apply kept_trap | apply kept_giveStatus | apply kept_retire | apply kept_makeRoom | apply kept_sendSlot | apply kept_effect | apply kept_ite | apply kept_ite_fst | apply kept_cond | apply kept_foldOver | apply kept_foldOver_fst | intro _ | refine kept_of_fst ‹_ = (_, _)› ?_ | simp only [kept_mk_iff] | split)

end Sys2Proof.Machine
end

