-- ==== Sys2Proof/Laws/KeptEngine.lean ====
section
/-! SUPPORT. What the operations of Machine/Engine.lean keep. -/

set_option linter.unusedTactic false
set_option linter.unreachableTactic false
set_option linter.unusedSimpArgs false

namespace Sys2Proof.Machine

theorem kept_sendRecords {s₀ : State} (src : Nat) (s : State)  (hk : Kept s₀ s) : Kept s₀ (State.sendRecords src s) := by
  refine Kept.trans hk ?_
  simp only [State.sendRecords]
  repeat' (with_reducible first | exact Kept.refl _ | exact kept_id _ | apply kept_forL | apply kept_tell | apply kept_ite | apply kept_ite_fst | apply kept_cond | apply kept_foldOver | apply kept_foldOver_fst | intro _ | refine kept_of_fst ‹_ = (_, _)› ?_ | simp only [kept_mk_iff] | split)

theorem kept_execInputFrameComplete (i : Fin 4736) (s : State) : ∃ t, execInputFrameComplete i s = .next t ∧ Kept s t := by
  refine ⟨_, rfl, ?_⟩
  repeat' (with_reducible first | exact Kept.refl _ | exact kept_id _ | apply kept_inputFrameComplete | apply kept_sendRecords | apply kept_ite | apply kept_ite_fst | apply kept_cond | apply kept_foldOver | apply kept_foldOver_fst | intro _ | refine kept_of_fst ‹_ = (_, _)› ?_ | simp only [kept_mk_iff] | split)

theorem kept_execOutputFrameStart (d : Fin 4608) (s : State) : ∃ t, execOutputFrameStart d s = .next t ∧ Kept s t := by
  refine ⟨_, rfl, ?_⟩
  repeat' (with_reducible first | exact Kept.refl _ | exact kept_id _ | apply kept_startFrame | apply kept_ite | apply kept_ite_fst | apply kept_cond | apply kept_foldOver | apply kept_foldOver_fst | intro _ | refine kept_of_fst ‹_ = (_, _)› ?_ | simp only [kept_mk_iff] | split)

theorem kept_readElastic {s₀ : State} (k lo hi start : Nat) (book : Bool) (s : State)  (hk : Kept s₀ s) : Kept s₀ (State.readElastic k lo hi start book s).1 := by
  refine Kept.trans hk ?_
  simp only [State.readElastic]
  repeat' (with_reducible first | exact Kept.refl _ | exact kept_id _ | apply kept_setElastic | apply kept_forL | apply kept_bookCopy | apply kept_bump | apply kept_raise | apply kept_bookOut | apply kept_ite | apply kept_ite_fst | apply kept_cond | apply kept_foldOver | apply kept_foldOver_fst | intro _ | refine kept_of_fst ‹_ = (_, _)› ?_ | simp only [kept_mk_iff] | split)

theorem kept_tickContext {s₀ : State} (x : Nat) (s : State)  (hk : Kept s₀ s) : Kept s₀ (State.tickContext x s).1 := by
  refine Kept.trans hk ?_
  simp only [State.tickContext]
  repeat' (with_reducible first | exact Kept.refl _ | exact kept_id _ | apply kept_forL | apply kept_bookThrough | apply kept_bump | apply kept_raise | apply kept_bookIn | apply kept_setRxH | apply kept_bookCopy | apply kept_ite | apply kept_ite_fst | apply kept_cond | apply kept_foldOver | apply kept_foldOver_fst | intro _ | refine kept_of_fst ‹_ = (_, _)› ?_ | simp only [kept_mk_iff] | split)

theorem kept_tickLines {s₀ : State} (arrived : List (Nat × Sample)) (s : State)  (hk : Kept s₀ s) : Kept s₀ (State.tickLines arrived s) := by
  refine Kept.trans hk ?_
  simp only [State.tickLines]
  repeat' (with_reducible first | exact Kept.refl _ | exact kept_id _ | apply kept_forL | apply kept_tickSource | apply kept_ite | apply kept_ite_fst | apply kept_cond | apply kept_foldOver | apply kept_foldOver_fst | intro _ | refine kept_of_fst ‹_ = (_, _)› ?_ | simp only [kept_mk_iff] | split)

theorem kept_setCur {s₀ : State} (c w : Nat) (s : State)  (hk : Kept s₀ s) : Kept s₀ (State.setCur c w s) := by
  refine Kept.trans hk ?_
  simp only [State.setCur]
  repeat' (with_reducible first | exact Kept.refl _ | exact kept_id _ | apply kept_setSrcH | apply kept_ite | apply kept_ite_fst | apply kept_cond | apply kept_foldOver | apply kept_foldOver_fst | intro _ | refine kept_of_fst ‹_ = (_, _)› ?_ | simp only [kept_mk_iff] | split)

theorem kept_tickI2sIn {s₀ : State} (master : List (Fin 8 × Nat × Nat)) (s : State)  (hk : Kept s₀ s) : Kept s₀ (State.tickI2sIn master s) := by
  refine Kept.trans hk ?_
  simp only [State.tickI2sIn]
  repeat' (with_reducible first | exact Kept.refl _ | exact kept_id _ | apply kept_forN | apply kept_setCur | apply kept_popFifo | apply kept_setI2sH | apply kept_showFill | apply kept_ite | apply kept_ite_fst | apply kept_cond | apply kept_foldOver | apply kept_foldOver_fst | intro _ | refine kept_of_fst ‹_ = (_, _)› ?_ | simp only [kept_mk_iff] | split)

theorem kept_tickRemote {s₀ : State} (s : State)  (hk : Kept s₀ s) : Kept s₀ (State.tickRemote s) := by
  refine Kept.trans hk ?_
  simp only [State.tickRemote]
  repeat' (with_reducible first | exact Kept.refl _ | exact kept_id _ | apply kept_forL | apply kept_readElastic | apply kept_setCur | apply kept_takeStatus | apply kept_ite | apply kept_ite_fst | apply kept_cond | apply kept_foldOver | apply kept_foldOver_fst | intro _ | refine kept_of_fst ‹_ = (_, _)› ?_ | simp only [kept_mk_iff] | split)

theorem kept_tickFades {s₀ : State} (read : List Nat) (s : State)  (hk : Kept s₀ s) : Kept s₀ (State.tickFades read s) := by
  refine Kept.trans hk ?_
  simp only [State.tickFades]
  repeat' (with_reducible first | exact Kept.refl _ | exact kept_id _ | apply kept_forL | apply kept_setDstH | apply kept_ite | apply kept_ite_fst | apply kept_cond | apply kept_foldOver | apply kept_foldOver_fst | intro _ | refine kept_of_fst ‹_ = (_, _)› ?_ | simp only [kept_mk_iff] | split)

theorem kept_tickI2sOut {s₀ : State} (s : State)  (hk : Kept s₀ s) : Kept s₀ (State.tickI2sOut s) := by
  refine Kept.trans hk ?_
  simp only [State.tickI2sOut]
  repeat' (with_reducible first | exact Kept.refl _ | exact kept_id _ | apply kept_forN | apply kept_emit | apply kept_setI2sH | apply kept_showFill | apply kept_ite | apply kept_ite_fst | apply kept_cond | apply kept_foldOver | apply kept_foldOver_fst | intro _ | refine kept_of_fst ‹_ = (_, _)› ?_ | simp only [kept_mk_iff] | split)

theorem kept_tickDone {s₀ : State} (s : State)  (hk : Kept s₀ s) : Kept s₀ (State.tickDone s) := by
  refine Kept.trans hk ?_
  simp only [State.tickDone]
  repeat' (with_reducible first | exact Kept.refl _ | exact kept_id _ | apply kept_ite | apply kept_ite_fst | apply kept_cond | apply kept_foldOver | apply kept_foldOver_fst | intro _ | refine kept_of_fst ‹_ = (_, _)› ?_ | simp only [kept_mk_iff] | split)

theorem kept_execEngineTick (master : List (Fin 8 × Nat × Nat)) (s : State) : ∃ t, execEngineTick master s = .next t ∧ Kept s t := by
  refine ⟨_, rfl, ?_⟩
  repeat' (with_reducible first | exact Kept.refl _ | exact kept_id _ | apply kept_tickDone | apply kept_forN | apply kept_setGenH | apply kept_foldOver | apply kept_readElastic | apply kept_forL | apply kept_takeStatus | apply kept_bookOut | apply kept_wr | apply kept_raise | apply kept_tickContext | apply kept_tickLines | apply kept_tickI2sIn | apply kept_tickRemote | apply kept_tickFades | apply kept_feedDest | apply kept_readDest | apply kept_setTxH | apply kept_tickI2sOut | apply kept_ite | apply kept_ite_fst | apply kept_cond | apply kept_foldOver | apply kept_foldOver_fst | intro _ | refine kept_of_fst ‹_ = (_, _)› ?_ | simp only [kept_mk_iff] | split)

end Sys2Proof.Machine
end

