-- ==== Sys2Proof/Laws/KeptPower.lean ====
section
/-! SUPPORT. What the operations of Machine/Power.lean keep. -/

set_option linter.unusedTactic false
set_option linter.unreachableTactic false
set_option linter.unusedSimpArgs false

namespace Sys2Proof.Machine

theorem kept_showAlert {s₀ : State} (s : State)  (hk : Kept s₀ s) : Kept s₀ (State.showAlert s) := by
  refine Kept.trans hk ?_
  simp only [State.showAlert]
  repeat' (with_reducible first | exact Kept.refl _ | exact kept_id _ | apply kept_wrB | apply kept_ite | apply kept_ite_fst | apply kept_cond | apply kept_foldOver | apply kept_foldOver_fst | intro _ | refine kept_of_fst ‹_ = (_, _)› ?_ | simp only [kept_mk_iff] | split)

theorem kept_release {s₀ : State} (s : State)  (hk : Kept s₀ s) : Kept s₀ (State.release s) := by
  refine Kept.trans hk ?_
  simp only [State.release]
  repeat' (with_reducible first | exact Kept.refl _ | exact kept_id _ | apply kept_wr | apply kept_setPlanH | apply kept_forN | apply kept_setSynState | apply kept_setClaim | apply kept_ite | apply kept_ite_fst | apply kept_cond | apply kept_foldOver | apply kept_foldOver_fst | intro _ | refine kept_of_fst ‹_ = (_, _)› ?_ | simp only [kept_mk_iff] | split)

theorem kept_dropLines {s₀ : State} (s : State)  (hk : Kept s₀ s) : Kept s₀ (State.dropLines s) := by
  refine Kept.trans hk ?_
  simp only [State.dropLines]
  repeat' (with_reducible first | exact Kept.refl _ | exact kept_id _ | apply kept_forN | apply kept_stopTx | apply kept_setClaim | apply kept_unfence | apply kept_ite | apply kept_ite_fst | apply kept_cond | apply kept_foldOver | apply kept_foldOver_fst | intro _ | refine kept_of_fst ‹_ = (_, _)› ?_ | simp only [kept_mk_iff] | split)

theorem kept_deviceReset {s₀ : State} (cause : Nat) (s : State) (hk : Kept s₀ s) : Kept s₀ (State.deviceReset cause s) := by
  refine Kept.trans hk ?_
  have h0 : Kept s s.dropLines := kept_dropLines _ (Kept.refl s)
  simp only [State.deviceReset]
  generalize s.dropLines = u at h0 ⊢
  have h1 : Kept s { State.reset with
      pending := u.pending, now := u.now, lastRead := u.lastRead, free := u.free, out := u.out, otp := u.otp, nor := u.nor,
      pin := { u.pin with ppsOut := none, ppsIn := none, ppsBad := false }, jtag := u.jtag,
      twn := { claimLow := u.twn.claimLow }, plan := [(0, { anchorT := u.now })] } := by
    refine ⟨h0.pending, h0.now, fun c => ?_⟩
    have c1 := h0.canon c
    simp only [State.canon, Bool.and_eq_true] at c1 ⊢
    exact ⟨⟨rfl, rfl⟩, c1.2⟩
  have h2 := kept_wr _ PWR_RST_CAUSE_CAUSE (if u.pin.vin < 8000 then 0 else cause)
    (kept_wrB _ TWN_STATUS_CLAIM_IN (u.on TWN_STATUS_CLAIM_IN) (kept_wrB _ TWN_STATUS_FENCED (u.on TWN_STATUS_FENCED) h1))
  generalize State.wr _ PWR_RST_CAUSE_CAUSE (if u.pin.vin < 8000 then 0 else cause) = w at h2 ⊢
  split
  · exact h2
  · exact kept_release _ h2
theorem kept_setVin {s₀ : State} (mv : Nat) (s : State)  (hk : Kept s₀ s) : Kept s₀ (State.setVin mv s) := by
  refine Kept.trans hk ?_
  simp only [State.setVin]
  repeat' (with_reducible first | exact Kept.refl _ | exact kept_id _ | apply kept_ite | apply kept_ite_fst | apply kept_cond | apply kept_foldOver | apply kept_foldOver_fst | intro _ | refine kept_of_fst ‹_ = (_, _)› ?_ | simp only [kept_mk_iff] | split)

theorem kept_execVinValid (mv : Nat) (devAddr : Fin 32) (side : Fin 2) (s : State) : ∃ t, execVinValid mv devAddr side s = .next t ∧ Kept s t := by
  refine ⟨_, rfl, ?_⟩
  repeat' (with_reducible first | exact Kept.refl _ | exact kept_id _ | apply kept_setVin | apply kept_release | apply kept_ite | apply kept_ite_fst | apply kept_cond | apply kept_foldOver | apply kept_foldOver_fst | intro _ | refine kept_of_fst ‹_ = (_, _)› ?_ | simp only [kept_mk_iff] | split)

theorem kept_execVinWarn (mv : Nat) (s : State) : ∃ t, execVinWarn mv s = .next t ∧ Kept s t := by
  refine ⟨_, rfl, ?_⟩
  repeat' (with_reducible first | exact Kept.refl _ | exact kept_id _ | apply kept_setVin | apply kept_raise | apply kept_showAlert | apply kept_ite | apply kept_ite_fst | apply kept_cond | apply kept_foldOver | apply kept_foldOver_fst | intro _ | refine kept_of_fst ‹_ = (_, _)› ?_ | simp only [kept_mk_iff] | split)

theorem kept_execVinFault (mv : Nat) (s : State) : ∃ t, execVinFault mv s = .next t ∧ Kept s t := by
  refine ⟨_, rfl, ?_⟩
  repeat' (with_reducible first | exact Kept.refl _ | exact kept_id _ | apply kept_setVin | apply kept_wr | apply kept_deviceReset | apply kept_ite | apply kept_ite_fst | apply kept_cond | apply kept_foldOver | apply kept_foldOver_fst | intro _ | refine kept_of_fst ‹_ = (_, _)› ?_ | simp only [kept_mk_iff] | split)

theorem kept_resetKey {s₀ : State} (v : Nat) (s : State)  (hk : Kept s₀ s) : Kept s₀ (State.resetKey v s) := by
  refine Kept.trans hk ?_
  simp only [State.resetKey]
  repeat' (with_reducible first | exact Kept.refl _ | exact kept_id _ | apply kept_deviceReset | apply kept_ite | apply kept_ite_fst | apply kept_cond | apply kept_foldOver | apply kept_foldOver_fst | intro _ | refine kept_of_fst ‹_ = (_, _)› ?_ | simp only [kept_mk_iff] | split)

theorem kept_execAlwaysOnRegulatorFault (s : State) : ∃ t, execAlwaysOnRegulatorFault s = .next t ∧ Kept s t := by
  refine ⟨_, rfl, ?_⟩
  repeat' (with_reducible first | exact Kept.refl _ | exact kept_id _ | apply kept_deviceReset | apply kept_ite | apply kept_ite_fst | apply kept_cond | apply kept_foldOver | apply kept_foldOver_fst | intro _ | refine kept_of_fst ‹_ = (_, _)› ?_ | simp only [kept_mk_iff] | split)

theorem kept_vinThrWrite {s₀ : State} (v : Nat) (s : State)  (hk : Kept s₀ s) : Kept s₀ (State.vinThrWrite v s) := by
  refine Kept.trans hk ?_
  simp only [State.vinThrWrite]
  repeat' (with_reducible first | exact Kept.refl _ | exact kept_id _ | apply kept_wr | apply kept_ite | apply kept_ite_fst | apply kept_cond | apply kept_foldOver | apply kept_foldOver_fst | intro _ | refine kept_of_fst ‹_ = (_, _)› ?_ | simp only [kept_mk_iff] | split)

theorem kept_cellarOff {s₀ : State} (s : State)  (hk : Kept s₀ s) : Kept s₀ (State.cellarOff s) := by
  refine Kept.trans hk ?_
  simp only [State.cellarOff]
  repeat' (with_reducible first | exact Kept.refl _ | exact kept_id _ | apply kept_forL | apply kept_setInH | apply kept_forN | apply kept_loseSource | apply kept_ite | apply kept_ite_fst | apply kept_cond | apply kept_foldOver | apply kept_foldOver_fst | intro _ | refine kept_of_fst ‹_ = (_, _)› ?_ | simp only [kept_mk_iff] | split)

theorem kept_blockOff {s₀ : State} (i : Nat) (s : State)  (hk : Kept s₀ s) : Kept s₀ (State.blockOff i s) := by
  refine Kept.trans hk ?_
  simp only [State.blockOff]
  repeat' (with_reducible first | exact Kept.refl _ | exact kept_id _ | apply kept_trellisOff | apply kept_cellarOff | apply kept_wr | apply kept_setSensH | apply kept_forL | apply kept_cutOutput | apply kept_inputsAbsent | apply kept_headOff | apply kept_dropElastic | apply kept_setDstH | apply kept_dropResident | apply kept_bypassDelay | apply kept_engineOff | apply kept_ptpCheck | apply kept_haltRacker | apply kept_resetParty | apply kept_releaseLocks | apply kept_pcieDown | apply kept_forN | apply kept_i2sLost | apply kept_ite | apply kept_ite_fst | apply kept_cond | apply kept_foldOver | apply kept_foldOver_fst | intro _ | refine kept_of_fst ‹_ = (_, _)› ?_ | simp only [kept_mk_iff] | split)

theorem kept_toSafeClock {s₀ : State} (k : Nat) (s : State)  (hk : Kept s₀ s) : Kept s₀ (State.toSafeClock k s) := by
  refine Kept.trans hk ?_
  simp only [State.toSafeClock]
  repeat' (with_reducible first | exact Kept.refl _ | exact kept_id _ | apply kept_wr | apply kept_forL | apply kept_inputsAbsent | apply kept_cutOutput | apply kept_cellarOff | apply kept_ite | apply kept_ite_fst | apply kept_cond | apply kept_foldOver | apply kept_foldOver_fst | intro _ | refine kept_of_fst ‹_ = (_, _)› ?_ | simp only [kept_mk_iff] | split)

theorem kept_relockLogic {s₀ : State} (k : Nat) (s : State)  (hk : Kept s₀ s) : Kept s₀ (State.relockLogic k s) := by
  refine Kept.trans hk ?_
  simp only [State.relockLogic]
  repeat' (with_reducible first | exact Kept.refl _ | exact kept_id _ | apply kept_toSafeClock | apply kept_relock | apply kept_ite | apply kept_ite_fst | apply kept_cond | apply kept_foldOver | apply kept_foldOver_fst | intro _ | refine kept_of_fst ‹_ = (_, _)› ?_ | simp only [kept_mk_iff] | split)

theorem kept_execLogicPllUnlock (k : Fin 5) (s : State) : ∃ t, execLogicPllUnlock k s = .next t ∧ Kept s t := by
  refine ⟨_, rfl, ?_⟩
  repeat' (with_reducible first | exact Kept.refl _ | exact kept_id _ | apply kept_toSafeClock | apply kept_synUnlock | apply kept_ite | apply kept_ite_fst | apply kept_cond | apply kept_foldOver | apply kept_foldOver_fst | intro _ | refine kept_of_fst ‹_ = (_, _)› ?_ | simp only [kept_mk_iff] | split)

theorem kept_execSafeClockReturn (k : Fin 5) (s : State) : ∃ t, execSafeClockReturn k s = .next t ∧ Kept s t := by
  refine ⟨_, rfl, ?_⟩
  repeat' (with_reducible first | exact Kept.refl _ | exact kept_id _ | apply kept_settle | apply kept_wr | apply kept_ite | apply kept_ite_fst | apply kept_cond | apply kept_foldOver | apply kept_foldOver_fst | intro _ | refine kept_of_fst ‹_ = (_, _)› ?_ | simp only [kept_mk_iff] | split)

theorem kept_synRelock {s₀ : State} (i : Nat) (s : State)  (hk : Kept s₀ s) : Kept s₀ (State.synRelock i s) := by
  refine Kept.trans hk ?_
  simp only [State.synRelock]
  repeat' (with_reducible first | exact Kept.refl _ | exact kept_id _ | apply kept_relockLogic | apply kept_relock | apply kept_ite | apply kept_ite_fst | apply kept_cond | apply kept_foldOver | apply kept_foldOver_fst | intro _ | refine kept_of_fst ‹_ = (_, _)› ?_ | simp only [kept_mk_iff] | split)

theorem kept_synCtrlWrite {s₀ : State} (i v : Nat) (s : State)  (hk : Kept s₀ s) : Kept s₀ (State.synCtrlWrite i v s) := by
  refine Kept.trans hk ?_
  simp only [State.synCtrlWrite]
  repeat' (with_reducible first | exact Kept.refl _ | exact kept_id _ | apply kept_when | apply kept_synFlush | apply kept_synRelock | apply kept_ite | apply kept_ite_fst | apply kept_cond | apply kept_foldOver | apply kept_foldOver_fst | intro _ | refine kept_of_fst ‹_ = (_, _)› ?_ | simp only [kept_mk_iff] | split)

theorem kept_blockOn {s₀ : State} (i : Nat) (s : State)  (hk : Kept s₀ s) : Kept s₀ (State.blockOn i s) := by
  refine Kept.trans hk ?_
  simp only [State.blockOn]
  repeat' (with_reducible first | exact Kept.refl _ | exact kept_id _ | apply kept_trellisOn | apply kept_headReady | apply kept_forL | apply kept_bypassDelay | apply kept_ptpCheck | apply kept_ite | apply kept_ite_fst | apply kept_cond | apply kept_foldOver | apply kept_foldOver_fst | intro _ | refine kept_of_fst ‹_ = (_, _)› ?_ | simp only [kept_mk_iff] | split)

theorem kept_domainOff {s₀ : State} (i : Nat) (s : State)  (hk : Kept s₀ s) : Kept s₀ (State.domainOff i s) := by
  refine Kept.trans hk ?_
  simp only [State.domainOff]
  repeat' (with_reducible first | exact Kept.refl _ | exact kept_id _ | apply kept_setReady | apply kept_blockOff | apply kept_ite | apply kept_ite_fst | apply kept_cond | apply kept_foldOver | apply kept_foldOver_fst | intro _ | refine kept_of_fst ‹_ = (_, _)› ?_ | simp only [kept_mk_iff] | split)

theorem kept_powerUpRelock {s₀ : State} (i : Nat) (s : State)  (hk : Kept s₀ s) : Kept s₀ (State.powerUpRelock i s) := by
  refine Kept.trans hk ?_
  simp only [State.powerUpRelock]
  repeat' (with_reducible first | exact Kept.refl _ | exact kept_id _ | apply kept_relockLogic | apply kept_ite | apply kept_ite_fst | apply kept_cond | apply kept_foldOver | apply kept_foldOver_fst | intro _ | refine kept_of_fst ‹_ = (_, _)› ?_ | simp only [kept_mk_iff] | split)

theorem kept_execDomainReady (i : Fin 96) (s : State) : ∃ t, execDomainReady i s = .next t ∧ Kept s t := by
  refine ⟨_, rfl, ?_⟩
  repeat' (with_reducible first | exact Kept.refl _ | exact kept_id _ | apply kept_settle | apply kept_powerUpRelock | apply kept_setReady | apply kept_blockOn | apply kept_ite | apply kept_ite_fst | apply kept_cond | apply kept_foldOver | apply kept_foldOver_fst | intro _ | refine kept_of_fst ‹_ = (_, _)› ?_ | simp only [kept_mk_iff] | split)

theorem kept_finishLines {s₀ : State} (i : Nat) (s : State)  (hk : Kept s₀ s) : Kept s₀ (State.finishLines i s) := by
  refine Kept.trans hk ?_
  simp only [State.finishLines]
  repeat' (with_reducible first | exact Kept.refl _ | exact kept_id _ | apply kept_forL | apply kept_setOutH | apply kept_ite | apply kept_ite_fst | apply kept_cond | apply kept_foldOver | apply kept_foldOver_fst | intro _ | refine kept_of_fst ‹_ = (_, _)› ?_ | simp only [kept_mk_iff] | split)

theorem kept_execDomainStop (i : Fin 96) (s : State) : ∃ t, execDomainStop i s = .next t ∧ Kept s t := by
  refine ⟨_, rfl, ?_⟩
  repeat' (with_reducible first | exact Kept.refl _ | exact kept_id _ | apply kept_finishLines | apply kept_domainOff | apply kept_ite | apply kept_ite_fst | apply kept_cond | apply kept_foldOver | apply kept_foldOver_fst | intro _ | refine kept_of_fst ‹_ = (_, _)› ?_ | simp only [kept_mk_iff] | split)

theorem kept_execRegulatorFault (i : Fin 96) (s : State) : ∃ t, execRegulatorFault i s = .next t ∧ Kept s t := by
  refine ⟨_, rfl, ?_⟩
  repeat' (with_reducible first | exact Kept.refl _ | exact kept_id _ | apply kept_domainOff | apply kept_raise | apply kept_trigger | apply kept_ite | apply kept_ite_fst | apply kept_cond | apply kept_foldOver | apply kept_foldOver_fst | intro _ | refine kept_of_fst ‹_ = (_, _)› ?_ | simp only [kept_mk_iff] | split)

theorem kept_domReqWrite {s₀ : State} (m k v : Nat) (s : State)  (hk : Kept s₀ s) : Kept s₀ (State.domReqWrite m k v s) := by
  refine Kept.trans hk ?_
  simp only [State.domReqWrite]
  repeat' (with_reducible first | exact Kept.refl _ | exact kept_id _ | apply kept_forN | apply kept_wr | apply kept_raise | apply kept_domainOff | apply kept_ite | apply kept_ite_fst | apply kept_cond | apply kept_foldOver | apply kept_foldOver_fst | intro _ | refine kept_of_fst ‹_ = (_, _)› ?_ | simp only [kept_mk_iff] | split)

theorem kept_trackCool {s₀ : State} (s : State)  (hk : Kept s₀ s) : Kept s₀ (State.trackCool s) := by
  refine Kept.trans hk ?_
  simp only [State.trackCool]
  repeat' (with_reducible first | exact Kept.refl _ | exact kept_id _ | apply kept_ite | apply kept_ite_fst | apply kept_cond | apply kept_foldOver | apply kept_foldOver_fst | intro _ | refine kept_of_fst ‹_ = (_, _)› ?_ | simp only [kept_mk_iff] | split)

theorem kept_setShed {s₀ : State} (l : Nat) (s : State)  (hk : Kept s₀ s) : Kept s₀ (State.setShed l s) := by
  refine Kept.trans hk ?_
  simp only [State.setShed]
  repeat' (with_reducible first | exact Kept.refl _ | exact kept_id _ | apply kept_wr | apply kept_wrB | apply kept_forL | apply kept_granted | apply kept_withdrawLoad | apply kept_loseSource | apply kept_trackCool | apply kept_ite | apply kept_ite_fst | apply kept_cond | apply kept_foldOver | apply kept_foldOver_fst | intro _ | refine kept_of_fst ‹_ = (_, _)› ?_ | simp only [kept_mk_iff] | split)

theorem kept_execShedRise (s : State) : ∃ t, execShedRise s = .next t ∧ Kept s t := by
  refine ⟨_, rfl, ?_⟩
  repeat' (with_reducible first | exact Kept.refl _ | exact kept_id _ | apply kept_setShed | apply kept_ite | apply kept_ite_fst | apply kept_cond | apply kept_foldOver | apply kept_foldOver_fst | intro _ | refine kept_of_fst ‹_ = (_, _)› ?_ | simp only [kept_mk_iff] | split)

theorem kept_execShedFall (s : State) : ∃ t, execShedFall s = .next t ∧ Kept s t := by
  refine ⟨_, rfl, ?_⟩
  repeat' (with_reducible first | exact Kept.refl _ | exact kept_id _ | apply kept_setShed | apply kept_ite | apply kept_ite_fst | apply kept_cond | apply kept_foldOver | apply kept_foldOver_fst | intro _ | refine kept_of_fst ‹_ = (_, _)› ?_ | simp only [kept_mk_iff] | split)

theorem kept_execThermalCritical (i : Fin 36) (s : State) : ∃ t, execThermalCritical i s = .next t ∧ Kept s t := by
  refine ⟨_, rfl, ?_⟩
  repeat' (with_reducible first | exact Kept.refl _ | exact kept_id _ | apply kept_trigger | apply kept_ite | apply kept_ite_fst | apply kept_cond | apply kept_foldOver | apply kept_foldOver_fst | intro _ | refine kept_of_fst ‹_ = (_, _)› ?_ | simp only [kept_mk_iff] | split)

theorem kept_shedThrWrite {s₀ : State} (v : Nat) (s : State)  (hk : Kept s₀ s) : Kept s₀ (State.shedThrWrite v s) := by
  refine Kept.trans hk ?_
  simp only [State.shedThrWrite]
  repeat' (with_reducible first | exact Kept.refl _ | exact kept_id _ | apply kept_setWord | apply kept_trackCool | apply kept_ite | apply kept_ite_fst | apply kept_cond | apply kept_foldOver | apply kept_foldOver_fst | intro _ | refine kept_of_fst ‹_ = (_, _)› ?_ | simp only [kept_mk_iff] | split)

theorem kept_execRailsUp (s : State) : ∃ t, execRailsUp s = .next t ∧ Kept s t := by
  refine ⟨_, rfl, ?_⟩
  repeat' (with_reducible first | exact Kept.refl _ | exact kept_id _ | apply kept_milestone | apply kept_ite | apply kept_ite_fst | apply kept_cond | apply kept_foldOver | apply kept_foldOver_fst | intro _ | refine kept_of_fst ‹_ = (_, _)› ?_ | simp only [kept_mk_iff] | split)

theorem kept_applyRecord {s₀ : State} (l : List Nat) (s : State)  (hk : Kept s₀ s) : Kept s₀ (State.applyRecord l s) := by
  refine Kept.trans hk ?_
  simp only [State.applyRecord]
  repeat' (with_reducible first | exact Kept.refl _ | exact kept_id _ | apply kept_wrB | apply kept_forN | apply kept_wr | apply kept_setTrlH | apply kept_ite | apply kept_ite_fst | apply kept_cond | apply kept_foldOver | apply kept_foldOver_fst | intro _ | refine kept_of_fst ‹_ = (_, _)› ?_ | simp only [kept_mk_iff] | split)

theorem kept_execOtpLoaded (s : State) : ∃ t, execOtpLoaded s = .next t ∧ Kept s t := by
  refine ⟨_, rfl, ?_⟩
  repeat' (with_reducible first | exact Kept.refl _ | exact kept_id _ | apply kept_wrB | apply kept_wr | apply kept_forN | apply kept_applyRecord | apply kept_setSynWord | apply kept_milestone | apply kept_ite | apply kept_ite_fst | apply kept_cond | apply kept_foldOver | apply kept_foldOver_fst | intro _ | refine kept_of_fst ‹_ = (_, _)› ?_ | simp only [kept_mk_iff] | split)

theorem kept_bootRoute {s₀ : State} (d src : Nat) (s : State)  (hk : Kept s₀ s) : Kept s₀ (State.bootRoute d src s) := by
  refine Kept.trans hk ?_
  simp only [State.bootRoute]
  repeat' (with_reducible first | exact Kept.refl _ | exact kept_id _ | apply kept_wr | apply kept_cover | apply kept_wrB | apply kept_followCode | apply kept_ite | apply kept_ite_fst | apply kept_cond | apply kept_foldOver | apply kept_foldOver_fst | intro _ | refine kept_of_fst ‹_ = (_, _)› ?_ | simp only [kept_mk_iff] | split)

theorem kept_startPlans {s₀ : State} (s : State)  (hk : Kept s₀ s) : Kept s₀ (State.startPlans s) := by
  refine Kept.trans hk ?_
  simp only [State.startPlans]
  repeat' (with_reducible first | exact Kept.refl _ | exact kept_id _ | apply kept_forN | apply kept_setPlanH | apply kept_startDivider | apply kept_wr | apply kept_updateFreqOnly | apply kept_ite | apply kept_ite_fst | apply kept_cond | apply kept_foldOver | apply kept_foldOver_fst | intro _ | refine kept_of_fst ‹_ = (_, _)› ?_ | simp only [kept_mk_iff] | split)

theorem kept_execTUse (s : State) : ∃ t, execTUse s = .next t ∧ Kept s t := by
  refine ⟨_, rfl, ?_⟩
  repeat' (with_reducible first | exact Kept.refl _ | exact kept_id _ | apply kept_startPlans | apply kept_forN | apply kept_bootRoute | apply kept_forL | apply kept_checkAligned | apply kept_milestone | apply kept_wr | apply kept_enterMode | apply kept_setClaim | apply kept_ite | apply kept_ite_fst | apply kept_cond | apply kept_foldOver | apply kept_foldOver_fst | intro _ | refine kept_of_fst ‹_ = (_, _)› ?_ | simp only [kept_mk_iff] | split)

theorem kept_execDefaultLeft (s : State) : ∃ t, execDefaultLeft s = .next t ∧ Kept s t := by
  refine ⟨_, rfl, ?_⟩
  repeat' (with_reducible first | exact Kept.refl _ | exact kept_id _ | apply kept_enterMode | apply kept_takeToken | apply kept_wr | apply kept_startAuto | apply kept_ite | apply kept_ite_fst | apply kept_cond | apply kept_foldOver | apply kept_foldOver_fst | intro _ | refine kept_of_fst ‹_ = (_, _)› ?_ | simp only [kept_mk_iff] | split)

theorem kept_execCellarTrained (s : State) : ∃ t, execCellarTrained s = .next t ∧ Kept s t := by
  refine ⟨_, rfl, ?_⟩
  repeat' (with_reducible first | exact Kept.refl _ | exact kept_id _ | apply kept_milestone | apply kept_wr | apply kept_ite | apply kept_ite_fst | apply kept_cond | apply kept_foldOver | apply kept_foldOver_fst | intro _ | refine kept_of_fst ‹_ = (_, _)› ?_ | simp only [kept_mk_iff] | split)

theorem kept_execCellarTrainingFail (s : State) : ∃ t, execCellarTrainingFail s = .next t ∧ Kept s t := by
  refine ⟨_, rfl, ?_⟩
  repeat' (with_reducible first | exact Kept.refl _ | exact kept_id _ | apply kept_wr | apply kept_capture | apply kept_ite | apply kept_ite_fst | apply kept_cond | apply kept_foldOver | apply kept_foldOver_fst | intro _ | refine kept_of_fst ‹_ = (_, _)› ?_ | simp only [kept_mk_iff] | split)

theorem kept_reqErr {s₀ : State} (s : State)  (hk : Kept s₀ s) : Kept s₀ (State.reqErr s) := by
  refine Kept.trans hk ?_
  simp only [State.reqErr]
  repeat' (with_reducible first | exact Kept.refl _ | exact kept_id _ | apply kept_raise | apply kept_ite | apply kept_ite_fst | apply kept_cond | apply kept_foldOver | apply kept_foldOver_fst | intro _ | refine kept_of_fst ‹_ = (_, _)› ?_ | simp only [kept_mk_iff] | split)

theorem kept_freeze {s₀ : State} (s : State)  (hk : Kept s₀ s) : Kept s₀ (State.freeze s) := by
  refine Kept.trans hk ?_
  simp only [State.freeze]
  repeat' (with_reducible first | exact Kept.refl _ | exact kept_id _ | apply kept_wr | apply kept_enterMode | apply kept_forN | apply kept_discardAll | apply kept_reqErr | apply kept_ite | apply kept_ite_fst | apply kept_cond | apply kept_foldOver | apply kept_foldOver_fst | intro _ | refine kept_of_fst ‹_ = (_, _)› ?_ | simp only [kept_mk_iff] | split)

theorem kept_thawNow {s₀ : State} (s : State)  (hk : Kept s₀ s) : Kept s₀ (State.thawNow s) := by
  refine Kept.trans hk ?_
  simp only [State.thawNow]
  repeat' (with_reducible first | exact Kept.refl _ | exact kept_id _ | apply kept_enterMode | apply kept_startAuto | apply kept_ite | apply kept_ite_fst | apply kept_cond | apply kept_foldOver | apply kept_foldOver_fst | intro _ | refine kept_of_fst ‹_ = (_, _)› ?_ | simp only [kept_mk_iff] | split)

theorem kept_thaw {s₀ : State} (s : State)  (hk : Kept s₀ s) : Kept s₀ (State.thaw s) := by
  refine Kept.trans hk ?_
  simp only [State.thaw]
  repeat' (with_reducible first | exact Kept.refl _ | exact kept_id _ | apply kept_reqErr | apply kept_thawNow | apply kept_ite | apply kept_ite_fst | apply kept_cond | apply kept_foldOver | apply kept_foldOver_fst | intro _ | refine kept_of_fst ‹_ = (_, _)› ?_ | simp only [kept_mk_iff] | split)

theorem kept_execThawApply (s : State) : ∃ t, execThawApply s = .next t ∧ Kept s t := by
  refine ⟨_, rfl, ?_⟩
  repeat' (with_reducible first | exact Kept.refl _ | exact kept_id _ | apply kept_thaw | apply kept_thawNow | apply kept_ite | apply kept_ite_fst | apply kept_cond | apply kept_foldOver | apply kept_foldOver_fst | intro _ | refine kept_of_fst ‹_ = (_, _)› ?_ | simp only [kept_mk_iff] | split)

theorem kept_diag {s₀ : State} (s : State)  (hk : Kept s₀ s) : Kept s₀ (State.diag s) := by
  refine Kept.trans hk ?_
  simp only [State.diag]
  repeat' (with_reducible first | exact Kept.refl _ | exact kept_id _ | apply kept_enterMode | apply kept_diagStart | apply kept_reqErr | apply kept_ite | apply kept_ite_fst | apply kept_cond | apply kept_foldOver | apply kept_foldOver_fst | intro _ | refine kept_of_fst ‹_ = (_, _)› ?_ | simp only [kept_mk_iff] | split)

theorem kept_quiesce {s₀ : State} (s : State)  (hk : Kept s₀ s) : Kept s₀ (State.quiesce s) := by
  refine Kept.trans hk ?_
  simp only [State.quiesce]
  repeat' (with_reducible first | exact Kept.refl _ | exact kept_id _ | apply kept_reqErr | apply kept_enterMode | apply kept_ite | apply kept_ite_fst | apply kept_cond | apply kept_foldOver | apply kept_foldOver_fst | intro _ | refine kept_of_fst ‹_ = (_, _)› ?_ | simp only [kept_mk_iff] | split)

theorem kept_rejoin {s₀ : State} (s : State)  (hk : Kept s₀ s) : Kept s₀ (State.rejoin s) := by
  refine Kept.trans hk ?_
  simp only [State.rejoin]
  repeat' (with_reducible first | exact Kept.refl _ | exact kept_id _ | apply kept_enterMode | apply kept_reqErr | apply kept_ite | apply kept_ite_fst | apply kept_cond | apply kept_foldOver | apply kept_foldOver_fst | intro _ | refine kept_of_fst ‹_ = (_, _)› ?_ | simp only [kept_mk_iff] | split)

theorem kept_topControl {s₀ : State} (v : Nat) (s : State)  (hk : Kept s₀ s) : Kept s₀ (State.topControl v s) := by
  refine Kept.trans hk ?_
  simp only [State.topControl]
  repeat' (with_reducible first | exact Kept.refl _ | exact kept_id _ | apply kept_quiesce | apply kept_freeze | apply kept_thaw | apply kept_diag | apply kept_rejoin | apply kept_ite | apply kept_ite_fst | apply kept_cond | apply kept_foldOver | apply kept_foldOver_fst | intro _ | refine kept_of_fst ‹_ = (_, _)› ?_ | simp only [kept_mk_iff] | split)

theorem kept_execQuiesceB1 (s : State) : ∃ t, execQuiesceB1 s = .next t ∧ Kept s t := by
  refine ⟨_, rfl, ?_⟩
  repeat' (with_reducible first | exact Kept.refl _ | exact kept_id _ | apply kept_quiesce | apply kept_haltAll | apply kept_closeBooks | apply kept_checkBooks | apply kept_setClaim | apply kept_releaseToken | apply kept_ite | apply kept_ite_fst | apply kept_cond | apply kept_foldOver | apply kept_foldOver_fst | intro _ | refine kept_of_fst ‹_ = (_, _)› ?_ | simp only [kept_mk_iff] | split)

theorem kept_execQuiesceTxEnd (s : State) : ∃ t, execQuiesceTxEnd s = .next t ∧ Kept s t := by
  refine ⟨_, rfl, ?_⟩
  repeat' (with_reducible first | exact Kept.refl _ | exact kept_id _ | apply kept_quiesce | apply kept_forN | apply kept_stopTx | apply kept_domainOff | apply kept_flushLog | apply kept_wr | apply kept_ite | apply kept_ite_fst | apply kept_cond | apply kept_foldOver | apply kept_foldOver_fst | intro _ | refine kept_of_fst ‹_ = (_, _)› ?_ | simp only [kept_mk_iff] | split)

theorem kept_execIsolatedEntry (s : State) : ∃ t, execIsolatedEntry s = .next t ∧ Kept s t := by
  refine ⟨_, rfl, ?_⟩
  repeat' (with_reducible first | exact Kept.refl _ | exact kept_id _ | apply kept_wr | apply kept_enterMode | apply kept_ite | apply kept_ite_fst | apply kept_cond | apply kept_foldOver | apply kept_foldOver_fst | intro _ | refine kept_of_fst ‹_ = (_, _)› ?_ | simp only [kept_mk_iff] | split)

end Sys2Proof.Machine
end

