-- ==== Sys2Proof/Laws/KeptMgt.lean ====
section
/-! SUPPORT. What the operations of Machine/Mgt.lean keep. -/

set_option linter.unusedTactic false
set_option linter.unreachableTactic false
set_option linter.unusedSimpArgs false

namespace Sys2Proof.Machine

theorem kept_setSlot {s₀ : State} (slot : Nat) (l : List (Nat × Nat)) (s : State)  (hk : Kept s₀ s) : Kept s₀ (State.setSlot slot l s) := by
  refine Kept.trans hk ?_
  simp only [State.setSlot]
  repeat' (with_reducible first | exact Kept.refl _ | exact kept_id _ | apply kept_ite | apply kept_ite_fst | apply kept_cond | apply kept_foldOver | apply kept_foldOver_fst | intro _ | refine kept_of_fst ‹_ = (_, _)› ?_ | simp only [kept_mk_iff] | split)

theorem kept_writeSlot {s₀ : State} (slot a : Nat) (bytes : List Nat) (s : State)  (hk : Kept s₀ s) : Kept s₀ (State.writeSlot slot a bytes s) := by
  refine Kept.trans hk ?_
  simp only [State.writeSlot]
  repeat' (with_reducible first | exact Kept.refl _ | exact kept_id _ | apply kept_setSlot | apply kept_foldOver | apply kept_ite | apply kept_ite_fst | apply kept_cond | apply kept_foldOver | apply kept_foldOver_fst | intro _ | refine kept_of_fst ‹_ = (_, _)› ?_ | simp only [kept_mk_iff] | split)

theorem kept_setBootRec {s₀ : State} (r : BootRec) (s : State)  (hk : Kept s₀ s) : Kept s₀ (State.setBootRec r s) := by
  refine Kept.trans hk ?_
  simp only [State.setBootRec]
  repeat' (with_reducible first | exact Kept.refl _ | exact kept_id _ | apply kept_ite | apply kept_ite_fst | apply kept_cond | apply kept_foldOver | apply kept_foldOver_fst | intro _ | refine kept_of_fst ‹_ = (_, _)› ?_ | simp only [kept_mk_iff] | split)

theorem kept_mgtRestart {s₀ : State} (s : State)  (hk : Kept s₀ s) : Kept s₀ (State.mgtRestart s) := by
  refine Kept.trans hk ?_
  simp only [State.mgtRestart]
  repeat' (with_reducible first | exact Kept.refl _ | exact kept_id _ | apply kept_wr | apply kept_resetParty | apply kept_releaseLocks | apply kept_ite | apply kept_ite_fst | apply kept_cond | apply kept_foldOver | apply kept_foldOver_fst | intro _ | refine kept_of_fst ‹_ = (_, _)› ?_ | simp only [kept_mk_iff] | split)

theorem kept_fallBack {s₀ : State} (cause : Nat) (s : State)  (hk : Kept s₀ s) : Kept s₀ (State.fallBack cause s) := by
  refine Kept.trans hk ?_
  simp only [State.fallBack]
  repeat' (with_reducible first | exact Kept.refl _ | exact kept_id _ | apply kept_setBootRec | apply kept_wr | apply kept_raiseArg | apply kept_capture | apply kept_mgtRestart | apply kept_ite | apply kept_ite_fst | apply kept_cond | apply kept_foldOver | apply kept_foldOver_fst | intro _ | refine kept_of_fst ‹_ = (_, _)› ?_ | simp only [kept_mk_iff] | split)

theorem kept_mgtCrash {s₀ : State} (cause : Nat) (s : State)  (hk : Kept s₀ s) : Kept s₀ (State.mgtCrash cause s) := by
  refine Kept.trans hk ?_
  simp only [State.mgtCrash]
  repeat' (with_reducible first | exact Kept.refl _ | exact kept_id _ | apply kept_setBootRec | apply kept_wr | apply kept_mgtRestart | apply kept_fallBack | apply kept_ite | apply kept_ite_fst | apply kept_cond | apply kept_foldOver | apply kept_foldOver_fst | intro _ | refine kept_of_fst ‹_ = (_, _)› ?_ | simp only [kept_mk_iff] | split)

theorem kept_execWatchdogExpiry (s : State) : ∃ t, execWatchdogExpiry s = .next t ∧ Kept s t := by
  refine ⟨_, rfl, ?_⟩
  repeat' (with_reducible first | exact Kept.refl _ | exact kept_id _ | apply kept_mgtCrash | apply kept_ite | apply kept_ite_fst | apply kept_cond | apply kept_foldOver | apply kept_foldOver_fst | intro _ | refine kept_of_fst ‹_ = (_, _)› ?_ | simp only [kept_mk_iff] | split)

theorem kept_execCoreFault (s : State) : ∃ t, execCoreFault s = .next t ∧ Kept s t := by
  refine ⟨_, rfl, ?_⟩
  repeat' (with_reducible first | exact Kept.refl _ | exact kept_id _ | apply kept_mgtCrash | apply kept_ite | apply kept_ite_fst | apply kept_cond | apply kept_foldOver | apply kept_foldOver_fst | intro _ | refine kept_of_fst ‹_ = (_, _)› ?_ | simp only [kept_mk_iff] | split)

theorem kept_trackHealth {s₀ : State} (s : State)  (hk : Kept s₀ s) : Kept s₀ (State.trackHealth s) := by
  refine Kept.trans hk ?_
  simp only [State.trackHealth]
  repeat' (with_reducible first | exact Kept.refl _ | exact kept_id _ | apply kept_ite | apply kept_ite_fst | apply kept_cond | apply kept_foldOver | apply kept_foldOver_fst | intro _ | refine kept_of_fst ‹_ = (_, _)› ?_ | simp only [kept_mk_iff] | split)

theorem kept_blow {s₀ : State} (bits stuck : List Nat) (s : State)  (hk : Kept s₀ s) : Kept s₀ (State.blow bits stuck s).1 := by
  refine Kept.trans hk ?_
  simp only [State.blow]
  repeat' (with_reducible first | exact Kept.refl _ | exact kept_id _ | apply kept_forL | apply kept_setOtpByte | apply kept_ite | apply kept_ite_fst | apply kept_cond | apply kept_foldOver | apply kept_foldOver_fst | intro _ | refine kept_of_fst ‹_ = (_, _)› ?_ | simp only [kept_mk_iff] | split)

theorem kept_logOtp {s₀ : State} (code offset : Nat) (s : State)  (hk : Kept s₀ s) : Kept s₀ (State.logOtp code offset s) := by
  refine Kept.trans hk ?_
  simp only [State.logOtp]
  repeat' (with_reducible first | exact Kept.refl _ | exact kept_id _ | apply kept_capture | apply kept_ite | apply kept_ite_fst | apply kept_cond | apply kept_foldOver | apply kept_foldOver_fst | intro _ | refine kept_of_fst ‹_ = (_, _)› ?_ | simp only [kept_mk_iff] | split)

theorem kept_confirm {s₀ : State} (s : State)  (hk : Kept s₀ s) : Kept s₀ (State.confirm s) := by
  refine Kept.trans hk ?_
  simp only [State.confirm]
  repeat' (with_reducible first | exact Kept.refl _ | exact kept_id _ | apply kept_blow | apply kept_raise | apply kept_logOtp | apply kept_setBootRec | apply kept_wr | apply kept_ite | apply kept_ite_fst | apply kept_cond | apply kept_foldOver | apply kept_foldOver_fst | intro _ | refine kept_of_fst ‹_ = (_, _)› ?_ | simp only [kept_mk_iff] | split)

theorem kept_confirmKey {s₀ : State} (m v : Nat) (s : State)  (hk : Kept s₀ s) : Kept s₀ (State.confirmKey m v s) := by
  refine Kept.trans hk ?_
  simp only [State.confirmKey]
  repeat' (with_reducible first | exact Kept.refl _ | exact kept_id _ | apply kept_confirm | apply kept_ite | apply kept_ite_fst | apply kept_cond | apply kept_foldOver | apply kept_foldOver_fst | intro _ | refine kept_of_fst ‹_ = (_, _)› ?_ | simp only [kept_mk_iff] | split)

theorem kept_showWindow {s₀ : State} (s : State)  (hk : Kept s₀ s) : Kept s₀ (State.showWindow s) := by
  refine Kept.trans hk ?_
  simp only [State.showWindow]
  repeat' (with_reducible first | exact Kept.refl _ | exact kept_id _ | apply kept_wr | apply kept_ite | apply kept_ite_fst | apply kept_cond | apply kept_foldOver | apply kept_foldOver_fst | intro _ | refine kept_of_fst ‹_ = (_, _)› ?_ | simp only [kept_mk_iff] | split)

theorem kept_execAutoConfirm (s : State) : ∃ t, execAutoConfirm s = .next t ∧ Kept s t := by
  refine ⟨_, rfl, ?_⟩
  repeat' (with_reducible first | exact Kept.refl _ | exact kept_id _ | apply kept_confirm | apply kept_ite | apply kept_ite_fst | apply kept_cond | apply kept_foldOver | apply kept_foldOver_fst | intro _ | refine kept_of_fst ‹_ = (_, _)› ?_ | simp only [kept_mk_iff] | split)

theorem kept_execHealthWindowExpiry (s : State) : ∃ t, execHealthWindowExpiry s = .next t ∧ Kept s t := by
  refine ⟨_, rfl, ?_⟩
  repeat' (with_reducible first | exact Kept.refl _ | exact kept_id _ | apply kept_fallBack | apply kept_ite | apply kept_ite_fst | apply kept_cond | apply kept_foldOver | apply kept_foldOver_fst | intro _ | refine kept_of_fst ‹_ = (_, _)› ?_ | simp only [kept_mk_iff] | split)

theorem kept_execSensorUpdate (i : Fin 64) (reading : Option Int) (s : State) : ∃ t, execSensorUpdate i reading s = .next t ∧ Kept s t := by
  refine ⟨_, rfl, ?_⟩
  repeat' (with_reducible first | exact Kept.refl _ | exact kept_id _ | apply kept_when | apply kept_forL | apply kept_forN | apply kept_measureLane | apply kept_setSensH | apply kept_wrInt | apply kept_wr | apply kept_wrB | apply kept_trackCool | apply kept_ite | apply kept_ite_fst | apply kept_cond | apply kept_foldOver | apply kept_foldOver_fst | intro _ | refine kept_of_fst ‹_ = (_, _)› ?_ | simp only [kept_mk_iff] | split)

theorem kept_alarmRise {s₀ : State} (i : Nat) (f : Field) (s : State)  (hk : Kept s₀ s) : Kept s₀ (State.alarmRise i f s) := by
  refine Kept.trans hk ?_
  simp only [State.alarmRise]
  repeat' (with_reducible first | exact Kept.refl _ | exact kept_id _ | apply kept_wr | apply kept_capture | apply kept_showAlert | apply kept_sendMsix | apply kept_trackHealth | apply kept_ite | apply kept_ite_fst | apply kept_cond | apply kept_foldOver | apply kept_foldOver_fst | intro _ | refine kept_of_fst ‹_ = (_, _)› ?_ | simp only [kept_mk_iff] | split)

theorem kept_execAlarmRaise (i : Fin 64) (s : State) : ∃ t, execAlarmRaise i s = .next t ∧ Kept s t := by
  refine ⟨_, rfl, ?_⟩
  repeat' (with_reducible first | exact Kept.refl _ | exact kept_id _ | apply kept_alarmRise | apply kept_ite | apply kept_ite_fst | apply kept_cond | apply kept_foldOver | apply kept_foldOver_fst | intro _ | refine kept_of_fst ‹_ = (_, _)› ?_ | simp only [kept_mk_iff] | split)

theorem kept_execAlarmClear (i : Fin 64) (s : State) : ∃ t, execAlarmClear i s = .next t ∧ Kept s t := by
  refine ⟨_, rfl, ?_⟩
  repeat' (with_reducible first | exact Kept.refl _ | exact kept_id _ | apply kept_wr | apply kept_capture | apply kept_trackHealth | apply kept_ite | apply kept_ite_fst | apply kept_cond | apply kept_foldOver | apply kept_foldOver_fst | intro _ | refine kept_of_fst ‹_ = (_, _)› ?_ | simp only [kept_mk_iff] | split)

theorem kept_execLogFlush (error : Bool) (s : State) : ∃ t, execLogFlush error s = .next t ∧ Kept s t := by
  refine ⟨_, rfl, ?_⟩
  repeat' (with_reducible first | exact Kept.refl _ | exact kept_id _ | apply kept_trackHealth | apply kept_norRecord | apply kept_ite | apply kept_ite_fst | apply kept_cond | apply kept_foldOver | apply kept_foldOver_fst | intro _ | refine kept_of_fst ‹_ = (_, _)› ?_ | simp only [kept_mk_iff] | split)

theorem kept_showTx {s₀ : State} (s : State)  (hk : Kept s₀ s) : Kept s₀ (State.showTx s) := by
  refine Kept.trans hk ?_
  simp only [State.showTx]
  repeat' (with_reducible first | exact Kept.refl _ | exact kept_id _ | apply kept_wrB | apply kept_ite | apply kept_ite_fst | apply kept_cond | apply kept_foldOver | apply kept_foldOver_fst | intro _ | refine kept_of_fst ‹_ = (_, _)› ?_ | simp only [kept_mk_iff] | split)

theorem kept_reply {s₀ : State} (c mac code seq status : Nat) (results : List Nat) (s : State)  (hk : Kept s₀ s) : Kept s₀ (State.reply c mac code seq status results s) := by
  refine Kept.trans hk ?_
  simp only [State.reply]
  repeat' (with_reducible first | exact Kept.refl _ | exact kept_id _ | apply kept_showTx | apply kept_sendSlot | apply kept_ite | apply kept_ite_fst | apply kept_cond | apply kept_foldOver | apply kept_foldOver_fst | intro _ | refine kept_of_fst ‹_ = (_, _)› ?_ | simp only [kept_mk_iff] | split)

theorem kept_takeCommand {s₀ : State} (c : Nat) (s : State)  (hk : Kept s₀ s) : Kept s₀ (State.takeCommand c s) := by
  refine Kept.trans hk ?_
  simp only [State.takeCommand]
  repeat' (with_reducible first | exact Kept.refl _ | exact kept_id _ | apply kept_freeSlot | apply kept_ite | apply kept_ite_fst | apply kept_cond | apply kept_foldOver | apply kept_foldOver_fst | intro _ | refine kept_of_fst ‹_ = (_, _)› ?_ | simp only [kept_mk_iff] | split)

theorem kept_serve {s₀ : State} (code : Nat) (other : Bool) (run : Nat → List Nat → State → State × Nat × List Nat) (s : State) (hrun : ∀ a0 a1 u, Kept u (run a0 a1 u).1) (hk : Kept s₀ s) : Kept s₀ (State.serve code other run s) := by
  refine Kept.trans hk ?_
  simp only [State.serve]
  repeat' (with_reducible first | exact Kept.refl _ | exact kept_id _ | apply kept_takeCommand | apply kept_reply | refine Kept.trans ?_ (hrun ..) | apply kept_ite | apply kept_ite_fst | apply kept_cond | apply kept_foldOver | apply kept_foldOver_fst | intro _ | refine kept_of_fst ‹_ = (_, _)› ?_ | simp only [kept_mk_iff] | split)

theorem kept_cmdSensorRead {s₀ : State} (x_00 : Nat) (w : List Nat) (s : State)  (hk : Kept s₀ s) : Kept s₀ (State.cmdSensorRead x_00 w s).1 := by
  refine Kept.trans hk ?_
  simp only [State.cmdSensorRead]
  repeat' (with_reducible first | exact Kept.refl _ | exact kept_id _ | apply kept_ite | apply kept_ite_fst | apply kept_cond | apply kept_foldOver | apply kept_foldOver_fst | intro _ | refine kept_of_fst ‹_ = (_, _)› ?_ | simp only [kept_mk_iff] | split)

theorem kept_execSensorRead (s : State) : ∃ t, execSensorRead s = .next t ∧ Kept s t := by
  refine ⟨_, rfl, ?_⟩
  repeat' (with_reducible first | exact Kept.refl _ | exact kept_id _ | apply kept_serve | apply kept_cmdSensorRead | apply kept_ite | apply kept_ite_fst | apply kept_cond | apply kept_foldOver | apply kept_foldOver_fst | intro _ | refine kept_of_fst ‹_ = (_, _)› ?_ | simp only [kept_mk_iff] | split)

theorem kept_cmdThreshSet {s₀ : State} (x_00 : Nat) (w : List Nat) (s : State)  (hk : Kept s₀ s) : Kept s₀ (State.cmdThreshSet x_00 w s).1 := by
  refine Kept.trans hk ?_
  simp only [State.cmdThreshSet]
  repeat' (with_reducible first | exact Kept.refl _ | exact kept_id _ | apply kept_wr | apply kept_ite | apply kept_ite_fst | apply kept_cond | apply kept_foldOver | apply kept_foldOver_fst | intro _ | refine kept_of_fst ‹_ = (_, _)› ?_ | simp only [kept_mk_iff] | split)

theorem kept_execThreshSet (s : State) : ∃ t, execThreshSet s = .next t ∧ Kept s t := by
  refine ⟨_, rfl, ?_⟩
  repeat' (with_reducible first | exact Kept.refl _ | exact kept_id _ | apply kept_serve | apply kept_cmdThreshSet | apply kept_ite | apply kept_ite_fst | apply kept_cond | apply kept_foldOver | apply kept_foldOver_fst | intro _ | refine kept_of_fst ‹_ = (_, _)› ?_ | simp only [kept_mk_iff] | split)

theorem kept_cmdLogRead {s₀ : State} (x_00 : Nat) (w : List Nat) (s : State)  (hk : Kept s₀ s) : Kept s₀ (State.cmdLogRead x_00 w s).1 := by
  refine Kept.trans hk ?_
  simp only [State.cmdLogRead]
  repeat' (with_reducible first | exact Kept.refl _ | exact kept_id _ | apply kept_ite | apply kept_ite_fst | apply kept_cond | apply kept_foldOver | apply kept_foldOver_fst | intro _ | refine kept_of_fst ‹_ = (_, _)› ?_ | simp only [kept_mk_iff] | split)

theorem kept_execLogRead (s : State) : ∃ t, execLogRead s = .next t ∧ Kept s t := by
  refine ⟨_, rfl, ?_⟩
  repeat' (with_reducible first | exact Kept.refl _ | exact kept_id _ | apply kept_serve | apply kept_cmdLogRead | apply kept_ite | apply kept_ite_fst | apply kept_cond | apply kept_foldOver | apply kept_foldOver_fst | intro _ | refine kept_of_fst ‹_ = (_, _)› ?_ | simp only [kept_mk_iff] | split)

theorem kept_cmdStoreRead {s₀ : State} (x_00 : Nat) (w : List Nat) (s : State)  (hk : Kept s₀ s) : Kept s₀ (State.cmdStoreRead x_00 w s).1 := by
  refine Kept.trans hk ?_
  simp only [State.cmdStoreRead]
  repeat' (with_reducible first | exact Kept.refl _ | exact kept_id _ | apply kept_ite | apply kept_ite_fst | apply kept_cond | apply kept_foldOver | apply kept_foldOver_fst | intro _ | refine kept_of_fst ‹_ = (_, _)› ?_ | simp only [kept_mk_iff] | split)

theorem kept_execStoreRead (s : State) : ∃ t, execStoreRead s = .next t ∧ Kept s t := by
  refine ⟨_, rfl, ?_⟩
  repeat' (with_reducible first | exact Kept.refl _ | exact kept_id _ | apply kept_serve | apply kept_cmdStoreRead | apply kept_ite | apply kept_ite_fst | apply kept_cond | apply kept_foldOver | apply kept_foldOver_fst | intro _ | refine kept_of_fst ‹_ = (_, _)› ?_ | simp only [kept_mk_iff] | split)

theorem kept_cmdStoreLoad {s₀ : State} (bytes : List Nat) (fail : Bool) (x_20 : Nat) (w : List Nat) (s : State)  (hk : Kept s₀ s) : Kept s₀ (State.cmdStoreLoad bytes fail x_20 w s).1 := by
  refine Kept.trans hk ?_
  simp only [State.cmdStoreLoad]
  repeat' (with_reducible first | exact Kept.refl _ | exact kept_id _ | apply kept_ite | apply kept_ite_fst | apply kept_cond | apply kept_foldOver | apply kept_foldOver_fst | intro _ | refine kept_of_fst ‹_ = (_, _)› ?_ | simp only [kept_mk_iff] | split)

theorem kept_execStoreLoad (bytes : List Nat) (fail : Bool) (s : State) : ∃ t, execStoreLoad bytes fail s = .next t ∧ Kept s t := by
  refine ⟨_, rfl, ?_⟩
  repeat' (with_reducible first | exact Kept.refl _ | exact kept_id _ | apply kept_serve | apply kept_cmdStoreLoad | apply kept_ite | apply kept_ite_fst | apply kept_cond | apply kept_foldOver | apply kept_foldOver_fst | intro _ | refine kept_of_fst ‹_ = (_, _)› ?_ | simp only [kept_mk_iff] | split)

theorem kept_cmdOtpRead {s₀ : State} (x_00 : Nat) (w : List Nat) (s : State)  (hk : Kept s₀ s) : Kept s₀ (State.cmdOtpRead x_00 w s).1 := by
  refine Kept.trans hk ?_
  simp only [State.cmdOtpRead]
  repeat' (with_reducible first | exact Kept.refl _ | exact kept_id _ | apply kept_ite | apply kept_ite_fst | apply kept_cond | apply kept_foldOver | apply kept_foldOver_fst | intro _ | refine kept_of_fst ‹_ = (_, _)› ?_ | simp only [kept_mk_iff] | split)

theorem kept_execOtpRead (s : State) : ∃ t, execOtpRead s = .next t ∧ Kept s t := by
  refine ⟨_, rfl, ?_⟩
  repeat' (with_reducible first | exact Kept.refl _ | exact kept_id _ | apply kept_serve | apply kept_cmdOtpRead | apply kept_ite | apply kept_ite_fst | apply kept_cond | apply kept_foldOver | apply kept_foldOver_fst | intro _ | refine kept_of_fst ‹_ = (_, _)› ?_ | simp only [kept_mk_iff] | split)

theorem kept_otpDone {s₀ : State} (code a : Nat) (bits stuck : List Nat) (s : State)  (hk : Kept s₀ s) : Kept s₀ (State.otpDone code a bits stuck s).1 := by
  refine Kept.trans hk ?_
  simp only [State.otpDone]
  repeat' (with_reducible first | exact Kept.refl _ | exact kept_id _ | apply kept_blow | apply kept_logOtp | apply kept_ite | apply kept_ite_fst | apply kept_cond | apply kept_foldOver | apply kept_foldOver_fst | intro _ | refine kept_of_fst ‹_ = (_, _)› ?_ | simp only [kept_mk_iff] | split)

theorem kept_cmdOtpBankWrite {s₀ : State} (bytes : List Nat) (fail : Bool) (stuck : List Nat) (x_30 : Nat) (w : List Nat) (s : State)  (hk : Kept s₀ s) : Kept s₀ (State.cmdOtpBankWrite bytes fail stuck x_30 w s).1 := by
  refine Kept.trans hk ?_
  simp only [State.cmdOtpBankWrite]
  repeat' (with_reducible first | exact Kept.refl _ | exact kept_id _ | apply kept_otpDone | apply kept_ite | apply kept_ite_fst | apply kept_cond | apply kept_foldOver | apply kept_foldOver_fst | intro _ | refine kept_of_fst ‹_ = (_, _)› ?_ | simp only [kept_mk_iff] | split)

theorem kept_execOtpBankWrite (bytes : List Nat) (fail : Bool) (stuck : List (Fin 16384)) (s : State) : ∃ t, execOtpBankWrite bytes fail stuck s = .next t ∧ Kept s t := by
  refine ⟨_, rfl, ?_⟩
  repeat' (with_reducible first | exact Kept.refl _ | exact kept_id _ | apply kept_serve | apply kept_cmdOtpBankWrite | apply kept_ite | apply kept_ite_fst | apply kept_cond | apply kept_foldOver | apply kept_foldOver_fst | intro _ | refine kept_of_fst ‹_ = (_, _)› ?_ | simp only [kept_mk_iff] | split)

theorem kept_cmdOtpBoardWrite {s₀ : State} (stuck : List Nat) (x_10 : Nat) (w : List Nat) (s : State)  (hk : Kept s₀ s) : Kept s₀ (State.cmdOtpBoardWrite stuck x_10 w s).1 := by
  refine Kept.trans hk ?_
  simp only [State.cmdOtpBoardWrite]
  repeat' (with_reducible first | exact Kept.refl _ | exact kept_id _ | apply kept_otpDone | apply kept_ite | apply kept_ite_fst | apply kept_cond | apply kept_foldOver | apply kept_foldOver_fst | intro _ | refine kept_of_fst ‹_ = (_, _)› ?_ | simp only [kept_mk_iff] | split)

theorem kept_execOtpBoardWrite (stuck : List (Fin 16384)) (s : State) : ∃ t, execOtpBoardWrite stuck s = .next t ∧ Kept s t := by
  refine ⟨_, rfl, ?_⟩
  repeat' (with_reducible first | exact Kept.refl _ | exact kept_id _ | apply kept_serve | apply kept_cmdOtpBoardWrite | apply kept_ite | apply kept_ite_fst | apply kept_cond | apply kept_foldOver | apply kept_foldOver_fst | intro _ | refine kept_of_fst ‹_ = (_, _)› ?_ | simp only [kept_mk_iff] | split)

theorem kept_cmdKeyInstall {s₀ : State} (stuck : List Nat) (x_10 : Nat) (w : List Nat) (s : State)  (hk : Kept s₀ s) : Kept s₀ (State.cmdKeyInstall stuck x_10 w s).1 := by
  refine Kept.trans hk ?_
  simp only [State.cmdKeyInstall]
  repeat' (with_reducible first | exact Kept.refl _ | exact kept_id _ | apply kept_otpDone | apply kept_ite | apply kept_ite_fst | apply kept_cond | apply kept_foldOver | apply kept_foldOver_fst | intro _ | refine kept_of_fst ‹_ = (_, _)› ?_ | simp only [kept_mk_iff] | split)

theorem kept_execKeyInstall (stuck : List (Fin 16384)) (s : State) : ∃ t, execKeyInstall stuck s = .next t ∧ Kept s t := by
  refine ⟨_, rfl, ?_⟩
  repeat' (with_reducible first | exact Kept.refl _ | exact kept_id _ | apply kept_serve | apply kept_cmdKeyInstall | apply kept_ite | apply kept_ite_fst | apply kept_cond | apply kept_foldOver | apply kept_foldOver_fst | intro _ | refine kept_of_fst ‹_ = (_, _)› ?_ | simp only [kept_mk_iff] | split)

theorem kept_cmdKeyRevoke {s₀ : State} (stuck : List Nat) (x_10 : Nat) (w : List Nat) (s : State)  (hk : Kept s₀ s) : Kept s₀ (State.cmdKeyRevoke stuck x_10 w s).1 := by
  refine Kept.trans hk ?_
  simp only [State.cmdKeyRevoke]
  repeat' (with_reducible first | exact Kept.refl _ | exact kept_id _ | apply kept_otpDone | apply kept_ite | apply kept_ite_fst | apply kept_cond | apply kept_foldOver | apply kept_foldOver_fst | intro _ | refine kept_of_fst ‹_ = (_, _)› ?_ | simp only [kept_mk_iff] | split)

theorem kept_execKeyRevoke (stuck : List (Fin 16384)) (s : State) : ∃ t, execKeyRevoke stuck s = .next t ∧ Kept s t := by
  refine ⟨_, rfl, ?_⟩
  repeat' (with_reducible first | exact Kept.refl _ | exact kept_id _ | apply kept_serve | apply kept_cmdKeyRevoke | apply kept_ite | apply kept_ite_fst | apply kept_cond | apply kept_foldOver | apply kept_foldOver_fst | intro _ | refine kept_of_fst ‹_ = (_, _)› ?_ | simp only [kept_mk_iff] | split)

theorem kept_cmdPing {s₀ : State} (x_00 : Nat) (x_10 : List Nat) (s : State)  (hk : Kept s₀ s) : Kept s₀ (State.cmdPing x_00 x_10 s).1 := by
  refine Kept.trans hk ?_
  simp only [State.cmdPing]
  repeat' (with_reducible first | exact Kept.refl _ | exact kept_id _ | apply kept_ite | apply kept_ite_fst | apply kept_cond | apply kept_foldOver | apply kept_foldOver_fst | intro _ | refine kept_of_fst ‹_ = (_, _)› ?_ | simp only [kept_mk_iff] | split)

theorem kept_execPing (s : State) : ∃ t, execPing s = .next t ∧ Kept s t := by
  refine ⟨_, rfl, ?_⟩
  repeat' (with_reducible first | exact Kept.refl _ | exact kept_id _ | apply kept_serve | apply kept_cmdPing | apply kept_ite | apply kept_ite_fst | apply kept_cond | apply kept_foldOver | apply kept_foldOver_fst | intro _ | refine kept_of_fst ‹_ = (_, _)› ?_ | simp only [kept_mk_iff] | split)

theorem kept_sequenceErr {s₀ : State} (s : State)  (hk : Kept s₀ s) : Kept s₀ (State.sequenceErr s).1 := by
  refine Kept.trans hk ?_
  simp only [State.sequenceErr]
  repeat' (with_reducible first | exact Kept.refl _ | exact kept_id _ | apply kept_wr | apply kept_ite | apply kept_ite_fst | apply kept_cond | apply kept_foldOver | apply kept_foldOver_fst | intro _ | refine kept_of_fst ‹_ = (_, _)› ?_ | simp only [kept_mk_iff] | split)

theorem kept_logStep {s₀ : State} (code : Nat) (s : State)  (hk : Kept s₀ s) : Kept s₀ (State.logStep code s) := by
  refine Kept.trans hk ?_
  simp only [State.logStep]
  repeat' (with_reducible first | exact Kept.refl _ | exact kept_id _ | apply kept_capture | apply kept_ite | apply kept_ite_fst | apply kept_cond | apply kept_foldOver | apply kept_foldOver_fst | intro _ | refine kept_of_fst ‹_ = (_, _)› ?_ | simp only [kept_mk_iff] | split)

theorem kept_cmdUpdBegin {s₀ : State} (x_00 : Nat) (w : List Nat) (s : State)  (hk : Kept s₀ s) : Kept s₀ (State.cmdUpdBegin x_00 w s).1 := by
  refine Kept.trans hk ?_
  simp only [State.cmdUpdBegin]
  repeat' (with_reducible first | exact Kept.refl _ | exact kept_id _ | apply kept_sequenceErr | apply kept_setSlot | apply kept_wr | apply kept_logStep | apply kept_ite | apply kept_ite_fst | apply kept_cond | apply kept_foldOver | apply kept_foldOver_fst | intro _ | refine kept_of_fst ‹_ = (_, _)› ?_ | simp only [kept_mk_iff] | split)

theorem kept_execUpdBegin (s : State) : ∃ t, execUpdBegin s = .next t ∧ Kept s t := by
  refine ⟨_, rfl, ?_⟩
  repeat' (with_reducible first | exact Kept.refl _ | exact kept_id _ | apply kept_serve | apply kept_cmdUpdBegin | apply kept_ite | apply kept_ite_fst | apply kept_cond | apply kept_foldOver | apply kept_foldOver_fst | intro _ | refine kept_of_fst ‹_ = (_, _)› ?_ | simp only [kept_mk_iff] | split)

theorem kept_cmdUpdChunk {s₀ : State} (bytes : List Nat) (fail : Bool) (x_20 : Nat) (w : List Nat) (s : State)  (hk : Kept s₀ s) : Kept s₀ (State.cmdUpdChunk bytes fail x_20 w s).1 := by
  refine Kept.trans hk ?_
  simp only [State.cmdUpdChunk]
  repeat' (with_reducible first | exact Kept.refl _ | exact kept_id _ | apply kept_sequenceErr | apply kept_wr | apply kept_writeSlot | apply kept_ite | apply kept_ite_fst | apply kept_cond | apply kept_foldOver | apply kept_foldOver_fst | intro _ | refine kept_of_fst ‹_ = (_, _)› ?_ | simp only [kept_mk_iff] | split)

theorem kept_execUpdChunk (bytes : List Nat) (fail : Bool) (s : State) : ∃ t, execUpdChunk bytes fail s = .next t ∧ Kept s t := by
  refine ⟨_, rfl, ?_⟩
  repeat' (with_reducible first | exact Kept.refl _ | exact kept_id _ | apply kept_serve | apply kept_cmdUpdChunk | apply kept_ite | apply kept_ite_fst | apply kept_cond | apply kept_foldOver | apply kept_foldOver_fst | intro _ | refine kept_of_fst ‹_ = (_, _)› ?_ | simp only [kept_mk_iff] | split)

theorem kept_execUpdVerify (s : State) : ∃ t, execUpdVerify s = .next t ∧ Kept s t := by
  refine ⟨_, rfl, ?_⟩
  repeat' (with_reducible first | exact Kept.refl _ | exact kept_id _ | apply kept_takeCommand | apply kept_wr | apply kept_logStep | apply kept_serve | apply kept_sequenceErr | apply kept_ite | apply kept_ite_fst | apply kept_cond | apply kept_foldOver | apply kept_foldOver_fst | intro _ | refine kept_of_fst ‹_ = (_, _)› ?_ | simp only [kept_mk_iff] | split)

theorem kept_execVerifyDone (s : State) : ∃ t, execVerifyDone s = .next t ∧ Kept s t := by
  refine ⟨_, rfl, ?_⟩
  repeat' (with_reducible first | exact Kept.refl _ | exact kept_id _ | apply kept_wr | apply kept_raise | apply kept_raiseArg | apply kept_reply | apply kept_ite | apply kept_ite_fst | apply kept_cond | apply kept_foldOver | apply kept_foldOver_fst | intro _ | refine kept_of_fst ‹_ = (_, _)› ?_ | simp only [kept_mk_iff] | split)

theorem kept_execUpdActivate (s : State) : ∃ t, execUpdActivate s = .next t ∧ Kept s t := by
  refine ⟨_, rfl, ?_⟩
  repeat' (with_reducible first | exact Kept.refl _ | exact kept_id _ | apply kept_serve | apply kept_sequenceErr | apply kept_setBootRec | apply kept_wr | apply kept_raise | apply kept_mgtRestart | apply kept_ite | apply kept_ite_fst | apply kept_cond | apply kept_foldOver | apply kept_foldOver_fst | intro _ | refine kept_of_fst ‹_ = (_, _)› ?_ | simp only [kept_mk_iff] | split)

theorem kept_cmdUpdAbort {s₀ : State} (x_00 : Nat) (x_10 : List Nat) (s : State)  (hk : Kept s₀ s) : Kept s₀ (State.cmdUpdAbort x_00 x_10 s).1 := by
  refine Kept.trans hk ?_
  simp only [State.cmdUpdAbort]
  repeat' (with_reducible first | exact Kept.refl _ | exact kept_id _ | apply kept_wr | apply kept_logStep | apply kept_sequenceErr | apply kept_ite | apply kept_ite_fst | apply kept_cond | apply kept_foldOver | apply kept_foldOver_fst | intro _ | refine kept_of_fst ‹_ = (_, _)› ?_ | simp only [kept_mk_iff] | split)

theorem kept_execUpdAbort (s : State) : ∃ t, execUpdAbort s = .next t ∧ Kept s t := by
  refine ⟨_, rfl, ?_⟩
  repeat' (with_reducible first | exact Kept.refl _ | exact kept_id _ | apply kept_serve | apply kept_cmdUpdAbort | apply kept_ite | apply kept_ite_fst | apply kept_cond | apply kept_foldOver | apply kept_foldOver_fst | intro _ | refine kept_of_fst ‹_ = (_, _)› ?_ | simp only [kept_mk_iff] | split)

theorem kept_cmdUpdConfirm {s₀ : State} (x_00 : Nat) (x_10 : List Nat) (s : State)  (hk : Kept s₀ s) : Kept s₀ (State.cmdUpdConfirm x_00 x_10 s).1 := by
  refine Kept.trans hk ?_
  simp only [State.cmdUpdConfirm]
  repeat' (with_reducible first | exact Kept.refl _ | exact kept_id _ | apply kept_sequenceErr | apply kept_wr | apply kept_confirm | apply kept_ite | apply kept_ite_fst | apply kept_cond | apply kept_foldOver | apply kept_foldOver_fst | intro _ | refine kept_of_fst ‹_ = (_, _)› ?_ | simp only [kept_mk_iff] | split)

theorem kept_execUpdConfirm (s : State) : ∃ t, execUpdConfirm s = .next t ∧ Kept s t := by
  refine ⟨_, rfl, ?_⟩
  repeat' (with_reducible first | exact Kept.refl _ | exact kept_id _ | apply kept_serve | apply kept_cmdUpdConfirm | apply kept_ite | apply kept_ite_fst | apply kept_cond | apply kept_foldOver | apply kept_foldOver_fst | intro _ | refine kept_of_fst ‹_ = (_, _)› ?_ | simp only [kept_mk_iff] | split)

theorem kept_serveHead {s₀ : State} (s : State)  (hk : Kept s₀ s) : Kept s₀ (State.serveHead s) := by
  refine Kept.trans hk ?_
  simp only [State.serveHead]
  repeat' (with_reducible first | exact Kept.refl _ | exact kept_id _ | apply kept_serve | apply kept_cmdSensorRead | apply kept_cmdThreshSet | apply kept_cmdLogRead | apply kept_cmdStoreRead | apply kept_cmdOtpRead | apply kept_cmdUpdBegin | apply kept_cmdUpdAbort | apply kept_cmdUpdConfirm | apply kept_cmdPing | apply kept_ite | apply kept_ite_fst | apply kept_cond | apply kept_foldOver | apply kept_foldOver_fst | intro _ | refine kept_of_fst ‹_ = (_, _)› ?_ | simp only [kept_mk_iff] | split)

theorem kept_cbsCount {s₀ : State} (f : Field) (k : Nat) (s : State)  (hk : Kept s₀ s) : Kept s₀ (State.cbsCount f k s) := by
  refine Kept.trans hk ?_
  simp only [State.cbsCount]
  repeat' (with_reducible first | exact Kept.refl _ | exact kept_id _ | apply kept_wr | apply kept_bump | apply kept_ite | apply kept_ite_fst | apply kept_cond | apply kept_foldOver | apply kept_foldOver_fst | intro _ | refine kept_of_fst ‹_ = (_, _)› ?_ | simp only [kept_mk_iff] | split)

theorem kept_execCbsFrameReceived (bytes : List Nat) (s : State) : ∃ t, execCbsFrameReceived bytes s = .next t ∧ Kept s t := by
  refine ⟨_, rfl, ?_⟩
  repeat' (with_reducible first | exact Kept.refl _ | exact kept_id _ | apply kept_cbsCount | apply kept_bump | apply kept_wr | apply kept_serveHead | apply kept_ite | apply kept_ite_fst | apply kept_cond | apply kept_foldOver | apply kept_foldOver_fst | intro _ | refine kept_of_fst ‹_ = (_, _)› ?_ | simp only [kept_mk_iff] | split)

theorem kept_dropTx {s₀ : State} (s : State)  (hk : Kept s₀ s) : Kept s₀ (State.dropTx s) := by
  refine Kept.trans hk ?_
  simp only [State.dropTx]
  repeat' (with_reducible first | exact Kept.refl _ | exact kept_id _ | apply kept_showTx | apply kept_ite | apply kept_ite_fst | apply kept_cond | apply kept_foldOver | apply kept_foldOver_fst | intro _ | refine kept_of_fst ‹_ = (_, _)› ?_ | simp only [kept_mk_iff] | split)

theorem kept_execCbsTransmit (s : State) : ∃ t, execCbsTransmit s = .next t ∧ Kept s t := by
  refine ⟨_, rfl, ?_⟩
  repeat' (with_reducible first | exact Kept.refl _ | exact kept_id _ | apply kept_emit | apply kept_bump | apply kept_dropTx | apply kept_ite | apply kept_ite_fst | apply kept_cond | apply kept_foldOver | apply kept_foldOver_fst | intro _ | refine kept_of_fst ‹_ = (_, _)› ?_ | simp only [kept_mk_iff] | split)

theorem kept_execCollision (late : Bool) (s : State) : ∃ t, execCollision late s = .next t ∧ Kept s t := by
  refine ⟨_, rfl, ?_⟩
  repeat' (with_reducible first | exact Kept.refl _ | exact kept_id _ | apply kept_emit | apply kept_cbsCount | apply kept_dropTx | apply kept_draw | apply kept_ite | apply kept_ite_fst | apply kept_cond | apply kept_foldOver | apply kept_foldOver_fst | intro _ | refine kept_of_fst ‹_ = (_, _)› ?_ | simp only [kept_mk_iff] | split)

theorem kept_execBackoffExpiry (s : State) : ∃ t, execBackoffExpiry s = .next t ∧ Kept s t := by
  refine ⟨_, rfl, ?_⟩
  repeat' (with_reducible first | exact Kept.refl _ | exact kept_id _ | apply kept_ite | apply kept_ite_fst | apply kept_cond | apply kept_foldOver | apply kept_foldOver_fst | intro _ | refine kept_of_fst ‹_ = (_, _)› ?_ | simp only [kept_mk_iff] | split)

end Sys2Proof.Machine
end

