-- ==== Sys2Proof/Laws/KeptTwinCtl.lean ====
section
/-! SUPPORT. What the operations of Machine/TwinCtl.lean keep. -/

set_option linter.unusedTactic false
set_option linter.unreachableTactic false
set_option linter.unusedSimpArgs false

namespace Sys2Proof.Machine

theorem kept_goSolo {s₀ : State} (s : State)  (hk : Kept s₀ s) : Kept s₀ (State.goSolo s) := by
  refine Kept.trans hk ?_
  simp only [State.goSolo]
  repeat' (with_reducible first | exact Kept.refl _ | exact kept_id _ | apply kept_enterMode | apply kept_ite | apply kept_ite_fst | apply kept_cond | apply kept_foldOver | apply kept_foldOver_fst | intro _ | refine kept_of_fst ‹_ = (_, _)› ?_ | simp only [kept_mk_iff] | split)

theorem kept_takeCatchup {s₀ : State} (s : State)  (hk : Kept s₀ s) : Kept s₀ (State.takeCatchup s) := by
  refine Kept.trans hk ?_
  simp only [State.takeCatchup]
  repeat' (with_reducible first | exact Kept.refl _ | exact kept_id _ | apply kept_journal | apply kept_ite | apply kept_ite_fst | apply kept_cond | apply kept_foldOver | apply kept_foldOver_fst | intro _ | refine kept_of_fst ‹_ = (_, _)› ?_ | simp only [kept_mk_iff] | split)

theorem kept_askCatchup {s₀ : State} (s : State)  (hk : Kept s₀ s) : Kept s₀ (State.askCatchup s) := by
  refine Kept.trans hk ?_
  simp only [State.askCatchup]
  repeat' (with_reducible first | exact Kept.refl _ | exact kept_id _ | apply kept_takeCatchup | apply kept_wr | apply kept_ite | apply kept_ite_fst | apply kept_cond | apply kept_foldOver | apply kept_foldOver_fst | intro _ | refine kept_of_fst ‹_ = (_, _)› ?_ | simp only [kept_mk_iff] | split)

theorem kept_twinControl {s₀ : State} (v : Nat) (s : State)  (hk : Kept s₀ s) : Kept s₀ (State.twinControl v s) := by
  refine Kept.trans hk ?_
  simp only [State.twinControl]
  repeat' (with_reducible first | exact Kept.refl _ | exact kept_id _ | apply kept_when | apply kept_unfence | apply kept_goSolo | apply kept_askCatchup | apply kept_ite | apply kept_ite_fst | apply kept_cond | apply kept_foldOver | apply kept_foldOver_fst | intro _ | refine kept_of_fst ‹_ = (_, _)› ?_ | simp only [kept_mk_iff] | split)

theorem kept_mailAck {s₀ : State} (r mseq : Nat) (s : State)  (hk : Kept s₀ s) : Kept s₀ (State.mailAck r mseq s) := by
  refine Kept.trans hk ?_
  simp only [State.mailAck]
  repeat' (with_reducible first | exact Kept.refl _ | exact kept_id _ | apply kept_sendMirror | apply kept_ite | apply kept_ite_fst | apply kept_cond | apply kept_foldOver | apply kept_foldOver_fst | intro _ | refine kept_of_fst ‹_ = (_, _)› ?_ | simp only [kept_mk_iff] | split)

theorem kept_mailDeliver {s₀ : State} (r mseq : Nat) (words : List Nat) (s : State)  (hk : Kept s₀ s) : Kept s₀ (State.mailDeliver r mseq words s) := by
  refine Kept.trans hk ?_
  simp only [State.mailDeliver]
  repeat' (with_reducible first | exact Kept.refl _ | exact kept_id _ | apply kept_sendSlot | apply kept_setMailH | apply kept_mailAck | apply kept_freeUnits | apply kept_ite | apply kept_ite_fst | apply kept_cond | apply kept_foldOver | apply kept_foldOver_fst | intro _ | refine kept_of_fst ‹_ = (_, _)› ?_ | simp only [kept_mk_iff] | split)

theorem kept_mailHeld {s₀ : State} (r n : Nat) (s : State) (hk : Kept s₀ s) : Kept s₀ (State.mailHeld r n s) := by
  induction n generalizing s with
  | zero => exact hk
  | succ n ih =>
    simp only [State.mailHeld]
    split
    · split
      · exact ih _ (kept_mailDeliver _ _ _ _ (kept_setMailH _ _ _ hk))
      · exact hk
    · exact hk
end Sys2Proof.Machine
end

