-- ==== Sys2Proof/Laws/KeptRegWrite.lean ====
section
/-! SUPPORT. What the operations of Machine/RegWrite.lean keep. -/

set_option linter.unusedTactic false
set_option linter.unreachableTactic false
set_option linter.unusedSimpArgs false

namespace Sys2Proof.Machine

theorem kept_signalAgain {s₀ : State} (m k : Nat) (on : Bool) (s : State)  (hk : Kept s₀ s) : Kept s₀ (State.signalAgain m k on s) := by
  refine Kept.trans hk ?_
  simp only [State.signalAgain]
  repeat' (with_reducible first | exact Kept.refl _ | exact kept_id _ | apply kept_sendMsix | apply kept_ite | apply kept_ite_fst | apply kept_cond | apply kept_foldOver | apply kept_foldOver_fst | intro _ | refine kept_of_fst ‹_ = (_, _)› ?_ | simp only [kept_mk_iff] | split)

theorem kept_storeReg {s₀ : State} (m a v : Nat) (s : State)  (hk : Kept s₀ s) : Kept s₀ (State.storeReg m a v s) := by
  refine Kept.trans hk ?_
  simp only [State.storeReg]
  repeat' (with_reducible first | exact Kept.refl _ | exact kept_id _ | apply kept_setWord | apply kept_signalAgain | apply kept_ite | apply kept_ite_fst | apply kept_cond | apply kept_foldOver | apply kept_foldOver_fst | intro _ | refine kept_of_fst ‹_ = (_, _)› ?_ | simp only [kept_mk_iff] | split)

theorem kept_writeTop {s₀ : State} (m a v : Nat) (s : State)  (hk : Kept s₀ s) : Kept s₀ (State.writeTop m a v s) := by
  refine Kept.trans hk ?_
  simp only [State.writeTop]
  repeat' (with_reducible first | exact Kept.refl _ | exact kept_id _ | apply kept_topControl | apply kept_resetKey | apply kept_vinThrWrite | apply kept_shedThrWrite | apply kept_domReqWrite | apply kept_storeReg | apply kept_showAlert | apply kept_trackCool | apply kept_ite | apply kept_ite_fst | apply kept_cond | apply kept_foldOver | apply kept_foldOver_fst | intro _ | refine kept_of_fst ‹_ = (_, _)› ?_ | simp only [kept_mk_iff] | split)

theorem kept_writeRef {s₀ : State} (m a v : Nat) (s : State)  (hk : Kept s₀ s) : Kept s₀ (State.writeRef m a v s) := by
  refine Kept.trans hk ?_
  simp only [State.writeRef]
  repeat' (with_reducible first | exact Kept.refl _ | exact kept_id _ | apply kept_storeReg | apply kept_refWriteFixup | apply kept_ite | apply kept_ite_fst | apply kept_cond | apply kept_foldOver | apply kept_foldOver_fst | intro _ | refine kept_of_fst ‹_ = (_, _)› ?_ | simp only [kept_mk_iff] | split)

theorem kept_writePln {s₀ : State} (m a v : Nat) (s : State)  (hk : Kept s₀ s) : Kept s₀ (State.writePln m a v s) := by
  refine Kept.trans hk ?_
  simp only [State.writePln]
  repeat' (with_reducible first | exact Kept.refl _ | exact kept_id _ | apply kept_planCfgWrite | apply kept_planAlignWrite | apply kept_planCtrlWrite | apply kept_storeReg | apply kept_ite | apply kept_ite_fst | apply kept_cond | apply kept_foldOver | apply kept_foldOver_fst | intro _ | refine kept_of_fst ‹_ = (_, _)› ?_ | simp only [kept_mk_iff] | split)

theorem kept_writeSyn {s₀ : State} (m a v : Nat) (i : Nat) (s : State)  (hk : Kept s₀ s) : Kept s₀ (State.writeSyn m a v i s) := by
  refine Kept.trans hk ?_
  simp only [State.writeSyn]
  repeat' (with_reducible first | exact Kept.refl _ | exact kept_id _ | apply kept_seedWrite | apply kept_synCtrlWrite | apply kept_storeReg | apply kept_wr | apply kept_showCache | apply kept_ite | apply kept_ite_fst | apply kept_cond | apply kept_foldOver | apply kept_foldOver_fst | intro _ | refine kept_of_fst ‹_ = (_, _)› ?_ | simp only [kept_mk_iff] | split)

theorem kept_writeTrl {s₀ : State} (m a v n l : Nat) (s : State)  (hk : Kept s₀ s) : Kept s₀ (State.writeTrl m a v n l s) := by
  refine Kept.trans hk ?_
  simp only [State.writeTrl]
  repeat' (with_reducible first | exact Kept.refl _ | exact kept_id _ | apply kept_diag | apply kept_modeWrite | apply kept_storeReg | apply kept_wr | apply kept_when | apply kept_followPattern | apply kept_reseed | apply kept_inject | apply kept_ite | apply kept_ite_fst | apply kept_cond | apply kept_foldOver | apply kept_foldOver_fst | intro _ | refine kept_of_fst ‹_ = (_, _)› ?_ | simp only [kept_mk_iff] | split)

theorem kept_writeCtn {s₀ : State} (m a v n k : Nat) (s : State)  (hk : Kept s₀ s) : Kept s₀ (State.writeCtn m a v n k s) := by
  refine Kept.trans hk ?_
  simp only [State.writeCtn]
  repeat' (with_reducible first | exact Kept.refl _ | exact kept_id _ | apply kept_storeReg | apply kept_forN | apply kept_setInCode | apply kept_applyTrans | apply kept_ite | apply kept_ite_fst | apply kept_cond | apply kept_foldOver | apply kept_foldOver_fst | intro _ | refine kept_of_fst ‹_ = (_, _)› ?_ | simp only [kept_mk_iff] | split)

theorem kept_writeXpt {s₀ : State} (m a v i : Nat) (s : State)  (hk : Kept s₀ s) : Kept s₀ (State.writeXpt m a v i s) := by
  refine Kept.trans hk ?_
  simp only [State.writeXpt]
  repeat' (with_reducible first | exact Kept.refl _ | exact kept_id _ | apply kept_storeReg | apply kept_when | apply kept_wr | apply kept_forL | apply kept_granted | apply kept_withdrawLoad | apply kept_askCellar | apply kept_askSkim | apply kept_showOffset | apply kept_updateMode | apply kept_setPlanH | apply kept_ite | apply kept_ite_fst | apply kept_cond | apply kept_foldOver | apply kept_foldOver_fst | intro _ | refine kept_of_fst ‹_ = (_, _)› ?_ | simp only [kept_mk_iff] | split)

theorem kept_writeClr {s₀ : State} (m a v : Nat) (s : State)  (hk : Kept s₀ s) : Kept s₀ (State.writeClr m a v s) := by
  refine Kept.trans hk ?_
  simp only [State.writeClr]
  repeat' (with_reducible first | exact Kept.refl _ | exact kept_id _ | apply kept_wr | apply kept_storeReg | apply kept_ite | apply kept_ite_fst | apply kept_cond | apply kept_foldOver | apply kept_foldOver_fst | intro _ | refine kept_of_fst ‹_ = (_, _)› ?_ | simp only [kept_mk_iff] | split)

theorem kept_loadMap {s₀ : State} (a code : Nat) (s : State)  (hk : Kept s₀ s) : Kept s₀ (State.loadMap a code s) := by
  refine Kept.trans hk ?_
  simp only [State.loadMap]
  repeat' (with_reducible first | exact Kept.refl _ | exact kept_id _ | apply kept_forN | apply kept_setWord | apply kept_ite | apply kept_ite_fst | apply kept_cond | apply kept_foldOver | apply kept_foldOver_fst | intro _ | refine kept_of_fst ‹_ = (_, _)› ?_ | simp only [kept_mk_iff] | split)

theorem kept_writeAud {s₀ : State} (m a v i : Nat) (s : State)  (hk : Kept s₀ s) : Kept s₀ (State.writeAud m a v i s) := by
  refine Kept.trans hk ?_
  simp only [State.writeAud]
  repeat' (with_reducible first | exact Kept.refl _ | exact kept_id _ | apply kept_storeReg | apply kept_when | apply kept_wr | apply kept_setGenH | apply kept_setNonPcm | apply kept_loadMap | apply kept_followCode | apply kept_ite | apply kept_ite_fst | apply kept_cond | apply kept_foldOver | apply kept_foldOver_fst | intro _ | refine kept_of_fst ‹_ = (_, _)› ?_ | simp only [kept_mk_iff] | split)

theorem kept_writeI2s {s₀ : State} (m a v k : Nat) (s : State)  (hk : Kept s₀ s) : Kept s₀ (State.writeI2s m a v k s) := by
  refine Kept.trans hk ?_
  simp only [State.writeI2s]
  repeat' (with_reducible first | exact Kept.refl _ | exact kept_id _ | apply kept_storeReg | apply kept_when | apply kept_wr | apply kept_setI2sH | apply kept_showFill | apply kept_forL | apply kept_wrB | apply kept_raise | apply kept_ite | apply kept_ite_fst | apply kept_cond | apply kept_foldOver | apply kept_foldOver_fst | intro _ | refine kept_of_fst ‹_ = (_, _)› ?_ | simp only [kept_mk_iff] | split)

theorem kept_writePkt {s₀ : State} (m a v i : Nat) (s : State)  (hk : Kept s₀ s) : Kept s₀ (State.writePkt m a v i s) := by
  refine Kept.trans hk ?_
  simp only [State.writePkt]
  repeat' (with_reducible first | exact Kept.refl _ | exact kept_id _ | apply kept_storeReg | apply kept_wr | apply kept_rxcWritten | apply kept_txcWritten | apply kept_when | apply kept_classifierWrite | apply kept_classifierRead | apply kept_ite | apply kept_ite_fst | apply kept_cond | apply kept_foldOver | apply kept_foldOver_fst | intro _ | refine kept_of_fst ‹_ = (_, _)› ?_ | simp only [kept_mk_iff] | split)

theorem kept_writePtp {s₀ : State} (m a v n : Nat) (s : State)  (hk : Kept s₀ s) : Kept s₀ (State.writePtp m a v n s) := by
  refine Kept.trans hk ?_
  simp only [State.writePtp]
  repeat' (with_reducible first | exact Kept.refl _ | exact kept_id _ | apply kept_when | apply kept_ptpAccept | apply kept_ptpRestart | apply kept_storeReg | apply kept_ptpWritten | apply kept_ite | apply kept_ite_fst | apply kept_cond | apply kept_foldOver | apply kept_foldOver_fst | intro _ | refine kept_of_fst ‹_ = (_, _)› ?_ | simp only [kept_mk_iff] | split)

theorem kept_writeRck {s₀ : State} (m a v r g : Nat) (s : State)  (hk : Kept s₀ s) : Kept s₀ (State.writeRck m a v r g s) := by
  refine Kept.trans hk ?_
  simp only [State.writeRck]
  repeat' (with_reducible first | exact Kept.refl _ | exact kept_id _ | apply kept_rckControl | apply kept_storeReg | apply kept_ite | apply kept_ite_fst | apply kept_cond | apply kept_foldOver | apply kept_foldOver_fst | intro _ | refine kept_of_fst ‹_ = (_, _)› ?_ | simp only [kept_mk_iff] | split)

theorem kept_writeShared {s₀ : State} (m a v n : Nat) (s : State)  (hk : Kept s₀ s) : Kept s₀ (State.writeShared m a v n s) := by
  refine Kept.trans hk ?_
  simp only [State.writeShared]
  repeat' (with_reducible first | exact Kept.refl _ | exact kept_id _ | apply kept_storeReg | apply kept_followHostGpo | apply kept_raise | apply kept_hostLease | apply kept_writeFence | apply kept_ite | apply kept_ite_fst | apply kept_cond | apply kept_foldOver | apply kept_foldOver_fst | intro _ | refine kept_of_fst ‹_ = (_, _)› ?_ | simp only [kept_mk_iff] | split)

theorem kept_writeMvh {s₀ : State} (m a v h : Nat) (s : State)  (hk : Kept s₀ s) : Kept s₀ (State.writeMvh m a v h s) := by
  refine Kept.trans hk ?_
  simp only [State.writeMvh]
  repeat' (with_reducible first | exact Kept.refl _ | exact kept_id _ | apply kept_lutWrite | apply kept_storeReg | apply kept_mvhWritten | apply kept_ite | apply kept_ite_fst | apply kept_cond | apply kept_foldOver | apply kept_foldOver_fst | intro _ | refine kept_of_fst ‹_ = (_, _)› ?_ | simp only [kept_mk_iff] | split)

theorem kept_writePrf {s₀ : State} (m a v : Nat) (s : State)  (hk : Kept s₀ s) : Kept s₀ (State.writePrf m a v s) := by
  refine Kept.trans hk ?_
  simp only [State.writePrf]
  repeat' (with_reducible first | exact Kept.refl _ | exact kept_id _ | apply kept_storeReg | apply kept_loadRecord | apply kept_keepRect | apply kept_ite | apply kept_ite_fst | apply kept_cond | apply kept_foldOver | apply kept_foldOver_fst | intro _ | refine kept_of_fst ‹_ = (_, _)› ?_ | simp only [kept_mk_iff] | split)

theorem kept_writeLdg {s₀ : State} (m a v : Nat) (s : State)  (hk : Kept s₀ s) : Kept s₀ (State.writeLdg m a v s) := by
  refine Kept.trans hk ?_
  simp only [State.writeLdg]
  repeat' (with_reducible first | exact Kept.refl _ | exact kept_id _ | apply kept_ledgerControl | apply kept_storeReg | apply kept_selectUnit | apply kept_ite | apply kept_ite_fst | apply kept_cond | apply kept_foldOver | apply kept_foldOver_fst | intro _ | refine kept_of_fst ‹_ = (_, _)› ?_ | simp only [kept_mk_iff] | split)

theorem kept_writeTwn {s₀ : State} (m a v : Nat) (s : State)  (hk : Kept s₀ s) : Kept s₀ (State.writeTwn m a v s) := by
  refine Kept.trans hk ?_
  simp only [State.writeTwn]
  repeat' (with_reducible first | exact Kept.refl _ | exact kept_id _ | apply kept_twinControl | apply kept_storeReg | apply kept_wr | apply kept_ite | apply kept_ite_fst | apply kept_cond | apply kept_foldOver | apply kept_foldOver_fst | intro _ | refine kept_of_fst ‹_ = (_, _)› ?_ | simp only [kept_mk_iff] | split)

theorem kept_writeFab {s₀ : State} (m a v k : Nat) (s : State)  (hk : Kept s₀ s) : Kept s₀ (State.writeFab m a v k s) := by
  refine Kept.trans hk ?_
  simp only [State.writeFab]
  repeat' (with_reducible first | exact Kept.refl _ | exact kept_id _ | apply kept_storeReg | apply kept_wr | apply kept_fabCfgWritten | apply kept_rmapWritten | apply kept_ite | apply kept_ite_fst | apply kept_cond | apply kept_foldOver | apply kept_foldOver_fst | intro _ | refine kept_of_fst ‹_ = (_, _)› ?_ | simp only [kept_mk_iff] | split)

theorem kept_writeMgt {s₀ : State} (m a v : Nat) (s : State)  (hk : Kept s₀ s) : Kept s₀ (State.writeMgt m a v s) := by
  refine Kept.trans hk ?_
  simp only [State.writeMgt]
  repeat' (with_reducible first | exact Kept.refl _ | exact kept_id _ | apply kept_when | apply kept_mgtRestart | apply kept_storeReg | apply kept_showAlert | apply kept_signalAgain | apply kept_sendMsix | apply kept_ite | apply kept_ite_fst | apply kept_cond | apply kept_foldOver | apply kept_foldOver_fst | intro _ | refine kept_of_fst ‹_ = (_, _)› ?_ | simp only [kept_mk_iff] | split)

theorem kept_writeUpd {s₀ : State} (m a v : Nat) (s : State)  (hk : Kept s₀ s) : Kept s₀ (State.writeUpd m a v s) := by
  refine Kept.trans hk ?_
  simp only [State.writeUpd]
  repeat' (with_reducible first | exact Kept.refl _ | exact kept_id _ | apply kept_confirmKey | apply kept_storeReg | apply kept_wr | apply kept_trackHealth | apply kept_ite | apply kept_ite_fst | apply kept_cond | apply kept_foldOver | apply kept_foldOver_fst | intro _ | refine kept_of_fst ‹_ = (_, _)› ?_ | simp only [kept_mk_iff] | split)

theorem kept_releaseLock {s₀ : State} (m n : Nat) (s : State)  (hk : Kept s₀ s) : Kept s₀ (State.releaseLock m n s) := by
  refine Kept.trans hk ?_
  simp only [State.releaseLock]
  repeat' (with_reducible first | exact Kept.refl _ | exact kept_id _ | apply kept_wr | apply kept_raise | apply kept_ite | apply kept_ite_fst | apply kept_cond | apply kept_foldOver | apply kept_foldOver_fst | intro _ | refine kept_of_fst ‹_ = (_, _)› ?_ | simp only [kept_mk_iff] | split)

theorem kept_writeMtx {s₀ : State} (m a v k : Nat) (s : State)  (hk : Kept s₀ s) : Kept s₀ (State.writeMtx m a v k s) := by
  refine Kept.trans hk ?_
  simp only [State.writeMtx]
  repeat' (with_reducible first | exact Kept.refl _ | exact kept_id _ | apply kept_releaseLock | apply kept_wr | apply kept_storeReg | apply kept_when | apply kept_ite | apply kept_ite_fst | apply kept_cond | apply kept_foldOver | apply kept_foldOver_fst | intro _ | refine kept_of_fst ‹_ = (_, _)› ?_ | simp only [kept_mk_iff] | split)

theorem kept_mbxFree {s₀ : State} (c : Nat) (s : State)  (hk : Kept s₀ s) : Kept s₀ (State.mbxFree c s) := by
  refine Kept.trans hk ?_
  simp only [State.mbxFree]
  repeat' (with_reducible first | exact Kept.refl _ | exact kept_id _ | apply kept_freedAhead | apply kept_freeSlot | apply kept_drainMail | apply kept_mailHeld | apply kept_ite | apply kept_ite_fst | apply kept_cond | apply kept_foldOver | apply kept_foldOver_fst | intro _ | refine kept_of_fst ‹_ = (_, _)› ?_ | simp only [kept_mk_iff] | split)

theorem kept_writeBell {s₀ : State} (m a v b : Nat) (s : State)  (hk : Kept s₀ s) : Kept s₀ (State.writeBell m a v b s) := by
  refine Kept.trans hk ?_
  simp only [State.writeBell]
  repeat' (with_reducible first | exact Kept.refl _ | exact kept_id _ | apply kept_setBells | apply kept_storeReg | apply kept_signalAgain | apply kept_notifyBell | apply kept_ite | apply kept_ite_fst | apply kept_cond | apply kept_foldOver | apply kept_foldOver_fst | intro _ | refine kept_of_fst ‹_ = (_, _)› ?_ | simp only [kept_mk_iff] | split)

theorem kept_writeMbx {s₀ : State} (m a v k : Nat) (s : State)  (hk : Kept s₀ s) : Kept s₀ (State.writeMbx m a v k s) := by
  refine Kept.trans hk ?_
  simp only [State.writeMbx]
  repeat' (with_reducible first | exact Kept.refl _ | exact kept_id _ | apply kept_when | apply kept_postNow | apply kept_mbxFree | apply kept_writeBell | apply kept_storeReg | apply kept_ite | apply kept_ite_fst | apply kept_cond | apply kept_foldOver | apply kept_foldOver_fst | intro _ | refine kept_of_fst ‹_ = (_, _)› ?_ | simp only [kept_mk_iff] | split)

theorem kept_writeReg {s₀ : State} (m a v : Nat) (s : State)  (hk : Kept s₀ s) : Kept s₀ (State.writeReg m a v s) := by
  refine Kept.trans hk ?_
  simp only [State.writeReg]
  repeat' (with_reducible first | exact Kept.refl _ | exact kept_id _ | apply kept_writeTop | apply kept_writeRef | apply kept_writeSyn | apply kept_writePln | apply kept_writeTrl | apply kept_writeCtn | apply kept_writeXpt | apply kept_writeClr | apply kept_writeAud | apply kept_writeI2s | apply kept_writePkt | apply kept_writePtp | apply kept_writeRck | apply kept_writeShared | apply kept_writeMvh | apply kept_writePrf | apply kept_writeLdg | apply kept_writeTwn | apply kept_writeFab | apply kept_writeMgt | apply kept_writeMbx | apply kept_writeUpd | apply kept_writeMtx | apply kept_storeReg | apply kept_ite | apply kept_ite_fst | apply kept_cond | apply kept_foldOver | apply kept_foldOver_fst | intro _ | refine kept_of_fst ‹_ = (_, _)› ?_ | simp only [kept_mk_iff] | split)

end Sys2Proof.Machine
end

