-- ==== Sys2Proof/Laws/KeptRegRead.lean ====
section
/-! SUPPORT. What the operations of Machine/RegRead.lean keep. -/

set_option linter.unusedTactic false
set_option linter.unreachableTactic false
set_option linter.unusedSimpArgs false

namespace Sys2Proof.Machine

theorem kept_refresh {s₀ : State} (a i j : Nat) (s : State)  (hk : Kept s₀ s) : Kept s₀ (State.refresh a i j s) := by
  refine Kept.trans hk ?_
  simp only [State.refresh]
  repeat' (with_reducible first | exact Kept.refl _ | exact kept_id _ | apply kept_wrB | apply kept_wr | apply kept_settlePool | apply kept_showCache | apply kept_settle | apply kept_endJump | apply kept_showPhase | apply kept_measureLane | apply kept_forN | apply kept_latchDeviceTime | apply kept_showHeadFrame | apply kept_showWindow | apply kept_ite | apply kept_ite_fst | apply kept_cond | apply kept_foldOver | apply kept_foldOver_fst | intro _ | refine kept_of_fst ‹_ = (_, _)› ?_ | simp only [kept_mk_iff] | split)

theorem kept_releaseFirst {s₀ : State} (n : Nat) (s : State)  (hk : Kept s₀ s) : Kept s₀ (State.releaseFirst n s) := by
  refine Kept.trans hk ?_
  simp only [State.releaseFirst]
  repeat' (with_reducible first | exact Kept.refl _ | exact kept_id _ | apply kept_releaseLock | apply kept_ite | apply kept_ite_fst | apply kept_cond | apply kept_foldOver | apply kept_foldOver_fst | intro _ | refine kept_of_fst ‹_ = (_, _)› ?_ | simp only [kept_mk_iff] | split)

theorem kept_readLock {s₀ : State} (m n : Nat) (s : State)  (hk : Kept s₀ s) : Kept s₀ (State.readLock m n s).1 := by
  refine Kept.trans hk ?_
  simp only [State.readLock]
  repeat' (with_reducible first | exact Kept.refl _ | exact kept_id _ | apply kept_releaseFirst | apply kept_wr | apply kept_ite | apply kept_ite_fst | apply kept_cond | apply kept_foldOver | apply kept_foldOver_fst | intro _ | refine kept_of_fst ‹_ = (_, _)› ?_ | simp only [kept_mk_iff] | split)

theorem kept_afterRead {s₀ : State} (a i j rs : Nat) (s : State)  (hk : Kept s₀ s) : Kept s₀ (State.afterRead a i j rs s) := by
  refine Kept.trans hk ?_
  simp only [State.afterRead]
  repeat' (with_reducible first | exact Kept.refl _ | exact kept_id _ | apply kept_setWord | apply kept_wr | apply kept_readLane48 | apply kept_ite | apply kept_ite_fst | apply kept_cond | apply kept_foldOver | apply kept_foldOver_fst | intro _ | refine kept_of_fst ‹_ = (_, _)› ?_ | simp only [kept_mk_iff] | split)

theorem kept_readReg {s₀ : State} (m a : Nat) (s : State)  (hk : Kept s₀ s) : Kept s₀ (State.readReg m a s).1 := by
  refine Kept.trans hk ?_
  simp only [State.readReg]
  repeat' (with_reducible first | exact Kept.refl _ | exact kept_id _ | apply kept_takeMark | apply kept_lutRead | apply kept_refresh | apply kept_afterRead | apply kept_readLock | apply kept_ite | apply kept_ite_fst | apply kept_cond | apply kept_foldOver | apply kept_foldOver_fst | intro _ | refine kept_of_fst ‹_ = (_, _)› ?_ | simp only [kept_mk_iff] | split)

end Sys2Proof.Machine
end

