-- ==== Sys2Proof/Laws/KeptBus.lean ====
section
/-! SUPPORT. What the operations of Machine/Bus.lean keep. -/

set_option linter.unusedTactic false
set_option linter.unreachableTactic false
set_option linter.unusedSimpArgs false

namespace Sys2Proof.Machine

theorem kept_recordRefusal {s₀ : State} (m : Nat) (write : Bool) (addr cause : Nat) (s : State)  (hk : Kept s₀ s) : Kept s₀ (State.recordRefusal m write addr cause s) := by
  refine Kept.trans hk ?_
  simp only [State.recordRefusal]
  repeat' (with_reducible first | exact Kept.refl _ | exact kept_id _ | apply kept_wr | apply kept_wrB | apply kept_raise | apply kept_when | apply kept_ite | apply kept_ite_fst | apply kept_cond | apply kept_foldOver | apply kept_foldOver_fst | intro _ | refine kept_of_fst ‹_ = (_, _)› ?_ | simp only [kept_mk_iff] | split)

theorem kept_refuse {s₀ : State} (m : Nat) (write : Bool) (addr : Nat) (r : Refused) (s : State)  (hk : Kept s₀ s) : Kept s₀ (State.refuse m write addr r s) := by
  refine Kept.trans hk ?_
  simp only [State.refuse]
  repeat' (with_reducible first | exact Kept.refl _ | exact kept_id _ | apply kept_recordRefusal | apply kept_mbxError | apply kept_ite | apply kept_ite_fst | apply kept_cond | apply kept_foldOver | apply kept_foldOver_fst | intro _ | refine kept_of_fst ‹_ = (_, _)› ?_ | simp only [kept_mk_iff] | split)

theorem kept_msixWrite {s₀ : State} (f o v : Nat) (s : State)  (hk : Kept s₀ s) : Kept s₀ (State.msixWrite f o v s) := by
  refine Kept.trans hk ?_
  simp only [State.msixWrite]
  repeat' (with_reducible first | exact Kept.refl _ | exact kept_id _ | apply kept_sendPending | apply kept_ite | apply kept_ite_fst | apply kept_cond | apply kept_foldOver | apply kept_foldOver_fst | intro _ | refine kept_of_fst ‹_ = (_, _)› ?_ | simp only [kept_mk_iff] | split)

theorem kept_readBytes {s₀ : State} (n a : Nat) (s : State) (hk : Kept s₀ s) : Kept s₀ (State.readBytes n a s).1 := by
  induction n generalizing a s with
  | zero => exact hk
  | succ n ih =>
    simp only [State.readBytes]
    exact ih _ _ (kept_readCellar _ _ hk)
theorem kept_writeBytes {s₀ : State} (n a v : Nat) (s : State) (hk : Kept s₀ s) : Kept s₀ (State.writeBytes n a v s) := by
  induction n generalizing a v s with
  | zero => exact hk
  | succ n ih =>
    simp only [State.writeBytes]
    exact ih _ _ _ (kept_writeCellar _ _ _ hk)
theorem kept_unreached {s₀ : State} {m a : Nat} {s t : State} (h : s.unreached m a = some t) (hk : Kept s₀ s) : Kept s₀ t := by
  simp only [State.unreached] at h
  split at h
  · cases h; exact kept_raise _ _ hk
  · split at h
    · cases h; exact kept_raise _ _ hk
    · cases h
theorem kept_putWord {s₀ : State} (m a mask v : Nat) (s : State)  (hk : Kept s₀ s) : Kept s₀ (State.putWord m a mask v s) := by
  refine Kept.trans hk ?_
  simp only [State.putWord]
  repeat' (with_reducible first | exact Kept.refl _ | exact kept_id _ | apply kept_setWord | apply kept_raise | apply kept_mbxError | apply kept_msixWrite | apply kept_writeReg | apply kept_ite | apply kept_ite_fst | apply kept_cond | apply kept_foldOver | apply kept_foldOver_fst | intro _ | refine kept_of_fst ‹_ = (_, _)› ?_ | refine kept_unreached ‹_ = some _› ?_ | simp only [kept_mk_iff] | split)

theorem kept_getWord {s₀ : State} (m a : Nat) (s : State)  (hk : Kept s₀ s) : Kept s₀ (State.getWord m a s).1 := by
  refine Kept.trans hk ?_
  simp only [State.getWord]
  repeat' (with_reducible first | exact Kept.refl _ | exact kept_id _ | apply kept_readReg | apply kept_ite | apply kept_ite_fst | apply kept_cond | apply kept_foldOver | apply kept_foldOver_fst | intro _ | refine kept_of_fst ‹_ = (_, _)› ?_ | refine kept_unreached ‹_ = some _› ?_ | simp only [kept_mk_iff] | split)

theorem kept_sendMemories {s₀ : State} (a : Nat) (words : List Nat) (s : State)  (hk : Kept s₀ s) : Kept s₀ (State.sendMemories a words s) := by
  refine Kept.trans hk ?_
  simp only [State.sendMemories]
  repeat' (with_reducible first | exact Kept.refl _ | exact kept_id _ | apply kept_sendRecord | apply kept_ite | apply kept_ite_fst | apply kept_cond | apply kept_foldOver | apply kept_foldOver_fst | intro _ | refine kept_of_fst ‹_ = (_, _)› ?_ | simp only [kept_mk_iff] | split)

theorem kept_journalWrite {s₀ : State} (a : Nat) (line : Bool) (words : List Nat) (s : State)  (hk : Kept s₀ s) : Kept s₀ (State.journalWrite a line words s) := by
  refine Kept.trans hk ?_
  simp only [State.journalWrite]
  repeat' (with_reducible first | exact Kept.refl _ | exact kept_id _ | apply kept_journal | apply kept_sendMemories | apply kept_raise | apply kept_ite | apply kept_ite_fst | apply kept_cond | apply kept_foldOver | apply kept_foldOver_fst | intro _ | refine kept_of_fst ‹_ = (_, _)› ?_ | simp only [kept_mk_iff] | split)

theorem kept_writeWord {s₀ : State} (m a mask v : Nat) (s : State)  (hk : Kept s₀ s) : Kept s₀ (State.writeWord m a mask v s) := by
  refine Kept.trans hk ?_
  simp only [State.writeWord]
  repeat' (with_reducible first | exact Kept.refl _ | exact kept_id _ | apply kept_journalWrite | apply kept_putWord | apply kept_ite | apply kept_ite_fst | apply kept_cond | apply kept_foldOver | apply kept_foldOver_fst | intro _ | refine kept_of_fst ‹_ = (_, _)› ?_ | refine kept_unreached ‹_ = some _› ?_ | simp only [kept_mk_iff] | split)

theorem kept_applyWord {s₀ : State} (m a v : Nat) (s : State)  (hk : Kept s₀ s) : Kept s₀ (State.applyWord m a v s) := by
  refine Kept.trans hk ?_
  simp only [State.applyWord]
  repeat' (with_reducible first | exact Kept.refl _ | exact kept_id _ | apply kept_putWord | apply kept_modeWrite | apply kept_ite | apply kept_ite_fst | apply kept_cond | apply kept_foldOver | apply kept_foldOver_fst | intro _ | refine kept_of_fst ‹_ = (_, _)› ?_ | simp only [kept_mk_iff] | split)

theorem kept_actWrite {s₀ : State} (m addr len data : Nat) (s : State)  (hk : Kept s₀ s) : Kept s₀ (State.actWrite m addr len data s) := by
  refine Kept.trans hk ?_
  simp only [State.actWrite]
  repeat' (with_reducible first | exact Kept.refl _ | exact kept_id _ | apply kept_writeBytes | apply kept_journalWrite | apply kept_forL | apply kept_writeWord | apply kept_ite | apply kept_ite_fst | apply kept_cond | apply kept_foldOver | apply kept_foldOver_fst | intro _ | refine kept_of_fst ‹_ = (_, _)› ?_ | refine kept_unreached ‹_ = some _› ?_ | simp only [kept_mk_iff] | split)

theorem kept_readWords {s₀ : State} (m addr len : Nat) (l : List (Nat × Nat × Nat)) (s : State) (hk : Kept s₀ s) :
    Kept s₀ (State.readWords m addr len l s).1 := by
  induction l generalizing s with
  | nil => exact hk
  | cons c l ih =>
    simp only [State.readWords]
    exact ih _ (kept_getWord _ _ _ hk)
theorem kept_actRead {s₀ : State} (m addr len : Nat) (s : State)  (hk : Kept s₀ s) : Kept s₀ (State.actRead m addr len s).1 := by
  refine Kept.trans hk ?_
  simp only [State.actRead]
  repeat' (with_reducible first | exact Kept.refl _ | exact kept_id _ | apply kept_readBytes | apply kept_readWords | apply kept_ite | apply kept_ite_fst | apply kept_cond | apply kept_foldOver | apply kept_foldOver_fst | intro _ | refine kept_of_fst ‹_ = (_, _)› ?_ | simp only [kept_mk_iff] | split)

theorem kept_carryOut {s₀ : State} (x : Access) (s : State)  (hk : Kept s₀ s) : Kept s₀ (State.carryOut x s).1 := by
  refine Kept.trans hk ?_
  simp only [State.carryOut]
  repeat' (with_reducible first | exact Kept.refl _ | exact kept_id _ | apply kept_refuse | apply kept_actWrite | apply kept_actRead | apply kept_ite | apply kept_ite_fst | apply kept_cond | apply kept_foldOver | apply kept_foldOver_fst | intro _ | refine kept_of_fst ‹_ = (_, _)› ?_ | simp only [kept_mk_iff] | split)

theorem kept_setStalled {s₀ : State} (l : List Access) (s : State)  (hk : Kept s₀ s) : Kept s₀ (State.setStalled l s) := by
  refine Kept.trans hk ?_
  simp only [State.setStalled]
  repeat' (with_reducible first | exact Kept.refl _ | exact kept_id _ | apply kept_forL | apply kept_wr | apply kept_ite | apply kept_ite_fst | apply kept_cond | apply kept_foldOver | apply kept_foldOver_fst | intro _ | refine kept_of_fst ‹_ = (_, _)› ?_ | simp only [kept_mk_iff] | split)

theorem kept_access {s₀ : State} (x : Access) (s : State)  (hk : Kept s₀ s) : Kept s₀ (State.access x s).1 := by
  refine Kept.trans hk ?_
  simp only [State.access]
  repeat' (with_reducible first | exact Kept.refl _ | exact kept_id _ | apply kept_raise | apply kept_setStalled | apply kept_carryOut | apply kept_ite | apply kept_ite_fst | apply kept_cond | apply kept_foldOver | apply kept_foldOver_fst | intro _ | refine kept_of_fst ‹_ = (_, _)› ?_ | simp only [kept_mk_iff] | split)

theorem kept_busWrite {s₀ : State} (m addr len data : Nat) (s : State)  (hk : Kept s₀ s) : Kept s₀ (State.busWrite m addr len data s) := by
  refine Kept.trans hk ?_
  simp only [State.busWrite]
  repeat' (with_reducible first | exact Kept.refl _ | exact kept_id _ | apply kept_access | apply kept_ite | apply kept_ite_fst | apply kept_cond | apply kept_foldOver | apply kept_foldOver_fst | intro _ | refine kept_of_fst ‹_ = (_, _)› ?_ | simp only [kept_mk_iff] | split)

theorem kept_busRead {s₀ : State} (m addr len : Nat) (s : State)  (hk : Kept s₀ s) : Kept s₀ (State.busRead m addr len s) := by
  refine Kept.trans hk ?_
  simp only [State.busRead]
  repeat' (with_reducible first | exact Kept.refl _ | exact kept_id _ | apply kept_access | apply kept_ite | apply kept_ite_fst | apply kept_cond | apply kept_foldOver | apply kept_foldOver_fst | intro _ | refine kept_of_fst ‹_ = (_, _)› ?_ | simp only [kept_mk_iff] | split)

theorem kept_releaseStalled {s₀ : State} (n : Nat) (s : State) (hk : Kept s₀ s) : Kept s₀ (State.releaseStalled n s) := by
  induction n generalizing s with
  | zero => exact hk
  | succ n ih =>
    simp only [State.releaseStalled]
    split
    · exact hk
    · split
      · exact hk
      · exact ih _ (kept_carryOut _ _ (kept_setStalled _ _ hk))
end Sys2Proof.Machine
end

