-- ==== Sys2Proof/Laws/KeptBoot.lean ====
section
/-! SUPPORT. What the operations of Machine/Boot.lean keep. -/

set_option linter.unusedTactic false
set_option linter.unreachableTactic false
set_option linter.unusedSimpArgs false

namespace Sys2Proof.Machine

theorem kept_applyStore {s₀ : State} (other : List (Nat × List (Nat × Nat))) (s : State)  (hk : Kept s₀ s) : Kept s₀ (State.applyStore other s) := by
  refine Kept.trans hk ?_
  simp only [State.applyStore]
  repeat' (with_reducible first | exact Kept.refl _ | exact kept_id _ | apply kept_forL | apply kept_busWrite | apply kept_capture | apply kept_ite | apply kept_ite_fst | apply kept_cond | apply kept_foldOver | apply kept_foldOver_fst | intro _ | refine kept_of_fst ‹_ = (_, _)› ?_ | simp only [kept_mk_iff] | split)

theorem kept_migrate {s₀ : State} (store : List Nat) (dropped : Bool) (s : State)  (hk : Kept s₀ s) : Kept s₀ (State.migrate store dropped s) := by
  refine Kept.trans hk ?_
  simp only [State.migrate]
  repeat' (with_reducible first | exact Kept.refl _ | exact kept_id _ | apply kept_ite | apply kept_ite_fst | apply kept_cond | apply kept_foldOver | apply kept_foldOver_fst | intro _ | refine kept_of_fst ‹_ = (_, _)› ?_ | simp only [kept_mk_iff] | split)

theorem kept_showImage {s₀ : State} (slot : Nat) (s : State)  (hk : Kept s₀ s) : Kept s₀ (State.showImage slot s) := by
  refine Kept.trans hk ?_
  simp only [State.showImage]
  repeat' (with_reducible first | exact Kept.refl _ | exact kept_id _ | apply kept_wr | apply kept_bump | apply kept_ite | apply kept_ite_fst | apply kept_cond | apply kept_foldOver | apply kept_foldOver_fst | intro _ | refine kept_of_fst ‹_ = (_, _)› ?_ | simp only [kept_mk_iff] | split)

theorem kept_resumeTrial {s₀ : State} (slot crashes : Nat) (store : List Nat) (dropped : Bool) (s : State)  (hk : Kept s₀ s) : Kept s₀ (State.resumeTrial slot crashes store dropped s) := by
  refine Kept.trans hk ?_
  simp only [State.resumeTrial]
  repeat' (with_reducible first | exact Kept.refl _ | exact kept_id _ | apply kept_wr | apply kept_when | apply kept_migrate | apply kept_trackHealth | apply kept_ite | apply kept_ite_fst | apply kept_cond | apply kept_foldOver | apply kept_foldOver_fst | intro _ | refine kept_of_fst ‹_ = (_, _)› ?_ | simp only [kept_mk_iff] | split)

theorem kept_logBanks {s₀ : State} (s : State) (hk : Kept s₀ s) : Kept s₀ (State.logBanks s) := by
  have h1 : Kept s₀ (s.forN 4 fun b s =>
      let l := s.bootBank b
      if (l.any fun x => x != 0) && !bankGood l then s.capture 0x3A (eventOf 10 b) b else s) := by
    refine kept_forN (fun a u => ?_) hk
    exact kept_ite (kept_capture _ _ _ _ (Kept.refl u)) (Kept.refl u)
  unfold State.logBanks
  generalize (s.forN 4 fun b s =>
      let l := s.bootBank b
      if (l.any fun x => x != 0) && !bankGood l then s.capture 0x3A (eventOf 10 b) b else s) = t at h1 ⊢
  dsimp only
  generalize t.bootRecord = o
  cases o with
  | none => exact h1
  | some l =>
    refine kept_forN (fun a u => ?_) h1
    exact kept_ite (kept_capture _ _ _ _ (Kept.refl u)) (Kept.refl u)
theorem kept_startImage {s₀ : State} (slot : Nat) (store : List Nat) (dropped : Bool) (other : List (Nat × List (Nat × Nat))) (s : State)  (hk : Kept s₀ s) : Kept s₀ (State.startImage slot store dropped other s) := by
  refine Kept.trans hk ?_
  simp only [State.startImage]
  repeat' (with_reducible first | exact Kept.refl _ | exact kept_id _ | apply kept_when | apply kept_setBootRec | apply kept_wr | apply kept_capture | apply kept_showImage | apply kept_resumeTrial | apply kept_applyStore | apply kept_logBanks | apply kept_milestone | apply kept_ite | apply kept_ite_fst | apply kept_cond | apply kept_foldOver | apply kept_foldOver_fst | intro _ | refine kept_of_fst ‹_ = (_, _)› ?_ | simp only [kept_mk_iff] | split)

theorem kept_execBoot (store : List Nat) (dropped : Bool) (other : List (Nat × List (Nat × Nat))) (s : State) : ∃ t, execBoot store dropped other s = .next t ∧ Kept s t := by
  refine ⟨_, rfl, ?_⟩
  repeat' (with_reducible first | exact Kept.refl _ | exact kept_id _ | apply kept_startImage | apply kept_wr | apply kept_ite | apply kept_ite_fst | apply kept_cond | apply kept_foldOver | apply kept_foldOver_fst | intro _ | refine kept_of_fst ‹_ = (_, _)› ?_ | simp only [kept_mk_iff] | split)

end Sys2Proof.Machine
end

