-- ==== Sys2Proof/Laws/KeptTakeover.lean ====
section
/-! SUPPORT. What the operations of Machine/Takeover.lean keep. -/

set_option linter.unusedTactic false
set_option linter.unreachableTactic false
set_option linter.unusedSimpArgs false

namespace Sys2Proof.Machine

theorem kept_adoptFrames {s₀ : State} (s : State)  (hk : Kept s₀ s) : Kept s₀ (State.adoptFrames s) := by
  refine Kept.trans hk ?_
  simp only [State.adoptFrames]
  repeat' (with_reducible first | exact Kept.refl _ | exact kept_id _ | apply kept_forL | apply kept_shiftFrames | apply kept_raise | apply kept_ite | apply kept_ite_fst | apply kept_cond | apply kept_foldOver | apply kept_foldOver_fst | intro _ | refine kept_of_fst ‹_ = (_, _)› ?_ | simp only [kept_mk_iff] | split)

theorem kept_setAdopt {s₀ : State} (p d : Nat) (s : State)  (hk : Kept s₀ s) : Kept s₀ (State.setAdopt p d s) := by
  refine Kept.trans hk ?_
  simp only [State.setAdopt]
  repeat' (with_reducible first | exact Kept.refl _ | exact kept_id _ | apply kept_ite | apply kept_ite_fst | apply kept_cond | apply kept_foldOver | apply kept_foldOver_fst | intro _ | refine kept_of_fst ‹_ = (_, _)› ?_ | simp only [kept_mk_iff] | split)

theorem kept_unsync {s₀ : State} (mask : Nat) (s : State)  (hk : Kept s₀ s) : Kept s₀ (State.unsync mask s) := by
  refine Kept.trans hk ?_
  simp only [State.unsync]
  repeat' (with_reducible first | exact Kept.refl _ | exact kept_id _ | apply kept_wr | apply kept_forL | apply kept_haltRacker | apply kept_ite | apply kept_ite_fst | apply kept_cond | apply kept_foldOver | apply kept_foldOver_fst | intro _ | refine kept_of_fst ‹_ = (_, _)› ?_ | simp only [kept_mk_iff] | split)

theorem kept_landRecord {s₀ : State} (r result : Nat) (groups : List PlanGroup) (s : State)  (hk : Kept s₀ s) : Kept s₀ (State.landRecord r result groups s) := by
  refine Kept.trans hk ?_
  simp only [State.landRecord]
  repeat' (with_reducible first | exact Kept.refl _ | exact kept_id _ | apply kept_wr | apply kept_pendMasks | apply kept_forL | apply kept_setRckH | apply kept_showRck | apply kept_ite | apply kept_ite_fst | apply kept_cond | apply kept_foldOver | apply kept_foldOver_fst | intro _ | refine kept_of_fst ‹_ = (_, _)› ?_ | simp only [kept_mk_iff] | split)

theorem kept_stageWords {s₀ : State} (h : Nat) (words : List Nat) (s : State)  (hk : Kept s₀ s) : Kept s₀ (State.stageWords h words s) := by
  refine Kept.trans hk ?_
  simp only [State.stageWords]
  repeat' (with_reducible first | exact Kept.refl _ | exact kept_id _ | apply kept_setWord | apply kept_forN | apply kept_ite | apply kept_ite_fst | apply kept_cond | apply kept_foldOver | apply kept_foldOver_fst | intro _ | refine kept_of_fst ‹_ = (_, _)› ?_ | simp only [kept_mk_iff] | split)

theorem kept_applyEffect {s₀ : State} (r kind : Nat) (words : List Nat) (s : State) (hk : Kept s₀ s) :
    Kept s₀ (State.applyEffect r kind words s) := by
  unfold State.applyEffect
  split
  · exact kept_writeFence _ _ _ hk
  · exact kept_driveGpo _ _ _ _ hk
  · exact kept_ite (kept_leaseLocal _ _ _ _ hk) hk
  · refine kept_ite (kept_freeLocal _ _ _ hk) (kept_ite (kept_endLease _ _ _ hk) hk)
  · dsimp only
    split
    · exact kept_ringChannel _ _ _ _ _ hk
    · exact hk
  · exact kept_addMark _ _ _ _ _ hk
  · exact kept_requestEpoch _ _ hk
  · exact kept_headCommit _ _ _ (kept_stageWords _ _ _ hk)
  · exact kept_sendSlot _ _ _ _ hk
  · exact kept_ite hk (kept_freeSlot _ _ hk)
theorem kept_landHeld {s₀ : State} (s : State)  (hk : Kept s₀ s) : Kept s₀ (State.landHeld s) := by
  refine Kept.trans hk ?_
  simp only [State.landHeld]
  repeat' (with_reducible first | exact Kept.refl _ | exact kept_id _ | apply kept_forL | apply kept_landRecord | apply kept_effect | apply kept_ite | apply kept_ite_fst | apply kept_cond | apply kept_foldOver | apply kept_foldOver_fst | intro _ | refine kept_of_fst ‹_ = (_, _)› ?_ | simp only [kept_mk_iff] | split)

theorem kept_takeOver {s₀ : State} (s : State)  (hk : Kept s₀ s) : Kept s₀ (State.takeOver s) := by
  refine Kept.trans hk ?_
  simp only [State.takeOver]
  repeat' (with_reducible first | exact Kept.refl _ | exact kept_id _ | apply kept_landHeld | apply kept_wr | apply kept_enterTakeover | apply kept_raise | apply kept_ite | apply kept_ite_fst | apply kept_cond | apply kept_foldOver | apply kept_foldOver_fst | intro _ | refine kept_of_fst ‹_ = (_, _)› ?_ | simp only [kept_mk_iff] | split)

theorem kept_relinquishSeen {s₀ : State} (s : State)  (hk : Kept s₀ s) : Kept s₀ (State.relinquishSeen s) := by
  refine Kept.trans hk ?_
  simp only [State.relinquishSeen]
  repeat' (with_reducible first | exact Kept.refl _ | exact kept_id _ | apply kept_raise | apply kept_takeOver | apply kept_inheritTwin | apply kept_ite | apply kept_ite_fst | apply kept_cond | apply kept_foldOver | apply kept_foldOver_fst | intro _ | refine kept_of_fst ‹_ = (_, _)› ?_ | simp only [kept_mk_iff] | split)

theorem kept_execTokenRenew (s : State) : ∃ t, execTokenRenew s = .next t ∧ Kept s t := by
  refine ⟨_, rfl, ?_⟩
  repeat' (with_reducible first | exact Kept.refl _ | exact kept_id _ | apply kept_takeToken | apply kept_ite | apply kept_ite_fst | apply kept_cond | apply kept_foldOver | apply kept_foldOver_fst | intro _ | refine kept_of_fst ‹_ = (_, _)› ?_ | simp only [kept_mk_iff] | split)

theorem kept_execTokenLapse (s : State) : ∃ t, execTokenLapse s = .next t ∧ Kept s t := by
  refine ⟨_, rfl, ?_⟩
  repeat' (with_reducible first | exact Kept.refl _ | exact kept_id _ | apply kept_endLease | apply kept_wr | apply kept_emit | apply kept_raise | apply kept_inheritTwin | apply kept_ite | apply kept_ite_fst | apply kept_cond | apply kept_foldOver | apply kept_foldOver_fst | intro _ | refine kept_of_fst ‹_ = (_, _)› ?_ | simp only [kept_mk_iff] | split)

theorem kept_execFenceWaitExpiry (s : State) : ∃ t, execFenceWaitExpiry s = .next t ∧ Kept s t := by
  refine ⟨_, rfl, ?_⟩
  repeat' (with_reducible first | exact Kept.refl _ | exact kept_id _ | apply kept_takeOver | apply kept_sendInherit | apply kept_ite | apply kept_ite_fst | apply kept_cond | apply kept_foldOver | apply kept_foldOver_fst | intro _ | refine kept_of_fst ‹_ = (_, _)› ?_ | simp only [kept_mk_iff] | split)

theorem kept_sampleClaim {s₀ : State} (level : Bool) (s : State)  (hk : Kept s₀ s) : Kept s₀ (State.sampleClaim level s) := by
  refine Kept.trans hk ?_
  simp only [State.sampleClaim]
  repeat' (with_reducible first | exact Kept.refl _ | exact kept_id _ | apply kept_wrB | apply kept_ite | apply kept_ite_fst | apply kept_cond | apply kept_foldOver | apply kept_foldOver_fst | intro _ | refine kept_of_fst ‹_ = (_, _)› ?_ | simp only [kept_mk_iff] | split)

theorem kept_execClaimInLow (s : State) : ∃ t, execClaimInLow s = .next t ∧ Kept s t := by
  refine ⟨_, rfl, ?_⟩
  repeat' (with_reducible first | exact Kept.refl _ | exact kept_id _ | apply kept_sampleClaim | apply kept_relinquishSeen | apply kept_ite | apply kept_ite_fst | apply kept_cond | apply kept_foldOver | apply kept_foldOver_fst | intro _ | refine kept_of_fst ‹_ = (_, _)› ?_ | simp only [kept_mk_iff] | split)

theorem kept_execFenceIn (s : State) : ∃ t, execFenceIn s = .next t ∧ Kept s t := by
  refine ⟨_, rfl, ?_⟩
  repeat' (with_reducible first | exact Kept.refl _ | exact kept_id _ | apply kept_wr | apply kept_raise | apply kept_setClaim | apply kept_forN | apply kept_stopTx | apply kept_releaseToken | apply kept_enterMode | apply kept_haltAll | apply kept_diverge | apply kept_ite | apply kept_ite_fst | apply kept_cond | apply kept_foldOver | apply kept_foldOver_fst | intro _ | refine kept_of_fst ‹_ = (_, _)› ?_ | simp only [kept_mk_iff] | split)

theorem kept_execFenceInReleased (s : State) : ∃ t, execFenceInReleased s = .next t ∧ Kept s t := by
  refine ⟨_, rfl, ?_⟩
  repeat' (with_reducible first | exact Kept.refl _ | exact kept_id _ | apply kept_wr | apply kept_setClaim | apply kept_askCatchup | apply kept_ite | apply kept_ite_fst | apply kept_cond | apply kept_foldOver | apply kept_foldOver_fst | intro _ | refine kept_of_fst ‹_ = (_, _)› ?_ | simp only [kept_mk_iff] | split)

theorem kept_execTakeoverComplete (s : State) : ∃ t, execTakeoverComplete s = .next t ∧ Kept s t := by
  refine ⟨_, rfl, ?_⟩
  repeat' (with_reducible first | exact Kept.refl _ | exact kept_id _ | apply kept_enterMode | apply kept_takeToken | apply kept_forL | apply kept_requestRacker | apply kept_sendInherit | apply kept_ite | apply kept_ite_fst | apply kept_cond | apply kept_foldOver | apply kept_foldOver_fst | intro _ | refine kept_of_fst ‹_ = (_, _)› ?_ | simp only [kept_mk_iff] | split)

end Sys2Proof.Machine
end

