-- ==== Sys2Proof/Laws/KeptTwinLink.lean ====
section
/-! SUPPORT. What the operations of Machine/TwinLink.lean keep. -/

set_option linter.unusedTactic false
set_option linter.unreachableTactic false
set_option linter.unusedSimpArgs false

namespace Sys2Proof.Machine

theorem kept_record {s₀ : State} (len crc : Nat) (groups : List Nat) (units : Bool) (f : State → State) (s : State) (hf : ∀ u, Kept u (f u)) (hk : Kept s₀ s) : Kept s₀ (State.record len crc groups units f s) := by
  refine Kept.trans hk ?_
  simp only [State.record]
  repeat' (with_reducible first | exact Kept.refl _ | exact kept_id _ | apply kept_freeUnits | apply kept_bump | refine Kept.trans ?_ (hf ..) | apply kept_ite | apply kept_ite_fst | apply kept_cond | apply kept_foldOver | apply kept_foldOver_fst | intro _ | refine kept_of_fst ‹_ = (_, _)› ?_ | simp only [kept_mk_iff] | split)

theorem kept_execStateSent (claimIn : Bool) (s : State) : ∃ t, execStateSent claimIn s = .next t ∧ Kept s t := by
  refine ⟨_, rfl, ?_⟩
  repeat' (with_reducible first | exact Kept.refl _ | exact kept_id _ | apply kept_sampleClaim | apply kept_adoptFrames | apply kept_resync | apply kept_sendFree | apply kept_bookOut | apply kept_bookIn | apply kept_unsync | apply kept_ite | apply kept_ite_fst | apply kept_cond | apply kept_foldOver | apply kept_foldOver_fst | intro _ | refine kept_of_fst ‹_ = (_, _)› ?_ | simp only [kept_mk_iff] | split)

theorem kept_takeJack {s₀ : State} (jack : Nat) (s : State)  (hk : Kept s₀ s) : Kept s₀ (State.takeJack jack s) := by
  refine Kept.trans hk ?_
  simp only [State.takeJack]
  repeat' (with_reducible first | exact Kept.refl _ | exact kept_id _ | apply kept_journal | apply kept_forL | apply kept_sendEntry | apply kept_bumpBy | apply kept_ite | apply kept_ite_fst | apply kept_cond | apply kept_foldOver | apply kept_foldOver_fst | intro _ | refine kept_of_fst ‹_ = (_, _)› ?_ | simp only [kept_mk_iff] | split)

theorem kept_copyToken {s₀ : State} (e : Nat) (s : State)  (hk : Kept s₀ s) : Kept s₀ (State.copyToken e s) := by
  refine Kept.trans hk ?_
  simp only [State.copyToken]
  repeat' (with_reducible first | exact Kept.refl _ | exact kept_id _ | apply kept_grantLease | apply kept_endLease | apply kept_ite | apply kept_ite_fst | apply kept_cond | apply kept_foldOver | apply kept_foldOver_fst | intro _ | refine kept_of_fst ‹_ = (_, _)› ?_ | simp only [kept_mk_iff] | split)

theorem kept_compareState {s₀ : State} (g : List Nat) (s : State)  (hk : Kept s₀ s) : Kept s₀ (State.compareState g s) := by
  refine Kept.trans hk ?_
  simp only [State.compareState]
  repeat' (with_reducible first | exact Kept.refl _ | exact kept_id _ | apply kept_setAdopt | apply kept_forL | apply kept_ite | apply kept_ite_fst | apply kept_cond | apply kept_foldOver | apply kept_foldOver_fst | intro _ | refine kept_of_fst ‹_ = (_, _)› ?_ | simp only [kept_mk_iff] | split)

theorem kept_takePeer {s₀ : State} (g : List Nat) (s : State)  (hk : Kept s₀ s) : Kept s₀ (State.takePeer g s) := by
  refine Kept.trans hk ?_
  simp only [State.takePeer]
  repeat' (with_reducible first | exact Kept.refl _ | exact kept_id _ | apply kept_wr | apply kept_updateAble | apply kept_unfence | apply kept_ite | apply kept_ite_fst | apply kept_cond | apply kept_foldOver | apply kept_foldOver_fst | intro _ | refine kept_of_fst ‹_ = (_, _)› ?_ | simp only [kept_mk_iff] | split)

theorem kept_takeUnits {s₀ : State} (n : Nat) (s : State)  (hk : Kept s₀ s) : Kept s₀ (State.takeUnits n s) := by
  refine Kept.trans hk ?_
  simp only [State.takeUnits]
  repeat' (with_reducible first | exact Kept.refl _ | exact kept_id _ | apply kept_drainMirror | apply kept_ite | apply kept_ite_fst | apply kept_cond | apply kept_foldOver | apply kept_foldOver_fst | intro _ | refine kept_of_fst ‹_ = (_, _)› ?_ | simp only [kept_mk_iff] | split)

theorem kept_takeSelection {s₀ : State} (sel : Option Nat) (s : State)  (hk : Kept s₀ s) : Kept s₀ (State.takeSelection sel s) := by
  refine Kept.trans hk ?_
  simp only [State.takeSelection]
  repeat' (with_reducible first | exact Kept.refl _ | exact kept_id _ | apply kept_refEnd | apply kept_ite | apply kept_ite_fst | apply kept_cond | apply kept_foldOver | apply kept_foldOver_fst | intro _ | refine kept_of_fst ‹_ = (_, _)› ?_ | simp only [kept_mk_iff] | split)

theorem kept_seeSolo {s₀ : State} (s : State)  (hk : Kept s₀ s) : Kept s₀ (State.seeSolo s) := by
  refine Kept.trans hk ?_
  simp only [State.seeSolo]
  repeat' (with_reducible first | exact Kept.refl _ | exact kept_id _ | apply kept_wr | apply kept_ite | apply kept_ite_fst | apply kept_cond | apply kept_foldOver | apply kept_foldOver_fst | intro _ | refine kept_of_fst ‹_ = (_, _)› ?_ | simp only [kept_mk_iff] | split)

theorem kept_seeClaim {s₀ : State} (s : State)  (hk : Kept s₀ s) : Kept s₀ (State.seeClaim s) := by
  refine Kept.trans hk ?_
  simp only [State.seeClaim]
  repeat' (with_reducible first | exact Kept.refl _ | exact kept_id _ | apply kept_quiesce | apply kept_ite | apply kept_ite_fst | apply kept_cond | apply kept_foldOver | apply kept_foldOver_fst | intro _ | refine kept_of_fst ‹_ = (_, _)› ?_ | simp only [kept_mk_iff] | split)

theorem kept_takeState {s₀ : State} (g : List Nat) (s : State)  (hk : Kept s₀ s) : Kept s₀ (State.takeState g s) := by
  refine Kept.trans hk ?_
  simp only [State.takeState]
  repeat' (with_reducible first | exact Kept.refl _ | exact kept_id _ | apply kept_takePeer | apply kept_copyToken | apply kept_takeJack | apply kept_takeUnits | apply kept_when | apply kept_unsync | apply kept_compareState | apply kept_takeSelection | apply kept_seeClaim | apply kept_seeSolo | apply kept_relinquishSeen | apply kept_ite | apply kept_ite_fst | apply kept_cond | apply kept_foldOver | apply kept_foldOver_fst | intro _ | refine kept_of_fst ‹_ = (_, _)› ?_ | simp only [kept_mk_iff] | split)

theorem kept_execStateReceived (len crc : Nat) (groups : List Nat) (s : State) : ∃ t, execStateReceived len crc groups s = .next t ∧ Kept s t := by
  refine ⟨_, rfl, ?_⟩
  repeat' (with_reducible first | exact Kept.refl _ | exact kept_id _ | apply kept_record | apply kept_takeState | apply kept_adoptFrames | apply kept_ite | apply kept_ite_fst | apply kept_cond | apply kept_foldOver | apply kept_foldOver_fst | intro _ | refine kept_of_fst ‹_ = (_, _)› ?_ | simp only [kept_mk_iff] | split)

theorem kept_execMirrorLinkDown (s : State) : ∃ t, execMirrorLinkDown s = .next t ∧ Kept s t := by
  refine ⟨_, rfl, ?_⟩
  repeat' (with_reducible first | exact Kept.refl _ | exact kept_id _ | apply kept_mirrorDown | apply kept_ite | apply kept_ite_fst | apply kept_cond | apply kept_foldOver | apply kept_foldOver_fst | intro _ | refine kept_of_fst ‹_ = (_, _)› ?_ | simp only [kept_mk_iff] | split)

theorem kept_execMirrorLinkUp (s : State) : ∃ t, execMirrorLinkUp s = .next t ∧ Kept s t := by
  refine ⟨_, rfl, ?_⟩
  repeat' (with_reducible first | exact Kept.refl _ | exact kept_id _ | apply kept_mirrorUp | apply kept_ite | apply kept_ite_fst | apply kept_cond | apply kept_foldOver | apply kept_foldOver_fst | intro _ | refine kept_of_fst ‹_ = (_, _)› ?_ | simp only [kept_mk_iff] | split)

theorem kept_execJournalEntry (m : Fin 22) (addr len data : Nat) (s : State) : ∃ t, execJournalEntry m addr len data s = .next t ∧ Kept s t := by
  refine ⟨_, rfl, ?_⟩
  repeat' (with_reducible first | exact Kept.refl _ | exact kept_id _ | apply kept_busWrite | apply kept_ite | apply kept_ite_fst | apply kept_cond | apply kept_foldOver | apply kept_foldOver_fst | intro _ | refine kept_of_fst ‹_ = (_, _)› ?_ | simp only [kept_mk_iff] | split)

theorem kept_execJournalStallRelease (s : State) : ∃ t, execJournalStallRelease s = .next t ∧ Kept s t := by
  refine ⟨_, rfl, ?_⟩
  repeat' (with_reducible first | exact Kept.refl _ | exact kept_id _ | apply kept_releaseStalled | apply kept_ite | apply kept_ite_fst | apply kept_cond | apply kept_foldOver | apply kept_foldOver_fst | intro _ | refine kept_of_fst ‹_ = (_, _)› ?_ | simp only [kept_mk_iff] | split)

theorem kept_takeEntry {s₀ : State} (e : JEntry) (s : State)  (hk : Kept s₀ s) : Kept s₀ (State.takeEntry e s) := by
  refine Kept.trans hk ?_
  simp only [State.takeEntry]
  repeat' (with_reducible first | exact Kept.refl _ | exact kept_id _ | apply kept_wr | apply kept_diverge | apply kept_ite | apply kept_ite_fst | apply kept_cond | apply kept_foldOver | apply kept_foldOver_fst | intro _ | refine kept_of_fst ‹_ = (_, _)› ?_ | simp only [kept_mk_iff] | split)

theorem kept_execJournalReceived (len crc : Nat) (groups : List Nat) (s : State) : ∃ t, execJournalReceived len crc groups s = .next t ∧ Kept s t := by
  refine ⟨_, rfl, ?_⟩
  repeat' (with_reducible first | exact Kept.refl _ | exact kept_id _ | apply kept_record | apply kept_takeEntry | apply kept_ite | apply kept_ite_fst | apply kept_cond | apply kept_foldOver | apply kept_foldOver_fst | intro _ | refine kept_of_fst ‹_ = (_, _)› ?_ | simp only [kept_mk_iff] | split)

theorem kept_applyWords {s₀ : State} (m a : Nat) (l : List Nat) (s : State) (hk : Kept s₀ s) : Kept s₀ (State.applyWords m a l s) := by
  induction l generalizing a s with
  | nil => exact hk
  | cons c l ih =>
    simp only [State.applyWords]
    exact ih _ _ (kept_applyWord _ _ _ _ hk)
theorem kept_renumberPlans {s₀ : State} (p : Nat) (l : List Nat) (s : State) (hk : Kept s₀ s) : Kept s₀ (State.renumberPlans p l s) := by
  induction l generalizing p s with
  | nil => exact hk
  | cons c l ih =>
    simp only [State.renumberPlans]
    refine ih _ _ ?_
    split
    · exact kept_applyRenumber _ _ hk
    · exact kept_shiftFrames _ _ _ hk
theorem kept_applyEntry {s₀ : State} (e : JEntry) (s : State)  (hk : Kept s₀ s) : Kept s₀ (State.applyEntry e s) := by
  refine Kept.trans hk ?_
  simp only [State.applyEntry]
  repeat' (with_reducible first | exact Kept.refl _ | exact kept_id _ | apply kept_wr | apply kept_applyWords | apply kept_applyGpi | apply kept_takeArrival | apply kept_renumberPlans | apply kept_ite | apply kept_ite_fst | apply kept_cond | apply kept_foldOver | apply kept_foldOver_fst | intro _ | refine kept_of_fst ‹_ = (_, _)› ?_ | simp only [kept_mk_iff] | split)

theorem kept_applyDue {s₀ : State} (n : Nat) (s : State) (hk : Kept s₀ s) : Kept s₀ (State.applyDue n s) := by
  induction n generalizing s with
  | zero => exact hk
  | succ n ih =>
    simp only [State.applyDue]
    split
    · refine ih _ (kept_applyEntry _ _ ?_)
      simp only [kept_mk_iff]
      exact hk
    · exact hk
theorem kept_applyEffects {s₀ : State} (s : State)  (hk : Kept s₀ s) : Kept s₀ (State.applyEffects s) := by
  refine Kept.trans hk ?_
  simp only [State.applyEffects]
  repeat' (with_reducible first | exact Kept.refl _ | exact kept_id _ | apply kept_effect | apply kept_forL | apply kept_applyEffect | apply kept_ite | apply kept_ite_fst | apply kept_cond | apply kept_foldOver | apply kept_foldOver_fst | intro _ | refine kept_of_fst ‹_ = (_, _)› ?_ | simp only [kept_mk_iff] | split)

theorem kept_execJournalApply (s : State) : ∃ t, execJournalApply s = .next t ∧ Kept s t := by
  refine ⟨_, rfl, ?_⟩
  repeat' (with_reducible first | exact Kept.refl _ | exact kept_id _ | apply kept_applyDue | apply kept_applyEffects | apply kept_ite | apply kept_ite_fst | apply kept_cond | apply kept_foldOver | apply kept_foldOver_fst | intro _ | refine kept_of_fst ‹_ = (_, _)› ?_ | simp only [kept_mk_iff] | split)

theorem kept_execOprecReceived (len : Nat) (r : Fin 16) (result : Word) (groups : List PlanGroup) (s : State) : ∃ t, execOprecReceived len r result groups s = .next t ∧ Kept s t := by
  refine ⟨_, rfl, ?_⟩
  repeat' (with_reducible first | exact Kept.refl _ | exact kept_id _ | apply kept_freeUnits | apply kept_landRecord | apply kept_ite | apply kept_ite_fst | apply kept_cond | apply kept_foldOver | apply kept_foldOver_fst | intro _ | refine kept_of_fst ‹_ = (_, _)› ?_ | simp only [kept_mk_iff] | split)

theorem kept_execEffectReceived (len : Nat) (r : Fin 16) (kind : Fin 10) (frame line : Nat) (words : List Nat) (s : State) : ∃ t, execEffectReceived len r kind frame line words s = .next t ∧ Kept s t := by
  refine ⟨_, rfl, ?_⟩
  repeat' (with_reducible first | exact Kept.refl _ | exact kept_id _ | apply kept_freeUnits | apply kept_effect | apply kept_ite | apply kept_ite_fst | apply kept_cond | apply kept_foldOver | apply kept_foldOver_fst | intro _ | refine kept_of_fst ‹_ = (_, _)› ?_ | simp only [kept_mk_iff] | split)

theorem kept_execCkptReceived (len crc : Nat) (groups : List Nat) (s : State) : ∃ t, execCkptReceived len crc groups s = .next t ∧ Kept s t := by
  refine ⟨_, rfl, ?_⟩
  repeat' (with_reducible first | exact Kept.refl _ | exact kept_id _ | apply kept_record | apply kept_wr | apply kept_setWord | apply kept_ite | apply kept_ite_fst | apply kept_cond | apply kept_foldOver | apply kept_foldOver_fst | intro _ | refine kept_of_fst ‹_ = (_, _)› ?_ | simp only [kept_mk_iff] | split)

theorem kept_execMailRecord (len crc : Nat) (groups : List Nat) (s : State) : ∃ t, execMailRecord len crc groups s = .next t ∧ Kept s t := by
  refine ⟨_, rfl, ?_⟩
  repeat' (with_reducible first | exact Kept.refl _ | exact kept_id _ | apply kept_record | apply kept_freeUnits | apply kept_mailAck | apply kept_mailDeliver | apply kept_setMailH | apply kept_ite | apply kept_ite_fst | apply kept_cond | apply kept_foldOver | apply kept_foldOver_fst | intro _ | refine kept_of_fst ‹_ = (_, _)› ?_ | simp only [kept_mk_iff] | split)

theorem kept_execMailRecordAck (len crc : Nat) (groups : List Nat) (s : State) : ∃ t, execMailRecordAck len crc groups s = .next t ∧ Kept s t := by
  refine ⟨_, rfl, ?_⟩
  repeat' (with_reducible first | exact Kept.refl _ | exact kept_id _ | apply kept_record | apply kept_setMailH | apply kept_freeSlot | apply kept_ite | apply kept_ite_fst | apply kept_cond | apply kept_foldOver | apply kept_foldOver_fst | intro _ | refine kept_of_fst ‹_ = (_, _)› ?_ | simp only [kept_mk_iff] | split)

theorem kept_execRingRecord (len crc : Nat) (groups : List Nat) (s : State) : ∃ t, execRingRecord len crc groups s = .next t ∧ Kept s t := by
  refine ⟨_, rfl, ?_⟩
  repeat' (with_reducible first | exact Kept.refl _ | exact kept_id _ | apply kept_record | apply kept_setBells | apply kept_ite | apply kept_ite_fst | apply kept_cond | apply kept_foldOver | apply kept_foldOver_fst | intro _ | refine kept_of_fst ‹_ = (_, _)› ?_ | simp only [kept_mk_iff] | split)

theorem kept_execMirrorMailSend (r : Fin 16) (s : State) : ∃ t, execMirrorMailSend r s = .next t ∧ Kept s t := by
  refine ⟨_, rfl, ?_⟩
  repeat' (with_reducible first | exact Kept.refl _ | exact kept_id _ | apply kept_setMailH | apply kept_sendMirror | apply kept_ite | apply kept_ite_fst | apply kept_cond | apply kept_foldOver | apply kept_foldOver_fst | intro _ | refine kept_of_fst ‹_ = (_, _)› ?_ | simp only [kept_mk_iff] | split)

end Sys2Proof.Machine
end

