-- ==== Sys2Proof/Laws/KeptCatchup.lean ====
section
/-! SUPPORT. What the operations of Machine/Catchup.lean keep. -/

set_option linter.unusedTactic false
set_option linter.unreachableTactic false
set_option linter.unusedSimpArgs false

namespace Sys2Proof.Machine

theorem kept_execUnfence (m : Fin 22) (s : State) : ∃ t, execUnfence m s = .next t ∧ Kept s t := by
  refine ⟨_, rfl, ?_⟩
  repeat' (with_reducible first | exact Kept.refl _ | exact kept_id _ | apply kept_busWrite | apply kept_ite | apply kept_ite_fst | apply kept_cond | apply kept_foldOver | apply kept_foldOver_fst | intro _ | refine kept_of_fst ‹_ = (_, _)› ?_ | simp only [kept_mk_iff] | split)

theorem kept_execGoSolo (m : Fin 22) (s : State) : ∃ t, execGoSolo m s = .next t ∧ Kept s t := by
  refine ⟨_, rfl, ?_⟩
  repeat' (with_reducible first | exact Kept.refl _ | exact kept_id _ | apply kept_busWrite | apply kept_ite | apply kept_ite_fst | apply kept_cond | apply kept_foldOver | apply kept_foldOver_fst | intro _ | refine kept_of_fst ‹_ = (_, _)› ?_ | simp only [kept_mk_iff] | split)

theorem kept_execCatchup (m : Option (Fin 22)) (s : State) : ∃ t, execCatchup m s = .next t ∧ Kept s t := by
  refine ⟨_, rfl, ?_⟩
  repeat' (with_reducible first | exact Kept.refl _ | exact kept_id _ | apply kept_busWrite | apply kept_takeCatchup | apply kept_ite | apply kept_ite_fst | apply kept_cond | apply kept_foldOver | apply kept_foldOver_fst | intro _ | refine kept_of_fst ‹_ = (_, _)› ?_ | simp only [kept_mk_iff] | split)

theorem kept_leaveSolo {s₀ : State} (s : State)  (hk : Kept s₀ s) : Kept s₀ (State.leaveSolo s) := by
  refine Kept.trans hk ?_
  simp only [State.leaveSolo]
  repeat' (with_reducible first | exact Kept.refl _ | exact kept_id _ | apply kept_enterMode | apply kept_takeToken | apply kept_ite | apply kept_ite_fst | apply kept_cond | apply kept_foldOver | apply kept_foldOver_fst | intro _ | refine kept_of_fst ‹_ = (_, _)› ?_ | simp only [kept_mk_iff] | split)

theorem kept_sendCapture {s₀ : State} (s : State)  (hk : Kept s₀ s) : Kept s₀ (State.sendCapture s) := by
  refine Kept.trans hk ?_
  simp only [State.sendCapture]
  repeat' (with_reducible first | exact Kept.refl _ | exact kept_id _ | apply kept_sendRecord | apply kept_unsync | apply kept_leaveSolo | apply kept_ite | apply kept_ite_fst | apply kept_cond | apply kept_foldOver | apply kept_foldOver_fst | intro _ | refine kept_of_fst ‹_ = (_, _)› ?_ | simp only [kept_mk_iff] | split)

theorem kept_execCatchupCapture (s : State) : ∃ t, execCatchupCapture s = .next t ∧ Kept s t := by
  refine ⟨_, rfl, ?_⟩
  repeat' (with_reducible first | exact Kept.refl _ | exact kept_id _ | apply kept_sendCapture | apply kept_ite | apply kept_ite_fst | apply kept_cond | apply kept_foldOver | apply kept_foldOver_fst | intro _ | refine kept_of_fst ‹_ = (_, _)› ?_ | simp only [kept_mk_iff] | split)

theorem kept_loadMemory {s₀ : State} (r : Nat) (words : List (Nat × Word)) (s : State)  (hk : Kept s₀ s) : Kept s₀ (State.loadMemory r words s) := by
  refine Kept.trans hk ?_
  simp only [State.loadMemory]
  repeat' (with_reducible first | exact Kept.refl _ | exact kept_id _ | apply kept_forN | apply kept_setWord | apply kept_ite | apply kept_ite_fst | apply kept_cond | apply kept_foldOver | apply kept_foldOver_fst | intro _ | refine kept_of_fst ‹_ = (_, _)› ?_ | simp only [kept_mk_iff] | split)

theorem kept_execImageReceived (len : Nat) (memory : Option (Fin 16)) (part : Image) (last : Bool) (s : State) : ∃ t, execImageReceived len memory part last s = .next t ∧ Kept s t := by
  refine ⟨_, rfl, ?_⟩
  repeat' (with_reducible first | exact Kept.refl _ | exact kept_id _ | apply kept_freeUnits | apply kept_loadMemory | apply kept_ite | apply kept_ite_fst | apply kept_cond | apply kept_foldOver | apply kept_foldOver_fst | intro _ | refine kept_of_fst ‹_ = (_, _)› ?_ | simp only [kept_mk_iff] | split)

theorem kept_installPlain {s₀ : State} (img : Image) (s : State)  (hk : Kept s₀ s) : Kept s₀ (State.installPlain img s) := by
  refine Kept.trans hk ?_
  simp only [State.installPlain]
  repeat' (with_reducible first | exact Kept.refl _ | exact kept_id _ | apply kept_forL | apply kept_setWord | apply kept_setRckH | apply kept_ite | apply kept_ite_fst | apply kept_cond | apply kept_foldOver | apply kept_foldOver_fst | intro _ | refine kept_of_fst ‹_ = (_, _)› ?_ | simp only [kept_mk_iff] | split)

theorem kept_installNamed {s₀ : State} (img : Image) (a : Nat) (s : State)  (hk : Kept s₀ s) : Kept s₀ (State.installNamed img a s) := by
  refine Kept.trans hk ?_
  simp only [State.installNamed]
  repeat' (with_reducible first | exact Kept.refl _ | exact kept_id _ | apply kept_applyWord | apply kept_ite | apply kept_ite_fst | apply kept_cond | apply kept_foldOver | apply kept_foldOver_fst | intro _ | refine kept_of_fst ‹_ = (_, _)› ?_ | simp only [kept_mk_iff] | split)

theorem kept_landSoon {s₀ : State} (changes : List Change) (s : State)  (hk : Kept s₀ s) : Kept s₀ (State.landSoon changes s) := by
  refine Kept.trans hk ?_
  simp only [State.landSoon]
  repeat' (with_reducible first | exact Kept.refl _ | exact kept_id _ | apply kept_forN | apply kept_ite | apply kept_ite_fst | apply kept_cond | apply kept_foldOver | apply kept_foldOver_fst | intro _ | refine kept_of_fst ‹_ = (_, _)› ?_ | simp only [kept_mk_iff] | split)

theorem kept_installRecord {s₀ : State} (r result : Nat) (groups : List PlanGroup) (s : State)  (hk : Kept s₀ s) : Kept s₀ (State.installRecord r result groups s) := by
  refine Kept.trans hk ?_
  simp only [State.installRecord]
  repeat' (with_reducible first | exact Kept.refl _ | exact kept_id _ | apply kept_landSoon | apply kept_landRecord | apply kept_ite | apply kept_ite_fst | apply kept_cond | apply kept_foldOver | apply kept_foldOver_fst | intro _ | refine kept_of_fst ‹_ = (_, _)› ?_ | simp only [kept_mk_iff] | split)

theorem kept_installHeads {s₀ : State} (img : Image) (s : State)  (hk : Kept s₀ s) : Kept s₀ (State.installHeads img s) := by
  refine Kept.trans hk ?_
  simp only [State.installHeads]
  repeat' (with_reducible first | exact Kept.refl _ | exact kept_id _ | apply kept_forL | apply kept_setMvhH | apply kept_ite | apply kept_ite_fst | apply kept_cond | apply kept_foldOver | apply kept_foldOver_fst | intro _ | refine kept_of_fst ‹_ = (_, _)› ?_ | simp only [kept_mk_iff] | split)

theorem kept_installFrames {s₀ : State} (img : Image) (f : Nat) (s : State)  (hk : Kept s₀ s) : Kept s₀ (State.installFrames img f s) := by
  refine Kept.trans hk ?_
  simp only [State.installFrames]
  repeat' (with_reducible first | exact Kept.refl _ | exact kept_id _ | apply kept_forN | apply kept_adoptFrames | apply kept_ite | apply kept_ite_fst | apply kept_cond | apply kept_foldOver | apply kept_foldOver_fst | intro _ | refine kept_of_fst ‹_ = (_, _)› ?_ | simp only [kept_mk_iff] | split)

theorem kept_install {s₀ : State} (img : Image) (f : Nat) (s : State) (hk : Kept s₀ s) : Kept s₀ (State.install img f s) := by
  unfold State.install
  extract_lets s1 named s2 s3 s4 s5 s6 held src tw s7 s8 s9
  have h1 : Kept s₀ s1 := kept_installPlain _ _ (kept_forL (fun a u => kept_haltRacker _ _ (Kept.refl u)) hk)
  have h2 : Kept s₀ s2 := kept_forL (fun a u => kept_installNamed _ _ _ (Kept.refl u)) h1
  clear_value s2
  have h3 : Kept s₀ s3 := kept_installHeads _ _ (kept_mk_iff.2 h2)
  clear_value s3
  have h4 : Kept s₀ s4 := kept_landSoon _ _ (kept_followHostGpo _ h3)
  clear_value s4
  have h5 : Kept s₀ s5 := kept_installFrames _ _ _ h4
  clear_value s5
  have h6 : Kept s₀ s6 := kept_wr _ _ _ (kept_wr _ _ _ h5)
  clear_value s6 held
  have h7 : Kept s₀ s7 := by
    refine kept_mk_iff.2 ?_
    exact kept_wr _ _ _ h6
  clear_value s7
  have h8 : Kept s₀ s8 := kept_applyDue _ _ h7
  clear_value s8
  have h9 : Kept s₀ s9 := by
    refine kept_forL (fun a u => ?_) h8
    cases a
    · exact kept_installRecord _ _ _ _ (Kept.refl u)
    · exact Kept.refl u
  exact kept_raise _ _ (kept_applyEffects _ h9)
theorem kept_execCatchupInstall (s : State) : ∃ t, execCatchupInstall s = .next t ∧ Kept s t := by
  refine ⟨_, rfl, ?_⟩
  repeat' (with_reducible first | exact Kept.refl _ | exact kept_id _ | apply kept_install | apply kept_ite | apply kept_ite_fst | apply kept_cond | apply kept_foldOver | apply kept_foldOver_fst | intro _ | refine kept_of_fst ‹_ = (_, _)› ?_ | simp only [kept_mk_iff] | split)

end Sys2Proof.Machine
end

