-- ==== Sys2Proof/Laws/Mgt.lean ====
section
/-! SUPPORT. What serving a management command does (chapter 16). -/

namespace Sys2Proof.Machine

/-- A command that waits on an open reply channel is taken, run and answered with its status and results. -/
theorem State.serve_of (s : State) {c : Nat} {w : List Nat} {mac code : Nat} (other : Bool)
    (run : Nat → List Nat → State → State × Nat × List Nat) (h0 : s.command = some (c, w, mac)) (h1 : s.mgtRuns = true)
    (h2 : s.replyOpen c = true) (h3 : w.getD 0 0 % 256 = code) (h4 : (s.takeCommand c).rd UPD_STATUS_STATE ≠ 2)
    (h5 : (s.takeCommand c).allowed c code = true) :
    s.serve code other run = (run c w (s.takeCommand c)).1.reply c mac code (w.getD 1 0) (run c w (s.takeCommand c)).2.1
      (run c w (s.takeCommand c)).2.2 := by
  unfold State.serve
  rw [h0]
  dsimp only
  rw [if_neg (by rw [h1, h2]; decide), if_pos h3, if_neg h4, if_neg (by rw [h5]; decide)]

end Sys2Proof.Machine
end

