-- ==== Sys2Proof/Laws/Racker.lean ====
section
/-! SUPPORT. What a racker's issue of an instruction comes to. -/

namespace Sys2Proof.Machine

/-- A decoded instruction carries the opcode of its word. -/
theorem rckDecode_op {w : Nat} {i : RckInstr} (h : rckDecode w = some i) : i.op = rckOp w := by
  simp only [rckDecode] at h
  cases hf : rckFields w with
  | none => simp [hf] at h
  | some j =>
    simp only [hf] at h
    split at h
    · cases h
      simp only [rckFields] at hf
      cases hk : rckFormat (rckOp w) with
      | none => simp [hk] at hf
      | some k =>
        cases k <;> simp only [hk] at hf
        · split at hf
          · cases hf; rfl
          · cases hf
        · cases hf; rfl
        · cases hf; rfl
        · cases hf; rfl
        · split at hf
          · cases hf; rfl
          · cases hf
    · cases h

variable (s : State)

/-- A resynchronisation changes no other word than the racker's status and, where the log is full, its count of losses. -/
theorem State.word_resync (r : Fin 16) {a : Nat} (h1 : a ≠ (RCK_STATUS_PT_RESYNC r).addr) (h2 : a ≠ MGT_LOG_LOST) :
    (s.resync r).word a = s.word a := by
  unfold State.resync
  split
  · exact State.word_raise _ h1 h2
  · rfl

/-- It leaves the PC. -/
theorem State.pc_resync (r : Fin 16) : (s.resync r).pc r = s.pc r := by
  have h1 : (RCK_PC_PC r).addr ≠ (RCK_STATUS_PT_RESYNC r).addr := by simp only [RCK_PC, RCK_STATUS]; omega
  have h2 : (RCK_PC_PC r).addr ≠ MGT_LOG_LOST := by simp only [RCK_PC, MGT_LOG_LOST]; omega
  simp only [State.pc, State.rd, s.word_resync r h1 h2]

/-- It leaves the word at the PC. -/
theorem State.fetchWord_resync (r : Fin 16) : (s.resync r).fetchWord r = s.fetchWord r := by
  have hp : s.pc r < 2 ^ 14 := by
    simp only [State.pc, State.rd, fieldGet]; exact Nat.mod_lt _ (by decide)
  have h1 : RCK_PM r (s.pc r) ≠ (RCK_STATUS_PT_RESYNC r).addr := by simp only [RCK_PM, RCK_STATUS]; omega
  have h2 : RCK_PM r (s.pc r) ≠ MGT_LOG_LOST := by simp only [RCK_PM, MGT_LOG_LOST]; omega
  simp only [State.fetchWord, s.pc_resync, s.word_resync r h1 h2]

/-- The command of an instruction that the racker issues executes it, at the resynchronised program time. -/
theorem State.issue_of {r : Fin 16} {i : RckInstr} {f : RckInstr → State → State} {op : Nat} (h : s.Issues r i) (ho : i.op = op) :
    s.issue r op f = f i (s.resync r) := by
  obtain ⟨h1, h2, h3⟩ := h
  have h4 : rckOp (s.fetchWord r) = op := by rw [← rckDecode_op h3, ho]
  simp only [State.issue, h1, h2, h4, s.fetchWord_resync, h3, Bool.not_false, Bool.and_self, BEq.rfl, if_true]

end Sys2Proof.Machine
end

