-- ==== Sys2Proof/WellFormed.lean ====
section
/-! DEFINITION. Which commands are well formed: what their types do not already bound. A command that is not well formed stands for
nothing that the surroundings can do. -/

namespace Sys2Proof

/-- Every number of a list fits in so many bits. -/
def allBits (w : Nat) (l : List Nat) : Bool := l.all fun v => decide (v < 2 ^ w)

/-- An access of 1 to 512 bytes over the 35-bit addresses of the control matrix, its data of that length (R623, R625, R632). -/
def accessWf (addr len data : Nat) : Bool :=
  decide (1 ≤ len) && decide (len ≤ 512) && decide (addr + len ≤ 2 ^ 35) && decide (data < 2 ^ (8 * len))

/-- A mirror record: groups of 16 bits, a CRC of 16 bits, and LEN from 2 to 1,023, which counts the groups and the CRC (R530). -/
def recordWf (len crc : Nat) (groups : List Nat) : Bool :=
  decide (2 ≤ len) && decide (len ≤ 1023) && decide (crc < 2 ^ 16) && len == groups.length + 1 && allBits 16 groups

/-- LEN of a mirror record whose groups the command gives as data (R530). -/
def lenWf (len : Nat) : Bool := decide (2 ≤ len) && decide (len ≤ 1023)

/-- What falls due for an area of a block: the area, its bits, its raster words, and the index plus one of the word that begins a line
(R116 to R120). -/
def areaWf (a : Nat × Nat × Nat × Nat) : Bool := decide (a.1 < 128) && decide (a.2.1 ≤ 4096) && decide (a.2.2.2 ≤ a.2.2.1)

/-- A well-formed command. The constructors not listed are bounded by the types of their operands. -/
def Instr.wf : Instr → Bool
  | .counterRead _ addr len => accessWf addr len 0
  | .registerWrite _ addr len data | .journalEntry _ addr len data => accessWf addr len data
  | .stateReceived len crc groups | .journalReceived len crc groups | .ckptReceived len crc groups
  | .mailRecord len crc groups | .mailRecordAck len crc groups | .ringRecord len crc groups => recordWf len crc groups
  | .oprecReceived len _ _ groups => lenWf len && groups.all fun g => decide (g.plan < 8) && decide (1 ≤ g.line)
  | .effectReceived len _ _ _ line words => lenWf len && decide (1 ≤ line) && allBits 32 words
  | .imageReceived len _ _ _ => lenWf len
  | .frameReceived _ _ bytes _ | .fragmentReceived _ _ bytes _ => allBits 8 bytes
  | .engineTick master => master.all fun e => allBits 32 [e.2.1, e.2.2]
  | .blockSent _ due => due.all areaWf
  | .blockReceived _ _ skews _ => decide (skews.length ≤ 8)
  | .storeLoad bytes _ | .updChunk bytes _ | .otpBankWrite bytes _ _ | .cbsFrameReceived bytes => allBits 8 bytes
  | .boot store _ _ => allBits 8 store
  | .i2sFrameReceived _ left right => allBits 32 [left, right]
  | .mail _ _ _ _ _ _ words => decide (words.length = 64) && allBits 32 words
  | .audio _ _ _ _ _ ticks => decide (ticks.length = 6) && ticks.all fun l => decide (l.length = 16) && allBits 32 l
  | .record _ _ _ _ _ tag _ _ checks _ _ => allBits 32 (tag :: checks) && decide (checks.length = 4)
  | .extest levels cells | .samplePreload levels cells => allBits 64 [levels, cells]
  | _ => true

end Sys2Proof
end

