-- ==== Sys2Proof/Tests/Slice0.lean ====
section
/-! SUPPORT. Tests of the model: well-formedness refuses, small examples of the spec, and for every statement with hypotheses a state
and operands that meet them. -/


namespace Sys2Proof.Tests

open Sys2Proof.Machine

set_option maxRecDepth 8000
set_option linter.unusedVariables false
set_option Elab.async false

/-! ## Example states -/

/-- Out of device reset with every domain ready, both functions of the endpoint up, DEFAULT mode and the controller running. -/
def live : State :=
  ((((((({ State.reset with top := { State.reset.top with inReset := false, reached := 2 ^ 16 - 1 } } : State).setWord (PWR_DOM_STAT 0) 0xFFFFFFFF).setWord
    (PWR_DOM_STAT 1) 0xFFFFFFFF).setWord (PWR_DOM_STAT 2) 0xFFFFFFFF).wr TOP_MODE_MODE 1).wr PCI_STATUS_LINK_UP 1).wr PCI_STATUS_F1_EN 1).wr
    MGT_STATUS_STATE 1 |>.wr ⟨SYN_STATUS, 0, 5⟩ 0
/-- A trellis whose receive direction is up. -/
def receiverUp : State := live.wr (TRL_STATUS_RX_STATE 0) 6
/-- A pattern checker that runs in DIAGNOSTIC. -/
def checkerRuns : State := (((live.wr TOP_MODE_MODE 9).wr (TRL_LANE_CFG_CHK_EN 0 0) 1).wr (TRL_LANE_CFG_PAT_SEL 0 0) 6).wr (TRL_LANE_STAT_ALIGNED 0 0) 1
/-- A trunk that sends. -/
def trunkSends : State := { (live.wr (TRL_STATUS_TX_ACTIVE 0) 1).wr (TRL_CFG_MODE 0) 2 with trl := [(0, { mode := 2 })], ctn := [(0, { next := 1 })] }
/-- The loop in its first bandwidth step. -/
def acquiring : State := { live.wr REF_STATUS_DPLL 1 with now := 1000 * sec }
/-- A free synthesiser in the pool. -/
def poolFree1 : State := (live.wr (SYN_PLL_STAT_STATE 37) 4)
/-- A plan with a change of timing that is ready. -/
def changeReady : State := { (live.wr (PLN_STATUS_RUN 0) 1).wr REF_STATUS_SEL 2 with plan := [(0, { staged := some { format := 5, rate := 4, ready := some 1000 } })], now := 10 * sec }
/-- A plan that a synthesiser serves. -/
def planServed : State := (live.wr (SYN_PLL_STAT_STATE 37) 4)
/-- Program memory may be loaded. -/
def loadable : State := live
/-- Racker 0 about to run an instruction. -/
def runs (i : RckInstr) : State := (live.wr (RCK_STATUS_STATE 0) 1).setWord (RCK_PM 0 0) (BitVec.ofNat 32 (rckEncode i))
def waitsLine : State := { live.wr (PLN_STATUS_RUN 0) 1 with rck := [(0, { wait := .line 0 1 0 })] }
def waitsFrame : State := { live.wr (PLN_STATUS_RUN 0) 1 with rck := [(0, { wait := .frame 0 3 })], plan := [(0, { anchorF := 3 })] }
def waitsEvent : State := { live.wr (PLN_STATUS_RUN 0) 1 with rck := [(0, { wait := .event 1 1 0 3 0 })], now := sec }
def postsMail : State := (runs (.sync 61 1 2 3 0)).setGreg 0 2 18
def groupDue : State := { live.wr (PLN_STATUS_RUN 0) 1 with twn := { landing := [{ plan := 0, frame := 3, line := 7, changes := [], retired := 0 }] }, now := sec }
def slotSeen : State := { live with ctn := [(0, { state := 2, map := 1 })] }
def insideWindow : State := { ((((live.wr (XPT_IN_STAT_PRESENT 0) 1).wr (XPT_IN_STAT_CLASSIFIED 0) 1).wr (XPT_IN_STAT_FORMAT 0) 5).wr (XPT_IN_STAT_RATE 0) 5).wr (XPT_IN_CFG_MODE 0) 1 with ins := [(0, { stored := [(1, 120000000), (0, 0)] })] }
def leavesWindow : State := { live.wr (XPT_MAP_RD_SRC 1) 5 with ins := [(1, { windows := 2 })] }
def carriesPattern : State := live.wr (XPT_MAP_RD_SRC 0) 4736
def planChanged : State := (live.wr (XPT_MAP_RD_PLAN 0) 1).wr (PLN_STATUS_RUN 1) 0
def channelIdles : State := { (live.wr CLR_PM_CFG_PD_EN 1).wr CLR_PM_CFG_SR_EN 1 with now := sec }
def i2sSlaveRuns : State := (((live.wr (I2S_CFG_EN 0) 1).wr (I2S_CFG_SLAVE 0) 1).wr (I2S_STAT_QUALIFIED 0) 1)
def packetTrellis : State := { ((live.wr (TRL_CFG_MODE 0) 1).wr (TRL_STATUS_TX_ACTIVE 0) 1) with trl := [(0, { mode := 1 })] }
def ptpRuns : State := ((packetTrellis.wr (PTP_CFG_EN 0) 1).wr (PTP_CFG_DOMAIN 0) 0).wr (TRL_STATUS_RX_STATE 0) 6
def ptpFollows : State := { ptpRuns with ptp := [(0, { foreign := [{ port := (1, 1), dataset := [], mac := 0, ip := 0, times := [], interval := 0 }], chosen := some (1, 1) })] }
def headLatches : State := { (live.wr (PLN_STATUS_RUN 0) 1).wr (MVH_STATUS_STATE 0) 1 with now := 119999999 }
def headRuns0 : State := { (live.wr (PLN_STATUS_RUN 0) 1).wr (MVH_STATUS_STATE 0) 1 with plan := [(0, { anchorF := 5 })] }
def shownLayer : LayerH := { src := 0, crop := 0, csize := 0, dpos := 0, dsize := 0, ctrl := 1, fence := 0, value := 0 }
def headShows : State := { headRuns0 with mvh := [(0, { shown := some { seq := 0, at_ := 0, globals := [], layers := [shownLayer] } })] }
def twinLinked : State := (live.wr TOP_STRAP_TWIN_EN 1).wr (TRL_STATUS_RX_STATE 36) 6
def twinActive : State := { twinLinked.wr TOP_MODE_MODE 3 with top := { twinLinked.top with claim := true } }
def twinStandby : State := twinLinked.wr TOP_MODE_MODE 4
def twinHoldsToken : State := ((twinLinked.wr (RCK_LEASE_H_HELD 255) 1).wr (RCK_LEASE_H_HOLDER 255) 30).wr (RCK_LEASE_E_EXPIRY 255) 100
def quiesces : State := { live.wr TOP_MODE_MODE 10 with top := { live.top with b1 := some 0 }, plan := [(0, { anchorF := 5 })] }
def fabricTrunk : State := { (live.wr FAB_CFG_EN 1).wr FAB_STATUS_ADDR 3 with trl := [(0, { mode := 2 })], ctn := [(0, { state := 2 })] }
def fabricMember : State := { ((live.wr FAB_CFG_EN 1).wr FAB_STATUS_ADDR 3).wr FAB_STATUS_CONDUCTOR 3 with trl := [(0, { mode := 2 })], ctn := [(0, { state := 2 })] }
def recordMapped : State := (((fabricMember.wr (FAB_RMAP_ST_STATE 3) 2).wr (FAB_RMAP_CH 3) 9).wr (FAB_RSV_CFG_SRC_DEV 0) 5)
def mailWaits : State := { (fabricMember.wr (FAB_ROUTE_VALID 5) 1).wr (MBX_CH_COUNT 352) 1 with chn := [(352, { codes := [0x500] })] }
def commandChannel : Nat := 386
def commandWaits (l : List Nat) : State :=
  (l.zipIdx.foldl (fun s e => s.setWord (MBX_SLOT 386 0 e.2) (BitVec.ofNat 32 e.1)) ((live.wr (MBX_CH_COUNT 386) 1).wr ⟨MBX_CH 386, 10, 1⟩ 1))
def commandWords (l : List Nat) : List Nat := (commandWaits l).slotWords 386 0
def storeCommand : State := let s := commandWaits [0x23, 9, 0, 0]; { s with nor := { s.nor with store := List.replicate 12 0 } }
def bankImage : List Nat := let l := [0x5A, 1] ++ List.replicate 378 0; l ++ leBytes 4 (crc32c l)
def standbyPaired : State := twinStandby

/-- A reference candidate of class 1 that is present. -/
def markerCandidate : State := { (live.wr (REF_CAND_STAT_STATE 0) 1).wr (REF_CAND_STAT_CLASS 0) 1 with now := 10 * sec }
def blockSent1 : State :=
  let v := trunkSends.serialise 0 []
  (v.sendGroups 0 (v.blockGroups 0 (trunkSends.ctnH 0).next [])).setCtnH 0 { v.ctnH 0 with next := ((trunkSends.ctnH 0).next + 1) % 64 }
def blockSent2 : State :=
  (blockSent1.forL (rangeFrom (128 * 0) 128) fun d x => if (x.outH d).ending then x.setOutH d { x.outH d with ending := false }
    else if (x.outH d).opening && x.opened [] d then x.setOutH d { x.outH d with opening := false } else x).serialised 0 []
/-- A plan that has lost its synthesiser. -/
def clockLost0 : State := { poolFree1 with plan := [(0, { clockLost := true })] }
/-- A plan that waits for the pool. -/
def waitsPool0 : State := { (poolFree1.wr (SYN_PLL_STAT_USER 37) 0xFF) with plan := [(0, { staged := some { format := 5, rate := 5 } })] }
/-- A plan whose synthesiser is ready. -/
def synthIsReady : State := { live.wr (SYN_PLL_STAT_STATE 40) 4 with syn := [(40, { claim := some 1 })], plan := [(1, { staged := some { format := 5, rate := 5 } })] }
def synthRestores : State := { synthIsReady with plan := [(1, { clockLost := true })] }
/-- A plan with a JUMP that begins. -/
def jumpDue : State := { live with plan := [(1, { anchorF := 9, jump := some { frame := 7, change := -600 } })] }
/-- A synthesiser that has been running for a microsecond. -/
def searches : State := { live.wr (SYN_PLL_STAT_STATE 0) 1 with now := us }
def ramps : State := { (live.wr (SYN_PLL_STAT_STATE 0) 4) with now := us, syn := [(0, { target := some 123 })] }
def rampSet : State :=
  let w := (ramps.runMash 0).steer 0
  w.setSynH 0 { w.synH 0 with rampAt := w.now }
def rampTo : Nat :=
  rampNext (rampSet.rd (SYN_PLL_CFG_PROFILE 0)) (rampSet.rd (SYN_PLL_CFG_SLOPE 0)) (rampSet.synWord 0) (rampSet.synWord 0) rampSet.now 123 rampSet.now
/-- A logic PLL that has locked again. -/
def relocked : State := { ((live.wr (SYN_PLL_STAT_STATE 48) 4).wr ⟨SYN_STATUS, 0, 1⟩ 1) with now := sec }
def leaseTry : State × Nat := let s := (runs (.sync 56 1 2 3 0)).setGreg 0 3 5; s.leaseRequest 0 0 5 (s.rd (RCK_CFG_PRIO 0))
/-- A group of racker 2 that is due. -/
def rackerGroupDue : State := { live.wr (PLN_STATUS_RUN 0) 1 with rck := [(2, { ops := [[{ plan := 0, frame := 3, line := 7, changes := [], retired := 0 }]] })], now := sec }
def groupTaken : State := rackerGroupDue.setRckH 2 { rackerGroupDue.rckH 2 with ops := listSet (rackerGroupDue.rckH 2).ops 0 (((rackerGroupDue.rckH 2).ops.getD 0 []).filter fun x => x.plan != 0) }
def groupLanded : State :=
  ((groupTaken.landChanges 0 7 []).1.discarded 2 (entryCount (groupTaken.landChanges 0 7 []).2)).settleOps 2 ((rackerGroupDue.timingOf 0 3).lineStart 3 7)
/-- A serial signal of 1080p50 that two frames have come of. -/
def serialFrames : State := { slotSeen with ins := [(0, { sdi := { frame := (2, 5280, 1125, false), period := 120000000, frames := 2 } })] }
/-- A serial signal of a structure that no format has. -/
def serialUnknown : State := { slotSeen with ins := [(0, { sdi := { frame := (2, 5279, 1125, false), period := 120000000, frames := 2 } })] }
/-- An input at a frame start. -/
def inputStarts : State := (live.wr (XPT_IN_STAT_PRESENT 0) 1).wr (XPT_IN_STAT_FORMAT 0) 5
def frameStart1 : State := inputStarts.storeLines 0
def frameStart2 : State :=
  let u := frameStart1
  ((u.setInH 0 { u.inH 0 with
    frames := (u.inH 0).frames + 1, stored := ((u.inH 0).frames, u.now) :: (u.inH 0).stored.take 2,
    undecided := (u.inH 0).undecided.filter (fun x => !decide (x + 3 ≤ (u.inH 0).frames)) ++ [(u.inH 0).frames], rgen := u.rd PRF_STATUS_RGEN,
    damaged := 0, outside := 0, wasOutside := (u.inH 0).outside,
    cellarFrom := if u.cellarUp then (u.inH 0).cellarFrom else (u.inH 0).frames + 1 }).bookOut 0 0 .dropped
    ((u.inH 0).undecided.filter fun x => decide (x + 3 ≤ (u.inH 0).frames)).length).bookIn 0 0 1
def frameStart3 : State :=
  frameStart2.forL [4, 5] fun c x => if x.candState c ≠ 0 ∧ x.rd (REF_CAND_CFG_SRC c) = 0 then x.setCandH c { x.candH c with frameStart := some x.now } else x
def frameStart4 : State := frameStart3.showOffset 0 (frameStart3.caskOffset (frameStart3.rd (XPT_IN_CFG_HOME 0)) 1 frameStart3.now)
def cellarRead : ReadH := { plan := 0, sel := some 4 }
def cellarRec : CheckRec := { tag := frameTag 0 4, crc := [], rgen := 0, valid := 0, damaged := 0 }
/-- A frame in the cellar that plan 0 reads. -/
def cellarReads : State := ({ live with ins := [(0, { reads := [cellarRead], complete := some 4, frames := 5 })] } : State).addRec 0 cellarRec
def cellarPatched : State :=
  let u := cellarReads.bump CLR_ECC_UNCORR_DATA
  u.setInH 0 { u.inH 0 with
    reads := (u.inH 0).reads.map fun x => if x.plan = 0 then { x with patch := (1, (rangeFrom 0 4).map fun j => u.lastReadLine 0 cellarRead j 1) :: x.patch } else x }
/-- Receive contexts of audio, video and ancillary data with a packet that is due. -/
def audioHeld : State := (live.wr (PKT_RXC_CFG_TYPE 0) 1).setRxH 0 { held := [{ seq := 1, ts := 1, marker := false, deadline := 0, payload := [] }] }
def videoHeld : State := audioHeld.wr (PKT_RXC_CFG_TYPE 0) 0
def ancHeld : State := audioHeld.wr (PKT_RXC_CFG_TYPE 0) 2
/-- Transmit contexts of audio and video with a packet to send. -/
def audioBuffered : State := ((live.wr (PKT_TXC_STAT_ACTIVE 0) 1).wr (PKT_TXC_CFG_TYPE 0) 1).setTxH 0 { buf := List.replicate 48 (0, []) }
def videoSends : State :=
  ((((live.wr (PKT_TXC_STAT_ACTIVE 0) 1).wr (PKT_TXC_CFG_TYPE 0) 0).wr (PKT_TXC_CFG_PACER 0) 1).wr (XPT_MAP_RD_VALID 0) 1).setOutH 0 { running := true }
def headMayStart : State := live
/-- An output whose frame is to be judged. -/
def outputRuns : State := ((live.wr (XPT_MAP_RD_VALID 0) 1).wr (XPT_MAP_RD_COVERED 0) 0).setOutH 0 { running := true }
def verdictRec : State :=
  outputRuns.addRec (8192 + 0) {
    tag := (outputRuns.outH 0).tag, crc := outputRuns.outChecks 0 (outputRuns.planH 0).format, rgen := (outputRuns.outH 0).rgen,
    valid := outputRuns.rectMask (outputRuns.outH 0).rgen (outputRuns.planH 0).format, damaged := 0, landLine := (outputRuns.outH 0).landLine }
def verdictSet : State :=
  let v := verdictRec
  let h := outputRuns.outH 0
  ((((((v.setOutH 0 { v.outH 0 with judged := true, verdict := some (h.since, 3, h.tag) }).proveTakes 0 h.since 3 h.tag).wr (PRF_DST_LAST 0) 3).wr
    (PRF_DST_REASON 0) (outputRuns.notComparable 0 0)).wr (PRF_DST_TAG 0) h.tag).bump (PRF_CNT_COUNT 0)).bump (PRF_CNT_COUNT 3)
/-- Rectangles that a PLAN0 boundary takes. -/
def rectsChanged : State := { live with ldg := { rects := [(0, 0)] }, plan := [(0, { anchorF := 5 })] }
/-- A STANDBY whose copy of the token has lapsed. -/
def tokenLapsed : State := { twinStandby with plan := [(0, { anchorF := 5 })] }
def tokenFenced : State :=
  (((tokenLapsed.when (tokenLapsed.on (RCK_LEASE_H_HELD 255)) fun x => x.endLease 255 .dropped).wr TWN_STATUS_FENCING 1).emit (.fenceOut true)).raise TWN_EVENT_FENCE_OUT
/-- A lane domain that may become ready. -/
def laneDomain : State := { ((live.setReady 3 false).wr (SYN_PLL_STAT_STATE 3) 4) with top := { live.top with reached := 127 } }
def searched : State :=
  let s : State := { (live.wr TOP_MODE_MODE 0) with top := { live.top with reached := 3 } }
  (s.forN 53 fun k x =>
    let y := x.setSynH k ((x.synH k).cacheWrite {
      int := x.synWord k / 2 ^ 32, fracHi := x.synWord k / 2 ^ 20 % 2 ^ 12, band := (([] : List (Fin 256)).getD k 0).val, temp := x.hottestC, made := x.now })
    if 48 ≤ k then (y.wr (SYN_PLL_STAT_BAND k) (([] : List (Fin 256)).getD k 0).val).setSynState k 3
    else ((y.wr (SYN_PLL_STAT_BAND k) (([] : List (Fin 256)).getD k 0).val).wr (SYN_PLL_STAT_GATE k) 1).setSynState k 4).updatePool
/-- The end of STARTUP. -/
def startupEnds : State := { (live.wr TOP_MODE_MODE 0) with top := { live.top with reached := 7 } }
def routedOwn : State :=
  startupEnds.startPlans.forN 4608 fun d x =>
    if (x.trlH (d / 128)).mode = 0 ∧ x.addresses d ∧ !(startupEnds.startPlans.bootMap.any fun e => e.1 == d) ∧ !x.on (XPT_MAP_RD_COVERED d) then x.bootRoute d d
    else x
def routedMap : State :=
  routedOwn.forL startupEnds.startPlans.bootMap fun e x => if x.on (XPT_MAP_RD_COVERED e.1) || x.closedSource e.2 then x else x.bootRoute e.1 e.2
/-- The first PLAN0 boundary of a quiesce. -/
def quiesceBegins : State := { (live.wr TOP_MODE_MODE 10) with plan := [(0, { anchorF := 5 })] }
def transmittersStopped : State := ({ quiesces with top := { quiesces.top with txStopped := true } } : State).forN 37 fun n x => x.stopTx n true
def requestDecided : State × Nat × Nat :=
  let v := ((fabricMember.wr FAB_STATUS_CONDUCTOR 3).bump (FAB_CNT_COUNT 0)).returnCredit 0
  v.decideRequest { addr := 5, index := 0, prio := 0, id := 100, dur := 1, free := false, srcDev := 0, slots := 0 }
/-- An I2S slave that its first frame comes to. -/
def i2sStarts : State := i2sSlaveRuns.wr (I2S_STAT_QUALIFIED 0) 0

/-- What passes a test in a range in two parts. -/
theorem filter_rangeFrom (p : Nat → Bool) (a n m : Nat) (x y : List Nat) (h : (rangeFrom a n).filter p = x)
    (k : (rangeFrom (a + n) m).filter p = y) : (rangeFrom a (n + m)).filter p = x ++ y := by
  suffices e : rangeFrom a (n + m) = rangeFrom a n ++ rangeFrom (a + n) m by rw [e, List.filter_append, h, k]
  clear h k
  induction n generalizing a with
  | zero => simp [rangeFrom]
  | succ n ih =>
    rw [Nat.add_right_comm]
    show a :: rangeFrom (a + 1) (n + m) = a :: (rangeFrom (a + 1) n ++ rangeFrom (a + (n + 1)) m)
    rw [ih, show a + 1 + n = a + (n + 1) by omega]

/-- The state after the window of input 1 was left. -/
def windowLeft : State := (leavesWindow.setInH 1 { leavesWindow.inH 1 with windows := (leavesWindow.inH 1).windows - 2 }).raise XPT_EVENT_WINDOW_EXIT

/-- Whether an output takes its picture from source 1. -/
def shows1 (d : Nat) : Bool := windowLeft.rd (XPT_MAP_RD_SRC d) == 1 && windowLeft.on (XPT_MAP_RD_VALID d) && !windowLeft.on (XPT_MAP_RD_COVERED d)

theorem test_no_output_left_1 : (rangeFrom 0 768).filter shows1 = [] := by decide +kernel
theorem test_no_output_left_2 : (rangeFrom 768 768).filter shows1 = [] := by decide +kernel
theorem test_no_output_left_3 : (rangeFrom 1536 768).filter shows1 = [] := by decide +kernel
theorem test_no_output_left_4 : (rangeFrom 2304 768).filter shows1 = [] := by decide +kernel
theorem test_no_output_left_5 : (rangeFrom 3072 768).filter shows1 = [] := by decide +kernel
theorem test_no_output_left_6 : (rangeFrom 3840 768).filter shows1 = [] := by decide +kernel

/-- No output shows source 1 there: the window's exit has nothing to switch. -/
theorem windowLeft_shows : ∀ src ∈ windowLeft.idsOf 1, windowLeft.destsOf src = [] := by
  have h : windowLeft.idsOf 1 = [1] := by decide +kernel
  intro src hs
  rw [h, List.mem_singleton] at hs
  subst hs
  exact filter_rangeFrom shows1 0 768 3840 [] [] test_no_output_left_1 (filter_rangeFrom shows1 768 768 3072 [] [] test_no_output_left_2
    (filter_rangeFrom shows1 1536 768 2304 [] [] test_no_output_left_3 (filter_rangeFrom shows1 2304 768 1536 [] [] test_no_output_left_4
      (filter_rangeFrom shows1 3072 768 768 [] [] test_no_output_left_5 test_no_output_left_6))))

/-- The state when the fabric message of the RECORD has been counted. -/
def recordTaken : State := (recordMapped.bump (FAB_CNT_COUNT 0)).returnCredit 0

/-- Whether a mapping is FED by channel 9 of device 5. -/
def fed9 (r : Nat) : Bool :=
  recordTaken.rd (FAB_RMAP_ST_STATE r) == 2 && recordTaken.rd (FAB_RMAP_CH r) == 9
    && (recordTaken.rd (FAB_RSV_CFG_SRC_DEV (recordTaken.rd (FAB_RMAP_RSV r))) == 5
      || ((pairGet recordTaken.fab.paths (recordTaken.rd (FAB_RMAP_RSV r))).getD []).any fun h => h.src == 5)

theorem test_record_goes_to_1 : (rangeFrom 0 856).filter fed9 = [3] := by decide +kernel
theorem test_record_goes_to_2 : (rangeFrom 856 856).filter fed9 = [] := by decide +kernel
theorem test_record_goes_to_3 : (rangeFrom 1712 856).filter fed9 = [] := by decide +kernel
theorem test_record_goes_to_4 : (rangeFrom 2568 856).filter fed9 = [] := by decide +kernel

/-- One mapping takes the RECORD. -/
theorem recordTaken_rmapOf : recordTaken.rmapOf 5 9 2 = [3] :=
  filter_rangeFrom fed9 0 856 2568 [3] [] test_record_goes_to_1 (filter_rangeFrom fed9 856 856 1712 [] [] test_record_goes_to_2
    (filter_rangeFrom fed9 1712 856 856 [] [] test_record_goes_to_3 test_record_goes_to_4))

/-! ## Examples of the spec -/

/-- Table 03-4: a lane at RD +4 and P 2 whose scrambled payload is 0xA53C. -/
theorem test_group_on_the_wire :
    let lane : LaneH := { rd := 4, pTx := 2, scrTx := 0 }
    let payload := (descrambleBits 16 0xA53C 0 0).2
    (sendGroup false payload lane).2 = [0, 1, 0, 3, 0, 2, 2, 2, 0] ∧ (sendGroup false payload lane).1.rd = -3 := by decide +kernel

/-- Table 04-7: trellis 3 of side 0, ACTIVE, with 12G in slots 0 and 5 and PLAN1 at frame 1,234,567, line 562, sample 1,730. -/
def boxed : State :=
  { (((((live.wr TOP_STRAP_TWIN_EN 1).wr TOP_MODE_MODE 3).wr REF_STATUS_DPLL 2).wr (PLN_STATUS_RUN 1) 1).wr (XPT_MAP_RD_WIDTH 384) 2).wr (XPT_MAP_RD_WIDTH 404) 2 with
    top := { live.top with claim := true }, now := (561 * 10560 + 1730) * 1000 / 99 + 1,
    plan := [(1, { anchorF := 1234567, format := 6, rate := 5 })],
    outs := ((rangeFrom 0 128).filter fun k => decide (k / 4 ≠ 0 ∧ k / 4 ≠ 5)).map fun k => (384 + k, { masked := true }) }

theorem test_header : boxed.headerWords 3 1 = [0xA300, 0, 0x21, 0, 0, 0, 0, 2, 4, 0x4A80, 0x12, 0xD687, 0x232, 0x6C2] := by decide +kernel
/-- Destination 404 with the bits of the example's block before it, which are ones. -/
def coded : State :=
  boxed.setOutH 404 { sdo := { rest := List.replicate 1500 (true, false) ++ (true, true) :: List.replicate 3000 (true, false) } }

theorem test_descriptor : (coded.sentArea 3 [{ area := 20, bits := 4024, words := 0, start := 0 }] 20).1 = 0x85DC0FB8 := by decide +kernel
theorem test_area_padding :
    ((coded.sentArea 3 [{ area := 20, bits := 4024, words := 0, start := 0 }] 20).2).drop 250 = [0xFFFF, 0xFF00, 0, 0, 0, 0] := by decide +kernel

/-- Table 08-9. -/
theorem test_encoded_instructions :
    rckDecode 0x4CA0FFFF = some (.imm 0x13 5 0 0xFFFF) ∧ rckDecode 0x50200308 = some (.imm 0x14 1 0 0x0308)
      ∧ rckDecode 0x8220FFF9 = some (.imm 0x20 17 0 0xFFF9) ∧ rckDecode 0xA0000007 = some (.time 0x28 0 0 false 7)
      ∧ rckDecode 0xA4038000 = some (.time 0x29 0 3 true 0) ∧ rckDecode 0xC1274000 = some (.rout 0x30 9 7 8 false 0)
      ∧ rckDecode 0xD00004C8 = some (.rout 0x34 0 0 0 true 200) := by decide

/-! ## Ill-formed commands -/

theorem test_access_of_no_byte : Instr.wf (.counterRead 1 0x1000000 0) = false := by decide
theorem test_access_too_long : Instr.wf (.counterRead 1 0x1000000 513) = false := by decide
theorem test_access_past_the_end : Instr.wf (.registerWrite 1 (2 ^ 35 - 2) 4 0) = false := by decide
theorem test_access_data_too_wide : Instr.wf (.registerWrite 1 0x1000000 4 (2 ^ 32)) = false := by decide
theorem test_access_of_a_word : Instr.wf (.registerWrite 1 0x1000000 4 (2 ^ 32 - 1)) = true := by decide
theorem test_record_of_another_length : Instr.wf (.ckptReceived 3 0 [1]) = false := by decide
theorem test_record_too_short : Instr.wf (.ckptReceived 1 0 []) = false := by decide
theorem test_record_crc_too_wide : Instr.wf (.ckptReceived 2 (2 ^ 16) [1]) = false := by decide
theorem test_record_group_too_wide : Instr.wf (.ckptReceived 2 0 [2 ^ 16]) = false := by decide
theorem test_image_too_long : Instr.wf (.imageReceived 1024 none {} true) = false := by decide
theorem test_frame_byte_too_wide : Instr.wf (.frameReceived 0 0xD5 [256] false) = false := by decide
theorem test_area_out_of_range : Instr.wf (.blockSent 0 [(128, 0, 0, 0)]) = false := by decide
theorem test_line_start_past_the_area : Instr.wf (.blockSent 0 [(0, 4, 4, 5)]) = false := by decide
theorem test_nine_lanes : Instr.wf (.blockReceived 0 [] (List.replicate 9 0) []) = false := by decide
theorem test_sample_too_wide : Instr.wf (.i2sFrameReceived 0 (2 ^ 32) 0) = false := by decide
theorem test_engine_word_too_wide : Instr.wf (.engineTick [(0, 2 ^ 32, 0)]) = false := by decide
theorem test_scan_cells_too_wide : Instr.wf (.extest 0 (2 ^ 64)) = false := by decide

/-! ## Witnesses -/

/-- The hypotheses of AnEmptyQueueLetsTimePass can be met. -/
theorem witness_AnEmptyQueueLetsTimePass :
    ∃ s : State, s.pending = [] ∧ step s = .next { s with now := s.now + 12 } :=
  ⟨State.reset, rfl, rfl⟩

/-- The hypotheses of EveryStepKeepsTheCanonicalForm can be met. -/
theorem witness_EveryStepKeepsTheCanonicalForm :
    ∃ s t : State, s.canon = true ∧ step s = .next t :=
  ⟨State.reset, { State.reset with now := State.reset.now + 12 }, by decide +kernel, rfl⟩

/-- The hypotheses of RackerWordsDecodeToWhatTheyEncode can be met. -/
theorem witness_RackerWordsDecodeToWhatTheyEncode :
    ∃ i : RckInstr, i.wf = true :=
  ⟨.imm 0x0B 31 30 0xFFFF, by decide⟩

/-- The hypotheses of RackerWordsHaveOneReading can be met. -/
theorem witness_RackerWordsHaveOneReading :
    ∃ (w : Nat) (i : RckInstr), w < 2 ^ 32 ∧ rckDecode w = some i :=
  ⟨0x043E4800, .regs 0x01 1 30 9, by decide, by decide⟩

/-- The hypotheses of LaneCodeRoundTrip can be met. -/
theorem witness_LaneCodeRoundTrip :
    ∃ (control : Bool) (payload : Nat) (h k : LaneH), payload < 2 ^ 16 ∧ h.pTx < 4 ∧ k.scrRx = h.scrTx ∧ k.pRx = h.pTx :=
  ⟨false, 0xFFFF, { pTx := 3, scrTx := 5 }, { pRx := 3, scrRx := 5 }, by decide, by decide, rfl, rfl⟩

/-- The hypotheses of ShedThresholdsThatDoNotRiseAreIgnored can be met. -/
theorem witness_ShedThresholdsThatDoNotRiseAreIgnored :
    ∃ (s : State) (m : Fin 22) (v : Word), s.Admits m true PWR_SHED_THR ∧
      (v.toNat / 2 ^ 8 % 256 ≤ v.toNat % 256 ∨ v.toNat / 2 ^ 16 % 256 ≤ v.toNat / 2 ^ 8 % 256 ∨
        v.toNat / 2 ^ 24 ≤ v.toNat / 2 ^ 16 % 256 ∨ 115 < v.toNat / 2 ^ 24) :=
  ⟨live, 1, 0x74030201, by unfold State.Admits; decide +kernel, by decide⟩

/-- The hypotheses of VinThresholdsAreClamped can be met. -/
theorem witness_VinThresholdsAreClamped :
    ∃ (s : State) (m : Fin 22) (v : Word) (f w : Nat), s.Admits m true PWR_VIN_THR ∧
      f = (if v.toNat / 2 ^ 16 < 10500 then 10500 else if 11000 < v.toNat / 2 ^ 16 then 11000 else v.toNat / 2 ^ 16) ∧
      w = (if v.toNat % 2 ^ 16 < f + 100 then f + 100 else if 11800 < v.toNat % 2 ^ 16 then 11800 else v.toNat % 2 ^ 16) :=
  ⟨live, 1, BitVec.ofNat 32 (12000 * 2 ^ 16 + 11050), 11000, 11100, by unfold State.Admits; decide +kernel, by decide, by decide⟩

/-- The hypotheses of FencesOnlyAdvance can be met. -/
theorem witness_FencesOnlyAdvance :
    (∃ (s : State) (m : Fin 22) (n : Fin 256), s.Admits m true (RCK_FENCE n)) ∧
      (∃ (s : State) (r : Fin 16) (i : RckInstr) (n : Nat) (v : Word), s.Issues r i ∧ i.op = 0x3B ∧
        n = (s.greg r i.ra).toNat % 256 ∧ v = s.greg r i.rb) :=
  ⟨⟨live, 1, 255, by unfold State.Admits; decide +kernel⟩,
    ⟨(runs (.sync 0x3B 0 1 2 0)).setGreg 0 1 511, 0, .sync 0x3B 0 1 2 0, 255, 0, by unfold State.Issues; decide +kernel, rfl, by decide +kernel, by decide +kernel⟩⟩

/-- The hypotheses of DataMemoryAccessesAreChecked can be met. -/
theorem witness_DataMemoryAccessesAreChecked :
    (∃ (s u : State) (r : Fin 16) (i : RckInstr) (a : Nat), s.Issues r i ∧ u = s.resync r ∧
        a = (u.greg r i.ra + signExt16 i.immediate).toNat ∧ i.op = 0x15 ∧ a % 4 ≠ 0 ∧ 0x3FFF < a) ∧
      (∃ (s u : State) (r : Fin 16) (i : RckInstr) (a : Nat), s.Issues r i ∧ u = s.resync r ∧
        a = (u.greg r i.ra + signExt16 i.immediate).toNat ∧ i.op = 0x16 ∧ a % 4 = 0 ∧ a = 0x4000) ∧
      (∃ (s u : State) (r : Fin 16) (i : RckInstr) (a : Nat), s.Issues r i ∧ u = s.resync r ∧
        a = (u.greg r i.ra + signExt16 i.immediate).toNat ∧ i.op = 0x18 ∧ a = 0x3FFF) :=
  ⟨⟨runs (.imm 0x15 1 2 0xFFFF), _, 0, .imm 0x15 1 2 0xFFFF, 0xFFFFFFFF, by unfold State.Issues; decide +kernel, rfl, by decide +kernel, rfl, by decide, by decide⟩,
    ⟨runs (.imm 0x16 1 2 0x4000), _, 0, .imm 0x16 1 2 0x4000, 0x4000, by unfold State.Issues; decide +kernel, rfl, by decide +kernel, rfl, by decide, rfl⟩,
    ⟨runs (.imm 0x18 1 2 0x3FFF), _, 0, .imm 0x18 1 2 0x3FFF, 0x3FFF, by unfold State.Issues; decide +kernel, rfl, by decide +kernel, rfl, rfl⟩⟩

/-- The hypotheses of AlwaysOnRegulatorFaultResetsTheDevice can be met. -/
theorem witness_AlwaysOnRegulatorFaultResetsTheDevice :
    ∃ s : State, s.top.inReset = false ∧ 8000 ≤ s.pin.vin :=
  ⟨live, by decide +kernel, by decide +kernel⟩

/-- The hypotheses of LocksAreHeldByTheirReader can be met. -/
theorem witness_LocksAreHeldByTheirReader :
    (∃ (s : State) (m : Fin 22) (n : Fin 64), s.Admits m false (MTX_LOCK n) ∧ s.pending = [] ∧ s.pci.won.contains (n.val, m.val, s.now) = false ∧
        s.word (MTX_LOCK n) = 0) ∧
      (∃ (s : State) (m : Fin 22) (n : Fin 64) (k : Fin 22), s.Admits m false (MTX_LOCK n) ∧ s.pending = [.lockAcquire k n] ∧
        s.pci.won.contains (n.val, m.val, s.now) = false ∧ s.word (MTX_LOCK n) = 0 ∧ s.busOpen k = true ∧ s.windowCause k false (MTX_LOCK n) 4 = 0 ∧
        (s.rd (MTX_MCFG_QOS m) < s.rd (MTX_MCFG_QOS k) ∨ s.rd (MTX_MCFG_QOS m) = s.rd (MTX_MCFG_QOS k) ∧ k < m)) ∧
      (∃ (s : State) (m : Fin 22) (n : Fin 64) (k : Fin 22), s.Admits m false (MTX_LOCK n) ∧ s.pending = [] ∧
        s.pci.won.contains (n.val, m.val, s.now) = false ∧ s.word (MTX_LOCK n) = BitVec.ofNat 32 (2 ^ 31 + k)) ∧
      (∃ (s : State) (m : Fin 22) (n : Fin 64) (k : Fin 22), s.Admits m true (MTX_LOCK_REL n) ∧ s.word (MTX_LOCK n) = BitVec.ofNat 32 (2 ^ 31 + k) ∧
        s.pci.freed.contains (n.val, m.val, s.now) = false ∧ (k = m ∨ m = 0 ∨ m = 2)) ∧
      (∃ (s : State) (m : Fin 22) (n : Fin 64), s.Admits m true (MTX_LOCK_REL n) ∧ s.pci.freed.contains (n.val, m.val, s.now) = false ∧
        ¬ (s.on (MTX_LOCK_HELD n) = true ∧ (s.rd (MTX_LOCK_OWNER n) = m ∨ m = 0 ∨ m = 2))) :=
  ⟨⟨live, 1, 63, by unfold State.Admits; decide +kernel, by decide +kernel⟩,
    ⟨{ live.wr (MTX_MCFG_QOS 1) 7 with pending := [.lockAcquire 1 63] }, 2, 63, 1, by unfold State.Admits; decide +kernel, by decide +kernel⟩,
    ⟨live.setWord (MTX_LOCK 63) 0x80000012, 1, 63, 18, by unfold State.Admits; decide +kernel, by decide +kernel⟩,
    ⟨live.setWord (MTX_LOCK 0) 0x80000001, 1, 0, 1, by unfold State.Admits; decide +kernel, by decide +kernel⟩,
    ⟨live, 1, 0, by unfold State.Admits; decide +kernel, by decide +kernel⟩⟩

/-- The hypotheses of DoorbellBitsAreSetAndClearedByTheirMasters can be met. -/
theorem witness_DoorbellBitsAreSetAndClearedByTheirMasters :
    (∃ (s : State) (m : Fin 22) (b : Fin 21), s.Admits m true (MBX_DB_SET b)) ∧
      (∃ (s : State) (m : Fin 22) (b : Fin 21), s.Admits m true (MBX_DB b) ∧ b.val = 16 ∧ m.val = 1) ∧
      (∃ (s : State) (m : Fin 22) (b : Fin 21), s.Admits m true (MBX_DB b) ∧
        ¬ (m.val = 0 ∨ (b.val < 16 ∧ m.val = 3 + b.val) ∨ (b.val = 16 ∧ m.val = 1) ∨ (b.val = 19 ∧ m.val = 2))) :=
  ⟨⟨live, 1, 0, by unfold State.Admits; decide +kernel⟩,
    ⟨live, 1, 16, by unfold State.Admits; decide +kernel, rfl, rfl⟩,
    ⟨live, 1, 0, by unfold State.Admits; decide +kernel, by decide⟩⟩

/-- The hypotheses of MailboxChannelsCountTheirMessages can be met. -/
theorem witness_MailboxChannelsCountTheirMessages :
    (∃ (s : State) (m : Fin 22) (c : Fin 394), s.Admits m true (MBX_POST c) ∧ (s.chanNow c).posts = 0 ∧ s.rd (MBX_CH_COUNT c) < 8) ∧
      (∃ (s : State) (m : Fin 22) (c : Fin 394), s.Admits m true (MBX_FREE c) ∧ ¬ (336 ≤ c.val ∧ c.val < 384) ∧ (s.chanNow c).frees = 0 ∧
        1 ≤ s.rd (MBX_CH_COUNT c)) ∧
      (∃ (s : State) (m : Fin 22) (c : Fin 394), s.Admits m true (MBX_POST c) ∧ (s.chanNow c).posts = 0 ∧ (s.chanNow c).frees = 0 ∧
        s.rd (MBX_CH_COUNT c) = 8 ∧ (∃ x ∈ s.pending, s.writesMbx true c x = true)) ∧
      (∃ (s : State) (m : Fin 22) (c : Fin 394), s.Admits m true (MBX_POST c) ∧ (s.chanNow c).posts = 0 ∧ s.pending = [] ∧ 8 ≤ s.rd (MBX_CH_COUNT c)) ∧
      (∃ (s : State) (m : Fin 22) (c : Fin 394), s.Admits m true (MBX_FREE c) ∧ ¬ (336 ≤ c.val ∧ c.val < 384) ∧ (s.chanNow c).frees = 0 ∧
        s.rd (MBX_CH_COUNT c) = 0) :=
  ⟨⟨live, 2, 386, by unfold State.Admits; decide +kernel, by decide +kernel⟩,
    ⟨live.wr (MBX_CH_COUNT 390) 8, 2, 390, by unfold State.Admits; decide +kernel, by decide +kernel⟩,
    ⟨{ live.wr (MBX_CH_COUNT 386) 8 with pending := [.mbxFree 0 386] }, 2, 386, by unfold State.Admits; decide +kernel, by decide +kernel,
      by decide +kernel, by decide +kernel, _, .head _, by decide +kernel⟩,
    ⟨live.wr (MBX_CH_COUNT 386) 8, 2, 386, by unfold State.Admits; decide +kernel, by decide +kernel⟩,
    ⟨live, 2, 390, by unfold State.Admits; decide +kernel, by decide +kernel⟩⟩

/-- The hypotheses of LocalLeasesAreGrantedAndFreed can be met. -/
theorem witness_LocalLeasesAreGrantedAndFreed :
    (∃ (s u : State) (r : Fin 16) (i : RckInstr) (id n : Nat), s.Issues r i ∧ u = s.resync r ∧
        id = (u.greg r i.ra).toNat ∧ n = (u.greg r i.rb).toNat ∧ id < 96 ∧ i.op = 0x38 ∧ 1 ≤ n ∧ n ≤ 65535 ∧
        u.on (RCK_LEASE_H_HELD id) = false ∧ (u.on (RCK_LEASE_H_HELD id) && u.leaseDue id) = false ∧
        u.outbidLease id r (u.rd (RCK_CFG_PRIO r)) = false) ∧
      (∃ (s u : State) (r : Fin 16) (i : RckInstr) (id n : Nat), s.Issues r i ∧ u = s.resync r ∧
        id = (u.greg r i.ra).toNat ∧ n = (u.greg r i.rb).toNat ∧ id < 96 ∧ i.op = 0x38 ∧ 1 ≤ n ∧ n ≤ 65535 ∧
        u.on (RCK_LEASE_H_HELD id) = true ∧ u.rd (RCK_LEASE_H_HOLDER id) ≠ r ∧ u.leaseDue id = false) ∧
      (∃ (s u : State) (r : Fin 16) (i : RckInstr) (id : Nat), s.Issues r i ∧ u = s.resync r ∧
        id = (u.greg r i.ra).toNat ∧ id < 96 ∧ i.op = 0x39 ∧ u.on (RCK_LEASE_H_HELD id) = true ∧ u.rd (RCK_LEASE_H_HOLDER id) = r ∧ u.leaseDue id = false) ∧
      (∃ (s u : State) (r : Fin 16) (i : RckInstr) (id : Nat), s.Issues r i ∧ u = s.resync r ∧
        id = (u.greg r i.ra).toNat ∧ id < 96 ∧ i.op = 0x39 ∧ u.on (RCK_LEASE_H_HELD id) = false) :=
  ⟨⟨(runs (.sync 0x38 3 1 2 0)).setGreg 0 2 65535, _, 0, .sync 0x38 3 1 2 0, 0, 65535, by unfold State.Issues; decide +kernel, rfl, by decide +kernel, by decide +kernel, by decide, rfl, by decide, by decide, by decide +kernel⟩,
    ⟨(((runs (.sync 0x38 3 1 2 0)).setGreg 0 2 1).setWord (RCK_LEASE_H 0) 0x80000005).setWord (RCK_LEASE_E 0) 100, _, 0, .sync 0x38 3 1 2 0, 0, 1, by unfold State.Issues; decide +kernel, rfl, by decide +kernel, by decide +kernel, by decide, rfl, by decide, by decide, by decide +kernel⟩,
    ⟨(((runs (.sync 0x39 3 1 0 0)).setGreg 0 1 95).setWord (RCK_LEASE_H 95) 0x80000000).setWord (RCK_LEASE_E 95) 100, _, 0, .sync 0x39 3 1 0 0, 95, by unfold State.Issues; decide +kernel, rfl, by decide +kernel, by decide, rfl, by decide +kernel⟩,
    ⟨(runs (.sync 0x39 3 1 0 0)).setGreg 0 1 95, _, 0, .sync 0x39 3 1 0 0, 95, by unfold State.Issues; decide +kernel, rfl, by decide +kernel, by decide, rfl, by decide +kernel⟩⟩

/-- The hypotheses of BranchesStayInProgramMemory can be met. -/
theorem witness_BranchesStayInProgramMemory :
    (∃ (s u : State) (r : Fin 16) (i : RckInstr) (c : Instr) (target : Int), s.Issues r i ∧ u = s.resync r ∧
        (c, i.op) = (.call r, 0x21) ∧ target = u.pc r + signedOf 16 i.immediate ∧ target < 0) ∧
      (∃ (s u : State) (r : Fin 16) (i : RckInstr) (c : Instr) (target : Int), s.Issues r i ∧ u = s.resync r ∧
        (c, i.op) = (.jr r, 0x22) ∧ target = (u.greg r i.ra).toNat ∧ target = 16383) ∧
      (∃ (s u : State) (r : Fin 16) (i : RckInstr) (c : Instr) (target : Int), s.Issues r i ∧ u = s.resync r ∧
        (c, i.op) = (.ret r, 0x23) ∧ target = (u.rckH r).lnk ∧ target = 0) ∧
      (∃ (s u : State) (r : Fin 16) (i : RckInstr) (c : Instr) (target : Int), s.Issues r i ∧ u = s.resync r ∧
        (c, i.op) = (.bc r, 0x20) ∧ condHolds (u.rckH r).flags i.rd = true ∧ target = u.pc r + signedOf 16 i.immediate ∧ 0 ≤ target ∧ target ≤ 16383) :=
  ⟨⟨runs (.imm 0x21 0 0 0xFFFF), _, 0, .imm 0x21 0 0 0xFFFF, .call 0, -1, by unfold State.Issues; decide +kernel, rfl, rfl, by decide +kernel, by decide⟩,
    ⟨(runs (.regs 0x22 0 1 0)).setGreg 0 1 16383, _, 0, .regs 0x22 0 1 0, .jr 0, 16383, by unfold State.Issues; decide +kernel, rfl, rfl, by decide +kernel, rfl⟩,
    ⟨runs (.regs 0x23 0 0 0), _, 0, .regs 0x23 0 0 0, .ret 0, 0, by unfold State.Issues; decide +kernel, rfl, rfl, by decide +kernel, rfl⟩,
    ⟨runs (.imm 0x20 0 0 5), _, 0, .imm 0x20 0 0 5, .bc 0, 5, by unfold State.Issues; decide +kernel, rfl, rfl, by decide +kernel, by decide +kernel, by decide, by decide⟩⟩

/-- The hypotheses of ArithmeticLeavesEverythingElse can be met. -/
theorem witness_ArithmeticLeavesEverythingElse :
    ∃ (s : State) (r : Fin 16) (i : RckInstr) (c : Instr), s.Issues r i ∧ (c, i.op) ∈ [(Instr.add r, 0x01), (.cmp r, 0x0A)] :=
  ⟨runs (.regs 0x0A 0 1 2), 0, .regs 0x0A 0 1 2, .cmp 0, by unfold State.Issues; decide +kernel, by decide⟩

/-- The hypotheses of DataStoresChangeOneWord can be met. -/
theorem witness_DataStoresChangeOneWord :
    (∃ (s : State) (r : Fin 16) (i : RckInstr) (a : Nat), s.Issues r i ∧ a = s.effAddr r i ∧ a ≤ 0x3FFF ∧ i.op = 0x16 ∧ a % 4 = 0) ∧
      (∃ (s : State) (r : Fin 16) (i : RckInstr) (a : Nat), s.Issues r i ∧ a = s.effAddr r i ∧ a = 0x3FFF ∧ i.op = 0x18) ∧
      (∃ (s : State) (r : Fin 16) (i : RckInstr) (a : Nat), s.Issues r i ∧ a = s.effAddr r i ∧ a ≤ 0x3FFF ∧ i.op = 0x15 ∧ a % 4 = 0) ∧
      (∃ (s : State) (r : Fin 16) (i : RckInstr) (a : Nat), s.Issues r i ∧ a = s.effAddr r i ∧ a = 0x3FFF ∧ i.op = 0x17) :=
  ⟨⟨runs (.imm 0x16 1 2 0x3FFC), 0, .imm 0x16 1 2 0x3FFC, 0x3FFC, by unfold State.Issues; decide +kernel, by decide +kernel, by decide, rfl, by decide⟩,
    ⟨runs (.imm 0x18 1 2 0x3FFF), 0, .imm 0x18 1 2 0x3FFF, 0x3FFF, by unfold State.Issues; decide +kernel, by decide +kernel, rfl, rfl⟩,
    ⟨runs (.imm 0x15 1 2 0), 0, .imm 0x15 1 2 0, 0, by unfold State.Issues; decide +kernel, by decide +kernel, by decide, rfl, by decide⟩,
    ⟨runs (.imm 0x17 1 2 0x3FFF), 0, .imm 0x17 1 2 0x3FFF, 0x3FFF, by unfold State.Issues; decide +kernel, by decide +kernel, rfl, rfl⟩⟩

/-- The hypotheses of LaneCountersClearOnRead can be met. -/
theorem witness_LaneCountersClearOnRead :
    (∃ (s : State) (m : Fin 22) (n : Fin 37) (l : Fin 8), s.Admits m false (TRL_LANE_ERR_LO n l)) ∧
      (∃ (s : State) (m : Fin 22) (n : Fin 37) (l : Fin 8), s.Admits m false (TRL_LANE_BITS_LO n l)) :=
  ⟨⟨live, 1, 0, 7, by unfold State.Admits; decide +kernel⟩,
    ⟨live, 1, 35, 0, by unfold State.Admits; decide +kernel⟩⟩

/-- The hypotheses of BlownBitsStayBlown can be met. -/
theorem witness_BlownBitsStayBlown :
    ∃ (s t : State) (c : Instr) (bytes : List Nat) (fail : Bool) (stuck : List (Fin 16384)),
      c ∈ [.otpBankWrite bytes fail stuck, .otpBoardWrite stuck, .keyInstall stuck, .keyRevoke stuck] ∧ exec c s = .next t :=
  ⟨commandWaits [0x37, 9, 1], _, .keyInstall [], [], false, [], by simp, rfl⟩

/-- The hypotheses of RefusedAccessesAreRecorded can be met. -/
theorem witness_RefusedAccessesAreRecorded :
    (∃ (s : State) (m : Fin 22) (a : Nat), s.busOpen m = true ∧ (s.twn.stalled.any fun e => e.master == m.val) = false ∧
        a < 2 ^ 35 ∧ s.windowCause m false a 4 = 1) ∧
      (∃ (s : State) (m : Fin 22) (a : Nat), s.busOpen m = true ∧ (s.twn.stalled.any fun e => e.master == m.val) = false ∧
        a < 2 ^ 35 ∧ s.windowCause m true a 4 = 2) :=
  ⟨⟨live, 1, 2 ^ 35 - 1, by decide +kernel, by decide +kernel, by decide, by decide +kernel⟩,
    ⟨live.wr (MTX_WIN_BASE_W 3 0) 0, 3, 0, by decide +kernel, by decide +kernel, by decide, by decide +kernel⟩⟩

/-- The hypotheses of StandbyIgnoresItsOwnJournalWrites can be met. -/
theorem witness_StandbyIgnoresItsOwnJournalWrites :
    ∃ (s : State) (m : Fin 22) (a : Nat), s.busOpen m = true ∧ (s.twn.stalled.any fun e => e.master == m.val) = false ∧
      s.verdictOn m true a 4 = .no ∧ a % 4 = 0 ∧ a < 0x4000000 ∧ s.unreached m a = none ∧
      s.journalsFor m = true ∧ s.top.claim = false ∧ (journalClass a).isSome = true :=
  ⟨standbyPaired, 1, PLN_CFG 0, by decide +kernel, by decide +kernel, by decide +kernel, by decide, by decide, by decide +kernel, by decide +kernel, by decide +kernel, by decide +kernel⟩

/-- The hypotheses of TrapsEnterTheirHandler can be met. -/
theorem witness_TrapsEnterTheirHandler :
    (∃ (s u : State) (r : Fin 16) (i : RckInstr), s.Issues r i ∧ u = s.resync r ∧ i.op = 0x24 ∧
        u.on (RCK_STATUS_IN_HANDLER r) = false ∧ u.on (RCK_CFG_TRAP_VEC_EN r) = true) ∧
      (∃ (s u : State) (r : Fin 16) (i : RckInstr), s.Issues r i ∧ u = s.resync r ∧ i.op = 0x25 ∧
        u.on (RCK_STATUS_IN_HANDLER r) = true ∧ (u.rckH r).trapInfo % 2 ^ 14 < 16383) :=
  ⟨⟨(runs (.imm 0x24 0 0 255)).wr (RCK_CFG_TRAP_VEC_EN 0) 1, _, 0, .imm 0x24 0 0 255, by unfold State.Issues; decide +kernel, rfl, rfl, by decide +kernel, by decide +kernel⟩,
    ⟨(runs (.regs 0x25 0 0 0)).wr (RCK_STATUS_IN_HANDLER 0) 1, _, 0, .regs 0x25 0 0 0, by unfold State.Issues; decide +kernel, rfl, rfl, by decide +kernel, by decide +kernel⟩⟩

/-- The hypotheses of every clause of SupplyAndDomainCommandsComplete can be met. -/
theorem witness_SupplyAndDomainCommandsComplete :
    (∃ (s : State) (mv : Nat) (devAddr : Fin 32) (side : Fin 2), vinValid mv = true ∧ s.top.inReset = true) ∧
    (∃ (s : State) (mv : Nat), s.top.inReset = false ∧ mv < s.rd PWR_VIN_THR_WARN_MV) ∧
    (∃ (s : State) (mv : Nat), s.top.inReset = false ∧ mv ≤ 13200 ∧ mv < s.rd PWR_VIN_THR_FAULT_MV) ∧
    (∃ (s : State) (m : Fin 22) (key : Word), s.Admits m true TOP_RESET ∧ key.toNat % 2 ^ 16 = 0xD1CE) ∧
    (∃ (s : State) (i : Fin 96), s.top.inReset = false) ∧
    (∃ (s : State), s.top.inReset = false) ∧
    (∃ (s : State) (m : Fin 22) (k : Fin 3) (v : Word), s.Admits m true (PWR_DOM_REQ k)) ∧
    (∃ (s : State) (k : Fin 96), 36 < k.val ∧ bit s.top.reached 1 = true ∧ s.effReq k = true ∧ s.domReady k = false) ∧
    (∃ (s : State) (k : Fin 96) (u : State), k.val ≤ 36 ∧ u = s.settle k ∧ bit u.top.reached 2 = true ∧ u.rd (SYN_PLL_STAT_STATE k) = 4 ∧
      u.effReq k = true ∧ u.domReady k = false) ∧
    (∃ (s : State) (i : Fin 96), s.effReq i = false ∧ s.domReady i = true) ∧
    (∃ (s : State), s.rd TOP_MODE_SHED < s.shedReached) ∧
    (∃ (s : State) (t : Nat), s.top.coolSince = some t ∧ s.rd TOP_MODE_SHED ≠ 0 ∧ t + s.rd PWR_SHED_HYST_HOLD * sec ≤ s.now) ∧
    (∃ (s : State) (i : Fin 36), s.critical i = true) ∧
    (∃ (s : State) (m : Fin 22) (v : Word), s.Admits m true PWR_VIN_THR) ∧
    (∃ (s : State) (m : Fin 22) (v : Word), s.Admits m true PWR_SHED_THR) :=
  ⟨⟨State.reset, 12000, 3, 1, by decide +kernel⟩,
    ⟨live, 10000, by decide +kernel⟩,
    ⟨live, 8000, by decide +kernel⟩,
    ⟨live, 0, 0xD1CE, by unfold State.Admits; decide +kernel, by decide +kernel⟩,
    ⟨live, 7, by decide +kernel⟩,
    ⟨live, by decide +kernel⟩,
    ⟨live, 0, 1, 0xFF, by unfold State.Admits; decide +kernel⟩,
    ⟨{ (live.setReady 40 false) with top := { live.top with reached := 127 } }, 40, by decide +kernel⟩,
    ⟨laneDomain, 3, laneDomain.settle 3, by decide +kernel, rfl, by decide +kernel⟩,
    ⟨(live.wr (PWR_DOM_REQ_REQ 1) 0), 40, by decide +kernel⟩,
    ⟨((live.wr (MGT_SENS_VALID 0) 1).wrInt (MGT_SENS_VALUE 0) 480), by decide +kernel⟩,
    ⟨{ (live.wr TOP_MODE_SHED 2) with top := { live.top with coolSince := some 0 }, now := 1000 * sec }, 0, by decide +kernel⟩,
    ⟨((live.wr (MGT_SENS_VALID 0) 1).wrInt (MGT_SENS_VALUE 0) 480), 0, by decide +kernel⟩,
    ⟨live, 0, 5, by unfold State.Admits; decide +kernel⟩,
    ⟨live, 0, 5, by unfold State.Admits; decide +kernel⟩⟩

/-- The hypotheses of every clause of BootAndModeCommandsComplete can be met. -/
theorem witness_BootAndModeCommandsComplete :
    (∃ (s : State), s.top.inReset = false ∧ bit s.top.reached 0 = false) ∧
    (∃ (s : State), s.top.inReset = false ∧ bit s.top.reached 0 = true ∧ bit s.top.reached 1 = false) ∧
    (∃ (s : State) (bands : List (Fin 256)) (u : State), s.top.inReset = false ∧ s.mode = .startup ∧ bit s.top.reached 2 = false ∧ (u = (s.forN
      53 fun k x => let y := x.setSynH k ((x.synH k).cacheWrite
      { int := x.synWord k / 2 ^ 32, fracHi := x.synWord k / 2 ^ 20 % 2 ^ 12, band := (bands.getD k 0).val, temp := x.hottestC, made := x.now });
      if 48 ≤ k then (y.wr (SYN_PLL_STAT_BAND k) (bands.getD k 0).val).setSynState k 3 else ((y.wr (SYN_PLL_STAT_BAND k) (bands.getD k
      0).val).wr (SYN_PLL_STAT_GATE k) 1).setSynState k 4).updatePool)) ∧
    (∃ (s : State) (u v w : State), s.top.inReset = false ∧ s.mode = .startup ∧ s.top.reached % 8 = 7 ∧ u = s.startPlans ∧ (v = u.forN 4608 fun
      d x => if (x.trlH (d / 128)).mode = 0 ∧ x.addresses d ∧ !(u.bootMap.any fun e => e.1 == d) ∧ !x.on (XPT_MAP_RD_COVERED d) then x.bootRoute
      d d else x) ∧ (w = v.forL u.bootMap fun e x => if x.on (XPT_MAP_RD_COVERED e.1) || x.closedSource e.2 then x else x.bootRoute e.1 e.2)) ∧
    (∃ (s : State), s.mode = .default ∧ s.on TOP_STATUS_MGT_READY = true ∧ s.top.mgtFrame < s.frame0 ∧ s.twinEn = false) ∧
    (∃ (s : State), s.top.inReset = false ∧ s.on TOP_STATUS_CELLAR_READY = false) ∧
    (∃ (s : State), s.top.inReset = false ∧ s.on TOP_STATUS_CELLAR_READY = false) ∧
    (∃ (s : State) (m : Fin 22), s.Admits m true TOP_CTRL ∧ s.mayFreeze = true) ∧
    (∃ (s : State) (m : Fin 22), s.Admits m true TOP_CTRL ∧ s.mode = .frozen) ∧
    (∃ (s : State) (f : Nat), s.top.thaw = some f ∧ f < s.frame0) ∧
    (∃ (s : State) (m : Fin 22), s.Admits m true TOP_CTRL ∧ (s.mode = .default ∨ s.mode = .solo ∨ s.mode = .relinquished)) ∧
    (∃ (s : State) (m : Fin 22), s.Admits m true TOP_CTRL ∧ s.mode ≠ .startup) ∧
    (∃ (s : State) (u : State), s.mode = .quiesce ∧ s.top.b1 = none ∧ s.top.quiesceFrame < s.frame0 ∧ u =
      ({ s with top := { s.top with b1 := some s.frame0, heldAtB1 := s.top.claim && s.peerAble } } : State).haltAll) ∧
    (∃ (s : State) (u : State), s.mode = .quiesce ∧ s.top.txStopped = false ∧ s.txPeriodOver = true ∧ (u =
      ({ s with top := { s.top with txStopped := true } } : State).forN 37 fun n x => x.stopTx n true)) ∧
    (∃ (s : State) (m : Fin 22), s.Admits m true TOP_CTRL ∧ s.mode = .relinquished) ∧
    (∃ (s : State) (f : Nat), s.fab.alone = some f ∧ s.isMember = true ∧ (s.mode = .solo ∨ s.mode = .active ∨ s.mode = .standby) ∧ f + 3 ≤
      s.frame0) :=
  ⟨⟨{ live with top := { live.top with reached := 0 } }, by decide +kernel⟩,
    ⟨{ live with top := { live.top with reached := 1 } }, by decide +kernel⟩,
    ⟨{ (live.wr TOP_MODE_MODE 0) with top := { live.top with reached := 3 } }, [], searched, by decide +kernel, by decide +kernel,
      by decide +kernel, rfl⟩,
    ⟨startupEnds, startupEnds.startPlans, routedOwn, routedMap, by decide +kernel, by decide +kernel, by decide +kernel, rfl, rfl, rfl⟩,
    ⟨{ (live.wr TOP_MODE_MODE 1).wr TOP_STATUS_MGT_READY 1 with plan := [(0, { anchorF := 5 })] }, by decide +kernel⟩,
    ⟨(live.wr TOP_STATUS_CELLAR_READY 0), by decide +kernel⟩,
    ⟨(live.wr TOP_STATUS_CELLAR_READY 0), by decide +kernel⟩,
    ⟨(live.wr TOP_MODE_MODE 2), 0, by unfold State.Admits; decide +kernel, by decide +kernel⟩,
    ⟨(live.wr TOP_MODE_MODE 8), 0, by unfold State.Admits; decide +kernel, by decide +kernel⟩,
    ⟨{ live with top := { live.top with thaw := some 0 }, plan := [(0, { anchorF := 5 })] }, 0, by decide +kernel⟩,
    ⟨live, 0, by unfold State.Admits; decide +kernel, by decide +kernel⟩,
    ⟨live, 0, by unfold State.Admits; decide +kernel, by decide +kernel⟩,
    ⟨quiesceBegins,
      ({ quiesceBegins with top := { quiesceBegins.top with b1 := some quiesceBegins.frame0, heldAtB1 := quiesceBegins.top.claim && quiesceBegins.peerAble } }
      : State).haltAll, by decide +kernel, by decide +kernel, by decide +kernel, rfl⟩,
    ⟨quiesces, transmittersStopped, by decide +kernel, by decide +kernel, by decide +kernel, rfl⟩,
    ⟨(live.wr TOP_MODE_MODE 6), 0, by unfold State.Admits; decide +kernel, by decide +kernel⟩,
    ⟨{ fabricMember.wr TOP_MODE_MODE 2 with fab := { fabricMember.fab with alone := some 0 }, plan := [(0, { anchorF := 5 })] }, 0,
      by decide +kernel⟩⟩

/-- The hypotheses of every clause of ReceiverCommandsComplete can be met. -/
theorem witness_ReceiverCommandsComplete :
    (∃ (s : State) (n : Fin 37), s.on (TRL_STATUS_TX_ACTIVE n) = true) ∧
    (∃ (s : State) (n : Fin 37), s.on (TRL_STATUS_TX_ACTIVE n) = false) ∧
    (∃ (s : State) (n : Fin 37) (l : Fin 8) (up : Bool), s.rxIs n 6 = true ∧ s.on (TRL_CFG_ADAPT_FREEZE n) = false ∧ l.val < laneCount n ∧
      (s.trlH n).adaptAt = [] ∧ -4 ≤ (s.laneH n l).pointer ∧ (s.laneH n l).pointer ≤ 4) ∧
    (∃ (s : State) (n : Fin 37), s.rxIs n 1 = true ∧ s.looped n = false) ∧
    (∃ (s : State) (n : Fin 37), s.rxIs n 2 = true) ∧
    (∃ (s : State) (n : Fin 37), s.rxIs n 2 = true ∧ s.rxAged n (200 * us) = true) ∧
    (∃ (s : State) (n : Fin 37) (phases : List (Fin 64)), s.rxIs n 3 = true) ∧
    (∃ (s : State) (n : Fin 37), s.rxIs n 3 = true ∧ s.rxAged n (5 * ms) = true) ∧
    (∃ (s : State) (n : Fin 37), s.rxIs n 4 = true) ∧
    (∃ (s : State) (n : Fin 37), s.rxIs n 4 = true ∧ s.rxAged n (200 * us) = true) ∧
    (∃ (s : State) (n : Fin 37) (ids : List (Fin 8)) (skews : List (Fin 257)) (last : List (Fin 4)), s.rxIs n 5 = true ∧ laneIdsOk n (ids.map
      (·.val)) = true ∧ ((skews.take (laneCount n)).all (fun k => decide (k.val ≤ s.skewLimit n)) = true)) ∧
    (∃ (s : State) (n : Fin 37) (ids : List (Fin 8)) (skews : List Nat) (v : State), s.rxIs n 5 = true ∧ s.rxAged n (100 * us) = true ∧
      laneIdsOk n (ids.map (·.val)) = false ∧ v = (s.showLanes n (ids.map (·.val)) skews).raise (TRL_STATUS_LANE_ID_ERR n) ∧ ((skews.take
      (laneCount n)).all (fun k => decide (k ≤ v.skewLimit n)) = true)) ∧
    (∃ (s : State) (n : Fin 37), s.loopClock n = false) :=
  ⟨⟨live.wr (TRL_STATUS_TX_ACTIVE 0) 1, 0, by decide +kernel⟩,
    ⟨live, 0, by decide +kernel⟩,
    ⟨receiverUp, 0, 1, true, by decide +kernel⟩,
    ⟨(live.wr (TRL_STATUS_RX_STATE 0) 1), 0, by decide +kernel⟩,
    ⟨(live.wr (TRL_STATUS_RX_STATE 0) 2), 0, by decide +kernel⟩,
    ⟨{ (live.wr (TRL_STATUS_RX_STATE 0) 2) with now := 10 * sec }, 0, by decide +kernel⟩,
    ⟨(live.wr (TRL_STATUS_RX_STATE 0) 3), 0, [], by decide +kernel⟩,
    ⟨{ (live.wr (TRL_STATUS_RX_STATE 0) 3) with now := 10 * sec }, 0, by decide +kernel⟩,
    ⟨(live.wr (TRL_STATUS_RX_STATE 0) 4), 0, by decide +kernel⟩,
    ⟨{ (live.wr (TRL_STATUS_RX_STATE 0) 4) with now := 10 * sec }, 0, by decide +kernel⟩,
    ⟨(live.wr (TRL_STATUS_RX_STATE 36) 5), 36, [0, 1, 2, 3], [], [], by decide +kernel⟩,
    ⟨{ (live.wr (TRL_STATUS_RX_STATE 0) 5) with now := 10 * sec }, 0, [1, 1, 1, 1, 1, 1, 1, 1], [],
      (({ (live.wr (TRL_STATUS_RX_STATE 0) 5) with now := 10 * sec }).showLanes 0 [1, 1, 1, 1, 1, 1, 1, 1] []).raise (TRL_STATUS_LANE_ID_ERR 0),
      by decide +kernel, by decide +kernel, by decide +kernel, rfl, by decide +kernel⟩,
    ⟨live, 0, by decide +kernel⟩⟩

/-- The hypotheses of every clause of TransmitPatternAndFramingCommandsComplete can be met. -/
theorem witness_TransmitPatternAndFramingCommandsComplete :
    (∃ (s : State) (n : Fin 37), s.txAllowed n = true ∧ s.on (TRL_STATUS_TX_ACTIVE n) = false) ∧
    (∃ (s : State) (n : Fin 37), s.txAllowed n = false) ∧
    (∃ (s : State) (m : Fin 22) (n : Fin 37) (mode : Fin 4), s.Admits m true (TRL_CFG n)) ∧
    (∃ (s : State) (n : Fin 37), n.val ≠ 36 ∧ s.rd (TRL_CFG_MODE n) ≠ (s.trlH n).mode) ∧
    (∃ (s : State) (m : Fin 22) (n : Fin 37) (l : Fin 8), s.Admits m true (TRL_LANE_INJ n l)) ∧
    (∃ (s : State) (n : Fin 37) (l : Fin 8) (bits : List Nat), s.checks n l = true ∧ s.on (TRL_LANE_STAT_CHK_LOCK n l) = false ∧ s.rd
      (TRL_LANE_CFG_PAT_SEL n l) = 6 ∧ s.mode = .diagnostic) ∧
    (∃ (s : State) (n : Fin 37) (l : Fin 8) (bits : List Nat) (q : LaneH × Bool × Nat × Nat), s.checks n l = true ∧ s.on (TRL_LANE_STAT_CHK_LOCK
      n l) = false ∧ s.rd (TRL_LANE_CFG_PAT_SEL n l) < 4 ∧ q = checkBits (s.rd (TRL_LANE_CFG_PAT_SEL n l)) bits.reverse false (s.laneH n l) 0 0) ∧
    (∃ (s : State) (n : Fin 37) (l : Fin 8) (bits errs recent : Nat), s.checks n l = true ∧ s.on (TRL_LANE_STAT_CHK_LOCK n l) = true ∧ 512 <
      recent ∧ recent ≤ errs ∧ errs ≤ bits ∧ s.rd (TRL_LANE_CFG_PAT_SEL n l) < 4 ∧ s.on (TRL_LANE_CFG_CHK_EN n l) = true) ∧
    (∃ (s : State) (n : Fin 37) (due : List (Nat × Nat × Nat × Nat)) (areas : List AreaDue) (v u w : State), s.on (TRL_STATUS_TX_ACTIVE n) =
      true ∧ s.packetMode n = false ∧ s.mode ≠ .diagnostic ∧ n.val ≠ 36 ∧ (areas = due.map fun e =>
      { area := e.1, bits := e.2.1, words := e.2.2.1, start := e.2.2.2 }) ∧ v = s.serialise n areas ∧ v.trunk n = true ∧ u = (v.sendGroups n
      (v.blockGroups n (s.ctnH n).next areas)).setCtnH n { v.ctnH n with next := ((s.ctnH n).next + 1) % 64 } ∧ (w = (u.forL (rangeFrom (128 *
      n) 128) fun d x => if (x.outH d).ending then x.setOutH d { x.outH d with ending := false } else if (x.outH d).opening && x.opened areas d
      then x.setOutH d { x.outH d with opening := false } else x).serialised n areas) ∧ w.trunk n = true ∧ (s.ctnH n).next ≠ 0) ∧
    (∃ (s : State) (n : Fin 37) (symbols : List (List (Fin 4))) (skews : List Nat) (lines : List (Nat × Nat)) (q : State × List (Bool × Nat)) (u
      : State), s.rxIs n 6 = true ∧ s.looped n = false ∧ n.val ≠ 36 ∧ (q = s.receiveSymbols n (symbols.map fun l => l.map (·.val))) ∧
      q.1.packetMode n = false ∧ q.1.mode ≠ .diagnostic ∧ u = q.1.setCtnH n { q.1.ctnH n with rest := (q.1.ctnH n).rest ++ q.2 }) ∧
    (∃ (s : State) (n : Fin 36) (missing : Nat), (s.ctnH n).state = 2 ∧ 4 ≤ (s.ctnH n).bad + missing) ∧
    (∃ (s : State) (n : Fin 36), s.rxIs n 6 = true ∧ (s.trlH n).mode = 0 ∧ (s.ctnH n).wasLocked = false ∧ s.rxAged n 520283 = true) :=
  ⟨⟨live, 0, by decide +kernel⟩,
    ⟨(live.wr (TRL_CFG_TX_IDLE 0) 1), 0, by decide +kernel⟩,
    ⟨live, 0, 0, 1, by unfold State.Admits; decide +kernel⟩,
    ⟨(live.wr (TRL_CFG_MODE 0) 1), 0, by decide +kernel⟩,
    ⟨live, 0, 0, 0, by unfold State.Admits; decide +kernel⟩,
    ⟨checkerRuns, 0, 0, [], by decide +kernel⟩,
    ⟨(checkerRuns.wr (TRL_LANE_CFG_PAT_SEL 0 0) 0), 0, 0, [], checkBits 0 [] false ((checkerRuns.wr (TRL_LANE_CFG_PAT_SEL 0 0) 0).laneH 0 0) 0
      0, by decide +kernel, by decide +kernel, by decide +kernel, rfl⟩,
    ⟨((checkerRuns.wr (TRL_LANE_CFG_PAT_SEL 0 0) 0).wr (TRL_LANE_STAT_CHK_LOCK 0 0) 1), 0, 0, 1000, 600, 600, by decide +kernel⟩,
    ⟨trunkSends, 0, [], [], trunkSends.serialise 0 [], blockSent1, blockSent2, by decide +kernel, by decide +kernel, by decide +kernel,
      by decide +kernel, by decide +kernel, rfl, by decide +kernel, rfl, rfl, by decide +kernel⟩,
    ⟨receiverUp, 0, [], [], [], receiverUp.receiveSymbols 0 [], (receiverUp.receiveSymbols 0 []).1.setCtnH 0
      { (receiverUp.receiveSymbols 0 []).1.ctnH 0 with rest := ((receiverUp.receiveSymbols 0 []).1.ctnH 0).rest ++ (receiverUp.receiveSymbols 0 []).2 },
      by decide +kernel, by decide +kernel, by decide +kernel, rfl, by decide +kernel, by decide +kernel, rfl⟩,
    ⟨(live.setCtnH 0 { state := 2 }), 0, 5, by decide +kernel⟩,
    ⟨{ (live.wr (TRL_STATUS_RX_STATE 0) 6) with now := 10 * sec }, 0, by decide +kernel⟩⟩

/-- The hypotheses of every clause of ReferenceCommandsComplete can be met. -/
theorem witness_ReferenceCommandsComplete :
    (∃ (s : State) (c : Fin 2) (hz : Nat), s.candState c = 0) ∧
    (∃ (s : State) (c : Fin 2) (idle : Nat) (levels : List Bool) (k t w : Nat), s.candState c ≠ 0 ∧ k = s.rd (REF_CAND_STAT_CLASS c) ∧ t = s.now
      - refCycles k (10 * markerCell k) ∧ markerWord k idle levels = some w ∧ markerWordOk w = true ∧ s.markerOnTime c w t = true) ∧
    (∃ (s : State) (c : Fin 2) (idle : Nat) (levels : List Bool) (k t w : Nat), s.candState c ≠ 0 ∧ k = s.rd (REF_CAND_STAT_CLASS c) ∧ t = s.now
      - refCycles k (10 * markerCell k) ∧ markerWord k idle levels = some w ∧ (markerWordOk w && s.markerOnTime c w t) = false) ∧
    (∃ (s : State) (c : Fin 2), s.candState c ≠ 0 ∧ (s.candH c).markerSince + 3 * framePeriod (s.candRate c) ≤ s.now ∧ s.on (REF_CAND_CFG_FP_REQ
      c) = false) ∧
    (∃ (s : State) (c : Fin 2) (ps : Nat), s.rd (REF_CAND_STAT_CLASS c) ≠ 0 ∧ glitchPeriod (s.rd (REF_CAND_STAT_CLASS c)) ps = true ∧ (s.candH
      c).glitches = []) ∧
    (∃ (s : State) (c : Fin 2) (ps : Nat), clockGone (s.rd (REF_CAND_STAT_CLASS c)) ps = true) ∧
    (∃ (s : State) (meas : List Int) (u : State), s.dpll.monAt + sec ≤ s.now ∧ u = (({ s with dpll := { s.dpll with monAt := s.now } } :
      State).candTimers).holdMeasures meas) ∧
    (∃ (s : State) (c : Fin 6), s.candState c = 1 ∧ s.candGood c = true ∧ (s.candH c).since + s.rd REF_CFG_QUAL_S * sec ≤ s.now) ∧
    (∃ (s : State) (c : Fin 6), s.candState c = 3 ∧ (s.candH c).since + s.rd REF_CFG_DISQ_S * sec ≤ s.now) ∧
    (∃ (s : State) (t k : Nat), (s.rd REF_STATUS_DPLL = 1 ∨ s.rd REF_STATUS_DPLL = 2) ∧ ((bandwidthSchedule (s.rd (REF_CAND_STAT_CLASS (s.rd
      REF_STATUS_SEL)))).find? (fun e => e.2 == s.rd REF_STATUS_BW_STEP + 1) = some (t, k)) ∧ s.dpll.acqSince + t * (sec / 2) ≤ s.now) ∧
    (∃ (s : State) (freq : Nat) (b : Int) (u : State), s.rd REF_STATUS_DPLL = 1 ∧ s.dpll.handoff = none ∧ freq ≤ 20 ∧ s.dpll.selAt + 2 * sec ≤
      s.now ∧ u = { s with dpll := { s.dpll with handoff := some s.now, firstDone := true } }) ∧
    (∃ (s : State) (freq phase t : Nat), s.dpll.handoff = some t ∧ s.rd REF_STATUS_DPLL = 1 ∧ freq ≤ 20 ∧ phase ≤ 100 ∧ t + 2 * sec ≤ s.now) ∧
    (∃ (s : State) (phase : Nat), s.rd REF_STATUS_DPLL = 2 ∧ 1000 < phase ∧ s.dpll.since + sec ≤ s.now) ∧
    (∃ (s : State), s.rd REF_STATUS_DPLL = 3 ∧ s.dpll.since + s.rd REF_HOLD_VALID_MIN * 60 * sec ≤ s.now) :=
  ⟨⟨live, 0, 10000000, by decide +kernel⟩,
    ⟨markerCandidate, 0, 200, [true, false, true, false, true, false, false, false, true, false].flatMap (List.replicate 8), 1,
      markerCandidate.now - refCycles 1 (10 * markerCell 1), 0x51, by decide +kernel⟩,
    ⟨markerCandidate, 0, 200, List.replicate 72 true ++ List.replicate 8 false, 1, markerCandidate.now - refCycles 1 (10 * markerCell 1), 0xFF,
      by decide +kernel⟩,
    ⟨{ (live.wr (REF_CAND_STAT_STATE 0) 1).wr (REF_CAND_CFG_FP_REQ 0) 0 with now := 10 * sec }, 0, by decide +kernel⟩,
    ⟨markerCandidate, 0, 1000000, by decide +kernel⟩,
    ⟨markerCandidate, 0, 1000000000, by decide +kernel⟩,
    ⟨{ live with now := sec }, [], _, by decide +kernel, rfl⟩,
    ⟨{ (live.wr (REF_CAND_STAT_STATE 5) 1) with now := 1000 * sec, cand := [(5, { present := some 0, meas := some 0 })] }, 5, by decide +kernel⟩,
    ⟨{ (live.wr (REF_CAND_STAT_STATE 0) 3) with now := 1000 * sec }, 0, by decide +kernel⟩,
    ⟨acquiring, 15, 1, by decide +kernel⟩,
    ⟨{ (live.wr REF_STATUS_DPLL 1) with now := 1000 * sec }, 0, 0, _, by decide +kernel, by decide +kernel, by decide +kernel,
      by decide +kernel, rfl⟩,
    ⟨{ (live.wr REF_STATUS_DPLL 1) with now := 1000 * sec, dpll := { handoff := some 0 } }, 20, 100, 0, by decide +kernel⟩,
    ⟨{ (live.wr REF_STATUS_DPLL 2) with now := 10 * sec }, 1001, by decide +kernel⟩,
    ⟨{ (live.wr REF_STATUS_DPLL 3) with now := 1000000 * sec }, by decide +kernel⟩⟩

/-- The hypotheses of every clause of PlanCommandsComplete can be met. -/
theorem witness_PlanCommandsComplete :
    (∃ (s : State) (m : Fin 22) (p : Fin 8) (v : Word), s.Admits m true (PLN_CFG p)) ∧
    (∃ (s : State) (p : Fin 8) (u : State), u = s.settlePool ∧ u.clockless p = true) ∧
    (∃ (s : State) (p : Fin 8) (u : State) (st : StagedH), u = s.settlePool ∧ u.clockless p = false ∧ u.poolFree.isEmpty = false ∧ u.waitsPool p
      = true ∧ (u.planH p).staged = some st) ∧
    (∃ (s : State) (p : Fin 8) (i : Nat) (u : State) (st : StagedH), (((rangeFrom 37 10).find? fun k => (s.synH k).claim == some p.val) = some
      i) ∧ u = s.settle i ∧ u.rd (SYN_PLL_STAT_STATE i) = 4 ∧ (u.synH i).target = none ∧ (u.planH p).clockLost = false ∧ (u.planH p).staged =
      some st) ∧
    (∃ (s : State) (p : Fin 8) (i : Nat) (u : State), (((rangeFrom 37 10).find? fun k => (s.synH k).claim == some p.val) = some i) ∧ u =
      s.settle i ∧ u.rd (SYN_PLL_STAT_STATE i) = 4 ∧ (u.synH i).target = none ∧ (u.planH p).clockLost = true) ∧
    (∃ (s : State) (p : Fin 8) (b a : Nat) (st : StagedH), s.changeTimes p = some (b, a) ∧ (s.planH p).staged = some st ∧ b < a ∧ b ≤ s.now ∧
      st.bridged = false ∧ (s.planH p).starting = false) ∧
    (∃ (s : State) (p : Fin 8) (st : StagedH), (s.planH p).staged = some st ∧ (s.planH p).starting = false ∧ st.bridged = true ∧ (s.planH
      p).anchorT + (s.planH p).segLen ≤ s.now) ∧
    (∃ (s : State) (m : Fin 22) (p : Fin 8) (v : Word), s.Admits m true (PLN_ALIGN p)) ∧
    (∃ (s : State) (m : Fin 22) (p : Fin 8) (k : Fin 4), s.Admits m true (PLN_CFG p)) ∧
    (∃ (s : State) (m : Fin 22) (p : Fin 8), s.Admits m true (PLN_CTRL p)) ∧
    (∃ (s : State) (p : Fin 8) (j : JumpH) (t : Nat), (s.planH p).jump = some j ∧ j.running = false ∧ j.frame ≤ s.frameOf p ∧ t = (s.planH
      p).frameStart j.frame ∧ s.changeDue p t = false) ∧
    (∃ (s : State) (p : Fin 8) (j : JumpH), (s.planH p).jump = some j ∧ j.running = true) ∧
    (∃ (s : State) (p : Fin 8), s.on (PLN_STATUS_SLEWING p) = true ∧ (s.phaseError p).natAbs ≤ 6) ∧
    (∃ (s : State) (m : Fin 22) (p : Fin 8), s.Admits m true (PLN_CFG p)) ∧
    (∃ (s : State) (p : Fin 8) (st : StagedH) (r : Nat), (s.planH p).staged = some st ∧ st.ready = some r ∧ s.phaseRelatedRate st.rate = false ∧
      (s.planH p).starting = true ∧ r ≤ s.now) ∧
    (∃ (s : State) (p : Fin 8) (k : Nat), (s.planH p).staged = none ∧ (s.planH p).stopping = some k ∧ s.on (PLN_STATUS_RUN p) = true ∧ k <
      s.frameOf p) :=
  ⟨⟨live, 0, 0, 1, by unfold State.Admits; decide +kernel⟩,
    ⟨clockLost0, 0, clockLost0.settlePool, rfl, by decide +kernel⟩,
    ⟨waitsPool0, 0, waitsPool0.settlePool, { format := 5, rate := 5 }, rfl, by decide +kernel⟩,
    ⟨synthIsReady, 1, 40, synthIsReady.settle 40, { format := 5, rate := 5 }, by decide +kernel, rfl, by decide +kernel⟩,
    ⟨synthRestores, 1, 40, synthRestores.settle 40, by decide +kernel, rfl, by decide +kernel⟩,
    ⟨changeReady, 0, 120000000, 200000000, { format := 5, rate := 4, ready := some 1000 }, by decide +kernel⟩,
    ⟨{ live with plan := [(1, { staged := some { format := 5, rate := 5, bridged := true } })], now := 1000 * sec }, 1,
      { format := 5, rate := 5, bridged := true }, by decide +kernel⟩,
    ⟨live, 0, 0, 1, by unfold State.Admits; decide +kernel⟩,
    ⟨live, 0, 0, 1, by unfold State.Admits; decide +kernel⟩,
    ⟨live, 0, 0, by unfold State.Admits; decide +kernel⟩,
    ⟨jumpDue, 1, { frame := 7, change := -600 }, (jumpDue.planH 1).frameStart 7, by decide +kernel⟩,
    ⟨{ live with plan := [(1, { anchorF := 9, jump := some { frame := 7, change := -600, running := true } })] }, 1,
      { frame := 7, change := -600, running := true }, by decide +kernel⟩,
    ⟨(live.wr (PLN_STATUS_SLEWING 0) 1), 0, by decide +kernel⟩,
    ⟨live, 0, 0, by unfold State.Admits; decide +kernel⟩,
    ⟨{ live with plan := [(1, { starting := true, staged := some { format := 5, rate := 3, ready := some 0 } })] }, 1,
      { format := 5, rate := 3, ready := some 0 }, 0, by decide +kernel⟩,
    ⟨{ (live.wr (PLN_STATUS_RUN 1) 1) with plan := [(1, { stopping := some 3, anchorF := 5 })] }, 1, 3, by decide +kernel⟩⟩

/-- The hypotheses of every clause of SynthesiserCommandsComplete can be met. -/
theorem witness_SynthesiserCommandsComplete :
    (∃ (s : State) (m : Fin 22) (i : Fin 53) (seed : Fin 65536), s.Admits m true (SYN_PLL_SEED i)) ∧
    (∃ (s : State) (m : Fin 22) (i : Fin 53), s.Admits m true (SYN_PLL_CTRL i)) ∧
    (∃ (s : State) (m : Fin 22) (i : Fin 53), s.Admits m true (SYN_PLL_CTRL i)) ∧
    (∃ (s : State) (i : Fin 53) (band : Fin 256) (found : Bool), s.rd (SYN_PLL_STAT_STATE i) = 1 ∧ found = false) ∧
    (∃ (s : State) (i : Fin 53) (band : Fin 256) (found : Bool), s.rd (SYN_PLL_STAT_STATE i) = 1 ∧ found = true) ∧
    (∃ (s : State) (i : Fin 53) (loop : Int) (w : State), (s.synH i).rampAt + us ≤ s.now ∧ w = (s.runMash i).steer loop ∧ w.servedPlan i = none
      ∧ i.val ≠ 47 ∧ w.rd (SYN_PLL_STAT_STATE i) < 4) ∧
    (∃ (s : State) (i : Fin 53) (loop : Int) (w u : State) (want next : Nat), (s.synH i).rampAt + us ≤ s.now ∧ w = (s.runMash i).steer loop ∧
      w.servedPlan i = none ∧ i.val ≠ 47 ∧ u = w.setSynH i { w.synH i with rampAt := w.now } ∧ 4 ≤ u.rd (SYN_PLL_STAT_STATE i) ∧ (u.synH
      i).target = some want ∧ (u.synH i).rampFrom = none ∧ next = rampNext (u.rd (SYN_PLL_CFG_PROFILE i)) (u.rd (SYN_PLL_CFG_SLOPE i))
      (u.synWord i) (u.synWord i) u.now want u.now) ∧
    (∃ (s : State) (k : Fin 10) (p : Nat) (v w : State), s.servedPlan (37 + k.val) = some p ∧ 4 ≤ s.rd (SYN_PLL_STAT_STATE (37 + k.val)) ∧ v =
      s.synUnlock (37 + k.val) ∧ w = (v.setSynH (37 + k.val) { v.synH (37 + k.val) with failed := true }).setPlanH p
      { v.planH p with clockLost := true }) ∧
    (∃ (s : State) (k : Fin 5), 3 ≤ s.rd (SYN_PLL_STAT_STATE (48 + k.val))) ∧
    (∃ (s : State) (k : Fin 5) (u : State), u = s.settle (48 + k.val) ∧ u.on ⟨SYN_STATUS, k, 1⟩ = true ∧ u.rd (SYN_PLL_STAT_STATE (48 + k.val))
      = 4) :=
  ⟨⟨live, 0, 0, 1, by unfold State.Admits; decide +kernel⟩,
    ⟨live, 0, 0, by unfold State.Admits; decide +kernel⟩,
    ⟨live, 0, 0, by unfold State.Admits; decide +kernel⟩,
    ⟨(live.wr (SYN_PLL_STAT_STATE 0) 1), 0, 7, false, by decide +kernel⟩,
    ⟨(live.wr (SYN_PLL_STAT_STATE 0) 1), 0, 7, true, by decide +kernel⟩,
    ⟨searches, 0, 0, (searches.runMash 0).steer 0, by decide +kernel, rfl, by decide +kernel⟩,
    ⟨ramps, 0, 0, (ramps.runMash 0).steer 0, rampSet, 123, rampTo, by decide +kernel, rfl, by decide +kernel, by decide +kernel, rfl,
      by decide +kernel⟩,
    ⟨planServed, 0, 0, planServed.synUnlock 37, ((planServed.synUnlock 37).setSynH 37
      { (planServed.synUnlock 37).synH 37 with failed := true }).setPlanH 0 { (planServed.synUnlock 37).planH 0 with clockLost := true },
      by decide +kernel, by decide +kernel, rfl, rfl⟩,
    ⟨(live.wr (SYN_PLL_STAT_STATE 48) 4), 0, by decide +kernel⟩,
    ⟨relocked, 0, relocked.settle 48, rfl, by decide +kernel⟩⟩

/-- The hypotheses of every clause of RackerControlCommandsComplete can be met. -/
theorem witness_RackerControlCommandsComplete :
    (∃ (s : State) (m : Fin 22) (r : Fin 16), s.Admits m true (RCK_CTRL r)) ∧
    (∃ (s : State) (r : Fin 16) (kind f : Nat), (s.rckH r).request = some (kind, f) ∧ f < s.frame0) ∧
    (∃ (s : State) (m : Fin 22) (r : Fin 16), s.Admits m true (RCK_CTRL r)) ∧
    (∃ (s : State) (m : Fin 22) (r : Fin 16), s.Admits m true (RCK_CTRL r)) ∧
    (∃ (s : State) (m : Fin 22) (r : Fin 16), s.Admits m true (RCK_CTRL r)) ∧
    (∃ (s : State) (m : Fin 22) (r : Fin 16) (k : Fin 16384) (v : Word), s.Admits m true (RCK_PM r k) ∧ s.rd (RCK_STATUS_STATE r) = 0 ∧
      s.mayLoad m = true) ∧
    (∃ (s : State) (m : Fin 22) (k : Fin 1932) (v : Word), s.Admits m true (ownAddr k) ∧ s.mayLoad m = true) ∧
    (∃ (s : State) (m : Fin 22) (n : Fin 256) (v : Word), s.Admits m true (RCK_FENCE n)) ∧
    (∃ (s : State) (m : Fin 22) (id : Fin 256) (dur : Fin 65536) (prio : Fin 8), s.Admits m true RCK_LEASE_REQ) ∧
    (∃ (s : State) (m : Fin 22) (id : Fin 256) (prio : Fin 8), s.Admits m true RCK_LEASE_REQ) ∧
    (∃ (s : State) (k : Fin 256), s.on (RCK_LEASE_H_HELD k) = true ∧ k.val ≠ 255 ∧ s.leaseDue k = true ∧ (s.rd (RCK_LEASE_H_HOLDER k) ≠
      holderPeer ∨ 96 ≤ k.val ∨ s.on TWN_STATUS_FENCING = true)) ∧
    (∃ (s : State) (who : Fin 17) (a b f : Nat), who.val = 16 ∧ s.fab.host = some (a, b, f) ∧ f + 3 ≤ s.frame0) ∧
    (∃ (s : State) (who : Fin 17) (rd a b f : Nat), who.val < 16 ∧ (s.rckH who).wait = .lease rd a b f ∧ f + 3 ≤ s.frame0) ∧
    (∃ (s : State) (k : Fin 16) (level : Bool), bit s.pin.gpi k ≠ level ∧ s.journals = false) ∧
    (∃ (s : State), s.top.inReset = false ∧ s.rd RCK_GPI_VALUE ≠ s.pin.gpi ∧ s.paired = false ∧ s.pin.gpiAt < (s.planH 0).lineStart (s.pos
      0).frame (s.pos 0).line) ∧
    (∃ (s : State) (m : Fin 22) (r : Fin 16), s.Admits m false (RCK_PT_F r)) ∧
    (∃ (s : State) (r : Fin 16) (rd p x : Nat) (entries : List Nat), (s.rckH r).wait = .retire rd entries ∧ s.rd (RCK_STATUS_STATE r) ≠ 3 ∧
      (s.floorInstant r).isNone = false ∧ (s.rckH r).floor = some (p, x) ∧ rckOp (s.fetchWord r) ≠ 0x36 ∧ entries ≠ []) ∧
    (∃ (s : State) (r : Fin 16) (rd t : Nat) (entries : List Nat), (s.rckH r).wait = .retire rd entries ∧ s.rd (RCK_STATUS_STATE r) = 3 ∧
      (s.rckH r).landedAt = some t ∧ (s.rckH r).ops.length < 4 ∧ rckOp (s.fetchWord r) ≠ 0x36 ∧ entries ≠ []) :=
  ⟨⟨live, 0, 0, by unfold State.Admits; decide +kernel⟩,
    ⟨{ live with plan := [(0, { anchorF := 5 })], rck := [(0, { request := some (1, 0) })] }, 0, 1, 0, by decide +kernel⟩,
    ⟨live, 0, 0, by unfold State.Admits; decide +kernel⟩,
    ⟨live, 0, 0, by unfold State.Admits; decide +kernel⟩,
    ⟨live, 0, 0, by unfold State.Admits; decide +kernel⟩,
    ⟨loadable, 2, 0, 0, 7, by unfold State.Admits; decide +kernel, by decide +kernel⟩,
    ⟨loadable, 2, 0, 7, by unfold State.Admits; decide +kernel, by decide +kernel⟩,
    ⟨live, 2, 0, 7, by unfold State.Admits; decide +kernel⟩,
    ⟨live, 2, 0, 7, 0, by unfold State.Admits; decide +kernel⟩,
    ⟨live, 2, 0, 7, by unfold State.Admits; decide +kernel⟩,
    ⟨(live.wr (RCK_LEASE_H_HELD 3) 1).wr (RCK_LEASE_H_HOLDER 3) 1, 3, by decide +kernel⟩,
    ⟨{ live with plan := [(0, { anchorF := 5 })], fab := { host := some (96, 1, 0) } }, 16, 96, 1, 0, by decide +kernel⟩,
    ⟨{ live with plan := [(0, { anchorF := 5 })], rck := [(2, { wait := .lease 1 96 1 0 })] }, 2, 1, 96, 1, 0, by decide +kernel⟩,
    ⟨live, 0, true, by decide +kernel⟩,
    ⟨{ live with pin := { gpi := 1 }, plan := [(0, { anchorT := 5 })], now := 10 }, by decide +kernel⟩,
    ⟨live, 2, 0, by unfold State.Admits; decide +kernel⟩,
    ⟨{ live with rck := [(0, { wait := .retire 1 [7], floor := some (0, 0) })] }, 0, 1, 0, 0, [7], by decide +kernel⟩,
    ⟨{ (live.wr (RCK_STATUS_STATE 0) 3) with rck := [(0, { wait := .retire 1 [7], landedAt := some 0 })] }, 0, 1, 0, [7], by decide +kernel⟩⟩

/-- The hypotheses of every clause of RackerArithmeticCompletes can be met. -/
theorem witness_RackerArithmeticCompletes :
    (∃ (s : State) (r : Fin 16) (i : RckInstr), s.Issues r i ∧ i.op = 0x01) ∧
    (∃ (s : State) (r : Fin 16) (i : RckInstr), s.Issues r i ∧ i.op = 0x02) ∧
    (∃ (s : State) (r : Fin 16) (i : RckInstr), s.Issues r i ∧ i.op = 0x03) ∧
    (∃ (s : State) (r : Fin 16) (i : RckInstr), s.Issues r i ∧ i.op = 0x04) ∧
    (∃ (s : State) (r : Fin 16) (i : RckInstr), s.Issues r i ∧ i.op = 0x05) ∧
    (∃ (s : State) (r : Fin 16) (i : RckInstr), s.Issues r i ∧ i.op = 0x06) ∧
    (∃ (s : State) (r : Fin 16) (i : RckInstr), s.Issues r i ∧ i.op = 0x07) ∧
    (∃ (s : State) (r : Fin 16) (i : RckInstr), s.Issues r i ∧ i.op = 0x08) ∧
    (∃ (s : State) (r : Fin 16) (i : RckInstr), s.Issues r i ∧ i.op = 0x09) ∧
    (∃ (s : State) (r : Fin 16) (i : RckInstr), s.Issues r i ∧ i.op = 0x0A) ∧
    (∃ (s : State) (r : Fin 16) (i : RckInstr), s.Issues r i ∧ i.op = 0x0B) ∧
    (∃ (s : State) (r : Fin 16) (i : RckInstr), s.Issues r i ∧ i.op = 0x0C) ∧
    (∃ (s : State) (r : Fin 16) (i : RckInstr), s.Issues r i ∧ i.op = 0x0D) ∧
    (∃ (s : State) (r : Fin 16) (i : RckInstr), s.Issues r i ∧ i.op = 0x0E) ∧
    (∃ (s : State) (r : Fin 16) (i : RckInstr), s.Issues r i ∧ i.op = 0x0F ∧ i.immediate < 32) ∧
    (∃ (s : State) (r : Fin 16) (i : RckInstr), s.Issues r i ∧ i.op = 0x10 ∧ i.immediate < 32) ∧
    (∃ (s : State) (r : Fin 16) (i : RckInstr), s.Issues r i ∧ i.op = 0x11 ∧ i.immediate < 32) ∧
    (∃ (s : State) (r : Fin 16) (i : RckInstr), s.Issues r i ∧ i.op = 0x12) ∧
    (∃ (s : State) (r : Fin 16) (i : RckInstr), s.Issues r i ∧ i.op = 0x13) ∧
    (∃ (s : State) (r : Fin 16) (i : RckInstr), s.Issues r i ∧ i.op = 0x14) :=
  ⟨⟨runs (.regs 1 1 2 3), 0, .regs 1 1 2 3, by unfold State.Issues; decide +kernel, by decide +kernel⟩,
    ⟨runs (.regs 2 1 2 3), 0, .regs 2 1 2 3, by unfold State.Issues; decide +kernel, by decide +kernel⟩,
    ⟨runs (.regs 3 1 2 3), 0, .regs 3 1 2 3, by unfold State.Issues; decide +kernel, by decide +kernel⟩,
    ⟨runs (.regs 4 1 2 3), 0, .regs 4 1 2 3, by unfold State.Issues; decide +kernel, by decide +kernel⟩,
    ⟨runs (.regs 5 1 2 3), 0, .regs 5 1 2 3, by unfold State.Issues; decide +kernel, by decide +kernel⟩,
    ⟨runs (.regs 6 1 2 3), 0, .regs 6 1 2 3, by unfold State.Issues; decide +kernel, by decide +kernel⟩,
    ⟨runs (.regs 7 1 2 3), 0, .regs 7 1 2 3, by unfold State.Issues; decide +kernel, by decide +kernel⟩,
    ⟨runs (.regs 8 1 2 3), 0, .regs 8 1 2 3, by unfold State.Issues; decide +kernel, by decide +kernel⟩,
    ⟨runs (.regs 9 1 2 3), 0, .regs 9 1 2 3, by unfold State.Issues; decide +kernel, by decide +kernel⟩,
    ⟨runs (.regs 10 0 2 3), 0, .regs 10 0 2 3, by unfold State.Issues; decide +kernel, by decide +kernel⟩,
    ⟨runs (.imm 11 1 2 3), 0, .imm 11 1 2 3, by unfold State.Issues; decide +kernel, by decide +kernel⟩,
    ⟨runs (.imm 12 1 2 3), 0, .imm 12 1 2 3, by unfold State.Issues; decide +kernel, by decide +kernel⟩,
    ⟨runs (.imm 13 1 2 3), 0, .imm 13 1 2 3, by unfold State.Issues; decide +kernel, by decide +kernel⟩,
    ⟨runs (.imm 14 1 2 3), 0, .imm 14 1 2 3, by unfold State.Issues; decide +kernel, by decide +kernel⟩,
    ⟨runs (.imm 15 1 2 3), 0, .imm 15 1 2 3, by unfold State.Issues; decide +kernel, by decide +kernel⟩,
    ⟨runs (.imm 16 1 2 3), 0, .imm 16 1 2 3, by unfold State.Issues; decide +kernel, by decide +kernel⟩,
    ⟨runs (.imm 17 1 2 3), 0, .imm 17 1 2 3, by unfold State.Issues; decide +kernel, by decide +kernel⟩,
    ⟨runs (.imm 18 0 2 3), 0, .imm 18 0 2 3, by unfold State.Issues; decide +kernel, by decide +kernel⟩,
    ⟨runs (.imm 19 1 0 3), 0, .imm 19 1 0 3, by unfold State.Issues; decide +kernel, by decide +kernel⟩,
    ⟨runs (.imm 20 1 0 3), 0, .imm 20 1 0 3, by unfold State.Issues; decide +kernel, by decide +kernel⟩⟩

/-- The hypotheses of every clause of RackerMemoryAndSpecialInstructionsComplete can be met. -/
theorem witness_RackerMemoryAndSpecialInstructionsComplete :
    (∃ (s : State) (r : Fin 16) (i : RckInstr) (ecc : Bool), s.Issues r i ∧ i.op = 0x15 ∧ (s.resync r).effAddr r i % 4 = 0 ∧ (s.resync
      r).effAddr r i ≤ 0x3FFF ∧ ecc = false) ∧
    (∃ (s : State) (r : Fin 16) (i : RckInstr) (ecc : Bool), s.Issues r i ∧ i.op = 0x16 ∧ (s.resync r).effAddr r i % 4 = 0 ∧ (s.resync
      r).effAddr r i ≤ 0x3FFF ∧ ecc = false) ∧
    (∃ (s : State) (r : Fin 16) (i : RckInstr) (ecc : Bool), s.Issues r i ∧ i.op = 0x17 ∧ (s.resync r).effAddr r i ≤ 0x3FFF ∧ ecc = false) ∧
    (∃ (s : State) (r : Fin 16) (i : RckInstr) (ecc : Bool), s.Issues r i ∧ i.op = 0x18 ∧ (s.resync r).effAddr r i ≤ 0x3FFF ∧ ecc = false) ∧
    (∃ (s : State) (r : Fin 16) (i : RckInstr), s.Issues r i ∧ i.op = 0x19) ∧
    (∃ (s : State) (r : Fin 16) (i : RckInstr) (v : State), s.Issues r i ∧ i.op = 0x1A ∧ (s.resync r).access
      { master := 3 + r, write := true, addr := RCK_SALVO (((s.resync r).greg r i.ra).toNat % 2 ^ 16), len := 8, data := ((s.resync r).greg r i.rd).toNat * 2 ^ 32 + ((s.resync r).greg r (i.rd + 1)).toNat }
      = (v, false)) ∧
    (∃ (s : State) (r : Fin 16) (i : RckInstr) (v : State), s.Issues r i ∧ i.op = 0x1B ∧ (s.resync r).effAddr r i % 4 = 0 ∧ (s.resync r).access
      { master := 3 + r, write := false, addr := (s.resync r).effAddr r i, len := 4 } = (v, false)) ∧
    (∃ (s : State) (r : Fin 16) (i : RckInstr) (v : State), s.Issues r i ∧ i.op = 0x1C ∧ (s.resync r).effAddr r i % 4 = 0 ∧ (s.resync r).access
      { master := 3 + r, write := true, addr := (s.resync r).effAddr r i, len := 4, data := ((s.resync r).greg r i.rd).toNat } = (v, false)) ∧
    (∃ (s : State) (r : Fin 16) (i : RckInstr), s.Issues r i ∧ i.op = 0x1D) ∧
    (∃ (s : State) (r : Fin 16) (i : RckInstr), s.Issues r i ∧ i.op = 0x1E ∧ i.immediate = 1) :=
  ⟨⟨runs (.imm 21 1 2 4), 0, .imm 21 1 2 4, false, by unfold State.Issues; decide +kernel, by decide +kernel⟩,
    ⟨runs (.imm 22 1 2 4), 0, .imm 22 1 2 4, false, by unfold State.Issues; decide +kernel, by decide +kernel⟩,
    ⟨runs (.imm 23 1 2 5), 0, .imm 23 1 2 5, false, by unfold State.Issues; decide +kernel, by decide +kernel⟩,
    ⟨runs (.imm 24 1 2 5), 0, .imm 24 1 2 5, false, by unfold State.Issues; decide +kernel, by decide +kernel⟩,
    ⟨runs (.regs 25 2 4 0), 0, .regs 25 2 4 0, by unfold State.Issues; decide +kernel, by decide +kernel⟩,
    ⟨runs (.regs 26 2 4 0), 0, .regs 26 2 4 0, ((runs (.regs 26 2 4 0)).access
      { master := 3, write := true, addr := RCK_SALVO 0, len := 8, data := 0 }).1, by unfold State.Issues; decide +kernel, by decide +kernel⟩,
    ⟨runs (.imm 27 1 2 0), 0, .imm 27 1 2 0, ((runs (.imm 27 1 2 0)).access { master := 3, write := false, addr := 0, len := 4 }).1,
      by unfold State.Issues; decide +kernel, by decide +kernel⟩,
    ⟨runs (.imm 28 1 2 0x10), 0, .imm 28 1 2 0x10, ((runs (.imm 28 1 2 0x10)).access { master := 3, write := true, addr := 0x10, len := 4 }).1,
      by unfold State.Issues; decide +kernel, by decide +kernel⟩,
    ⟨runs (.imm 29 1 0 4), 0, .imm 29 1 0 4, by unfold State.Issues; decide +kernel, by decide +kernel⟩,
    ⟨runs (.imm 30 0 2 1), 0, .imm 30 0 2 1, by unfold State.Issues; decide +kernel, by decide +kernel⟩⟩

/-- The hypotheses of every clause of RackerBranchTrapAndWaitInstructionsComplete can be met. -/
theorem witness_RackerBranchTrapAndWaitInstructionsComplete :
    (∃ (s : State) (r : Fin 16) (i : RckInstr), s.Issues r i ∧ i.op = 0x20 ∧ condHolds ((s.resync r).rckH r).flags i.rd = true ∧ 0 ≤ (s.resync
      r).relTarget r i ∧ (s.resync r).relTarget r i ≤ 16383) ∧
    (∃ (s : State) (r : Fin 16) (i : RckInstr), s.Issues r i ∧ i.op = 0x21 ∧ 0 ≤ (s.resync r).relTarget r i ∧ (s.resync r).relTarget r i ≤
      16383) ∧
    (∃ (s : State) (r : Fin 16) (i : RckInstr), s.Issues r i ∧ i.op = 0x22 ∧ ((s.resync r).greg r i.ra).toNat ≤ 16383) ∧
    (∃ (s : State) (r : Fin 16) (i : RckInstr), s.Issues r i ∧ i.op = 0x23 ∧ ((s.resync r).rckH r).lnk ≤ 16383) ∧
    (∃ (s : State) (r : Fin 16) (i : RckInstr) (ecc : Bool), s.Issues r i ∧ i.op = 0x24 ∧ ecc = false) ∧
    (∃ (s : State) (r : Fin 16) (i : RckInstr), s.Issues r i ∧ i.op = 0x25 ∧ (s.resync r).on (RCK_STATUS_IN_HANDLER r) = true) ∧
    (∃ (s : State) (r : Fin 16) (i : RckInstr), s.Issues r i ∧ i.op = 0x26) ∧
    (∃ (s : State) (r : Fin 16) (i : RckInstr), s.Issues r i ∧ i.op = 0x3F) ∧
    (∃ (s : State) (r : Fin 16) (i : RckInstr), s.Issues r i ∧ i.op = 0x28 ∧ i.flag = false ∧ i.immediate ≠ 0 ∧ i.immediate < 2 ^ 16 ∧
      i.immediate ≤ totalLines ((s.resync r).planTiming ((s.resync r).rckH r).planSel).1 ∧ (s.resync r).lineInstant ((s.resync r).rckH
      r).planSel i.immediate ((s.resync r).rckH r).p ≠ some ((s.resync r).rckH r).p) ∧
    (∃ (s : State) (r : Fin 16) (p l issued t : Nat), (s.rckH r).wait = .line p l issued ∧ s.lineInstant p l issued = some t ∧ t ≤ s.now) ∧
    (∃ (s : State) (r : Fin 16) (i : RckInstr), s.Issues r i ∧ i.op = 0x29 ∧ frameDiff ((s.resync r).currentFrame r) ((s.resync r).frameOperand
      r i) < 0) ∧
    (∃ (s : State) (r : Fin 16) (p f t : Nat), (s.rckH r).wait = .frame p f ∧ s.frameInstant p f = some t) ∧
    (∃ (s : State) (r : Fin 16) (i : RckInstr), s.Issues r i ∧ i.op = 0x2A ∧ (((s.resync r).greg r i.ra).toNat ≠ 0 ∨ i.immediate ≠ 0) ∧
      (s.resync r).rd (RCK_EVT_EVT r) &&& ((s.resync r).greg r i.ra).toNat = 0) ∧
    (∃ (s : State) (r : Fin 16) (rd mask p n issued t : Nat), (s.rckH r).wait = .event rd mask p n issued ∧ s.rd (RCK_EVT_EVT r) &&& mask ≠ 0 ∧
      t = (s.rckH r).metAt.getD s.now ∧ s.timedOut p n issued t = false) ∧
    (∃ (s : State) (r : Fin 16) (rd mask p n issued t : Nat), (s.rckH r).wait = .event rd mask p n issued ∧ s.timeoutAt p n issued = some t ∧ t
      ≤ s.now ∧ s.rd (RCK_EVT_EVT r) &&& mask = 0) ∧
    (∃ (s : State) (r : Fin 16) (i : RckInstr), s.Issues r i ∧ i.op = 0x2B) ∧
    (∃ (s : State) (r : Fin 16) (i : RckInstr), s.Issues r i ∧ i.op = 0x2C ∧ ((s.resync r).greg r i.ra).toNat % 2 ^ 13 ≤ 4607 ∧ (s.resync
      r).routeTransparent (((s.resync r).greg r i.ra).toNat % 2 ^ 13) = false ∧ (s.resync r).provenVerdict (((s.resync r).greg r i.ra).toNat % 2
      ^ 13) ((s.resync r).rckH r).p = none) ∧
    (∃ (s : State) (r : Fin 16) (rd d t0 p n issued code tag t : Nat), (s.rckH r).wait = .prove rd d t0 p n issued ∧ (s.rckH r).proved = some
      (code, tag) ∧ t = (s.rckH r).metAt.getD s.now ∧ s.timedOut p n issued t = false) ∧
    (∃ (s : State) (r : Fin 16) (rd d t0 p n issued : Nat), (s.rckH r).wait = .prove rd d t0 p n issued ∧ (s.rckH r).proved = none ∧
      s.nothingToProve d = true ∧ s.timedOut p n issued (s.outH d).stillAt = false) ∧
    (∃ (s : State) (r : Fin 16) (rd d t0 p n issued t : Nat), (s.rckH r).wait = .prove rd d t0 p n issued ∧ s.timeoutAt p n issued = some t ∧ t
      ≤ s.now ∧ (s.rckH r).proved = none) :=
  ⟨⟨runs (.imm 32 0 0 5), 0, .imm 32 0 0 5, by unfold State.Issues; decide +kernel, by decide +kernel⟩,
    ⟨runs (.imm 33 0 0 5), 0, .imm 33 0 0 5, by unfold State.Issues; decide +kernel, by decide +kernel⟩,
    ⟨runs (.regs 34 0 2 0), 0, .regs 34 0 2 0, by unfold State.Issues; decide +kernel, by decide +kernel⟩,
    ⟨runs (.regs 35 0 0 0), 0, .regs 35 0 0 0, by unfold State.Issues; decide +kernel, by decide +kernel⟩,
    ⟨runs (.imm 36 0 0 9), 0, .imm 36 0 0 9, false, by unfold State.Issues; decide +kernel, by decide +kernel⟩,
    ⟨(runs (.regs 37 0 0 0)).wr (RCK_STATUS_IN_HANDLER 0) 1, 0, .regs 37 0 0 0, by unfold State.Issues; decide +kernel, by decide +kernel⟩,
    ⟨runs (.regs 38 0 0 0), 0, .regs 38 0 0 0, by unfold State.Issues; decide +kernel, by decide +kernel⟩,
    ⟨runs (.regs 63 0 0 0), 0, .regs 63 0 0 0, by unfold State.Issues; decide +kernel, by decide +kernel⟩,
    ⟨runs (.time 40 0 0 false 100), 0, .time 40 0 0 false 100, by unfold State.Issues; decide +kernel, by decide +kernel⟩,
    ⟨waitsLine, 0, 0, 1, 0, 0, by decide +kernel⟩,
    ⟨runs (.time 41 0 0 false 100), 0, .time 41 0 0 false 100, by unfold State.Issues; decide +kernel, by decide +kernel⟩,
    ⟨waitsFrame, 0, 0, 3, 0, by decide +kernel⟩,
    ⟨runs (.time 42 1 2 false 4), 0, .time 42 1 2 false 4, by unfold State.Issues; decide +kernel, by decide +kernel⟩,
    ⟨{ (live.wr (RCK_EVT_EVT 0) 1) with rck := [(0, { wait := .event 1 1 0 0 0 })] }, 0, 1, 1, 0, 0, 0, live.now, by decide +kernel⟩,
    ⟨waitsEvent, 0, 1, 1, 0, 3, 0, (waitsEvent.timeoutAt 0 3 0).getD 0, by decide +kernel⟩,
    ⟨runs (.time 43 0 0 false 9), 0, .time 43 0 0 false 9, by unfold State.Issues; decide +kernel, by decide +kernel⟩,
    ⟨runs (.time 44 1 2 false 9), 0, .time 44 1 2 false 9, by unfold State.Issues; decide +kernel, by decide +kernel⟩,
    ⟨{ live with rck := [(0, { wait := .prove 1 5 0 0 0 0, proved := some (1, 77), metAt := some 0 })] }, 0, 1, 5, 0, 0, 0, 0, 1, 77, 0,
      by decide +kernel⟩,
    ⟨{ live with rck := [(0, { wait := .prove 1 5 0 0 0 0 })], outs := [(5, { masked := true })] }, 0, 1, 5, 0, 0, 0, 0, by decide +kernel⟩,
    ⟨{ waitsEvent with rck := [(0, { wait := .prove 1 5 0 0 3 0 })] }, 0, 1, 5, 0, 0, 3, 0, (waitsEvent.timeoutAt 0 3 0).getD 0,
      by decide +kernel⟩⟩

/-- The hypotheses of every clause of RackerOperationInstructionsComplete can be met. -/
theorem witness_RackerOperationInstructionsComplete :
    (∃ (s : State) (r : Fin 16) (i : RckInstr) (ecc : Option (Fin 65536)), s.Issues r i ∧ i.op = 0x30 ∧ ((s.resync r).greg r i.rb).toNat ≠ 0 ∧
      ((s.resync r).greg r i.rb).toNat ≤ 4096 ∧ ((s.resync r).greg r i.ra).toNat + ((s.resync r).greg r i.rb).toNat ≤ 65536 ∧ ecc = none) ∧
    (∃ (s : State) (r : Fin 16) (i : RckInstr), s.Issues r i ∧ i.op = 0x31) ∧
    (∃ (s : State) (r : Fin 16) (i : RckInstr), s.Issues r i ∧ i.op = 0x33) ∧
    (∃ (s : State) (r : Fin 16) (i : RckInstr), s.Issues r i ∧ i.op = 0x35) ∧
    (∃ (s : State) (r : Fin 16) (i : RckInstr), s.Issues r i ∧ i.op = 0x32 ∧ ((s.resync r).rckH r).staging ≠ []) ∧
    (∃ (s : State) (r : Fin 16) (i : RckInstr), s.Issues r i ∧ i.op = 0x32 ∧ ((s.resync r).rckH r).staging = []) ∧
    (∃ (s : State) (r : Fin 16) (i : RckInstr), s.Issues r i ∧ i.op = 0x34) ∧
    (∃ (s : State) (r : Fin 16) (i : RckInstr), s.Issues r i ∧ i.op = 0x36) ∧
    (∃ (s : State) (r : Fin 16) (i : RckInstr) (v : State) (st : Nat), s.Issues r i ∧ i.op = 0x37 ∧ i.immediate = 0 ∧ ((s.resync r).advance r
      4).addMark (((s.resync r).advance r 4).greg r i.ra).toNat r (((s.resync r).advance r 4).ptPos r 0).frame (((s.resync r).advance r 4).ptPos
      r 0).line = (v, st)) ∧
    (∃ (s : State) (r : Fin 16) (i : RckInstr), s.Issues r i ∧ i.op = 0x37 ∧ i.immediate = 1) ∧
    (∃ (s : State) (r : Fin 16) (i : RckInstr) (v : State) (st : Nat), s.Issues r i ∧ i.op = 0x38 ∧ ((s.resync r).greg r i.ra).toNat < 96 ∧
      ((s.resync r).greg r i.rb).toNat ≠ 0 ∧ ((s.resync r).greg r i.rb).toNat ≤ 65535 ∧ (s.resync r).leaseRequest r ((s.resync r).greg r
      i.ra).toNat ((s.resync r).greg r i.rb).toNat ((s.resync r).rd (RCK_CFG_PRIO r)) = (v, st)) ∧
    (∃ (s : State) (r : Fin 16) (i : RckInstr), s.Issues r i ∧ i.op = 0x38 ∧ 96 ≤ ((s.resync r).greg r i.ra).toNat ∧ ((s.resync r).greg r
      i.ra).toNat < 224 ∧ ((s.resync r).greg r i.rb).toNat ≠ 0 ∧ ((s.resync r).greg r i.rb).toNat ≤ 65535) ∧
    (∃ (s : State) (r : Fin 16) (i : RckInstr) (v : State) (st : Nat), s.Issues r i ∧ i.op = 0x39 ∧ ((s.resync r).greg r i.ra).toNat < 96 ∧
      (s.resync r).freeLocal r ((s.resync r).greg r i.ra).toNat = (v, st)) ∧
    (∃ (s : State) (r : Fin 16) (i : RckInstr), s.Issues r i ∧ i.op = 0x3A ∧ (s.resync r).fenceReached (((s.resync r).greg r i.ra).toNat % 256)
      ((s.resync r).greg r i.rb).toNat = true) ∧
    (∃ (s : State) (r : Fin 16) (n v : Nat), (s.rckH r).wait = .fence n v ∧ s.fenceReached n v = true) ∧
    (∃ (s : State) (r : Fin 16) (i : RckInstr), s.Issues r i ∧ i.op = 0x3B) ∧
    (∃ (s : State) (r : Fin 16) (i : RckInstr) (c : Nat), s.Issues r i ∧ i.op = 0x3C ∧ (s.resync r).postChannel r ((s.resync r).greg r
      i.ra).toNat = some c) ∧
    (∃ (s : State) (r : Fin 16) (i : RckInstr) (ecc : Bool) (c : Nat) (q : State), s.Issues r i ∧ i.op = 0x3D ∧ ((s.resync r).greg r i.rb).toNat
      % 4 = 0 ∧ ((s.resync r).greg r i.rb).toNat + 255 ≤ 0x3FFF ∧ (s.resync r).postChannel r ((s.resync r).greg r i.ra).toNat = some c ∧ q =
      (s.resync r).makeRoom c ∧ q.chanOpen c = true ∧ ecc = false) ∧
    (∃ (s : State) (r : Fin 16) (i : RckInstr), s.Issues r i ∧ i.op = 0x3E) ∧
    (∃ (s : State) (p : Fin 8) (k : Nat) (g : PlanGroup), s.nextGroup p = some (16, k, g) ∧ s.mode ≠ .safe ∧ s.mode ≠ .diagnostic ∧ s.on
      (PLN_STATUS_RUN p) = true ∧ (s.timingOf p g.frame).lineStart g.frame g.line ≤ s.now) ∧
    (∃ (s : State) (p : Fin 8) (r k : Nat) (g : PlanGroup) (u v : State), s.nextGroup p = some (r, k, g) ∧ r < 16 ∧ (s.mode ≠ .safe ∧ s.mode ≠
      .diagnostic) ∧ s.on (PLN_STATUS_RUN p) = true ∧ (s.timingOf p g.frame).lineStart g.frame g.line ≤ s.now ∧ (u = s.setRckH r
      { s.rckH r with ops := listSet (s.rckH r).ops k (((s.rckH r).ops.getD k []).filter fun x => x.plan != p) }) ∧ v = ((u.landChanges p g.line
      g.changes).1.discarded r (entryCount (u.landChanges p g.line g.changes).2)).settleOps r ((s.timingOf p g.frame).lineStart g.frame g.line)
      ∧ (((v.rckH r).ops.any fun o => o.any fun x => x.plan == p.val) = false)) :=
  ⟨⟨(runs (.rout 48 1 2 3 false 0)).setGreg 0 3 1, 0, .rout 48 1 2 3 false 0, none, by unfold State.Issues; decide +kernel, by decide +kernel⟩,
    ⟨runs (.rout 49 0 2 3 false 0), 0, .rout 49 0 2 3 false 0, by unfold State.Issues; decide +kernel, by decide +kernel⟩,
    ⟨runs (.rout 51 0 2 3 false 0), 0, .rout 51 0 2 3 false 0, by unfold State.Issues; decide +kernel, by decide +kernel⟩,
    ⟨runs (.rout 53 0 2 3 false 0), 0, .rout 53 0 2 3 false 0, by unfold State.Issues; decide +kernel, by decide +kernel⟩,
    ⟨(runs (.rout 50 1 0 0 false 0)).setRckH 0 { staging := [7] }, 0, .rout 50 1 0 0 false 0, by unfold State.Issues; decide +kernel,
      by decide +kernel⟩,
    ⟨runs (.rout 50 1 0 0 false 0), 0, .rout 50 1 0 0 false 0, by unfold State.Issues; decide +kernel, by decide +kernel⟩,
    ⟨runs (.rout 52 0 0 0 true 9), 0, .rout 52 0 0 0 true 9, by unfold State.Issues; decide +kernel, by decide +kernel⟩,
    ⟨runs (.rout 54 1 0 0 true 9), 0, .rout 54 1 0 0 true 9, by unfold State.Issues; decide +kernel, by decide +kernel⟩,
    ⟨runs (.sync 55 1 2 0 0), 0, .sync 55 1 2 0 0, (((runs (.sync 55 1 2 0 0)).advance 0 4).addMark 0 0 (((runs (.sync 55 1 2 0 0)).advance 0
      4).ptPos 0 0).frame (((runs (.sync 55 1 2 0 0)).advance 0 4).ptPos 0 0).line).1, (((runs (.sync 55 1 2 0 0)).advance 0 4).addMark 0 0
      (((runs (.sync 55 1 2 0 0)).advance 0 4).ptPos 0 0).frame (((runs (.sync 55 1 2 0 0)).advance 0 4).ptPos 0 0).line).2,
      by unfold State.Issues; decide +kernel, by decide +kernel⟩,
    ⟨runs (.sync 55 1 2 0 1), 0, .sync 55 1 2 0 1, by unfold State.Issues; decide +kernel, by decide +kernel⟩,
    ⟨(runs (.sync 56 1 2 3 0)).setGreg 0 3 5, 0, .sync 56 1 2 3 0, leaseTry.1, leaseTry.2, by unfold State.Issues; decide +kernel,
      by decide +kernel⟩,
    ⟨((runs (.sync 56 1 2 3 0)).setGreg 0 3 5).setGreg 0 2 100, 0, .sync 56 1 2 3 0, by unfold State.Issues; decide +kernel, by decide +kernel⟩,
    ⟨runs (.sync 57 1 2 0 0), 0, .sync 57 1 2 0 0, ((runs (.sync 57 1 2 0 0)).freeLocal 0 0).1, ((runs (.sync 57 1 2 0 0)).freeLocal 0 0).2,
      by unfold State.Issues; decide +kernel, by decide +kernel⟩,
    ⟨runs (.sync 58 0 2 3 0), 0, .sync 58 0 2 3 0, by unfold State.Issues; decide +kernel, by decide +kernel⟩,
    ⟨{ live with rck := [(0, { wait := .fence 3 0 })] }, 0, 3, 0, by decide +kernel⟩,
    ⟨runs (.sync 59 0 2 3 0), 0, .sync 59 0 2 3 0, by unfold State.Issues; decide +kernel, by decide +kernel⟩,
    ⟨(runs (.sync 60 1 2 0 3)).setGreg 0 2 16, 0, .sync 60 1 2 0 3, 272, by unfold State.Issues; decide +kernel, by decide +kernel⟩,
    ⟨postsMail, 0, .sync 61 1 2 3 0, false, (postsMail.postChannel 0 (postsMail.greg 0 2).toNat).getD 0, _,
      by unfold State.Issues; decide +kernel, by decide +kernel, by decide +kernel, by decide +kernel, by decide +kernel, rfl,
      by decide +kernel⟩,
    ⟨runs (.sync 62 0 2 3 0), 0, .sync 62 0 2 3 0, by unfold State.Issues; decide +kernel, by decide +kernel⟩,
    ⟨groupDue, 0, 0, { plan := 0, frame := 3, line := 7, retired := 0, changes := [] }, by decide +kernel⟩,
    ⟨rackerGroupDue, 0, 2, 0, { plan := 0, frame := 3, line := 7, retired := 0, changes := [] }, groupTaken, groupLanded, by decide +kernel,
      by decide +kernel, by decide +kernel, by decide +kernel, by decide +kernel, rfl, rfl, by decide +kernel⟩⟩

/-- The hypotheses of every clause of VideoInputCommandsComplete can be met. -/
theorem witness_VideoInputCommandsComplete :
    (∃ (s : State) (k : Fin 4608) (format rate : Nat) (levelB : Bool), s.packetMode (k.val / 128) = false ∧ s.slotReceived k = true ∧
      ((s.linkAreas k).all (fun x => decide (2 ≤ (s.inH x).sdi.frames)) = true) ∧ s.linkFormat k = some (format, rate, levelB) ∧ s.on
      (XPT_IN_STAT_PRESENT k) = false) ∧
    (∃ (s : State) (k : Fin 4608), s.packetMode (k.val / 128) = false ∧ s.slotReceived k = true ∧ ((s.linkAreas k).all (fun x => decide (2 ≤
      (s.inH x).sdi.frames)) = true) ∧ s.linkFormat k = none ∧ s.on (XPT_IN_STAT_PRESENT k) = false) ∧
    (∃ (s : State) (k : Fin 4608) (format rate : Nat) (levelB : Bool), s.packetMode (k.val / 128) = false ∧ s.slotReceived k = true ∧
      ((s.linkAreas k).all (fun x => decide (2 ≤ (s.inH x).sdi.frames)) = true) ∧ s.linkFormat k = some (format, rate, levelB) ∧ s.on
      (XPT_IN_STAT_PRESENT k) = true ∧ s.structureDiffers k true format rate levelB = true) ∧
    (∃ (s : State) (k : Fin 4608), s.packetMode (k.val / 128) = false ∧ ((s.linkAreas k).any (fun x => decide ((s.inH x).sdi.at_ + 2 * s.inLine
      k < s.now)) = true)) ∧
    (∃ (s : State) (k : Fin 4608) (u v w t : State), s.on (XPT_IN_STAT_PRESENT k) = true ∧ s.addresses k = true ∧ s.transparent k = false ∧ u =
      s.storeLines k ∧ (v = ((u.setInH k
      { u.inH k with frames := (u.inH k).frames + 1, stored := ((u.inH k).frames, u.now) :: (u.inH k).stored.take 2, undecided := (u.inH k).undecided.filter (fun x => !decide (x + 3 ≤ (u.inH k).frames)) ++ [(u.inH k).frames], rgen := u.rd PRF_STATUS_RGEN, damaged := 0, outside := 0, wasOutside := (u.inH k).outside, cellarFrom := if u.cellarUp then (u.inH k).cellarFrom else (u.inH k).frames + 1 }).bookOut
      0 k .dropped ((u.inH k).undecided.filter fun x => decide (x + 3 ≤ (u.inH k).frames)).length).bookIn 0 k 1) ∧ (w = v.forL [4, 5] fun c x =>
      if x.candState c ≠ 0 ∧ x.rd (REF_CAND_CFG_SRC c) = k.val then x.setCandH c { x.candH c with frameStart := some x.now } else x) ∧ t =
      w.showOffset k (w.caskOffset (w.rd (XPT_IN_CFG_HOME k)) 1 w.now)) ∧
    (∃ (s : State) (k : Fin 4608) (p : Fin 8), s.compatible k p = true ∧ s.effMode k ≠ 0 ∧ bit (s.inH k).windows p = false ∧ bit (s.inH
      k).wasOutside p = false ∧ 2 ≤ (s.inH k).stored.length ∧ (((s.inH k).stored.take 2).all (fun e => s.inWindow p (s.caskOffset p 1 e.2)) =
      true)) ∧
    (∃ (s : State) (k : Fin 4608) (p : Fin 8) (line : Nat) (v : State), bit (s.inH k).windows p = true ∧ s.inWindow p (s.caskOffset p line
      s.now) = false ∧ s.rd (XPT_IN_CFG_HOME k) ≠ p ∧ v = (s.setInH k { s.inH k with windows := (s.inH k).windows - 2 ^ p.val }).raise
      XPT_EVENT_WINDOW_EXIT ∧ (∀ src ∈ v.idsOf k, v.destsOf src = [])) ∧
    (∃ (s : State) (k : Fin 4608) (p : Fin 8) (line : Nat) (kind : Fin 3), kind = 2) ∧
    (∃ (s : State) (k : Fin 4608) (p : Fin 8) (line : Nat) (kind : Fin 3), kind = 0) ∧
    (∃ (s : State) (k : Fin 4608) (p : Fin 8) (line : Nat) (kind : Fin 3) (r : ReadH) (n : Nat) (c : CheckRec) (u w : State), kind = 1 ∧ u =
      s.bump CLR_ECC_UNCORR_DATA ∧ (u.inH k).readOn p = some r ∧ r.sel = some n ∧ ((u.recsOf k).find? (fun e => e.tag == frameTag k n) = some c)
      ∧ (u.inH k).complete = some n ∧ (w = u.setInH k
      { u.inH k with reads := (u.inH k).reads.map fun x => if x.plan = p.val then { x with patch := (line, (rangeFrom 0 4).map fun j => u.lastReadLine k r j line) :: x.patch } else x })) :=
  ⟨⟨serialFrames, 0, 5, 5, false, by decide +kernel⟩,
    ⟨serialUnknown, 0, by decide +kernel⟩,
    ⟨serialFrames.wr (XPT_IN_STAT_PRESENT 0) 1, 0, 5, 5, false, by decide +kernel⟩,
    ⟨{ serialFrames with now := 10 * sec }, 0, by decide +kernel⟩,
    ⟨inputStarts, 0, frameStart1, frameStart2, frameStart3, frameStart4, by decide +kernel, by decide +kernel, by decide +kernel, rfl, rfl, rfl,
      rfl⟩,
    ⟨insideWindow, 0, 1, by decide +kernel⟩,
    ⟨leavesWindow, 1, 1, 600, (leavesWindow.setInH 1 { leavesWindow.inH 1 with windows := (leavesWindow.inH 1).windows - 2 }).raise
      XPT_EVENT_WINDOW_EXIT, by decide +kernel, by decide +kernel, by decide +kernel, rfl, windowLeft_shows⟩,
    ⟨live, 0, 0, 1, 2, by decide +kernel⟩,
    ⟨live, 0, 0, 1, 0, by decide +kernel⟩,
    ⟨cellarReads, 0, 0, 1, 1, cellarRead, 4, cellarRec, cellarReads.bump CLR_ECC_UNCORR_DATA, cellarPatched, by decide +kernel, rfl,
      by decide +kernel, by decide +kernel, by decide +kernel, by decide +kernel, rfl⟩⟩

/-- The hypotheses of every clause of OutputAndAdmissionCommandsComplete can be met. -/
theorem witness_OutputAndAdmissionCommandsComplete :
    (∃ (s : State) (d : Fin 4608), s.carriesFrames d = true ∧ s.on (XPT_MAP_RD_POLICY d) = false ∧ (s.outH d).black = false ∧ s.srcPresent (s.rd
      (XPT_MAP_RD_SRC d)) = true ∧ s.carriage (s.rd (XPT_MAP_RD_SRC d)) (s.outPlan d) ≠ (s.on (XPT_MAP_RD_ALIGNED d), s.on (XPT_MAP_RD_CELLAR
      d)) ∧ s.canSupply d (s.rd (XPT_MAP_RD_SRC d)) = true ∧ s.atFrameStart d = false ∧ (s.outH d).since = s.now ∧ (((s.wrB (XPT_MAP_RD_ALIGNED
      d) (s.carriage (s.rd (XPT_MAP_RD_SRC d)) (s.outPlan d)).1).wrB (XPT_MAP_RD_CELLAR d) (s.carriage (s.rd (XPT_MAP_RD_SRC d)) (s.outPlan
      d)).2).atFrameStart d) = false) ∧
    (∃ (s : State) (d : Fin 4608), s.on (XPT_MAP_RD_POLICY d) = true ∧ s.rd (XPT_OUT_CFG_LOSS d) = 1 ∧ (s.outH d).holdOver = false ∧ s.rd
      (XPT_OUT_CFG_HOLD_FRAMES d) ≠ 0 ∧ s.rd (XPT_OUT_CFG_HOLD_FRAMES d) ≤ (s.outH d).holds) ∧
    (∃ (s : State) (d : Fin 4608), s.on (XPT_MAP_RD_COVERED d) = false ∧ (s.outH d).leaving = true ∧ s.on (PLN_STATUS_RUN (s.outPlanSet d)) =
      true ∧ (s.outH d).leftAt ≤ s.refStart (s.outPlanSet d) (s.refFrame (s.outPlanSet d))) ∧
    (∃ (s : State) (d : Fin 4608), s.on (XPT_MAP_RD_COVERED d) = false ∧ (s.outH d).leaving = false ∧ s.outPlan d ≠ s.outPlanSet d ∧ s.on
      (PLN_STATUS_RUN (s.outPlan d)) = false) ∧
    (∃ (s : State) (cls : Fin 5) (id : Fin 4608) (sub : Fin 9), cls = 0 ∧ sub = 0) ∧
    (∃ (s : State) (cls : Fin 5) (id : Fin 4608) (sub : Fin 9), cls = 3) ∧
    (∃ (s : State) (cls : Fin 5) (id : Fin 4608) (sub : Fin 9), cls = 0 ∧ sub = 0 ∧ s.rd (XPT_IN_CFG_MODE id) ≠ 2) ∧
    (∃ (s : State) (c : Fin 64), s.on CLR_PM_CFG_PD_EN = true ∧ (s.chanH c).state = 0 ∧ 320 ≤ s.channelIdle c ∧ 130 ≤ s.leastTolerance) ∧
    (∃ (s : State) (c : Fin 64), s.on CLR_PM_CFG_SR_EN = true ∧ (s.chanH c).state ≠ 2 ∧ 100 * us ≤ s.channelIdle c ∧ 3000 ≤ s.leastTolerance) :=
  ⟨⟨carriesPattern, 0, by decide +kernel⟩,
    ⟨(((live.wr (XPT_MAP_RD_POLICY 0) 1).wr (XPT_OUT_CFG_LOSS 0) 1).wr (XPT_OUT_CFG_HOLD_FRAMES 0) 3).setOutH 0 { holds := 3 }, 0,
      by decide +kernel⟩,
    ⟨(live.wr (PLN_STATUS_RUN 0) 1).setOutH 0 { leaving := true }, 0, by decide +kernel⟩,
    ⟨planChanged, 0, by decide +kernel⟩,
    ⟨live, 0, 0, 0, by decide +kernel⟩,
    ⟨live, 3, 0, 0, by decide +kernel⟩,
    ⟨live, 0, 0, 0, by decide +kernel⟩,
    ⟨channelIdles, 0, by decide +kernel⟩,
    ⟨channelIdles, 0, by decide +kernel⟩⟩

/-- The hypotheses of every clause of AudioCommandsComplete can be met. -/
theorem witness_AudioCommandsComplete :
    (∃ (s : State) (master : List (Fin 8 × Nat × Nat)), s.aud.tickAt ≠ none ∧ s.aud.next ≤ s.now ∧ s.carries 83 = true) ∧
    (∃ (s : State) (master : List (Fin 8 × Nat × Nat)), s.aud.tickAt ≠ none ∧ s.aud.next ≤ s.now ∧ s.carries 83 = false) ∧
    (∃ (s : State) (a : Fin 49152) (f : FadeH), (s.dstH a).fade = some f ∧ f.ticks ≤ f.done) ∧
    (∃ (s : State) (c : Fin 65536) (b : Nat), (s.srcH c).status = some b ∧ (bit b 0 = false ∨ crccOf b = b / 2 ^ 184 % 256) ∧ c.val < 36864) ∧
    (∃ (s : State) (c : Fin 65536) (b : Nat), (s.srcH c).status = some b ∧ bit b 0 = true ∧ crccOf b ≠ b / 2 ^ 184 % 256) ∧
    (∃ (s : State) (c : Fin 49152) (n d : Nat) (b : Bool), (s.srcH c).dip = some (n, d, b) ∧ 240 ≤ n) ∧
    (∃ (s : State) (n : Fin 64), (s.genH n).restart = true) ∧
    (∃ (s : State) (k : Fin 8), s.i2sSlave k = true ∧ s.on (I2S_STAT_QUALIFIED k) = true ∧ (∀ t, (s.i2sH k).wsAt = some t → t + 4 * s.loPeriod k
      ≤ s.now)) ∧
    (∃ (s : State) (k : Fin 8) (bclk : Nat), s.i2sSlave k = true ∧ (bclk ≠ s.slotClocks k ∨ s.wsInTime k = false) ∧ (((s.i2sH k).glitches.filter
      (fun t => decide (s.now < t + sec))).length < 2) ∧ s.on (I2S_STAT_QUALIFIED k) = false) ∧
    (∃ (s : State) (k : Fin 8) (ppm : Int), s.i2sSlave k = true ∧ (500 < ppm ∨ ppm < -500) ∧ s.on (I2S_STAT_QUALIFIED k) = true) ∧
    (∃ (s : State) (k : Fin 8) (t : Nat), s.i2sSlave k = true ∧ s.on (I2S_STAT_QUALIFIED k) = false ∧ (s.i2sH k).clean = some t ∧ t + 100 * ms ≤
      s.now) :=
  ⟨⟨{ (live.wr ⟨SYN_STATUS, 0, 5⟩ 0) with aud := { tickAt := some 0 } }, [], by decide +kernel⟩,
    ⟨{ live with aud := { tickAt := some 0 }, regs := [] }, [], by decide +kernel⟩,
    ⟨live.setDstH 0 { fade := some { outgoing := 0, ticks := 5, done := 5 } }, 0, { outgoing := 0, ticks := 5, done := 5 }, by decide +kernel⟩,
    ⟨live.setSrcH 0 { status := some 2 }, 0, 2, by decide +kernel⟩,
    ⟨live.setSrcH 0 { status := some (1 + 2 ^ 184) }, 0, 1 + 2 ^ 184, by decide +kernel⟩,
    ⟨live.setSrcH 0 { dip := some (240, 1, true) }, 0, 240, 1, true, by decide +kernel⟩,
    ⟨live.setGenH 0 { ticks := 7, restart := true }, 0, by decide +kernel⟩,
    ⟨i2sSlaveRuns, 0, by decide +kernel⟩,
    ⟨(i2sSlaveRuns.wr (I2S_STAT_QUALIFIED 0) 0), 0, 31, by decide +kernel⟩,
    ⟨i2sSlaveRuns, 0, 600, by decide +kernel⟩,
    ⟨{ (i2sSlaveRuns.wr (I2S_STAT_QUALIFIED 0) 0).setI2sH 0 { clean := some 0 } with now := sec }, 0, 0, by decide +kernel⟩⟩

/-- The hypotheses of every clause of PacketFrameCommandsComplete can be met. -/
theorem witness_PacketFrameCommandsComplete :
    (∃ (s : State) (n : Fin 36) (arg : Fin 256), s.packetMode n = true ∧ s.carries (engineDomain n) = true ∧ s.rd (TRL_STATUS_RX_STATE n) = 6) ∧
    (∃ (s : State) (n : Fin 36) (cut : Option Nat), s.packetMode n = true ∧ s.on (TRL_STATUS_TX_ACTIVE n) = true ∧ s.carries (engineDomain n) =
      true) ∧
    (∃ (s : State) (n : Fin 36), s.packetMode n = true ∧ s.on (TRL_STATUS_TX_ACTIVE n) = true ∧ s.carries (engineDomain n) = true) ∧
    (∃ (s : State) (m : Fin 22), s.Admits m true PKT_CLS_CMD) ∧
    (∃ (s : State) (m : Fin 22), s.Admits m true PKT_CLS_CMD) :=
  ⟨⟨packetTrellis.wr (TRL_STATUS_RX_STATE 0) 6, 0, 192, by decide +kernel⟩,
    ⟨packetTrellis, 0, none, by decide +kernel⟩,
    ⟨packetTrellis, 0, by decide +kernel⟩,
    ⟨live, 2, by unfold State.Admits; decide +kernel⟩,
    ⟨live, 2, by unfold State.Admits; decide +kernel⟩⟩

/-- The hypotheses of every clause of PacketContextCommandsComplete can be met. -/
theorem witness_PacketContextCommandsComplete :
    (∃ (s : State) (m : Fin 22) (x : Fin 4096) (v : Word), s.Admits m true (PKT_RXC_CFG x)) ∧
    (∃ (s : State) (m : Fin 22) (y : Fin 4096) (v : Word), s.Admits m true (PKT_TXC_CFG y)) ∧
    (∃ (s : State) (x : Fin 4096) (p : PktH) (rest : List PktH), nextDue (s.rxH x).held = some (p, rest) ∧ p.deadline ≤ (s.now : Int) ∧ s.rd
      (PKT_RXC_CFG_TYPE x) = 1) ∧
    (∃ (s : State) (x : Fin 4096) (p : PktH) (rest : List PktH), nextDue (s.rxH x).held = some (p, rest) ∧ p.deadline ≤ (s.now : Int) ∧ s.rd
      (PKT_RXC_CFG_TYPE x) = 0) ∧
    (∃ (s : State) (x : Fin 4096) (p : PktH) (rest : List PktH), nextDue (s.rxH x).held = some (p, rest) ∧ p.deadline ≤ (s.now : Int) ∧ 2 ≤ s.rd
      (PKT_RXC_CFG_TYPE x)) ∧
    (∃ (s : State) (x : Fin 4096) (leg : Fin 2), leg = 0 ∧ s.on (PKT_RXC_STAT_LEG0 x) = true ∧ (s.rxH x).legAt.1 + s.rd (PKT_RXC_TIME_LOSS_TO x)
      * 100 * us ≤ s.now ∧ s.on (PKT_RXC_STAT_LEG1 x) = false) ∧
    (∃ (s : State) (x : Fin 4096) (ts line : Nat), s.on (PKT_RXC_STAT_ACTIVE x) = true ∧ s.on (PKT_RXC_STAT_PRESENT x) = true ∧ s.rd
      (PKT_RXC_CFG_TYPE x) = 0 ∧ s.rd (PKT_RXC_CFG_FORMAT x) ≠ 7 ∧ 0 < prfRasterW (s.rd (PKT_RXC_CFG_FORMAT x)) ∧ (s.rxH x).frames = [] ∧ line ≠
      0 ∧ line ≤ totalLines (s.rd (PKT_RXC_CFG_FORMAT x)) ∧ (s.rxNominal x ts).1 + (s.playoutUnits x : Nat) + (((line - 1) * (framePeriod (s.rd
      (PKT_RXC_CFG_RATE x)) / totalLines (s.rd (PKT_RXC_CFG_FORMAT x))) : Nat) : Int) ≤ (s.now : Int) ∧ (∃ y ∈ rangeFrom 0 (prfRasterH (s.rd
      (PKT_RXC_CFG_FORMAT x))), pictureLine (s.rd (PKT_RXC_CFG_FORMAT x)) y = line)) ∧
    (∃ (s : State) (y : Fin 4096) (k : Nat), (s.txH y).waiting = some k ∧ k < s.txBoundary y ∧ s.rd (PKT_TXC_CFG_TYPE y) ≠ 1) ∧
    (∃ (s : State) (y : Fin 4096) (k : Nat) (v : State), s.on (PKT_TXC_STAT_ACTIVE y) = true ∧ v = s.wrB (PKT_TXC_STAT_TS_PTP y) (s.rateLocked
      (s.rd (PKT_TXC_CFG_PTP_SEL y))) ∧ v.rd (PKT_TXC_CFG_TYPE y) = 1 ∧ v.txSamples y ≤ (s.txH y).buf.length) ∧
    (∃ (s : State) (y : Fin 4096) (k : Nat) (v : State), s.on (PKT_TXC_STAT_ACTIVE y) = true ∧ v = s.wrB (PKT_TXC_STAT_TS_PTP y) (s.rateLocked
      (s.rd (PKT_TXC_CFG_PTP_SEL y))) ∧ v.rd (PKT_TXC_CFG_TYPE y) = 0 ∧ v.txCarries (s.rd (PKT_TXC_BIND_BASE y)) = true ∧ v.on
      (PKT_TXC_CFG_PACER y) = true ∧ k < v.txPackets y) :=
  ⟨⟨live, 2, 0, 0, by unfold State.Admits; decide +kernel⟩,
    ⟨live, 2, 0, 0, by unfold State.Admits; decide +kernel⟩,
    ⟨audioHeld, 0, { seq := 1, ts := 1, marker := false, deadline := 0, payload := [] }, [], by decide +kernel⟩,
    ⟨videoHeld, 0, { seq := 1, ts := 1, marker := false, deadline := 0, payload := [] }, [], by decide +kernel⟩,
    ⟨ancHeld, 0, { seq := 1, ts := 1, marker := false, deadline := 0, payload := [] }, [], by decide +kernel⟩,
    ⟨{ (live.wr (PKT_RXC_STAT_LEG0 0) 1) with now := 100 * sec }, 0, 0, by decide +kernel⟩,
    ⟨{ ((((live.wr (PKT_RXC_STAT_ACTIVE 0) 1).wr (PKT_RXC_STAT_PRESENT 0) 1).wr (PKT_RXC_CFG_FORMAT 0) 5).setRxH 0 { anchor := some (0, 0) }) with now := 1000 * sec },
      0, 0, 42, by decide +kernel⟩,
    ⟨{ (live.setTxH 0 { waiting := some 0 }) with plan := [(0, { anchorF := 5 })] }, 0, 0, by decide +kernel⟩,
    ⟨audioBuffered, 0, 0, audioBuffered.wrB (PKT_TXC_STAT_TS_PTP 0) (audioBuffered.rateLocked (audioBuffered.rd (PKT_TXC_CFG_PTP_SEL 0))),
      by decide +kernel, rfl, by decide +kernel⟩,
    ⟨videoSends, 0, 0, videoSends.wrB (PKT_TXC_STAT_TS_PTP 0) (videoSends.rateLocked (videoSends.rd (PKT_TXC_CFG_PTP_SEL 0))),
      by decide +kernel, rfl, by decide +kernel⟩⟩

/-- The hypotheses of every clause of PtpCommandsComplete can be met. -/
theorem witness_PtpCommandsComplete :
    (∃ (s : State) (n : Fin 36) (domain : Fin 256) (port : Nat × Nat) (dataset : List Nat) (mac ip : Nat) (utc : Fin 65536) (log : Fin 12),
      s.ptpTakes n domain = true) ∧
    (∃ (s : State) (n : Fin 36) (domain : Fin 256) (port : Nat × Nat) (seq : Fin 65536) (twoStep : Bool) (origin corr : Int) (lane : Fin 8),
      s.fromMaster n domain port = true) ∧
    (∃ (s : State) (n : Fin 36) (domain : Fin 256) (port : Nat × Nat) (seq : Fin 65536) (origin corr : Int) (t2 c : Int), (s.ptpH n).sync = some
      (seq.val, t2, c) ∧ s.fromMaster n domain port = true) ∧
    (∃ (s : State) (n : Fin 36) (f : Foreign), ((s.ptpH n).foreign.find? (fun f => (s.ptpH n).chosen == some f.port) = some f) ∧ (s.rd
      (PTP_STATUS_PORT n) = 2 ∨ s.rd (PTP_STATUS_PORT n) = 3) ∧ (s.ptpH n).dreq = none) ∧
    (∃ (s : State) (n : Fin 36) (domain : Fin 256) (port : Nat × Nat) (seq : Fin 65536) (t4 corr : Int) (t : Nat) (t1 t2 t3 : Int), (s.ptpH
      n).dreq = some (seq.val, t, some t3) ∧ (s.ptpH n).pair = some (t1, t2) ∧ s.fromMaster n domain port = true ∧ s.rd (PTP_STATUS_PORT n) = 3) ∧
    (∃ (s : State) (n : Fin 36) (p : Nat × Nat) (f : Foreign), (s.ptpH n).chosen = some p ∧ ((s.ptpH n).foreign.find? (fun f => (s.ptpH
      n).chosen == some f.port) = some f) ∧ (s.ptpH n).annAt + s.rd (PTP_CFG_ANN_TO n) * f.interval ≤ s.now) ∧
    (∃ (s : State) (n : Fin 36), s.rd (PTP_STATUS_PORT n) = 3 ∧ (s.ptpH n).evalAt + sec ≤ s.now ∧ (s.ptpH n).offs = []) ∧
    (∃ (s : State) (n : Fin 36), s.rd (PTP_STATUS_PORT n) = 3 ∧ (s.ptpH n).evalAt + sec ≤ s.now ∧ (s.ptpH n).offs ≠ []) ∧
    (∃ (s : State) (m : Fin 22) (n : Fin 36), s.Admits m true (PTP_CTRL n) ∧ s.rd (PTP_STATUS_SERVO n) = 3) ∧
    (∃ (s : State) (m : Fin 22) (n : Fin 36), s.Admits m true (PTP_CTRL n)) ∧
    (∃ (s : State) (m : Fin 22), s.Admits m false (PTP_DT 0)) ∧
    (∃ (s : State) (m : Fin 22) (p : Fin 8), s.Admits m false (PLN_POS_F p)) :=
  ⟨⟨ptpRuns, 0, 0, (1, 1), [], 0, 0, 37, 7, by decide +kernel⟩,
    ⟨ptpFollows, 0, 0, (1, 1), 3, true, 0, 0, 0, by decide +kernel⟩,
    ⟨ptpFollows.setPtpH 0 { ptpFollows.ptpH 0 with sync := some (3, 0, 0) }, 0, 0, (1, 1), 3, 0, 0, 0, 0, by decide +kernel⟩,
    ⟨ptpFollows.wr (PTP_STATUS_PORT 0) 3, 0, { port := (1, 1), dataset := [], mac := 0, ip := 0, times := [], interval := 0 },
      by decide +kernel⟩,
    ⟨(ptpFollows.wr (PTP_STATUS_PORT 0) 3).setPtpH 0 { ptpFollows.ptpH 0 with dreq := some (3, 0, some 5), pair := some (1, 2) }, 0, 0, (1, 1),
      3, 0, 0, 0, 1, 2, 5, by decide +kernel⟩,
    ⟨ptpFollows, 0, (1, 1), { port := (1, 1), dataset := [], mac := 0, ip := 0, times := [], interval := 0 }, by decide +kernel⟩,
    ⟨{ (live.wr (PTP_STATUS_PORT 0) 3) with now := sec }, 0, by decide +kernel⟩,
    ⟨{ ((live.wr (PTP_STATUS_PORT 0) 3).setPtpH 0 { offs := [5] }) with now := sec }, 0, by decide +kernel⟩,
    ⟨live.wr (PTP_STATUS_SERVO 0) 3, 2, 0, by unfold State.Admits; decide +kernel, by decide +kernel⟩,
    ⟨live, 2, 0, by unfold State.Admits; decide +kernel⟩,
    ⟨live, 2, by unfold State.Admits; decide +kernel⟩,
    ⟨live, 2, 0, by unfold State.Admits; decide +kernel⟩⟩

/-- The hypotheses of every clause of HeadCommandsComplete can be met. -/
theorem witness_HeadCommandsComplete :
    (∃ (s : State) (h : Fin 32) (t : Nat), (s.mvhH h).starting = some t ∧ s.carries (51 + h) = true ∧ s.on (PLN_STATUS_RUN (s.headPlan h)) =
      true ∧ t ≤ (s.planH (s.headPlan h)).frameStart (s.frameOf (s.headPlan h))) ∧
    (∃ (s : State) (h : Fin 32) (k : Nat), (s.mvhH h).stopping = some k ∧ (s.on (MVH_STATUS_STATE h) = false ∨ k < s.frameOf (s.headPlan h))) ∧
    (∃ (s : State) (h : Fin 32) (t : Nat), s.latchPoint h = some t ∧ s.headRuns h = true ∧ t + 16 * us ≤ s.now ∧ (s.mvhH h).decided ≠ some
      (s.frameOf (s.headPlan h)) ∧ (s.mvhH h).pending = none ∧ (s.mvhH h).again = none) ∧
    (∃ (s : State) (h : Fin 32), s.headRuns h = true ∧ s.on (PLN_STATUS_RUN (s.headPlan h)) = true ∧ (s.mvhH h).at_ < s.frameOf (s.headPlan h) ∧
      (s.mvhH h).flip = none) ∧
    (∃ (s : State) (h : Fin 32) (j : Fin 8) (l : LayerH), s.headRuns h = true ∧ bit (s.mvhH h).under j = false ∧ (s.mvhH h).shownLayers[j.val]?
      = some l ∧ l.on = true) ∧
    (∃ (s : State) (m : Fin 22) (h : Fin 32) (v : Word), s.Admits m true (MVH_LUT_DATA h)) ∧
    (∃ (s : State) (m : Fin 22) (h : Fin 32), s.Admits m false (MVH_LUT_DATA h)) ∧
    (∃ (s : State) (h : Fin 32), s.on (MVH_RP_STAT_ACTIVE h) = true ∧ (s.mvhH h).push.frame = s.frameOf (s.headPlan h) ∧ (s.mvhH h).push.rows <
      (s.raster h).2 / 8) ∧
    (∃ (s : State) (h : Fin 32) (r : RectH) (rest : List RectH), (s.mvhH h).push.todo = r :: rest ∧ s.on (MVH_RP_STAT_ACTIVE h) = true ∧ (s.mvhH
      h).push.nextAt ≤ s.now) ∧
    (∃ (s : State) (h : Fin 32), s.on (MVH_RP_STAT_ACTIVE h) = true ∧ (s.mvhH h).push.frame < s.frameOf (s.headPlan h)) :=
  ⟨⟨(headMayStart.wr (PLN_STATUS_RUN 0) 1).setMvhH 0 { starting := some 0 }, 0, 0, by decide +kernel⟩,
    ⟨live.setMvhH 0 { stopping := some 3 }, 0, 3, by decide +kernel⟩,
    ⟨headLatches, 0, (headLatches.latchPoint 0).getD 0, by decide +kernel⟩,
    ⟨headRuns0, 0, by decide +kernel⟩,
    ⟨headShows, 0, 0, shownLayer, by decide +kernel⟩,
    ⟨live, 2, 0, 5, by unfold State.Admits; decide +kernel⟩,
    ⟨live, 2, 0, by unfold State.Admits; decide +kernel⟩,
    ⟨live.wr (MVH_RP_STAT_ACTIVE 0) 1, 0, by decide +kernel⟩,
    ⟨(live.wr (MVH_RP_STAT_ACTIVE 0) 1).setMvhH 0 { push := { todo := [{ tile := 0, row := 0, tiles := 1 }] } }, 0,
      { tile := 0, row := 0, tiles := 1 }, [], by decide +kernel⟩,
    ⟨{ (live.wr (MVH_RP_STAT_ACTIVE 0) 1) with plan := [(0, { anchorF := 5 })] }, 0, by decide +kernel⟩⟩

/-- The hypotheses of every clause of ProofAndLedgerCommandsComplete can be met. -/
theorem witness_ProofAndLedgerCommandsComplete :
    (∃ (s : State) (d : Fin 4608) (f src code reason : Nat) (checks : List Nat) (v w : State), (s.outH d).running = true ∧ (s.outH d).judged =
      false ∧ (s.outH d).masked = false ∧ s.on (XPT_MAP_RD_VALID d) = true ∧ s.on (XPT_MAP_RD_COVERED d) = false ∧ src = s.rd (XPT_MAP_RD_SRC d)
      ∧ f = (s.planH (s.outPlan d)).format ∧ checks = s.outChecks d f ∧ v = s.addRec (8192 + d)
      { tag := (s.outH d).tag, crc := checks, rgen := (s.outH d).rgen, valid := s.rectMask (s.outH d).rgen f, damaged := 0, landLine := (s.outH d).landLine }
      ∧ v.compareFrame d src f checks = (code, reason) ∧ w = ((((((v.setOutH d
      { v.outH d with judged := true, verdict := some ((s.outH d).since, code, (s.outH d).tag) }).proveTakes d (s.outH d).since code (s.outH
      d).tag).wr (PRF_DST_LAST d) code).wr (PRF_DST_REASON d) reason).wr (PRF_DST_TAG d) (s.outH d).tag).bump (PRF_CNT_COUNT 0)).bump
      (PRF_CNT_COUNT code)) ∧
    (∃ (s : State) (u : State), s.ldg.rects ≠ [] ∧ s.ldg.rectAt < s.frame0 ∧ u =
      { s with ldg := { s.ldg with rects := [], rgens := (((s.planH 0).frameStart s.frame0, s.ldg.rects) :: s.ldg.rgens).take 4 } }) ∧
    (∃ (s : State) (m : Fin 22) (v : Word), s.Admits m true PRF_REC_SEL) ∧
    (∃ (s : State), s.on (PLN_STATUS_RUN 0) = true ∧ s.ldg.closedAt < s.frame0) ∧
    (∃ (s : State), s.ldg.checked = false) ∧
    (∃ (s : State) (m : Fin 22), s.Admits m true LDG_CTRL) ∧
    (∃ (s : State), (s.ldg.epochs.any (fun f => decide (f ≤ s.frame0)) = true) ∧ s.frame0 ≤ s.ldg.closedAt) ∧
    (∃ (s : State), (s.ldg.epochs.any (fun f => decide (f ≤ s.frame0)) = true) ∧ s.ldg.closedAt < s.frame0) ∧
    (∃ (s : State) (m : Fin 22), s.Admits m true LDG_CTRL) ∧
    (∃ (s : State) (m : Fin 22), s.Admits m true LDG_CTRL) ∧
    (∃ (s : State) (m : Fin 22) (v : Word), s.Admits m true LDG_SEL) ∧
    (∃ (s : State) (m : Fin 22), s.Admits m false LDG_MARK_VAL) :=
  ⟨⟨outputRuns, 0, (outputRuns.planH 0).format, 0, 3, (outputRuns.notComparable 0 0), outputRuns.outChecks 0 (outputRuns.planH 0).format,
      verdictRec, verdictSet, by refine ⟨?_, ?_, ?_, ?_, ?_, ?_, ?_, ?_, rfl, ?_, rfl⟩ <;> decide +kernel⟩,
    ⟨rectsChanged,
      { rectsChanged with ldg := { rectsChanged.ldg with rects := [], rgens := (((rectsChanged.planH 0).frameStart rectsChanged.frame0, rectsChanged.ldg.rects) :: rectsChanged.ldg.rgens).take 4 } },
      by decide +kernel, by decide +kernel, rfl⟩,
    ⟨live, 2, 3, by unfold State.Admits; decide +kernel⟩,
    ⟨{ (live.wr (PLN_STATUS_RUN 0) 1) with plan := [(0, { anchorF := 5 })] }, by decide +kernel⟩,
    ⟨{ live with ldg := { checked := false } }, by decide +kernel⟩,
    ⟨live, 2, by unfold State.Admits; decide +kernel⟩,
    ⟨{ live with ldg := { epochs := [0] } }, by decide +kernel⟩,
    ⟨{ live with ldg := { epochs := [0] }, plan := [(0, { anchorF := 5 })] }, by decide +kernel⟩,
    ⟨live, 2, by unfold State.Admits; decide +kernel⟩,
    ⟨live, 2, by unfold State.Admits; decide +kernel⟩,
    ⟨live, 2, 3, by unfold State.Admits; decide +kernel⟩,
    ⟨live, 2, by unfold State.Admits; decide +kernel⟩⟩

/-- The hypotheses of every clause of MirrorLinkCommandsComplete can be met. -/
theorem witness_MirrorLinkCommandsComplete :
    (∃ (s : State) (claimIn : Bool), (s.sampleClaim claimIn).top.inReset = false ∧ (s.sampleClaim claimIn).twinEn = true ∧ (s.sampleClaim
      claimIn).on (PLN_STATUS_RUN 0) = true ∧ (s.sampleClaim claimIn).on (TRL_STATUS_TX_ACTIVE 36) = true) ∧
    (∃ (s : State) (len crc : Nat) (groups : List Nat), s.top.inReset = false ∧ s.twinEn = true ∧ s.rd (TRL_STATUS_RX_STATE 36) = 6 ∧
      mirrorCrcOk len crc groups = true) ∧
    (∃ (s : State), (s.rd (TRL_STATUS_RX_STATE 36) ≠ 6 ∨ s.stateMissing = true)) ∧
    (∃ (s : State), s.rd (TRL_STATUS_RX_STATE 36) = 6 ∧ s.stateMissing = false ∧ s.twinEn = true) ∧
    (∃ (s : State) (m : Fin 22) (addr len data : Nat), addr < 0x4000000 ∧ s.needsJournal m (accessWords addr len data) = true) ∧
    (∃ (s : State) (len crc : Nat) (groups : List Nat), s.top.inReset = false ∧ s.twinEn = true ∧ s.rd (TRL_STATUS_RX_STATE 36) = 6 ∧
      mirrorCrcOk len crc groups = true) ∧
    (∃ (s : State), s.top.inReset = false ∧ (s.twn.wants = false ∨ s.top.claim = true)) ∧
    (∃ (s : State) (len : Nat) (r : Fin 16) (result : Word) (groups : List PlanGroup), (s.freeUnits len).top.inReset = false ∧ (s.freeUnits
      len).top.claim = false ∧ (s.freeUnits len).paired = true ∧ (s.freeUnits len).twn.wants = false) ∧
    (∃ (s : State) (len : Nat) (r : Fin 16) (kind : Fin 10) (frame line : Nat) (words : List Nat), (s.freeUnits len).top.inReset = false ∧
      (s.freeUnits len).top.claim = false ∧ (s.freeUnits len).paired = true ∧ (s.freeUnits len).twn.wants = false) ∧
    (∃ (s : State) (len crc : Nat) (groups : List Nat), s.top.inReset = false ∧ s.twinEn = true ∧ s.rd (TRL_STATUS_RX_STATE 36) = 6 ∧
      mirrorCrcOk len crc groups = true) ∧
    (∃ (s : State), s.renews = true ∧ s.on TWN_STATUS_FENCED = false) :=
  ⟨⟨((twinLinked.wr (PLN_STATUS_RUN 0) 1).wr (TRL_STATUS_TX_ACTIVE 36) 1), true, by decide +kernel⟩,
    ⟨twinLinked, 0, crc16 [0], [], by decide +kernel⟩,
    ⟨live, by decide +kernel⟩,
    ⟨{ twinLinked with twn := { twinLinked.twn with stateAt := some 0 } }, by decide +kernel⟩,
    ⟨twinActive, 0, PRF_CFG, 4, 1, by decide +kernel⟩,
    ⟨twinLinked, 0, crc16 [0], [], by decide +kernel⟩,
    ⟨live, by decide +kernel⟩,
    ⟨twinStandby, 0, 0, 0, [], by decide +kernel⟩,
    ⟨twinStandby, 0, 0, 0, 0, 1, [], by decide +kernel⟩,
    ⟨twinLinked, 0, crc16 [0], [], by decide +kernel⟩,
    ⟨(twinLinked.wr TOP_MODE_MODE 3), by decide +kernel⟩⟩

/-- The hypotheses of every clause of TakeoverAndCatchupCommandsComplete can be met. -/
theorem witness_TakeoverAndCatchupCommandsComplete :
    (∃ (s : State), s.holdsToken = true ∧ s.leaseDue 255 = true ∧ s.renews = false) ∧
    (∃ (s : State) (u v : State), s.holdsToken = false ∧ s.fenceDue = true ∧ (u = s.when (s.on (RCK_LEASE_H_HELD 255)) fun x => x.endLease 255
      .dropped) ∧ v = ((u.wr TWN_STATUS_FENCING 1).emit (.fenceOut true)).raise TWN_EVENT_FENCE_OUT) ∧
    (∃ (s : State) (t : Nat), s.twn.fencing = some t ∧ t + max 1 (s.rd TWN_CFG_FENCE_WAIT) * us ≤ s.now ∧ s.mode = .standby ∧ s.on
      TWN_STATUS_FENCED = false) ∧
    (∃ (s : State), (s.sampleClaim false).top.inReset = false ∧ (s.sampleClaim false).twinEn = true ∧ (s.sampleClaim false).twinHolds = true) ∧
    (∃ (s : State), s.on TWN_STATUS_FENCED = false ∧ s.top.inReset = false ∧ (s.mode = .active ∨ s.mode = .takeover)) ∧
    (∃ (s : State), s.mode = .takeover ∧ (wrap32 (s.pos 0).frame ≠ s.rd TOP_MODE_TSF_FRAME ∨ (s.pos 0).line ≠ s.rd TOP_MODE_TSL_LINE)) ∧
    (∃ (s : State) (m : Fin 22), s.Admits m true TWN_CTRL ∧ s.on TWN_STATUS_FENCING = true) ∧
    (∃ (s : State) (m : Fin 22), s.Admits m true TWN_CTRL ∧ s.on TWN_STATUS_FENCING = false) ∧
    (∃ (s : State) (m : Fin 22), s.Admits m true TWN_CTRL ∧ s.mode = .active) ∧
    (∃ (s : State) (m : Option (Fin 22)), m = none ∧ s.top.inReset = false) ∧
    (∃ (s : State) (f : Nat), s.twn.captureAt = some f ∧ f ≤ s.frame0 ∧ s.top.claim = true ∧ s.dueEntry = none) ∧
    (∃ (s : State) (len : Nat) (memory : Option (Fin 16)) (part : Image) (last : Bool), memory = none ∧ (s.freeUnits len).top.inReset = false ∧
      (s.freeUnits len).top.claim = false ∧ (s.freeUnits len).paired = true ∧ (s.freeUnits len).twn.wants = true) ∧
    (∃ (s : State) (f w : Nat) (img : Image), s.twn.stamp = some f ∧ s.twn.whole = some w ∧ s.twn.image = some img ∧ s.top.claim = false ∧
      s.twn.wants = true ∧ w < f ∧ f ≤ s.frame0) ∧
    (∃ (s : State), s.on TWN_STATUS_FENCED = true ∧ s.top.inReset = false) :=
  ⟨⟨(twinLinked.wr TWN_STATUS_TOKEN 1), by decide +kernel⟩,
    ⟨tokenLapsed, tokenLapsed.when (tokenLapsed.on (RCK_LEASE_H_HELD 255)) (fun x => x.endLease 255 .dropped), tokenFenced, by decide +kernel,
      by decide +kernel, rfl, rfl⟩,
    ⟨{ twinStandby with twn := { twinStandby.twn with fencing := some 0 }, now := 100 * sec }, 0, by decide +kernel⟩,
    ⟨twinHoldsToken, by decide +kernel⟩,
    ⟨(twinLinked.wr TOP_MODE_MODE 3), by decide +kernel⟩,
    ⟨(twinLinked.wr TOP_MODE_MODE 5), by decide +kernel⟩,
    ⟨live.wr TWN_STATUS_FENCING 1, 2, by unfold State.Admits; decide +kernel, by decide +kernel⟩,
    ⟨live, 2, by unfold State.Admits; decide +kernel, by decide +kernel⟩,
    ⟨live.wr TOP_MODE_MODE 3, 2, by unfold State.Admits; decide +kernel, by decide +kernel⟩,
    ⟨live, none, by decide +kernel⟩,
    ⟨{ twinActive with twn := { twinActive.twn with captureAt := some 0 } }, 0, by decide +kernel⟩,
    ⟨{ twinStandby with twn := { twinStandby.twn with wants := true } }, 0, none, {}, true, by decide +kernel⟩,
    ⟨{ twinStandby with twn := { twinStandby.twn with wants := true, stamp := some 4, whole := some 3, image := some {} }, plan := [(0, { anchorF := 5 })] },
      4, 3, {}, by decide +kernel⟩,
    ⟨live.wr TWN_STATUS_FENCED 1, by decide +kernel⟩⟩

/-- The hypotheses of every clause of MirrorMailCommandsComplete can be met. -/
theorem witness_MirrorMailCommandsComplete :
    (∃ (s : State) (len crc : Nat) (groups : List Nat), s.top.inReset = false ∧ s.twinEn = true ∧ s.rd (TRL_STATUS_RX_STATE 36) = 6 ∧
      mirrorCrcOk len crc groups = true ∧ bit (groups.headD 0) 8 = false ∧ bit (groups.headD 0) 9 = false ∧ groups.headD 0 % 32 ≤ 15 ∧ (s.mailH
      (groups.headD 0 % 32)).held = [] ∧ (s.mailH (groups.headD 0 % 32)).got = none ∧ s.chanOpen (336 + groups.headD 0 % 32) = true) ∧
    (∃ (s : State) (len crc : Nat) (groups : List Nat), s.top.inReset = false ∧ s.twinEn = true ∧ s.rd (TRL_STATUS_RX_STATE 36) = 6 ∧
      mirrorCrcOk len crc groups = true ∧ bit (groups.headD 0) 9 = true ∧ groups.headD 0 % 32 ≤ 15 ∧ (s.mailH (groups.headD 0 % 32)).sent ≠ 0 ∧
      (s.mailH (groups.headD 0 % 32)).mseq = groups.getD 1 0) ∧
    (∃ (s : State) (len crc : Nat) (groups : List Nat), s.top.inReset = false ∧ s.twinEn = true ∧ s.rd (TRL_STATUS_RX_STATE 36) = 6 ∧
      mirrorCrcOk len crc groups = true ∧ bit (groups.headD 0) 8 = true ∧ groups.headD 0 % 32 ≤ 15) ∧
    (∃ (s : State) (r : Fin 16), s.on TWN_STATUS_LINK = true ∧ (s.mailH r).sent < s.rd (MBX_CH_COUNT (320 + r.val))) :=
  ⟨⟨twinLinked, 0, crc16 [0], [], by decide +kernel⟩,
    ⟨twinLinked.setMailH 0 { sent := 1 }, 0, crc16 [0, 512, 0], [512, 0], by decide +kernel⟩,
    ⟨twinLinked, 0, crc16 [0, 256, 0, 3], [256, 0, 3], by decide +kernel⟩,
    ⟨(twinLinked.wr TWN_STATUS_LINK 1).wr (MBX_CH_COUNT 320) 1, 0, by decide +kernel⟩⟩

/-- The hypotheses of every clause of FabricMembershipCommandsComplete can be met. -/
theorem witness_FabricMembershipCommandsComplete :
    (∃ (s : State) (n : Fin 36) (src : Fin 64) (count : Nat), s.trunkUp n = true ∧ s.fab.excluded.contains src.val = false) ∧
    (∃ (s : State) (n : Fin 36) (addr far twin : Fin 64) (mode : Fin 16) (inc : Nat), s.on FAB_CFG_EN = true ∧ s.trunk n = true ∧ addr.val =
      s.fabAddr) ∧
    (∃ (s : State) (n : Fin 36) (addr far twin : Fin 64) (mode : Fin 16) (inc : Nat), s.trunkUp n = true ∧ addr.val ≠ s.fabAddr ∧ ((s.bump
      (FAB_CNT_COUNT 0)).returnCredit n).fab.excluded = [] ∧ ((s.bump (FAB_CNT_COUNT 0)).returnCredit n).fab.neigh = []) ∧
    (∃ (s : State) (n : Fin 36) (src : Fin 64) (entries : List (Fin 64 × Fin 4 × Fin 16)) (near : List (Fin 64 × Fin 64)), s.trunkUp n = true ∧
      ((s.bump (FAB_CNT_COUNT 0)).returnCredit n).fab.excluded.contains src.val = false ∧ entries = []) ∧
    (∃ (s : State) (a : Fin 32), s.on (FAB_ROUTE_VALID a) = true ∧ (pairGet s.fab.fresh a.val).getD 0 + 3 ≤ s.frame0 ∧ 1 + s.rd FAB_CFG_HB_LINES
      ≤ (s.pos 0).line) ∧
    (∃ (s : State) (n : Fin 36) (dest src : Fin 64) (hops : Fin 4) (term : Fin 65536) (frame digest : Nat) (excluded : List (Fin 32)) (phase :
      Int), s.trunkUp n = true ∧ ((s.bump (FAB_CNT_COUNT 0)).returnCredit n).fab.excluded.contains src.val = false ∧ (dest.val = linkLocal ∨
      dest.val = ((s.bump (FAB_CNT_COUNT 0)).returnCredit n).fabAddr) ∧ ((s.bump (FAB_CNT_COUNT 0)).returnCredit n).isMember = true ∧ src.val =
      ((s.bump (FAB_CNT_COUNT 0)).returnCredit n).fabBoundary.rd FAB_STATUS_CONDUCTOR) ∧
    (∃ (s : State), s.isMember = true ∧ s.rd FAB_STATUS_CONDUCTOR ≠ linkLocal ∧ s.rd FAB_STATUS_CONDUCTOR ≠ s.fabAddr ∧ s.fab.beat + 3 ≤
      s.frame0 ∧ 1 + s.rd FAB_CFG_HB_LINES ≤ (s.pos 0).line) ∧
    (∃ (s : State) (a : Fin 32) (f : Nat), pairGet s.fab.lost a.val = some f ∧ s.rd FAB_STATUS_CONDUCTOR = s.fabAddr ∧ f + 3 ≤ s.frame0) :=
  ⟨⟨fabricTrunk, 0, 5, 3, by decide +kernel⟩,
    ⟨fabricTrunk, 0, 3, 0, 0, 0, 0, by decide +kernel⟩,
    ⟨fabricTrunk, 0, 5, 0, 0, 0, 0, by decide +kernel⟩,
    ⟨fabricTrunk, 0, 5, [], [], by decide +kernel⟩,
    ⟨{ (fabricTrunk.wr (FAB_ROUTE_VALID 5) 1).wr FAB_CFG_HB_LINES 0 with plan := [(0, { anchorF := 5 })] }, 5, by decide +kernel⟩,
    ⟨fabricMember.wr FAB_STATUS_CONDUCTOR 5, 0, 63, 5, 0, 1, 0, 0, [], 0, by decide +kernel⟩,
    ⟨{ (fabricMember.wr FAB_STATUS_CONDUCTOR 7).wr FAB_CFG_HB_LINES 0 with plan := [(0, { anchorF := 5 })] }, by decide +kernel⟩,
    ⟨{ (fabricMember.wr FAB_STATUS_CONDUCTOR 3) with fab := { lost := [(9, 0)] }, plan := [(0, { anchorF := 5 })] }, 9, 0, by decide +kernel⟩⟩

/-- The hypotheses of every clause of FabricLeaseAndMediaCommandsComplete can be met. -/
theorem witness_FabricLeaseAndMediaCommandsComplete :
    (∃ (s : State) (n : Fin 36) (dest src : Fin 64) (hops : Fin 4) (k : Fin 256) (dur prio index : Nat) (free : Bool) (srcDev slots : Fin 64) (q
      : State × Nat × Nat), s.trunkUp n = true ∧ ((s.bump (FAB_CNT_COUNT 0)).returnCredit n).fab.excluded.contains src.val = false ∧ (dest.val =
      linkLocal ∨ dest.val = ((s.bump (FAB_CNT_COUNT 0)).returnCredit n).fabAddr) ∧ ((s.bump (FAB_CNT_COUNT 0)).returnCredit n).rd
      FAB_STATUS_CONDUCTOR = ((s.bump (FAB_CNT_COUNT 0)).returnCredit n).fabAddr ∧ q = ((s.bump (FAB_CNT_COUNT 0)).returnCredit n).decideRequest
      { addr := src, index := index, prio := prio, id := k, dur := dur, free := free, srcDev := srcDev, slots := slots }) ∧
    (∃ (s : State) (n : Fin 36) (dest src : Fin 64) (hops : Fin 4) (k : Fin 256) (status : Fin 4) (e : Nat), s.trunkUp n = true ∧ ((s.bump
      (FAB_CNT_COUNT 0)).returnCredit n).fab.excluded.contains src.val = false ∧ (dest.val = linkLocal ∨ dest.val = ((s.bump (FAB_CNT_COUNT
      0)).returnCredit n).fabAddr)) ∧
    (∃ (s : State) (n : Fin 36) (dest src : Fin 64) (hops : Fin 4) (k : Fin 224) (addr : Fin 64) (index : Fin 32) (e : Nat) (runs : List HopH),
      s.trunkUp n = true ∧ ((s.bump (FAB_CNT_COUNT 0)).returnCredit n).fab.excluded.contains src.val = false ∧ (dest.val = linkLocal ∨ dest.val
      = ((s.bump (FAB_CNT_COUNT 0)).returnCredit n).fabAddr) ∧ 96 ≤ k.val) ∧
    (∃ (s : State) (n : Fin 36) (dest src : Fin 64) (hops : Fin 4) (copy : Option (List (Fin 224 × Fin 64 × Fin 32 × Nat))), s.trunkUp n = true
      ∧ ((s.bump (FAB_CNT_COUNT 0)).returnCredit n).fab.excluded.contains src.val = false ∧ (dest.val = linkLocal ∨ dest.val = ((s.bump
      (FAB_CNT_COUNT 0)).returnCredit n).fabAddr) ∧ copy = none ∧ ((s.bump (FAB_CNT_COUNT 0)).returnCredit n).rd FAB_STATUS_CONDUCTOR = ((s.bump
      (FAB_CNT_COUNT 0)).returnCredit n).fabAddr) ∧
    (∃ (s : State) (n : Fin 36) (dest src : Fin 64) (hops : Fin 4) (failed : Fin 64), s.trunkUp n = true ∧ ((s.bump (FAB_CNT_COUNT
      0)).returnCredit n).fab.excluded.contains src.val = false ∧ (dest.val = linkLocal ∨ dest.val = ((s.bump (FAB_CNT_COUNT 0)).returnCredit
      n).fabAddr) ∧ ((s.bump (FAB_CNT_COUNT 0)).returnCredit n).rd FAB_STATUS_CONDUCTOR = ((s.bump (FAB_CNT_COUNT 0)).returnCredit n).fabAddr) ∧
    (∃ (s : State) (n : Fin 36) (dest src : Fin 64) (hops : Fin 4) (k : Fin 96) (run : RunH), s.trunkUp n = true ∧ ((s.bump (FAB_CNT_COUNT
      0)).returnCredit n).fab.excluded.contains src.val = false ∧ (dest.val = linkLocal ∨ dest.val = ((s.bump (FAB_CNT_COUNT 0)).returnCredit
      n).fabAddr)) ∧
    (∃ (s : State) (n : Fin 36) (dest src : Fin 64) (hops : Fin 4) (k : Fin 96) (ch : Fin 128) (idv : Fin 8192), s.trunkUp n = true ∧ ((s.bump
      (FAB_CNT_COUNT 0)).returnCredit n).fab.excluded.contains src.val = false ∧ (dest.val = linkLocal ∨ dest.val = ((s.bump (FAB_CNT_COUNT
      0)).returnCredit n).fabAddr)) ∧
    (∃ (s : State) (n : Fin 36) (dest src : Fin 64) (hops : Fin 4) (ch : Fin 128) (width : Option (Fin 4)), s.trunkUp n = true ∧ ((s.bump
      (FAB_CNT_COUNT 0)).returnCredit n).fab.excluded.contains src.val = false ∧ (dest.val = linkLocal ∨ dest.val = ((s.bump (FAB_CNT_COUNT
      0)).returnCredit n).fabAddr)) ∧
    (∃ (s : State) (n : Fin 36) (dest src : Fin 64) (hops : Fin 4) (ch : Fin 128) (tag rgen digest : Nat) (checks : List Nat) (valid damaged :
      Fin 16) (k : Nat), s.trunkUp n = true ∧ ((s.bump (FAB_CNT_COUNT 0)).returnCredit n).fab.excluded.contains src.val = false ∧ (dest.val =
      linkLocal ∨ dest.val = ((s.bump (FAB_CNT_COUNT 0)).returnCredit n).fabAddr) ∧ ((s.bump (FAB_CNT_COUNT 0)).returnCredit n).rmapOf src ch 2
      = [k]) ∧
    (∃ (s : State) (n : Fin 36) (dest src : Fin 64) (hops : Fin 4) (k : Fin 768) (ticks : List (List Nat)), s.trunkUp n = true ∧ ((s.bump
      (FAB_CNT_COUNT 0)).returnCredit n).fab.excluded.contains src.val = false ∧ (dest.val = linkLocal ∨ dest.val = ((s.bump (FAB_CNT_COUNT
      0)).returnCredit n).fabAddr) ∧ ((s.bump (FAB_CNT_COUNT 0)).returnCredit n).on (FAB_AMAP_VALID k) = true ∧ ((s.bump (FAB_CNT_COUNT
      0)).returnCredit n).rd (FAB_AMAP_SRC_DEV k) = src.val) ∧
    (∃ (s : State) (n : Fin 36) (dest src : Fin 64) (hops : Fin 4) (q : Fin 16) (code : Fin 65536) (words : List Nat), s.trunkUp n = true ∧
      ((s.bump (FAB_CNT_COUNT 0)).returnCredit n).fab.excluded.contains src.val = false ∧ (dest.val = linkLocal ∨ dest.val = ((s.bump
      (FAB_CNT_COUNT 0)).returnCredit n).fabAddr)) ∧
    (∃ (s : State) (n : Fin 36) (dest src : Fin 64) (hops : Fin 4) (q : Fin 16) (code : Fin 65536), s.trunkUp n = true ∧ ((s.bump (FAB_CNT_COUNT
      0)).returnCredit n).fab.excluded.contains src.val = false ∧ (dest.val = linkLocal ∨ dest.val = ((s.bump (FAB_CNT_COUNT 0)).returnCredit
      n).fabAddr) ∧ (((s.bump (FAB_CNT_COUNT 0)).returnCredit n).mailH (code.val % 16)).away ≠ 0 ∧ (((s.bump (FAB_CNT_COUNT 0)).returnCredit
      n).mailDone (code.val % 16)).journals = false) ∧
    (∃ (s : State) (r : Fin 16), s.speaks = true ∧ (s.mailH r).away < s.rd (MBX_CH_COUNT (352 + r.val)) ∧ s.reaches ((s.chnH (352 +
      r.val)).codes.getD ((s.rd (MBX_CH_RD (352 + r.val)) + (s.mailH r).away) % 8) 0 / 2 ^ 8 % 64) = true) :=
  ⟨⟨(fabricMember.wr FAB_STATUS_CONDUCTOR 3), 0, 63, 5, 0, 100, 1, 0, 0, false, 0, 0, requestDecided, by decide +kernel, by decide +kernel,
      by decide +kernel, by decide +kernel, rfl⟩,
    ⟨fabricMember, 0, 63, 5, 0, 100, 0, 9, by decide +kernel⟩,
    ⟨fabricMember, 0, 63, 5, 0, 100, 5, 0, 9, [], by decide +kernel⟩,
    ⟨(fabricMember.wr FAB_STATUS_CONDUCTOR 3), 0, 63, 5, 0, none, by decide +kernel⟩,
    ⟨(fabricMember.wr FAB_STATUS_CONDUCTOR 3), 0, 63, 5, 0, 9, by decide +kernel⟩,
    ⟨fabricMember, 0, 63, 5, 0, 9, { inn := 0, inSlot := 0, out := 1, outSlot := 0, slots := 1 }, by decide +kernel⟩,
    ⟨fabricMember, 0, 63, 5, 0, 9, 0, 0, by decide +kernel⟩,
    ⟨fabricMember, 0, 63, 5, 0, 9, none, by decide +kernel⟩,
    ⟨recordMapped, 0, 63, 5, 0, 9, 0, 0, 0, [], 0, 0, 3, by decide +kernel, by decide +kernel, by decide +kernel, recordTaken_rmapOf⟩,
    ⟨(fabricMember.wr (FAB_AMAP_VALID 3) 1).wr (FAB_AMAP_SRC_DEV 3) 5, 0, 63, 5, 0, 3, [], by decide +kernel⟩,
    ⟨fabricMember, 0, 63, 5, 0, 3, 0, [], by decide +kernel⟩,
    ⟨fabricMember.setMailH 3 { away := 1 }, 0, 63, 5, 0, 3, 3, by decide +kernel⟩,
    ⟨mailWaits, 0, by decide +kernel⟩⟩

/-- The hypotheses of every clause of ManagementCommandsComplete can be met. -/
theorem witness_ManagementCommandsComplete :
    (∃ (s : State), s.mgtRuns = true) ∧
    (∃ (s : State), s.mgtRuns = true) ∧
    (∃ (s : State) (m : Fin 22), s.Admits m true MGT_CTRL) ∧
    (∃ (s : State) (store : List Nat) (dropped : Bool) (other : List (Nat × List (Nat × Nat))), s.top.inReset = false ∧ bit s.top.reached 1 =
      true ∧ (s.rd MGT_STATUS_STATE = 0 ∨ s.rd MGT_STATUS_STATE = 3)) ∧
    (∃ (s : State) (k : Fin 64) (reading : Option Int), k.val ≠ 39 ∧ reading = none) ∧
    (∃ (s : State) (k : Fin 64) (reading : Option Int) (v : Int), k.val ≠ 39 ∧ reading = some v) ∧
    (∃ (s : State) (k : Fin 64), (s.sensH k).failed = false ∧ s.on (MGT_SENS_VALID k) = true ∧ (s.sensH k).low < 3 ∧ 3 ≤ (s.sensH k).high) ∧
    (∃ (s : State) (k : Fin 64), 3 ≤ (s.sensH k).clear ∧ (s.on (MGT_SENS_ALM_LO k) = true ∨ s.on (MGT_SENS_ALM_HI k) = true)) ∧
    (∃ (s : State) (error : Bool) (r : LogRec) (l : List LogRec), s.log = r :: l ∧ s.mgtRuns = true ∧ s.deviceNs ≤ r.dtNs + 1000000000 ∧ error =
      false) :=
  ⟨⟨live, by decide +kernel⟩,
    ⟨live, by decide +kernel⟩,
    ⟨live, 0, by unfold State.Admits; decide +kernel⟩,
    ⟨live.wr MGT_STATUS_STATE 0, [], false, [], by decide +kernel⟩,
    ⟨live, 3, none, by decide +kernel⟩,
    ⟨live, 3, some 5, 5, by decide +kernel⟩,
    ⟨(live.wr (MGT_SENS_VALID 3) 1).setSensH 3 { high := 3 }, 3, by decide +kernel⟩,
    ⟨(live.wr (MGT_SENS_ALM_HI 3) 1).setSensH 3 { clear := 3 }, 3, by decide +kernel⟩,
    ⟨{ live with log := [{ frame := 0, line := 1, event := 1, block := 0, dtNs := 0, arg := 0 }] }, false,
      { frame := 0, line := 1, event := 1, block := 0, dtNs := 0, arg := 0 }, [], by decide +kernel⟩⟩

/-- The hypotheses of every clause of ManagementReadCommandsComplete can be met. -/
theorem witness_ManagementReadCommandsComplete :
    (∃ (s : State) (c : Nat) (w : List Nat) (mac : Nat), s.command = some (c, w, mac) ∧ s.mgtRuns = true ∧ s.replyOpen c = true ∧ w.getD 0 0 %
      256 = 0x20 ∧ (s.takeCommand c).rd UPD_STATUS_STATE ≠ 2 ∧ (s.takeCommand c).allowed c 0x20 = true ∧ w.getD 3 0 ≠ 0 ∧ w.getD 3 0 ≤ 60 ∧
      w.getD 2 0 + w.getD 3 0 ≤ 64) ∧
    (∃ (s : State) (c : Nat) (w : List Nat) (mac : Nat), s.command = some (c, w, mac) ∧ s.mgtRuns = true ∧ s.replyOpen c = true ∧ w.getD 0 0 %
      256 = 0x21 ∧ (s.takeCommand c).rd UPD_STATUS_STATE ≠ 2 ∧ (s.takeCommand c).allowed c 0x21 = true ∧ w.getD 2 0 ≤ 63) ∧
    (∃ (s : State) (c : Nat) (w : List Nat) (mac : Nat), s.command = some (c, w, mac) ∧ s.mgtRuns = true ∧ s.replyOpen c = true ∧ w.getD 0 0 %
      256 = 0x22 ∧ (s.takeCommand c).rd UPD_STATUS_STATE ≠ 2 ∧ (s.takeCommand c).allowed c 0x22 = true ∧ w.getD 3 0 ≠ 0 ∧ w.getD 3 0 ≤ 7) ∧
    (∃ (s : State) (c : Nat) (w : List Nat) (mac : Nat) (x : List Nat), s.command = some (c, w, mac) ∧ s.mgtRuns = true ∧ s.replyOpen c = true ∧
      w.getD 0 0 % 256 = 0x23 ∧ (s.takeCommand c).rd UPD_STATUS_STATE ≠ 2 ∧ (s.takeCommand c).allowed c 0x23 = true ∧ (storeList (s.takeCommand
      c).nor.store)[w.getD 2 0]? = some x ∧ w.getD 3 0 < x.length) ∧
    (∃ (s : State) (c : Nat) (w : List Nat) (mac : Nat) (bytes : List Nat) (fail : Bool), s.command = some (c, w, mac) ∧ s.mgtRuns = true ∧
      s.replyOpen c = true ∧ w.getD 0 0 % 256 = 0x24 ∧ (s.takeCommand c).rd UPD_STATUS_STATE ≠ 2 ∧ (s.takeCommand c).allowed c 0x24 = true ∧
      fail = false ∧ w.getD 4 0 ≤ 4 * 2 ^ 20 ∧ ((bytes.take (w.getD 4 0)).map (· % 256)).length = w.getD 4 0 ∧ ((storeList ((bytes.take (w.getD
      4 0)).map (· % 256))).map List.length).foldl (· + ·) 0 = w.getD 4 0 ∧ (storeList ((bytes.take (w.getD 4 0)).map (· % 256))).all recordGood
      = true) ∧
    (∃ (s : State) (c : Nat) (w : List Nat) (mac : Nat), s.command = some (c, w, mac) ∧ s.mgtRuns = true ∧ s.replyOpen c = true ∧ w.getD 0 0 %
      256 = 0x25 ∧ (s.takeCommand c).rd UPD_STATUS_STATE ≠ 2 ∧ (s.takeCommand c).allowed c 0x25 = true ∧ w.getD 3 0 ≠ 0 ∧ w.getD 3 0 ≤ 224 ∧
      w.getD 2 0 + w.getD 3 0 ≤ 2048) ∧
    (∃ (s : State) (c : Nat) (w : List Nat) (mac : Nat) (bytes : List Nat) (fail : Bool) (stuck : List (Fin 16384)) (l : List Nat) (b : Nat),
      s.command = some (c, w, mac) ∧ s.mgtRuns = true ∧ s.replyOpen c = true ∧ w.getD 0 0 % 256 = 0x26 ∧ (s.takeCommand c).rd UPD_STATUS_STATE ≠
      2 ∧ (s.takeCommand c).allowed c 0x26 = true ∧ (l = (rangeFrom 0 384).map fun k => bytes.getD k 0 % 256) ∧ w.getD 4 0 = b ∧ b ≤ 3 ∧ fail =
      false ∧ bankGood l = true ∧ ((s.takeCommand c).bootBank b).any (· != 0) = false ∧ ((s.takeCommand c).blow (otpBits (0x200 + 384 * b) l)
      (stuck.map (·.val))).2 = true) ∧
    (∃ (s : State) (c : Nat) (w : List Nat) (mac : Nat) (stuck : List (Fin 16384)) (l : List Nat), s.command = some (c, w, mac) ∧ s.mgtRuns =
      true ∧ s.replyOpen c = true ∧ w.getD 0 0 % 256 = 0x27 ∧ (s.takeCommand c).rd UPD_STATUS_STATE ≠ 2 ∧ (s.takeCommand c).allowed c 0x27 =
      true ∧ l = (argBytes w).take 16 ∧ (l.drop 13).any (· != 0) = false ∧ l.getD 12 0 &&& 0xE1 = 0 ∧ (((rangeFrom 0xE4 12).any fun a =>
      (s.takeCommand c).otpByte a != 0) = false) ∧ ((s.takeCommand c).blow (otpBits 0xE4 (l.take 12) ++ otpBits 0xC1 [l.getD 12 0]) (stuck.map
      (·.val))).2 = true) ∧
    (∃ (s : State) (c : Nat) (w : List Nat) (mac : Nat) (stuck : List (Fin 16384)) (k : Nat), s.command = some (c, w, mac) ∧ s.mgtRuns = true ∧
      s.replyOpen c = true ∧ w.getD 0 0 % 256 = 0x37 ∧ (s.takeCommand c).rd UPD_STATUS_STATE ≠ 2 ∧ (s.takeCommand c).allowed c 0x37 = true ∧
      w.getD 2 0 = k ∧ 1 ≤ k ∧ k ≤ 3 ∧ bit ((s.takeCommand c).otpByte 0xC0) k = false ∧ ((s.takeCommand c).blow (otpBits (48 * k) ((argBytes
      w).drop 4 |>.take 48) ++ [8 * 0xC0 + k]) (stuck.map (·.val))).2 = true) ∧
    (∃ (s : State) (c : Nat) (w : List Nat) (mac : Nat) (stuck : List (Fin 16384)) (k : Nat), s.command = some (c, w, mac) ∧ s.mgtRuns = true ∧
      s.replyOpen c = true ∧ w.getD 0 0 % 256 = 0x35 ∧ (s.takeCommand c).rd UPD_STATUS_STATE ≠ 2 ∧ (s.takeCommand c).allowed c 0x35 = true ∧
      w.getD 2 0 = k ∧ k ≤ 3 ∧ k ≠ (s.takeCommand c).rd UPD_KEYS_RUNNING ∧ (((rangeFrom 0 4).filter fun i => bit ((s.takeCommand c).otpByte
      0xC0) i && !bit ((s.takeCommand c).otpByte 0xC0) (4 + i)) ≠ [k]) ∧ ((s.takeCommand c).blow [8 * 0xC0 + 4 + k] (stuck.map (·.val))).2 =
      true) ∧
    (∃ (s : State) (c : Nat) (w : List Nat) (mac : Nat), s.command = some (c, w, mac) ∧ s.mgtRuns = true ∧ s.replyOpen c = true ∧ w.getD 0 0 %
      256 = 0x3F ∧ (s.takeCommand c).rd UPD_STATUS_STATE ≠ 2 ∧ (s.takeCommand c).allowed c 0x3F = true) :=
  ⟨⟨commandWaits [0x20, 9, 0, 1], commandChannel, commandWords [0x20, 9, 0, 1], 0, by decide +kernel⟩,
    ⟨commandWaits [0x21, 9, 0, 1], commandChannel, commandWords [0x21, 9, 0, 1], 0, by decide +kernel⟩,
    ⟨commandWaits [0x22, 9, 0, 1], commandChannel, commandWords [0x22, 9, 0, 1], 0, by decide +kernel⟩,
    ⟨storeCommand, commandChannel, commandWords [0x23, 9, 0, 0], 0, (storeList storeCommand.nor.store).headD [], by decide +kernel⟩,
    ⟨commandWaits [0x24, 9, 0, 0, 0], commandChannel, commandWords [0x24, 9, 0, 0, 0], 0, [], false, by decide +kernel⟩,
    ⟨commandWaits [0x25, 9, 0, 1], commandChannel, commandWords [0x25, 9, 0, 1], 0, by decide +kernel⟩,
    ⟨commandWaits [0x26, 9], commandChannel, commandWords [0x26, 9], 0, bankImage, false, [], bankImage, 0, by decide +kernel⟩,
    ⟨commandWaits [0x27, 9, 1], commandChannel, commandWords [0x27, 9, 1], 0, [], (argBytes (commandWords [0x27, 9, 1])).take 16,
      by decide +kernel⟩,
    ⟨commandWaits [0x37, 9, 1], commandChannel, commandWords [0x37, 9, 1], 0, [], 1, by decide +kernel⟩,
    ⟨commandWaits [0x35, 9, 1], commandChannel, commandWords [0x35, 9, 1], 0, [], 1, by decide +kernel⟩,
    ⟨commandWaits [0x3F, 9], commandChannel, commandWords [0x3F, 9], 0, by decide +kernel⟩⟩

/-- The hypotheses of every clause of UpdateCommandsComplete can be met. -/
theorem witness_UpdateCommandsComplete :
    (∃ (s : State) (c : Nat) (w : List Nat) (mac : Nat), s.command = some (c, w, mac) ∧ s.mgtRuns = true ∧ s.replyOpen c = true ∧ w.getD 0 0 %
      256 = 0x30 ∧ (s.takeCommand c).rd UPD_STATUS_STATE ≠ 2 ∧ (s.takeCommand c).allowed c 0x30 = true ∧ ((s.takeCommand c).rd UPD_STATUS_STATE
      = 0 ∨ (s.takeCommand c).rd UPD_STATUS_STATE = 4) ∧ w.getD 2 0 ≤ slotSize) ∧
    (∃ (s : State) (c : Nat) (w : List Nat) (mac : Nat) (bytes : List Nat) (fail : Bool), s.command = some (c, w, mac) ∧ s.mgtRuns = true ∧
      s.replyOpen c = true ∧ w.getD 0 0 % 256 = 0x31 ∧ (s.takeCommand c).rd UPD_STATUS_STATE ≠ 2 ∧ (s.takeCommand c).allowed c 0x31 = true ∧
      (s.takeCommand c).rd UPD_STATUS_STATE = 1 ∧ w.getD 4 0 + w.getD 5 0 ≤ (s.takeCommand c).mgt.length ∧ w.getD 5 0 ≤ 2 ^ 20 ∧ fail = false) ∧
    (∃ (s : State) (c mac : Nat) (w : List Nat), s.command = some (c, w, mac) ∧ s.mgtRuns = true ∧ w.getD 0 0 % 256 = 0x32 ∧ s.rd
      UPD_STATUS_STATE = 1 ∧ s.allowed c 0x32 = true) ∧
    (∃ (s : State) (c q mac : Nat), s.mgt.verify = some (c, q, mac) ∧ s.mgtRuns = true ∧ s.replyOpen c = true ∧ s.imageReason (s.rd
      UPD_STATUS_SLOT_NEW) ≠ 0) ∧
    (∃ (s : State) (c : Nat) (w : List Nat) (mac : Nat), s.command = some (c, w, mac) ∧ s.mgtRuns = true ∧ s.replyOpen c = true ∧ w.getD 0 0 %
      256 = 0x33 ∧ (s.takeCommand c).rd UPD_STATUS_STATE ≠ 2 ∧ (s.takeCommand c).allowed c 0x33 = true ∧ (s.takeCommand c).rd UPD_STATUS_STATE =
      3 ∧ s.rd UPD_STATUS_STATE = 3) ∧
    (∃ (s : State) (c : Nat) (w : List Nat) (mac : Nat), s.command = some (c, w, mac) ∧ s.mgtRuns = true ∧ s.replyOpen c = true ∧ w.getD 0 0 %
      256 = 0x34 ∧ (s.takeCommand c).rd UPD_STATUS_STATE ≠ 2 ∧ (s.takeCommand c).allowed c 0x34 = true ∧ ((s.takeCommand c).rd UPD_STATUS_STATE
      = 1 ∨ (s.takeCommand c).rd UPD_STATUS_STATE = 3 ∨ (s.takeCommand c).rd UPD_STATUS_STATE = 4)) ∧
    (∃ (s : State) (c : Nat) (w : List Nat) (mac : Nat), s.command = some (c, w, mac) ∧ s.mgtRuns = true ∧ s.replyOpen c = true ∧ w.getD 0 0 %
      256 = 0x36 ∧ (s.takeCommand c).rd UPD_STATUS_STATE ≠ 2 ∧ (s.takeCommand c).allowed c 0x36 = true ∧ (s.takeCommand c).rd UPD_STATUS_STATE =
      5 ∧ (s.takeCommand c).healthOk = true) ∧
    (∃ (s : State) (m : Fin 22) (key : Fin 65536), s.Admits m true UPD_CONFIRM ∧ m.val = 0 ∧ key.val = 0xC0DE ∧ s.rd UPD_STATUS_STATE = 5) ∧
    (∃ (s : State) (t : Nat), s.mgt.healthy = some t ∧ s.rd UPD_STATUS_STATE = 5 ∧ s.on UPD_CFG_AUTO_CONFIRM = true ∧ t + s.rd UPD_CFG_SETTLE_S
      * sec ≤ s.now) ∧
    (∃ (s : State), s.rd UPD_STATUS_STATE = 5 ∧ s.mgt.window + s.rd UPD_CFG_WINDOW_S * sec ≤ s.now) :=
  ⟨⟨commandWaits [0x30, 9, 100], commandChannel, commandWords [0x30, 9, 100], 0, by decide +kernel⟩,
    ⟨(commandWaits [0x31, 9]).wr UPD_STATUS_STATE 1, commandChannel, commandWords [0x31, 9], 0, [], false, by decide +kernel⟩,
    ⟨(commandWaits [0x32, 9]).wr UPD_STATUS_STATE 1, commandChannel, 0, commandWords [0x32, 9], by decide +kernel⟩,
    ⟨{ live with mgt := { verify := some (394, 9, 0) } }, 394, 9, 0, by decide +kernel⟩,
    ⟨(commandWaits [0x33, 9]).wr UPD_STATUS_STATE 3, commandChannel, commandWords [0x33, 9], 0, by decide +kernel⟩,
    ⟨(commandWaits [0x34, 9]).wr UPD_STATUS_STATE 1, commandChannel, commandWords [0x34, 9], 0, by decide +kernel⟩,
    ⟨{ (commandWaits [0x36, 9]).wr UPD_STATUS_STATE 5 with mgt := { migrated := true } }, commandChannel, commandWords [0x36, 9], 0,
      by decide +kernel⟩,
    ⟨live.wr UPD_STATUS_STATE 5, 0, 0xC0DE, by unfold State.Admits; decide +kernel, by decide +kernel⟩,
    ⟨{ (live.wr UPD_STATUS_STATE 5).wr UPD_CFG_AUTO_CONFIRM 1 with mgt := { healthy := some 0 }, now := 100000 * sec }, 0, by decide +kernel⟩,
    ⟨{ live.wr UPD_STATUS_STATE 5 with now := 100000 * sec }, by decide +kernel⟩⟩

/-- The hypotheses of every clause of MailboxDoorbellAndLockCommandsComplete can be met. -/
theorem witness_MailboxDoorbellAndLockCommandsComplete :
    (∃ (s : State) (m : Fin 22) (c : Fin 394), s.Admits m true (MBX_POST c)) ∧
    (∃ (s : State) (m : Fin 22) (c : Fin 394), s.Admits m true (MBX_FREE c)) ∧
    (∃ (s : State) (m : Fin 22) (k : Fin 21) (v : Word), s.Admits m true (MBX_DB_SET k)) ∧
    (∃ (s : State) (m : Fin 22) (k : Fin 21) (v : Word), s.Admits m true (MBX_DB k)) ∧
    (∃ (s : State) (m : Fin 22) (k : Fin 21) (v : Word), s.Admits m true (MBX_DB_MASK k)) ∧
    (∃ (s : State) (m : Fin 22) (n : Fin 64), s.Admits m false (MTX_LOCK n)) ∧
    (∃ (s : State) (m : Fin 22) (n : Fin 64), s.Admits m true (MTX_LOCK_REL n)) ∧
    (∃ (s : State) (m : Fin 22) (n : Fin 37) (l : Fin 8) (errs : Bool), s.Admits m false (if errs then TRL_LANE_ERR_LO n l else TRL_LANE_BITS_LO
      n l)) ∧
    (∃ (s : State) (m : Fin 22) (a : Nat), s.Admits m false a ∧ a % 4 = 0 ∧ a < 0x4000000) ∧
    (∃ (s : State) (m : Fin 22) (a v : Nat), s.Admits m true a ∧ a % 4 = 0 ∧ a < 0x4000000 ∧ v < 2 ^ 32 ∧ inMemory a = false) :=
  ⟨⟨live, 2, 386, by unfold State.Admits; decide +kernel⟩,
    ⟨live, 2, 390, by unfold State.Admits; decide +kernel⟩,
    ⟨live, 0, 0, 1, by unfold State.Admits; decide +kernel⟩,
    ⟨live, 0, 0, 1, by unfold State.Admits; decide +kernel⟩,
    ⟨live, 0, 0, 1, by unfold State.Admits; decide +kernel⟩,
    ⟨live, 2, 0, by unfold State.Admits; decide +kernel⟩,
    ⟨live, 2, 0, by unfold State.Admits; decide +kernel⟩,
    ⟨live, 2, 0, 0, true, by unfold State.Admits; decide +kernel⟩,
    ⟨live, 2, XPT_IN_STAT 0, by unfold State.Admits; decide +kernel, by decide +kernel⟩,
    ⟨live, 2, XPT_IN_CFG 0, 1, by unfold State.Admits; decide +kernel, by decide +kernel⟩⟩

/-- The hypotheses of every clause of ControlBusPcieAndTimingPinCommandsComplete can be met. -/
theorem witness_ControlBusPcieAndTimingPinCommandsComplete :
    (∃ (s : State) (bytes : List Nat), s.on CBS_CFG_EN = true ∧ (bytes.map (· % 256)).length < 64) ∧
    (∃ (s : State) (bytes : List Nat), s.on CBS_CFG_EN = true ∧ (bytes.map (· % 256)).length = 274 ∧ crcBytes (crc32 ((bytes.map (· % 256)).take
      270)) = (bytes.map (· % 256)).drop 270 ∧ beAt (bytes.map (· % 256)) 0 6 = s.cbsMac ∧ s.cbs.rx.length < 8) ∧
    (∃ (s : State) (f : CbsFrame) (l : List CbsFrame), s.cbs.tx = f :: l ∧ s.on CBS_CFG_EN = true ∧ s.cbs.backoff = none) ∧
    (∃ (s : State) (late : Bool), s.cbs.tx ≠ [] ∧ s.on CBS_CFG_EN = true ∧ s.cbs.backoff = none ∧ late = true) ∧
    (∃ (s : State) (t : Nat), s.cbs.backoff = some t ∧ t ≤ s.now) ∧
    (∃ (s : State) (speed : Fin 6) (width : Fin 9), s.domReady 94 = true ∧ s.pci.ready = false ∧ speed.val ≠ 0 ∧ (width.val = 1 ∨ width.val = 2
      ∨ width.val = 4 ∨ width.val = 8)) ∧
    (∃ (s : State), s.on PCI_STATUS_LINK_UP = true) ∧
    (∃ (s : State) (f : Fin 2), s.hasFunction f = true) ∧
    (∃ (s : State) (f : Fin 2), s.hasFunction f = true) ∧
    (∃ (s : State) (f : Fin 2), s.pci.d3.getD f false = true) ∧
    (∃ (s : State), s.top.inReset = false ∧ s.on TOP_STATUS_USE = true ∧ (s.ppsTime + 10) % 1000000000 ≤ 20 ∧ s.pin.ppsOut = none) ∧
    (∃ (s : State), (1000 < s.ppsDiff ∨ s.ppsDiff < -1000) ∧ s.pin.ppsBad = false) ∧
    (∃ (s : State), s.ppsFirst = true) ∧
    (∃ (s : State), s.ppsFirst = false ∧ (-1000 ≤ s.ppsDiff ∧ s.ppsDiff ≤ 1000 ∨ s.pin.ppsBad = true)) ∧
    (∃ (s : State) (k : Fin 8) (left right : Nat) (v : State), s.i2sSlave k = true ∧ s.wsInTime k = true ∧ v = s.setI2sH k
      { s.i2sH k with wsAt := some s.now } ∧ v.on (I2S_STAT_QUALIFIED k) = true ∧ v.on (I2S_CFG_DIR k) = false) ∧
    (∃ (s : State) (k : Fin 8) (left right : Nat) (v : State), s.i2sSlave k = true ∧ s.wsInTime k = true ∧ v = s.setI2sH k
      { s.i2sH k with wsAt := some s.now } ∧ v.on (I2S_STAT_QUALIFIED k) = false ∧ (v.i2sH k).clean = none) :=
  ⟨⟨live.wr CBS_CFG_EN 1, [], by decide +kernel⟩,
    ⟨live.wr CBS_CFG_EN 1, List.replicate 270 0 ++ crcBytes (crc32 (List.replicate 270 0)), by decide +kernel⟩,
    ⟨{ live.wr CBS_CFG_EN 1 with cbs := { tx := [{ dest := 0, src := 0, etype := 0, bytes := [] }] } },
      { dest := 0, src := 0, etype := 0, bytes := [] }, [], by decide +kernel⟩,
    ⟨{ live.wr CBS_CFG_EN 1 with cbs := { tx := [{ dest := 0, src := 0, etype := 0, bytes := [] }] } }, true, by decide +kernel⟩,
    ⟨{ live with cbs := { backoff := some 0 } }, 0, by decide +kernel⟩,
    ⟨{ live with pci := { ready := false } }, 4, 8, by decide +kernel⟩,
    ⟨live, by decide +kernel⟩,
    ⟨live, 0, by decide +kernel⟩,
    ⟨live, 0, by decide +kernel⟩,
    ⟨{ live with pci := { d3 := [true, false] } }, 0, by decide +kernel⟩,
    ⟨live.wr TOP_STATUS_USE 1, by decide +kernel⟩,
    ⟨{ live with now := 7 * 10000 }, by decide +kernel⟩,
    ⟨{ live with now := 4 * sec }, by decide +kernel⟩,
    ⟨{ live with pin := { ppsBad := true } }, by decide +kernel⟩,
    ⟨i2sSlaveRuns, 0, 0, 0, i2sSlaveRuns.setI2sH 0 { i2sSlaveRuns.i2sH 0 with wsAt := some i2sSlaveRuns.now }, by decide +kernel,
      by decide +kernel, rfl, by decide +kernel⟩,
    ⟨i2sStarts, 0, 0, 0, i2sStarts.setI2sH 0 { i2sStarts.i2sH 0 with wsAt := some i2sStarts.now }, by decide +kernel, by decide +kernel, rfl,
      by decide +kernel⟩⟩

/-- The hypotheses of every clause of DebugPortCommandsComplete can be met. -/
theorem witness_DebugPortCommandsComplete :
    (∃ (s : State), s.dbgLock = false ∧ s.top.inReset = false) ∧
    (∃ (s : State) (k : Fin 8589934592), s.dbgLock = false ∧ s.jtag.busy = none) ∧
    (∃ (s : State) (k : Fin 8589934592) (v : Word), s.dbgLock = false ∧ s.jtag.busy = none) ∧
    (∃ (s : State), s.dbgLock = false ∧ s.jtag.busy = none ∧ s.jtag.ignored = false) ∧
    (∃ (s : State) (a d : Nat), s.jtag.busy = some (true, a, d) ∧ s.top.inReset = true) ∧
    (∃ (s : State) (wr : Bool) (a d : Nat) (u : State), s.jtag.busy = some (wr, a, d) ∧ s.busOpen 21 = true ∧ s.stalls
      { master := 21, write := wr, addr := a, len := 4, data := d } = false ∧
      ({ s with jtag := { s.jtag with busy := none, addr := a, data := 0, status := 2 } } : State).carryOut
      { master := 21, write := wr, addr := a, len := 4, data := d } = (u, false)) :=
  ⟨⟨live, by decide +kernel⟩,
    ⟨live, 7, by decide +kernel⟩,
    ⟨live, 7, 1, by decide +kernel⟩,
    ⟨live, by decide +kernel⟩,
    ⟨{ State.reset with jtag := { busy := some (true, 4, 5) } }, 4, 5, by decide +kernel⟩,
    ⟨{ live with jtag := { busy := some (true, MTX_LOCK_REL 0, 0) } }, true, MTX_LOCK_REL 0, 0,
      (({ live with jtag := { busy := none, addr := MTX_LOCK_REL 0, data := 0, status := 2 } } : State).carryOut
      { master := 21, write := true, addr := MTX_LOCK_REL 0, len := 4, data := 0 }).1, by decide +kernel⟩⟩

end Sys2Proof.Tests
end

section
/-! SUPPORT. What a device reset leaves in the registers (R31 to R33), and the obligation on always-on rails. -/

namespace Sys2Proof.Machine

theorem lt_of_mem_rangeFrom {n b i : Nat} (h : i ∈ rangeFrom b n) : i < b + n := by
  induction n generalizing b with
  | zero => cases h
  | succ n ih =>
    rcases List.mem_cons.1 h with rfl | h
    · omega
    · have := ih h
      omega

/-- `State.forN_keeps` where only the numbers that the pass visits need keep the observation. -/
theorem State.forN_keeps_below {β : Type} (g : State → β) {n : Nat} {f : Nat → State → State} (hf : ∀ i < n, ∀ u, g (f i u) = g u)
    (u : State) : g (u.forN n f) = g u := by
  have hmem : ∀ i ∈ rangeFrom 0 n, ∀ u, g (f i u) = g u := fun i hi => hf i (by simpa using lt_of_mem_rangeFrom hi)
  unfold State.forN
  generalize rangeFrom 0 n = l at hmem
  induction l generalizing u with
  | nil => rfl
  | cons i l ih => exact (ih (f i u) fun j hj => hmem j (List.mem_cons_of_mem i hj)).trans (hmem i List.mem_cons_self u)

variable (s : State)

/-! ## The pins -/

@[simp] theorem State.pin_stopTx (n : Nat) (clock : Bool) : (s.stopTx n clock).pin = s.pin := by
  cases clock <;> (simp only [State.stopTx]; split <;> rfl)

@[simp] theorem State.pin_unfence : s.unfence.pin = s.pin := by
  simp only [State.unfence]; split <;> rfl

/-- What device reset does at the transmitters and the twin's pins leaves the levels of the package's inputs. -/
@[simp] theorem State.pin_dropLines : s.dropLines.pin = s.pin := by
  simp only [State.dropLines, State.pin_unfence, State.pin_setClaim]
  exact State.forN_keeps (·.pin) (fun n u => u.pin_stopTx n true) 37 s

/-! ## The words -/

theorem State.word_setSynState_ne {i a : Nat} (st : Nat) (h : a ≠ SYN_PLL_STAT i) : (s.setSynState i st).word a = s.word a := by
  rw [State.setSynState, State.setSynStateAt, State.word_wr_ne _ _ h, State.word_setSynH]

/-- The words that a device reset and its release leave with other than their reset value: those of the straps (R33, R560), of the band
searches (R236), of the twin's pins and of the cause. -/
def ResetWrites (a : Nat) : Prop :=
  a = TOP_STRAP ∨ a = FAB_STATUS ∨ a = TWN_STATUS ∨ a = PWR_RST_CAUSE ∨ ∃ i < 53, a = SYN_PLL_STAT i

theorem not_resetWrites_mode : ¬ ResetWrites TOP_MODE := by
  simp only [ResetWrites, TOP_MODE, TOP_STRAP, FAB_STATUS, TWN_STATUS, PWR_RST_CAUSE, SYN_PLL_STAT]; omega

/-- The blocks of the rackers hold none of these words. -/
theorem not_resetWrites_rackers {a : Nat} (hlo : 0x2000000 ≤ a) (hhi : a < 0x3100000) : ¬ ResetWrites a := by
  simp only [ResetWrites, TOP_STRAP, FAB_STATUS, TWN_STATUS, PWR_RST_CAUSE, SYN_PLL_STAT]; omega

/-- The release of device reset samples the straps and starts the band searches, and writes no other word. -/
theorem State.word_release {a : Nat} (h1 : a ≠ TOP_STRAP) (h2 : a ≠ FAB_STATUS) (h3 : ∀ i < 53, a ≠ SYN_PLL_STAT i) :
    s.release.word a = s.word a := by
  simp only [State.release, State.word_setClaim]
  rw [State.forN_keeps_below (·.word a) fun i hi u => u.word_setSynState_ne 1 (h3 i hi), State.word_setPlanH,
    State.word_wr_ne _ _ h2, State.word_wr_ne _ _ h1, State.word_wr_ne _ _ h1]
  rfl

/-- The device as it is held in device reset, `u` being the state whose lines have been dropped. -/
def State.heldInReset (cause : Nat) (u : State) : State :=
  ((({ State.reset with
    pending := u.pending, now := u.now, lastRead := u.lastRead, free := u.free, out := u.out, otp := u.otp, nor := u.nor,
    pin := { u.pin with ppsOut := none, ppsIn := none, ppsBad := false }, jtag := u.jtag,
    twn := { claimLow := u.twn.claimLow }, plan := [(0, { anchorT := u.now })] } : State).wrB TWN_STATUS_FENCED (u.on TWN_STATUS_FENCED)).wrB
      TWN_STATUS_CLAIM_IN (u.on TWN_STATUS_CLAIM_IN)).wr PWR_RST_CAUSE_CAUSE (if u.pin.vin < 8000 then 0 else cause)

/-- A device reset holds the device in reset while VIN is not valid or has caused it, and otherwise releases it at once (R25). -/
theorem State.deviceReset_eq (cause : Nat) : s.deviceReset cause =
    if cause = 1 ∨ cause = 2 ∨ !vinValid s.pin.vin then s.dropLines.heldInReset cause else (s.dropLines.heldInReset cause).release := by
  rw [← s.pin_dropLines]
  rfl

/-- In device reset every word but those of the twin's pins and the cause is the reset word. -/
theorem State.word_heldInReset (cause : Nat) {a : Nat} (h1 : a ≠ TWN_STATUS) (h2 : a ≠ PWR_RST_CAUSE) :
    (s.heldInReset cause).word a = resetWord a := by
  rw [State.heldInReset, State.word_wr_ne _ _ h2, State.word_mk_wrB_ne _ _ h1, State.word_mk_wrB_ne _ _ h1]
  rfl

/-- PWR_RST_CAUSE keeps the cause while VIN is above the 8 V of a power-on. -/
theorem State.rd_cause_heldInReset {cause : Nat} (hc : cause < 8) (hv : 8000 ≤ s.pin.vin) :
    (s.heldInReset cause).rd PWR_RST_CAUSE_CAUSE = cause := by
  rw [State.heldInReset, State.rd_wr_same _ _ _ (by decide), if_neg (by omega)]
  exact Nat.mod_eq_of_lt hc

/-- After a device reset a word outside those of the reset and its release reads as its register's reset value. -/
theorem State.word_deviceReset (cause : Nat) {a : Nat} (h : ¬ ResetWrites a) : (s.deviceReset cause).word a = resetWord a := by
  simp only [ResetWrites, not_or, not_exists, not_and] at h
  obtain ⟨hstrap, hfab, htwn, hcause, hsyn⟩ := h
  have hheld := s.dropLines.word_heldInReset cause htwn hcause
  rw [s.deviceReset_eq]
  split
  · exact hheld
  · rw [State.word_release _ hstrap hfab hsyn, hheld]

/-- So does a field of such a word. -/
theorem State.rd_deviceReset (cause : Nat) {f : Field} (h : ¬ ResetWrites f.addr) :
    (s.deviceReset cause).rd f = fieldGet f (resetWord f.addr) := by
  rw [State.rd, s.word_deviceReset cause h]

theorem State.rd_cause_deviceReset {cause : Nat} (hc : cause < 8) (hv : 8000 ≤ s.pin.vin) :
    (s.deviceReset cause).rd PWR_RST_CAUSE_CAUSE = cause := by
  have hheld := s.dropLines.rd_cause_heldInReset hc (by rwa [s.pin_dropLines])
  rw [s.deviceReset_eq]
  split
  · exact hheld
  · have hsyn : ∀ i < 53, PWR_RST_CAUSE ≠ SYN_PLL_STAT i := fun i _ => by simp only [PWR_RST_CAUSE, SYN_PLL_STAT]; omega
    rw [State.rd, State.word_release _ (by decide) (by decide) hsyn]
    exact hheld

/-- After a device reset the device is in STARTUP (R33). -/
theorem State.mode_deviceReset (cause : Nat) : (s.deviceReset cause).mode = .startup := by
  rw [State.mode, s.rd_deviceReset cause not_resetWrites_mode]
  decide

/-- After a device reset every racker is stopped. -/
theorem State.rckState_deviceReset (cause : Nat) (r : Fin 16) : (s.deviceReset cause).rd (RCK_STATUS_STATE r) = 0 := by
  have hw : ¬ ResetWrites (RCK_STATUS r) := not_resetWrites_rackers (by simp only [RCK_STATUS]; omega) (by simp only [RCK_STATUS]; omega)
  have hz : ∀ r : Fin 16, fieldGet (RCK_STATUS_STATE r) (resetWord (RCK_STATUS r)) = 0 := by decide +kernel
  rw [s.rd_deviceReset cause hw, hz r]

/-- After a device reset no lease is held. -/
theorem State.leaseHeld_deviceReset (cause : Nat) (i : Fin 256) : (s.deviceReset cause).rd (RCK_LEASE_H_HELD i) = 0 := by
  have hw : ¬ ResetWrites (RCK_LEASE_H i) := not_resetWrites_rackers (by simp only [RCK_LEASE_H]; omega) (by simp only [RCK_LEASE_H]; omega)
  have hz : ∀ i : Fin 256, fieldGet (RCK_LEASE_H_HELD i) (resetWord (RCK_LEASE_H i)) = 0 := by decide +kernel
  rw [s.rd_deviceReset cause hw, hz i]

theorem execAlwaysOnRegulatorFault_of_released (h : s.top.inReset = false) :
    execAlwaysOnRegulatorFault s = .next (s.deviceReset 4) := by
  simp only [execAlwaysOnRegulatorFault, h, Bool.false_eq_true, if_false]

/-- Settles O15: the fault is a device reset of cause 4, which leaves every word that it does not write at its reset value. -/
theorem alwaysOnRegulatorFaultResetsTheDevice : Obligations.AlwaysOnRegulatorFaultResetsTheDevice := by
  unfold Obligations.AlwaysOnRegulatorFaultResetsTheDevice
  intro s hreset hvin
  refine ⟨s.deviceReset 4, ?_, s.rd_cause_deviceReset (by decide) hvin, s.mode_deviceReset 4, s.rckState_deviceReset 4,
    s.leaseHeld_deviceReset 4⟩
  rw [exec_alwaysOnRegulatorFault, execAlwaysOnRegulatorFault_of_released s hreset]

end Sys2Proof.Machine
end

section
/-! SUPPORT. Writes of the registers of PWR that go through, and the obligations on the supply and shed thresholds (R28, R66). -/

namespace Sys2Proof.Machine

variable (s : State)

/-- A write of a register of PWR that goes through acts as the block does. -/
theorem State.busWrite_pwr {m a : Nat} (v : Word) (ha : a % 4 = 0) (hlo : 0x0100000 ≤ a) (hhi : a < 0x0200000) (hr : (regAt a).isSome = true)
    (h : s.Admits m true a) : s.busWrite m a 4 v.toNat = s.writeTop m a v.toNat := by
  have hblock : blockOf a = .pwr := by simp only [blockOf]; rw [if_neg (by omega), if_pos hhi]
  have hmem : inMemory a = false := by
    simp only [inMemory, inRckMemory, hblock, inSlots, inMsix, MBX_SLOT, Bool.false_or, Bool.or_eq_false_iff, Bool.and_eq_false_iff,
      decide_eq_false_iff_not]
    omega
  obtain ⟨⟨d, ix⟩, hd⟩ := Option.isSome_iff_exists.1 hr
  rw [s.busWrite_register ha (by omega) v.isLt hmem h]
  simp only [State.writeReg, hd, hblock]

theorem State.busWrite_vinThr {m : Nat} (v : Word) (h : s.Admits m true PWR_VIN_THR) :
    s.busWrite m PWR_VIN_THR 4 v.toNat = s.vinThrWrite v.toNat := by
  rw [s.busWrite_pwr v (by decide) (by decide) (by decide) (by decide) h]
  rfl

theorem State.busWrite_shedThr {m : Nat} (v : Word) (h : s.Admits m true PWR_SHED_THR) :
    s.busWrite m PWR_SHED_THR 4 v.toNat = s.shedThrWrite v.toNat := by
  rw [s.busWrite_pwr v (by decide) (by decide) (by decide) (by decide) h]
  rfl

theorem State.shedThrWrite_ignored {v : Nat} (h : v / 2 ^ 8 % 256 ≤ v % 256 ∨ v / 2 ^ 16 % 256 ≤ v / 2 ^ 8 % 256 ∨
    v / 2 ^ 24 % 256 ≤ v / 2 ^ 16 % 256 ∨ 115 < v / 2 ^ 24 % 256) : s.shedThrWrite v = s := by
  simp only [State.shedThrWrite]
  exact if_neg (by omega)

/-- Settles O11: such a write reaches the block's rule of R66, which ignores it. -/
theorem shedThresholdsThatDoNotRiseAreIgnored : Obligations.ShedThresholdsThatDoNotRiseAreIgnored := by
  unfold Obligations.ShedThresholdsThatDoNotRiseAreIgnored
  intro s m v hadm hbad
  have hcrit : v.toNat / 2 ^ 24 % 256 = v.toNat / 2 ^ 24 := Nat.mod_eq_of_lt (by have := v.isLt; omega)
  rw [exec_pwrShedThrWrite, execPwrShedThrWrite, s.busWrite_shedThr v hadm, s.shedThrWrite_ignored (by rwa [hcrit])]

/-! ## The VIN thresholds -/

theorem clampNat_le {lo hi v : Nat} (h : lo ≤ hi) : clampNat lo hi v ≤ hi := by
  unfold clampNat; split_ifs <;> omega

/-- The fault threshold that a write stores (R28). -/
def vinFaultOf (v : Nat) : Nat := clampNat 10500 11000 (v / 2 ^ 16 % 2 ^ 16)

/-- The warning threshold that a write stores: at least 100 mV above the stored fault threshold (R28). -/
def vinWarnOf (v : Nat) : Nat := clampNat (vinFaultOf v + 100) 11800 (v % 2 ^ 16)

theorem State.vinThrWrite_eq (v : Nat) :
    s.vinThrWrite v = (s.wr PWR_VIN_THR_FAULT_MV (vinFaultOf v)).wr PWR_VIN_THR_WARN_MV (vinWarnOf v) := (rfl)

theorem vinFaultOf_le (v : Nat) : vinFaultOf v ≤ 11000 := clampNat_le (by decide)

theorem vinWarnOf_le (v : Nat) : vinWarnOf v ≤ 11800 := clampNat_le (by have := vinFaultOf_le v; omega)

theorem State.fault_vinThrWrite (v : Nat) : (s.vinThrWrite v).rd PWR_VIN_THR_FAULT_MV = vinFaultOf v := by
  rw [s.vinThrWrite_eq, State.rd_wr_apart _ _ (by decide) (by decide), State.rd_wr_same _ _ _ (by decide)]
  exact Nat.mod_eq_of_lt ((vinFaultOf_le v).trans_lt (by decide))

theorem State.warn_vinThrWrite (v : Nat) : (s.vinThrWrite v).rd PWR_VIN_THR_WARN_MV = vinWarnOf v := by
  rw [s.vinThrWrite_eq, State.rd_wr_same _ _ _ (by decide)]
  exact Nat.mod_eq_of_lt ((vinWarnOf_le v).trans_lt (by decide))

theorem State.word_vinThrWrite_ne (v : Nat) {a : Nat} (h : a ≠ PWR_VIN_THR) : (s.vinThrWrite v).word a = s.word a := by
  rw [s.vinThrWrite_eq, State.word_wr_ne _ _ h, State.word_wr_ne _ _ h]

/-- Settles O12: the write reaches the block's rule of R28, and both stored thresholds fit their fields. -/
theorem vinThresholdsAreClamped : Obligations.VinThresholdsAreClamped := by
  unfold Obligations.VinThresholdsAreClamped
  intro s m v f w hadm hf hw
  have hhigh : v.toNat / 2 ^ 16 % 2 ^ 16 = v.toNat / 2 ^ 16 := Nat.mod_eq_of_lt (by have := v.isLt; omega)
  have hfault : vinFaultOf v.toNat = f := by rw [vinFaultOf, hhigh, hf, clampNat]
  have hwarn : vinWarnOf v.toNat = w := by rw [vinWarnOf, hfault, hw, clampNat]
  refine ⟨s.vinThrWrite v.toNat, ?_, ?_, ?_, fun a ha => s.word_vinThrWrite_ne v.toNat ha⟩
  · rw [exec_pwrVinThrWrite, execPwrVinThrWrite, s.busWrite_vinThr v hadm]
  · rw [s.fault_vinThrWrite, hfault]
  · rw [s.warn_vinThrWrite, hwarn]

end Sys2Proof.Machine
end

section
/-! SUPPORT. The 48-bit counters of a lane's checker, and the obligation on their reads (R109). -/

namespace Sys2Proof.Machine

/-! ## The two counters of a lane

The bit-error counter is that of `true` and the bits-checked counter that of `false`, as in `State.readLane48`. -/

/-- The register that shows the low 32 bits of a lane's counter. -/
def laneLow (n l : Nat) : Bool → Field
  | true => TRL_LANE_ERR_LO_ERR n l
  | false => TRL_LANE_BITS_LO_BITS n l

/-- The register that a read of the low bits copies the high 16 bits into. -/
def laneHigh (n l : Nat) : Bool → Field
  | true => TRL_LANE_ERR_HI_ERR n l
  | false => TRL_LANE_BITS_HI_BITS n l

/-- The high 16 bits of a lane's counter. -/
def LaneH.high (h : LaneH) : Bool → Nat
  | true => h.errHi
  | false => h.bitsHi

/-- A lane with the high bits of one counter cleared. -/
def LaneH.clearHigh (h : LaneH) : Bool → LaneH
  | true => { h with errHi := 0 }
  | false => { h with bitsHi := 0 }

@[simp] theorem LaneH.high_clearHigh (h : LaneH) (errs : Bool) : (h.clearHigh errs).high errs = 0 := by
  cases errs <;> rfl

@[simp] theorem LaneH.high_default (errs : Bool) : ({} : LaneH).high errs = 0 := by
  cases errs <;> rfl

theorem laneLow_whole (n l : Nat) (errs : Bool) : laneLow n l errs = ⟨(laneLow n l errs).addr, 0, 32⟩ := by
  cases errs <;> rfl

theorem laneHigh_half (n l : Nat) (errs : Bool) : (laneHigh n l errs).lo = 0 ∧ (laneHigh n l errs).width = 16 := by
  cases errs <;> exact ⟨rfl, rfl⟩

theorem laneHigh_ne_laneLow (n l : Nat) (errs : Bool) : (laneHigh n l errs).addr ≠ (laneLow n l errs).addr := by
  cases errs
  · simp only [laneLow, laneHigh, TRL_LANE_BITS_LO, TRL_LANE_BITS_HI]; omega
  · simp only [laneLow, laneHigh, TRL_LANE_ERR_LO, TRL_LANE_ERR_HI]; omega

/-- The low registers are words of the trellis block, and neither is the margin register. -/
theorem laneLow_addr (n : Fin 37) (l : Fin 8) (errs : Bool) :
    (laneLow n l errs).addr % 4 = 0 ∧ 0x800000 ≤ (laneLow n l errs).addr ∧ (laneLow n l errs).addr < 0xC00000 ∧
      (laneLow n l errs).addr ≠ TRL_LANE_MARGIN n l := by
  cases errs
  · simp only [laneLow, TRL_LANE_BITS_LO, TRL_LANE_MARGIN]; omega
  · simp only [laneLow, TRL_LANE_ERR_LO, TRL_LANE_MARGIN]; omega

/-- The register table finds each of them, with its trellis and its lane. -/
theorem regAt_laneLow (n : Fin 37) (l : Fin 8) (errs : Bool) : (regAt (laneLow n l errs).addr).map (·.2) = some [n.val, l.val] := by
  revert n l errs
  decide +kernel

theorem blockOf_trl {a : Nat} (hlo : 0x800000 ≤ a) (hhi : a < 0xC00000) : blockOf a = .trl := by
  simp only [blockOf]
  rw [if_neg (by omega), if_neg (by omega), if_neg (by omega), if_neg (by omega), if_neg (by omega), if_pos hhi]

variable (s : State)

/-! ## State operations -/

/-- A write of a whole word leaves what it wrote. -/
theorem State.word_wr_whole (a v : Nat) : (s.wr ⟨a, 0, 32⟩ v).word a = BitVec.ofNat 32 v := by
  apply BitVec.eq_of_toNat_eq
  have h := s.rd_wr_same ⟨a, 0, 32⟩ v le_rfl
  have hlt := ((s.wr ⟨a, 0, 32⟩ v).word a).isLt
  simpa [State.rd, fieldGet, Nat.mod_eq_of_lt hlt] using h

theorem getD_listSet {α : Type} (d v : α) (xs : List α) (i : Nat) : (listSet xs i v).getD i d = if i < xs.length then v else d := by
  induction xs generalizing i with
  | nil => rfl
  | cons x xs ih =>
    cases i with
    | zero => simp [listSet]
    | succ i => simpa [listSet] using ih i

theorem State.laneH_setLaneH (n l : Nat) (h : LaneH) :
    (s.setLaneH n l h).laneH n l = if l < (s.trlH n).lanes.length then h else {} := by
  rw [State.laneH, State.setLaneH, State.trlH_setTrlH, getD_listSet]

@[simp] theorem State.word_setLaneH (n l a : Nat) (h : LaneH) : (s.setLaneH n l h).word a = s.word a := (rfl)
@[simp] theorem State.rd_setLaneH (n l : Nat) (h : LaneH) (f : Field) : (s.setLaneH n l h).rd f = s.rd f := (rfl)

/-- A read of a word of the trellis block other than a margin register returns the word and has the register's side effect. -/
theorem State.getWord_trl {m a i j : Nat} (hlo : 0x800000 ≤ a) (hhi : a < 0xC00000) (hix : (regAt a).map (·.2) = some [i, j])
    (hmargin : a ≠ TRL_LANE_MARGIN i j) (hu : s.unreached m a = none) :
    ∃ rs, s.getWord m a = (s.afterRead a i j rs, (s.word a).toNat) := by
  obtain ⟨d, hd⟩ := regAt_of hix
  have hblock := blockOf_trl hlo hhi
  have hrck : inRckMemory a = false := by simp only [inRckMemory, hblock]
  have hslots : inSlots a = false := by simp only [inSlots, MBX_SLOT, Bool.and_eq_false_iff, decide_eq_false_iff_not]; omega
  have hmsix : inMsix a = false := by simp only [inMsix, Bool.and_eq_false_iff, decide_eq_false_iff_not]; omega
  have hmark : a ≠ LDG_MARK_VAL := by simp only [LDG_MARK_VAL]; omega
  have hfresh : s.refresh a i j = s := by simp only [State.refresh, hblock, if_neg hmargin]
  refine ⟨d.rs, ?_⟩
  simp only [State.getWord, hu, hrck, hslots, hmsix, Bool.false_eq_true, if_false, State.readReg, hd, if_neg hmark, hblock,
    List.getD_cons_zero, List.getD_cons_succ, hfresh]

/-! ## A read of a counter -/

/-- The operation of R109, for either counter. -/
theorem State.readLane48_eq (n l : Nat) (errs : Bool) : s.readLane48 n l errs =
    ((s.wr (laneHigh n l errs) ((s.laneH n l).high errs)).wr (laneLow n l errs) 0).setLaneH n l ((s.laneH n l).clearHigh errs) := by
  cases errs <;> rfl

theorem State.afterRead_laneLow (n : Fin 37) (l : Fin 8) (errs : Bool) (rs : Nat) :
    s.afterRead (laneLow n l errs).addr n l rs = s.readLane48 n l errs := by
  obtain ⟨-, hlo, hhi, -⟩ := laneLow_addr n l errs
  have hblock := blockOf_trl hlo hhi
  simp only [State.afterRead, hblock]
  cases errs
  · have hne : TRL_LANE_BITS_LO n l ≠ TRL_LANE_ERR_LO n l := by simp only [TRL_LANE_BITS_LO, TRL_LANE_ERR_LO]; omega
    exact (if_neg hne).trans (if_pos rfl)
  · exact if_pos rfl

/-- A read of the low bits that goes through returns them, and the counter is latched and cleared. -/
theorem State.busRead_laneLow {m : Nat} (n : Fin 37) (l : Fin 8) (errs : Bool) (h : s.Admits m false (laneLow n l errs).addr) :
    s.busRead m (laneLow n l errs).addr 4 = { s.readLane48 n l errs with lastRead := (s.word (laneLow n l errs).addr).toNat } := by
  obtain ⟨halign, hlo, hhi, hmargin⟩ := laneLow_addr n l errs
  have ⟨_, _, _, hu, _⟩ := h
  obtain ⟨rs, hget⟩ := s.getWord_trl hlo hhi (regAt_laneLow n l errs) hmargin hu
  rw [s.busRead_admits halign (by omega) h, hget, s.afterRead_laneLow, Nat.and_two_pow_sub_one_eq_mod, Nat.mod_eq_of_lt (BitVec.isLt _)]

theorem State.rd_laneHigh_readLane48 (n l : Nat) (errs : Bool) :
    (s.readLane48 n l errs).rd (laneHigh n l errs) = (s.laneH n l).high errs % 2 ^ 16 := by
  obtain ⟨hbit, hwidth⟩ := laneHigh_half n l errs
  rw [s.readLane48_eq, State.rd_setLaneH, State.rd_wr_ne _ _ (laneHigh_ne_laneLow n l errs), State.rd_wr_same _ _ _ (by omega), hwidth]

theorem State.word_laneLow_readLane48 (n l : Nat) (errs : Bool) : (s.readLane48 n l errs).word (laneLow n l errs).addr = 0 := by
  rw [s.readLane48_eq, State.word_setLaneH, laneLow_whole]
  exact State.word_wr_whole _ _ 0

/-- A lane beyond the trellis's list of lanes is the initial lane, whose counters are 0 as well. -/
theorem State.high_laneH_readLane48 (n l : Nat) (errs : Bool) : ((s.readLane48 n l errs).laneH n l).high errs = 0 := by
  rw [s.readLane48_eq, State.laneH_setLaneH]
  split
  · exact LaneH.high_clearHigh _ errs
  · exact LaneH.high_default errs

theorem State.word_readLane48_ne (n l : Nat) (errs : Bool) {a : Nat} (hlow : a ≠ (laneLow n l errs).addr)
    (hhigh : a ≠ (laneHigh n l errs).addr) : (s.readLane48 n l errs).word a = s.word a := by
  rw [s.readLane48_eq, State.word_setLaneH, State.word_wr_ne _ _ hlow, State.word_wr_ne _ _ hhigh]

/-- R109 for either counter of a lane. -/
theorem exec_counterRead_laneLow {m : Fin 22} (n : Fin 37) (l : Fin 8) (errs : Bool) (h : s.Admits m false (laneLow n l errs).addr) :
    ∃ t, exec (.counterRead m (laneLow n l errs).addr 4) s = .next t ∧ t.lastRead = (s.word (laneLow n l errs).addr).toNat ∧
      t.rd (laneHigh n l errs) = (s.laneH n l).high errs % 2 ^ 16 ∧ t.word (laneLow n l errs).addr = 0 ∧ (t.laneH n l).high errs = 0 ∧
      (∀ a, a ≠ (laneLow n l errs).addr → a ≠ (laneHigh n l errs).addr → t.word a = s.word a) := by
  refine ⟨{ s.readLane48 n l errs with lastRead := (s.word (laneLow n l errs).addr).toNat }, ?_, rfl, s.rd_laneHigh_readLane48 n l errs,
    s.word_laneLow_readLane48 n l errs, s.high_laneH_readLane48 n l errs, fun a hlow hhigh => s.word_readLane48_ne n l errs hlow hhigh⟩
  rw [exec_counterRead, execCounterRead, s.busRead_laneLow n l errs h]

/-- Settles O23: the two counters are the two cases of one rule. -/
theorem laneCountersClearOnRead : Obligations.LaneCountersClearOnRead := by
  unfold Obligations.LaneCountersClearOnRead
  intro s m n l
  exact ⟨exec_counterRead_laneLow s n l true, exec_counterRead_laneLow s n l false⟩

end Sys2Proof.Machine
end

section
/-! SUPPORT. Renderer fences: when a value lies ahead of the stored one, what a write of a fence changes, and the ways that a host write and FENCES
reach it (R281). -/

namespace Sys2Proof.Machine

variable (s : State)

/-- The model's distance of two words, taken modulo 2^32 and read as signed, is the signed difference of the words. -/
theorem signedOf_wrap32_sub (v w : Word) : signedOf 32 (wrap32 (v.toNat + 2 ^ 32 - w.toNat)) = (v - w).toInt := by
  have hsub : (v - w).toNat = wrap32 (v.toNat + 2 ^ 32 - w.toNat) := by
    rw [BitVec.toNat_sub, wrap32]
    congr 1
    have := w.isLt
    omega
  rw [← hsub, BitVec.toInt_eq_toNat_cond, signedOf, Nat.mod_eq_of_lt (v - w).isLt]
  exact if_congr (by omega) rfl rfl

theorem State.rd_fence (n : Nat) : s.rd (RCK_FENCE_VALUE n) = (s.word (RCK_FENCE n)).toNat := by
  simp only [State.rd, fieldGet, pow_zero, Nat.div_one]
  exact Nat.mod_eq_of_lt (s.word (RCK_FENCE n)).isLt

/-! ## The write of a fence -/

@[simp] theorem State.word_meets (r a : Nat) : (s.meets r).word a = s.word a := by
  simp only [State.word, State.regs_meets]

/-- The rackers that wait for a fence take note of a write of it in their hidden records, and no word changes by that. -/
theorem State.word_writeFence (n : Nat) (v : Word) (a : Nat) : (s.writeFence n v.toNat).word a =
    if 0 < (v - s.word (RCK_FENCE n)).toInt then (s.wr (RCK_FENCE_VALUE n) v.toNat).word a else s.word a := by
  rw [State.writeFence, s.rd_fence, signedOf_wrap32_sub]
  split
  · refine State.forN_keeps (·.word a) (fun r u => ?_) 16 _
    split
    · split
      · exact u.word_meets r a
      · rfl
    · rfl
  · rfl

theorem State.word_writeFence_same (n : Nat) (v : Word) : (s.writeFence n v.toNat).word (RCK_FENCE n) =
    if 0 < (v - s.word (RCK_FENCE n)).toInt then v else s.word (RCK_FENCE n) := by
  rw [s.word_writeFence, State.word_wr_whole, BitVec.ofNat_toNat, BitVec.setWidth_eq]

theorem State.word_writeFence_ne (n : Nat) (v : Word) {a : Nat} (h : a ≠ RCK_FENCE n) : (s.writeFence n v.toNat).word a = s.word a := by
  rw [s.word_writeFence, State.word_wr_ne _ _ h, ite_self]

/-! ## The write by a master -/

theorem blockOf_rckShared {a : Nat} (hlo : 0x3080000 ≤ a) (hhi : a < 0x3100000) : blockOf a = .rckShared := by
  unfold blockOf
  iterate 15 rw [if_neg (by omega)]
  exact if_pos hhi

/-- The register table finds every fence, with its number. -/
theorem regAt_fence (n : Fin 256) : (regAt (RCK_FENCE n)).map (·.2) = some [n.val] := by
  revert n
  decide +kernel

/-- A write of a fence that goes through follows the rule of the fences. -/
theorem State.busWrite_fence {m : Nat} (n : Fin 256) (v : Word) (h : s.Admits m true (RCK_FENCE n)) :
    s.busWrite m (RCK_FENCE n) 4 v.toNat = s.writeFence n v.toNat := by
  have hlo : 0x3085000 ≤ RCK_FENCE n := Nat.le_add_right _ _
  have hhi : RCK_FENCE n < 0x3086000 := by simp only [RCK_FENCE]; omega
  have hblock : blockOf (RCK_FENCE n) = .rckShared := blockOf_rckShared (by omega) (by omega)
  have hmem : inMemory (RCK_FENCE n) = false := by
    simp only [inMemory, inRckMemory, hblock, inSlots, inMsix, MBX_SLOT, Bool.false_or, Bool.or_eq_false_iff, Bool.and_eq_false_iff,
      decide_eq_false_iff_not]
    omega
  have hown : ¬ RCK_FENCE n < RCK_SH_STATUS := by simp only [RCK_SH_STATUS]; omega
  have hgpo : RCK_FENCE n ≠ RCK_GPO_HOST := by simp only [RCK_GPO_HOST]; omega
  have hlease : RCK_FENCE n ≠ RCK_LEASE_REQ := by simp only [RCK_LEASE_REQ]; omega
  obtain ⟨d, hd⟩ := regAt_of (regAt_fence n)
  rw [s.busWrite_register (by simp only [RCK_FENCE]; omega) (by omega) v.isLt hmem h]
  simp only [State.writeReg, hd, hblock, List.getD_cons_zero, State.writeShared, if_neg hown, if_neg hgpo, if_neg hlease, if_true]

/-! ## FENCES of a racker -/

@[simp] theorem State.word_sendMirror (units : Nat) (o : Out) (a : Nat) : (s.sendMirror units o).word a = s.word a := by
  unfold State.sendMirror
  split
  · rfl
  · split <;> rfl

@[simp] theorem State.word_effect (r kind : Nat) (words : List Nat) (a : Nat) : (s.effect r kind words).word a = s.word a := by
  unfold State.effect
  split
  · exact s.word_sendMirror _ _ a
  · rfl

/-- Retiring an instruction changes no other word than the racker's PC and its status. -/
theorem State.word_retire (r cycles : Nat) {a : Nat} (hpc : a ≠ RCK_PC r) (hst : a ≠ RCK_STATUS r) : (s.retire r cycles).word a = s.word a := by
  have hgoto (u : State) (i : Nat) : (u.goto r i).word a = u.word a := by
    rw [State.goto, State.word_wr_ne _ _ hpc, State.word_setRckH]
  rw [State.retire, State.boundary]
  split
  · rw [State.word_wr_ne _ _ hst, State.word_setRckH, hgoto, State.advance, State.word_setRckH]
  · rw [State.word_wr_ne _ _ hst, hgoto, State.advance, State.word_setRckH]

/-- The register numbers of a decoded instruction have five bits (Table 08-1). -/
theorem rckFields_registers_lt {w : Nat} {i : RckInstr} (h : rckFields w = some i) : i.ra < 32 ∧ i.rb < 32 := by
  have hlt (k : Nat) : w / 2 ^ k % 32 < 32 := Nat.mod_lt _ (by decide)
  simp only [rckFields] at h
  cases hformat : rckFormat (rckOp w) with
  | none => simp only [hformat, reduceCtorEq] at h
  | some format =>
    cases format <;> simp only [hformat, Option.ite_none_right_eq_some, Option.some.injEq] at h
    case A => obtain ⟨-, rfl⟩ := h; exact ⟨hlt 16, hlt 11⟩
    case I => subst h; exact ⟨hlt 16, Nat.zero_lt_succ 31⟩
    case T => subst h; exact ⟨hlt 16, Nat.zero_lt_succ 31⟩
    case X => subst h; exact ⟨hlt 16, hlt 11⟩
    case S => obtain ⟨-, rfl⟩ := h; exact ⟨hlt 16, hlt 11⟩

theorem rckDecode_registers_lt {w : Nat} {i : RckInstr} (h : rckDecode w = some i) : i.ra < 32 ∧ i.rb < 32 := by
  unfold rckDecode at h
  split at h
  next hf =>
    split at h
    · cases h; exact rckFields_registers_lt hf
    · cases h
  · cases h

/-- A resynchronisation leaves the general registers. -/
theorem State.greg_resync (r : Fin 16) {n : Nat} (hn : n < 32) : (s.resync r).greg r n = s.greg r n := by
  have hstatus : RCK_GREG r n ≠ (RCK_STATUS_PT_RESYNC r).addr := by simp only [RCK_GREG, RCK_STATUS]; omega
  have hlost : RCK_GREG r n ≠ MGT_LOG_LOST := by simp only [RCK_GREG, MGT_LOG_LOST]; omega
  exact s.word_resync r hstatus hlost

/-- What FENCES of a racker that issues it comes to. -/
theorem execFences_of_issues {r : Fin 16} {i : RckInstr} (hissues : s.Issues r i) (ho : i.op = 0x3B) : execFences r s =
    .next ((((s.resync r).writeFence ((s.greg r i.ra).toNat % 256) (s.greg r i.rb).toNat).effect r 0
      [(s.greg r i.ra).toNat % 256, (s.greg r i.rb).toNat]).retire r 3) := by
  have hdecode : rckDecode (s.fetchWord r) = some i := hissues.2.2
  obtain ⟨hra, hrb⟩ := rckDecode_registers_lt hdecode
  simp only [execFences, s.issue_of hissues ho, s.greg_resync r hra, s.greg_resync r hrb]

/-- A resynchronisation leaves the fences. -/
theorem State.fence_resync (r : Fin 16) {k : Nat} (hk : k < 256) : (s.resync r).word (RCK_FENCE k) = s.word (RCK_FENCE k) := by
  have hstatus : RCK_FENCE k ≠ (RCK_STATUS_PT_RESYNC r).addr := by simp only [RCK_FENCE, RCK_STATUS]; omega
  have hlost : RCK_FENCE k ≠ MGT_LOG_LOST := by simp only [RCK_FENCE, MGT_LOG_LOST]; omega
  exact s.word_resync r hstatus hlost

/-- So does retiring an instruction. -/
theorem State.fence_retire (r : Fin 16) (cycles : Nat) {k : Nat} (hk : k < 256) :
    (s.retire r cycles).word (RCK_FENCE k) = s.word (RCK_FENCE k) := by
  have hpc : RCK_FENCE k ≠ RCK_PC r := by simp only [RCK_FENCE, RCK_PC]; omega
  have hstatus : RCK_FENCE k ≠ RCK_STATUS r := by simp only [RCK_FENCE, RCK_STATUS]; omega
  exact s.word_retire r cycles hpc hstatus

/-- Settles O13: a master's write and FENCES both come to the one rule of the fences, and what FENCES does besides writes no fence. -/
theorem fencesOnlyAdvance : Obligations.FencesOnlyAdvance := by
  unfold Obligations.FencesOnlyAdvance
  constructor
  · intro s m n v hadm
    refine ⟨s.writeFence n v.toNat, ?_, s.word_writeFence_same n v, fun a ha => s.word_writeFence_ne n v ha⟩
    rw [exec_fenceWrite, execFenceWrite, s.busWrite_fence n v hadm]
  · rintro s r i n v hissues hop rfl rfl
    have hn : (s.greg r i.ra).toNat % 256 < 256 := Nat.mod_lt _ (by decide)
    refine ⟨_, (exec_fences s r).trans (execFences_of_issues s hissues hop), ?_, fun k hk hne => ?_⟩
    · rw [State.fence_retire _ _ _ hn, State.word_effect, State.word_writeFence_same, s.fence_resync r hn]
    · have haddr : RCK_FENCE k ≠ RCK_FENCE ((s.greg r i.ra).toNat % 256) := by simp only [RCK_FENCE]; omega
      rw [State.fence_retire _ _ _ hk, State.word_effect, State.word_writeFence_ne _ _ _ haddr, s.fence_resync r hk]

end Sys2Proof.Machine
end

section
/-! SUPPORT. The data memory of a racker: the check of an address, the bytes of a word, and what the four loads and stores come to (R302). -/

namespace Sys2Proof.Machine

variable (s : State)

/-! ## The check of an address -/

/-- ALIGN is checked before the range and before the memory's error correction. -/
theorem State.dmAccess_unaligned (r : Nat) (ecc : Bool) (f : State → State) {a : Nat} (h : a % 4 ≠ 0) :
    s.dmAccess r a true ecc f = s.trap r 6 0 := by
  simp [State.dmAccess, h]

/-- An access of a byte, or of a word at a multiple of 4, passes the check of ALIGN. -/
theorem State.dmAccess_aligned (r : Nat) (ecc : Bool) (f : State → State) {isWord : Bool} {a : Nat} (halign : isWord = true → a % 4 = 0) :
    s.dmAccess r a isWord ecc f = if 0x3FFF < a then s.trap r 5 0 else if ecc then s.trap r 3 0 else f s := by
  cases isWord with
  | false => rfl
  | true => simp [State.dmAccess, halign rfl]

theorem State.dmAccess_outOfRange (r : Nat) (ecc : Bool) (f : State → State) {isWord : Bool} {a : Nat}
    (halign : isWord = true → a % 4 = 0) (h : 0x3FFF < a) : s.dmAccess r a isWord ecc f = s.trap r 5 0 := by
  rw [s.dmAccess_aligned r ecc f halign, if_pos h]

theorem State.dmAccess_good (r : Nat) (f : State → State) {isWord : Bool} {a : Nat} (halign : isWord = true → a % 4 = 0)
    (h : a ≤ 0x3FFF) : s.dmAccess r a isWord false f = f s := by
  rw [s.dmAccess_aligned r false f halign, if_neg (Nat.not_lt.2 h), if_neg Bool.false_ne_true]

/-! ## The bytes of a word -/

/-- Byte `n` of a word in little-endian order is the field of eight bits from bit 8n, so that a byte put into the word changes no other. -/
theorem byte_putByte (w : Word) (v : Nat) {k : Nat} (n : Nat) (hk : k < 4) :
    (putByte w k v).toNat / 2 ^ (8 * n) % 256 = if n = k then v % 256 else w.toNat / 2 ^ (8 * n) % 256 := by
  have hfit : 8 * k + 8 ≤ 32 := by omega
  split
  case isTrue h =>
    subst h
    exact fieldGet_fieldPut_same ⟨0, 8 * n, 8⟩ w v hfit
  case isFalse h =>
    have hdisjoint : 8 * n + 8 ≤ 8 * k ∨ 8 * k + 8 ≤ 8 * n := by omega
    exact fieldGet_fieldPut_ne ⟨0, 8 * k, 8⟩ ⟨0, 8 * n, 8⟩ w v hfit hdisjoint

/-! ## The loads and stores of a racker that issues them -/

section
variable {s} {u : State} {r : Fin 16} {i : RckInstr} {a : Nat} (ecc : Bool) (hissues : s.Issues r i) (hu : u = s.resync r)
  (ha : a = u.effAddr r i)
include hissues hu ha

theorem exec_ldw_of_issues (ho : i.op = 0x15) : exec (.ldw r ecc) s =
    .next (u.dmAccess r a true ecc fun u => (u.setGreg r i.rd (u.word (RCK_DM r (a / 4)))).retire r 2) := by
  subst hu ha
  rw [exec_ldw, execLdw, s.issue_of hissues ho]

theorem exec_stw_of_issues (ho : i.op = 0x16) : exec (.stw r ecc) s =
    .next (u.dmAccess r a true ecc fun u => (u.setWord (RCK_DM r (a / 4)) (u.greg r i.rd)).retire r 1) := by
  subst hu ha
  rw [exec_stw, execStw, s.issue_of hissues ho]

theorem exec_ldb_of_issues (ho : i.op = 0x17) : exec (.ldb r ecc) s =
    .next (u.dmAccess r a false ecc fun u =>
      (u.setGreg r i.rd (BitVec.ofNat 32 ((u.word (RCK_DM r (a / 4))).toNat / 2 ^ (8 * (a % 4)) % 256))).retire r 2) := by
  subst hu ha
  rw [exec_ldb, execLdb, s.issue_of hissues ho]
  rfl

theorem exec_stb_of_issues (ho : i.op = 0x18) : exec (.stb r ecc) s =
    .next (u.dmAccess r a false ecc fun u =>
      (u.setWord (RCK_DM r (a / 4)) (putByte (u.word (RCK_DM r (a / 4))) (a % 4) (u.greg r i.rd).toNat)).retire r 1) := by
  subst hu ha
  rw [exec_stb, execStb, s.issue_of hissues ho]

end

/-- Settles O14: each load or store is an access that the one check guards, and a byte store replaces one field of the word. -/
theorem dataMemoryAccessesAreChecked : Obligations.DataMemoryAccessesAreChecked := by
  unfold Obligations.DataMemoryAccessesAreChecked
  intro s u r i ecc a hissues hu ha
  have hbytes : false = true → a % 4 = 0 := fun h => absurd h Bool.false_ne_true
  refine ⟨fun ho hbad => ?_, fun ho hbad => ?_, fun ho halign hhigh => ?_, fun ho halign hhigh => ?_, fun ho hhigh => ?_,
    fun ho hhigh => ?_, ?_⟩
  · rw [exec_ldw_of_issues ecc hissues hu ha ho, u.dmAccess_unaligned _ _ _ hbad]
  · rw [exec_stw_of_issues ecc hissues hu ha ho, u.dmAccess_unaligned _ _ _ hbad]
  · rw [exec_ldw_of_issues ecc hissues hu ha ho, u.dmAccess_outOfRange _ _ _ (fun _ => halign) hhigh]
  · rw [exec_stw_of_issues ecc hissues hu ha ho, u.dmAccess_outOfRange _ _ _ (fun _ => halign) hhigh]
  · rw [exec_ldb_of_issues ecc hissues hu ha ho, u.dmAccess_outOfRange _ _ _ hbytes hhigh]
  · rw [exec_stb_of_issues ecc hissues hu ha ho, u.dmAccess_outOfRange _ _ _ hbytes hhigh]
  · rintro rfl hgood
    refine ⟨fun ho halign => ?_, fun ho halign => ?_, fun ho => ?_, fun ho => ?_⟩
    · rw [exec_ldw_of_issues false hissues hu ha ho, u.dmAccess_good _ _ (fun _ => halign) hgood]
    · rw [exec_stw_of_issues false hissues hu ha ho, u.dmAccess_good _ _ (fun _ => halign) hgood]
    · rw [exec_ldb_of_issues false hissues hu ha ho, u.dmAccess_good _ _ hbytes hgood]
    · refine ⟨putByte (u.word (RCK_DM r (a / 4))) (a % 4) (u.greg r i.rd).toNat, ?_, fun k _ => ?_⟩
      · rw [exec_stb_of_issues false hissues hu ha ho, u.dmAccess_good _ _ hbytes hgood]
      · exact byte_putByte _ _ k (Nat.mod_lt a (by decide))

end Sys2Proof.Machine
end
section
/-! SUPPORT. What a step and every command keep: the waiting commands, the time and the canonical form of the sparse stores. -/

namespace Sys2Proof.Machine

/-- Every command, whichever it is, answers a next state that keeps the queue, the time and the canonical form. -/
theorem exec_kept (c : Instr) (s : State) : ∃ t, exec c s = .next t ∧ Kept s t := by
  cases c with
  | vinValid mv devAddr side => exact kept_execVinValid mv devAddr side s
  | vinWarn mv => exact kept_execVinWarn mv s
  | vinFault mv => exact kept_execVinFault mv s
  | topResetKey m key => exact kept_execTopResetKey m key s
  | regulatorFault idx => exact kept_execRegulatorFault idx s
  | alwaysOnRegulatorFault => exact kept_execAlwaysOnRegulatorFault s
  | pwrDomReqWrite m k v => exact kept_execPwrDomReqWrite m k v s
  | domainReady idx => exact kept_execDomainReady idx s
  | domainStop idx => exact kept_execDomainStop idx s
  | shedRise => exact kept_execShedRise s
  | shedFall => exact kept_execShedFall s
  | thermalCritical idx => exact kept_execThermalCritical idx s
  | pwrVinThrWrite m v => exact kept_execPwrVinThrWrite m v s
  | pwrShedThrWrite m v => exact kept_execPwrShedThrWrite m v s
  | railsUp => exact kept_execRailsUp s
  | otpLoaded => exact kept_execOtpLoaded s
  | bandSearchesDone bands => exact kept_execBandSearchesDone bands s
  | tUse => exact kept_execTUse s
  | defaultLeft => exact kept_execDefaultLeft s
  | cellarTrained => exact kept_execCellarTrained s
  | cellarTrainingFail => exact kept_execCellarTrainingFail s
  | freeze m => exact kept_execFreeze m s
  | thaw m => exact kept_execThaw m s
  | thawApply => exact kept_execThawApply s
  | diag m => exact kept_execDiag m s
  | quiesce m => exact kept_execQuiesce m s
  | quiesceB1 => exact kept_execQuiesceB1 s
  | quiesceTxEnd => exact kept_execQuiesceTxEnd s
  | rejoin m => exact kept_execRejoin m s
  | isolatedEntry => exact kept_execIsolatedEntry s
  | presetApply n rx => exact kept_execPresetApply n rx s
  | adaptStep n l q up => exact kept_execAdaptStep n l q up s
  | fclkDetected n => exact kept_execFclkDetected n s
  | dllLocked n => exact kept_execDllLocked n s
  | dllLockTimeout n => exact kept_execDllLockTimeout n s
  | phaseSettled n phases => exact kept_execPhaseSettled n phases s
  | phaseSweepTimeout n => exact kept_execPhaseSweepTimeout n s
  | commaAligned n => exact kept_execCommaAligned n s
  | alignTimeout n => exact kept_execAlignTimeout n s
  | deskewDone n ids skews last => exact kept_execDeskewDone n ids skews last s
  | deskewTimeout n ids skews => exact kept_execDeskewTimeout n ids skews s
  | fclkStop n => exact kept_execFclkStop n s
  | dllLossOfLock n => exact kept_execDllLossOfLock n s
  | fclkFreqError n => exact kept_execFclkFreqError n s
  | laneOffReceived n => exact kept_execLaneOffReceived n s
  | commaMissed n => exact kept_execCommaMissed n s
  | txActivate n => exact kept_execTxActivate n s
  | txDeactivate n => exact kept_execTxDeactivate n s
  | trellisModeWrite m n mode => exact kept_execTrellisModeWrite m n mode s
  | trellisModeChange n => exact kept_execTrellisModeChange n s
  | inject m n l => exact kept_execInject m n l s
  | checkerLock n l bits => exact kept_execCheckerLock n l bits s
  | checkerLoseLock n l bits errs recent => exact kept_execCheckerLoseLock n l bits errs recent s
  | laneCounterRead m n l errs => exact kept_execLaneCounterRead m n l errs s
  | counterRead m addr len => exact kept_execCounterRead m addr len s
  | blockSent n due => exact kept_execBlockSent n due s
  | blockReceived n symbols skews lines => exact kept_execBlockReceived n symbols skews lines s
  | framingLost n missing => exact kept_execFramingLost n missing s
  | noFraming n => exact kept_execNoFraming n s
  | refClassified c hz => exact kept_execRefClassified c hz s
  | frameMarker c idle levels => exact kept_execFrameMarker c idle levels s
  | markerTimeout c => exact kept_execMarkerTimeout c s
  | refGlitch c ps => exact kept_execRefGlitch c ps s
  | refClockLost c ps => exact kept_execRefClockLost c ps s
  | candidatePresent c => exact kept_execCandidatePresent c s
  | driftMonitorUpdate meas => exact kept_execDriftMonitorUpdate meas s
  | qualified c => exact kept_execQualified c s
  | disqualified c => exact kept_execDisqualified c s
  | bandwidthStep => exact kept_execBandwidthStep s
  | handOff freq b => exact kept_execHandOff freq b s
  | dpllLocked freq phase => exact kept_execDpllLocked freq phase s
  | dpllUnlock phase => exact kept_execDpllUnlock phase s
  | holdoverExpired => exact kept_execHoldoverExpired s
  | planConfigWrite m p v => exact kept_execPlanConfigWrite m p v s
  | poolClaim p => exact kept_execPoolClaim p s
  | synthReady p => exact kept_execSynthReady p s
  | bridgeFrame p => exact kept_execBridgeFrame p s
  | newTiming p => exact kept_execNewTiming p s
  | planAlignWrite m p v => exact kept_execPlanAlignWrite m p v s
  | policyChange m p policy => exact kept_execPolicyChange m p policy s
  | jumpNow m p => exact kept_execJumpNow m p s
  | jumpFrame p => exact kept_execJumpFrame p s
  | slewDone p => exact kept_execSlewDone p s
  | planEnable m p => exact kept_execPlanEnable m p s
  | planStart p => exact kept_execPlanStart p s
  | planStop p => exact kept_execPlanStop p s
  | seedWrite m idx seed => exact kept_execSeedWrite m idx seed s
  | flush m idx => exact kept_execFlush m idx s
  | relock m idx => exact kept_execRelock m idx s
  | bandSearchDone idx band found => exact kept_execBandSearchDone idx band found s
  | rampUpdate idx loop => exact kept_execRampUpdate idx loop s
  | planSynthUnlock k => exact kept_execPlanSynthUnlock k s
  | lanePllUnlock n => exact kept_execLanePllUnlock n s
  | logicPllUnlock k => exact kept_execLogicPllUnlock k s
  | safeClockReturn k => exact kept_execSafeClockReturn k s
  | start m r => exact kept_execStart m r s
  | rackerStarts r => exact kept_execRackerStarts r s
  | resume m r => exact kept_execResume m r s
  | halt m r => exact kept_execHalt m r s
  | step m r => exact kept_execStep m r s
  | programMemoryWrite m r w v => exact kept_execProgramMemoryWrite m r w v s
  | ownershipWrite m k v => exact kept_execOwnershipWrite m k v s
  | fenceWrite m n v => exact kept_execFenceWrite m n v s
  | hostLease m id dur prio => exact kept_execHostLease m id dur prio s
  | hostFree m id prio => exact kept_execHostFree m id prio s
  | leaseLapse idx => exact kept_execLeaseLapse idx s
  | leaseTimeout who => exact kept_execLeaseTimeout who s
  | gpiChange k level => exact kept_execGpiChange k level s
  | gpiApplied => exact kept_execGpiApplied s
  | programTimeRead m r => exact kept_execProgramTimeRead m r s
  | add r => exact kept_execAdd r s
  | sub r => exact kept_execSub r s
  | and r => exact kept_execAnd r s
  | or r => exact kept_execOr r s
  | xor r => exact kept_execXor r s
  | shl r => exact kept_execShl r s
  | shr r => exact kept_execShr r s
  | sar r => exact kept_execSar r s
  | mul r => exact kept_execMul r s
  | cmp r => exact kept_execCmp r s
  | addi r => exact kept_execAddi r s
  | andi r => exact kept_execAndi r s
  | ori r => exact kept_execOri r s
  | xori r => exact kept_execXori r s
  | shli r => exact kept_execShli r s
  | shri r => exact kept_execShri r s
  | sari r => exact kept_execSari r s
  | cmpi r => exact kept_execCmpi r s
  | movi r => exact kept_execMovi r s
  | lui r => exact kept_execLui r s
  | ldw r ecc => exact kept_execLdw r ecc s
  | stw r ecc => exact kept_execStw r ecc s
  | ldb r ecc => exact kept_execLdb r ecc s
  | stb r ecc => exact kept_execStb r ecc s
  | sld r => exact kept_execSld r s
  | sst r => exact kept_execSst r s
  | mld r => exact kept_execMld r s
  | mst r => exact kept_execMst r s
  | mfs r => exact kept_execMfs r s
  | mts r => exact kept_execMts r s
  | bc r => exact kept_execBc r s
  | call r => exact kept_execCall r s
  | jr r => exact kept_execJr r s
  | ret r => exact kept_execRet r s
  | trap r ecc => exact kept_execTrap r ecc s
  | rett r => exact kept_execRett r s
  | stop r => exact kept_execStop r s
  | nop r => exact kept_execNop r s
  | waitl r => exact kept_execWaitl r s
  | waitlComplete r => exact kept_execWaitlComplete r s
  | waitf r => exact kept_execWaitf r s
  | waitfComplete r => exact kept_execWaitfComplete r s
  | waite r => exact kept_execWaite r s
  | waiteComplete r => exact kept_execWaiteComplete r s
  | waiteTimeout r => exact kept_execWaiteTimeout r s
  | atFloor r => exact kept_execAtFloor r s
  | prove r => exact kept_execProve r s
  | proveComplete r => exact kept_execProveComplete r s
  | proveTimeout r => exact kept_execProveTimeout r s
  | take r ecc => exact kept_execTake r ecc s
  | operationWaitDone r => exact kept_execOperationWaitDone r s
  | xset r => exact kept_execXset r s
  | amap r => exact kept_execAmap r s
  | slotm r => exact kept_execSlotm r s
  | commit r => exact kept_execCommit r s
  | fade r => exact kept_execFade r s
  | hcommit r => exact kept_execHcommit r s
  | lmarkMark r => exact kept_execLmarkMark r s
  | lmarkEpoch r => exact kept_execLmarkEpoch r s
  | lease r => exact kept_execLease r s
  | free r => exact kept_execFree r s
  | fencew r => exact kept_execFencew r s
  | fencewComplete r => exact kept_execFencewComplete r s
  | fences r => exact kept_execFences r s
  | ring r => exact kept_execRing r s
  | postMsg r ecc => exact kept_execPostMsg r ecc s
  | gpo r => exact kept_execGpo r s
  | planGroupLands p => exact kept_execPlanGroupLands p s
  | inputPresent idx => exact kept_execInputPresent idx s
  | inputAbsent idx => exact kept_execInputAbsent idx s
  | inputFrameStart idx => exact kept_execInputFrameStart idx s
  | caskWindowEnter idx p => exact kept_execCaskWindowEnter idx p s
  | caskWindowExit idx p line => exact kept_execCaskWindowExit idx p line s
  | carriageChange d => exact kept_execCarriageChange d s
  | outputFrameStart d => exact kept_execOutputFrameStart d s
  | cellarEccError idx p line kind => exact kept_execCellarEccError idx p line kind s
  | holdLimit d => exact kept_execHoldLimit d s
  | outputPlanChange d => exact kept_execOutputPlanChange d s
  | admissionRequest cls id sub => exact kept_execAdmissionRequest cls id sub s
  | admissionRetry => exact kept_execAdmissionRetry s
  | admissionWithdraw cls id sub => exact kept_execAdmissionWithdraw cls id sub s
  | channelPowerDown c => exact kept_execChannelPowerDown c s
  | channelSelfRefresh c => exact kept_execChannelSelfRefresh c s
  | channelWake c => exact kept_execChannelWake c s
  | engineTick master => exact kept_execEngineTick master s
  | crossfadeEnd a => exact kept_execCrossfadeEnd a s
  | channelStatusBlockEnd c => exact kept_execChannelStatusBlockEnd c s
  | delayChange c => exact kept_execDelayChange c s
  | dipEnd c => exact kept_execDipEnd c s
  | generatorRestart n => exact kept_execGeneratorRestart n s
  | i2sLoss k => exact kept_execI2sLoss k s
  | i2sGlitch k bclk => exact kept_execI2sGlitch k bclk s
  | i2sRateError k ppm => exact kept_execI2sRateError k ppm s
  | i2sQualified k => exact kept_execI2sQualified k s
  | frameReceived n smd bytes aborted => exact kept_execFrameReceived n smd bytes aborted s
  | fragmentReceived n smd bytes aborted => exact kept_execFragmentReceived n smd bytes aborted s
  | statusReceived n arg => exact kept_execStatusReceived n arg s
  | frameSent n cut => exact kept_execFrameSent n cut s
  | statusSent n => exact kept_execStatusSent n s
  | classifierWrite m => exact kept_execClassifierWrite m s
  | classifierRead m => exact kept_execClassifierRead m s
  | rxContextEnable m x v => exact kept_execRxContextEnable m x v s
  | packetDeadline x => exact kept_execPacketDeadline x s
  | legLoss x leg => exact kept_execLegLoss x leg s
  | lineRelease x ts line => exact kept_execLineRelease x ts line s
  | txContextEnable m y v => exact kept_execTxContextEnable m y v s
  | txContextStart y => exact kept_execTxContextStart y s
  | packetDeparture y k => exact kept_execPacketDeparture y k s
  | announce n domain port dataset mac ip utc log => exact kept_execAnnounce n domain port dataset mac ip utc log s
  | sync n domain port seq twoStep origin corr lane => exact kept_execSync n domain port seq twoStep origin corr lane s
  | followUp n domain port seq origin corr => exact kept_execFollowUp n domain port seq origin corr s
  | delayReq n => exact kept_execDelayReq n s
  | delayResp n domain port seq t4 corr => exact kept_execDelayResp n domain port seq t4 corr s
  | announceTimeout n => exact kept_execAnnounceTimeout n s
  | servoEvaluation n => exact kept_execServoEvaluation n s
  | accept m n => exact kept_execAccept m n s
  | ptpRestart m n => exact kept_execPtpRestart m n s
  | deviceTimeRead m => exact kept_execDeviceTimeRead m s
  | planPositionRead m p => exact kept_execPlanPositionRead m p s
  | headStart h => exact kept_execHeadStart h s
  | headStop h => exact kept_execHeadStop h s
  | latchDecision h => exact kept_execLatchDecision h s
  | flip h => exact kept_execFlip h s
  | underrun h j => exact kept_execUnderrun h j s
  | lutDataWrite m h v => exact kept_execLutDataWrite m h v s
  | tileRowComplete h => exact kept_execTileRowComplete h s
  | regionPushPacket h => exact kept_execRegionPushPacket h s
  | regionPushFrameEnd h => exact kept_execRegionPushFrameEnd h s
  | verdict d => exact kept_execVerdict d s
  | rgenAdvance => exact kept_execRgenAdvance s
  | recordSelect m v => exact kept_execRecordSelect m v s
  | booksClose => exact kept_execBooksClose s
  | ledgerCheck => exact kept_execLedgerCheck s
  | ledgerEccError => exact kept_execLedgerEccError s
  | epochRequest m => exact kept_execEpochRequest m s
  | epochStart => exact kept_execEpochStart s
  | hold m => exact kept_execHold m s
  | release m => exact kept_execRelease m s
  | ledgerSelect m v => exact kept_execLedgerSelect m v s
  | markRead m => exact kept_execMarkRead m s
  | stateSent claimIn => exact kept_execStateSent claimIn s
  | stateReceived len crc groups => exact kept_execStateReceived len crc groups s
  | mirrorLinkDown => exact kept_execMirrorLinkDown s
  | mirrorLinkUp => exact kept_execMirrorLinkUp s
  | journalEntry m addr len data => exact kept_execJournalEntry m addr len data s
  | journalStallRelease => exact kept_execJournalStallRelease s
  | journalReceived len crc groups => exact kept_execJournalReceived len crc groups s
  | journalApply => exact kept_execJournalApply s
  | oprecReceived len r result groups => exact kept_execOprecReceived len r result groups s
  | effectReceived len r kind frame line words => exact kept_execEffectReceived len r kind frame line words s
  | ckptReceived len crc groups => exact kept_execCkptReceived len crc groups s
  | tokenRenew => exact kept_execTokenRenew s
  | tokenLapse => exact kept_execTokenLapse s
  | fenceWaitExpiry => exact kept_execFenceWaitExpiry s
  | claimInLow => exact kept_execClaimInLow s
  | fenceIn => exact kept_execFenceIn s
  | takeoverComplete => exact kept_execTakeoverComplete s
  | unfence m => exact kept_execUnfence m s
  | goSolo m => exact kept_execGoSolo m s
  | catchup m => exact kept_execCatchup m s
  | catchupCapture => exact kept_execCatchupCapture s
  | imageReceived len memory part last => exact kept_execImageReceived len memory part last s
  | catchupInstall => exact kept_execCatchupInstall s
  | mailRecord len crc groups => exact kept_execMailRecord len crc groups s
  | mailRecordAck len crc groups => exact kept_execMailRecordAck len crc groups s
  | ringRecord len crc groups => exact kept_execRingRecord len crc groups s
  | mirrorMailSend r => exact kept_execMirrorMailSend r s
  | credit n src count => exact kept_execCredit n src count s
  | hello n addr far twin mode inc => exact kept_execHello n addr far twin mode inc s
  | route n src entries near => exact kept_execRoute n src entries near s
  | routeExpiry a => exact kept_execRouteExpiry a s
  | heartbeat n dest src hops term frame digest excluded phase => exact kept_execHeartbeat n dest src hops term frame digest excluded phase s
  | heartbeatMissed => exact kept_execHeartbeatMissed s
  | election => exact kept_execElection s
  | exclude a => exact kept_execExclude a s
  | leaseReq n dest src hops id dur prio index free srcDev slots => exact kept_execLeaseReq n dest src hops id dur prio index free srcDev slots s
  | leaseAns n dest src hops id status e => exact kept_execLeaseAns n dest src hops id status e s
  | leaseUpd n dest src hops id addr index e runs => exact kept_execLeaseUpd n dest src hops id addr index e runs s
  | leaseSync n dest src hops copy => exact kept_execLeaseSync n dest src hops copy s
  | inherit n dest src hops failed => exact kept_execInherit n dest src hops failed s
  | feed n dest src hops k run => exact kept_execFeed n dest src hops k run s
  | select n dest src hops k ch id => exact kept_execSelect n dest src hops k ch id s
  | selectAck n dest src hops ch width => exact kept_execSelectAck n dest src hops ch width s
  | record n dest src hops ch tag rgen digest checks valid damaged => exact kept_execRecord n dest src hops ch tag rgen digest checks valid damaged s
  | audio n dest src hops m ticks => exact kept_execAudio n dest src hops m ticks s
  | mail n dest src hops q code words => exact kept_execMail n dest src hops q code words s
  | mailAck n dest src hops q code => exact kept_execMailAck n dest src hops q code s
  | fabricMailSend r => exact kept_execFabricMailSend r s
  | watchdogExpiry => exact kept_execWatchdogExpiry s
  | coreFault => exact kept_execCoreFault s
  | mgtCtrlRestart m => exact kept_execMgtCtrlRestart m s
  | boot store dropped other => exact kept_execBoot store dropped other s
  | sensorUpdate idx reading => exact kept_execSensorUpdate idx reading s
  | alarmRaise idx => exact kept_execAlarmRaise idx s
  | alarmClear idx => exact kept_execAlarmClear idx s
  | logFlush error => exact kept_execLogFlush error s
  | sensorRead => exact kept_execSensorRead s
  | threshSet => exact kept_execThreshSet s
  | logRead => exact kept_execLogRead s
  | storeRead => exact kept_execStoreRead s
  | storeLoad bytes fail => exact kept_execStoreLoad bytes fail s
  | otpRead => exact kept_execOtpRead s
  | otpBankWrite bytes fail stuck => exact kept_execOtpBankWrite bytes fail stuck s
  | otpBoardWrite stuck => exact kept_execOtpBoardWrite stuck s
  | keyInstall stuck => exact kept_execKeyInstall stuck s
  | keyRevoke stuck => exact kept_execKeyRevoke stuck s
  | ping => exact kept_execPing s
  | updBegin => exact kept_execUpdBegin s
  | updChunk bytes fail => exact kept_execUpdChunk bytes fail s
  | updVerify => exact kept_execUpdVerify s
  | verifyDone => exact kept_execVerifyDone s
  | updActivate => exact kept_execUpdActivate s
  | updAbort => exact kept_execUpdAbort s
  | updConfirm => exact kept_execUpdConfirm s
  | updConfirmKey m key => exact kept_execUpdConfirmKey m key s
  | autoConfirm => exact kept_execAutoConfirm s
  | healthWindowExpiry => exact kept_execHealthWindowExpiry s
  | mbxPost m c => exact kept_execMbxPost m c s
  | mbxFree m c => exact kept_execMbxFree m c s
  | doorbellSet m b bits => exact kept_execDoorbellSet m b bits s
  | doorbellClear m b bits => exact kept_execDoorbellClear m b bits s
  | doorbellMask m b mask => exact kept_execDoorbellMask m b mask s
  | cbsFrameReceived bytes => exact kept_execCbsFrameReceived bytes s
  | cbsTransmit => exact kept_execCbsTransmit s
  | collision late => exact kept_execCollision late s
  | backoffExpiry => exact kept_execBackoffExpiry s
  | perst => exact kept_execPerst s
  | endpointReady speed width => exact kept_execEndpointReady speed width s
  | linkDown => exact kept_execLinkDown s
  | functionLevelReset f => exact kept_execFunctionLevelReset f s
  | d3hotEntry f => exact kept_execD3hotEntry f s
  | lockAcquire m n => exact kept_execLockAcquire m n s
  | lockRelease m n => exact kept_execLockRelease m n s
  | registerWrite m addr len data => exact kept_execRegisterWrite m addr len data s
  | ppsOutEdge => exact kept_execPpsOutEdge s
  | ppsInEdge => exact kept_execPpsInEdge s
  | testLogicReset => exact kept_execTestLogicReset s
  | extest levels cells => exact kept_execExtest levels cells s
  | idcode => exact kept_execIdcode s
  | samplePreload levels cells => exact kept_execSamplePreload levels cells s
  | clamp => exact kept_execClamp s
  | highz => exact kept_execHighz s
  | bypass => exact kept_execBypass s
  | devreset => exact kept_execDevreset s
  | dbgaccRead w => exact kept_execDbgaccRead w s
  | dbgaccWrite w v => exact kept_execDbgaccWrite w v s
  | dbgaccCapture => exact kept_execDbgaccCapture s
  | fenceInReleased => exact kept_execFenceInReleased s
  | d3hotExit f => exact kept_execD3hotExit f s
  | lutDataRead m h => exact kept_execLutDataRead m h s
  | i2sFrameReceived k left right => exact kept_execI2sFrameReceived k left right s
  | inputFrameComplete idx => exact kept_execInputFrameComplete idx s
  | caskEccError => exact kept_execCaskEccError s
  | proofStoreEccError id out age => exact kept_execProofStoreEccError id out age s
  | dbgaccDone => exact kept_execDbgaccDone s

/-- Settles O1: the queue's front is what `step` matches on. -/
theorem stepRunsTheFrontCommand : Obligations.StepRunsTheFrontCommand := by
  unfold Obligations.StepRunsTheFrontCommand
  intro c s
  rfl

theorem step_of_pending_nil {s : State} (h : s.pending = []) : step s = .next { s with now := s.now + 12 } := by
  rw [step, h]

theorem step_of_pending_cons {s : State} {c : Instr} {l : List Instr} (h : s.pending = c :: l) :
    step s = exec c { s with pending := l } := by
  rw [step, h]

/-- Settles O2. -/
theorem anEmptyQueueLetsTimePass : Obligations.AnEmptyQueueLetsTimePass := by
  unfold Obligations.AnEmptyQueueLetsTimePass
  intro s h
  exact step_of_pending_nil h

/-- Settles O4: the reset state lists no register, OTP byte or cellar byte that differs from its unlisted value. -/
theorem resetMemoryIsCanonical : Obligations.ResetMemoryIsCanonical := by
  unfold Obligations.ResetMemoryIsCanonical
  rfl

/-- Settles O6: the part of `exec_kept` about the queue and the time. -/
theorem everyCommandCompletesAndKeepsQueueAndTime : Obligations.EveryCommandCompletesAndKeepsQueueAndTime := by
  unfold Obligations.EveryCommandCompletesAndKeepsQueueAndTime
  intro c s
  obtain ⟨t, hexec, hkept⟩ := exec_kept c s
  exact ⟨t, hexec, hkept.pending, hkept.now⟩

/-- Settles O5: the idle step changes no store, and a command in front keeps their canonical form by `exec_kept`. -/
theorem everyStepKeepsTheCanonicalForm : Obligations.EveryStepKeepsTheCanonicalForm := by
  unfold Obligations.EveryStepKeepsTheCanonicalForm
  intro s t hcanon hstep
  cases hpending : s.pending with
  | nil =>
    rw [step_of_pending_nil hpending] at hstep
    cases hstep
    exact hcanon
  | cons c l =>
    obtain ⟨u, hexec, hkept⟩ := exec_kept c { s with pending := l }
    rw [step_of_pending_cons hpending, hexec] at hstep
    cases hstep
    exact hkept.canon hcanon

end Sys2Proof.Machine
end
section
/-! SUPPORT. The racker instruction words: every format's fields read back what the word was put together from, and the other way round
(Table 08-1). -/

namespace Sys2Proof.Machine

/-- The opcode of the instruction has its format and every field fits its bits; what `wf` says beside `legal`. -/
def RckInstr.fits : RckInstr → Prop
  | .regs op rd ra rb => rckFormat op = some .A ∧ op < 64 ∧ rd < 32 ∧ ra < 32 ∧ rb < 32
  | .imm op rd ra x => rckFormat op = some .I ∧ op < 64 ∧ rd < 32 ∧ ra < 32 ∧ x < 2 ^ 16
  | .time op rd ra _ x => rckFormat op = some .T ∧ op < 64 ∧ rd < 32 ∧ ra < 32 ∧ x < 2 ^ 15
  | .rout op rd ra rb _ x => rckFormat op = some .X ∧ op < 64 ∧ rd < 32 ∧ ra < 32 ∧ rb < 32 ∧ x < 2 ^ 10
  | .sync op rd ra rb x => rckFormat op = some .S ∧ op < 64 ∧ rd < 32 ∧ ra < 32 ∧ rb < 32 ∧ x < 2 ^ 8

theorem RckInstr.wf_iff (i : RckInstr) : i.wf = true ↔ i.fits ∧ i.legal = true := by
  cases i <;>
    simp only [RckInstr.wf, Bool.and_eq_true, decide_eq_true_eq, beq_iff_eq] <;>
    simp only [RckInstr.fits, RckInstr.op, RckInstr.rd, RckInstr.ra, RckInstr.rb, Nat.zero_lt_succ] <;>
    tauto

theorem ofBool_lt_two (b : Bool) : ofBool b < 2 := by cases b <;> decide

/-- One bit of a word, read back where it was put. -/
theorem bit_of_div_mod {w k : Nat} {b : Bool} (h : w / 2 ^ k % 2 = ofBool b) : bit w k = b := by
  cases b <;> simp [bit, h, ofBool]

theorem ofBool_bit (w k : Nat) : ofBool (bit w k) = w / 2 ^ k % 2 := by
  have := Nat.mod_two_eq_zero_or_one (w / 2 ^ k)
  simp only [bit, ofBool]
  rcases this with h | h <;> simp [h]

theorem rckEncode_lt {i : RckInstr} (h : i.fits) : rckEncode i < 2 ^ 32 := by
  cases i with
  | regs => obtain ⟨-, _, _, _, _⟩ := h; simp only [rckEncode]; omega
  | imm => obtain ⟨-, _, _, _, _⟩ := h; simp only [rckEncode]; omega
  | time op rd ra r x => obtain ⟨-, _, _, _, _⟩ := h; have := ofBool_lt_two r; simp only [rckEncode]; omega
  | rout op rd ra rb m x => obtain ⟨-, _, _, _, _, _⟩ := h; have := ofBool_lt_two m; simp only [rckEncode]; omega
  | sync => obtain ⟨-, _, _, _, _, _⟩ := h; simp only [rckEncode]; omega

/-- A word whose fields are those of an instruction that fits is cut into that instruction. -/
theorem rckFields_of {w : Nat} {i : RckInstr} (hfits : i.fits) (hop : w / 2 ^ 26 % 64 = i.op) (hrd : w / 2 ^ 21 % 32 = i.rd)
    (hra : w / 2 ^ 16 % 32 = i.ra)
    (hrest : match i with
      | .regs _ _ _ rb => w / 2 ^ 11 % 32 = rb ∧ w % 2 ^ 11 = 0
      | .imm _ _ _ x => w % 2 ^ 16 = x
      | .time _ _ _ r x => w / 2 ^ 15 % 2 = ofBool r ∧ w % 2 ^ 15 = x
      | .rout _ _ _ rb m x => w / 2 ^ 11 % 32 = rb ∧ w / 2 ^ 10 % 2 = ofBool m ∧ w % 2 ^ 10 = x
      | .sync _ _ _ rb x => w / 2 ^ 11 % 32 = rb ∧ w / 2 ^ 8 % 8 = 0 ∧ w % 2 ^ 8 = x) : rckFields w = some i := by
  cases i with
  | regs =>
    obtain ⟨hrb, hzero⟩ := hrest
    simp only [rckFields, rckOp, hop, RckInstr.op, hfits.1, if_pos hzero, hrd, hra, hrb, RckInstr.rd, RckInstr.ra]
  | imm => simp only [rckFields, rckOp, hop, RckInstr.op, hfits.1, hrd, hra, hrest, RckInstr.rd, RckInstr.ra]
  | time =>
    obtain ⟨hr, hx⟩ := hrest
    simp only [rckFields, rckOp, hop, RckInstr.op, hfits.1, hrd, hra, bit_of_div_mod hr, hx, RckInstr.rd, RckInstr.ra]
  | rout =>
    obtain ⟨hrb, hm, hx⟩ := hrest
    simp only [rckFields, rckOp, hop, RckInstr.op, hfits.1, hrd, hra, hrb, bit_of_div_mod hm, hx, RckInstr.rd, RckInstr.ra]
  | sync =>
    obtain ⟨hrb, hzero, hx⟩ := hrest
    simp only [rckFields, rckOp, hop, RckInstr.op, hfits.1, if_pos hzero, hrd, hra, hrb, hx, RckInstr.rd, RckInstr.ra]

theorem rckFields_rckEncode {i : RckInstr} (h : i.fits) : rckFields (rckEncode i) = some i := by
  have hfits := h
  cases i with
  | regs =>
    obtain ⟨-, _, _, _, _⟩ := h
    refine rckFields_of hfits ?_ ?_ ?_ ⟨?_, ?_⟩ <;> simp only [rckEncode, RckInstr.op, RckInstr.rd, RckInstr.ra] <;> omega
  | imm =>
    obtain ⟨-, _, _, _, _⟩ := h
    refine rckFields_of hfits ?_ ?_ ?_ ?_ <;> simp only [rckEncode, RckInstr.op, RckInstr.rd, RckInstr.ra] <;> omega
  | time op rd ra r x =>
    obtain ⟨-, _, _, _, _⟩ := h
    have := ofBool_lt_two r
    refine rckFields_of hfits ?_ ?_ ?_ ⟨?_, ?_⟩ <;> simp only [rckEncode, RckInstr.op, RckInstr.rd, RckInstr.ra] <;> omega
  | rout op rd ra rb m x =>
    obtain ⟨-, _, _, _, _, _⟩ := h
    have := ofBool_lt_two m
    refine rckFields_of hfits ?_ ?_ ?_ ⟨?_, ?_, ?_⟩ <;> simp only [rckEncode, RckInstr.op, RckInstr.rd, RckInstr.ra] <;> omega
  | sync =>
    obtain ⟨-, _, _, _, _, _⟩ := h
    refine rckFields_of hfits ?_ ?_ ?_ ⟨?_, ?_, ?_⟩ <;> simp only [rckEncode, RckInstr.op, RckInstr.rd, RckInstr.ra] <;> omega

/-- The fields that a word of 32 bits is cut into fit, and put together again they are that word. -/
theorem fits_and_rckEncode_of_rckFields {w : Nat} {i : RckInstr} (hw : w < 2 ^ 32) (h : rckFields w = some i) : i.fits ∧ rckEncode i = w := by
  cases hformat : rckFormat (rckOp w) with
  | none => simp only [rckFields, hformat, reduceCtorEq] at h
  | some format =>
    have hop : rckOp w < 64 := Nat.mod_lt _ (by decide)
    cases format <;> simp only [rckFields, hformat, Option.ite_none_right_eq_some, Option.some.injEq] at h
    case A =>
      obtain ⟨hzero, rfl⟩ := h
      exact ⟨⟨hformat, hop, by omega, by omega, by omega⟩, by simp only [rckEncode, rckOp]; omega⟩
    case I =>
      subst h
      exact ⟨⟨hformat, hop, by omega, by omega, by omega⟩, by simp only [rckEncode, rckOp]; omega⟩
    case T =>
      subst h
      exact ⟨⟨hformat, hop, by omega, by omega, by omega⟩, by simp only [rckEncode, rckOp, ofBool_bit]; omega⟩
    case X =>
      subst h
      exact ⟨⟨hformat, hop, by omega, by omega, by omega, by omega⟩, by simp only [rckEncode, rckOp, ofBool_bit]; omega⟩
    case S =>
      obtain ⟨hzero, rfl⟩ := h
      exact ⟨⟨hformat, hop, by omega, by omega, by omega, by omega⟩, by simp only [rckEncode, rckOp]; omega⟩

theorem rckDecode_eq_some_iff (w : Nat) (i : RckInstr) : rckDecode w = some i ↔ rckFields w = some i ∧ i.legal = true := by
  cases h : rckFields w with
  | none => simp [rckDecode, h]
  | some j =>
    simp only [rckDecode, h, Option.ite_none_right_eq_some, Option.some.injEq]
    constructor
    · rintro ⟨hlegal, rfl⟩
      exact ⟨rfl, hlegal⟩
    · rintro ⟨rfl, hlegal⟩
      exact ⟨hlegal, rfl⟩

/-- Settles O7: the fields of an instruction that fit are read back format by format. -/
theorem rackerWordsDecodeToWhatTheyEncode : Obligations.RackerWordsDecodeToWhatTheyEncode := by
  unfold Obligations.RackerWordsDecodeToWhatTheyEncode
  intro i hwf
  obtain ⟨hfits, hlegal⟩ := i.wf_iff.1 hwf
  exact ⟨rckEncode_lt hfits, (rckDecode_eq_some_iff _ i).2 ⟨rckFields_rckEncode hfits, hlegal⟩⟩

/-- Settles O8: no format leaves a bit of its word out of the fields. -/
theorem rackerWordsHaveOneReading : Obligations.RackerWordsHaveOneReading := by
  unfold Obligations.RackerWordsHaveOneReading
  intro w i hw hdecode
  obtain ⟨hfields, hlegal⟩ := (rckDecode_eq_some_iff w i).1 hdecode
  obtain ⟨hfits, hencode⟩ := fits_and_rckEncode_of_rckFields hw hfields
  exact ⟨i.wf_iff.2 ⟨hfits, hlegal⟩, hencode⟩

/-- Settles O9. -/
theorem knownRackerWordsDecode : Obligations.KnownRackerWordsDecode := by
  unfold Obligations.KnownRackerWordsDecode
  decide

end Sys2Proof.Machine
end
section
/-! SUPPORT. The lane code: each stage of a receiver undoes the stage of the sender that it faces (R72 to R82). -/

namespace Sys2Proof.Machine

/-! ## The scrambler -/

/-- The bits scrambled so far stand before those that follow, and have no part in them. -/
theorem scrambleBits_acc (k d scr acc : Nat) :
    scrambleBits k d scr acc = ((scrambleBits k d scr 0).1, acc * 2 ^ k + (scrambleBits k d scr 0).2) := by
  induction k generalizing scr acc with
  | zero => simp only [scrambleBits, pow_zero, mul_one, add_zero]
  | succ k ih =>
    simp only [scrambleBits]
    rw [ih, ih (acc := 0 * 2 + _)]
    simp only [Prod.mk.injEq, true_and]
    ring

theorem scrambleBits_lt (k d scr : Nat) : (scrambleBits k d scr 0).2 < 2 ^ k := by
  induction k generalizing scr with
  | zero => exact Nat.one_pos
  | succ k ih =>
    have hbit : (d / 2 ^ k + scr / 2 ^ 4 + scr / 2 ^ 46) % 2 < 2 := Nat.mod_lt _ (by decide)
    simp only [scrambleBits, Nat.zero_mul, Nat.zero_add]
    generalize (d / 2 ^ k + scr / 2 ^ 4 + scr / 2 ^ 46) % 2 = b at hbit ⊢
    rw [scrambleBits_acc, pow_succ 2 k]
    have hrest := ih ((scr * 2 + b) % 2 ^ 47)
    have hfirst : b * 2 ^ k ≤ 1 * 2 ^ k := Nat.mul_le_mul_right _ (by omega)
    dsimp only
    omega

/-- Adding a bit to a sum twice leaves the rest of the sum, modulo 2. -/
theorem descrambled_bit (d x y : Nat) : ((d + x + y) % 2 + x + y) % 2 = d % 2 := by omega

/-- The descrambler that starts in the scrambler's state gives back the payload and ends in the scrambler's new state (R79, R80);
`a` is what stands above the scrambled bits. -/
theorem descrambleBits_scrambleBits (k d scr a acc : Nat) :
    descrambleBits k (a * 2 ^ k + (scrambleBits k d scr 0).2) scr acc = ((scrambleBits k d scr 0).1, acc * 2 ^ k + d % 2 ^ k) := by
  induction k generalizing scr a acc with
  | zero => simp only [descrambleBits, scrambleBits, pow_zero, mul_one, Nat.mod_one, add_zero]
  | succ k ih =>
    have hbit : (d / 2 ^ k + scr / 2 ^ 4 + scr / 2 ^ 46) % 2 < 2 := Nat.mod_lt _ (by decide)
    have hout := descrambled_bit (d / 2 ^ k) (scr / 2 ^ 4) (scr / 2 ^ 46)
    simp only [descrambleBits, scrambleBits, Nat.zero_mul, Nat.zero_add]
    generalize (d / 2 ^ k + scr / 2 ^ 4 + scr / 2 ^ 46) % 2 = b at hbit hout ⊢
    rw [scrambleBits_acc]
    have hlow := scrambleBits_lt k d ((scr * 2 + b) % 2 ^ 47)
    have hword : a * 2 ^ (k + 1) + (b * 2 ^ k + (scrambleBits k d ((scr * 2 + b) % 2 ^ 47) 0).2) =
        (a * 2 + b) * 2 ^ k + (scrambleBits k d ((scr * 2 + b) % 2 ^ 47) 0).2 := by ring
    have hb : ((a * 2 + b) * 2 ^ k + (scrambleBits k d ((scr * 2 + b) % 2 ^ 47) 0).2) / 2 ^ k % 2 = b := by
      rw [Nat.mul_comm, Nat.mul_add_div (Nat.two_pow_pos k), Nat.div_eq_of_lt hlow]
      omega
    rw [hword, hb, ih, hout, Nat.mod_pow_succ (x := d)]
    simp only [Prod.mk.injEq, true_and]
    ring

/-! ## Precoding and Gray mapping -/

theorem deprecode_precode {p : Nat} (l : List Nat) (hp : p < 4) (hl : ∀ g ∈ l, g < 4) : deprecode p (precode p l) = l := by
  induction l generalizing p with
  | nil => rfl
  | cons g l ih =>
    have hg : g < 4 := hl g List.mem_cons_self
    have hhead : ((g + 4 - p) % 4 + p) % 4 = g := by omega
    rw [precode, deprecode, hhead, ih (Nat.mod_lt _ (by decide)) fun x hx => hl x (List.mem_cons_of_mem g hx)]

theorem lt_four_of_mem_precode {p x : Nat} {l : List Nat} (h : x ∈ precode p l) : x < 4 := by
  induction l generalizing p with
  | nil => cases h
  | cons g l ih =>
    rcases List.mem_cons.1 h with rfl | h
    · exact Nat.mod_lt _ (by decide)
    · exact ih h

theorem grayOf_lt (x : Nat) : grayOf x < 4 := by
  unfold grayOf
  split <;> decide

theorem pairOf_grayOf {x : Nat} (h : x < 4) : pairOf (grayOf x) = x := by
  interval_cases x <;> rfl

/-- The nine bit pairs of an 18-bit image, Gray-mapped and back, make up the image again (R75). -/
theorem foldl_pairOf_groupPairs {g : Nat} (h : g < 2 ^ 18) : ((groupPairs g).map grayOf).foldl (fun a x => a * 4 + pairOf x) 0 = g := by
  have hpair (k : Nat) : pairOf (grayOf (g / 2 ^ k % 4)) = g / 2 ^ k % 4 := pairOf_grayOf (Nat.mod_lt _ (by decide))
  simp only [groupPairs, rangeFrom, List.map_cons, List.map_nil, List.foldl_cons, List.foldl_nil, hpair]
  omega

/-- A receiver that holds the sender's last symbol reads the 18-bit image back from its symbols (R76, R78). -/
theorem rawGroup_imageSymbols {p g : Nat} (hp : p < 4) (hg : g < 2 ^ 18) : rawGroup false p (imageSymbols false p g) = g := by
  have hgray : ∀ x ∈ (groupPairs g).map grayOf, x < 4 := by
    intro x hx
    obtain ⟨y, -, rfl⟩ := List.mem_map.1 hx
    exact grayOf_lt y
  have hpre : deprecode p (imageSymbols false p g) = (groupPairs g).map grayOf := deprecode_precode _ hp hgray
  rw [rawGroup, if_neg Bool.false_ne_true, hpre, foldl_pairOf_groupPairs hg]

/-! ## Inversion and polarity -/

theorem chooseImage_cases (h : LaneH) (g : Nat) : chooseImage false h g = g ∨ chooseImage false h g = groupInverse g := by
  unfold chooseImage
  split
  · exact .inr rfl
  · exact .inl rfl

/-- The receiver's reading of an 18-bit image: the complemented candidate is complemented back (R82). -/
def uninverted (raw : Nat) : Nat := if raw / 2 ^ 17 % 2 = 1 then 2 ^ 17 - 1 - raw % 2 ^ 17 else raw % 2 ^ 17

theorem chooseImage_lt (h : LaneH) {g : Nat} (hg : g < 2 ^ 17) : chooseImage false h g < 2 ^ 18 := by
  rcases chooseImage_cases h g with hc | hc <;> rw [hc]
  · omega
  · simp only [groupInverse]; omega

/-- Whichever candidate is sent, its reading is the image with I = 0 (R81, R82). -/
theorem uninverted_chooseImage (h : LaneH) {g : Nat} (hg : g < 2 ^ 17) : uninverted (chooseImage false h g) = g := by
  rcases chooseImage_cases h g with hc | hc <;> rw [hc, uninverted]
  · rw [if_neg (by omega)]; omega
  · rw [groupInverse, if_pos (by omega)]; omega

theorem groupImage_lt (control : Bool) (payload : Nat) : groupImage control payload < 2 ^ 17 := by
  have := ofBool_lt_two control
  simp only [groupImage]
  omega

theorem groupImage_payload (control : Bool) (payload : Nat) : groupImage control payload % 2 ^ 16 = payload % 2 ^ 16 := by
  simp only [groupImage]
  omega

theorem groupImage_kind (control : Bool) (payload : Nat) : (groupImage control payload / 2 ^ 16 % 2 == 1) = control :=
  bit_of_div_mod (k := 16) (by have := ofBool_lt_two control; simp only [groupImage]; omega)

theorem upright_inverted {sym : List Nat} (h : ∀ x ∈ sym, x < 4) : upright true (sym.map (3 - ·)) = sym := by
  have hback : ∀ x ∈ sym, 3 - (3 - x) = x := fun x hx => by have := h x hx; omega
  simp only [upright, if_true, List.map_map]
  exact (List.map_congr_left hback).trans (List.map_id' sym)

/-! ## A whole group -/

/-- Receiving in terms of the image that the symbols carry. -/
theorem receiveGroup_upright {sym : List Nat} {h : LaneH} {control : Bool} {payload : Nat}
    (himage : uninverted (rawGroup false h.pRx sym) = groupImage control payload) :
    receiveGroup false sym h =
      ({ h with
          scrRx := (if control then (h.scrRx, payload % 2 ^ 16) else descrambleBits 16 (payload % 2 ^ 16) h.scrRx 0).1
          pRx := sym.getLastD h.pRx },
        control, (if control then (h.scrRx, payload % 2 ^ 16) else descrambleBits 16 (payload % 2 ^ 16) h.scrRx 0).2) := by
  unfold uninverted at himage
  simp only [receiveGroup, receiveGroupBy, upright, Bool.false_eq_true, if_false, himage, groupImage_kind, groupImage_payload]

/-- The symbols of a group carry the image of its kind flag and its scrambled payload. -/
theorem uninverted_rawGroup_imageSymbols (control : Bool) (payload : Nat) {h : LaneH} (hp : h.pTx < 4) :
    uninverted (rawGroup false h.pTx (imageSymbols false h.pTx (chooseImage false h (groupImage control payload)))) =
      groupImage control payload := by
  have himage := groupImage_lt control payload
  rw [rawGroup_imageSymbols hp (chooseImage_lt h himage), uninverted_chooseImage h himage]

theorem lt_four_of_mem_sendGroup {control : Bool} {payload x : Nat} {h : LaneH} (hx : x ∈ (sendGroup control payload h).2) : x < 4 :=
  lt_four_of_mem_precode hx

theorem receiveGroup_sendGroup (control : Bool) {payload : Nat} {h k : LaneH} (hpay : payload < 2 ^ 16) (hp : h.pTx < 4)
    (hscr : k.scrRx = h.scrTx) (hpre : k.pRx = h.pTx) :
    receiveGroup false (sendGroup control payload h).2 k =
      ({ k with scrRx := (sendGroup control payload h).1.scrTx, pRx := (sendGroup control payload h).1.pTx }, control, payload) := by
  have hmod : payload % 2 ^ 16 = payload := Nat.mod_eq_of_lt hpay
  cases control with
  | true =>
    have himage := uninverted_rawGroup_imageSymbols true (payload % 2 ^ 16) hp
    rw [← hpre] at himage
    simp only [sendGroup, if_true, LaneH.sent]
    rw [← hpre, receiveGroup_upright himage]
    simp only [if_true, hscr, hmod]
  | false =>
    have himage := uninverted_rawGroup_imageSymbols false (scrambleBits 16 payload h.scrTx 0).2 hp
    have hscrambled := scrambleBits_lt 16 payload h.scrTx
    have hback := descrambleBits_scrambleBits 16 payload h.scrTx 0 0
    rw [← hpre] at himage
    simp only [sendGroup, Bool.false_eq_true, if_false, LaneH.sent]
    rw [← hpre, receiveGroup_upright himage]
    simp only [Nat.zero_mul, Nat.zero_add] at hback
    simp only [Bool.false_eq_true, if_false, hscr, Nat.mod_eq_of_lt hscrambled, hback, hmod]

/-- Settles O10: stage by stage the receiver undoes the sender; inverted symbols are put right first and then received alike. -/
theorem laneCodeRoundTrip : Obligations.LaneCodeRoundTrip := by
  unfold Obligations.LaneCodeRoundTrip
  intro control payload h k hpay hp hscr hpre
  refine ⟨receiveGroup_sendGroup control hpay hp hscr hpre, ?_⟩
  have hupright := upright_inverted fun x (hx : x ∈ (sendGroup control payload h).2) => lt_four_of_mem_sendGroup hx
  simp only [receiveGroup, receiveGroupBy, hupright]
  rfl

end Sys2Proof.Machine
end
section
/-! SUPPORT. The rules of a racker's state: what raising an event, a resynchronisation, the retiring of an instruction and a trap change in the
words and in the racker's hidden record, and what they leave. -/

namespace Sys2Proof.Machine

variable (s : State)

/-- A bit that is raised changes no field beside it, of its own register or of another. -/
theorem State.rd_raise_apart {f g : Field} (h : f.lo + f.width ≤ 32) (hd : g.lo + g.width ≤ f.lo ∨ f.lo + f.width ≤ g.lo)
    (hl : g.addr ≠ MGT_LOG_LOST) : (s.raise f).rd g = s.rd g := by
  have hw (t : State) : (t.wr f 1).rd g = t.rd g := State.rd_wr_apart _ 1 h hd
  have hc (t : State) (b e x : Nat) : (t.capture b e x).rd g = t.rd g := by simp only [State.rd, State.word_capture _ _ _ _ hl]
  have hm (t : State) (k : Nat) : (t.sendMsix k).rd g = t.rd g := by simp only [State.rd, State.word_sendMsix]
  have hn : (s.noteEvent f).rd g = s.rd g := rfl
  simp only [State.raise, State.raiseArg, State.setEvent]
  repeat' split
  all_goals simp only [hw, hc, hm, hn]

theorem State.rckH_of_rck {s t : State} (h : t.rck = s.rck) (q : Nat) : t.rckH q = s.rckH q := by
  simp only [State.rckH, h]

@[simp] theorem State.rckH_raise (f : Field) (q : Nat) : (s.raise f).rckH q = s.rckH q := State.rckH_of_rck (s.rck_raise f) q
@[simp] theorem State.rckH_bump (f : Field) (q : Nat) : (s.bump f).rckH q = s.rckH q := (rfl)
@[simp] theorem State.rckH_setGreg (r n : Nat) (v : Word) (q : Nat) : (s.setGreg r n v).rckH q = s.rckH q := (rfl)

/-! ## Resynchronisation -/

theorem State.rckH_resync_ne {r q : Nat} (h : q ≠ r) : (s.resync r).rckH q = s.rckH q := by
  unfold State.resync
  split
  · exact (State.rckH_raise _ _ q).trans (s.rckH_setRckH_ne _ h)
  · rfl

/-- It moves P alone. -/
theorem State.rckH_resync (r : Nat) : (s.resync r).rckH r = { s.rckH r with p := ((s.resync r).rckH r).p } := by
  unfold State.resync
  split
  · have h := (State.rckH_raise (s.setRckH r { s.rckH r with p := s.now }) (RCK_STATUS_PT_RESYNC r) r).trans (s.rckH_setRckH r _)
    simp only [State.rckH] at h ⊢
    rw [h]
  · rfl

@[simp] theorem State.journal_resync (r : Nat) : (s.resync r).twn.journal = s.twn.journal := by
  unfold State.resync
  split
  · show ((s.setRckH r _).raise _).twn.journal = s.twn.journal
    rw [State.twn_raise, State.twn_setRckH]
  · rfl

/-! ## Retiring -/

theorem State.retire_eq (r cycles : Nat) : s.retire r cycles = s.retireTo r cycles (s.pc r + 1) := (rfl)

/-- Going on elsewhere changes no other word than the racker's PC and its status. -/
theorem State.word_retireTo (r cycles i : Nat) {a : Nat} (hpc : a ≠ RCK_PC r) (hst : a ≠ RCK_STATUS r) :
    (s.retireTo r cycles i).word a = s.word a := by
  have hgoto : ((s.advance r cycles).goto r i).word a = s.word a := by
    rw [State.goto, State.word_wr_ne _ _ hpc, State.word_setRckH, State.advance, State.word_setRckH]
  rw [State.retireTo, State.boundary]
  split <;> rw [State.word_wr_ne _ _ hst] <;> exact hgoto

/-- Nor does it change a field of the status register but STATE. -/
theorem State.rd_retireTo (r cycles i : Nat) {f : Field} (hpc : f.addr ≠ (RCK_PC_PC r).addr) (hf : 3 ≤ f.lo) :
    (s.retireTo r cycles i).rd f = s.rd f := by
  have hgoto : ((s.advance r cycles).goto r i).rd f = s.rd f := by
    rw [State.goto, State.rd_wr_ne _ _ hpc, State.rd_setRckH, State.advance, State.rd_setRckH]
  rw [State.retireTo, State.boundary]
  split <;> rw [State.rd_wr_apart _ _ (by norm_num) (.inr (by exact hf))] <;> exact hgoto

theorem State.rckH_retireTo_ne {r q : Nat} (cycles i : Nat) (h : q ≠ r) : (s.retireTo r cycles i).rckH q = s.rckH q := by
  rw [State.retireTo, State.boundary, State.goto, State.advance]
  split <;> simp only [State.rckH_wr, State.rckH_setRckH_ne _ _ h]

/-- Of the racker's own record it moves P, marks a PC past the end and ends a step. -/
theorem State.rckH_retireTo (r cycles i : Nat) : (s.retireTo r cycles i).rckH r =
    { s.rckH r with p := (s.rckH r).p + cycles * s.rckPeriod, pcOver := decide (16383 < i), stepping := false } := by
  rw [State.retireTo, State.boundary, State.goto, State.advance]
  split
  · simp only [State.rckH_wr, State.rckH_setRckH]
  next h =>
    simp only [State.rckH_wr, State.rckH_setRckH, Bool.not_eq_true] at h ⊢
    rw [← h]

theorem State.pc_retireTo (r cycles i : Nat) : (s.retireTo r cycles i).pc r = i % 2 ^ 14 := by
  have hst : (RCK_PC_PC r).addr ≠ (RCK_STATUS_STATE r).addr := by simp only [RCK_PC, RCK_STATUS]; omega
  have hgoto : ((s.advance r cycles).goto r i).rd (RCK_PC_PC r) = i % 2 ^ 14 := State.rd_wr_same _ _ _ (by norm_num)
  rw [State.pc, State.retireTo, State.boundary]
  split <;> rw [State.rd_wr_ne _ _ hst] <;> exact hgoto

theorem State.rckPeriod_of_regs {s t : State} (h : t.regs = s.regs) : t.rckPeriod = s.rckPeriod := by
  rw [State.rckPeriod, State.rckPeriod, State.rd, State.rd, State.word, State.word, h]

/-- The general registers lie apart from a racker's PC and status. -/
theorem State.greg_retireTo (r cycles i : Nat) {n : Nat} (hn : n < 32) : (s.retireTo r cycles i).greg r n = s.greg r n := by
  have hpc : RCK_GREG r n ≠ RCK_PC r := by simp only [RCK_GREG, RCK_PC]; omega
  have hst : RCK_GREG r n ≠ RCK_STATUS r := by simp only [RCK_GREG, RCK_STATUS]; omega
  exact s.word_retireTo r cycles i hpc hst

end Sys2Proof.Machine
end
section
/-! SUPPORT. The branches, the trap entry and its return, the arithmetic and the stores of a racker: what they change and what they leave
(R291, R298, R302, R305, R306). -/

namespace Sys2Proof.Machine

variable {s u : State} {r : Fin 16} {i : RckInstr}

/-! ## Branches -/

theorem State.branch_outside (s : State) (r : Nat) (f : State → State) {target : Int} (h : target < 0 ∨ 16383 < target) :
    s.branch r target f = s.trap r 2 0 := if_pos h

theorem State.branch_inside (s : State) (r : Nat) (f : State → State) {target : Int} (h0 : 0 ≤ target) (h1 : target ≤ 16383) :
    s.branch r target f = (f s).retireTo r 2 target.toNat := if_neg (by omega)

/-- The command, the opcode and the target of a branch that is taken: BC whose condition holds, CALL, JR or RET. -/
def TakenBranch (u : State) (r : Fin 16) (i : RckInstr) (c : Instr) (target : Int) : Prop :=
  (c, i.op) = (.bc r, 0x20) ∧ condHolds (u.rckH r).flags i.rd = true ∧ target = u.pc r + signedOf 16 i.immediate ∨
    (c, i.op) = (.call r, 0x21) ∧ target = u.pc r + signedOf 16 i.immediate ∨
    (c, i.op) = (.jr r, 0x22) ∧ target = (u.greg r i.ra).toNat ∨
    (c, i.op) = (.ret r, 0x23) ∧ target = (u.rckH r).lnk

/-- Each of them is the one branch operation, and what it does besides sets LNK for CALL and nothing for the others. -/
theorem exec_of_takenBranch {c : Instr} {target : Int} (hissues : s.Issues r i) (hu : u = s.resync r) (h : TakenBranch u r i c target) :
    ∃ f : State → State, exec c s = .next (u.branch r target f) ∧ (f u).regs = u.regs ∧
      (f u).rckH r = { u.rckH r with lnk := if i.op = 0x21 then (u.pc r + 1) % 2 ^ 14 else (u.rckH r).lnk } := by
  subst hu
  rcases h with ⟨h, hcond, rfl⟩ | ⟨h, rfl⟩ | ⟨h, rfl⟩ | ⟨h, rfl⟩ <;> obtain ⟨rfl, hop⟩ := Prod.mk.inj h
  · refine ⟨id, ?_, rfl, by simp [hop]⟩
    rw [exec_bc, execBc, s.issue_of hissues hop, if_pos hcond, State.relTarget]
  · refine ⟨fun u => u.setRckH r { u.rckH r with lnk := (u.pc r + 1) % 2 ^ 14 }, ?_, rfl, by simp [hop]⟩
    rw [exec_call, execCall, s.issue_of hissues hop, State.relTarget]
  · refine ⟨id, ?_, rfl, by simp [hop]⟩
    rw [exec_jr, execJr, s.issue_of hissues hop]
  · refine ⟨id, ?_, rfl, by simp [hop]⟩
    rw [exec_ret, execRet, s.issue_of hissues hop]

/-- Settles O20: the four branches are one operation, which checks the target once. -/
theorem branchesStayInProgramMemory : Obligations.BranchesStayInProgramMemory := by
  unfold Obligations.BranchesStayInProgramMemory
  intro s u r i c target hissues hu htaken
  obtain ⟨f, hexec, hregs, hrck⟩ := exec_of_takenBranch hissues hu htaken
  have hword (a : Nat) : (f u).word a = u.word a := by rw [State.word, State.word, hregs]
  refine ⟨fun hout => by rw [hexec, u.branch_outside r f hout], fun h0 h1 => ?_⟩
  refine ⟨(f u).retireTo r 2 target.toNat, by rw [hexec, u.branch_inside r f h0 h1], ?_, ?_, ?_, ?_, fun n hn => ?_, fun k hk => ?_⟩
  · rw [State.pc_retireTo]
    omega
  · rw [State.rckH_retireTo, hrck, State.rckPeriod_of_regs hregs]
  · rw [State.rckH_retireTo, hrck]
  · rw [State.rckH_retireTo, hrck]
  · rw [State.greg_retireTo _ _ _ _ hn]
    exact hword _
  · have hpc : RCK_DM r k ≠ RCK_PC r := by simp only [RCK_DM, RCK_PC]; omega
    have hst : RCK_DM r k ≠ RCK_STATUS r := by simp only [RCK_DM, RCK_STATUS]; omega
    rw [State.word_retireTo _ _ _ _ hpc hst, hword]

/-! ## TRAP and RETT -/

/-- A trap of class Handler outside a handler, with the trap vector enabled, up to the jump to the vector. -/
def State.trapEntry (u : State) (r cause arg : Nat) : State :=
  let index := u.pc r
  let t := (((u.wr (RCK_STATUS_TRAP_CAUSE r) cause).wr (RCK_TRAP_PC_PC r) index).bump (RCK_CNT_COUNT r 5)).raise (RCK_STATUS_TRAP r)
  (t.setRckH r { t.rckH r with trapInfo := index + cause * 2 ^ 16 + (if cause = 11 then arg * 2 ^ 24 else 0) }).wr (RCK_STATUS_IN_HANDLER r) 1

/-- The words that entering the handler writes before the jump. -/
theorem State.word_trapEntry (u : State) (r cause arg : Nat) {a : Nat} (hst : a ≠ RCK_STATUS r) (hpc : a ≠ RCK_TRAP_PC r)
    (hcnt : a ≠ RCK_CNT r 5) (hlog : a ≠ MGT_LOG_LOST) : (u.trapEntry r cause arg).word a = u.word a := by
  rw [State.trapEntry, State.word_wr_ne _ _ hst, State.word_setRckH, State.word_raise _ hst hlog, State.bump, State.bumpBy,
    State.word_wr_ne _ _ hcnt, State.word_wr_ne _ _ hpc, State.word_wr_ne _ _ hst]

theorem State.rckH_trapEntry (u : State) (r cause arg : Nat) : (u.trapEntry r cause arg).rckH r =
    { u.rckH r with trapInfo := u.pc r + cause * 2 ^ 16 + (if cause = 11 then arg * 2 ^ 24 else 0) } := by
  rw [State.trapEntry, State.rckH_wr, State.rckH_setRckH, State.rckH_raise, State.rckH_bump, State.rckH_wr, State.rckH_wr]

/-- Neither do they reach the racker's configuration and vector. -/
theorem State.trap_of_vectored (u : State) (r : Fin 16) {cause : Nat} (arg : Nat) (hhandler : u.on (RCK_STATUS_IN_HANDLER r) = false)
    (hvec : u.on (RCK_CFG_TRAP_VEC_EN r) = true) (h5 : 5 ≤ cause) (h11 : cause ≤ 11) :
    u.trap r cause arg = (u.trapEntry r cause arg).retireTo r 4 (u.rd (RCK_TRAP_VEC_VEC r)) := by
  have hkeeps {f : Field} (hst : f.addr ≠ RCK_STATUS r) (hpc : f.addr ≠ RCK_TRAP_PC r) (hcnt : f.addr ≠ RCK_CNT r 5)
      (hlog : f.addr ≠ MGT_LOG_LOST) :
      ((((u.wr (RCK_STATUS_TRAP_CAUSE r) cause).wr (RCK_TRAP_PC_PC r) (u.pc r)).bump (RCK_CNT_COUNT r 5)).raise (RCK_STATUS_TRAP r)).rd f =
        u.rd f := by
    rw [State.rd_raise _ hst hlog, State.bump, State.bumpBy, State.rd_wr_ne _ _ hcnt, State.rd_wr_ne _ _ hpc, State.rd_wr_ne _ _ hst]
  have hcfg := hkeeps (f := RCK_CFG_TRAP_VEC_EN r) (by simp only [RCK_CFG, RCK_STATUS]; omega) (by simp only [RCK_CFG, RCK_TRAP_PC]; omega)
    (by simp only [RCK_CFG, RCK_CNT]; omega) (by simp only [RCK_CFG, MGT_LOG_LOST]; omega)
  have hvector := hkeeps (f := RCK_TRAP_VEC_VEC r) (by simp only [RCK_TRAP_VEC, RCK_STATUS]; omega)
    (by simp only [RCK_TRAP_VEC, RCK_TRAP_PC]; omega) (by simp only [RCK_TRAP_VEC, RCK_CNT]; omega)
    (by simp only [RCK_TRAP_VEC, MGT_LOG_LOST]; omega)
  have hon : State.on (((((u.wr (RCK_STATUS_TRAP_CAUSE r) cause).wr (RCK_TRAP_PC_PC r) (u.pc r)).bump (RCK_CNT_COUNT r 5)).raise
      (RCK_STATUS_TRAP r))) (RCK_CFG_TRAP_VEC_EN r) = true := by rw [State.on, hcfg]; exact hvec
  simp only [State.trap, hhandler, Bool.false_eq_true, if_false, h5, h11, hon, true_and, if_true, State.rd_setRckH, hvector]
  rfl

theorem exec_trap_of_issues (hissues : s.Issues r i) (hop : i.op = 0x24) :
    exec (.trap r false) s = .next (((s.resync r).advance r 4).trap r 11 i.immediate) := by
  obtain ⟨hruns, hover, hdecode⟩ := hissues
  have hformat : rckFormat (rckOp (s.fetchWord r)) = some .I := by rw [← rckDecode_op hdecode, hop]; rfl
  rw [exec_trap, execTrap, State.issue_of s ⟨hruns, hover, hdecode⟩ hop]
  simp [hruns, hover, hformat]

theorem exec_rett_of_issues (hissues : s.Issues r i) (hop : i.op = 0x25) (hhandler : (s.resync r).on (RCK_STATUS_IN_HANDLER r) = true) :
    exec (.rett r) s = .next (((s.resync r).wr (RCK_STATUS_IN_HANDLER r) 0).retireTo r 2 (((s.resync r).rckH r).trapInfo % 2 ^ 14 + 1)) := by
  rw [exec_rett, execRett, s.issue_of hissues hop, if_pos hhandler]

/-- The general registers lie apart from what the entry writes. -/
theorem State.greg_trapEntry (u : State) (r : Fin 16) (cause arg : Nat) {n : Nat} (hn : n < 32) :
    (u.trapEntry r cause arg).greg r n = u.greg r n := by
  refine u.word_trapEntry r cause arg ?_ ?_ ?_ ?_
  · simp only [RCK_GREG, RCK_STATUS]; omega
  · simp only [RCK_GREG, RCK_TRAP_PC]; omega
  · simp only [RCK_GREG, RCK_CNT]; omega
  · simp only [RCK_GREG, MGT_LOG_LOST]; omega

theorem State.rckPeriod_trapEntry (u : State) (r : Fin 16) (cause arg : Nat) : (u.trapEntry r cause arg).rckPeriod = u.rckPeriod := by
  have hword : (u.trapEntry r cause arg).word SYN_STATUS = u.word SYN_STATUS := by
    refine u.word_trapEntry r cause arg ?_ ?_ ?_ (by decide)
    · simp only [SYN_STATUS, RCK_STATUS]; omega
    · simp only [SYN_STATUS, RCK_TRAP_PC]; omega
    · simp only [SYN_STATUS, RCK_CNT]; omega
  rw [State.rckPeriod, State.rckPeriod, State.rd, State.rd, hword]

/-- TRAP_CAUSE, TRAP_PC and IN_HANDLER after the entry. -/
theorem State.status_trapEntry (u : State) (r : Fin 16) {cause : Nat} (arg : Nat) (h : cause < 16) :
    (u.trapEntry r cause arg).rd (RCK_STATUS_TRAP_CAUSE r) = cause ∧ (u.trapEntry r cause arg).rd (RCK_TRAP_PC_PC r) = u.pc r ∧
      (u.trapEntry r cause arg).rd (RCK_STATUS_IN_HANDLER r) = 1 := by
  have hpc : u.pc r < 2 ^ 14 := Nat.mod_lt _ (by norm_num)
  have htrapPc : (RCK_TRAP_PC_PC r).addr ≠ RCK_STATUS r := by simp only [RCK_TRAP_PC, RCK_STATUS]; omega
  have hcntPc : (RCK_TRAP_PC_PC r).addr ≠ (RCK_CNT_COUNT r 5).addr := by simp only [RCK_TRAP_PC, RCK_CNT]; omega
  have hcntSt : (RCK_STATUS_TRAP_CAUSE r).addr ≠ (RCK_CNT_COUNT r 5).addr := by simp only [RCK_STATUS, RCK_CNT]; omega
  have hlogPc : (RCK_TRAP_PC_PC r).addr ≠ MGT_LOG_LOST := by simp only [RCK_TRAP_PC, MGT_LOG_LOST]; omega
  have hlogSt : (RCK_STATUS_TRAP_CAUSE r).addr ≠ MGT_LOG_LOST := by simp only [RCK_STATUS, MGT_LOG_LOST]; omega
  refine ⟨?_, ?_, State.rd_wr_same _ _ _ (by norm_num)⟩
  · rw [State.trapEntry, State.rd_wr_apart _ _ (by norm_num) (by norm_num), State.rd_setRckH,
      State.rd_raise_apart _ (by norm_num) (by norm_num) hlogSt, State.bump, State.bumpBy, State.rd_wr_ne _ _ hcntSt,
      State.rd_wr_ne _ _ (Ne.symm htrapPc), State.rd_wr_same _ _ _ (by norm_num)]
    exact Nat.mod_eq_of_lt h
  · rw [State.trapEntry, State.rd_wr_ne _ _ htrapPc, State.rd_setRckH, State.rd_raise _ htrapPc hlogPc, State.bump, State.bumpBy,
      State.rd_wr_ne _ _ hcntPc, State.rd_wr_same _ _ _ (by norm_num)]
    exact Nat.mod_eq_of_lt hpc

/-- Settles O27: the entry is one write sequence before a jump, and RETT is a jump too. -/
theorem trapsEnterTheirHandler : Obligations.TrapsEnterTheirHandler := by
  unfold Obligations.TrapsEnterTheirHandler
  intro s u r i hissues hu
  subst hu
  have hstPc : RCK_STATUS r ≠ RCK_PC r := by simp only [RCK_STATUS, RCK_PC]; omega
  have htrapPc : (RCK_TRAP_PC_PC r).addr ≠ RCK_PC r := by simp only [RCK_TRAP_PC, RCK_PC]; omega
  have htrapSt : (RCK_TRAP_PC_PC r).addr ≠ RCK_STATUS r := by simp only [RCK_TRAP_PC, RCK_STATUS]; omega
  refine ⟨fun hop hhandler hvec => ?_, fun hop hhandler hindex => ?_⟩
  · generalize hw : (s.resync r).advance r 4 = w
    have hrck : w.rckH r = { (s.resync r).rckH r with p := ((s.resync r).rckH r).p + 4 * (s.resync r).rckPeriod } := by
      rw [← hw, State.advance, State.rckH_setRckH]
    have hregs : w.regs = (s.resync r).regs := by rw [← hw, State.regs_advance]
    have hrd (f : Field) : w.rd f = (s.resync r).rd f := by rw [State.rd, State.rd, State.word, State.word, hregs]
    have hword (a : Nat) : w.word a = (s.resync r).word a := by rw [State.word, State.word, hregs]
    obtain ⟨hcause, hpc, hin⟩ := w.status_trapEntry r i.immediate (by decide : 11 < 16)
    refine ⟨(w.trapEntry r 11 i.immediate).retireTo r 4 (w.rd (RCK_TRAP_VEC_VEC r)), ?_, ?_, ?_, ?_, ?_, ?_, ?_, ?_, ?_, fun n hn => ?_⟩
    · rw [exec_trap_of_issues hissues hop, hw, w.trap_of_vectored r i.immediate (by rw [State.on, hrd]; exact hhandler)
        (by rw [State.on, hrd]; exact hvec) (by decide) (by decide)]
    · rw [State.rd_retireTo _ _ _ _ hstPc (by norm_num), hcause]
    · rw [State.rd, State.word_retireTo _ _ _ _ htrapPc htrapSt]
      exact hpc.trans (hrd _)
    · rw [State.on, State.rd_retireTo _ _ _ _ hstPc (by norm_num), hin]
      rfl
    · rw [State.pc_retireTo, hrd]
      exact Nat.mod_mod _ _
    · rw [State.rckH_retireTo, State.rckH_trapEntry, State.rckPeriod_trapEntry, hrck, State.rckPeriod_of_regs hregs]
      ring
    · rw [State.rckH_retireTo, State.rckH_trapEntry, State.pc, hrd]
      rfl
    · rw [State.rckH_retireTo, State.rckH_trapEntry, hrck]
    · rw [State.rckH_retireTo, State.rckH_trapEntry, hrck]
    · rw [State.greg_retireTo _ _ _ _ hn, State.greg_trapEntry _ _ _ _ hn, State.greg, hword, State.greg]
  · refine ⟨_, exec_rett_of_issues hissues hop hhandler, ?_, ?_, ?_, ?_, fun n hn => ?_⟩
    · rw [State.on, State.rd_retireTo _ _ _ _ hstPc (by norm_num), State.rd_wr_same _ _ _ (by norm_num)]
      rfl
    · rw [State.pc_retireTo]
      omega
    · rw [State.rckH_retireTo, State.rckH_wr]
    · rw [State.rckH_retireTo, State.rckH_wr]
    · have hgreg : RCK_GREG r n ≠ (RCK_STATUS_IN_HANDLER r).addr := by simp only [RCK_GREG, RCK_STATUS]; omega
      rw [State.greg_retireTo _ _ _ _ hn, State.greg, State.word_wr_ne _ _ hgreg, State.greg]

end Sys2Proof.Machine
end
section
/-! SUPPORT. The arithmetic of a racker and its data memory: what an instruction retires on, and all that it leaves (R298, R302). -/

namespace Sys2Proof.Machine

variable {s u w : State} {r : Fin 16} {i : RckInstr}

/-- The state on which an arithmetic instruction retires: of the words only its destination register differs, unless it compares, and of the
hidden state only the racker's flags. -/
structure ArithmeticResult (r : Nat) (i : RckInstr) (u w : State) : Prop where
  word : ∀ a, a ≠ RCK_GREG r i.rd ∨ i.op = 0x0A ∨ i.op = 0x12 → w.word a = u.word a
  others : ∀ q, q ≠ r → w.rckH q = u.rckH q
  own : ∃ f, w.rckH r = { u.rckH r with flags := f }
  fab : w.fab = u.fab
  twn : w.twn = u.twn
  cellar : w.cellar = u.cellar

/-- A destination and a setting of the flags are such a result for an instruction that is no compare. -/
theorem ArithmeticResult.setGreg (u : State) (r : Nat) (v : Word) (hop : i.op ≠ 0x0A ∧ i.op ≠ 0x12) :
    ArithmeticResult r i u (u.setGreg r i.rd v) where
  word a ha := u.word_setWord_ne v (by tauto)
  others _ _ := rfl
  own := ⟨(u.rckH r).flags, rfl⟩
  fab := rfl
  twn := rfl
  cellar := rfl

theorem ArithmeticResult.setFlags (h : ArithmeticResult r i u w) (f : RckFlags) : ArithmeticResult r i u (w.setFlags r f) where
  word a ha := h.word a ha
  others q hq := (w.rckH_setRckH_ne _ hq).trans (h.others q hq)
  own := by
    obtain ⟨g, hg⟩ := h.own
    exact ⟨f, by rw [State.setFlags, State.rckH_setRckH, hg]⟩
  fab := h.fab
  twn := h.twn
  cellar := h.cellar

theorem ArithmeticResult.refl (u : State) (r : Nat) (i : RckInstr) : ArithmeticResult r i u u where
  word _ _ := rfl
  others _ _ := rfl
  own := ⟨(u.rckH r).flags, rfl⟩
  fab := rfl
  twn := rfl
  cellar := rfl

/-! ## The shapes of the arithmetic instructions -/

section
variable {c : Instr} {op cycles : Nat} {res : Word → Word → Word} {fl : RckFlags → Word → Word → RckFlags} (hissues : s.Issues r i)
  (hop : i.op = op)
include hissues hop

theorem arithmeticResult_of_alu (hexec : exec c s = .next (s.issue r op fun i u => u.alu r i cycles res fl)) (hcmp : op ≠ 0x0A ∧ op ≠ 0x12) :
    ∃ w n, exec c s = .next (w.retire r n) ∧ ArithmeticResult r i (s.resync r) w :=
  ⟨_, cycles, hexec.trans (congrArg _ (s.issue_of hissues hop)), (ArithmeticResult.setGreg _ _ _ (hop ▸ hcmp)).setFlags _⟩

theorem arithmeticResult_of_aluImm {imm : RckInstr → Word}
    (hexec : exec c s = .next (s.issue r op fun i u => u.aluImm r i cycles res fl (imm i))) (hcmp : op ≠ 0x0A ∧ op ≠ 0x12) :
    ∃ w n, exec c s = .next (w.retire r n) ∧ ArithmeticResult r i (s.resync r) w :=
  ⟨_, cycles, hexec.trans (congrArg _ (s.issue_of hissues hop)), (ArithmeticResult.setGreg _ _ _ (hop ▸ hcmp)).setFlags _⟩

theorem arithmeticResult_of_compare {b : RckInstr → State → Word}
    (hexec : exec c s = .next (s.issue r op fun i u => u.compare r (u.greg r i.ra) (b i u))) :
    ∃ w n, exec c s = .next (w.retire r n) ∧ ArithmeticResult r i (s.resync r) w :=
  ⟨_, 1, hexec.trans (congrArg _ (s.issue_of hissues hop)), (ArithmeticResult.refl _ _ _).setFlags _⟩

theorem arithmeticResult_of_move {v : RckInstr → Word}
    (hexec : exec c s = .next (s.issue r op fun i u => (u.setGreg r i.rd (v i)).retire r 1)) (hcmp : op ≠ 0x0A ∧ op ≠ 0x12) :
    ∃ w n, exec c s = .next (w.retire r n) ∧ ArithmeticResult r i (s.resync r) w :=
  ⟨_, 1, hexec.trans (congrArg _ (s.issue_of hissues hop)), ArithmeticResult.setGreg _ _ _ (hop ▸ hcmp)⟩

end

/-- The commands of the arithmetic, logic, shift, compare and immediate-move instructions, each with its opcode (Table 08-3). -/
def arithmeticCommands (r : Fin 16) : List (Instr × Nat) :=
  [(.add r, 0x01), (.sub r, 0x02), (.and r, 0x03), (.or r, 0x04), (.xor r, 0x05), (.shl r, 0x06), (.shr r, 0x07), (.sar r, 0x08),
    (.mul r, 0x09), (.cmp r, 0x0A), (.addi r, 0x0B), (.andi r, 0x0C), (.ori r, 0x0D), (.xori r, 0x0E), (.shli r, 0x0F), (.shri r, 0x10),
    (.sari r, 0x11), (.cmpi r, 0x12), (.movi r, 0x13), (.lui r, 0x14)]

theorem exec_arithmetic {c : Instr} (hissues : s.Issues r i) (hc : (c, i.op) ∈ arithmeticCommands r) :
    ∃ w n, exec c s = .next (w.retire r n) ∧ ArithmeticResult r i (s.resync r) w := by
  simp only [arithmeticCommands, List.mem_cons, List.not_mem_nil, or_false, Prod.mk.injEq] at hc
  obtain ⟨rfl, hop⟩ | ⟨rfl, hop⟩ | ⟨rfl, hop⟩ | ⟨rfl, hop⟩ | ⟨rfl, hop⟩ | ⟨rfl, hop⟩ | ⟨rfl, hop⟩ | ⟨rfl, hop⟩ | ⟨rfl, hop⟩ | ⟨rfl, hop⟩ |
    ⟨rfl, hop⟩ | ⟨rfl, hop⟩ | ⟨rfl, hop⟩ | ⟨rfl, hop⟩ | ⟨rfl, hop⟩ | ⟨rfl, hop⟩ | ⟨rfl, hop⟩ | ⟨rfl, hop⟩ | ⟨rfl, hop⟩ | ⟨rfl, hop⟩ := hc
  · exact arithmeticResult_of_alu hissues hop (exec_add s r) (by decide)
  · exact arithmeticResult_of_alu hissues hop (exec_sub s r) (by decide)
  · exact arithmeticResult_of_alu hissues hop (exec_and s r) (by decide)
  · exact arithmeticResult_of_alu hissues hop (exec_or s r) (by decide)
  · exact arithmeticResult_of_alu hissues hop (exec_xor s r) (by decide)
  · exact arithmeticResult_of_alu hissues hop (exec_shl s r) (by decide)
  · exact arithmeticResult_of_alu hissues hop (exec_shr s r) (by decide)
  · exact arithmeticResult_of_alu hissues hop (exec_sar s r) (by decide)
  · exact arithmeticResult_of_alu hissues hop (exec_mul s r) (by decide)
  · exact arithmeticResult_of_compare hissues hop (exec_cmp s r)
  · exact arithmeticResult_of_aluImm hissues hop (exec_addi s r) (by decide)
  · exact arithmeticResult_of_aluImm hissues hop (exec_andi s r) (by decide)
  · exact arithmeticResult_of_aluImm hissues hop (exec_ori s r) (by decide)
  · exact arithmeticResult_of_aluImm hissues hop (exec_xori s r) (by decide)
  · exact arithmeticResult_of_aluImm hissues hop (exec_shli s r) (by decide)
  · exact arithmeticResult_of_aluImm hissues hop (exec_shri s r) (by decide)
  · exact arithmeticResult_of_aluImm hissues hop (exec_sari s r) (by decide)
  · exact arithmeticResult_of_compare hissues hop (exec_cmpi s r)
  · exact arithmeticResult_of_move hissues hop (exec_movi s r) (by decide)
  · exact arithmeticResult_of_move hissues hop (exec_lui s r) (by decide)

/-- The words from before the resynchronisation to after the retiring, but for those of the racker's status and PC and of the log's losses. -/
theorem State.word_retire_of_resync {a n : Nat} (hw : w.word a = (s.resync r).word a) (hst : a ≠ RCK_STATUS r) (hpc : a ≠ RCK_PC r)
    (hlog : a ≠ MGT_LOG_LOST) : (w.retire r n).word a = s.word a := by
  rw [State.word_retire _ _ _ hpc hst, hw, s.word_resync r hst hlog]

/-- Settles O21: each of the instructions retires on an arithmetic result, and the resynchronisation and the retiring touch only P, PC and STATUS. -/
theorem arithmeticLeavesEverythingElse : Obligations.ArithmeticLeavesEverythingElse := by
  unfold Obligations.ArithmeticLeavesEverythingElse
  intro s r i c hissues hc
  obtain ⟨w, n, hexec, hresult⟩ := exec_arithmetic hissues hc
  obtain ⟨f, hown⟩ := hresult.own
  have hrck : (w.retire r n).rckH r =
      { s.rckH r with
        flags := f
        p := (w.rckH r).p + n * w.rckPeriod
        pcOver := decide (16383 < w.pc r + 1)
        stepping := false } := by
    rw [State.retire_eq, State.rckH_retireTo, hown, s.rckH_resync]
  refine ⟨_, hexec, fun a hst hpc hlog ha => State.word_retire_of_resync (hresult.word a ha) hst hpc hlog, fun q hq => ?_, by rw [hrck],
    by rw [hrck], by rw [hrck], by rw [hrck], ?_, ?_, ?_⟩
  · rw [State.retire_eq, State.rckH_retireTo_ne _ _ _ hq, hresult.others q hq, s.rckH_resync_ne hq]
  · rw [State.fab_retire, hresult.fab, State.fab_resync]
  · rw [State.twn_retire, hresult.twn, State.journal_resync]
  · rw [State.cellar_retire, hresult.cellar, State.cellar_resync]

/-! ## The loads and stores -/

theorem State.effAddr_resync (s : State) (hissues : s.Issues r i) : (s.resync r).effAddr r i = s.effAddr r i := by
  obtain ⟨hra, -⟩ := rckDecode_registers_lt hissues.2.2
  rw [State.effAddr, s.greg_resync r hra, State.effAddr]

/-- Settles O22: a good access passes its check, and moves one word before it retires. -/
theorem dataStoresChangeOneWord : Obligations.DataStoresChangeOneWord := by
  unfold Obligations.DataStoresChangeOneWord
  rintro s r i a hissues rfl hgood
  have ha := (s.effAddr_resync hissues).symm
  have hbytes : false = true → s.effAddr r i % 4 = 0 := fun h => absurd h Bool.false_ne_true
  refine ⟨fun hop halign => ?_, fun hop => ?_, fun hop halign => ?_, fun hop => ?_⟩
  · rw [exec_stw_of_issues false hissues rfl ha hop, State.dmAccess_good _ _ _ (fun _ => halign) hgood]
    exact ⟨_, rfl, fun x hx hst hpc hlog => State.word_retire_of_resync (State.word_setWord_ne _ _ hx) hst hpc hlog⟩
  · rw [exec_stb_of_issues false hissues rfl ha hop, State.dmAccess_good _ _ _ hbytes hgood]
    exact ⟨_, rfl, fun x hx hst hpc hlog => State.word_retire_of_resync (State.word_setWord_ne _ _ hx) hst hpc hlog⟩
  · rw [exec_ldw_of_issues false hissues rfl ha hop, State.dmAccess_good _ _ _ (fun _ => halign) hgood]
    exact ⟨_, rfl, fun x hx hst hpc hlog => State.word_retire_of_resync (State.word_setWord_ne _ _ hx) hst hpc hlog⟩
  · rw [exec_ldb_of_issues false hissues rfl ha hop, State.dmAccess_good _ _ _ hbytes hgood]
    exact ⟨_, rfl, fun x hx hst hpc hlog => State.word_retire_of_resync (State.word_setWord_ne _ _ hx) hst hpc hlog⟩

end Sys2Proof.Machine
end
section
/-! SUPPORT. The leases that the device decides itself: what a request and a release leave in the lease's registers, and the status with
which LEASE and FREE retire (R271 to R274). -/

namespace Sys2Proof.Machine

variable {s u : State}

/-! ## The lease's registers -/

theorem State.word_bookIn (u : State) (c i n a : Nat) : (u.bookIn c i n).word a = u.word a := by rw [State.word, State.regs_bookIn]; rfl
theorem State.word_bookOut (u : State) (c i n : Nat) (k : Col) (a : Nat) : (u.bookOut c i k n).word a = u.word a := by
  rw [State.word, State.regs_bookOut]; rfl

/-- A lease that is held is not decided by its expiry register. -/
theorem leaseH_ne_leaseE (i k : Nat) : RCK_LEASE_H i ≠ RCK_LEASE_E k := by simp only [RCK_LEASE_H, RCK_LEASE_E]; omega

section
variable (u : State) (i holder dev e : Nat)

theorem State.held_grantLease : (u.grantLease i holder dev e).on (RCK_LEASE_H_HELD i) = true := by
  rw [State.on, State.grantLease, State.rd_wr_ne _ _ (leaseH_ne_leaseE i i), State.rd_wr_same _ _ _ (by norm_num)]
  rfl

theorem State.holder_grantLease : (u.grantLease i holder dev e).rd (RCK_LEASE_H_HOLDER i) = holder % 2 ^ 5 := by
  rw [State.grantLease, State.rd_wr_ne _ _ (leaseH_ne_leaseE i i), State.rd_wr_apart _ _ (by norm_num) (by norm_num),
    State.rd_wr_apart _ _ (by norm_num) (by norm_num), State.rd_wr_same _ _ _ (by norm_num)]

theorem State.expiry_grantLease : (u.grantLease i holder dev e).rd (RCK_LEASE_E_EXPIRY i) = e % 2 ^ 32 := by
  rw [State.grantLease, State.rd_wr_same _ _ _ (by norm_num), wrap32, Nat.mod_mod]

theorem State.held_endLease (k : Col) : (u.endLease i k).on (RCK_LEASE_H_HELD i) = false := by
  rw [State.on, State.endLease, State.rd_wr_same _ _ _ (by norm_num)]
  rfl

end

/-! ## Requests and releases -/

/-- A lease that is free or not due stays as it is. -/
theorem State.expireLease_same {i : Nat} (h : (u.on (RCK_LEASE_H_HELD i) && u.leaseDue i) = false) : u.expireLease i = u := by
  rw [State.expireLease, if_neg]
  rw [Bool.and_eq_false_iff] at h
  rcases h with h | h <;> simp [h]

theorem State.leaseRequest_granted {holder i n prio : Nat} (hi : i < 96) (hn : 1 ≤ n ∧ n ≤ 65535)
    (hfree : u.on (RCK_LEASE_H_HELD i) = false ∨ u.rd (RCK_LEASE_H_HOLDER i) = holder)
    (hdue : (u.on (RCK_LEASE_H_HELD i) && u.leaseDue i) = false) (hbest : u.outbidLease i holder prio = false) :
    u.leaseRequest holder i n prio = (u.grantLease i holder 0 (u.frame0 + n), stDone) := by
  have hrange : ¬ (96 ≤ i ∨ n = 0 ∨ 65535 < n) := by omega
  have hmine : (!u.on (RCK_LEASE_H_HELD i) || u.rd (RCK_LEASE_H_HOLDER i) == holder) = true := by simpa using hfree
  simp only [State.leaseRequest, State.leaseLocal, State.expireLease_same hdue, hbest, Bool.false_eq_true, if_false, if_neg hrange, hmine, if_true]

theorem State.leaseRequest_busy {holder i n prio : Nat} (hi : i < 96) (hn : 1 ≤ n ∧ n ≤ 65535) (hheld : u.on (RCK_LEASE_H_HELD i) = true)
    (hother : u.rd (RCK_LEASE_H_HOLDER i) ≠ holder) (hdue : u.leaseDue i = false) : u.leaseRequest holder i n prio = (u, stBusy) := by
  have hrange : ¬ (96 ≤ i ∨ n = 0 ∨ 65535 < n) := by omega
  have hsame : u.expireLease i = u := State.expireLease_same (by rw [hdue, Bool.and_false])
  have htheirs : (!u.on (RCK_LEASE_H_HELD i) || u.rd (RCK_LEASE_H_HOLDER i) == holder) = false := by simp [hheld, hother]
  have hbest : u.outbidLease i holder prio = false := by simp [State.outbidLease, hheld]
  simp only [State.leaseRequest, State.leaseLocal, hsame, hbest, if_neg hrange, htheirs, Bool.false_eq_true, if_false]

theorem State.freeLocal_held {holder i : Nat} (hi : i < 96) (hheld : u.on (RCK_LEASE_H_HELD i) = true)
    (hmine : u.rd (RCK_LEASE_H_HOLDER i) = holder) (hdue : u.leaseDue i = false) :
    u.freeLocal holder i = (u.endLease i .delivered, stDone) := by
  have hsame : u.expireLease i = u := State.expireLease_same (by rw [hdue, Bool.and_false])
  simp [State.freeLocal, hsame, hheld, hmine, Nat.not_le.2 hi]

theorem State.freeLocal_denied {holder i : Nat} (hi : i < 96)
    (h : u.on (RCK_LEASE_H_HELD i) = false ∨ u.rd (RCK_LEASE_H_HOLDER i) ≠ holder ∧ u.leaseDue i = false) :
    u.freeLocal holder i = (u, stDenied) := by
  have hsame : u.expireLease i = u := State.expireLease_same (by rcases h with h | ⟨-, h⟩ <;> simp [h])
  have htheirs : (u.on (RCK_LEASE_H_HELD i) && u.rd (RCK_LEASE_H_HOLDER i) == holder) = false := by
    rcases h with h | ⟨h, -⟩ <;> simp [h]
  simp only [State.freeLocal, if_neg (Nat.not_le.2 hi), hsame, htheirs, Bool.false_eq_true, if_false]

/-! ## The instructions -/

section
variable {r : Fin 16} {i : RckInstr} {id n : Nat} (hissues : s.Issues r i) (hu : u = s.resync r) (hid : id = (u.greg r i.ra).toNat)
  (hlow : id < 96)
include hissues hu hid hlow

theorem exec_lease_of_issues (hn : n = (u.greg r i.rb).toNat) (ho : i.op = 0x38) (hrange : 1 ≤ n ∧ n ≤ 65535) {w : State} {st : Nat}
    (h : u.leaseRequest r id n (u.rd (RCK_CFG_PRIO r)) = (w, st)) :
    exec (.lease r) s = .next (((w.effect r 2 [id, n]).giveStatus r i.rd st).retire r 6) := by
  subst hu hid hn
  have hbad : ¬ (224 ≤ ((s.resync r).greg r i.ra).toNat ∨ ((s.resync r).greg r i.rb).toNat = 0 ∨ 65535 < ((s.resync r).greg r i.rb).toNat) := by
    omega
  rw [exec_lease, execLease, s.issue_of hissues ho]
  simp only [if_neg hbad, if_pos hlow, h]

theorem exec_free_of_issues (ho : i.op = 0x39) {w : State} {st : Nat} (h : u.freeLocal r id = (w, st)) :
    exec (.free r) s = .next (((w.effect r 3 [id]).giveStatus r i.rd st).retire r 6) := by
  subst hu hid
  have hfabric : ¬ 224 ≤ ((s.resync r).greg r i.ra).toNat := by omega
  rw [exec_free, execFree, s.issue_of hissues ho]
  simp only [if_neg hfabric, if_pos hlow, h]

end

/-- The report of a status to the twin and to the racker changes no word but the destination register, PC and the racker's status. -/
theorem State.word_effect_giveStatus_retire (u : State) {r a rd : Nat} (kind st cycles : Nat) (words : List Nat) (hpc : a ≠ RCK_PC r)
    (hst : a ≠ RCK_STATUS r) (hrd : a ≠ RCK_GREG r rd) :
    (((u.effect r kind words).giveStatus r rd st).retire r cycles).word a = u.word a := by
  rw [State.word_retire _ _ _ hpc hst, State.giveStatus, State.setFlags, State.word_setRckH, State.setGreg, State.word_setWord_ne _ _ hrd,
    State.word_effect]

theorem State.greg_effect_giveStatus_retire (u : State) {r rd : Nat} (kind st cycles : Nat) (words : List Nat) (hrd : rd < 32) :
    (((u.effect r kind words).giveStatus r rd st).retire r cycles).greg r rd = BitVec.ofNat 32 st := by
  rw [State.retire_eq, State.greg_retireTo _ _ _ _ hrd, State.greg, State.giveStatus, State.setFlags, State.word_setRckH, State.setGreg,
    State.word_setWord_same]

/-- The lease registers lie apart from those of every racker. -/
theorem lease_apart {r : Fin 16} {rd k : Nat} (hrd : rd < 32) (hk : k < 256) {a : Nat} (ha : a = RCK_LEASE_H k ∨ a = RCK_LEASE_E k) :
    a ≠ RCK_PC r ∧ a ≠ RCK_STATUS r ∧ a ≠ RCK_GREG r rd := by
  simp only [RCK_PC, RCK_STATUS, RCK_GREG, RCK_LEASE_H, RCK_LEASE_E] at *
  omega

theorem rd_lt_of_fits {i : RckInstr} (h : i.fits) : i.rd < 32 := by
  cases i with
  | regs => exact h.2.2.1
  | imm => exact h.2.2.1
  | time => exact h.2.2.1
  | rout => exact h.2.2.1
  | sync => exact h.2.2.1

/-- The destination of an instruction that a racker issues is one of its registers. -/
theorem State.Issues.rd_lt {r : Fin 16} {i : RckInstr} (h : s.Issues r i) : i.rd < 32 :=
  rd_lt_of_fits (fits_and_rckEncode_of_rckFields (s.word (RCK_PM r (s.pc r))).isLt ((rckDecode_eq_some_iff _ i).1 h.2.2).1).1

/-- Settles O19: what the request or the release leaves in the lease's registers is still there when the status has been given. -/
theorem localLeasesAreGrantedAndFreed : Obligations.LocalLeasesAreGrantedAndFreed := by
  unfold Obligations.LocalLeasesAreGrantedAndFreed
  intro s u r i id n hissues hu hid hn hlow
  have hrd : i.rd < 32 := hissues.rd_lt
  have hword (w : State) (kind st : Nat) (words : List Nat) {k a : Nat} (hk : k < 256) (ha : a = RCK_LEASE_H k ∨ a = RCK_LEASE_E k) :
      (((w.effect r kind words).giveStatus r i.rd st).retire r 6).word a = w.word a := by
    obtain ⟨hpc, hst, hgreg⟩ := lease_apart (r := r) hrd hk ha
    exact w.word_effect_giveStatus_retire kind st 6 words hpc hst hgreg
  have hid256 : id < 256 := by omega
  refine ⟨fun ho hn1 hn2 hfree hdue hbest => ?_, fun ho hn1 hn2 hheld hother hdue => ?_, fun ho hheld hmine hdue => ?_, fun ho h => ?_⟩
  · have hrun := exec_lease_of_issues hissues hu hid hlow hn ho ⟨hn1, hn2⟩ (State.leaseRequest_granted hlow ⟨hn1, hn2⟩ hfree hdue hbest)
    have hr : r.val % 2 ^ 5 = r := Nat.mod_eq_of_lt (by omega)
    refine ⟨_, hrun, ?_, ?_, ?_, State.greg_effect_giveStatus_retire _ _ _ _ _ hrd⟩
    · rw [State.on, State.rd, hword _ _ _ _ hid256 (.inl rfl)]
      exact u.held_grantLease id r 0 _
    · rw [State.rd, hword _ _ _ _ hid256 (.inl rfl)]
      exact (u.holder_grantLease id r 0 _).trans hr
    · rw [State.rd, hword _ _ _ _ hid256 (.inr rfl)]
      exact u.expiry_grantLease id r 0 _
  · have hrun := exec_lease_of_issues hissues hu hid hlow hn ho ⟨hn1, hn2⟩
      (State.leaseRequest_busy (prio := u.rd (RCK_CFG_PRIO r)) hlow ⟨hn1, hn2⟩ hheld hother hdue)
    exact ⟨_, hrun, hword _ _ _ _ hid256 (.inl rfl), hword _ _ _ _ hid256 (.inr rfl), State.greg_effect_giveStatus_retire _ _ _ _ _ hrd⟩
  · have hrun := exec_free_of_issues hissues hu hid hlow ho (State.freeLocal_held hlow hheld hmine hdue)
    refine ⟨_, hrun, ?_, State.greg_effect_giveStatus_retire _ _ _ _ _ hrd⟩
    rw [State.on, State.rd, hword _ _ _ _ hid256 (.inl rfl)]
    exact u.held_endLease id _
  · have hrun := exec_free_of_issues hissues hu hid hlow ho (State.freeLocal_denied hlow h)
    exact ⟨_, hrun, fun k hk => hword _ _ _ _ hk (.inl rfl), State.greg_effect_giveStatus_retire _ _ _ _ _ hrd⟩

end Sys2Proof.Machine
end
section
/-! SUPPORT. The one-time programmable memory: a bit that is blown stays blown (R616), and what a management command does beside its own effect
leaves every byte. -/

namespace Sys2Proof.Machine

/-- Every bit of the OTP that `s` has blown, `t` has blown too. -/
def KeepsBlown (s t : State) : Prop := ∀ a k, bit (s.otpByte a) k = true → bit (t.otpByte a) k = true

theorem KeepsBlown.of_otp {s t : State} (h : t.otp = s.otp) : KeepsBlown s t := fun a k hbit => by
  rwa [State.otpByte, h]

theorem KeepsBlown.refl (s : State) : KeepsBlown s s := fun _ _ h => h

theorem KeepsBlown.trans {r s t : State} (h : KeepsBlown r s) (k : KeepsBlown s t) : KeepsBlown r t :=
  fun a j hbit => k a j (h a j hbit)

/-! ## Blowing bits -/

/-- Adding a power of 2 whose bit is clear leaves every bit that is set: nothing is carried. -/
theorem bit_add_two_pow {v j k : Nat} (hclear : bit v k = false) (hset : bit v j = true) : bit (v + 2 ^ k) j = true := by
  simp only [bit, beq_iff_eq, beq_eq_false_iff_ne] at hclear hset ⊢
  rcases lt_trichotomy j k with hlt | rfl | hgt
  · obtain ⟨d, rfl⟩ := Nat.exists_eq_add_of_lt hlt
    have hpow : 2 ^ (j + d + 1) = 2 ^ j * (2 * 2 ^ d) := by ring
    rw [hpow, Nat.add_mul_div_left _ _ (Nat.two_pow_pos j)]
    omega
  · exact absurd hset hclear
  · obtain ⟨d, rfl⟩ := Nat.exists_eq_add_of_lt hgt
    have hdiv (x : Nat) : x / 2 ^ (k + d + 1) = x / 2 ^ k / 2 / 2 ^ d := by
      rw [Nat.div_div_eq_div_mul, Nat.div_div_eq_div_mul]
      congr 1
      ring
    have hcarry : (v / 2 ^ k + 1) / 2 = v / 2 ^ k / 2 := by omega
    rw [hdiv, Nat.add_div_right _ (Nat.two_pow_pos k), hcarry, ← hdiv, hset]

theorem keepsBlown_setOtpByte (s : State) {a k : Nat} (hclear : bit (s.otpByte a) k = false) :
    KeepsBlown s (s.setOtpByte a (s.otpByte a + 2 ^ k)) := fun b j hset => by
  by_cases hab : b = a
  · subst hab
    rw [State.setOtpByte, State.otpByte, storeGet_set_same]
    exact bit_add_two_pow hclear hset
  · rw [State.setOtpByte, State.otpByte, storeGet_set_ne _ _ _ hab]
    exact hset

/-- Blowing bits clears none, whichever take. -/
theorem keepsBlown_blow (s : State) (bits stuck : List Nat) : KeepsBlown s (s.blow bits stuck).1 := by
  simp only [State.blow, State.forL]
  induction bits generalizing s with
  | nil => exact KeepsBlown.refl s
  | cons k bits ih =>
    refine KeepsBlown.trans ?_ (ih _)
    beta_reduce
    split
    · exact KeepsBlown.refl s
    next h =>
      rw [Bool.or_eq_true, not_or, Bool.not_eq_true, Bool.not_eq_true] at h
      exact keepsBlown_setOtpByte s h.2

/-! ## The frame around a command -/

section
variable (s : State)

@[simp] theorem State.otp_mbxError (f : Field) (c : Nat) : (s.mbxError f c).otp = s.otp := by
  rw [State.mbxError, State.otp_raise, State.otp_wr]

@[simp] theorem State.otp_showChannel (c : Nat) : (s.showChannel c).otp = s.otp := by
  simp only [State.showChannel]
  cases chanBank c <;> simp only [State.otp_wr, State.otp_wrB]

@[simp] theorem State.otp_notifyMail (c : Nat) : (s.notifyMail c).otp = s.otp := by
  unfold State.notifyMail
  split
  · exact s.otp_rckEvent _ _
  · exact s.otp_sendMsix _
  · rfl

@[simp] theorem State.otp_postSlot (c code : Nat) : (s.postSlot c code).otp = s.otp := by
  simp only [State.postSlot]
  split
  · exact s.otp_mbxError _ _
  · simp only [State.otp_notifyMail, State.otp_showChannel, State.otp_bookIn, State.otp_wr, State.otp_setChnH]

@[simp] theorem State.otp_fillSlot (c : Nat) (words : List Nat) : (s.fillSlot c words).otp = s.otp :=
  State.forN_keeps (·.otp) (fun _ u => u.otp_setWord _ _) 64 s

@[simp] theorem State.otp_sendSlot (c code : Nat) (words : List Nat) : (s.sendSlot c code words).otp = s.otp := by
  unfold State.sendSlot
  split
  · rw [State.otp_postSlot, State.otp_fillSlot]
  · exact s.otp_postSlot _ _

@[simp] theorem State.otp_freeSlot (c : Nat) : (s.freeSlot c).otp = s.otp := by
  simp only [State.freeSlot]
  split
  · exact s.otp_mbxError _ _
  · simp only [State.otp_showChannel, State.otp_bookOut, State.otp_wr, State.otp_setChnH]

@[simp] theorem State.otp_takeCommand (c : Nat) : (s.takeCommand c).otp = s.otp := by
  unfold State.takeCommand
  split
  · rfl
  · exact s.otp_freeSlot c

@[simp] theorem State.otp_reply (c mac code seq status : Nat) (results : List Nat) : (s.reply c mac code seq status results).otp = s.otp := by
  unfold State.reply
  split
  · rfl
  · exact s.otp_sendSlot _ _ _

/-- A served command blows what its own effect blows, and clears no bit where that clears none. -/
theorem keepsBlown_serve (code : Nat) {run : Nat → List Nat → State → State × Nat × List Nat}
    (hrun : ∀ c words u, KeepsBlown u (run c words u).1) : KeepsBlown s (s.serve code false run) := by
  unfold State.serve
  split
  · exact KeepsBlown.refl s
  next c words mac _ =>
    have htake : KeepsBlown s (s.takeCommand c) := .of_otp (s.otp_takeCommand c)
    have hreply (u : State) (k seq status : Nat) (results : List Nat) : KeepsBlown u (u.reply c mac k seq status results) :=
      .of_otp (u.otp_reply c mac k seq status results)
    split
    · exact KeepsBlown.refl s
    dsimp only
    split
    · split
      · exact htake.trans (hreply _ _ _ _ _)
      split
      · exact htake.trans (hreply _ _ _ _ _)
      · exact (htake.trans (hrun c words _)).trans (hreply _ _ _ _ _)
    · exact KeepsBlown.refl s

theorem keepsBlown_otpDone (code a : Nat) (bits stuck : List Nat) : KeepsBlown s (s.otpDone code a bits stuck).1 := by
  have h : KeepsBlown s ((s.blow bits stuck).1.logOtp code a) := (keepsBlown_blow s bits stuck).trans (.of_otp (State.otp_capture _ _ _ _))
  simp only [State.otpDone]
  split <;> exact h

end

/-! ## The commands that write the OTP -/

section
variable (c : Nat) (words : List Nat) (u : State) (stuck : List Nat)

theorem keepsBlown_cmdOtpBankWrite (bytes : List Nat) (fail : Bool) : KeepsBlown u (u.cmdOtpBankWrite bytes fail stuck c words).1 := by
  simp only [State.cmdOtpBankWrite]
  split_ifs
  exacts [.refl u, .refl u, .refl u, .refl u, keepsBlown_otpDone u _ _ _ _]

theorem keepsBlown_cmdOtpBoardWrite : KeepsBlown u (u.cmdOtpBoardWrite stuck c words).1 := by
  simp only [State.cmdOtpBoardWrite]
  split
  · exact .refl u
  split
  · exact .refl u
  · exact keepsBlown_otpDone u _ _ _ _

theorem keepsBlown_cmdKeyInstall : KeepsBlown u (u.cmdKeyInstall stuck c words).1 := by
  simp only [State.cmdKeyInstall]
  split_ifs
  exacts [.refl u, .refl u, keepsBlown_otpDone u _ _ _ _]

theorem keepsBlown_cmdKeyRevoke : KeepsBlown u (u.cmdKeyRevoke stuck c words).1 := by
  simp only [State.cmdKeyRevoke]
  split_ifs
  exacts [.refl u, keepsBlown_otpDone u _ _ _ _]

end

/-- Settles O24: each of the commands is served, and answers with a refusal or blows bits. -/
theorem blownBitsStayBlown : Obligations.BlownBitsStayBlown := by
  unfold Obligations.BlownBitsStayBlown
  intro s t c bytes fail stuck hc hexec
  show KeepsBlown s t
  simp only [List.mem_cons, List.not_mem_nil, or_false] at hc
  rcases hc with rfl | rfl | rfl | rfl
  · rw [exec_otpBankWrite, execOtpBankWrite] at hexec
    cases hexec
    exact keepsBlown_serve s 0x26 fun c words u => keepsBlown_cmdOtpBankWrite c words u _ _ _
  · rw [exec_otpBoardWrite, execOtpBoardWrite] at hexec
    cases hexec
    exact keepsBlown_serve s 0x27 fun c words u => keepsBlown_cmdOtpBoardWrite c words u _
  · rw [exec_keyInstall, execKeyInstall] at hexec
    cases hexec
    exact keepsBlown_serve s 0x37 fun c words u => keepsBlown_cmdKeyInstall c words u _
  · rw [exec_keyRevoke, execKeyRevoke] at hexec
    cases hexec
    exact keepsBlown_serve s 0x35 fun c words u => keepsBlown_cmdKeyRevoke c words u _

end Sys2Proof.Machine
end
section
/-! SUPPORT. Accesses that the control matrix refuses, and their record (R624, R632). -/

namespace Sys2Proof.Machine

variable {s : State} {m a cause : Nat} {write : Bool}

/-- What stands in the registers of the record after a refusal (R632). -/
structure RecordsRefusal (s : State) (m : Nat) (write : Bool) (a cause : Nat) (t : State) : Prop where
  addr : t.rd MTX_ERR_ADDR_ADDR = a % 2 ^ 32
  addrHi : t.rd MTX_ERR_INFO_ADDR_HI = a / 2 ^ 32
  master : t.rd MTX_ERR_INFO_MASTER = m
  write : t.rd MTX_ERR_INFO_WRITE = ofBool write
  cause : t.rd MTX_ERR_INFO_CAUSE = cause
  valid : t.rd MTX_ERR_INFO_VALID = 1
  refused : t.on MTX_EVENT_REFUSED = true
  word : ∀ x, x ≠ MTX_ERR_ADDR → x ≠ MTX_ERR_INFO → x ≠ MTX_EVENT → x ≠ MGT_LOG_LOST → t.word x = s.word x

/-- The registers of the record, written. -/
def State.writeRecord (m : Nat) (write : Bool) (addr cause : Nat) (s : State) : State :=
  ((((((s.wr MTX_ERR_ADDR_ADDR addr).wr MTX_ERR_INFO_ADDR_HI (addr / 2 ^ 32)).wrB MTX_ERR_INFO_WRITE write).wr MTX_ERR_INFO_MASTER m).wr
    MTX_ERR_INFO_CAUSE cause).wr MTX_ERR_INFO_VALID 1)

theorem State.recordRefusal_eq (hcause : cause ≠ 4) :
    s.recordRefusal m write a cause = (s.writeRecord m write a cause).raise MTX_EVENT_REFUSED := by
  have h4 : (cause == 4) = false := beq_false_of_ne hcause
  simp only [State.recordRefusal, State.when, h4, State.writeRecord, Bool.false_eq_true, if_false]

theorem recordsRefusal (s : State) (write : Bool) (hm : m < 22) (ha : a < 2 ^ 35) (hcause : cause = 1 ∨ cause = 2) :
    RecordsRefusal s m write a cause (s.recordRefusal m write a cause) := by
  have hraise (f : Field) (hf : f.addr = MTX_ERR_ADDR ∨ f.addr = MTX_ERR_INFO) :
      (s.recordRefusal m write a cause).rd f = (s.writeRecord m write a cause).rd f := by
    rw [State.recordRefusal_eq (by omega)]
    exact State.rd_raise _ (by rcases hf with h | h <;> rw [h] <;> decide) (by rcases hf with h | h <;> rw [h] <;> decide)
  have hhi : a / 2 ^ 32 < 2 ^ 3 := by omega
  refine ⟨?_, ?_, ?_, ?_, ?_, ?_, ?_, fun x h1 h2 h3 h4 => ?_⟩
  · rw [hraise _ (.inl rfl), State.writeRecord]
    simp (disch := decide) only [State.wrB, State.rd_wr_ne, State.rd_wr_same]
  · rw [hraise _ (.inr rfl), State.writeRecord]
    simp (disch := decide) only [State.wrB, State.rd_wr_apart, State.rd_wr_same]
    exact Nat.mod_eq_of_lt hhi
  · rw [hraise _ (.inr rfl), State.writeRecord]
    simp (disch := decide) only [State.wrB, State.rd_wr_apart, State.rd_wr_same]
    exact Nat.mod_eq_of_lt (by omega)
  · rw [hraise _ (.inr rfl), State.writeRecord]
    simp (disch := decide) only [State.wrB, State.rd_wr_apart, State.rd_wr_same]
    exact Nat.mod_eq_of_lt (ofBool_lt_two write)
  · rw [hraise _ (.inr rfl), State.writeRecord]
    simp (disch := decide) only [State.wrB, State.rd_wr_apart, State.rd_wr_same]
    exact Nat.mod_eq_of_lt (by omega)
  · rw [hraise _ (.inr rfl), State.writeRecord]
    exact State.rd_wr_same _ _ _ (by decide)
  · rw [State.recordRefusal_eq (by omega)]
    exact State.on_raise _ (by decide) rfl (by decide)
  · rw [State.recordRefusal_eq (by omega), State.word_raise _ h3 h4, State.writeRecord]
    have hinfo (u : State) (f : Field) (v : Nat) (hf : f.addr = MTX_ERR_INFO) : (u.wr f v).word x = u.word x :=
      State.word_wr_ne u v (hf ▸ h2)
    exact (hinfo _ _ _ rfl).trans <| (hinfo _ _ _ rfl).trans <| (hinfo _ _ _ rfl).trans <| (hinfo _ _ _ rfl).trans <|
      (hinfo _ _ _ rfl).trans (State.word_wr_ne _ _ h1)

/-! ## The accesses -/

theorem State.verdictOn_of_windowCause {len : Nat} (h : s.windowCause m write a len = cause) (hcause : cause ≠ 0) :
    s.verdictOn m write a len = .cause cause := by
  simp only [State.verdictOn, h, ne_eq, hcause, not_false_eq_true, if_true]

/-- A read outside the windows does nothing but the record, and returns the data of a refused read. -/
theorem State.busRead_refused (hopen : s.busOpen m = true) (hstall : (s.twn.stalled.any fun e => e.master == m) = false)
    (h : s.windowCause m false a 4 = cause) (hcause : cause ≠ 0) :
    s.busRead m a 4 = { s.recordRefusal m false a cause with lastRead := if m = 1 ∨ m = 2 then 2 ^ 32 - 1 else 0 } := by
  have hst : s.stalls { master := m, write := false, addr := a, len := 4 } = false := by
    simp only [State.stalls, hstall, Bool.false_and, Bool.or_false]
  have hv := State.verdictOn_of_windowCause h hcause
  simp [State.busRead, State.access, hopen, hst, State.carryOut, hv, State.refuse, refusedData]

/-- Nor does a write do more. -/
theorem State.busWrite_refused {v : Nat} (hopen : s.busOpen m = true) (hstall : (s.twn.stalled.any fun e => e.master == m) = false)
    (h : s.windowCause m true a 4 = cause) (hcause : cause ≠ 0) : s.busWrite m a 4 v = s.recordRefusal m true a cause := by
  have hv := State.verdictOn_of_windowCause h hcause
  have hno : (Refused.cause cause == Refused.no) = false := beq_false_of_ne (by simp)
  have hst : s.stalls { master := m, write := true, addr := a, len := 4, data := v } = false := by
    simp only [State.stalls, hstall, hv, hno, Bool.and_false, Bool.false_and, Bool.or_false]
  simp [State.busWrite, State.access, hopen, hst, State.carryOut, hv, State.refuse]

/-- Settles O25: nothing stalls such an access, and it does nothing but its record. -/
theorem refusedAccessesAreRecorded : Obligations.RefusedAccessesAreRecorded := by
  unfold Obligations.RefusedAccessesAreRecorded
  intro s m a v cause hopen hstall ha hcause
  have hne : cause ≠ 0 := by omega
  refine ⟨fun h => ?_, fun h => ?_⟩
  · have hrec := recordsRefusal s false m.isLt ha hcause
    refine ⟨_, by rw [exec_counterRead, execCounterRead, State.busRead_refused hopen hstall h hne], rfl, ?_⟩
    exact ⟨hrec.addr, hrec.addrHi, hrec.master, hrec.write, hrec.cause, hrec.valid, hrec.refused, hrec.word⟩
  · have hrec := recordsRefusal s true m.isLt ha hcause
    refine ⟨_, by rw [exec_registerWrite, execRegisterWrite, State.busWrite_refused hopen hstall h hne], ?_⟩
    exact ⟨hrec.addr, hrec.addrHi, hrec.master, hrec.write, hrec.cause, hrec.valid, hrec.refused, hrec.word⟩

/-! ## The writes of a twin that does not hold the claim -/

/-- A word write of a journal-class register by a master whose writes are journaled only sets SB_WRITE there (R536). -/
theorem State.busWrite_standby {v : Nat} (hopen : s.busOpen m = true) (hstall : (s.twn.stalled.any fun e => e.master == m) = false)
    (hadm : s.verdictOn m true a 4 = .no) (ha : a % 4 = 0) (hb : a < 0x4000000) (hv : v < 2 ^ 32) (hreach : s.unreached m a = none)
    (hjournal : s.journalsFor m = true) (hclaim : s.top.claim = false) (hclass : (journalClass a).isSome = true) :
    s.busWrite m a 4 v = s.raise TWN_EVENT_SB_WRITE := by
  obtain ⟨line, hline⟩ := Option.isSome_iff_exists.1 hclass
  have hap : ¬ apertureBase ≤ a := by simp only [apertureBase]; omega
  have hn : s.needsJournal m (accessWords a 4 v) = false := by simp [State.needsJournal, hclaim]
  have hst : s.stalls { master := m, write := true, addr := a, len := 4, data := v } = false := by
    simp only [State.stalls, hstall, hn, Bool.and_false, Bool.or_false]
  have hignored (words : List Nat) : s.journalWrite a line words = s.raise TWN_EVENT_SB_WRITE := by
    simp only [State.journalWrite, hclaim, Bool.false_eq_true, if_false]
  have hact : s.actWrite m a 4 v = s.raise TWN_EVENT_SB_WRITE := by
    simp [State.actWrite, if_neg hap, accessWords_word v ha hv, commonClass, hline, hjournal, hreach, hignored]
  simp [State.busWrite, State.access, hopen, hst, State.carryOut, hadm, hact]

/-- Settles O26. -/
theorem standbyIgnoresItsOwnJournalWrites : Obligations.StandbyIgnoresItsOwnJournalWrites := by
  unfold Obligations.StandbyIgnoresItsOwnJournalWrites
  intro s m a v hopen hstall hadm ha hb hv hreach hjournal hclaim hclass
  refine ⟨s.raise TWN_EVENT_SB_WRITE, ?_, State.on_raise _ (by decide) rfl (by decide), fun x h1 h2 => State.word_raise _ h1 h2, ?_⟩
  · rw [exec_registerWrite, execRegisterWrite, State.busWrite_standby hopen hstall hadm ha hb hv hreach hjournal hclaim hclass]
  · rw [State.twn_raise]

end Sys2Proof.Machine
end
section
/-! SUPPORT. The rows of the register map: an access of a register that goes through reaches the operation of its block, at its indices. -/

namespace Sys2Proof.Machine

/-- A word of BAR0 is a register of a block, with its indices, and lies in no memory. -/
def isRegister (a : Nat) (b : Block) (ix : List Nat) : Bool :=
  a % 4 == 0 && decide (a < 0x4000000) && !inMemory a && blockOf a == b && (regAt a).map (·.2) == some ix

theorem isRegister_iff {a : Nat} {b : Block} {ix : List Nat} : isRegister a b ix = true ↔
    a % 4 = 0 ∧ a < 0x4000000 ∧ inMemory a = false ∧ blockOf a = b ∧ ∃ d, regAt a = some (d, ix) := by
  simp only [isRegister, Bool.and_eq_true, beq_iff_eq, decide_eq_true_eq, Bool.not_eq_true', and_assoc, Option.map_eq_some_iff]
  constructor
  · rintro ⟨h1, h2, h3, h4, ⟨d, x⟩, hd, rfl⟩
    exact ⟨h1, h2, h3, h4, d, hd⟩
  · rintro ⟨h1, h2, h3, h4, d, hd⟩
    exact ⟨h1, h2, h3, h4, _, hd, rfl⟩

section
variable {s : State} {m a v : Nat} {b : Block} {ix : List Nat}

/-- A write of a register that goes through. -/
theorem State.busWrite_of_isRegister (hreg : isRegister a b ix = true) (hv : v < 2 ^ 32) (h : s.Admits m true a) :
    s.busWrite m a 4 v = s.writeReg m a v := by
  obtain ⟨halign, hlt, hmem, -, -⟩ := isRegister_iff.1 hreg
  exact s.busWrite_register halign hlt hv hmem h

/-- A read of one. -/
theorem State.getWord_of_isRegister (hreg : isRegister a b ix = true) (h : s.Admits m false a) : s.getWord m a = s.readReg m a := by
  obtain ⟨-, -, hmem, -, -⟩ := isRegister_iff.1 hreg
  obtain ⟨-, -, -, hreach, -⟩ := h
  simp only [inMemory, Bool.or_eq_false_iff] at hmem
  obtain ⟨⟨hrck, hslot⟩, hmsix⟩ := hmem
  simp only [State.getWord, hreach, hrck, hslot, hmsix, Bool.false_eq_true, if_false]

theorem State.busWrite_mbx (hreg : isRegister a .mbx ix = true) (hv : v < 2 ^ 32) (h : s.Admits m true a) :
    s.busWrite m a 4 v = s.writeMbx m a v (ix.getD 0 0) := by
  obtain ⟨-, -, -, hblock, d, hd⟩ := isRegister_iff.1 hreg
  rw [State.busWrite_of_isRegister hreg hv h]
  simp only [State.writeReg, hd, hblock]

theorem State.busWrite_mtx (hreg : isRegister a .mtx ix = true) (hv : v < 2 ^ 32) (h : s.Admits m true a) :
    s.busWrite m a 4 v = s.writeMtx m a v (ix.getD 0 0) := by
  obtain ⟨-, -, -, hblock, d, hd⟩ := isRegister_iff.1 hreg
  rw [State.busWrite_of_isRegister hreg hv h]
  simp only [State.writeReg, hd, hblock]

end

/-! ## The rows of the mailboxes, the doorbells and the locks -/

theorem isRegister_mbxPost (c : Fin 394) : isRegister (MBX_POST c) .mbx [c] = true := by revert c; decide +kernel
theorem isRegister_mbxFree (c : Fin 394) : isRegister (MBX_FREE c) .mbx [c] = true := by revert c; decide +kernel
theorem isRegister_mbxDb (b : Fin 21) : isRegister (MBX_DB b) .mbx [b] = true := by revert b; decide +kernel
theorem isRegister_mbxDbMask (b : Fin 21) : isRegister (MBX_DB_MASK b) .mbx [b] = true := by revert b; decide +kernel
theorem isRegister_mbxDbSet (b : Fin 21) : isRegister (MBX_DB_SET b) .mbx [b] = true := by revert b; decide +kernel
theorem isRegister_mtxLock (n : Fin 64) : isRegister (MTX_LOCK n) .mtx [n] = true := by revert n; decide +kernel
theorem isRegister_mtxLockRel (n : Fin 64) : isRegister (MTX_LOCK_REL n) .mtx [n] = true := by revert n; decide +kernel

section
variable {s : State} {m : Nat}

theorem State.busWrite_mbxPost (c : Fin 394) (h : s.Admits m true (MBX_POST c)) : s.busWrite m (MBX_POST c) 4 1 = s.postNow c := by
  rw [State.busWrite_mbx (isRegister_mbxPost c) (by decide) h]
  exact if_pos rfl

theorem State.busWrite_mbxFree (c : Fin 394) (h : s.Admits m true (MBX_FREE c)) : s.busWrite m (MBX_FREE c) 4 1 = s.mbxFree c := by
  have hpost : MBX_FREE c ≠ MBX_POST c := by simp only [MBX_FREE, MBX_POST]; omega
  rw [State.busWrite_mbx (isRegister_mbxFree c) (by decide) h]
  exact (if_neg hpost).trans (if_pos rfl)

/-- The registers of a doorbell bank share one operation. -/
theorem State.writeMbx_bell {a v : Nat} (b : Fin 21) (ha : a = MBX_DB b ∨ a = MBX_DB_MASK b ∨ a = MBX_DB_SET b) :
    s.writeMbx m a v b = s.writeBell m a v b := by
  have hrange : MBX_DB 0 ≤ a ∧ a < MBX_STATUS ∧ a ≠ MBX_POST b ∧ a ≠ MBX_FREE b := by
    simp only [MBX_DB, MBX_DB_MASK, MBX_DB_SET, MBX_STATUS, MBX_POST, MBX_FREE] at *
    omega
  obtain ⟨hlo, hhi, hpost, hfree⟩ := hrange
  rw [State.writeMbx, if_neg hpost, if_neg hfree, if_pos ⟨hlo, hhi⟩]

theorem State.busWrite_doorbellSet (b : Fin 21) (v : Word) (h : s.Admits m true (MBX_DB_SET b)) :
    s.busWrite m (MBX_DB_SET b) 4 v.toNat = s.setBells b v.toNat := by
  rw [State.busWrite_mbx (isRegister_mbxDbSet b) v.isLt h]
  exact (State.writeMbx_bell b (by tauto)).trans (if_pos rfl)

theorem State.busWrite_doorbell (b : Fin 21) (v : Word) (h : s.Admits m true (MBX_DB b)) :
    s.busWrite m (MBX_DB b) 4 v.toNat = s.writeBell m (MBX_DB b) v.toNat b := by
  rw [State.busWrite_mbx (isRegister_mbxDb b) v.isLt h]
  exact State.writeMbx_bell b (by tauto)

theorem State.busWrite_doorbellMask (b : Fin 21) (v : Word) (h : s.Admits m true (MBX_DB_MASK b)) :
    s.busWrite m (MBX_DB_MASK b) 4 v.toNat = s.writeBell m (MBX_DB_MASK b) v.toNat b := by
  rw [State.busWrite_mbx (isRegister_mbxDbMask b) v.isLt h]
  exact State.writeMbx_bell b (by tauto)

theorem State.busWrite_lockRelease (n : Fin 64) (h : s.Admits m true (MTX_LOCK_REL n)) :
    s.busWrite m (MTX_LOCK_REL n) 4 1 = s.releaseLock m n := by
  rw [State.busWrite_mtx (isRegister_mtxLockRel n) (by decide) h]
  exact if_pos rfl

theorem State.getWord_lock (n : Fin 64) (h : s.Admits m false (MTX_LOCK n)) : s.getWord m (MTX_LOCK n) = s.readLock m n := by
  obtain ⟨-, -, -, hblock, d, hd⟩ := isRegister_iff.1 (isRegister_mtxLock n)
  have hmark : MTX_LOCK n ≠ LDG_MARK_VAL := by simp only [MTX_LOCK, LDG_MARK_VAL]; omega
  rw [State.getWord_of_isRegister (isRegister_mtxLock n) h]
  simp only [State.readReg, hd, hblock, List.getD_cons_zero, if_neg hmark, if_true]

theorem State.busRead_lock (n : Fin 64) (h : s.Admits m false (MTX_LOCK n)) :
    s.busRead m (MTX_LOCK n) 4 = { (s.readLock m n).1 with lastRead := (s.readLock m n).2 &&& (2 ^ 32 - 1) } := by
  obtain ⟨halign, hlt, -, -, -⟩ := isRegister_iff.1 (isRegister_mtxLock n)
  rw [s.busRead_admits halign hlt h, State.getWord_lock n h]

end

/-- Settles O56: each access goes through to its row. -/
theorem mailboxDoorbellAndLockCommandsComplete : Obligations.MailboxDoorbellAndLockCommandsComplete := by
  unfold Obligations.MailboxDoorbellAndLockCommandsComplete
  refine ⟨fun s m c h => ?_, fun s m c h => ?_, fun s m k v h => ?_, fun s m k v h => ?_, fun s m k v h => ?_, fun s m n h => ?_,
    fun s m n h => ?_, fun s m n l errs h => ?_, fun s m a h ⟨halign, hlt⟩ => ?_, fun s m a v h ⟨halign, hlt, hv, hmem⟩ => ?_⟩
  · rw [exec_mbxPost, execMbxPost, State.busWrite_mbxPost c h]
  · rw [exec_mbxFree, execMbxFree, State.busWrite_mbxFree c h]
  · rw [exec_doorbellSet, execDoorbellSet, State.busWrite_doorbellSet k v h]
  · rw [exec_doorbellClear, execDoorbellClear, State.busWrite_doorbell k v h]
  · rw [exec_doorbellMask, execDoorbellMask, State.busWrite_doorbellMask k v h]
  · refine ⟨(s.getWord m _).1, (s.getWord m _).2, rfl, ?_⟩
    rw [exec_lockAcquire, execLockAcquire, State.busRead_lock n h, State.getWord_lock n h]
  · rw [exec_lockRelease, execLockRelease, State.busWrite_lockRelease n h]
  · refine ⟨(s.getWord m _).1, (s.getWord m _).2, rfl, ?_⟩
    have haddr : (if errs then TRL_LANE_ERR_LO n l else TRL_LANE_BITS_LO n l) % 4 = 0 ∧
        (if errs then TRL_LANE_ERR_LO n l else TRL_LANE_BITS_LO n l) < 0x4000000 := by
      split <;> (simp only [TRL_LANE_ERR_LO, TRL_LANE_BITS_LO]; omega)
    rw [exec_laneCounterRead, execLaneCounterRead, s.busRead_admits haddr.1 haddr.2 h]
  · refine ⟨(s.getWord m _).1, (s.getWord m _).2, rfl, ?_⟩
    rw [exec_counterRead, execCounterRead, s.busRead_admits halign hlt h]
  · rw [exec_registerWrite, execRegisterWrite, s.busWrite_register halign hlt hv hmem h]

end Sys2Proof.Machine
end
section
/-! SUPPORT. The doorbells: what a write of a bank's registers leaves in its bits (R600, R601). -/

namespace Sys2Proof.Machine

/-! ## Bits of numbers -/

theorem bit_eq_testBit (v k : Nat) : bit v k = v.testBit k := by
  rw [bit, Nat.testBit_eq_decide_div_mod_eq]
  rfl

/-- Taking away the bits that two numbers share clears them. -/
theorem testBit_sub_and (x y k : Nat) : (x - (x &&& y)).testBit k = (x.testBit k && !y.testBit k) := by
  induction k generalizing x y with
  | zero =>
    have hle : x &&& y ≤ x := Nat.and_le_left
    have hlow : (x &&& y) % 2 = 1 ↔ x % 2 = 1 ∧ y % 2 = 1 := by simp
    rw [Nat.testBit_zero, Nat.testBit_zero, Nat.testBit_zero, Bool.eq_iff_iff]
    simp only [decide_eq_true_eq, Bool.and_eq_true, Bool.not_eq_true', decide_eq_false_iff_not]
    omega
  | succ k ih =>
    have hle : x &&& y ≤ x := Nat.and_le_left
    have hdiv : (x &&& y) / 2 = x / 2 &&& y / 2 := Nat.and_div_two
    have hlow : (x &&& y) % 2 = 1 ↔ x % 2 = 1 ∧ y % 2 = 1 := by simp
    have hhalf : (x - (x &&& y)) / 2 = x / 2 - (x / 2 &&& y / 2) := by omega
    rw [Nat.testBit_succ, hhalf, ih, ← Nat.testBit_succ, ← Nat.testBit_succ]

theorem testBit_foldl_or_two_pow (l : List (Nat × Nat)) (m k : Nat) :
    (l.foldl (fun m e => m ||| 2 ^ e.2) m).testBit k = (m.testBit k || l.any fun e => e.2 == k) := by
  induction l generalizing m with
  | nil => simp
  | cons e l ih =>
    rw [List.foldl_cons, ih, Nat.testBit_or, Nat.testBit_two_pow, List.any_cons, Bool.or_assoc]
    rfl

/-- Merging no bit of a word keeps the old one. -/
theorem mergeBits_none (new : Nat) {old : Nat} (h : old < 2 ^ 32) : mergeBits 0 new old = old := by
  rw [mergeBits, Nat.and_zero, Nat.or_zero, Nat.sub_zero, Nat.and_two_pow_sub_one_eq_mod, Nat.mod_eq_of_lt h]

variable {s : State}

/-! ## A W1C word -/

/-- The bits of a register that hardware has set in this cycle. -/
theorem State.testBit_setBits (a k : Nat) : (s.setBits a).testBit k = (s.pci.setAt == s.now && s.pci.setNow.contains (a, k)) := by
  unfold State.setBits
  split
  next h =>
    rw [testBit_foldl_or_two_pow, Nat.zero_testBit, Bool.false_or, h, beq_self_eq_true, Bool.true_and, Bool.eq_iff_iff]
    simp only [List.any_eq_true, List.mem_filter, beq_iff_eq, List.contains_iff_mem]
    constructor
    · rintro ⟨⟨b, j⟩, ⟨hmem, rfl⟩, rfl⟩
      exact hmem
    · exact fun hmem => ⟨_, ⟨hmem, rfl⟩, rfl⟩
  next h => rw [beq_false_of_ne h, Bool.false_and, Nat.zero_testBit]

@[simp] theorem State.word_signalAgain (s : State) (m k : Nat) (on : Bool) (a : Nat) : (s.signalAgain m k on).word a = s.word a := by
  unfold State.signalAgain
  split
  · split
    · rw [State.word_sendMsix, State.word_sendMsix]
    · exact s.word_sendMsix _ _
  · rfl

/-- A write of a register all of whose bits are W1C clears the bits written but those set in the same cycle (R10, R12). -/
theorem State.bit_storeReg_w1c {m a v : Nat} {d : RegDesc} {ix : List Nat} (hd : regAt a = some (d, ix)) (hrw : d.rw = 0)
    (hw1c : d.w1c = 2 ^ 32 - 1) {k : Nat} (hk : k < 32) : bit ((s.storeReg m a v).word a).toNat k =
      (bit (s.word a).toNat k && (!bit v k || (s.pci.setAt == s.now && s.pci.setNow.contains (a, k)))) := by
  have hall : (2 ^ 32 - 1).testBit k = true := by rw [Nat.testBit_two_pow_sub_one, decide_eq_true hk]
  have hword : (s.storeReg m a v).word a =
      BitVec.ofNat 32 ((s.word a).toNat - ((s.word a).toNat &&& (v &&& (2 ^ 32 - 1 - (2 ^ 32 - 1 &&& s.setBits a))))) := by
    simp only [State.storeReg, hd, hrw, hw1c, mergeBits_none v (s.word a).isLt, Nat.and_assoc]
    split
    · split
      · exact State.word_setWord_same _ _ _
      · rw [State.word_signalAgain, State.word_setWord_same]
    · exact State.word_setWord_same _ _ _
  have hlt : (s.word a).toNat - ((s.word a).toNat &&& (v &&& (2 ^ 32 - 1 - (2 ^ 32 - 1 &&& s.setBits a)))) < 2 ^ 32 :=
    (Nat.sub_le _ _).trans_lt (s.word a).isLt
  rw [hword, BitVec.toNat_ofNat, Nat.mod_eq_of_lt hlt, bit_eq_testBit, bit_eq_testBit, bit_eq_testBit, testBit_sub_and, Nat.testBit_and,
    testBit_sub_and, hall, State.testBit_setBits, Bool.true_and, Bool.not_and, Bool.not_not]

/-! ## The operations -/

theorem State.word_rckEvent_ne (s : State) {r mask a : Nat} (h : a ≠ RCK_EVT r) : (s.rckEvent r mask).word a = s.word a := by
  have hw (u : State) (v : Nat) : (u.wr (RCK_EVT_EVT r) v).word a = u.word a := u.word_wr_ne v h
  simp only [State.rckEvent]
  repeat' split
  all_goals simp only [State.word_meets, hw, State.word_setRckH]

/-- Notifying a receiver changes no register of the mailboxes. -/
theorem State.word_notifyBell (s : State) (b : Nat) {a : Nat} (h : 0x3000000 ≤ a) : (s.notifyBell b).word a = s.word a := by
  unfold State.notifyBell
  split
  next hb => exact s.word_rckEvent_ne (by simp only [RCK_EVT]; omega)
  · split
    · exact s.word_sendMsix _ _
    · split
      · exact s.word_sendMsix _ _
      · rfl

theorem State.word_noteEvents (s : State) (l : List Nat) (f : Nat → Field) (a : Nat) :
    (s.forL l fun k u => u.noteEvent (f k)).word a = s.word a :=
  foldOver_keeps (f := fun k u => u.noteEvent (f k)) (P := fun u : State => u.word a = s.word a) (fun _ _ hu => hu) rfl

/-- Setting bits of a bank sets those bits and keeps the others. -/
theorem State.word_setBells (s : State) (b : Nat) (v : Word) : (s.setBells b v.toNat).word (MBX_DB b) = s.word (MBX_DB b) ||| v := by
  have hwr : (s.wr ⟨MBX_DB b, 0, 32⟩ (s.rd ⟨MBX_DB b, 0, 32⟩ ||| v.toNat % 2 ^ 32)).word (MBX_DB b) = s.word (MBX_DB b) ||| v := by
    have hold : s.rd ⟨MBX_DB b, 0, 32⟩ = (s.word (MBX_DB b)).toNat := by
      rw [State.rd, fieldGet, pow_zero, Nat.div_one, Nat.mod_eq_of_lt (BitVec.isLt _)]
    refine (State.word_wr_whole _ _ _).trans ?_
    rw [hold, Nat.mod_eq_of_lt v.isLt]
    apply BitVec.eq_of_toNat_eq
    rw [BitVec.toNat_ofNat, BitVec.toNat_or, Nat.mod_eq_of_lt (Nat.or_lt_two_pow (BitVec.isLt _) v.isLt)]
  simp only [State.setBells]
  split
  · rw [State.word_notifyBell _ _ (by simp only [MBX_DB]; omega), State.word_noteEvents, hwr]
  · rw [State.word_noteEvents, hwr]

theorem State.writeBell_others {m v b a : Nat} (ha : a ≠ MBX_DB_SET b)
    (h : ¬ (m = 0 ∨ (b < 16 ∧ m = 3 + b) ∨ (b = 16 ∧ m = 1) ∨ (b = 19 ∧ m = 2))) : s.writeBell m a v b = s := by
  have hreceiver : (m == 0 || (decide (b < 16) && m == 3 + b) || (b == 16 && m == 1) || (b == 19 && m == 2)) = false := by
    simpa [Bool.eq_false_iff, or_assoc] using h
  simp only [State.writeBell, if_neg ha, hreceiver, Bool.not_false, if_true]

/-- A write of a bank's bits by their receiver. -/
theorem State.word_writeBell_receiver {m v b : Nat} (h : m = 0 ∨ (b < 16 ∧ m = 3 + b) ∨ (b = 16 ∧ m = 1) ∨ (b = 19 ∧ m = 2)) :
    (s.writeBell m (MBX_DB b) v b).word (MBX_DB b) = (s.storeReg m (MBX_DB b) v).word (MBX_DB b) := by
  have hset : MBX_DB b ≠ MBX_DB_SET b := by simp only [MBX_DB, MBX_DB_SET]; omega
  have hreceiver : (m == 0 || (decide (b < 16) && m == 3 + b) || (b == 16 && m == 1) || (b == 19 && m == 2)) = true := by
    simpa [or_assoc] using h
  simp only [State.writeBell, if_neg hset, hreceiver, Bool.not_true, Bool.false_eq_true, if_false, if_true]
  split
  · exact State.word_signalAgain _ _ _ _ _
  · split
    · exact State.word_signalAgain _ _ _ _ _
    · rfl

/-- The bits of a bank are W1C, all of them. -/
theorem regAt_mbxDb (b : Fin 21) : ∃ d, regAt (MBX_DB b) = some (d, [b.val]) ∧ d.rw = 0 ∧ d.w1c = 2 ^ 32 - 1 := by
  have h : ∀ b : Fin 21, ((regAt (MBX_DB b)).any fun e => e.2 == [b.val] && e.1.rw == 0 && e.1.w1c == 2 ^ 32 - 1) = true := by decide +kernel
  obtain ⟨⟨d, ix⟩, hd, hrow⟩ := (Option.any_eq_true _ _).1 (h b)
  simp only [Bool.and_eq_true, beq_iff_eq] at hrow
  obtain ⟨⟨rfl, hrw⟩, hw1c⟩ := hrow
  exact ⟨d, hd, hrw, hw1c⟩

/-- Settles O17. -/
theorem doorbellBitsAreSetAndClearedByTheirMasters : Obligations.DoorbellBitsAreSetAndClearedByTheirMasters := by
  unfold Obligations.DoorbellBitsAreSetAndClearedByTheirMasters
  intro s m b v
  refine ⟨fun h => ⟨_, ?_, s.word_setBells b v⟩, fun h hm => ⟨s.writeBell m (MBX_DB b) v.toNat b, ?_, fun k hk => ?_⟩, fun h hm => ?_⟩
  · rw [exec_doorbellSet, execDoorbellSet, State.busWrite_doorbellSet b v h]
  · rw [exec_doorbellClear, execDoorbellClear, State.busWrite_doorbell b v h]
  · obtain ⟨d, hd, hrw, hw1c⟩ := regAt_mbxDb b
    rw [State.word_writeBell_receiver hm, State.bit_storeReg_w1c hd hrw hw1c hk]
  · rw [exec_doorbellClear, execDoorbellClear, State.busWrite_doorbell b v h,
      State.writeBell_others (by simp only [MBX_DB, MBX_DB_SET]; omega) hm]

end Sys2Proof.Machine
end
section
/-! SUPPORT. The locks: what a read and a release do (R644, R645). -/

namespace Sys2Proof.Machine

variable {s : State}

/-! ## The word of a lock -/

/-- The word of a lock that a master holds. -/
def lockedBy (k : Nat) : Word := BitVec.ofNat 32 (2 ^ 31 + k)

theorem toNat_lockedBy (k : Fin 22) : (lockedBy k).toNat = 2 ^ 31 + k := by
  rw [lockedBy, BitVec.toNat_ofNat]
  exact Nat.mod_eq_of_lt (by omega)

theorem held_lockedBy (k : Fin 22) (n : Nat) : fieldGet (MTX_LOCK_HELD n) (lockedBy k) = 1 := by
  have h : ∀ k : Fin 22, fieldGet ⟨0, 31, 1⟩ (lockedBy k) = 1 := by decide
  exact h k

theorem owner_lockedBy (k : Fin 22) (n : Nat) : fieldGet (MTX_LOCK_OWNER n) (lockedBy k) = k := by
  have h : ∀ k : Fin 22, fieldGet ⟨0, 0, 5⟩ (lockedBy k) = k := by decide
  exact h k

/-- Both fields of a lock, written. -/
theorem State.word_wr_owner_held (s : State) (n owner held : Nat) :
    ((s.wr (MTX_LOCK_OWNER n) owner).wr (MTX_LOCK_HELD n) held).word (MTX_LOCK n) =
      fieldPut (MTX_LOCK_HELD n) (fieldPut (MTX_LOCK_OWNER n) (s.word (MTX_LOCK n)) owner) held := by
  rw [State.wr, State.word_setWord_same]
  exact congrArg (fieldPut _ · held) (State.word_setWord_same _ _ _)

theorem State.word_wr_held_owner (s : State) (n owner held : Nat) :
    ((s.wr (MTX_LOCK_HELD n) held).wr (MTX_LOCK_OWNER n) owner).word (MTX_LOCK n) =
      fieldPut (MTX_LOCK_OWNER n) (fieldPut (MTX_LOCK_HELD n) (s.word (MTX_LOCK n)) held) owner := by
  rw [State.wr, State.word_setWord_same]
  exact congrArg (fieldPut _ · owner) (State.word_setWord_same _ _ _)

/-- A free lock that a master takes. -/
theorem fieldPut_take (k : Fin 22) (n : Nat) : fieldPut (MTX_LOCK_HELD n) (fieldPut (MTX_LOCK_OWNER n) 0 k) 1 = lockedBy k := by
  have h : ∀ k : Fin 22, fieldPut ⟨0, 31, 1⟩ (fieldPut ⟨0, 0, 5⟩ 0 k) 1 = lockedBy k := by decide
  exact h k

/-- A held lock that is released. -/
theorem fieldPut_release (k : Fin 22) (n : Nat) : fieldPut (MTX_LOCK_OWNER n) (fieldPut (MTX_LOCK_HELD n) (lockedBy k) 0) 0 = 0 := by
  have h : ∀ k : Fin 22, fieldPut ⟨0, 0, 5⟩ (fieldPut ⟨0, 31, 1⟩ (lockedBy k) 0) 0 = 0 := by decide
  exact h k

/-- The state in which a master has taken a lock. -/
def State.takeLock (n k : Nat) (s : State) : State := (s.wr (MTX_LOCK_OWNER n) k).wr (MTX_LOCK_HELD n) 1

theorem State.word_takeLock {n : Nat} (k : Fin 22) (hfree : s.word (MTX_LOCK n) = 0) : (s.takeLock n k).word (MTX_LOCK n) = lockedBy k := by
  rw [State.takeLock, State.word_wr_owner_held, hfree, fieldPut_take]

/-! ## Reads -/

section
variable {m : Nat} {n : Fin 64} (hadm : s.Admits m false (MTX_LOCK n)) (hwon : s.pci.won.contains (n.val, m, s.now) = false)
include hwon

/-- With no release among the requests of the cycle, a held lock is read as it stands. -/
theorem State.readLock_held (hrel : s.releaseFirst n = s) (hheld : s.on (MTX_LOCK_HELD n) = true) :
    s.readLock m n = (s, (s.word (MTX_LOCK n)).toNat) := by
  simp only [State.readLock, hwon, hrel, hheld, Bool.false_eq_true, if_false, if_true]

/-- A free lock goes to the reader, where no other request of the cycle ranks before it. -/
theorem State.readLock_free (hrel : s.releaseFirst n = s) (hfree : s.on (MTX_LOCK_HELD n) = false) (hwins : s.lockWinner m n = m) :
    s.readLock m n = (s.takeLock n m, 0) := by
  simp only [State.readLock, hwon, hrel, hfree, hwins, Bool.false_eq_true, if_false, if_true, State.takeLock]

/-- Otherwise the one that does takes it, and the read returns its word. -/
theorem State.readLock_lost {w : Nat} (hrel : s.releaseFirst n = s) (hfree : s.on (MTX_LOCK_HELD n) = false) (hwins : s.lockWinner m n = w)
    (hne : w ≠ m) : ∃ t, s.readLock m n = (t, ((s.takeLock n w).word (MTX_LOCK n)).toNat) ∧ t.regs = (s.takeLock n w).regs := by
  simp only [State.readLock, hwon, hrel, hfree, hwins, if_neg hne, Bool.false_eq_true, if_false]
  exact ⟨_, rfl, rfl⟩

end

/-- A cycle with no other request has no release, and no reader that ranks before the one that comes. -/
theorem State.releaseFirst_of_none {n : Nat} (h : s.pending.filterMap (lockReleaser n) = []) : s.releaseFirst n = s := by
  simp only [State.releaseFirst, h, List.find?_nil]

theorem State.lockWinner_of_none {m n : Nat} (h : s.pending = []) : s.lockWinner m n = m := by
  simp only [State.lockWinner, h, List.filterMap_nil, List.foldl_nil]

/-- The other request of the cycle wins where it ranks before the one that comes (R636, R644). -/
theorem State.lockWinner_of_better {m : Nat} {k : Fin 22} {n : Fin 64} (h : s.pending = [.lockAcquire k n]) (hopen : s.busOpen k = true)
    (hwin : s.windowCause k false (MTX_LOCK n) 4 = 0)
    (hrank : s.rd (MTX_MCFG_QOS m) < s.rd (MTX_MCFG_QOS k) ∨ s.rd (MTX_MCFG_QOS m) = s.rd (MTX_MCFG_QOS k) ∧ k.val < m) :
    s.lockWinner m n = k := by
  have hreader : s.pending.filterMap (lockReader n) = [k.val] := by simp [h, lockReader]
  have hbetter : (decide (s.rd (MTX_MCFG_QOS m) < s.rd (MTX_MCFG_QOS k)) ||
      s.rd (MTX_MCFG_QOS m) == s.rd (MTX_MCFG_QOS k) && decide (k.val < m)) = true := by simpa using hrank
  simp only [State.lockWinner, hreader, List.foldl_cons, List.foldl_nil, hopen, hwin, hbetter, BEq.rfl, Bool.and_self, if_true]

/-! ## Releases -/

theorem State.releaseLock_held {m n : Nat} (k : Fin 22) (hfreed : s.pci.freed.contains (n, m, s.now) = false)
    (hword : s.word (MTX_LOCK n) = lockedBy k) (hmay : k.val = m ∨ m = 0 ∨ m = 2) : (s.releaseLock m n).word (MTX_LOCK n) = 0 := by
  have hheld : s.on (MTX_LOCK_HELD n) = true := by rw [State.on, State.rd, hword, held_lockedBy]; rfl
  have howner : s.rd (MTX_LOCK_OWNER n) = k := by rw [State.rd, hword, owner_lockedBy]
  have hok : (s.on (MTX_LOCK_HELD n) && (s.rd (MTX_LOCK_OWNER n) == m || m == 0 || m == 2)) = true := by
    simpa [hheld, howner, or_assoc] using hmay
  have hzero : ((s.wr (MTX_LOCK_HELD n) 0).wr (MTX_LOCK_OWNER n) 0).word (MTX_LOCK n) = 0 := by
    rw [State.word_wr_held_owner, hword, fieldPut_release]
  have hevent : MTX_LOCK n ≠ MTX_EVENT := by simp only [MTX_LOCK, MTX_EVENT]; omega
  have hlog : MTX_LOCK n ≠ MGT_LOG_LOST := by simp only [MTX_LOCK, MGT_LOG_LOST]; omega
  simp only [State.releaseLock, hfreed, hok, Bool.false_eq_true, if_false, if_true]
  split
  · exact hzero
  · exact (State.word_raise _ hevent hlog).trans hzero

/-- A release that its writer may not make, or of a free lock, only sets LOCK_ERR. -/
theorem State.releaseLock_error {m n : Nat} (hfreed : s.pci.freed.contains (n, m, s.now) = false)
    (hmay : ¬ (s.on (MTX_LOCK_HELD n) = true ∧ (s.rd (MTX_LOCK_OWNER n) = m ∨ m = 0 ∨ m = 2))) :
    s.releaseLock m n = s.raise MTX_EVENT_LOCK_ERR := by
  have hno : (s.on (MTX_LOCK_HELD n) && (s.rd (MTX_LOCK_OWNER n) == m || m == 0 || m == 2)) = false := by
    rw [Bool.eq_false_iff]
    simpa [or_assoc] using hmay
  simp only [State.releaseLock, hfreed, hno, Bool.false_eq_true, if_false]

/-! ## The obligation -/

/-- What a read returns is no word of the address map. -/
theorem State.word_mk_lastRead (t : State) (v a : Nat) : ({ t with lastRead := v } : State).word a = t.word a := (rfl)

theorem and_two_pow_sub_one_of_word (w : Word) : w.toNat &&& (2 ^ 32 - 1) = w.toNat := by
  rw [Nat.and_two_pow_sub_one_eq_mod, Nat.mod_eq_of_lt w.isLt]

theorem State.on_held_of_word (n : Nat) (h : s.word (MTX_LOCK n) = 0) : s.on (MTX_LOCK_HELD n) = false := by
  have hzero : fieldGet (MTX_LOCK_HELD n) 0 = 0 := (show fieldGet ⟨0, 31, 1⟩ 0 = 0 by decide)
  rw [State.on, State.rd, h, hzero]
  rfl

theorem State.on_held_of_lockedBy (n : Nat) (k : Fin 22) (h : s.word (MTX_LOCK n) = lockedBy k) : s.on (MTX_LOCK_HELD n) = true := by
  rw [State.on, State.rd, h, held_lockedBy]
  rfl

section
variable {m : Fin 22} {n : Fin 64}

/-- What a read of a lock leaves, and returns. -/
theorem exec_lockAcquire_of_readLock {t : State} {w : Word} (hadm : s.Admits m false (MTX_LOCK n)) (h : s.readLock m n = (t, w.toNat)) :
    exec (.lockAcquire m n) s = .next { t with lastRead := w.toNat } := by
  rw [exec_lockAcquire, execLockAcquire, State.busRead_lock n hadm, h, and_two_pow_sub_one_of_word]

theorem exec_lockAcquire_free (hadm : s.Admits m false (MTX_LOCK n)) (hpending : s.pending = [])
    (hwon : s.pci.won.contains (n.val, m.val, s.now) = false) (hword : s.word (MTX_LOCK n) = 0) :
    exec (.lockAcquire m n) s = .next { s.takeLock n m with lastRead := 0 } := by
  have hrel : s.releaseFirst n = s := State.releaseFirst_of_none (by rw [hpending]; rfl)
  have hread := State.readLock_free hwon hrel (State.on_held_of_word n hword) (State.lockWinner_of_none hpending)
  exact exec_lockAcquire_of_readLock (w := 0) hadm hread

theorem exec_lockAcquire_lost {k : Fin 22} (hadm : s.Admits m false (MTX_LOCK n)) (hpending : s.pending = [.lockAcquire k n])
    (hwon : s.pci.won.contains (n.val, m.val, s.now) = false) (hword : s.word (MTX_LOCK n) = 0) (hopen : s.busOpen k = true)
    (hwin : s.windowCause k false (MTX_LOCK n) 4 = 0)
    (hrank : s.rd (MTX_MCFG_QOS m) < s.rd (MTX_MCFG_QOS k) ∨ s.rd (MTX_MCFG_QOS m) = s.rd (MTX_MCFG_QOS k) ∧ k.val < m) :
    ∃ t : State, exec (.lockAcquire m n) s = .next { t with lastRead := (lockedBy k).toNat } ∧ t.word (MTX_LOCK n) = lockedBy k := by
  have hne : k.val ≠ m := by
    intro h
    rw [← h] at hrank
    omega
  have hrel : s.releaseFirst n = s := State.releaseFirst_of_none (by rw [hpending]; rfl)
  obtain ⟨t, hlost, hregs⟩ :=
    State.readLock_lost hwon hrel (State.on_held_of_word n hword) (State.lockWinner_of_better hpending hopen hwin hrank) hne
  rw [State.word_takeLock k hword] at hlost
  refine ⟨t, exec_lockAcquire_of_readLock hadm hlost, ?_⟩
  rw [State.word, hregs]
  exact State.word_takeLock k hword

theorem exec_lockAcquire_held {k : Fin 22} (hadm : s.Admits m false (MTX_LOCK n)) (hpending : s.pending = [])
    (hwon : s.pci.won.contains (n.val, m.val, s.now) = false) (hword : s.word (MTX_LOCK n) = lockedBy k) :
    exec (.lockAcquire m n) s = .next { s with lastRead := (lockedBy k).toNat } := by
  have hrel : s.releaseFirst n = s := State.releaseFirst_of_none (by rw [hpending]; rfl)
  have hread := State.readLock_held hwon hrel (State.on_held_of_lockedBy n k hword)
  rw [hword] at hread
  exact exec_lockAcquire_of_readLock hadm hread

end

/-- Settles O16: the word of the lock decides which case of the read or of the release applies. -/
theorem locksAreHeldByTheirReader : Obligations.LocksAreHeldByTheirReader := by
  unfold Obligations.LocksAreHeldByTheirReader
  intro s m n
  refine ⟨fun hadm hpending hwon hword => ?_, fun k hadm hpending hwon hword hopen hwin hrank => ?_, fun k hadm hpending hwon hword => ?_,
    fun k hadm hword hfreed hmay => ?_, fun hadm hfreed hmay => ?_⟩
  · refine ⟨_, exec_lockAcquire_free hadm hpending hwon hword, rfl, ?_, fun a ha => ?_⟩
    · show _ = lockedBy m
      rw [State.word_mk_lastRead]
      exact State.word_takeLock m hword
    · rw [State.word_mk_lastRead]
      exact (State.word_wr_ne _ 1 ha).trans (State.word_wr_ne _ _ ha)
  · obtain ⟨t, hrun, hlock⟩ := exec_lockAcquire_lost hadm hpending hwon hword hopen hwin hrank
    exact ⟨_, hrun, toNat_lockedBy k, hlock⟩
  · exact ⟨_, exec_lockAcquire_held hadm hpending hwon hword, toNat_lockedBy k, fun a => rfl⟩
  · refine ⟨_, by rw [exec_lockRelease, execLockRelease, State.busWrite_lockRelease n hadm], State.releaseLock_held k hfreed hword ?_⟩
    exact hmay.imp (congrArg Fin.val) (Or.imp (congrArg Fin.val) (congrArg Fin.val))
  · have hmay' : ¬ (s.on (MTX_LOCK_HELD n) = true ∧ (s.rd (MTX_LOCK_OWNER n) = m.val ∨ m.val = 0 ∨ m.val = 2)) :=
      fun ⟨hheld, hm⟩ => hmay ⟨hheld, hm.imp id (Or.imp Fin.ext Fin.ext)⟩
    refine ⟨_, by rw [exec_lockRelease, execLockRelease, State.busWrite_lockRelease n hadm, State.releaseLock_error hfreed hmay'],
      fun k => State.word_raise _ ?_ ?_, State.on_raise _ (by decide) rfl (by decide)⟩
    · simp only [MTX_LOCK, MTX_EVENT]; omega
    · simp only [MTX_LOCK, MGT_LOG_LOST]; omega

end Sys2Proof.Machine
end
section
/-! SUPPORT. The channels of the mailboxes: what a post and a free change in the register of a channel (R588, R590, R592). -/

namespace Sys2Proof.Machine

variable {s : State} {c : Nat}

theorem State.rd_lt (s : State) (f : Field) : s.rd f < 2 ^ f.width := Nat.mod_lt _ (Nat.two_pow_pos _)

/-! ## The posted bits -/

/-- The posted bit of a slot, as a field of its own. -/
def postedBit (c k : Nat) : Field := ⟨MBX_CH c, 10 + k, 1⟩

theorem State.bit_posted (s : State) {k : Nat} (hk : k < 8) : bit (s.rd (MBX_CH_POSTED c)) k = (s.rd (postedBit c k) == 1) := by
  have h : (s.word (MBX_CH c)).toNat / 2 ^ 10 % 2 ^ 8 / 2 ^ k % 2 = (s.word (MBX_CH c)).toNat / 2 ^ (10 + k) % 2 ^ 1 := by
    rw [Nat.pow_add, ← Nat.div_div_eq_div_mul]
    generalize (s.word (MBX_CH c)).toNat / 2 ^ 10 = x
    interval_cases k <;> omega
  simp only [bit, State.rd, fieldGet, postedBit]
  rw [h]

/-- The fields of a channel's register lie apart. -/
theorem State.bit_posted_wr (s : State) {k j : Nat} (b : Bool) (hk : k < 8) (hj : j < 8) :
    bit ((s.wr (postedBit c j) (ofBool b)).rd (MBX_CH_POSTED c)) k = if k = j then b else bit (s.rd (MBX_CH_POSTED c)) k := by
  rw [State.bit_posted _ hk, State.bit_posted _ hk]
  split
  next h =>
    rw [h, State.rd_wr_same _ _ _ (by simp only [postedBit]; omega)]
    cases b <;> rfl
  next h => rw [State.rd_wr_apart _ _ (by simp only [postedBit]; omega) (by simp only [postedBit]; omega)]

/-! ## What leaves the register of a channel as it is -/

theorem chanReceiver_racker_lt {r : Nat} (h : chanReceiver c = .racker r) : r < 16 := by
  simp only [chanReceiver] at h
  split_ifs at h <;> cases h <;> omega

theorem State.word_notifyMail (s : State) (c : Nat) {a : Nat} (h : 0x3000000 ≤ a) : (s.notifyMail c).word a = s.word a := by
  unfold State.notifyMail
  split
  next r _ hr =>
    have := chanReceiver_racker_lt hr
    exact s.word_rckEvent_ne (by simp only [RCK_EVT]; omega)
  · exact s.word_sendMsix _ _
  · rfl

theorem State.word_showChannel (s : State) (c : Nat) {a : Nat} (h : a < 0x3BD4000) : (s.showChannel c).word a = s.word a := by
  have hhead : a ≠ MBX_HEAD c := by simp only [MBX_HEAD]; omega
  have hpend (b : Nat) : a ≠ MBX_PEND b (c / 32) := by simp only [MBX_PEND]; omega
  have hw (u : State) (f : Field) (v : Nat) (hf : f.addr = MBX_HEAD c) : (u.wr f v).word a = u.word a := u.word_wr_ne v (hf ▸ hhead)
  simp only [State.showChannel, State.wrB]
  cases chanBank c with
  | none => exact (hw _ _ _ rfl).trans ((hw _ _ _ rfl).trans (hw _ _ _ rfl))
  | some b =>
    exact (State.word_wr_ne _ _ (hpend b)).trans ((hw _ _ _ rfl).trans ((hw _ _ _ rfl).trans (hw _ _ _ rfl)))

theorem State.word_mbxError (s : State) (f : Field) (c : Nat) {a : Nat} (hf : f.addr = MBX_STATUS) (h : a ≠ MBX_STATUS) (hl : a ≠ MGT_LOG_LOST) :
    (s.mbxError f c).word a = s.word a := by
  rw [State.mbxError, State.word_raise _ (hf ▸ h) hl]
  exact State.word_wr_ne _ _ h

/-! ## Posts and frees -/

/-- The register of a channel whose slot at one of its pointers is posted or emptied. -/
def State.moveSlot (c : Nat) (ptr : Field) (posted : Bool) (n : Nat) (s : State) : State :=
  ((s.wr (postedBit c (s.rd ptr)) (ofBool posted)).wr ptr (s.rd ptr + 1)).wr (MBX_CH_COUNT c) n

/-- What moving a slot at a pointer leaves in the register, `other` being the other pointer. -/
structure MovesSlot (s : State) (c : Nat) (ptr other : Field) (posted : Bool) (n : Nat) (t : State) : Prop where
  count : t.rd (MBX_CH_COUNT c) = n
  moved : t.rd ptr = (s.rd ptr + 1) % 8
  kept : t.rd other = s.rd other
  posted : ∀ k, k < 8 → bit (t.rd (MBX_CH_POSTED c)) k = if k = s.rd ptr then posted else bit (s.rd (MBX_CH_POSTED c)) k

/-- The two pointers of a channel: where the next message is posted, and where the oldest one is. -/
def isPointer (c : Nat) (ptr other : Field) : Prop :=
  (ptr = MBX_CH_WR c ∧ other = MBX_CH_RD c) ∨ (ptr = MBX_CH_RD c ∧ other = MBX_CH_WR c)

theorem movesSlot_of_word {t : State} {ptr other : Field} {posted : Bool} {n : Nat} (hptr : isPointer c ptr other) (hn : n < 16)
    (h : t.word (MBX_CH c) = (s.moveSlot c ptr posted n).word (MBX_CH c)) : MovesSlot s c ptr other posted n t := by
  have hrd (f : Field) (hf : f.addr = MBX_CH c) : t.rd f = (s.moveSlot c ptr posted n).rd f := by rw [State.rd, State.rd, hf, h]
  have hfields : ptr.addr = MBX_CH c ∧ other.addr = MBX_CH c ∧ ptr.width = 3 ∧ ptr.lo + 3 ≤ 10 ∧ 4 ≤ ptr.lo ∧ 4 ≤ other.lo ∧
      other.lo + other.width ≤ 10 ∧ (other.lo + other.width ≤ ptr.lo ∨ ptr.lo + 3 ≤ other.lo) := by
    rcases hptr with ⟨rfl, rfl⟩ | ⟨rfl, rfl⟩ <;> norm_num
  obtain ⟨hpaddr, hoaddr, hpwidth, hphi, hplo, holo, hohi, hapart⟩ := hfields
  have hslot : s.rd ptr < 8 := by have := s.rd_lt ptr; rwa [hpwidth] at this
  have hbit : (postedBit c (s.rd ptr)).lo + (postedBit c (s.rd ptr)).width ≤ 32 := by simp only [postedBit]; omega
  have hcount (u : State) (g : Field) (hg : 4 ≤ g.lo) : (u.wr (MBX_CH_COUNT c) n).rd g = u.rd g :=
    State.rd_wr_apart u n (by norm_num) (.inr hg)
  have hmove (u : State) (g : Field) (v : Nat) (hg : g.lo + g.width ≤ ptr.lo ∨ ptr.lo + 3 ≤ g.lo) : (u.wr ptr v).rd g = u.rd g :=
    State.rd_wr_apart u v (by omega) (by rwa [hpwidth])
  refine ⟨?_, ?_, ?_, fun k hk => ?_⟩
  · rw [hrd _ rfl, State.moveSlot, State.rd_wr_same _ _ _ (by norm_num)]
    exact Nat.mod_eq_of_lt hn
  · rw [hrd _ hpaddr, State.moveSlot, hcount _ _ hplo, State.rd_wr_same _ _ _ (by omega), hpwidth]
    rfl
  · rw [hrd _ hoaddr, State.moveSlot, hcount _ _ holo, hmove _ _ _ hapart,
      State.rd_wr_apart _ _ hbit (.inl (by simp only [postedBit]; omega))]
  · rw [hrd _ rfl, State.moveSlot, hcount _ _ (by norm_num), hmove _ _ _ (.inr hphi), State.bit_posted_wr _ _ hk hslot]

/-- The register of a channel is not touched by what shows it and notifies of it. -/
theorem mbxCh_range (hc : c < 394) : 0x3000000 ≤ MBX_CH c ∧ MBX_CH c < 0x3BD4000 ∧ MBX_CH c ≠ MBX_STATUS ∧ MBX_CH c ≠ MGT_LOG_LOST := by
  simp only [MBX_CH, MBX_STATUS, MGT_LOG_LOST]; omega

section
variable (hc : c < 394)
include hc

/-- A post on a channel that is not full fills the slot at WR (R588). -/
theorem State.postSlot_open (s : State) (code : Nat) (hopen : s.rd (MBX_CH_COUNT c) < 8) :
    MovesSlot s c (MBX_CH_WR c) (MBX_CH_RD c) true (s.rd (MBX_CH_COUNT c) + 1) (s.postSlot c code) := by
  obtain ⟨hlo, hhi, -, -⟩ := mbxCh_range hc
  have hchan : s.chanOpen c = true := decide_eq_true hopen
  have hcount (u : State) (v w : Nat) (hw : w < 8) : (u.wr ⟨MBX_CH c, 10 + w, 1⟩ v).rd (MBX_CH_COUNT c) = u.rd (MBX_CH_COUNT c) :=
    State.rd_wr_apart _ _ (by simp only []; omega) (.inl (by simp only []; omega))
  refine movesSlot_of_word (.inl ⟨rfl, rfl⟩) (by omega) ?_
  simp only [State.postSlot, hchan, Bool.not_true, Bool.false_eq_true, if_false]
  rw [State.word_notifyMail _ _ hlo, State.word_showChannel _ _ hhi, State.word_bookIn, hcount _ _ _ (s.rd_lt _)]
  rfl

/-- A post on a full one only sets POST_FULL (R588). -/
theorem State.postSlot_full (s : State) (code : Nat) (hfull : 8 ≤ s.rd (MBX_CH_COUNT c)) :
    (s.postSlot c code).on MBX_STATUS_POST_FULL = true ∧ (s.postSlot c code).word (MBX_CH c) = s.word (MBX_CH c) := by
  obtain ⟨-, -, hstatus, hlog⟩ := mbxCh_range hc
  have hchan : s.chanOpen c = false := decide_eq_false (by omega)
  simp only [State.postSlot, hchan, Bool.not_false, if_true]
  exact ⟨State.on_raise _ (by decide) rfl (by decide), State.word_mbxError _ _ _ rfl hstatus hlog⟩

/-- A free of a channel that holds messages empties the slot at RD (R590). -/
theorem State.freeSlot_held (s : State) (hheld : 1 ≤ s.rd (MBX_CH_COUNT c)) :
    MovesSlot s c (MBX_CH_RD c) (MBX_CH_WR c) false (s.rd (MBX_CH_COUNT c) - 1) (s.freeSlot c) := by
  obtain ⟨-, hhi, -, -⟩ := mbxCh_range hc
  have hlt : s.rd (MBX_CH_COUNT c) < 16 := s.rd_lt _
  refine movesSlot_of_word (.inr ⟨rfl, rfl⟩) (by omega) ?_
  simp only [State.freeSlot, if_neg (show ¬ s.rd (MBX_CH_COUNT c) = 0 by omega)]
  rw [State.word_showChannel _ _ hhi, State.word_bookOut]
  rfl

/-- A free of an empty one only sets FREE_ERR (R590). -/
theorem State.freeSlot_empty (s : State) (hempty : s.rd (MBX_CH_COUNT c) = 0) :
    (s.freeSlot c).on MBX_STATUS_FREE_ERR = true ∧ (s.freeSlot c).word (MBX_CH c) = s.word (MBX_CH c) := by
  obtain ⟨-, -, hstatus, hlog⟩ := mbxCh_range hc
  simp only [State.freeSlot, hempty, if_true]
  exact ⟨State.on_raise _ (by decide) rfl (by decide), State.word_mbxError _ _ _ rfl hstatus hlog⟩

end

/-! ## The order of a cycle -/

theorem State.postNow_of_first (h : (s.chanNow c).posts = 0) : s.postNow c = (s.makeRoom c).postSlot c 0 := by
  simp only [State.postNow, h, ne_eq, not_true_eq_false, if_false]

/-- A channel with room, or one whose frees have all been made, makes none. -/
theorem State.makeRoom_same (h : s.chanOpen c = true ∨ s.pending = []) : s.makeRoom c = s := by
  simp only [State.makeRoom]
  rw [if_pos]
  rcases h with h | h <;> simp [h]

/-- A free of the cycle applies before the post on a full channel (R592). -/
theorem State.makeRoom_free (hfrees : (s.chanNow c).frees = 0) (hfull : s.chanOpen c = false) (h : ∃ x ∈ s.pending, s.writesMbx true c x = true) :
    ∃ g, s.makeRoom c = (s.freeSlot c).setChnH c g := by
  have hpos : ¬ (s.pending.filter (s.writesMbx true c)).length ≤ 0 := by
    obtain ⟨x, hx, hfree⟩ := h
    exact Nat.not_le.2 (List.length_pos_of_mem (List.mem_filter.2 ⟨hx, hfree⟩))
  simp only [State.makeRoom, hfrees, hfull, decide_eq_false hpos, Bool.or_false, Bool.false_eq_true, if_false]
  exact ⟨_, rfl⟩

theorem State.mbxFree_of_first (hfrees : (s.chanNow c).frees = 0) (hplain : ¬ (336 ≤ c ∧ c < 384)) : s.mbxFree c = s.freeSlot c := by
  have h1 : ¬ (368 ≤ c ∧ c < 384) := by omega
  have h2 : ¬ (336 ≤ c ∧ c < 352) := by omega
  simp only [State.mbxFree, State.freedAhead, hfrees, if_true, if_neg h1, if_neg h2, Bool.false_eq_true, if_false]

/-- Settles O18. -/
theorem mailboxChannelsCountTheirMessages : Obligations.MailboxChannelsCountTheirMessages := by
  unfold Obligations.MailboxChannelsCountTheirMessages
  intro s m c
  have hpost (hadm : s.Admits m true (MBX_POST c)) (hfirst : (s.chanNow c).posts = 0) :
      exec (.mbxPost m c) s = .next ((s.makeRoom c).postSlot c 0) := by
    rw [exec_mbxPost, execMbxPost, State.busWrite_mbxPost c hadm, State.postNow_of_first hfirst]
  have hfree (hadm : s.Admits m true (MBX_FREE c)) (hplain : ¬ (336 ≤ c.val ∧ c.val < 384)) (hfirst : (s.chanNow c).frees = 0) :
      exec (.mbxFree m c) s = .next (s.freeSlot c) := by
    rw [exec_mbxFree, execMbxFree, State.busWrite_mbxFree c hadm, State.mbxFree_of_first hfirst hplain]
  refine ⟨fun hadm hfirst hroom => ?_, fun hadm hplain hfirst hheld => ?_, fun hadm hfirst hfrees hfull hpending => ?_,
    fun hadm hfirst hpending hfull => ?_, fun hadm hplain hfirst hempty => ?_⟩
  · have hrun := hpost hadm hfirst
    rw [State.makeRoom_same (.inl (decide_eq_true hroom))] at hrun
    obtain ⟨hcount, hwr, hrd, hposted⟩ := s.postSlot_open c.isLt 0 hroom
    exact ⟨_, hrun, hcount, hwr, hrd, hposted⟩
  · obtain ⟨hcount, hrd, hwr, hposted⟩ := s.freeSlot_held c.isLt hheld
    exact ⟨_, hfree hadm hplain hfirst, hcount, hrd, hwr, hposted⟩
  · have hclosed : s.chanOpen c = false := decide_eq_false (by omega)
    obtain ⟨g, hroom⟩ := State.makeRoom_free hfrees hclosed hpending
    have hfreed := s.freeSlot_held c.isLt (by omega)
    have hrun := hpost hadm hfirst
    rw [hroom] at hrun
    have hcount : ((s.freeSlot c).setChnH c g).rd (MBX_CH_COUNT c) = 7 := hfreed.count.trans (by omega)
    have hposts := ((s.freeSlot c).setChnH c g).postSlot_open c.isLt 0 (by omega)
    refine ⟨_, hrun, hposts.count.trans (by omega), hposts.moved.trans ?_, hposts.kept.trans hfreed.moved⟩
    exact congrArg (fun x => (x + 1) % 8) hfreed.kept
  · have hrun := hpost hadm hfirst
    rw [State.makeRoom_same (.inr hpending)] at hrun
    obtain ⟨hevent, hword⟩ := s.postSlot_full c.isLt 0 hfull
    exact ⟨_, hrun, hevent, hword⟩
  · obtain ⟨hevent, hword⟩ := s.freeSlot_empty c.isLt hempty
    exact ⟨_, hfree hadm hplain hfirst, hevent, hword⟩

end Sys2Proof.Machine
end
section
/-! SUPPORT. The state after reset: every word reads as its register's reset value. -/

namespace Sys2Proof.Machine

/-- After reset the fields named hold what their tables state. -/
theorem reset_fields : State.reset.mode = .startup ∧ State.reset.rd PCI_STATUS_LINK_UP = 0 ∧
    State.reset.rd PWR_VIN_THR_FAULT_MV = 10800 ∧ State.reset.rd PWR_VIN_THR_WARN_MV = 11000 ∧ State.reset.rd PWR_SHED_THR_CRIT = 110 ∧
    State.reset.rd PWR_SHED_HYST_HYST = 3 ∧ State.reset.rd PWR_SHED_HYST_HOLD = 1 ∧ State.reset.rd TWN_CFG_LEAD = 2 := by
  decide +kernel

theorem reset_rackers (r : Fin 16) : State.reset.rd (RCK_STATUS_STATE r) = 0 ∧ State.reset.rd (RCK_PC_PC r) = 0 := by
  revert r; decide +kernel

theorem reset_leases_and_fences (i : Fin 256) : State.reset.rd (RCK_LEASE_H_HELD i) = 0 ∧ State.reset.word (RCK_FENCE i) = 0 := by
  revert i; decide +kernel

theorem reset_locks (n : Fin 64) : State.reset.word (MTX_LOCK n) = 0 := by
  revert n; decide +kernel

/-- Window 0 of every master is open (R634). -/
theorem reset_windows (m : Fin 22) : State.reset.rd (MTX_WIN_BASE_EN m 0) = 1 ∧ State.reset.rd (MTX_WIN_BASE_R m 0) = 1 ∧
    State.reset.rd (MTX_WIN_BASE_W m 0) = 1 := by
  revert m; decide +kernel

/-- Settles O3: the hidden state is that of the model's reset, and the registers read as their tables' reset values. -/
theorem resetLeavesTheStatedValues : Obligations.ResetLeavesTheStatedValues := by
  unfold Obligations.ResetLeavesTheStatedValues
  obtain ⟨hmode, hlink, hfault, hwarn, hcrit, hhyst, hhold, hlead⟩ := reset_fields
  exact ⟨rfl, rfl, rfl, rfl, hmode, hlink, hfault, hwarn, hcrit, hhyst, hhold, hlead,
    fun r => ⟨(reset_rackers r).1, (reset_rackers r).2, rfl⟩, reset_leases_and_fences, reset_locks, reset_windows⟩

end Sys2Proof.Machine
end

section
/-! SUPPORT. The blocks of the register map: a write of a register that goes through acts as its block does, at the register's indices. -/

namespace Sys2Proof.Machine

variable {s : State} {m a v : Nat} {ix : List Nat}

theorem State.busWrite_top (hreg : isRegister a .top ix = true) (hv : v < 2 ^ 32) (h : s.Admits m true a) :
    s.busWrite m a 4 v = s.writeTop m a v := by
  obtain ⟨-, -, -, hblock, d, hd⟩ := isRegister_iff.1 hreg
  rw [State.busWrite_of_isRegister hreg hv h]
  simp only [State.writeReg, hd, hblock]

theorem State.busWrite_syn (hreg : isRegister a .syn ix = true) (hv : v < 2 ^ 32) (h : s.Admits m true a) :
    s.busWrite m a 4 v = s.writeSyn m a v (ix.getD 0 0) := by
  obtain ⟨-, -, -, hblock, d, hd⟩ := isRegister_iff.1 hreg
  rw [State.busWrite_of_isRegister hreg hv h]
  simp only [State.writeReg, hd, hblock]

theorem State.busWrite_pln (hreg : isRegister a .pln ix = true) (hv : v < 2 ^ 32) (h : s.Admits m true a) :
    s.busWrite m a 4 v = s.writePln m a v := by
  obtain ⟨-, -, -, hblock, d, hd⟩ := isRegister_iff.1 hreg
  rw [State.busWrite_of_isRegister hreg hv h]
  simp only [State.writeReg, hd, hblock]

theorem State.busWrite_trl (hreg : isRegister a .trl ix = true) (hv : v < 2 ^ 32) (h : s.Admits m true a) :
    s.busWrite m a 4 v = s.writeTrl m a v (ix.getD 0 0) (ix.getD 1 0) := by
  obtain ⟨-, -, -, hblock, d, hd⟩ := isRegister_iff.1 hreg
  rw [State.busWrite_of_isRegister hreg hv h]
  simp only [State.writeReg, hd, hblock]

theorem State.busWrite_pkt (hreg : isRegister a .pkt ix = true) (hv : v < 2 ^ 32) (h : s.Admits m true a) :
    s.busWrite m a 4 v = s.writePkt m a v (ix.getD 0 0) := by
  obtain ⟨-, -, -, hblock, d, hd⟩ := isRegister_iff.1 hreg
  rw [State.busWrite_of_isRegister hreg hv h]
  simp only [State.writeReg, hd, hblock]

theorem State.busWrite_shared (hreg : isRegister a .rckShared ix = true) (hv : v < 2 ^ 32) (h : s.Admits m true a) :
    s.busWrite m a 4 v = s.writeShared m a v (ix.getD 0 0) := by
  obtain ⟨-, -, -, hblock, d, hd⟩ := isRegister_iff.1 hreg
  rw [State.busWrite_of_isRegister hreg hv h]
  simp only [State.writeReg, hd, hblock]

theorem State.busWrite_mvh (hreg : isRegister a .mvh ix = true) (hv : v < 2 ^ 32) (h : s.Admits m true a) :
    s.busWrite m a 4 v = s.writeMvh m a v (ix.getD 0 0) := by
  obtain ⟨-, -, -, hblock, d, hd⟩ := isRegister_iff.1 hreg
  rw [State.busWrite_of_isRegister hreg hv h]
  simp only [State.writeReg, hd, hblock]

theorem State.busWrite_prf (hreg : isRegister a .prf ix = true) (hv : v < 2 ^ 32) (h : s.Admits m true a) :
    s.busWrite m a 4 v = s.writePrf m a v := by
  obtain ⟨-, -, -, hblock, d, hd⟩ := isRegister_iff.1 hreg
  rw [State.busWrite_of_isRegister hreg hv h]
  simp only [State.writeReg, hd, hblock]

theorem State.busWrite_ldg (hreg : isRegister a .ldg ix = true) (hv : v < 2 ^ 32) (h : s.Admits m true a) :
    s.busWrite m a 4 v = s.writeLdg m a v := by
  obtain ⟨-, -, -, hblock, d, hd⟩ := isRegister_iff.1 hreg
  rw [State.busWrite_of_isRegister hreg hv h]
  simp only [State.writeReg, hd, hblock]

theorem State.busWrite_twn (hreg : isRegister a .twn ix = true) (hv : v < 2 ^ 32) (h : s.Admits m true a) :
    s.busWrite m a 4 v = s.writeTwn m a v := by
  obtain ⟨-, -, -, hblock, d, hd⟩ := isRegister_iff.1 hreg
  rw [State.busWrite_of_isRegister hreg hv h]
  simp only [State.writeReg, hd, hblock]

theorem State.busWrite_mgt (hreg : isRegister a .mgt ix = true) (hv : v < 2 ^ 32) (h : s.Admits m true a) :
    s.busWrite m a 4 v = s.writeMgt m a v := by
  obtain ⟨-, -, -, hblock, d, hd⟩ := isRegister_iff.1 hreg
  rw [State.busWrite_of_isRegister hreg hv h]
  simp only [State.writeReg, hd, hblock]

theorem State.busWrite_upd (hreg : isRegister a .upd ix = true) (hv : v < 2 ^ 32) (h : s.Admits m true a) :
    s.busWrite m a 4 v = s.writeUpd m a v := by
  obtain ⟨-, -, -, hblock, d, hd⟩ := isRegister_iff.1 hreg
  rw [State.busWrite_of_isRegister hreg hv h]
  simp only [State.writeReg, hd, hblock]

theorem State.busWrite_ptp (hlow : a < PTP_DT 0) (hreg : isRegister a .ptp ix = true) (hv : v < 2 ^ 32) (h : s.Admits m true a) :
    s.busWrite m a 4 v = s.writePtp m a v (ix.getD 0 0) := by
  obtain ⟨-, -, -, hblock, d, hd⟩ := isRegister_iff.1 hreg
  rw [State.busWrite_of_isRegister hreg hv h]
  simp only [State.writeReg, hd, hblock, if_pos hlow]

theorem State.busWrite_rck {r : Nat} (hreg : isRegister a (.rck r) ix = true) (hv : v < 2 ^ 32) (h : s.Admits m true a) :
    s.busWrite m a 4 v = s.writeRck m a v r (ix.getD 1 0) := by
  obtain ⟨-, -, -, hblock, d, hd⟩ := isRegister_iff.1 hreg
  rw [State.busWrite_of_isRegister hreg hv h]
  simp only [State.writeReg, hd, hblock]

end Sys2Proof.Machine
end
section
/-! SUPPORT. The supply, device reset, the power domains and shedding (chapter 2). -/

namespace Sys2Proof.Machine

variable {s : State} {m : Nat}

theorem isRegister_topReset : isRegister TOP_RESET .top [] = true := by decide +kernel
theorem isRegister_pwrDomReq (k : Fin 3) : isRegister (PWR_DOM_REQ k) .pwr [k] = true := by revert k; decide +kernel

theorem State.busWrite_topReset (v : Word) (h : s.Admits m true TOP_RESET) : s.busWrite m TOP_RESET 4 v.toNat = s.resetKey v.toNat := by
  rw [State.busWrite_top isRegister_topReset v.isLt h]
  rfl

theorem State.busWrite_pwrDomReq (k : Fin 3) (v : Word) (h : s.Admits m true (PWR_DOM_REQ k)) :
    s.busWrite m (PWR_DOM_REQ k) 4 v.toNat = s.domReqWrite m k v.toNat := by
  obtain ⟨halign, -, -, -, d, hd⟩ := isRegister_iff.1 (isRegister_pwrDomReq k)
  have hne : PWR_DOM_REQ k ≠ TOP_CTRL ∧ PWR_DOM_REQ k ≠ TOP_RESET ∧ PWR_DOM_REQ k ≠ PWR_VIN_THR ∧ PWR_DOM_REQ k ≠ PWR_SHED_THR := by
    simp only [PWR_DOM_REQ, TOP_CTRL, TOP_RESET, PWR_VIN_THR, PWR_SHED_THR]
    omega
  have hrange : PWR_DOM_REQ 0 ≤ PWR_DOM_REQ k ∧ PWR_DOM_REQ k ≤ PWR_DOM_REQ 2 := by simp only [PWR_DOM_REQ]; omega
  have hindex : (PWR_DOM_REQ k - PWR_DOM_REQ 0) / 4 = k := by simp only [PWR_DOM_REQ]; omega
  obtain ⟨hctrl, hreset, hvin, hshed⟩ := hne
  rw [State.busWrite_pwr _ v halign (by simp only [PWR_DOM_REQ]; omega) (by simp only [PWR_DOM_REQ]; omega) (by rw [hd]; rfl) h,
    State.writeTop, if_neg hctrl, if_neg hreset, if_neg hvin, if_neg hshed, if_pos hrange, hindex]

/-- Settles O28. -/
theorem supplyAndDomainCommandsComplete : Obligations.SupplyAndDomainCommandsComplete := by
  unfold Obligations.SupplyAndDomainCommandsComplete
  refine ⟨fun s mv devAddr side hv hreset => ?_, fun s mv hreset hwarn => ?_, fun s mv hreset hhi hfault => ?_, fun s m key hadm hkey => ?_,
    fun s i hreset => ?_, fun s hreset => ?_, fun s m k v hadm => ?_, fun s k hk hreached hreq hready => ?_,
    fun s k u hk hu hreached hstate hreq hready => ?_, fun s i hreq hready => ?_, fun s hshed => ?_, fun s t hcool hshed ht => ?_,
    fun s i hcrit => ?_, fun s m v hadm => ?_, fun s m v hadm => ?_⟩
  · have hin : (s.setVin mv).top.inReset = true := hreset
    simp only [exec_vinValid, execVinValid, hv, hin, Bool.not_true, Bool.false_eq_true, if_false, if_true]
  · have hlow : ¬ (s.rd PWR_VIN_THR_WARN_MV ≤ mv ∨ s.top.inReset = true) := by simp [hreset, hwarn]
    rw [exec_vinWarn, execVinWarn, if_neg hlow]
  · simp only [exec_vinFault, execVinFault, hreset, Bool.false_eq_true, if_false, if_neg (Nat.not_lt.2 hhi), if_pos hfault]
  · rw [exec_topResetKey, execTopResetKey, State.busWrite_topReset key hadm, State.resetKey, if_pos hkey]
  · simp only [exec_regulatorFault, execRegulatorFault, hreset, Bool.false_eq_true, if_false]
  · rw [exec_alwaysOnRegulatorFault, execAlwaysOnRegulatorFault_of_released s hreset]
  · rw [exec_pwrDomReqWrite, execPwrDomReqWrite, State.busWrite_pwrDomReq k v hadm]
  · have hlogic : ¬ k.val ≤ 36 := by omega
    simp only [exec_domainReady, execDomainReady, if_neg hlogic, hreached, decide_eq_true hk, hreq, hready, Bool.true_or, Bool.and_self,
      Bool.not_false, if_true]
  · subst hu
    simp only [exec_domainReady, execDomainReady, if_pos hk, hreached, hstate, hreq, hready, BEq.rfl, Bool.or_true, Bool.and_self,
      Bool.not_false, if_true]
  · simp only [exec_domainStop, execDomainStop, hreq, hready, Bool.false_eq_true, if_false, if_true]
  · rw [exec_shedRise, execShedRise, if_pos hshed]
  · simp only [exec_shedFall, execShedFall, hcool, if_pos (And.intro hshed ht)]
  · rw [exec_thermalCritical, execThermalCritical, if_pos hcrit]
  · rw [exec_pwrVinThrWrite, execPwrVinThrWrite, s.busWrite_vinThr v hadm]
  · rw [exec_pwrShedThrWrite, execPwrShedThrWrite, s.busWrite_shedThr v hadm]

end Sys2Proof.Machine
end
section
/-! SUPPORT. The boot timeline and the modes of the device (chapter 2). -/

namespace Sys2Proof.Machine

variable {s : State} {m : Nat}

theorem isRegister_topCtrl : isRegister TOP_CTRL .top [] = true := by decide +kernel

theorem State.busWrite_topCtrl {v : Nat} (hv : v < 2 ^ 32) (h : s.Admits m true TOP_CTRL) : s.busWrite m TOP_CTRL 4 v = s.topControl v := by
  rw [State.busWrite_top isRegister_topCtrl hv h]
  rfl

/-- A milestone leaves the time and the commands that wait. -/
theorem State.now_milestone (s : State) (k : Nat) : (s.milestone k).now = s.now := by
  unfold State.milestone
  split
  · rfl
  · simp only [State.now_wr]
theorem State.pending_milestone (s : State) (k : Nat) : (s.milestone k).pending = s.pending := by
  unfold State.milestone
  split
  · rfl
  · simp only [State.pending_wr]

/-- OTP_LOADED ends in its milestone. -/
theorem exec_otpLoaded_milestone (hreset : s.top.inReset = false) (hrails : bit s.top.reached 0 = true) (hfirst : bit s.top.reached 1 = false) :
    ∃ u : State, exec .otpLoaded s = .next (u.milestone 1) ∧ u.now = s.now ∧ u.pending = s.pending := by
  have hgo : ¬ (s.top.inReset = true ∨ (!bit s.top.reached 0) = true ∨ bit s.top.reached 1 = true) := by simp [hreset, hrails, hfirst]
  obtain ⟨t, hrun, hkept⟩ := kept_execOtpLoaded s
  obtain ⟨u, hu⟩ : ∃ u : State, execOtpLoaded s = .next (u.milestone 1) := ⟨_, by rw [execOtpLoaded, if_neg hgo]⟩
  have ht : t = u.milestone 1 := by rw [hrun] at hu; exact Host.Outcome.next.inj hu
  refine ⟨u, by rw [exec_otpLoaded, hu], ?_, ?_⟩
  · rw [← u.now_milestone 1, ← ht, hkept.now]
  · rw [← u.pending_milestone 1, ← ht, hkept.pending]

/-- Settles O29. -/
theorem bootAndModeCommandsComplete : Obligations.BootAndModeCommandsComplete := by
  unfold Obligations.BootAndModeCommandsComplete
  refine ⟨fun s hreset hrails => ?_, fun s hreset hrails hfirst => exec_otpLoaded_milestone hreset hrails hfirst,
    fun s bands u hreset hmode hfirst hu => ?_, fun s u v w hreset hmode hreached hu hv hw => ?_, fun s hmode hready hframe htwin => ?_,
    fun s hreset hcellar => ?_, fun s hreset hcellar => ?_, fun s m hadm hmay => ?_, fun s m hadm hmode => ?_, fun s f hthaw hf => ?_,
    fun s m hadm hmode => ?_, fun s m hadm hmode => ?_, fun s u hmode hb1 hframe hu => ?_, fun s u hmode hstopped hover hu => ?_,
    fun s m hadm hmode => ?_, fun s f halone hmember hmode hf => ?_⟩
  · have hgo : ¬ (s.top.inReset = true ∨ bit s.top.reached 0 = true) := by simp [hreset, hrails]
    rw [exec_railsUp, execRailsUp, if_neg hgo]
  · subst hu
    have hgo : ¬ (s.top.inReset = true ∨ s.mode ≠ .startup ∨ bit s.top.reached 2 = true) := by simp [hreset, hmode, hfirst]
    rw [exec_bandSearchesDone, execBandSearchesDone, if_neg hgo]
  · have hgo : ¬ (s.top.inReset = true ∨ s.mode ≠ .startup ∨ s.top.reached % 8 ≠ 7) := by simp [hreset, hmode, hreached]
    rw [exec_tUse, execTUse, if_neg hgo, hw, hv, hu]
  · have hgo : ¬ (s.mode ≠ .default ∨ (!s.on TOP_STATUS_MGT_READY) = true ∨ s.frame0 ≤ s.top.mgtFrame) := by simp [hmode, hready, hframe]
    rw [exec_defaultLeft, execDefaultLeft, if_neg hgo]
    simp only [htwin, Bool.not_false, if_true]
  · have hgo : ¬ (s.top.inReset = true ∨ s.on TOP_STATUS_CELLAR_READY = true) := by simp [hreset, hcellar]
    rw [exec_cellarTrained, execCellarTrained, if_neg hgo]
  · have hgo : ¬ (s.top.inReset = true ∨ s.on TOP_STATUS_CELLAR_READY = true) := by simp [hreset, hcellar]
    rw [exec_cellarTrainingFail, execCellarTrainingFail, if_neg hgo]
  · rw [exec_freeze, execFreeze, State.busWrite_topCtrl (by decide) hadm]
    rfl
  · rw [exec_thaw, execThaw, State.busWrite_topCtrl (by decide) hadm]
    rfl
  · simp only [exec_thawApply, execThawApply, hthaw, if_pos hf]
  · rw [exec_diag, execDiag, State.busWrite_topCtrl (by decide) hadm]
    exact congrArg Host.Outcome.next (if_pos hmode)
  · rw [exec_quiesce, execQuiesce, State.busWrite_topCtrl (by decide) hadm]
    rfl
  · subst hu
    have hgo : ¬ (s.mode ≠ .quiesce ∨ s.top.b1.isSome = true ∨ s.frame0 ≤ s.top.quiesceFrame) := by simp [hmode, hb1, hframe]
    rw [exec_quiesceB1, execQuiesceB1, if_neg hgo]
  · subst hu
    have hgo : ¬ (s.mode ≠ .quiesce ∨ s.top.txStopped = true ∨ (!s.txPeriodOver) = true) := by simp [hmode, hstopped, hover]
    rw [exec_quiesceTxEnd, execQuiesceTxEnd, if_neg hgo]
  · rw [exec_rejoin, execRejoin, State.busWrite_topCtrl (by decide) hadm]
    rfl
  · simp only [exec_isolatedEntry, execIsolatedEntry, halone]
    exact congrArg Host.Outcome.next (if_pos ⟨hmember, hmode, hf⟩)

end Sys2Proof.Machine
end
section
/-! SUPPORT. The receiver of a trellis (chapter 3). -/

namespace Sys2Proof.Machine

variable {s : State} {n : Fin 37}

/-- What every operation of a command keeps. -/
theorem Kept.now_and_pending {s t : State} (h : Kept s t) : t.now = s.now ∧ t.pending = s.pending := ⟨h.now, h.pending⟩

/-- Following a generator's lock leaves the trellis's hidden state. -/
theorem State.trlH_followLock (s : State) (n l k : Nat) : (s.followLock n l).trlH k = s.trlH k := by
  unfold State.followLock
  split
  · simp only [State.trlH_wr]
  · rfl

/-- One step of a lane's gain (the model's ±1 is its own). -/
theorem exec_adaptStep_gain (l : Fin 8) (up : Bool) (hup : s.rxIs n 6 = true) (hfreeze : s.on (TRL_CFG_ADAPT_FREEZE n) = false)
    (hl : l.val < laneCount n) (hdue : (s.trlH n).adaptAt = []) (hptr : -4 ≤ (s.laneH n l).pointer ∧ (s.laneH n l).pointer ≤ 4) :
    exec (.adaptStep n l 6 up) s = .next ({ s with }.setLaneH n l
      { s.laneH n l with gain := (s.laneH n l).gain + (if up then 1 else -1) } |> fun u => u.setTrlH n
        { u.trlH n with adaptAt := pairSet (u.trlH n).adaptAt (l.val * 8 + 6) u.now }) := by
  have hin : ¬ ((s.laneH n l).pointer < -4 ∨ 4 < (s.laneH n l).pointer) := by omega
  simp [execAdaptStep, hup, hfreeze, hl, hdue, pairGet, hin]

theorem exec_phaseSettled_setRx (phases : List (Fin 64)) (hrx : s.rxIs n 3 = true) :
    ∃ u : State, exec (.phaseSettled n phases) s = .next (u.setRx n 4) ∧ u.now = s.now ∧ u.pending = s.pending := by
  refine ⟨_, congrArg Host.Outcome.next (if_pos hrx), ?_⟩
  exact Kept.now_and_pending (kept_forN (fun l u => kept_setLaneH _ _ _ _ (kept_wr _ _ _ (Kept.refl u))) (Kept.refl s))

/-- The end of the deskew: the receiver is up, and its block position starts at 2. -/
theorem exec_deskewDone_up (ids : List (Fin 8)) (skews : List (Fin 257)) (last : List (Fin 4)) (hrx : s.rxIs n 5 = true)
    (hids : laneIdsOk n (ids.map (·.val)) = true)
    (hskews : ((skews.take (laneCount n)).all (fun k => decide (k.val ≤ s.skewLimit n)) = true)) :
    ∃ u : State, exec (.deskewDone n ids skews last) s = .next ((((u.wr (TRL_UP_TS_FRAME n) (wrap32 u.frame0)).wr
      (TRL_STATUS_LANE_ALIGNED n) (2 ^ laneCount n - 1)).ptpCheck n).checkAligned) ∧ (u.trlH n).rxPos = 2 ∧ u.now = s.now ∧
      u.pending = s.pending := by
  have hgo : (s.rxIs n 5 && laneIdsOk n (ids.map (·.val)) && (skews.take (laneCount n)).all (fun k => decide (k.val ≤ s.skewLimit n))) = true := by
    rw [hrx, hids, hskews]
    rfl
  refine ⟨_, congrArg Host.Outcome.next (if_pos hgo), ?_, ?_⟩
  · have hkeep (u : State) : ((u.forN (laneCount n) fun l u => u.followLock n l).trlH n).rxPos = (u.trlH n).rxPos :=
      State.forN_keeps (fun u => (u.trlH n).rxPos) (fun l u => congrArg TrlH.rxPos (u.trlH_followLock n l n)) _ u
    rw [hkeep, State.trlH_setTrlH]
  · exact Kept.now_and_pending (kept_forN (fun l u => kept_followLock n l u (Kept.refl u)) (kept_setTrlH _ n _ (kept_setRx n 6 _ (kept_draw _
      (kept_forN (fun l u => kept_setLaneH _ n l _ (kept_wr _ _ _ (Kept.refl u))) (kept_showLanes n _ _ s (Kept.refl s)))))))

/-- Settles O30: where its receive state holds, each event is one update of the trellis. -/
theorem receiverCommandsComplete : Obligations.ReceiverCommandsComplete := by
  unfold Obligations.ReceiverCommandsComplete
  refine ⟨fun s n => ?_, fun s n htx => ?_, fun s n htx => ?_, fun s n l up hup hfreeze hl hdue hptr =>
      exec_adaptStep_gain l up hup hfreeze hl hdue hptr,
    fun s n hrx hloop => ?_, fun s n hrx => ?_, fun s n hrx hage => ?_, fun s n phases hrx => exec_phaseSettled_setRx phases hrx,
    fun s n hrx hage => ?_, fun s n hrx => ?_, fun s n hrx hage => ?_,
    fun s n ids skews last hrx hids hskews => exec_deskewDone_up ids skews last hrx hids hskews,
    fun s n ids skews v hrx hage hids hv hskews => ?_, fun s n hloop => ?_, fun s n => ?_, fun s n => ?_, fun s n => ?_, fun s n => ?_,
    fun s n => ?_⟩
  · rw [exec_presetApply, execPresetApply, if_pos rfl]
  · have hon : (s.setTrlH n { s.trlH n with presetTx := s.rd (TRL_CFG_PRESET_TX n) }).on (TRL_STATUS_TX_ACTIVE n) = true := htx
    simp only [exec_presetApply, execPresetApply, State.when, hon, Bool.false_eq_true, if_false, if_true]
  · have hoff : (s.setTrlH n { s.trlH n with presetTx := s.rd (TRL_CFG_PRESET_TX n) }).on (TRL_STATUS_TX_ACTIVE n) = false := htx
    simp only [exec_presetApply, execPresetApply, State.when, hoff, Bool.false_eq_true, if_false]
  · have hdown : s.rxIs n 0 = false := by
      simp only [State.rxIs, beq_iff_eq, beq_eq_false_iff_ne] at hrx ⊢
      omega
    have hrx' : (s.wr (TRL_STATUS_FCLK_PRESENT n) 1).rxIs n 1 = true := by
      rw [State.rxIs, State.rd_wr_apart _ _ (by norm_num) (by norm_num)]
      exact hrx
    simp only [exec_fclkDetected, execFclkDetected, hdown, hloop, hrx', Bool.false_and, Bool.or_false, Bool.false_eq_true, if_false, if_true]
  · rw [exec_dllLocked, execDllLocked, if_pos hrx]
  · simp only [exec_dllLockTimeout, execDllLockTimeout, hrx, hage, Bool.and_self, if_true]
  · simp only [exec_phaseSweepTimeout, execPhaseSweepTimeout, hrx, hage, Bool.and_self, if_true]
  · rw [exec_commaAligned, execCommaAligned, if_pos hrx]
  · simp only [exec_alignTimeout, execAlignTimeout, hrx, hage, Bool.and_self, if_true]
  · subst hv
    simp only [exec_deskewTimeout, execDeskewTimeout, hrx, hage, hids, hskews, Bool.and_self, Bool.false_eq_true, if_false, if_true]
  · simp only [exec_fclkStop, execFclkStop, hloop, Bool.false_eq_true, if_false]
  · rfl
  · rfl
  · rfl
  · rfl
  · rfl

end Sys2Proof.Machine
end
section
/-! SUPPORT. The transmitter of a trellis, its test patterns and its block framing (chapters 3 and 4). -/

namespace Sys2Proof.Machine

variable {s : State} {m : Nat}

theorem isRegister_trlCfg (n : Fin 37) : isRegister (TRL_CFG n) .trl [n] = true := by revert n; decide +kernel
theorem isRegister_trlLaneInj (n : Fin 37) (l : Fin 8) : isRegister (TRL_LANE_INJ n l) .trl [n, l] = true := by revert n l; decide +kernel

/-- A write of TRL_CFG changes the mode first, and outside DIAGNOSTIC keeps LOOPBACK (R99, R104). -/
theorem State.busWrite_trlCfg {v : Nat} (n : Fin 37) (hv : v < 2 ^ 32) (h : s.Admits m true (TRL_CFG n)) :
    s.busWrite m (TRL_CFG n) 4 v = (s.modeWrite n (v % 4)).storeReg m (TRL_CFG n) ((s.modeWrite n (v % 4)).keepBits (TRL_CFG n)
      (3 + if s.mode == .diagnostic then 0 else 2 ^ (TRL_CFG_LOOPBACK n).lo * (2 ^ (TRL_CFG_LOOPBACK n).width - 1)) v) := by
  rw [State.busWrite_trl (isRegister_trlCfg n) hv h]
  exact if_pos rfl

theorem State.busWrite_trlLaneInj (n : Fin 37) (l : Fin 8) (h : s.Admits m true (TRL_LANE_INJ n l)) :
    s.busWrite m (TRL_LANE_INJ n l) 4 1 = s.inject n l := by
  have hcfg : TRL_LANE_INJ n l ≠ TRL_CFG n := by simp only [TRL_LANE_INJ, TRL_CFG]; omega
  have hlane : TRL_LANE_INJ n l ≠ TRL_LANE_CFG n l := by simp only [TRL_LANE_INJ, TRL_LANE_CFG]; omega
  rw [State.busWrite_trl (isRegister_trlLaneInj n l) (by decide) h]
  exact (if_neg hcfg).trans ((if_neg hlane).trans (if_pos rfl))

/-- Settles O31. -/
theorem transmitPatternAndFramingCommandsComplete : Obligations.TransmitPatternAndFramingCommandsComplete := by
  unfold Obligations.TransmitPatternAndFramingCommandsComplete
  refine ⟨fun s n hallow htx => ?_, fun s n hallow => ?_, fun s m n mode hadm => ?_, fun s n hn hmode => ?_, fun s m n l hadm => ?_,
    fun s n l bits hchecks hlock hsel hmode => ?_, fun s n l bits q hchecks hlock hsel hq => ?_,
    fun s n l bits errs recent hchecks hlock hrecent hsel hen => ?_,
    fun s n due areas v u w htx hpacket hmode hn hareas hv htrunk hu hw hwtrunk hnext => ?_,
    fun s n symbols skews lines q u hrx hloop hn hq hpacket hmode hu => ?_, fun s n missing hstate hbad => ?_,
    fun s n hrx hmode hlocked hage => ?_⟩
  · simp only [exec_txActivate, execTxActivate, hallow, htx, Bool.not_false, Bool.and_self, if_true]
  · simp only [exec_txDeactivate, execTxDeactivate, hallow, Bool.false_eq_true, if_false]
  · have hlow : mergeBits 3 mode (s.word (TRL_CFG n)).toNat % 4 = mode := mergeBits_low 2 _ _ (by decide) mode.isLt
    refine ⟨_, rfl, ?_⟩
    rw [exec_trellisModeWrite, execTrellisModeWrite, State.busWrite_trlCfg n (mergeBits_lt _ _ _ (BitVec.isLt _)) hadm, hlow]
  · rw [exec_trellisModeChange, execTrellisModeChange, if_pos ⟨hn, hmode⟩]
  · rw [exec_inject, execInject, State.busWrite_trlLaneInj n l hadm]
  · have hnot : ¬ s.rd (TRL_LANE_CFG_PAT_SEL n l) < 4 := by omega
    simp only [exec_checkerLock, execCheckerLock, hchecks, hlock, Bool.not_true, Bool.or_self, Bool.false_eq_true, if_false, if_neg hnot,
      State.followLock, if_pos (And.intro hmode hsel)]
  · obtain ⟨h, locked, k, e⟩ := q
    simp only [exec_checkerLock, execCheckerLock, hchecks, hlock, Bool.not_true, Bool.or_self, Bool.false_eq_true, if_false, if_pos hsel, ← hq]
  · refine ⟨_, _, rfl, rfl, ?_⟩
    simp only [exec_checkerLoseLock, execCheckerLoseLock, hchecks, hlock, hrecent, hsel, decide_true, Bool.and_self, and_self, if_true,
      State.countChecked, hen, Bool.not_true, Bool.false_eq_true, if_false]
  · have hdiag : (s.mode == Mode.diagnostic) = false := beq_false_of_ne hmode
    have hport : (n.val != 36) = true := bne_iff_ne.2 hn
    have hfirst : ((s.ctnH n).next == 0) = false := beq_false_of_ne hnext
    simp only [exec_blockSent, execBlockSent, htx, hdiag, hpacket, hport, Bool.and_false, Bool.not_false, Bool.and_self, Bool.false_eq_true,
      if_false, if_true, ← hareas, ← hv, htrunk, ← hu, ← hw, hwtrunk, hfirst]
  · have hdiag : (q.1.mode == Mode.diagnostic) = false := beq_false_of_ne hmode
    have hport : decide (n.val = 36) = false := decide_eq_false hn
    subst hu
    rw [exec_blockReceived, execBlockReceived]
    simp only [hrx, hloop, Bool.not_true, Bool.or_self, Bool.false_eq_true, if_false, ← hq, hport, hpacket, hdiag]
  · simp only [exec_framingLost, execFramingLost, hstate, BEq.rfl, decide_eq_true hbad, Bool.and_self, if_true]
  · simp only [exec_noFraming, execNoFraming, hrx, hmode, hlocked, hage, BEq.rfl, Bool.not_false, Bool.and_self, if_true]

end Sys2Proof.Machine
end
section
/-! SUPPORT. The reference candidates and the DPLL (chapter 5). -/

namespace Sys2Proof.Machine

/-- Settles O32: under its conditions each event takes the one branch of its command that acts. -/
theorem referenceCommandsComplete : Obligations.ReferenceCommandsComplete := by
  unfold Obligations.ReferenceCommandsComplete
  refine ⟨fun s c hz hstate => ?_, fun s c idle levels k t w hstate hk ht hw hok htime => ?_, fun s c idle levels k t w hstate hk ht hw hbad => ?_,
    fun s c hstate hsince hreq => ?_, fun s c ps hclass hperiod hglitches => ?_, fun s c ps hgone => ?_, fun s c => ?_,
    fun s meas u hdue hu => ?_, fun s c hstate hgood hsince => ?_, fun s c hstate hsince => ?_, fun s t k hd hstep hsince => ?_,
    fun s freq b u hd hhandoff hfreq hsince hu => ?_, fun s freq phase t hhandoff hd hfreq hphase ht => ?_,
    fun s phase hd hphase hsince => ?_, fun s hd hsince => ?_⟩
  · rw [exec_refClassified, execRefClassified, if_pos hstate]
  · subst hk ht
    simp only [exec_frameMarker, execFrameMarker, if_neg hstate, hw, hok, htime, Bool.and_self, if_true]
  · subst hk ht
    simp only [exec_frameMarker, execFrameMarker, if_neg hstate, hw, hbad, Bool.false_eq_true, if_false]
  · have hlate : ¬ (s.candState c = 0 ∨ s.now < (s.candH c).markerSince + 3 * framePeriod (s.candRate c)) := by omega
    simp only [exec_markerTimeout, execMarkerTimeout, if_neg hlate, hreq, Bool.false_eq_true, if_false]
  · have hseen : ¬ (s.rd (REF_CAND_STAT_CLASS c) = 0 ∨ glitchPeriod (s.rd (REF_CAND_STAT_CLASS c)) ps = false) := by simp [hclass, hperiod]
    simp [execRefGlitch, if_neg hseen, hglitches]
  · rw [exec_refClockLost, execRefClockLost, if_pos hgone]
  · rfl
  · subst hu
    rw [exec_driftMonitorUpdate, execDriftMonitorUpdate, if_neg (Nat.not_lt.2 hdue)]
  · rw [exec_qualified, execQualified, if_pos ⟨hstate, hgood, hsince⟩]
  · rw [exec_disqualified, execDisqualified, if_pos ⟨hstate, hsince⟩]
  · simp only [exec_bandwidthStep, execBandwidthStep, if_pos hd, hstep]
    exact congrArg Host.Outcome.next (if_pos hsince)
  · subst hu
    have hgo : ¬ (s.rd REF_STATUS_DPLL ≠ 1 ∨ s.dpll.handoff.isSome = true ∨ 20 < freq ∨ s.now < s.dpll.selAt + 2 * sec) := by
      rintro (h | h | h | h)
      · exact h hd
      · simp [hhandoff] at h
      · exact absurd hfreq (Nat.not_le.2 h)
      · exact absurd hsince (Nat.not_le.2 h)
    rw [exec_handOff, execHandOff, if_neg hgo]
  · simp only [exec_dpllLocked, execDpllLocked, hhandoff]
    exact congrArg Host.Outcome.next (if_pos ⟨hd, hfreq, hphase, ht⟩)
  · rw [exec_dpllUnlock, execDpllUnlock, if_pos ⟨hd, hphase, hsince⟩]
  · rw [exec_holdoverExpired, execHoldoverExpired, if_pos ⟨hd, hsince⟩]

end Sys2Proof.Machine
end
section
/-! SUPPORT. The timing plans: their registers, their starts and stops, their changes, jumps and slews (chapter 5). -/

namespace Sys2Proof.Machine

variable {s : State} {m : Nat}

/-! ## Their registers -/

theorem isRegister_plnCfg (p : Fin 8) : isRegister (PLN_CFG p) .pln [p] = true := by revert p; decide +kernel
theorem isRegister_plnAlign (p : Fin 8) : isRegister (PLN_ALIGN p) .pln [p] = true := by revert p; decide +kernel
theorem isRegister_plnCtrl (p : Fin 8) : isRegister (PLN_CTRL p) .pln [p] = true := by revert p; decide +kernel

/-- The plan of a register of PLN. -/
theorem plan_of_addr (p : Fin 8) {a : Nat} (ha : a = PLN_CFG p ∨ a = PLN_ALIGN p ∨ a = PLN_CTRL p) :
    (a - PLN_CFG 0) / (PLN_CFG 1 - PLN_CFG 0) = p := by
  simp only [PLN_CFG, PLN_ALIGN, PLN_CTRL] at *
  omega

theorem State.busWrite_plnCfg {v : Nat} (p : Fin 8) (hv : v < 2 ^ 32) (h : s.Admits m true (PLN_CFG p)) :
    s.busWrite m (PLN_CFG p) 4 v = s.planCfgWrite p v := by
  rw [State.busWrite_pln (isRegister_plnCfg p) hv h, State.writePln]
  simp only [plan_of_addr p (.inl rfl), if_true]

theorem State.busWrite_plnAlign {v : Nat} (p : Fin 8) (hv : v < 2 ^ 32) (h : s.Admits m true (PLN_ALIGN p)) :
    s.busWrite m (PLN_ALIGN p) 4 v = s.planAlignWrite p v := by
  have hcfg : PLN_ALIGN p ≠ PLN_CFG p := by simp only [PLN_ALIGN, PLN_CFG]; omega
  rw [State.busWrite_pln (isRegister_plnAlign p) hv h, State.writePln]
  simp only [plan_of_addr p (.inr (.inl rfl)), if_neg hcfg, if_true]

theorem State.busWrite_plnCtrl {v : Nat} (p : Fin 8) (hv : v < 2 ^ 32) (h : s.Admits m true (PLN_CTRL p)) :
    s.busWrite m (PLN_CTRL p) 4 v = s.planCtrlWrite p v := by
  have hcfg : PLN_CTRL p ≠ PLN_CFG p := by simp only [PLN_CTRL, PLN_CFG]; omega
  have halign : PLN_CTRL p ≠ PLN_ALIGN p := by simp only [PLN_CTRL, PLN_ALIGN]; omega
  rw [State.busWrite_pln (isRegister_plnCtrl p) hv h, State.writePln]
  simp only [plan_of_addr p (.inr (.inr rfl)), if_neg hcfg, if_neg halign, if_true]

/-! ## The end of a plan -/

/-- A running plan whose last frame is over stops. -/
theorem exec_planStop_of (p : Fin 8) {k : Nat} (hstaged : (s.planH p).staged = none) (hstop : (s.planH p).stopping = some k)
    (hrun : s.on (PLN_STATUS_RUN p) = true) (hk : k < s.frameOf p) :
    ∃ u : State, exec (.planStop p) s = .next ((((u.wr (PLN_STATUS_RUN p) 0).wr (PLN_STATUS_SLEWING p) 0).wr (PLN_STATUS_JUMP_PEND p)
      0).updateFreqOnly) ∧ (u.planH p).stopping = none ∧ (u.planH p).anchorF = s.frameOf p := by
  have hover : decide (s.frameOf p ≤ k) = false := decide_eq_false (Nat.not_le.2 hk)
  apply Exists.intro
  constructor
  · simp only [exec_planStop, execPlanStop, hstaged, hstop, hrun, hover, Bool.not_true, Bool.or_self, Bool.false_eq_true, if_false]
    rfl
  · exact ⟨congrArg PlanH.stopping (State.planH_setPlanH _ _ _), congrArg PlanH.anchorF (State.planH_setPlanH _ _ _)⟩

/-- Settles O33. -/
theorem planCommandsComplete : Obligations.PlanCommandsComplete := by
  unfold Obligations.PlanCommandsComplete
  refine ⟨fun s m p v hadm => ?_, fun s p u hu hclock => ?_, fun s p u st hu hclock hfree hwaits hstaged => ?_,
    fun s p i u st hclaim hu hstate htarget hlost hstaged => ?_, fun s p i u hclaim hu hstate htarget hlost => ?_,
    fun s p b a st hchange hstaged hba hb hbridged hstarting => ?_, fun s p st hstaged hstarting hbridged hend => ?_,
    fun s m p v hadm => ?_, fun s m p k hadm => ?_, fun s m p hadm => ?_, fun s p j t hjump hrunning hframe ht hdue => ?_,
    fun s p j hjump hrunning => ?_, fun s p hslew herr => ?_, fun s m p hadm => ?_, fun s p st r hstaged hready hrelated hstarting hr => ?_,
    fun s p k hstaged hstop hrun hk => exec_planStop_of p hstaged hstop hrun hk⟩
  · rw [exec_planConfigWrite, execPlanConfigWrite, State.busWrite_plnCfg p v.isLt hadm]
  · subst hu
    simp only [exec_poolClaim, execPoolClaim, hclock, if_true]
  · subst hu
    simp only [exec_poolClaim, execPoolClaim, hclock, hfree, hwaits, hstaged, Bool.not_true, Bool.false_eq_true, or_self, if_false]
  · subst hu
    simp only [exec_synthReady, execSynthReady, hclaim, hstate, htarget, hlost, hstaged, ne_eq, not_true_eq_false, Option.isSome_none,
      Bool.false_eq_true, or_self, if_false]
  · subst hu
    simp only [exec_synthReady, execSynthReady, hclaim, hstate, htarget, hlost, ne_eq, not_true_eq_false, Option.isSome_none,
      Bool.false_eq_true, or_self, if_false, if_true]
  · simp only [exec_bridgeFrame, execBridgeFrame, hchange, hstaged, hba, hb, hbridged, hstarting, Bool.not_false, and_self, if_true]
  · simp only [exec_newTiming, execNewTiming, hstaged, hstarting, hbridged, Bool.false_eq_true, if_false, if_true, if_pos hend]
  · rw [exec_planAlignWrite, execPlanAlignWrite, State.busWrite_plnAlign p v.isLt hadm]
  · rw [exec_policyChange, execPolicyChange, State.busWrite_plnCfg p (mergeBits_lt _ _ _ (BitVec.isLt _)) hadm]
  · rw [exec_jumpNow, execJumpNow, State.busWrite_plnCtrl p (by decide) hadm]
  · subst ht
    have hnow : ¬ s.frameOf p < j.frame := by omega
    simp only [exec_jumpFrame, execJumpFrame, hjump, hrunning, hdue, Bool.false_eq_true, if_false, if_neg hnow]
  · simp only [exec_jumpFrame, execJumpFrame, hjump, hrunning, if_true]
  · have hgo : ¬ ((!s.on (PLN_STATUS_SLEWING p)) = true ∨ 6 < (s.phaseError p).natAbs) := by simp [hslew, herr]
    rw [exec_slewDone, execSlewDone, if_neg hgo]
  · rw [exec_planEnable, execPlanEnable, State.busWrite_plnCfg p (Nat.or_lt_two_pow (BitVec.isLt _) (by decide)) hadm]
  · simp only [exec_planStart, execPlanStart, hstaged, hready, hrelated, hstarting, hr, Bool.false_eq_true, if_false, and_self, if_true]

end Sys2Proof.Machine
end
section
/-! SUPPORT. The synthesisers (chapter 6). -/

namespace Sys2Proof.Machine

variable {s : State} {m : Nat}

theorem isRegister_synSeed (i : Fin 53) : isRegister (SYN_PLL_SEED i) .syn [i] = true := by revert i; decide +kernel
theorem isRegister_synCtrl (i : Fin 53) : isRegister (SYN_PLL_CTRL i) .syn [i] = true := by revert i; decide +kernel

theorem State.busWrite_synSeed {v : Nat} (i : Fin 53) (hv : v < 2 ^ 32) (h : s.Admits m true (SYN_PLL_SEED i)) :
    s.busWrite m (SYN_PLL_SEED i) 4 v = s.seedWrite i v := by
  rw [State.busWrite_syn (isRegister_synSeed i) hv h]
  exact if_pos rfl

theorem State.busWrite_synCtrl {v : Nat} (i : Fin 53) (hv : v < 2 ^ 32) (h : s.Admits m true (SYN_PLL_CTRL i)) :
    s.busWrite m (SYN_PLL_CTRL i) 4 v = s.synCtrlWrite i v := by
  have hseed : SYN_PLL_CTRL i ≠ SYN_PLL_SEED i := by simp only [SYN_PLL_CTRL, SYN_PLL_SEED]; omega
  rw [State.busWrite_syn (isRegister_synCtrl i) hv h]
  exact (if_neg hseed).trans (if_pos rfl)

/-- Settles O34 (the lock time of 40 µs is the model's own). -/
theorem synthesiserCommandsComplete : Obligations.SynthesiserCommandsComplete := by
  unfold Obligations.SynthesiserCommandsComplete
  refine ⟨fun s m i seed hadm => ?_, fun s m i hadm => ?_, fun s m i hadm => ?_, fun s i band found hstate hfound => ?_,
    fun s i band found hstate hfound => ?_, fun s i loop w hdue hw hserved hi hstate => ?_,
    fun s i loop w u want next hdue hw hserved hi hu hstate htarget hramp hnext => ?_, fun s k p v w hserved hstate hv hw => ?_,
    fun s k hstate => ?_, fun s k u hu hsafe hstate => ?_⟩
  · rw [exec_seedWrite, execSeedWrite, State.busWrite_synSeed i (by omega) hadm]
  · rw [exec_flush, execFlush, State.busWrite_synCtrl i (by decide) hadm]
    rfl
  · rw [exec_relock, execRelock, State.busWrite_synCtrl i (by decide) hadm]
    rfl
  · subst hfound
    simp only [exec_bandSearchDone, execBandSearchDone, hstate, ne_eq, not_true_eq_false, Bool.not_false, if_false, if_true]
  · subst hfound
    refine ⟨{ int := ((s.synH i).target).getD (s.synWord i) / 2 ^ 32, fracHi := ((s.synH i).target).getD (s.synWord i) / 2 ^ 20 % 2 ^ 12,
              band := band, temp := s.hottestC, made := s.now }, rfl, rfl, ?_⟩
    simp only [exec_bandSearchDone, execBandSearchDone, hstate, ne_eq, not_true_eq_false, Bool.not_true, Bool.false_eq_true, if_false]
  · have hlow : (w.setSynH i { w.synH i with rampAt := w.now }).rd (SYN_PLL_STAT_STATE i) < 4 := hstate
    simp only [exec_rampUpdate, execRampUpdate, if_neg (Nat.not_lt.2 hdue), ← hw, hserved, if_neg hi, if_pos hlow]
  · have hhigh : ¬ u.rd (SYN_PLL_STAT_STATE i) < 4 := Nat.not_lt.2 hstate
    simp only [exec_rampUpdate, execRampUpdate, if_neg (Nat.not_lt.2 hdue), ← hw, hserved, if_neg hi, ← hu, if_neg hhigh, htarget, hramp,
      Option.getD_none, ← hnext]
  · subst hw hv
    simp only [exec_planSynthUnlock, execPlanSynthUnlock, hserved, if_neg (Nat.not_lt.2 hstate)]
  · rw [exec_logicPllUnlock, execLogicPllUnlock, if_neg (Nat.not_lt.2 hstate)]
  · subst hu
    simp only [exec_safeClockReturn, execSafeClockReturn, hsafe, hstate, and_self, if_true]

end Sys2Proof.Machine
end
section
/-! SUPPORT. The control of the rackers: their registers and program memory, ownership, fences, leases of the host and pins (chapter 7). -/

namespace Sys2Proof.Machine

variable {s : State} {m : Nat}

/-! ## Their registers -/

theorem isRegister_rckCtrl (r : Fin 16) : isRegister (RCK_CTRL r) (.rck r) [r] = true := by revert r; decide +kernel
theorem isRegister_rckLeaseReq : isRegister RCK_LEASE_REQ .rckShared [] = true := by decide +kernel
theorem isRegister_ownAddr (k : Fin 1932) : ∃ ix, isRegister (ownAddr k) .rckShared ix = true := by
  have h : ∀ k : Fin 1932, ((regAt (ownAddr k)).any fun e => isRegister (ownAddr k) .rckShared e.2) = true := by decide +kernel
  obtain ⟨⟨d, ix⟩, -, hreg⟩ := (Option.any_eq_true _ _).1 (h k)
  exact ⟨ix, hreg⟩

theorem State.busWrite_rckCtrl {v : Nat} (r : Fin 16) (hv : v < 2 ^ 32) (h : s.Admits m true (RCK_CTRL r)) :
    s.busWrite m (RCK_CTRL r) 4 v = s.rckControl r v (s.stamped m) := by
  rw [State.busWrite_rck (isRegister_rckCtrl r) hv h]
  exact if_pos rfl

theorem State.busWrite_leaseReq {v : Nat} (hv : v < 2 ^ 32) (h : s.Admits m true RCK_LEASE_REQ) :
    s.busWrite m RCK_LEASE_REQ 4 v = s.hostLease (if m = 0 then holderMgt else holderHost) v := by
  have hown : ¬ RCK_LEASE_REQ < RCK_SH_STATUS := by decide
  have hgpo : RCK_LEASE_REQ ≠ RCK_GPO_HOST := by decide
  rw [State.busWrite_shared isRegister_rckLeaseReq hv h]
  exact (if_neg hown).trans ((if_neg hgpo).trans (if_pos rfl))

/-- The ownership tables stand before the shared registers proper. -/
theorem ownAddr_lt (k : Fin 1932) : ownAddr k < RCK_SH_STATUS := by
  unfold ownAddr
  split_ifs <;> simp only [RCK_OWN_V, RCK_OWN_A, RCK_OWN_H, RCK_GPO_OWN, RCK_SH_STATUS] <;> omega

theorem State.busWrite_ownAddr (k : Fin 1932) (v : Word) (hload : s.mayLoad m = true) (h : s.Admits m true (ownAddr k)) :
    s.busWrite m (ownAddr k) 4 v.toNat = (s.storeReg m (ownAddr k) v.toNat).followHostGpo := by
  obtain ⟨ix, hreg⟩ := isRegister_ownAddr k
  rw [State.busWrite_shared hreg v.isLt h, State.writeShared, if_pos (ownAddr_lt k), if_pos hload]

/-- A word of a halted racker's program memory, in a mode that lets it be written (R288). -/
theorem State.busWrite_programMemory (r : Fin 16) (k : Fin 16384) (v : Word) (hhalted : s.rd (RCK_STATUS_STATE r) = 0)
    (hload : s.mayLoad m = true) (h : s.Admits m true (RCK_PM r k)) : s.busWrite m (RCK_PM r k) 4 v.toNat = s.setWord (RCK_PM r k) v := by
  have hblock : blockOf (RCK_PM r k) = .rck r := by
    have hlo : ¬ RCK_PM r k < 0x2000000 := by simp only [RCK_PM]; omega
    have hhi : RCK_PM r k < 0x3000000 := by simp only [RCK_PM]; omega
    have hindex : (RCK_PM r k - 0x2000000) / 0x100000 = r := by simp only [RCK_PM]; omega
    simp only [blockOf]
    rw [if_neg (by omega), if_neg (by omega), if_neg (by omega), if_neg (by omega), if_neg (by omega), if_neg (by omega), if_neg (by omega),
      if_neg (by omega), if_neg (by omega), if_neg (by omega), if_neg (by omega), if_neg (by omega), if_neg (by omega), if_pos hhi, hindex]
  have hmem : inRckMemory (RCK_PM r k) = true := by
    simp only [inRckMemory, hblock, decide_eq_true_eq, RCK_PM]
    omega
  have hprogram : RCK_PM r k < RCK_DM r 0 := by simp only [RCK_PM, RCK_DM]; omega
  have hmay : ((s.rd (RCK_STATUS_STATE r) == 0 || s.rd (RCK_STATUS_STATE r) == 4) && (s.mayLoad m || s.mode == .diagnostic)) = true := by
    simp [hhalted, hload]
  obtain ⟨-, -, -, hreach, -⟩ := id h
  rw [s.busWrite_admits (by simp only [RCK_PM]; omega) (by simp only [RCK_PM]; omega) v.isLt h]
  simp only [State.putWord, hreach, hmem, hblock, if_pos hprogram, hmay, if_true, mergeBits_all _ _ v.isLt, BitVec.ofNat_toNat,
    BitVec.setWidth_eq]

/-- Settles O35. -/
theorem rackerControlCommandsComplete : Obligations.RackerControlCommandsComplete := by
  unfold Obligations.RackerControlCommandsComplete
  refine ⟨fun s m r hadm => ?_, fun s r kind f hrequest hf => ?_, fun s m r hadm => ?_, fun s m r hadm => ?_, fun s m r hadm => ?_,
    fun s m r k v hadm hhalted hload => ?_, fun s m k v hadm hload => ?_, fun s m n v hadm => ?_, fun s m id dur prio hadm => ?_,
    fun s m id prio hadm => ?_, fun s k hheld hk hdue hholder => ?_, fun s who a b f hwho hhost hf => ?_,
    fun s who rd a b f hwho hwait hf => ?_, fun s k level hlevel hjournals => ?_, fun s hreset hgpi hpaired hline => ?_,
    fun s m r hadm => ?_, fun s r rd p x entries hwait hstate hfloor hplan hop hentries => ?_,
    fun s r rd t entries hwait hstate hlanded hops hop hentries => ?_⟩
  · rw [exec_start, execStart, State.busWrite_rckCtrl r (by decide) hadm]
  · simp only [exec_rackerStarts, execRackerStarts, hrequest, if_pos hf]
  · rw [exec_resume, execResume, State.busWrite_rckCtrl r (by decide) hadm]
  · rw [exec_halt, execHalt, State.busWrite_rckCtrl r (by decide) hadm]
  · rw [exec_step, execStep, State.busWrite_rckCtrl r (by decide) hadm]
  · rw [exec_programMemoryWrite, execProgramMemoryWrite, State.busWrite_programMemory r k v hhalted hload hadm]
  · rw [exec_ownershipWrite, execOwnershipWrite, State.busWrite_ownAddr k v hload hadm]
  · rw [exec_fenceWrite, execFenceWrite, s.busWrite_fence n v hadm]
  · rw [exec_hostLease, execHostLease, State.busWrite_leaseReq (by omega) hadm]
  · rw [exec_hostFree, execHostFree, State.busWrite_leaseReq (by omega) hadm]
  · have hlapse : (s.on (RCK_LEASE_H_HELD k) && k.val != 255 && s.leaseDue k
        && (s.rd (RCK_LEASE_H_HOLDER k) != holderPeer || decide (96 ≤ k.val) || s.on TWN_STATUS_FENCING)) = true := by
      simp [hheld, hk, hdue, or_assoc, hholder]
    rw [exec_leaseLapse, execLeaseLapse, State.expireLease, if_pos hlapse]
  · simp only [exec_leaseTimeout, execLeaseTimeout, if_pos hwho, hhost, if_pos hf]
  · have hracker : ¬ who.val = 16 := by omega
    simp only [exec_leaseTimeout, execLeaseTimeout, if_neg hracker, hwait, if_pos hf]
  · have hplain : ({ s with pin := { s.pin with gpi := s.pin.gpi ^^^ 2 ^ k.val, gpiAt := s.now } } : State).journals = false := hjournals
    simp only [exec_gpiChange, execGpiChange, if_neg hlevel, hplain, Bool.false_eq_true, if_false]
  · have hgo : ¬ (s.top.inReset = true ∨ s.rd RCK_GPI_VALUE = s.pin.gpi) := by simp [hreset, hgpi]
    simp only [exec_gpiApplied, execGpiApplied, if_neg hgo, hpaired, Bool.false_eq_true, if_false, if_neg (Nat.not_le.2 hline)]
  · refine ⟨(s.getWord m _).1, (s.getWord m _).2, rfl, ?_⟩
    rw [exec_programTimeRead, execProgramTimeRead, s.busRead_admits (by simp only [RCK_PT_F]; omega) (by simp only [RCK_PT_F]; omega) hadm]
  · have hblocked : (s.rd (RCK_STATUS_STATE r) == 3) = false := beq_false_of_ne hstate
    have hop' : ¬ rckOp ((s.setP r (s.planH p).anchorT).fetchWord r) = 0x36 := hop
    simp only [exec_operationWaitDone, execOperationWaitDone, hwait, hblocked, hfloor, hplan, Bool.false_and, Bool.not_false, Bool.and_false,
      Bool.false_eq_true, if_false, if_neg hop', hentries, and_false]
  · have hblocked : (s.rd (RCK_STATUS_STATE r) == 3) = true := beq_of_eq hstate
    have hroom : decide (4 ≤ (s.rckH r).ops.length) = false := decide_eq_false (Nat.not_le.2 hops)
    have hop' : ¬ rckOp ((s.setP r t).fetchWord r) = 0x36 := hop
    simp only [exec_operationWaitDone, execOperationWaitDone, hwait, hblocked, hlanded, hroom, Option.isNone_some, Option.getD_some, Bool.or_self,
      Bool.and_false, Bool.not_true, Bool.false_and, Bool.false_eq_true, if_false, if_true, if_neg hop', hentries, and_false]

end Sys2Proof.Machine
end
section
/-! SUPPORT. The arithmetic, logic and shift instructions of a racker (Table 08-4). -/

namespace Sys2Proof.Machine

/-- A shift count that an immediate gives. -/
theorem shCount_zeroExt16 {n : Nat} (h : n < 32) : shCount (zeroExt16 n) = n := by
  rw [shCount, zeroExt16, BitVec.toNat_ofNat]
  omega

/-- An instruction that a racker issues acts on the resynchronised state. -/
theorem exec_of_issues {s : State} {r : Fin 16} {i : RckInstr} {c : Instr} {op : Nat} {f : RckInstr → State → State} (h : s.Issues r i)
    (ho : i.op = op) (hexec : exec c s = .next (s.issue r op f)) : exec c s = .next (f i (s.resync r)) :=
  hexec.trans (congrArg Host.Outcome.next (s.issue_of h ho))

/-- Settles O36. -/
theorem rackerArithmeticCompletes : Obligations.RackerArithmeticCompletes := by
  unfold Obligations.RackerArithmeticCompletes
  refine ⟨fun s r i h ho => (exec_of_issues h ho (exec_add s r) :),
    fun s r i h ho => (exec_of_issues h ho (exec_sub s r) :), fun s r i h ho => (exec_of_issues h ho (exec_and s r) :),
    fun s r i h ho => (exec_of_issues h ho (exec_or s r) :),
    fun s r i h ho => (exec_of_issues h ho (exec_xor s r) :), fun s r i h ho => (exec_of_issues h ho (exec_shl s r) :),
    fun s r i h ho => (exec_of_issues h ho (exec_shr s r) :),
    fun s r i h ho => (exec_of_issues h ho (exec_sar s r) :), fun s r i h ho => (exec_of_issues h ho (exec_mul s r) :),
    fun s r i h ho => (exec_of_issues h ho (exec_cmp s r) :),
    fun s r i h ho => (exec_of_issues h ho (exec_addi s r) :), fun s r i h ho => (exec_of_issues h ho (exec_andi s r) :),
    fun s r i h ho => (exec_of_issues h ho (exec_ori s r) :), fun s r i h ho => (exec_of_issues h ho (exec_xori s r) :), fun s r i h ho hcount => ?_,
    fun s r i h ho hcount => ?_, fun s r i h ho hcount => ?_, fun s r i h ho => (exec_of_issues h ho (exec_cmpi s r) :),
    fun s r i h ho => (exec_of_issues h ho (exec_movi s r) :), fun s r i h ho => (exec_of_issues h ho (exec_lui s r) :)⟩
  · have hrun := exec_of_issues h ho (exec_shli s r)
    simp only [State.aluImm, State.aluWords, shCount_zeroExt16 hcount] at hrun
    exact hrun
  · have hrun := exec_of_issues h ho (exec_shri s r)
    simp only [State.aluImm, State.aluWords, shCount_zeroExt16 hcount] at hrun
    exact hrun
  · have hrun := exec_of_issues h ho (exec_sari s r)
    simp only [State.aluImm, State.aluWords, shCount_zeroExt16 hcount] at hrun
    exact hrun

end Sys2Proof.Machine
end
section
/-! SUPPORT. The data memory, salvo memory, matrix and special register instructions of a racker (R302, R303). -/

namespace Sys2Proof.Machine

/-- Settles O37. -/
theorem rackerMemoryAndSpecialInstructionsComplete : Obligations.RackerMemoryAndSpecialInstructionsComplete := by
  unfold Obligations.RackerMemoryAndSpecialInstructionsComplete
  have hbytes (a : Nat) : false = true → a % 4 = 0 := fun h => absurd h Bool.false_ne_true
  refine ⟨fun s r i ecc h ho halign hin hecc => ?_, fun s r i ecc h ho halign hin hecc => ?_, fun s r i ecc h ho hin hecc => ?_,
    fun s r i ecc h ho hin hecc => ?_, fun s r i h ho => (exec_of_issues h ho (exec_sld s r) :), fun s r i v h ho haccess => ?_,
    fun s r i v h ho halign haccess => ?_, fun s r i v h ho halign haccess => ?_, fun s r i h ho => (exec_of_issues h ho (exec_mfs s r) :),
    fun s r i h ho himm => ?_⟩
  · subst hecc
    rw [exec_ldw_of_issues false h rfl rfl ho, State.dmAccess_good _ _ _ (fun _ => halign) hin]
  · subst hecc
    rw [exec_stw_of_issues false h rfl rfl ho, State.dmAccess_good _ _ _ (fun _ => halign) hin]
  · subst hecc
    rw [exec_ldb_of_issues false h rfl rfl ho, State.dmAccess_good _ _ _ (hbytes _) hin]
    rfl
  · subst hecc
    rw [exec_stb_of_issues false h rfl rfl ho, State.dmAccess_good _ _ _ (hbytes _) hin]
  · rw [exec_sst, execSst, s.issue_of h ho]
    simp only [haccess, Bool.false_eq_true, if_false]
  · rw [exec_mld, execMld, s.issue_of h ho]
    simp only [halign, ne_eq, not_true_eq_false, haccess, Bool.false_eq_true, if_false]
  · rw [exec_mst, execMst, s.issue_of h ho]
    simp only [halign, ne_eq, not_true_eq_false, haccess, Bool.false_eq_true, if_false]
  · rw [exec_mts, execMts, s.issue_of h ho, himm]
    rfl

end Sys2Proof.Machine
end
section
/-! SUPPORT. The branch, trap and wait instructions of a racker and the ends of its waits (chapters 7 and 8). -/

namespace Sys2Proof.Machine

/-- Settles O38. -/
theorem rackerBranchTrapAndWaitInstructionsComplete : Obligations.RackerBranchTrapAndWaitInstructionsComplete := by
  unfold Obligations.RackerBranchTrapAndWaitInstructionsComplete
  refine ⟨fun s r i h ho hcond hin => ?bc, fun s r i h ho hin => ?call, fun s r i h ho hin => ?jr, fun s r i h ho hin => ?ret,
    fun s r i ecc h ho hecc => ?trap, fun s r i h ho hin => exec_rett_of_issues h ho hin, fun s r i h ho => (exec_of_issues h ho (exec_stop s r) :),
    fun s r i h ho => (exec_of_issues h ho (exec_nop s r) :), fun s r i h ho hflag hl hnot => ?waitl,
    fun s r p l issued t hw ht hle => ?waitlComplete, fun s r i h ho hlt => ?waitf, fun s r p f t hw ht => ?waitfComplete,
    fun s r i h ho hmask hev => ?waite, fun s r rd mask p n issued t hw hev ht hto => ?waiteComplete,
    fun s r rd mask p n issued t hw ht hle hev => ?waiteTimeout, fun s r i h ho => (exec_of_issues h ho (exec_atFloor s r) :),
    fun s r i h ho hd htrans hnone => ?prove, fun s r rd d t0 p n issued code tag t hw hproved ht hto => ?proveDone,
    fun s r rd d t0 p n issued hw hproved hnothing hto => ?proveNothing, fun s r rd d t0 p n issued t hw ht hle hproved => ?proveTimeout⟩
  case bc => rw [exec_bc, execBc, s.issue_of h ho, if_pos hcond, State.branch_inside _ _ _ hin.1 hin.2]; rfl
  case call => rw [exec_call, execCall, s.issue_of h ho, State.branch_inside _ _ _ hin.1 hin.2]
  case jr =>
    rw [exec_jr, execJr, s.issue_of h ho, State.branch_inside _ _ _ (Int.natCast_nonneg _) (by exact_mod_cast hin), Int.toNat_natCast]
    rfl
  case ret =>
    rw [exec_ret, execRet, s.issue_of h ho, State.branch_inside _ _ _ (Int.natCast_nonneg _) (by exact_mod_cast hin), Int.toNat_natCast]
    rfl
  case trap => rw [hecc, exec_trap_of_issues h ho]
  case waitl =>
    rw [exec_waitl, execWaitl, s.issue_of h ho]
    simp only [hflag, Bool.false_eq_true, if_false, if_neg (show ¬(2 ^ 16 ≤ i.immediate ∨ i.immediate = 0 ∨
      totalLines ((s.resync r).planTiming ((s.resync r).rckH r).planSel).1 < i.immediate) by omega), if_neg hnot]
  case waitlComplete => simp only [exec_waitlComplete, execWaitlComplete, hw, ht, hle, if_true]
  case waitf =>
    rw [exec_waitf, execWaitf, s.issue_of h ho]
    exact congrArg Host.Outcome.next (if_neg (by omega))
  case waitfComplete => simp only [exec_waitfComplete, execWaitfComplete, hw, ht]
  case waite =>
    rw [exec_waite, execWaite, s.issue_of h ho]
    simp only [hev, ne_eq, not_true_eq_false, if_false, if_neg (show ¬(((s.resync r).greg r i.ra).toNat = 0 ∧ i.immediate = 0) by omega)]
  case waiteComplete =>
    simp only [exec_waiteComplete, execWaiteComplete, hw, ← ht, hto, hev, ne_eq, not_false_eq_true, decide_true, Bool.not_false,
      Bool.and_true, if_true]
  case waiteTimeout =>
    simp only [exec_waiteTimeout, execWaiteTimeout, hw, ht, hle, hev, bne_self_eq_false, Bool.false_and, Bool.not_false, and_self, if_true]
  case prove =>
    rw [exec_prove, execProve, s.issue_of h ho]
    simp only [htrans, hnone, Bool.or_false, decide_eq_true_eq, if_neg (show ¬4607 < ((s.resync r).greg r i.ra).toNat % 2 ^ 13 by omega)]
  case proveDone => simp only [exec_proveComplete, execProveComplete, hw, hproved, ← ht, hto, Bool.false_eq_true, if_false]
  case proveNothing =>
    simp only [exec_proveComplete, execProveComplete, hw, hproved, hnothing, hto, Bool.not_false, Bool.and_self, if_true]
  case proveTimeout =>
    simp only [exec_proveTimeout, execProveTimeout, hw, ht, hle, hproved, Option.isSome_none, Bool.false_and, Bool.not_false, and_self, if_true]

end Sys2Proof.Machine
end
section
/-! SUPPORT. The operation, ledger, lease, fence, message and pin instructions of a racker, and the landing of a plan group
(chapters 7 and 8). -/

namespace Sys2Proof.Machine

/-- A group of a racker's operation lands, and no entry of its operations waits for that plan any more. -/
theorem exec_planGroupLands_last {s u v : State} {p : Fin 8} {r k : Nat} {g : PlanGroup} (hg : s.nextGroup p = some (r, k, g)) (hr : r < 16)
    (hm : s.mode ≠ .safe ∧ s.mode ≠ .diagnostic) (hrun : s.on (PLN_STATUS_RUN p) = true)
    (hdue : (s.timingOf p g.frame).lineStart g.frame g.line ≤ s.now)
    (hu : u = s.setRckH r { s.rckH r with ops := listSet (s.rckH r).ops k (((s.rckH r).ops.getD k []).filter fun x => x.plan != p) })
    (hv : v = ((u.landChanges p g.line g.changes).1.discarded r (entryCount (u.landChanges p g.line g.changes).2)).settleOps r
      ((s.timingOf p g.frame).lineStart g.frame g.line))
    (hnone : ((v.rckH r).ops.any fun o => o.any fun x => x.plan == p.val) = false) :
    exec (.planGroupLands p) s =
      .next (((v.wr (RCK_LAND_F_FRAME r p) (wrap32 g.frame)).wr (RCK_LAND_L_LINE r p) g.line).showLand r p) := by
  obtain ⟨hsafe, hdiag⟩ := hm
  simp only [exec_planGroupLands, execPlanGroupLands, hg, hsafe, hdiag, hrun, Bool.not_true, Bool.false_eq_true, Nat.not_lt.mpr hdue, or_self,
    if_false, hr.ne, ← hu, ← hv, hnone]

/-- Settles O39. -/
theorem rackerOperationInstructionsComplete : Obligations.RackerOperationInstructionsComplete := by
  unfold Obligations.RackerOperationInstructionsComplete
  refine ⟨fun s r i ecc h ho hcount hin hecc => ?take, fun s r i h ho => (exec_of_issues h ho (exec_xset s r) :),
    fun s r i h ho => (exec_of_issues h ho (exec_amap s r) :), fun s r i h ho => (exec_of_issues h ho (exec_slotm s r) :),
    fun s r i h ho hstaged => ?commit, fun s r i h ho hempty => ?commitEmpty, fun s r i h ho => (exec_of_issues h ho (exec_fade s r) :),
    fun s r i h ho => (exec_of_issues h ho (exec_hcommit s r) :), fun s r i v st h ho himm hmark => ?mark, fun s r i h ho himm => ?epoch,
    fun s r i v st h ho hid hn hreq => ?leaseLocal, fun s r i h ho hid hn => ?leaseFabric, fun s r i v st h ho hid hfree => ?free,
    fun s r i h ho hreached => ?fencew, fun s r n v hw hreached => ?fencewComplete, fun s r i h ho => (exec_of_issues h ho (exec_fences s r) :),
    fun s r i c h ho hc => ?ring, fun s r i ecc c q h ho halign hin hc hq hopen hecc => ?postMsg,
    fun s r i h ho => (exec_of_issues h ho (exec_gpo s r) :), fun s p k g hg hm hrun hdue => ?landsTwin,
    fun s p r k g u v hg hr hm hrun hdue hu hv hnone => exec_planGroupLands_last hg hr hm hrun hdue hu hv hnone⟩
  case take =>
    have hsize : ¬(((s.resync r).greg r i.rb).toNat = 0 ∨ 4096 < ((s.resync r).greg r i.rb).toNat ∨
      65536 < ((s.resync r).greg r i.ra).toNat + ((s.resync r).greg r i.rb).toNat) := by omega
    rw [exec_take, execTake, s.issue_of h ho]
    simp only [if_neg hsize, hecc, Bool.false_eq_true, if_false]
  case commit =>
    rw [exec_commit, execCommit, s.issue_of h ho]
    simp only [List.isEmpty_iff, hstaged, if_false]
  case commitEmpty =>
    rw [exec_commit, execCommit, s.issue_of h ho]
    simp only [hempty, List.isEmpty_nil, if_true, List.length_nil]
  case mark =>
    refine ⟨_, ?_, rfl⟩
    rw [exec_lmarkMark, execLmarkMark, s.issue_of h ho]
    simp only [himm, ne_eq, not_true_eq_false, if_false, hmark]
  case epoch =>
    refine ⟨_, rfl, ?_⟩
    rw [exec_lmarkEpoch, execLmarkEpoch, s.issue_of h ho]
    simp only [himm, one_ne_zero, ne_eq, not_true_eq_false, if_false]
  case leaseLocal =>
    rw [exec_lease, execLease, s.issue_of h ho]
    simp only [if_neg (show ¬(224 ≤ ((s.resync r).greg r i.ra).toNat ∨ ((s.resync r).greg r i.rb).toNat = 0 ∨
      65535 < ((s.resync r).greg r i.rb).toNat) by omega), hid, if_true, hreq]
  case leaseFabric =>
    rw [exec_lease, execLease, s.issue_of h ho]
    simp only [if_neg (show ¬(224 ≤ ((s.resync r).greg r i.ra).toNat ∨ ((s.resync r).greg r i.rb).toNat = 0 ∨
      65535 < ((s.resync r).greg r i.rb).toNat) by omega), if_neg (Nat.not_lt.mpr hid.1)]
  case free =>
    rw [exec_free, execFree, s.issue_of h ho]
    simp only [if_neg (show ¬224 ≤ ((s.resync r).greg r i.ra).toNat by omega), hid, if_true, hfree]
  case fencew =>
    rw [exec_fencew, execFencew, s.issue_of h ho]
    simp only [hreached, if_true]
  case fencewComplete =>
    rw [exec_fencewComplete, execFencewComplete, hw]
    cases hmet : (s.rckH r).metAt with
    | none => simp only [hreached, if_true, Option.getD_none]
    | some t => simp only [Option.getD_some]
  case ring =>
    rw [exec_ring, execRing, s.issue_of h ho]
    simp only [hc]
  case postMsg =>
    refine ⟨_, _, rfl, rfl, ?_⟩
    rw [exec_postMsg, execPostMsg, s.issue_of h ho]
    simp only [halign, ne_eq, not_true_eq_false, if_false, if_neg (Nat.not_lt.mpr hin), hc, ← hq, hopen, hecc, Bool.not_true,
      Bool.false_eq_true]
  case landsTwin =>
    simp only [exec_planGroupLands, execPlanGroupLands, hg, hm.1, hm.2, hrun, Bool.not_true, Bool.false_eq_true, Nat.not_lt.mpr hdue,
      or_self, if_false, if_true]

end Sys2Proof.Machine
end
section
/-! SUPPORT. Inputs, their frames and the cask window; outputs, admission and the cellar's channels (chapter 9). -/

namespace Sys2Proof.Machine

/-- A pass over a list of sources none of which has a destination does nothing. -/
theorem State.forL_forL_of_forall_eq_nil {s : State} {l : List Nat} {g : State → Nat → List Nat} {f : Nat → Nat → State → State}
    (h : ∀ a ∈ l, g s a = []) : (s.forL l fun a u => u.forL (g u a) (f a)) = s := by
  induction l with
  | nil => rfl
  | cons a l ih =>
    have htail : ∀ b ∈ l, g s b = [] := fun b hb => h b (List.mem_cons_of_mem _ hb)
    have hhead : s.forL (g s a) (f a) = s := by rw [h a List.mem_cons_self]; rfl
    calc (s.forL (a :: l) fun a u => u.forL (g u a) (f a))
        = (s.forL (g s a) (f a)).forL l fun a u => u.forL (g u a) (f a) := rfl
      _ = s := by rw [hhead, ih htail]

/-- Settles O40. -/
theorem videoInputCommandsComplete : Obligations.VideoInputCommandsComplete := by
  unfold Obligations.VideoInputCommandsComplete
  refine ⟨fun s k format rate levelB hpkt hrec hfr hf hpres => ?present, fun s k hpkt hrec hfr hf hpres => ?unclassified,
    fun s k format rate levelB hpkt hrec hfr hf hpres hdiff => ?changed, fun s k hpkt hlate => ?absent,
    fun s k u v w t hpres haddr htrans hu hv hw ht => ?frame, fun s k p hcomp hmode hwin hout hlen hall => ?enter,
    fun s k p line v hwin hin hhome hv hnone => ?exit, fun s k p line kind hkind => ?metadata, fun s k p line kind hkind => ?corrected,
    fun s k p line kind r n c u w hkind hu hr hn hc hcomp hw => ?data⟩
  case present =>
    simp only [exec_inputPresent, execInputPresent, hpkt, hrec, hfr, hf, hpres, Option.getD_some, Option.isSome_some, Bool.not_true,
      Bool.or_false, Bool.false_and, Bool.false_eq_true, if_false]
  case unclassified =>
    simp only [exec_inputPresent, execInputPresent, hpkt, hrec, hfr, hf, hpres, Option.getD_none, Option.isSome_none, Bool.not_true,
      Bool.or_false, Bool.false_and, Bool.false_eq_true, if_false]
  case changed =>
    simp only [exec_inputPresent, execInputPresent, hpkt, hrec, hfr, hf, hpres, hdiff, Option.getD_some, Option.isSome_some, Bool.not_true,
      Bool.or_false, Bool.and_self, Bool.false_eq_true, if_false, if_true]
  case absent =>
    simp only [exec_inputAbsent, execInputAbsent, hpkt, hlate, Bool.not_false, Bool.and_self, if_true]
  case frame =>
    rw [exec_inputFrameStart, execInputFrameStart, if_neg (by simp [hpres, haddr, htrans])]
    rw [ht, hw, hv, hu]
  case enter =>
    rw [exec_caskWindowEnter, execCaskWindowEnter]
    simp only [hcomp, beq_eq_false_iff_ne.mpr hmode, hwin, hout, decide_eq_false (Nat.not_lt.mpr hlen), hall, Bool.not_true, Bool.or_self,
      Bool.false_eq_true, if_false, State.when, beq_iff_eq]
    rfl
  case exit =>
    rw [exec_caskWindowExit, execCaskWindowExit]
    simp only [hwin, hin, Bool.not_true, Bool.or_self, Bool.false_eq_true, if_false, State.rd_setInH, hhome, ← hv]
    exact congrArg Host.Outcome.next (State.forL_forL_of_forall_eq_nil hnone)
  case metadata => rw [exec_cellarEccError, execCellarEccError, if_pos hkind]
  case corrected => subst hkind; rfl
  case data =>
    subst hkind
    have hkept : ¬(n + 1 = (u.inH k).frames ∧ (u.inH k).complete ≠ some n) := fun h => h.2 hcomp
    rw [exec_cellarEccError, execCellarEccError, if_neg (by decide), if_neg (by decide)]
    simp only [← hu, hr, hn, hc, ← hw]
    exact congrArg Host.Outcome.next (if_neg hkept)

/-- Settles O41. -/
theorem outputAndAdmissionCommandsComplete : Obligations.OutputAndAdmissionCommandsComplete := by
  unfold Obligations.OutputAndAdmissionCommandsComplete
  refine ⟨fun s d hcar hpol hblack hsrc hne hsup hat hnow hat' => ?carriage, fun s d => exec_outputFrameStart s d,
    fun s d hpol hloss hover hn hle => ?hold, fun s d hcov hleaving hrun hleft => ?join, fun s d hcov hleaving hne hrun => ?leave,
    fun s cls id sub hcls hsub => ?ask, fun s cls id sub hcls => ?skim, fun s => exec_admissionRetry s,
    fun s cls id sub hcls hsub hmode => ?withdraw, fun s c hen hst hidle htol => ?down, fun s c hen hst hidle htol => ?refresh,
    fun s c => exec_channelWake s c⟩
  case carriage =>
    have hdiff : ((s.carriage (s.rd (XPT_MAP_RD_SRC d)) (s.outPlan d)).1 == s.on (XPT_MAP_RD_ALIGNED d) &&
        (s.carriage (s.rd (XPT_MAP_RD_SRC d)) (s.outPlan d)).2 == s.on (XPT_MAP_RD_CELLAR d)) = false :=
      Bool.not_eq_true _ ▸ fun h => hne (Prod.ext (eq_of_beq (Bool.and_eq_true_iff.mp h).1) (eq_of_beq (Bool.and_eq_true_iff.mp h).2))
    rw [exec_carriageChange, execCarriageChange]
    simp only [hcar, hpol, hblack, hsrc, hsup, hat, hnow, hdiff, hat', beq_self_eq_true, Bool.or_self, Bool.or_true, Bool.not_true,
      Bool.false_eq_true, if_false]
  case hold => simp only [exec_holdLimit, execHoldLimit, hpol, hloss, hover, bne_iff_ne.mpr hn, hle, beq_self_eq_true, Bool.not_false, decide_true,
      Bool.and_self, if_true]
  case join => simp only [exec_outputPlanChange, execOutputPlanChange, hcov, hleaving, hrun, hleft, Bool.false_eq_true, if_false, if_true,
      decide_true, Bool.and_self]
  case leave => simp only [exec_outputPlanChange, execOutputPlanChange, hcov, hleaving, hne, hrun, Bool.false_eq_true, if_false, Bool.false_and]
  case ask => subst hcls hsub; rfl
  case skim => subst hcls; rfl
  case withdraw =>
    subst hcls hsub
    exact congrArg Host.Outcome.next (if_neg hmode)
  case down => simp only [exec_channelPowerDown, execChannelPowerDown, hen, hst, hidle, htol, beq_self_eq_true, decide_true, Bool.and_self, if_true]
  case refresh =>
    simp only [exec_channelSelfRefresh, execChannelSelfRefresh, hen, bne_iff_ne.mpr hst, hidle, htol, decide_true, Bool.and_self, if_true]

end Sys2Proof.Machine
end
section
/-! SUPPORT. The audio engine's ticks, fades, delays and generators, and the I2S ports (chapter 10). -/

namespace Sys2Proof.Machine

@[simp] theorem State.now_tickDone (s : State) : s.tickDone.now = s.now := rfl
@[simp] theorem State.pending_tickDone (s : State) : s.tickDone.pending = s.pending := rfl

/-- A tick of the engine while its domain is up ends in the count of the tick. -/
theorem exec_engineTick_done {s : State} (master : List (Fin 8 × Nat × Nat)) (hat : s.aud.tickAt ≠ none) (hnext : s.aud.next ≤ s.now)
    (hon : s.carries 83 = true) :
    ∃ u : State, exec (.engineTick master) s = .next u.tickDone ∧ u.now = s.now ∧ u.pending = s.pending := by
  have hwaits : ¬(s.aud.tickAt.isNone || decide (s.now < s.aud.next)) = true := by
    simp only [Option.isNone_iff_eq_none, hat, Bool.or_eq_true, decide_eq_true_eq, Nat.not_lt.mpr hnext, or_self, not_false_eq_true]
  have hup : ¬(!s.carries 83) = true := by simp only [hon, Bool.not_true, Bool.false_eq_true, not_false_eq_true]
  obtain ⟨t, hrun, hkept⟩ := kept_execEngineTick master s
  obtain ⟨u, hu⟩ : ∃ u : State, execEngineTick master s = .next u.tickDone :=
    ⟨_, congrArg Host.Outcome.next ((if_neg hwaits).trans (if_neg hup))⟩
  have ht : t = u.tickDone := Host.Outcome.next.inj (hrun.symm.trans hu)
  refine ⟨u, (exec_engineTick s master).trans hu, ?_, ?_⟩
  · rw [← u.now_tickDone, ← ht, hkept.now]
  · rw [← u.pending_tickDone, ← ht, hkept.pending]

/-- Settles O42. -/
theorem audioCommandsComplete : Obligations.AudioCommandsComplete := by
  unfold Obligations.AudioCommandsComplete
  refine ⟨fun s master hat hnext hon => exec_engineTick_done master hat hnext hon, fun s master hat hnext hon => ?_,
    fun s a f hf hdone => ?_, fun s c b hb hcrc hc => ?_, fun s c b hb hcrc => ?_, fun s c => exec_delayChange s c, fun s c n d b hdip hn => ?_,
    fun s n hn => congrArg Host.Outcome.next (if_pos hn), fun s k hslave hqual hquiet => ?_, fun s k bclk hslave hbad hfew hqual => ?_,
    fun s k ppm hslave hppm hqual => ?_, fun s k t hslave hqual ht hle => ?_⟩
  · simp only [exec_engineTick, execEngineTick, Option.isNone_eq_false_iff.mpr (Option.isSome_iff_ne_none.mpr hat), Nat.not_lt.mpr hnext, hon,
      decide_false, Bool.or_self, Bool.false_eq_true, if_false, Bool.not_false, if_true]
  · simp only [exec_crossfadeEnd, execCrossfadeEnd, hf, hdone, if_true]
  · have hgood : (bit b 0 && crccOf b != b / 2 ^ 184 % 256) = false := by
      rcases hcrc with h | h
      · rw [h, Bool.false_and]
      · rw [h, bne_self_eq_false, Bool.and_false]
    simp only [exec_channelStatusBlockEnd, execChannelStatusBlockEnd, hb, hgood, hc, Bool.false_eq_true, if_false, if_true]
  · simp only [exec_channelStatusBlockEnd, execChannelStatusBlockEnd, hb, hcrc.1, bne_iff_ne.mpr hcrc.2, Bool.and_self, if_true]
  · simp only [exec_dipEnd, execDipEnd, hdip, hn, if_true]
  · rw [exec_i2sLoss, execI2sLoss]
    cases hws : (s.i2sH k).wsAt with
    | none => simp only [hslave, hqual, Bool.and_self, if_true]
    | some t => simp only [hslave, hqual, hquiet t hws, decide_true, Bool.and_self, if_true]
  · have hjitter : (bclk == s.slotClocks k && s.wsInTime k) = false := by
      rcases hbad with h | h
      · rw [beq_eq_false_iff_ne.mpr h, Bool.false_and]
      · rw [h, Bool.and_false]
    have hshort : decide (3 ≤ (s.now :: (s.i2sH k).glitches.filter fun t => decide (s.now < t + sec)).length) = false :=
      decide_eq_false (by rw [List.length_cons]; omega)
    simp only [exec_i2sGlitch, execI2sGlitch, hslave, hjitter, hqual, hshort, Bool.not_true, Bool.or_self, Bool.false_and, Bool.false_eq_true,
      if_false]
  · refine ⟨_, congrArg Host.Outcome.next (if_pos ?_), rfl⟩
    rcases hppm with h | h
    · simp only [hslave, h, decide_true, Bool.true_or, Bool.and_self]
    · simp only [hslave, h, decide_true, Bool.or_true, Bool.and_self]
  · simp only [exec_i2sQualified, execI2sQualified, ht, hslave, hqual, hle, decide_true, Bool.not_false, Bool.and_self, if_true]

end Sys2Proof.Machine
end
section
/-! SUPPORT. Packet-mode frames and status groups, the classifier, and the receive and transmit contexts (chapter 11). -/

namespace Sys2Proof.Machine

variable {s : State} {m : Nat}

theorem isRegister_clsCmd : isRegister PKT_CLS_CMD .pkt [] = true := by decide +kernel

/-! ## The registers of the contexts, by their place in the lists of the block -/

/-- A register, or the outermost array of one, ends at or before an address. -/
def RegDesc.endsBy (d : RegDesc) (b : Nat) : Bool :=
  match d.dims with
  | [] => decide (d.base < b)
  | (c, st) :: _ => decide (0 < st) && decide (d.base + st * c ≤ b)

theorem RegDesc.at?_of_endsBy {d : RegDesc} {a b : Nat} (h : d.endsBy b = true) (hb : b ≤ a) : d.at? a = none := by
  obtain ⟨base, dims, _⟩ := d
  cases dims with
  | nil =>
    simp only [RegDesc.endsBy, decide_eq_true_eq] at h
    rw [RegDesc.at?, if_neg (by simp only; omega), indexOf, if_neg (by simp only; omega)]
  | cons e l =>
    obtain ⟨c, st⟩ := e
    simp only [RegDesc.endsBy, Bool.and_eq_true, decide_eq_true_eq] at h
    have hout : ¬(a - base) / st < c := by rw [Nat.div_lt_iff_lt_mul h.1, Nat.mul_comm]; omega
    rw [RegDesc.at?, if_neg (by simp only; omega), indexOf, if_neg hout]

/-- A register array holds its element `k`. -/
theorem RegDesc.at?_element {d : RegDesc} {c st k : Nat} (hdims : d.dims = [(c, st)]) (hst : 0 < st) (hk : k < c) :
    d.at? (d.base + st * k) = some [k] := by
  simp [RegDesc.at?, hdims, indexOf, Nat.mul_div_cancel_left k hst, hk]

/-- Registers that end before an address are passed over. -/
theorem findDesc_append_of_endsBy {a b : Nat} {l l' : List RegDesc} (h : l.all (·.endsBy b) = true) (hb : b ≤ a) :
    findDesc a (l ++ l') = findDesc a l' := by
  induction l with
  | nil => rfl
  | cons d l ih =>
    rw [List.all_cons, Bool.and_eq_true] at h
    simp only [List.cons_append, findDesc, RegDesc.at?_of_endsBy h.1 hb, ih h.2]

theorem findDesc_cons_element {a c st k : Nat} {d : RegDesc} {l : List RegDesc} (hdims : d.dims = [(c, st)]) (hst : 0 < st) (hk : k < c)
    (ha : a = d.base + st * k) : findDesc a (d :: l) = some (d, [k]) := by
  simp only [findDesc, ha, RegDesc.at?_element hdims hst hk]

theorem blockOf_pkt {a : Nat} (hlo : 0x1C00000 ≤ a) (hhi : a < 0x1E00000) : blockOf a = .pkt := by
  unfold blockOf
  rw [if_neg (by omega), if_neg (by omega), if_neg (by omega), if_neg (by omega), if_neg (by omega), if_neg (by omega), if_neg (by omega),
    if_neg (by omega), if_neg (by omega), if_neg (by omega), if_neg (by omega), if_pos hhi]

/-- A word of the packet block that the block's lists hold is a register of it. -/
theorem isRegister_pkt {a : Nat} {ix : List Nat} {d : RegDesc} (halign : a % 4 = 0) (hlo : 0x1C00000 ≤ a) (hhi : a < 0x1E00000)
    (hfind : findDesc a (regsPKT ++ regsPKTRXC ++ regsPKTTXC ++ regsPKTCLS) = some (d, ix)) : isRegister a .pkt ix = true := by
  have hblock := blockOf_pkt hlo hhi
  have hmem : inMemory a = false := by
    have hslots : inSlots a = false := by simp only [inSlots, MBX_SLOT, Bool.and_eq_false_iff, decide_eq_false_iff_not]; omega
    have hmsix : inMsix a = false := by simp only [inMsix, Bool.and_eq_false_iff, decide_eq_false_iff_not]; omega
    simp only [inMemory, inRckMemory, hblock, hslots, hmsix, Bool.or_self]
  refine isRegister_iff.2 ⟨halign, by omega, hmem, hblock, d, ?_⟩
  rw [regAt, hblock]
  exact hfind

theorem isRegister_rxcCfg (x : Fin 4096) : isRegister (PKT_RXC_CFG x) .pkt [x.val] = true := by
  have hlow : 0x1D00000 ≤ PKT_RXC_CFG x := by simp only [PKT_RXC_CFG]; omega
  refine isRegister_pkt (by simp only [PKT_RXC_CFG]; omega) (by omega) (by simp only [PKT_RXC_CFG]; omega) (d := regsPKTRXC.head (by decide)) ?_
  rw [List.append_assoc, List.append_assoc, findDesc_append_of_endsBy (b := 0x1D00000) (by decide) hlow]
  exact findDesc_cons_element rfl (by decide) x.isLt rfl

theorem isRegister_txcCfg (y : Fin 4096) : isRegister (PKT_TXC_CFG y) .pkt [y.val] = true := by
  have hlow : 0x1D40000 ≤ PKT_TXC_CFG y := by simp only [PKT_TXC_CFG]; omega
  refine isRegister_pkt (by simp only [PKT_TXC_CFG]; omega) (by omega) (by simp only [PKT_TXC_CFG]; omega) (d := regsPKTTXC.head (by decide)) ?_
  rw [List.append_assoc, findDesc_append_of_endsBy (b := 0x1D40000) (by decide) hlow]
  exact findDesc_cons_element rfl (by decide) y.isLt rfl

theorem State.busWrite_clsCmd {v : Nat} (hv : v < 2 ^ 32) (h : s.Admits m true PKT_CLS_CMD) :
    s.busWrite m PKT_CLS_CMD 4 v = (s.when (bit v 0) State.classifierWrite).when (bit v 1) State.classifierRead := by
  rw [State.busWrite_pkt isRegister_clsCmd hv h]
  exact (if_neg (by decide)).trans ((if_neg (by decide)).trans ((if_neg (by decide)).trans (if_pos rfl)))

theorem State.busWrite_rxcCfg {v : Nat} (x : Fin 4096) (hv : v < 2 ^ 32) (h : s.Admits m true (PKT_RXC_CFG x)) :
    s.busWrite m (PKT_RXC_CFG x) 4 v = (s.storeReg m (PKT_RXC_CFG x) v).rxcWritten x s := by
  have hlow : ¬PKT_RXC_CFG x < PKT_RXC_CFG 0 := by simp only [PKT_RXC_CFG]; omega
  have hhigh : PKT_RXC_CFG x < PKT_TXC_CFG 0 := by simp only [PKT_RXC_CFG, PKT_TXC_CFG]; omega
  have hstat : PKT_RXC_CFG x ≠ PKT_RXC_STAT x := by simp only [PKT_RXC_CFG, PKT_RXC_STAT]; omega
  rw [State.busWrite_pkt (isRegister_rxcCfg x) hv h]
  exact (if_neg hlow).trans ((if_pos hhigh).trans (if_neg hstat))

theorem State.busWrite_txcCfg {v : Nat} (y : Fin 4096) (hv : v < 2 ^ 32) (h : s.Admits m true (PKT_TXC_CFG y)) :
    s.busWrite m (PKT_TXC_CFG y) 4 v = (s.storeReg m (PKT_TXC_CFG y) v).txcWritten y s := by
  have hlow : ¬PKT_TXC_CFG y < PKT_RXC_CFG 0 := by simp only [PKT_RXC_CFG, PKT_TXC_CFG]; omega
  have hmid : ¬PKT_TXC_CFG y < PKT_TXC_CFG 0 := by simp only [PKT_TXC_CFG]; omega
  have hhigh : PKT_TXC_CFG y < PKT_CLS_IDX := by simp only [PKT_TXC_CFG, PKT_CLS_IDX]; omega
  have hstat : PKT_TXC_CFG y ≠ PKT_TXC_STAT y := by simp only [PKT_TXC_CFG, PKT_TXC_STAT]; omega
  rw [State.busWrite_pkt (isRegister_txcCfg y) hv h]
  exact (if_neg hlow).trans ((if_neg hmid).trans ((if_pos hhigh).trans (if_neg hstat)))

/-- A word with its lowest bit set is a word. -/
theorem toNat_or_one_lt (v : Word) : v.toNat ||| 1 < 2 ^ 32 := Nat.or_lt_two_pow v.isLt (by decide)

/-- Settles O43. -/
theorem packetFrameCommandsComplete : Obligations.PacketFrameCommandsComplete := by
  unfold Obligations.PacketFrameCommandsComplete
  refine ⟨fun s n smd bytes aborted => exec_frameReceived s n smd bytes aborted,
    fun s n smd bytes aborted => exec_fragmentReceived s n smd bytes aborted,
    fun s n arg hpkt hon hrx => ?_, fun s n cut hpkt htx hon => ?_, fun s n hpkt htx hon => ?_, fun s m hadm => ?_, fun s m hadm => ?_⟩
  · rw [exec_statusReceived, execStatusReceived, if_neg (by simp [hpkt, hon, hrx])]
  · rw [exec_frameSent, execFrameSent, if_neg (by simp [hpkt, hon, htx])]
  · rw [exec_statusSent, execStatusSent, if_neg (by simp [hpkt, hon, htx])]
  · rw [exec_classifierWrite, execClassifierWrite, State.busWrite_clsCmd (by decide) hadm]
    rfl
  · rw [exec_classifierRead, execClassifierRead, State.busWrite_clsCmd (by decide) hadm]
    rfl

/-- A line of which no sample came is not whole. -/
theorem line_incomplete {format line w : Nat} (hw : 0 < w) (hline : ∃ y ∈ rangeFrom 0 (prfRasterH format), pictureLine format y = line) :
    (((rangeFrom 0 (prfRasterH format)).filter fun y => pictureLine format y == line).all fun y =>
      (rangeFrom 0 1).all fun z => decide (w * 1 ≤ storeGet (fun _ => 0) [] (y * 1 + z))) = false := by
  obtain ⟨y, hy, hyl⟩ := hline
  refine List.all_eq_false.mpr ⟨y, List.mem_filter.mpr ⟨hy, beq_iff_eq.mpr hyl⟩, ?_⟩
  rw [Bool.not_eq_true, List.all_eq_false]
  refine ⟨0, by decide, ?_⟩
  rw [decide_eq_true_eq, storeGet]
  omega

/-- Settles O44. -/
theorem packetContextCommandsComplete : Obligations.PacketContextCommandsComplete := by
  unfold Obligations.PacketContextCommandsComplete
  refine ⟨fun s m x v hadm => ?rx, fun s m y v hadm => ?tx, fun s x p rest hdue hle htype => ?audio, fun s x p rest hdue hle htype => ?video,
    fun s x p rest hdue hle htype => ?anc, fun s x leg hleg hon hlate hother => ?leg,
    fun s x ts line hact hpres htype hformat hraster hframes hline hdue hpicture => ?line, fun s y k hwait hk htype => ?start,
    fun s y k v hact hv htype hlen => ?departAudio, fun s y k v hact hv htype hcar hpacer hk => ?departVideo⟩
  case rx =>
    refine ⟨_, rfl, ?_⟩
    rw [exec_rxContextEnable, execRxContextEnable, State.busWrite_rxcCfg x (toNat_or_one_lt v) hadm]
  case tx =>
    refine ⟨_, rfl, ?_⟩
    rw [exec_txContextEnable, execTxContextEnable, State.busWrite_txcCfg y (toNat_or_one_lt v) hadm]
  case audio => simp only [exec_packetDeadline, execPacketDeadline, hdue, if_neg (Int.not_lt.mpr hle), State.rd_setRxH, htype]
  case video => simp only [exec_packetDeadline, execPacketDeadline, hdue, if_neg (Int.not_lt.mpr hle), State.rd_setRxH, htype]
  case anc =>
    obtain ⟨k, hk⟩ : ∃ k, s.rd (PKT_RXC_CFG_TYPE x) = k + 2 := ⟨_, (Nat.sub_add_cancel htype).symm⟩
    simp only [exec_packetDeadline, execPacketDeadline, hdue, if_neg (Int.not_lt.mpr hle), State.rd_setRxH, hk]
  case leg =>
    subst hleg
    refine ⟨_, rfl, ?_⟩
    simp only [exec_legLoss, execLegLoss, if_true, hon, decide_eq_false (Nat.not_lt.mpr hlate), Bool.not_true, Bool.or_self,
      Bool.false_eq_true, if_false]
  case line =>
    have hlineOk : ¬(line = 0 ∨ totalLines (s.rd (PKT_RXC_CFG_FORMAT x)) < line ∨ line ≤ 0) := by omega
    rw [exec_lineRelease, execLineRelease]
    simp only [hact, hpres, htype, hformat, hframes, List.find?_nil, Option.getD_none, hlineOk, Int.not_lt.mpr hdue, bne_self_eq_false,
      decide_false, Bool.not_true, Bool.or_self, Bool.false_eq_true, if_false, line_incomplete hraster hpicture]
  case start =>
    refine ⟨_, rfl, ?_⟩
    simp only [exec_txContextStart, execTxContextStart, hwait, hk, bne_iff_ne.mpr htype, decide_true, Bool.true_or, Bool.and_self, if_true]
  case departAudio =>
    apply Exists.intro
    simp only [exec_packetDeparture, execPacketDeparture, hact, Bool.not_true, Bool.false_eq_true, if_false, ← hv, htype,
      if_neg (Nat.not_lt.mpr hlen)]
    rfl
  case departVideo =>
    apply Exists.intro
    simp only [exec_packetDeparture, execPacketDeparture, hact, Bool.not_true, Bool.false_eq_true, if_false, ← hv, htype, hcar, hpacer,
      and_false, ne_eq, not_true_eq_false, false_and, true_and, or_false, false_or, if_neg (Nat.not_le.mpr hk), if_true]
    rfl

end Sys2Proof.Machine
end
section
/-! SUPPORT. The PTP instances: their messages, timeouts, evaluations and commands (chapter 11). -/

namespace Sys2Proof.Machine

theorem isRegister_ptpCtrl (n : Fin 36) : isRegister (PTP_CTRL n) .ptp [n] = true := by revert n; decide +kernel

theorem State.busWrite_ptpCtrl {s : State} {m v : Nat} (n : Fin 36) (hv : v < 2 ^ 32) (h : s.Admits m true (PTP_CTRL n)) :
    s.busWrite m (PTP_CTRL n) 4 v = (s.when (bit v 0) fun s => s.ptpAccept n).when (bit v 1) fun s => s.ptpRestart n := by
  rw [State.busWrite_ptp (by simp only [PTP_CTRL, PTP_DT]; omega) (isRegister_ptpCtrl n) hv h]
  exact if_pos rfl

theorem State.now_ptpChanged (s : State) : s.ptpChanged.now = s.now := (kept_ptpChanged s (Kept.refl s)).now
theorem State.pending_ptpChanged (s : State) : s.ptpChanged.pending = s.pending := (kept_ptpChanged s (Kept.refl s)).pending

/-- An evaluation of a locked servo with offsets ends in what depends on PTP time. -/
theorem exec_servoEvaluation_changed {s : State} {n : Fin 36} (hport : s.rd (PTP_STATUS_PORT n) = 3) (hdue : (s.ptpH n).evalAt + sec ≤ s.now)
    (hoffs : (s.ptpH n).offs ≠ []) :
    ∃ u : State, exec (.servoEvaluation n) s = .next u.ptpChanged ∧ u.now = s.now ∧ u.pending = s.pending := by
  have hgo : ¬(s.rd (PTP_STATUS_PORT n) ≠ 3 ∨ s.now < (s.ptpH n).evalAt + sec) := by simp [hport, hdue]
  have hsome : ¬(s.ptpH n).offs.isEmpty = true := by simpa using hoffs
  obtain ⟨t, hrun, hkept⟩ := kept_execServoEvaluation n s
  obtain ⟨u, hu⟩ : ∃ u : State, execServoEvaluation n s = .next u.ptpChanged :=
    ⟨_, congrArg Host.Outcome.next ((if_neg hgo).trans (if_neg hsome))⟩
  have ht : t = u.ptpChanged := Host.Outcome.next.inj (hrun.symm.trans hu)
  refine ⟨u, (exec_servoEvaluation s n).trans hu, ?_, ?_⟩
  · rw [← u.now_ptpChanged, ← ht, hkept.now]
  · rw [← u.pending_ptpChanged, ← ht, hkept.pending]

/-- Settles O45. -/
theorem ptpCommandsComplete : Obligations.PtpCommandsComplete := by
  unfold Obligations.PtpCommandsComplete
  refine ⟨fun s n domain port dataset mac ip utc log htakes => ?announce, fun s n domain port seq twoStep origin corr lane hfrom => ?sync,
    fun s n domain port seq origin corr t2 c hsync hfrom => ?followUp, fun s n f hf hport hdreq => ?delayReq,
    fun s n domain port seq t4 corr t t1 t2 t3 hdreq hpair hfrom hport => ?delayResp, fun s n p f hp hf hdue => ?timeout,
    fun s n hport hdue hoffs => ?noOffsets, fun s n hport hdue hoffs => exec_servoEvaluation_changed hport hdue hoffs,
    fun s m n hadm hservo => ?accept, fun s m n hadm => ?restart, fun s m hadm => ?deviceTime, fun s m p hadm => ?position⟩
  case announce =>
    refine ⟨{ port := port, dataset := dataset ++ [port.1, port.2], mac := mac, ip := ip, times := _, interval := _ },
      rfl, rfl, rfl, rfl, ?_, congrArg Host.Outcome.next (if_neg ?_)⟩
    · rfl
    · simp [htakes]
  case sync => simp only [exec_sync, execSync, hfrom, Bool.not_true, Bool.false_eq_true, if_false]
  case followUp => simp only [exec_followUp, execFollowUp, hsync, hfrom, beq_self_eq_true, Bool.and_self, if_true]
  case delayReq =>
    refine ⟨_, rfl, ?_⟩
    simp only [exec_delayReq, execDelayReq, hf, hport, hdreq, and_self, if_true]
  case delayResp =>
    refine ⟨_, rfl, fun hafter => ?_⟩
    simp only [hpair] at hafter
    simp only [exec_delayResp, execDelayResp, hdreq, hpair, hfrom, bne_self_eq_false, Bool.not_true, Bool.or_self, Bool.false_eq_true, if_false,
      hafter]
    rfl
  case timeout =>
    simp only [hp] at hf
    simp only [exec_announceTimeout, execAnnounceTimeout, hp, hf, Nat.not_lt.mpr hdue, if_false]
  case noOffsets =>
    simp only [exec_servoEvaluation, execServoEvaluation, hport, Nat.not_lt.mpr hdue, hoffs, ne_eq, not_true_eq_false, or_self, if_false,
      List.isEmpty_nil, if_true]
  case accept =>
    rw [exec_accept, execAccept, State.busWrite_ptpCtrl n (by decide) hadm]
    exact congrArg Host.Outcome.next (if_pos hservo)
  case restart =>
    rw [exec_ptpRestart, execPtpRestart, State.busWrite_ptpCtrl n (by decide) hadm]
    rfl
  case deviceTime =>
    refine ⟨(s.getWord m (PTP_DT 0)).1, (s.getWord m (PTP_DT 0)).2, rfl, ?_⟩
    rw [exec_deviceTimeRead, execDeviceTimeRead, s.busRead_admits (by decide) (by decide) hadm]
  case position =>
    refine ⟨(s.getWord m _).1, (s.getWord m _).2, rfl, ?_⟩
    rw [exec_planPositionRead, execPlanPositionRead, s.busRead_admits (by simp only [PLN_POS_F]; omega) (by simp only [PLN_POS_F]; omega) hadm]

end Sys2Proof.Machine
end
section
/-! SUPPORT. The multiviewer heads: starts and stops, latch decisions, flips, look-up tables and the region-push stream (chapter 12). -/

namespace Sys2Proof.Machine

theorem isRegister_lutData (h : Fin 32) : isRegister (MVH_LUT_DATA h) .mvh [h] = true := by revert h; decide +kernel

theorem State.busWrite_lutData {s : State} {m v : Nat} (h : Fin 32) (hv : v < 2 ^ 32) (hadm : s.Admits m true (MVH_LUT_DATA h)) :
    s.busWrite m (MVH_LUT_DATA h) 4 v = s.lutWrite h v := by
  rw [State.busWrite_mvh (isRegister_lutData h) hv hadm]
  exact if_pos rfl

/-- Every rectangle of a tile row lies in that row. -/
theorem row_of_mem_tileRuns {marked : Nat → Bool} {row : Nat} {n t : Nat} {acc : List RectH} (hacc : ∀ r ∈ acc, r.row = row) :
    ∀ r ∈ tileRuns marked row n t acc, r.row = row := by
  induction n generalizing t acc with
  | zero => exact fun r hr => hacc r (List.mem_reverse.mp hr)
  | succ n ih =>
    cases acc with
    | nil =>
      simp only [tileRuns]
      split
      · exact ih (by simp)
      · exact ih hacc
    | cons a l =>
      have hl : ∀ r ∈ l, r.row = row := fun r hr => hacc r (List.mem_cons_of_mem _ hr)
      have ha : a.row = row := hacc a List.mem_cons_self
      simp only [tileRuns]
      split
      · split
        · exact ih (List.forall_mem_cons.mpr ⟨ha, hl⟩)
        · exact ih (List.forall_mem_cons.mpr ⟨rfl, hacc⟩)
      · exact ih hacc

/-- Settles O46. -/
theorem headCommandsComplete : Obligations.HeadCommandsComplete := by
  unfold Obligations.HeadCommandsComplete
  refine ⟨fun s h t hstart hon hrun hdue => ?start, fun s h k hstop hover => ?stop,
    fun s h t hlatch hruns hdue hdecided hpending hagain => ?latch, fun s h hruns hrun hat hflip => ?flip,
    fun s h j l hruns hunder hl hlon => ?underrun, fun s m h v hadm => ?lutWrite, fun s m h hadm => ?lutRead,
    fun s h hact hframe hrows => ?row, fun s h r rest htodo hact hdue => ?packet, fun s h hact hframe => ?frameEnd⟩
  case start =>
    refine ⟨_, rfl, _, rfl, ?_⟩
    simp only [exec_headStart, execHeadStart, hstart, hon, hrun, decide_eq_false (Nat.not_lt.mpr hdue), Bool.not_true, Bool.or_self,
      Bool.false_eq_true, if_false]
  case stop =>
    have hgo : (s.on (PLN_STATUS_RUN (s.headPlan h)) && s.on (MVH_STATUS_STATE h) && decide (s.frameOf (s.headPlan h) ≤ k)) = false := by
      rcases hover with hoff | hpast
      · rw [hoff, Bool.and_false, Bool.false_and]
      · rw [decide_eq_false (Nat.not_le.mpr hpast), Bool.and_false]
    refine ⟨_, rfl, ?_⟩
    simp only [exec_headStop, execHeadStop, hstop, hgo, Bool.false_eq_true, if_false]
  case latch =>
    simp only [exec_latchDecision, execLatchDecision, hlatch, hruns, decide_eq_false (Nat.not_lt.mpr hdue), beq_eq_false_iff_ne.mpr hdecided,
      hpending, hagain, Option.map_none, Bool.not_true, Bool.or_self, Bool.false_eq_true, if_false]
  case flip =>
    refine ⟨_, rfl, _, rfl, ?_⟩
    simp only [exec_flip, execFlip, hruns, hrun, decide_eq_false (Nat.not_le.mpr hat), hflip, Bool.not_true, Bool.or_self, Bool.false_eq_true,
      if_false]
  case underrun =>
    simp only [exec_underrun, execUnderrun, hruns, hunder, hl, hlon, Bool.not_true, Bool.or_self, Bool.false_eq_true, if_false]
  case lutWrite => rw [exec_lutDataWrite, execLutDataWrite, State.busWrite_lutData h v.isLt hadm]
  case lutRead =>
    refine ⟨(s.getWord m (MVH_LUT_DATA h)).1, (s.getWord m (MVH_LUT_DATA h)).2, rfl, ?_⟩
    rw [exec_lutDataRead, execLutDataRead, s.busRead_admits (by simp only [MVH_LUT_DATA]; omega) (by simp only [MVH_LUT_DATA]; omega) hadm]
  case row =>
    have hgo : ¬(!s.on (MVH_RP_STAT_ACTIVE h) || (s.mvhH h).push.frame != s.frameOf (s.headPlan h) ||
        decide ((s.raster h).2 / 8 ≤ (s.mvhH h).push.rows)) = true := by
      simp only [hact, hframe, decide_eq_false (Nat.not_le.mpr hrows), bne_self_eq_false, Bool.not_true, Bool.or_self, Bool.false_eq_true,
        not_false_eq_true]
    exact ⟨_, _, congrArg Host.Outcome.next (if_neg hgo), row_of_mem_tileRuns (by simp)⟩
  case packet =>
    have hgo : ¬(!s.on (MVH_RP_STAT_ACTIVE h) || decide (s.now < (s.mvhH h).push.nextAt)) = true := by
      simp only [hact, decide_eq_false (Nat.not_lt.mpr hdue), Bool.not_true, Bool.or_self, Bool.false_eq_true, not_false_eq_true]
    simp only [exec_regionPushPacket, execRegionPushPacket, htodo, if_neg hgo]
    refine ⟨_, _, rfl, ?_, rfl⟩
    rw [State.mvhH_setMvhH]
  case frameEnd =>
    refine ⟨_, _, congrArg Host.Outcome.next (if_neg ?_), rfl, rfl, rfl, rfl, rfl⟩
    simp only [hact, decide_eq_false (Nat.not_le.mpr hframe), Bool.not_true, Bool.or_self, Bool.false_eq_true, not_false_eq_true]

end Sys2Proof.Machine
end
section
/-! SUPPORT. Route proof and the ledger: verdicts, rectangles, selections, closes, checks, holds and epochs (chapter 13). -/

namespace Sys2Proof.Machine

variable {s : State} {m v : Nat}

theorem isRegister_recSel : isRegister PRF_REC_SEL .prf [] = true := by decide +kernel
theorem isRegister_ldgCtrl : isRegister LDG_CTRL .ldg [] = true := by decide +kernel
theorem isRegister_ldgSel : isRegister LDG_SEL .ldg [] = true := by decide +kernel

theorem State.busWrite_recSel (hv : v < 2 ^ 32) (h : s.Admits m true PRF_REC_SEL) :
    s.busWrite m PRF_REC_SEL 4 v = (s.storeReg m PRF_REC_SEL v).loadRecord := by
  rw [State.busWrite_prf isRegister_recSel hv h]
  exact if_pos rfl

theorem State.busWrite_ldgCtrl (hv : v < 2 ^ 32) (h : s.Admits m true LDG_CTRL) :
    s.busWrite m LDG_CTRL 4 v = s.ledgerControl v (s.stamped m) := by
  rw [State.busWrite_ldg isRegister_ldgCtrl hv h]
  exact if_pos rfl

theorem State.busWrite_ldgSel (hv : v < 2 ^ 32) (h : s.Admits m true LDG_SEL) :
    s.busWrite m LDG_SEL 4 v = (s.storeReg m LDG_SEL v).selectUnit := by
  rw [State.busWrite_ldg isRegister_ldgSel hv h]
  exact (if_neg (by decide)).trans (if_pos rfl)

/-- Settles O47. -/
theorem proofAndLedgerCommandsComplete : Obligations.ProofAndLedgerCommandsComplete := by
  unfold Obligations.ProofAndLedgerCommandsComplete
  refine ⟨fun s d f src code reason checks v w hrun hjudged hmasked hvalid hcov hsrc hf hchecks hv hcode hw => ?verdict,
    fun s u hrects hat hu => ?rects, fun s m v hadm => ?recSel, fun s hrun hclosed => ?close, fun s hchecked => ?check,
    fun s => exec_ledgerEccError s, fun s m hadm => ?epochRequest, fun s hdue hclosed => ?epoch, fun s hdue hclosed => ?closeEpoch,
    fun s m hadm => ?hold, fun s m hadm => ?release, fun s m v hadm => ?ldgSel, fun s m hadm => ?mark,
    fun s id out age => ⟨_, rfl, exec_proofStoreEccError s id out age⟩, fun s => exec_caskEccError s⟩
  case verdict =>
    simp only [exec_verdict, execVerdict, hrun, hjudged, hmasked, hvalid, hcov, Bool.not_true, Bool.or_self, Bool.false_eq_true, if_false,
      ← hsrc, ← hf, ← hchecks, ← hv, hcode, ← hw]
  case rects =>
    have hgo : (s.ldg.rects.isEmpty || decide (s.frame0 ≤ s.ldg.rectAt)) = false := by
      rw [decide_eq_false (Nat.not_le.mpr hat), Bool.or_false]
      exact List.isEmpty_eq_false_iff.mpr hrects
    simp only [exec_rgenAdvance, execRgenAdvance, hgo, Bool.false_eq_true, if_false, ← hu]
  case recSel => rw [exec_recordSelect, execRecordSelect, State.busWrite_recSel v.isLt hadm]
  case close => rw [exec_booksClose, execBooksClose, if_pos ⟨hrun, hclosed⟩]
  case check => rw [exec_ledgerCheck, execLedgerCheck, if_neg (by simp [hchecked])]
  case epochRequest =>
    rw [exec_epochRequest, execEpochRequest, State.busWrite_ldgCtrl (by decide) hadm]
    rfl
  case epoch => rw [exec_epochStart, execEpochStart, if_pos hdue, if_neg (Nat.not_lt.mpr hclosed)]
  case closeEpoch => rw [exec_epochStart, execEpochStart, if_pos hdue, if_pos hclosed]
  case hold =>
    rw [exec_hold, execHold, State.busWrite_ldgCtrl (by decide) hadm]
    rfl
  case release =>
    rw [exec_release, execRelease, State.busWrite_ldgCtrl (by decide) hadm]
    rfl
  case ldgSel => rw [exec_ledgerSelect, execLedgerSelect, State.busWrite_ldgSel v.isLt hadm]
  case mark =>
    refine ⟨(s.getWord m LDG_MARK_VAL).1, (s.getWord m LDG_MARK_VAL).2, rfl, ?_⟩
    rw [exec_markRead, execMarkRead, s.busRead_admits (by decide) (by decide) hadm]

end Sys2Proof.Machine
end
section
/-! SUPPORT. The mirror port: records, entries, the token, fencing, takeover, catch-up and mail (chapters 14 and 15). -/

namespace Sys2Proof.Machine

variable {s : State} {m v : Nat}

theorem isRegister_twnCtrl : isRegister TWN_CTRL .twn [] = true := by decide +kernel

theorem State.busWrite_twnCtrl (hv : v < 2 ^ 32) (h : s.Admits m true TWN_CTRL) : s.busWrite m TWN_CTRL 4 v = s.twinControl v := by
  rw [State.busWrite_twn isRegister_twnCtrl hv h]
  exact if_pos rfl

/-- A mirror record with a good CRC is taken while the receiver is up (R530). -/
theorem State.record_good {len crc : Nat} {groups : List Nat} (units : Bool) (f : State → State) (hreset : s.top.inReset = false)
    (htwin : s.twinEn = true) (hrx : s.rd (TRL_STATUS_RX_STATE 36) = 6) (hcrc : mirrorCrcOk len crc groups = true) :
    s.record len crc groups units f = if units then (f s).freeUnits len else f s := by
  simp only [State.record, hreset, htwin, hrx, hcrc, bne_self_eq_false, Bool.not_true, Bool.or_self, Bool.false_eq_true, if_false, if_true]

/-- Settles O48. -/
theorem mirrorLinkCommandsComplete : Obligations.MirrorLinkCommandsComplete := by
  unfold Obligations.MirrorLinkCommandsComplete
  refine ⟨fun s claimIn hreset htwin hrun htx => ?sent, fun s len crc groups hreset htwin hrx hcrc => ?received,
    fun s hdown => congrArg Host.Outcome.next (if_pos hdown), fun s hrx hstate htwin => ?up,
    fun s m addr len data haddr hneeds => congrArg Host.Outcome.next (if_pos ⟨haddr, hneeds⟩), fun s => exec_journalStallRelease s,
    fun s len crc groups hreset htwin hrx hcrc => ?entry, fun s hreset hmay => ?apply,
    fun s len r result groups hreset hclaim hpaired hwants => ?oprec, fun s len r kind frame line words hreset hclaim hpaired hwants => ?effect,
    fun s len crc groups hreset htwin hrx hcrc => ?ckpt, fun s hrenews hfenced => ?renew⟩
  case sent =>
    refine ⟨_, _, rfl, rfl, ?_⟩
    simp only [exec_stateSent, execStateSent, hreset, htwin, hrun, htx, Bool.not_true, Bool.or_self, Bool.false_eq_true, if_false]
  case received => rw [exec_stateReceived, execStateReceived, State.record_good _ _ hreset htwin hrx hcrc, if_neg Bool.false_ne_true]
  case up => exact congrArg Host.Outcome.next (if_pos ⟨hrx, by rw [hstate]; rfl, htwin⟩)
  case entry => rw [exec_journalReceived, execJournalReceived, State.record_good _ _ hreset htwin hrx hcrc, if_pos rfl]
  case apply =>
    have hgo : (s.twn.wants && !s.top.claim) = false := by
      rcases hmay with h | h
      · rw [h, Bool.false_and]
      · rw [h, Bool.not_true, Bool.and_false]
    simp only [exec_journalApply, execJournalApply, hreset, hgo, Bool.or_self, Bool.false_eq_true, if_false]
  case oprec =>
    simp only [exec_oprecReceived, execOprecReceived, hreset, hclaim, hpaired, hwants, Bool.false_and, Bool.not_true, Bool.or_self,
      Bool.false_eq_true, if_false]
  case effect =>
    simp only [exec_effectReceived, execEffectReceived, hreset, hclaim, hpaired, hwants, Bool.false_and, Bool.not_true, Bool.or_self,
      Bool.false_eq_true, if_false]
  case ckpt => rw [exec_ckptReceived, execCkptReceived, State.record_good _ _ hreset htwin hrx hcrc, if_neg Bool.false_ne_true]
  case renew => rw [exec_tokenRenew, execTokenRenew, hrenews, hfenced]; rfl

/-- Settles O49. -/
theorem takeoverAndCatchupCommandsComplete : Obligations.TakeoverAndCatchupCommandsComplete := by
  unfold Obligations.TakeoverAndCatchupCommandsComplete
  refine ⟨fun s hholds hdue hrenews => ?lapse, fun s u v hholds hdue hu hv => ?fence, fun s t ht hdue hmode hfenced => ?wait,
    fun s hreset htwin hholds => ?claimLow, fun s hfenced hreset hmode => ?fenceIn, fun s hmode hpos => ?complete,
    fun s m hadm hfencing => ?unfence, fun s m hadm hfencing => ?unfenceNone, fun s m hadm hmode => ?solo, fun s m hm hreset => ?catchup,
    fun s f hf hdue hclaim hentry => ?capture, fun s len memory part last hm hreset hclaim hpaired hwants => ?image,
    fun s f w img hf hw himg hclaim hwants hlt hdue => ?install, fun s hfenced hreset => ?released⟩
  case lapse =>
    simp only [exec_tokenLapse, execTokenLapse, hholds, hdue, hrenews, Bool.not_false, Bool.and_self, if_true]
  case fence =>
    rw [hv, hu, exec_tokenLapse, execTokenLapse, if_neg (by rw [hholds]; exact Bool.false_ne_true), if_pos hdue]
    rfl
  case wait =>
    refine ⟨_, rfl, ?_⟩
    simp only [exec_fenceWaitExpiry, execFenceWaitExpiry, ht, Nat.not_lt.mpr hdue, if_false]
  case claimLow => exact congrArg Host.Outcome.next (if_neg (by simp [hreset, htwin, hholds]))
  case fenceIn =>
    refine ⟨_, rfl, fun hafter => ?_⟩
    rw [exec_fenceIn, execFenceIn, if_neg (by simp [hfenced]), if_neg (by simp [hreset])]
    exact congrArg Host.Outcome.next (if_pos hafter)
  case complete =>
    have hmoved : ¬(s.mode ≠ .takeover ∨ (wrap32 (s.pos 0).frame = s.rd TOP_MODE_TSF_FRAME ∧ (s.pos 0).line = s.rd TOP_MODE_TSL_LINE)) := by
      rintro (h | ⟨hframe, hline⟩)
      · exact h hmode
      · exact hpos.elim (fun h => h hframe) fun h => h hline
    exact ⟨_, rfl, congrArg Host.Outcome.next (if_neg hmoved)⟩
  case unfence =>
    rw [exec_unfence, execUnfence, State.busWrite_twnCtrl (by decide) hadm]
    exact congrArg Host.Outcome.next (if_pos hfencing)
  case unfenceNone =>
    rw [exec_unfence, execUnfence, State.busWrite_twnCtrl (by decide) hadm]
    exact congrArg Host.Outcome.next (if_neg (by simp [hfencing]))
  case solo =>
    rw [exec_goSolo, execGoSolo, State.busWrite_twnCtrl (by decide) hadm]
    exact congrArg Host.Outcome.next (if_pos hmode)
  case catchup => subst hm; exact congrArg Host.Outcome.next (if_neg (by simp [hreset]))
  case capture =>
    simp only [exec_catchupCapture, execCatchupCapture, hf, Nat.not_lt.mpr hdue, hclaim, hentry, Option.isSome_none, Bool.not_true,
      Bool.false_eq_true, or_self, if_false]
  case image =>
    refine ⟨_, rfl, ?_⟩
    simp only [exec_imageReceived, execImageReceived, hm, hreset, hclaim, hpaired, hwants, Bool.not_true, Bool.or_self, Bool.false_eq_true,
      if_false]
  case install =>
    simp only [exec_catchupInstall, execCatchupInstall, hf, hw, himg, hclaim, hwants, decide_eq_false (Nat.not_lt.mpr hdue),
      decide_eq_false (Nat.not_le.mpr hlt), Bool.false_and, Bool.not_true, Bool.or_self, Bool.false_eq_true, if_false]
  case released =>
    refine ⟨_, rfl, ?_⟩
    simp only [exec_fenceInReleased, execFenceInReleased, hfenced, hreset, State.top_wr, Bool.not_true, Bool.false_eq_true, if_false]

/-- Settles O50. -/
theorem mirrorMailCommandsComplete : Obligations.MirrorMailCommandsComplete := by
  unfold Obligations.MirrorMailCommandsComplete
  refine ⟨fun s len crc groups hreset htwin hrx hcrc h8 h9 hr hheld hgot hopen => ?deliver,
    fun s len crc groups hreset htwin hrx hcrc h9 hr hsent hseq => ?ack, fun s len crc groups hreset htwin hrx hcrc h8 hr => ?ring,
    fun s r hlink hsent => ?send⟩
  case deliver =>
    rw [exec_mailRecord, execMailRecord, State.record_good _ _ hreset htwin hrx hcrc, if_neg Bool.false_ne_true]
    simp only [h8, h9, decide_eq_false (Nat.not_lt.mpr hr), hheld, hgot, hopen, List.getLast?_nil, Option.map_none, Option.orElse_none,
      List.isEmpty_nil, Bool.not_true, Bool.or_self, Bool.and_self, Bool.false_eq_true, if_false, if_true]
  case ack =>
    rw [exec_mailRecordAck, execMailRecordAck, State.record_good _ _ hreset htwin hrx hcrc, if_pos rfl]
    simp only [h9, decide_eq_false (Nat.not_lt.mpr hr), beq_eq_false_iff_ne.mpr hsent, hseq, bne_self_eq_false, Bool.not_true, Bool.or_self,
      Bool.false_eq_true, if_false]
  case ring =>
    rw [exec_ringRecord, execRingRecord, State.record_good _ _ hreset htwin hrx hcrc, if_pos rfl]
    simp only [h8, decide_eq_false (Nat.not_lt.mpr hr), Bool.not_true, Bool.or_self, Bool.false_eq_true, if_false]
  case send =>
    simp only [exec_mirrorMailSend, execMirrorMailSend, hlink, decide_eq_false (Nat.not_le.mpr hsent), Bool.not_true, Bool.or_self,
      Bool.false_eq_true, if_false]

end Sys2Proof.Machine
end
section
/-! SUPPORT. The fabric: credits, neighbours, routes, the conductor, leases, feeds, records, audio and mail (chapter 14). -/

namespace Sys2Proof.Machine

variable {s : State} {n : Fin 36}

/-- The state in which the body of a fabric message other than a credit is taken: the message counted and its credit returned. -/
abbrev State.taken (s : State) (n : Nat) : State := (s.bump (FAB_CNT_COUNT 0)).returnCredit n

/-- The count and the credit of a message take no time. -/
theorem State.now_taken (s : State) (n : Nat) : (s.taken n).now = s.now :=
  (kept_returnCredit n _ (kept_bump _ _ (Kept.refl s))).now

/-- A message for this device on a trunk that is up is taken in that state. -/
theorem State.receive_of_taken {t : State} {msg : Msg} {f : State → State} (ht : s.taken n = t) (hup : s.trunkUp n = true) (htype : msg.type ≠ 1)
    (hexcl : t.fab.excluded.contains msg.src = false) (hdest : msg.dest = linkLocal ∨ msg.dest = t.fabAddr) : s.receive n msg f = f t := by
  subst ht
  exact s.receive_taken n msg f hup htype hexcl hdest

/-- A HELLO from another device, the first one known, makes it a neighbour heard once. -/
theorem exec_hello_first {t : State} {addr far twin : Fin 64} {mode : Fin 16} {inc : Nat} (ht : s.taken n = t) (hup : s.trunkUp n = true)
    (haddr : addr.val ≠ s.fabAddr) (hexcl : t.fab.excluded = []) (hneigh : t.fab.neigh = []) :
    ∃ u : State, exec (.hello n addr far twin mode inc) s = .next u ∧
      u.fab.neigh = [{ trunk := n, addr := addr, far := far, twin := twin, mode := mode, inc := wrap32 inc, count := 1, at_ := s.now }] ∧
      pairGet u.fab.twins addr.val = some twin.val := by
  have hother : (s.on FAB_CFG_EN && s.trunk n && addr.val == s.fabAddr) = false := by rw [beq_eq_false_iff_ne.mpr haddr, Bool.and_false]
  have hnow : t.now = s.now := ht ▸ s.now_taken n
  have hreceive (f : State → State) :
      s.receive n { type := 2, dest := linkLocal, src := addr, body := [0x1152, 0xB0, far.val, twin.val, mode.val, inc] } f =
        f t := ht ▸ s.receive_hello n _ f hup rfl rfl
  rw [exec_hello, execHello, hother, if_neg Bool.false_ne_true, hreceive]
  simp only [hexcl, hneigh, List.filter_nil, ite_self, List.contains_nil, Bool.false_eq_true, if_false, List.find?_nil, List.nil_append,
    OfNat.one_ne_ofNat, hnow]
  exact ⟨_, rfl, rfl, pairGet_pairSet _ _ _⟩

/-- A ROUTE without entries changes the sender's links, and no route. -/
theorem exec_route_links {t u : State} {src : Fin 64} {near : List (Fin 64 × Fin 64)} (ht : s.taken n = t) (hup : s.trunkUp n = true)
    (hexcl : t.fab.excluded.contains src.val = false)
    (hu : u = { t with fab := { t.fab with links := t.fab.links.filter (fun (e : Nat × Nat × Nat) => e.1 != src.val) ++
      (near.map fun (e : Fin 64 × Fin 64) => (src.val, e.1.val, e.2.val)) } }) :
    exec (.route n src [] near) s = .next (u.trackReach.sendStuck) := by
  have hwords : ((rangeFrom 0 32).map fun a => u.word (FAB_ROUTE a)) = (rangeFrom 0 32).map fun a => t.word (FAB_ROUTE a) := by
    rw [hu]; rfl
  rw [exec_route, execRoute, State.receive_of_taken ht hup (by simp) hexcl (.inl rfl)]
  simp only [← hu, State.forL, foldOver]
  rw [if_pos hwords]

/-- Settles O51. -/
theorem fabricMembershipCommandsComplete : Obligations.FabricMembershipCommandsComplete := by
  unfold Obligations.FabricMembershipCommandsComplete
  refine ⟨fun s n src count hup hexcl => ?credit, fun s n addr far twin mode inc hen htrunk haddr => ?conflict,
    fun s n addr far twin mode inc hup haddr hexcl hneigh => exec_hello_first rfl hup haddr hexcl hneigh,
    fun s n src entries near hup hexcl hnone => ⟨_, rfl, hnone ▸ exec_route_links rfl hup hexcl rfl⟩, fun s a hvalid hfresh hline => ?expiry,
    fun s n dest src hops term frame digest excluded phase hup hexcl hdest hmember hsrc => ?beat, fun s hmember hcond hbeat hline => ?missed,
    fun s => exec_election s, fun s a f hlost hcond hdue => ?exclude⟩
  case credit =>
    refine ⟨_, rfl, ?_⟩
    rw [exec_credit, execCredit, s.receive_credit n _ _ hup rfl (by rw [State.fab_bump]; exact hexcl) rfl]
  case conflict =>
    rw [exec_hello, execHello, if_pos (by simp [hen, htrunk, haddr])]
  case expiry =>
    simp only [exec_routeExpiry, execRouteExpiry, hvalid, decide_eq_true hfresh, decide_eq_true hline, Bool.and_self, if_true]
  case beat =>
    refine ⟨_, rfl, _, rfl, ?_⟩
    rw [exec_heartbeat, execHeartbeat, s.receive_taken n _ _ hup (by simp) hexcl hdest]
    simp only [hmember, ← hsrc, beq_self_eq_true, Bool.true_or, Bool.not_true, Bool.false_eq_true, if_false, if_true]
  case missed =>
    simp only [exec_heartbeatMissed, execHeartbeatMissed, hmember, bne_iff_ne.mpr hcond.1, bne_iff_ne.mpr hcond.2, decide_eq_true hbeat,
      decide_eq_true hline, Bool.and_self, if_true]
  case exclude => simp only [exec_exclude, execExclude, hlost, hcond, hdue, and_self, if_true]

/-- A record message of a source with one mapping keeps or clears that mapping's digest mark. -/
theorem exec_record_digest {t : State} {dest src : Fin 64} {hops : Fin 4} {ch : Fin 128} {tag rgen digest : Nat} {checks : List Nat}
    {valid damaged : Fin 16} {k : Nat} (ht : s.taken n = t) (hup : s.trunkUp n = true) (hexcl : t.fab.excluded.contains src.val = false)
    (hdest : dest.val = linkLocal ∨ dest.val = t.fabAddr) (hk : t.rmapOf src ch 2 = [k]) :
    ∃ u : State, exec (.record n dest src hops ch tag rgen digest checks valid damaged) s = .next u ∧
      u.fab.digest = if digest = Config.rectDigest (((rangeFrom 0 8).map fun f => ((rangeFrom 0 4).map fun k =>
          [(t.rectWord (PRF_RPOS f k)).toNat, (t.rectWord (PRF_RSIZE f k)).toNat]).flatten).flatten)
        then t.fab.digest.filter (· != 4768 + k) else t.fab.digest.filter (· != 4768 + k) ++ [4768 + k] := by
  rw [exec_record, execRecord, State.receive_of_taken ht hup (by simp) hexcl hdest]
  simp only [hk, State.forL, foldOver]
  refine ⟨_, rfl, ?_⟩
  split
  · rw [State.fab_setInH]
    rfl
  · rfl

/-- Settles O52. -/
theorem fabricLeaseAndMediaCommandsComplete : Obligations.FabricLeaseAndMediaCommandsComplete := by
  unfold Obligations.FabricLeaseAndMediaCommandsComplete
  refine ⟨fun s n dest src hops k dur prio index free srcDev slots q hup hexcl hdest hcond hq => ?leaseReq,
    fun s n dest src hops k status e hup hexcl hdest => ?leaseAns, fun s n dest src hops k addr index e runs hup hexcl hdest hk => ?leaseUpd,
    fun s n dest src hops copy hup hexcl hdest hcopy hcond => ?leaseSync, fun s n dest src hops failed hup hexcl hdest hcond => ?inherit,
    fun s n dest src hops k run hup hexcl hdest => ?feed, fun s n dest src hops k ch idv hup hexcl hdest => ?select,
    fun s n dest src hops ch width hup hexcl hdest => ?selectAck,
    fun s n dest src hops ch tag rgen digest checks valid damaged k hup hexcl hdest hk => exec_record_digest rfl hup hexcl hdest hk,
    fun s n dest src hops k ticks hup hexcl hdest hvalid hsrc => ?audio, fun s n dest src hops q code words hup hexcl hdest => ?mail,
    fun s n dest src hops q code hup hexcl hdest haway hjournals => ?mailAck, fun s r hspeaks haway hreaches => ?mailSend⟩
  case leaseReq =>
    rw [exec_leaseReq, execLeaseReq, s.receive_taken n _ _ hup (by simp) hexcl hdest, if_neg (not_not_intro hcond), hq]
  case leaseAns => rw [exec_leaseAns, execLeaseAns, s.receive_taken n _ _ hup (by simp) hexcl hdest]
  case leaseUpd => rw [exec_leaseUpd, execLeaseUpd, s.receive_taken n _ _ hup (by simp) hexcl hdest, if_neg (Nat.not_lt.mpr hk)]
  case leaseSync =>
    subst hcopy
    rw [exec_leaseSync, execLeaseSync, s.receive_taken n _ _ hup (by simp) hexcl hdest]
    exact congrArg Host.Outcome.next (if_neg (not_not_intro hcond))
  case inherit => rw [exec_inherit, execInherit, s.receive_taken n _ _ hup (by simp) hexcl hdest, if_pos hcond]
  case feed => rw [exec_feed, execFeed, s.receive_taken n _ _ hup (by simp) hexcl hdest]
  case select => rw [exec_select, execSelect, s.receive_taken n _ _ hup (by simp) hexcl hdest]
  case selectAck => exact congrArg Host.Outcome.next (s.receive_taken n _ _ hup (by simp) hexcl hdest)
  case audio =>
    refine ⟨_, rfl, ?_⟩
    rw [exec_audio, execAudio, s.receive_taken n _ _ hup (by simp) hexcl hdest]
    simp only [hvalid, hsrc, bne_self_eq_false, Bool.not_true, Bool.or_self, Bool.false_eq_true, if_false]
  case mail => rw [exec_mail, execMail, s.receive_taken n _ _ hup (by simp) hexcl hdest]
  case mailAck =>
    rw [exec_mailAck, execMailAck, s.receive_taken n _ _ hup (by simp) hexcl hdest]
    simp only [haway, hjournals, Bool.false_eq_true, if_false]
  case mailSend =>
    refine ⟨_, rfl, _, rfl, ?_⟩
    simp only [exec_fabricMailSend, execFabricMailSend, hspeaks, decide_eq_false (Nat.not_le.mpr haway), hreaches, Bool.not_true, Bool.or_self,
      Bool.false_eq_true, if_false]

end Sys2Proof.Machine
end
section
/-! SUPPORT. The management controller: its crashes, boot, sensors and log (chapter 15). -/

namespace Sys2Proof.Machine

theorem isRegister_mgtCtrl : isRegister MGT_CTRL .mgt [] = true := by decide +kernel

theorem State.busWrite_mgtCtrl {s : State} {m v : Nat} (hv : v < 2 ^ 32) (h : s.Admits m true MGT_CTRL) :
    s.busWrite m MGT_CTRL 4 v = s.when (bit v 0) State.mgtRestart := by
  rw [State.busWrite_mgt isRegister_mgtCtrl hv h]
  exact if_pos rfl

/-- Settles O53. -/
theorem managementCommandsComplete : Obligations.ManagementCommandsComplete := by
  unfold Obligations.ManagementCommandsComplete
  refine ⟨fun s hruns => congrArg Host.Outcome.next (if_pos hruns), fun s hruns => congrArg Host.Outcome.next (if_pos hruns),
    fun s m hadm => ?restart, fun s store dropped other hreset hreached hstate => ?boot, fun s k reading hk hreading => ?silent,
    fun s k reading v hk hreading => ?sensor, fun s k hlive hvalid hlow hhigh => ?rise, fun s k hclear halarm => ?fall,
    fun s error r l hlog hruns htime herror => ?flush⟩
  case restart =>
    rw [exec_mgtCtrlRestart, execMgtCtrlRestart, State.busWrite_mgtCtrl (by decide) hadm]
    rfl
  case boot =>
    have hgo : ¬(s.top.inReset = true ∨ (!bit s.top.reached 1) = true ∨ (s.rd MGT_STATUS_STATE ≠ 0 ∧ s.rd MGT_STATUS_STATE ≠ 3)) := by
      rw [hreset, hreached]
      rintro (h | h | ⟨h0, h3⟩)
      · exact Bool.false_ne_true h
      · exact Bool.false_ne_true h
      · exact hstate.elim h0 h3
    rw [exec_boot, execBoot, if_neg hgo]
    cases hslot : s.bootSlot with
    | none => exact .inr ⟨rfl, rfl⟩
    | some slot => exact .inl ⟨rfl, Option.some_ne_none slot⟩
  case silent =>
    refine ⟨_, rfl, ?_⟩
    simp only [exec_sensorUpdate, execSensorUpdate, State.when, beq_eq_false_iff_ne.mpr hk, hreading, Option.isSome_none, Bool.and_false,
      Bool.false_eq_true, if_false]
  case sensor =>
    refine ⟨_, _, rfl, rfl, ?_⟩
    simp only [exec_sensorUpdate, execSensorUpdate, State.when, beq_eq_false_iff_ne.mpr hk, hk, hreading, Option.isSome_some, Bool.and_true,
      Bool.false_eq_true, if_false]
  case rise =>
    simp only [exec_alarmRaise, execAlarmRaise, hlive, hvalid, Nat.not_le.mpr hlow, hhigh, Bool.not_true, Bool.false_eq_true, if_false, if_true]
  case fall => rw [exec_alarmClear, execAlarmClear, if_pos ⟨hclear, halarm⟩]
  case flush =>
    simp only [exec_logFlush, execLogFlush, hlog, hruns, herror, decide_eq_false (Nat.not_lt.mpr htime), Bool.not_true, Bool.or_self,
      Bool.false_eq_true, if_false]

end Sys2Proof.Machine
end
section
/-! SUPPORT. The command frames of the management controller and the steps of an update (chapter 15). -/

namespace Sys2Proof.Machine

/-- A command frame that the controller takes and allows while no image is being verified (R585). -/
structure State.Serves (s : State) (c : Nat) (w : List Nat) (mac code : Nat) : Prop where
  command : s.command = some (c, w, mac)
  runs : s.mgtRuns = true
  replies : s.replyOpen c = true
  named : w.getD 0 0 % 256 = code
  notVerifying : (s.takeCommand c).rd UPD_STATUS_STATE ≠ 2
  allowed : (s.takeCommand c).allowed c code = true

section
variable {s : State} {c mac code : Nat} {w : List Nat}

/-- Such a frame replies what its service gives. -/
theorem State.serve_of_run {other : Bool} {run : Nat → List Nat → State → State × Nat × List Nat} {t : State} {status : Nat}
    {results : List Nat} (h : s.Serves c w mac code) (hrun : run c w (s.takeCommand c) = (t, status, results)) :
    s.serve code other run = t.reply c mac code (w.getD 1 0) status results := by
  rw [s.serve_of other run h.command h.runs h.replies h.named h.notVerifying h.allowed, hrun]

/-- A write of the OTP in which every bit takes is logged and done. -/
theorem State.otpDone_taken {u : State} {a : Nat} {bits stuck : List Nat} (h : (u.blow bits stuck).2 = true) :
    u.otpDone code a bits stuck = ((u.blow bits stuck).1.logOtp code a, stDone, []) := by
  simp only [State.otpDone, h, if_true]

theorem isRegister_updConfirm : isRegister UPD_CONFIRM .upd [] = true := by decide +kernel

theorem State.busWrite_updConfirm {m v : Nat} (hv : v < 2 ^ 32) (h : s.Admits m true UPD_CONFIRM) :
    s.busWrite m UPD_CONFIRM 4 v = s.confirmKey m v := by
  rw [State.busWrite_upd isRegister_updConfirm hv h]
  exact if_pos rfl

end

/-- Settles O54: a frame that is served replies what its service gives, and each service here takes its first branch. -/
theorem managementReadCommandsComplete : Obligations.ManagementReadCommandsComplete := by
  unfold Obligations.ManagementReadCommandsComplete
  refine ⟨fun s c w mac hc hr ho hcode hst hal hargs => ?sensors, fun s c w mac hc hr ho hcode hst hal hargs => ?thresh,
    fun s c w mac hc hr ho hcode hst hal hargs => ?log, fun s c w mac x hc hr ho hcode hst hal hx hlen => ?store,
    fun s c w mac bytes fail hc hr ho hcode hst hal hfail hn hlen hsum hgood => ?load,
    fun s c w mac hc hr ho hcode hst hal hargs => ?otp,
    fun s c w mac bytes fail stuck l b hc hr ho hcode hst hal hl hb hb3 hfail hgood hblank htaken => ?bank,
    fun s c w mac stuck l hc hr ho hcode hst hal hl htail hpolicy hblank htaken => ?board,
    fun s c w mac stuck k hc hr ho hcode hst hal hk hrange hfree htaken => ?install,
    fun s c w mac stuck k hc hr ho hcode hst hal hk hrange hrunning hlive htaken => ?revoke,
    fun s c w mac hc hr ho hcode hst hal => ?ping⟩ <;> have hserves := State.Serves.mk hc hr ho hcode hst hal
  case sensors => exact congrArg Host.Outcome.next (State.serve_of_run hserves (if_neg (by omega)))
  case thresh => exact congrArg Host.Outcome.next (State.serve_of_run hserves (if_neg (by omega)))
  case log => exact congrArg Host.Outcome.next (State.serve_of_run hserves (if_neg (by omega)))
  case store =>
    refine congrArg Host.Outcome.next (State.serve_of_run hserves ?_)
    simp only [State.cmdStoreRead, hx, Nat.not_le.mpr hlen, if_false]
  case load =>
    refine congrArg Host.Outcome.next (State.serve_of_run hserves ?_)
    simp only [State.cmdStoreLoad, Nat.not_lt.mpr hn, hfail, hlen, hsum, hgood, Bool.false_eq_true, if_false, and_self, if_true]
  case otp => exact congrArg Host.Outcome.next (State.serve_of_run hserves (if_neg (by omega)))
  case bank =>
    refine congrArg Host.Outcome.next (State.serve_of_run hserves ?_)
    simp only [State.cmdOtpBankWrite, ← hl, hb, Nat.not_lt.mpr hb3, hfail, hgood, hblank, Bool.not_true, Bool.false_eq_true, if_false]
    exact State.otpDone_taken htaken
  case board =>
    have hok : ¬((l.drop 13).any (· != 0) = true ∨ l.getD 12 0 &&& 0xE1 ≠ 0) := by
      rw [htail, hpolicy]
      simp
    refine congrArg Host.Outcome.next (State.serve_of_run hserves ?_)
    simp only [State.cmdOtpBoardWrite, ← hl, if_neg hok, hblank, Bool.false_and, Bool.false_eq_true, if_false]
    exact State.otpDone_taken htaken
  case install =>
    refine congrArg Host.Outcome.next (State.serve_of_run hserves ?_)
    simp only [State.cmdKeyInstall, hk, if_neg (show ¬(k = 0 ∨ 3 < k) by omega), hfree, Bool.false_eq_true, if_false]
    exact State.otpDone_taken htaken
  case revoke =>
    have hok : ¬(3 < k ∨ k = (s.takeCommand c).rd UPD_KEYS_RUNNING ∨ ((rangeFrom 0 4).filter fun i =>
        bit ((s.takeCommand c).otpByte 0xC0) i && !bit ((s.takeCommand c).otpByte 0xC0) (4 + i)) = [k]) := by
      rintro (h | h | h)
      · omega
      · exact hrunning h
      · exact hlive h
    refine congrArg Host.Outcome.next (State.serve_of_run hserves ?_)
    simp only [State.cmdKeyRevoke, hk, if_neg hok]
    exact State.otpDone_taken htaken
  case ping => exact congrArg Host.Outcome.next (State.serve_of_run hserves rfl)

/-- Settles O55. -/
theorem updateCommandsComplete : Obligations.UpdateCommandsComplete := by
  unfold Obligations.UpdateCommandsComplete
  refine ⟨fun s c w mac hc hr ho hcode hst hal hstate hlen => ?begin, fun s c w mac bytes fail hc hr ho hcode hst hal hstate hin hn hfail => ?chunk,
    fun s c mac w hc hr hcode hstate hal => ?verify, fun s c q mac hv hr ho hreason => ?done,
    fun s c w mac hc hr ho hcode hst hal hstate hwas => ?activate, fun s c w mac hc hr ho hcode hst hal hstate => ?abort,
    fun s c w mac hc hr ho hcode hst hal hstate hhealth => ?confirm, fun s m key hadm hm hkey hstate => ?key,
    fun s t hhealthy hstate hauto hdue => ?auto, fun s hstate hdue => congrArg Host.Outcome.next (if_pos ⟨hstate, hdue⟩)⟩
  case begin =>
    refine ⟨_, rfl, congrArg Host.Outcome.next (State.serve_of_run ⟨hc, hr, ho, hcode, hst, hal⟩ ?_)⟩
    simp only [State.cmdUpdBegin]
    rw [if_neg (by omega), if_neg (Nat.not_lt.mpr hlen)]
  case chunk =>
    refine congrArg Host.Outcome.next (State.serve_of_run ⟨hc, hr, ho, hcode, hst, hal⟩ ?_)
    simp only [State.cmdUpdChunk, hstate, ne_eq, not_true_eq_false, Nat.not_lt.mpr hin, Nat.not_lt.mpr hn, hfail, or_self, Bool.false_eq_true,
      if_false]
  case verify =>
    simp only [exec_updVerify, execUpdVerify, hc, hr, hcode, hstate, hal, beq_self_eq_true, Bool.and_self, if_true]
  case done =>
    refine ⟨_, _, rfl, rfl, ?_⟩
    simp only [exec_verifyDone, execVerifyDone, hv, hr, ho, Bool.not_true, Bool.or_self, Bool.false_eq_true, if_false, hreason]
  case activate =>
    refine ⟨_, _, rfl, rfl, _, rfl, ?_⟩
    rw [exec_updActivate, execUpdActivate, State.serve_of _ _ _ hc hr ho hcode hst hal]
    simp only [hstate, hwas, ne_eq, not_true_eq_false, if_false, true_and]
  case abort =>
    exact congrArg Host.Outcome.next (State.serve_of_run ⟨hc, hr, ho, hcode, hst, hal⟩ (if_pos hstate))
  case confirm =>
    refine congrArg Host.Outcome.next (State.serve_of_run ⟨hc, hr, ho, hcode, hst, hal⟩ ?_)
    simp only [State.cmdUpdConfirm, hstate, hhealth, ne_eq, not_true_eq_false, Bool.not_true, Bool.false_eq_true, if_false]
  case key =>
    rw [exec_updConfirmKey, execUpdConfirmKey, State.busWrite_updConfirm (by omega) hadm, State.confirmKey, if_pos ⟨hm, by omega, hstate⟩]
  case auto =>
    simp only [exec_autoConfirm, execAutoConfirm, hhealthy, hstate, hauto, hdue, and_self, if_true]

end Sys2Proof.Machine
end
section
/-! SUPPORT. The control bus, the PCIe link, the PPS pins and the debug port (chapters 15 to 17). -/

namespace Sys2Proof.Machine

/-- The widths that a link can come up in. -/
theorem contains_width {n : Nat} (h : n = 1 ∨ n = 2 ∨ n = 4 ∨ n = 8) : [1, 2, 4, 8].contains n = true := by
  simpa using h

/-- Settles O57. -/
theorem controlBusPcieAndTimingPinCommandsComplete : Obligations.ControlBusPcieAndTimingPinCommandsComplete := by
  unfold Obligations.ControlBusPcieAndTimingPinCommandsComplete
  refine ⟨fun s bytes hen hlen => ?runt, fun s bytes hen hlen hcrc hdest hroom => ?frame, fun s f l htx hen hback => ?transmit,
    fun s late htx hen hback hlate => ?collision, fun s t ht hle => ?backoff, fun s => exec_perst s,
    fun s speed width hready hnot hspeed hwidth => ?ready, fun s hup => congrArg Host.Outcome.next (if_pos hup),
    fun s f hf => congrArg Host.Outcome.next (if_pos hf), fun s f hf => congrArg Host.Outcome.next (if_pos hf),
    fun s f hf => congrArg Host.Outcome.next (if_pos hf), fun s hreset huse hfrac hout => ?ppsOut, fun s hdiff hbad => ?ppsBad,
    fun s hfirst => ?ppsFirst, fun s hfirst hquiet => ?ppsQuiet, fun s k left right v hslave htime hv hqual hdir => ?input,
    fun s k left right v hslave htime hv hqual hclean => ?clean, fun s k => exec_inputFrameComplete s k⟩
  case runt =>
    simp only [exec_cbsFrameReceived, execCbsFrameReceived, hen, Bool.not_true, Bool.false_eq_true, if_false, if_pos hlen, State.cbsCount]
  case frame =>
    refine ⟨_, rfl, fun htype hcmd => ?_⟩
    rw [exec_cbsFrameReceived, execCbsFrameReceived]
    simp only [hen, hlen, hcrc, hdest, htype, hcmd, Nat.not_le.mpr hroom, Bool.not_true, Bool.false_eq_true, ne_eq, not_true_eq_false, false_and,
      or_self, if_false, Nat.reduceLT, Nat.reduceSub]
  case transmit => simp only [exec_cbsTransmit, execCbsTransmit, htx, hen, hback, Option.isNone_none, Bool.and_self, if_true]
  case collision =>
    simp only [exec_collision, execCollision, List.isEmpty_eq_false_iff.mpr htx, hen, hback, hlate, Option.isSome_none, Bool.not_true,
      Bool.or_self, Bool.false_eq_true, if_false, if_true, State.cbsCount]
  case backoff => simp only [exec_backoffExpiry, execBackoffExpiry, ht, hle, if_true]
  case ready =>
    simp only [exec_endpointReady, execEndpointReady, hready, hnot, bne_iff_ne.mpr hspeed, contains_width hwidth, Bool.not_false, Bool.and_self,
      if_true]
  case ppsOut =>
    simp only [exec_ppsOutEdge, execPpsOutEdge, hreset, huse, hout, decide_eq_false (Int.not_lt.mpr hfrac), Bool.not_true, Bool.false_eq_true,
      or_self, if_false]
  case ppsBad =>
    have hd : (decide (1000 < s.ppsDiff) || decide (s.ppsDiff < -1000)) = true := by simpa using hdiff
    simp only [exec_ppsInEdge, execPpsInEdge, hd, hbad, Bool.not_false, Bool.and_self, Bool.true_or, if_true]
  case ppsFirst => simp only [exec_ppsInEdge, execPpsInEdge, hfirst, Bool.or_true, if_true]
  case ppsQuiet =>
    have hd : ((decide (1000 < s.ppsDiff) || decide (s.ppsDiff < -1000)) && !s.pin.ppsBad) = false := by
      rcases hquiet with h | h
      · rw [decide_eq_false (Int.not_lt.mpr h.2), decide_eq_false (Int.not_lt.mpr h.1), Bool.or_self, Bool.false_and]
      · rw [h, Bool.not_true, Bool.and_false]
    simp only [exec_ppsInEdge, execPpsInEdge, hd, hfirst, Bool.or_self, Bool.false_eq_true, if_false]
  case input =>
    simp only [exec_i2sFrameReceived, execI2sFrameReceived, hslave, htime, ← hv, hqual, hdir, Bool.not_true, Bool.or_self, Bool.false_eq_true,
      if_false]
  case clean =>
    simp only [exec_i2sFrameReceived, execI2sFrameReceived, hslave, htime, ← hv, hqual, hclean, Bool.not_true, Bool.not_false, Bool.or_self,
      Bool.false_eq_true, if_false, if_true]

/-- An access starts where the port is not locked and no access is under way (R676). -/
theorem State.dbgStart_idle {s : State} (write : Bool) (a d : Nat) (hlock : s.dbgLock = false) (hbusy : s.jtag.busy = none) :
    s.dbgStart write a d = { s with jtag := { s.jtag with ir := 0x20, dr := 0, busy := some (write, a, d) } } := by
  have hopen : ¬(s.jtagIr 0x20).dbgLock = true := by
    change ¬s.dbgLock = true
    rw [hlock]
    exact Bool.false_ne_true
  have hfree : ¬(s.jtagIr 0x20).jtag.busy.isSome = true := by
    change ¬s.jtag.busy.isSome = true
    rw [hbusy]
    exact Bool.false_ne_true
  exact (if_neg hopen).trans (if_neg hfree)

/-- Settles O58. -/
theorem debugPortCommandsComplete : Obligations.DebugPortCommandsComplete := by
  unfold Obligations.DebugPortCommandsComplete
  refine ⟨exec_testLogicReset, fun s levels cells => exec_extest s levels cells, exec_idcode,
    fun s levels cells => exec_samplePreload s levels cells, exec_clamp, exec_highz, exec_bypass, fun s hlock hreset => ?devreset,
    fun s k hlock hbusy => ?read, fun s k v hlock hbusy => ?write, fun s hlock hbusy hignored => ?capture, fun s a d hbusy hreset => ?inReset,
    fun s wr a d u hbusy hopen hstalls hrun => ?done⟩
  case devreset => exact congrArg Host.Outcome.next (if_neg (by simp [hlock, hreset]))
  case read => rw [exec_dbgaccRead, execDbgaccRead, State.dbgStart_idle _ _ _ hlock hbusy]
  case write => rw [exec_dbgaccWrite, execDbgaccWrite, State.dbgStart_idle _ _ _ hlock hbusy]
  case capture =>
    simp only [exec_dbgaccCapture, execDbgaccCapture, hlock, hbusy, hignored, Option.isSome_none, Bool.or_self, Bool.false_eq_true, if_false]
  case inReset =>
    have hclosed : s.busOpen 21 = false := by rw [State.busOpen, hreset, Bool.not_true, Bool.false_and]
    simp only [exec_dbgaccDone, execDbgaccDone, hbusy, hclosed, Bool.false_and, Bool.not_false, Bool.false_eq_true, if_false, if_true]
  case done =>
    simp only [exec_dbgaccDone, execDbgaccDone, hbusy, hopen, hstalls, hrun, Bool.and_false, Bool.not_true, Bool.or_false, Bool.false_eq_true,
      if_false]

end Sys2Proof.Machine
end
